-- ==== Sys2Proof/Word.lean ====
section
/-!
DEFINITION. The word types of the block and their plainest arithmetic: registers are 32 bits wide (00 R10), bytes 8,
device time 64 (18 R531); a field is a bit range of a word (00 R4); fixed-point values are integers (00 R7).
-/

namespace Sys2Proof

/-- A register's content: 32 bits (00 R10). -/
abbrev Word := BitVec 32

/-- One byte. -/
abbrev Byte := BitVec 8

/-- A bit field of a word: its lowest bit and its width (00 R4). -/
structure Fld where
  lo : Nat
  width : Nat
  deriving DecidableEq, Repr

/-- One register of a block: its offset in the block, the strides and counts of its indices, its reset value, and the
bits that are RW, RW-S, W1C and WO (00 R11). Bits in no mask are RO, RO-H or reserved. -/
structure RegDesc where
  off : Nat
  strides : List (Nat × Nat)
  reset : Nat
  rw : Nat
  rws : Nat
  w1c : Nat
  wo : Nat
  deriving DecidableEq, Repr

/-- The value of a field in a word, as a number. -/
def Word.get (w : Word) (f : Fld) : Nat := (w.toNat / 2 ^ f.lo) % 2 ^ f.width

/-- A word with one field replaced; higher bits of the new value are dropped. -/
def Word.put (w : Word) (f : Fld) (v : Nat) : Word :=
  BitVec.ofNat 32 (w.toNat - w.get f * 2 ^ f.lo + (v % 2 ^ f.width) * 2 ^ f.lo)

/-- Two's complement reading of the low `n` bits of a number (00 R6). -/
def toSigned (n v : Nat) : Int :=
  let u := v % 2 ^ n
  if u < 2 ^ (n - 1) then (u : Int) else (u : Int) - 2 ^ n

/-- The low `n` bits of an integer, as a number. -/
def ofSigned (n : Nat) (v : Int) : Nat := (v % (2 ^ n : Int)).toNat

/-- An integer held between two limits. -/
def clampInt (lo hi v : Int) : Int := if v < lo then lo else if hi < v then hi else v

/-- A count that stops at its limit instead of wrapping. -/
def satAdd (limit a b : Nat) : Nat := min limit (a + b)

/-- Division rounded to nearest, halves away from zero; 0 for a divisor of 0. -/
def divRound (a b : Int) : Int :=
  if b = 0 then 0
  else if (0 ≤ a) = (0 ≤ b) then (2 * a.natAbs + b.natAbs) / (2 * b.natAbs)
  else -((2 * a.natAbs + b.natAbs) / (2 * b.natAbs) : Int)

/-- The little-endian bytes of a number (00 R5). -/
def bytesLE : Nat → Nat → List Byte
  | 0, _ => []
  | n + 1, v => BitVec.ofNat 8 v :: bytesLE n (v / 256)

/-- The number that little-endian bytes spell (00 R5). -/
def ofBytesLE : List Byte → Nat
  | [] => 0
  | b :: bs => b.toNat + 256 * ofBytesLE bs

end Sys2Proof
end

