-- ==== Sys2Proof/Syntax.lean ====
section
/-!
DEFINITION. The commands of the block: one constructor per row of spec/opcode_table.json, with the operands that the
environment supplies: which unit, what was written, what arrived, and where the arbiter's choice shows in the outcome,
which side lost. A unit number's type is its range (01 R15, R37).
-/

namespace Sys2Proof

/-- Who makes a register access: a frond, the DMA engine, the host through its control window, or the root (scripts,
the spore and the device's own islands). -/
inductive Requester where
  | frond (f : Fin 64)
  | dma
  | host
  | root
  deriving DecidableEq, Repr


/-- Whose script engine a command concerns (02, SCRIPT): an imaging port, a thermal port or a lamp chain. -/
inductive ScriptTarget where
  | img (n : Fin 10)
  | tp (n : Fin 4)
  | lamp (n : Fin 4)
  deriving DecidableEq, Repr

/-- One row of a bolometer's read-out on one lane (07 R226): the word that begins it, its header, its words. -/
structure FpaLane where
  sync : BitVec 16
  hdr : BitVec 16
  words : List (BitVec 16)
  deriving DecidableEq, Repr

/-- What a lane of an imaging port receives to gain or keep block lock (04 R123): a valid sync header or code group, an
aligned K28.5 comma, an invalid one. -/
inductive CodeUnit where
  | good
  | comma
  | bad
  deriving DecidableEq, Repr

/-- A stage of lane bring-up (04 R122): a lane gains CDR lock, has adapted, receives what block lock is gained by; the
lanes are deskewed. -/
inductive LaneStage where
  | cdrLock (lane : Fin 8)
  | adapted (lane : Fin 8)
  | units (lane : Fin 8) (l : List CodeUnit)
  | deskewed
  deriving DecidableEq, Repr

/-- A stage of bring-up of an imaging port (04 R122). -/
structure PortStage where
  port : Fin 10
  stage : LaneStage
  deriving DecidableEq, Repr

/-- An edge of an encoder's inputs (03 R91): how many ns the new levels have been held, and its instant in half ns. -/
structure HeldEdge where
  held : Nat
  t2 : Nat
  deriving DecidableEq, Repr

/-- What a command meets in the same cycle: `lost` counts a loser in the race counter that its rule names (18 R525);
`meets` is a second meeting, which the command's meaning names. -/
structure Meeting where
  lost : Bool := false
  meets : Bool := false
  deriving DecidableEq, Repr

/-- What a commit of a correction set meets in the same cycle (05 R165): nothing, a completing shading load that won,
or one that lost. -/
inductive LoadMeet where
  | alone
  | lost
  | beats
  deriving DecidableEq, Repr

/-- What a MAINT request meets in the same cycle (01 R32): nothing that loses to it, or a frond's or the host's request to
start a run. -/
inductive StartMeet where
  | alone
  | frond
  | host
  deriving DecidableEq, Repr

/-- One decoded symbol of a lane (04 R126): a data byte, a K code group, an idle code group or part of a control block. -/
inductive LaneSym where
  | data (b : Byte)
  | k (b : Byte)
  | idle
  deriving DecidableEq, Repr

/-- What the code of a memory word says when it is read (13 R412, R416): sound, corrected, or uncorrectable. -/
inductive Ecc where
  | sound
  | corrected
  | bad
  deriving DecidableEq, Repr

/-- What a port's pipeline reads back from its SRAM: what the code says of the words, and where in the unit the first
wrong one lies (13 R412, R417). -/
structure RamRead where
  ecc : Ecc := .sound
  off : BitVec 23 := 0
  deriving DecidableEq, Repr

/-- What the codes say of the words of a span read: of all but one they say nothing; that one lies `off` bytes into it
(13 R412, R416, R417). -/
structure SpanRead where
  ecc : Ecc := .sound
  off : Nat := 0
  deriving DecidableEq, Repr

/-- A thermal port, with what its read of DRAM meets. -/
structure PortRead where
  port : Fin 4
  read : SpanRead := {}
  deriving DecidableEq, Repr

/-- Rows of coefficients that arrive, with what the read of them meets. -/
structure CoefRows where
  rows : Fin 33
  read : SpanRead := {}
  deriving DecidableEq, Repr

/-- A stream whose stage copies a record, with what the read of it meets. -/
structure StageRead where
  stream : Fin 16
  read : SpanRead := {}
  deriving DecidableEq, Repr

/-- What the sealer's read of a chunk meets: the code's word, and the DRAM address of the word in error. -/
structure SealRead where
  ecc : Ecc := .sound
  addr : BitVec 37 := 0
  deriving DecidableEq, Repr

/-- What a row of a thermal port meets: a full output FIFO, or an error in the port's SRAM (01 R24, 13 R417). -/
structure RowMeets where
  full : Bool := false
  ram : RamRead := {}
  deriving DecidableEq, Repr

/-- How fuses burn (16 R490, R491): they read back, they do not, or power is lost meanwhile. -/
inductive FuseBurn where
  | burnt
  | failed
  | cut
  deriving DecidableEq, Repr

/-- A chunk of a large SPDM request (16 R485), with what an owner's command in it meets: how its fuses burn (R491),
whether an UNLOCK meets and beats the end of a seal (R502). -/
structure LargeChunk where
  bytes : List Byte
  fuses : FuseBurn := .burnt
  lost : Bool := false
  deriving DecidableEq, Repr

/-- A read of registers: the address and the number of bytes. Only the host reads other than whole words (15 R461). -/
structure ReadSpan where
  addr : Fin 562949953421312
  len : Nat := 4
  deriving DecidableEq, Repr

/-- What befalls a start while the device is in BOOT (01 R27, R28): a warm recovery cause by its code in SYS_CAUSE, or
thermal shutdown of an island at a temperature in 1/16 °C. -/
inductive BootCut where
  | warm (cause : Fin 5)
  | shutdown (island : Fin 96) (t : BitVec 16)
  deriving DecidableEq, Repr

/-- An event of BOOT with the step of 02 R69 that it follows. -/
structure BootEvent where
  step : Fin 9
  what : BootCut
  deriving DecidableEq, Repr

/-- What the start-up of the device meets on the board and in the silicon; POR_RELEASE brings it, and the block only
reads it (02 R44, R63, 13 R420, 19 R559). `badFlash` are flash addresses that answer with a read error, `failingRows`
how many rows fail the march, by unit; `badStaging` names for a slot the DRAM address where its staged image meets an
uncorrectable error (13 R417); `during` names for each of the next starts the event that cuts it short, if one does
(01 R28). -/
structure Bench where
  sfdp : Bool := true
  badFlash : List Nat := []
  dramTrains : Bool := true
  failingRows : List (Nat × Nat) := []
  badStaging : List (Nat × Nat) := []
  devid : Nat := 0
  process : Nat := 0
  during : List (Option BootEvent) := []
  deriving DecidableEq, Repr


/-- How a warm recovery cause meets another state event in the root's arbiter (01 R32): it stands alone, it loses to a
run stop, it loses to another warm recovery cause, or it wins against thermal shutdown or against the seal pointer's
advance (16 R500). -/
inductive Meet where
  | alone
  | afterStop
  | afterCause
  | beforeShutdown
  | beforeSeal
  deriving DecidableEq, Repr

/-- A PCIe configuration request, by what it touches: the capability structures' places are the PCI Express Base
Specification's (15 R456, R457, R459). `deviceControl` holds the exponents k of a max payload of 128 * 2^k bytes and of a
max read request of 128 * 2^k bytes; `other` is a write of a register without effect on the model. -/
inductive CfgAccess where
  | read (dword : Fin 1024)
  | command (memory busMaster : Bool)
  | msix (enable mask : Bool)
  | deviceControl (payload : Fin 4) (readRequest : Fin 6)
  | ptm (enable : Bool)
  | other (dword : Fin 1024) (v : BitVec 32)
  deriving DecidableEq, Repr

/-- A collision that an access of port B of the exchange RAM meets (13 R418, R419): the 64-bit word, and whether port B
receives busy. -/
structure Collision where
  word : Fin 32768
  busy : Bool
  deriving DecidableEq, Repr

/-- What an access of port B meets: a collision, and what the codes say of the words it reads (13 R416, R418, R419). -/
structure PortB where
  collision : Option Collision := none
  read : SpanRead := {}
  deriving DecidableEq, Repr

/-- What one POS flit carries (17 R513): a sample, with its time in half nanoseconds; the turning point that follows a
sample with TURN; a completed speed window. -/
inductive PosFlit where
  | sample (pos : BitVec 64) (t2 : BitVec 64) (dir back turn valid suspect : Bool)
  | turningPoint (e : BitVec 64)
  | speed (v : BitVec 32) (standstill reversal startup sat : Bool)
  deriving DecidableEq, Repr

/-- The header of a received flit (17 R508): the link it arrives on (0 for RUN_A), SEQ, ACK, DEST, SRC, HOPS left. -/
structure FlitHead where
  link : Fin 2
  seq : Fin 64
  ack : Fin 64
  dest : Fin 8
  src : Fin 8
  hops : Fin 16
  deriving DecidableEq, Repr

/-- A measurement of device time against a source (18 R534): `at_` is the device time of a TSYNC edge, or the time that a
TIME flit brings, and `lost` says that another measurement or timeout met it in the choice of the source (18 R524,
TIME_RACE). -/
structure TimeMark where
  at_ : BitVec 64
  lost : Bool := false
  deriving DecidableEq, Repr

/-- What a flit of a remote access's response belongs to (17 R515, R519): `former`, an access that has ended; `last`, it is
the last flit of its response; `lost`, the timeout of the access met it and lost. -/
structure RspFlit where
  former : Bool := false
  last : Bool := true
  lost : Bool := false
  deriving DecidableEq, Repr

/-- What an FWD flit carries (17 R517, R518): up to 24 bytes of records, or the receiver's answer: the bytes that now
stand in its spool, and the space it grants. -/
inductive FwdFlit where
  | data (bytes : List Byte)
  | ack (bytes space : Nat)
  deriving DecidableEq, Repr

/-- What a flit of each TYPE carries (17 R508, R506, R511 to R517). The data of a remote access goes 16 bytes to a
flit, in order (log entry 132). -/
inductive FlitBody where
  | idle
  | ring (serial : BitVec 64) (aUp bUp : Bool)
  | time (t : BitVec 64)
  | trig (channel : Fin 16) (due : BitVec 64)
  | pos (itf : Fin 8) (p : PosFlit)
  | rmtReq (write : Bool) (size : Fin 4) (offset : Fin 262144) (data : List Byte)
  | rmtRsp (result : Fin 16) (data : List Byte)
  | fwd (stream : Fin 16) (f : FwdFlit)
  deriving DecidableEq, Repr

/-- A flit as it stands on a link (17 R508): the fields of its header but for TYPE and LEN, and what it carries. -/
structure Flit where
  seq : Nat
  ack : Nat
  nak : Bool
  dest : Nat
  src : Nat
  hops : Nat
  body : FlitBody
  deriving DecidableEq, Repr

/-- The instructions of the boundary-scan TAP, and frond debug access through it (21 R608). -/
inductive TapInstr where
  | bypass
  | idcode
  | samplePreload
  | extest
  | clamp
  | highz
  | frondDebug
  deriving DecidableEq, Repr

/-- One command: a row of the table of operations and events. -/
inductive Instr where
  /-- Release of POR_N starts a cold start and runs the start-up sequence through BOOT. -/
  | porRelease (b : Bench)
  /-- POR_N held low for at least 10 µs resets the device into OFF. -/
  | porAssert
  /-- Removal of power from any rail takes the device to OFF, leaving persistent state to its commits. -/
  | powerLoss
  /-- A port's lanes finish CDR lock, adaptation, block lock and deskew. -/
  | laneBringupDone (p : PortStage)
  /-- With AUTORUN set, the first run starts AUTORUN_DELAY_MS after READY first rises. -/
  | autorunStart
  /-- After first entering RUN, the root blows anti-rollback fuse steps up to ARB. -/
  | arbFuseAdvance
  /-- Assertion of PERST_N is a warm recovery cause. -/
  | perstNAssert (meet : Meet)
  /-- Release of PERST_N lets the host link train and become ready within 500 ms. -/
  | perstNRelease
  /-- A function-level reset resets the PCIe function and is a warm recovery cause. -/
  | functionLevelReset (meet : Meet)
  /-- The ERASE mailbox command erases a range of the target slot. -/
  | mbxErase
  /-- The WRITE mailbox command programs the data buffer into the target slot. -/
  | mbxWrite
  /-- The VERIFY mailbox command runs checks 1 to 11 on the target slot. -/
  | mbxVerify
  /-- The ACTIVATE mailbox command commits the slot record to the verified target slot. -/
  | mbxActivate
  /-- The ABORT mailbox command stops a running ERASE, WRITE or VERIFY. -/
  | mbxAbort
  /-- The REBOOT mailbox command starts a warm start after an activation in SAFE. -/
  | mbxReboot
  /-- An undefined mailbox command code is refused with RESULT 0x22. -/
  | mbxCmdInvalid
  /-- A running erase completes and BUSY clears. -/
  | mbxEraseDone (ok : Bool)
  /-- A running program operation completes and BUSY clears. -/
  | mbxWriteDone (ok : Bool)
  /-- A running verification completes, setting VERIFIED on success. -/
  | mbxVerifyDone
  /-- The router delivers a pending occurrence to its routed destinations and clears the mark. -/
  | eventDelivery (src : Fin 1024) (lost : Bool)
  /-- A write of EVT_ACK clears HOST_PEND and reissues the vector if occurrences merged. -/
  | evtAck (src : Fin 1024) (lost : Bool)
  /-- A filtered quadrature edge counts and publishes a position sample. -/
  | quadCount (n : Fin 8) (a b z : Bool) (e : HeldEdge) (lost : Bool)
  /-- A filtered change of the Hall inputs counts along the cycle and publishes a sample. -/
  | hallStateChange (n uvw : Fin 8) (e : HeldEdge) (lost : Bool)
  /-- A SAR conversion of sine and cosine is corrected, interpolated and published as a sample. -/
  | sincosConversion (n : Fin 8) (sin cos phase : BitVec 16) (t2 : Nat) (lost : Bool)
  /-- 250 ns without a count publishes a heartbeat sample. -/
  | heartbeatSample (n : Fin 8) (lost : Bool)
  /-- A qualified rising Z edge latches the position word. -/
  | indexLatch (n : Fin 8) (t : Nat) (lost : Bool)
  /-- The end of a speed window computes SPEED and its flags. -/
  | speedWindowEnd (n : Fin 8) (lost : Bool)
  /-- The 1 µs compare GPIO pulse ends. -/
  | comparePulseEnd (m : Fin 16)
  /-- A synthesised pass-through output emits an owed edge at its limited rate. -/
  | ptSynthEdge (t : Fin 2)
  /-- COMMIT of ENC_n_CTRL commits the interface's shadow set. -/
  | encCommit (n : Fin 8) (lost : Bool)
  /-- COMMIT of CMP_m_CTRL commits the compare unit's shadow set. -/
  | cmpCommit (m : Fin 16) (lost : Bool)
  /-- COMMIT of PT_t_CTRL commits the pass-through configuration. -/
  | ptCommit (t : Fin 2) (lost : Bool)
  /-- A position sample reaches a consumer island and updates its trigger prediction. -/
  | posSampleArrival (c : Fin 14) (m : Meeting)
  /-- Loss of block lock sets LINK_LOST and repeats lane bring-up. -/
  | laneLockLoss (n : Fin 10) (lane : Fin 8) (units : List CodeUnit)
  /-- Receiver re-adaptation runs at the interval of the temperature band. -/
  | rxReadapt (n : Fin 10) (running : Bool)
  /-- A sensor line packet is received, unpacked and matched to an outstanding line. -/
  | linePacket (n : Fin 10) (lanes : List (List LaneSym)) (units : List (List CodeUnit)) (ram : RamRead) (lost : Bool)
  /-- A line not filled within DATA_TO is lost and accounted SENSOR_LINK. -/
  | lineDataTimeout (n : Fin 10) (lost : Bool)
  /-- Device time reaching h_fire fires the line trigger. -/
  | triggerFire (n : Fin 10) (lost meets : Bool)
  /-- The LINE_MIN interval since the last fired line elapses. -/
  | lineMinEnd (n : Fin 10) (lost : Bool)
  /-- The generator arms when both the run-start script and the shading load have ended. -/
  | generatorArm (n : Fin 10)
  /-- COMMIT of IMG_n_CTRL commits the capture shadows. -/
  | imgCommit (n : Fin 10) (lost : Bool)
  /-- RUN of IMG_n_SCRIPT starts the selected phase 0x04 script. -/
  | imgScriptRun (n : Fin 10)
  /-- The run-stop script starts after the run's last line is delivered or lost. -/
  | scriptPhaseRunStop (t : ScriptTarget)
  /-- A WRITE script operation writes DATA to ADDR. -/
  | scriptWrite (t : ScriptTarget)
  /-- A CHECK script operation reads ADDR and fails on mismatch. -/
  | scriptCheck (t : ScriptTarget)
  /-- A POLL script operation reads ADDR until it matches or times out. -/
  | scriptPoll (t : ScriptTarget)
  /-- A WAIT script operation waits DATA µs. -/
  | scriptWait (t : ScriptTarget)
  /-- The END operation completes a script. -/
  | scriptEnd (t : ScriptTarget)
  /-- A script's SPI, I²C or chain transfer completes. -/
  | scriptTransferDone (t : ScriptTarget) (got : List Byte) (ok : Bool)
  /-- The 100 µs POLL interval or 100 ms POLL limit expires. -/
  | scriptPollRetry (t : ScriptTarget) (limit : Bool)
  /-- The time of a WAIT operation elapses. -/
  | scriptWaitEnd (t : ScriptTarget)
  /-- LOAD of IMG_n_COR_CTRL loads LOAD_SET into the idle half. -/
  | shadingLoad (n : Fin 10)
  /-- A shading load completes and RESIDENT_VALID is set. -/
  | shadingLoadDone (n : Fin 10) (x : SpanRead) (lost : Bool)
  /-- A decided output line's record is complete in the port FIFO. -/
  | lineRecordComplete (n : Fin 10)
  /-- After all swath lines are filled or lost, pending outputs are decided and the SWATH record emitted. -/
  | swathEnd (n : Fin 10)
  /-- COMMIT of IMG_n_COR_CTRL commits the correction shadows. -/
  | imgCorCommit (n : Fin 10) (m : LoadMeet)
  /-- A lamp frame's shift ends and its readback is judged. -/
  | lampShiftEnd (n : Fin 4) (bits : Nat) (lost : Bool)
  /-- In continuous mode LCn_BLK asserts once every PERIOD, giving a hand-over boundary. -/
  | lampBlankPeriod (n : Fin 4)
  /-- An exposure window reaches the lamp island and strobe releases LCn_BLK. -/
  | exposureWindowArrival (p : Fin 10)
  /-- An exposure window ends, LCn_BLK asserts and the illumination verdict returns to the port. -/
  | exposureWindowEnd (p : Fin 10) (lost : Option (Fin 4))
  /-- A matrix row slot starts, switching row pins and latching the row frame. -/
  | matrixRowSlot (n : Fin 4)
  /-- COMMIT of LCn_CTRL commits the chain's levels and group settings. -/
  | lcCommit (n : Fin 4) (lost : Bool)
  /-- Drive words for every channel of the chain finish computing. -/
  | driveWordComputeDone (n : Fin 4)
  /-- A write of LCn_TEMP updates the derating temperature and may recompute drive words. -/
  | lcnTempWrite (n : Fin 4) (t : BitVec 16)
  /-- A precision temperature older than 1 s sets TEMP_STALE. -/
  | lampTempStale (n : Fin 4)
  /-- Writing 1 to FAULT relights the group at the next latch. -/
  | groupRestore (n : Fin 4) (g : Fin 8) (m : Meeting)
  /-- RUN of LCn_SCRIPT runs the selected chain script between drive frames. -/
  | lcScriptRun (n : Fin 4)
  /-- ENABLE first becoming 1 runs the chain bring-up script before drive frames. -/
  | lampChainEnable (n : Fin 4)
  /-- Writing ENABLE 1 starts the thermal port's power-up and bring-up sequence. -/
  | tpEnable (n : Fin 4)
  /-- Writing ENABLE 0 ends the frame in progress and powers the FPA down. -/
  | tpDisable (n : Fin 4)
  /-- EN_DELAY elapses and the port runs its bring-up script. -/
  | tpEnDelayEnd (n : Fin 4)
  /-- A frame start issues TPn_SYNC, latches references and takes committed sets. -/
  | frameBoundary (n : Fin 4) (lost : Bool)
  /-- NUC coefficients of a row arrive in the port SRAM. -/
  | coefRowsArrive (n : Fin 4) (k : CoefRows) (lost : Bool)
  /-- The resident line-mode coefficient fetch completes. -/
  | coefResidentFetchDone (x : PortRead)
  /-- A row of FPA read-out is received on the lanes and corrected. -/
  | fpaRow (n : Fin 4) (lanes : List FpaLane) (x : RowMeets) (lost : Bool)
  /-- A frame or line-mode sample completes its stages and its record is formed. -/
  | thermalSampleComplete (x : PortRead)
  /-- An FPA register slot write over I²C completes or fails. -/
  | fpaSlotWriteDone (n : Fin 4) (ok : Bool)
  /-- An add edit of TP_n_DEF_EDIT is queued for the defect table. -/
  | defEditAdd (n : Fin 4) (rule : Fin 8) (row col : Fin 2048) (lost : Bool)
  /-- A delete edit of TP_n_DEF_EDIT is queued for the defect table. -/
  | defEditDelete (n : Fin 4) (row col : Fin 2048) (lost : Bool)
  /-- COMMIT of TP_n_CTRL commits the port's shadow set. -/
  | tpCommit (n : Fin 4) (lost : Bool)
  /-- RUN of TP_n_SCRIPT starts the selected phase 0x04 I²C script. -/
  | tpScriptRun (n : Fin 4)
  /-- REQUEST of TP_n_SHUT_REQ makes a frond shutter request pending. -/
  | shutterRequest (n : Fin 4) (lost : Bool)
  /-- ABORT of TP_n_SHUT_REQ aborts the running shutter event at the next boundary. -/
  | shutterAbort (n : Fin 4)
  /-- The shutter post-pass writes the new plane, anchor and trailer. -/
  | shutterPostpassDone (n : Fin 4)
  /-- TRIGGER of M_k_CTRL is one conversion trigger for the measurement. -/
  | measTrigger (k : Fin 16) (lost : Bool)
  /-- URGENT of M_k_CTRL moves the measurement's trigger to the queue head. -/
  | measUrgent (k : Fin 16) (lost : Bool)
  /-- COMMIT of M_k_CTRL commits the measurement's shadow set. -/
  | measCommit (k : Fin 16) (lost : Bool)
  /-- CAL_START begins self-calibration of the selected gains on both modulators. -/
  | calStart
  /-- Calibration of one gain completes and its factors are kept or refused. -/
  | calGainDone (ofs0 : Int) (gain0 : Nat) (ofs1 : Int) (gain1 : Nat)
  /-- A measurement trigger's DELAY elapses and the trigger is queued. -/
  | triggerDelayEnd (k : Fin 16)
  /-- A queued conversion starts once its modulator and excitation pin are free. -/
  | conversionStart (m : Fin 2) (lost : Bool)
  /-- Excitation settling elapses and the filter resets. -/
  | excSettleEnd (m : Fin 2)
  /-- A modulator produces a sample, which is corrected and averaged or suppressed. -/
  | modulatorSample (m : Fin 2) (code : Fin 16777216) (low high : Int) (t : Nat)
  /-- A measurement result is published with its value, flags, time and sequence. -/
  | resultPublish (k : Fin 16) (lost : Bool)
  /-- IMP_INTERVAL elapses and an impedance test is queued. -/
  | impTestDue (k : Fin 16)
  /-- An impedance test completes and updates IMPED and HIGH_Z. -/
  | impTestDone (m : Fin 2) (ohms : Nat)
  /-- A modulator's reference settles and REF_READY rises. -/
  | refSettled (m : Fin 2)
  /-- The 1 ms loop tick computes the setpoint and checks source and loop faults. -/
  | loopTick (n : Fin 2) (t readback : Nat) (atLimit lost : Bool)
  /-- COMMIT of LOOP_n_CTRL commits the loop's shadow set. -/
  | loopCommit (n : Fin 2) (lost : Bool)
  /-- A write of LOOP_n_VALUE sets and refreshes the loop's frond source. -/
  | loopValueWrite (n : Fin 2) (v : Word) (lost : Bool)
  /-- Every 10 µs axes take commits and commands, compute positions and send phase frames. -/
  | updateTick (pins : BitVec 32) (late : BitVec 8)
  /-- The MOVE command plans a move to TARGET. -/
  | axisMove (n : Fin 8) (lost : Bool)
  /-- The TABLE command runs the segment table. -/
  | axisTable (n : Fin 8) (lost : Bool)
  /-- The HOME command starts a homing search. -/
  | axisHome (n : Fin 8) (lost : Bool)
  /-- The STOP command brakes under DMAX and keeps the remaining distance. -/
  | axisStop (n : Fin 8) (lost : Bool)
  /-- The QUICKSTOP command brakes under LIMIT_DECEL and keeps the remaining distance. -/
  | axisQuickstop (n : Fin 8) (lost : Bool)
  /-- The ABORT command brakes to rest and discards the remaining distance. -/
  | axisAbort (n : Fin 8) (lost : Bool)
  /-- The RESUME command replans to the kept target or performs the run-up. -/
  | axisResume (n : Fin 8) (lost : Bool)
  /-- An undefined axis command code is refused with CMD_REFUSED. -/
  | axisCmdInvalid (n : Fin 8)
  /-- COMMIT of AXIS_n_CTRL commits the axis's shadow set. -/
  | axisCommit (n : Fin 8) (lost : Bool)
  /-- PHp_FLT low for 1 µs is a power fault of both axes of the port. -/
  | phaseFault (p : Fin 4) (low lost : Bool)
  /-- START of FRD_n_CTRL starts the frond at ENTRY. -/
  | frdStart (f : Fin 64)
  /-- HALT of FRD_n_CTRL halts the frond after the bundle in progress. -/
  | frdHalt (f : Fin 64) (lost : Bool)
  /-- A write of FRD_n_KICK reloads the frond watchdog. -/
  | frdKick (f : Fin 64) (lost : Bool)
  /-- A write of FRD_n_WDOG reloads, starts or stops the frond watchdog. -/
  | frdWdogWrite (f : Fin 64) (us : Fin 16777216)
  /-- The frond watchdog reaching 0 gives a WATCHDOG fault. -/
  | frondWdogExpiry (f : Fin 64) (lost : Bool) (meet : Meet)
  /-- A write of FRD_n_EVT_RAISE sets an event line pending. -/
  | frdEvtRaise (f line : Fin 64) (lost : Bool)
  /-- A write of FRD_n_SWEVT raises the frond's event source. -/
  | frdSwevt (f : Fin 64)
  /-- A waiting frond resumes after a masked line becomes pending. -/
  | waitWake (f : Fin 64)
  /-- A frond load or atomic outside local memory returns its data. -/
  | loadReturn (f : Fin 64) (i : Fin 48) (e : Ecc) (lost : Bool) (m : Meet)
  /-- A frond store is accepted by its destination. -/
  | storeAccept (f : Fin 64) (i : Fin 48) (lost : Bool)
  /-- A refused register write or posted-store bus error is reported to the frond. -/
  | accessFault (f : Fin 64)
  /-- A write of Qk_RELEASE frees stage ring space. -/
  | stageRelease (f : Fin 64) (k : Fin 8) (addr : BitVec 48)
  /-- The device finishes copying a stage output record into the spool intake. -/
  | stageCopyDone (x : StageRead)
  /-- One second after run stop the staged stream seals its last chunk. -/
  | stageDrainTimeout (n : Fin 16)
  /-- COMMIT of TUFT_t_CTRL switches the tuft's operating point or park state. -/
  | tuftCommit (t : Fin 8) (lost : Bool)
  /-- The tuft's DCO relocks at the new point and issue resumes. -/
  | tuftSwitchDone (t : Fin 8)
  /-- A tuft wakes 4 µs after the boundary that cleared PARK. -/
  | tuftWake (t : Fin 8)
  /-- The NOP instruction does nothing. -/
  | nop (f : Fin 64) (fe de : Ecc) (lost : Bool) (m : Meet)
  /-- ADD writes RA + RB. -/
  | add (f : Fin 64) (fe de : Ecc) (lost : Bool) (m : Meet)
  /-- SUB writes RA − RB. -/
  | sub (f : Fin 64) (fe de : Ecc) (lost : Bool) (m : Meet)
  /-- AND writes RA AND RB. -/
  | and (f : Fin 64) (fe de : Ecc) (lost : Bool) (m : Meet)
  /-- OR writes RA OR RB. -/
  | or (f : Fin 64) (fe de : Ecc) (lost : Bool) (m : Meet)
  /-- XOR writes RA XOR RB. -/
  | xor (f : Fin 64) (fe de : Ecc) (lost : Bool) (m : Meet)
  /-- SLL shifts RA left by RB. -/
  | sll (f : Fin 64) (fe de : Ecc) (lost : Bool) (m : Meet)
  /-- SRL shifts RA right with zero fill. -/
  | srl (f : Fin 64) (fe de : Ecc) (lost : Bool) (m : Meet)
  /-- SRA shifts RA right with sign fill. -/
  | sra (f : Fin 64) (fe de : Ecc) (lost : Bool) (m : Meet)
  /-- MUL writes the low 32 bits of the product. -/
  | mul (f : Fin 64) (fe de : Ecc) (lost : Bool) (m : Meet)
  /-- MULHS writes the high half of the signed product. -/
  | mulhs (f : Fin 64) (fe de : Ecc) (lost : Bool) (m : Meet)
  /-- MULHU writes the high half of the unsigned product. -/
  | mulhu (f : Fin 64) (fe de : Ecc) (lost : Bool) (m : Meet)
  /-- MIN writes the signed minimum. -/
  | min (f : Fin 64) (fe de : Ecc) (lost : Bool) (m : Meet)
  /-- MAX writes the signed maximum. -/
  | max (f : Fin 64) (fe de : Ecc) (lost : Bool) (m : Meet)
  /-- MINU writes the unsigned minimum. -/
  | minu (f : Fin 64) (fe de : Ecc) (lost : Bool) (m : Meet)
  /-- MAXU writes the unsigned maximum. -/
  | maxu (f : Fin 64) (fe de : Ecc) (lost : Bool) (m : Meet)
  /-- CMPEQ writes a predicate of RA = RB. -/
  | cmpeq (f : Fin 64) (fe de : Ecc) (lost : Bool) (m : Meet)
  /-- CMPLT writes a predicate of signed RA < RB. -/
  | cmplt (f : Fin 64) (fe de : Ecc) (lost : Bool) (m : Meet)
  /-- CMPLTU writes a predicate of unsigned RA < RB. -/
  | cmpltu (f : Fin 64) (fe de : Ecc) (lost : Bool) (m : Meet)
  /-- CMPGE writes a predicate of signed RA ≥ RB. -/
  | cmpge (f : Fin 64) (fe de : Ecc) (lost : Bool) (m : Meet)
  /-- CLZ counts the leading zero bits of RA. -/
  | clz (f : Fin 64) (fe de : Ecc) (lost : Bool) (m : Meet)
  /-- POPC counts the set bits of RA. -/
  | popc (f : Fin 64) (fe de : Ecc) (lost : Bool) (m : Meet)
  /-- PAND ANDs two predicates. -/
  | pand (f : Fin 64) (fe de : Ecc) (lost : Bool) (m : Meet)
  /-- POR ORs two predicates. -/
  | por (f : Fin 64) (fe de : Ecc) (lost : Bool) (m : Meet)
  /-- PXOR XORs two predicates. -/
  | pxor (f : Fin 64) (fe de : Ecc) (lost : Bool) (m : Meet)
  /-- PANDN ANDs a predicate with the inverse of another. -/
  | pandn (f : Fin 64) (fe de : Ecc) (lost : Bool) (m : Meet)
  /-- MFP moves a predicate to a scalar register. -/
  | mfp (f : Fin 64) (fe de : Ecc) (lost : Bool) (m : Meet)
  /-- MTP moves a scalar register to a predicate. -/
  | mtp (f : Fin 64) (fe de : Ecc) (lost : Bool) (m : Meet)
  /-- ADDI adds a sign-extended immediate. -/
  | addi (f : Fin 64) (fe de : Ecc) (lost : Bool) (m : Meet)
  /-- ANDI ANDs a zero-extended immediate. -/
  | andi (f : Fin 64) (fe de : Ecc) (lost : Bool) (m : Meet)
  /-- ORI ORs a zero-extended immediate. -/
  | ori (f : Fin 64) (fe de : Ecc) (lost : Bool) (m : Meet)
  /-- XORI XORs a zero-extended immediate. -/
  | xori (f : Fin 64) (fe de : Ecc) (lost : Bool) (m : Meet)
  /-- SLLI shifts left by an immediate. -/
  | slli (f : Fin 64) (fe de : Ecc) (lost : Bool) (m : Meet)
  /-- SRLI shifts right with zero fill by an immediate. -/
  | srli (f : Fin 64) (fe de : Ecc) (lost : Bool) (m : Meet)
  /-- SRAI shifts right with sign fill by an immediate. -/
  | srai (f : Fin 64) (fe de : Ecc) (lost : Bool) (m : Meet)
  /-- CMPI compares RA with an immediate into a predicate. -/
  | cmpi (f : Fin 64) (fe de : Ecc) (lost : Bool) (m : Meet)
  /-- The halt instruction halts the frond with CAUSE 0x2. -/
  | halt (f : Fin 64) (fe de : Ecc) (lost : Bool) (m : Meet)
  /-- FENCE stalls issue until earlier accesses are accepted or returned. -/
  | fence (f : Fin 64) (fe de : Ecc) (lost : Bool) (m : Meet)
  /-- WAIT completes if a masked line is pending, otherwise the frond enters WAITING. -/
  | wait (f : Fin 64) (fe de : Ecc) (lost : Bool) (m : Meet)
  /-- EVCLR clears pending event lines in a mask. -/
  | evclr (f : Fin 64) (fe de : Ecc) (lost : Bool) (m : Meet)
  /-- EVRD reads the 64 pending event lines. -/
  | evrd (f : Fin 64) (fe de : Ecc) (lost : Bool) (m : Meet)
  /-- The software event instruction raises the frond's event source. -/
  | swevt (f : Fin 64) (fe de : Ecc) (lost : Bool) (m : Meet)
  /-- LIL loads a zero-extended 16-bit immediate. -/
  | lil (f : Fin 64) (fe de : Ecc) (lost : Bool) (m : Meet)
  /-- LIH loads the upper 16 bits of a register. -/
  | lih (f : Fin 64) (fe de : Ecc) (lost : Bool) (m : Meet)
  /-- TIMEL reads the low word of device time and captures the high word. -/
  | timel (f : Fin 64) (fe de : Ecc) (lost : Bool) (m : Meet)
  /-- TIMEH reads the high word captured by the last TIMEL. -/
  | timeh (f : Fin 64) (fe de : Ecc) (lost : Bool) (m : Meet)
  /-- QCNT reads the entries held in a queue. -/
  | qcnt (f : Fin 64) (fe de : Ecc) (lost : Bool) (m : Meet)
  /-- A relative branch jumps by OFS15 bundles when taken. -/
  | branch (f : Fin 64) (fe de : Ecc) (lost : Bool) (m : Meet)
  /-- A relative branch with link also writes s31. -/
  | branchLink (f : Fin 64) (fe de : Ecc) (lost : Bool) (m : Meet)
  /-- An indirect branch jumps to the address in RA. -/
  | branchIndirect (f : Fin 64) (fe de : Ecc) (lost : Bool) (m : Meet)
  /-- An indirect branch with link also writes s31. -/
  | branchIndirectLink (f : Fin 64) (fe de : Ecc) (lost : Bool) (m : Meet)
  /-- LD loads SZ bytes from the effective address. -/
  | ld (f : Fin 64) (fe de : Ecc) (lost : Bool) (m : Meet)
  /-- ST stores SZ bytes to the effective address. -/
  | st (f : Fin 64) (fe de : Ecc) (lost : Bool) (m : Meet)
  /-- VLD loads 64 bytes into a vector register. -/
  | vld (f : Fin 64) (fe de : Ecc) (lost : Bool) (m : Meet)
  /-- VST stores the predicated lanes of a vector register. -/
  | vst (f : Fin 64) (fe de : Ecc) (lost : Bool) (m : Meet)
  /-- AADD performs a bank atomic add. -/
  | aadd (f : Fin 64) (fe de : Ecc) (lost : Bool) (m : Meet)
  /-- ASWP performs a bank atomic swap. -/
  | aswp (f : Fin 64) (fe de : Ecc) (lost : Bool) (m : Meet)
  /-- QGET takes the next entry of an input queue, stalling while empty. -/
  | qget (f : Fin 64) (fe de : Ecc) (lost : Bool) (m : Meet)
  /-- QPUT puts a vector into an output queue, stalling while full. -/
  | qput (f : Fin 64) (fe de : Ecc) (lost : Bool) (m : Meet)
  /-- QTGET tries to take a queue entry without stalling. -/
  | qtget (f : Fin 64) (fe de : Ecc) (lost : Bool) (m : Meet)
  /-- QTPUT tries to put a queue entry without stalling. -/
  | qtput (f : Fin 64) (fe de : Ecc) (lost : Bool) (m : Meet)
  /-- VADD adds lanes. -/
  | vadd (f : Fin 64) (fe de : Ecc) (lost : Bool) (m : Meet)
  /-- VSUB subtracts lanes. -/
  | vsub (f : Fin 64) (fe de : Ecc) (lost : Bool) (m : Meet)
  /-- VADDS adds lanes with signed saturation. -/
  | vadds (f : Fin 64) (fe de : Ecc) (lost : Bool) (m : Meet)
  /-- VADDUS adds lanes with unsigned saturation. -/
  | vaddus (f : Fin 64) (fe de : Ecc) (lost : Bool) (m : Meet)
  /-- VSUBS subtracts lanes with signed saturation. -/
  | vsubs (f : Fin 64) (fe de : Ecc) (lost : Bool) (m : Meet)
  /-- VSUBUS subtracts lanes with unsigned saturation. -/
  | vsubus (f : Fin 64) (fe de : Ecc) (lost : Bool) (m : Meet)
  /-- VMIN takes signed lane minima. -/
  | vmin (f : Fin 64) (fe de : Ecc) (lost : Bool) (m : Meet)
  /-- VMAX takes signed lane maxima. -/
  | vmax (f : Fin 64) (fe de : Ecc) (lost : Bool) (m : Meet)
  /-- VMINU takes unsigned lane minima. -/
  | vminu (f : Fin 64) (fe de : Ecc) (lost : Bool) (m : Meet)
  /-- VMAXU takes unsigned lane maxima. -/
  | vmaxu (f : Fin 64) (fe de : Ecc) (lost : Bool) (m : Meet)
  /-- VAND ANDs lanes. -/
  | vand (f : Fin 64) (fe de : Ecc) (lost : Bool) (m : Meet)
  /-- VOR ORs lanes. -/
  | vor (f : Fin 64) (fe de : Ecc) (lost : Bool) (m : Meet)
  /-- VXOR XORs lanes. -/
  | vxor (f : Fin 64) (fe de : Ecc) (lost : Bool) (m : Meet)
  /-- VSLL shifts lanes left. -/
  | vsll (f : Fin 64) (fe de : Ecc) (lost : Bool) (m : Meet)
  /-- VSRL shifts lanes right with zero fill. -/
  | vsrl (f : Fin 64) (fe de : Ecc) (lost : Bool) (m : Meet)
  /-- VSRA shifts lanes right with sign fill. -/
  | vsra (f : Fin 64) (fe de : Ecc) (lost : Bool) (m : Meet)
  /-- VMUL writes the low half of lane products. -/
  | vmul (f : Fin 64) (fe de : Ecc) (lost : Bool) (m : Meet)
  /-- VMULHS writes the high half of signed lane products. -/
  | vmulhs (f : Fin 64) (fe de : Ecc) (lost : Bool) (m : Meet)
  /-- VMULHU writes the high half of unsigned lane products. -/
  | vmulhu (f : Fin 64) (fe de : Ecc) (lost : Bool) (m : Meet)
  /-- VABSD writes absolute lane differences. -/
  | vabsd (f : Fin 64) (fe de : Ecc) (lost : Bool) (m : Meet)
  /-- VCMPEQ compares lanes for equality into a predicate. -/
  | vcmpeq (f : Fin 64) (fe de : Ecc) (lost : Bool) (m : Meet)
  /-- VCMPLT compares lanes signed less-than into a predicate. -/
  | vcmplt (f : Fin 64) (fe de : Ecc) (lost : Bool) (m : Meet)
  /-- VCMPLTU compares lanes unsigned less-than into a predicate. -/
  | vcmpltu (f : Fin 64) (fe de : Ecc) (lost : Bool) (m : Meet)
  /-- VCMPGE compares lanes signed greater-or-equal into a predicate. -/
  | vcmpge (f : Fin 64) (fe de : Ecc) (lost : Bool) (m : Meet)
  /-- VSEL selects each lane from a or b by predicate. -/
  | vsel (f : Fin 64) (fe de : Ecc) (lost : Bool) (m : Meet)
  /-- VBCAST broadcasts a scalar to governed lanes. -/
  | vbcast (f : Fin 64) (fe de : Ecc) (lost : Bool) (m : Meet)
  /-- VMAC accumulates signed lane products. -/
  | vmac (f : Fin 64) (fe de : Ecc) (lost : Bool) (m : Meet)
  /-- VMACU accumulates unsigned lane products. -/
  | vmacu (f : Fin 64) (fe de : Ecc) (lost : Bool) (m : Meet)
  /-- VMACSU accumulates signed-by-unsigned lane products. -/
  | vmacsu (f : Fin 64) (fe de : Ecc) (lost : Bool) (m : Meet)
  /-- VMSU subtracts signed lane products from the accumulator. -/
  | vmsu (f : Fin 64) (fe de : Ecc) (lost : Bool) (m : Meet)
  /-- VACLR clears an accumulator. -/
  | vaclr (f : Fin 64) (fe de : Ecc) (lost : Bool) (m : Meet)
  /-- VACRD reads an accumulator with rounding, shift and signed saturation. -/
  | vacrd (f : Fin 64) (fe de : Ecc) (lost : Bool) (m : Meet)
  /-- VACRDU reads an accumulator with rounding, shift and unsigned saturation. -/
  | vacrdu (f : Fin 64) (fe de : Ecc) (lost : Bool) (m : Meet)
  /-- VROT rotates lanes by a scalar amount. -/
  | vrot (f : Fin 64) (fe de : Ecc) (lost : Bool) (m : Meet)
  /-- The scrubber reads a DRAM word and rewrites it if corrected. -/
  | scrubWord (e : Ecc) (lost : Bool)
  /-- A corrected SRAM word is written back at its memory's next idle cycle. -/
  | eccWriteback
  /-- START of MEM_MARCH_CTRL starts a march of one unit if permitted. -/
  | marchStart (unit : Fin 128) (destructive : Bool)
  /-- A requested march ends, repairing failing rows where spares remain. -/
  | marchDone (failing : Nat)
  /-- A host access to the exchange window is served on port B. -/
  | hostExchAccess (addr : Fin 262144) (len : Fin 4097) (data : List (Option Byte)) (c : PortB)
  /-- The COMMIT vault command starts a two-phase vault commit. -/
  | vaultCommit (kind : BitVec 8) (lost : Bool)
  /-- The DELETE vault command zeroes every slot of VAULT_ID. -/
  | vaultDelete (lost : Bool)
  /-- An undefined vault command code is refused. -/
  | vaultCmdInvalid
  /-- A vault commit reaches its commit point or fails with ERR. -/
  | vaultCommitDone (x : SpanRead)
  /-- A vault DELETE ends. -/
  | vaultDeleteDone
  /-- A record enters a stream's spool intake or is dropped for lack of room. -/
  | recordIntake (i : Fin 14)
  /-- CHUNK_AGE ms after its first record the chunk closes. -/
  | chunkAgeExpiry (n : Fin 16)
  /-- The sealer starts on a chunk after earlier chunks and keys are ready. -/
  | chunkSealStart (n : Fin 16) (x : SealRead) (meet : Meet)
  /-- The SEAL or ANCHOR is written whole and the seal pointer advances. -/
  | chunkSealComplete (n : Fin 16) (lost : Bool)
  /-- Derivation of the run's ephemeral key and stream keys completes. -/
  | runKeysDerived
  /-- START of CH_n_CTRL fetches the descriptor at CH_n_HEAD. -/
  | chStart (n : Fin 64) (lost : Bool)
  /-- ABORT of CH_n_CTRL stops the channel after bursts in flight. -/
  | chAbort (n : Fin 64) (lost : Bool)
  /-- TRIGGER of CH_n_CTRL is one trigger for the held descriptor. -/
  | chTrigger (n : Fin 64) (lost : Bool)
  /-- COMMIT of CH_n_CTRL commits CH_n_CFG and CH_n_HOPMAX. -/
  | chCommit (n : Fin 64) (lost : Bool)
  /-- A write of ENABLE takes a channel out in MAINT or is ignored in RUN. -/
  | chEnableWrite (n : Fin 64) (on : Bool) (lost : Bool)
  /-- A descriptor fetch returns and the descriptor is checked and held. -/
  | descriptorFetchDone (n : Fin 64) (x : SpanRead)
  /-- A trigger from its source is counted at the channel. -/
  | dmaTriggerArrival (n : Fin 64) (kind : Fin 8) (index : Fin 64) (lost : Bool)
  /-- A burst ends and the arbiter grants the next burst. -/
  | dmaBurstEnd (x : SpanRead) (lost : Bool)
  /-- A descriptor's flush read returns. -/
  | flushReadReturn (n : Fin 64)
  /-- A completion for a non-posted host read arrives. -/
  | hostReadCompletion (tag : Fin 16384) (data : List Byte) (ok lost : Bool)
  /-- A host read completion times out after CPL_TO. -/
  | hostReadTimeout (tag : Fin 16384) (lost : Bool)
  /-- A descriptor's status write is accepted and its event and completion trigger follow. -/
  | descriptorStatusAccepted (n : Fin 64)
  /-- A PCIe configuration request is answered or given retry status. -/
  | configRequest (a : CfgAccess)
  /-- The host link island becomes ready for configuration. -/
  | hostLinkReady
  /-- The link goes up or down or changes speed or width. -/
  | pcieLinkChange (up : Bool) (speed width : Fin 256)
  /-- The function enters D3hot or returns to D0. -/
  | powerStateChange (d3 : Bool)
  /-- A received packet fails its IDE integrity check. -/
  | ideIntegrityFail (stream : Fin 5)
  /-- A control window write that is not one full DWORD is discarded. -/
  | badWrite
  /-- A read of the peat log read window without permission returns 0 and counts DENIED. -/
  | peatWindowRead (word : Fin 32768)
  /-- A host REQ_RUN START requests a run start. -/
  | reqRunStart (lost : Bool)
  /-- A host REQ_RUN STOP requests a run stop. -/
  | reqRunStop (lost : Bool)
  /-- A host REQ_SHUTTER requests shutter events of named thermal ports. -/
  | reqShutter (ports : BitVec 4)
  /-- A host REQ_PACKING is passed to firmware. -/
  | reqPacking (stream : Fin 16) (v : BitVec 8)
  /-- A host REQ_CAL is passed to firmware. -/
  | reqCal (code : BitVec 16)
  /-- A host REQ_MAINT ENTER requests MAINT. -/
  | reqMaintEnter (m : StartMeet)
  /-- A host REQ_MAINT EXIT requests leaving MAINT. -/
  | reqMaintExit (lost : Bool)
  /-- The HOST_REQ_MIN_MS hold-off of a request register ends. -/
  | hostReqHoldoffEnd (k : Fin 5)
  /-- The host writes GR_TAIL to post grants. -/
  | grTailWrite (n : Fin 16) (v : BitVec 16) (lost : Bool)
  /-- Every 1 µs the device compares GR_HEAD with GR_TAIL and reads new grants. -/
  | grantTailCheck (n : Fin 16)
  /-- A grant-ring read returns and grants are accepted or refused. -/
  | grantReadDone (n : Fin 16) (addr : BitVec 64) (len id : BitVec 32) (ok : Bool)
  /-- The host writes CR_HEAD to consume completion entries. -/
  | crHeadWrite (n : Fin 16) (v : BitVec 16) (lost : Bool)
  /-- Writing ENABLE 1 clears the ring indices and starts delivery. -/
  | ringEnable (n : Fin 16)
  /-- Writing ENABLE 0 stops delivery and returns unused grants. -/
  | ringDisable (n : Fin 16) (lost : Bool)
  /-- A write of ring base or size is taken only while ENABLE is 0. -/
  | ringConfigWrite (n : Fin 16) (k : Fin 5) (v : BitVec 32)
  /-- After a buffer's data, its completion entry is written and the drain pointer advances. -/
  | completionEntryIssue (n : Fin 16)
  /-- Every 1 µs the device checks for two free completion slots. -/
  | completionRingCheck (n : Fin 16)
  /-- A write of HOST_EVREC_CMD emits an EVENT record. -/
  | eventRecordEmit (n : Fin 16) (code : BitVec 16)
  /-- A PTM dialogue every PTM_MS measures host time for steering. -/
  | ptmDialogue (master : Option (BitVec 64))
  /-- START of RUN_CTRL starts a run. -/
  | runStart (lost : Bool)
  /-- STOP of RUN_CTRL stops the active run. -/
  | runStop (lost : Bool)
  /-- MAINT_ENTER of RUN_CTRL enters MAINT while no run is active. -/
  | maintEnter (m : StartMeet)
  /-- MAINT_EXIT of RUN_CTRL leaves MAINT while no run is active. -/
  | maintExit (lost : Bool)
  /-- ABANDON in MAINT sets drain pointers to seal pointers without delivery. -/
  | abandon
  /-- A write of RUN_WDOG.TIMEOUT sets the device watchdog and LOCK. -/
  | runWdogWrite (ms : Fin 16777216)
  /-- A write of RUN_KICK reloads the device watchdog. -/
  | runKick (lost : Bool)
  /-- The device watchdog reaching 0 is a warm recovery cause. -/
  | runWdogExpiry (meet : Meet)
  /-- The SPDM GET_VERSION request is answered. -/
  | getVersion (busy : Bool)
  /-- The SPDM GET_CAPABILITIES request is answered. -/
  | getCapabilities (busy : Bool)
  /-- The SPDM NEGOTIATE_ALGORITHMS request is answered. -/
  | negotiateAlgorithms (busy : Bool)
  /-- The SPDM GET_DIGESTS request is answered. -/
  | getDigests (busy : Bool)
  /-- The SPDM GET_CERTIFICATE request returns the slot 0 chain. -/
  | getCertificate (slot : Fin 8) (busy : Bool)
  /-- The SPDM CHALLENGE request is signed and answered. -/
  | challenge (slot : Fin 8) (request : List Byte) (busy : Bool)
  /-- The SPDM GET_MEASUREMENTS request reports the measurement blocks. -/
  | getMeasurements (block : Option (Fin 6)) (request : List Byte) (busy : Bool)
  /-- The SPDM KEY_EXCHANGE request opens a session, ending any old one. -/
  | keyExchange (request : List Byte) (busy : Bool)
  /-- The SPDM FINISH request completes session establishment. -/
  | finish (busy : Bool)
  /-- The SPDM HEARTBEAT request keeps the session alive. -/
  | heartbeat (busy : Bool)
  /-- The SPDM KEY_UPDATE request updates session keys. -/
  | keyUpdate (busy : Bool)
  /-- The SPDM END_SESSION request ends the session. -/
  | endSession (busy : Bool)
  /-- The SPDM CHUNK_SEND request receives a chunk of a large message. -/
  | chunkSend (c : LargeChunk) (last busy : Bool)
  /-- The SPDM CHUNK_GET request returns a chunk of a large response. -/
  | chunkGet (size : Fin 65536) (busy : Bool)
  /-- The GET_OWNER_NONCE vendor request returns a fresh 32-byte nonce. -/
  | getOwnerNonce (busy : Bool)
  /-- An ENROL owner command enrols a key hash in a blank slot. -/
  | ownerEnrol (cmd : List Byte) (fuses : FuseBurn) (busy : Bool)
  /-- A REVOKE owner command revokes an active slot. -/
  | ownerRevoke (cmd : List Byte) (fuses : FuseBurn) (busy : Bool)
  /-- An accepted UNLOCK ends runs, erases keys, sets DEBUG and starts warm. -/
  | ownerUnlock (cmd : List Byte) (lost busy : Bool)
  /-- The PEAT_READ vendor request returns peat log records. -/
  | peatRead (first : BitVec 64) (count : BitVec 16) (busy : Bool)
  /-- A vendor-defined request with another code gets ERROR UnsupportedRequest. -/
  | vendorRequestUnsupported (code : BitVec 8) (busy : Bool)
  /-- A runner link finishes training and exchanges ID and serial. -/
  | runnerLinkUp (n : Fin 2) (id : Fin 8) (serial : BitVec 64)
  /-- 10 µs without a valid flit or 16 fruitless replays take the link down. -/
  | runnerLinkDown (n : Fin 2) (lost : Bool)
  /-- A received NAK makes the sender replay from the next SEQ. -/
  | flitNak (n : Fin 2) (ack : Fin 64)
  /-- A RING flit announces a device and updates PRESENT. -/
  | ringAnnounce (h : FlitHead) (serial : BitVec 64) (aUp bUp : Bool)
  /-- A TIME flit is received, measured and relayed. -/
  | timeFlit (h : FlitHead) (t : TimeMark)
  /-- The time master sends a TIME flit every 1 ms. -/
  | timeFlitSend
  /-- A write of RUN_TRIG_SEND sends a shared trigger on a channel. -/
  | runTrigSend (dest : BitVec 8) (channel : Fin 16) (lost : Bool)
  /-- A TRIG flit arrives and schedules or raises the trigger. -/
  | trigFlit (h : FlitHead) (channel : Fin 16) (due : BitVec 64)
  /-- A shared trigger's due time arrives and its event is raised. -/
  | triggerDue
  /-- Every SHARE_NS the newest sample is broadcast as a POS flit. -/
  | posShareSend
  /-- A POS flit is published as a sample of the shared interface. -/
  | posFlit (h : FlitHead) (itf : Fin 8) (p : PosFlit)
  /-- 10 µs without a shared sample makes the interface publish VALID 0. -/
  | sharedPosTimeout (j : Fin 2)
  /-- GO of RUN_RMT_CMD with WRITE 0 reads another device's exchange RAM. -/
  | rmtRead (dev : Fin 8) (size : Fin 4)
  /-- GO of RUN_RMT_CMD with WRITE 1 writes another device's exchange RAM. -/
  | rmtWrite (dev : Fin 8) (size : Fin 4)
  /-- An RMT_REQ flit is served on port B or refused. -/
  | rmtReq (h : FlitHead) (write : Bool) (size : Fin 4) (offset : Fin 262144) (data : List Byte) (c : PortB)
  /-- An RMT_RSP flit completes a remote access. -/
  | rmtRsp (h : FlitHead) (result : Fin 16) (data : List Byte) (x : RspFlit)
  /-- No remote response within 10 µs gives RESULT TIMEOUT. -/
  | rmtTimeout (lost : Bool)
  /-- An origin sends sealed records as far as the receiver grants space. -/
  | recordForwardSend (n : Fin 16)
  /-- FWD flits deliver records into the receiver's spool, or acknowledge them to the origin. -/
  | fwdFlit (h : FlitHead) (stream : Fin 16) (f : FwdFlit) (lost : Bool)
  /-- Every 10 µs each DCO is checked against the reference. -/
  | dcoMonitor (i : Fin 96) (locked : Bool) (meet : Meet)
  /-- No oscillator edge for 1 µs sets REF_LOST and holds the DCOs. -/
  | refLost
  /-- Oscillator edges for 1 ms clear REF_LOST and relock the DCOs. -/
  | refRestored
  /-- Every 1 µs the time island sends a beacon that corrects island counts. -/
  | timeBeacon
  /-- A TSYNC input edge is a time measurement. -/
  | tsyncEdge (t : TimeMark)
  /-- 1.1 s without a TSYNC edge makes the source invalid. -/
  | tsyncTimeout
  /-- TSYNC as output is driven high at each aligned second. -/
  | tsyncOutput
  /-- 3 ms without a TIME flit makes the runner source invalid. -/
  | runnerSourceTimeout
  /-- APPLY of TIME_SET_CMD steps device time to TIME_SET outside a run. -/
  | timeSetApply (lost : Bool)
  /-- START of TRIM_CTRL runs the self-trim measurements. -/
  | trimStart (found : List (Option (Int × Bool)))
  /-- The trim vault copy is written and the trim is successful. -/
  | trimVaultWritten
  /-- At the apply instant every new trim tap takes effect. -/
  | trimApply
  /-- A timer expiry raises its event, delivers timer events and drives its PWM output. -/
  | timerExpiry (n : Fin 64) (lost : Bool)
  /-- HIGH ns after an expiry the timer's PWM output returns low. -/
  | pwmHighEnd (n : Fin 64)
  /-- COMMIT of TMR_n_CTRL commits the timer's shadow set. -/
  | tmrCommit (n : Fin 64) (lost : Bool)
  /-- A write of GPIO_OUT drives pins with FUNC 0x1. -/
  | gpioOutWrite (v : BitVec 32)
  /-- Every 50 µs each temperature sensor is converted and judged against thresholds. -/
  | tempConversion (codes : List (BitVec 16)) (m : Meeting)
  /-- Every 100 ms the throttle level is evaluated. -/
  | throttleEvaluation (lost : Bool)
  /-- VAON_A falling below 1.62 V switches the AON island to VAON_B. -/
  | vaonALoss
  /-- VAON_A above 1.70 V for 10 ms switches the AON island back. -/
  | vaonAReturn
  /-- The selected AON supply below 1.50 V stops time and erases key state. -/
  | aonBrownout
  /-- Both VAON supplies below 0.3 V for 50 ms clear the thermal latch. -/
  | aonLatchClear
  /-- AVS_SETTLE after a VDD target write, the voltage is read back and checked. -/
  | avsReadback (mv : BitVec 10) (ok : Bool)
  /-- Every TEMP_LOG s a temperature peat record is written. -/
  | tempLogSample
  /-- A write of PWR_THRESH updates thresholds, SHUTDOWN only downward. -/
  | pwrThreshWrite (v : BitVec 32) (lost : Bool)
  /-- A queued peat log record is committed to MRAM. -/
  | peatRecordCommit (lost : Bool)
  /-- A write of PEAT_FW_CMD queues a firmware peat record. -/
  | peatFwCmd (f : Fin 64) (typ : BitVec 16)
  /-- A write of WIN_SEQ_HI moves the peat log record window. -/
  | peatWinSeqWrite (v : BitVec 32)
  /-- A write to a register without a row of its own acts under its access code. -/
  | registerWrite (q : Requester) (a : Fin 562949953421312) (v setWon clearWon : BitVec 32)
  /-- A read of the _LO register of a 64-bit pair captures its _HI half into the requester's snapshot. -/
  | pairLoRead (q : Requester) (x : ReadSpan)
  /-- A running ACTIVATE finishes its slot record commit and BUSY clears. -/
  | mbxActivateDone
  /-- A received flit fails its CRC or arrives out of SEQ order, and the receiver sends NAK with its last good SEQ. -/
  | flitReceiveError (n : Fin 2) (crc : Bool)
  /-- A received flit of an undefined TYPE is dropped and counted in BAD_FLIT. -/
  | badFlitType (h : FlitHead)
  /-- A received IDLE flit's ACK frees retry-buffer entries and lets a stalled sender resume. -/
  | idleFlit (n : Fin 2) (ack : Fin 64)
  /-- VAON_B falls below 1.62 V, clearing VAON_B_OK and removing it as a fallback supply. -/
  | vaonBLoss
  /-- VAON_B rises to 1.62 V or above, setting VAON_B_OK and making it available for a switch. -/
  | vaonBReturn
  /-- The IEEE 1149.1 TAP executes an instruction such as EXTEST, CLAMP or HIGHZ, or BYPASS in its place, or gives
  frond debug access after an unlock. -/
  | tapInstruction (i : TapInstr)
  /-- A PCIe error is logged in the AER capability and the AER event is raised. -/
  | aerError (code : BitVec 32)
  /-- The memory controller issues a DRAM refresh command at the interval of the temperature band in force. -/
  | dramRefresh (lost : Bool)
  deriving DecidableEq, Repr

end Sys2Proof
end

