-- ==== Sys2Proof/Machine/RegFields.lean ====
section
/-!
DEFINITION. The fields of the registers: for each, its lowest bit and its width, from the field tables of the register
sections of spec/ (00 R4). A field's name is its register's name and its own.
-/

namespace Sys2Proof.Machine

def F.SYS_ID_PART : Fld := ⟨16, 16⟩
def F.SYS_ID_STEP : Fld := ⟨8, 8⟩
def F.SYS_ID_DEVID : Fld := ⟨0, 3⟩
def F.SYS_STATE_RUN_ID : Fld := ⟨16, 16⟩
def F.SYS_STATE_WARM : Fld := ⟨4, 1⟩
def F.SYS_STATE_RUN_ACTIVE : Fld := ⟨3, 1⟩
def F.SYS_STATE_STATE : Fld := ⟨0, 3⟩
def F.SYS_CAUSE_SAFE_CODE : Fld := ⟨8, 8⟩
def F.SYS_CAUSE_CAUSE : Fld := ⟨0, 4⟩
def F.SYS_RACE_RACE : Fld := ⟨0, 16⟩
def F.EVT_ROUTE_PEAT_EN : Fld := ⟨25, 1⟩
def F.EVT_ROUTE_VECTOR : Fld := ⟨14, 11⟩
def F.EVT_ROUTE_MSIX_EN : Fld := ⟨13, 1⟩
def F.EVT_ROUTE_LINE : Fld := ⟨7, 6⟩
def F.EVT_ROUTE_FROND : Fld := ⟨1, 6⟩
def F.EVT_ROUTE_FROND_EN : Fld := ⟨0, 1⟩
def F.EVT_LOST_LAST_SRC : Fld := ⟨16, 10⟩
def F.EVT_LOST_COUNT : Fld := ⟨0, 16⟩
def F.EVT_RACE_RACE : Fld := ⟨0, 16⟩
def F.BOOT_STATUS_CONFLICT_CLASS : Fld := ⟨24, 8⟩
def F.BOOT_STATUS_SLOT_B_RESULT : Fld := ⟨20, 4⟩
def F.BOOT_STATUS_SLOT_A_RESULT : Fld := ⟨16, 4⟩
def F.BOOT_STATUS_ARB_ADVANCED : Fld := ⟨9, 1⟩
def F.BOOT_STATUS_FALLBACK : Fld := ⟨8, 1⟩
def F.BOOT_STATUS_SLOTREC_DEFAULT : Fld := ⟨7, 1⟩
def F.BOOT_STATUS_BOOTED_SLOT : Fld := ⟨6, 1⟩
def F.BOOT_STATUS_STEP : Fld := ⟨0, 4⟩
def F.BOOT_CONFLICT_CLAIMANT_B : Fld := ⟨16, 16⟩
def F.BOOT_CONFLICT_CLAIMANT_A : Fld := ⟨0, 16⟩
def F.BOOT_CONFLICT_IDX_LO_IDX_LO : Fld := ⟨0, 32⟩
def F.BOOT_CONFLICT_IDX_HI_IDX_HI : Fld := ⟨0, 32⟩
def F.BOOT_SPORE_ARB_FUSED : Fld := ⟨8, 8⟩
def F.BOOT_SPORE_ARB : Fld := ⟨0, 8⟩
def F.BOOT_BUILD_BUILD : Fld := ⟨0, 32⟩
def F.BOOT_READY_TIME_TIME : Fld := ⟨0, 32⟩
def F.MBX_CMD_CMD : Fld := ⟨0, 4⟩
def F.MBX_STATUS_REFUSED : Fld := ⟨24, 8⟩
def F.MBX_STATUS_RESULT : Fld := ⟨8, 8⟩
def F.MBX_STATUS_NEXT_SLOT : Fld := ⟨3, 1⟩
def F.MBX_STATUS_TARGET_SLOT : Fld := ⟨2, 1⟩
def F.MBX_STATUS_VERIFIED : Fld := ⟨1, 1⟩
def F.MBX_STATUS_BUSY : Fld := ⟨0, 1⟩
def F.MBX_OFFSET_OFFSET : Fld := ⟨0, 32⟩
def F.MBX_LENGTH_LENGTH : Fld := ⟨0, 32⟩
def F.ENC_CFG_CORR_FREEZE : Fld := ⟨9, 1⟩
def F.ENC_CFG_PRESET_EN : Fld := ⟨8, 1⟩
def F.ENC_CFG_INDEX_EN : Fld := ⟨7, 1⟩
def F.ENC_CFG_INDEX_GATE : Fld := ⟨6, 1⟩
def F.ENC_CFG_FILT : Fld := ⟨3, 3⟩
def F.ENC_CFG_INVERT : Fld := ⟨2, 1⟩
def F.ENC_CFG_MODE : Fld := ⟨0, 2⟩
def F.ENC_CTRL_COMMIT_PENDING : Fld := ⟨1, 1⟩
def F.ENC_CTRL_COMMIT : Fld := ⟨0, 1⟩
def F.ENC_STATUS_SPEED_SAT : Fld := ⟨15, 1⟩
def F.ENC_STATUS_CFG_REFUSED : Fld := ⟨14, 1⟩
def F.ENC_STATUS_POS_SUSPECT : Fld := ⟨13, 1⟩
def F.ENC_STATUS_HALL_SKIP : Fld := ⟨12, 1⟩
def F.ENC_STATUS_HALL_IMPOSSIBLE : Fld := ⟨11, 1⟩
def F.ENC_STATUS_QUAD_ERROR : Fld := ⟨10, 1⟩
def F.ENC_STATUS_OVERSPEED : Fld := ⟨9, 1⟩
def F.ENC_STATUS_SIGNAL_FAULT : Fld := ⟨8, 1⟩
def F.ENC_STATUS_CORR_SETTLED : Fld := ⟨4, 1⟩
def F.ENC_STATUS_STANDSTILL : Fld := ⟨3, 1⟩
def F.ENC_STATUS_TDIR : Fld := ⟨2, 1⟩
def F.ENC_STATUS_DIR : Fld := ⟨1, 1⟩
def F.ENC_STATUS_VALID : Fld := ⟨0, 1⟩
def F.ENC_POS_LO_POS : Fld := ⟨0, 32⟩
def F.ENC_POS_HI_POS : Fld := ⟨0, 32⟩
def F.ENC_PRESET_LO_PRESET : Fld := ⟨0, 32⟩
def F.ENC_PRESET_HI_PRESET : Fld := ⟨0, 32⟩
def F.ENC_INDEX_LO_LATCH : Fld := ⟨0, 32⟩
def F.ENC_INDEX_HI_LATCH : Fld := ⟨0, 32⟩
def F.ENC_INDEX_PREV_LO_LATCH : Fld := ⟨0, 32⟩
def F.ENC_INDEX_PREV_HI_LATCH : Fld := ⟨0, 32⟩
def F.ENC_INDEX_INFO_IDX_DIR : Fld := ⟨31, 1⟩
def F.ENC_INDEX_INFO_INDEX_COUNT : Fld := ⟨0, 31⟩
def F.ENC_SPEED_SPEED : Fld := ⟨0, 32⟩
def F.ENC_SPEED_STAT_WINDOW_SEQ : Fld := ⟨16, 16⟩
def F.ENC_SPEED_STAT_STANDSTILL : Fld := ⟨3, 1⟩
def F.ENC_SPEED_STAT_SAT : Fld := ⟨2, 1⟩
def F.ENC_SPEED_STAT_REVERSAL : Fld := ⟨1, 1⟩
def F.ENC_SPEED_STAT_STARTUP : Fld := ⟨0, 1⟩
def F.ENC_SPEED_WIN_WIN_US : Fld := ⟨0, 17⟩
def F.ENC_SC_NOM_NOM : Fld := ⟨0, 16⟩
def F.ENC_SC_OFS_COS_OFS : Fld := ⟨16, 16⟩
def F.ENC_SC_OFS_SIN_OFS : Fld := ⟨0, 16⟩
def F.ENC_SC_GP_PHASE : Fld := ⟨16, 16⟩
def F.ENC_SC_GP_RATIO : Fld := ⟨0, 16⟩
def F.ENC_ERRCNT_FAULT_COUNT : Fld := ⟨16, 16⟩
def F.ENC_ERRCNT_ERR_COUNT : Fld := ⟨0, 16⟩
def F.ENC_RACE_RACE : Fld := ⟨0, 16⟩
def F.CMP_CFG_GPIO_PIN : Fld := ⟨8, 5⟩
def F.CMP_CFG_GPIO_EN : Fld := ⟨7, 1⟩
def F.CMP_CFG_REPEAT : Fld := ⟨6, 1⟩
def F.CMP_CFG_DIRS : Fld := ⟨4, 2⟩
def F.CMP_CFG_INTERFACE : Fld := ⟨1, 3⟩
def F.CMP_CFG_ENABLE : Fld := ⟨0, 1⟩
def F.CMP_CTRL_COMMIT_PENDING : Fld := ⟨1, 1⟩
def F.CMP_CTRL_COMMIT : Fld := ⟨0, 1⟩
def F.CMP_TARGET_LO_TARGET : Fld := ⟨0, 32⟩
def F.CMP_TARGET_HI_TARGET : Fld := ⟨0, 32⟩
def F.CMP_STEP_STEP : Fld := ⟨0, 32⟩
def F.CMP_STATUS_FIRE_COUNT : Fld := ⟨16, 16⟩
def F.CMP_STATUS_RACE : Fld := ⟨8, 8⟩
def F.CMP_STATUS_FIRED : Fld := ⟨2, 1⟩
def F.CMP_STATUS_BEHIND : Fld := ⟨1, 1⟩
def F.CMP_STATUS_ARMED : Fld := ⟨0, 1⟩
def F.CMP_TIME_LO_TIME : Fld := ⟨0, 32⟩
def F.CMP_TIME_HI_TIME : Fld := ⟨0, 32⟩
def F.PT_CFG_SHIFT : Fld := ⟨4, 4⟩
def F.PT_CFG_SYNTH : Fld := ⟨2, 1⟩
def F.PT_CFG_SOURCE : Fld := ⟨1, 1⟩
def F.PT_CFG_ENABLE : Fld := ⟨0, 1⟩
def F.PT_CTRL_PT_LAG : Fld := ⟨2, 1⟩
def F.PT_CTRL_COMMIT_PENDING : Fld := ⟨1, 1⟩
def F.PT_CTRL_COMMIT : Fld := ⟨0, 1⟩
def F.IMG_CTRL_COMMIT_PENDING : Fld := ⟨1, 1⟩
def F.IMG_CTRL_COMMIT : Fld := ⟨0, 1⟩
def F.IMG_LANE_CFG_POL_INV : Fld := ⟨24, 8⟩
def F.IMG_LANE_CFG_RATE : Fld := ⟨8, 16⟩
def F.IMG_LANE_CFG_ENC : Fld := ⟨2, 1⟩
def F.IMG_LANE_CFG_LANES : Fld := ⟨0, 2⟩
def F.IMG_LANE_STATUS_ADAPT_RUNNING : Fld := ⟨18, 1⟩
def F.IMG_LANE_STATUS_ADAPT_DONE : Fld := ⟨17, 1⟩
def F.IMG_LANE_STATUS_DESKEWED : Fld := ⟨16, 1⟩
def F.IMG_LANE_STATUS_BLOCK_LOCK : Fld := ⟨8, 8⟩
def F.IMG_LANE_STATUS_CDR_LOCK : Fld := ⟨0, 8⟩
def F.IMG_LANE_ERR_LOCK_LOSS : Fld := ⟨16, 16⟩
def F.IMG_LANE_ERR_CODE_ERR : Fld := ⟨0, 16⟩
def F.IMG_FRAME_CFG_SYNC_K : Fld := ⟨17, 4⟩
def F.IMG_FRAME_CFG_SEQ_OFS : Fld := ⟨13, 4⟩
def F.IMG_FRAME_CFG_COLOUR_OFS : Fld := ⟨9, 4⟩
def F.IMG_FRAME_CFG_HDR_LEN : Fld := ⟨4, 5⟩
def F.IMG_FRAME_CFG_SEQ_16 : Fld := ⟨3, 1⟩
def F.IMG_FRAME_CFG_TRILINEAR : Fld := ⟨2, 1⟩
def F.IMG_FRAME_CFG_PIX_BITS : Fld := ⟨0, 2⟩
def F.IMG_SYNC_SYNC : Fld := ⟨0, 32⟩
def F.IMG_GEOM_PIXELS : Fld := ⟨0, 16⟩
def F.IMG_SPI_CFG_CS_GAP : Fld := ⟨24, 4⟩
def F.IMG_SPI_CFG_READ_MASK : Fld := ⟨16, 8⟩
def F.IMG_SPI_CFG_CPHA : Fld := ⟨9, 1⟩
def F.IMG_SPI_CFG_CPOL : Fld := ⟨8, 1⟩
def F.IMG_SPI_CFG_DIV : Fld := ⟨0, 8⟩
def F.IMG_SCRIPT_FAIL_OP : Fld := ⟨16, 16⟩
def F.IMG_SCRIPT_RESULT : Fld := ⟨10, 2⟩
def F.IMG_SCRIPT_BUSY : Fld := ⟨9, 1⟩
def F.IMG_SCRIPT_RUN : Fld := ⟨8, 1⟩
def F.IMG_SCRIPT_INDEX : Fld := ⟨0, 8⟩
def F.IMG_SCRIPT_READ_DATA : Fld := ⟨0, 32⟩
def F.IMG_TRIG_CFG_LT_INV : Fld := ⟨5, 1⟩
def F.IMG_TRIG_CFG_EXP_MODE : Fld := ⟨4, 1⟩
def F.IMG_TRIG_CFG_INTERFACE : Fld := ⟨1, 3⟩
def F.IMG_PITCH_LO_PITCH : Fld := ⟨0, 32⟩
def F.IMG_PITCH_HI_PITCH : Fld := ⟨0, 32⟩
def F.IMG_ORIGIN_LO_ORIGIN : Fld := ⟨0, 32⟩
def F.IMG_ORIGIN_HI_ORIGIN : Fld := ⟨0, 32⟩
def F.IMG_EXPOSURE_EXPOSURE : Fld := ⟨0, 32⟩
def F.IMG_LINE_MIN_LINE_MIN : Fld := ⟨0, 32⟩
def F.IMG_TIMING_PULSE : Fld := ⟨16, 12⟩
def F.IMG_TIMING_SENSOR_LAT : Fld := ⟨0, 16⟩
def F.IMG_PRED_EXTRAP_NS : Fld := ⟨16, 16⟩
def F.IMG_PRED_VEL_BASE : Fld := ⟨0, 16⟩
def F.IMG_DATA_TO_DATA_TO : Fld := ⟨0, 16⟩
def F.IMG_STATUS_BUS_ERR : Fld := ⟨18, 1⟩
def F.IMG_STATUS_SKIPPED : Fld := ⟨17, 1⟩
def F.IMG_STATUS_LATE : Fld := ⟨16, 1⟩
def F.IMG_STATUS_SCRIPT_FAIL : Fld := ⟨15, 1⟩
def F.IMG_STATUS_LINK_LOST : Fld := ⟨14, 1⟩
def F.IMG_STATUS_DATA_TIMEOUT : Fld := ⟨13, 1⟩
def F.IMG_STATUS_COLOUR_ERR : Fld := ⟨12, 1⟩
def F.IMG_STATUS_SEQ_ERR : Fld := ⟨11, 1⟩
def F.IMG_STATUS_SYNC_ERR : Fld := ⟨10, 1⟩
def F.IMG_STATUS_FIFO_OVF : Fld := ⟨9, 1⟩
def F.IMG_STATUS_CFG_REFUSED : Fld := ⟨8, 1⟩
def F.IMG_STATUS_OUTSTANDING : Fld := ⟨5, 3⟩
def F.IMG_STATUS_LINK_UP : Fld := ⟨4, 1⟩
def F.IMG_STATUS_PORT_READY : Fld := ⟨3, 1⟩
def F.IMG_STATUS_BUSY : Fld := ⟨2, 1⟩
def F.IMG_STATUS_PREDICTING : Fld := ⟨1, 1⟩
def F.IMG_STATUS_ARMED : Fld := ⟨0, 1⟩
def F.IMG_LAST_LO_LAST : Fld := ⟨0, 32⟩
def F.IMG_LAST_HI_LAST : Fld := ⟨0, 32⟩
def F.IMG_NEXT_LO_NEXT : Fld := ⟨0, 32⟩
def F.IMG_NEXT_HI_NEXT : Fld := ⟨0, 32⟩
def F.IMG_LINES_LINES : Fld := ⟨0, 32⟩
def F.IMG_SKIPS_SKIPS : Fld := ⟨0, 32⟩
def F.IMG_RACE_RACE : Fld := ⟨0, 16⟩
def F.IMG_COMMIT_TAKEN_LO_TIME : Fld := ⟨0, 32⟩
def F.IMG_COMMIT_TAKEN_HI_TIME : Fld := ⟨0, 32⟩
def F.IMG_COR_CTRL_DUAL : Fld := ⟨11, 1⟩
def F.IMG_COR_CTRL_RESIDENT_VALID : Fld := ⟨10, 1⟩
def F.IMG_COR_CTRL_RESIDENT_SET : Fld := ⟨8, 2⟩
def F.IMG_COR_CTRL_LOAD_BUSY : Fld := ⟨7, 1⟩
def F.IMG_COR_CTRL_LOAD_SET : Fld := ⟨5, 2⟩
def F.IMG_COR_CTRL_LOAD : Fld := ⟨4, 1⟩
def F.IMG_COR_CTRL_COMMIT_PENDING : Fld := ⟨1, 1⟩
def F.IMG_COR_CTRL_COMMIT : Fld := ⟨0, 1⟩
def F.IMG_COR_CFG_GAP_BRIDGE : Fld := ⟨16, 4⟩
def F.IMG_COR_CFG_NORM_FILT : Fld := ⟨13, 3⟩
def F.IMG_COR_CFG_REF_SLOT : Fld := ⟨11, 2⟩
def F.IMG_COR_CFG_KERNEL : Fld := ⟨9, 2⟩
def F.IMG_COR_CFG_DEFECT_EN : Fld := ⟨8, 1⟩
def F.IMG_COR_CFG_NORM_EN : Fld := ⟨7, 1⟩
def F.IMG_COR_CFG_SHIFT : Fld := ⟨2, 5⟩
def F.IMG_COR_CFG_SET : Fld := ⟨0, 2⟩
def F.IMG_SETS_LO_SETS : Fld := ⟨0, 32⟩
def F.IMG_SETS_HI_SETS : Fld := ⟨0, 32⟩
def F.IMG_COLOUR_OFS_A_OFS_1 : Fld := ⟨16, 16⟩
def F.IMG_COLOUR_OFS_A_OFS_0 : Fld := ⟨0, 16⟩
def F.IMG_COLOUR_OFS_B_OFS_2 : Fld := ⟨0, 16⟩
def F.IMG_REF_COLS_REF_COUNT : Fld := ⟨16, 9⟩
def F.IMG_REF_COLS_REF_FIRST : Fld := ⟨0, 16⟩
def F.IMG_REF_LEVEL_REF_MIN : Fld := ⟨16, 16⟩
def F.IMG_REF_LEVEL_TARGET : Fld := ⟨0, 16⟩
def F.IMG_NORM_LIMITS_NORM_MAX : Fld := ⟨16, 16⟩
def F.IMG_NORM_LIMITS_NORM_MIN : Fld := ⟨0, 16⟩
def F.IMG_NORM_FACTOR_FACTOR : Fld := ⟨0, 20⟩
def F.IMG_HOLD_CFG_AXIS : Fld := ⟨1, 3⟩
def F.IMG_HOLD_CFG_HOLD_EN : Fld := ⟨0, 1⟩
def F.IMG_HOLD_LIMIT_HOLD_LIMIT : Fld := ⟨0, 32⟩
def F.IMG_COR_STATUS_SWATH_ID : Fld := ⟨16, 16⟩
def F.IMG_COR_STATUS_HOLDING : Fld := ⟨7, 1⟩
def F.IMG_COR_STATUS_SWATH_DIR : Fld := ⟨6, 1⟩
def F.IMG_COR_STATUS_LOAD_ERR : Fld := ⟨5, 1⟩
def F.IMG_COR_STATUS_SET_REFUSED : Fld := ⟨4, 1⟩
def F.IMG_COR_STATUS_BUF_OVER : Fld := ⟨3, 1⟩
def F.IMG_COR_STATUS_REF_LOW : Fld := ⟨2, 1⟩
def F.IMG_COR_STATUS_SATURATED : Fld := ⟨1, 1⟩
def F.IMG_COR_STATUS_IN_SWATH : Fld := ⟨0, 1⟩
def F.IMG_COR_COUNT_REF_LOW_LINES : Fld := ⟨16, 16⟩
def F.IMG_COR_COUNT_SAT_LINES : Fld := ⟨0, 16⟩
def F.IMG_WITHHELD_WITHHELD : Fld := ⟨0, 32⟩
def F.IMG_INTERP_INTERP : Fld := ⟨0, 32⟩
def F.IMG_DEFECT_VALID : Fld := ⟨31, 1⟩
def F.IMG_DEFECT_RULE : Fld := ⟨20, 2⟩
def F.IMG_DEFECT_COLOUR_MASK : Fld := ⟨16, 3⟩
def F.IMG_DEFECT_COLUMN : Fld := ⟨0, 16⟩
def F.LC_CTRL_COMMIT_PENDING : Fld := ⟨1, 1⟩
def F.LC_CTRL_COMMIT : Fld := ⟨0, 1⟩
def F.LC_CFG_TEMP_SRC : Fld := ⟨28, 4⟩
def F.LC_CFG_TEMP_MODE : Fld := ⟨26, 2⟩
def F.LC_CFG_N_IC : Fld := ⟨16, 5⟩
def F.LC_CFG_DIV : Fld := ⟨8, 8⟩
def F.LC_CFG_BLK_INV : Fld := ⟨3, 1⟩
def F.LC_CFG_MODE : Fld := ⟨1, 2⟩
def F.LC_CFG_ENABLE : Fld := ⟨0, 1⟩
def F.LC_LAYOUT_HDR_BITS : Fld := ⟨24, 6⟩
def F.LC_LAYOUT_FLAG_VALUE : Fld := ⟨16, 8⟩
def F.LC_LAYOUT_FLAG_BITS : Fld := ⟨12, 4⟩
def F.LC_LAYOUT_DAC_BITS : Fld := ⟨8, 4⟩
def F.LC_LAYOUT_PWM_BITS : Fld := ⟨0, 5⟩
def F.LC_HDR_HDR : Fld := ⟨0, 32⟩
def F.LC_STATUS_POS_SHORT_EN : Fld := ⟨17, 1⟩
def F.LC_STATUS_POS_OPEN_EN : Fld := ⟨16, 1⟩
def F.LC_STATUS_POS_SHORT_POS : Fld := ⟨8, 5⟩
def F.LC_STATUS_POS_OPEN_POS : Fld := ⟨0, 5⟩
def F.LC_PERIOD_PERIOD : Fld := ⟨0, 32⟩
def F.LC_STROBE_LEAD : Fld := ⟨8, 8⟩
def F.LC_STROBE_PORT : Fld := ⟨0, 4⟩
def F.LC_MATRIX_ROW_BLANK : Fld := ⟨16, 16⟩
def F.LC_MATRIX_ROW_PIN : Fld := ⟨8, 5⟩
def F.LC_MATRIX_ROWS : Fld := ⟨0, 4⟩
def F.LC_STATE_SCRIPT_FAIL : Fld := ⟨5, 1⟩
def F.LC_STATE_TEMP_STALE : Fld := ⟨4, 1⟩
def F.LC_STATE_LATE_STROBE : Fld := ⟨3, 1⟩
def F.LC_STATE_CFG_REFUSED : Fld := ⟨2, 1⟩
def F.LC_STATE_CHAIN_ERR : Fld := ⟨1, 1⟩
def F.LC_STATE_SHIFTING : Fld := ⟨0, 1⟩
def F.LC_TEMP_T : Fld := ⟨0, 16⟩
def F.LC_DERATE_CFG_TEMP_STEP : Fld := ⟨16, 16⟩
def F.LC_DERATE_CFG_TEMP_BASE : Fld := ⟨0, 16⟩
def F.LC_FRAMES_FRAMES : Fld := ⟨0, 32⟩
def F.LC_RACE_RACE : Fld := ⟨0, 16⟩
def F.LC_COMMIT_TAKEN_LO_TIME : Fld := ⟨0, 32⟩
def F.LC_COMMIT_TAKEN_HI_TIME : Fld := ⟨0, 32⟩
def F.LC_DERATE_FACTOR : Fld := ⟨0, 16⟩
def F.LC_SCRIPT_FAIL_OP : Fld := ⟨16, 16⟩
def F.LC_SCRIPT_RESULT : Fld := ⟨10, 2⟩
def F.LC_SCRIPT_BUSY : Fld := ⟨9, 1⟩
def F.LC_SCRIPT_RUN : Fld := ⟨8, 1⟩
def F.LC_SCRIPT_INDEX : Fld := ⟨0, 8⟩
def F.LC_SCRIPT_READ_DATA : Fld := ⟨0, 32⟩
def F.LC_SCRIPT_CFG_NOP_ADDR : Fld := ⟨16, 16⟩
def F.LC_SCRIPT_CFG_READ_MASK : Fld := ⟨0, 8⟩
def F.LCG_LEVEL_LEVEL : Fld := ⟨0, 16⟩
def F.LCG_CFG_PORTS : Fld := ⟨18, 10⟩
def F.LCG_CFG_ALL_OR_NONE : Fld := ⟨17, 1⟩
def F.LCG_CFG_CURVE_EN : Fld := ⟨16, 1⟩
def F.LCG_CFG_SPLIT : Fld := ⟨0, 16⟩
def F.LCG_STATE_FAILED : Fld := ⟨8, 8⟩
def F.LCG_STATE_FAULT : Fld := ⟨2, 1⟩
def F.LCG_STATE_STATE : Fld := ⟨0, 2⟩
def F.LAMP_ENTRY_USED : Fld := ⟨31, 1⟩
def F.LAMP_ENTRY_BIN : Fld := ⟨8, 8⟩
def F.LAMP_ENTRY_COLOUR : Fld := ⟨4, 2⟩
def F.LAMP_ENTRY_GROUP : Fld := ⟨0, 3⟩
def F.BIN_LO_GAIN_1 : Fld := ⟨16, 16⟩
def F.BIN_LO_GAIN_0 : Fld := ⟨0, 16⟩
def F.BIN_HI_GAIN_3 : Fld := ⟨16, 16⟩
def F.BIN_HI_GAIN_2 : Fld := ⟨0, 16⟩
def F.LAMP_PORT_CFG_WITHHOLD : Fld := ⟨0, 10⟩
def F.CURVE_ENTRY_ODD : Fld := ⟨16, 16⟩
def F.CURVE_ENTRY_EVEN : Fld := ⟨0, 16⟩
def F.TP_CTRL_COMMIT_PENDING : Fld := ⟨1, 1⟩
def F.TP_CTRL_COMMIT : Fld := ⟨0, 1⟩
def F.TP_IF_CFG_MCLK_DIV : Fld := ⟨24, 8⟩
def F.TP_IF_CFG_EN_DELAY : Fld := ⟨16, 8⟩
def F.TP_IF_CFG_I2C_SPEED : Fld := ⟨8, 2⟩
def F.TP_IF_CFG_PIX_BITS : Fld := ⟨4, 2⟩
def F.TP_IF_CFG_LANES : Fld := ⟨2, 2⟩
def F.TP_IF_CFG_SYNC_INV : Fld := ⟨1, 1⟩
def F.TP_IF_CFG_ENABLE : Fld := ⟨0, 1⟩
def F.TP_SYNC_CODE_SYNC_ROW : Fld := ⟨0, 16⟩
def F.TP_GEOM_ROWS : Fld := ⟨16, 11⟩
def F.TP_GEOM_COLS : Fld := ⟨0, 11⟩
def F.TP_BLIND_BLIND_MIN : Fld := ⟨16, 5⟩
def F.TP_BLIND_BLIND_POS : Fld := ⟨12, 1⟩
def F.TP_BLIND_BLIND_ROWS : Fld := ⟨8, 4⟩
def F.TP_BLIND_BLIND_COLS : Fld := ⟨0, 6⟩
def F.TP_BLIND_WIN_BLIND_HI : Fld := ⟨16, 16⟩
def F.TP_BLIND_WIN_BLIND_LO : Fld := ⟨0, 16⟩
def F.TP_LINK_ROW_ERRS : Fld := ⟨16, 16⟩
def F.TP_LINK_PORT_READY : Fld := ⟨5, 1⟩
def F.TP_LINK_LOCKED : Fld := ⟨4, 1⟩
def F.TP_LINK_LANE_LOCK : Fld := ⟨0, 4⟩
def F.TP_SCRIPT_FAIL_OP : Fld := ⟨16, 16⟩
def F.TP_SCRIPT_RESULT : Fld := ⟨10, 2⟩
def F.TP_SCRIPT_BUSY : Fld := ⟨9, 1⟩
def F.TP_SCRIPT_RUN : Fld := ⟨8, 1⟩
def F.TP_SCRIPT_INDEX : Fld := ⟨0, 8⟩
def F.TP_SCRIPT_READ_DATA : Fld := ⟨0, 32⟩
def F.TP_NUC_BASE_LO_BASE : Fld := ⟨0, 32⟩
def F.TP_NUC_BASE_HI_BASE : Fld := ⟨0, 32⟩
def F.TP_FRAME_CFG_SYNC_W : Fld := ⟨24, 8⟩
def F.TP_FRAME_CFG_TIMER : Fld := ⟨16, 6⟩
def F.TP_FRAME_CFG_SYNC_SRC : Fld := ⟨14, 1⟩
def F.TP_FRAME_CFG_INTERFACE : Fld := ⟨11, 3⟩
def F.TP_FRAME_CFG_POS_EN : Fld := ⟨10, 1⟩
def F.TP_FRAME_CFG_OUT_MODE : Fld := ⟨8, 2⟩
def F.TP_FRAME_CFG_DEFECT_EN : Fld := ⟨6, 1⟩
def F.TP_FRAME_CFG_SHUTTER_EN : Fld := ⟨5, 1⟩
def F.TP_FRAME_CFG_DRIFT_EN : Fld := ⟨4, 1⟩
def F.TP_FRAME_CFG_BLIND_MODE : Fld := ⟨2, 2⟩
def F.TP_FRAME_CFG_NUC_SET : Fld := ⟨0, 2⟩
def F.TP_PERIOD_PERIOD : Fld := ⟨0, 32⟩
def F.TP_WINDOW_ROW_COUNT : Fld := ⟨16, 11⟩
def F.TP_WINDOW_ROW_FIRST : Fld := ⟨0, 11⟩
def F.TP_TIME_OFS_TIME_OFS : Fld := ⟨0, 32⟩
def F.TP_FPA_CFG_SLOTS : Fld := ⟨8, 4⟩
def F.TP_FPA_CFG_FLAG_FRAMES : Fld := ⟨0, 3⟩
def F.TP_FPA_REG_A_DEV : Fld := ⟨24, 7⟩
def F.TP_FPA_REG_A_WIDTH : Fld := ⟨16, 8⟩
def F.TP_FPA_REG_A_ADDR : Fld := ⟨0, 16⟩
def F.TP_FPA_REG_B_DATA : Fld := ⟨0, 32⟩
def F.TP_STATUS_SCRIPT_FAIL : Fld := ⟨15, 1⟩
def F.TP_STATUS_BUS_ERR : Fld := ⟨14, 1⟩
def F.TP_STATUS_FPA_WRITE_ERR : Fld := ⟨13, 1⟩
def F.TP_STATUS_FIFO_OVF : Fld := ⟨12, 1⟩
def F.TP_STATUS_COEF_LATE : Fld := ⟨11, 1⟩
def F.TP_STATUS_LINK_LOST : Fld := ⟨10, 1⟩
def F.TP_STATUS_ROW_ERR : Fld := ⟨9, 1⟩
def F.TP_STATUS_CFG_REFUSED : Fld := ⟨8, 1⟩
def F.TP_STATUS_BLIND_LOW : Fld := ⟨6, 1⟩
def F.TP_STATUS_DRIFT_RANGE : Fld := ⟨5, 1⟩
def F.TP_STATUS_DEFECT_OVERFLOW : Fld := ⟨4, 1⟩
def F.TP_STATUS_NO_SHUTTER : Fld := ⟨3, 1⟩
def F.TP_STATUS_FPA_WRITING : Fld := ⟨2, 1⟩
def F.TP_STATUS_PORT_READY : Fld := ⟨1, 1⟩
def F.TP_STATUS_RUNNING : Fld := ⟨0, 1⟩
def F.TP_FRAME_NO_FRAME_NO : Fld := ⟨0, 32⟩
def F.TP_DROPPED_DROPPED : Fld := ⟨0, 32⟩
def F.TP_RACE_RACE : Fld := ⟨0, 16⟩
def F.TP_COMMIT_TAKEN_LO_TIME : Fld := ⟨0, 32⟩
def F.TP_COMMIT_TAKEN_HI_TIME : Fld := ⟨0, 32⟩
def F.TP_TEMP_T_F : Fld := ⟨0, 32⟩
def F.TP_RATE_R : Fld := ⟨0, 16⟩
def F.TP_DRIFT_DT_DT : Fld := ⟨0, 16⟩
def F.TP_DEF_EDIT_OP : Fld := ⟨31, 1⟩
def F.TP_DEF_EDIT_RULE : Fld := ⟨28, 3⟩
def F.TP_DEF_EDIT_ROW : Fld := ⟨16, 11⟩
def F.TP_DEF_EDIT_COL : Fld := ⟨0, 11⟩
def F.TP_DEF_STATUS_REFUSED : Fld := ⟨24, 8⟩
def F.TP_DEF_STATUS_QUEUED : Fld := ⟨16, 5⟩
def F.TP_DEF_STATUS_CLUSTER : Fld := ⟨13, 3⟩
def F.TP_DEF_STATUS_ENTRIES : Fld := ⟨0, 13⟩
def F.TP_DEF_OVERFLOWS_OVERFLOWS : Fld := ⟨0, 32⟩
def F.TP_DRIFT_T0_T : Fld := ⟨0, 32⟩
def F.TP_DRIFT_TLO_T : Fld := ⟨0, 32⟩
def F.TP_DRIFT_THI_T : Fld := ⟨0, 32⟩
def F.TP_DRIFT_CFG_RATE_WIN : Fld := ⟨0, 10⟩
def F.TP_DEF_VALID : Fld := ⟨31, 1⟩
def F.TP_DEF_RULE : Fld := ⟨28, 3⟩
def F.TP_DEF_ROW : Fld := ⟨16, 11⟩
def F.TP_DEF_COL : Fld := ⟨0, 11⟩
def F.TP_SHUT_CFG_SENSE_PIN : Fld := ⟨27, 5⟩
def F.TP_SHUT_CFG_SENSE_EN : Fld := ⟨26, 1⟩
def F.TP_SHUT_CFG_SENSE_INV : Fld := ⟨25, 1⟩
def F.TP_SHUT_CFG_ACT : Fld := ⟨20, 5⟩
def F.TP_SHUT_CFG_GPIO_INV : Fld := ⟨19, 1⟩
def F.TP_SHUT_CFG_OPEN_WAIT : Fld := ⟨9, 3⟩
def F.TP_SHUT_CFG_SETTLE : Fld := ⟨6, 3⟩
def F.TP_SHUT_CFG_AVG : Fld := ⟨4, 2⟩
def F.TP_SHUT_CFG_MODE : Fld := ⟨0, 2⟩
def F.TP_SHUT_CLOSE_POS : Fld := ⟨0, 32⟩
def F.TP_SHUT_OPEN_POS : Fld := ⟨0, 32⟩
def F.TP_SHUT_REQ_ABORT : Fld := ⟨1, 1⟩
def F.TP_SHUT_REQ_REQUEST : Fld := ⟨0, 1⟩
def F.TP_GAP_CFG_SLOW_TIME : Fld := ⟨16, 16⟩
def F.TP_GAP_CFG_SLOW_EN : Fld := ⟨1, 1⟩
def F.TP_GAP_CFG_ZONE_EN : Fld := ⟨0, 1⟩
def F.TP_SLOW_SPEED_SPEED : Fld := ⟨0, 32⟩
def F.TP_INTERVALS_FORCE_INTERVAL : Fld := ⟨16, 16⟩
def F.TP_INTERVALS_MIN_INTERVAL : Fld := ⟨0, 16⟩
def F.TP_SHUT_STATUS_ABORT_WHY : Fld := ⟨24, 4⟩
def F.TP_SHUT_STATUS_LAST_CAUSE : Fld := ⟨20, 4⟩
def F.TP_SHUT_STATUS_CAUSE : Fld := ⟨16, 4⟩
def F.TP_SHUT_STATUS_ANCHOR_ERR : Fld := ⟨7, 1⟩
def F.TP_SHUT_STATUS_PERSIST_ERR : Fld := ⟨6, 1⟩
def F.TP_SHUT_STATUS_PERSIST_BUSY : Fld := ⟨5, 1⟩
def F.TP_SHUT_STATUS_ABORTED : Fld := ⟨4, 1⟩
def F.TP_SHUT_STATUS_PHASE : Fld := ⟨0, 3⟩
def F.TP_SHUT_LAST_LO_TIME : Fld := ⟨0, 32⟩
def F.TP_SHUT_LAST_HI_TIME : Fld := ⟨0, 32⟩
def F.TP_SHUT_COUNT_COMPLETED : Fld := ⟨16, 16⟩
def F.TP_SHUT_COUNT_ABORTS : Fld := ⟨8, 8⟩
def F.TP_SHUT_COUNT_MERGED : Fld := ⟨0, 8⟩
def F.TP_SHUT_MEAN_CLIPPED : Fld := ⟨16, 16⟩
def F.TP_SHUT_MEAN_MEAN : Fld := ⟨0, 16⟩
def F.TP_SHUT_BASE_LO_BASE : Fld := ⟨0, 32⟩
def F.TP_SHUT_BASE_HI_BASE : Fld := ⟨0, 32⟩
def F.TP_REF_CFG_LENS_EN : Fld := ⟨31, 1⟩
def F.TP_REF_CFG_LENS_AIN : Fld := ⟨24, 4⟩
def F.TP_REF_CFG_HOUSING_EN : Fld := ⟨23, 1⟩
def F.TP_REF_CFG_HOUSING_AIN : Fld := ⟨16, 4⟩
def F.TP_REF_CFG_SHUTTER_EN : Fld := ⟨15, 1⟩
def F.TP_REF_CFG_SHUTTER_AIN : Fld := ⟨8, 4⟩
def F.TP_REF_CFG_FPA_EN : Fld := ⟨7, 1⟩
def F.TP_REF_CFG_FPA_AIN : Fld := ⟨0, 4⟩
def F.TP_REF_STATUS_NEVER : Fld := ⟨4, 4⟩
def F.TP_REF_STATUS_STALE : Fld := ⟨0, 4⟩
def F.TP_REF_T_T : Fld := ⟨0, 32⟩
def F.TP_RAD_CFG_NONMONO : Fld := ⟨4, 4⟩
def F.TP_RAD_CFG_ANCHOR_VALID : Fld := ⟨1, 1⟩
def F.TP_RAD_CFG_ANCHOR_EN : Fld := ⟨0, 1⟩
def F.TP_RAD_KH_K : Fld := ⟨0, 32⟩
def F.TP_RAD_KL_K : Fld := ⟨0, 32⟩
def F.TP_ANCHOR_A : Fld := ⟨0, 32⟩
def F.TP_ANCHOR_TH_T : Fld := ⟨0, 32⟩
def F.TP_ANCHOR_TL_T : Fld := ⟨0, 32⟩
def F.TP_LAG_CFG_LAG_EN : Fld := ⟨0, 1⟩
def F.TP_LAG_BASE_LO_BASE : Fld := ⟨0, 32⟩
def F.TP_LAG_BASE_HI_BASE : Fld := ⟨0, 32⟩
def F.TP_LINE_CFG_COEF_RESIDENT : Fld := ⟨1, 1⟩
def F.TP_LINE_CFG_LINE_MODE : Fld := ⟨0, 1⟩
def F.TP_TPITCH_LO_VALUE : Fld := ⟨0, 32⟩
def F.TP_TPITCH_HI_VALUE : Fld := ⟨0, 32⟩
def F.TP_TORIGIN_LO_VALUE : Fld := ⟨0, 32⟩
def F.TP_TORIGIN_HI_VALUE : Fld := ⟨0, 32⟩
def F.TP_ROW_PITCH_ROW_PITCH : Fld := ⟨0, 32⟩
def F.TP_LINE_STATUS_SWATH_ID : Fld := ⟨16, 16⟩
def F.TP_LINE_STATUS_OPEN : Fld := ⟨8, 8⟩
def F.TP_LINE_STATUS_SWATH_DIR : Fld := ⟨1, 1⟩
def F.TP_LINE_STATUS_IN_SWATH : Fld := ⟨0, 1⟩
def F.TP_STAT_CFG_HOT_T : Fld := ⟨16, 16⟩
def F.TP_STAT_CFG_STAT_EVERY : Fld := ⟨0, 8⟩
def F.TP_ROI_ROWS_COUNT : Fld := ⟨16, 16⟩
def F.TP_ROI_ROWS_FIRST : Fld := ⟨0, 16⟩
def F.TP_ROI_COLS_COUNT : Fld := ⟨16, 16⟩
def F.TP_ROI_COLS_FIRST : Fld := ⟨0, 16⟩
def F.TP_ROI_RANGE_MAX : Fld := ⟨16, 16⟩
def F.TP_ROI_RANGE_MIN : Fld := ⟨0, 16⟩
def F.TP_ROI_MEAN_HOT : Fld := ⟨16, 16⟩
def F.TP_ROI_MEAN_MEAN : Fld := ⟨0, 16⟩
def F.PREC_CTRL_CAL_GAINS : Fld := ⟨16, 8⟩
def F.PREC_CTRL_CFG_REFUSED : Fld := ⟨3, 1⟩
def F.PREC_CTRL_CAL_ERR : Fld := ⟨2, 1⟩
def F.PREC_CTRL_CAL_BUSY : Fld := ⟨1, 1⟩
def F.PREC_CTRL_CAL_START : Fld := ⟨0, 1⟩
def F.PREC_REF_EXT_MV : Fld := ⟨16, 16⟩
def F.PREC_REF_REF_READY_1 : Fld := ⟨5, 1⟩
def F.PREC_REF_REF_READY_0 : Fld := ⟨4, 1⟩
def F.PREC_REF_REF_SEL_1 : Fld := ⟨2, 2⟩
def F.PREC_REF_REF_SEL_0 : Fld := ⟨0, 2⟩
def F.PREC_CM_CM_HI : Fld := ⟨16, 16⟩
def F.PREC_CM_CM_LO : Fld := ⟨0, 16⟩
def F.PREC_TDAC_TDAC_EN : Fld := ⟨16, 1⟩
def F.PREC_TDAC_CODE : Fld := ⟨0, 12⟩
def F.PREC_RACE_RACE : Fld := ⟨0, 16⟩
def F.PREC_CAL_DONE_DONE_1 : Fld := ⟨8, 8⟩
def F.PREC_CAL_DONE_DONE_0 : Fld := ⟨0, 8⟩
def F.PREC_CAL_OFS_FACTOR : Fld := ⟨0, 32⟩
def F.PREC_CAL_GAIN_FACTOR : Fld := ⟨0, 32⟩
def F.M_CFG_GAIN : Fld := ⟨29, 3⟩
def F.M_CFG_RATE : Fld := ⟨25, 4⟩
def F.M_CFG_AVG_EXP : Fld := ⟨21, 4⟩
def F.M_CFG_SHIFT : Fld := ⟨17, 4⟩
def F.M_CFG_NEG : Fld := ⟨12, 5⟩
def F.M_CFG_WIRING : Fld := ⟨10, 2⟩
def F.M_CFG_KIND : Fld := ⟨8, 2⟩
def F.M_CFG_MOD : Fld := ⟨7, 1⟩
def F.M_CFG_MODE : Fld := ⟨5, 2⟩
def F.M_CFG_RES_EVT : Fld := ⟨4, 1⟩
def F.M_CFG_POS_TDAC : Fld := ⟨3, 1⟩
def F.M_EXC_EXC_EN : Fld := ⟨31, 1⟩
def F.M_EXC_EXC_A : Fld := ⟨28, 3⟩
def F.M_EXC_EXC_B : Fld := ⟨24, 3⟩
def F.M_EXC_EXC_SETTLE : Fld := ⟨16, 8⟩
def F.M_EXC_CURRENT : Fld := ⟨0, 11⟩
def F.M_TRIG_DELAY : Fld := ⟨16, 16⟩
def F.M_TRIG_INDEX : Fld := ⟨8, 6⟩
def F.M_TRIG_SRC : Fld := ⟨0, 3⟩
def F.M_CTRL_URGENT : Fld := ⟨4, 1⟩
def F.M_CTRL_TRIGGER : Fld := ⟨3, 1⟩
def F.M_CTRL_PENDING : Fld := ⟨2, 1⟩
def F.M_CTRL_COMMIT_PENDING : Fld := ⟨1, 1⟩
def F.M_CTRL_COMMIT : Fld := ⟨0, 1⟩
def F.M_RREF_OHMS : Fld := ⟨0, 32⟩
def F.M_R0_OHMS : Fld := ⟨0, 32⟩
def F.M_LEAD_OHMS : Fld := ⟨0, 32⟩
def F.M_IMP_CFG_IMP_LIMIT : Fld := ⟨16, 16⟩
def F.M_IMP_CFG_IMP_INTERVAL : Fld := ⟨0, 16⟩
def F.M_RAW_DATA : Fld := ⟨0, 32⟩
def F.M_VALUE_LO_DATA : Fld := ⟨0, 32⟩
def F.M_VALUE_HI_DATA : Fld := ⟨0, 32⟩
def F.M_TIME_LO_DATA : Fld := ⟨0, 32⟩
def F.M_TIME_HI_DATA : Fld := ⟨0, 32⟩
def F.M_STATUS_SEQ : Fld := ⟨24, 8⟩
def F.M_STATUS_OVERRUNS : Fld := ⟨16, 8⟩
def F.M_STATUS_BUSY : Fld := ⟨7, 1⟩
def F.M_STATUS_OVERRUN : Fld := ⟨6, 1⟩
def F.M_STATUS_RANGE : Fld := ⟨5, 1⟩
def F.M_STATUS_SAT : Fld := ⟨4, 1⟩
def F.M_STATUS_NOCAL : Fld := ⟨3, 1⟩
def F.M_STATUS_HIGH_Z : Fld := ⟨2, 1⟩
def F.M_STATUS_OPEN : Fld := ⟨1, 1⟩
def F.M_STATUS_INVALID : Fld := ⟨0, 1⟩
def F.M_IMPED_Z : Fld := ⟨0, 32⟩
def F.LOOP_CFG_SRC_SEL : Fld := ⟨16, 8⟩
def F.LOOP_CFG_TIMEOUT : Fld := ⟨8, 8⟩
def F.LOOP_CFG_SRC : Fld := ⟨3, 2⟩
def F.LOOP_CFG_FAIL_HIGH : Fld := ⟨2, 1⟩
def F.LOOP_CFG_INVALID_FAIL : Fld := ⟨1, 1⟩
def F.LOOP_CFG_ENABLE : Fld := ⟨0, 1⟩
def F.LOOP_CTRL_FAIL : Fld := ⟨3, 1⟩
def F.LOOP_CTRL_COMMIT_PENDING : Fld := ⟨1, 1⟩
def F.LOOP_CTRL_COMMIT : Fld := ⟨0, 1⟩
def F.LOOP_LO_V : Fld := ⟨0, 32⟩
def F.LOOP_HI_V : Fld := ⟨0, 32⟩
def F.LOOP_VALUE_V : Fld := ⟨0, 32⟩
def F.LOOP_STATUS_CLAMP : Fld := ⟨6, 1⟩
def F.LOOP_STATUS_MISMATCH : Fld := ⟨5, 1⟩
def F.LOOP_STATUS_LOOP_OPEN : Fld := ⟨4, 1⟩
def F.LOOP_STATUS_SRC_STALE : Fld := ⟨3, 1⟩
def F.LOOP_STATUS_SRC_INVALID : Fld := ⟨2, 1⟩
def F.LOOP_STATUS_STATE : Fld := ⟨0, 2⟩
def F.LOOP_READ_READBACK : Fld := ⟨16, 16⟩
def F.LOOP_READ_SETPOINT : Fld := ⟨0, 16⟩
def F.AXIS_CTRL_COMMIT_PENDING : Fld := ⟨1, 1⟩
def F.AXIS_CTRL_COMMIT : Fld := ⟨0, 1⟩
def F.AXIS_CMD_CMD : Fld := ⟨0, 4⟩
def F.AXIS_CFG_FB_IF : Fld := ⟨25, 3⟩
def F.AXIS_CFG_FB_EN : Fld := ⟨24, 1⟩
def F.AXIS_CFG_LIMITS_EN : Fld := ⟨23, 1⟩
def F.AXIS_CFG_HARD_EN : Fld := ⟨22, 1⟩
def F.AXIS_CFG_FAULT_MODE : Fld := ⟨20, 2⟩
def F.AXIS_CFG_STANDSTILL_MODE : Fld := ⟨18, 2⟩
def F.AXIS_CFG_ENABLE : Fld := ⟨16, 1⟩
def F.AXIS_CFG_STANDSTILL_DELAY : Fld := ⟨0, 16⟩
def F.AXIS_DRIVE_ANGLE_OFS : Fld := ⟨20, 12⟩
def F.AXIS_DRIVE_HOLD_CURRENT : Fld := ⟨10, 10⟩
def F.AXIS_DRIVE_RUN_CURRENT : Fld := ⟨0, 10⟩
def F.AXIS_TARGET_LO_POS : Fld := ⟨0, 32⟩
def F.AXIS_TARGET_HI_POS : Fld := ⟨0, 32⟩
def F.AXIS_POS_MIN_LO_POS : Fld := ⟨0, 32⟩
def F.AXIS_POS_MIN_HI_POS : Fld := ⟨0, 32⟩
def F.AXIS_POS_MAX_LO_POS : Fld := ⟨0, 32⟩
def F.AXIS_POS_MAX_HI_POS : Fld := ⟨0, 32⟩
def F.AXIS_HOME_POS_LO_POS : Fld := ⟨0, 32⟩
def F.AXIS_HOME_POS_HI_POS : Fld := ⟨0, 32⟩
def F.AXIS_VMAX_VALUE : Fld := ⟨0, 32⟩
def F.AXIS_AMAX_VALUE : Fld := ⟨0, 32⟩
def F.AXIS_DMAX_VALUE : Fld := ⟨0, 32⟩
def F.AXIS_LIMIT_DECEL_VALUE : Fld := ⟨0, 32⟩
def F.AXIS_JMAX_VALUE : Fld := ⟨0, 32⟩
def F.AXIS_HOME_VEL_VALUE : Fld := ⟨0, 32⟩
def F.AXIS_TABLE_COUNT : Fld := ⟨16, 11⟩
def F.AXIS_TABLE_FIRST : Fld := ⟨0, 10⟩
def F.AXIS_HOME_CFG_LIM_INV : Fld := ⟨30, 1⟩
def F.AXIS_HOME_CFG_LIMP_PIN : Fld := ⟨25, 5⟩
def F.AXIS_HOME_CFG_LIMN_PIN : Fld := ⟨20, 5⟩
def F.AXIS_HOME_CFG_HOME_INV : Fld := ⟨19, 1⟩
def F.AXIS_HOME_CFG_HOME_DIR : Fld := ⟨18, 1⟩
def F.AXIS_HOME_CFG_HOME_PIN : Fld := ⟨13, 5⟩
def F.AXIS_HOME_CFG_DEBOUNCE : Fld := ⟨0, 7⟩
def F.AXIS_RELEASE_DIST_DIST : Fld := ⟨0, 32⟩
def F.AXIS_FOLLOW_LIMIT_DIST : Fld := ⟨0, 32⟩
def F.AXIS_RUN_UP_DIST : Fld := ⟨0, 32⟩
def F.AXIS_FB_SCALE_SCALE : Fld := ⟨0, 32⟩
def F.AXIS_PACE_HIGH_MARK : Fld := ⟨16, 16⟩
def F.AXIS_PACE_LOW_MARK : Fld := ⟨0, 16⟩
def F.AXIS_PACE_RESUME_RESUME_MARK : Fld := ⟨0, 16⟩
def F.AXIS_STATUS_STATE : Fld := ⟨28, 4⟩
def F.AXIS_STATUS_PACED : Fld := ⟨27, 1⟩
def F.AXIS_STATUS_RESUMABLE : Fld := ⟨26, 1⟩
def F.AXIS_STATUS_RUNUP_DUE : Fld := ⟨25, 1⟩
def F.AXIS_STATUS_HOMED : Fld := ⟨24, 1⟩
def F.AXIS_STATUS_POS_LOST : Fld := ⟨23, 1⟩
def F.AXIS_STATUS_CMD_REFUSED : Fld := ⟨15, 1⟩
def F.AXIS_STATUS_CFG_REFUSED : Fld := ⟨14, 1⟩
def F.AXIS_STATUS_TARGET_REFUSED : Fld := ⟨13, 1⟩
def F.AXIS_STATUS_OVERSHOOT_PLANNED : Fld := ⟨12, 1⟩
def F.AXIS_STATUS_LIMIT_STOP : Fld := ⟨11, 1⟩
def F.AXIS_STATUS_TABLE_LEFT : Fld := ⟨10, 1⟩
def F.AXIS_STATUS_FB_INVALID : Fld := ⟨9, 1⟩
def F.AXIS_STATUS_POWER : Fld := ⟨7, 1⟩
def F.AXIS_STATUS_FOLLOW : Fld := ⟨6, 1⟩
def F.AXIS_STATUS_FB_LOST : Fld := ⟨5, 1⟩
def F.AXIS_STATUS_HARD_LIMIT : Fld := ⟨4, 1⟩
def F.AXIS_STATUS_HOME_FAIL : Fld := ⟨3, 1⟩
def F.AXIS_STATUS_LIMIT_FAULT : Fld := ⟨2, 1⟩
def F.AXIS_STATUS_STEP_LIMIT : Fld := ⟨1, 1⟩
def F.AXIS_POS_LO_POS : Fld := ⟨0, 32⟩
def F.AXIS_POS_HI_POS : Fld := ⟨0, 32⟩
def F.AXIS_REMAIN_LO_POS : Fld := ⟨0, 32⟩
def F.AXIS_REMAIN_HI_POS : Fld := ⟨0, 32⟩
def F.AXIS_FB_POS_LO_POS : Fld := ⟨0, 32⟩
def F.AXIS_FB_POS_HI_POS : Fld := ⟨0, 32⟩
def F.AXIS_HOME_LATCH_LO_POS : Fld := ⟨0, 32⟩
def F.AXIS_HOME_LATCH_HI_POS : Fld := ⟨0, 32⟩
def F.AXIS_VEL_VALUE : Fld := ⟨0, 32⟩
def F.AXIS_FOLLOW_ERR_VALUE : Fld := ⟨0, 32⟩
def F.AXIS_PACE_STATUS_FILL : Fld := ⟨16, 16⟩
def F.AXIS_PACE_STATUS_FACTOR : Fld := ⟨0, 13⟩
def F.AXIS_RACE_RACE : Fld := ⟨0, 16⟩
def F.AXIS_COMMIT_TAKEN_LO_TIME : Fld := ⟨0, 32⟩
def F.AXIS_COMMIT_TAKEN_HI_TIME : Fld := ⟨0, 32⟩
def F.PH_STATUS_FRAMES : Fld := ⟨16, 16⟩
def F.PH_STATUS_FLT_SEEN : Fld := ⟨1, 1⟩
def F.PH_STATUS_FLT : Fld := ⟨0, 1⟩
def F.FRD_CTRL_HALT : Fld := ⟨1, 1⟩
def F.FRD_CTRL_START : Fld := ⟨0, 1⟩
def F.FRD_STATUS_ACC_COUNT : Fld := ⟨16, 16⟩
def F.FRD_STATUS_CMD_IGNORED : Fld := ⟨10, 1⟩
def F.FRD_STATUS_ACCESS_FAULT : Fld := ⟨9, 1⟩
def F.FRD_STATUS_CFG_REFUSED : Fld := ⟨8, 1⟩
def F.FRD_STATUS_CAUSE : Fld := ⟨4, 4⟩
def F.FRD_STATUS_CRITICAL : Fld := ⟨2, 1⟩
def F.FRD_STATUS_STATE : Fld := ⟨0, 2⟩
def F.FRD_ENTRY_ENTRY : Fld := ⟨3, 13⟩
def F.FRD_FAULT_PC_PC : Fld := ⟨0, 16⟩
def F.FRD_FAULT_ADDR_LO_ADDR : Fld := ⟨0, 32⟩
def F.FRD_FAULT_ADDR_HI_ADDR : Fld := ⟨0, 32⟩
def F.FRD_ACC_ADDR_LO_ADDR : Fld := ⟨0, 32⟩
def F.FRD_ACC_ADDR_HI_ADDR : Fld := ⟨0, 32⟩
def F.FRD_WDOG_TIMEOUT : Fld := ⟨0, 24⟩
def F.FRD_KICK_KICK : Fld := ⟨0, 32⟩
def F.FRD_WDOG_LEFT_LEFT : Fld := ⟨0, 24⟩
def F.FRD_RACE_RACE : Fld := ⟨0, 16⟩
def F.FRD_WIN_BASE_LO_BASE : Fld := ⟨12, 20⟩
def F.FRD_WIN_BASE_LO_ATOMIC : Fld := ⟨2, 1⟩
def F.FRD_WIN_BASE_LO_WRITE : Fld := ⟨1, 1⟩
def F.FRD_WIN_BASE_LO_READ : Fld := ⟨0, 1⟩
def F.FRD_WIN_BASE_HI_ADDR : Fld := ⟨0, 16⟩
def F.FRD_WIN_LIMIT_HI_ADDR : Fld := ⟨0, 16⟩
def F.FRD_WIN_LIMIT_LO_LIMIT : Fld := ⟨12, 20⟩
def F.FRD_Q_CFG_PEER_Q : Fld := ⟨10, 3⟩
def F.FRD_Q_CFG_PEER : Fld := ⟨4, 6⟩
def F.FRD_Q_CFG_DIR : Fld := ⟨3, 1⟩
def F.FRD_Q_CFG_KIND : Fld := ⟨0, 3⟩
def F.FRD_Q_STATUS_DROPS : Fld := ⟨16, 16⟩
def F.FRD_Q_STATUS_STAGE_ERR : Fld := ⟨6, 1⟩
def F.FRD_Q_STATUS_UNBOUND : Fld := ⟨5, 1⟩
def F.FRD_Q_STATUS_COUNT : Fld := ⟨0, 5⟩
def F.FRD_Q_BASE_LO_STAGE_BASE : Fld := ⟨0, 32⟩
def F.FRD_Q_BASE_HI_STAGE_BASE : Fld := ⟨0, 32⟩
def F.FRD_Q_SIZE_STAGE_SIZE : Fld := ⟨0, 32⟩
def F.FRD_Q_RELEASE_LO_RELEASE : Fld := ⟨0, 32⟩
def F.FRD_Q_RELEASE_HI_RELEASE : Fld := ⟨0, 32⟩
def F.FRD_Q_PROGRESS_PROGRESS : Fld := ⟨0, 32⟩
def F.FRD_EVT_PEND_LO_PEND : Fld := ⟨0, 32⟩
def F.FRD_EVT_PEND_HI_PEND : Fld := ⟨0, 32⟩
def F.FRD_EVT_RAISE_LINE : Fld := ⟨0, 6⟩
def F.FRD_SWEVT_RAISE : Fld := ⟨0, 1⟩
def F.TUFT_CTRL_COMMIT_PENDING : Fld := ⟨1, 1⟩
def F.TUFT_CTRL_COMMIT : Fld := ⟨0, 1⟩
def F.TUFT_OP_PARK : Fld := ⟨8, 1⟩
def F.TUFT_OP_OP : Fld := ⟨0, 2⟩
def F.TUFT_STATUS_MHZ : Fld := ⟨16, 16⟩
def F.TUFT_STATUS_CFG_REFUSED : Fld := ⟨4, 1⟩
def F.TUFT_STATUS_SWITCHING : Fld := ⟨3, 1⟩
def F.TUFT_STATUS_PARKED : Fld := ⟨2, 1⟩
def F.TUFT_STATUS_OP_IN_FORCE : Fld := ⟨0, 2⟩
def F.TUFT_RACE_RACE : Fld := ⟨0, 16⟩
def F.TUFT_OPS_A_OP1 : Fld := ⟨16, 16⟩
def F.TUFT_OPS_A_OP0 : Fld := ⟨0, 16⟩
def F.TUFT_OPS_B_OP3 : Fld := ⟨16, 16⟩
def F.TUFT_OPS_B_OP2 : Fld := ⟨0, 16⟩
def F.TUFT_COMMIT_TAKEN_LO_TIME : Fld := ⟨0, 32⟩
def F.TUFT_COMMIT_TAKEN_HI_TIME : Fld := ⟨0, 32⟩
def F.COMMONS_RACE_RACE : Fld := ⟨0, 16⟩
def F.MEM_ECC_SRAM_UE : Fld := ⟨16, 16⟩
def F.MEM_ECC_SRAM_CE : Fld := ⟨0, 16⟩
def F.MEM_ECC_DRAM_UE : Fld := ⟨16, 16⟩
def F.MEM_ECC_DRAM_CE : Fld := ⟨0, 16⟩
def F.MEM_UE_ADDR_LO_ADDR : Fld := ⟨0, 32⟩
def F.MEM_UE_ADDR_HI_ADDR : Fld := ⟨0, 32⟩
def F.MEM_SCRUB_SCRUB_HOURS : Fld := ⟨0, 8⟩
def F.MEM_MARCH_CTRL_RESULT : Fld := ⟨10, 2⟩
def F.MEM_MARCH_CTRL_BUSY : Fld := ⟨9, 1⟩
def F.MEM_MARCH_CTRL_START : Fld := ⟨8, 1⟩
def F.MEM_MARCH_CTRL_DESTRUCTIVE : Fld := ⟨7, 1⟩
def F.MEM_MARCH_CTRL_UNIT : Fld := ⟨0, 7⟩
def F.MEM_MARCH_STATUS_SOFT_REPAIRS : Fld := ⟨16, 16⟩
def F.MEM_MARCH_STATUS_FAILED_ROWS : Fld := ⟨0, 16⟩
def F.MEM_EXCH_STATUS_B_COLLIDED : Fld := ⟨31, 1⟩
def F.MEM_EXCH_STATUS_B_COUNT : Fld := ⟨16, 15⟩
def F.MEM_EXCH_STATUS_A_COUNT : Fld := ⟨0, 16⟩
def F.MEM_RACE_RACE : Fld := ⟨0, 16⟩
def F.MEM_VAULT_CMD_KIND : Fld := ⟨2, 8⟩
def F.MEM_VAULT_CMD_CMD : Fld := ⟨0, 2⟩
def F.MEM_VAULT_SRC_LO_SRC : Fld := ⟨0, 32⟩
def F.MEM_VAULT_SRC_HI_SRC : Fld := ⟨0, 32⟩
def F.MEM_VAULT_LEN_VALUE : Fld := ⟨0, 32⟩
def F.MEM_VAULT_ID_VALUE : Fld := ⟨0, 32⟩
def F.MEM_VAULT_CRC_VALUE : Fld := ⟨0, 32⟩
def F.MEM_VAULT_STATUS_REFUSED : Fld := ⟨24, 8⟩
def F.MEM_VAULT_STATUS_ERR : Fld := ⟨8, 4⟩
def F.MEM_VAULT_STATUS_BUSY : Fld := ⟨0, 1⟩
def F.MEM_VAULT_GEN_GEN : Fld := ⟨0, 32⟩
def F.MEM_VAULT_FREE_LOW_BLOCKS : Fld := ⟨16, 16⟩
def F.MEM_VAULT_FREE_FREE : Fld := ⟨0, 12⟩
def F.SPOOL_BASE_LO_BASE : Fld := ⟨0, 32⟩
def F.SPOOL_BASE_HI_BASE : Fld := ⟨0, 32⟩
def F.SPOOL_SIZE_SIZE : Fld := ⟨0, 17⟩
def F.SPOOL_INTAKE_PTR : Fld := ⟨0, 32⟩
def F.SPOOL_SEAL_PTR : Fld := ⟨0, 32⟩
def F.SPOOL_DRAIN_PTR : Fld := ⟨0, 32⟩
def F.SPOOL_FILL_CFG_REFUSED : Fld := ⟨16, 1⟩
def F.SPOOL_FILL_FILL : Fld := ⟨0, 16⟩
def F.DMA_CFG_CPL_TO : Fld := ⟨0, 4⟩
def F.DMA_INFLIGHT_PEAK : Fld := ⟨16, 16⟩
def F.DMA_INFLIGHT_COUNT : Fld := ⟨0, 13⟩
def F.DMA_LATE_CPL_COUNT : Fld := ⟨0, 16⟩
def F.DMA_RACE_COUNT : Fld := ⟨0, 16⟩
def F.CH_CTRL_COMMIT_PENDING : Fld := ⟨6, 1⟩
def F.CH_CTRL_COMMIT : Fld := ⟨5, 1⟩
def F.CH_CTRL_TRIGGER : Fld := ⟨4, 1⟩
def F.CH_CTRL_ABORT : Fld := ⟨3, 1⟩
def F.CH_CTRL_START : Fld := ⟨2, 1⟩
def F.CH_CTRL_ENABLE : Fld := ⟨0, 1⟩
def F.CH_CFG_PRIO : Fld := ⟨0, 3⟩
def F.CH_HOPMAX_HOPMAX : Fld := ⟨0, 32⟩
def F.CH_HEAD_LO_HEAD : Fld := ⟨0, 32⟩
def F.CH_HEAD_HI_HEAD : Fld := ⟨0, 32⟩
def F.CH_STATUS_TRIG_PEND : Fld := ⟨28, 4⟩
def F.CH_STATUS_HALT_WHY : Fld := ⟨24, 4⟩
def F.CH_STATUS_ENABLE_IGNORED : Fld := ⟨10, 1⟩
def F.CH_STATUS_CMD_IGNORED : Fld := ⟨9, 1⟩
def F.CH_STATUS_TRIG_OVERRUN : Fld := ⟨8, 1⟩
def F.CH_STATUS_HALTED_SEEN : Fld := ⟨7, 1⟩
def F.CH_STATUS_ERR_SEEN : Fld := ⟨6, 1⟩
def F.CH_STATUS_DONE_SEEN : Fld := ⟨5, 1⟩
def F.CH_STATUS_HALF_SEEN : Fld := ⟨4, 1⟩
def F.CH_STATUS_STATE : Fld := ⟨0, 3⟩
def F.CH_CUR_LO_ADDR : Fld := ⟨0, 32⟩
def F.CH_CUR_HI_ADDR : Fld := ⟨0, 32⟩
def F.CH_FETCH_ADDR_LO_ADDR : Fld := ⟨0, 32⟩
def F.CH_FETCH_ADDR_HI_ADDR : Fld := ⟨0, 32⟩
def F.CH_HOPS_COUNT : Fld := ⟨0, 32⟩
def F.CH_DONE_COUNT_COUNT : Fld := ⟨0, 32⟩
def F.CH_TRIG_COUNT_DISCARDED : Fld := ⟨16, 16⟩
def F.CH_TRIG_COUNT_OVERRUNS : Fld := ⟨0, 16⟩
def F.CH_RACE_RACE : Fld := ⟨0, 16⟩
def F.CH_COMMIT_TAKEN_LO_TIME : Fld := ⟨0, 32⟩
def F.CH_COMMIT_TAKEN_HI_TIME : Fld := ⟨0, 32⟩
def F.RING_CTRL_STARVED : Fld := ⟨3, 1⟩
def F.RING_CTRL_RING_ERR : Fld := ⟨2, 1⟩
def F.RING_CTRL_ACTIVE : Fld := ⟨1, 1⟩
def F.RING_CTRL_ENABLE : Fld := ⟨0, 1⟩
def F.RING_SIZE_CR_LOG2 : Fld := ⟨8, 5⟩
def F.RING_SIZE_GR_LOG2 : Fld := ⟨0, 5⟩
def F.GR_BASE_LO_BASE : Fld := ⟨0, 32⟩
def F.GR_BASE_HI_BASE : Fld := ⟨0, 32⟩
def F.CR_BASE_LO_BASE : Fld := ⟨0, 32⟩
def F.CR_BASE_HI_BASE : Fld := ⟨0, 32⟩
def F.GR_TAIL_INDEX : Fld := ⟨0, 16⟩
def F.CR_HEAD_INDEX : Fld := ⟨0, 16⟩
def F.GR_HEAD_INDEX : Fld := ⟨0, 16⟩
def F.CR_TAIL_INDEX : Fld := ⟨0, 16⟩
def F.RING_STAT_REFUSED : Fld := ⟨16, 16⟩
def F.RING_STAT_FILL : Fld := ⟨0, 16⟩
def F.HOST_SRC_MAP_EN : Fld := ⟨4, 1⟩
def F.HOST_SRC_MAP_STREAM : Fld := ⟨0, 4⟩
def F.HOST_CHUNK_AGE_CHUNK_AGE : Fld := ⟨0, 16⟩
def F.HOST_EVREC_DATA_LO_DATA : Fld := ⟨0, 32⟩
def F.HOST_EVREC_DATA_HI_DATA : Fld := ⟨0, 32⟩
def F.HOST_EVREC_CMD_STREAM : Fld := ⟨16, 4⟩
def F.HOST_EVREC_CMD_CODE : Fld := ⟨0, 16⟩
def F.HOST_FW_REQ_CAL_CODE : Fld := ⟨16, 16⟩
def F.HOST_FW_REQ_PACK_STREAM : Fld := ⟨8, 4⟩
def F.HOST_FW_REQ_PACK_VALUE : Fld := ⟨0, 8⟩
def F.HOST_STATUS_BAD_WRITE : Fld := ⟨16, 16⟩
def F.HOST_STATUS_CFG_REFUSED : Fld := ⟨0, 1⟩
def F.HOST_RACE_RACE : Fld := ⟨0, 16⟩
def F.TRUST_STATE_SLOT_STATE : Fld := ⟨8, 8⟩
def F.TRUST_STATE_DEBUG : Fld := ⟨7, 1⟩
def F.TRUST_STATE_MLDSA : Fld := ⟨6, 1⟩
def F.TRUST_STATE_SESSION : Fld := ⟨5, 1⟩
def F.TRUST_STATE_REVOKED_IN_FORCE : Fld := ⟨4, 1⟩
def F.TRUST_STATE_SLOT_IN_FORCE : Fld := ⟨0, 2⟩
def F.TRUST_SERIAL_LO_SERIAL : Fld := ⟨0, 32⟩
def F.TRUST_SERIAL_HI_SERIAL : Fld := ⟨0, 32⟩
def F.TRUST_OWNER_STATUS_REFUSED : Fld := ⟨16, 16⟩
def F.TRUST_OWNER_STATUS_LAST_CMD : Fld := ⟨4, 4⟩
def F.TRUST_OWNER_STATUS_RESULT : Fld := ⟨0, 4⟩
def F.SEAL_RACE_RACE : Fld := ⟨0, 16⟩
def F.SEALS_CHUNK_CHUNK : Fld := ⟨0, 32⟩
def F.SEALS_EPOCH_ANCHORS : Fld := ⟨16, 16⟩
def F.SEALS_EPOCH_EPOCH : Fld := ⟨0, 16⟩
def F.SEALS_TAG_TAG : Fld := ⟨0, 32⟩
def F.RLINK_STATUS_BAD_FLIT : Fld := ⟨16, 16⟩
def F.RLINK_STATUS_LINK_FAIL : Fld := ⟨8, 1⟩
def F.RLINK_STATUS_NB_VALID : Fld := ⟨7, 1⟩
def F.RLINK_STATUS_NEIGHBOUR : Fld := ⟨4, 3⟩
def F.RLINK_STATUS_STATE : Fld := ⟨0, 2⟩
def F.RLINK_ERR_REPLAYS : Fld := ⟨16, 16⟩
def F.RLINK_ERR_CRC_ERR : Fld := ⟨0, 16⟩
def F.RUN_CFG_TRIG_DELAY : Fld := ⟨16, 16⟩
def F.RUN_CFG_RMT_EN : Fld := ⟨1, 1⟩
def F.RUN_CFG_ENABLE : Fld := ⟨0, 1⟩
def F.RUN_RING_TIME_LOCK : Fld := ⟨13, 1⟩
def F.RUN_RING_DUP_ID : Fld := ⟨12, 1⟩
def F.RUN_RING_CLOSED : Fld := ⟨11, 1⟩
def F.RUN_RING_MASTER : Fld := ⟨8, 3⟩
def F.RUN_RING_PRESENT : Fld := ⟨0, 8⟩
def F.RUN_TRIG_SEND_DEST_MASK : Fld := ⟨8, 8⟩
def F.RUN_TRIG_SEND_CHANNEL : Fld := ⟨0, 4⟩
def F.RUN_TRIG_STAT_TRIG_LATE : Fld := ⟨16, 16⟩
def F.RUN_TRIG_STAT_SENT : Fld := ⟨0, 16⟩
def F.RUN_RMT_WIN_LIMIT : Fld := ⟨16, 16⟩
def F.RUN_RMT_WIN_BASE : Fld := ⟨0, 16⟩
def F.RUN_RMT_CMD_DEV : Fld := ⟨4, 3⟩
def F.RUN_RMT_CMD_SIZE : Fld := ⟨2, 2⟩
def F.RUN_RMT_CMD_WRITE : Fld := ⟨1, 1⟩
def F.RUN_RMT_CMD_GO : Fld := ⟨0, 1⟩
def F.RUN_RMT_ADDR_OFFSET : Fld := ⟨0, 18⟩
def F.RUN_RMT_STATUS_LATE_RSP : Fld := ⟨16, 16⟩
def F.RUN_RMT_STATUS_PENDING : Fld := ⟨8, 1⟩
def F.RUN_RMT_STATUS_RESULT : Fld := ⟨0, 4⟩
def F.RUN_RMT_DATA_DATA : Fld := ⟨0, 32⟩
def F.RUN_POS_OUT_SHARE_NS : Fld := ⟨16, 16⟩
def F.RUN_POS_OUT_INTERFACE : Fld := ⟨1, 3⟩
def F.RUN_POS_OUT_EN : Fld := ⟨0, 1⟩
def F.RUN_POS_IN_SRC_IF : Fld := ⟨7, 3⟩
def F.RUN_POS_IN_SRC_DEV : Fld := ⟨4, 3⟩
def F.RUN_POS_IN_LOCAL : Fld := ⟨1, 3⟩
def F.RUN_POS_IN_EN : Fld := ⟨0, 1⟩
def F.RUN_RACE_RACE : Fld := ⟨0, 16⟩
def F.RUN_FWD_STREAM : Fld := ⟨5, 4⟩
def F.RUN_FWD_DEVICE : Fld := ⟨2, 3⟩
def F.RUN_FWD_IN_EN : Fld := ⟨1, 1⟩
def F.RUN_FWD_OUT_EN : Fld := ⟨0, 1⟩
def F.TIME_NOW_LO_TIME : Fld := ⟨0, 32⟩
def F.TIME_NOW_HI_TIME : Fld := ⟨0, 32⟩
def F.TIME_CFG_PTM_MS : Fld := ⟨12, 10⟩
def F.TIME_CFG_STEP_BACK : Fld := ⟨11, 1⟩
def F.TIME_CFG_TSYNC_DIR : Fld := ⟨10, 1⟩
def F.TIME_CFG_TSYNC_EN : Fld := ⟨9, 1⟩
def F.TIME_CFG_PRIO : Fld := ⟨0, 8⟩
def F.TIME_STEER_LOCK_NS : Fld := ⟨16, 16⟩
def F.TIME_STEER_SLEW_MAX : Fld := ⟨0, 10⟩
def F.TIME_STEP_NS_STEP_NS : Fld := ⟨0, 32⟩
def F.TIME_PTM_OFS_LO_OFS : Fld := ⟨0, 32⟩
def F.TIME_PTM_OFS_HI_OFS : Fld := ⟨0, 32⟩
def F.TIME_TSYNC_TSYNC_OFS : Fld := ⟨0, 30⟩
def F.TIME_TSYNC_W_TSYNC_W : Fld := ⟨0, 16⟩
def F.TIME_STATUS_SET_REFUSED : Fld := ⟨11, 1⟩
def F.TIME_STATUS_STEPPED : Fld := ⟨10, 1⟩
def F.TIME_STATUS_REF_LOST : Fld := ⟨9, 1⟩
def F.TIME_STATUS_TIME_COLD : Fld := ⟨8, 1⟩
def F.TIME_STATUS_VALID : Fld := ⟨4, 4⟩
def F.TIME_STATUS_HOLDOVER : Fld := ⟨3, 1⟩
def F.TIME_STATUS_LOCKED : Fld := ⟨2, 1⟩
def F.TIME_STATUS_SRC : Fld := ⟨0, 2⟩
def F.TIME_ERR_VALUE : Fld := ⟨0, 32⟩
def F.TIME_FREQ_VALUE : Fld := ⟨0, 32⟩
def F.TIME_ISL_LOCK_LOCK : Fld := ⟨0, 32⟩
def F.TIME_SET_LO_SET : Fld := ⟨0, 32⟩
def F.TIME_SET_HI_SET : Fld := ⟨0, 32⟩
def F.TIME_SET_CMD_SET : Fld := ⟨0, 32⟩
def F.TIME_SET_CMD_APPLY : Fld := ⟨0, 1⟩
def F.TIME_RACE_RACE : Fld := ⟨0, 16⟩
def F.TRIM_CTRL_BOARD_REF_MV : Fld := ⟨16, 16⟩
def F.TRIM_CTRL_APPLY_PORT : Fld := ⟨8, 4⟩
def F.TRIM_CTRL_STEP : Fld := ⟨1, 3⟩
def F.TRIM_CTRL_START : Fld := ⟨0, 1⟩
def F.TRIM_STATUS_FAILED : Fld := ⟨16, 16⟩
def F.TRIM_STATUS_SKIPPED : Fld := ⟨0, 16⟩
def F.TRIM_COUNT_TRIMS : Fld := ⟨0, 32⟩
def F.TRIM_TIME_LO_TIME : Fld := ⟨0, 32⟩
def F.TRIM_TIME_HI_TIME : Fld := ⟨0, 32⟩
def F.TRIM_ITEM_FACTORY : Fld := ⟨16, 16⟩
def F.TRIM_ITEM_CURRENT : Fld := ⟨0, 16⟩
def F.TMR_RACE_RACE : Fld := ⟨0, 16⟩
def F.TMRN_CTRL_COMMIT_PENDING : Fld := ⟨1, 1⟩
def F.TMRN_CTRL_COMMIT : Fld := ⟨0, 1⟩
def F.TMRN_CFG_PWM_INV : Fld := ⟨2, 1⟩
def F.TMRN_CFG_MODE : Fld := ⟨0, 2⟩
def F.TMRN_PERIOD_NS : Fld := ⟨0, 32⟩
def F.TMRN_PHASE_NS : Fld := ⟨0, 32⟩
def F.TMRN_HIGH_NS : Fld := ⟨0, 32⟩
def F.TMRN_STATUS_COUNT : Fld := ⟨16, 16⟩
def F.TMRN_STATUS_FIRED : Fld := ⟨2, 1⟩
def F.TMRN_STATUS_RUNNING : Fld := ⟨1, 1⟩
def F.TMRN_STATUS_OUTPUT : Fld := ⟨0, 1⟩
def F.TMRN_NEXT_LO_TIME : Fld := ⟨0, 32⟩
def F.TMRN_NEXT_HI_TIME : Fld := ⟨0, 32⟩
def F.TMRN_COMMIT_TAKEN_LO_TIME : Fld := ⟨0, 32⟩
def F.TMRN_COMMIT_TAKEN_HI_TIME : Fld := ⟨0, 32⟩
def F.GPIO_CFG_INDEX : Fld := ⟨5, 6⟩
def F.GPIO_CFG_OD : Fld := ⟨4, 1⟩
def F.GPIO_CFG_FUNC : Fld := ⟨0, 4⟩
def F.GPIO_IN_PINS : Fld := ⟨0, 32⟩
def F.GPIO_OUT_PINS : Fld := ⟨0, 32⟩
def F.GPIO_MISROUTE_PINS : Fld := ⟨0, 32⟩
def F.GPIO_STATUS_CFG_REFUSED : Fld := ⟨0, 1⟩
def F.PWR_STATUS_HOT_ISLAND : Fld := ⟨24, 8⟩
def F.PWR_STATUS_LEVEL : Fld := ⟨16, 3⟩
def F.PWR_STATUS_BAND : Fld := ⟨14, 2⟩
def F.PWR_STATUS_AVS_ERR : Fld := ⟨7, 1⟩
def F.PWR_STATUS_RATE_WARN : Fld := ⟨6, 1⟩
def F.PWR_STATUS_WARN_ACTIVE : Fld := ⟨5, 1⟩
def F.PWR_STATUS_THROTTLE_ACTIVE : Fld := ⟨4, 1⟩
def F.PWR_STATUS_VAON_B_OK : Fld := ⟨3, 1⟩
def F.PWR_STATUS_VAON_A_OK : Fld := ⟨2, 1⟩
def F.PWR_STATUS_AON_SRC : Fld := ⟨1, 1⟩
def F.PWR_THRESH_HYST : Fld := ⟨24, 4⟩
def F.PWR_THRESH_SHUTDOWN : Fld := ⟨16, 8⟩
def F.PWR_THRESH_THROTTLE : Fld := ⟨8, 8⟩
def F.PWR_THRESH_WARN : Fld := ⟨0, 8⟩
def F.PWR_THROTTLE_FLOOR : Fld := ⟨16, 3⟩
def F.PWR_THROTTLE_PEAK : Fld := ⟨8, 3⟩
def F.PWR_THROTTLE_THERMAL : Fld := ⟨0, 3⟩
def F.PWR_RATE_RATE : Fld := ⟨16, 16⟩
def F.PWR_RATE_MEAN : Fld := ⟨0, 16⟩
def F.PWR_HOT_T : Fld := ⟨0, 16⟩
def F.PWR_AVS_TARGET : Fld := ⟨16, 10⟩
def F.PWR_AVS_READBACK : Fld := ⟨0, 10⟩
def F.PWR_AVS_CFG_PROCESS : Fld := ⟨24, 8⟩
def F.PWR_AVS_CFG_AVS_SETTLE : Fld := ⟨0, 16⟩
def F.PWR_AON_SWITCHES : Fld := ⟨16, 16⟩
def F.PWR_LOG_TEMP_LOG : Fld := ⟨0, 16⟩
def F.PWR_RACE_RACE : Fld := ⟨0, 16⟩
def F.PWR_BROKEN_BROKEN : Fld := ⟨0, 32⟩
def F.PWR_SENSOR_WHY : Fld := ⟨28, 2⟩
def F.PWR_SENSOR_BROKEN : Fld := ⟨27, 1⟩
def F.PWR_SENSOR_T : Fld := ⟨0, 16⟩
def F.RUN_CTRL_MAINT_EXIT : Fld := ⟨4, 1⟩
def F.RUN_CTRL_MAINT_ENTER : Fld := ⟨3, 1⟩
def F.RUN_CTRL_ABANDON : Fld := ⟨2, 1⟩
def F.RUN_CTRL_STOP : Fld := ⟨1, 1⟩
def F.RUN_CTRL_START : Fld := ⟨0, 1⟩
def F.RUN_STATUS_RUN_ID : Fld := ⟨16, 16⟩
def F.RUN_STATUS_RECOVERING : Fld := ⟨5, 1⟩
def F.RUN_STATUS_ACTIVE : Fld := ⟨4, 1⟩
def F.RUN_STATUS_RESULT : Fld := ⟨0, 4⟩
def F.RUN_WDOG_LOCK : Fld := ⟨31, 1⟩
def F.RUN_WDOG_TIMEOUT : Fld := ⟨0, 24⟩
def F.RUN_KICK_KICK : Fld := ⟨0, 32⟩
def F.RUN_WDOG_LEFT_LEFT : Fld := ⟨0, 24⟩
def F.PEAT_NEWEST_LO_SEQ : Fld := ⟨0, 32⟩
def F.PEAT_NEWEST_HI_SEQ : Fld := ⟨0, 32⟩
def F.PEAT_OLDEST_LO_SEQ : Fld := ⟨0, 32⟩
def F.PEAT_OLDEST_HI_SEQ : Fld := ⟨0, 32⟩
def F.PEAT_STATUS_LOST : Fld := ⟨16, 16⟩
def F.PEAT_STATUS_CFG_REFUSED : Fld := ⟨7, 1⟩
def F.PEAT_STATUS_QUEUED : Fld := ⟨0, 7⟩
def F.PEAT_FW_DATA_DATA : Fld := ⟨0, 32⟩
def F.PEAT_FW_CMD_TYPE : Fld := ⟨0, 16⟩
def F.REQ_RUN_START : Fld := ⟨0, 1⟩
def F.REQ_RUN_STOP : Fld := ⟨1, 1⟩
def F.REQ_SHUTTER_PORTS : Fld := ⟨0, 4⟩
def F.REQ_PACKING_STREAM : Fld := ⟨16, 4⟩
def F.REQ_PACKING_VALUE : Fld := ⟨0, 8⟩
def F.REQ_CAL_CODE : Fld := ⟨0, 16⟩
def F.REQ_MAINT_ENTER : Fld := ⟨0, 1⟩
def F.REQ_MAINT_EXIT : Fld := ⟨1, 1⟩
def F.REQ_STATUS_DENIED : Fld := ⟨16, 16⟩
def F.REQ_STATUS_LAST : Fld := ⟨8, 8⟩
def F.REQ_STATUS_RESULT : Fld := ⟨0, 4⟩
def F.EVT_ACK_SOURCE : Fld := ⟨0, 10⟩

end Sys2Proof.Machine
end

