-- ==== Sys2Proof/Machine/RegMap.lean ====
section
/-!
DEFINITION. The addresses of the registers, from the register sections of spec/ (each definition names its chapter), and
for each register of a block its reset value and the bits of each access code (00 R10, R11, R12). Registers of the
host's control window have the key `winBase` plus their window offset (15 R460).
-/

namespace Sys2Proof.Machine

/-- SYS_ID, RO: 01 R32 (its register section). -/
def R.SYS_ID : Nat := 0x5000000000
/-- SYS_STATE, RO-H: 01 R32 (its register section). -/
def R.SYS_STATE : Nat := 0x5000000004
/-- SYS_CAUSE, RO-H: 01 R32 (its register section). -/
def R.SYS_CAUSE : Nat := 0x5000000008
/-- SYS_RACE, RO-H: 01 R32 (its register section). -/
def R.SYS_RACE : Nat := 0x500000000c
/-- EVT_ROUTE_n, RW: 01 R37 (its register section). -/
def R.EVT_ROUTE (n : Nat) : Nat := 0x5000500000 + 0x4 * n
/-- EVT_LOST, RO-H: 01 R37 (its register section). -/
def R.EVT_LOST : Nat := 0x5000501000
/-- EVT_RACE, RO-H: 01 R37 (its register section). -/
def R.EVT_RACE : Nat := 0x5000501004
/-- BOOT_STATUS, RO-H: 02 R76 (its register section). -/
def R.BOOT_STATUS : Nat := 0x5000100000
/-- BOOT_CONFLICT, RO-H: 02 R76 (its register section). -/
def R.BOOT_CONFLICT : Nat := 0x5000100004
/-- BOOT_CONFLICT_IDX_LO, RO-H: 02 R76 (its register section). -/
def R.BOOT_CONFLICT_IDX_LO : Nat := 0x5000100008
/-- BOOT_CONFLICT_IDX_HI, RO-H: 02 R76 (its register section). -/
def R.BOOT_CONFLICT_IDX_HI : Nat := 0x500010000c
/-- BOOT_SPORE, RO-H: 02 R76 (its register section). -/
def R.BOOT_SPORE : Nat := 0x5000100010
/-- BOOT_BUILD, RO-H: 02 R76 (its register section). -/
def R.BOOT_BUILD : Nat := 0x5000100014
/-- BOOT_READY_TIME, RO-H: 02 R76 (its register section). -/
def R.BOOT_READY_TIME : Nat := 0x5000100018
/-- MBX_CMD, WO: 02 R77 (its register section). -/
def R.MBX_CMD : Nat := 0x1000000200000
/-- MBX_STATUS, RO-H: 02 R77 (its register section). -/
def R.MBX_STATUS : Nat := 0x1000000200004
/-- MBX_OFFSET, RW: 02 R77 (its register section). -/
def R.MBX_OFFSET : Nat := 0x1000000200008
/-- MBX_LENGTH, RW: 02 R77 (its register section). -/
def R.MBX_LENGTH : Nat := 0x100000020000c
/-- ENC_n_CFG, RW-S: 03 R118 (its register section). -/
def R.ENC_CFG (n : Nat) : Nat := 0x5000800000 + 0x100 * n
/-- ENC_n_CTRL, RW: 03 R118 (its register section). -/
def R.ENC_CTRL (n : Nat) : Nat := 0x5000800004 + 0x100 * n
/-- ENC_n_STATUS, RO-H and W1C: 03 R118 (its register section). -/
def R.ENC_STATUS (n : Nat) : Nat := 0x5000800008 + 0x100 * n
/-- ENC_n_POS_LO, RO-H: 03 R118 (its register section). -/
def R.ENC_POS_LO (n : Nat) : Nat := 0x5000800010 + 0x100 * n
/-- ENC_n_POS_HI, RO-H: 03 R118 (its register section). -/
def R.ENC_POS_HI (n : Nat) : Nat := 0x5000800014 + 0x100 * n
/-- ENC_n_PRESET_LO, RW-S: 03 R118 (its register section). -/
def R.ENC_PRESET_LO (n : Nat) : Nat := 0x5000800018 + 0x100 * n
/-- ENC_n_PRESET_HI, RW-S: 03 R118 (its register section). -/
def R.ENC_PRESET_HI (n : Nat) : Nat := 0x500080001c + 0x100 * n
/-- ENC_n_INDEX_LO, RO-H: 03 R118 (its register section). -/
def R.ENC_INDEX_LO (n : Nat) : Nat := 0x5000800020 + 0x100 * n
/-- ENC_n_INDEX_HI, RO-H: 03 R118 (its register section). -/
def R.ENC_INDEX_HI (n : Nat) : Nat := 0x5000800024 + 0x100 * n
/-- ENC_n_INDEX_PREV_LO, RO-H: 03 R118 (its register section). -/
def R.ENC_INDEX_PREV_LO (n : Nat) : Nat := 0x5000800028 + 0x100 * n
/-- ENC_n_INDEX_PREV_HI, RO-H: 03 R118 (its register section). -/
def R.ENC_INDEX_PREV_HI (n : Nat) : Nat := 0x500080002c + 0x100 * n
/-- ENC_n_INDEX_INFO, RO-H: 03 R118 (its register section). -/
def R.ENC_INDEX_INFO (n : Nat) : Nat := 0x5000800030 + 0x100 * n
/-- ENC_n_SPEED, RO-H: 03 R118 (its register section). -/
def R.ENC_SPEED (n : Nat) : Nat := 0x5000800034 + 0x100 * n
/-- ENC_n_SPEED_STAT, RO-H: 03 R118 (its register section). -/
def R.ENC_SPEED_STAT (n : Nat) : Nat := 0x5000800038 + 0x100 * n
/-- ENC_n_SPEED_WIN, RW-S: 03 R118 (its register section). -/
def R.ENC_SPEED_WIN (n : Nat) : Nat := 0x500080003c + 0x100 * n
/-- ENC_n_SC_NOM, RW-S: 03 R118 (its register section). -/
def R.ENC_SC_NOM (n : Nat) : Nat := 0x5000800040 + 0x100 * n
/-- ENC_n_SC_OFS, RO-H: 03 R118 (its register section). -/
def R.ENC_SC_OFS (n : Nat) : Nat := 0x5000800044 + 0x100 * n
/-- ENC_n_SC_GP, RO-H: 03 R118 (its register section). -/
def R.ENC_SC_GP (n : Nat) : Nat := 0x5000800048 + 0x100 * n
/-- ENC_n_ERRCNT, RO-H: 03 R118 (its register section). -/
def R.ENC_ERRCNT (n : Nat) : Nat := 0x500080004c + 0x100 * n
/-- ENC_n_RACE, RO-H: 03 R118 (its register section). -/
def R.ENC_RACE (n : Nat) : Nat := 0x5000800050 + 0x100 * n
/-- CMP_m_CFG, RW-S: 03 R118 (its register section). -/
def R.CMP_CFG (n : Nat) : Nat := 0x5000801000 + 0x20 * n
/-- CMP_m_CTRL, RW: 03 R118 (its register section). -/
def R.CMP_CTRL (n : Nat) : Nat := 0x5000801004 + 0x20 * n
/-- CMP_m_TARGET_LO, RW-S: 03 R118 (its register section). -/
def R.CMP_TARGET_LO (n : Nat) : Nat := 0x5000801008 + 0x20 * n
/-- CMP_m_TARGET_HI, RW-S: 03 R118 (its register section). -/
def R.CMP_TARGET_HI (n : Nat) : Nat := 0x500080100c + 0x20 * n
/-- CMP_m_STEP, RW-S: 03 R118 (its register section). -/
def R.CMP_STEP (n : Nat) : Nat := 0x5000801010 + 0x20 * n
/-- CMP_m_STATUS, RO-H and W1C: 03 R118 (its register section). -/
def R.CMP_STATUS (n : Nat) : Nat := 0x5000801014 + 0x20 * n
/-- CMP_m_TIME_LO, RO-H: 03 R118 (its register section). -/
def R.CMP_TIME_LO (n : Nat) : Nat := 0x5000801018 + 0x20 * n
/-- CMP_m_TIME_HI, RO-H: 03 R118 (its register section). -/
def R.CMP_TIME_HI (n : Nat) : Nat := 0x500080101c + 0x20 * n
/-- PT_t_CFG, RW-S: 03 R118 (its register section). -/
def R.PT_CFG (n : Nat) : Nat := 0x5000802000 + 0x20 * n
/-- PT_t_CTRL, RW: 03 R118 (its register section). -/
def R.PT_CTRL (n : Nat) : Nat := 0x5000802004 + 0x20 * n
/-- IMG_n_CTRL, RW: 04 R158 (its register section). -/
def R.IMG_CTRL (n : Nat) : Nat := 0x5001000000 + 0x100000 * n
/-- IMG_n_LANE_CFG, RW: 04 R158 (its register section). -/
def R.IMG_LANE_CFG (n : Nat) : Nat := 0x5001000004 + 0x100000 * n
/-- IMG_n_LANE_STATUS, RO-H: 04 R158 (its register section). -/
def R.IMG_LANE_STATUS (n : Nat) : Nat := 0x5001000008 + 0x100000 * n
/-- IMG_n_LANE_ERR, RO-H: 04 R158 (its register section). -/
def R.IMG_LANE_ERR (n : Nat) : Nat := 0x500100000c + 0x100000 * n
/-- IMG_n_FRAME_CFG, RW: 04 R158 (its register section). -/
def R.IMG_FRAME_CFG (n : Nat) : Nat := 0x5001000010 + 0x100000 * n
/-- IMG_n_SYNC, RW: 04 R158 (its register section). -/
def R.IMG_SYNC (n : Nat) : Nat := 0x5001000014 + 0x100000 * n
/-- IMG_n_GEOM, RW: 04 R158 (its register section). -/
def R.IMG_GEOM (n : Nat) : Nat := 0x5001000018 + 0x100000 * n
/-- IMG_n_SPI_CFG, RW: 04 R158 (its register section). -/
def R.IMG_SPI_CFG (n : Nat) : Nat := 0x500100001c + 0x100000 * n
/-- IMG_n_SCRIPT, RW: 04 R158 (its register section). -/
def R.IMG_SCRIPT (n : Nat) : Nat := 0x5001000020 + 0x100000 * n
/-- IMG_n_SCRIPT_READ, RO-H: 04 R158 (its register section). -/
def R.IMG_SCRIPT_READ (n : Nat) : Nat := 0x5001000024 + 0x100000 * n
/-- IMG_n_TRIG_CFG, RW-S: 04 R158 (its register section). -/
def R.IMG_TRIG_CFG (n : Nat) : Nat := 0x5001000040 + 0x100000 * n
/-- IMG_n_PITCH_LO, RW-S: 04 R158 (its register section). -/
def R.IMG_PITCH_LO (n : Nat) : Nat := 0x5001000044 + 0x100000 * n
/-- IMG_n_PITCH_HI, RW-S: 04 R158 (its register section). -/
def R.IMG_PITCH_HI (n : Nat) : Nat := 0x5001000048 + 0x100000 * n
/-- IMG_n_ORIGIN_LO, RW-S: 04 R158 (its register section). -/
def R.IMG_ORIGIN_LO (n : Nat) : Nat := 0x500100004c + 0x100000 * n
/-- IMG_n_ORIGIN_HI, RW-S: 04 R158 (its register section). -/
def R.IMG_ORIGIN_HI (n : Nat) : Nat := 0x5001000050 + 0x100000 * n
/-- IMG_n_EXPOSURE, RW-S: 04 R158 (its register section). -/
def R.IMG_EXPOSURE (n : Nat) : Nat := 0x5001000054 + 0x100000 * n
/-- IMG_n_LINE_MIN, RW-S: 04 R158 (its register section). -/
def R.IMG_LINE_MIN (n : Nat) : Nat := 0x5001000058 + 0x100000 * n
/-- IMG_n_TIMING, RW-S: 04 R158 (its register section). -/
def R.IMG_TIMING (n : Nat) : Nat := 0x500100005c + 0x100000 * n
/-- IMG_n_PRED, RW-S: 04 R158 (its register section). -/
def R.IMG_PRED (n : Nat) : Nat := 0x5001000060 + 0x100000 * n
/-- IMG_n_DATA_TO, RW-S: 04 R158 (its register section). -/
def R.IMG_DATA_TO (n : Nat) : Nat := 0x5001000064 + 0x100000 * n
/-- IMG_n_STATUS, RO-H and W1C: 04 R158 (its register section). -/
def R.IMG_STATUS (n : Nat) : Nat := 0x5001000080 + 0x100000 * n
/-- IMG_n_LAST_LO, RO-H: 04 R158 (its register section). -/
def R.IMG_LAST_LO (n : Nat) : Nat := 0x5001000084 + 0x100000 * n
/-- IMG_n_LAST_HI, RO-H: 04 R158 (its register section). -/
def R.IMG_LAST_HI (n : Nat) : Nat := 0x5001000088 + 0x100000 * n
/-- IMG_n_NEXT_LO, RO-H: 04 R158 (its register section). -/
def R.IMG_NEXT_LO (n : Nat) : Nat := 0x500100008c + 0x100000 * n
/-- IMG_n_NEXT_HI, RO-H: 04 R158 (its register section). -/
def R.IMG_NEXT_HI (n : Nat) : Nat := 0x5001000090 + 0x100000 * n
/-- IMG_n_LINES, RO-H: 04 R158 (its register section). -/
def R.IMG_LINES (n : Nat) : Nat := 0x5001000094 + 0x100000 * n
/-- IMG_n_SKIPS, RO-H: 04 R158 (its register section). -/
def R.IMG_SKIPS (n : Nat) : Nat := 0x5001000098 + 0x100000 * n
/-- IMG_n_RACE, RO-H: 04 R158 (its register section). -/
def R.IMG_RACE (n : Nat) : Nat := 0x500100009c + 0x100000 * n
/-- IMG_n_COMMIT_TAKEN_LO, RO-H: 04 R158 (its register section). -/
def R.IMG_COMMIT_TAKEN_LO (n : Nat) : Nat := 0x50010000a0 + 0x100000 * n
/-- IMG_n_COMMIT_TAKEN_HI, RO-H: 04 R158 (its register section). -/
def R.IMG_COMMIT_TAKEN_HI (n : Nat) : Nat := 0x50010000a4 + 0x100000 * n
/-- IMG_n_COR_CTRL, RW: 05 R193 (its register section). -/
def R.IMG_COR_CTRL (n : Nat) : Nat := 0x5001001000 + 0x100000 * n
/-- IMG_n_COR_CFG, RW-S: 05 R193 (its register section). -/
def R.IMG_COR_CFG (n : Nat) : Nat := 0x5001001004 + 0x100000 * n
/-- IMG_n_SETS_LO, RW: 05 R193 (its register section). -/
def R.IMG_SETS_LO (n : Nat) : Nat := 0x5001001008 + 0x100000 * n
/-- IMG_n_SETS_HI, RW: 05 R193 (its register section). -/
def R.IMG_SETS_HI (n : Nat) : Nat := 0x500100100c + 0x100000 * n
/-- IMG_n_COLOUR_OFS_A, RW: 05 R193 (its register section). -/
def R.IMG_COLOUR_OFS_A (n : Nat) : Nat := 0x5001001010 + 0x100000 * n
/-- IMG_n_COLOUR_OFS_B, RW: 05 R193 (its register section). -/
def R.IMG_COLOUR_OFS_B (n : Nat) : Nat := 0x5001001014 + 0x100000 * n
/-- IMG_n_REF_COLS, RW-S: 05 R193 (its register section). -/
def R.IMG_REF_COLS (n : Nat) : Nat := 0x5001001018 + 0x100000 * n
/-- IMG_n_REF_LEVEL, RW-S: 05 R193 (its register section). -/
def R.IMG_REF_LEVEL (n : Nat) : Nat := 0x500100101c + 0x100000 * n
/-- IMG_n_NORM_LIMITS, RW-S: 05 R193 (its register section). -/
def R.IMG_NORM_LIMITS (n : Nat) : Nat := 0x5001001020 + 0x100000 * n
/-- IMG_n_NORM_FACTOR_c, RO-H: 05 R193 (its register section). -/
def R.IMG_NORM_FACTOR (n : Nat) (i : Nat) : Nat := 0x5001001024 + 0x100000 * n + 0x4 * i
/-- IMG_n_HOLD_CFG, RW: 05 R193 (its register section). -/
def R.IMG_HOLD_CFG (n : Nat) : Nat := 0x5001001030 + 0x100000 * n
/-- IMG_n_HOLD_LIMIT, RW: 05 R193 (its register section). -/
def R.IMG_HOLD_LIMIT (n : Nat) : Nat := 0x5001001034 + 0x100000 * n
/-- IMG_n_COR_STATUS, RO-H and W1C: 05 R193 (its register section). -/
def R.IMG_COR_STATUS (n : Nat) : Nat := 0x5001001040 + 0x100000 * n
/-- IMG_n_COR_COUNT, RO-H: 05 R193 (its register section). -/
def R.IMG_COR_COUNT (n : Nat) : Nat := 0x5001001044 + 0x100000 * n
/-- IMG_n_WITHHELD, RO-H: 05 R193 (its register section). -/
def R.IMG_WITHHELD (n : Nat) : Nat := 0x5001001048 + 0x100000 * n
/-- IMG_n_INTERP, RO-H: 05 R193 (its register section). -/
def R.IMG_INTERP (n : Nat) : Nat := 0x500100104c + 0x100000 * n
/-- IMG_n_DEFECT_k, RO-H: 05 R193 (its register section). -/
def R.IMG_DEFECT (n : Nat) (i : Nat) : Nat := 0x5001001400 + 0x100000 * n + 0x4 * i
/-- LCn_CTRL, RW: 06 R219 (its register section). -/
def R.LC_CTRL (n : Nat) : Nat := 0x5000b00000 + 0x1000 * n
/-- LCn_CFG, RW: 06 R219 (its register section). -/
def R.LC_CFG (n : Nat) : Nat := 0x5000b00004 + 0x1000 * n
/-- LCn_LAYOUT, RW: 06 R219 (its register section). -/
def R.LC_LAYOUT (n : Nat) : Nat := 0x5000b00008 + 0x1000 * n
/-- LCn_HDR, RW: 06 R219 (its register section). -/
def R.LC_HDR (n : Nat) : Nat := 0x5000b0000c + 0x1000 * n
/-- LCn_STATUS_POS, RW: 06 R219 (its register section). -/
def R.LC_STATUS_POS (n : Nat) : Nat := 0x5000b00010 + 0x1000 * n
/-- LCn_PERIOD, RW-S: 06 R219 (its register section). -/
def R.LC_PERIOD (n : Nat) : Nat := 0x5000b00014 + 0x1000 * n
/-- LCn_STROBE, RW-S: 06 R219 (its register section). -/
def R.LC_STROBE (n : Nat) : Nat := 0x5000b00018 + 0x1000 * n
/-- LCn_MATRIX, RW: 06 R219 (its register section). -/
def R.LC_MATRIX (n : Nat) : Nat := 0x5000b0001c + 0x1000 * n
/-- LCn_STATE, RO-H and W1C: 06 R219 (its register section). -/
def R.LC_STATE (n : Nat) : Nat := 0x5000b00020 + 0x1000 * n
/-- LCn_TEMP, RW: 06 R219 (its register section). -/
def R.LC_TEMP (n : Nat) : Nat := 0x5000b00024 + 0x1000 * n
/-- LCn_DERATE_CFG, RW: 06 R219 (its register section). -/
def R.LC_DERATE_CFG (n : Nat) : Nat := 0x5000b00028 + 0x1000 * n
/-- LCn_FRAMES, RO-H: 06 R219 (its register section). -/
def R.LC_FRAMES (n : Nat) : Nat := 0x5000b0002c + 0x1000 * n
/-- LCn_RACE, RO-H: 06 R219 (its register section). -/
def R.LC_RACE (n : Nat) : Nat := 0x5000b00030 + 0x1000 * n
/-- LCn_COMMIT_TAKEN_LO, RO-H: 06 R219 (its register section). -/
def R.LC_COMMIT_TAKEN_LO (n : Nat) : Nat := 0x5000b00038 + 0x1000 * n
/-- LCn_COMMIT_TAKEN_HI, RO-H: 06 R219 (its register section). -/
def R.LC_COMMIT_TAKEN_HI (n : Nat) : Nat := 0x5000b0003c + 0x1000 * n
/-- LCn_DERATE_i, RW: 06 R219 (its register section). -/
def R.LC_DERATE (n : Nat) (i : Nat) : Nat := 0x5000b00040 + 0x1000 * n + 0x4 * i
/-- LCn_SCRIPT, RW: 06 R219 (its register section). -/
def R.LC_SCRIPT (n : Nat) : Nat := 0x5000b00080 + 0x1000 * n
/-- LCn_SCRIPT_READ, RO-H: 06 R219 (its register section). -/
def R.LC_SCRIPT_READ (n : Nat) : Nat := 0x5000b00084 + 0x1000 * n
/-- LCn_SCRIPT_CFG, RW: 06 R219 (its register section). -/
def R.LC_SCRIPT_CFG (n : Nat) : Nat := 0x5000b00088 + 0x1000 * n
/-- LCn_Gg_LEVEL, RW-S: 06 R219 (its register section). -/
def R.LCG_LEVEL (n : Nat) (i : Nat) : Nat := 0x5000b00100 + 0x1000 * n + 0x10 * i
/-- LCn_Gg_CFG, RW-S: 06 R219 (its register section). -/
def R.LCG_CFG (n : Nat) (i : Nat) : Nat := 0x5000b00104 + 0x1000 * n + 0x10 * i
/-- LCn_Gg_STATE, RO-H and W1C: 06 R219 (its register section). -/
def R.LCG_STATE (n : Nat) (i : Nat) : Nat := 0x5000b00108 + 0x1000 * n + 0x10 * i
/-- LAMP_n_ENTRY_e, RW: 06 R219 (its register section). -/
def R.LAMP_ENTRY (n : Nat) (i : Nat) : Nat := 0x5000b04000 + 0x800 * n + 0x4 * i
/-- BIN_b_LO, RW: 06 R219 (its register section). -/
def R.BIN_LO (n : Nat) : Nat := 0x5000b06000 + 0x8 * n
/-- BIN_b_HI, RW: 06 R219 (its register section). -/
def R.BIN_HI (n : Nat) : Nat := 0x5000b06004 + 0x8 * n
/-- LAMP_PORT_CFG, RW: 06 R219 (its register section). -/
def R.LAMP_PORT_CFG : Nat := 0x5000b06800
/-- CURVE_n_g_k, RW: 06 R219 (its register section). -/
def R.CURVE (n : Nat) (i : Nat) (j : Nat) : Nat := 0x5000b10000 + 0x4000 * n + 0x800 * i + 0x4 * j
/-- TP_n_CTRL, RW: 07 R256 (its register section). -/
def R.TP_CTRL (n : Nat) : Nat := 0x5002000000 + 0x100000 * n
/-- TP_n_IF_CFG, RW: 07 R256 (its register section). -/
def R.TP_IF_CFG (n : Nat) : Nat := 0x5002000004 + 0x100000 * n
/-- TP_n_SYNC_CODE, RW: 07 R256 (its register section). -/
def R.TP_SYNC_CODE (n : Nat) : Nat := 0x5002000008 + 0x100000 * n
/-- TP_n_GEOM, RW: 07 R256 (its register section). -/
def R.TP_GEOM (n : Nat) : Nat := 0x500200000c + 0x100000 * n
/-- TP_n_BLIND, RW: 07 R256 (its register section). -/
def R.TP_BLIND (n : Nat) : Nat := 0x5002000010 + 0x100000 * n
/-- TP_n_BLIND_WIN, RW: 07 R256 (its register section). -/
def R.TP_BLIND_WIN (n : Nat) : Nat := 0x5002000014 + 0x100000 * n
/-- TP_n_LINK, RO-H: 07 R256 (its register section). -/
def R.TP_LINK (n : Nat) : Nat := 0x5002000018 + 0x100000 * n
/-- TP_n_SCRIPT, RW: 07 R256 (its register section). -/
def R.TP_SCRIPT (n : Nat) : Nat := 0x5002000020 + 0x100000 * n
/-- TP_n_SCRIPT_READ, RO-H: 07 R256 (its register section). -/
def R.TP_SCRIPT_READ (n : Nat) : Nat := 0x5002000024 + 0x100000 * n
/-- TP_n_NUC_BASE_LO, RW: 07 R256 (its register section). -/
def R.TP_NUC_BASE_LO (n : Nat) : Nat := 0x5002000028 + 0x100000 * n
/-- TP_n_NUC_BASE_HI, RW: 07 R256 (its register section). -/
def R.TP_NUC_BASE_HI (n : Nat) : Nat := 0x500200002c + 0x100000 * n
/-- TP_n_FRAME_CFG, RW-S: 07 R256 (its register section). -/
def R.TP_FRAME_CFG (n : Nat) : Nat := 0x5002000040 + 0x100000 * n
/-- TP_n_PERIOD, RW-S: 07 R256 (its register section). -/
def R.TP_PERIOD (n : Nat) : Nat := 0x5002000044 + 0x100000 * n
/-- TP_n_WINDOW, RW-S: 07 R256 (its register section). -/
def R.TP_WINDOW (n : Nat) : Nat := 0x5002000048 + 0x100000 * n
/-- TP_n_TIME_OFS, RW-S: 07 R256 (its register section). -/
def R.TP_TIME_OFS (n : Nat) : Nat := 0x500200004c + 0x100000 * n
/-- TP_n_FPA_CFG, RW-S: 07 R256 (its register section). -/
def R.TP_FPA_CFG (n : Nat) : Nat := 0x5002000050 + 0x100000 * n
/-- TP_n_FPA_REG_k_A, RW-S: 07 R256 (its register section). -/
def R.TP_FPA_REG_A (n : Nat) (i : Nat) : Nat := 0x5002000060 + 0x100000 * n + 0x8 * i
/-- TP_n_FPA_REG_k_B, RW-S: 07 R256 (its register section). -/
def R.TP_FPA_REG_B (n : Nat) (i : Nat) : Nat := 0x5002000064 + 0x100000 * n + 0x8 * i
/-- TP_n_STATUS, RO-H and W1C: 07 R256 (its register section). -/
def R.TP_STATUS (n : Nat) : Nat := 0x5002000080 + 0x100000 * n
/-- TP_n_FRAME_NO, RO-H: 07 R256 (its register section). -/
def R.TP_FRAME_NO (n : Nat) : Nat := 0x5002000084 + 0x100000 * n
/-- TP_n_DROPPED, RO-H: 07 R256 (its register section). -/
def R.TP_DROPPED (n : Nat) : Nat := 0x5002000088 + 0x100000 * n
/-- TP_n_RACE, RO-H: 07 R256 (its register section). -/
def R.TP_RACE (n : Nat) : Nat := 0x500200008c + 0x100000 * n
/-- TP_n_COMMIT_TAKEN_LO, RO-H: 07 R256 (its register section). -/
def R.TP_COMMIT_TAKEN_LO (n : Nat) : Nat := 0x5002000090 + 0x100000 * n
/-- TP_n_COMMIT_TAKEN_HI, RO-H: 07 R256 (its register section). -/
def R.TP_COMMIT_TAKEN_HI (n : Nat) : Nat := 0x5002000094 + 0x100000 * n
/-- TP_n_TEMP, RO-H: 07 R256 (its register section). -/
def R.TP_TEMP (n : Nat) : Nat := 0x50020000a0 + 0x100000 * n
/-- TP_n_RATE, RO-H: 07 R256 (its register section). -/
def R.TP_RATE (n : Nat) : Nat := 0x50020000a4 + 0x100000 * n
/-- TP_n_DRIFT_DT, RO-H: 07 R256 (its register section). -/
def R.TP_DRIFT_DT (n : Nat) : Nat := 0x50020000a8 + 0x100000 * n
/-- TP_n_DEF_EDIT, WO: 07 R256 (its register section). -/
def R.TP_DEF_EDIT (n : Nat) : Nat := 0x50020000c0 + 0x100000 * n
/-- TP_n_DEF_STATUS, RO-H: 07 R256 (its register section). -/
def R.TP_DEF_STATUS (n : Nat) : Nat := 0x50020000c4 + 0x100000 * n
/-- TP_n_DEF_OVERFLOWS, RO-H: 07 R256 (its register section). -/
def R.TP_DEF_OVERFLOWS (n : Nat) : Nat := 0x50020000c8 + 0x100000 * n
/-- TP_n_DRIFT_s_T0, RW: 07 R256 (its register section). -/
def R.TP_DRIFT_T0 (n : Nat) (i : Nat) : Nat := 0x5002000100 + 0x100000 * n + 0x10 * i
/-- TP_n_DRIFT_s_TLO, RW: 07 R256 (its register section). -/
def R.TP_DRIFT_TLO (n : Nat) (i : Nat) : Nat := 0x5002000104 + 0x100000 * n + 0x10 * i
/-- TP_n_DRIFT_s_THI, RW: 07 R256 (its register section). -/
def R.TP_DRIFT_THI (n : Nat) (i : Nat) : Nat := 0x5002000108 + 0x100000 * n + 0x10 * i
/-- TP_n_DRIFT_s_CFG, RW: 07 R256 (its register section). -/
def R.TP_DRIFT_CFG (n : Nat) (i : Nat) : Nat := 0x500200010c + 0x100000 * n + 0x10 * i
/-- TP_n_DEF_k, RO-H: 07 R256 (its register section). -/
def R.TP_DEF (n : Nat) (i : Nat) : Nat := 0x5002004000 + 0x100000 * n + 0x4 * i
/-- TP_n_SHUT_CFG, RW: 08 R288 (its register section). -/
def R.TP_SHUT_CFG (n : Nat) : Nat := 0x5002000200 + 0x100000 * n
/-- TP_n_SHUT_CLOSE, RW: 08 R288 (its register section). -/
def R.TP_SHUT_CLOSE (n : Nat) : Nat := 0x5002000204 + 0x100000 * n
/-- TP_n_SHUT_OPEN, RW: 08 R288 (its register section). -/
def R.TP_SHUT_OPEN (n : Nat) : Nat := 0x5002000208 + 0x100000 * n
/-- TP_n_SHUT_REQ, WO: 08 R288 (its register section). -/
def R.TP_SHUT_REQ (n : Nat) : Nat := 0x500200020c + 0x100000 * n
/-- TP_n_GAP_CFG, RW: 08 R288 (its register section). -/
def R.TP_GAP_CFG (n : Nat) : Nat := 0x5002000210 + 0x100000 * n
/-- TP_n_SLOW_SPEED, RW: 08 R288 (its register section). -/
def R.TP_SLOW_SPEED (n : Nat) : Nat := 0x5002000214 + 0x100000 * n
/-- TP_n_INTERVALS, RW: 08 R288 (its register section). -/
def R.TP_INTERVALS (n : Nat) : Nat := 0x5002000218 + 0x100000 * n
/-- TP_n_SHUT_STATUS, RO-H and W1C: 08 R288 (its register section). -/
def R.TP_SHUT_STATUS (n : Nat) : Nat := 0x500200021c + 0x100000 * n
/-- TP_n_SHUT_LAST_LO, RO-H: 08 R288 (its register section). -/
def R.TP_SHUT_LAST_LO (n : Nat) : Nat := 0x5002000220 + 0x100000 * n
/-- TP_n_SHUT_LAST_HI, RO-H: 08 R288 (its register section). -/
def R.TP_SHUT_LAST_HI (n : Nat) : Nat := 0x5002000224 + 0x100000 * n
/-- TP_n_SHUT_COUNT, RO-H: 08 R288 (its register section). -/
def R.TP_SHUT_COUNT (n : Nat) : Nat := 0x5002000228 + 0x100000 * n
/-- TP_n_SHUT_MEAN, RO-H: 08 R288 (its register section). -/
def R.TP_SHUT_MEAN (n : Nat) : Nat := 0x500200022c + 0x100000 * n
/-- TP_n_SHUT_BASE_LO, RW: 08 R288 (its register section). -/
def R.TP_SHUT_BASE_LO (n : Nat) : Nat := 0x5002000230 + 0x100000 * n
/-- TP_n_SHUT_BASE_HI, RW: 08 R288 (its register section). -/
def R.TP_SHUT_BASE_HI (n : Nat) : Nat := 0x5002000234 + 0x100000 * n
/-- TP_n_REF_CFG, RW: 08 R288 (its register section). -/
def R.TP_REF_CFG (n : Nat) : Nat := 0x5002000240 + 0x100000 * n
/-- TP_n_REF_STATUS, RO-H: 08 R288 (its register section). -/
def R.TP_REF_STATUS (n : Nat) : Nat := 0x5002000244 + 0x100000 * n
/-- TP_n_REF_T_k, RO-H: 08 R288 (its register section). -/
def R.TP_REF_T (n : Nat) (i : Nat) : Nat := 0x5002000248 + 0x100000 * n + 0x4 * i
/-- TP_n_RAD_CFG, RW: 08 R288 (its register section). -/
def R.TP_RAD_CFG (n : Nat) : Nat := 0x5002000260 + 0x100000 * n
/-- TP_n_RAD_KH, RW: 08 R288 (its register section). -/
def R.TP_RAD_KH (n : Nat) : Nat := 0x5002000264 + 0x100000 * n
/-- TP_n_RAD_KL, RW: 08 R288 (its register section). -/
def R.TP_RAD_KL (n : Nat) : Nat := 0x5002000268 + 0x100000 * n
/-- TP_n_ANCHOR, RO-H: 08 R288 (its register section). -/
def R.TP_ANCHOR (n : Nat) : Nat := 0x500200026c + 0x100000 * n
/-- TP_n_ANCHOR_TH, RO-H: 08 R288 (its register section). -/
def R.TP_ANCHOR_TH (n : Nat) : Nat := 0x5002000270 + 0x100000 * n
/-- TP_n_ANCHOR_TL, RO-H: 08 R288 (its register section). -/
def R.TP_ANCHOR_TL (n : Nat) : Nat := 0x5002000274 + 0x100000 * n
/-- TP_n_LAG_CFG, RW: 08 R288 (its register section). -/
def R.TP_LAG_CFG (n : Nat) : Nat := 0x5002000280 + 0x100000 * n
/-- TP_n_LAG_BASE_LO, RW: 08 R288 (its register section). -/
def R.TP_LAG_BASE_LO (n : Nat) : Nat := 0x5002000284 + 0x100000 * n
/-- TP_n_LAG_BASE_HI, RW: 08 R288 (its register section). -/
def R.TP_LAG_BASE_HI (n : Nat) : Nat := 0x5002000288 + 0x100000 * n
/-- TP_n_LINE_CFG, RW: 08 R288 (its register section). -/
def R.TP_LINE_CFG (n : Nat) : Nat := 0x50020002a0 + 0x100000 * n
/-- TP_n_TPITCH_LO, RW: 08 R288 (its register section). -/
def R.TP_TPITCH_LO (n : Nat) : Nat := 0x50020002a4 + 0x100000 * n
/-- TP_n_TPITCH_HI, RW: 08 R288 (its register section). -/
def R.TP_TPITCH_HI (n : Nat) : Nat := 0x50020002a8 + 0x100000 * n
/-- TP_n_TORIGIN_LO, RW: 08 R288 (its register section). -/
def R.TP_TORIGIN_LO (n : Nat) : Nat := 0x50020002ac + 0x100000 * n
/-- TP_n_TORIGIN_HI, RW: 08 R288 (its register section). -/
def R.TP_TORIGIN_HI (n : Nat) : Nat := 0x50020002b0 + 0x100000 * n
/-- TP_n_ROW_PITCH, RW: 08 R288 (its register section). -/
def R.TP_ROW_PITCH (n : Nat) : Nat := 0x50020002b4 + 0x100000 * n
/-- TP_n_LINE_STATUS, RO-H: 08 R288 (its register section). -/
def R.TP_LINE_STATUS (n : Nat) : Nat := 0x50020002b8 + 0x100000 * n
/-- TP_n_STAT_CFG, RW: 08 R288 (its register section). -/
def R.TP_STAT_CFG (n : Nat) : Nat := 0x50020002c0 + 0x100000 * n
/-- TP_n_ROI_r_ROWS, RW: 08 R288 (its register section). -/
def R.TP_ROI_ROWS (n : Nat) (i : Nat) : Nat := 0x5002000300 + 0x100000 * n + 0x10 * i
/-- TP_n_ROI_r_COLS, RW: 08 R288 (its register section). -/
def R.TP_ROI_COLS (n : Nat) (i : Nat) : Nat := 0x5002000304 + 0x100000 * n + 0x10 * i
/-- TP_n_ROI_r_RANGE, RO-H: 08 R288 (its register section). -/
def R.TP_ROI_RANGE (n : Nat) (i : Nat) : Nat := 0x5002000308 + 0x100000 * n + 0x10 * i
/-- TP_n_ROI_r_MEAN, RO-H: 08 R288 (its register section). -/
def R.TP_ROI_MEAN (n : Nat) (i : Nat) : Nat := 0x500200030c + 0x100000 * n + 0x10 * i
/-- PREC_CTRL, RW: 09 R317 (its register section). -/
def R.PREC_CTRL : Nat := 0x5000a00000
/-- PREC_REF, RW: 09 R317 (its register section). -/
def R.PREC_REF : Nat := 0x5000a00004
/-- PREC_CM, RW: 09 R317 (its register section). -/
def R.PREC_CM : Nat := 0x5000a00008
/-- PREC_TDAC, RW: 09 R317 (its register section). -/
def R.PREC_TDAC : Nat := 0x5000a0000c
/-- PREC_RACE, RO-H: 09 R317 (its register section). -/
def R.PREC_RACE : Nat := 0x5000a00010
/-- PREC_CAL_DONE, RO-H: 09 R317 (its register section). -/
def R.PREC_CAL_DONE : Nat := 0x5000a00014
/-- PREC_CAL_OFS_m_g, RO-H: 09 R317 (its register section). -/
def R.PREC_CAL_OFS (n : Nat) (i : Nat) : Nat := 0x5000a00040 + 0x40 * n + 0x8 * i
/-- PREC_CAL_GAIN_m_g, RO-H: 09 R317 (its register section). -/
def R.PREC_CAL_GAIN (n : Nat) (i : Nat) : Nat := 0x5000a00044 + 0x40 * n + 0x8 * i
/-- M_k_CFG, RW-S: 09 R317 (its register section). -/
def R.M_CFG (n : Nat) : Nat := 0x5000a00400 + 0x40 * n
/-- M_k_EXC, RW-S: 09 R317 (its register section). -/
def R.M_EXC (n : Nat) : Nat := 0x5000a00404 + 0x40 * n
/-- M_k_TRIG, RW-S: 09 R317 (its register section). -/
def R.M_TRIG (n : Nat) : Nat := 0x5000a00408 + 0x40 * n
/-- M_k_CTRL, RW: 09 R317 (its register section). -/
def R.M_CTRL (n : Nat) : Nat := 0x5000a0040c + 0x40 * n
/-- M_k_RREF, RW-S: 09 R317 (its register section). -/
def R.M_RREF (n : Nat) : Nat := 0x5000a00410 + 0x40 * n
/-- M_k_R0, RW-S: 09 R317 (its register section). -/
def R.M_R0 (n : Nat) : Nat := 0x5000a00414 + 0x40 * n
/-- M_k_LEAD, RW-S: 09 R317 (its register section). -/
def R.M_LEAD (n : Nat) : Nat := 0x5000a00418 + 0x40 * n
/-- M_k_IMP_CFG, RW-S: 09 R317 (its register section). -/
def R.M_IMP_CFG (n : Nat) : Nat := 0x5000a0041c + 0x40 * n
/-- M_k_RAW, RO-H: 09 R317 (its register section). -/
def R.M_RAW (n : Nat) : Nat := 0x5000a00420 + 0x40 * n
/-- M_k_VALUE_LO, RO-H: 09 R317 (its register section). -/
def R.M_VALUE_LO (n : Nat) : Nat := 0x5000a00424 + 0x40 * n
/-- M_k_VALUE_HI, RO-H: 09 R317 (its register section). -/
def R.M_VALUE_HI (n : Nat) : Nat := 0x5000a00428 + 0x40 * n
/-- M_k_TIME_LO, RO-H: 09 R317 (its register section). -/
def R.M_TIME_LO (n : Nat) : Nat := 0x5000a0042c + 0x40 * n
/-- M_k_TIME_HI, RO-H: 09 R317 (its register section). -/
def R.M_TIME_HI (n : Nat) : Nat := 0x5000a00430 + 0x40 * n
/-- M_k_STATUS, RO-H and W1C: 09 R317 (its register section). -/
def R.M_STATUS (n : Nat) : Nat := 0x5000a00434 + 0x40 * n
/-- M_k_IMPED, RO-H: 09 R317 (its register section). -/
def R.M_IMPED (n : Nat) : Nat := 0x5000a00438 + 0x40 * n
/-- LOOP_n_CFG, RW-S: 09 R317 (its register section). -/
def R.LOOP_CFG (n : Nat) : Nat := 0x5000a00800 + 0x40 * n
/-- LOOP_n_CTRL, RW: 09 R317 (its register section). -/
def R.LOOP_CTRL (n : Nat) : Nat := 0x5000a00804 + 0x40 * n
/-- LOOP_n_LO, RW-S: 09 R317 (its register section). -/
def R.LOOP_LO (n : Nat) : Nat := 0x5000a00808 + 0x40 * n
/-- LOOP_n_HI, RW-S: 09 R317 (its register section). -/
def R.LOOP_HI (n : Nat) : Nat := 0x5000a0080c + 0x40 * n
/-- LOOP_n_VALUE, RW: 09 R317 (its register section). -/
def R.LOOP_VALUE (n : Nat) : Nat := 0x5000a00810 + 0x40 * n
/-- LOOP_n_STATUS, RO-H and W1C: 09 R317 (its register section). -/
def R.LOOP_STATUS (n : Nat) : Nat := 0x5000a00814 + 0x40 * n
/-- LOOP_n_READ, RO-H: 09 R317 (its register section). -/
def R.LOOP_READ (n : Nat) : Nat := 0x5000a00818 + 0x40 * n
/-- AXIS_n_CTRL, RW: 10 R349 (its register section). -/
def R.AXIS_CTRL (n : Nat) : Nat := 0x5000900000 + 0x200 * n
/-- AXIS_n_CMD, WO: 10 R349 (its register section). -/
def R.AXIS_CMD (n : Nat) : Nat := 0x5000900004 + 0x200 * n
/-- AXIS_n_CFG, RW-S: 10 R349 (its register section). -/
def R.AXIS_CFG (n : Nat) : Nat := 0x5000900008 + 0x200 * n
/-- AXIS_n_DRIVE, RW-S: 10 R349 (its register section). -/
def R.AXIS_DRIVE (n : Nat) : Nat := 0x500090000c + 0x200 * n
/-- AXIS_n_TARGET_LO, RW-S: 10 R349 (its register section). -/
def R.AXIS_TARGET_LO (n : Nat) : Nat := 0x5000900010 + 0x200 * n
/-- AXIS_n_TARGET_HI, RW-S: 10 R349 (its register section). -/
def R.AXIS_TARGET_HI (n : Nat) : Nat := 0x5000900014 + 0x200 * n
/-- AXIS_n_POS_MIN_LO, RW-S: 10 R349 (its register section). -/
def R.AXIS_POS_MIN_LO (n : Nat) : Nat := 0x5000900030 + 0x200 * n
/-- AXIS_n_POS_MIN_HI, RW-S: 10 R349 (its register section). -/
def R.AXIS_POS_MIN_HI (n : Nat) : Nat := 0x5000900034 + 0x200 * n
/-- AXIS_n_POS_MAX_LO, RW-S: 10 R349 (its register section). -/
def R.AXIS_POS_MAX_LO (n : Nat) : Nat := 0x5000900038 + 0x200 * n
/-- AXIS_n_POS_MAX_HI, RW-S: 10 R349 (its register section). -/
def R.AXIS_POS_MAX_HI (n : Nat) : Nat := 0x500090003c + 0x200 * n
/-- AXIS_n_HOME_POS_LO, RW-S: 10 R349 (its register section). -/
def R.AXIS_HOME_POS_LO (n : Nat) : Nat := 0x5000900040 + 0x200 * n
/-- AXIS_n_HOME_POS_HI, RW-S: 10 R349 (its register section). -/
def R.AXIS_HOME_POS_HI (n : Nat) : Nat := 0x5000900044 + 0x200 * n
/-- AXIS_n_VMAX, RW-S: 10 R349 (its register section). -/
def R.AXIS_VMAX (n : Nat) : Nat := 0x5000900018 + 0x200 * n
/-- AXIS_n_AMAX, RW-S: 10 R349 (its register section). -/
def R.AXIS_AMAX (n : Nat) : Nat := 0x500090001c + 0x200 * n
/-- AXIS_n_DMAX, RW-S: 10 R349 (its register section). -/
def R.AXIS_DMAX (n : Nat) : Nat := 0x5000900020 + 0x200 * n
/-- AXIS_n_LIMIT_DECEL, RW-S: 10 R349 (its register section). -/
def R.AXIS_LIMIT_DECEL (n : Nat) : Nat := 0x5000900024 + 0x200 * n
/-- AXIS_n_JMAX, RW-S: 10 R349 (its register section). -/
def R.AXIS_JMAX (n : Nat) : Nat := 0x5000900028 + 0x200 * n
/-- AXIS_n_HOME_VEL, RW-S: 10 R349 (its register section). -/
def R.AXIS_HOME_VEL (n : Nat) : Nat := 0x500090002c + 0x200 * n
/-- AXIS_n_TABLE, RW-S: 10 R349 (its register section). -/
def R.AXIS_TABLE (n : Nat) : Nat := 0x5000900048 + 0x200 * n
/-- AXIS_n_HOME_CFG, RW-S: 10 R349 (its register section). -/
def R.AXIS_HOME_CFG (n : Nat) : Nat := 0x500090004c + 0x200 * n
/-- AXIS_n_RELEASE_DIST, RW-S: 10 R349 (its register section). -/
def R.AXIS_RELEASE_DIST (n : Nat) : Nat := 0x5000900050 + 0x200 * n
/-- AXIS_n_FOLLOW_LIMIT, RW-S: 10 R349 (its register section). -/
def R.AXIS_FOLLOW_LIMIT (n : Nat) : Nat := 0x5000900054 + 0x200 * n
/-- AXIS_n_RUN_UP, RW-S: 10 R349 (its register section). -/
def R.AXIS_RUN_UP (n : Nat) : Nat := 0x5000900058 + 0x200 * n
/-- AXIS_n_FB_SCALE, RW-S: 10 R349 (its register section). -/
def R.AXIS_FB_SCALE (n : Nat) : Nat := 0x500090005c + 0x200 * n
/-- AXIS_n_PACE, RW-S: 10 R349 (its register section). -/
def R.AXIS_PACE (n : Nat) : Nat := 0x5000900060 + 0x200 * n
/-- AXIS_n_PACE_RESUME, RW-S: 10 R349 (its register section). -/
def R.AXIS_PACE_RESUME (n : Nat) : Nat := 0x5000900064 + 0x200 * n
/-- AXIS_n_STATUS, RO-H and W1C: 10 R349 (its register section). -/
def R.AXIS_STATUS (n : Nat) : Nat := 0x5000900080 + 0x200 * n
/-- AXIS_n_POS_LO, RO-H: 10 R349 (its register section). -/
def R.AXIS_POS_LO (n : Nat) : Nat := 0x5000900084 + 0x200 * n
/-- AXIS_n_POS_HI, RO-H: 10 R349 (its register section). -/
def R.AXIS_POS_HI (n : Nat) : Nat := 0x5000900088 + 0x200 * n
/-- AXIS_n_REMAIN_LO, RO-H: 10 R349 (its register section). -/
def R.AXIS_REMAIN_LO (n : Nat) : Nat := 0x500090008c + 0x200 * n
/-- AXIS_n_REMAIN_HI, RO-H: 10 R349 (its register section). -/
def R.AXIS_REMAIN_HI (n : Nat) : Nat := 0x5000900090 + 0x200 * n
/-- AXIS_n_FB_POS_LO, RO-H: 10 R349 (its register section). -/
def R.AXIS_FB_POS_LO (n : Nat) : Nat := 0x5000900094 + 0x200 * n
/-- AXIS_n_FB_POS_HI, RO-H: 10 R349 (its register section). -/
def R.AXIS_FB_POS_HI (n : Nat) : Nat := 0x5000900098 + 0x200 * n
/-- AXIS_n_HOME_LATCH_LO, RO-H: 10 R349 (its register section). -/
def R.AXIS_HOME_LATCH_LO (n : Nat) : Nat := 0x500090009c + 0x200 * n
/-- AXIS_n_HOME_LATCH_HI, RO-H: 10 R349 (its register section). -/
def R.AXIS_HOME_LATCH_HI (n : Nat) : Nat := 0x50009000a0 + 0x200 * n
/-- AXIS_n_VEL, RO-H: 10 R349 (its register section). -/
def R.AXIS_VEL (n : Nat) : Nat := 0x50009000a4 + 0x200 * n
/-- AXIS_n_FOLLOW_ERR, RO-H: 10 R349 (its register section). -/
def R.AXIS_FOLLOW_ERR (n : Nat) : Nat := 0x50009000a8 + 0x200 * n
/-- AXIS_n_PACE_STATUS, RO-H: 10 R349 (its register section). -/
def R.AXIS_PACE_STATUS (n : Nat) : Nat := 0x50009000ac + 0x200 * n
/-- AXIS_n_RACE, RO-H: 10 R349 (its register section). -/
def R.AXIS_RACE (n : Nat) : Nat := 0x50009000b0 + 0x200 * n
/-- AXIS_n_COMMIT_TAKEN_LO, RO-H: 10 R349 (its register section). -/
def R.AXIS_COMMIT_TAKEN_LO (n : Nat) : Nat := 0x50009000b4 + 0x200 * n
/-- AXIS_n_COMMIT_TAKEN_HI, RO-H: 10 R349 (its register section). -/
def R.AXIS_COMMIT_TAKEN_HI (n : Nat) : Nat := 0x50009000b8 + 0x200 * n
/-- PH_p_STATUS, RO-H and W1C: 10 R349 (its register section). -/
def R.PH_STATUS (n : Nat) : Nat := 0x5000901000 + 0x10 * n
/-- FRD_n_CTRL, WO: 11 R386 (its register section). -/
def R.FRD_CTRL (n : Nat) : Nat := 0x5004000000 + 0x100000 * n
/-- FRD_n_STATUS, RO-H and W1C: 11 R386 (its register section). -/
def R.FRD_STATUS (n : Nat) : Nat := 0x5004000004 + 0x100000 * n
/-- FRD_n_ENTRY, RW: 11 R386 (its register section). -/
def R.FRD_ENTRY (n : Nat) : Nat := 0x5004000008 + 0x100000 * n
/-- FRD_n_FAULT_PC, RO-H: 11 R386 (its register section). -/
def R.FRD_FAULT_PC (n : Nat) : Nat := 0x500400000c + 0x100000 * n
/-- FRD_n_FAULT_ADDR_LO, RO-H: 11 R386 (its register section). -/
def R.FRD_FAULT_ADDR_LO (n : Nat) : Nat := 0x5004000010 + 0x100000 * n
/-- FRD_n_FAULT_ADDR_HI, RO-H: 11 R386 (its register section). -/
def R.FRD_FAULT_ADDR_HI (n : Nat) : Nat := 0x5004000014 + 0x100000 * n
/-- FRD_n_ACC_ADDR_LO, RO-H: 11 R386 (its register section). -/
def R.FRD_ACC_ADDR_LO (n : Nat) : Nat := 0x5004000018 + 0x100000 * n
/-- FRD_n_ACC_ADDR_HI, RO-H: 11 R386 (its register section). -/
def R.FRD_ACC_ADDR_HI (n : Nat) : Nat := 0x500400001c + 0x100000 * n
/-- FRD_n_WDOG, RW: 11 R386 (its register section). -/
def R.FRD_WDOG (n : Nat) : Nat := 0x5004000020 + 0x100000 * n
/-- FRD_n_KICK, WO: 11 R386 (its register section). -/
def R.FRD_KICK (n : Nat) : Nat := 0x5004000024 + 0x100000 * n
/-- FRD_n_WDOG_LEFT, RO-H: 11 R386 (its register section). -/
def R.FRD_WDOG_LEFT (n : Nat) : Nat := 0x5004000028 + 0x100000 * n
/-- FRD_n_RACE, RO-H: 11 R386 (its register section). -/
def R.FRD_RACE (n : Nat) : Nat := 0x500400002c + 0x100000 * n
/-- FRD_n_WIN_w_BASE_LO, RW: 11 R386 (its register section). -/
def R.FRD_WIN_BASE_LO (n : Nat) (i : Nat) : Nat := 0x5004000100 + 0x100000 * n + 0x10 * i
/-- FRD_n_WIN_w_BASE_HI, RW: 11 R386 (its register section). -/
def R.FRD_WIN_BASE_HI (n : Nat) (i : Nat) : Nat := 0x5004000104 + 0x100000 * n + 0x10 * i
/-- FRD_n_WIN_w_LIMIT_HI, RW: 11 R386 (its register section). -/
def R.FRD_WIN_LIMIT_HI (n : Nat) (i : Nat) : Nat := 0x500400010c + 0x100000 * n + 0x10 * i
/-- FRD_n_WIN_w_LIMIT_LO, RW: 11 R386 (its register section). -/
def R.FRD_WIN_LIMIT_LO (n : Nat) (i : Nat) : Nat := 0x5004000108 + 0x100000 * n + 0x10 * i
/-- FRD_n_Qk_CFG, RW: 11 R386 (its register section). -/
def R.FRD_Q_CFG (n : Nat) (i : Nat) : Nat := 0x5004000200 + 0x100000 * n + 0x20 * i
/-- FRD_n_Qk_STATUS, RO-H and W1C: 11 R386 (its register section). -/
def R.FRD_Q_STATUS (n : Nat) (i : Nat) : Nat := 0x5004000204 + 0x100000 * n + 0x20 * i
/-- FRD_n_Qk_BASE_LO, RW: 11 R386 (its register section). -/
def R.FRD_Q_BASE_LO (n : Nat) (i : Nat) : Nat := 0x5004000208 + 0x100000 * n + 0x20 * i
/-- FRD_n_Qk_BASE_HI, RW: 11 R386 (its register section). -/
def R.FRD_Q_BASE_HI (n : Nat) (i : Nat) : Nat := 0x500400020c + 0x100000 * n + 0x20 * i
/-- FRD_n_Qk_SIZE, RW: 11 R386 (its register section). -/
def R.FRD_Q_SIZE (n : Nat) (i : Nat) : Nat := 0x5004000210 + 0x100000 * n + 0x20 * i
/-- FRD_n_Qk_RELEASE_LO, RW: 11 R386 (its register section). -/
def R.FRD_Q_RELEASE_LO (n : Nat) (i : Nat) : Nat := 0x5004000214 + 0x100000 * n + 0x20 * i
/-- FRD_n_Qk_RELEASE_HI, RW: 11 R386 (its register section). -/
def R.FRD_Q_RELEASE_HI (n : Nat) (i : Nat) : Nat := 0x5004000218 + 0x100000 * n + 0x20 * i
/-- FRD_n_Qk_PROGRESS, RO-H: 11 R386 (its register section). -/
def R.FRD_Q_PROGRESS (n : Nat) (i : Nat) : Nat := 0x500400021c + 0x100000 * n + 0x20 * i
/-- FRD_n_EVT_PEND_LO, RO-H and W1C: 11 R386 (its register section). -/
def R.FRD_EVT_PEND_LO (n : Nat) : Nat := 0x5004000300 + 0x100000 * n
/-- FRD_n_EVT_PEND_HI, RO-H and W1C: 11 R386 (its register section). -/
def R.FRD_EVT_PEND_HI (n : Nat) : Nat := 0x5004000304 + 0x100000 * n
/-- FRD_n_EVT_RAISE, WO: 11 R386 (its register section). -/
def R.FRD_EVT_RAISE (n : Nat) : Nat := 0x5004000308 + 0x100000 * n
/-- FRD_n_SWEVT, WO: 11 R386 (its register section). -/
def R.FRD_SWEVT (n : Nat) : Nat := 0x500400030c + 0x100000 * n
/-- TUFT_t_CTRL, RW: 11 R386 (its register section). -/
def R.TUFT_CTRL (n : Nat) : Nat := 0x5004000400 + 0x800000 * n
/-- TUFT_t_OP, RW-S: 11 R386 (its register section). -/
def R.TUFT_OP (n : Nat) : Nat := 0x5004000404 + 0x800000 * n
/-- TUFT_t_STATUS, RO-H and W1C: 11 R386 (its register section). -/
def R.TUFT_STATUS (n : Nat) : Nat := 0x5004000408 + 0x800000 * n
/-- TUFT_t_RACE, RO-H: 11 R386 (its register section). -/
def R.TUFT_RACE (n : Nat) : Nat := 0x500400040c + 0x800000 * n
/-- TUFT_t_OPS_A, RO: 11 R386 (its register section). -/
def R.TUFT_OPS_A (n : Nat) : Nat := 0x5004000410 + 0x800000 * n
/-- TUFT_t_OPS_B, RO: 11 R386 (its register section). -/
def R.TUFT_OPS_B (n : Nat) : Nat := 0x5004000414 + 0x800000 * n
/-- TUFT_t_COMMIT_TAKEN_LO, RO-H: 11 R386 (its register section). -/
def R.TUFT_COMMIT_TAKEN_LO (n : Nat) : Nat := 0x5004000418 + 0x800000 * n
/-- TUFT_t_COMMIT_TAKEN_HI, RO-H: 11 R386 (its register section). -/
def R.TUFT_COMMIT_TAKEN_HI (n : Nat) : Nat := 0x500400041c + 0x800000 * n
/-- COMMONS_RACE, RO-H: 11 R386 (its register section). -/
def R.COMMONS_RACE (n : Nat) : Nat := 0x5004000420 + 0x800000 * n
/-- MEM_ECC_SRAM, RO-H: 13 R432 (its register section). -/
def R.MEM_ECC_SRAM : Nat := 0x5002800000
/-- MEM_ECC_DRAM, RO-H: 13 R432 (its register section). -/
def R.MEM_ECC_DRAM : Nat := 0x5002800004
/-- MEM_UE_ADDR_LO, RO-H: 13 R432 (its register section). -/
def R.MEM_UE_ADDR_LO : Nat := 0x5002800008
/-- MEM_UE_ADDR_HI, RO-H: 13 R432 (its register section). -/
def R.MEM_UE_ADDR_HI : Nat := 0x500280000c
/-- MEM_SCRUB, RW: 13 R432 (its register section). -/
def R.MEM_SCRUB : Nat := 0x5002800010
/-- MEM_MARCH_CTRL, RW: 13 R432 (its register section). -/
def R.MEM_MARCH_CTRL : Nat := 0x5002800020
/-- MEM_MARCH_STATUS, RO-H: 13 R432 (its register section). -/
def R.MEM_MARCH_STATUS : Nat := 0x5002800024
/-- MEM_EXCH_STATUS, RO-H and W1C: 13 R432 (its register section). -/
def R.MEM_EXCH_STATUS : Nat := 0x5002800028
/-- MEM_RACE, RO-H: 13 R432 (its register section). -/
def R.MEM_RACE : Nat := 0x500280002c
/-- MEM_VAULT_CMD, WO: 13 R432 (its register section). -/
def R.MEM_VAULT_CMD : Nat := 0x5002800040
/-- MEM_VAULT_SRC_LO, RW: 13 R432 (its register section). -/
def R.MEM_VAULT_SRC_LO : Nat := 0x5002800044
/-- MEM_VAULT_SRC_HI, RW: 13 R432 (its register section). -/
def R.MEM_VAULT_SRC_HI : Nat := 0x5002800048
/-- MEM_VAULT_LEN, RW: 13 R432 (its register section). -/
def R.MEM_VAULT_LEN : Nat := 0x500280004c
/-- MEM_VAULT_ID, RW: 13 R432 (its register section). -/
def R.MEM_VAULT_ID : Nat := 0x5002800050
/-- MEM_VAULT_CRC, RW: 13 R432 (its register section). -/
def R.MEM_VAULT_CRC : Nat := 0x5002800054
/-- MEM_VAULT_STATUS, RO-H: 13 R432 (its register section). -/
def R.MEM_VAULT_STATUS : Nat := 0x5002800058
/-- MEM_VAULT_GEN, RO-H: 13 R432 (its register section). -/
def R.MEM_VAULT_GEN : Nat := 0x500280005c
/-- MEM_VAULT_FREE, RW: 13 R432 (its register section). -/
def R.MEM_VAULT_FREE : Nat := 0x5002800060
/-- MEM_SPOOL_s_BASE_LO, RW: 13 R432 (its register section). -/
def R.SPOOL_BASE_LO (n : Nat) : Nat := 0x5002800400 + 0x20 * n
/-- MEM_SPOOL_s_BASE_HI, RW: 13 R432 (its register section). -/
def R.SPOOL_BASE_HI (n : Nat) : Nat := 0x5002800404 + 0x20 * n
/-- MEM_SPOOL_s_SIZE, RW: 13 R432 (its register section). -/
def R.SPOOL_SIZE (n : Nat) : Nat := 0x5002800408 + 0x20 * n
/-- MEM_SPOOL_s_INTAKE, RO-H: 13 R432 (its register section). -/
def R.SPOOL_INTAKE (n : Nat) : Nat := 0x500280040c + 0x20 * n
/-- MEM_SPOOL_s_SEAL, RO-H: 13 R432 (its register section). -/
def R.SPOOL_SEAL (n : Nat) : Nat := 0x5002800410 + 0x20 * n
/-- MEM_SPOOL_s_DRAIN, RO-H: 13 R432 (its register section). -/
def R.SPOOL_DRAIN (n : Nat) : Nat := 0x5002800414 + 0x20 * n
/-- MEM_SPOOL_s_FILL, RO-H and W1C: 13 R432 (its register section). -/
def R.SPOOL_FILL (n : Nat) : Nat := 0x5002800418 + 0x20 * n
/-- DMA_CFG, RW: 14 R454 (its register section). -/
def R.DMA_CFG : Nat := 0x5002900000
/-- DMA_STREAM_PRIO_A, RW: 14 R454 (its register section). -/
def R.DMA_STREAM_PRIO_A : Nat := 0x5002900004
/-- DMA_STREAM_PRIO_B, RW: 14 R454 (its register section). -/
def R.DMA_STREAM_PRIO_B : Nat := 0x5002900008
/-- DMA_INFLIGHT, RO-H: 14 R454 (its register section). -/
def R.DMA_INFLIGHT : Nat := 0x500290000c
/-- DMA_LATE_CPL, RO-H: 14 R454 (its register section). -/
def R.DMA_LATE_CPL : Nat := 0x5002900010
/-- DMA_RACE, RO-H: 14 R454 (its register section). -/
def R.DMA_RACE : Nat := 0x5002900014
/-- CH_n_CTRL, RW: 14 R454 (its register section). -/
def R.CH_CTRL (n : Nat) : Nat := 0x5002901000 + 0x40 * n
/-- CH_n_CFG, RW-S: 14 R454 (its register section). -/
def R.CH_CFG (n : Nat) : Nat := 0x5002901004 + 0x40 * n
/-- CH_n_HOPMAX, RW-S: 14 R454 (its register section). -/
def R.CH_HOPMAX (n : Nat) : Nat := 0x5002901008 + 0x40 * n
/-- CH_n_HEAD_LO, RW: 14 R454 (its register section). -/
def R.CH_HEAD_LO (n : Nat) : Nat := 0x500290100c + 0x40 * n
/-- CH_n_HEAD_HI, RW: 14 R454 (its register section). -/
def R.CH_HEAD_HI (n : Nat) : Nat := 0x5002901010 + 0x40 * n
/-- CH_n_STATUS, RO-H and W1C: 14 R454 (its register section). -/
def R.CH_STATUS (n : Nat) : Nat := 0x5002901014 + 0x40 * n
/-- CH_n_CUR_LO, RO-H: 14 R454 (its register section). -/
def R.CH_CUR_LO (n : Nat) : Nat := 0x5002901018 + 0x40 * n
/-- CH_n_CUR_HI, RO-H: 14 R454 (its register section). -/
def R.CH_CUR_HI (n : Nat) : Nat := 0x500290101c + 0x40 * n
/-- CH_n_FETCH_ADDR_LO, RO-H: 14 R454 (its register section). -/
def R.CH_FETCH_ADDR_LO (n : Nat) : Nat := 0x5002901020 + 0x40 * n
/-- CH_n_FETCH_ADDR_HI, RO-H: 14 R454 (its register section). -/
def R.CH_FETCH_ADDR_HI (n : Nat) : Nat := 0x5002901024 + 0x40 * n
/-- CH_n_HOPS, RO-H: 14 R454 (its register section). -/
def R.CH_HOPS (n : Nat) : Nat := 0x5002901028 + 0x40 * n
/-- CH_n_DONE_COUNT, RO-H: 14 R454 (its register section). -/
def R.CH_DONE_COUNT (n : Nat) : Nat := 0x500290102c + 0x40 * n
/-- CH_n_TRIG_COUNT, RO-H: 14 R454 (its register section). -/
def R.CH_TRIG_COUNT (n : Nat) : Nat := 0x5002901030 + 0x40 * n
/-- CH_n_RACE, RO-H: 14 R454 (its register section). -/
def R.CH_RACE (n : Nat) : Nat := 0x5002901034 + 0x40 * n
/-- CH_n_COMMIT_TAKEN_LO, RO-H: 14 R454 (its register section). -/
def R.CH_COMMIT_TAKEN_LO (n : Nat) : Nat := 0x5002901038 + 0x40 * n
/-- CH_n_COMMIT_TAKEN_HI, RO-H: 14 R454 (its register section). -/
def R.CH_COMMIT_TAKEN_HI (n : Nat) : Nat := 0x500290103c + 0x40 * n
/-- RING_CTRL, RW: 15 R482 (its register section). -/
def R.RING_CTRL (n : Nat) : Nat := 0x1000000010000 + 0x1000 * n
/-- RING_SIZE, RW: 15 R482 (its register section). -/
def R.RING_SIZE (n : Nat) : Nat := 0x1000000010004 + 0x1000 * n
/-- GR_BASE_LO, RW: 15 R482 (its register section). -/
def R.GR_BASE_LO (n : Nat) : Nat := 0x1000000010008 + 0x1000 * n
/-- GR_BASE_HI, RW: 15 R482 (its register section). -/
def R.GR_BASE_HI (n : Nat) : Nat := 0x100000001000c + 0x1000 * n
/-- CR_BASE_LO, RW: 15 R482 (its register section). -/
def R.CR_BASE_LO (n : Nat) : Nat := 0x1000000010010 + 0x1000 * n
/-- CR_BASE_HI, RW: 15 R482 (its register section). -/
def R.CR_BASE_HI (n : Nat) : Nat := 0x1000000010014 + 0x1000 * n
/-- GR_TAIL, RW: 15 R482 (its register section). -/
def R.GR_TAIL (n : Nat) : Nat := 0x1000000010018 + 0x1000 * n
/-- CR_HEAD, RW: 15 R482 (its register section). -/
def R.CR_HEAD (n : Nat) : Nat := 0x1000000010020 + 0x1000 * n
/-- GR_HEAD, RO-H: 15 R482 (its register section). -/
def R.GR_HEAD (n : Nat) : Nat := 0x100000001001c + 0x1000 * n
/-- CR_TAIL, RO-H: 15 R482 (its register section). -/
def R.CR_TAIL (n : Nat) : Nat := 0x1000000010024 + 0x1000 * n
/-- RING_STAT, RO-H: 15 R482 (its register section). -/
def R.RING_STAT (n : Nat) : Nat := 0x1000000010028 + 0x1000 * n
/-- HOST_SRC_MAP_i, RW: 15 R482 (its register section). -/
def R.HOST_SRC_MAP (n : Nat) : Nat := 0x5002a00000 + 0x4 * n
/-- HOST_CHUNK_AGE_s, RW: 15 R482 (its register section). -/
def R.HOST_CHUNK_AGE (n : Nat) : Nat := 0x5002a00040 + 0x4 * n
/-- HOST_EVREC_DATA_LO, RW: 15 R482 (its register section). -/
def R.HOST_EVREC_DATA_LO : Nat := 0x5002a00080
/-- HOST_EVREC_DATA_HI, RW: 15 R482 (its register section). -/
def R.HOST_EVREC_DATA_HI : Nat := 0x5002a00084
/-- HOST_EVREC_CMD, WO: 15 R482 (its register section). -/
def R.HOST_EVREC_CMD : Nat := 0x5002a00088
/-- HOST_FW_REQ, RO-H: 15 R482 (its register section). -/
def R.HOST_FW_REQ : Nat := 0x5002a00090
/-- HOST_STATUS, RO-H and W1C: 15 R482 (its register section). -/
def R.HOST_STATUS : Nat := 0x5002a00094
/-- HOST_RACE, RO-H: 15 R482 (its register section). -/
def R.HOST_RACE : Nat := 0x5002a00098
/-- TRUST_STATE, RO-H: 16 R504 (its register section). -/
def R.TRUST_STATE : Nat := 0x5002c00000
/-- TRUST_SERIAL_LO, RO: 16 R504 (its register section). -/
def R.TRUST_SERIAL_LO : Nat := 0x5002c00004
/-- TRUST_SERIAL_HI, RO: 16 R504 (its register section). -/
def R.TRUST_SERIAL_HI : Nat := 0x5002c00008
/-- TRUST_OWNER_STATUS, RO-H: 16 R504 (its register section). -/
def R.TRUST_OWNER_STATUS : Nat := 0x5002c0000c
/-- SEAL_RACE, RO-H: 16 R504 (its register section). -/
def R.SEAL_RACE : Nat := 0x5002b00000
/-- SEAL_s_CHUNK, RO-H: 16 R504 (its register section). -/
def R.SEALS_CHUNK (n : Nat) : Nat := 0x5002b00100 + 0x20 * n
/-- SEAL_s_EPOCH, RO-H: 16 R504 (its register section). -/
def R.SEALS_EPOCH (n : Nat) : Nat := 0x5002b00104 + 0x20 * n
/-- SEAL_s_TAG_k, RO-H: 16 R504 (its register section). -/
def R.SEALS_TAG (n : Nat) (i : Nat) : Nat := 0x5002b00108 + 0x20 * n + 0x4 * i
/-- RUN_n_STATUS, RO-H and W1C: 17 R520 (its register section). -/
def R.RLINK_STATUS (n : Nat) : Nat := 0x5002a01000 + 0x40 * n
/-- RUN_n_ERR, RO-H: 17 R520 (its register section). -/
def R.RLINK_ERR (n : Nat) : Nat := 0x5002a01004 + 0x40 * n
/-- RUN_CFG, RW: 17 R520 (its register section). -/
def R.RUN_CFG : Nat := 0x5002a01100
/-- RUN_RING, RO-H and W1C: 17 R520 (its register section). -/
def R.RUN_RING : Nat := 0x5002a01104
/-- RUN_TRIG_SEND, WO: 17 R520 (its register section). -/
def R.RUN_TRIG_SEND : Nat := 0x5002a01108
/-- RUN_TRIG_STAT, RO-H: 17 R520 (its register section). -/
def R.RUN_TRIG_STAT : Nat := 0x5002a0110c
/-- RUN_RMT_WIN, RW: 17 R520 (its register section). -/
def R.RUN_RMT_WIN : Nat := 0x5002a01110
/-- RUN_RMT_CMD, WO: 17 R520 (its register section). -/
def R.RUN_RMT_CMD : Nat := 0x5002a01114
/-- RUN_RMT_ADDR, RW: 17 R520 (its register section). -/
def R.RUN_RMT_ADDR : Nat := 0x5002a01118
/-- RUN_RMT_STATUS, RO-H: 17 R520 (its register section). -/
def R.RUN_RMT_STATUS : Nat := 0x5002a0111c
/-- RUN_RMT_DATA_k, RW: 17 R520 (its register section). -/
def R.RUN_RMT_DATA (n : Nat) : Nat := 0x5002a01140 + 0x4 * n
/-- RUN_POS_OUT, RW: 17 R520 (its register section). -/
def R.RUN_POS_OUT : Nat := 0x5002a01120
/-- RUN_POS_IN_j, RW: 17 R520 (its register section). -/
def R.RUN_POS_IN (n : Nat) : Nat := 0x5002a01124 + 0x4 * n
/-- RUN_RACE, RO-H: 17 R520 (its register section). -/
def R.RUN_RACE : Nat := 0x5002a0112c
/-- RUN_FWD_s, RW: 17 R520 (its register section). -/
def R.RUN_FWD (n : Nat) : Nat := 0x5002a01180 + 0x4 * n
/-- TIME_NOW_LO, RO-H: 18 R545 (its register section). -/
def R.TIME_NOW_LO : Nat := 0x5000200000
/-- TIME_NOW_HI, RO-H: 18 R545 (its register section). -/
def R.TIME_NOW_HI : Nat := 0x5000200004
/-- TIME_CFG, RW: 18 R545 (its register section). -/
def R.TIME_CFG : Nat := 0x5000200008
/-- TIME_STEER, RW: 18 R545 (its register section). -/
def R.TIME_STEER : Nat := 0x500020000c
/-- TIME_STEP_NS, RW: 18 R545 (its register section). -/
def R.TIME_STEP_NS : Nat := 0x5000200010
/-- TIME_PTM_OFS_LO, RW: 18 R545 (its register section). -/
def R.TIME_PTM_OFS_LO : Nat := 0x5000200014
/-- TIME_PTM_OFS_HI, RW: 18 R545 (its register section). -/
def R.TIME_PTM_OFS_HI : Nat := 0x5000200018
/-- TIME_TSYNC, RW: 18 R545 (its register section). -/
def R.TIME_TSYNC : Nat := 0x500020001c
/-- TIME_TSYNC_W, RW: 18 R545 (its register section). -/
def R.TIME_TSYNC_W : Nat := 0x5000200020
/-- TIME_STATUS, RO-H and W1C: 18 R545 (its register section). -/
def R.TIME_STATUS : Nat := 0x5000200024
/-- TIME_ERR, RO-H: 18 R545 (its register section). -/
def R.TIME_ERR : Nat := 0x5000200028
/-- TIME_FREQ, RO-H: 18 R545 (its register section). -/
def R.TIME_FREQ : Nat := 0x500020002c
/-- TIME_ISL_LOCK_w, RO-H: 18 R545 (its register section). -/
def R.TIME_ISL_LOCK (n : Nat) : Nat := 0x5000200030 + 0x4 * n
/-- TIME_SET_LO, RW: 18 R545 (its register section). -/
def R.TIME_SET_LO : Nat := 0x5000200040
/-- TIME_SET_HI, RW: 18 R545 (its register section). -/
def R.TIME_SET_HI : Nat := 0x5000200044
/-- TIME_SET_CMD, WO: 18 R545 (its register section). -/
def R.TIME_SET_CMD : Nat := 0x5000200048
/-- TIME_RACE, RO-H: 18 R545 (its register section). -/
def R.TIME_RACE : Nat := 0x500020004c
/-- TRIM_CTRL, RW: 18 R545 (its register section). -/
def R.TRIM_CTRL : Nat := 0x5000400000
/-- TRIM_STATUS, RO-H: 18 R545 (its register section). -/
def R.TRIM_STATUS : Nat := 0x5000400004
/-- TRIM_COUNT, RO-H: 18 R545 (its register section). -/
def R.TRIM_COUNT : Nat := 0x5000400008
/-- TRIM_TIME_LO, RO-H: 18 R545 (its register section). -/
def R.TRIM_TIME_LO : Nat := 0x500040000c
/-- TRIM_TIME_HI, RO-H: 18 R545 (its register section). -/
def R.TRIM_TIME_HI : Nat := 0x5000400010
/-- TRIM_ITEM_k, RO-H: 18 R545 (its register section). -/
def R.TRIM_ITEM (n : Nat) : Nat := 0x5000400400 + 0x4 * n
/-- TMR_RACE, RO-H: 18 R552 (its register section). -/
def R.TMR_RACE : Nat := 0x5000600000
/-- TMR_n_CTRL, RW: 18 R552 (its register section). -/
def R.TMRN_CTRL (n : Nat) : Nat := 0x5000600100 + 0x20 * n
/-- TMR_n_CFG, RW-S: 18 R552 (its register section). -/
def R.TMRN_CFG (n : Nat) : Nat := 0x5000600104 + 0x20 * n
/-- TMR_n_PERIOD, RW-S: 18 R552 (its register section). -/
def R.TMRN_PERIOD (n : Nat) : Nat := 0x5000600108 + 0x20 * n
/-- TMR_n_PHASE, RW-S: 18 R552 (its register section). -/
def R.TMRN_PHASE (n : Nat) : Nat := 0x500060010c + 0x20 * n
/-- TMR_n_HIGH, RW-S: 18 R552 (its register section). -/
def R.TMRN_HIGH (n : Nat) : Nat := 0x5000600110 + 0x20 * n
/-- TMR_n_STATUS, RO-H and W1C: 18 R552 (its register section). -/
def R.TMRN_STATUS (n : Nat) : Nat := 0x5000600114 + 0x20 * n
/-- TMR_n_NEXT_LO, RO-H: 18 R552 (its register section). -/
def R.TMRN_NEXT_LO (n : Nat) : Nat := 0x5000600118 + 0x20 * n
/-- TMR_n_NEXT_HI, RO-H: 18 R552 (its register section). -/
def R.TMRN_NEXT_HI (n : Nat) : Nat := 0x500060011c + 0x20 * n
/-- TMR_n_COMMIT_TAKEN_LO, RO-H: 18 R552 (its register section). -/
def R.TMRN_COMMIT_TAKEN_LO (n : Nat) : Nat := 0x5000601000 + 0x8 * n
/-- TMR_n_COMMIT_TAKEN_HI, RO-H: 18 R552 (its register section). -/
def R.TMRN_COMMIT_TAKEN_HI (n : Nat) : Nat := 0x5000601004 + 0x8 * n
/-- GPIO_k_CFG, RW: 18 R552 (its register section). -/
def R.GPIO_CFG (n : Nat) : Nat := 0x5000602000 + 0x4 * n
/-- GPIO_IN, RO-H: 18 R552 (its register section). -/
def R.GPIO_IN : Nat := 0x5000602080
/-- GPIO_OUT, RW: 18 R552 (its register section). -/
def R.GPIO_OUT : Nat := 0x5000602084
/-- GPIO_MISROUTE, RO-H: 18 R552 (its register section). -/
def R.GPIO_MISROUTE : Nat := 0x5000602088
/-- GPIO_STATUS, RO-H and W1C: 18 R552 (its register section). -/
def R.GPIO_STATUS : Nat := 0x500060208c
/-- PWR_STATUS, RO-H and W1C: 19 R574 (its register section). -/
def R.PWR_STATUS : Nat := 0x5000300000
/-- PWR_THRESH, RW: 19 R574 (its register section). -/
def R.PWR_THRESH : Nat := 0x5000300004
/-- PWR_THROTTLE, RW: 19 R574 (its register section). -/
def R.PWR_THROTTLE : Nat := 0x5000300008
/-- PWR_RATE, RO-H: 19 R574 (its register section). -/
def R.PWR_RATE : Nat := 0x500030000c
/-- PWR_HOT, RO-H: 19 R574 (its register section). -/
def R.PWR_HOT : Nat := 0x5000300010
/-- PWR_AVS, RO-H: 19 R574 (its register section). -/
def R.PWR_AVS : Nat := 0x5000300014
/-- PWR_AVS_CFG, RW: 19 R574 (its register section). -/
def R.PWR_AVS_CFG : Nat := 0x5000300018
/-- PWR_AON, RO-H: 19 R574 (its register section). -/
def R.PWR_AON : Nat := 0x500030001c
/-- PWR_LOG, RW: 19 R574 (its register section). -/
def R.PWR_LOG : Nat := 0x5000300020
/-- PWR_RACE, RO-H: 19 R574 (its register section). -/
def R.PWR_RACE : Nat := 0x5000300024
/-- PWR_BROKEN_w, RO-H: 19 R574 (its register section). -/
def R.PWR_BROKEN (n : Nat) : Nat := 0x5000300030 + 0x4 * n
/-- PWR_SENSOR_i, RO-H: 19 R574 (its register section). -/
def R.PWR_SENSOR (n : Nat) : Nat := 0x5000300100 + 0x4 * n
/-- RUN_CTRL, WO: 20 R590 (its register section). -/
def R.RUN_CTRL : Nat := 0x5003000000
/-- RUN_STATUS, RO-H: 20 R590 (its register section). -/
def R.RUN_STATUS : Nat := 0x5003000004
/-- RUN_WDOG, RW: 20 R590 (its register section). -/
def R.RUN_WDOG : Nat := 0x5003000008
/-- RUN_KICK, WO: 20 R590 (its register section). -/
def R.RUN_KICK : Nat := 0x500300000c
/-- RUN_WDOG_LEFT, RO-H: 20 R590 (its register section). -/
def R.RUN_WDOG_LEFT : Nat := 0x5003000010
/-- PEAT_NEWEST_LO, RO-H: 20 R590 (its register section). -/
def R.PEAT_NEWEST_LO : Nat := 0x5003800000
/-- PEAT_NEWEST_HI, RO-H: 20 R590 (its register section). -/
def R.PEAT_NEWEST_HI : Nat := 0x5003800004
/-- PEAT_OLDEST_LO, RO-H: 20 R590 (its register section). -/
def R.PEAT_OLDEST_LO : Nat := 0x5003800008
/-- PEAT_OLDEST_HI, RO-H: 20 R590 (its register section). -/
def R.PEAT_OLDEST_HI : Nat := 0x500380000c
/-- PEAT_STATUS, RO-H and W1C: 20 R590 (its register section). -/
def R.PEAT_STATUS : Nat := 0x5003800010
/-- PEAT_FW_DATA_k, RW: 20 R590 (its register section). -/
def R.PEAT_FW_DATA (n : Nat) : Nat := 0x5003800020 + 0x4 * n
/-- PEAT_FW_CMD, WO: 20 R590 (its register section). -/
def R.PEAT_FW_CMD : Nat := 0x5003800048
/-- REQ_RUN, WO: 15 R464 (its register section). -/
def R.REQ_RUN : Nat := 0x1000000030000
/-- REQ_SHUTTER, WO: 15 R464 (its register section). -/
def R.REQ_SHUTTER : Nat := 0x1000000030004
/-- REQ_PACKING, WO: 15 R464 (its register section). -/
def R.REQ_PACKING : Nat := 0x1000000030008
/-- REQ_CAL, WO: 15 R464 (its register section). -/
def R.REQ_CAL : Nat := 0x100000003000c
/-- REQ_MAINT, WO: 15 R464 (its register section). -/
def R.REQ_MAINT : Nat := 0x1000000030010
/-- REQ_STATUS, RO-H: 15 R464 (its register section). -/
def R.REQ_STATUS : Nat := 0x1000000030014
/-- EVT_ACK, WO: 15 R482 (its register section). -/
def R.EVT_ACK : Nat := 0x1000000020000
/-- HOST_PEND, RO-H: 15 R482 (its register section). -/
def R.HOST_PEND (n : Nat) : Nat := 0x1000000020080 + 0x4 * n
/-- HOST_MERGED, RO-H: 15 R482 (its register section). -/
def R.HOST_MERGED (n : Nat) : Nat := 0x1000000020100 + 0x4 * n
/-- WIN_SEQ_LO, RW: 20 R588 (its register section). -/
def R.WIN_SEQ_LO : Nat := 0x1000000040010
/-- WIN_SEQ_HI, RW: 20 R588 (its register section). -/
def R.WIN_SEQ_HI : Nat := 0x1000000040014
/-- MBX_DATA, RW: 02 R78 (its register section). -/
def R.MBX_DATA (n : Nat) : Nat := 0x1000000210000 + 0x4 * n
/-- MSIX_TABLE, RW: 15 R456 (its register section). Word 3 of each entry holds the mask bit, 1 at reset (log entry 12). -/
def R.MSIX_TABLE (n : Nat) : Nat := 0x1000000100000 + 0x4 * n
/-- MSIX_PBA, RO-H: 15 R456 (its register section). -/
def R.MSIX_PBA (n : Nat) : Nat := 0x1000000108000 + 0x4 * n
/-- MOT_SEGMENT, RW: 10 R327 (its register section). -/
def R.MOT_SEGMENT (n : Nat) (i : Nat) : Nat := 0x5000910000 + 0x8000 * n + 0x4 * i

/-- The register block `sys`, part 0: SYS_ID to SYS_RACE. -/
def regs_sys_0 : List RegDesc := [
  ⟨0x0, [], 0x6400b000, 0x0, 0x0, 0x0, 0x0⟩,
  ⟨0x4, [], 0x1, 0x0, 0x0, 0x0, 0x0⟩,
  ⟨0x8, [], 0x0, 0x0, 0x0, 0x0, 0x0⟩,
  ⟨0xc, [], 0x0, 0x0, 0x0, 0x0, 0x0⟩]

/-- Every register of the block `sys`. -/
def regs_sys : List RegDesc := regs_sys_0

/-- The register block `evt`, part 0: EVT_ROUTE to EVT_RACE. -/
def regs_evt_0 : List RegDesc := [
  ⟨0x0, [(0x4, 1024)], 0x0, 0x3ffffff, 0x0, 0x0, 0x0⟩,
  ⟨0x1000, [], 0x0, 0x0, 0x0, 0x0, 0x0⟩,
  ⟨0x1004, [], 0x0, 0x0, 0x0, 0x0, 0x0⟩]

/-- Every register of the block `evt`. -/
def regs_evt : List RegDesc := regs_evt_0

/-- The register block `boot`, part 0: BOOT_STATUS to BOOT_READY_TIME. -/
def regs_boot_0 : List RegDesc := [
  ⟨0x0, [], 0x0, 0x0, 0x0, 0x0, 0x0⟩,
  ⟨0x4, [], 0x0, 0x0, 0x0, 0x0, 0x0⟩,
  ⟨0x8, [], 0x0, 0x0, 0x0, 0x0, 0x0⟩,
  ⟨0xc, [], 0x0, 0x0, 0x0, 0x0, 0x0⟩,
  ⟨0x10, [], 0x0, 0x0, 0x0, 0x0, 0x0⟩,
  ⟨0x14, [], 0x0, 0x0, 0x0, 0x0, 0x0⟩,
  ⟨0x18, [], 0x0, 0x0, 0x0, 0x0, 0x0⟩]

/-- Every register of the block `boot`. -/
def regs_boot : List RegDesc := regs_boot_0

/-- The register block `win`, part 0: RING_CTRL to MSIX_PBA. -/
def regs_win_0 : List RegDesc := [
  ⟨0x10000, [(0x1000, 16)], 0x0, 0x1, 0x0, 0x4, 0x0⟩,
  ⟨0x10004, [(0x1000, 16)], 0x404, 0x1f1f, 0x0, 0x0, 0x0⟩,
  ⟨0x10008, [(0x1000, 16)], 0x0, 0xffffffff, 0x0, 0x0, 0x0⟩,
  ⟨0x1000c, [(0x1000, 16)], 0x0, 0xffffffff, 0x0, 0x0, 0x0⟩,
  ⟨0x10010, [(0x1000, 16)], 0x0, 0xffffffff, 0x0, 0x0, 0x0⟩,
  ⟨0x10014, [(0x1000, 16)], 0x0, 0xffffffff, 0x0, 0x0, 0x0⟩,
  ⟨0x10018, [(0x1000, 16)], 0x0, 0xffff, 0x0, 0x0, 0x0⟩,
  ⟨0x1001c, [(0x1000, 16)], 0x0, 0x0, 0x0, 0x0, 0x0⟩,
  ⟨0x10020, [(0x1000, 16)], 0x0, 0xffff, 0x0, 0x0, 0x0⟩,
  ⟨0x10024, [(0x1000, 16)], 0x0, 0x0, 0x0, 0x0, 0x0⟩,
  ⟨0x10028, [(0x1000, 16)], 0x0, 0x0, 0x0, 0x0, 0x0⟩,
  ⟨0x20000, [], 0x0, 0x0, 0x0, 0x0, 0x3ff⟩,
  ⟨0x20080, [(0x4, 32)], 0x0, 0x0, 0x0, 0x0, 0x0⟩,
  ⟨0x20100, [(0x4, 32)], 0x0, 0x0, 0x0, 0x0, 0x0⟩,
  ⟨0x30000, [], 0x0, 0x0, 0x0, 0x0, 0x3⟩,
  ⟨0x30004, [], 0x0, 0x0, 0x0, 0x0, 0xf⟩,
  ⟨0x30008, [], 0x0, 0x0, 0x0, 0x0, 0xf00ff⟩,
  ⟨0x3000c, [], 0x0, 0x0, 0x0, 0x0, 0xffff⟩,
  ⟨0x30010, [], 0x0, 0x0, 0x0, 0x0, 0x3⟩,
  ⟨0x30014, [], 0x0, 0x0, 0x0, 0x0, 0x0⟩,
  ⟨0x40010, [], 0x0, 0xffffffff, 0x0, 0x0, 0x0⟩,
  ⟨0x40014, [], 0x0, 0xffffffff, 0x0, 0x0, 0x0⟩,
  ⟨0x100000, [(0x10, 2048)], 0x0, 0xffffffff, 0x0, 0x0, 0x0⟩,
  ⟨0x100004, [(0x10, 2048)], 0x0, 0xffffffff, 0x0, 0x0, 0x0⟩,
  ⟨0x100008, [(0x10, 2048)], 0x0, 0xffffffff, 0x0, 0x0, 0x0⟩,
  ⟨0x10000c, [(0x10, 2048)], 0x1, 0xffffffff, 0x0, 0x0, 0x0⟩,
  ⟨0x108000, [(0x4, 64)], 0x0, 0x0, 0x0, 0x0, 0x0⟩]

/-- The register block `win`, part 1: MBX_CMD to MBX_DATA. -/
def regs_win_1 : List RegDesc := [
  ⟨0x200000, [], 0x0, 0x0, 0x0, 0x0, 0xf⟩,
  ⟨0x200004, [], 0x0, 0x0, 0x0, 0x0, 0x0⟩,
  ⟨0x200008, [], 0x0, 0xffffffff, 0x0, 0x0, 0x0⟩,
  ⟨0x20000c, [], 0x0, 0xffffffff, 0x0, 0x0, 0x0⟩,
  ⟨0x210000, [(0x4, 16384)], 0x0, 0xffffffff, 0x0, 0x0, 0x0⟩]

/-- Every register of the block `win`. -/
def regs_win : List RegDesc := regs_win_0 ++ regs_win_1

/-- The register block `pos`, part 0: ENC_CFG to CMP_TARGET_HI. -/
def regs_pos_0 : List RegDesc := [
  ⟨0x0, [(0x100, 8)], 0x0, 0x0, 0x3ff, 0x0, 0x0⟩,
  ⟨0x4, [(0x100, 8)], 0x0, 0x0, 0x0, 0x0, 0x1⟩,
  ⟨0x8, [(0x100, 8)], 0x8, 0x0, 0x0, 0xff00, 0x0⟩,
  ⟨0x10, [(0x100, 8)], 0x0, 0x0, 0x0, 0x0, 0x0⟩,
  ⟨0x14, [(0x100, 8)], 0x0, 0x0, 0x0, 0x0, 0x0⟩,
  ⟨0x18, [(0x100, 8)], 0x0, 0x0, 0xffffffff, 0x0, 0x0⟩,
  ⟨0x1c, [(0x100, 8)], 0x0, 0x0, 0xffffffff, 0x0, 0x0⟩,
  ⟨0x20, [(0x100, 8)], 0x0, 0x0, 0x0, 0x0, 0x0⟩,
  ⟨0x24, [(0x100, 8)], 0x0, 0x0, 0x0, 0x0, 0x0⟩,
  ⟨0x28, [(0x100, 8)], 0x0, 0x0, 0x0, 0x0, 0x0⟩,
  ⟨0x2c, [(0x100, 8)], 0x0, 0x0, 0x0, 0x0, 0x0⟩,
  ⟨0x30, [(0x100, 8)], 0x0, 0x0, 0x0, 0x0, 0x0⟩,
  ⟨0x34, [(0x100, 8)], 0x0, 0x0, 0x0, 0x0, 0x0⟩,
  ⟨0x38, [(0x100, 8)], 0x0, 0x0, 0x0, 0x0, 0x0⟩,
  ⟨0x3c, [(0x100, 8)], 0x3e8, 0x0, 0x1ffff, 0x0, 0x0⟩,
  ⟨0x40, [(0x100, 8)], 0x2666, 0x0, 0xffff, 0x0, 0x0⟩,
  ⟨0x44, [(0x100, 8)], 0x0, 0x0, 0x0, 0x0, 0x0⟩,
  ⟨0x48, [(0x100, 8)], 0x8000, 0x0, 0x0, 0x0, 0x0⟩,
  ⟨0x4c, [(0x100, 8)], 0x0, 0x0, 0x0, 0x0, 0x0⟩,
  ⟨0x50, [(0x100, 8)], 0x0, 0x0, 0x0, 0x0, 0x0⟩,
  ⟨0x1000, [(0x20, 16)], 0x30, 0x0, 0x1fff, 0x0, 0x0⟩,
  ⟨0x1004, [(0x20, 16)], 0x0, 0x0, 0x0, 0x0, 0x1⟩,
  ⟨0x1008, [(0x20, 16)], 0x0, 0x0, 0xffffffff, 0x0, 0x0⟩,
  ⟨0x100c, [(0x20, 16)], 0x0, 0x0, 0xffffffff, 0x0, 0x0⟩]

/-- The register block `pos`, part 1: CMP_STEP to PT_CTRL. -/
def regs_pos_1 : List RegDesc := [
  ⟨0x1010, [(0x20, 16)], 0x0, 0x0, 0xffffffff, 0x0, 0x0⟩,
  ⟨0x1014, [(0x20, 16)], 0x0, 0x0, 0x0, 0x4, 0x0⟩,
  ⟨0x1018, [(0x20, 16)], 0x0, 0x0, 0x0, 0x0, 0x0⟩,
  ⟨0x101c, [(0x20, 16)], 0x0, 0x0, 0x0, 0x0, 0x0⟩,
  ⟨0x2000, [(0x20, 2)], 0x20, 0x0, 0xf7, 0x0, 0x0⟩,
  ⟨0x2004, [(0x20, 2)], 0x0, 0x0, 0x0, 0x4, 0x1⟩]

/-- Every register of the block `pos`. -/
def regs_pos : List RegDesc := regs_pos_0 ++ regs_pos_1

/-- The register block `img`, part 0: IMG_CTRL to IMG_NEXT_LO. -/
def regs_img_0 : List RegDesc := [
  ⟨0x0, [], 0x0, 0x0, 0x0, 0x0, 0x1⟩,
  ⟨0x4, [], 0x271002, 0xffffff07, 0x0, 0x0, 0x0⟩,
  ⟨0x8, [], 0x0, 0x0, 0x0, 0x0, 0x0⟩,
  ⟨0xc, [], 0x0, 0x0, 0x0, 0x0, 0x0⟩,
  ⟨0x10, [], 0x45, 0x1fffff, 0x0, 0x0, 0x0⟩,
  ⟨0x14, [], 0x0, 0xffffffff, 0x0, 0x0, 0x0⟩,
  ⟨0x18, [], 0x2000, 0xffff, 0x0, 0x0, 0x0⟩,
  ⟨0x1c, [], 0x1800003, 0xfff03ff, 0x0, 0x0, 0x0⟩,
  ⟨0x20, [], 0x0, 0xff, 0x0, 0x0, 0x100⟩,
  ⟨0x24, [], 0x0, 0x0, 0x0, 0x0, 0x0⟩,
  ⟨0x40, [], 0x0, 0x0, 0x3e, 0x0, 0x0⟩,
  ⟨0x44, [], 0x400000, 0x0, 0xffffffff, 0x0, 0x0⟩,
  ⟨0x48, [], 0x0, 0x0, 0xffffffff, 0x0, 0x0⟩,
  ⟨0x4c, [], 0x0, 0x0, 0xffffffff, 0x0, 0x0⟩,
  ⟨0x50, [], 0x0, 0x0, 0xffffffff, 0x0, 0x0⟩,
  ⟨0x54, [], 0x7d0, 0x0, 0xffffffff, 0x0, 0x0⟩,
  ⟨0x58, [], 0xfa0, 0x0, 0xffffffff, 0x0, 0x0⟩,
  ⟨0x5c, [], 0x640000, 0x0, 0xfffffff, 0x0, 0x0⟩,
  ⟨0x60, [], 0x3e807d0, 0x0, 0xffffffff, 0x0, 0x0⟩,
  ⟨0x64, [], 0x3e8, 0x0, 0xffff, 0x0, 0x0⟩,
  ⟨0x80, [], 0x0, 0x0, 0x0, 0x7ff00, 0x0⟩,
  ⟨0x84, [], 0x0, 0x0, 0x0, 0x0, 0x0⟩,
  ⟨0x88, [], 0x0, 0x0, 0x0, 0x0, 0x0⟩,
  ⟨0x8c, [], 0x0, 0x0, 0x0, 0x0, 0x0⟩]

/-- The register block `img`, part 1: IMG_NEXT_HI to IMG_DEFECT. -/
def regs_img_1 : List RegDesc := [
  ⟨0x90, [], 0x0, 0x0, 0x0, 0x0, 0x0⟩,
  ⟨0x94, [], 0x0, 0x0, 0x0, 0x0, 0x0⟩,
  ⟨0x98, [], 0x0, 0x0, 0x0, 0x0, 0x0⟩,
  ⟨0x9c, [], 0x0, 0x0, 0x0, 0x0, 0x0⟩,
  ⟨0xa0, [], 0x0, 0x0, 0x0, 0x0, 0x0⟩,
  ⟨0xa4, [], 0x0, 0x0, 0x0, 0x0, 0x0⟩,
  ⟨0x1000, [], 0x0, 0x60, 0x0, 0x0, 0x11⟩,
  ⟨0x1004, [], 0x40d40, 0x0, 0xfffff, 0x0, 0x0⟩,
  ⟨0x1008, [], 0x0, 0xffffffff, 0x0, 0x0, 0x0⟩,
  ⟨0x100c, [], 0x0, 0xffffffff, 0x0, 0x0, 0x0⟩,
  ⟨0x1010, [], 0x0, 0xffffffff, 0x0, 0x0, 0x0⟩,
  ⟨0x1014, [], 0x0, 0xffff, 0x0, 0x0, 0x0⟩,
  ⟨0x1018, [], 0x100000, 0x0, 0x1ffffff, 0x0, 0x0⟩,
  ⟨0x101c, [], 0x1000cb20, 0x0, 0xffffffff, 0x0, 0x0⟩,
  ⟨0x1020, [], 0x20000800, 0x0, 0xffffffff, 0x0, 0x0⟩,
  ⟨0x1024, [(0x4, 3)], 0x10000, 0x0, 0x0, 0x0, 0x0⟩,
  ⟨0x1030, [], 0x0, 0xf, 0x0, 0x0, 0x0⟩,
  ⟨0x1034, [], 0x0, 0xffffffff, 0x0, 0x0, 0x0⟩,
  ⟨0x1040, [], 0x0, 0x0, 0x0, 0x3e, 0x0⟩,
  ⟨0x1044, [], 0x0, 0x0, 0x0, 0x0, 0x0⟩,
  ⟨0x1048, [], 0x0, 0x0, 0x0, 0x0, 0x0⟩,
  ⟨0x104c, [], 0x0, 0x0, 0x0, 0x0, 0x0⟩,
  ⟨0x1400, [(0x4, 256)], 0x0, 0x0, 0x0, 0x0, 0x0⟩]

/-- Every register of the block `img`. -/
def regs_img : List RegDesc := regs_img_0 ++ regs_img_1

/-- The register block `lamp`, part 0: LC_CTRL to BIN_LO. -/
def regs_lamp_0 : List RegDesc := [
  ⟨0x0, [(0x1000, 4)], 0x0, 0x0, 0x0, 0x0, 0x1⟩,
  ⟨0x4, [(0x1000, 4)], 0x300, 0xfc1fff0f, 0x0, 0x0, 0x0⟩,
  ⟨0x8, [(0x1000, 4)], 0x810, 0x3fffff1f, 0x0, 0x0, 0x0⟩,
  ⟨0xc, [(0x1000, 4)], 0x0, 0xffffffff, 0x0, 0x0, 0x0⟩,
  ⟨0x10, [(0x1000, 4)], 0x0, 0x31f1f, 0x0, 0x0, 0x0⟩,
  ⟨0x14, [(0x1000, 4)], 0x2710, 0x0, 0xffffffff, 0x0, 0x0⟩,
  ⟨0x18, [(0x1000, 4)], 0x0, 0x0, 0xff0f, 0x0, 0x0⟩,
  ⟨0x1c, [(0x1000, 4)], 0x140002, 0xffff1f0f, 0x0, 0x0, 0x0⟩,
  ⟨0x20, [(0x1000, 4)], 0x0, 0x0, 0x0, 0x3c, 0x0⟩,
  ⟨0x24, [(0x1000, 4)], 0x9c4, 0xffff, 0x0, 0x0, 0x0⟩,
  ⟨0x28, [(0x1000, 4)], 0x1f40000, 0xffffffff, 0x0, 0x0, 0x0⟩,
  ⟨0x2c, [(0x1000, 4)], 0x0, 0x0, 0x0, 0x0, 0x0⟩,
  ⟨0x30, [(0x1000, 4)], 0x0, 0x0, 0x0, 0x0, 0x0⟩,
  ⟨0x38, [(0x1000, 4)], 0x0, 0x0, 0x0, 0x0, 0x0⟩,
  ⟨0x3c, [(0x1000, 4)], 0x0, 0x0, 0x0, 0x0, 0x0⟩,
  ⟨0x40, [(0x1000, 4), (0x4, 16)], 0x8000, 0xffff, 0x0, 0x0, 0x0⟩,
  ⟨0x80, [(0x1000, 4)], 0x0, 0xff, 0x0, 0x0, 0x100⟩,
  ⟨0x84, [(0x1000, 4)], 0x0, 0x0, 0x0, 0x0, 0x0⟩,
  ⟨0x88, [(0x1000, 4)], 0x80, 0xffff00ff, 0x0, 0x0, 0x0⟩,
  ⟨0x100, [(0x1000, 4), (0x10, 8)], 0x0, 0x0, 0xffff, 0x0, 0x0⟩,
  ⟨0x104, [(0x1000, 4), (0x10, 8)], 0x2000, 0x0, 0xfffffff, 0x0, 0x0⟩,
  ⟨0x108, [(0x1000, 4), (0x10, 8)], 0x0, 0x0, 0x0, 0x4, 0x0⟩,
  ⟨0x4000, [(0x800, 4), (0x4, 512)], 0x0, 0x8000ff37, 0x0, 0x0, 0x0⟩,
  ⟨0x6000, [(0x8, 256)], 0x40004000, 0xffffffff, 0x0, 0x0, 0x0⟩]

/-- The register block `lamp`, part 1: BIN_HI to CURVE. -/
def regs_lamp_1 : List RegDesc := [
  ⟨0x6004, [(0x8, 256)], 0x40004000, 0xffffffff, 0x0, 0x0, 0x0⟩,
  ⟨0x6800, [], 0x0, 0x3ff, 0x0, 0x0, 0x0⟩,
  ⟨0x10000, [(0x4000, 4), (0x800, 8), (0x4, 512)], 0x0, 0xffffffff, 0x0, 0x0, 0x0⟩]

/-- Every register of the block `lamp`. -/
def regs_lamp : List RegDesc := regs_lamp_0 ++ regs_lamp_1

/-- The register block `tp`, part 0: TP_CTRL to TP_COMMIT_TAKEN_HI. -/
def regs_tp_0 : List RegDesc := [
  ⟨0x0, [], 0x0, 0x0, 0x0, 0x0, 0x1⟩,
  ⟨0x4, [], 0x280a0118, 0xffff033f, 0x0, 0x0, 0x0⟩,
  ⟨0x8, [], 0xff00, 0xffff, 0x0, 0x0, 0x0⟩,
  ⟨0xc, [], 0x4000500, 0x7ff07ff, 0x0, 0x0, 0x0⟩,
  ⟨0x10, [], 0x80000, 0x1f1f3f, 0x0, 0x0, 0x0⟩,
  ⟨0x14, [], 0xffff0000, 0xffffffff, 0x0, 0x0, 0x0⟩,
  ⟨0x18, [], 0x0, 0x0, 0x0, 0x0, 0x0⟩,
  ⟨0x20, [], 0x0, 0xff, 0x0, 0x0, 0x100⟩,
  ⟨0x24, [], 0x0, 0x0, 0x0, 0x0, 0x0⟩,
  ⟨0x28, [], 0x0, 0xffffffff, 0x0, 0x0, 0x0⟩,
  ⟨0x2c, [], 0x0, 0xffffffff, 0x0, 0x0, 0x0⟩,
  ⟨0x40, [], 0x8000170, 0x0, 0xff3f7f7f, 0x0, 0x0⟩,
  ⟨0x44, [], 0xfe502b, 0x0, 0xffffffff, 0x0, 0x0⟩,
  ⟨0x48, [], 0x4000000, 0x0, 0x7ff07ff, 0x0, 0x0⟩,
  ⟨0x4c, [], 0x0, 0x0, 0xffffffff, 0x0, 0x0⟩,
  ⟨0x50, [], 0x2, 0x0, 0xf07, 0x0, 0x0⟩,
  ⟨0x60, [(0x8, 8)], 0x0, 0x0, 0x7fffffff, 0x0, 0x0⟩,
  ⟨0x64, [(0x8, 8)], 0x0, 0x0, 0xffffffff, 0x0, 0x0⟩,
  ⟨0x80, [], 0x0, 0x0, 0x0, 0xff70, 0x0⟩,
  ⟨0x84, [], 0x0, 0x0, 0x0, 0x0, 0x0⟩,
  ⟨0x88, [], 0x0, 0x0, 0x0, 0x0, 0x0⟩,
  ⟨0x8c, [], 0x0, 0x0, 0x0, 0x0, 0x0⟩,
  ⟨0x90, [], 0x0, 0x0, 0x0, 0x0, 0x0⟩,
  ⟨0x94, [], 0x0, 0x0, 0x0, 0x0, 0x0⟩]

/-- The register block `tp`, part 1: TP_TEMP to TP_SHUT_BASE_HI. -/
def regs_tp_1 : List RegDesc := [
  ⟨0xa0, [], 0x0, 0x0, 0x0, 0x0, 0x0⟩,
  ⟨0xa4, [], 0x0, 0x0, 0x0, 0x0, 0x0⟩,
  ⟨0xa8, [], 0x0, 0x0, 0x0, 0x0, 0x0⟩,
  ⟨0xc0, [], 0x0, 0x0, 0x0, 0x0, 0xf7ff07ff⟩,
  ⟨0xc4, [], 0x0, 0x0, 0x0, 0x0, 0x0⟩,
  ⟨0xc8, [], 0x0, 0x0, 0x0, 0x0, 0x0⟩,
  ⟨0x100, [(0x10, 4)], 0x0, 0xffffffff, 0x0, 0x0, 0x0⟩,
  ⟨0x104, [(0x10, 4)], 0x80000000, 0xffffffff, 0x0, 0x0, 0x0⟩,
  ⟨0x108, [(0x10, 4)], 0x7fffffff, 0xffffffff, 0x0, 0x0, 0x0⟩,
  ⟨0x10c, [(0x10, 4)], 0x64, 0x3ff, 0x0, 0x0, 0x0⟩,
  ⟨0x200, [], 0xe0, 0xfff80ff3, 0x0, 0x0, 0x0⟩,
  ⟨0x204, [], 0x0, 0xffffffff, 0x0, 0x0, 0x0⟩,
  ⟨0x208, [], 0x0, 0xffffffff, 0x0, 0x0, 0x0⟩,
  ⟨0x20c, [], 0x0, 0x0, 0x0, 0x0, 0x3⟩,
  ⟨0x210, [], 0x7d00000, 0xffff0003, 0x0, 0x0, 0x0⟩,
  ⟨0x214, [], 0x100, 0xffffffff, 0x0, 0x0, 0x0⟩,
  ⟨0x218, [], 0x708003c, 0xffffffff, 0x0, 0x0, 0x0⟩,
  ⟨0x21c, [], 0x0, 0x0, 0x0, 0xd0, 0x0⟩,
  ⟨0x220, [], 0x0, 0x0, 0x0, 0x0, 0x0⟩,
  ⟨0x224, [], 0x0, 0x0, 0x0, 0x0, 0x0⟩,
  ⟨0x228, [], 0x0, 0x0, 0x0, 0x0, 0x0⟩,
  ⟨0x22c, [], 0x0, 0x0, 0x0, 0x0, 0x0⟩,
  ⟨0x230, [], 0x0, 0xffffffff, 0x0, 0x0, 0x0⟩,
  ⟨0x234, [], 0x0, 0xffffffff, 0x0, 0x0, 0x0⟩]

/-- The register block `tp`, part 2: TP_REF_CFG to TP_ROI_MEAN. -/
def regs_tp_2 : List RegDesc := [
  ⟨0x240, [], 0x0, 0x8f8f8f8f, 0x0, 0x0, 0x0⟩,
  ⟨0x244, [], 0xff, 0x0, 0x0, 0x0, 0x0⟩,
  ⟨0x248, [(0x4, 3)], 0x0, 0x0, 0x0, 0x0, 0x0⟩,
  ⟨0x260, [], 0x0, 0x1, 0x0, 0x0, 0x0⟩,
  ⟨0x264, [], 0x0, 0xffffffff, 0x0, 0x0, 0x0⟩,
  ⟨0x268, [], 0x0, 0xffffffff, 0x0, 0x0, 0x0⟩,
  ⟨0x26c, [], 0x0, 0x0, 0x0, 0x0, 0x0⟩,
  ⟨0x270, [], 0x0, 0x0, 0x0, 0x0, 0x0⟩,
  ⟨0x274, [], 0x0, 0x0, 0x0, 0x0, 0x0⟩,
  ⟨0x280, [], 0x0, 0x1, 0x0, 0x0, 0x0⟩,
  ⟨0x284, [], 0x0, 0xffffffff, 0x0, 0x0, 0x0⟩,
  ⟨0x288, [], 0x0, 0xffffffff, 0x0, 0x0, 0x0⟩,
  ⟨0x2a0, [], 0x0, 0x1, 0x0, 0x0, 0x0⟩,
  ⟨0x2a4, [], 0x400000, 0xffffffff, 0x0, 0x0, 0x0⟩,
  ⟨0x2a8, [], 0x0, 0xffffffff, 0x0, 0x0, 0x0⟩,
  ⟨0x2ac, [], 0x0, 0xffffffff, 0x0, 0x0, 0x0⟩,
  ⟨0x2b0, [], 0x0, 0xffffffff, 0x0, 0x0, 0x0⟩,
  ⟨0x2b4, [], 0x0, 0xffffffff, 0x0, 0x0, 0x0⟩,
  ⟨0x2b8, [], 0x0, 0x0, 0x0, 0x0, 0x0⟩,
  ⟨0x2c0, [], 0x89f30000, 0xffff00ff, 0x0, 0x0, 0x0⟩,
  ⟨0x300, [(0x10, 8)], 0x0, 0xffffffff, 0x0, 0x0, 0x0⟩,
  ⟨0x304, [(0x10, 8)], 0x0, 0xffffffff, 0x0, 0x0, 0x0⟩,
  ⟨0x308, [(0x10, 8)], 0x0, 0x0, 0x0, 0x0, 0x0⟩,
  ⟨0x30c, [(0x10, 8)], 0x0, 0x0, 0x0, 0x0, 0x0⟩]

/-- The register block `tp`, part 3: TP_DEF to TP_DEF. -/
def regs_tp_3 : List RegDesc := [
  ⟨0x4000, [(0x4, 4096)], 0x0, 0x0, 0x0, 0x0, 0x0⟩]

/-- Every register of the block `tp`. -/
def regs_tp : List RegDesc := regs_tp_0 ++ regs_tp_1 ++ regs_tp_2 ++ regs_tp_3

/-- The register block `prec`, part 0: PREC_CTRL to LOOP_CFG. -/
def regs_prec_0 : List RegDesc := [
  ⟨0x0, [], 0xff0000, 0xff0000, 0x0, 0xc, 0x1⟩,
  ⟨0x4, [], 0x9c40000, 0xffff000f, 0x0, 0x0, 0x0⟩,
  ⟨0x8, [], 0x5dc0064, 0xffffffff, 0x0, 0x0, 0x0⟩,
  ⟨0xc, [], 0x0, 0x10fff, 0x0, 0x0, 0x0⟩,
  ⟨0x10, [], 0x0, 0x0, 0x0, 0x0, 0x0⟩,
  ⟨0x14, [], 0x0, 0x0, 0x0, 0x0, 0x0⟩,
  ⟨0x40, [(0x40, 2), (0x8, 8)], 0x0, 0x0, 0x0, 0x0, 0x0⟩,
  ⟨0x44, [(0x40, 2), (0x8, 8)], 0x400000, 0x0, 0x0, 0x0, 0x0⟩,
  ⟨0x400, [(0x40, 16)], 0x8011800, 0x0, 0xfffffff8, 0x0, 0x0⟩,
  ⟨0x404, [(0x40, 16)], 0xa0064, 0x0, 0xf7ff07ff, 0x0, 0x0⟩,
  ⟨0x408, [(0x40, 16)], 0x0, 0x0, 0xffff3f07, 0x0, 0x0⟩,
  ⟨0x40c, [(0x40, 16)], 0x0, 0x0, 0x0, 0x0, 0x19⟩,
  ⟨0x410, [(0x40, 16)], 0x0, 0x0, 0xffffffff, 0x0, 0x0⟩,
  ⟨0x414, [(0x40, 16)], 0xf4240, 0x0, 0xffffffff, 0x0, 0x0⟩,
  ⟨0x418, [(0x40, 16)], 0x0, 0x0, 0xffffffff, 0x0, 0x0⟩,
  ⟨0x41c, [(0x40, 16)], 0x3e80000, 0x0, 0xffffffff, 0x0, 0x0⟩,
  ⟨0x420, [(0x40, 16)], 0x0, 0x0, 0x0, 0x0, 0x0⟩,
  ⟨0x424, [(0x40, 16)], 0x0, 0x0, 0x0, 0x0, 0x0⟩,
  ⟨0x428, [(0x40, 16)], 0x0, 0x0, 0x0, 0x0, 0x0⟩,
  ⟨0x42c, [(0x40, 16)], 0x0, 0x0, 0x0, 0x0, 0x0⟩,
  ⟨0x430, [(0x40, 16)], 0x0, 0x0, 0x0, 0x0, 0x0⟩,
  ⟨0x434, [(0x40, 16)], 0x0, 0x0, 0x0, 0x40, 0x0⟩,
  ⟨0x438, [(0x40, 16)], 0x0, 0x0, 0x0, 0x0, 0x0⟩,
  ⟨0x800, [(0x40, 2)], 0xa02, 0x0, 0xffff1f, 0x0, 0x0⟩]

/-- The register block `prec`, part 1: LOOP_CTRL to LOOP_READ. -/
def regs_prec_1 : List RegDesc := [
  ⟨0x804, [(0x40, 2)], 0x0, 0x8, 0x0, 0x0, 0x1⟩,
  ⟨0x808, [(0x40, 2)], 0x0, 0x0, 0xffffffff, 0x0, 0x0⟩,
  ⟨0x80c, [(0x40, 2)], 0xffff, 0x0, 0xffffffff, 0x0, 0x0⟩,
  ⟨0x810, [(0x40, 2)], 0x0, 0xffffffff, 0x0, 0x0, 0x0⟩,
  ⟨0x814, [(0x40, 2)], 0x0, 0x0, 0x0, 0x30, 0x0⟩,
  ⟨0x818, [(0x40, 2)], 0x0, 0x0, 0x0, 0x0, 0x0⟩]

/-- Every register of the block `prec`. -/
def regs_prec : List RegDesc := regs_prec_0 ++ regs_prec_1

/-- The register block `mot`, part 0: AXIS_CTRL to AXIS_FB_SCALE. -/
def regs_mot_0 : List RegDesc := [
  ⟨0x0, [(0x200, 8)], 0x0, 0x0, 0x0, 0x0, 0x1⟩,
  ⟨0x4, [(0x200, 8)], 0x0, 0x0, 0x0, 0x0, 0xf⟩,
  ⟨0x8, [(0x200, 8)], 0x1c01f4, 0x0, 0xffdffff, 0x0, 0x0⟩,
  ⟨0xc, [(0x200, 8)], 0x0, 0x0, 0xffffffff, 0x0, 0x0⟩,
  ⟨0x10, [(0x200, 8)], 0x0, 0x0, 0xffffffff, 0x0, 0x0⟩,
  ⟨0x14, [(0x200, 8)], 0x0, 0x0, 0xffffffff, 0x0, 0x0⟩,
  ⟨0x18, [(0x200, 8)], 0x10000, 0x0, 0xffffffff, 0x0, 0x0⟩,
  ⟨0x1c, [(0x200, 8)], 0x100000, 0x0, 0xffffffff, 0x0, 0x0⟩,
  ⟨0x20, [(0x200, 8)], 0x100000, 0x0, 0xffffffff, 0x0, 0x0⟩,
  ⟨0x24, [(0x200, 8)], 0x400000, 0x0, 0xffffffff, 0x0, 0x0⟩,
  ⟨0x28, [(0x200, 8)], 0x0, 0x0, 0xffffffff, 0x0, 0x0⟩,
  ⟨0x2c, [(0x200, 8)], 0x4000, 0x0, 0xffffffff, 0x0, 0x0⟩,
  ⟨0x30, [(0x200, 8)], 0x0, 0x0, 0xffffffff, 0x0, 0x0⟩,
  ⟨0x34, [(0x200, 8)], 0x80000000, 0x0, 0xffffffff, 0x0, 0x0⟩,
  ⟨0x38, [(0x200, 8)], 0xffffffff, 0x0, 0xffffffff, 0x0, 0x0⟩,
  ⟨0x3c, [(0x200, 8)], 0x7fffffff, 0x0, 0xffffffff, 0x0, 0x0⟩,
  ⟨0x40, [(0x200, 8)], 0x0, 0x0, 0xffffffff, 0x0, 0x0⟩,
  ⟨0x44, [(0x200, 8)], 0x0, 0x0, 0xffffffff, 0x0, 0x0⟩,
  ⟨0x48, [(0x200, 8)], 0x10000, 0x0, 0x7ff03ff, 0x0, 0x0⟩,
  ⟨0x4c, [(0x200, 8)], 0xa, 0x0, 0x7fffe07f, 0x0, 0x0⟩,
  ⟨0x50, [(0x200, 8)], 0x1000, 0x0, 0xffffffff, 0x0, 0x0⟩,
  ⟨0x54, [(0x200, 8)], 0x800, 0x0, 0xffffffff, 0x0, 0x0⟩,
  ⟨0x58, [(0x200, 8)], 0x0, 0x0, 0xffffffff, 0x0, 0x0⟩,
  ⟨0x5c, [(0x200, 8)], 0x10000, 0x0, 0xffffffff, 0x0, 0x0⟩]

/-- The register block `mot`, part 1: AXIS_PACE to MOT_SEGMENT. -/
def regs_mot_1 : List RegDesc := [
  ⟨0x60, [(0x200, 8)], 0xe0008000, 0x0, 0xffffffff, 0x0, 0x0⟩,
  ⟨0x64, [(0x200, 8)], 0xc000, 0x0, 0xffff, 0x0, 0x0⟩,
  ⟨0x80, [(0x200, 8)], 0x0, 0x0, 0x0, 0xfcfe, 0x0⟩,
  ⟨0x84, [(0x200, 8)], 0x0, 0x0, 0x0, 0x0, 0x0⟩,
  ⟨0x88, [(0x200, 8)], 0x0, 0x0, 0x0, 0x0, 0x0⟩,
  ⟨0x8c, [(0x200, 8)], 0x0, 0x0, 0x0, 0x0, 0x0⟩,
  ⟨0x90, [(0x200, 8)], 0x0, 0x0, 0x0, 0x0, 0x0⟩,
  ⟨0x94, [(0x200, 8)], 0x0, 0x0, 0x0, 0x0, 0x0⟩,
  ⟨0x98, [(0x200, 8)], 0x0, 0x0, 0x0, 0x0, 0x0⟩,
  ⟨0x9c, [(0x200, 8)], 0x0, 0x0, 0x0, 0x0, 0x0⟩,
  ⟨0xa0, [(0x200, 8)], 0x0, 0x0, 0x0, 0x0, 0x0⟩,
  ⟨0xa4, [(0x200, 8)], 0x0, 0x0, 0x0, 0x0, 0x0⟩,
  ⟨0xa8, [(0x200, 8)], 0x0, 0x0, 0x0, 0x0, 0x0⟩,
  ⟨0xac, [(0x200, 8)], 0x1000, 0x0, 0x0, 0x0, 0x0⟩,
  ⟨0xb0, [(0x200, 8)], 0x0, 0x0, 0x0, 0x0, 0x0⟩,
  ⟨0xb4, [(0x200, 8)], 0x0, 0x0, 0x0, 0x0, 0x0⟩,
  ⟨0xb8, [(0x200, 8)], 0x0, 0x0, 0x0, 0x0, 0x0⟩,
  ⟨0x1000, [(0x10, 4)], 0x0, 0x0, 0x0, 0x2, 0x0⟩,
  ⟨0x10000, [(0x8000, 8), (0x4, 8192)], 0x0, 0xffffffff, 0x0, 0x0, 0x0⟩]

/-- Every register of the block `mot`. -/
def regs_mot : List RegDesc := regs_mot_0 ++ regs_mot_1

/-- The register block `frd`, part 0: FRD_CTRL to FRD_Q_PROGRESS. -/
def regs_frd_0 : List RegDesc := [
  ⟨0x0, [], 0x0, 0x0, 0x0, 0x0, 0x3⟩,
  ⟨0x4, [], 0x0, 0x0, 0x0, 0x700, 0x0⟩,
  ⟨0x8, [], 0x0, 0xfff8, 0x0, 0x0, 0x0⟩,
  ⟨0xc, [], 0x0, 0x0, 0x0, 0x0, 0x0⟩,
  ⟨0x10, [], 0x0, 0x0, 0x0, 0x0, 0x0⟩,
  ⟨0x14, [], 0x0, 0x0, 0x0, 0x0, 0x0⟩,
  ⟨0x18, [], 0x0, 0x0, 0x0, 0x0, 0x0⟩,
  ⟨0x1c, [], 0x0, 0x0, 0x0, 0x0, 0x0⟩,
  ⟨0x20, [], 0x0, 0xffffff, 0x0, 0x0, 0x0⟩,
  ⟨0x24, [], 0x0, 0x0, 0x0, 0x0, 0xffffffff⟩,
  ⟨0x28, [], 0x0, 0x0, 0x0, 0x0, 0x0⟩,
  ⟨0x2c, [], 0x0, 0x0, 0x0, 0x0, 0x0⟩,
  ⟨0x100, [(0x10, 8)], 0x0, 0xfffff007, 0x0, 0x0, 0x0⟩,
  ⟨0x104, [(0x10, 8)], 0x0, 0xffff, 0x0, 0x0, 0x0⟩,
  ⟨0x108, [(0x10, 8)], 0x0, 0xfffff000, 0x0, 0x0, 0x0⟩,
  ⟨0x10c, [(0x10, 8)], 0x0, 0xffff, 0x0, 0x0, 0x0⟩,
  ⟨0x200, [(0x20, 8)], 0x0, 0x1fff, 0x0, 0x0, 0x0⟩,
  ⟨0x204, [(0x20, 8)], 0x0, 0x0, 0x0, 0x40, 0x0⟩,
  ⟨0x208, [(0x20, 8)], 0x0, 0xffffffff, 0x0, 0x0, 0x0⟩,
  ⟨0x20c, [(0x20, 8)], 0x0, 0xffffffff, 0x0, 0x0, 0x0⟩,
  ⟨0x210, [(0x20, 8)], 0x0, 0xffffffff, 0x0, 0x0, 0x0⟩,
  ⟨0x214, [(0x20, 8)], 0x0, 0xffffffff, 0x0, 0x0, 0x0⟩,
  ⟨0x218, [(0x20, 8)], 0x0, 0xffffffff, 0x0, 0x0, 0x0⟩,
  ⟨0x21c, [(0x20, 8)], 0x0, 0x0, 0x0, 0x0, 0x0⟩]

/-- The register block `frd`, part 1: FRD_EVT_PEND_LO to COMMONS_RACE. -/
def regs_frd_1 : List RegDesc := [
  ⟨0x300, [], 0x0, 0x0, 0x0, 0xffffffff, 0x0⟩,
  ⟨0x304, [], 0x0, 0x0, 0x0, 0xffffffff, 0x0⟩,
  ⟨0x308, [], 0x0, 0x0, 0x0, 0x0, 0x3f⟩,
  ⟨0x30c, [], 0x0, 0x0, 0x0, 0x0, 0x1⟩,
  ⟨0x400, [], 0x0, 0x0, 0x0, 0x0, 0x1⟩,
  ⟨0x404, [], 0x0, 0x0, 0x103, 0x0, 0x0⟩,
  ⟨0x408, [], 0x0, 0x0, 0x0, 0x10, 0x0⟩,
  ⟨0x40c, [], 0x0, 0x0, 0x0, 0x0, 0x0⟩,
  ⟨0x410, [], 0x0, 0x0, 0x0, 0x0, 0x0⟩,
  ⟨0x414, [], 0x0, 0x0, 0x0, 0x0, 0x0⟩,
  ⟨0x418, [], 0x0, 0x0, 0x0, 0x0, 0x0⟩,
  ⟨0x41c, [], 0x0, 0x0, 0x0, 0x0, 0x0⟩,
  ⟨0x420, [], 0x0, 0x0, 0x0, 0x0, 0x0⟩]

/-- Every register of the block `frd`. -/
def regs_frd : List RegDesc := regs_frd_0 ++ regs_frd_1

/-- The register block `mem`, part 0: MEM_ECC_SRAM to SPOOL_DRAIN. -/
def regs_mem_0 : List RegDesc := [
  ⟨0x0, [], 0x0, 0x0, 0x0, 0x0, 0x0⟩,
  ⟨0x4, [], 0x0, 0x0, 0x0, 0x0, 0x0⟩,
  ⟨0x8, [], 0x0, 0x0, 0x0, 0x0, 0x0⟩,
  ⟨0xc, [], 0x0, 0x0, 0x0, 0x0, 0x0⟩,
  ⟨0x10, [], 0x18, 0xff, 0x0, 0x0, 0x0⟩,
  ⟨0x20, [], 0x0, 0xff, 0x0, 0x0, 0x100⟩,
  ⟨0x24, [], 0x0, 0x0, 0x0, 0x0, 0x0⟩,
  ⟨0x28, [], 0x0, 0x0, 0x0, 0x80000000, 0x0⟩,
  ⟨0x2c, [], 0x0, 0x0, 0x0, 0x0, 0x0⟩,
  ⟨0x40, [], 0x0, 0x0, 0x0, 0x0, 0x3ff⟩,
  ⟨0x44, [], 0x0, 0xffffffff, 0x0, 0x0, 0x0⟩,
  ⟨0x48, [], 0x0, 0xffffffff, 0x0, 0x0, 0x0⟩,
  ⟨0x4c, [], 0x0, 0xffffffff, 0x0, 0x0, 0x0⟩,
  ⟨0x50, [], 0x0, 0xffffffff, 0x0, 0x0, 0x0⟩,
  ⟨0x54, [], 0x0, 0xffffffff, 0x0, 0x0, 0x0⟩,
  ⟨0x58, [], 0x0, 0x0, 0x0, 0x0, 0x0⟩,
  ⟨0x5c, [], 0x0, 0x0, 0x0, 0x0, 0x0⟩,
  ⟨0x60, [], 0x1000000, 0xffff0000, 0x0, 0x0, 0x0⟩,
  ⟨0x400, [(0x20, 16)], 0x0, 0xffffffff, 0x0, 0x0, 0x0⟩,
  ⟨0x404, [(0x20, 16)], 0x0, 0xffffffff, 0x0, 0x0, 0x0⟩,
  ⟨0x408, [(0x20, 16)], 0x0, 0x1ffff, 0x0, 0x0, 0x0⟩,
  ⟨0x40c, [(0x20, 16)], 0x0, 0x0, 0x0, 0x0, 0x0⟩,
  ⟨0x410, [(0x20, 16)], 0x0, 0x0, 0x0, 0x0, 0x0⟩,
  ⟨0x414, [(0x20, 16)], 0x0, 0x0, 0x0, 0x0, 0x0⟩]

/-- The register block `mem`, part 1: SPOOL_FILL to SPOOL_FILL. -/
def regs_mem_1 : List RegDesc := [
  ⟨0x418, [(0x20, 16)], 0x0, 0x0, 0x0, 0x10000, 0x0⟩]

/-- Every register of the block `mem`. -/
def regs_mem : List RegDesc := regs_mem_0 ++ regs_mem_1

/-- The register block `dma`, part 0: DMA_CFG to CH_COMMIT_TAKEN_HI. -/
def regs_dma_0 : List RegDesc := [
  ⟨0x0, [], 0x3, 0xf, 0x0, 0x0, 0x0⟩,
  ⟨0x4, [], 0x77777777, 0x77777777, 0x0, 0x0, 0x0⟩,
  ⟨0x8, [], 0x77777777, 0x77777777, 0x0, 0x0, 0x0⟩,
  ⟨0xc, [], 0x0, 0x0, 0x0, 0x0, 0x0⟩,
  ⟨0x10, [], 0x0, 0x0, 0x0, 0x0, 0x0⟩,
  ⟨0x14, [], 0x0, 0x0, 0x0, 0x0, 0x0⟩,
  ⟨0x1000, [(0x40, 64)], 0x0, 0x1, 0x0, 0x0, 0x3c⟩,
  ⟨0x1004, [(0x40, 64)], 0x0, 0x0, 0x7, 0x0, 0x0⟩,
  ⟨0x1008, [(0x40, 64)], 0xffff, 0x0, 0xffffffff, 0x0, 0x0⟩,
  ⟨0x100c, [(0x40, 64)], 0x0, 0xffffffff, 0x0, 0x0, 0x0⟩,
  ⟨0x1010, [(0x40, 64)], 0x0, 0xffffffff, 0x0, 0x0, 0x0⟩,
  ⟨0x1014, [(0x40, 64)], 0x0, 0x0, 0x0, 0x7f0, 0x0⟩,
  ⟨0x1018, [(0x40, 64)], 0x0, 0x0, 0x0, 0x0, 0x0⟩,
  ⟨0x101c, [(0x40, 64)], 0x0, 0x0, 0x0, 0x0, 0x0⟩,
  ⟨0x1020, [(0x40, 64)], 0x0, 0x0, 0x0, 0x0, 0x0⟩,
  ⟨0x1024, [(0x40, 64)], 0x0, 0x0, 0x0, 0x0, 0x0⟩,
  ⟨0x1028, [(0x40, 64)], 0x0, 0x0, 0x0, 0x0, 0x0⟩,
  ⟨0x102c, [(0x40, 64)], 0x0, 0x0, 0x0, 0x0, 0x0⟩,
  ⟨0x1030, [(0x40, 64)], 0x0, 0x0, 0x0, 0x0, 0x0⟩,
  ⟨0x1034, [(0x40, 64)], 0x0, 0x0, 0x0, 0x0, 0x0⟩,
  ⟨0x1038, [(0x40, 64)], 0x0, 0x0, 0x0, 0x0, 0x0⟩,
  ⟨0x103c, [(0x40, 64)], 0x0, 0x0, 0x0, 0x0, 0x0⟩]

/-- Every register of the block `dma`. -/
def regs_dma : List RegDesc := regs_dma_0

/-- The register block `host`, part 0: HOST_SRC_MAP to RUN_FWD. -/
def regs_host_0 : List RegDesc := [
  ⟨0x0, [(0x4, 15)], 0x0, 0x1f, 0x0, 0x0, 0x0⟩,
  ⟨0x40, [(0x4, 16)], 0x64, 0xffff, 0x0, 0x0, 0x0⟩,
  ⟨0x80, [], 0x0, 0xffffffff, 0x0, 0x0, 0x0⟩,
  ⟨0x84, [], 0x0, 0xffffffff, 0x0, 0x0, 0x0⟩,
  ⟨0x88, [], 0x0, 0x0, 0x0, 0x0, 0xfffff⟩,
  ⟨0x90, [], 0x0, 0x0, 0x0, 0x0, 0x0⟩,
  ⟨0x94, [], 0x0, 0x0, 0x0, 0x1, 0x0⟩,
  ⟨0x98, [], 0x0, 0x0, 0x0, 0x0, 0x0⟩,
  ⟨0x1000, [(0x40, 2)], 0x0, 0x0, 0x0, 0x100, 0x0⟩,
  ⟨0x1004, [(0x40, 2)], 0x0, 0x0, 0x0, 0x0, 0x0⟩,
  ⟨0x1100, [], 0x3e80001, 0xffff0003, 0x0, 0x0, 0x0⟩,
  ⟨0x1104, [], 0x0, 0x0, 0x0, 0x1000, 0x0⟩,
  ⟨0x1108, [], 0x0, 0x0, 0x0, 0x0, 0xff0f⟩,
  ⟨0x110c, [], 0x0, 0x0, 0x0, 0x0, 0x0⟩,
  ⟨0x1110, [], 0xfff0000, 0xffffffff, 0x0, 0x0, 0x0⟩,
  ⟨0x1114, [], 0x0, 0x0, 0x0, 0x0, 0x7f⟩,
  ⟨0x1118, [], 0x0, 0x3ffff, 0x0, 0x0, 0x0⟩,
  ⟨0x111c, [], 0x0, 0x0, 0x0, 0x0, 0x0⟩,
  ⟨0x1120, [], 0x3e80000, 0xffff000f, 0x0, 0x0, 0x0⟩,
  ⟨0x1124, [(0x4, 2)], 0x0, 0x3ff, 0x0, 0x0, 0x0⟩,
  ⟨0x112c, [], 0x0, 0x0, 0x0, 0x0, 0x0⟩,
  ⟨0x1140, [(0x4, 16)], 0x0, 0xffffffff, 0x0, 0x0, 0x0⟩,
  ⟨0x1180, [(0x4, 16)], 0x0, 0x1ff, 0x0, 0x0, 0x0⟩]

/-- Every register of the block `host`. -/
def regs_host : List RegDesc := regs_host_0

/-- The register block `trust`, part 0: TRUST_STATE to TRUST_OWNER_STATUS. -/
def regs_trust_0 : List RegDesc := [
  ⟨0x0, [], 0x0, 0x0, 0x0, 0x0, 0x0⟩,
  ⟨0x4, [], 0x0, 0x0, 0x0, 0x0, 0x0⟩,
  ⟨0x8, [], 0x0, 0x0, 0x0, 0x0, 0x0⟩,
  ⟨0xc, [], 0x0, 0x0, 0x0, 0x0, 0x0⟩]

/-- Every register of the block `trust`. -/
def regs_trust : List RegDesc := regs_trust_0

/-- The register block `seal`, part 0: SEAL_RACE to SEALS_TAG. -/
def regs_seal_0 : List RegDesc := [
  ⟨0x0, [], 0x0, 0x0, 0x0, 0x0, 0x0⟩,
  ⟨0x100, [(0x20, 16)], 0x0, 0x0, 0x0, 0x0, 0x0⟩,
  ⟨0x104, [(0x20, 16)], 0x0, 0x0, 0x0, 0x0, 0x0⟩,
  ⟨0x108, [(0x20, 16), (0x4, 4)], 0x0, 0x0, 0x0, 0x0, 0x0⟩]

/-- Every register of the block `seal`. -/
def regs_seal : List RegDesc := regs_seal_0

/-- The register block `time`, part 0: TIME_NOW_LO to TIME_RACE. -/
def regs_time_0 : List RegDesc := [
  ⟨0x0, [], 0x0, 0x0, 0x0, 0x0, 0x0⟩,
  ⟨0x4, [], 0x0, 0x0, 0x0, 0x0, 0x0⟩,
  ⟨0x8, [], 0xa1b, 0x3ffeff, 0x0, 0x0, 0x0⟩,
  ⟨0xc, [], 0x3200c8, 0xffff03ff, 0x0, 0x0, 0x0⟩,
  ⟨0x10, [], 0xf4240, 0xffffffff, 0x0, 0x0, 0x0⟩,
  ⟨0x14, [], 0x0, 0xffffffff, 0x0, 0x0, 0x0⟩,
  ⟨0x18, [], 0x0, 0xffffffff, 0x0, 0x0, 0x0⟩,
  ⟨0x1c, [], 0x0, 0x3fffffff, 0x0, 0x0, 0x0⟩,
  ⟨0x20, [], 0x64, 0xffff, 0x0, 0x0, 0x0⟩,
  ⟨0x24, [], 0x3, 0x0, 0x0, 0xc00, 0x0⟩,
  ⟨0x28, [], 0x0, 0x0, 0x0, 0x0, 0x0⟩,
  ⟨0x2c, [], 0x0, 0x0, 0x0, 0x0, 0x0⟩,
  ⟨0x30, [(0x4, 3)], 0x0, 0x0, 0x0, 0x0, 0x0⟩,
  ⟨0x40, [], 0x0, 0xffffffff, 0x0, 0x0, 0x0⟩,
  ⟨0x44, [], 0x0, 0xffffffff, 0x0, 0x0, 0x0⟩,
  ⟨0x48, [], 0x0, 0x0, 0x0, 0x0, 0x1⟩,
  ⟨0x4c, [], 0x0, 0x0, 0x0, 0x0, 0x0⟩]

/-- Every register of the block `time`. -/
def regs_time : List RegDesc := regs_time_0

/-- The register block `trim`, part 0: TRIM_CTRL to TRIM_ITEM. -/
def regs_trim_0 : List RegDesc := [
  ⟨0x0, [], 0x0, 0xffff0f00, 0x0, 0x0, 0x1⟩,
  ⟨0x4, [], 0x0, 0x0, 0x0, 0x0, 0x0⟩,
  ⟨0x8, [], 0x0, 0x0, 0x0, 0x0, 0x0⟩,
  ⟨0xc, [], 0x0, 0x0, 0x0, 0x0, 0x0⟩,
  ⟨0x10, [], 0x0, 0x0, 0x0, 0x0, 0x0⟩,
  ⟨0x400, [(0x4, 222)], 0x0, 0x0, 0x0, 0x0, 0x0⟩]

/-- Every register of the block `trim`. -/
def regs_trim : List RegDesc := regs_trim_0

/-- The register block `tmr`, part 0: TMR_RACE to GPIO_STATUS. -/
def regs_tmr_0 : List RegDesc := [
  ⟨0x0, [], 0x0, 0x0, 0x0, 0x0, 0x0⟩,
  ⟨0x100, [(0x20, 64)], 0x0, 0x0, 0x0, 0x0, 0x1⟩,
  ⟨0x104, [(0x20, 64)], 0x0, 0x0, 0x7, 0x0, 0x0⟩,
  ⟨0x108, [(0x20, 64)], 0xf4240, 0x0, 0xffffffff, 0x0, 0x0⟩,
  ⟨0x10c, [(0x20, 64)], 0x0, 0x0, 0xffffffff, 0x0, 0x0⟩,
  ⟨0x110, [(0x20, 64)], 0x0, 0x0, 0xffffffff, 0x0, 0x0⟩,
  ⟨0x114, [(0x20, 64)], 0x0, 0x0, 0x0, 0x4, 0x0⟩,
  ⟨0x118, [(0x20, 64)], 0x0, 0x0, 0x0, 0x0, 0x0⟩,
  ⟨0x11c, [(0x20, 64)], 0x0, 0x0, 0x0, 0x0, 0x0⟩,
  ⟨0x1000, [(0x8, 64)], 0x0, 0x0, 0x0, 0x0, 0x0⟩,
  ⟨0x1004, [(0x8, 64)], 0x0, 0x0, 0x0, 0x0, 0x0⟩,
  ⟨0x2000, [(0x4, 32)], 0x0, 0x7ff, 0x0, 0x0, 0x0⟩,
  ⟨0x2080, [], 0x0, 0x0, 0x0, 0x0, 0x0⟩,
  ⟨0x2084, [], 0x0, 0xffffffff, 0x0, 0x0, 0x0⟩,
  ⟨0x2088, [], 0x0, 0x0, 0x0, 0x0, 0x0⟩,
  ⟨0x208c, [], 0x0, 0x0, 0x0, 0x1, 0x0⟩]

/-- Every register of the block `tmr`. -/
def regs_tmr : List RegDesc := regs_tmr_0

/-- The register block `pwr`, part 0: PWR_STATUS to PWR_SENSOR. -/
def regs_pwr_0 : List RegDesc := [
  ⟨0x0, [], 0x4000, 0x0, 0x0, 0xc0, 0x0⟩,
  ⟨0x4, [], 0x57d6e69, 0xfffffff, 0x0, 0x0, 0x0⟩,
  ⟨0x8, [], 0x0, 0x70000, 0x0, 0x0, 0x0⟩,
  ⟨0xc, [], 0x0, 0x0, 0x0, 0x0, 0x0⟩,
  ⟨0x10, [], 0x0, 0x0, 0x0, 0x0, 0x0⟩,
  ⟨0x14, [], 0x3200000, 0x0, 0x0, 0x0, 0x0⟩,
  ⟨0x18, [], 0x1f4, 0xffff, 0x0, 0x0, 0x0⟩,
  ⟨0x1c, [], 0x0, 0x0, 0x0, 0x0, 0x0⟩,
  ⟨0x20, [], 0x3c, 0xffff, 0x0, 0x0, 0x0⟩,
  ⟨0x24, [], 0x0, 0x0, 0x0, 0x0, 0x0⟩,
  ⟨0x30, [(0x4, 6)], 0x0, 0x0, 0x0, 0x0, 0x0⟩,
  ⟨0x100, [(0x4, 192)], 0x0, 0x0, 0x0, 0x0, 0x0⟩]

/-- Every register of the block `pwr`. -/
def regs_pwr : List RegDesc := regs_pwr_0

/-- The register block `run`, part 0: RUN_CTRL to RUN_WDOG_LEFT. -/
def regs_run_0 : List RegDesc := [
  ⟨0x0, [], 0x0, 0x0, 0x0, 0x0, 0x1f⟩,
  ⟨0x4, [], 0x0, 0x0, 0x0, 0x0, 0x0⟩,
  ⟨0x8, [], 0x0, 0xffffff, 0x0, 0x0, 0x0⟩,
  ⟨0xc, [], 0x0, 0x0, 0x0, 0x0, 0xffffffff⟩,
  ⟨0x10, [], 0x0, 0x0, 0x0, 0x0, 0x0⟩]

/-- Every register of the block `run`. -/
def regs_run : List RegDesc := regs_run_0

/-- The register block `peat`, part 0: PEAT_NEWEST_LO to PEAT_FW_CMD. -/
def regs_peat_0 : List RegDesc := [
  ⟨0x0, [], 0x0, 0x0, 0x0, 0x0, 0x0⟩,
  ⟨0x4, [], 0x0, 0x0, 0x0, 0x0, 0x0⟩,
  ⟨0x8, [], 0x0, 0x0, 0x0, 0x0, 0x0⟩,
  ⟨0xc, [], 0x0, 0x0, 0x0, 0x0, 0x0⟩,
  ⟨0x10, [], 0x0, 0x0, 0x0, 0x80, 0x0⟩,
  ⟨0x20, [(0x4, 10)], 0x0, 0xffffffff, 0x0, 0x0, 0x0⟩,
  ⟨0x48, [], 0x0, 0x0, 0x0, 0x0, 0xffff⟩]

/-- Every register of the block `peat`. -/
def regs_peat : List RegDesc := regs_peat_0

end Sys2Proof.Machine
end

