-- ==== Sys2Proof/Machine/Sparse.lean ====
section
/-!
DEFINITION. Sparse tables: a list of (key, value) pairs with strictly rising keys, in which no pair repeats what an
unlisted key reads as. `d k` is that reading, `none` where an unlisted key holds nothing. Registers, memory and the
tables of units are all kept so; equal tables are equal lists.
-/

namespace Sys2Proof.Machine

/-- The value listed at a key. -/
def Sparse.find {α : Type} : List (Nat × α) → Nat → Option α
  | [], _ => none
  | (a, v) :: m, k => if k = a then some v else Sparse.find m k

/-- The table without a key. -/
def Sparse.erase {α : Type} : List (Nat × α) → Nat → List (Nat × α)
  | [], _ => []
  | (a, v) :: m, k => if k = a then Sparse.erase m k else (a, v) :: Sparse.erase m k

/-- The table with a pair put in its place. -/
def Sparse.insert {α : Type} : List (Nat × α) → Nat → α → List (Nat × α)
  | [], k, v => [(k, v)]
  | (a, w) :: m, k, v => if k < a then (k, v) :: (a, w) :: m else (a, w) :: Sparse.insert m k v

/-- The table after a write: a value that an unlisted key would read as is not listed. -/
def Sparse.put {α : Type} [DecidableEq α] (d : Nat → Option α) (m : List (Nat × α)) (k : Nat) (v : α) :
    List (Nat × α) :=
  if d k = some v then Sparse.erase m k else Sparse.insert (Sparse.erase m k) k v

/-- The table with every listed value changed. -/
def Sparse.change {α : Type} [DecidableEq α] (d : Nat → Option α) (f : α → α) (m : List (Nat × α)) : List (Nat × α) :=
  m.foldl (fun t e => Sparse.put d t e.1 (f e.2)) m

/-- The value read at a key, with what an unlisted key reads as. -/
def Sparse.get {α : Type} (d : Nat → α) (m : List (Nat × α)) (k : Nat) : α := (Sparse.find m k).getD (d k)

/-- Keys rise strictly and stay above `lo` (exclusive, shifted by one), and no entry repeats an unlisted reading. -/
def Sparse.wfFrom {α : Type} [DecidableEq α] (d : Nat → Option α) : Nat → List (Nat × α) → Bool
  | _, [] => true
  | lo, (a, v) :: m => decide (lo ≤ a) && decide (d a ≠ some v) && Sparse.wfFrom d (a + 1) m

/-- The canonical form of a table. -/
def Sparse.wf {α : Type} [DecidableEq α] (d : Nat → Option α) (m : List (Nat × α)) : Bool := Sparse.wfFrom d 0 m

/-- A set of numbers kept as a rising list: insertion. -/
def NatSet.insert : List Nat → Nat → List Nat
  | [], k => [k]
  | a :: m, k => if k < a then k :: a :: m else if k = a then a :: m else a :: NatSet.insert m k

/-- A set of numbers kept as a rising list: removal. -/
def NatSet.erase (m : List Nat) (k : Nat) : List Nat := m.filter (fun a => a != k)

/-- Numbers rise strictly from `lo` on. -/
def NatSet.wfFrom : Nat → List Nat → Bool
  | _, [] => true
  | lo, a :: m => decide (lo ≤ a) && NatSet.wfFrom (a + 1) m

end Sys2Proof.Machine
end

