-- ==== Sys2Proof/Config.lean ====
section
/-!
DEFINITION. What one implementation of the block fixes, and the FREE VALUES: constants with no body, so that nothing can
evaluate them and a claim holds whatever they are. Each is applied to a counter of the state or to the operands it
depends on; notes/assumptions/ says for each why the spec leaves it open.
-/

namespace Sys2Proof

/-- A fresh undefined word (log entry 3): the spec calls the value undefined. -/
opaque Config.freeWord : Nat → Word

/-- A byte of DRAM that nothing has written since the last loss of DRAM content, by epoch and address (13 R410, 02 R73;
log entry 5). -/
opaque Config.dramFree : Nat → Nat → Byte

/-- A byte of host memory that the device has not written: the host's own content, by address and count of host reads
(15 R466; log entry 6). -/
opaque Config.hostByte : Nat → Nat → Byte

/-- SHA-384 of a byte string: 48 bytes (16 R483; log entry 7). -/
opaque Config.sha384 : List Byte → Vector Byte 48

/-- HMAC-SHA-384 of a key and a message (16 R483; log entry 7). -/
opaque Config.hmac : List Byte → List Byte → Vector Byte 48

/-- The byte at an index of HKDF-Expand(prk, info) (16 R492; log entry 7). -/
opaque Config.hkdfByte : List Byte → List Byte → Nat → Byte

/-- The P-384 public key of a seed, uncompressed: 97 bytes (16 R483; log entry 7). -/
opaque Config.p384Public : List Byte → Vector Byte 97

/-- The x-coordinate of a secret times a point of P-384 (16 R492; log entry 7). -/
opaque Config.p384Ecdh : List Byte → List Byte → Vector Byte 48

/-- An ECDSA P-384 signature of a digest with the key of a seed: r and s (16 R489, R498; log entry 7). -/
opaque Config.ecdsaSign : List Byte → List Byte → Vector Byte 96

/-- Whether an ECDSA P-384 signature of a message checks under a public key (02 R61, 16 R489; log entry 7). -/
opaque Config.ecdsaOk : List Byte → List Byte → List Byte → Bool

/-- The byte at an index of the ML-DSA-65 public key of a seed (16 R483; log entry 7). -/
opaque Config.mldsaPublicByte : List Byte → Nat → Byte

/-- The byte at an index of an ML-DSA-65 signature of a message with the key of a seed (16 R498; log entry 7). -/
opaque Config.mldsaByte : List Byte → List Byte → Nat → Byte

/-- Whether an ML-DSA-65 signature of a message checks under a public key (02 R61, 16 R489; log entry 7). -/
opaque Config.mldsaOk : List Byte → List Byte → List Byte → Bool

/-- The key stream byte of AES-256-GCM for a key, an IV and an index: ciphertext is plaintext XOR key stream
(16 R495; log entry 7). -/
opaque Config.gcmStream : List Byte → List Byte → Nat → Byte

/-- The 128-bit tag of AES-256-GCM for a key, an IV, additional data and ciphertext (16 R495; log entry 7). -/
opaque Config.gcmTag : List Byte → List Byte → List Byte → List Byte → Vector Byte 16

/-- A fresh random byte of the root's generator, by draw and index (16 R487, R492; log entry 8). -/
opaque Config.randomByte : Nat → Nat → Byte

/-- The unique device secret in the fuses (16 R483; log entry 9). -/
opaque Config.uds : Vector Byte 48

/-- The digest of the root ROM (16 R483; log entry 9). -/
opaque Config.romDigest : Vector Byte 48

/-- The certificate chain up to and with the DeviceID certificate, written at the factory (16 R484, R485; log entry 9). -/
opaque Config.deviceChain : List Byte

/-- The part of an Alias certificate that is signed: an attestation key, the layer-1 inputs, the ML-DSA-65 key (16
R484; log entry 7). -/
opaque Config.aliasTbs : List Byte → List Byte → List Byte → List Byte

/-- A certificate: its signed part and the signature (16 R484; log entry 7). -/
opaque Config.certificate : List Byte → List Byte → List Byte

/-- The payload of a runner flit whose layout no rule gives, from its TYPE and what it carries (17 R508; log entry
132). -/
opaque Config.flitPayload : Nat → List Nat → List Byte

/-- Where the PCI Express capability of a number lies in configuration space, as a DWORD: R456 lists the capabilities and
gives no places (15 R456; log entry 128). -/
opaque Config.capAt : Nat → Nat

/-- What an SPDM signature covers beside the request: the transcript of the DMTF standard (16 R485; log entry 7). -/
opaque Config.spdmTranscript : Nat → List Byte → List Byte

end Sys2Proof
end

