-- ==== Sys2Proof/Machine/State.lean ====
section
/-!
DEFINITION. The state of the block as plain data, and the state after reset. Registers are one sparse table of words,
kept by address (Machine/RegMap.lean has the addresses); what the spec gives the block beside its registers is in the
structures below, a table per kind of unit. INVENTORY.md lists every piece with its rule.
-/

namespace Sys2Proof.Machine

/-- The operating state (01 R27). `off` has no code in SYS_STATE. -/
inductive Mode where
  | off
  | boot
  | safe
  | maint
  | run
  | halt
  deriving DecidableEq, Repr

/-- The code of an operating state in SYS_STATE.STATE (01, SYS_STATE). -/
def Mode.code : Mode → Nat
  | .off => 0
  | .boot => 1
  | .safe => 2
  | .maint => 3
  | .run => 4
  | .halt => 5

/-- A record on its way to the spool: the fields its producer writes (15 R474). `dev` is the device ID of a forwarded
record, with its run and sequence; `tail` is bytes 48 to 63; with
`seqTail` the intake puts the sequence of the source's previous record into the first four of them (08 R285). -/
structure Rec where
  typ : Nat
  src : Nat
  pos : Int := 0
  time : Nat := 0
  flags : Nat := 0
  speed : Nat := 0
  missed : Nat := 0
  tail : List Byte := []
  payload : List Byte := []
  dev : Option Nat := none
  seqTail : Bool := false
  deriving DecidableEq, Repr

/-- A record that lies in a stream's spool region: where, and what delivery and the sealer need of its header. `old`: it
was restored at a warm start (20 R580); `fin`: it is the last one of its run in the stream (15 R468). -/
structure Ent where
  off : Nat
  len : Nat
  seq : Nat
  run : Nat
  typ : Nat
  src : Nat
  old : Bool := false
  fin : Bool := false
  final : Bool := false
  deriving DecidableEq, Repr

/-- A closed chunk that waits for its SEAL (15 R475, 16 R495): its records, the place and the flags of its SEAL, whether
an ANCHOR closes it and whether it holds RUN_STOP, when it closed, whether the sealer has started on it. -/
structure Chunk where
  idx : Nat
  epoch : Nat
  ents : List Ent
  sealEnt : Ent
  flags : Nat
  anchor : Bool
  final : Bool
  closedAt : Nat
  started : Bool := false
  deriving DecidableEq, Repr

/-- An open drop span of one source and type (15 R478). -/
structure Span where
  src : Nat
  typ : Nat
  pos : Int
  time : Nat
  last : Nat
  count : Nat
  swath : Option Nat
  swathLost : Bool
  deriving DecidableEq, Repr

/-- A grant that the device has read and accepted (15 R466). -/
structure Grant where
  addr : Nat
  len : Nat
  id : Nat
  deriving DecidableEq, Repr

/-- The buffer being filled (15 R468): the bytes written into it, and what its completion entry will hold. -/
structure Filling where
  grant : Grant
  bytes : Nat := 0
  firstSeq : Nat := 0
  lastSeq : Nat := 0
  run : Nat := 0
  headCont : Bool := false
  tailCont : Bool := false
  recovered : Bool := false
  runEnd : Bool := false
  final : Bool := false
  deriving DecidableEq, Repr

/-- A completion entry that waits to be issued (15 R470): its fields, and the bytes that the drain pointer then passes. -/
structure Completion where
  id : Nat
  bytes : Nat
  firstSeq : Nat
  lastSeq : Nat
  run : Nat
  flags : Nat
  drain : Nat
  final : Bool := false
  deriving DecidableEq, Repr

/-- The hidden state of one output stream: intake, chunks, drop spans, delivery (15 R465 to R480, 16 R493 to R499).
`ents` are the sealed records from the drain pointer on, `cut` the bytes of the first one behind it, `sent` the bytes
that lie in buffers whose entries have not been issued; `tailSeen` GR_TAIL as the last tail check saw it; `tailAt` and
`fullAt` the instants of the last tail check and full-ring check; `reading` counts the ring entries read and not taken,
`early` those whose reads returned ahead of their turn; `stopped` holds after a ring error until the ring is enabled
again. -/
structure Stream where
  enabled : Bool := false
  isSealed : Bool := false
  driven : Bool := false
  pacingAxis : Nat := 0
  ents : List Ent := []
  cut : Nat := 0
  sent : Nat := 0
  closed : List Chunk := []
  open_ : List Ent := []
  openAt : Nat := 0
  chunkIdx : Nat := 0
  epoch : Nat := 0
  nextSeq : Nat := 0
  recCount : Nat := 0
  lastSeqs : List (Nat × Nat) := []
  spans : List Span := []
  waiting : List Rec := []
  inRun : Bool := false
  stopping : Bool := false
  bandMark : Bool := false
  prevTag : List Byte := []
  sealedIdx : Nat := 0
  sealedEpoch : Nat := 0
  sealedSeq : Nat := 0
  sealedRun : Nat := 0
  anySealed : Bool := false
  finalSealed : Bool := false
  phase : Bool := true
  tailSeen : Nat := 0
  stopped : Bool := false
  grants : List Grant := []
  reading : Nat := 0
  early : List (Nat × Grant) := []
  tailAt : Nat := 0
  fullAt : Nat := 0
  filling : Option Filling := none
  completions : List Completion := []
  fwdSpace : Nat := 0
  fwdStalled : Bool := false
  fwdGot : List (Nat × Nat) := []
  fwdBuf : List Byte := []
  deriving DecidableEq, Repr

/-- The stage ring of a staged stream (11 R375 to R380), by offsets from STAGE_BASE: where the next record goes, the first
byte still needed, the bytes occupied, of these the bytes whose notices were delivered, notices that wait for the queue
with the bytes of their records, when the run stopped, whether its stage is over. -/
structure StageSt where
  wr : Nat := 0
  rd : Nat := 0
  used : Nat := 0
  given : Nat := 0
  waiting : List (List Byte × Nat) := []
  stopAt : Option Nat := none
  ended : Bool := false
  deriving DecidableEq, Repr

/-- A peat log record before its SEQ and CRC are written (20 R583). -/
structure PeatRec where
  time : Nat
  typ : Nat
  origin : Nat
  data : List Byte
  deriving DecidableEq, Repr

/-- The SPDM capabilities that the root names (16 R485). -/
inductive SpdmCap where
  | cert
  | chal
  | measSigned
  | measFresh
  | keyEx
  | encrypt
  | mac
  | hbeat
  | keyUpd
  | chunk
  deriving DecidableEq, Repr

/-- The SPDM algorithms that the root names (16 R485). -/
inductive SpdmAlg where
  | ecdsaP384
  | sha384
  | dheSecp384r1
  | aes256Gcm
  | spdmKeySchedule
  deriving DecidableEq, Repr

/-- What the root answers to an SPDM request (16 R485 to R490), without the framing of the DMTF standard: the content this
spec gives. `busy`, `unsupported` and `unexpected` are the ERROR responses; `owner` carries RESULT. -/
inductive SpdmRsp where
  | version
  | capabilities (l : List SpdmCap)
  | algorithms (l : List SpdmAlg)
  | digests (chain : List Byte)
  | certificate (chain : List Byte)
  | challengeAuth (signature : List Byte)
  | measurements (blocks : List (Nat × List Byte)) (signature : List Byte)
  | keyExchange (signature : List Byte)
  | finish
  | heartbeat
  | keyUpdate
  | endSession
  | chunkAck
  | chunk (bytes : List Byte) (last : Bool)
  | nonce (bytes : List Byte)
  | owner (result : Nat)
  | peat (newest : Nat) (records : List Byte)
  | busy
  | unsupported
  | unexpected
  deriving DecidableEq, Repr

/-- The pins on which the block sends a pulse of its own: the GPIO pin of a compare unit, LCn_LAT of a chain, TSYNC,
SPORE_RST_N (03 R111, 06 R199, 18 R535, 02 R44). -/
inductive PulsePin where
  | compare
  | lampLatch
  | timeSync
  | sporeReset
  deriving DecidableEq, Repr

/-- What the block has sent to the outside, in order. -/
inductive Out where
  /-- A posted write to host memory (15 R470, 14 R441). -/
  | hostWrite (addr : Nat) (bytes : List Byte)
  /-- A non-posted read of host memory (14 R444, 15 R467). -/
  | hostRead (addr len : Nat)
  /-- An MSI-X message (15 R482). -/
  | msix (vector : Nat)
  /-- A configuration completion: a value, or retry status (15 R457). -/
  | config (value : Option Word)
  /-- A flit on a runner link, and its 32 bytes (17 R508). -/
  | flit (link : Nat) (f : Flit) (bytes : List Byte)
  /-- An SPDM response or error (16 R485). -/
  | spdm (r : SpdmRsp)
  /-- A line trigger pulse of an imaging port: the instant of its edge, its width in ns, and whether the pair is inverted
  (04 R148). -/
  | lineTrigger (port at_ width : Nat) (inverted : Bool)
  /-- A pulse of a pin: which pin, of which unit or pin number, its start, its width in ns, and whether it is low. -/
  | pulse (pin : PulsePin) (unit at_ width : Nat) (low : Bool)
  /-- A pulse of TPn_SYNC: its start, its width in cycles of TPn_MCLK, the divider of 1,600 MHz that this runs at, and
  whether the pulse is low (07 R221, R225). -/
  | frameSync (port at_ cycles div : Nat) (low : Bool)
  /-- An SPI transfer of an imaging port (04 R134): the divider of ISn_SCK, CPOL and CPHA, the bytes sent, how many
  bytes at their end are sampled on ISn_MISO, and for how many ns at least ISn_CS_N then stays high. -/
  | spi (port div : Nat) (cpol cpha : Bool) (sent : List Byte) (read gap : Nat)
  /-- An I²C-bus transfer of a thermal port (07 R224, R247): I2C_SPEED, the device address, the bytes written; for a read
  they are the register address, and after a repeated START so many bytes are read. -/
  | i2c (port speed dev : Nat) (sent : List Byte) (read : Nat)
  /-- A phase frame of a phase port (10 R318). -/
  | phaseFrame (port : Nat) (words : List Nat)
  /-- A frame shifted into a chain: the divider of LCn_SCK, and the bits in the order in which LCn_SDO carries them
  (06 R195, R196, R203). -/
  | lampFrame (chain div : Nat) (bits : List Bool)
  /-- A refresh command to the DRAM (13 R413, 19 R569). -/
  | refresh
  /-- The TAP executes an instruction, with the word that IDCODE shifts out (21 R608). -/
  | tap (i : TapInstr) (id : Option Word)
  /-- A read of the control or exchange window answered to the host (15 R461, R463). -/
  | windowRead (bytes : List Byte)
  deriving DecidableEq, Repr

/-- Device time and its sources (18 R531 to R538). `now` is device time in ns; it runs at 1 + steerNum / steerDen of
nominal, and `steerAcc` holds what part of a nanosecond has been gathered; `tsyncOut` is the instant of the last pulse of
TSYNC since the last step. -/
structure TimeSt where
  now : Nat := 0
  steerNum : Int := 0
  steerDen : Nat := 1
  steerAcc : Int := 0
  streak : Nat := 0
  runnerGood : Nat := 0
  runnerLast : Nat := 0
  tsyncGood : Nat := 0
  tsyncLast : Option Nat := none
  tsyncOut : Option Nat := none
  ptmGood : Nat := 0
  ptmBad : Nat := 0
  oscillator : Bool := true
  cold : Bool := true
  deriving DecidableEq, Repr

/-- The self-trim (18 R539 to R543): what the measurements of steps 2 to 4 found for each item, nothing where an item
could not be measured; a tap, and whether its eye, its lock or its result is plausible. `step` is the step in progress. -/
structure TrimSt where
  step : Nat := 0
  found : List (Option (Int × Bool)) := []
  skip : List Nat := []
  items : List (Nat × Nat) := []
  deriving DecidableEq, Repr

/-- A timer (18 R546): its next expiry, when its PWM output falls, whether the output is asserted, the last instant at
which it expired. -/
structure TimerSt where
  next : Option Nat := none
  fall : Option Nat := none
  high : Bool := false
  last : Option Nat := none
  deriving DecidableEq, Repr


/-- A march on request (13 R421). -/
structure March where
  unit : Nat
  destructive : Bool
  deriving DecidableEq, Repr

/-- A commit or delete that the vault controller has accepted (13 R428, R431): `port` names the thermal port of an
internal request, `data` the source's bytes when the command was written. -/
structure VaultReq where
  isDelete : Bool
  src : Nat
  len : Nat
  id : Nat
  crc : Nat
  kind : Nat
  port : Option Nat
  data : List Byte := []
  deriving DecidableEq, Repr

/-- The memory island: march, spare rows used by unit, SRAM words whose correction waits to be written back, the vault
controller's queue, the scrubber's next word (13 R413 to R431). -/
structure MemSt where
  march : Option March := none
  sparesUsed : List (Nat × Nat) := []
  writebacks : List Nat := []
  vault : List VaultReq := []
  scrubAt : Nat := 0
  deriving DecidableEq, Repr

/-- The PCIe function (15 R455 to R459, R616). -/
structure PcieSt where
  ready : Bool := false
  linkUp : Bool := false
  speed : Nat := 0
  width : Nat := 0
  memEnable : Bool := false
  busMaster : Bool := false
  msixEnable : Bool := false
  msixMask : Bool := false
  d3 : Bool := false
  perst : Bool := false
  maxPayload : Nat := 128
  maxRead : Nat := 512
  ptmEnable : Bool := false
  cfg : List (Nat × Word) := []
  aer : List Nat := []
  ideStreams : List Nat := []
  ideFailed : List Nat := []
  deriving DecidableEq, Repr

/-- A non-posted read of host memory that waits for its completion: by whom, where it lands (of a
grant-ring read, the entry's index); `flush`: a flush read (14 R444, R446, 15 R467). -/
structure HostRead where
  tag : Nat
  channel : Option (Fin 64)
  stream : Option (Fin 16)
  addr : Nat
  len : Nat
  dst : Nat
  issued : Nat
  flush : Bool := false
  deriving DecidableEq, Repr

/-- The peat log writer (20 R583 to R588): its queue, the next SEQ and the window. -/
structure PeatSt where
  queue : List PeatRec := []
  nextSeq : Nat := 0
  winSeq : Nat := 0
  deriving DecidableEq, Repr

/-- A descriptor as the channel holds it (14 R433): its address, and its 64 bytes. -/
structure Desc where
  addr : Nat
  bytes : List Byte
  deriving DecidableEq, Repr

/-- The next descriptor of a chain (14 R440, R448): nothing, a fetch in progress, held, or not to be had: HALT_WHY and the
address. -/
inductive NextDesc where
  | none
  | fetching (addr : Nat)
  | held (d : Desc)
  | failed (why addr : Nat)
  deriving DecidableEq, Repr

/-- A DMA channel (14 R436 to R451): the descriptor it holds, the bytes granted and completed of it, its first failing
burst and that burst's STATUS, a flush read that is awaited, the STATUS and RESIDUE being written back, ABORT under way or
due after the descriptor's end, the next descriptor, the trigger source named by the last descriptor fetched and, where
that differs, by the one before it (14 R452). `undef`: values are undefined until the next START. -/
structure Chan where
  cur : Option Desc := none
  released : Bool := false
  granted : Nat := 0
  moved : Nat := 0
  half : Bool := false
  failed : Option (Nat × Nat) := none
  flushing : Bool := false
  ending : Option (Nat × Nat) := none
  aborting : Bool := false
  abortAfter : Bool := false
  nxt : NextDesc := .none
  source : Option (Nat × Nat) := none
  former : Option (Nat × Nat) := none
  undef : Bool := false
  deriving DecidableEq, Repr

/-- A requester's wait (14 R443): bursts granted to others, levels risen, the order of its last promotion. -/
structure Wait where
  seen : Nat := 0
  raised : Nat := 0
  order : Option Nat := none
  deriving DecidableEq, Repr

/-- The engine (14 R442 to R444): the requester whose burst moves (channel n, or 64 + stream), the channel burst's place
and length, the waits, the number of promotions, the requester served last at each level, the triggers sent and not yet
counted as (channel, kind, index) (R438, R445), the tags whose completions are still to be discarded (R449). -/
structure DmaSt where
  busy : Option Nat := none
  burst : Nat × Nat := (0, 0)
  waits : List (Nat × Wait) := []
  promotions : Nat := 0
  served : List (Nat × Nat) := []
  sent : List (Nat × Nat × Nat) := []
  late : List Nat := []
  deriving DecidableEq, Repr

/-- One owner slot: the hash fuses, VALID and REVOKED (16 R488). -/
structure OwnerSlot where
  hash : List Byte := []
  valid : Bool := false
  revoked : Bool := false
  deriving DecidableEq, Repr

/-- The keys of the present run (16 R492). -/
structure RunKeys where
  prk : List Byte
  qE : List Byte
  deriving DecidableEq, Repr

/-- The SPDM responder (16 R485): whether a session is open and whether FINISH has completed it, the large request
received chunk by chunk, what is left of the last response for CHUNK_GET, the number of key updates. -/
structure SpdmSt where
  session : Bool := false
  established : Bool := false
  large : List Byte := []
  largeOut : List Byte := []
  keyEpoch : Nat := 0
  deriving DecidableEq, Repr

/-- The root: identity, owner slots, fuses, keys (16 R483 to R492). What the AON island keeps across a start is here
too: DEBUG and the key state. -/
structure RootSt where
  serial : Nat := 0
  slots : List OwnerSlot := []
  slotInForce : Nat := 0
  arbFused : Nat := 0
  debug : Bool := false
  nonce : Option (List Byte) := none
  layerHeader : List Byte := []
  cdi1 : List Byte := []
  aliasCert : List Byte := []
  keys : Option RunKeys := none
  randoms : Nat := 0
  runDone : Bool := false
  wdogLeft : Nat := 0
  wdogAt : Nat := 0
  causeTime : Nat := 0
  deriving DecidableEq, Repr

/-- One script operation (02 R58). -/
structure ScriptOp where
  op : Nat
  width : Nat
  dev : Nat
  addr : Nat
  data : Nat
  mask : Nat
  deriving DecidableEq, Repr

/-- One script of the SCRIPT section (02, SCRIPT). -/
structure Script where
  target : Nat
  phase : Nat
  ops : List ScriptOp
  deriving DecidableEq, Repr

/-- One zone of the ZONE section (02, ZONE). -/
structure Zone where
  id : Nat
  itf : Nat
  ports : Nat
  start : Int
  stop : Int
  deriving DecidableEq, Repr

/-- One calibration reference (02 R56, CALREF). -/
structure CalRef where
  block : Nat
  set : Nat
  kind : Nat
  id : Nat
  gen : Nat
  deriving DecidableEq, Repr

/-- What the device keeps of the spore it booted (02 R48 to R59). -/
structure Spore where
  slot : Nat
  header : List Byte
  build : Nat
  arb : Nat
  flags : Nat
  permissions : Nat
  autorun : Bool
  readyMask : Nat
  recordKey : List Byte
  wdogMs : Nat
  autorunDelay : Nat
  hostReqMin : Nat
  streams : List (Nat × Nat)
  scripts : List Script
  zones : List Zone
  calrefs : List CalRef := []
  deriving DecidableEq, Repr

/-- The mailbox's running command (02 R78). -/
inductive MbxJob where
  | erase (off len : Nat)
  | write (off len : Nat) (bytes : List Byte)
  | verify
  | activate
  deriving DecidableEq, Repr

/-- What a run that ended by fault leaves for the next run's GAP(RECOVERY) records (20 R579). -/
structure Recovery where
  prevRun : Nat
  time : Nat
  cause : Nat
  abandoned : Bool
  dramLost : Bool
  discarded : List (Nat × Nat)
  deriving DecidableEq, Repr

/-- A script engine: one per imaging port, thermal port and lamp chain (02 R58, R59, 04 R135). `ops` are the operations
left of the running script, the first of them in progress, `idx` its number; `queue` the scripts that wait, with their
phases; `upOk`, `upFailed` and `startDone`, `startFailed` how phases 0x01 and 0x02 ended. -/
structure Engine where
  running : Bool := false
  phase : Nat := 0
  ops : List ScriptOp := []
  idx : Nat := 0
  queue : List (Nat × List ScriptOp) := []
  inTransfer : Bool := false
  polling : Bool := false
  pollFrom : Option Nat := none
  pollLast : Nat := 0
  waitUntil : Option Nat := none
  upOk : Bool := false
  upFailed : Bool := false
  startDone : Bool := false
  startFailed : Bool := false
  deriving DecidableEq, Repr

/-- Start-up and the spore update (02 R43 to R80). `regions` are the buffer regions that the image in force claims (02
R52, 13 R411); `spoilt` the spans of the flash, by address and length, that were programmed from a data buffer written
meanwhile (02 R79). -/
structure BootSt where
  spore : Option Spore := none
  job : Option MbxJob := none
  bufferDirty : Bool := false
  spoilt : List (Nat × Nat) := []
  activated : Bool := false
  recovery : Option Recovery := none
  ready : Bool := false
  readyRose : Option Nat := none
  startAt : Nat := 0
  holdoff : List (Nat × Nat) := []
  autorunWaits : Bool := false
  runFirst : Bool := true
  arbPending : Bool := false
  regions : List (Nat × Nat) := []
  deriving DecidableEq, Repr


/-- A request in the queue of the precision measurement island (09 R299, R300, R308): its measurement, whether it is an
impedance test, whether it is urgent, when it arrived. -/
structure PrecReq where
  k : Nat
  imp : Bool
  urgent : Bool
  at_ : Nat
  deriving DecidableEq, Repr

/-- A modulator (09 R292 to R304): the measurement that converts, whether in phase 2 of a 3-wire conversion, whether the
next phase waits for its pin; when the phase started; the impedance test under way; whether excitation has settled;
samples left to suppress; the window: its samples, their sum and number, whether it is spoilt, SAT, OPEN, its first and
last averaged sample's time; RAW of phase 1. -/
structure ModSt where
  run : Option Nat := none
  phase2 : Bool := false
  waits : Bool := false
  startAt : Nat := 0
  test : Option Nat := none
  settled : Bool := false
  sup : Nat := 0
  pos : Nat := 0
  sum : Int := 0
  bad : Bool := false
  sat : Bool := false
  cut : Bool := false
  t0 : Option Nat := none
  t1 : Option Nat := none
  raw1 : Int := 0
  deriving DecidableEq, Repr

/-- A result on its way to publication (09 R298 step 6, R310). A `raw` or `value` of none is not stated by the spec, or
repeats the previous one where `invalid`. -/
structure PrecRes where
  k : Nat
  raw : Option Int
  value : Option Int
  invalid : Bool
  cut : Bool
  nocal : Bool
  sat : Bool
  range : Bool
  time : Option Nat
  kind : Nat
  deriving DecidableEq, Repr

/-- A measurement's hidden state: the end of its delayed trigger, from when the next IMP_INTERVAL runs (none: from the
start), the last result that consumers take (VALUE, TIME, KIND), the newest result's time of publication and whether it
carries INVALID or OPEN (09 R299, R308, R310 to R313). -/
structure MeasSt where
  delay : Option Nat := none
  impFrom : Option Nat := none
  good : Option (Int × Nat × Nat) := none
  pubAt : Option Nat := none
  bad : Bool := false
  deriving DecidableEq, Repr

/-- A current loop's hidden state: the last write of LOOP_n_VALUE, since when the drive is at its limit below the
setpoint, since when the readback differs (09 R313, R314). -/
structure LoopSt where
  writtenAt : Option Nat := none
  limitFrom : Option Nat := none
  offFrom : Option Nat := none
  deriving DecidableEq, Repr

/-- A thermal statistic as a loop source (08 R284, 09 R312): kelvin × 100, when it was updated, REF_STALE. -/
structure StatSt where
  v : Int := 0
  updated : Option Nat := none
  stale : Bool := false
  deriving DecidableEq, Repr

/-- The precision measurement island (09). `cal` holds the gains that a self-calibration has left, `stats` the thermal
statistics by 16 port + 2 region + s. -/
structure PrecSt where
  queue : List PrecReq := []
  mods : List (Nat × ModSt) := []
  meas : List (Nat × MeasSt) := []
  results : List PrecRes := []
  cal : Option (List Nat) := none
  loops : List (Nat × LoopSt) := []
  stats : List (Nat × StatSt) := []
  deriving DecidableEq, Repr


/-- A drive frame (06 R196, R199): the row it serves (0 outside a matrix), PWM and DAC words of its channels by IC and
channel, whether it carries the committed set, whether it ends a script, the groups it relights, whether its shift has
ended. -/
structure LampFrame where
  row : Nat
  words : List (Nat × Nat)
  commits : Bool
  relatch : Bool
  lit : List Nat
  shifted : Bool := false
  deriving DecidableEq, Repr

/-- A lamp chain (06 R196 to R217). `words` are the present drive words by channel, `next` those of the committed set;
`computing` holds both as the computation in progress will leave them, `again` says that the derating factor changed
meanwhile. `latched` is the frame latched last. `faulty` are the channels whose last readback reported a fault, `bad`
the channels a DEGRADED group keeps dark; `openG` and `endedG` the groups' open fault intervals and the ends of the
last ones, `endedC` the end of the last one of the chain's own; `restore` the groups being relit, with the rows not
read back. `blkAt` is the instant of the last blanking or row slot; `scriptBlk` holds from the instant at which a
script holds LCn_BLK to its relatch, `scriptOpen` from its first script frame. -/
structure LampSt where
  up : Bool := false
  held : Bool := false
  words : List (Nat × Nat) := []
  next : Option (List (Nat × Nat)) := none
  computing : Option (List (Nat × Nat) × Option (List (Nat × Nat))) := none
  again : Bool := false
  frame : Option LampFrame := none
  latched : Option LampFrame := none
  row : Nat := 0
  rowOn : Bool := false
  blk : Bool := true
  blkAt : Option Nat := none
  d : Nat := 0x8000
  temp : Int := 2500
  tempTime : Option Nat := none
  tempOld : Bool := false
  faulty : List Nat := []
  bad : List Nat := []
  openG : List Nat := []
  endedG : List (Nat × Nat) := []
  errOpen : Bool := false
  scriptBlk : Bool := false
  scriptOpen : Bool := false
  endedC : Option Nat := none
  restore : List (Nat × List Nat) := []
  deriving DecidableEq, Repr

/-- A temperature sensor (19 R562, R563): the code it has shown since `since`, its twin's reading then, whether the twin
has moved by 2 °C since; nothing before its first conversion. -/
structure SensorSt where
  code : Int
  since : Nat
  twin : Int
  moved : Bool := false
  deriving DecidableEq, Repr

/-- Supplies and temperature (19): the thermal shutdown latch, whether VDDIO18 is present (21 R594), which of the AON
supplies are up and whether VAON_B is selected; the sensors; the islands that have reached WARN and THROTTLE; the sums
of the last ten evaluations, newest first; evaluations since the thermal level changed, and since rule 2 of R565 acted
while the rate stayed up; when the last conversion, evaluation and temperature record were; the VDD target written and
not read back; the bands that the DRAM refresh and the MRAM write pulse follow. -/
structure PwrSt where
  latch : Bool := false
  vddio18 : Bool := true
  vaonA : Bool := true
  vaonB : Bool := true
  onB : Bool := false
  sensors : List (Nat × SensorSt) := []
  warm : List Nat := []
  hot : List Nat := []
  sums : List Int := []
  sinceLevel : Nat := 0
  rateFor : Option Nat := none
  convAt : Nat := 0
  evalAt : Nat := 0
  logAt : Nat := 0
  avsAt : Option Nat := none
  refreshBand : Nat := 1
  pulseBand : Nat := 1
  deriving DecidableEq, Repr

/-- One position sample (03 R88): times in half nanoseconds; `back` is TDIR; `prevE` the furthest position before it,
`iface` its interface. -/
structure Sample where
  pos : Int := 0
  t2 : Nat := 0
  dir : Bool := false
  back : Bool := false
  turn : Bool := false
  valid : Bool := false
  suspect : Bool := false
  prevE : Int := 0
  iface : Nat := 0
  deriving DecidableEq, Repr

/-- What a consumer island receives from a position interface: a sample, or a speed window that reports STANDSTILL
(04 R141). -/
inductive PosItem where
  | sample (x : Sample)
  | still
  deriving DecidableEq, Repr

/-- The signal peaks of the present period of a sine/cosine interface, and the steps travelled in it (03 R94). -/
structure Peaks where
  sinLo : Int
  sinHi : Int
  cosLo : Int
  cosHi : Int
  went : Int
  deriving DecidableEq, Repr

/-- The hidden state of one position interface (03 R84 to R107): filtered input levels, the Hall state tracked, E, the
last good position, the speed window, past speeds with the time at which each ended, newest first, each above all
newer ones (08 R260), the sine/cosine angle and the signs of the corrected pair, whether a signal fault holds, the
correction's progress (the instant and the peaks of the present period, the small updates in a row), the last sample.
-/
structure EncSt where
  a : Bool := false
  b : Bool := false
  z : Bool := false
  hall : Nat := 0
  hallErr : Bool := false
  e : Int := 0
  good : Int := 0
  winStart : Nat := 0
  winQ : Int := 0
  winRev : Bool := false
  moved : Nat := 0
  fast : List (Nat × Nat) := []
  angle : Option Nat := none
  signs : Bool × Bool := (true, true)
  sigFault : Bool := false
  corrAt : Nat := 0
  peaks : Option Peaks := none
  settle : Nat := 0
  lastPub : Nat := 0
  last : Sample := {}
  deriving DecidableEq, Repr

/-- The state of one pass-through output: its levels, the quadrature state emitted and owed, and what is added to the
source's place to give the state owed (03 R113 to R115). -/
structure PtSt where
  a : Bool := false
  b : Bool := false
  z : Bool := false
  emitted : Int := 0
  owed : Int := 0
  base : Int := 0
  lastEdge : Nat := 0
  deriving DecidableEq, Repr


/-- A shading set in the port's SRAM (05 R161, R162): (dark, gain) per pixel in colour slot order, the defect list, and
whether the load judged it an identity set. -/
structure Shade where
  ents : List (Int × Nat) := []
  defs : List Word := []
  identity : Bool := true
  deriving DecidableEq, Repr

/-- What a fired line keeps for its record and its correction (04 R154, 05 R192): its number among the port's fired
lines, its exposure start in half-ns, the header fields, the correction set in force with its shading. -/
structure Line where
  serial : Nat
  start2 : Int
  time : Nat
  flags : Nat
  speed : Nat
  missed : Nat
  place : Option Nat := none
  seq : Nat := 0
  exposure : Nat
  set : Nat
  shade : Shade := {}
  corCfg : Word
  refCols : Word
  refLevel : Word
  normLimits : Word
  deriving DecidableEq, Repr

/-- How a consumed target ended (05 R183): fired and awaited, filled, or removed for a reason of R184. -/
inductive TapEnd where
  | waits
  | filled
  | lost (reason : Nat)
  deriving DecidableEq, Repr

/-- One consumed target of a swath (05 R174, R182): its index, position, time, the registration settings in force when
it was consumed, its line with the corrected pixels and flags per colour. -/
structure Tap where
  k : Int
  x : Int
  time : Nat
  cfg : Word
  status : TapEnd
  line : Option Line
  pix : List (List Nat) := []
  cfl : List Nat := []
  deriving DecidableEq, Repr

/-- An open GAP record of a port (05 R183, R185). -/
structure GapRun where
  reason : Nat
  x : Int
  time : Nat
  last : Int
  count : Nat
  deriving DecidableEq, Repr

/-- A swath (05 R179 to R186): its targets from the oldest kept, how many were decided, its records; `ended` holds
END_REASON, position and time. -/
structure Swath where
  back : Bool
  id : Nat := 0
  any : Bool := false
  first : Int := 0
  lastX : Int := 0
  taps : List Tap := []
  decided : Nat := 0
  lines : Nat := 0
  gap : Option GapRun := none
  ended : Option (Nat × Int × Nat) := none
  deriving DecidableEq, Repr

/-- An outstanding line (04 R131, R132): the fired line's number, the sensor sequence it expects if known, the colour
slots filled, its timeout instant, whether its packets are discarded (06 R216). -/
structure Awaited where
  serial : Nat
  expect : Option Nat
  slots : List Bool
  deadline : Nat
  withheld : Bool := false
  deriving DecidableEq, Repr

/-- A prediction (04 R142): crossing time, fire instant and the sample's time in half-ns; the sample's SUSPECT. -/
structure Pred where
  hStar : Int
  hFire : Int
  hA : Nat
  suspect : Bool
  deriving DecidableEq, Repr

/-- What block lock knows of a lane (04 R123): how far gaining it has come (consecutive valid headers, or commas), and the
newest headers or code groups, `true` an invalid one. -/
structure LaneSt where
  run : Nat := 0
  window : List Bool := []
  deriving DecidableEq, Repr

/-- The hidden state of an imaging port (04, 05). `lanes` are its lanes, `adapted` the mask of those adapted,
`adaptAt` the start of the last adaptation; `lastMove` the position of the last moving sample; `setMarks` the first
lines fired under each swapped set whose SET_CHANGED is still owed; `free` the unanchored lines in firing order, the
newest of them perhaps not fired yet. `load` is the shading load in progress and whether it is the run-start load;
`waitArm` a run start whose generator has not armed; `hold` the hold's start position and `holdE` the furthest point
of the swath in it. -/
structure ImgSt where
  brought : Bool := false
  serial : Nat := 0
  lanes : List (Nat × LaneSt) := []
  adapted : Nat := 0
  adaptAt : Nat := 0
  hist : List (Int × Nat) := []
  lastMove : Option Int := none
  pred : Option Pred := none
  invalid : Bool := false
  lastFire2 : Option Int := none
  recent : List (Int × Nat) := []
  awaited : List Awaited := []
  anchor : Option (Nat × Nat) := none
  free : List Nat := []
  missed : Nat := 0
  waitArm : Bool := false
  blocked : Bool := false
  loaded : Bool := false
  back : Bool := false
  k : Int := 0
  swaths : List Swath := []
  nextSwath : Nat := 0
  refLow : Bool := false
  filt : List (Option Int) := [none, none, none]
  expNew : Bool := false
  setMarks : List Nat := []
  shadeA : Shade := {}
  shadeB : Shade := {}
  half : Bool := false
  load : Option (Nat × Bool) := none
  heldSet : Option Nat := none
  hold : Option Int := none
  holdE : Int := 0
  deriving DecidableEq, Repr

/-- An exposure window on its way to or in the lamp island (04 R149, 06 R212): the port, the fired line, its start and
end in half-ns; `here` once it has arrived. -/
structure Window where
  port : Nat
  serial : Nat
  start2 : Int
  end2 : Int
  here : Bool := false
  deriving DecidableEq, Repr


/-- A 64-byte entry of a frond's stream queue (11 R371). -/
abbrev QEntry := List Byte


/-- A flit that a link holds until an ACK covers it (17 R509). -/
structure HeldFlit where
  seq : Nat
  dest : Nat
  src : Nat
  hops : Nat
  body : FlitBody
  deriving DecidableEq, Repr

/-- A runner link (17 R506, R509): whether it is up, its next SEQ, the flits held for a replay, the flits that wait for a
place, the SEQ received last in order, replays in a row without progress, when a valid flit last arrived, the neighbour
that the link had when it was last up. -/
structure LinkSt where
  up : Bool := false
  nextSeq : Nat := 0
  held : List HeldFlit := []
  waiting : List HeldFlit := []
  got : Nat := 63
  replays : Nat := 0
  lastAt : Nat := 0
  nb : Option Nat := none
  deriving DecidableEq, Repr

/-- A device heard on the ring (17 R506, R507): its ID, whether its links are up, its distance out RUN_A and out RUN_B. -/
structure Heard where
  id : Nat
  aUp : Bool
  bUp : Bool
  a : Option Nat := none
  b : Option Nat := none
  deriving DecidableEq, Repr

/-- A shared trigger on its way to its due time (17 R512). -/
structure TrigDue where
  channel : Nat
  due : Nat
  deriving DecidableEq, Repr

/-- A remote access that waits for its response (17 R515): the link it left by, whether it writes, its bytes, when it
started, the bytes that its response has brought, the device it asks. -/
structure RmtSt where
  link : Nat
  write : Bool
  len : Nat
  at_ : Nat
  got : List Byte := []
  dev : Nat := 0
  deriving DecidableEq, Repr

/-- The runner links (17). `dup` holds from a DUP_ID to the next start; `turn` is the turning point of a reversal
since the last shared sample, `speedSeq` the speed window shared last; `heldTurn` a received reversal that waits for
its turning point and `posAt` the last shared sample received, by POS_IN register; `timeLink` the link of the last
TIME flit; `rmtIn` the bytes that have come of a device's write of the exchange RAM. -/
structure RunnerSt where
  links : List (Nat × LinkSt) := []
  heard : List Heard := []
  dup : Bool := false
  timeAt : Nat := 0
  timeLink : Nat := 0
  trigs : List TrigDue := []
  rmt : Option RmtSt := none
  rmtIn : List (Nat × List Byte) := []
  shareAt : Nat := 0
  turn : Option Int := none
  speedSeq : Nat := 0
  heldTurn : List (Nat × Sample) := []
  posAt : List (Nat × Nat) := []
  deriving DecidableEq, Repr



/-- One row of a frame in the port: its active row, the raw values, the results of stages 3 and 4, the lag time
constants (07 R237). -/
structure TRow where
  r : Nat
  raw : List Nat
  x3 : List Int
  x4 : List Nat
  tau : List Nat
  deriving DecidableEq, Repr

/-- A frame or line-mode sample between its boundary and its record (07 R225 to R231). `regs` and `act` are the port's
registers as the boundary found them; `no` its FRAME_NO within a run; `spacing` the time since the previous boundary;
`refs` T_S, T_H, T_L; `dt` and `rate` are held for the frame; `lost` the reason it was lost for; `pos` its position
with SUSPECT and validity; `ring` holds the fetched coefficients of the window rows to come, as 96-bit entries (01
R24, 07 R232); `ev` and `cause` name the shutter event that withholds it. -/
structure TFrame where
  id : Nat
  at_ : Nat
  spacing : Nat
  no : Option Nat
  regs : List (Nat × Word)
  act : List (Nat × Word)
  flags : Nat
  tf : Int
  th : Int
  tl : Int
  dt : Int
  rate : Int
  plane : List (Nat × Int)
  defs : List Word
  withheld : Bool
  avg : Bool
  blindSum : Nat := 0
  blindN : Nat := 0
  next : Nat := 0
  ring : List (List Nat) := []
  ev : Nat := 0
  cause : Nat := 0
  rows : List TRow := []
  lost : Option Nat := none
  done : Bool := false
  pos : Option (Int × Bool × Bool) := none
  deriving DecidableEq, Repr

/-- An open GAP record of frames (07 R254, 08 R269): the reason, the first and last FRAME_NO, their number, position and
time of the first; for a shutter event its cause and its number. -/
structure TGap where
  reason : Nat
  first : Nat
  last : Nat
  count : Nat
  pos : Int
  time : Nat
  cause : Nat := 0
  ev : Nat := 0
  deriving DecidableEq, Repr

/-- An open target of thermal line mode (08 R281, R282). -/
structure TTarget where
  k : Int
  count : Nat
  sum : List Nat
  time : Nat
  tf : Int
  flags : Nat
  cap : Bool
  shut : Bool
  loss : Option Nat
  deriving DecidableEq, Repr

/-- The swath of thermal line mode (08 R281, R282). `next` is the index of the next target to complete; `turns` the
TURN samples that have not taken effect: half-ns, turning point, new direction; `bad` a run refused under R280;
`stopAt` the run stop. -/
structure TLineSt where
  active : Bool := false
  back : Bool := false
  any : Bool := false
  id : Nat := 0
  nextId : Nat := 0
  first : Int := 0
  lastX : Int := 0
  next : Option Int := none
  targets : List TTarget := []
  lastP : Option Int := none
  gap : Option GapRun := none
  lines : Nat := 0
  turns : List (Nat × Int × Bool) := []
  bad : Bool := false
  stopAt : Option Nat := none
  deriving DecidableEq, Repr

/-- A shutter event (08 R264): its cause, the settings read at its start, its phase (1 settling, 2 averaging, 3 post-pass,
4 awaiting the effect boundary, 5 opening after an abort), boundaries left in the phase, frames past step 2, frames
averaged. -/
structure ShutEv where
  cause : Nat
  cfg : Word
  openAt : Word
  phase : Nat
  left : Nat
  passed : Nat := 0
  averaged : Nat := 0
  deriving DecidableEq, Repr

/-- A thermal port (07, 08). `stage` is 0 off, 1 EN_DELAY, 2 bring-up script, 3 frames; `geo` the settings of R246 in
force since the last boundary; `hits` and `misses` count SYNC_ROW per lane; `beta` the blind reference held; `refs`
the newest result of each reference since bring-up, `hist` the FPA's last 64; `lagKey` the window and set of the
history in DRAM; `ident` a bit per NUC set that is an identity set, `noDrift` one per set whose drift model fell back
(02 R56); `newPlane`, `newAnchor` await the effect boundary; `mclk` is the divider of TPn_MCLK; `shutCfg` the
shutter's settings as the last event read them, `last` the last boundary's frame as it began, `startDue` a run start
that met EN_DELAY, `evNo` the event's number, `aborted` the newest events that aborted. -/
structure TpSt where
  stage : Nat := 0
  mclk : Nat := 0
  delayEnd : Nat := 0
  readyAt : Option Nat := none
  boundary : Option Nat := none
  spacing : Nat := 0
  count : Nat := 0
  due : Option Nat := none
  last : Option TFrame := none
  startDue : Bool := false
  hits : List Nat := [0, 0, 0, 0]
  misses : List Nat := [0, 0, 0, 0]
  skip : Bool := false
  geo : List Word := []
  frames : List TFrame := []
  frameNo : Nat := 0
  beta : Int := 0
  refs : List (Nat × (Int × Nat)) := []
  hist : List (Int × Nat) := []
  lagKey : Option (List Nat) := none
  plane : List (Nat × Int) := []
  newPlane : Option (List (Nat × Int)) := none
  newAnchor : Option (Int × Int × Int) := none
  defs : List Word := []
  edits : List Word := []
  tables : List (Nat × List Nat) := []
  ident : Nat := 15
  noDrift : Nat := 0
  slot : Nat := 0
  flagLeft : Nat := 0
  gap : Option TGap := none
  shutGap : Option TGap := none
  evNo : Nat := 0
  aborted : List Nat := []
  shutCfg : Option Word := none
  ev : Option ShutEv := none
  hostReq : Bool := false
  frondReq : Bool := false
  abortReq : Bool := false
  endAt : Option Nat := none
  endAborted : Bool := false
  doneAt : Option Nat := none
  drive : Bool := false
  ask : Option (Nat × Int) := none
  persistAt : Option Nat := none
  recent : List Sample := []
  line : TLineSt := {}
  coefs : Option (List (List Nat)) := none
  fetching : Bool := false
  statCount : Nat := 0
  deriving DecidableEq, Repr

/-- What an axis does when a braking comes to rest (10 R329, R332 to R337). -/
inductive AfterRest where
  | stopped
  | idle
  | done
  | limitDone
  | limitStop
  | fault
  | search
  | homed
  deriving DecidableEq, Repr

/-- A braking: to a fixed point (2^-16 microstep) or to wherever the bounds allow, under LIMIT_DECEL or DMAX. -/
structure Braking where
  point : Option Int
  byLimit : Bool
  after : AfterRest
  deriving DecidableEq, Repr

/-- A segment table in progress (10 R327, R328): the segment, how many remain, the table clock in 1/4,096 tick, the
position and velocity at the segment's start. -/
structure TableRun where
  seg : Nat
  left : Nat
  clock : Nat := 0
  p0 : Int
  v0 : Int
  deriving DecidableEq, Repr

/-- A homing in progress (10 R337 to R339): 0 release, 1 search, 2 braking; the search direction (true: positive);
whether the one reversal has happened; where the switch was released; the candidate edge with its ticks. -/
structure HomeRun where
  phase : Nat
  up : Bool
  reversed : Bool := false
  released : Option Int := none
  off : Nat := 0
  cand : Option (Int × Nat) := none
  wasOn : Bool := true
  deriving DecidableEq, Repr

/-- The hidden state of an axis (10): position, velocity and acceleration in planner units, the kept target in 2^-16
microstep, what it is doing, the command that waits for the tick, the phase word's sequence, debounce counters, the
feedback offset. `aim` says that the kept target is one, `way` is the direction before the last pause (true: positive),
`mute` says that the home switch is ignored since its latch (10 R338). -/
structure AxisSt where
  p : Int := 0
  v : Int := 0
  a : Int := 0
  goal : Int := 0
  aim : Bool := false
  brake : Option Braking := none
  table : Option TableRun := none
  home : Option HomeRun := none
  port : Option Nat := none
  back : Option Int := none
  forth : Bool := false
  up : Bool := true
  way : Bool := true
  cmd : Option Nat := none
  power : Bool := false
  seq : Nat := 0
  still : Nat := 0
  limN : Nat := 0
  limP : Nat := 0
  fbOn : Bool := false
  fbOfs : Int := 0
  fbMiss : Nat := 0
  off : Bool := false
  mute : Bool := false
  deriving DecidableEq, Repr


/-- What an access of a frond outside its local memories does (12 R401): a scalar load of a size, sign- or zero-extended;
a vector load; a store of bytes, each where the mask allows it; a bank ADD or SWAP. -/
inductive AccessKind where
  | load (size : Nat) (unsignedLoad : Bool)
  | vectorLoad
  | store (bytes : List Byte) (mask : List Bool)
  | bankAdd (size operand : Nat)
  | bankSwap (size operand : Nat)
  deriving DecidableEq, Repr

/-- An access that a frond has issued and that has not completed (11 R362 to R365): its address, the register that
receives what it returns, the bundle that issued it, and whether its return is discarded after a halt (11 R353). -/
structure Access where
  kind : AccessKind
  addr : Nat
  reg : Nat
  pc : Nat
  discard : Bool
  deriving DecidableEq, Repr

/-- A frond (11 R350, 12 R387): register files, program counter, the mask it waits on, the upper half of the last TIMEL,
the watchdog's time left in ns and the instant it was counted from, accesses in program order, access faults that have
not been reported, and `wakeFrom` the boundary that ended its tuft's park (11 R382). -/
structure FrondSt where
  sregs : List (Nat × Word) := []
  vregs : List (Nat × BitVec 512) := []
  preds : List (Nat × Word) := []
  accs : List (Nat × BitVec 1536) := []
  pc : Nat := 0
  waitMask : Nat := 0
  timeHi : Word := 0
  wdogLeft : Nat := 0
  wdogFrom : Nat := 0
  accesses : List Access := []
  reports : List Nat := []
  wakeFrom : Nat := 0
  deriving DecidableEq, Repr


/-- The reasons for a fault. Coincidences, bus errors and errors of data are effects on the state of this block, so a
command ends in a fault for one reason only. -/
inductive Fault where
  /-- Raised by no command: the spec describes what every error of the block does, and the model takes that effect.
  Safe. -/
  | none
  deriving DecidableEq, Repr

/-- The reasons for a refusal. -/
inductive Refusal where
  /-- Raised by exec for a command that has no meaning in this model yet. Safe. -/
  | notModelled (mnemonic : String)
  deriving DecidableEq, Repr

/-- The state of the block. -/
structure State where
  /-- The operating state (01 R27). -/
  mode : Mode
  /-- Every register, and the shadow of an RW-S field (00 R10, R11). -/
  regs : List (Nat × Word)
  /-- The in-force copy of the RW-S registers (18 R526). -/
  act : List (Nat × Word)
  /-- The _HI halves captured by reads of _LO, by requester and address (03 R117). -/
  snap : List (Nat × Word)
  /-- Refused shadow writes, counted per CTRL register (00 R14); the spec names no register for this count. -/
  refusals : List (Nat × Nat)
  /-- Every addressed memory, and the host memory the device has written. -/
  mem : List (Nat × Byte)
  /-- How often DRAM has lost its content (20 R581). -/
  dramEpoch : Nat
  /-- Device time and its sources. -/
  tm : TimeSt
  /-- The timers, by number (18 R546). -/
  timers : List (Nat × TimerSt)
  /-- The self-trim. -/
  trim : TrimSt
  /-- The memory island. -/
  ms : MemSt
  /-- The PCIe function. -/
  pcie : PcieSt
  /-- Non-posted host reads in flight (14 R444). -/
  hostReads : List HostRead
  /-- The DMA channels, by number (14 R436). -/
  chans : List (Nat × Chan)
  /-- The data movement engine. -/
  dma : DmaSt
  /-- Supplies and temperature (19). -/
  pwr : PwrSt
  /-- The peat log writer. -/
  peat : PeatSt
  /-- The root. -/
  root : RootSt
  /-- The SPDM responder. -/
  spdm : SpdmSt
  /-- The runner links. -/
  runner : RunnerSt
  /-- Start-up, the booted spore and the spore update. -/
  boot : BootSt
  /-- What the board and the silicon answer at start-up. -/
  bench : Bench
  /-- Script engines, by SCRIPT target (02, SCRIPT). -/
  engines : List (Nat × Engine)
  /-- The position interfaces, by number (03 R81). -/
  encs : List (Nat × EncSt)
  /-- Compare units whose GPIO pulse is high, with its end (03 R111). -/
  cmpPulse : List (Nat × Nat)
  /-- Compare units armed strictly ahead of the position but not beyond E (03 R108, R109), a rising list. -/
  cmpNear : List Nat
  /-- The pass-through outputs (03 R113). -/
  pts : List (Nat × PtSt)
  /-- Samples on their way to a consumer island: imaging port n, thermal port 16 + n (03 R90). -/
  posQ : List (Nat × List PosItem)
  /-- The imaging ports, by number (04 R119). -/
  imgs : List (Nat × ImgSt)
  /-- Exposure windows that have not ended (04 R149). -/
  windows : List Window
  /-- Script targets whose run-stop script is due (04 R135, 06 R205), a rising list. -/
  stopScripts : List Nat
  /-- The precision measurement island (09). -/
  prec : PrecSt
  /-- The lamp chains, by number (06 R194). -/
  lamps : List (Nat × LampSt)
  /-- The thermal ports, by number (07 R220). -/
  tps : List (Nat × TpSt)
  /-- The axes, by number (10 R324). -/
  axes : List (Nat × AxisSt)
  /-- The device time of the last update tick (10 R319). -/
  tickAt : Nat
  /-- The fronds, by number (11 R350). -/
  fronds : List (Nat × FrondSt)
  /-- The stream queues of the fronds: queue k of frond f at 8 f + k (11 R371). -/
  queues : List (Nat × List QEntry)
  /-- Pending marks of the event sources (01 R39), a rising list. -/
  evPend : List Nat
  /-- The instruction that the boundary-scan TAP holds (21 R608). -/
  tap : TapInstr
  /-- The levels of the GPIO pins on the board's side, as last sampled (18 R550). -/
  pins : Word
  /-- The output streams (15 R465), by number. -/
  streams : List (Nat × Stream)
  /-- The stage rings, by stream (11 R375). -/
  stages : List (Nat × StageSt)
  /-- Records that wait for the intake, by source (15 R465; 01 R23 for a port FIFO). -/
  recQ : List (Nat × List Rec)
  /-- What the block has sent to the outside. -/
  out : List Out
  /-- How many free values have been drawn. The model's own. -/
  freeCtr : Nat
  /-- Commands that wait, first in first out. -/
  pending : List Instr
  deriving DecidableEq, Repr

/-- The block right after reset: POR_N is held low and the device is OFF (01 R27, 21 R593); every register holds its
reset value, every memory lists nothing, and no command waits. Values that the spec does not give are in log entries
2 to 12. -/
def State.reset : State where
  mode := .off
  regs := []
  act := []
  snap := []
  refusals := []
  mem := []
  dramEpoch := 0
  tm := {}
  timers := []
  trim := {}
  ms := {}
  pcie := {}
  hostReads := []
  chans := []
  dma := {}
  pwr := {}
  peat := {}
  root := {}
  spdm := {}
  runner := {}
  boot := {}
  bench := {}
  engines := []
  encs := []
  cmpPulse := []
  cmpNear := []
  pts := []
  posQ := []
  imgs := []
  windows := []
  stopScripts := []
  prec := {}
  lamps := []
  tps := []
  axes := []
  tickAt := 0
  fronds := []
  queues := []
  evPend := []
  tap := .idcode
  pins := 0
  streams := []
  stages := []
  recQ := []
  out := []
  freeCtr := 0
  pending := []

end Sys2Proof.Machine
end

