-- ==== Sys2Proof/Machine/Ops.lean ====
section
/-!
DEFINITION. The named operations over registers, memory, events and records that every meaning is written with.
-/

namespace Sys2Proof.Machine

/-- What a command answers. -/
abbrev Result := Host.Outcome State Fault Refusal

/-! ### Registers -/

/-- The base of the keys of the host's control window: key = winBase + window offset (15 R460). -/
def winBase : Nat := 0x1000000000000

/-- The blocks of the register space and the registers of each (01 R33, R34); `none` for a hole. -/
def regsOfBlock (b : Nat) : Option (List RegDesc) :=
  if b = 0 then some regs_sys else if b = 1 then some regs_boot else if b = 2 then some regs_time
  else if b = 3 then some regs_pwr else if b = 4 then some regs_trim else if b = 5 then some regs_evt
  else if b = 6 then some regs_tmr else if b = 8 then some regs_pos else if b = 9 then some regs_mot
  else if b = 0xA then some regs_prec else if b = 0xB then some regs_lamp
  else if 0x10 ≤ b ∧ b ≤ 0x19 then some regs_img else if 0x20 ≤ b ∧ b ≤ 0x23 then some regs_tp
  else if b = 0x28 then some regs_mem else if b = 0x29 then some regs_dma else if b = 0x2A then some regs_host
  else if b = 0x2B then some regs_seal else if b = 0x2C then some regs_trust else if b = 0x30 then some regs_run
  else if b = 0x38 then some regs_peat else if 0x40 ≤ b ∧ b ≤ 0x7F then some regs_frd else none

/-- Whether an offset is one of the places of a register with these strides and counts. -/
def RegDesc.hits : List (Nat × Nat) → Nat → Bool
  | [], o => o == 0
  | (st, n) :: r, o => let i := o / st; if i < n then RegDesc.hits r (o - i * st) else RegDesc.hits r (o - (n - 1) * st)

/-- The description of the register at a block offset. -/
def RegDesc.lookup : List RegDesc → Nat → Option RegDesc
  | [], _ => none
  | d :: ds, o => if d.off ≤ o ∧ RegDesc.hits d.strides (o - d.off) then some d else RegDesc.lookup ds o

/-- The one home of a register that appears in several places: a tuft's registers lie in the block of each of its eight
fronds (11 R383), and COMMONS_RACE in every frond block. -/
def canonReg (a : Nat) : Nat :=
  if 0x5004000000 ≤ a ∧ a < 0x5008000000 then
    let f := (a - 0x5004000000) / 0x100000
    let o := (a - 0x5004000000) % 0x100000
    if 0x400 ≤ o ∧ o < 0x420 then 0x5004000000 + 0x800000 * (f / 8) + o
    else if o = 0x420 then 0x5004000420 else a
  else a

/-- The description of the register at an address, if one is there (00 R12, 01 R33). -/
def descOf (a : Nat) : Option RegDesc :=
  if winBase ≤ a then RegDesc.lookup regs_win (a - winBase)
  else if 0x5000000000 ≤ a ∧ a < 0x5008000000 then
    match regsOfBlock ((a - 0x5000000000) / 0x100000) with
    | some l => RegDesc.lookup l ((a - 0x5000000000) % 0x100000)
    | none => none
  else none

/-- What a register holds after reset (the reset values of the register sections); 0 where no register is (00 R12). -/
def resetOf (a : Nat) : Word :=
  match descOf a with
  | some d => BitVec.ofNat 32 d.reset
  | none => 0

/-- The word of a register: for an RW-S register, its shadow. -/
def State.reg (s : State) (a : Nat) : Word := (Sparse.find s.regs a).getD (resetOf a)

/-- A register replaced whole. -/
def State.setReg (s : State) (a : Nat) (v : Word) : State :=
  { s with regs := Sparse.put (fun k => some (resetOf k)) s.regs a v }

/-- The in-force word of an RW-S register (18 R526). -/
def State.inForce (s : State) (a : Nat) : Word := (Sparse.find s.act a).getD (resetOf a)

/-- The in-force word replaced. -/
def State.setInForce (s : State) (a : Nat) (v : Word) : State :=
  { s with act := Sparse.put (fun k => some (resetOf k)) s.act a v }

/-- A field of a register. -/
def State.fld (s : State) (a : Nat) (f : Fld) : Nat := (s.reg a).get f

/-- A field of a register replaced. -/
def State.setFld (s : State) (a : Nat) (f : Fld) (v : Nat) : State := s.setReg a ((s.reg a).put f v)

/-- A field of an in-force RW-S register. -/
def State.actFld (s : State) (a : Nat) (f : Fld) : Nat := (s.inForce a).get f

/-- A one-bit field. -/
def State.bit (s : State) (a : Nat) (f : Fld) : Bool := s.fld a f == 1

/-- A one-bit in-force field. -/
def State.actBit (s : State) (a : Nat) (f : Fld) : Bool := s.actFld a f == 1

/-- A one-bit field replaced. -/
def State.setBit (s : State) (a : Nat) (f : Fld) (b : Bool) : State := s.setFld a f (if b then 1 else 0)

/-- A pair of registers as one 64-bit number: the low word at the lower address (00 R10). -/
def State.reg64 (s : State) (lo : Nat) : Nat := (s.reg lo).toNat + 2 ^ 32 * (s.reg (lo + 4)).toNat

/-- The in-force value of a pair. -/
def State.inForce64 (s : State) (lo : Nat) : Nat := (s.inForce lo).toNat + 2 ^ 32 * (s.inForce (lo + 4)).toNat

/-- A pair of registers replaced. -/
def State.setReg64 (s : State) (lo : Nat) (v : Nat) : State :=
  (s.setReg lo (BitVec.ofNat 32 v)).setReg (lo + 4) (BitVec.ofNat 32 (v / 2 ^ 32))

/-- A count in a field that stops at the field's maximum (18 R525). -/
def State.satInc (s : State) (a : Nat) (f : Fld) (n : Nat := 1) : State :=
  s.setFld a f (satAdd (2 ^ f.width - 1) (s.fld a f) n)

/-- A count in a field that wraps. -/
def State.wrapInc (s : State) (a : Nat) (f : Fld) (n : Nat := 1) : State := s.setFld a f (s.fld a f + n)

/-! ### Device time -/

/-- Device time in ns (18 R531). -/
def State.now (s : State) : Nat := s.tm.now

/-- Device time brought to an instant that an arriving event names, never back (18 R533; log entry 1). -/
def State.reach (s : State) (t : Nat) : State := { s with tm := { s.tm with now := max s.tm.now t } }

/-! ### Output and free values -/

/-- Something sent to the outside. -/
def State.emit (s : State) (o : Out) : State := { s with out := s.out ++ [o] }

/-- A fresh undefined word, and the state in which the next draw differs (log entry 3). -/
def State.free (s : State) : Word := Config.freeWord s.freeCtr

/-- The state after a free value was drawn. -/
def State.drawn (s : State) : State := { s with freeCtr := s.freeCtr + 1 }

/-! ### Memory -/

/-- The key of a byte of a frond's local memories, by the frond's own view (01 R36). -/
def frondKey (f a : Nat) : Nat := 0x2000000000000 + 0x1000000 * f + a

/-- The key of a byte of the spore flash (02 R43). -/
def flashKey (a : Nat) : Nat := 0x3000000000000 + a

/-- The key of a byte of host memory. -/
def hostKey (a : Nat) : Nat := 0x10000000000000000 + a

/-- Whether an address is DRAM (01 R33). -/
def isDram (a : Nat) : Bool := a < 0x2000000000

/-- The factory trim vault, copy A (18 R544): GEN, TRIMS and ORIGIN 1, every tap at its factory value 0, and the CRC of
these bytes (log entry 10). -/
def factoryTrim (o : Nat) : Byte :=
  if o = 0 then 0x47 else if o = 1 then 0x54 else if o = 2 then 0x52 else if o = 3 then 0x4D
  else if o = 4 ∨ o = 8 ∨ o = 0xC then 1
  else if o = 0x3B8 then 0x69 else if o = 0x3B9 then 0x3A else if o = 0x3BA then 0x6B else if o = 0x3BB then 0x39
  else 0

/-- What a byte that nothing has written holds: 0 in every SRAM after its march (13 R420) and in MRAM, but for the
factory trim (log entry 10), 0xFF in erased flash (log entry 11), and nothing of the device's own in DRAM and in host
memory. -/
def unlisted (a : Nat) : Option Byte :=
  if isDram a then none
  else if 0x4100010000 ≤ a ∧ a < 0x4100020000 then some (factoryTrim (a - 0x4100010000))
  else if a < 0x3000000000000 then some 0
  else if a < 0x10000000000000000 then some 0xFF
  else none

/-- One byte of memory. DRAM that nothing has written since it lost its content reads a free value (20 R581). -/
def State.byte (s : State) (a : Nat) : Byte :=
  match Sparse.find s.mem a with
  | some b => b
  | none =>
    match unlisted a with
    | some b => b
    | none => if a < 0x10000000000000000 then Config.dramFree s.dramEpoch a else Config.hostByte s.freeCtr a

/-- One byte written. -/
def State.setByte (s : State) (a : Nat) (b : Byte) : State := { s with mem := Sparse.put unlisted s.mem a b }

/-- Bytes read upward from an address. -/
def State.read (s : State) (a : Nat) : Nat → List Byte
  | 0 => []
  | n + 1 => s.byte a :: State.read s (a + 1) n

/-- Bytes written upward from an address. -/
def State.write (s : State) (a : Nat) : List Byte → State
  | [] => s
  | b :: bs => State.write (s.setByte a b) (a + 1) bs

/-- A little-endian number read from memory (00 R5). -/
def State.readNat (s : State) (a n : Nat) : Nat := ofBytesLE (s.read a n)

/-- A little-endian number written to memory. -/
def State.writeNat (s : State) (a n v : Nat) : State := s.write a (bytesLE n v)

/-- Every listed byte with a key in a range forgotten. -/
def State.forget (s : State) (lo hi : Nat) : State :=
  { s with mem := s.mem.filter (fun e => decide (e.1 < lo ∨ hi ≤ e.1)) }

/-- What the address map holds at an address (01 R33 to R36). -/
inductive Region where
  | dram
  | commons
  | tuft (t : Nat)
  | exchange
  | mram
  | block (b : Nat)
  | hole
  deriving DecidableEq, Repr

/-- The region of a device address (01 R33, R34). -/
def regionOf (a : Nat) : Region :=
  if a < 0x2000000000 then .dram
  else if 0x4000000000 ≤ a ∧ a < 0x4000800000 then .commons
  else if 0x4010000000 ≤ a ∧ a < 0x4018000000 ∧ (a - 0x4010000000) % 0x1000000 < 0x400000 then
    .tuft ((a - 0x4010000000) / 0x1000000)
  else if 0x4020000000 ≤ a ∧ a < 0x4020040000 then .exchange
  else if 0x4100000000 ≤ a ∧ a < 0x4110000000 then .mram
  else if 0x5000000000 ≤ a ∧ a < 0x5008000000 then
    match regsOfBlock ((a - 0x5000000000) / 0x100000) with
    | some _ => .block ((a - 0x5000000000) / 0x100000)
    | none => .hole
  else .hole

/-- The exchange RAM's device address (01 R33). -/
def exchBase : Nat := 0x4020000000

/-- The MRAM's device address (01 R33, 13 R425). -/
def mramBase : Nat := 0x4100000000

/-- Whether spans, each a first address and a length, cover every address from a up to e; `k` bounds the spans used. -/
def covered (spans : List (Nat × Nat)) : (k a e : Nat) → Bool
  | 0, a, e => decide (e ≤ a)
  | k + 1, a, e => decide (e ≤ a) ||
    match spans.find? (fun r => decide (r.1 ≤ a ∧ a < r.1 + r.2)) with
    | some r => covered spans k (r.1 + r.2) e
    | none => false

/-- Whether n bytes of DRAM answer a frond, the data movement engine or a block: what the image in force does not claim is
reached by the staging writer and the scrubber alone (13 R411; log entry 105). -/
def State.dramOpen (s : State) (a n : Nat) : Bool :=
  decide (a + n ≤ 0x2000000000) && covered s.boot.regions s.boot.regions.length a (a + n)

/-- Whether the intake, the sealer or a stage may write a byte: a memory that answers, not a hole, the MRAM or a register
(01 R33, R35, 13 R411). -/
def isRam (s : State) (a : Nat) : Bool :=
  match regionOf a with
  | .dram => s.dramOpen a 1
  | .commons | .tuft _ | .exchange => true
  | _ => false

/-- Bytes that a port or the sealer writes: each that meets a bus error is lost (01 R35). -/
def State.islandWrite (s : State) (a : Nat) : List Byte → State
  | [] => s
  | b :: bs => State.islandWrite (if isRam s a then s.setByte a b else s) (a + 1) bs

/-- Whether a bus error is among n bytes from an address. -/
def busErrorIn (s : State) (a n : Nat) : Bool := !(List.range n).all (fun i => isRam s (a + i))

/-- A byte that an island reads; where nothing answers it is a free value (01 R35; log entry 86). -/
def State.islandByte (s : State) (a : Nat) : Byte :=
  if isRam s a || regionOf a == .mram then s.byte a else Config.dramFree s.dramEpoch a

/-- Bytes that an island reads upward from an address. -/
def State.islandRead (s : State) (a n : Nat) : List Byte := (List.range n).map (fun i => s.islandByte (a + i))

/-! ### Events -/

/-- A source becomes pending (01 R37 to R39): a source with route 0 is routed nowhere, 188 to 191 never fire, and an
occurrence of a pending source merges. DESIGN CHOICE (log entry 87): route 0 is judged when the occurrence arises, so that
it is discarded and not counted even while its source is still pending. -/
def State.raise (s : State) (src : Nat) : State :=
  if (188 ≤ src ∧ src ≤ 191) ∨ 1024 ≤ src ∨ s.reg (R.EVT_ROUTE src) = 0 then s
  else if src ∈ s.evPend then
    (s.satInc R.EVT_LOST F.EVT_LOST_COUNT).setFld R.EVT_LOST F.EVT_LOST_LAST_SRC src
  else { s with evPend := NatSet.insert s.evPend src }

/-- A flag that becomes set raises its event; a flag that is set already does not (01 R614). -/
def State.flagEvent (s : State) (a : Nat) (f : Fld) (src : Nat) : State :=
  if s.bit a f then s else (s.setBit a f true).raise src

/-- A flag set without an event. -/
def State.flag (s : State) (a : Nat) (f : Fld) : State := s.setBit a f true

/-- A condition applied when it holds. -/
def State.cond (s : State) (c : Bool) (f : State → State) : State := if c then f s else s

/-! ### The peat log queue -/

/-- A record queued in the peat log; one that finds 64 waiting is dropped and counted (20 R585). -/
def State.peatPush (s : State) (typ origin : Nat) (data : List Byte) : State :=
  if s.peat.queue.length < 64 then
    let q := s.peat.queue ++ [⟨s.tm.now, typ, origin, data⟩]
    ({ s with peat := { s.peat with queue := q } }).setFld R.PEAT_STATUS F.PEAT_STATUS_QUEUED q.length
  else s.satInc R.PEAT_STATUS F.PEAT_STATUS_LOST

/-! ### Unit tables -/

/-- An output stream. -/
def State.stream (s : State) (n : Nat) : Stream := Sparse.get (fun _ => {}) s.streams n

/-- An output stream replaced. -/
def State.setStream (s : State) (n : Nat) (x : Stream) : State :=
  { s with streams := Sparse.put (fun _ => some {}) s.streams n x }

/-- The records of a source that wait for the intake. -/
def State.queueOf (s : State) (src : Nat) : List Rec := Sparse.get (fun _ => []) s.recQ src

/-- The records of a source that wait for the intake, replaced. -/
def State.setQueue (s : State) (src : Nat) (l : List Rec) : State :=
  { s with recQ := Sparse.put (fun _ => some []) s.recQ src l }

/-- A record handed to the intake of its source's stream. -/
def State.pushRec (s : State) (r : Rec) : State := s.setQueue r.src (s.queueOf r.src ++ [r])

/-! ### Error correction (13 R410 to R413, R416, R417) -/

/-- The unit address of a word of SRAM without a device address (13 R412). -/
def unitAddr (unit off : Nat) : Nat := 0xFF * 2 ^ 40 + unit * 2 ^ 32 + off

/-- An uncorrectable error is counted, its address kept, its event raised (13 R412, R417). -/
def eccBad (dram : Bool) (addr : Nat) (s : State) : State :=
  let a := addr / 8 * 8
  let s := s.setReg64 R.MEM_UE_ADDR_LO a
  if dram then (s.satInc R.MEM_ECC_DRAM F.MEM_ECC_DRAM_UE).raise 421
  else (s.satInc R.MEM_ECC_SRAM F.MEM_ECC_SRAM_UE).raise 419

/-- A corrected error is counted, its event raised; a corrected SRAM word waits to be written back (13 R412, R416). -/
def eccFixed (dram : Bool) (addr : Nat) (s : State) : State :=
  if dram then (s.satInc R.MEM_ECC_DRAM F.MEM_ECC_DRAM_CE).raise 420
  else
    let s := { s with ms := { s.ms with writebacks := s.ms.writebacks ++ [addr / 8 * 8] } }
    (s.satInc R.MEM_ECC_SRAM F.MEM_ECC_SRAM_CE).raise 418

/-- What the code says of a word read. -/
def eccNote (dram : Bool) (addr : Nat) (e : Ecc) (s : State) : State :=
  match e with
  | .sound => s
  | .corrected => eccFixed dram addr s
  | .bad => eccBad dram addr s

/-! ### Operating states -/

/-- Whether all blocks work: RUN and MAINT (01, Operating states). -/
def State.working (s : State) : Bool := s.mode == .run || s.mode == .maint

/-- Whether the host link, the mailbox and the root serve: SAFE, MAINT and RUN (01, Operating states). -/
def State.serving (s : State) : Bool := s.mode == .run || s.mode == .maint || s.mode == .safe

/-- Whether a run is active (01, SYS_STATE). -/
def State.runActive (s : State) : Bool := s.bit R.SYS_STATE F.SYS_STATE_RUN_ACTIVE

/-- An effect that happens only while all blocks work; otherwise the command finds nothing to act on (log entry 1). -/
def State.whenWorking (s : State) (f : State → State) : State := if s.working then f s else s

/-- An effect that happens only in SAFE, MAINT and RUN. -/
def State.whenServing (s : State) (f : State → State) : State := if s.serving then f s else s

/-! ### The commit rule -/

/-- One COMMIT field's unit: its CTRL register and the place of COMMIT_PENDING, the RW-S registers of the set, the low
register of COMMIT_TAKEN if the block has one (18 R526). -/
structure CommitUnit where
  ctrl : Nat
  pend : Fld
  regs : List Nat
  taken : Option Nat
  deriving DecidableEq, Repr

/-- Whether a set awaits its boundary. -/
def CommitUnit.waits (u : CommitUnit) (s : State) : Bool := s.bit u.ctrl u.pend

/-- COMMIT written: the set awaits its boundary; while one waits the write has no effect (18 R526, R528). -/
def CommitUnit.commit (u : CommitUnit) (s : State) : State := s.setBit u.ctrl u.pend true

/-- Every shadow of a list taken. -/
def State.takeShadows (s : State) : List Nat → State
  | [] => s
  | a :: l => State.takeShadows (s.setInForce a (s.reg a)) l

/-- The hand-over boundary: the waiting set takes effect whole, COMMIT_PENDING falls and COMMIT_TAKEN receives the
time (18 R526). Without a waiting set nothing changes. -/
def CommitUnit.take (u : CommitUnit) (s : State) : State :=
  if u.waits s then
    let s := (s.takeShadows u.regs).setBit u.ctrl u.pend false
    match u.taken with
    | some lo => s.setReg64 lo s.now
    | none => s
  else s

end Sys2Proof.Machine
end

