-- ==== Sys2Proof/Machine/Operands.lean ====
section
/-!
DEFINITION. The operand forms shared by the families: signed and fixed-point readings of fields, check words, the
arithmetic of rounding and saturation.
-/

namespace Sys2Proof.Machine

/-- A field read as two's complement (00 R6). -/
def State.sfld (s : State) (a : Nat) (f : Fld) : Int := toSigned f.width (s.fld a f)

/-- An in-force field read as two's complement. -/
def State.sactFld (s : State) (a : Nat) (f : Fld) : Int := toSigned f.width (s.actFld a f)

/-- A pair of registers read as a signed 64-bit number. -/
def State.sreg64 (s : State) (lo : Nat) : Int := toSigned 64 (s.reg64 lo)

/-- An in-force pair read as a signed 64-bit number. -/
def State.sinForce64 (s : State) (lo : Nat) : Int := toSigned 64 (s.inForce64 lo)

/-- A pair of registers set to the low 64 bits of an integer. -/
def State.setSreg64 (s : State) (lo : Nat) (v : Int) : State := s.setReg64 lo (ofSigned 64 v)

/-- A field set to the low bits of an integer. -/
def State.setSfld (s : State) (a : Nat) (f : Fld) (v : Int) : State := s.setFld a f (ofSigned f.width v)

/-- An integer held within a signed width. -/
def satSigned (n : Nat) (v : Int) : Int := clampInt (-(2 ^ (n - 1) : Int)) (2 ^ (n - 1) - 1) v

/-- An integer held within an unsigned width. -/
def satUnsigned (n : Nat) (v : Int) : Int := clampInt 0 (2 ^ n - 1) v

/-- One bit of the reflected CRC-32C (Castagnoli) register. -/
def crc32cBit (c : BitVec 32) : BitVec 32 :=
  if c.getLsbD 0 then (c >>> 1) ^^^ 0x82F63B78 else c >>> 1

/-- The CRC-32C register after one byte. -/
def crc32cByte (c : BitVec 32) (b : Byte) : BitVec 32 :=
  let c := c ^^^ b.zeroExtend 32
  crc32cBit (crc32cBit (crc32cBit (crc32cBit (crc32cBit (crc32cBit (crc32cBit (crc32cBit c)))))))

/-- CRC-32C of a byte string (02 R46, 20 R578, R583). -/
def crc32c (bs : List Byte) : Nat := (~~~ (bs.foldl crc32cByte 0xFFFFFFFF)).toNat

/-- One bit of the reflected CRC-32 (IEEE 802.3) register. -/
def crc32Bit (c : BitVec 32) : BitVec 32 :=
  if c.getLsbD 0 then (c >>> 1) ^^^ 0xEDB88320 else c >>> 1

/-- The CRC-32 register after one byte. -/
def crc32Byte (c : BitVec 32) (b : Byte) : BitVec 32 :=
  let c := c ^^^ b.zeroExtend 32
  crc32Bit (crc32Bit (crc32Bit (crc32Bit (crc32Bit (crc32Bit (crc32Bit (crc32Bit c)))))))

/-- CRC-32 (IEEE 802.3) of a byte string (17 R508). -/
def crc32 (bs : List Byte) : Nat := (~~~ (bs.foldl crc32Byte 0xFFFFFFFF)).toNat

/-- A byte string cut or zero-padded to a length. -/
def padTo (n : Nat) (bs : List Byte) : List Byte := (bs ++ List.replicate (n - bs.length) 0).take n

/-- Whether two byte strings are equal. -/
def sameBytes (a b : List Byte) : Bool := a == b

/-- Bytes from a function of the index. -/
def bytesOf (n : Nat) (f : Nat → Byte) : List Byte := (List.range n).map f

/-- Big-endian bytes of a number (16, standard order under 00 R5). -/
def bytesBE (n v : Nat) : List Byte := (bytesLE n v).reverse

/-- The number that big-endian bytes spell. -/
def ofBytesBE (bs : List Byte) : Nat := ofBytesLE bs.reverse

/-- A slice of a byte string. -/
def slice (off n : Nat) (bs : List Byte) : List Byte := (bs.drop off).take n

/-- A little-endian number inside a byte string. -/
def natAt (off n : Nat) (bs : List Byte) : Nat := ofBytesLE (slice off n bs)

/-- One byte of a byte string, 0 beyond its end. -/
def byteAt (off : Nat) (bs : List Byte) : Nat := ((bs.drop off).head?.getD 0).toNat

/-- Whether every byte of a string is zero. -/
def allZero (bs : List Byte) : Bool := bs.all (· == 0)

/-- A value rounded up to a multiple. -/
def roundUp (v m : Nat) : Nat := if m = 0 then v else (v + m - 1) / m * m

/-- The largest multiple of a pitch not above a position, and the next above (04 R137): floor division of integers. -/
def floorMul (v m : Int) : Int := if m = 0 then v else v.fdiv m * m

end Sys2Proof.Machine
end

