-- ==== Sys2Proof/Machine/Flags.lean ====
section
/-!
DEFINITION. Status flags and race counters: which counter counts the loser of a coincidence (00 R613), what a write of a
W1C register does (00 R11, R13), and the numbers of the event sources (01 R37).
-/

namespace Sys2Proof.Machine

/-- The counter that counts the loser of a set and a clear of a W1C register (00 R613). -/
def raceOf (s : State) (a : Nat) : Option (Nat × Fld) :=
  let r16 : Fld := ⟨0, 16⟩
  if 0x5000800000 ≤ a ∧ a < 0x5000800800 then some (R.ENC_RACE ((a - 0x5000800000) / 0x100), r16)
  else if 0x5000801000 ≤ a ∧ a < 0x5000801200 then
    some (R.CMP_STATUS ((a - 0x5000801000) / 0x20), F.CMP_STATUS_RACE)
  else if 0x5000802000 ≤ a ∧ a < 0x5000802040 then
    some (R.ENC_RACE (s.actFld (R.PT_CFG ((a - 0x5000802000) / 0x20)) F.PT_CFG_SOURCE), r16)
  else if 0x5001000000 ≤ a ∧ a < 0x5001A00000 then some (R.IMG_RACE ((a - 0x5001000000) / 0x100000), r16)
  else if 0x5002000000 ≤ a ∧ a < 0x5002400000 then some (R.TP_RACE ((a - 0x5002000000) / 0x100000), r16)
  else if 0x5000B00000 ≤ a ∧ a < 0x5000B04000 then some (R.LC_RACE ((a - 0x5000B00000) / 0x1000), r16)
  else if 0x5000A00000 ≤ a ∧ a < 0x5000A01000 then some (R.PREC_RACE, r16)
  else if 0x5000900000 ≤ a ∧ a < 0x5000901000 then some (R.AXIS_RACE ((a - 0x5000900000) / 0x200), r16)
  else if 0x5000901000 ≤ a ∧ a < 0x5000901040 then some (R.AXIS_RACE (2 * ((a - 0x5000901000) / 0x10)), r16)
  else if 0x5004000000 ≤ a ∧ a < 0x5008000000 then
    let f := (a - 0x5004000000) / 0x100000
    let o := (a - 0x5004000000) % 0x100000
    if 0x400 ≤ o then some (R.TUFT_RACE (f / 8), r16) else some (R.FRD_RACE f, r16)
  else if 0x5002800000 ≤ a ∧ a < 0x5002900000 then some (R.MEM_RACE, r16)
  else if 0x5003800000 ≤ a ∧ a < 0x5003900000 then some (R.MEM_RACE, r16)
  else if 0x5002901000 ≤ a ∧ a < 0x5002902000 then some (R.CH_RACE ((a - 0x5002901000) / 0x40), r16)
  else if 0x5002A01000 ≤ a ∧ a < 0x5002A02000 then some (R.RUN_RACE, r16)
  else if 0x5002A00000 ≤ a ∧ a < 0x5002A01000 then some (R.HOST_RACE, r16)
  else if winBase ≤ a then some (R.HOST_RACE, r16)
  else if 0x5000200000 ≤ a ∧ a < 0x5000300000 then some (R.TIME_RACE, r16)
  else if 0x5000600000 ≤ a ∧ a < 0x5000700000 then some (R.TMR_RACE, r16)
  else if 0x5000300000 ≤ a ∧ a < 0x5000400000 then some (R.PWR_RACE, r16)
  else none

/-- How many bits of a word are set. -/
def popCount (w : Word) : Nat := ((List.range 32).filter (fun i => w.getLsbD i)).length

/-- Losers of coincidences counted in a race counter. -/
def State.race (s : State) (a : Nat) (n : Nat := 1) : State :=
  match raceOf s a with
  | some (r, f) => s.satInc r f n
  | none => s

/-- A loser counted when the command says that it lost a coincidence (18 R525). -/
def State.lost (s : State) (b : Bool) (a : Nat) : State := if b then s.satInc a ⟨0, 16⟩ else s

/-! The event sources (01 R37). -/

/-- Software event of frond n. -/
def Ev.frond (n : Nat) : Nat := n
/-- DMA channel n. -/
def Ev.dma (n : Nat) : Nat := 64 + n
/-- Source k of imaging port n. -/
def Ev.img (n k : Nat) : Nat := 128 + 6 * n + k
/-- Source k of thermal port n. -/
def Ev.tp (n k : Nat) : Nat := 192 + 8 * n + k
/-- Source k of lamp chain n. -/
def Ev.lamp (n k : Nat) : Nat := 224 + 8 * n + k
/-- Source k of axis n. -/
def Ev.axis (n k : Nat) : Nat := 256 + 8 * n + k
/-- Source k of position interface n. -/
def Ev.enc (n k : Nat) : Nat := 320 + 4 * n + k
/-- Source k of compare unit n. -/
def Ev.cmp (n k : Nat) : Nat := 352 + 2 * n + k
/-- Source k of runner link n. -/
def Ev.runner (n k : Nat) : Nat := 512 + 16 * n + k
/-- Timer n. -/
def Ev.timer (n : Nat) : Nat := 576 + n
/-- Source k of stream n. -/
def Ev.stream (n k : Nat) : Nat := 640 + 24 * n + k

end Sys2Proof.Machine
end

