-- ==== Sys2Proof/Machine/Position.lean ====
section
/-!
DEFINITION. The position interfaces, the compare units and the pass-through outputs (03_position.md).
-/

namespace Sys2Proof.Machine

/-- An imaging port's hidden state. -/
def State.imgSt (s : State) (n : Nat) : ImgSt := Sparse.get (fun _ => {}) s.imgs n

/-- An imaging port's hidden state replaced. -/
def State.setImg (s : State) (n : Nat) (x : ImgSt) : State := { s with imgs := Sparse.put (fun _ => some {}) s.imgs n x }

/-- A thermal port's hidden state. -/
def State.tp (s : State) (n : Nat) : TpSt := Sparse.get (fun _ => {}) s.tps n

/-- A thermal port's hidden state replaced. -/
def State.setTp (s : State) (n : Nat) (x : TpSt) : State := { s with tps := Sparse.put (fun _ => some {}) s.tps n x }

/-- A register as a frame's boundary found it. -/
def TFrame.reg (f : TFrame) (a : Nat) : Word := (Sparse.find f.regs a).getD (resetOf a)

/-- An in-force register as a frame's boundary found it. -/
def TFrame.inForce (f : TFrame) (a : Nat) : Word := (Sparse.find f.act a).getD (resetOf a)

/-- A field of a frame's TP_n_FRAME_CFG. -/
def TFrame.cfg (f : TFrame) (n : Nat) (x : Fld) : Nat := (f.inForce (R.TP_FRAME_CFG n)).get x

/-- LINE_MODE of a frame (08 R277). -/
def TFrame.lineMode (f : TFrame) (n : Nat) : Bool := (f.reg (R.TP_LINE_CFG n)).get F.TP_LINE_CFG_LINE_MODE == 1

/-- A setting of R246 and R288 in force: as the last boundary took it (07 R246). -/
def tpTaken (s : State) (n k a : Nat) : Word := (s.tp n).geo.getD k (s.reg a)

/-- A position interface's hidden state. -/
def State.enc (s : State) (n : Nat) : EncSt := Sparse.get (fun _ => {}) s.encs n

/-- A position interface's hidden state replaced. -/
def State.setEnc (s : State) (n : Nat) (x : EncSt) : State :=
  { s with encs := Sparse.put (fun _ => some {}) s.encs n x }

/-- A pass-through output's state. -/
def State.pt (s : State) (t : Nat) : PtSt := Sparse.get (fun _ => {}) s.pts t

/-- A pass-through output's state replaced. -/
def State.setPt (s : State) (t : Nat) (x : PtSt) : State := { s with pts := Sparse.put (fun _ => some {}) s.pts t x }

/-- The items on their way to a consumer. -/
def State.posItems (s : State) (c : Nat) : List PosItem := Sparse.get (fun _ => []) s.posQ c

/-- The items on their way to a consumer, replaced. -/
def State.setPosItems (s : State) (c : Nat) (l : List PosItem) : State :=
  { s with posQ := Sparse.put (fun _ => some []) s.posQ c l }

/-- The MODE in force of an interface (03 R81). -/
def encMode (s : State) (n : Nat) : Nat := s.actFld (R.ENC_CFG n) F.ENC_CFG_MODE

/-- The quanta of one count of a mode (03 R81). -/
def quantaOf (mode : Nat) : Int := if mode = 1 then 2 ^ 22 else if mode = 2 then 2 ^ 12 else 2 ^ 24

/-- The position word of an interface (03 R84). -/
def encPos (s : State) (n : Nat) : Int := s.sreg64 (R.ENC_POS_LO n)

/-- The trigger-path direction of an interface: true for backward (03 R107). -/
def encBack (s : State) (n : Nat) : Bool := s.bit (R.ENC_STATUS n) F.ENC_STATUS_TDIR

/-- A flag of ENC_n_STATUS set, with the FAULT event if it was 0 (01 R614, 03 R116). -/
def encFault (s : State) (n : Nat) (f : Fld) : State := s.flagEvent (R.ENC_STATUS n) f (Ev.enc n 2)

/-- The shadow set of an interface (03, ENC_n_CTRL). -/
def encUnit (n : Nat) : CommitUnit :=
  ⟨R.ENC_CTRL n, F.ENC_CTRL_COMMIT_PENDING,
    [R.ENC_CFG n, R.ENC_PRESET_LO n, R.ENC_PRESET_HI n, R.ENC_SPEED_WIN n, R.ENC_SC_NOM n], none⟩

/-- The shadow set of a compare unit (03, CMP_m_CTRL). -/
def cmpUnit (m : Nat) : CommitUnit :=
  ⟨R.CMP_CTRL m, F.CMP_CTRL_COMMIT_PENDING, [R.CMP_CFG m, R.CMP_TARGET_LO m, R.CMP_TARGET_HI m, R.CMP_STEP m], none⟩

/-- The shadow set of a pass-through output (03, PT_t_CTRL). -/
def ptUnit (t : Nat) : CommitUnit := ⟨R.PT_CTRL t, F.PT_CTRL_COMMIT_PENDING, [R.PT_CFG t], none⟩

/-! ### Compare units -/

/-- Whether the target in force is at the position or already passed in the direction of travel (03 R109). -/
def cmpBehind (s : State) (m : Nat) (back : Bool) (p : Int) : Bool :=
  let t := s.sinForce64 (R.CMP_TARGET_LO m)
  if back then decide (p ≤ t) else decide (t ≤ p)

/-- Whether a target strictly ahead of the position lies within what E has already reached is noted: the position itself,
not E, then passes it (03 R108, R109). -/
def cmpNote (s : State) (m : Nat) : State :=
  let n := s.actFld (R.CMP_CFG m) F.CMP_CFG_INTERFACE
  let near := !cmpBehind s m (encBack s n) (encPos s n) && cmpBehind s m (encBack s n) (s.enc n).e
  if near then { s with cmpNear := NatSet.insert s.cmpNear m } else { s with cmpNear := NatSet.erase s.cmpNear m }

/-- A compare unit judged when a set arms or disarms it (03 R109). -/
def cmpArm (s : State) (m : Nat) : State :=
  if s.actBit (R.CMP_CFG m) F.CMP_CFG_ENABLE then
    let n := s.actFld (R.CMP_CFG m) F.CMP_CFG_INTERFACE
    let b := cmpBehind s m (encBack s n) (encPos s n)
    let s := (s.flag (R.CMP_STATUS m) F.CMP_STATUS_ARMED).setBit (R.CMP_STATUS m) F.CMP_STATUS_BEHIND b
    cmpNote (s.cond b (fun s => s.raise (Ev.cmp m 1))) m
  else s.setBit (R.CMP_STATUS m) F.CMP_STATUS_ARMED false

/-- A compare unit's set taken at its boundary (03 R109, R118). -/
def cmpTake (s : State) (m : Nat) : State :=
  if (cmpUnit m).waits s then cmpArm ((cmpUnit m).take s) m else s

/-- A firing: the crossings counted, the time, the event, the GPIO pulse; then disarmed, or moved past the position
(03 R108, R110, R111). -/
def cmpFire (s : State) (m : Nat) (back : Bool) (p : Int) (t2 : Nat) : State :=
  let cfg := R.CMP_CFG m
  let t := s.sinForce64 (R.CMP_TARGET_LO m)
  let step : Int := max 1 (s.inForce (R.CMP_STEP m)).toNat
  let rep := s.actBit cfg F.CMP_CFG_REPEAT
  let n : Int := if rep then (if back then t - p else p - t) / step + 1 else 1
  let s := (s.wrapInc (R.CMP_STATUS m) F.CMP_STATUS_FIRE_COUNT n.toNat).flag (R.CMP_STATUS m) F.CMP_STATUS_FIRED
  let s := (s.setReg64 (R.CMP_TIME_LO m) (t2 / 2)).raise (Ev.cmp m 0)
  let s :=
    if rep then
      let t' := ofSigned 64 (if back then t - n * step else t + n * step)
      cmpNote (((s.setInForce (R.CMP_TARGET_LO m) (BitVec.ofNat 32 t')).setInForce (R.CMP_TARGET_HI m)
        (BitVec.ofNat 32 (t' / 2 ^ 32))).setBit (R.CMP_STATUS m) F.CMP_STATUS_BEHIND false) m
    else s.setBit (R.CMP_STATUS m) F.CMP_STATUS_ARMED false
  s.cond (s.actBit cfg F.CMP_CFG_GPIO_EN) (fun s =>
    ({ s with cmpPulse := Sparse.put (fun _ => none) s.cmpPulse m (s.now + 1000) }).emit
      (.pulse .compare (s.actFld cfg F.CMP_CFG_GPIO_PIN) s.now 1000 false))

/-- One compare unit at a sample: a waiting set is taken and judged against the position after the sample; otherwise a
crossing on the trigger path fires it (03 R108, R112, R118). A crossing of T is E passing T, in the direction of travel
after the sample; where T lies between the position and E, it is the position passing T. -/
def cmpSample (n : Nat) (x : Sample) (s : State) (m : Nat) : State :=
  if s.actFld (R.CMP_CFG m) F.CMP_CFG_INTERFACE ≠ n then s
  else if (cmpUnit m).waits s then cmpTake s m
  else if !s.bit (R.CMP_STATUS m) F.CMP_STATUS_ARMED then s
  else
    let t := s.sinForce64 (R.CMP_TARGET_LO m)
    let p := encPos s n
    let near := s.cmpNear.contains m && !x.turn
    let s := s.cond x.turn (fun s => { s with cmpNear := NatSet.erase s.cmpNear m })
    let dirs := s.actFld (R.CMP_CFG m) F.CMP_CFG_DIRS
    let fwd := !x.back && decide (t ≤ p) && (near || decide (x.prevE < t)) && dirs % 2 == 1
    let bwd := x.back && decide (p ≤ t) && (near || decide (t < x.prevE)) && decide (2 ≤ dirs)
    if fwd || bwd then cmpFire s m x.back p x.t2 else s

/-- BEHIND of one unit decided anew after a preset (03 R87). DESIGN CHOICE (log entry 95): it raises no BEHIND event. -/
def cmpRejudge (n : Nat) (s : State) (m : Nat) : State :=
  if s.actFld (R.CMP_CFG m) F.CMP_CFG_INTERFACE = n ∧ s.bit (R.CMP_STATUS m) F.CMP_STATUS_ARMED then
    cmpNote (s.setBit (R.CMP_STATUS m) F.CMP_STATUS_BEHIND (cmpBehind s m (encBack s n) (encPos s n))) m
  else s

/-- The notes of one unit made anew after E and TDIR were reset without a preset (03 R107, R108). -/
def cmpRenote (n : Nat) (s : State) (m : Nat) : State :=
  s.cond (s.actFld (R.CMP_CFG m) F.CMP_CFG_INTERFACE == n && s.bit (R.CMP_STATUS m) F.CMP_STATUS_ARMED) (fun s => cmpNote s m)

/-! ### Pass-through -/

/-- The quanta between two synthesised states (03 R114). -/
def ptPitch (s : State) (t : Nat) : Int :=
  let sh := min 12 (max 2 (s.actFld (R.PT_CFG t) F.PT_CFG_SHIFT))
  let sh := if encMode s (s.actFld (R.PT_CFG t) F.PT_CFG_SOURCE) = 2 then sh else 2
  2 ^ (24 - sh)

/-- The levels of A and B of a quadrature state: 00, 10, 11, 01 forward (03 R83). -/
def quadLevels (k : Int) : Bool × Bool :=
  let m := k % 4
  (decide (m = 1 ∨ m = 2), decide (m = 2 ∨ m = 3))

/-- The levels of A and B in copy mode: the filtered inputs, or the signs of sine and cosine (03 R113). -/
def copyLevels (s : State) (n : Nat) : Bool × Bool :=
  let x := s.enc n
  if encMode s n = 2 then x.signs else (x.a, x.b)

/-- One pass-through output brought in line with its source: copied, or the edges owed counted; more than one period
behind sets PT_LAG (03 R113 to R115). -/
def ptFollow (n : Nat) (s : State) (t : Nat) : State :=
  let cfg := R.PT_CFG t
  if s.actFld cfg F.PT_CFG_SOURCE ≠ n then s
  else if !s.actBit cfg F.PT_CFG_ENABLE then s.setPt t { s.pt t with a := false, b := false, z := false }
  else if s.actBit cfg F.PT_CFG_SYNTH then
    let q := ptPitch s t
    let x := { s.pt t with owed := (encPos s n).fdiv q + (s.pt t).base, z := (s.enc n).z }
    let s := s.setPt t x
    s.cond (decide (2 ^ 24 / q < (x.owed - x.emitted).natAbs)) (fun s =>
      s.flagEvent (R.PT_CTRL t) F.PT_CTRL_PT_LAG (Ev.enc n 2))
  else
    let (a, b) := copyLevels s n
    s.setPt t { s.pt t with a := a, b := b, z := (s.enc n).z }

/-- A pass-through output's set taken: a synthesised output starts level with its source (03 R114, R118). -/
def ptTake (s : State) (t : Nat) : State :=
  if (ptUnit t).waits s then
    let s := (ptUnit t).take s
    let n := s.actFld (R.PT_CFG t) F.PT_CFG_SOURCE
    let o := (encPos s n).fdiv (ptPitch s t)
    let (a, b) := quadLevels o
    ptFollow n (s.setPt t { s.pt t with emitted := o, owed := o, base := 0, a := a, b := b }) t
  else s

/-- A jump of the source that is no travel, a preset or another MODE: the state owed stands (03 R114; log entry 96). -/
def ptRebase (n : Nat) (s : State) (t : Nat) : State :=
  if s.actFld (R.PT_CFG t) F.PT_CFG_SOURCE = n then
    let x := s.pt t
    s.setPt t { x with base := x.owed - (encPos s n).fdiv (ptPitch s t) }
  else s

/-- A pass-through output at a sample of its source. -/
def ptSample (n : Nat) (s : State) (t : Nat) : State :=
  if s.actFld (R.PT_CFG t) F.PT_CFG_SOURCE = n then ptFollow n (ptTake s t) t else s

/-! ### Samples -/

/-- Whether a fired line of an imaging port still waits for the first sample after its exposure start (04 R147). -/
def placeDue (s : State) (p : Nat) : Bool :=
  (s.imgSt p).swaths.any (fun w => w.taps.any (fun t => t.line.any (·.place.isNone)))

/-- Whether a thermal port still needs a sample of an interface for a frame of its (07 R253). -/
def frameOwes (s : State) (p n : Nat) : Bool :=
  (s.tp p).frames.any (fun f => f.pos.isNone && (f.lineMode p || f.cfg p F.TP_FRAME_CFG_POS_EN == 1) &&
    f.cfg p F.TP_FRAME_CFG_INTERFACE == n)

/-- The consumers of an interface's samples: imaging ports that trigger on it in a run or still place a line of it,
thermal ports in line mode or with POS_EN and those whose frames still wait for it, coded as in `State.posQ` (03 R90;
04 R147, IMG_n_TRIG_CFG; 07 R253; 08, TP_n_LINE_CFG). -/
def consumersOf (s : State) (n : Nat) : List Nat :=
  (List.range 10).filter (fun p => s.actFld (R.IMG_TRIG_CFG p) F.IMG_TRIG_CFG_INTERFACE == n &&
    (s.runActive || placeDue s p)) ++
    ((List.range 4).filter (fun p => s.bit (R.TP_IF_CFG p) F.TP_IF_CFG_ENABLE &&
      (frameOwes s p n ||
        (s.bit (R.TP_LINE_CFG p) F.TP_LINE_CFG_LINE_MODE || s.actBit (R.TP_FRAME_CFG p) F.TP_FRAME_CFG_POS_EN) &&
          s.actFld (R.TP_FRAME_CFG p) F.TP_FRAME_CFG_INTERFACE == n))).map (16 + ·)

/-- An item sent to every consumer of an interface. -/
def sendItem (s : State) (n : Nat) (i : PosItem) : State :=
  (consumersOf s n).foldl (fun s c => s.setPosItems c (s.posItems c ++ [i])) s

/-- A sample published: VALID, the compare units, the pass-through outputs and the consumers (03 R88, R108, R114); the
turn of a shared interface is kept for its next flit (17 R513). -/
def publish (s : State) (n : Nat) (x : Sample) : State :=
  let x := { x with iface := n }
  let s := s.setEnc n { s.enc n with last := x, lastPub := s.now, good := x.pos }
  let shared := s.bit R.RUN_POS_OUT F.RUN_POS_OUT_EN && s.fld R.RUN_POS_OUT F.RUN_POS_OUT_INTERFACE == n
  let s := if shared && x.turn then { s with runner := { s.runner with turn := some x.prevE } } else s
  let s := s.setBit (R.ENC_STATUS n) F.ENC_STATUS_VALID x.valid
  let s := (List.range 16).foldl (cmpSample n x) s
  let s := (List.range 2).foldl (ptSample n) s
  sendItem s n (.sample x)

/-! ### Speed windows -/

/-- A window started (03 R102). -/
def windowStart (s : State) (n : Nat) : State :=
  s.setEnc n { s.enc n with winStart := s.now, winQ := 0, winRev := false }

/-- How fast an interface is shown to be: 0 at STANDSTILL, else one more than the magnitude of SPEED. -/
def speedRank (s : State) (n : Nat) : Nat :=
  if s.bit (R.ENC_STATUS n) F.ENC_STATUS_STANDSTILL then 0 else (toSigned 32 (s.reg (R.ENC_SPEED n)).toNat).natAbs + 1

/-- The speed shown so far ends now; slower ones before it are forgotten (08 R260). -/
def noteSpeed (s : State) (n : Nat) : State :=
  let r := speedRank s n
  s.setEnc n { s.enc n with fast := (s.now, r) :: (s.enc n).fast.dropWhile (fun e => decide (e.2 ≤ r)) }

/-- Since when an interface has been below a speed or at STANDSTILL, if it is (08 R260). -/
def slowSince (s : State) (n below : Nat) : Option Nat :=
  if below < speedRank s n then none
  else some ((((s.enc n).fast.find? (fun e => decide (below < e.2))).map (·.1)).getD s.boot.startAt)

/-- Whether an interface publishes samples: its MODE is not off, or a shared interface of another device feeds it (03 R88,
17 R514). -/
def encPublishes (s : State) (n : Nat) : Bool :=
  encMode s n != 0 || (List.range 2).any (fun j =>
    s.bit (R.RUN_POS_IN j) F.RUN_POS_IN_EN && s.fld (R.RUN_POS_IN j) F.RUN_POS_IN_LOCAL == n)

/-- A window closed at the present instant: SPEED, its flags, STANDSTILL with the MOTION event (03 R103). A window of no
length computes nothing. -/
def windowClose (s : State) (n : Nat) : State :=
  let x := s.enc n
  let len : Int := s.now - x.winStart
  if len ≤ 0 then s
  else
    let v := (x.winQ * 256000000000).tdiv (2 ^ 24 * len)
    let sat := decide (v < -(2 ^ 31) ∨ (2 ^ 31 : Int) ≤ v)
    let v := satSigned 32 v
    let still := decide (x.winQ = 0)
    let moved := if still then 0 else min 3 (x.moved + 1)
    let s := noteSpeed (s.setEnc n { x with moved := moved }) n
    let s := s.setReg (R.ENC_SPEED n) (BitVec.ofNat 32 (ofSigned 32 v))
    let st := R.ENC_SPEED_STAT n
    let s := s.wrapInc st F.ENC_SPEED_STAT_WINDOW_SEQ
    let s := (s.setBit st F.ENC_SPEED_STAT_STANDSTILL still).setBit st F.ENC_SPEED_STAT_SAT sat
    let s := (s.setBit st F.ENC_SPEED_STAT_REVERSAL x.winRev).setBit st F.ENC_SPEED_STAT_STARTUP
      (decide (moved = 1 ∨ moved = 2))
    let s := s.cond sat (fun s => s.flag (R.ENC_STATUS n) F.ENC_STATUS_SPEED_SAT)
    let s := s.cond (s.bit (R.ENC_STATUS n) F.ENC_STATUS_STANDSTILL != still) (fun s =>
      (s.setBit (R.ENC_STATUS n) F.ENC_STATUS_STANDSTILL still).raise (Ev.enc n 3))
    s.cond still (fun s => sendItem s n .still)

/-! ### Commits -/

/-- The position word replaced, with the trigger path reset to forward at it (03 R86, R107). -/
def encLoad (s : State) (n : Nat) (p : Int) : State :=
  let s := (s.setSreg64 (R.ENC_POS_LO n) p).setBit (R.ENC_STATUS n) F.ENC_STATUS_TDIR false
  let v := toSigned 64 (ofSigned 64 p)
  s.setEnc n { s.enc n with e := v, good := v }

/-- Whether a run refuses the preset, mode or inversion of the waiting set (03 R86). -/
def encRefused (s : State) (n : Nat) : Bool :=
  let a := R.ENC_CFG n
  s.runActive && (s.bit a F.ENC_CFG_PRESET_EN || s.fld a F.ENC_CFG_MODE != s.actFld a F.ENC_CFG_MODE ||
    s.fld a F.ENC_CFG_INVERT != s.actFld a F.ENC_CFG_INVERT)

/-- The shadows of the refused fields rewritten with the values in force (03 R86, 18 R529). -/
def encWithhold (s : State) (n : Nat) : State :=
  let a := R.ENC_CFG n
  let s := s.setFld a F.ENC_CFG_PRESET_EN (s.actFld a F.ENC_CFG_PRESET_EN)
  let s := s.setFld a F.ENC_CFG_MODE (s.actFld a F.ENC_CFG_MODE)
  s.setFld a F.ENC_CFG_INVERT (s.actFld a F.ENC_CFG_INVERT)

/-- U·V·W of the input levels (03 R98). -/
def levelsOf (x : EncSt) : Nat := (if x.a then 4 else 0) + (if x.b then 2 else 0) + (if x.z then 1 else 0)

/-- Sets of compare units and pass-through outputs that wait for an interface which has just turned off: their boundary is
then immediate (03 R118). -/
def takeWatchers (n : Nat) (s : State) : State :=
  let s := (List.range 16).foldl (fun s m => s.cond (s.actFld (R.CMP_CFG m) F.CMP_CFG_INTERFACE == n) (fun s =>
    cmpTake s m)) s
  (List.range 2).foldl (fun s t => s.cond (s.actFld (R.PT_CFG t) F.PT_CFG_SOURCE == n) (fun s => ptTake s t)) s

/-- The interface's set takes effect at its boundary (03 R85 to R87, R94, R102, R107, R118). -/
def encTake (s : State) (n : Nat) : State :=
  if !(encUnit n).waits s then s
  else
    let old := encMode s n
    let refused := encRefused s n
    let preset := s.bit (R.ENC_CFG n) F.ENC_CFG_PRESET_EN && !refused
    let s := s.cond refused (fun s => encFault (encWithhold s n) n F.ENC_STATUS_CFG_REFUSED)
    let s := (encUnit n).take s
    let mode := encMode s n
    let p := s.sinForce64 (R.ENC_PRESET_LO n)
    let s := s.cond (mode != old) (fun s =>
      let x := s.enc n
      (s.setBit (R.ENC_STATUS n) F.ENC_STATUS_CORR_SETTLED false).setEnc n
        { x with settle := 0, corrAt := s.now, peaks := none, angle := none, sigFault := false, hallErr := false,
                 hall := levelsOf x })
    let s := if preset then (List.range 16).foldl (cmpRejudge n) (encLoad s n p)
      else if mode = old then s
      else (List.range 16).foldl (cmpRenote n) (encLoad s n (if old = 0 then 0 else encPos s n))
    let s := s.cond (preset || mode != old) (fun s => (List.range 2).foldl (ptRebase n) s)
    if old = 0 then
      if mode = 0 then s
      else
        let s := s.setBit (R.ENC_STATUS n) F.ENC_STATUS_VALID false
        let s := s.setFld (R.ENC_INDEX_INFO n) F.ENC_INDEX_INFO_INDEX_COUNT 0
        windowStart (s.setEnc n { s.enc n with moved := 0, lastPub := s.now }) n
    else
      let s := windowStart (windowClose s n) n
      s.cond (mode == 0) (takeWatchers n)

/-- COMMIT of an interface: at the next sample, or at once while the MODE in force is off (03 R118). -/
def encCommit (n : Nat) (s : State) : State :=
  let s := (encUnit n).commit s
  if encMode s n = 0 then encTake s n else s

/-- COMMIT of a compare unit (03 R109, R118). -/
def cmpCommit (m : Nat) (s : State) : State :=
  let s := (cmpUnit m).commit s
  if encMode s (s.actFld (R.CMP_CFG m) F.CMP_CFG_INTERFACE) = 0 then cmpTake s m else s

/-- COMMIT of a pass-through output (03 R114, R118). -/
def ptCommit (t : Nat) (s : State) : State :=
  let s := (ptUnit t).commit s
  if encMode s (s.actFld (R.PT_CFG t) F.PT_CFG_SOURCE) = 0 then ptTake s t else s

/-! ### Counting -/

/-- One sample of an interface that moves the position word by `dq` quanta: the window, DIR with its event, E, TDIR and
TURN (03 R84, R88, R103, R106, R107). `q` is one count. A sample that is not valid shows the last good position. -/
def countBy (s : State) (n : Nat) (q dq : Int) (t2 : Nat) (valid : Bool) : State :=
  let p := toSigned 64 (ofSigned 64 (encPos s n + dq))
  let x := s.enc n
  let dir := if dq = 0 then s.bit (R.ENC_STATUS n) F.ENC_STATUS_DIR else decide (dq < 0)
  let turnDir := dir != s.bit (R.ENC_STATUS n) F.ENC_STATUS_DIR
  let back := encBack s n
  let beyond := if back then decide (p < x.e) else decide (x.e < p)
  let turn := if back then decide (x.e + q < p) else decide (p < x.e - q)
  let back' := back != turn
  let e := if beyond || turn then p else x.e
  let s := s.setSreg64 (R.ENC_POS_LO n) p
  let s := s.setEnc n { x with e := e, winQ := x.winQ + dq, winRev := x.winRev || turnDir }
  let s := s.cond turnDir (fun s => (s.setBit (R.ENC_STATUS n) F.ENC_STATUS_DIR dir).raise (Ev.enc n 0))
  let s := s.setBit (R.ENC_STATUS n) F.ENC_STATUS_TDIR back'
  publish s n { pos := if valid then p else x.good, t2 := t2, dir := dir, back := back', turn := turn, valid := valid,
                suspect := s.bit (R.ENC_STATUS n) F.ENC_STATUS_POS_SUSPECT, prevE := x.e }

/-- The pass-through outputs brought in line with their source. -/
def ptAll (n : Nat) (s : State) : State := (List.range 2).foldl (ptFollow n) s

/-- DIR brought up to a count's direction, with its event where it changes (03 R106). -/
def dirShow (n : Nat) (back : Bool) (s : State) : State :=
  s.cond (s.bit (R.ENC_STATUS n) F.ENC_STATUS_DIR != back) (fun s =>
    (s.setBit (R.ENC_STATUS n) F.ENC_STATUS_DIR back).raise (Ev.enc n 0))

/-- The count of the sample that takes a set, applied after it (03 R86): where the set turns the interface off, the
word, DIR and the outputs move and no sample is published (03 R106, R113, R118). -/
def countAt (s : State) (n : Nat) (q dq : Int) (t2 : Nat) (valid : Bool) : State :=
  if encMode s n = 0 then
    ptAll n ((encLoad s n (encPos s n + dq)).cond (dq != 0) (dirShow n (decide (dq < 0))))
  else countBy s n q dq t2 valid

/-- A count's sign after INVERT (03 R83). -/
def invertBy (s : State) (n : Nat) (c : Int) : Int := if s.actBit (R.ENC_CFG n) F.ENC_CFG_INVERT then -c else c

/-- The step of the quadrature state from one pair of levels to the next: 1, -1, 0, or none where both change (03 R83,
R92). -/
def quadStep (a b a' b' : Bool) : Option Int :=
  if a = a' ∧ b = b' then some 0
  else if a ≠ a' ∧ b ≠ b' then none
  else if a ≠ a' then some (if a' ≠ b then 1 else -1)
  else some (if b' = a then 1 else -1)

/-- Whether the glitch filter accepts a level that has been held for a number of ns (03 R91). -/
def filterPasses (s : State) (n held : Nat) : Bool := decide (5 * s.actFld (R.ENC_CFG n) F.ENC_CFG_FILT ≤ held)

/-- New levels of A and B, accepted by the filter (03 R84, R92). -/
def quadCount (n : Nat) (a b z : Bool) (t2 : Nat) (s : State) : State :=
  let x := s.enc n
  let s := (s.reach (t2 / 2)).setEnc n { x with a := a, b := b, z := z }
  if encMode s n ≠ 1 then ptAll n s
  else
    match quadStep x.a x.b a b with
    | none =>
      let s := encFault (s.flag (R.ENC_STATUS n) F.ENC_STATUS_POS_SUSPECT) n F.ENC_STATUS_QUAD_ERROR
      ptAll n (s.satInc (R.ENC_ERRCNT n) F.ENC_ERRCNT_ERR_COUNT)
    | some c =>
      if c = 0 then ptAll n s
      else
        let s := encTake s n
        countAt s n (2 ^ 22) (invertBy s n c * 2 ^ 22) t2 true

/-- The place of a Hall state in the forward cycle (03 R98). -/
def hallIndex (v : Nat) : Option Nat :=
  if v = 4 then some 0 else if v = 6 then some 1 else if v = 2 then some 2 else if v = 3 then some 3
  else if v = 1 then some 4 else if v = 5 then some 5 else none

/-- A Hall error: its flag with the FAULT event, POS_SUSPECT, ERR_COUNT (03 R99). -/
def hallError (s : State) (n : Nat) (f : Fld) : State :=
  let s := encFault (s.flag (R.ENC_STATUS n) F.ENC_STATUS_POS_SUSPECT) n f
  (s.satInc (R.ENC_ERRCNT n) F.ENC_ERRCNT_ERR_COUNT).setEnc n { s.enc n with hallErr := true }

/-- New levels of the Hall inputs, accepted by the filter (03 R98, R99). DESIGN CHOICE (log entry 93): inputs that
stand at 0b000 or 0b111 when MODE turns on are no error until they change. -/
def hallChange (n : Nat) (v : Nat) (t2 : Nat) (s : State) : State :=
  let s := s.reach (t2 / 2)
  let s := s.setEnc n { s.enc n with a := 4 ≤ v, b := v / 2 % 2 == 1, z := v % 2 == 1 }
  if encMode s n ≠ 3 then ptAll n s
  else
    match hallIndex v with
    | none => ptAll n (hallError s n F.ENC_STATUS_HALL_IMPOSSIBLE)
    | some i =>
      let x := s.enc n
      let s := s.setEnc n { x with hall := v, hallErr := false }
      match hallIndex x.hall with
      | none => ptAll n s
      | some j =>
        let d := (i + 6 - j) % 6
        if d = 0 then ptAll n s
        else if d = 1 ∨ d = 5 then
          let s := encTake s n
          countAt s n (2 ^ 24) (invertBy s n (if d = 1 then 1 else -1) * 2 ^ 24) t2 true
        else ptAll n (hallError s n F.ENC_STATUS_HALL_SKIP)

/-! ### Sine/cosine interpolation (03 R93 to R97; log entry 97) -/

/-- The angles whose tangent is 2^-i, in 2^-32 turn. -/
def atanTable : List Int := [536870912, 316933406, 167458907, 85004756, 42667331, 21354465, 10679838, 5340245, 2670163,
  1335087, 667544, 333772, 166886, 83443, 41722, 20861]

/-- The angle of a vector in the right half-plane, in 2^-32 turn: it is turned toward the axis by each entry. -/
def vectorAngle : List Int → Nat → Int → Int → Int → Int
  | [], _, _, _, a => a
  | t :: ts, i, x, y, a =>
    if 0 < y then vectorAngle ts (i + 1) (x + y / 2 ^ i) (y - x / 2 ^ i) (a + t)
    else vectorAngle ts (i + 1) (x - y / 2 ^ i) (y + x / 2 ^ i) (a - t)

/-- The nearest of 4,096 steps of a period to the angle of a corrected pair. -/
def pairAngle (sin cos : Int) : Nat :=
  let k : Int := if cos < 0 then -65536 else 65536
  let a := vectorAngle atanTable 0 (k * cos) (k * sin) (if cos < 0 then 2 ^ 31 else 0)
  (((a + 2 ^ 19) / 2 ^ 20) % 4096).toNat

/-- The corrected pair: offsets removed, cosine scaled to the amplitude of sine, and turned back by PHASE, whose sine and
cosine are taken to the fourth order in 2^-16 (03 R93). -/
def correctedPair (s : State) (n : Nat) (sin cos : Int) : Int × Int :=
  let x := sin - s.sfld (R.ENC_SC_OFS n) F.ENC_SC_OFS_SIN_OFS
  let y := (cos - s.sfld (R.ENC_SC_OFS n) F.ENC_SC_OFS_COS_OFS) * (s.fld (R.ENC_SC_GP n) F.ENC_SC_GP_RATIO : Int) / 2 ^ 15
  let p := s.sfld (R.ENC_SC_GP n) F.ENC_SC_GP_PHASE
  let sp := p - p ^ 3 / (6 * 2 ^ 32)
  let cp := 2 ^ 16 - p ^ 2 / 2 ^ 17 + p ^ 4 / (24 * 2 ^ 48)
  (x, (y * 2 ^ 16 + x * sp) / cp)

/-- The peaks of a period with one more pair of conversions, and a step. -/
def Peaks.take (p : Peaks) (sin cos d : Int) : Peaks :=
  ⟨min p.sinLo sin, max p.sinHi sin, min p.cosLo cos, max p.cosHi cos, p.went + d⟩

/-- The sine/cosine correction at the end of a period: each value moves 1/16 of the way to its estimate, rounded
toward zero (DESIGN CHOICE, log entry 92); 64 updates in a row that move every value by less than the equivalent of
1/4,096 period settle it (03 R94). The offsets and the ratio are estimated from the middles and the heights of the
period's peaks, `phase` is what the device makes of them (log entry 97). -/
def scCorrect (s : State) (n : Nat) (p : Peaks) (phase : Int) : State :=
  let x := s.enc n
  let dt := s.now - x.corrAt
  if s.actBit (R.ENC_CFG n) F.ENC_CFG_CORR_FREEZE ∨ dt < 10000 ∨ 1000000000 < dt ∨ p.cosHi ≤ p.cosLo then s
  else
    let (o, g) := (R.ENC_SC_OFS n, R.ENC_SC_GP n)
    let move (a b : Int) : Int := (b - a).tdiv 16
    let (so, co) := (s.sfld o F.ENC_SC_OFS_SIN_OFS, s.sfld o F.ENC_SC_OFS_COS_OFS)
    let (ph, ra) := (s.sfld g F.ENC_SC_GP_PHASE, (s.fld g F.ENC_SC_GP_RATIO : Int))
    let (dso, dco) := (move so ((p.sinLo + p.sinHi) / 2), move co ((p.cosLo + p.cosHi) / 2))
    let (dph, dra) := (move ph phase, move ra ((p.sinHi - p.sinLo) * 32768 / (p.cosHi - p.cosLo)))
    let s := (s.setSfld o F.ENC_SC_OFS_SIN_OFS (so + dso)).setSfld o F.ENC_SC_OFS_COS_OFS (co + dco)
    let s := (s.setSfld g F.ENC_SC_GP_PHASE (ph + dph)).setFld g F.ENC_SC_GP_RATIO (satUnsigned 16 (ra + dra)).toNat
    let nom := s.actFld (R.ENC_SC_NOM n) F.ENC_SC_NOM_NOM
    let inStep (d : Int) : Bool := decide (d.natAbs * 4096 * 10000 < 62832 * nom)
    let small := inStep dso && inStep dco && decide (dph.natAbs ≤ 100 ∧ dra.natAbs ≤ 100)
    let k := if small then min 64 ((s.enc n).settle + 1) else 0
    let s := s.setEnc n { s.enc n with settle := k }
    s.cond (decide (64 ≤ k)) (fun s => s.flag (R.ENC_STATUS n) F.ENC_STATUS_CORR_SETTLED)

/-- The peaks of the present period with one more conversion; after a whole period of travel the correction is brought
up to date and the next period begins (03 R94). -/
def scPeriod (n : Nat) (sin cos d phase : Int) (s : State) : State :=
  let fresh : Peaks := ⟨sin, sin, cos, cos, 0⟩
  match (s.enc n).peaks with
  | none => s.setEnc n { s.enc n with peaks := some fresh, corrAt := s.now }
  | some p =>
    let p := p.take sin cos d
    if 4096 ≤ p.went.natAbs then
      let s := scCorrect s n p phase
      s.setEnc n { s.enc n with peaks := some { fresh with went := p.went.tmod 4096 }, corrAt := s.now }
    else s.setEnc n { s.enc n with peaks := some p }

/-- The signed step between two angles, the smaller way round (03 R96). The spec does not say which way a step of
exactly half a period goes: that sign is a free value. -/
def angleStep (s : State) (a b : Nat) : Int :=
  let d := (b + 4096 - a) % 4096
  if d < 2048 then (d : Int)
  else if d = 2048 then (if s.free.getLsbD 0 then 2048 else -2048)
  else (d : Int) - 4096

/-- A SAR conversion of sine and cosine (03 R93, R96, R97): the set that waits is taken first; outside 50 to 150 % of
SC_NOM the word is held and the period ends; a step of more than 1/4 period is over speed, but for the one on the return
into the window. -/
def sincosConvert (n : Nat) (sin cos phase : Int) (t2 : Nat) (s : State) : State :=
  let s := s.reach (t2 / 2)
  if encMode s n ≠ 2 then s
  else
    let was := s.enc n
    let s := encTake s n
    let nom := s.actFld (R.ENC_SC_NOM n) F.ENC_SC_NOM_NOM
    let (x, y) := correctedPair s n sin cos
    let r2 := x.natAbs ^ 2 + y.natAbs ^ 2
    let s := s.setEnc n { s.enc n with signs := (decide (0 ≤ x), decide (0 ≤ y)) }
    let suspect := fun (s : State) (f : Fld) =>
      (encFault (s.flag (R.ENC_STATUS n) F.ENC_STATUS_POS_SUSPECT) n f).satInc (R.ENC_ERRCNT n)
        F.ENC_ERRCNT_FAULT_COUNT
    if 4 * r2 < nom ^ 2 ∨ 9 * nom ^ 2 < 4 * r2 then
      let s := s.setEnc n { s.enc n with sigFault := true, peaks := none }
      countAt (suspect s F.ENC_STATUS_SIGNAL_FAULT) n (2 ^ 12) 0 t2 false
    else
      let g := pairAngle x y
      let d := match was.angle with
        | some a => angleStep s a g
        | none => 0
      let s := { s with freeCtr := s.freeCtr + (if d = 2048 ∨ d = -2048 then 1 else 0) }
      let s := s.setEnc n { s.enc n with angle := if encMode s n = 2 then some g else none, sigFault := false }
      let fast := decide (1024 < d.natAbs) && !was.sigFault
      let s := s.cond fast (fun s => suspect s F.ENC_STATUS_OVERSPEED)
      let s := s.cond (encMode s n == 2) (scPeriod n sin cos d phase)
      countAt s n (2 ^ 12) (invertBy s n d * 2 ^ 12) t2 (!fast)

/-- The heartbeat sample of a standing quadrature or Hall interface, 250 ns after the last sample (03 R88). -/
def heartbeat (n : Nat) (s : State) : State :=
  let m := encMode s n
  if m = 1 ∨ m = 3 then
    let s := encTake (s.reach ((s.enc n).lastPub + 250)) n
    if encMode s n = 0 then s
    else
      let x := s.enc n
      let st := R.ENC_STATUS n
      publish s n { pos := encPos s n, t2 := 2 * s.now, dir := s.bit st F.ENC_STATUS_DIR, back := encBack s n,
                    turn := false, valid := !x.hallErr, suspect := s.bit st F.ENC_STATUS_POS_SUSPECT, prevE := x.e }
  else s

/-- A rising edge of Z, latched if INDEX_EN and, with INDEX_GATE in quadrature mode, A and B are 1 (03 R100). DESIGN
CHOICE (log entry 94): it latches in Hall mode as well, where Z carries W, and not while MODE is off. -/
def indexLatch (n : Nat) (s : State) : State :=
  let cfg := R.ENC_CFG n
  let x := s.enc n
  let s := ptAll n (s.setEnc n { x with z := true })
  let gate := s.actBit cfg F.ENC_CFG_INDEX_GATE && encMode s n == 1
  if encMode s n = 0 ∨ !s.actBit cfg F.ENC_CFG_INDEX_EN ∨ (gate && !(x.a && x.b)) then s
  else
    let s := s.setReg64 (R.ENC_INDEX_PREV_LO n) (s.reg64 (R.ENC_INDEX_LO n))
    let s := s.setReg64 (R.ENC_INDEX_LO n) (s.reg64 (R.ENC_POS_LO n))
    let s := s.wrapInc (R.ENC_INDEX_INFO n) F.ENC_INDEX_INFO_INDEX_COUNT
    (s.setBit (R.ENC_INDEX_INFO n) F.ENC_INDEX_INFO_IDX_DIR (s.bit (R.ENC_STATUS n) F.ENC_STATUS_DIR)).raise
      (Ev.enc n 1)

/-- The length of a speed window in ns (03 R102). -/
def windowNs (s : State) (n : Nat) : Nat :=
  1000 * min 100000 (max 10 (s.actFld (R.ENC_SPEED_WIN n) F.ENC_SPEED_WIN_WIN_US))

/-- The end of a speed window: it is computed and the next starts (03 R102, R103). -/
def windowEnd (n : Nat) (s : State) : State :=
  if encMode s n = 0 then s
  else
    let s := s.reach ((s.enc n).winStart + windowNs s n)
    windowStart (windowClose s n) n

/-- One owed edge of a synthesised output (03 R115). -/
def ptEdge (t : Nat) (s : State) : State :=
  let cfg := R.PT_CFG t
  let x := s.pt t
  if !s.actBit cfg F.PT_CFG_ENABLE ∨ !s.actBit cfg F.PT_CFG_SYNTH ∨ x.owed = x.emitted then s
  else
    let s := s.reach (x.lastEdge + 25)
    let k := if x.emitted < x.owed then x.emitted + 1 else x.emitted - 1
    let (a, b) := quadLevels k
    s.setPt t { x with emitted := k, a := a, b := b, lastEdge := s.now }

/-! ### The commands -/

/-- QUAD_COUNT (03 R84, R91): the levels of the inputs, held for a number of ns. `lost`: the edge lost a coincidence
with an index edge or a window end (03 R101, R104). -/
def execQuadCount (n : Fin 8) (a b z : Bool) (e : HeldEdge) (lost : Bool) (s : State) : Result :=
  .next (s.whenWorking (fun s =>
    if filterPasses s n e.held then quadCount n a b z e.t2 (s.lost lost (R.ENC_RACE n)) else s))

/-- HALL_STATE_CHANGE (03 R91, R98): U·V·W as a number, held for a number of ns. -/
def execHallStateChange (n uvw : Fin 8) (e : HeldEdge) (lost : Bool) (s : State) : Result :=
  .next (s.whenWorking (fun s =>
    if filterPasses s n e.held then hallChange n uvw e.t2 (s.lost lost (R.ENC_RACE n)) else s))

/-- SINCOS_CONVERSION (03 R93): the pair of a conversion in SAR LSB, and the phase that the device estimates where the
conversion ends a period (03 R94). -/
def execSincosConversion (n : Fin 8) (sin cos phase : BitVec 16) (t2 : Nat) (lost : Bool)
    (s : State) : Result :=
  .next (s.whenWorking (fun s => sincosConvert n sin.toInt cos.toInt phase.toInt t2 (s.lost lost (R.ENC_RACE n))))

/-- HEARTBEAT_SAMPLE (03 R88). -/
def execHeartbeatSample (n : Fin 8) (lost : Bool) (s : State) : Result :=
  .next (s.whenWorking (fun s => heartbeat n (s.lost lost (R.ENC_RACE n))))

/-- INDEX_LATCH (03 R100, R101). The glitch filter is not applied to Z: R91 speaks of a quadrature input (DESIGN
CHOICE: log entry 123). -/
def execIndexLatch (n : Fin 8) (t : Nat) (lost : Bool) (s : State) : Result :=
  .next (s.whenWorking (fun s => indexLatch n ((s.reach t).lost lost (R.ENC_RACE n))))

/-- COMPARE_PULSE_END (03 R111). -/
def execComparePulseEnd (m : Fin 16) (s : State) : Result :=
  .next (match Sparse.find s.cmpPulse m with
    | some t => { s.reach t with cmpPulse := Sparse.erase s.cmpPulse m }
    | none => s)

/-- PT_SYNTH_EDGE (03 R115). -/
def execPtSynthEdge (t : Fin 2) (s : State) : Result := .next (s.whenWorking (ptEdge t))

/-- ENC_COMMIT (03 R118). `lost`: the commit lost to a boundary (18 R527). -/
def execEncCommit (n : Fin 8) (lost : Bool) (s : State) : Result :=
  .next (s.whenWorking (fun s => encCommit n (s.lost lost (R.ENC_RACE n))))

/-- CMP_COMMIT (03 R109, R112). -/
def execCmpCommit (m : Fin 16) (lost : Bool) (s : State) : Result :=
  .next (s.whenWorking (fun s =>
    cmpCommit m (s.cond lost (fun s => s.satInc (R.CMP_STATUS m) F.CMP_STATUS_RACE))))

/-- PT_COMMIT (03 R114). -/
def execPtCommit (t : Fin 2) (lost : Bool) (s : State) : Result :=
  .next (s.whenWorking (fun s =>
    ptCommit t (s.lost lost (R.ENC_RACE (s.actFld (R.PT_CFG t) F.PT_CFG_SOURCE)))))

end Sys2Proof.Machine
end

