-- ==== Sys2Proof/Machine/Script.lean ====
section
/-!
DEFINITION. The script engines of the imaging ports, thermal ports and lamp chains (02 R58, R59; 04 R134 to R136; 06 R203
to R206; 07 R224). An engine's number is the SCRIPT section's TARGET.
-/

namespace Sys2Proof.Machine

/-- An engine. -/
def State.engine (s : State) (t : Nat) : Engine := Sparse.get (fun _ => {}) s.engines t

/-- An engine replaced. -/
def State.setEngine (s : State) (t : Nat) (e : Engine) : State :=
  { s with engines := Sparse.put (fun _ => some {}) s.engines t e }

/-- The SCRIPT register of a target; the fields of IMG_n_SCRIPT, TP_n_SCRIPT and LCn_SCRIPT lie at the same places. -/
def scriptReg (t : Nat) : Nat :=
  if t < 0x10 then R.IMG_SCRIPT t else if t < 0x20 then R.TP_SCRIPT (t - 0x10) else R.LC_SCRIPT (t - 0x20)

/-- The register that holds the last value read. -/
def scriptReadReg (t : Nat) : Nat :=
  if t < 0x10 then R.IMG_SCRIPT_READ t else if t < 0x20 then R.TP_SCRIPT_READ (t - 0x10)
  else R.LC_SCRIPT_READ (t - 0x20)

/-- The script event of a target (04 R158, 07 R256, 06 R219). -/
def scriptEvent (t : Nat) : Nat :=
  if t < 0x10 then Ev.img t 1 else if t < 0x20 then Ev.tp (t - 0x10) 2 else Ev.lamp (t - 0x20) 7

/-- SCRIPT_FAIL of a target (04 R135, 06 R206, 07). -/
def scriptFailFlag (t : Nat) : Nat × Fld :=
  if t < 0x10 then (R.IMG_STATUS t, F.IMG_STATUS_SCRIPT_FAIL)
  else if t < 0x20 then (R.TP_STATUS (t - 0x10), F.TP_STATUS_SCRIPT_FAIL)
  else (R.LC_STATE (t - 0x20), F.LC_STATE_SCRIPT_FAIL)

/-- The scripts of a target and phase, in directory order. -/
def scriptsFor (s : State) (t phase : Nat) : List (List ScriptOp) :=
  match s.boot.spore with
  | some p => (p.scripts.filter (fun x => x.target == t && x.phase == phase)).map (·.ops)
  | none => []

/-- How a phase ended, noted for the port. -/
def Engine.note (e : Engine) (phase : Nat) (ok : Bool) : Engine :=
  if phase = 1 then { e with upOk := ok, upFailed := !ok }
  else if phase = 2 then { e with startDone := ok, startFailed := !ok }
  else e

/-- The next waiting script started, if none runs. -/
def engineNext (s : State) (t : Nat) : State :=
  let e := s.engine t
  if e.running then s
  else
    match e.queue with
    | [] => s.setBit (scriptReg t) F.IMG_SCRIPT_BUSY false
    | (ph, ops) :: q =>
      (s.setEngine t { e with running := true, phase := ph, ops := ops, idx := 0, queue := q, inTransfer := false,
                              polling := false, pollFrom := none, waitUntil := none }).setBit
        (scriptReg t) F.IMG_SCRIPT_BUSY true

/-- A phase of a target's scripts falls due: they run in directory order; a phase without scripts has succeeded at once
(04 R135, 06 R205). -/
def scriptBegin (s : State) (t phase : Nat) : State :=
  match scriptsFor s t phase with
  | [] => s.setEngine t ((s.engine t).note phase true)
  | l => engineNext (s.setEngine t { s.engine t with queue := (s.engine t).queue ++ l.map (fun o => (phase, o)) }) t

/-- Whether a script of a phase runs on an engine or waits there for its turn. -/
def Engine.owes (e : Engine) (phase : Nat) : Bool :=
  (e.running && e.phase == phase) || e.queue.any (fun q => q.1 == phase)

/-- A script is over: RESULT, FAIL_OP, the event, SCRIPT_FAIL; the phase is over with its last script or its first
failure (02 R59, 04 R135, R158). -/
def scriptOver (s : State) (t : Nat) (ok : Bool) : State :=
  let e := s.engine t
  let q := if ok then e.queue else e.queue.filter (fun x => x.1 != e.phase)
  let last := !(q.any (fun x => x.1 == e.phase))
  let e' := { e with running := false, ops := [], queue := q, inTransfer := false, polling := false,
                     pollFrom := none, waitUntil := none }
  let s := s.setEngine t (if last then e'.note e.phase ok else e')
  let s := s.setFld (scriptReg t) F.IMG_SCRIPT_RESULT (if ok then 1 else 2)
  let s := s.cond (!ok) (fun s =>
    (s.setFld (scriptReg t) F.IMG_SCRIPT_FAIL_OP e.idx).flag (scriptFailFlag t).1 (scriptFailFlag t).2)
  engineNext (s.raise (scriptEvent t)) t

/-- The operation in progress is done: the next one follows. -/
def scriptAdvance (s : State) (t : Nat) : State :=
  let e := s.engine t
  s.setEngine t { e with ops := e.ops.drop 1, idx := e.idx + 1, inTransfer := false, polling := false,
                         pollFrom := none, waitUntil := none }

/-- The operation that an engine would start now, if it is of a kind. -/
def scriptReady (s : State) (t op : Nat) : Option ScriptOp :=
  let e := s.engine t
  if !e.running ∨ e.inTransfer ∨ e.polling ∨ e.waitUntil.isSome then none
  else
    match e.ops with
    | o :: _ => if o.op = op then some o else none
    | [] => none

/-- Whether an operation names a driver that the chain does not have (06 R204). -/
def scriptNoDevice (s : State) (t : Nat) (o : ScriptOp) : Bool :=
  decide (0x20 ≤ t) && decide (s.fld (R.LC_CFG (t - 0x20)) F.LC_CFG_N_IC + 1 ≤ o.dev)

/-- The address and data bytes of an operation (02, SCRIPT). -/
def ScriptOp.addrBytes (o : ScriptOp) : Nat := o.width % 16

/-- The data bytes of an operation. -/
def ScriptOp.dataBytes (o : ScriptOp) : Nat := o.width / 16 % 16

/-- Whether an operation reads. -/
def ScriptOp.reads (o : ScriptOp) : Bool := o.op != 1

/-- An address, most significant byte first; a read's first byte with READ_MASK (04 R134, 06 R204). -/
def ScriptOp.address (o : ScriptOp) (mask : Nat) : List Byte :=
  match bytesBE o.addrBytes o.addr with
  | b :: r => (if o.reads then b ||| BitVec.ofNat 8 mask else b) :: r
  | [] => []

/-- The bits of a byte string, most significant first. -/
def bitsOfBytes (bs : List Byte) : List Bool := bs.flatMap (fun b => (List.range 8).map (fun i => b.getMsbD i))

/-- Bits as a chain's LCn_SCK shifts them: the divider, at least 3 (06 R195). -/
def lampDiv (s : State) (n : Nat) : Nat := max 3 (s.fld (R.LC_CFG n) F.LC_CFG_DIV)

/-- How long a number of bits takes to shift on a chain, in ns rounded up (06 R195). -/
def shiftTime (s : State) (n bits : Nat) : Nat := (bits * (lampDiv s n + 1) * 1000 + 119) / 120

/-- The slots of a script frame, IC N-1 first: `slot` for the IC that DEV names, NOP_ADDR and zero data for every other
(06 R203). -/
def scriptSlots (s : State) (n : Nat) (o : ScriptOp) (slot : Option (List Byte)) : List Byte :=
  let k := s.fld (R.LC_CFG n) F.LC_CFG_N_IC + 1
  let nop := bytesBE o.addrBytes (s.fld (R.LC_SCRIPT_CFG n) F.LC_SCRIPT_CFG_NOP_ADDR) ++ List.replicate o.dataBytes 0
  (List.range k).flatMap (fun j => if k - 1 - j = o.dev then slot.getD nop else nop)

/-- A script frame and its latch, a number of frames from now (06 R203). -/
def scriptFrame (s : State) (n j : Nat) (bs : List Byte) : List Out :=
  [.lampFrame n (lampDiv s n) (bitsOfBytes bs),
    .pulse .lampLatch n (s.now + (j + 1) * shiftTime s n (8 * bs.length)) 100 false]

/-- I2C_SPEED of an interface setting: 0b11 is taken as 0b10 (07, TP_n_IF_CFG). -/
def i2cSpeed (w : Word) : Nat := min 2 (w.get F.TP_IF_CFG_I2C_SPEED)

/-- What an operation sends: one SPI transfer with ISn_CS_N low, one I²C-bus transfer, or one or two script frames
(04 R134, 06 R203, R204, 07 R224). -/
def transferOut (s : State) (t : Nat) (o : ScriptOp) : List Out :=
  let data := bytesBE o.dataBytes o.data
  let back := if o.reads then o.dataBytes else 0
  if t < 0x10 then
    let c := R.IMG_SPI_CFG t
    [.spi t (max 1 (s.fld c F.IMG_SPI_CFG_DIV)) (s.bit c F.IMG_SPI_CFG_CPOL) (s.bit c F.IMG_SPI_CFG_CPHA)
      (o.address (s.fld c F.IMG_SPI_CFG_READ_MASK) ++ data) back (100 * s.fld c F.IMG_SPI_CFG_CS_GAP)]
  else if t < 0x20 then
    let n := t - 0x10
    [.i2c n (i2cSpeed (tpTaken s n 0 (R.TP_IF_CFG n))) o.dev
      (bytesBE o.addrBytes o.addr ++ if o.reads then [] else data) back]
  else
    let n := t - 0x20
    let addr := o.address (s.fld (R.LC_SCRIPT_CFG n) F.LC_SCRIPT_CFG_READ_MASK)
    if o.reads then
      scriptFrame s n 0 (scriptSlots s n o (some (addr ++ List.replicate o.dataBytes 0))) ++
        scriptFrame s n 1 (scriptSlots s n o none)
    else scriptFrame s n 0 (scriptSlots s n o (some (addr ++ data)))

/-- The value that came back: the data bytes, most significant first; on a chain those at the data position of slot DEV in
the readback of the second frame (04 R134, 06 R204, 07 R224). -/
def valueRead (s : State) (t : Nat) (o : ScriptOp) (got : List Byte) : Word :=
  let k := s.fld (R.LC_CFG (t - 0x20)) F.LC_CFG_N_IC + 1
  let at_ := if t < 0x20 then 0 else (k - 1 - o.dev) * (o.addrBytes + o.dataBytes) + o.addrBytes
  BitVec.ofNat 32 (ofBytesBE (slice at_ o.dataBytes got))

/-- A transfer started, or the script failed for want of the device (04 R134, 06 R203, R204, 07 R224). -/
def scriptTransfer (s : State) (t : Nat) (o : ScriptOp) : State :=
  if scriptNoDevice s t o then scriptOver s t false
  else (transferOut s t o).foldl State.emit
    (s.setEngine t { s.engine t with inTransfer := true, polling := false, pollLast := s.now })

/-- A WRITE, CHECK or POLL operation begins. -/
def scriptStart (op t : Nat) (s : State) : State :=
  match scriptReady s t op with
  | none => s
  | some o =>
    let s := s.cond (op == 3) (fun s => s.setEngine t { s.engine t with pollFrom := some s.now })
    scriptTransfer s t o

/-- Whether a value read satisfies an operation (02 R58). -/
def ScriptOp.accepts (o : ScriptOp) (v : Word) : Bool :=
  ((v ^^^ BitVec.ofNat 32 o.data) &&& BitVec.ofNat 32 o.mask) == 0

/-- A transfer ends, acknowledged or not, with the bytes that came back (02 R58, 04 R134, 06 R204, 07 R224). -/
def scriptTransferDone (t : Nat) (got : List Byte) (ok : Bool) (s : State) : State :=
  let e := s.engine t
  if !e.inTransfer then s
  else
    match e.ops with
    | [] => s
    | o :: _ =>
      let s := s.setEngine t { e with inTransfer := false }
      if !ok then scriptOver s t false
      else if o.op = 1 then scriptAdvance s t
      else
        let v := valueRead s t o got
        let s := s.setReg (scriptReadReg t) v
        if o.accepts v then scriptAdvance s t
        else if o.op = 2 then scriptOver s t false
        else s.setEngine t { s.engine t with polling := true }

/-- The POLL interval of 100 us or, with `limit`, the POLL limit of 100 ms has passed (02 R58). -/
def scriptPollRetry (t : Nat) (limit : Bool) (s : State) : State :=
  let e := s.engine t
  match e.pollFrom, e.ops with
  | some p, o :: _ =>
    if limit then scriptOver (s.reach (p + 100000000)) t false
    else if e.polling then scriptTransfer (s.reach (e.pollLast + 100000)) t o
    else s
  | _, _ => s

/-- A WAIT operation begins (02 R58); it fails for want of the device (06 R204). -/
def scriptWait (t : Nat) (s : State) : State :=
  match scriptReady s t 4 with
  | some o =>
    if scriptNoDevice s t o then scriptOver s t false
    else s.setEngine t { s.engine t with waitUntil := some (s.now + 1000 * min 1000000 o.data) }
  | none => s

/-- A WAIT operation ends. -/
def scriptWaitEnd (t : Nat) (s : State) : State :=
  match (s.engine t).waitUntil with
  | some u => scriptAdvance (s.reach u) t
  | none => s

/-- The END operation (02 R58); it fails for want of the device (06 R204). -/
def scriptEndOp (t : Nat) (s : State) : State :=
  match scriptReady s t 0 with
  | some o => scriptOver s t (!scriptNoDevice s t o)
  | none => s

/-- RUN written: the INDEX-th phase 0x04 script, unless a script runs; an INDEX that names none sets RESULT to 0b11
(04 R136). -/
def scriptRun (t : Nat) (s : State) : State :=
  if (s.engine t).running then s
  else
    match (scriptsFor s t 4)[s.fld (scriptReg t) F.IMG_SCRIPT_INDEX]? with
    | some o => engineNext (s.setEngine t { s.engine t with queue := (s.engine t).queue ++ [(4, o)] }) t
    | none => s.setFld (scriptReg t) F.IMG_SCRIPT_RESULT 3

/-- Whether a port of READY_MASK has completed bring-up (02 R71): bits 0 to 9 imaging ports, 10 to 13 thermal ports. -/
def portReady (s : State) (i : Nat) : Bool :=
  if i < 10 then s.bit (R.IMG_STATUS i) F.IMG_STATUS_PORT_READY
  else s.bit (R.TP_STATUS (i - 10)) F.TP_STATUS_PORT_READY

/-- READY brought up to date (02 R71): high in RUN and MAINT while every port of READY_MASK has completed bring-up; its
first rise is timed in BOOT_READY_TIME. -/
def readyCheck (s : State) : State :=
  match s.boot.spore with
  | none => { s with boot := { s.boot with ready := false } }
  | some p =>
    let up := s.working && (List.range 14).all (fun i => p.readyMask / 2 ^ i % 2 == 0 || portReady s i)
    let first := up && s.boot.readyRose.isNone
    let s := { s with boot := { s.boot with ready := up,
                                            readyRose := if first then some s.now else s.boot.readyRose } }
    s.cond first (fun s => (s.setReg R.BOOT_READY_TIME (BitVec.ofNat 32 ((s.now - s.boot.startAt) / 1000))).setFld
      R.BOOT_STATUS F.BOOT_STATUS_STEP 10)

/-- The TARGET of a script engine that a command names: imaging port, thermal port or chain. -/
def targetCode : ScriptTarget → Nat
  | .img n => n
  | .tp n => 0x10 + n
  | .lamp n => 0x20 + n

end Sys2Proof.Machine
end

