-- ==== Sys2Proof/Machine/Correct.lean ====
section
/-!
DEFINITION. The correction of a colour line: shading, reference normalisation, defect columns (05 R160, R167 to R170),
and the arithmetic of colour registration (05 R172 to R174), as functions of numbers.
-/

namespace Sys2Proof.Machine

/-! ### Flag bits of LINE records (04 R156, 05 R176) -/

/-- A flag word with one bit. -/
def flagBit (b : Nat) : Nat := 2 ^ b

/-- Whether a flag word has a bit. -/
def hasFlag (w b : Nat) : Bool := w / 2 ^ b % 2 == 1

/-- The union of two flag words. -/
def orFlags (a b : Nat) : Nat := a ||| b

/-- A flag word with a bit set on a condition. -/
def setFlag (w b : Nat) (c : Bool) : Nat := if c then w ||| 2 ^ b else w

/-- COLOURS of a port (04, IMG_n_FRAME_CFG). -/
def imgColours (s : State) (n : Nat) : Nat := if s.bit (R.IMG_FRAME_CFG n) F.IMG_FRAME_CFG_TRILINEAR then 3 else 1

/-- PIXELS of a port. -/
def imgPixels (s : State) (n : Nat) : Nat := s.fld (R.IMG_GEOM n) F.IMG_GEOM_PIXELS

/-! ### Defect lists (05 R161, R170) -/

/-- The rule that governs a column in a colour: that of the valid entry of lowest index. -/
def defectRule (defs : List Word) (c col : Nat) : Option Nat :=
  match defs.find? (fun w => w.getLsbD 31 && w.get F.IMG_DEFECT_COLUMN == col &&
      w.get F.IMG_DEFECT_COLOUR_MASK / 2 ^ c % 2 == 1) with
  | some w => some (w.get F.IMG_DEFECT_RULE)
  | none => none

/-- Whether a column is marked defective in a colour. -/
def isDefect (defs : List Word) (c col : Nat) : Bool := (defectRule defs c col).isSome

/-! ### Stage 1: shading (05 R160) -/

/-- One pixel: the value, whether it was clipped low, whether it saturated. -/
def shadePixel (shift raw : Nat) (dark : Int) (gain : Nat) : Nat × Bool × Bool :=
  let d := (raw : Int) - dark
  let low := decide (d < 0)
  let y := (max 0 d).toNat * gain / 2 ^ shift
  if 65535 < y then (65535, low, true) else (y, low, false)

/-- A colour line shaded, with its flag bits SATURATED and CLIPPED_LOW. -/
def shadeLine (shift : Nat) (raw : List Nat) (ents : List (Int × Nat)) : List Nat × Nat :=
  let r := List.zipWith (fun v e => shadePixel shift v e.1 e.2) raw ents
  (r.map (·.1), setFlag (setFlag 0 19 (r.any (·.2.1))) 7 (r.any (·.2.2)))

/-! ### Stage 2: reference-column normalisation (05 R167 to R169) -/

/-- The reference mean of a colour line; `none` where no column remains (05 R167). -/
def refMean (pix : List Nat) (defs : List Word) (c first count : Nat) : Option Nat :=
  let cnt := min 256 (max 1 count)
  let cols := ((List.range cnt).map (first + ·)).filter (fun j => decide (j < pix.length) && !isDefect defs c j)
  if cols.isEmpty then none else some ((cols.map (fun j => pix.getD j 0)).sum / cols.length)

/-- The factor of a filtered reference, with whether it was clamped (05 R168). -/
def normFactor (target : Nat) (r : Int) (lo hi : Nat) : Nat × Bool :=
  let f := (target * 2 ^ 20 : Int).fdiv r
  let g := clampInt lo hi f
  (g.toNat, g != f)

/-- Every pixel times the factor, with SATURATED (05 R169). -/
def applyFactor (pix : List Nat) (f : Nat) : List Nat × Nat :=
  let ys := pix.map (fun y => y * f / 2 ^ 16)
  (ys.map (min 65535), setFlag 0 7 (ys.any (fun y => decide (65535 < y))))

/-! ### Stage 3: defect columns (05 R170) -/

/-- The nearest good column to the left of a column. -/
def leftGood (defs : List Word) (c : Nat) : Nat → Option Nat
  | 0 => none
  | k + 1 => if isDefect defs c k then leftGood defs c k else some k

/-- The nearest good column from a column on, within a count of columns. -/
def rightGood (defs : List Word) (c : Nat) : Nat → Nat → Option Nat
  | _, 0 => none
  | k, n + 1 => if isDefect defs c k then rightGood defs c (k + 1) n else some k

/-- The replacement of a column under a rule, from the values before any replacement. -/
def defectValue (pix : List Nat) (defs : List Word) (c rule col : Nat) : Nat :=
  let l := (leftGood defs c col).map (fun j => pix.getD j 0)
  let r := (rightGood defs c (col + 1) (pix.length - (col + 1))).map (fun j => pix.getD j 0)
  if rule = 3 then 0
  else
    match l, r with
    | none, none => 0
    | some a, none => a
    | none, some b => b
    | some a, some b => if rule = 0 then a else if rule = 1 then b else (a + b + 1) / 2

/-- Every defective column of a colour line replaced. -/
def fixDefects (pix : List Nat) (defs : List Word) (c : Nat) : List Nat :=
  if defs.all (fun w => !w.getLsbD 31) then pix
  else (List.range pix.length).map (fun j =>
    match defectRule defs c j with
    | some rule => defectValue pix defs c rule j
    | none => pix.getD j 0)

/-! ### Stages 1 to 3 of one colour line -/

/-- One colour line of a fired line corrected: the pixels and the flags of that colour; the filter and the factor of the
slot follow (05 R159 to R170). -/
def correctLine (s : State) (n : Nat) (ln : Line) (c : Nat) (raw : List Nat) : List Nat × Nat × State :=
  let st := s.imgSt n
  let sh := ln.shade
  let px := imgPixels s n
  let shift := min 20 (max 12 (ln.corCfg.get F.IMG_COR_CFG_SHIFT))
  let (y, fl) := shadeLine shift raw ((sh.ents.drop (c * px)).take px)
  let fixed := fun (y : List Nat) => if ln.corCfg.get F.IMG_COR_CFG_DEFECT_EN = 1 then fixDefects y sh.defs c else y
  if ln.corCfg.get F.IMG_COR_CFG_NORM_EN = 0 then (fixed y, fl, s)
  else
    let m := refMean y sh.defs c (ln.refCols.get F.IMG_REF_COLS_REF_FIRST) (ln.refCols.get F.IMG_REF_COLS_REF_COUNT)
    let fail := match m with
      | none => true
      | some v => v == 0 || decide (v < ln.refLevel.get F.IMG_REF_LEVEL_REF_MIN)
    let fl := setFlag fl 16 fail
    let frozen := fail || hasFlag ln.flags 12
    let fa := R.IMG_NORM_FACTOR n c
    if frozen then
      let (z, fs) := applyFactor y (s.fld fa F.IMG_NORM_FACTOR_FACTOR)
      (fixed z, orFlags (setFlag fl 17 true) fs, s)
    else
      let mean : Int := 16 * (m.getD 0 : Nat)
      let r := match st.filt.getD c none with
        | none => mean
        | some r => r + (mean - r).fdiv (2 ^ ln.corCfg.get F.IMG_COR_CFG_NORM_FILT)
      let (f, clamped) := normFactor (ln.refLevel.get F.IMG_REF_LEVEL_TARGET) r
        (16 * ln.normLimits.get F.IMG_NORM_LIMITS_NORM_MIN) (16 * ln.normLimits.get F.IMG_NORM_LIMITS_NORM_MAX)
      let s := (s.setImg n { st with filt := st.filt.set c (some r) }).setFld fa F.IMG_NORM_FACTOR_FACTOR f
      let (z, fs) := applyFactor y f
      (fixed z, orFlags (setFlag fl 18 clamped) fs, s)

/-! ### Registration arithmetic (05 R171 to R174) -/

/-- The cubic weights at a phase, for taps i-1 to i+2 (05 R173). -/
def cubicWeights (p : Nat) : List Int :=
  let q : Int := p
  let a := divRound (-(q * q * q) + 128 * (q * q) - 4096 * q) 128
  let b := divRound (-3 * (q * q * q) + 256 * (q * q) + 4096 * q) 128
  let c := divRound (q * q * q - 64 * (q * q)) 128
  [a, 4096 - a - b - c, b, c]

/-- The line index and the phase of a colour for an output target (05 R172). -/
def tapIndex (k ofs : Int) : Int × Nat :=
  let u := 256 * k - ofs
  let i := u.fdiv 256
  let p := ((u - 256 * i).toNat * 64 + 128) / 256
  if p = 64 then (i + 1, 0) else (i, p)

/-- The required taps with their weights: kernel 1 linear, 2 cubic; a weight of 0 is not required (05 R173). -/
def requiredTaps (kernel : Nat) (i : Int) (p : Nat) : List (Int × Int) :=
  let l := if kernel = 1 then [(i, 64 - (p : Int)), (i + 1, (p : Int))]
    else List.zip [i - 1, i, i + 1, i + 2] (cubicWeights p)
  l.filter (fun t => t.2 != 0)

/-- The weighted sum of lines, pixel by pixel. -/
def weightedSum : List (List Nat × Int) → List Int
  | [] => []
  | [(l, w)] => l.map (fun v => w * (v : Int))
  | (l, w) :: r => List.zipWith (fun v a => w * (v : Int) + a) l (weightedSum r)

/-- The kernel's output with SATURATED and CLIPPED_LOW (05 R173). -/
def kernelOut (kernel : Nat) (ls : List (List Nat × Int)) : List Nat × Nat :=
  let r : Int := if kernel = 1 then 32 else 2048
  let d : Int := if kernel = 1 then 64 else 4096
  let v := (weightedSum ls).map (fun x => (x + r).fdiv d)
  (v.map (fun x => (clampInt 0 65535 x).toNat),
   setFlag (setFlag 0 7 (v.any (fun x => decide (65535 < x)))) 19 (v.any (fun x => decide (x < 0))))

/-- A bridged line between the filled lines at a and b (05 R174). -/
def bridgeOut (la lb : List Nat) (a b i : Int) (p : Nat) : List Nat :=
  let num := ((i - a) * 64 + p).toNat
  let den := ((b - a) * 64).toNat
  if den = 0 then la else List.zipWith (fun x y => (x * (den - num) + y * num + den / 2) / den) la lb

end Sys2Proof.Machine
end

