-- ==== Sys2Proof/Machine/Queue.lean ====
section
/-!
DEFINITION. The fronds' event lines and stream queues as the other blocks see them (11 R368 to R373), the DMA channels'
triggers as their sources see them (14 R438), and the 64-byte record header (15 R474).
-/

namespace Sys2Proof.Machine

/-- The device's ID (01, SYS_ID). -/
def State.devid (s : State) : Nat := s.fld R.SYS_ID F.SYS_ID_DEVID

/-- A record's 64-byte header (15 R474), with the fields that the intake gives. -/
def headerOf (r : Rec) (dev run seq flags chunk idx : Nat) : List Byte :=
  bytesLE 2 r.typ ++ bytesLE 1 r.src ++ bytesLE 1 dev ++ bytesLE 4 r.payload.length ++ bytesLE 2 run ++
    bytesLE 6 seq ++ bytesLE 8 (ofSigned 64 r.pos) ++ bytesLE 8 r.time ++ bytesLE 4 flags ++ bytesLE 4 r.speed ++
    bytesLE 4 chunk ++ bytesLE 2 idx ++ bytesLE 2 r.missed ++ padTo 16 r.tail

/-- The header as its producer leaves it: the intake's fields are not written yet. -/
def producerHeader (s : State) (r : Rec) : List Byte := headerOf r s.devid 0 0 r.flags 0 0

/-! ### Event lines -/

/-- A frond's event line set pending (11 R368). -/
def State.setLine (s : State) (f l : Nat) : State :=
  if l < 32 then s.setBit (R.FRD_EVT_PEND_LO f) ⟨l, 1⟩ true else s.setBit (R.FRD_EVT_PEND_HI f) ⟨l - 32, 1⟩ true

/-- A frond's event line cleared. -/
def State.clearLine (s : State) (f l : Nat) : State :=
  if l < 32 then s.setBit (R.FRD_EVT_PEND_LO f) ⟨l, 1⟩ false else s.setBit (R.FRD_EVT_PEND_HI f) ⟨l - 32, 1⟩ false

/-- Whether a frond's event line is pending. -/
def State.lineUp (s : State) (f l : Nat) : Bool :=
  if l < 32 then s.bit (R.FRD_EVT_PEND_LO f) ⟨l, 1⟩ else s.bit (R.FRD_EVT_PEND_HI f) ⟨l - 32, 1⟩

/-! ### DMA channels -/

/-- A channel. -/
def State.chan (s : State) (n : Nat) : Chan := Sparse.get (fun _ => {}) s.chans n

/-- A channel replaced. -/
def State.setChan (s : State) (n : Nat) (c : Chan) : State :=
  { s with chans := Sparse.put (fun _ => some {}) s.chans n c }

/-- STATE of a channel (14 R436): 0 OFF, 1 IDLE, 2 WAITING, 3 RUNNING, 4 HALTED. -/
def chanState (s : State) (n : Nat) : Nat := s.fld (R.CH_STATUS n) F.CH_STATUS_STATE

/-- Whether a channel in WAITING or RUNNING holds a descriptor that names a source, or awaits one that may (14 R439). -/
def chanHears (s : State) (kind index n : Nat) : Bool :=
  let c := s.chan n
  (chanState s n == 2 || chanState s n == 3) && (c.source == some (kind, index) || c.nxt matches .fetching _)

/-- A trigger at its source, on its way to the channels that it concerns (14 R438, R445 step 1): kind 1 a timer's event,
2 a descriptor ending DONE, 3 a frond's software event (log entry 58). -/
def dmaSend (kind index : Nat) (s : State) : State :=
  { s with dma := { s.dma with sent := s.dma.sent ++
      ((List.range 64).filter (chanHears s kind index)).map (fun n => (n, kind, index)) } }

/-! ### Queues -/

/-- The entries of queue k of frond f, oldest first. -/
def State.queue (s : State) (f k : Nat) : List QEntry := Sparse.get (fun _ => []) s.queues (8 * f + k)

/-- The entries of a queue replaced, with COUNT; for an input queue that becomes non-empty and an output queue that
ceases to be full, line 56 + k becomes pending (11 R373). -/
def State.setQueueEntries (s : State) (f k : Nat) (l : List QEntry) : State :=
  let old := (s.queue f k).length
  let s := { s with queues := Sparse.put (fun _ => some []) s.queues (8 * f + k) l }
  let s := s.setFld (R.FRD_Q_STATUS f k) F.FRD_Q_STATUS_COUNT l.length
  let out := s.bit (R.FRD_Q_CFG f k) F.FRD_Q_CFG_DIR
  s.cond (if out then decide (old = 16 ∧ l.length < 16) else decide (old = 0 ∧ 0 < l.length)) (fun s =>
    s.setLine f (56 + k))

/-- KIND, DIR and PEER of a queue. -/
def queueKind (s : State) (f k : Nat) : Nat := s.fld (R.FRD_Q_CFG f k) F.FRD_Q_CFG_KIND

/-- PEER of a queue. -/
def queuePeer (s : State) (f k : Nat) : Nat := s.fld (R.FRD_Q_CFG f k) F.FRD_Q_CFG_PEER

/-- PEER_Q of a queue. -/
def queuePeerQ (s : State) (f k : Nat) : Nat := s.fld (R.FRD_Q_CFG f k) F.FRD_Q_CFG_PEER_Q

/-- Whether a queue is an output queue. -/
def queueOut (s : State) (f k : Nat) : Bool := s.bit (R.FRD_Q_CFG f k) F.FRD_Q_CFG_DIR

/-- Whether a queue is bound: KIND is one of R371, its direction and its peer fit it (11 R371). -/
def queueBound (s : State) (f k : Nat) : Bool :=
  let kd := queueKind s f k
  let p := queuePeer s f k
  let out := queueOut s f k
  if kd = 1 then
    let q := queuePeerQ s f k
    queueKind s p q == 1 && queuePeer s p q == f && queuePeerQ s p q == k && (queueOut s p q != out)
  else if kd = 2 then true
  else if kd = 3 then !out && (decide (p ≤ 9) || decide (0x10 ≤ p ∧ p ≤ 0x13))
  else if kd = 4 then !out && decide (p < 16)
  else if kd = 5 then out && decide (p < 16)
  else false

/-- UNBOUND of every queue of a frond brought up to date (11 R371). -/
def refreshBound (s : State) (f : Nat) : State :=
  (List.range 8).foldl (fun s k =>
    let kd := queueKind s f k
    s.setBit (R.FRD_Q_STATUS f k) F.FRD_Q_STATUS_UNBOUND (decide (1 ≤ kd ∧ kd ≤ 5) && !queueBound s f k)) s

/-- Every (frond, queue) pair. -/
def allQueues : List (Nat × Nat) := (List.range 64).flatMap (fun f => (List.range 8).map (fun k => (f, k)))

/-- The queue bound to a stream's stage input (KIND 4) or output (KIND 5). -/
def stageQueue (s : State) (kind stream : Nat) : Option (Nat × Nat) :=
  allQueues.find? (fun q => queueKind s q.1 q.2 == kind && queuePeer s q.1 q.2 == stream && queueBound s q.1 q.2)

/-- Whether a stream is staged (11 R375). -/
def isStaged (s : State) (stream : Nat) : Bool := (stageQueue s 4 stream).isSome && (stageQueue s 5 stream).isSome

/-- Entries moved from an output queue to the queue that its peer frond reads, as far as there is room (11 R371). -/
def queueFlow (s : State) (f k : Nat) : State :=
  if queueKind s f k = 1 ∧ queueOut s f k ∧ queueBound s f k then
    let p := queuePeer s f k
    let q := queuePeerQ s f k
    let room := 16 - (s.queue p q).length
    let src := s.queue f k
    if room = 0 ∨ src = [] then s
    else (s.setQueueEntries p q (s.queue p q ++ src.take room)).setQueueEntries f k (src.drop room)
  else s

/-- An entry added to a queue. -/
def queueAdd (s : State) (f k : Nat) (e : QEntry) : State :=
  queueFlow (s.setQueueEntries f k (s.queue f k ++ [padTo 64 e])) f k

/-- The oldest entry of a queue removed; a frond-to-frond queue that now has room takes from its peer. -/
def queueDrop (s : State) (f k : Nat) : State :=
  let s := s.setQueueEntries f k ((s.queue f k).drop 1)
  if queueKind s f k = 1 then queueFlow s (queuePeer s f k) (queuePeerQ s f k) else s

/-- A header copied to one port tap, or dropped and counted where the queue is full (11 R371, R373). -/
def tapTo (src : Nat) (h : List Byte) (s : State) (q : Nat × Nat) : State :=
  if queueKind s q.1 q.2 = 3 ∧ queuePeer s q.1 q.2 = src ∧ queueBound s q.1 q.2 then
    if (s.queue q.1 q.2).length < 16 then queueAdd s q.1 q.2 h
    else s.satInc (R.FRD_Q_STATUS q.1 q.2) F.FRD_Q_STATUS_DROPS
  else s

/-- A record emitted by a port: copied to the taps, and on its way to the intake (11 R373, 01 R23). -/
def State.portEmit (s : State) (r : Rec) : State :=
  allQueues.foldl (tapTo r.src (producerHeader s r)) (s.pushRec r)

/-- The bytes that a port's records occupy in its FIFO (01 R23). -/
def fifoBytes (s : State) (src : Nat) : Nat := ((s.queueOf src).map (fun r => 64 + r.payload.length)).sum

/-- Whether a record with a payload length finds room in a port FIFO of 256 KiB (01 R23). -/
def fifoRoom (s : State) (src len : Nat) : Bool := decide (fifoBytes s src + 64 + len ≤ 262144)

end Sys2Proof.Machine
end

