-- ==== Sys2Proof/Machine/Swath.lean ====
section
/-!
DEFINITION. Swaths of an imaging port: the consumed targets, the decision of outputs by colour registration, the LINE,
GAP and SWATH records (05 R171 to R186; 04 R154 to R157).
-/

namespace Sys2Proof.Machine

/-- The position of target k: ORIGIN + k × PITCH in force (04 R137). -/
def imgTarget (s : State) (n : Nat) (k : Int) : Int :=
  s.sinForce64 (R.IMG_ORIGIN_LO n) + k * (max 256 (min (2 ^ 40) (s.inForce64 (R.IMG_PITCH_LO n))) : Nat)

/-- The offset of a colour slot, 0 for the reference slot (05 R171). -/
def colourOfs (s : State) (n : Nat) (ref c : Nat) : Int :=
  if c = ref then 0
  else if c = 0 then s.sfld (R.IMG_COLOUR_OFS_A n) F.IMG_COLOUR_OFS_A_OFS_0
  else if c = 1 then s.sfld (R.IMG_COLOUR_OFS_A n) F.IMG_COLOUR_OFS_A_OFS_1
  else s.sfld (R.IMG_COLOUR_OFS_B n) F.IMG_COLOUR_OFS_B_OFS_2

/-- The reference slot of a setting: 0b11 is taken as 2, and 0 on a monochrome port (05 R171). -/
def refSlot (s : State) (n : Nat) (cfg : Word) : Nat :=
  if imgColours s n = 1 then 0 else min 2 (cfg.get F.IMG_COR_CFG_REF_SLOT)

/-- The kernel of a setting: none on a monochrome port, 0b11 is taken as cubic (05 R159, IMG_n_COR_CFG). -/
def kernelOf (s : State) (n : Nat) (cfg : Word) : Nat :=
  if imgColours s n = 1 then 0 else min 2 (cfg.get F.IMG_COR_CFG_KERNEL)

/-- The bridge limit of a setting, 2 to 8 (05, IMG_n_COR_CFG). -/
def bridgeMax (cfg : Word) : Nat := min 8 (max 2 (cfg.get F.IMG_COR_CFG_GAP_BRIDGE))

/-- Whether the delay buffers hold what registration under a setting needs (05 R177). -/
def bufferFits (s : State) (n : Nat) (cfg : Word) : Bool :=
  let cs := imgColours s n
  let os := (List.range cs).map (colourOfs s n (refSlot s n cfg))
  let hi := os.foldl max (os.headD 0)
  let lo := os.foldl min (os.headD 0)
  let span := ((hi - lo + 255) / 256).toNat
  let t := if kernelOf s n cfg = 1 then 2 else 4
  decide (cs * (span + t + bridgeMax cfg) * imgPixels s n * 2 ≤ 4194304 ∧ hi - lo ≤ 15360)

/-! ### The state of a target as a tap (05 R174) -/

/-- What is known of a line index of a swath: not yet, missing, or filled. -/
inductive TapView where
  | unknown
  | missing
  | filled (t : Tap)
  deriving DecidableEq, Repr

/-- Whether a swath has ended with every fired line filled or lost (05 R180). -/
def Swath.closing (w : Swath) : Bool := w.ended.isSome && w.taps.all (fun t => t.status != .waits)

/-- The view of line index k (05 R174, R177: a line fired with KERNEL 0b00 is not held). -/
def tapView (s : State) (n : Nat) (w : Swath) (k : Int) : TapView :=
  match w.taps.find? (fun t => t.k == k) with
  | some t =>
    if kernelOf s n t.cfg = 0 then .missing
    else
      match t.status with
      | .waits => .unknown
      | .filled => .filled t
      | .lost _ => .missing
  | none =>
    let x := imgTarget s n k
    if !w.any then .unknown
    else if w.closing then .missing
    else if w.back then (if x < w.lastX then .unknown else .missing)
    else if w.lastX < x then .unknown else .missing

/-- The nearest filled line from an index in one direction, at most `n` indices away: `none` while one on the way is
unknown, `some none` where there is none. -/
def nearFilled (s : State) (p : Nat) (w : Swath) (d : Int) : Int → Nat → Option (Option Tap)
  | _, 0 => some none
  | k, m + 1 =>
    match tapView s p w k with
    | .unknown => none
    | .filled t => some (some t)
    | .missing => nearFilled s p w d (k + d) m

/-- What one colour contributes to an output: pixels, flag bits, whether it is bridged. -/
structure ColourOut where
  pix : List Nat
  fl : Nat
  bridged : Bool
  deriving DecidableEq, Repr

/-- The flag bits that a contributing line adds to an output: ILLUM_FAULT and POS_SUSPECT of the line, the correction
bits of the colour (05 R176). -/
def contribution (t : Tap) (c : Nat) : Nat :=
  let f := (t.line.map (·.flags)).getD 0
  setFlag (setFlag (t.cfl.getD c 0) 12 (hasFlag f 12)) 13 (hasFlag f 13)

/-- One colour of an output: `none` until it is decided, `some none` where no bridge exists (05 R172 to R175). A bridge is
looked for only where a required tap is missing. -/
def colourOut (s : State) (n : Nat) (w : Swath) (t : Tap) (c : Nat) : Option (Option ColourOut) :=
  let kern := kernelOf s n t.cfg
  let (i, p) := tapIndex t.k (colourOfs s n (refSlot s n t.cfg) c)
  let req := requiredTaps kern i p
  let views := req.map (fun r => (tapView s n w r.1, r.2))
  if views.any (fun v => v.1 == .unknown) then none
  else
    let good := views.filterMap (fun v => match v.1 with
      | .filled u => some (u, v.2)
      | _ => none)
    if good.length = req.length then
      let (pix, fl) := kernelOut kern (good.map (fun g => (g.1.pix.getD c [], g.2)))
      some (some ⟨pix, (good.map (fun g => contribution g.1 c)).foldl orFlags fl, false⟩)
    else
      let g := bridgeMax t.cfg
      let b0 := if p = 0 then i else i + 1
      match nearFilled s n w (-1) i (g + 1) with
      | none => none
      | some none => some none
      | some (some a) =>
        match nearFilled s n w 1 b0 ((a.k + g - b0 + 1).toNat) with
        | none => none
        | some none => some none
        | some (some b) =>
          some (some ⟨bridgeOut (a.pix.getD c []) (b.pix.getD c []) a.k b.k i p,
            orFlags (contribution a c) (contribution b c), true⟩)

/-- The decided output of a filled target: `none` until it is decided, `some none` where it is withheld; otherwise the
pixels per colour, the flag bits of all contributions, whether a colour was bridged (05 R174 to R176). -/
def outputOf (s : State) (n : Nat) (w : Swath) (t : Tap) : Option (Option (List (List Nat) × Nat × Bool)) :=
  if kernelOf s n t.cfg = 0 then
    some (some (t.pix, ((List.range t.pix.length).map (contribution t)).foldl orFlags 0, false))
  else
    let cs := (List.range (imgColours s n)).map (colourOut s n w t)
    if cs.any (·.isNone) then none
    else
      let ds := cs.filterMap id
      if ds.any (·.isNone) then some none
      else
        let es := ds.filterMap id
        some (some (es.map (·.pix), (es.map (·.fl)).foldl orFlags 0, es.any (·.bridged)))

/-! ### Records -/

/-- An open gap emitted as a GAP record (05 R185). -/
def emitGap (s : State) (n : Nat) (w : Swath) : State :=
  match w.gap with
  | none => s
  | some g => s.portEmit { typ := 0x10, src := n, pos := g.x, time := g.time, flags := if w.back then 32 else 0,
                           tail := bytesLE 8 (ofSigned 64 g.last) ++ bytesLE 4 g.count ++ bytesLE 1 g.reason ++ [0] ++
                             bytesLE 2 w.id }

/-- The oldest swath of a port replaced. -/
def setFrontSwath (s : State) (n : Nat) (w : Swath) : State :=
  let st := s.imgSt n
  s.setImg n { st with swaths := w :: st.swaths.drop 1 }

/-- A decided target accounted with a reason, in the open gap or in a new one (05 R183). -/
def accountTap (s : State) (n : Nat) (w : Swath) (t : Tap) (reason : Nat) : State × Swath :=
  match w.gap with
  | some g =>
    if g.reason = reason then (s, { w with gap := some { g with last := t.x, count := g.count + 1 } })
    else (emitGap s n w, { w with gap := some ⟨reason, t.x, t.time, t.x, 1⟩ })
  | none => (s, { w with gap := some ⟨reason, t.x, t.time, t.x, 1⟩ })

/-- The target decided next passes behind the decision point; targets too far behind it to feed an output are let go. -/
def Swath.pass (w : Swath) : Swath :=
  if 80 < w.decided + 1 then { w with taps := w.taps.drop 1 } else { w with decided := w.decided + 1 }

/-- Targets decided in order as long as they leave no LINE record: removed targets and withheld outputs are accounted
(05 R174, R175, R183). -/
def decideOn (n : Nat) : Nat → State → State
  | 0, s => s
  | m + 1, s =>
    match (s.imgSt n).swaths with
    | [] => s
    | w :: _ =>
      match w.taps[w.decided]? with
      | none => s
      | some t =>
        match t.status with
        | .waits => s
        | .lost r =>
          let (s, w) := accountTap s n w t r
          decideOn n m (setFrontSwath s n w.pass)
        | .filled =>
          match outputOf s n w t with
          | some none =>
            let (s, w) := accountTap (s.satInc (R.IMG_WITHHELD n) F.IMG_WITHHELD_WITHHELD) n w t 3
            decideOn n m (setFrontSwath s n w.pass)
          | _ => s

/-- The decisions that are possible now. -/
def decide_ (s : State) (n : Nat) : State := decideOn n (((s.imgSt n).swaths.map (·.taps.length)).sum) s

/-- A LINE record of a decided output handed to the FIFO, or dropped whole where the FIFO is full (04 R154 to R157, 05
R171, R176, R181; 01 R23). -/
def emitLine (s : State) (n : Nat) (w : Swath) (t : Tap) (ln : Line) (pix : List (List Nat)) (fl : Nat)
    (bridged : Bool) : State :=
  let len := 2 * (pix.map (·.length)).sum
  if !fifoRoom s n len then
    let s := s.flagEvent (R.IMG_STATUS n) F.IMG_STATUS_FIFO_OVF (Ev.img n 5)
    let (s, w) := accountTap s n w t 6
    setFrontSwath s n w.pass
  else
    let s := emitGap s n w
    let st := s.imgSt n
    let changed := st.setMarks.any (fun m => decide (m ≤ ln.serial))
    let s := s.setImg n { st with setMarks := st.setMarks.filter (fun m => decide (ln.serial < m)) }
    let f := setFlag (setFlag (setFlag (orFlags ln.flags fl) 11 bridged) 14 (w.lines == 0)) 6 changed
    let s := s.cond bridged (fun s => s.satInc (R.IMG_INTERP n) F.IMG_INTERP_INTERP)
    let s := s.cond (hasFlag f 16) (fun s =>
      let s := (s.flag (R.IMG_COR_STATUS n) F.IMG_COR_STATUS_REF_LOW).satInc (R.IMG_COR_COUNT n)
        F.IMG_COR_COUNT_REF_LOW_LINES
      if (s.imgSt n).refLow then s else (s.setImg n { s.imgSt n with refLow := true }).raise (Ev.img n 4))
    let s := s.cond (hasFlag f 7) (fun s =>
      (s.flag (R.IMG_COR_STATUS n) F.IMG_COR_STATUS_SATURATED).satInc (R.IMG_COR_COUNT n) F.IMG_COR_COUNT_SAT_LINES)
    let tail := bytesLE 4 (ln.place.getD 0) ++ bytesLE 2 ln.seq ++ bytesLE 1 (imgColours s n) ++ bytesLE 1 ln.set ++
      bytesLE 4 ln.exposure ++ bytesLE 2 (imgPixels s n) ++ bytesLE 2 w.id
    let s := s.portEmit { typ := 1, src := n, pos := t.x, time := ln.time, flags := f, speed := ln.speed,
                          missed := ln.missed, tail := tail, payload := pix.flatten.flatMap (bytesLE 2) }
    setFrontSwath s n ({ w with gap := none, lines := w.lines + 1 }).pass

/-- The oldest decided output's LINE record completes, if there is one; then the decisions go on (05 R178). -/
def lineComplete (n : Nat) (s : State) : State :=
  let s := decide_ s n
  match (s.imgSt n).swaths with
  | [] => s
  | w :: _ =>
    match w.taps[w.decided]? with
    | none => s
    | some t =>
      match t.status, t.line with
      | .filled, some ln =>
        if ln.place.isNone then s
        else
          match outputOf s n w t with
          | some (some (pix, fl, br)) => decide_ (emitLine s n w t ln pix fl br) n
          | _ => s
      | _, _ => s

/-- LINE records completed as long as there are decided outputs. -/
def linesComplete (n : Nat) : Nat → State → State
  | 0, s => s
  | m + 1, s => linesComplete n m (lineComplete n s)

/-! ### Swaths -/

/-- A swath begun in a direction (05 R179). -/
def beginSwath (s : State) (n : Nat) (back : Bool) : State :=
  let st := s.imgSt n
  let s := s.setImg n { st with swaths := st.swaths ++ [{ back := back }] }
  (s.setBit (R.IMG_COR_STATUS n) F.IMG_COR_STATUS_SWATH_DIR back).setBit (R.IMG_COR_STATUS n)
    F.IMG_COR_STATUS_IN_SWATH false

/-- The present swath ended, with END_REASON and turning point; one that consumed no target vanishes (05 R179, R181,
R186). -/
def endSwath (s : State) (n : Nat) (reason : Nat) (point : Int) : State :=
  let st := s.imgSt n
  match st.swaths.getLast? with
  | none => s
  | some w =>
    if w.ended.isSome then s
    else if !w.any then s.setImg n { st with swaths := st.swaths.dropLast }
    else
      let p := if reason = 3 then w.lastX else point
      decide_ (s.setImg n { st with swaths := st.swaths.dropLast ++ [{ w with ended := some (reason, p, s.now) }] }) n

/-- A target consumed in the present swath (05 R181, R182, R192). -/
def consume (s : State) (n : Nat) (k : Int) (status : TapEnd) (ln : Option Line) : State :=
  let st := s.imgSt n
  let x := imgTarget s n k
  let t : Tap := { k := k, x := x, time := s.now, cfg := s.inForce (R.IMG_COR_CFG n), status := status, line := ln }
  match st.swaths.getLast? with
  | none => s
  | some w =>
    let w' := if w.any then w else { w with any := true, first := x, id := st.nextSwath }
    let s := s.setImg n { st with
      swaths := st.swaths.dropLast ++ [{ w' with taps := w'.taps ++ [t], lastX := x }],
      nextSwath := if w.any then st.nextSwath else (st.nextSwath + 1) % 65536 }
    (s.setFld (R.IMG_COR_STATUS n) F.IMG_COR_STATUS_SWATH_ID w'.id).setBit (R.IMG_COR_STATUS n)
      F.IMG_COR_STATUS_IN_SWATH true

/-- A fired line's tap changed, wherever its swath is. -/
def mapTap (s : State) (n serial : Nat) (f : Tap → Tap) : State :=
  let st := s.imgSt n
  s.setImg n { st with swaths := st.swaths.map (fun w =>
    { w with taps := w.taps.map (fun t => if t.line.map (·.serial) = some serial then f t else t) }) }

/-- The tap of a fired line. -/
def tapOf (s : State) (n serial : Nat) : Option Tap :=
  ((s.imgSt n).swaths.flatMap (·.taps)).find? (fun t => t.line.map (·.serial) == some serial)

/-- The end of the oldest ended swath, once every line fired in it is filled or lost: the pending outputs, the closing
GAP, the SWATH record and the SWATH event (05 R180, R186). -/
def swathEnd (n : Nat) (s : State) : State :=
  let s := decide_ s n
  match (s.imgSt n).swaths with
  | [] => s
  | w :: _ =>
    match w.ended with
    | none => s
    | some (reason, p, t) =>
      if !w.closing then s
      else
        let s := linesComplete n (w.taps.length + 1) s
        match (s.imgSt n).swaths with
        | [] => s
        | w :: r =>
          if w.decided < w.taps.length then s
          else
            let s := emitGap s n w
            let s := s.portEmit { typ := 0x11, src := n, pos := p, time := t,
                                  tail := bytesLE 8 (ofSigned 64 w.first) ++ bytesLE 2 w.id ++ bytesLE 1 reason ++
                                    bytesLE 1 (if w.back then 1 else 0) ++ bytesLE 4 w.lines }
            decide_ ((s.setImg n { s.imgSt n with swaths := r }).raise (Ev.img n 3)) n

end Sys2Proof.Machine
end

