-- ==== Sys2Proof/Machine/Capture.lean ====
section
/-!
DEFINITION. The imaging ports: lanes and packets, outstanding lines, the trigger generator, the capture and correction
commits, shading loads, the hold (04_line_capture.md; 05 R161 to R166, R177, R187 to R193).
-/

namespace Sys2Proof.Machine

/-- The capture shadow set (04, IMG_n_CTRL: offsets 0x040 to 0x064). -/
def capUnit (n : Nat) : CommitUnit :=
  ⟨R.IMG_CTRL n, F.IMG_CTRL_COMMIT_PENDING,
    [R.IMG_TRIG_CFG n, R.IMG_PITCH_LO n, R.IMG_PITCH_HI n, R.IMG_ORIGIN_LO n, R.IMG_ORIGIN_HI n, R.IMG_EXPOSURE n,
      R.IMG_LINE_MIN n, R.IMG_TIMING n, R.IMG_PRED n, R.IMG_DATA_TO n], some (R.IMG_COMMIT_TAKEN_LO n)⟩

/-- The correction shadow set (05 R192). -/
def corUnit (n : Nat) : CommitUnit :=
  ⟨R.IMG_COR_CTRL n, F.IMG_COR_CTRL_COMMIT_PENDING,
    [R.IMG_COR_CFG n, R.IMG_REF_COLS n, R.IMG_REF_LEVEL n, R.IMG_NORM_LIMITS n], some (R.IMG_COMMIT_TAKEN_LO n)⟩

/-- A flag of IMG_n_STATUS that raises the FAULT event on becoming set (04 R158, 01 R614). -/
def imgFault (s : State) (n : Nat) (f : Fld) : State := s.flagEvent (R.IMG_STATUS n) f (Ev.img n 5)

/-- Whether the generator is armed. -/
def imgArmed (s : State) (n : Nat) : Bool := s.bit (R.IMG_STATUS n) F.IMG_STATUS_ARMED

/-- The position interface in force of a port. -/
def imgIface (s : State) (n : Nat) : Nat := s.actFld (R.IMG_TRIG_CFG n) F.IMG_TRIG_CFG_INTERFACE

/-- LINE_MIN in force, 4,000 to 1,000,000 ns (04 R150). -/
def lineMin (s : State) (n : Nat) : Nat := min 1000000 (max 4000 (s.inForce (R.IMG_LINE_MIN n)).toNat)

/-- EXPOSURE in force, 100 to LINE_MIN − 100 ns (04 R150). -/
def imgExposure (s : State) (n : Nat) : Nat := min (lineMin s n - 100) (max 100 (s.inForce (R.IMG_EXPOSURE n)).toNat)

/-- SENSOR_LAT in force, half-ns. -/
def sensorLat (s : State) (n : Nat) : Nat := s.actFld (R.IMG_TIMING n) F.IMG_TIMING_SENSOR_LAT

/-- ARMED, PREDICTING, OUTSTANDING and NEXT brought up to date (04, IMG_n_STATUS). -/
def imgShow (s : State) (n : Nat) : State :=
  let st := s.imgSt n
  let s := s.setBit (R.IMG_STATUS n) F.IMG_STATUS_PREDICTING (decide (2 ≤ st.hist.length))
  let s := s.setFld (R.IMG_STATUS n) F.IMG_STATUS_OUTSTANDING st.awaited.length
  if imgArmed s n then s.setSreg64 (R.IMG_NEXT_LO n) (imgTarget s n st.k) else s

/-- Whether the port below has eight lanes and so uses this port's lane group; this port is unavailable then (04 R119, 02
R67). -/
def portTaken (s : State) : Nat → Bool
  | 0 => false
  | n + 1 => !portTaken s n && s.fld (R.IMG_LANE_CFG n) F.IMG_LANE_CFG_LANES == 3

/-- PORT_READY brought up to date (04 R122). -/
def imgReady (s : State) (n : Nat) : State :=
  s.setBit (R.IMG_STATUS n) F.IMG_STATUS_PORT_READY
    (s.bit (R.IMG_STATUS n) F.IMG_STATUS_LINK_UP && (s.engine n).upOk && !portTaken s n)

/-- A port whose lane group the port below has taken loses its lanes and its bring-up (04 R119). -/
def portYield (s : State) (n : Nat) : State :=
  if !portTaken s n then imgReady s n
  else
    let s := (s.setReg (R.IMG_LANE_STATUS n) 0).setBit (R.IMG_STATUS n) F.IMG_STATUS_LINK_UP false
    imgReady (s.setImg n { s.imgSt n with brought := false, lanes := [], adapted := 0 }) n

/-! ### Targets (04 R137 to R140) -/

/-- PITCH in force, 256 to 2^40 (04 R137). -/
def imgPitch (s : State) (n : Nat) : Int := (max 256 (min (2 ^ 40) (s.inForce64 (R.IMG_PITCH_LO n))) : Nat)

/-- The index of the first target strictly beyond a position in a direction (04 R138). -/
def firstBeyond (s : State) (n : Nat) (p : Int) (back : Bool) : Int :=
  let d := p - s.sinForce64 (R.IMG_ORIGIN_LO n)
  let q := imgPitch s n
  if back then -((-d).fdiv q) - 1 else d.fdiv q + 1

/-- The index of the furthest target at or before a position in a direction (04 R143). -/
def furthestReached (s : State) (n : Nat) (p : Int) (back : Bool) : Int :=
  let d := p - s.sinForce64 (R.IMG_ORIGIN_LO n)
  let q := imgPitch s n
  if back then -((-d).fdiv q) else d.fdiv q

/-! ### Commits (04 R137, R150; 05 R164, R177, R192) -/

/-- The capture set taken; a run withholds PITCH, ORIGIN and INTERFACE where one of them changes (04 R137, R150). -/
def capTake (s : State) (n : Nat) : State :=
  if !(capUnit n).waits s then s
  else
    let a := R.IMG_TRIG_CFG n
    let regs := [R.IMG_PITCH_LO n, R.IMG_PITCH_HI n, R.IMG_ORIGIN_LO n, R.IMG_ORIGIN_HI n]
    let refused := s.runActive && (s.fld a F.IMG_TRIG_CFG_INTERFACE != s.actFld a F.IMG_TRIG_CFG_INTERFACE ||
      regs.any (fun r => s.reg r != s.inForce r))
    let changed := s.reg (R.IMG_EXPOSURE n) != s.inForce (R.IMG_EXPOSURE n) ||
      s.fld a F.IMG_TRIG_CFG_EXP_MODE != s.actFld a F.IMG_TRIG_CFG_EXP_MODE
    let s := s.cond refused (fun s =>
      let s := s.setFld a F.IMG_TRIG_CFG_INTERFACE (s.actFld a F.IMG_TRIG_CFG_INTERFACE)
      imgFault (regs.foldl (fun s r => s.setReg r (s.inForce r)) s) n F.IMG_STATUS_CFG_REFUSED)
    let s := (capUnit n).take s
    s.cond changed (fun s => s.setImg n { s.imgSt n with expNew := true })

/-- The SRAM halves swapped: the set in force becomes the resident one (05 R164). -/
def swapHalves (s : State) (n : Nat) (old : Nat) : State :=
  let st := s.imgSt n
  let defs := (if st.half then st.shadeA else st.shadeB).defs
  let s := s.setImg n { st with half := !st.half, setMarks := st.setMarks ++ [st.serial] }
  let s := (s.setFld (R.IMG_COR_CTRL n) F.IMG_COR_CTRL_RESIDENT_SET old)
  (List.range 256).foldl (fun s k => s.setReg (R.IMG_DEFECT n k) (defs.getD k 0)) s

/-- The correction set taken; `meets` says that a completing load met this boundary and lost (05 R164, R165, R177,
R192). -/
def corTake (s : State) (n : Nat) (meets : Bool) : State :=
  if !(corUnit n).waits s then s
  else
    let a := R.IMG_COR_CFG n
    let old := s.inForce a
    let set := s.fld a F.IMG_COR_CFG_SET
    let change := s.runActive && set != old.get F.IMG_COR_CFG_SET
    let ctrl := R.IMG_COR_CTRL n
    let noSwap := !s.bit ctrl F.IMG_COR_CTRL_DUAL || !s.bit ctrl F.IMG_COR_CTRL_RESIDENT_VALID ||
      set != s.fld ctrl F.IMG_COR_CTRL_RESIDENT_SET
    let later := change && meets
    let refused := change && noSwap && !meets
    let withheld := refused || later
    let new := s.reg a
    let kern := kernelOf s n new
    let badBuf := s.runActive && kern != 0 && (kern != kernelOf s n old ||
      new.get F.IMG_COR_CFG_GAP_BRIDGE != old.get F.IMG_COR_CFG_GAP_BRIDGE) && !bufferFits s n new
    let s := s.cond withheld (fun s => s.setFld a F.IMG_COR_CFG_SET (old.get F.IMG_COR_CFG_SET))
    let s := s.cond later (fun s => s.setImg n { s.imgSt n with heldSet := some set })
    let s := s.cond refused (fun s =>
      s.flagEvent (R.IMG_COR_STATUS n) F.IMG_COR_STATUS_SET_REFUSED (Ev.img n 4))
    let s := s.cond badBuf (fun s =>
      let s := s.setFld a F.IMG_COR_CFG_KERNEL (old.get F.IMG_COR_CFG_KERNEL)
      imgFault (s.setFld a F.IMG_COR_CFG_GAP_BRIDGE (old.get F.IMG_COR_CFG_GAP_BRIDGE)) n F.IMG_STATUS_CFG_REFUSED)
    let s := (corUnit n).take s
    s.cond (change && !withheld) (fun s => swapHalves s n (old.get F.IMG_COR_CFG_SET))

/-- A set that a meeting load withheld, swapped in at the next boundary (05 R165). -/
def heldSwap (s : State) (n : Nat) : State :=
  match (s.imgSt n).heldSet with
  | none => s
  | some set =>
    let ctrl := R.IMG_COR_CTRL n
    if s.bit ctrl F.IMG_COR_CTRL_RESIDENT_VALID ∧ s.fld ctrl F.IMG_COR_CTRL_RESIDENT_SET = set then
      let a := R.IMG_COR_CFG n
      let old := s.actFld a F.IMG_COR_CFG_SET
      let s := (s.setFld a F.IMG_COR_CFG_SET set).setInForce a ((s.inForce a).put F.IMG_COR_CFG_SET set)
      swapHalves (s.setImg n { s.imgSt n with heldSet := none }) n old
    else s

/-- The hand-over boundary of both sets: a target is consumed (04 R150, 05 R192). -/
def imgBoundary (s : State) (n : Nat) (meets : Bool) : State :=
  corTake (heldSwap (capTake s n) n) n meets

/-- Whether the boundary of a port's sets is the commit itself (04 R150). -/
def imgIdle (s : State) (n : Nat) : Bool := !s.runActive || !imgArmed s n

/-- COMMIT of the capture set. -/
def imgCommit (n : Nat) (s : State) : State :=
  let s := (capUnit n).commit s
  if imgIdle s n then imgShow (capTake s n) n else s

/-- COMMIT of the correction set; `meets` as at `corTake`, where the commit itself is the boundary. -/
def imgCorCommit (n : Nat) (meets : Bool) (s : State) : State :=
  let s := (corUnit n).commit s
  if imgIdle s n then corTake s n meets else s

/-! ### Firing and skipping (04 R139, R143, R148 to R153) -/

/-- The present target skipped: consumed without a pulse (04 R151). -/
def imgSkip (s : State) (n : Nat) : State :=
  let st := s.imgSt n
  let s := consume s n st.k (.lost 2) none
  let st := s.imgSt n
  let s := s.setImg n { st with missed := min 0xFFFF (st.missed + 1), pred := none,
                                k := if st.back then st.k - 1 else st.k + 1 }
  let s := (s.satInc (R.IMG_SKIPS n) F.IMG_SKIPS_SKIPS).flag (R.IMG_STATUS n) F.IMG_STATUS_SKIPPED
  decide_ (s.raise (Ev.img n 2)) n

/-- The hold ended (05 R189). -/
def holdEnd (s : State) (n : Nat) : State :=
  (s.setImg n { s.imgSt n with hold := none }).setBit (R.IMG_COR_STATUS n) F.IMG_COR_STATUS_HOLDING false

/-- The present target fired at a fire instant, with the exposure start, the header time, the flag bits and the
firing sample's SUSPECT (04 R143, R144, R148 to R154, R156). -/
def imgFire (s : State) (n : Nat) (fire2 start2 : Int) (time : Nat) (late extrap suspect : Bool) : State :=
  let st := s.imgSt n
  let back := encBack s (imgIface s n)
  let cfg := s.inForce (R.IMG_COR_CFG n)
  let shade := if st.half then st.shadeB else st.shadeA
  let fl := setFlag (setFlag (setFlag (setFlag (setFlag (setFlag (setFlag 0 2 (st.missed != 0)) 3 shade.identity) 5 back)
    8 extrap) 9 late) 10 st.expNew) 13 suspect
  let expo := imgExposure s n
  let ln : Line := { serial := st.serial, start2 := start2, time := time, flags := fl,
                     speed := (s.reg (R.ENC_SPEED (imgIface s n))).toNat, missed := st.missed, exposure := expo,
                     set := cfg.get F.IMG_COR_CFG_SET, shade := shade, corCfg := cfg,
                     refCols := s.inForce (R.IMG_REF_COLS n), refLevel := s.inForce (R.IMG_REF_LEVEL n),
                     normLimits := s.inForce (R.IMG_NORM_LIMITS n) }
  let x := imgTarget s n st.k
  let s := consume s n st.k .waits (some ln)
  let st := s.imgSt n
  let mod := if s.bit (R.IMG_FRAME_CFG n) F.IMG_FRAME_CFG_SEQ_16 then 65536 else 256
  let expect := st.anchor.map (fun a => (a.2 + (st.serial - a.1)) % mod)
  let dto := 1000 * max 10 (s.actFld (R.IMG_DATA_TO n) F.IMG_DATA_TO_DATA_TO)
  let aw : Awaited := { serial := st.serial, expect := expect, slots := List.replicate (imgColours s n) false,
                        deadline := (start2 / 2).toNat + dto }
  let s := s.setImg n { st with serial := st.serial + 1, awaited := st.awaited ++ [aw], missed := 0, expNew := false,
                                pred := none, lastFire2 := some fire2, k := if st.back then st.k - 1 else st.k + 1 }
  let s := s.cond (st.hold.isSome && (back == st.back)) (fun s => holdEnd s n)
  let s := (s.wrapInc (R.IMG_LINES n) F.IMG_LINES_LINES).setSreg64 (R.IMG_LAST_LO n) x
  let s := (s.setBit (R.IMG_STATUS n) F.IMG_STATUS_BUSY true).cond late (fun s =>
    s.flag (R.IMG_STATUS n) F.IMG_STATUS_LATE)
  let width := if s.actBit (R.IMG_TRIG_CFG n) F.IMG_TRIG_CFG_EXP_MODE then expo
    else max 20 (s.actFld (R.IMG_TIMING n) F.IMG_TIMING_PULSE)
  let win : Window := ⟨n, ln.serial, start2, start2 + 2 * (expo : Int), false⟩
  let s := { s with windows := s.windows ++ [win] }
  s.emit (.lineTrigger n (fire2 + 48).toNat width (s.actBit (R.IMG_TRIG_CFG n) F.IMG_TRIG_CFG_LT_INV))

/-- The instant of the present target: the waiting sets are taken, then it fires or is skipped for LINE_MIN or for four
outstanding lines (04 R150, R151, R153). -/
def imgInstant (s : State) (n : Nat) (fire2 : Int) (p : Option Pred) (suspect meets : Bool) : State :=
  let s := imgBoundary s n meets
  let st := s.imgSt n
  let tooSoon := match st.lastFire2 with
    | some l =>
      let d := fire2 - l
      decide (d < 2 * lineMin s n) || (decide (d = 2 * lineMin s n) && s.bit (R.IMG_STATUS n) F.IMG_STATUS_BUSY)
    | none => false
  if tooSoon || decide (4 ≤ st.awaited.length) then imgSkip s n
  else
    match p with
    | some p =>
      let ext := 2 * max 100 (s.actFld (R.IMG_PRED n) F.IMG_PRED_EXTRAP_NS)
      imgFire s n fire2 p.hStar (p.hStar / 2).toNat false (decide ((ext : Int) < p.hStar - p.hA)) p.suspect
    | none =>
      let st2 := fire2 + 48 + sensorLat s n
      imgFire s n fire2 st2 (st2 / 2).toNat true false suspect

/-- Targets from the present one to index `k` passed over and skipped (04 R143, R145, R151); `meets` as at `corTake`. -/
def passOver (s : State) (n : Nat) (k : Int) (meets : Bool) : State :=
  let st := s.imgSt n
  let m := if st.back then st.k - k + 1 else k - st.k + 1
  if m ≤ 0 then s
  else (List.range m.toNat).foldl (fun s _ => imgSkip s n) (imgBoundary s n meets)

/-- The prediction whose fire instant is a port's next one. No trigger fires while samples are invalid, or in a hold
against the swath's direction (04 R145, 05 R188). -/
def firePred (s : State) (n : Nat) : Option Pred :=
  let st := s.imgSt n
  if !imgArmed s n ∨ st.invalid ∨ (st.hold.isSome ∧ encBack s (imgIface s n) ≠ st.back) then none else st.pred

/-- Device time reaches the fire instant of the prediction (04 R142, R143). -/
def triggerFire (n : Nat) (meets : Bool) (s : State) : State :=
  match firePred s n with
  | none => s
  | some p =>
    let f2 : Int := max (2 * s.now) p.hFire
    let s := s.reach (f2 / 2).toNat
    imgShow (imgInstant s n f2 (some p) p.suspect meets) n

/-! ### Samples at the port (04 R140 to R147, 05 R187 to R190) -/

/-- The history cleared: there is no prediction then (04 R141). -/
def clearHist (s : State) (n : Nat) : State := s.setImg n { s.imgSt n with hist := [], pred := none }

/-- PLACE_ERR of fired lines that wait for the first sample after their exposure start: the interpolated position less
the target, saturated short of 0x8000_0000, which marks an invalid sample (04 R147). The sample before it counts with the
POSITION it carries, valid or not (DEDUCED: log entry 110). -/
def placeLines (s : State) (n : Nat) (x : Sample) : State :=
  let st := s.imgSt n
  let place (t : Tap) (ln : Line) : Nat :=
    if !x.valid then 0x80000000
    else
      let v : Int := match st.recent.find? (fun r => decide ((r.2 : Int) ≤ ln.start2)) with
        | some (p0, h0) => divRound (p0 * (x.t2 - h0) + (x.pos - p0) * (ln.start2 - h0)) (x.t2 - h0)
        | none => x.pos
      ofSigned 32 (clampInt (-0x7FFFFFFF) 0x7FFFFFFF (v - t.x))
  let fix (t : Tap) : Tap :=
    match t.line with
    | some ln => if ln.place.isNone ∧ ln.start2 < x.t2 then { t with line := some { ln with place := some (place t ln) } }
      else t
    | none => t
  let s := s.setImg n { st with swaths := st.swaths.map (fun w => { w with taps := w.taps.map fix }),
                                recent := (x.pos, x.t2) :: st.recent.take 7 }
  decide_ s n

/-- The prediction from a history (04 R141, R142). -/
def predict (s : State) (n : Nat) (suspect : Bool) : State :=
  let st := s.imgSt n
  match st.hist with
  | (pa, ha) :: rest =>
    let base := 2 * max 250 (s.actFld (R.IMG_PRED n) F.IMG_PRED_VEL_BASE)
    let b := match rest.find? (fun q => decide (q.2 + base ≤ ha)) with
      | some q => some q
      | none => rest.getLast?
    match b with
    | none => s
    | some (pb, hb) =>
      let x := imgTarget s n st.k
      let h := (ha : Int) + divRound ((x - pa) * ((ha : Int) - hb)) (pa - pb)
      s.setImg n { st with pred := some ⟨h, h - 48 - sensorLat s n, ha, suspect⟩ }
  | [] => s

/-- Whether a sample is a moving sample: valid, and beyond the position of the previous moving sample in the direction of
travel; before the first one the trigger path's E stands for it (04 R141, log entry 98). -/
def isMoving (last : Option Int) (x : Sample) : Bool :=
  let p := last.getD x.prevE
  x.valid && (if x.back then decide (x.pos < p) else decide (p < x.pos))

/-- A moving sample kept, with the last 16 of them as the history (04 R141). -/
def keepMoving (s : State) (n : Nat) (x : Sample) : State :=
  let st := s.imgSt n
  s.setImg n { st with hist := ((x.pos, x.t2) :: st.hist).take 16, lastMove := some x.pos }

/-- A TURN at the port while it is not holding: the swath ends at E, the next begins beyond the position in the new
direction (04 R140, 05 R179). -/
def imgTurn (s : State) (n : Nat) (reason : Nat) (x : Sample) : State :=
  let s := endSwath s n reason x.prevE
  let s := s.setImg n { s.imgSt n with back := x.back, k := firstBeyond s n x.pos x.back, pred := none }
  beginSwath s n x.back

/-- The hold released where the position is further than HOLD_LIMIT from P0 against the swath (05 R189). -/
def holdRelease (s : State) (n : Nat) (x : Sample) : State :=
  let st := s.imgSt n
  match st.hold with
  | none => s
  | some p0 =>
    let away := if st.back then x.pos - p0 else p0 - x.pos
    if ((s.reg (R.IMG_HOLD_LIMIT n)).toNat : Int) < away then imgTurn (holdEnd s n) n 2 { x with prevE := st.holdE }
    else s

/-- A position sample reaches the port (04 R140 to R147, 05 R187 to R189); `meets` as at `corTake`. A sample with TURN
is a swath boundary, valid or not. A sample with VALID 0 drops the standing prediction (DESIGN CHOICE: log entry 111).
-/
def imgSample (n : Nat) (x : Sample) (meets : Bool) (s : State) : State :=
  let s := placeLines s n x
  let s := s.cond x.turn (fun s => clearHist s n)
  let s := s.cond (x.turn && (s.imgSt n).hold.isSome && (x.back != (s.imgSt n).back)) (fun s =>
    s.setImg n { s.imgSt n with holdE := x.prevE })
  if !imgArmed s n then
    if isMoving (s.imgSt n).lastMove x then imgShow (keepMoving s n x) n else s
  else
    let st := s.imgSt n
    let turns := x.turn && st.hold.isNone
    let s := s.cond turns (fun s => imgTurn s n 1 x)
    if !x.valid then imgShow (s.setImg n { s.imgSt n with invalid := true, pred := none }) n
    else
    let s := s.cond (st.invalid && !turns) (fun s =>
      if (s.imgSt n).back = x.back then passOver s n (furthestReached s n x.pos x.back) meets else s)
    let s := s.setImg n { s.imgSt n with invalid := false }
    let s := holdRelease s n x
    let st := s.imgSt n
    let along := decide (x.back = st.back)
    let tx := imgTarget s n st.k
    let reached := along && (if st.back then decide (x.pos ≤ tx) else decide (tx ≤ x.pos))
    let s := s.cond reached (fun s =>
      let k := furthestReached s n x.pos x.back
      let s := passOver s n (if st.back then k + 1 else k - 1) meets
      imgInstant s n (2 * s.now) none x.suspect meets)
    if !isMoving st.lastMove x then imgShow s n
    else
      let s := keepMoving (s.setImg n { s.imgSt n with pred := none }) n x
      imgShow (s.cond along (fun s => predict s n x.suspect)) n

/-- The next item on its way to a consumer, with the STANDSTILL windows before it taken off. -/
def takeItem (s : State) (c : Nat) : Bool × Option Sample × State :=
  let l := s.posItems c
  let still := l.takeWhile (· == .still)
  match l.drop still.length with
  | .sample x :: r => (!still.isEmpty, some x, s.setPosItems c r)
  | _ => (!still.isEmpty, none, s.setPosItems c [])

/-- The oldest sample on its way arrives at an imaging port. -/
def imgArrival (n : Nat) (meets : Bool) (s : State) : State :=
  let (still, x, s) := takeItem s n
  let s := s.cond still (fun s => imgShow (clearHist s n) n)
  match x with
  | some x => imgSample n x meets s
  | none => s

/-- The pacing pause of an axis starts the hold of every port that names it; a port whose generator is not armed has no
swath to hold and enters none (05 R187; DESIGN CHOICE: log entry 112). -/
def holdStart (axis : Nat) (s : State) : State :=
  (List.range 10).foldl (fun s n =>
    let a := R.IMG_HOLD_CFG n
    if s.bit a F.IMG_HOLD_CFG_HOLD_EN ∧ s.fld a F.IMG_HOLD_CFG_AXIS = axis ∧ imgArmed s n ∧
        (s.imgSt n).hold.isNone then
      let i := imgIface s n
      (s.setImg n { s.imgSt n with hold := some (encPos s i), holdE := (s.enc i).e }).setBit (R.IMG_COR_STATUS n)
        F.IMG_COR_STATUS_HOLDING true
    else s) s

/-! ### Shading loads (05 R161 to R166) -/

/-- The region of the shading sets (05 R161). -/
def setsBase (s : State) (n : Nat) : Nat := s.reg64 (R.IMG_SETS_LO n)

/-- DUAL brought up to date: a geometry whose set fills the whole SRAM leaves no resident set (05 R162). -/
def showDual (s : State) (n : Nat) : State :=
  let ctrl := R.IMG_COR_CTRL n
  let dual := decide (imgColours s n * imgPixels s n ≤ 26208)
  (s.setBit ctrl F.IMG_COR_CTRL_DUAL dual).cond (!dual) (fun s => s.setBit ctrl F.IMG_COR_CTRL_RESIDENT_VALID false)

/-- A set read from DRAM and judged (05 R161). -/
def readShade (s : State) (n set : Nat) : Shade :=
  let b := setsBase s n + 0x80000 * set
  let ents := (List.range (imgColours s n * imgPixels s n)).map (fun i =>
    let w := s.readNat (b + 8 * i) 8
    (toSigned 20 w, w / 2 ^ 20 % 2 ^ 20))
  let defs := (List.range 256).map (fun k => (BitVec.ofNat 32 (s.readNat (b + 0x60000 + 4 * k) 4)) &&& 0x8037FFFF)
  ⟨ents, defs, ents.all (fun e => e.1 == 0 && e.2 == 0x10000) && defs.all (fun w => !w.getLsbD 31)⟩

/-- A load started (05 R163, R164). -/
def loadBegin (s : State) (n set : Nat) (runStart : Bool) : State :=
  let ctrl := R.IMG_COR_CTRL n
  let s := (s.setImg n { s.imgSt n with load := some (set, runStart) }).setBit ctrl F.IMG_COR_CTRL_LOAD_BUSY true
  s.setBit ctrl F.IMG_COR_CTRL_RESIDENT_VALID false

/-- LOAD_ERR set, with the CAL event on becoming set (05 R165, R191). -/
def loadErr (s : State) (n : Nat) : State := s.flagEvent (R.IMG_COR_STATUS n) F.IMG_COR_STATUS_LOAD_ERR (Ev.img n 4)

/-- LOAD written: LOAD_SET into the idle half, unless a load runs or a waiting commit changes SET (05 R164, R165). -/
def shadingLoad (n : Nat) (s : State) : State :=
  let s := showDual s n
  let ctrl := R.IMG_COR_CTRL n
  let a := R.IMG_COR_CFG n
  if s.bit ctrl F.IMG_COR_CTRL_LOAD_BUSY ∨
      ((corUnit n).waits s ∧ s.fld a F.IMG_COR_CFG_SET ≠ s.actFld a F.IMG_COR_CFG_SET) then loadErr s n
  else loadBegin s n (s.fld ctrl F.IMG_COR_CTRL_LOAD_SET) false

/-- A load ends; `x`: what the read of the set meets (05 R163, R165, R166, 13 R412, R417). A region outside claimed
DRAM is a bus error, and the load fails (01 R35, 13 R411). Without DUAL the set in force fills the SRAM from the first
half on, and a load of a run finds no idle half and leaves nothing resident (05 R162). -/
def shadingLoadDone (n : Nat) (x : SpanRead) (s : State) : State :=
  let st := s.imgSt n
  match st.load with
  | none => s
  | some (set, runStart) =>
    let ctrl := R.IMG_COR_CTRL n
    let s := (s.setImg n { st with load := none }).setBit ctrl F.IMG_COR_CTRL_LOAD_BUSY false
    let b := setsBase s n + 0x80000 * set
    let hole := !s.dramOpen b 0x80000
    let s := s.cond hole (fun s => imgFault s n F.IMG_STATUS_BUS_ERR)
    let s := s.cond (!hole) (eccNote true (b + x.off) x.ecc)
    if x.ecc = .bad || hole then
      let s := loadErr s n
      s.setImg n { s.imgSt n with blocked := (s.imgSt n).blocked || runStart }
    else
      let sh := readShade s n set
      let dual := s.bit ctrl F.IMG_COR_CTRL_DUAL
      let half := st.half && dual
      let toB := if runStart then half else !half
      let st := s.imgSt n
      let s :=
        if runStart then
          let s := s.setImg n (if toB then { st with shadeB := sh, loaded := true, half := half }
            else { st with shadeA := sh, loaded := true, half := half })
          (List.range 256).foldl (fun s k => s.setReg (R.IMG_DEFECT n k) (sh.defs.getD k 0)) s
        else if dual then
          let s := s.setImg n (if toB then { st with shadeB := sh } else { st with shadeA := sh })
          (s.setFld ctrl F.IMG_COR_CTRL_RESIDENT_SET set).setBit ctrl F.IMG_COR_CTRL_RESIDENT_VALID true
        else s
      s.raise (Ev.img n 4)

/-! ### Run start and stop at a port -/

/-- A run starts: counts, history and filters start afresh, the buffer check is made, the run-start script and the
shading load begin (04 R135, R138, R141; 05 R163, R168, R177, R181). Ports whose bring-up never ended take no part. -/
def imgRunStart (s : State) (n : Nat) : State :=
  let st := s.imgSt n
  if !st.brought ∨ portTaken s n then s
  else
    let s := s.setEngine n { s.engine n with startDone := false, startFailed := false }
    let s := s.setImg n { st with hist := [], pred := none, invalid := false, lastFire2 := none, awaited := [],
                                  anchor := none, free := [st.serial], missed := 0, waitArm := true, blocked := false,
                                  loaded := false, swaths := [], nextSwath := 0, refLow := false,
                                  filt := [none, none, none], setMarks := [], heldSet := none, lastMove := none,
                                  hold := none, recent := [] }
    let s := ((s.setReg (R.IMG_LINES n) 0).setReg (R.IMG_SKIPS n) 0).setReg (R.IMG_COR_COUNT n) 0
    let s := (s.setReg (R.IMG_WITHHELD n) 0).setReg (R.IMG_INTERP n) 0
    let s := s.setFld (R.IMG_COR_STATUS n) F.IMG_COR_STATUS_SWATH_ID 0
    let s := (List.range 3).foldl (fun s c => s.setFld (R.IMG_NORM_FACTOR n c) F.IMG_NORM_FACTOR_FACTOR 0x10000) s
    let cfg := s.inForce (R.IMG_COR_CFG n)
    let bad := kernelOf s n cfg != 0 && !bufferFits s n cfg
    let s := s.cond bad (fun s =>
      (s.flagEvent (R.IMG_COR_STATUS n) F.IMG_COR_STATUS_BUF_OVER (Ev.img n 5)).setImg n
        { s.imgSt n with blocked := true })
    let s := loadBegin (showDual s n) n (cfg.get F.IMG_COR_CFG_SET) true
    imgShow (scriptBegin s n 2) n

/-- The generator arms once the run-start scripts of the port and of the chains and the shading load have ended (04
R138, 05 R179, 06 R205). -/
def generatorArm (n : Nat) (s : State) : State :=
  let st := s.imgSt n
  let e := s.engine n
  let lamps := (List.range 4).any (fun c => (s.engine (0x20 + c)).owes 2)
  if !s.runActive ∨ !st.waitArm ∨ st.blocked ∨ st.load.isSome ∨ !st.loaded ∨ !e.startDone ∨ lamps then s
  else
    let i := imgIface s n
    let back := encBack s i
    let k := firstBeyond s n (encPos s i) back
    let s := s.setImg n { st with waitArm := false, back := back, k := k, free := [st.serial], anchor := none }
    let s := beginSwath (s.setBit (R.IMG_STATUS n) F.IMG_STATUS_ARMED true) n back
    imgShow s n

/-- A run stops at a port: the swath ends, the generator disarms, a waiting set is taken, the run-stop script falls due
(04 R135, R150; 05 R179, R189). RUN_ACTIVE has fallen, so the set is taken whole (DESIGN CHOICE: log entry 113). -/
def imgRunStop (s : State) (n : Nat) : State :=
  let st := s.imgSt n
  if !st.brought then s
  else
    let armed := imgArmed s n
    let s := holdEnd s n
    let s := s.cond armed (fun s => endSwath s n 3 0)
    let s := s.setBit (R.IMG_STATUS n) F.IMG_STATUS_ARMED false
    let s := s.setImg n { s.imgSt n with pred := none, waitArm := false }
    let s := corTake (heldSwap (capTake s n) n) n false
    imgShow { s with stopScripts := NatSet.insert s.stopScripts n } n

/-- Whether every line of the last run has been delivered to the correction pipeline or lost (04 R135). -/
def imgDelivered (s : State) (n : Nat) : Bool := (s.imgSt n).awaited.isEmpty

/-- Whether a port has nothing left to record of the last run (05 R180). -/
def imgDrained (s : State) (n : Nat) : Bool := imgDelivered s n && (s.imgSt n).swaths.isEmpty

/-! ### Lanes and packets (04 R122 to R132) -/

/-- The lane width of a port (04, IMG_n_LANE_CFG). -/
def laneWidth (s : State) (n : Nat) : Nat := 2 ^ s.fld (R.IMG_LANE_CFG n) F.IMG_LANE_CFG_LANES

/-- Block lock of a lane gained or kept over what it receives: its new state, whether the lock is gained, whether it is
lost (04 R123): 64 consecutive valid headers, or four commas; 16 of 64 headers invalid, or four of 16 code groups. -/
def laneUnit (enc8 : Bool) (x : LaneSt) (u : CodeUnit) : LaneSt × Bool × Bool :=
  let bad := u == .bad
  let run := if enc8 then (if u == .comma then x.run + 1 else x.run) else if bad then 0 else x.run + 1
  let window := (bad :: x.window).take (if enc8 then 16 else 64)
  (⟨run, window⟩, decide ((if enc8 then 4 else 64) ≤ run),
    decide ((if enc8 then 4 else 16) ≤ (window.filter id).length))

/-- The hidden state of a lane of a port. -/
def State.lane (s : State) (n lane : Nat) : LaneSt := Sparse.get (fun _ => {}) (s.imgSt n).lanes lane

/-- The hidden state of a lane of a port replaced. -/
def State.setLane (s : State) (n lane : Nat) (x : LaneSt) : State :=
  s.setImg n { s.imgSt n with lanes := Sparse.put (fun _ => some {}) (s.imgSt n).lanes lane x }

/-- The units of a list that are invalid. -/
def badUnits (l : List CodeUnit) : Nat := (l.filter (· == .bad)).length

/-- A lane not yet locked receives headers or code groups; whether it gains block lock by them, and those that follow (04
R123). -/
def gainLock (enc8 : Bool) : List CodeUnit → LaneSt → LaneSt × Bool × List CodeUnit
  | [], x => (x, false, [])
  | u :: r, x =>
    let (y, up, _) := laneUnit enc8 x u
    if up then ({ }, true, r) else gainLock enc8 r y

/-- A locked lane receives headers or code groups; whether it loses block lock by them (04 R123). -/
def loseLock (enc8 : Bool) : List CodeUnit → LaneSt → LaneSt × Bool
  | [], x => (x, false)
  | u :: r, x =>
    let (y, _, down) := laneUnit enc8 x u
    if down then ({ }, true) else loseLock enc8 r y

/-- The encoding of a port's lanes is 8b/10b (04, IMG_n_LANE_CFG). -/
def enc8 (s : State) (n : Nat) : Bool := s.bit (R.IMG_LANE_CFG n) F.IMG_LANE_CFG_ENC

/-- Whether the first lanes of a port all have a bit of a mask. -/
def allLanes (s : State) (n mask : Nat) : Bool := (List.range (laneWidth s n)).all (fun i => mask / 2 ^ i % 2 == 1)

/-- A lane loses its block lock: the port repeats bring-up (04 R123, R124). -/
def laneLost (n lane : Nat) (s : State) : State :=
  let a := R.IMG_LANE_STATUS n
  let s := (s.setBit a ⟨8 + lane, 1⟩ false).setBit a ⟨lane, 1⟩ false
  let s := (s.setBit a F.IMG_LANE_STATUS_DESKEWED false).setBit a F.IMG_LANE_STATUS_ADAPT_DONE false
  let st := s.imgSt n
  let bit := st.adapted / 2 ^ lane % 2
  let s := s.setImg n { st with adapted := st.adapted - bit * 2 ^ lane }
  let s := s.setBit (R.IMG_STATUS n) F.IMG_STATUS_LINK_UP false
  if !st.brought then imgReady s n
  else
    let s := (s.flag (R.IMG_STATUS n) F.IMG_STATUS_LINK_LOST).satInc (R.IMG_LANE_ERR n) F.IMG_LANE_ERR_LOCK_LOSS
    imgReady (s.raise (Ev.img n 0)) n

/-- A lane that a port uses receives headers or code groups: the invalid ones are counted; an adapted lane may gain block
lock by them, and a locked one, by those that follow, lose it (04 R119, R123, R124). -/
def laneTake (n lane : Nat) (units : List CodeUnit) (s : State) : State :=
  let a := R.IMG_LANE_STATUS n
  if laneWidth s n ≤ lane ∨ portTaken s n then s
  else
    let s := s.satInc (R.IMG_LANE_ERR n) F.IMG_LANE_ERR_CODE_ERR (badUnits units)
    let locked := s.bit a ⟨8 + lane, 1⟩
    if !locked ∧ (s.imgSt n).adapted / 2 ^ lane % 2 = 0 then s
    else
      let (x, up, rest) := if locked then (s.lane n lane, true, units) else gainLock (enc8 s n) units (s.lane n lane)
      if !up then s.setLane n lane x
      else
        let (y, down) := loseLock (enc8 s n) rest x
        let s := (s.setLane n lane y).cond (!locked) (fun s => s.setBit a ⟨8 + lane, 1⟩ true)
        s.cond down (laneLost n lane)

/-- The lane width of a port rewritten: lanes it no longer uses are powered down, and the link stays up only where
every lane of the new width has block lock (04 R119, R122). -/
def laneRewidth (n : Nat) (s : State) : State :=
  let a := R.IMG_LANE_STATUS n
  let st := s.imgSt n
  let m := 2 ^ laneWidth s n
  let s := s.setFld a F.IMG_LANE_STATUS_CDR_LOCK (s.fld a F.IMG_LANE_STATUS_CDR_LOCK % m)
  let s := s.setFld a F.IMG_LANE_STATUS_BLOCK_LOCK (s.fld a F.IMG_LANE_STATUS_BLOCK_LOCK % m)
  let s := s.setImg n { st with adapted := st.adapted % m, lanes := st.lanes.filter (fun l => decide (l.1 < laneWidth s n)) }
  let s := s.setBit a F.IMG_LANE_STATUS_ADAPT_DONE (allLanes s n (st.adapted % m))
  let s := s.cond (!allLanes s n (s.fld a F.IMG_LANE_STATUS_BLOCK_LOCK)) (fun s =>
    (s.setBit a F.IMG_LANE_STATUS_DESKEWED false).setBit (R.IMG_STATUS n) F.IMG_STATUS_LINK_UP false)
  imgReady s n

/-- A stage of bring-up (04 R122): each lane gains CDR lock, adapts, gains block lock; then the port deskews its
lanes, its link is up, and the bring-up script follows the first time (04 R132, R135). A stage out of turn is none. An
unanchored line still outstanding stays unanchored beside the next one fired (log entry 114). -/
def laneBringup (n : Nat) (stage : LaneStage) (s : State) : State :=
  let a := R.IMG_LANE_STATUS n
  let st := s.imgSt n
  let closed (i : Nat) : Bool := decide (laneWidth s n ≤ i) || portTaken s n
  match stage with
  | .cdrLock i =>
    if closed i ∨ s.bit a ⟨i, 1⟩ then s
    else
      let s := (s.setBit a ⟨i, 1⟩ true).setBit a F.IMG_LANE_STATUS_ADAPT_RUNNING true
      s.setImg n { st with adaptAt := s.now }
  | .adapted i =>
    if closed i ∨ !s.bit a ⟨i, 1⟩ ∨ st.adapted / 2 ^ i.val % 2 = 1 then s
    else
      let s := s.setImg n { st with adapted := st.adapted + 2 ^ i.val }
      if !allLanes s n (st.adapted + 2 ^ i.val) then s
      else (s.setBit a F.IMG_LANE_STATUS_ADAPT_DONE true).setBit a F.IMG_LANE_STATUS_ADAPT_RUNNING false
  | .units i l => laneTake n i l s
  | .deskewed =>
    if portTaken s n ∨ s.bit (R.IMG_STATUS n) F.IMG_STATUS_LINK_UP ∨
        !allLanes s n (s.fld a F.IMG_LANE_STATUS_BLOCK_LOCK) then s
    else
      let s := (s.setBit a F.IMG_LANE_STATUS_DESKEWED true).setBit (R.IMG_STATUS n) F.IMG_STATUS_LINK_UP true
      let free := st.free.filter (fun u => decide (u < st.serial)) ++ [st.serial]
      let s := s.setImg n { s.imgSt n with brought := true, anchor := none, free := free }
      imgReady (s.cond (!st.brought) (fun s => scriptBegin s n 1)) n

/-- The interval of receiver re-adaptation in the present temperature band, in ns (04 R125, 19 R569). -/
def readaptInterval (s : State) : Nat :=
  match s.fld R.PWR_STATUS F.PWR_STATUS_BAND with
  | 1 => 10000000000
  | 3 => 100000000
  | _ => 1000000000

/-- Re-adaptation between packets begins, an interval after the adaptation before, or ends (04 R125). -/
def rxReadapt (n : Nat) (running : Bool) (s : State) : State :=
  let a := R.IMG_LANE_STATUS n
  if !s.bit (R.IMG_STATUS n) F.IMG_STATUS_LINK_UP then s
  else if !running then s.setBit a F.IMG_LANE_STATUS_ADAPT_RUNNING false
  else
    let s := s.reach ((s.imgSt n).adaptAt + readaptInterval s)
    (s.setImg n { s.imgSt n with adaptAt := s.now }).setBit a F.IMG_LANE_STATUS_ADAPT_RUNNING true

/-- Pixels unpacked from a little-endian bit stream (04 R129). -/
def unpackPixels (bs : List Byte) (b count : Nat) : List Nat :=
  (List.range count).map (fun j =>
    let off := j * b / 8
    natAt off 3 bs / 2 ^ (j * b % 8) % 2 ^ b)

/-- The bytes of a packet put together from the lanes: byte i on lane i mod W (04 R126). -/
def destripe (lanes : List (List Byte)) (w total : Nat) : List Byte :=
  (List.range total).map (fun i => ((lanes.getD (i % w) []).drop (i / w)).head?.getD 0)

/-- An outstanding line removed. -/
def dropAwaited (s : State) (n serial : Nat) : State :=
  let st := s.imgSt n
  imgShow (s.setImg n { st with awaited := st.awaited.filter (fun a => a.serial != serial) }) n

/-- The line that a sequence belongs to: the oldest that expects it, or else the oldest unanchored one (04 R131, R132). -/
def matchLine (st : ImgSt) (seq : Nat) : Option Awaited :=
  match st.awaited.find? (fun a => a.expect == some seq) with
  | some a => some a
  | none => st.awaited.find? (fun a => st.free.contains a.serial)

/-- Whether a fired line follows an unanchored one, with no further unanchored line between (04 R132). -/
def ImgSt.follows (st : ImgSt) (head serial : Nat) : Bool :=
  decide (head ≤ serial) && !st.free.any (fun u => decide (head < u) && decide (u ≤ serial))

/-- The sequence becomes known: an unanchored line takes it and the lines fired after it follow (04 R132). -/
def anchorAt (st : ImgSt) (serial seq mod : Nat) : ImgSt :=
  if !st.free.contains serial then st
  else { st with free := st.free.filter (· != serial),
                 anchor := if st.free.any (fun u => decide (serial < u)) then st.anchor else some (serial, seq),
                 awaited := st.awaited.map (fun a =>
                   if st.follows serial a.serial then { a with expect := some ((seq + (a.serial - serial)) % mod) }
                   else a) }

/-- The unanchored lines once one of the outstanding lines is lost: the oldest line still outstanding that followed it
takes its place, or else the next line fired (04 R132). -/
def freeWithout (st : ImgSt) (lost : Nat) : List Nat :=
  if !st.free.contains lost then st.free
  else
    match st.awaited.find? (fun b => decide (lost < b.serial) && st.follows lost b.serial) with
    | some b => st.free.map (fun u => if u = lost then b.serial else u)
    | none => if st.free.any (fun u => decide (lost < u)) then st.free.filter (· != lost)
      else st.free.map (fun u => if u = lost then st.serial else u)

/-- A fired line lost whole while it waits for its data: its packets still count as its data (06 R215, 13 R417). -/
def loseAwaited (s : State) (n serial reason : Nat) : State :=
  let st := s.imgSt n
  let s := s.setImg n { st with awaited := st.awaited.map (fun a =>
    if a.serial = serial then { a with withheld := true } else a) }
  decide_ (mapTap s n serial (fun t => { t with status := .lost reason, pix := [], cfl := [] })) n

/-- A well-formed packet: header fields, the line it matches, its colour slot (04 R128, R129, R131; 05 R159). With
`bad` the port's SRAM meets an uncorrectable error in the line (13 R417). A field whose offset lies outside the header
reads 0 (DESIGN CHOICE: log entry 115). -/
def packetBytes (n : Nat) (bad : Bool) (p : List Byte) (s : State) : State :=
  let fc := R.IMG_FRAME_CFG n
  let hl := min 16 (max 2 (s.fld fc F.IMG_FRAME_CFG_HDR_LEN))
  let c := byteAt (s.fld fc F.IMG_FRAME_CFG_COLOUR_OFS) (p.take hl) % 4
  let wide := s.bit fc F.IMG_FRAME_CFG_SEQ_16
  let seq := natAt (s.fld fc F.IMG_FRAME_CFG_SEQ_OFS) (if wide then 2 else 1) (p.take hl)
  if imgColours s n ≤ c then imgFault s n F.IMG_STATUS_COLOUR_ERR
  else
    match matchLine (s.imgSt n) seq with
    | none => imgFault s n F.IMG_STATUS_SEQ_ERR
    | some a =>
      if a.slots.getD c false then imgFault s n F.IMG_STATUS_SEQ_ERR
      else
        let s := s.cond a.expect.isNone (fun s =>
          s.setImg n (anchorAt (s.imgSt n) a.serial seq (if wide then 65536 else 256)))
        let slots := a.slots.set c true
        let st := s.imgSt n
        let s := s.setImg n { st with awaited := st.awaited.map (fun b =>
          if b.serial = a.serial then { b with slots := slots } else b) }
        let s := s.cond (bad && !a.withheld) (fun s => loseAwaited s n a.serial 7)
        let bits := 10 + 2 * s.fld fc F.IMG_FRAME_CFG_PIX_BITS
        let raw := unpackPixels (p.drop hl) bits (imgPixels s n)
        let s :=
          if a.withheld || bad then s
          else
            match (tapOf s n a.serial).bind (·.line) with
            | none => s
            | some ln =>
              let (pix, fl, s) := correctLine s n ln c raw
              let k := imgColours s n
              mapTap s n a.serial (fun t =>
                { t with pix := (padTo' k t.pix).set c pix, cfl := (padZero k t.cfl).set c fl })
        if slots.all id then
          let s := dropAwaited s n a.serial
          if a.withheld || bad then s
          else decide_ (mapTap s n a.serial (fun t =>
            { t with status := if t.status = .waits then .filled else t.status,
                     line := t.line.map (fun ln => { ln with seq := seq }) })) n
        else s
where
  /-- A list of lists filled up to a length. -/
  padTo' (k : Nat) (l : List (List Nat)) : List (List Nat) := (l ++ List.replicate (k - l.length) []).take k
  /-- A list of numbers filled up to a length. -/
  padZero (k : Nat) (l : List Nat) : List Nat := (l ++ List.replicate (k - l.length) 0).take k

/-- The SYNC word as the symbols that every lane carries (04 R126): byte 0 first, K code groups by SYNC_K in 8b/10b. -/
def syncWord (s : State) (n : Nat) : List LaneSym :=
  let ks := s.fld (R.IMG_FRAME_CFG n) F.IMG_FRAME_CFG_SYNC_K
  let bs := bytesLE 4 (s.reg (R.IMG_SYNC n)).toNat
  bs.zipIdx.map (fun b => if enc8 s n && ks / 2 ^ b.2 % 2 == 1 then .k b.1 else .data b.1)

/-- Where the next SYNC word of a lane begins. -/
def syncAt (sync : List LaneSym) : List LaneSym → Option Nat
  | [] => none
  | x :: r => if sync.isPrefixOf (x :: r) then some 0 else (syncAt sync r).map (· + 1)

/-- A lane's share of a packet; `none` where an idle code group, a control block or a SYNC comes before it is complete (04
R126). -/
def laneShare (sync : List LaneSym) : Nat → List LaneSym → Option (List Byte)
  | 0, _ => some []
  | _ + 1, [] => none
  | m + 1, x :: r =>
    if sync.isPrefixOf (x :: r) then none
    else
      match x with
      | .data b => (laneShare sync m r).map (b :: ·)
      | _ => none

/-- SYNC_ERR with the LINK event: on becoming set where a packet is cut short (04 R126), at every occurrence where SYNC is
missing on a lane (04 R127). -/
def syncErr (s : State) (n : Nat) (cut : Bool) : State :=
  if cut then s.flagEvent (R.IMG_STATUS n) F.IMG_STATUS_SYNC_ERR (Ev.img n 0)
  else (s.flag (R.IMG_STATUS n) F.IMG_STATUS_SYNC_ERR).raise (Ev.img n 0)

/-- The packets that the lanes carry from given places on: SYNC on all of them within 16 symbols, then each lane's share
(04 R126, R127). `bad` is the first packet's. -/
def packetsFrom (n : Nat) (bad : Bool) (sync : List LaneSym) (lanes : List (List LaneSym)) (total : Nat) :
    Nat → List Nat → State → State
  | 0, _, s => s
  | m + 1, from_, s =>
    let at_ := List.zipWith (fun l k => (syncAt sync (l.drop k)).map (· + k)) lanes from_
    match at_.filterMap id with
    | [] => s
    | p :: ps =>
      let first := ps.foldl min p
      let found (q : Option Nat) : Bool := q.any (fun k => decide (k ≤ first + 16))
      let w := lanes.length
      let count (i : Nat) : Nat := (total + w - 1 - i) / w
      let after := List.zipWith (fun q k => if found q then q.getD 0 + 4 else k) at_ from_
      if !at_.all found then packetsFrom n bad sync lanes total m after (syncErr s n false)
      else
        let shares := (List.zip lanes after).zipIdx.map (fun x => laneShare sync (count x.2) (x.1.1.drop x.1.2))
        if shares.any (·.isNone) then packetsFrom n bad sync lanes total m after (syncErr s n true)
        else
          let s := packetBytes n bad (destripe (shares.filterMap id) w total) s
          packetsFrom n false sync lanes total m (after.zipIdx.map (fun x => x.1 + count x.2)) s

/-- What the lanes of a port carry: whatever is not a packet is passed over (04 R126). -/
def linePacket (n : Nat) (bad : Bool) (lanes : List (List LaneSym)) (s : State) : State :=
  if !s.bit (R.IMG_STATUS n) F.IMG_STATUS_LINK_UP then s
  else
    let w := laneWidth s n
    let lanes := (List.range w).map (fun i => lanes.getD i [])
    let hl := min 16 (max 2 (s.fld (R.IMG_FRAME_CFG n) F.IMG_FRAME_CFG_HDR_LEN))
    let bits := 10 + 2 * s.fld (R.IMG_FRAME_CFG n) F.IMG_FRAME_CFG_PIX_BITS
    packetsFrom n bad (syncWord s n) lanes (hl + (imgPixels s n * bits + 7) / 8) ((lanes.map (·.length)).sum + 1)
      (List.replicate w 0) s

/-- The outstanding line whose timeout comes first. -/
def firstDue : List Awaited → Option Awaited
  | [] => none
  | a :: r =>
    match firstDue r with
    | some b => if b.deadline < a.deadline then some b else some a
    | none => some a

/-- The timeout of the outstanding line that is due first (04 R131, R132, R157); an unanchored line that is lost
leaves its place to the oldest line still outstanding, or else to the next one fired. -/
def dataTimeout (n : Nat) (s : State) : State :=
  match firstDue (s.imgSt n).awaited with
  | none => s
  | some a =>
    let s := imgFault (s.reach a.deadline) n F.IMG_STATUS_DATA_TIMEOUT
    let st := s.imgSt n
    let s := s.setImg n { st with free := freeWithout st a.serial }
    let s := dropAwaited s n a.serial
    decide_ (mapTap s n a.serial (fun t =>
      { t with status := if t.status = .waits then .lost 7 else t.status })) n

/-- The lamp island's verdict on a window: ILLUM_FAULT, and the line withheld where the port's bit of WITHHOLD is set
(06 R215, R216). -/
def illumVerdict (s : State) (n serial : Nat) (fault : Bool) : State :=
  if !fault then s
  else
    let s := mapTap s n serial (fun t =>
      { t with line := t.line.map (fun ln => { ln with flags := setFlag ln.flags 12 true }) })
    if s.fld R.LAMP_PORT_CFG F.LAMP_PORT_CFG_WITHHOLD / 2 ^ n % 2 = 1 then loseAwaited s n serial 4 else s

/-! ### The commands -/

/-- LANE_BRINGUP_DONE (04 R122): a stage of a port's lane bring-up. -/
def execLaneBringupDone (p : PortStage) (s : State) : Result :=
  .next (s.whenWorking (fun s => readyCheck (laneBringup p.port p.stage s)))

/-- LANE_LOCK_LOSS (04 R123, R124): the sync headers or code groups that a lane receives. -/
def execLaneLockLoss (n : Fin 10) (lane : Fin 8) (units : List CodeUnit) (s : State) : Result :=
  .next (s.whenWorking (fun s => readyCheck (laneTake n lane units s)))

/-- RX_READAPT (04 R125): a step of re-adaptation between packets begins or ends. -/
def execRxReadapt (n : Fin 10) (running : Bool) (s : State) : Result :=
  .next (s.whenWorking (rxReadapt n running))

/-- The sync headers or code groups that each lane received up to now, in lane order (04 R123). -/
def lanesReceive (n : Nat) (units : List (List CodeUnit)) (s : State) : State :=
  units.zipIdx.foldl (fun s x => readyCheck (laneTake n x.2 x.1 s)) s

/-- LINE_PACKET (04 R123, R126): the symbols decoded on each lane in step, with the code units not told of yet. `ram`
is what the port's SRAM gives back of the first packet's line (13 R417); `lost`: the last byte lost to the line's
timeout (04 R131). -/
def execLinePacket (n : Fin 10) (lanes : List (List LaneSym)) (units : List (List CodeUnit)) (ram : RamRead) (lost : Bool)
    (s : State) : Result :=
  .next (s.whenWorking (fun s =>
    let s := (lanesReceive n units s).lost lost (R.IMG_RACE n)
    linePacket n (ram.ecc == .bad) lanes (eccNote false (unitAddr (0x50 + n) ram.off.toNat) ram.ecc s)))

/-- LINE_DATA_TIMEOUT (04 R131). -/
def execLineDataTimeout (n : Fin 10) (lost : Bool) (s : State) : Result :=
  .next (s.whenWorking (fun s => dataTimeout n (s.lost lost (R.IMG_RACE n))))

/-- LINE_MIN_END (04 R153). -/
def execLineMinEnd (n : Fin 10) (lost : Bool) (s : State) : Result :=
  .next (s.whenWorking (fun s =>
    match (s.imgSt n).lastFire2 with
    | some l =>
      let s := (s.lost lost (R.IMG_RACE n)).reach ((l / 2).toNat + lineMin s n)
      s.setBit (R.IMG_STATUS n) F.IMG_STATUS_BUSY false
    | none => s))

/-- GENERATOR_ARM (04 R138). -/
def execGeneratorArm (n : Fin 10) (s : State) : Result := .next (s.whenWorking (generatorArm n))

/-- IMG_COMMIT (04 R150). -/
def execImgCommit (n : Fin 10) (lost : Bool) (s : State) : Result :=
  .next (s.whenWorking (fun s => imgCommit n (s.lost lost (R.IMG_RACE n))))

/-- IMG_COR_COMMIT (05 R165, R192); `m`: whether it met a completing load and which won. -/
def execImgCorCommit (n : Fin 10) (m : LoadMeet) (s : State) : Result :=
  .next (s.whenWorking (fun s => imgCorCommit n (m == .beats) (s.lost (m == .lost) (R.IMG_RACE n))))

/-- IMG_SCRIPT_RUN (04 R136). -/
def execImgScriptRun (n : Fin 10) (s : State) : Result := .next (s.whenWorking (scriptRun n))

/-- SHADING_LOAD (05 R164, R165). -/
def execShadingLoad (n : Fin 10) (s : State) : Result := .next (s.whenWorking (shadingLoad n))

/-- SHADING_LOAD_DONE (05 R166), with what its read meets; `lost`: it lost to a commit at its boundary. -/
def execShadingLoadDone (n : Fin 10) (x : SpanRead) (lost : Bool) (s : State) : Result :=
  .next (s.whenWorking (fun s => shadingLoadDone n x (s.lost lost (R.IMG_RACE n))))

/-- LINE_RECORD_COMPLETE (05 R178). -/
def execLineRecordComplete (n : Fin 10) (s : State) : Result := .next (s.whenWorking (lineComplete n))

/-- SWATH_END (05 R180). -/
def execSwathEnd (n : Fin 10) (s : State) : Result := .next (s.whenWorking (swathEnd n))

end Sys2Proof.Machine
end

