-- ==== Sys2Proof/Machine/Precision.lean ====
section
/-!
DEFINITION. Precision measurements, self-calibration, impedance tests and current loops (09_precision_measurement.md).
-/

namespace Sys2Proof.Machine

/-- A modulator. -/
def State.mod (s : State) (m : Nat) : ModSt := Sparse.get (fun _ => {}) s.prec.mods m

/-- A modulator replaced. -/
def State.setMod (s : State) (m : Nat) (x : ModSt) : State :=
  { s with prec := { s.prec with mods := Sparse.put (fun _ => some {}) s.prec.mods m x } }

/-- A measurement's hidden state. -/
def State.meas (s : State) (k : Nat) : MeasSt := Sparse.get (fun _ => {}) s.prec.meas k

/-- A measurement's hidden state replaced. -/
def State.setMeas (s : State) (k : Nat) (x : MeasSt) : State :=
  { s with prec := { s.prec with meas := Sparse.put (fun _ => some {}) s.prec.meas k x } }

/-- A loop's hidden state. -/
def State.loop (s : State) (n : Nat) : LoopSt := Sparse.get (fun _ => {}) s.prec.loops n

/-- A loop's hidden state replaced. -/
def State.setLoop (s : State) (n : Nat) (x : LoopSt) : State :=
  { s with prec := { s.prec with loops := Sparse.put (fun _ => some {}) s.prec.loops n x } }

/-- A thermal statistic kept for the loops. -/
def State.setStat (s : State) (i : Nat) (x : StatSt) : State :=
  { s with prec := { s.prec with stats := Sparse.put (fun _ => some {}) s.prec.stats i x } }

/-- CFG_REFUSED set, with the CFG event on becoming set (09 R316). -/
def precRefused (s : State) : State := s.flagEvent R.PREC_CTRL F.PREC_CTRL_CFG_REFUSED 405

/-! ### Settings -/

/-- The shadow set of a measurement (09, M_k_CTRL). -/
def measUnit (k : Nat) : CommitUnit :=
  ⟨R.M_CTRL k, F.M_CTRL_COMMIT_PENDING,
    [R.M_CFG k, R.M_EXC k, R.M_TRIG k, R.M_RREF k, R.M_R0 k, R.M_LEAD k, R.M_IMP_CFG k], none⟩

/-- MODE of a setting: 0b11 is taken as off (09 R297). -/
def modeOf (cfg : Word) : Nat := let m := cfg.get F.M_CFG_MODE; if m = 3 then 0 else m

/-- MODE in force. -/
def measMode (s : State) (k : Nat) : Nat := modeOf (s.inForce (R.M_CFG k))

/-- The setting that the next conversion runs under: the waiting set's, if one waits (09 R302). -/
def nextCfg (s : State) (k : Nat) : Word := if (measUnit k).waits s then s.reg (R.M_CFG k) else s.inForce (R.M_CFG k)

/-- As `nextCfg`, the excitation. -/
def nextExc (s : State) (k : Nat) : Word := if (measUnit k).waits s then s.reg (R.M_EXC k) else s.inForce (R.M_EXC k)

/-- Whether a setting measures with three wires: WIRING applies to KIND 0b01 and 0b10 (09 R296). -/
def threeWire (cfg : Word) : Bool :=
  cfg.get F.M_CFG_WIRING == 1 && (cfg.get F.M_CFG_KIND == 1 || cfg.get F.M_CFG_KIND == 2)

/-- The excitation pins that a setting names (09 R301). -/
def pinsOf (cfg exc : Word) : List Nat :=
  if exc.get F.M_EXC_EXC_EN = 1 then
    exc.get F.M_EXC_EXC_A :: (if threeWire cfg then [exc.get F.M_EXC_EXC_B] else [])
  else []

/-- Whether a waiting set is taken without MODE: a continuous measurement beside another enabled one or with three
wires, or an excitation pin that a continuous measurement holds (09 R297, R301). -/
def measConflict (s : State) (k : Nat) : Bool :=
  let cfg := s.reg (R.M_CFG k)
  let mode := modeOf cfg
  let pins := pinsOf cfg (s.reg (R.M_EXC k))
  let others := (List.range 16).filter (fun j => j != k && measMode s j != 0)
  let sameMod (j : Nat) := s.actFld (R.M_CFG j) F.M_CFG_MOD == cfg.get F.M_CFG_MOD
  let pinsIn (j : Nat) := pinsOf (s.inForce (R.M_CFG j)) (s.inForce (R.M_EXC j))
  let shares (j : Nat) := pins.any (fun p => (pinsIn j).contains p)
  mode != 0 &&
    ((mode == 1 && cfg.get F.M_CFG_WIRING == 1) ||
      others.any (fun j => (mode == 1 || measMode s j == 1) && (sameMod j || shares j)))

/-- A measurement's waiting set taken at its boundary (09 R297, R301, R302); a new IMP_INTERVAL runs from there (log entry
102). -/
def measTake (s : State) (k : Nat) : State :=
  if !(measUnit k).waits s then s
  else
    let s := s.cond (measConflict s k) (fun s =>
      precRefused (s.setFld (R.M_CFG k) F.M_CFG_MODE (s.actFld (R.M_CFG k) F.M_CFG_MODE)))
    let anew := s.fld (R.M_IMP_CFG k) F.M_IMP_CFG_IMP_INTERVAL != s.actFld (R.M_IMP_CFG k) F.M_IMP_CFG_IMP_INTERVAL
    let s := (measUnit k).take s
    s.cond anew (fun s => s.setMeas k { s.meas k with impFrom := some s.now })

/-- AVG_EXP of a setting. -/
def avgExp (cfg : Word) : Nat := min 8 (cfg.get F.M_CFG_AVG_EXP)

/-- SHIFT of a setting (09 R292). -/
def shiftOf (cfg : Word) : Nat := min (avgExp cfg) (cfg.get F.M_CFG_SHIFT)

/-- RATE of a setting: codes above 10 are taken as 10 (09 R290). -/
def rateOf (cfg : Word) : Nat := min 10 (cfg.get F.M_CFG_RATE)

/-- The sample period of a RATE in ns (09 R290). -/
def periodOf (rate : Nat) : Nat :=
  [400000000, 200000000, 100000000, 40000000, 20000000, 10000000, 4000000, 2000000, 1000000, 500000].getD rate 250000

/-- REF_SEL of a modulator: 0b11 is taken as 0b00 (09 R305). -/
def refSel (w : Word) (m : Nat) : Nat := w.get (if m = 0 then F.PREC_REF_REF_SEL_0 else F.PREC_REF_REF_SEL_1) % 3

/-- VREF of a modulator in nV, and whether it is external (09 R294, R305). -/
def vrefOf (s : State) (m : Nat) : Int × Bool :=
  let sel := refSel (s.reg R.PREC_REF) m
  if sel = 1 then ((s.fld R.PREC_REF F.PREC_REF_EXT_MV : Int) * 1000000, true)
  else if sel = 2 then (1800000000, false) else (2500000000, false)

/-- The place of REF_READY of a modulator. -/
def refReadyFld (m : Nat) : Fld := if m = 0 then F.PREC_REF_REF_READY_0 else F.PREC_REF_REF_READY_1

/-- Whether a modulator's reference has settled. -/
def refReady (s : State) (m : Nat) : Bool := s.bit R.PREC_REF (refReadyFld m)

/-! ### The test DAC and the inputs (09 R309) -/

/-- What a modulator's input is switched to. -/
inductive AnaIn where
  | ain (n : Nat)
  | refN
  | ground
  | dac
  deriving DecidableEq, Repr

/-- The level on ATST in fV, CODE × 2.5 V / 4,096; `none`: high-impedance (09 R309). -/
def tdacLevel (s : State) : Option Nat :=
  if s.bit R.PREC_TDAC F.PREC_TDAC_TDAC_EN then some (s.fld R.PREC_TDAC F.PREC_TDAC_CODE * 610351562500) else none

/-- The positive input of a measurement: AIN k, or the DAC (09 R309). -/
def posInput (s : State) (k : Nat) : AnaIn := if s.actBit (R.M_CFG k) F.M_CFG_POS_TDAC then .dac else .ain k

/-- The negative input of a measurement (09 R309, M_k_CFG). -/
def negInput (s : State) (k : Nat) : AnaIn :=
  let n := s.actFld (R.M_CFG k) F.M_CFG_NEG
  if n < 16 then .ain n else if n = 16 then .refN else if n = 18 then .dac else .ground

/-- Whether an excursion outside CM_LO to CM_HI is seen: `low` and `high` are the lowest and highest level of the inputs
from the board in µV, and the test DAC's level is an input's where it is switched there (09 R307, R309). -/
def outsideWindow (s : State) (k : Nat) (low high : Int) : Bool :=
  let dac : List Int :=
    if posInput s k = .dac ∨ negInput s k = .dac then (tdacLevel s).toList.map (fun v => (v : Int)) else []
  let below (v : Int) := decide (v < 10 ^ 12 * (s.fld R.PREC_CM F.PREC_CM_CM_LO : Int))
  let above (v : Int) := decide (10 ^ 12 * (s.fld R.PREC_CM F.PREC_CM_CM_HI : Int) < v)
  below (10 ^ 9 * low) || above (10 ^ 9 * high) || dac.any (fun v => below v || above v)

/-! ### Values -/

/-- The Callendar–Van Dusen ratio R / R0 at T = u / 20,000 °C, times 1.6 × 10^32 (09 R295). -/
def cvd (u : Int) : Int :=
  16 * 10 ^ 31 + 39083 * u * (8 * 10 ^ 20) - 5775 * u ^ 2 * (4 * 10 ^ 13) -
    (if u < 0 then 4183 * (u - 2000000) * u ^ 3 else 0)

/-- Whether the rounded solution for a resistance in µΩ, R0 in mΩ, is at least `t` × 0.1 mK; a tie rounds away from
zero. -/
def cvdAtLeast (r r0 t : Int) : Bool :=
  let l := r * (16 * 10 ^ 31)
  let f := r0 * 1000 * cvd (2 * t - 1)
  if 0 < t then decide (f ≤ l) else decide (f < l)

/-- The largest `t` from `lo` that is reached, found by halving steps of 2^n. -/
def cvdSearch (r r0 : Int) : Nat → Int → Int
  | 0, lo => lo
  | n + 1, lo => cvdSearch r r0 n (if lo + 2 ^ n ≤ 8500000 ∧ cvdAtLeast r r0 (lo + 2 ^ n) then lo + 2 ^ n else lo)

/-- The temperature of a resistance in 0.1 mK, and RANGE (09 R295). -/
def rtdTemp (r r0 : Int) : Int × Bool :=
  let l := r * (16 * 10 ^ 31)
  if l < r0 * 1000 * cvd (-4000000) then (-2000000, true)
  else if r0 * 1000 * cvd 17000000 < l then (8500000, true)
  else (cvdSearch r r0 24 (-2000000), false)

/-- A quotient rounded half away from zero; none for a divisor of 0, for which the spec states no value. -/
def ratio (a b : Int) : Option Int := if b = 0 then none else some (divRound a b)

/-- VALUE of a RAW under a measurement's set in force, and RANGE (09 R294 to R296). -/
def valueOf (s : State) (k : Nat) (raw : Int) : Option Int × Bool :=
  let cfg := s.inForce (R.M_CFG k)
  let (vref, ext) := vrefOf s (cfg.get F.M_CFG_MOD)
  let g : Int := 2 ^ (cfg.get F.M_CFG_GAIN + 23 + (avgExp cfg - shiftOf cfg))
  let rref : Int := (s.inForce (R.M_RREF k)).toNat
  let cur : Int := min 1000 (max 50 (s.actFld (R.M_EXC k) F.M_EXC_CURRENT))
  let kind := cfg.get F.M_CFG_KIND
  let ohms := if ext && decide (rref ≠ 0) then ratio (raw * rref * 1000) g else ratio (raw * vref * 1000) (g * cur)
  let wiring := cfg.get F.M_CFG_WIRING
  let lead : Int := if wiring = 0 then (s.inForce (R.M_LEAD k)).toNat * 1000 else 0
  if kind = 0 then (ratio (raw * vref) g, false)
  else if kind = 1 then (ohms.map (· - lead), false)
  else if kind = 2 then
    match ohms with
    | some r => let (t, rng) := rtdTemp (r - lead) (s.inForce (R.M_R0 k)).toNat; (some t, rng)
    | none => (none, false)
  else (ratio (raw * vref * 1000) (g * rref), false)

/-- A sample corrected with the factors of its modulator and gain, and whether it was clamped (09 R291). -/
def correctSample (s : State) (m g : Nat) (code : Int) : Int × Bool :=
  let ofs := toSigned 32 (s.reg (R.PREC_CAL_OFS m g)).toNat
  let v := ((code - ofs) * (s.reg (R.PREC_CAL_GAIN m g)).toNat + 2 ^ 21) / 2 ^ 22
  let c := clampInt (-(2 ^ 23)) (2 ^ 23 - 1) v
  (c, c != v)

/-- RAW of a sum (09 R292). -/
def rawOf (cfg : Word) (sum : Int) : Int :=
  let sh := shiftOf cfg
  if sh = 0 then sum else (sum + 2 ^ (sh - 1)) / 2 ^ sh

/-! ### Triggers -/

/-- PENDING brought up to date: a trigger is queued or delayed. -/
def showPending (s : State) (k : Nat) : State :=
  s.setBit (R.M_CTRL k) F.M_CTRL_PENDING
    ((s.meas k).delay.isSome || s.prec.queue.any (fun r => r.k == k && !r.imp))

/-- The queue replaced. -/
def setPrecQueue (s : State) (q : List PrecReq) : State := { s with prec := { s.prec with queue := q } }

/-- A request queued in order of arrival, requests of one instant in ascending measurement index (09 R299). -/
def enqueue (q : List PrecReq) (r : PrecReq) : List PrecReq :=
  let ahead (x : PrecReq) : Bool := decide (x.at_ < r.at_ ∨ (x.at_ = r.at_ ∧ x.k ≤ r.k))
  q.takeWhile ahead ++ r :: q.dropWhile ahead

/-- A trigger of a measurement that holds a queued or a delayed one: OVERRUN, counted and reported (09 R299). -/
def overrun (k : Nat) (s : State) : State :=
  ((s.flag (R.M_STATUS k) F.M_STATUS_OVERRUN).satInc (R.M_STATUS k) F.M_STATUS_OVERRUNS).raise 400

/-- One trigger of a measurement: ignored by a continuous one and by one that is off with no set waiting that turns it
on; dropped where one is queued or delayed; otherwise delayed (09 R297 to R299, R302). -/
def measTrigger (k : Nat) (s : State) : State :=
  let m := measMode s k
  if m = 1 ∨ (m = 0 ∧ modeOf (nextCfg s k) ≠ 2) then s
  else if s.bit (R.M_CTRL k) F.M_CTRL_PENDING then overrun k s
  else
    let d := 100 * s.actFld (R.M_TRIG k) F.M_TRIG_DELAY
    showPending (s.setMeas k { s.meas k with delay := some (s.now + d) }) k

/-- A trigger source acts: 1 a timer event, 2 and 3 a rising and a falling PWM edge, 4 and 5 the release and the assertion
of a chain's BLK, in ascending measurement index (09 R299). -/
def precTrigger (src index : Nat) (s : State) : State :=
  (List.range 16).foldl (fun s k =>
    if s.actFld (R.M_TRIG k) F.M_TRIG_SRC = src ∧ s.actFld (R.M_TRIG k) F.M_TRIG_INDEX = index then measTrigger k s
    else s) s

/-- A delayed trigger queued; where URGENT has queued one since, it overruns (09 R298 to R300; log entry 103). -/
def triggerDelayEnd (k : Nat) (s : State) : State :=
  match (s.meas k).delay with
  | some t =>
    let s := (s.reach t).setMeas k { s.meas k with delay := none }
    if s.prec.queue.any (fun r => r.k == k && !r.imp) then showPending (overrun k s) k
    else showPending (setPrecQueue s (enqueue s.prec.queue ⟨k, false, false, t⟩)) k
  | none => s

/-- URGENT: the queued trigger, or a new one, at the head behind earlier urgent ones (09 R300). -/
def measUrgent (k : Nat) (s : State) : State :=
  let m := measMode s k
  if m = 1 ∨ (m = 0 ∧ modeOf (nextCfg s k) ≠ 2) then s
  else if s.prec.queue.any (fun r => r.k == k && !r.imp && r.urgent) then s
  else
    let q := s.prec.queue.filter (fun r => !(r.k == k && !r.imp))
    showPending (setPrecQueue s (enqueue q ⟨k, false, true, s.now⟩)) k

/-! ### Conversions -/

/-- The excitation pin that a modulator's phase holds (09 R301). -/
def heldPin (s : State) (m : Nat) : Option Nat :=
  let x := s.mod m
  match x.run with
  | some k =>
    let exc := s.inForce (R.M_EXC k)
    if x.waits ∨ exc.get F.M_EXC_EXC_EN = 0 then none
    else some (exc.get (if x.phase2 then F.M_EXC_EXC_B else F.M_EXC_EXC_A))
  | none => none

/-- Whether a pin is free for a modulator. -/
def pinFree (s : State) (m : Nat) (exc : Word) (phase2 : Bool) : Bool :=
  exc.get F.M_EXC_EXC_EN == 0 ||
    heldPin s (1 - m) != some (exc.get (if phase2 then F.M_EXC_EXC_B else F.M_EXC_EXC_A))

/-- The next request of a modulator: urgent ones first, each kind in order of arrival (09 R299, R300). -/
def nextReq (s : State) (m : Nat) : Option PrecReq :=
  let l := s.prec.queue.filter (fun r => (nextCfg s r.k).get F.M_CFG_MOD == m)
  match l.find? (·.urgent) with
  | some r => some r
  | none => l.head?

/-- A measurement on a modulator that is, or is about to become, continuous and does not run yet. -/
def dueContinuous (s : State) (m : Nat) : Option Nat :=
  (List.range 16).find? (fun k => modeOf (nextCfg s k) == 1 && (nextCfg s k).get F.M_CFG_MOD == m)

/-- BUSY of a measurement. -/
def setBusy (s : State) (k : Nat) (b : Bool) : State := s.setBit (R.M_STATUS k) F.M_STATUS_BUSY b

/-- The midpoint of a window's span (09 R310). -/
def midTime (cfg : Word) (x : ModSt) : Option Nat :=
  match x.t0, x.t1 with
  | some a, some b => some ((a - 4 * periodOf (cfg.get F.M_CFG_RATE) + b) / 2)
  | _, _ => none

/-- A result formed (09 R294, R304, R306, R310). `raw` is none for an INVALID result. -/
def precResult (s : State) (m k : Nat) (x : ModSt) (raw : Option Int) : State :=
  let cfg := s.inForce (R.M_CFG k)
  let done := s.fld R.PREC_CAL_DONE (if m = 0 then F.PREC_CAL_DONE_DONE_0 else F.PREC_CAL_DONE_DONE_1)
  let nocal := decide (done / 2 ^ cfg.get F.M_CFG_GAIN % 2 = 0)
  let (v, rng) := match raw with
    | some r => valueOf s k r
    | none => (none, false)
  let fits := match raw with
    | some r => decide (-(2 ^ 31) ≤ r ∧ r < (2 ^ 31 : Int))
    | none => false
  let res : PrecRes := ⟨k, if fits then raw else none, v, raw.isNone, x.cut, nocal, x.sat, rng, midTime cfg x,
    cfg.get F.M_CFG_KIND⟩
  { s with prec := { s.prec with results := s.prec.results ++ [res] } }

/-- A conversion begun on a modulator: the waiting set is taken. A set that turns the measurement off leaves one
INVALID result, since the conversion cannot complete; without a trigger only a continuous measurement begins (09 R297,
R298, R302, R304). -/
def convBegin (s : State) (m k : Nat) (triggered : Bool) : State :=
  let s := measTake s k
  if measMode s k = 0 then
    if triggered then precResult s m k {} none else s
  else if !triggered ∧ measMode s k ≠ 1 then s
  else if s.actFld (R.M_CFG k) F.M_CFG_MOD ≠ m then s
  else setBusy (s.setMod m { run := some k, test := (s.mod m).test, startAt := s.now }) k true

/-- A queued conversion, test or second phase starts where its modulator, its reference and its pin are free; a
self-calibration that waits or runs lets the second phase of a conversion start and nothing else (09 R298 to R302, R305,
R306). -/
def convStart (m : Nat) (s : State) : State :=
  let x := s.mod m
  if (s.prec.cal.isSome ∧ !(x.run.isSome && x.waits)) ∨ x.test.isSome then s
  else
    match x.run with
    | some k =>
      if x.waits then
        if pinFree s m (s.inForce (R.M_EXC k)) true then s.setMod m { x with waits := false, startAt := s.now } else s
      else if measMode s k = 1 then
        match nextReq s m with
        | some r =>
          if r.imp ∧ refReady s m then
            (setPrecQueue s (s.prec.queue.filter (· != r))).setMod m { x with test := some r.k }
          else s
        | none => s
      else s
    | none =>
      match nextReq s m with
      | some r =>
        if !refReady s m then s
        else if r.imp then
          (setPrecQueue s (s.prec.queue.filter (· != r))).setMod m { x with test := some r.k }
        else if pinFree s m (nextExc s r.k) false then
          let s := showPending (setPrecQueue s (s.prec.queue.filter (· != r))) r.k
          convBegin s m r.k true
        else s
      | none =>
        match dueContinuous s m with
        | some k => if pinFree s m (nextExc s k) false then convBegin s m k false else s
        | none => s

/-- The time from a phase's start to its settled excitation in ns: EXC_SETTLE, 1 to 100, × 0.1 ms; 1 µs with EXC_EN clear
(09 R298). -/
def settleTime (exc : Word) : Nat :=
  if exc.get F.M_EXC_EXC_EN = 1 then 100000 * min 100 (max 1 (exc.get F.M_EXC_EXC_SETTLE)) else 1000

/-- Excitation has settled and the filter is reset: four samples are suppressed (09 R293, R298). -/
def excSettleEnd (m : Nat) (s : State) : State :=
  let x := s.mod m
  match x.run with
  | some k =>
    if x.waits ∨ x.settled then s
    else (s.reach (x.startAt + settleTime (s.inForce (R.M_EXC k)))).setMod m
      { x with settled := true, sup := 4, pos := 0, sum := 0 }
  | none => s

/-- A window begun anew. -/
def ModSt.fresh (x : ModSt) : ModSt :=
  { x with pos := 0, sum := 0, bad := false, sat := false, cut := false, t0 := none, t1 := none }

/-- A sample of a triggered conversion (09 R292, R293, R296, R298). RAW of a 3-wire conversion is phase 1 less
phase 2. -/
def triggeredSample (s : State) (m k : Nat) (x : ModSt) (v : Int) (sat : Bool) : State :=
  let cfg := s.inForce (R.M_CFG k)
  if 0 < x.sup then s.setMod m { x with sup := x.sup - 1 }
  else
    let x := { x with pos := x.pos + 1, sum := x.sum + v, sat := x.sat || sat,
                      t0 := if x.t0.isSome then x.t0 else some s.now, t1 := some s.now }
    if x.pos < 2 ^ avgExp cfg then s.setMod m x
    else if threeWire cfg ∧ !x.phase2 then
      s.setMod m { x with phase2 := true, waits := true, settled := false, raw1 := rawOf cfg x.sum, pos := 0, sum := 0 }
    else
      let raw := if x.phase2 then x.raw1 - rawOf cfg x.sum else rawOf cfg x.sum
      setBusy (precResult (s.setMod m {}) m k x (some raw)) k false

/-- A sample of a continuous measurement: the cadence of one result per N samples goes on whatever is suppressed or
discarded (09 R304). -/
def continuousSample (s : State) (m k : Nat) (x : ModSt) (v : Int) (sat quiet : Bool) : State :=
  let cfg := s.inForce (R.M_CFG k)
  let skip := quiet || decide (0 < x.sup)
  let x := { x with pos := x.pos + 1, sup := if quiet then 4 else x.sup - 1, bad := x.bad || skip,
                    sum := if skip then x.sum else x.sum + v, sat := x.sat || (sat && !skip),
                    t0 := if skip ∨ x.t0.isSome then x.t0 else some s.now, t1 := if skip then x.t1 else some s.now }
  if x.pos < 2 ^ avgExp cfg then s.setMod m x
  else precResult (s.setMod m x.fresh) m k x (if x.bad then none else some (rawOf cfg x.sum))

/-- The boundary of a continuous measurement's set, its next sample: a change of gain or rate suppresses four samples; a
change of AVG_EXP, SHIFT or KIND discards the partial window; a measurement that is no longer continuous on this
modulator stops (09 R302). -/
def continuousTake (s : State) (m k : Nat) : State :=
  if !(measUnit k).waits s then s
  else
    let old := s.inForce (R.M_CFG k)
    let s := measTake s k
    let new := s.inForce (R.M_CFG k)
    let x := s.mod m
    let same (f : Fld) := old.get f == new.get f
    if modeOf new ≠ 1 ∨ new.get F.M_CFG_MOD ≠ m then setBusy (s.setMod m { test := x.test }) k false
    else if !(same F.M_CFG_GAIN && rateOf old == rateOf new) then
      s.setMod m { x with sup := 4, sum := 0, t0 := none, t1 := none, bad := x.bad || decide (0 < x.pos) }
    else if !(same F.M_CFG_AVG_EXP && same F.M_CFG_SHIFT && same F.M_CFG_KIND) then
      s.setMod m { x with sum := 0, t0 := none, t1 := none, bad := x.bad || decide (0 < x.pos) }
    else s

/-- A modulator's sample: its code, and the lowest and highest level of the two inputs since the last sample, in µV
(09 R291, R307). A self-calibration leaves a triggered conversion its samples until it ends (09 R306). -/
def modulatorSample (m : Nat) (code : Nat) (low high : Int) (s : State) : State :=
  match (s.mod m).run with
  | none => s
  | some k =>
    if !(s.mod m).settled then s
    else
      let s := s.cond (measMode s k == 1) (fun s => continuousTake s m k)
      let x := s.mod m
      if x.run ≠ some k then s
      else
        let away := x.test.isSome || (s.prec.cal.isSome && measMode s k == 1)
        let quiet := away || !refReady s m
        let cut := !away && outsideWindow s k low high
        let s := s.cond cut (fun s => s.raise 401)
        let x := { x with cut := x.cut || cut }
        let c := toSigned 24 code
        let (v, clamp) := correctSample s m (s.actFld (R.M_CFG k) F.M_CFG_GAIN) c
        let sat := clamp || decide (c = 2 ^ 23 - 1) || decide (c = -(2 ^ 23))
        if measMode s k = 1 then continuousSample s m k x v sat quiet
        else if quiet then s.setMod m x
        else triggeredSample s m k x v sat

/-- COMMIT of a measurement (09 R302). A set that turns off the measurement whose triggered conversion runs ends that
conversion: the set is taken, and one INVALID result is left (09 R304; log entry 104). -/
def measCommit (k : Nat) (s : State) : State :=
  let s := (measUnit k).commit s
  if modeOf (s.reg (R.M_CFG k)) = 0 ∧ measMode s k = 2 then
    match [0, 1].find? (fun m => (s.mod m).run == some k) with
    | some m =>
      let x := s.mod m
      setBusy (measTake (precResult (s.setMod m {}) m k x none) k) k false
    | none => s
  else s

/-- The oldest result of a measurement published: registers, flags, TIME, SEQ, the RESULT event; what its consumers take
(09 R304, R310, R311, R316). A RAW, VALUE or TIME that the spec does not state is a free value. -/
def resultPublish (k : Nat) (s : State) : State :=
  match s.prec.results.find? (fun r => r.k == k) with
  | none => s
  | some r =>
    let s := { s with prec := { s.prec with results := s.prec.results.erase r } }
    let st := R.M_STATUS k
    let s := if r.invalid then s
      else
        let s := match r.raw with
          | some v => s.setReg (R.M_RAW k) (BitVec.ofNat 32 (ofSigned 32 v))
          | none => (s.setReg (R.M_RAW k) s.free).drawn
        match r.value with
        | some v => s.setSreg64 (R.M_VALUE_LO k) v
        | none => (((s.setReg (R.M_VALUE_LO k) s.free).drawn.setReg (R.M_VALUE_HI k) s.drawn.free).drawn)
    let s := match r.time with
      | some t => s.setReg64 (R.M_TIME_LO k) t
      | none => (((s.setReg (R.M_TIME_LO k) s.free).drawn.setReg (R.M_TIME_HI k) s.drawn.free).drawn)
    let s := ((s.setBit st F.M_STATUS_INVALID r.invalid).setBit st F.M_STATUS_OPEN r.cut).setBit st F.M_STATUS_NOCAL
      r.nocal
    let s := (s.setBit st F.M_STATUS_SAT r.sat).setBit st F.M_STATUS_RANGE r.range
    let s := s.wrapInc st F.M_STATUS_SEQ
    let bad := r.invalid || r.cut
    let v := s.sreg64 (R.M_VALUE_LO k)
    let x := s.meas k
    let s := s.setMeas k { x with pubAt := some s.now, bad := bad,
                                  good := if bad then x.good else some (v, s.reg64 (R.M_TIME_LO k), r.kind) }
    s.cond (s.actBit (R.M_CFG k) F.M_CFG_RES_EVT) (fun s => s.raise (384 + k))

/-! ### Self-calibration, impedance, references -/

/-- Four samples suppressed on a modulator that runs. -/
def suppress (s : State) (m : Nat) : State := s.setMod m { s.mod m with sup := if (s.mod m).run.isSome then 4 else 0 }

/-- A calibration ends: CAL_BUSY falls, the path of both modulators has changed, the CAL event (09 R293, R306). -/
def calEnd (s : State) : State :=
  let s := { s with prec := { s.prec with cal := none } }
  (suppress (suppress (s.setBit R.PREC_CTRL F.PREC_CTRL_CAL_BUSY false) 0) 1).raise 403

/-- CAL_START: the gains of CAL_GAINS in ascending order (09 R306). One that runs goes on. -/
def calStart (s : State) : State :=
  if s.prec.cal.isSome then s
  else
    let g := s.fld R.PREC_CTRL F.PREC_CTRL_CAL_GAINS
    let l := (List.range 8).filter (fun i => g / 2 ^ i % 2 == 1)
    let s := ({ s with prec := { s.prec with cal := some l } }).setBit R.PREC_CTRL F.PREC_CTRL_CAL_BUSY true
    if l = [] then calEnd s else s

/-- One modulator's factors of a gain kept or refused (09 R306). -/
def keepFactors (s : State) (m g : Nat) (ofs : Int) (gain : Nat) : State :=
  if 0x39999A ≤ gain ∧ gain ≤ 0x466666 ∧ ofs.natAbs < 2 ^ 19 then
    let s := s.setReg (R.PREC_CAL_OFS m g) (BitVec.ofNat 32 (ofSigned 32 ofs))
    let s := s.setReg (R.PREC_CAL_GAIN m g) (BitVec.ofNat 32 gain)
    s.setBit R.PREC_CAL_DONE ⟨8 * m + g, 1⟩ true
  else s.flag R.PREC_CTRL F.PREC_CTRL_CAL_ERR

/-- The calibration of the next gain ends, once no triggered conversion runs (09 R306). -/
def calGainDone (ofs0 : Int) (gain0 : Nat) (ofs1 : Int) (gain1 : Nat) (s : State) : State :=
  let busy (m : Nat) : Bool := match (s.mod m).run with
    | some k => measMode s k != 1
    | none => false
  match s.prec.cal with
  | some (g :: l) =>
    if busy 0 || busy 1 || (s.mod 0).test.isSome || (s.mod 1).test.isSome then s
    else
      let s := keepFactors (keepFactors s 0 g ofs0 gain0) 1 g ofs1 gain1
      if l = [] then calEnd s else { s with prec := { s.prec with cal := some l } }
  | _ => s

/-- When the next impedance test of a measurement falls due: IMP_INTERVAL s after the last one, after the set that brought
the interval, or after the start (09 R308; log entry 102). -/
def impDueAt (s : State) (k : Nat) : Nat :=
  (s.meas k).impFrom.getD s.boot.startAt + 10 ^ 9 * s.actFld (R.M_IMP_CFG k) F.M_IMP_CFG_IMP_INTERVAL

/-- An impedance test falls due: queued unless one is (09 R308). -/
def impTestDue (k : Nat) (s : State) : State :=
  if s.actFld (R.M_IMP_CFG k) F.M_IMP_CFG_IMP_INTERVAL = 0 then s
  else
    let due := impDueAt s k
    let s := (s.reach due).setMeas k { s.meas k with impFrom := some due }
    if s.prec.queue.any (fun r => r.k == k && r.imp) then s
    else setPrecQueue s (enqueue s.prec.queue ⟨k, true, false, due⟩)

/-- A modulator's impedance test ends: IMPED, HIGH_Z with its event on becoming set (09 R293, R308). -/
def impTestDone (m ohms : Nat) (s : State) : State :=
  match (s.mod m).test with
  | none => s
  | some k =>
    let s := suppress (s.setMod m { s.mod m with test := none }) m
    let s := s.setReg (R.M_IMPED k) (BitVec.ofNat 32 (min 0xFFFFFFFF ohms))
    if s.actFld (R.M_IMP_CFG k) F.M_IMP_CFG_IMP_LIMIT < ohms then s.flagEvent (R.M_STATUS k) F.M_STATUS_HIGH_Z 402
    else s.setBit (R.M_STATUS k) F.M_STATUS_HIGH_Z false

/-- A modulator's reference settles (09 R293, R305). -/
def refSettled (m : Nat) (s : State) : State :=
  if refReady s m then s else suppress ((s.setBit R.PREC_REF (refReadyFld m) true).raise 404) m

/-- A write of PREC_REF or PREC_CM has put its new word in the register, `old` being the one before: a run refuses it, and
a changed reference settles anew (09 R305, R317). -/
def precRefWritten (a : Nat) (old : Word) (s : State) : State :=
  if s.runActive then precRefused (s.setReg a old)
  else
    let drop (s : State) (m : Nat) : State :=
      if refSel (s.reg a) m = refSel old m then s
      else s.cond (refReady s m) (fun s => (s.setBit R.PREC_REF (refReadyFld m) false).raise 404)
    if a = R.PREC_REF then drop (drop s 0) 1 else s

/-! ### Current loops -/

/-- The shadow set of a loop (09, LOOP_n_CTRL). -/
def loopUnit (n : Nat) : CommitUnit :=
  ⟨R.LOOP_CTRL n, F.LOOP_CTRL_COMMIT_PENDING, [R.LOOP_CFG n, R.LOOP_LO n, R.LOOP_HI n], none⟩

/-- A loop's set taken at its tick, without LO and HI where they are equal (09 R312). -/
def loopTake (s : State) (n : Nat) : State :=
  if !(loopUnit n).waits s then s
  else
    let s := s.cond (s.reg (R.LOOP_LO n) == s.reg (R.LOOP_HI n)) (fun s =>
      precRefused ((s.setReg (R.LOOP_LO n) (s.inForce (R.LOOP_LO n))).setReg (R.LOOP_HI n) (s.inForce (R.LOOP_HI n))))
    (loopUnit n).take s

/-- A loop's source: its value, when it was last refreshed, whether its newest result is invalid (09 R312, R313). -/
def loopSource (s : State) (n : Nat) : Int × Option Nat × Bool :=
  let cfg := s.inForce (R.LOOP_CFG n)
  let sel := cfg.get F.LOOP_CFG_SRC_SEL
  let src := cfg.get F.LOOP_CFG_SRC
  if src = 1 then
    let x := s.meas (sel % 16)
    let v := match x.good with
      | some g => g.1
      | none => 0
    (satSigned 32 v, x.pubAt, x.bad)
  else if src = 2 then
    let x := Sparse.get (fun _ => ({} : StatSt)) s.prec.stats (sel - 0x40)
    (x.v, x.updated, x.stale)
  else (toSigned 32 (s.reg (R.LOOP_VALUE n)).toNat, (s.loop n).writtenAt, false)

/-- A LOOP flag that follows a condition, with the LOOP event on becoming set (09 R313, R316). -/
def loopFlag (s : State) (n : Nat) (f : Fld) (b : Bool) : State :=
  if b then s.flagEvent (R.LOOP_STATUS n) f (406 + n) else s.setBit (R.LOOP_STATUS n) f false

/-- Since when a condition holds. -/
def since (b : Bool) (now : Nat) (old : Option Nat) : Option Nat :=
  if b then (if old.isSome then old else some now) else none

/-- Whether a condition has held for a time. -/
def heldFor (o : Option Nat) (now d : Nat) : Bool :=
  match o with
  | some t => decide (t + d ≤ now)
  | none => false

/-- The 1 ms tick of a loop: its set, its setpoint, its source's age and validity, the drive (09 R312 to R314). With
HI = LO in force, which only a spore's own set can bring, the spec states no setpoint: a free value. -/
def loopTick (n readback : Nat) (atLimit : Bool) (s : State) : State :=
  let s := loopTake s n
  let st := R.LOOP_STATUS n
  let rd := R.LOOP_READ n
  let s := s.setFld rd F.LOOP_READ_READBACK (min 0xFFFF readback)
  let cfg := s.inForce (R.LOOP_CFG n)
  if cfg.get F.LOOP_CFG_ENABLE = 0 then
    (((s.setFld st F.LOOP_STATUS_STATE 0).setFld rd F.LOOP_READ_SETPOINT 0).setLoop n
      { s.loop n with limitFrom := none, offFrom := none })
  else
    let (v, at_, bad) := loopSource s n
    let limit := 10000000 * max 1 (cfg.get F.LOOP_CFG_TIMEOUT)
    let stale := match at_ with
      | some t => decide (t + limit < s.now)
      | none => true
    let s := loopFlag s n F.LOOP_STATUS_SRC_STALE stale
    let inv := bad && decide (cfg.get F.LOOP_CFG_INVALID_FAIL = 1)
    let s := loopFlag s n F.LOOP_STATUS_SRC_INVALID inv
    let fail := s.bit (R.LOOP_CTRL n) F.LOOP_CTRL_FAIL || stale || inv
    let lo := toSigned 32 (s.inForce (R.LOOP_LO n)).toNat
    let hi := toSigned 32 (s.inForce (R.LOOP_HI n)).toNat
    let q : Int := if hi = lo then s.free.toNat else divRound (16000 * (v - lo)) (hi - lo)
    let s := s.cond (hi == lo) State.drawn
    let i := clampInt 3800 20500 (4000 + q)
    let set : Nat := if fail then (if cfg.get F.LOOP_CFG_FAIL_HIGH = 1 then 21500 else 3500) else i.toNat
    let s := s.setBit st F.LOOP_STATUS_CLAMP (decide (i ≠ 4000 + q))
    let s := (s.setFld st F.LOOP_STATUS_STATE (if fail then 2 else 1)).setFld rd F.LOOP_READ_SETPOINT set
    let x := s.loop n
    let x := { x with limitFrom := since (atLimit && decide (readback + 500 < set)) s.now x.limitFrom,
                      offFrom := since (!atLimit && decide (100 < ((readback : Int) - set).natAbs)) s.now x.offFrom }
    let s := s.setLoop n x
    let s := s.cond (heldFor x.limitFrom s.now 10000000) (fun s =>
      s.flagEvent st F.LOOP_STATUS_LOOP_OPEN (406 + n))
    s.cond (heldFor x.offFrom s.now 50000000) (fun s => s.flagEvent st F.LOOP_STATUS_MISMATCH (406 + n))

/-- What LOOPn_DRV regulates to in µA: the setpoint while the island's clock runs, in BOOT, RUN and MAINT; off, 0, in
SAFE, HALT and OFF (09 R315, 02 R76). -/
def loopDrive (s : State) (n : Nat) : Nat :=
  match s.mode with
  | .boot | .run | .maint => s.fld (R.LOOP_READ n) F.LOOP_READ_SETPOINT
  | .safe | .halt | .off => 0

/-- COMMIT of a loop (09 R312). -/
def loopCommit (n : Nat) (s : State) : State := (loopUnit n).commit s

/-- LOOP_n_VALUE has been written: each write is a refresh (09 R313). -/
def loopRefresh (n : Nat) (s : State) : State := s.setLoop n { s.loop n with writtenAt := some s.now }

/-! ### The commands -/

/-- MEAS_TRIGGER (09 R299, R303). -/
def execMeasTrigger (k : Fin 16) (lost : Bool) (s : State) : Result :=
  .next (s.whenWorking (fun s => measTrigger k (s.lost lost R.PREC_RACE)))

/-- MEAS_URGENT (09 R300, R303). -/
def execMeasUrgent (k : Fin 16) (lost : Bool) (s : State) : Result :=
  .next (s.whenWorking (fun s => measUrgent k (s.lost lost R.PREC_RACE)))

/-- MEAS_COMMIT (09 R302, R303). -/
def execMeasCommit (k : Fin 16) (lost : Bool) (s : State) : Result :=
  .next (s.whenWorking (fun s => measCommit k (s.lost lost R.PREC_RACE)))

/-- CAL_START (09 R306). -/
def execCalStart (s : State) : Result := .next (s.whenWorking calStart)

/-- CAL_GAIN_DONE (09 R306): the offset and the gain that the two readings give, per modulator. -/
def execCalGainDone (ofs0 : Int) (gain0 : Nat) (ofs1 : Int) (gain1 : Nat) (s : State) : Result :=
  .next (s.whenWorking (calGainDone ofs0 gain0 ofs1 gain1))

/-- TRIGGER_DELAY_END (09 R298). -/
def execTriggerDelayEnd (k : Fin 16) (s : State) : Result := .next (s.whenWorking (triggerDelayEnd k))

/-- CONVERSION_START (09 R298, R301, R303). -/
def execConversionStart (m : Fin 2) (lost : Bool) (s : State) : Result :=
  .next (s.whenWorking (fun s => convStart m (s.lost lost R.PREC_RACE)))

/-- EXC_SETTLE_END (09 R298). -/
def execExcSettleEnd (m : Fin 2) (s : State) : Result := .next (s.whenWorking (excSettleEnd m))

/-- MODULATOR_SAMPLE (09 R291, R307). -/
def execModulatorSample (m : Fin 2) (code : Fin 16777216) (low high : Int) (t : Nat) (s : State) : Result :=
  .next (s.whenWorking (fun s => modulatorSample m code low high (s.reach t)))

/-- IMP_TEST_DUE (09 R308). -/
def execImpTestDue (k : Fin 16) (s : State) : Result := .next (s.whenWorking (impTestDue k))

/-- IMP_TEST_DONE (09 R308). -/
def execImpTestDone (m : Fin 2) (ohms : Nat) (s : State) : Result := .next (s.whenWorking (impTestDone m ohms))

/-- REF_SETTLED (09 R305). -/
def execRefSettled (m : Fin 2) (s : State) : Result := .next (s.whenWorking (refSettled m))

/-- LOOP_TICK (09 R312): the readback in µA and whether the drive is at its limit. -/
def execLoopTick (n : Fin 2) (t readback : Nat) (atLimit lost : Bool) (s : State) : Result :=
  .next (s.whenWorking (fun s => loopTick n readback atLimit ((s.reach t).lost lost R.PREC_RACE)))

/-- LOOP_COMMIT (09 R312). -/
def execLoopCommit (n : Fin 2) (lost : Bool) (s : State) : Result :=
  .next (s.whenWorking (fun s => loopCommit n (s.lost lost R.PREC_RACE)))

/-- LOOP_VALUE_WRITE (09 R313). -/
def execLoopValueWrite (n : Fin 2) (v : Word) (lost : Bool) (s : State) : Result :=
  .next (s.whenWorking (fun s => loopRefresh n ((s.lost lost R.PREC_RACE).setReg (R.LOOP_VALUE n) v)))

end Sys2Proof.Machine
end

