-- ==== Sys2Proof/Machine/Lamp.lean ====
section
/-!
DEFINITION. The lamp chains: drive words, frames, hand-over boundaries, strobing, matrices, lamp faults and their fault
intervals (06_illumination.md).
-/

namespace Sys2Proof.Machine

/-- A lamp chain's hidden state. -/
def State.lamp (s : State) (n : Nat) : LampSt := Sparse.get (fun _ => {}) s.lamps n

/-- A lamp chain's hidden state replaced. -/
def State.setLamp (s : State) (n : Nat) (x : LampSt) : State :=
  { s with lamps := Sparse.put (fun _ => some {}) s.lamps n x }

/-- The shadow set of a chain (06, LCn_CTRL). -/
def lampUnit (n : Nat) : CommitUnit :=
  ⟨R.LC_CTRL n, F.LC_CTRL_COMMIT_PENDING,
    [R.LC_PERIOD n, R.LC_STROBE n] ++ (List.range 8).flatMap (fun g => [R.LCG_LEVEL n g, R.LCG_CFG n g]),
    some (R.LC_COMMIT_TAKEN_LO n)⟩

/-- MODE of a chain: 0b11 is taken as continuous (06 R200). -/
def lampMode (s : State) (n : Nat) : Nat := let m := s.fld (R.LC_CFG n) F.LC_CFG_MODE; if m = 3 then 0 else m

/-- ENABLE of a chain. -/
def lampOn (s : State) (n : Nat) : Bool := s.bit (R.LC_CFG n) F.LC_CFG_ENABLE

/-- The driver ICs of a chain. -/
def lampIcs (s : State) (n : Nat) : Nat := s.fld (R.LC_CFG n) F.LC_CFG_N_IC + 1

/-- The rows of a chain: 1 outside a matrix (06 R213). -/
def lampRows (s : State) (n : Nat) : Nat :=
  if lampMode s n = 2 then min 8 (max 2 (s.fld (R.LC_MATRIX n) F.LC_MATRIX_ROWS)) else 1

/-- PWM_BITS, DAC_BITS and FLAG_BITS of a chain, held to their ranges (06, LCn_LAYOUT). -/
def lampBits (s : State) (n : Nat) : Nat × Nat × Nat :=
  (min 16 (s.fld (R.LC_LAYOUT n) F.LC_LAYOUT_PWM_BITS), min 8 (s.fld (R.LC_LAYOUT n) F.LC_LAYOUT_DAC_BITS),
    min 8 (s.fld (R.LC_LAYOUT n) F.LC_LAYOUT_FLAG_BITS))

/-- HDR_BITS of a chain. -/
def lampHdrBits (s : State) (n : Nat) : Nat := min 32 (s.fld (R.LC_LAYOUT n) F.LC_LAYOUT_HDR_BITS)

/-- The bits of a channel slot, C (06 R196). -/
def slotBits (s : State) (n : Nat) : Nat := let (p, d, f) := lampBits s n; p + d + f

/-- The frame length L (06 R196). -/
def frameBits (s : State) (n : Nat) : Nat := lampIcs s n * (lampHdrBits s n + 16 * slotBits s n)

/-- A CFG flag of LCn_STATE, with its event on becoming set (06 R219). -/
def lampCfgFlag (s : State) (n : Nat) (f : Fld) : State := s.flagEvent (R.LC_STATE n) f (Ev.lamp n 5)

/-- STATE of a group. -/
def groupState (s : State) (n g : Nat) : Nat := s.fld (R.LCG_STATE n g) F.LCG_STATE_STATE

/-! ### From level to drive words (06 R207 to R210) -/

/-- Entry k of a curve. -/
def curveAt (s : State) (n g k : Nat) : Nat :=
  s.fld (R.CURVE n g (k / 2)) (if k % 2 = 0 then F.CURVE_ENTRY_EVEN else F.CURVE_ENTRY_ODD)

/-- The linear target of a LEVEL (06 R207). -/
def linearTarget (s : State) (n g level : Nat) (curve : Bool) : Nat :=
  if curve then
    let i := level / 64
    let f := level % 64
    let a : Int := curveAt s n g i
    (a + (((curveAt s n g (min (i + 1) 1023) : Int) - a) * f + 32) / 64).toNat
  else level

/-- The gain of a bin for a colour (06 R208). -/
def binGain (s : State) (b c : Nat) : Nat :=
  if c = 0 then s.fld (R.BIN_LO b) F.BIN_LO_GAIN_0 else if c = 1 then s.fld (R.BIN_LO b) F.BIN_LO_GAIN_1
  else if c = 2 then s.fld (R.BIN_HI b) F.BIN_HI_GAIN_2 else s.fld (R.BIN_HI b) F.BIN_HI_GAIN_3

/-- Entry k of the derating table, at most 0x8000. -/
def derateAt (s : State) (n k : Nat) : Nat := min 0x8000 (s.fld (R.LC_DERATE n k) F.LC_DERATE_FACTOR)

/-- The derating factor of a temperature (06 R209). -/
def derateOf (s : State) (n : Nat) (t : Int) : Nat :=
  let m := s.fld (R.LC_CFG n) F.LC_CFG_TEMP_MODE
  if m = 0 ∨ m = 3 then 0x8000
  else
    let step : Nat := max 1 (s.fld (R.LC_DERATE_CFG n) F.LC_DERATE_CFG_TEMP_STEP)
    let x : Nat := (t - s.sfld (R.LC_DERATE_CFG n) F.LC_DERATE_CFG_TEMP_BASE).toNat
    let k := min (x / step) 15
    let r := x - k * step
    if k = 15 then derateAt s n 15
    else
      let a : Int := derateAt s n k
      (a + (((derateAt s n (k + 1) : Int) - a) * r + step / 2) / step).toNat

/-- The lamp-board temperature that a chain goes by: LCn_TEMP in mode 0b10, else the last result taken (06 R209);
before TEMP_SRC has published one it is 25.00 °C or the last result of the source before, and is not stale (DESIGN
CHOICE: log entry 120). -/
def lampT (s : State) (n : Nat) : Int :=
  if s.fld (R.LC_CFG n) F.LC_CFG_TEMP_MODE = 2 then s.sfld (R.LC_TEMP n) F.LC_TEMP_T else (s.lamp n).temp

/-- Division rounded half up. -/
def roundUpHalf (a b : Nat) : Nat := (2 * a + b) / (2 * b)

/-- PWM and DAC words of a derated target (06 R210). Below the split a D_S of 0 leaves the PWM word unstated: a free
value. -/
def splitWords (s : State) (n split b2 : Nat) : Nat × Nat :=
  let (pb, db, _) := lampBits s n
  let pm := 2 ^ pb - 1
  let dm := 2 ^ db - 1
  let sp := if split = 0 then 8192 else split
  if db = 0 then (roundUpHalf (b2 * pm) 65535, 0)
  else if pb = 0 then (0, roundUpHalf (b2 * dm) 65535)
  else if sp ≤ b2 then (pm, roundUpHalf (b2 * dm) 65535)
  else
    let ds := roundUpHalf (sp * dm) 65535
    let q := if ds = 0 then s.free.toNat % (pm + 1) else roundUpHalf (b2 * dm * pm) (ds * 65535)
    (min pm q, ds)

/-- The drive words of one channel under the shadows or the in-force settings (06 R207 to R210). -/
def channelWords (s : State) (n d : Nat) (shadow : Bool) (e : Nat) : Nat × Nat :=
  let ent := s.reg (R.LAMP_ENTRY n e)
  let g := ent.get F.LAMP_ENTRY_GROUP
  let rd (a : Nat) : Word := if shadow then s.reg a else s.inForce a
  let level := (rd (R.LCG_LEVEL n g)).get F.LCG_LEVEL_LEVEL
  let cfg := rd (R.LCG_CFG n g)
  if ent.get F.LAMP_ENTRY_USED = 0 ∨ level = 0 then (0, 0)
  else
    let b := linearTarget s n g level (cfg.get F.LCG_CFG_CURVE_EN == 1)
    let b1 := min 65535 (b * binGain s (ent.get F.LAMP_ENTRY_BIN) (ent.get F.LAMP_ENTRY_COLOUR) / 2 ^ 14)
    splitWords s n (cfg.get F.LCG_CFG_SPLIT) (b1 * d / 2 ^ 15)

/-- The drive words of every channel of a chain. -/
def chainWords (s : State) (n d : Nat) (shadow : Bool) : List (Nat × Nat) :=
  (List.range (lampRows s n * lampIcs s n * 16)).map (channelWords s n d shadow)

/-- A computation of drive words begun: tables are read as they stand now, and no later write mixes in (06 R201, R211). -/
def computeWords (s : State) (n : Nat) : State :=
  let x := s.lamp n
  if x.computing.isSome then s.setLamp n { x with again := true }
  else
    let d := derateOf s n (lampT s n)
    let next := if (lampUnit n).waits s then some (chainWords s n d true) else none
    (s.setLamp n { x with d := d, computing := some (chainWords s n d false, next), again := false }).drawn

/-- A new temperature: drive words are computed anew where the factor changes (06 R209). -/
def lampTemp (s : State) (n : Nat) : State :=
  if derateOf s n (lampT s n) = (s.lamp n).d then s else computeWords s n

/-! ### Frames (06 R196, R199) -/

/-- Whether a chain's script engine works. -/
def lampScripting (s : State) (n : Nat) : Bool := (s.engine (0x20 + n)).running

/-- Whether a channel stays dark in the next frame: its group is in FAULT_OFF, or it failed in a DEGRADED group, and the
group is not being relit (06 R214, R217). -/
def darkChannel (s : State) (n e : Nat) : Bool :=
  let x := s.lamp n
  let g := s.fld (R.LAMP_ENTRY n e) F.LAMP_ENTRY_GROUP
  !(x.restore.any (fun r => r.1 == g)) && (groupState s n g == 2 || x.bad.contains e)

/-- The low bits of a number, most significant first. -/
def bitsMsb (w v : Nat) : List Bool := (List.range w).map (fun i => v.testBit (w - 1 - i))

/-- The bits that a frame shifts, in their order: IC N−1 first, each with HDR and channels 15 down to 0, each of these
with its PWM word, DAC word and flags (06 R196). -/
def frameImage (s : State) (n : Nat) (ws : List (Nat × Nat)) : List Bool :=
  let k := lampIcs s n
  let (pb, db, fb) := lampBits s n
  (List.range k).flatMap (fun j =>
    bitsMsb (lampHdrBits s n) (s.fld (R.LC_HDR n) F.LC_HDR_HDR) ++
      (List.range 16).flatMap (fun c =>
        let (p, d) := ws.getD ((k - 1 - j) * 16 + (15 - c)) (0, 0)
        bitsMsb pb p ++ bitsMsb db d ++ bitsMsb fb (s.fld (R.LC_LAYOUT n) F.LC_LAYOUT_FLAG_VALUE)))

/-- The next frame starts shifting, if the chain is enabled, brought up, not refused and no script runs (06 R199,
R205). -/
def frameStart (s : State) (n : Nat) : State :=
  let x := s.lamp n
  let e := s.engine (0x20 + n)
  if !lampOn s n ∨ x.held ∨ !x.up ∨ x.frame.isSome ∨ e.running ∨ !(e.upOk || e.upFailed) then s
  else
    let rows := lampRows s n
    let row := if rows = 1 then 0 else (x.row + 1) % rows
    let carries := x.next.isSome && row == 0
    let all := if carries then x.next.getD [] else x.words
    let per := lampIcs s n * 16
    let ws := (List.range per).map (fun c =>
      if darkChannel s n (row * per + c) then (0, 0) else all.getD (row * per + c) (0, 0))
    let f : LampFrame := { row := row, words := ws, commits := carries, relatch := x.scriptBlk,
                           lit := x.restore.map (·.1) }
    ((s.setLamp n { x with frame := some f }).flag (R.LC_STATE n) F.LC_STATE_SHIFTING).emit
      (.lampFrame n (lampDiv s n) (frameImage s n ws))

/-- STATE of the groups that are in no fault: off at LEVEL 0, otherwise LIT (06, LCn_Gg_STATE). -/
def groupsShow (s : State) (n : Nat) : State :=
  (List.range 8).foldl (fun s g =>
    if 2 ≤ groupState s n g then s
    else s.setFld (R.LCG_STATE n g) F.LCG_STATE_STATE (if s.actFld (R.LCG_LEVEL n g) F.LCG_LEVEL_LEVEL = 0 then 0 else 1)) s

/-- LCn_BLK asserts: a trigger of the precision measurements (09 R299). -/
def blkAssert (s : State) (n : Nat) : State :=
  if (s.lamp n).blk then s else precTrigger 5 n (s.setLamp n { s.lamp n with blk := true })

/-- LCn_BLK is released. -/
def blkRelease (s : State) (n : Nat) : State :=
  if (s.lamp n).blk then precTrigger 4 n (s.setLamp n { s.lamp n with blk := false }) else s

/-- A script that works takes LCn_BLK once the drive frame in progress has latched: BLK asserts, and stays so until the
relatch (06 R205). -/
def scriptTakes (s : State) (n : Nat) : State :=
  if lampScripting s n && (s.lamp n).frame.isNone && !(s.lamp n).scriptBlk then
    blkAssert (s.setLamp n { s.lamp n with scriptBlk := true }) n
  else s

/-- A boundary: the frame whose shift has ended is latched, with a pulse on LCn_LAT 20 ns later; a set that it carries is
taken, and the next frame starts (06 R199 to R201, R206). A computation that goes on is of the set then in force. -/
def lampLatch (s : State) (n : Nat) : State :=
  let x := s.lamp n
  match x.frame with
  | none => s
  | some f =>
    if !f.shifted then s
    else
      let ends := f.relatch && x.scriptOpen
      let comp := if f.commits then x.computing.bind (fun c => c.2.map (fun w => (w, none))) else x.computing
      let s := s.setLamp n { x with
        frame := none, latched := some f, words := if f.commits then x.next.getD [] else x.words,
        next := if f.commits then none else x.next, computing := comp, scriptBlk := x.scriptBlk && !f.relatch,
        scriptOpen := x.scriptOpen && !f.relatch, endedC := if ends then some s.now else x.endedC }
      let s := s.emit (.pulse .lampLatch n (s.now + 20) 100 false)
      let s := s.wrapInc (R.LC_FRAMES n) F.LC_FRAMES_FRAMES
      let s := s.cond f.commits (fun s => groupsShow (((lampUnit n).take s).raise (Ev.lamp n 6)) n)
      frameStart (scriptTakes s n) n

/-- A computation of drive words ends (06 R201, R211). -/
def computeDone (n : Nat) (s : State) : State :=
  let x := s.lamp n
  match x.computing with
  | none => s
  | some (w, nx) =>
    let s := s.setLamp n { x with words := w, next := if (lampUnit n).waits s then nx else none, computing := none }
    frameStart (if x.again then computeWords s n else s) n

/-- COMMIT of a chain (06 R201). -/
def lampCommit (n : Nat) (s : State) : State :=
  if (lampUnit n).waits s then s else computeWords ((lampUnit n).commit s) n

/-! ### Faults (06 R197, R198, R214 to R217) -/

/-- A group's fault interval opened. -/
def openGroup (s : State) (n g : Nat) : State :=
  let x := s.lamp n
  s.setLamp n { x with openG := NatSet.insert x.openG g }

/-- A group's fault interval ended. -/
def closeGroup (s : State) (n g : Nat) : State :=
  let x := s.lamp n
  if x.openG.contains g then
    s.setLamp n { x with openG := NatSet.erase x.openG g,
                         endedG := Sparse.put (fun _ => none) x.endedG g s.now }
  else s

/-- The lamp faults of a row that a readback reports, by channel: a channel that is open and short is in it twice. Bit i
of `bits` is bit i of the readback, the first taken in at 0 (06 R197, R214). -/
def faultyChannels (s : State) (n : Nat) (bits row : Nat) : List Nat :=
  let k := lampIcs s n
  let c := slotBits s n
  let slot := lampHdrBits s n + 16 * c
  let sp := R.LC_STATUS_POS n
  (List.range (k * 16)).flatMap (fun i =>
    let e := row * k * 16 + i
    let base := (k - 1 - i / 16) * slot + lampHdrBits s n + (15 - i % 16) * c
    let op := s.bit sp F.LC_STATUS_POS_OPEN_EN && bits.testBit (base + s.fld sp F.LC_STATUS_POS_OPEN_POS)
    let sh := s.bit sp F.LC_STATUS_POS_SHORT_EN && bits.testBit (base + s.fld sp F.LC_STATUS_POS_SHORT_POS)
    if s.bit (R.LAMP_ENTRY n e) F.LAMP_ENTRY_USED then (if op then [e] else []) ++ (if sh then [e] else []) else [])

/-- The group of a channel. -/
def groupOf (s : State) (n e : Nat) : Nat := s.fld (R.LAMP_ENTRY n e) F.LAMP_ENTRY_GROUP

/-- Faults reported in a group: it enters FAULT_OFF or DEGRADED (06 R214, R215). A group in FAULT_OFF stays there until
FAULT is cleared; `again`: its FAULT was cleared, and every channel that the relight lit acts as R214 says (06 R217). -/
def groupFails (s : State) (n g : Nat) (es : List Nat) (again : Bool) : State :=
  let a := R.LCG_STATE n g
  let s := (openGroup s n g).flag a F.LCG_STATE_FAULT
  let x := s.lamp n
  let bad := if again then x.bad.filter (fun e => groupOf s n e != g) else x.bad
  let s := s.setLamp n { x with restore := x.restore.filter (fun r => r.1 != g), bad := bad }
  let acts := again || groupState s n g != 2
  if s.actBit (R.LCG_CFG n g) F.LCG_CFG_ALL_OR_NONE then
    s.cond acts (fun s => (s.setFld a F.LCG_STATE_STATE 2).raise (Ev.lamp n 1))
  else
    let x := s.lamp n
    let s := s.setLamp n { x with bad := es.foldl NatSet.insert x.bad }
    s.cond acts (fun s => s.setFld a F.LCG_STATE_STATE 3)

/-- A group whose relit latch reports no fault: once every row has been read it enters LIT (06 R217). -/
def groupRelit (s : State) (n g row : Nat) (left : List Nat) : State :=
  let x := s.lamp n
  let left := left.filter (· != row)
  if left ≠ [] then s.setLamp n { x with restore := x.restore.map (fun r => if r.1 = g then (g, left) else r) }
  else
    let s := s.setLamp n { x with restore := x.restore.filter (fun r => r.1 != g),
                                  bad := x.bad.filter (fun e => groupOf s n e != g) }
    let s := closeGroup s n g
    groupsShow ((s.setFld (R.LCG_STATE n g) F.LCG_STATE_STATE 1).raise (Ev.lamp n 2)) n

/-- The fault interval of a DEGRADED group ends once no lamp of the group reports a fault (06 R215). -/
def quietGroup (s : State) (n g : Nat) : State :=
  if groupState s n g = 3 ∧ (s.lamp n).faulty.all (fun e => groupOf s n e != g) then closeGroup s n g else s

/-- What a readback of the frame latched before says of one group (06 R214 to R217). A group that waits to be relit is
relit by the readback of its relit latch; a fault that an earlier one reports fails it anew. -/
def judgeGroup (n : Nat) (f : LampFrame) (faults : List Nat) (s : State) (g : Nat) : State :=
  let es := faults.filter (fun e => groupOf s n e == g)
  match (s.lamp n).restore.find? (fun r => r.1 == g) with
  | some (_, left) =>
    if es ≠ [] then groupFails s n g es (f.lit.contains g)
    else quietGroup (if f.lit.contains g then groupRelit s n g f.row left else s) n g
  | none => if es ≠ [] then groupFails s n g es false else quietGroup s n g

/-- A readback judged (06 R197, R198, R214). Each reported fault counts, and each chain error raises CHAIN (01 R614). -/
def judgeReadback (s : State) (n bits : Nat) : State :=
  let l := frameBits s n
  let x := s.lamp n
  if bits % 2 ^ l = 0 ∨ bits % 2 ^ l = 2 ^ l - 1 then
    ((s.setLamp n { x with errOpen := true }).flag (R.LC_STATE n) F.LC_STATE_CHAIN_ERR).raise (Ev.lamp n 3)
  else
    let s := s.setLamp n { x with errOpen := false, endedC := if x.errOpen then some s.now else x.endedC }
    let s := s.setBit (R.LC_STATE n) F.LC_STATE_CHAIN_ERR false
    match x.latched with
    | none => s
    | some f =>
      let faults := faultyChannels s n bits f.row
      let per := lampIcs s n * 16
      let x := s.lamp n
      let keep := x.faulty.filter (fun e => e / per != f.row)
      let s := s.setLamp n { x with faulty := faults.foldl NatSet.insert keep }
      let s := faults.foldl (fun s e =>
        (s.satInc (R.LCG_STATE n (groupOf s n e)) F.LCG_STATE_FAILED).raise (Ev.lamp n 0)) s
      (List.range 8).foldl (judgeGroup n f faults) s

/-- Whether a strobe chain's boundary is the end of the frame's shift (06 R200). A PORT of 10 to 15 is no port whose
generator could be armed (DESIGN CHOICE: log entry 118). -/
def strobeIdle (s : State) (n : Nat) : Bool :=
  let p := s.actFld (R.LC_STROBE n) F.LC_STROBE_PORT
  lampMode s n == 1 && (!s.runActive || decide (10 ≤ p) || !imgArmed s p)

/-- A frame that has shifted on a strobe chain that has become idle is latched (06 R200). -/
def strobeSettle (s : State) (n : Nat) : State := if strobeIdle s n then lampLatch s n else s

/-- LCn_BLK is released, unless a script has taken it meanwhile (06 R205). -/
def blkEnd (s : State) (n : Nat) : State := if (s.lamp n).scriptBlk then s else blkRelease s n

/-- A frame's shift ends: its readback is judged; a frame that ends a script latches at once, and so does one of an
idle strobe chain; a continuous chain's BLK is released after the pulse on LCn_LAT (06 R197, R199, R200, R205; that it
is released at once then: log entry 119). -/
def shiftEnd (n bits : Nat) (s : State) : State :=
  let x := s.lamp n
  match x.frame with
  | none => s
  | some f =>
    if f.shifted then s
    else
      let s := s.setLamp n { x with frame := some { f with shifted := true } }
      let s := s.setBit (R.LC_STATE n) F.LC_STATE_SHIFTING false
      let s := judgeReadback s n bits
      let s := if f.relatch ∨ strobeIdle s n then lampLatch s n else s
      s.cond (f.relatch && lampMode s n == 0) (fun s => blkEnd (s.reach (s.now + 120)) n)

/-- FAULT of a group cleared: its channels are relit from the next frame on (06 R217). -/
def groupRestore (n g : Nat) (s : State) : State :=
  let a := R.LCG_STATE n g
  let s := s.setBit a F.LCG_STATE_FAULT false
  let x := s.lamp n
  if groupState s n g < 2 ∨ x.restore.any (fun r => r.1 == g) then s
  else s.setLamp n { x with restore := x.restore ++ [(g, List.range (lampRows s n))] }

/-! ### Boundaries (06 R199, R200, R212, R213) -/

/-- Whether a chain lights: enabled, brought up, not refused, LCn_BLK not held by a script. -/
def lampRuns (s : State) (n : Nat) : Bool :=
  let x := s.lamp n
  lampOn s n && x.up && !x.held && !x.scriptBlk

/-- PERIOD in force, 1,000 to 10,000,000 ns. -/
def lampPeriod (s : State) (n : Nat) : Nat := min 10000000 (max 1000 (s.inForce (R.LC_PERIOD n)).toNat)

/-- The instant of a blanking or row slot that follows the last one by a number of ns. -/
def blankDue (s : State) (n step : Nat) : State :=
  let s := s.reach (((s.lamp n).blkAt.map (· + step)).getD s.now)
  s.setLamp n { s.lamp n with blkAt := some s.now }

/-- A continuous chain's blanking: 200 ns once every PERIOD (06 R200). -/
def blankPeriod (n : Nat) (s : State) : State :=
  if lampMode s n ≠ 0 ∨ !lampRuns s n then s
  else
    let s := blankDue s n (lampPeriod s n)
    let s := lampLatch (blkAssert s n) n
    blkEnd (s.reach (s.now + 200)) n

/-- A matrix row slot of PERIOD / ROWS ns: BLK asserts, the row pins move and the new row's frame is latched, BLK is
released (06 R213). A row's frame has shifted by its slot, which the limits checked at enabling see to. -/
def matrixSlot (n : Nat) (s : State) : State :=
  match (s.lamp n).frame with
  | none => s
  | some f =>
    if lampMode s n ≠ 2 ∨ !lampRuns s n ∨ !f.shifted then s
    else
      let blank := 10 * min 2000 (max 20 (s.fld (R.LC_MATRIX n) F.LC_MATRIX_ROW_BLANK))
      let s := blkAssert (blankDue s n (lampPeriod s n / lampRows s n)) n
      let s := s.reach (s.now + blank / 2)
      let s := lampLatch (s.setLamp n { s.lamp n with row := f.row, rowOn := true }) n
      blkEnd (s.reach (s.now + (blank - blank / 2))) n

/-- The strobe chains that follow a port. -/
def strobesOf (s : State) (p : Nat) : List Nat :=
  (List.range 4).filter (fun n => lampMode s n == 1 && lampOn s n && !(s.lamp n).held &&
    s.actFld (R.LC_STROBE n) F.LC_STROBE_PORT == p)

/-- The strobe chains that follow a port, the longest LEAD, which is released first, at the front. -/
def strobesByLead (s : State) (p : Nat) : List Nat :=
  (List.range 256).reverse.flatMap (fun l =>
    (strobesOf s p).filter (fun n => s.actFld (R.LC_STROBE n) F.LC_STROBE_LEAD == l))

/-- The oldest window of a port that has not arrived reaches the lamp island: its strobes release BLK LEAD ns before the
start, or at once and late (06 R212). -/
def windowArrival (p : Nat) (s : State) : State :=
  match s.windows.find? (fun w => w.port == p && !w.here) with
  | none => s
  | some w =>
    let s := { s with windows := s.windows.map (fun v => if v = w then { v with here := true } else v) }
    (strobesByLead s p).foldl (fun s n =>
      if !lampRuns s n then s
      else
        let lead := s.actFld (R.LC_STROBE n) F.LC_STROBE_LEAD
        let late := decide (48 + sensorLat s p < 2 * lead + 32)
        let s := s.cond late (fun s => lampCfgFlag s n F.LC_STATE_LATE_STROBE)
        let s := if late then s else s.reach ((w.start2 - 2 * lead) / 2).toNat
        blkRelease s n) s

/-- Whether a window overlaps a fault interval of a group that lights its port (06 R215). -/
def windowFaulty (s : State) (w : Window) : Bool :=
  (List.range 4).any (fun n =>
    let x := s.lamp n
    let chain := x.errOpen || x.scriptOpen || (match x.endedC with
      | some t => decide (w.start2 ≤ 2 * (t : Int))
      | none => false)
    (List.range 8).any (fun g =>
      (s.actFld (R.LCG_CFG n g) F.LCG_CFG_PORTS).testBit w.port &&
        (chain || x.openG.contains g || (match Sparse.find x.endedG g with
          | some t => decide (w.start2 ≤ 2 * (t : Int))
          | none => false))))

/-- The oldest window of a port that has arrived ends: the verdict on its line, then its strobes assert BLK, which is
their boundary (06 R200, R212, R215, R216). -/
def windowDone (p : Nat) (s : State) : State :=
  match s.windows.find? (fun w => w.port == p && w.here) with
  | none => s
  | some w =>
    let s := (s.reach (w.end2 / 2).toNat)
    let s := { s with windows := s.windows.erase w }
    let s := illumVerdict s p w.serial (windowFaulty s w)
    (strobesOf s p).foldl (fun s n => if lampRuns s n then lampLatch (blkAssert s n) n else s) s

/-! ### Settings, scripts, temperature -/

/-- A chain switched off: BLK asserted, no frames (06, LCn_CFG). -/
def lampStop (s : State) (n : Nat) : State :=
  let s := blkAssert s n
  (s.setLamp n { s.lamp n with frame := none, up := false, held := false, rowOn := false, blkAt := none }).setBit
    (R.LC_STATE n) F.LC_STATE_SHIFTING false

/-- A lit chain whose MODE changes: LCn_BLK asserts, and stays so until the new mode releases it (06 R200). -/
def lampTurn (s : State) (n : Nat) : State :=
  let s := blkAssert s n
  s.setLamp n { s.lamp n with rowOn := false, blkAt := none }

/-- Whether a matrix fails its limits: a row's frame within a row slot, at most 512 channels (06 R213). -/
def matrixRefused (s : State) (n : Nat) : Bool :=
  let rows := lampRows s n
  lampMode s n == 2 &&
    (decide (512 < rows * lampIcs s n * 16) ||
      decide (lampPeriod s n * 120 < frameBits s n * (lampDiv s n + 1) * 1000 * rows))

/-- ENABLE becomes 1: the matrix limits, the drive words of the set in force, the bring-up script where it has not run
(06 R205, R213). -/
def lampEnable (n : Nat) (s : State) : State :=
  if !lampOn s n ∨ (s.lamp n).up then s
  else
    let bad := matrixRefused s n
    let s := s.cond bad (fun s => lampCfgFlag s n F.LC_STATE_CFG_REFUSED)
    let d := derateOf s n (lampT s n)
    let s := (s.setLamp n { s.lamp n with
      up := true, held := bad, d := d, words := chainWords s n d false, row := lampRows s n - 1 }).drawn
    let s := groupsShow s n
    let e := s.engine (0x20 + n)
    let s := if e.upOk || e.upFailed || e.owes 1 then s else scriptBegin s (0x20 + n) 1
    frameStart (scriptTakes s n) n

/-- A write of a register that is taken only while no run is active has put its new word in place (06 R202). -/
def lampCfgWritten (n a : Nat) (old : Word) (s : State) : State :=
  if s.runActive then lampCfgFlag (s.setReg a old) n F.LC_STATE_CFG_REFUSED
  else if a = R.LC_CFG n then
    let was := old.get F.LC_CFG_ENABLE == 1
    let mode := old.get F.LC_CFG_MODE
    let s := if was && !lampOn s n then lampStop s n
      else if was && lampMode s n != (if mode = 3 then 0 else mode) then lampTurn s n else s
    let s := if was = lampOn s n ∨ !s.working then s else lampEnable n s
    strobeSettle (s.cond (lampOn s n) (fun s => lampTemp s n)) n
  else s

/-- Whether a chain script's next operation may start: the drive frame in progress has latched (06 R205). -/
def lampScriptMay (s : State) (n : Nat) : Bool := (s.lamp n).frame.isNone

/-- A chain script's first frame: every group is in a fault interval (06 R206). -/
def lampScriptFrame (s : State) (n : Nat) : State := s.setLamp n { s.lamp n with scriptOpen := true }

/-- What follows a change of a chain's script engine: a script takes LCn_BLK, and after the last one the present words are
shifted again (06 R205). -/
def lampScriptSettle (s : State) (n : Nat) : State := if lampScripting s n then scriptTakes s n else frameStart s n

/-- RUN of LCn_SCRIPT written: a script that starts by it takes LCn_BLK (06 R205). -/
def lampScriptRun (n : Nat) (s : State) : State :=
  if lampScripting s n then s
  else
    let t := scriptRun (0x20 + n) s
    if lampScripting t n then scriptTakes t n else t

/-- A run starts: the run-start scripts of the enabled chains (06 R205). A chain with ENABLE 0 runs none at a run's
start and stop (DESIGN CHOICE: log entry 121). -/
def lampRunStart (s : State) (n : Nat) : State :=
  let t := 0x20 + n
  if lampOn s n then
    scriptTakes (scriptBegin (s.setEngine t { s.engine t with startDone := false, startFailed := false }) t 2) n
  else s

/-- A run stops: the run-stop scripts of the enabled chains fall due (06 R205). -/
def lampRunStop (s : State) (n : Nat) : State :=
  if lampOn s n then strobeSettle { s with stopScripts := NatSet.insert s.stopScripts (0x20 + n) } n else s

/-- A published precision result: LCn_TEMP and the derating factor of the chains that use it (06 R209, 09 R311). A
temperature outside the register's 16 bits leaves it a free value. -/
def lampTake (k : Nat) (s : State) : State :=
  match (s.meas k).good with
  | none => s
  | some (v, t, kind) =>
    if kind ≠ 2 ∨ (s.meas k).bad then s
    else
      (List.range 4).foldl (fun s n =>
        let a := R.LC_CFG n
        if s.fld a F.LC_CFG_TEMP_MODE = 1 ∧ s.fld a F.LC_CFG_TEMP_SRC = k then
          let c := divRound v 100
          let s := if -32768 ≤ c ∧ c ≤ 32767 then s.setSfld (R.LC_TEMP n) F.LC_TEMP_T c
            else (s.setFld (R.LC_TEMP n) F.LC_TEMP_T s.free.toNat).drawn
          lampTemp (s.setLamp n { s.lamp n with temp := c, tempTime := some t, tempOld := false }) n
        else s) s

/-- A precision result grows older than 1 s: TEMP_STALE, the TEMP event; the factor is held (06 R209). -/
def tempStale (n : Nat) (s : State) : State :=
  let x := s.lamp n
  match x.tempTime with
  | some t =>
    if s.fld (R.LC_CFG n) F.LC_CFG_TEMP_MODE = 1 ∧ !x.tempOld then
      (((s.reach (t + 1000000000)).setLamp n { x with tempOld := true }).flag (R.LC_STATE n)
        F.LC_STATE_TEMP_STALE).raise (Ev.lamp n 4)
    else s
  | none => s

/-- LCn_TEMP written: the temperature of mode 0b10 (06 R209). -/
def tempWritten (n : Nat) (s : State) : State :=
  if s.fld (R.LC_CFG n) F.LC_CFG_TEMP_MODE = 2 then lampTemp s n else s

/-! ### The commands -/

/-- LC_COMMIT (06 R201). `lost`: it met a boundary, and one of them lost. -/
def execLcCommit (n : Fin 4) (lost : Bool) (s : State) : Result :=
  .next (s.whenWorking (fun s => lampCommit n (s.lost lost (R.LC_RACE n))))

/-- DRIVE_WORD_COMPUTE_DONE (06 R201). -/
def execDriveWordComputeDone (n : Fin 4) (s : State) : Result := .next (s.whenWorking (computeDone n))

/-- LAMP_SHIFT_END (06 R197): the readback, bit i of `bits` the bit taken in as i-th. `lost`: a fault interval met a
window's end (06 R215). -/
def execLampShiftEnd (n : Fin 4) (bits : Nat) (lost : Bool) (s : State) : Result :=
  .next (s.whenWorking (fun s => shiftEnd n bits (s.lost lost (R.LC_RACE n))))

/-- LAMP_BLANK_PERIOD (06 R200). -/
def execLampBlankPeriod (n : Fin 4) (s : State) : Result := .next (s.whenWorking (blankPeriod n))

/-- EXPOSURE_WINDOW_ARRIVAL (06 R212). -/
def execExposureWindowArrival (p : Fin 10) (s : State) : Result := .next (s.whenWorking (windowArrival p))

/-- EXPOSURE_WINDOW_END (06 R215). `lost`: the chain whose fault interval met the window's end. -/
def execExposureWindowEnd (p : Fin 10) (lost : Option (Fin 4)) (s : State) : Result :=
  .next (s.whenWorking (fun s => windowDone p (match lost with
    | some n => s.lost true (R.LC_RACE n)
    | none => s)))

/-- MATRIX_ROW_SLOT (06 R213). -/
def execMatrixRowSlot (n : Fin 4) (s : State) : Result := .next (s.whenWorking (matrixSlot n))

/-- LCN_TEMP_WRITE (06 R209). -/
def execLcnTempWrite (n : Fin 4) (t : BitVec 16) (s : State) : Result :=
  .next (s.whenWorking (fun s => tempWritten n (s.setFld (R.LC_TEMP n) F.LC_TEMP_T t.toNat)))

/-- LAMP_TEMP_STALE (06 R209). -/
def execLampTempStale (n : Fin 4) (s : State) : Result := .next (s.whenWorking (tempStale n))

/-- GROUP_RESTORE (06 R217). `m.lost`: the clear met a new fault, whose set won where `m.meets` says so: the clear is then
discarded (00 R13). -/
def execGroupRestore (n : Fin 4) (g : Fin 8) (m : Meeting) (s : State) : Result :=
  .next (s.whenWorking (fun s =>
    let s := s.lost m.lost (R.LC_RACE n)
    if m.lost && m.meets then s else groupRestore n g s))

/-- LC_SCRIPT_RUN (06 R205). -/
def execLcScriptRun (n : Fin 4) (s : State) : Result := .next (s.whenWorking (lampScriptRun n))

/-- LAMP_CHAIN_ENABLE (06 R205). -/
def execLampChainEnable (n : Fin 4) (s : State) : Result :=
  .next (s.whenWorking (fun s =>
    lampCfgWritten n (R.LC_CFG n) (s.reg (R.LC_CFG n)) (s.setBit (R.LC_CFG n) F.LC_CFG_ENABLE true)))

end Sys2Proof.Machine
end

