-- ==== Sys2Proof/Machine/Spore.lean ====
section
/-!
DEFINITION. The spore image: reading it from the flash, the checks of 02 R63 in their order, the resource checker of 02
R66 to R68. Offsets are those of the tables of 02 R48 to R60; `b` is the flash address of a slot.
-/

namespace Sys2Proof.Machine

/-- The flash address of a slot (02 R45). -/
def slotBase (slot : Nat) : Nat := if slot = 0 then 0 else 0x4000000

/-- A little-endian number of an image (02, Image layout). -/
def State.img (s : State) (b off n : Nat) : Nat := s.readNat (flashKey (b + off)) n

/-- Bytes of an image. -/
def State.imgBytes (s : State) (b off n : Nat) : List Byte := s.read (flashKey (b + off)) n

/-- Whether bytes of an image are zero. -/
def State.imgZero (s : State) (b off n : Nat) : Bool := allZero (s.imgBytes b off n)

/-- One directory entry (02 R49). -/
structure Sec where
  typ : Nat
  off : Nat
  len : Nat
  hash : List Byte
  deriving DecidableEq, Repr

/-- Directory entry i. -/
def secAt (s : State) (b i : Nat) : Sec :=
  let e := 0x80 + 64 * i
  ⟨s.img b e 2, s.img b (e + 4) 4, s.img b (e + 8) 4, s.imgBytes b (e + 0x10) 48⟩

/-- The directory entries in use (02 R48). -/
def secsOf (s : State) (b : Nat) : List Sec := (List.range (min 8 (s.img b 0xA 2))).map (secAt s b)

/-- The section of a type. -/
def secOf (s : State) (b typ : Nat) : Option Sec := (secsOf s b).find? (fun x => x.typ == typ)

/-- COUNT of a section (02 R51). -/
def secCount (s : State) (b : Nat) (x : Sec) : Nat := s.img b x.off 4

/-- The size of one entry of a section, where its entries start, and its limit (02 R51). -/
def entryShape (typ : Nat) : Nat × Nat × Nat :=
  if typ = 1 then (24, 64, 4096) else if typ = 2 then (16, 64, 262144) else if typ = 3 then (32, 0xC0, 64)
  else if typ = 4 then (16, 64, 256) else if typ = 5 then (8, 0x1C0, 1024) else if typ = 6 then (16, 64, 256)
  else if typ = 7 then (16, 64, 8) else (32, 64, 256)

/-- The offsets in the image of a section's entries, as far as they lie within its LENGTH. -/
def entriesOf (s : State) (b typ : Nat) : List Nat :=
  match secOf s b typ with
  | none => []
  | some x =>
    let (sz, start, _) := entryShape typ
    let n := min (secCount s b x) ((x.len - start) / sz)
    (List.range n).map (fun i => x.off + start + sz * i)

/-! ### Check 3: header, directory, zero bytes, signature block length -/

/-- The directory in strictly ascending TYPE, aligned, in order and without overlap, from an offset on (02 R49, R50). -/
def dirOk : List Sec → Nat → Nat → Bool
  | [], _, _ => true
  | x :: r, t, e =>
    decide (t < x.typ ∧ x.typ ≤ 8 ∧ x.off % 64 = 0 ∧ 0x400 ≤ x.off ∧ e ≤ x.off ∧ x.len % 64 = 0) &&
      dirOk r x.typ (x.off + x.len)

/-- The end of the last section. -/
def dirEnd : List Sec → Nat → Nat
  | [], e => e
  | x :: r, _ => dirEnd r (x.off + x.len)

/-- The spans of a section that its entries, images, scripts and segment tables occupy, by offset and length, as far as
COUNT and the entries name them; what lies outside them is padding (02 R49, R51, FROND, SCRIPT, MOTION). -/
def spansOf (s : State) (b : Nat) (x : Sec) : List (Nat × Nat) :=
  let (sz, start, _) := entryShape x.typ
  let es := entriesOf s b x.typ
  (0, start + sz * secCount s b x) ::
    (if x.typ = 3 then es.flatMap (fun e =>
        [(s.img b (e + 8) 4, s.img b (e + 0xC) 4), (s.img b (e + 0x10) 4, s.img b (e + 0x14) 4)])
      else if x.typ = 6 then es.map (fun e => (s.img b (e + 4) 4, 16 * s.img b (e + 8) 4))
      else if x.typ = 7 then es.map (fun e => (s.img b (e + 4) 4, 32 * s.img b (e + 8) 4))
      else [])

/-- Whether every padding byte of a section is zero (02 R49, R50). -/
def paddingOk (s : State) (b : Nat) (x : Sec) : Bool :=
  let l := spansOf s b x
  (List.range x.len).all (fun i =>
    l.any (fun p => decide (p.1 ≤ i ∧ i < p.1 + p.2)) || s.img b (x.off + i) 1 == 0)

/-- The zero bytes that 02 R49, R51 and the section tables define inside one section. Reserved bits that a section's table
calls zero (PERMISSIONS [31:7], READY_MASK [15:14]) are judged here with the zero bytes: FORMAT, as R50 names no code for
bits (log entry 83). -/
def secZeroOk (s : State) (b : Nat) (x : Sec) : Bool :=
  let es := entriesOf s b x.typ
  let hdr := x.typ == 5 || s.imgZero b (x.off + 4) 60
  let fields :=
    if x.typ = 1 then es.all (fun e => s.imgZero b (e + 1) 1 && s.imgZero b (e + 4) 4)
    else if x.typ = 4 then es.all (fun e => s.imgZero b (e + 3) 1)
    else if x.typ = 5 then
      decide (s.img b (x.off + 0x40) 4 < 128) && decide (s.img b (x.off + 0x46) 2 < 0x4000)
    else true
  let segs :=
    if x.typ = 7 then
      es.all (fun e =>
        let ofs := s.img b (e + 4) 4
        let n := min (x.len / 32) (s.img b (e + 8) 4)
        (List.range n).all (fun i =>
          let a := ofs + 32 * i
          decide (x.len < a + 32) || (s.imgZero b (x.off + a + 4) 4 && s.imgZero b (x.off + a + 0x18) 8)))
    else true
  hdr && fields && segs && paddingOk s b x

/-- KEY_FLAGS of the signature block (02 R60). -/
def keyFlags (s : State) (b : Nat) : Nat := s.img b (s.img b 0x10 4 + 4) 1

/-- Check 3 of 02 R63. -/
def formatOk (s : State) (b : Nat) : Bool :=
  let secs := secsOf s b
  let sigOfs := s.img b 0x10 4
  let imgLen := s.img b 0xC 4
  let sigLen := s.img b sigOfs 4
  let kf := keyFlags s b
  decide (s.img b 8 2 = 1 ∧ 2 ≤ s.img b 0xA 2 ∧ s.img b 0xA 2 ≤ 8 ∧ imgLen % 64 = 0 ∧ imgLen ≤ 0x4000000 ∧
      sigOfs % 64 = 0 ∧ s.img b 0x15 1 < 4) &&
    s.imgZero b 0x16 2 && s.imgZero b 0x1C 4 && s.imgZero b 0x50 48 && s.imgZero b 0x280 384 &&
    (List.range 8).all (fun i =>
      if i < secs.length then s.imgZero b (0x80 + 64 * i + 2) 2 && s.imgZero b (0x80 + 64 * i + 0xC) 4
      else s.imgZero b (0x80 + 64 * i) 64) &&
    dirOk secs 0 0x400 && secs.any (fun x => x.typ == 1) && secs.any (fun x => x.typ == 5) &&
    decide (dirEnd secs 0x400 ≤ sigOfs) && decide (sigOfs + sigLen = imgLen) &&
    decide (kf < 2 ∧ sigLen = if kf = 0 then 320 else 5568) &&
    secs.all (secZeroOk s b)

/-! ### Checks 4 to 7 -/

/-- The owner key record: KEY_FLAGS, the P-384 key and, if present, the ML-DSA-65 key (02 R61). -/
def keyRecord (s : State) (b : Nat) : List Byte :=
  let so := s.img b 0x10 4
  s.imgBytes b (so + 4) 1 ++ s.imgBytes b (so + 0x40) 97 ++
    (if keyFlags s b = 1 then s.imgBytes b (so + 0x120) 1952 else [])

/-- Whether an owner slot is ACTIVE: VALID blown, REVOKED not (16 R488). -/
def OwnerSlot.active (o : OwnerSlot) : Bool := o.valid && !o.revoked

/-- Check 4 of 02 R63: the owner key record (02 R61). -/
def ownerOk (s : State) (b : Nat) : Bool :=
  let ref := s.imgBytes b 0x20 48
  sameBytes (Config.sha384 (keyRecord s b)).toList ref &&
    s.root.slots.any (fun o => o.active && sameBytes (padTo 48 o.hash) ref) &&
    decide (keyFlags s b = s.img b 0x15 1 % 2)

/-- Check 5 of 02 R63: the signatures over the header (02 R62). -/
def signaturesOk (s : State) (b : Nat) : Bool :=
  let so := s.img b 0x10 4
  let h := s.imgBytes b 0 0x400
  Config.ecdsaOk (s.imgBytes b (so + 0x40) 97) h (s.imgBytes b (so + 0xC0) 96) &&
    (keyFlags s b == 0 || Config.mldsaOk (s.imgBytes b (so + 0x120) 1952) h (s.imgBytes b (so + 0x8C0) 3309))

/-- Check 6 of 02 R63: anti-rollback. -/
def arbOk (s : State) (b : Nat) : Bool :=
  decide (s.root.arbFused ≤ s.img b 0x14 1 ∧ s.img b 0x14 1 ≤ 128)

/-- Check 7 of 02 R63: each section's hash. -/
def hashesOk (s : State) (b : Nat) : Bool :=
  (secsOf s b).all (fun x => sameBytes (Config.sha384 (s.imgBytes b x.off x.len)).toList x.hash)

/-! ### Check 8: the resource checker (02 R66 to R68, R57) -/

/-- A reported conflict (02 R68). -/
structure Conflict where
  cls : Nat
  idx : Nat
  a : Nat
  b : Nat
  deriving DecidableEq, Repr

/-- One claim (02, RESOURCE). -/
structure Claim where
  cls : Nat
  feature : Nat
  first : Nat
  count : Nat
  deriving DecidableEq, Repr

/-- The claims of an image. -/
def claimsOf (s : State) (b : Nat) : List Claim :=
  (entriesOf s b 1).map (fun e => ⟨s.img b e 1, s.img b (e + 2) 2, s.img b (e + 8) 8, s.img b (e + 16) 8⟩)

/-- The spans of the buffer regions that an image claims (02 R52). -/
def bufferClaims (s : State) (b : Nat) : List (Nat × Nat) :=
  ((claimsOf s b).filter (fun c => c.cls == 4)).map (fun c => (c.first, c.count))

/-- How many indices a class has; 0 for a class that 02 R52 does not list, and for buffer regions. -/
def classSize (c : Nat) : Nat :=
  if c = 1 then 32 else if c = 2 then 10 else if c = 3 then 64 else if c = 5 then 1024 else if c = 6 then 64
  else if c = 7 then 16 else if c = 8 then 8 else if c = 9 then 16 else if c = 0xA then 16
  else if c = 0xB then 4 else 0

/-- Whether a span of addresses lies wholly in DRAM, the commons, one tuft bank or the exchange RAM (02 R52). -/
def bufferOk (lo n : Nat) : Bool :=
  let inside (base size : Nat) : Bool := decide (base ≤ lo ∧ lo + n ≤ base + size)
  decide (lo % 64 = 0 ∧ n % 64 = 0) &&
    (inside 0 0x2000000000 || inside 0x4000000000 0x800000 || inside 0x4020000000 0x40000 ||
      (List.range 8).any (fun t => inside (0x4010000000 + 0x1000000 * t) 0x400000))

/-- Whether a claim lies in its class's range (02 R66): a class that 02 R52 does not list has none. -/
def Claim.inRange (c : Claim) : Bool :=
  if c.cls = 4 then bufferOk c.first c.count else decide (0 < classSize c.cls ∧ c.first + c.count ≤ classSize c.cls)

/-- The first index or address of a claim that is outside its class's range (02 R68): past the end of the class, or of the
memory in which a buffer begins; otherwise its FIRST. -/
def Claim.firstOutside (c : Claim) : Nat :=
  if c.cls = 4 then
    let ends := [(0, 0x2000000000), (0x4000000000, 0x4000800000), (0x4020000000, 0x4020040000)] ++
      (List.range 8).map (fun t => (0x4010000000 + 0x1000000 * t, 0x4010400000 + 0x1000000 * t))
    match ends.find? (fun p => decide (p.1 ≤ c.first ∧ c.first < p.2 ∧ p.2 < c.first + c.count)) with
    | some p => if c.first % 64 = 0 then p.2 else c.first
    | none => c.first
  else max c.first (classSize c.cls)

/-- The staging area: the top 64 MiB of DRAM (02 R64). -/
def stagingBase : Nat := 0x1FFC000000

/-- Whether two claims of one class overlap. -/
def Claim.meets (c d : Claim) : Bool :=
  decide (c.cls = d.cls ∧ c.first < d.first + d.count ∧ d.first < c.first + c.count)

/-- The conflict of one claim with the address ranges and with the earlier claims (02 R66, R68). -/
def claimConflict (earlier : List Claim) (c : Claim) : Option Conflict :=
  if !c.inRange then some ⟨c.cls, c.firstOutside, c.feature, 0⟩
  else if c.cls = 4 ∧ stagingBase < c.first + c.count ∧ c.first < 0x2000000000 then
    some ⟨4, max c.first stagingBase, c.feature, 0xFFFE⟩
  else
    match earlier.find? (fun d => d.meets c && d.feature != c.feature) with
    | some d => some ⟨c.cls, max c.first d.first, d.feature, c.feature⟩
    | none => none

/-- The first conflict among the claims, in claim order. -/
def claimsConflict : List Claim → List Claim → Option Conflict
  | _, [] => none
  | earlier, c :: r =>
    match claimConflict earlier c with
    | some x => some x
    | none => claimsConflict (earlier ++ [c]) r

/-- Whether some claim covers an index of a class. -/
def claimed (cs : List Claim) (cls idx : Nat) : Bool :=
  cs.any (fun c => c.cls == cls && decide (c.first ≤ idx ∧ idx < c.first + c.count))

/-- One BLOCK record applied: (old AND NOT MASK) OR (VALUE AND MASK) (02 R53); a mask of 0 has no effect. -/
def blockApply (s0 : State) (b : Nat) (s : State) (e : Nat) : State :=
  let a := canonReg (s0.img b e 8)
  let v := BitVec.ofNat 32 (s0.img b (e + 8) 4)
  let m := BitVec.ofNat 32 (s0.img b (e + 12) 4)
  match descOf a with
  | some d =>
    let w := m &&& BitVec.ofNat 32 (d.rw ||| d.rws)
    if m = 0 then s else s.setReg a ((s.reg a &&& ~~~w) ||| (v &&& w))
  | none => s

/-- Every BLOCK record of an image applied in section order to a state's registers (02 R53). -/
def blocksApply (s0 : State) (b : Nat) (s : State) : State := (entriesOf s0 b 2).foldl (blockApply s0 b) s

/-- The addresses that BLOCK records name. -/
def blockAddrs (s : State) (b : Nat) : List Nat := (entriesOf s b 2).map (fun e => s.img b e 8)

/-- The addresses that BLOCK records write: a record with MASK 0 has no effect (02 R53). -/
def blockWrites (s : State) (b : Nat) : List Nat :=
  ((entriesOf s b 2).filter (fun e => s.img b (e + 12) 4 != 0)).map (fun e => s.img b e 8)

/-- The resources that the register at an address puts to use, with its final word (02 R66, R67). -/
def usesAt (s : State) (a : Nat) : List (Nat × Nat) :=
  let w := s.reg a
  if 0x5000602000 ≤ a ∧ a < 0x5000602080 then
    let f := w.get F.GPIO_CFG_FUNC
    if 1 ≤ f ∧ f ≤ 5 then [(1, (a - 0x5000602000) / 4)] else []
  else if 0x5000600100 ≤ a ∧ a < 0x5000600900 ∧ (a - 0x5000600100) % 0x20 = 4 then
    if w.get F.TMRN_CFG_MODE = 0 then [] else [(3, (a - 0x5000600100) / 0x20)]
  else if 0x5001000000 ≤ a ∧ a < 0x5001A00000 ∧ a % 0x100000 = 4 then
    let n := (a - 0x5001000000) / 0x100000
    if w.get F.IMG_LANE_CFG_LANES = 3 then [(2, n), (2, n + 1)] else [(2, n)]
  else if 0x5002901000 ≤ a ∧ a < 0x5002902000 ∧ (a - 0x5002901000) % 0x40 = 0 then
    if w.get F.CH_CTRL_ENABLE = 1 then [(6, (a - 0x5002901000) / 0x40)] else []
  else if 0x5000500000 ≤ a ∧ a < 0x5000501000 then if w = 0 then [] else [(5, (a - 0x5000500000) / 4)]
  else if 0x5002A00000 ≤ a ∧ a < 0x5002A0003C then
    if w.get F.HOST_SRC_MAP_EN = 1 then [(7, w.get F.HOST_SRC_MAP_STREAM)] else []
  else if 0x5000900000 ≤ a ∧ a < 0x5000901000 ∧ (a - 0x5000900000) % 0x200 = 8 then
    if w.get F.AXIS_CFG_ENABLE = 1 then [(8, (a - 0x5000900000) / 0x200)] else []
  else if 0x5000801000 ≤ a ∧ a < 0x5000801200 ∧ (a - 0x5000801000) % 0x20 = 0 then
    if w.get F.CMP_CFG_ENABLE = 1 then [(9, (a - 0x5000801000) / 0x20)] else []
  else if 0x5000A00400 ≤ a ∧ a < 0x5000A00800 ∧ (a - 0x5000A00400) % 0x40 = 0 then
    let m := w.get F.M_CFG_MODE
    let k := (a - 0x5000A00400) / 0x40
    if m = 1 ∨ m = 2 then
      (0xA, k) :: (if w.get F.M_CFG_NEG < 16 then [(0xA, w.get F.M_CFG_NEG)] else [])
    else []
  else if 0x5000B00000 ≤ a ∧ a < 0x5000B04000 ∧ a % 0x1000 = 4 then
    if w.get F.LC_CFG_ENABLE = 1 then [(0xB, (a - 0x5000B00000) / 0x1000)] else []
  else []

/-- The streams that POLICY enables, with their two bytes (02, POLICY). -/
def policyStreams (s : State) (b : Nat) : List (Nat × Nat) :=
  match secOf s b 5 with
  | none => []
  | some x => (List.range 16).map (fun i => (s.img b (x.off + 0x50 + 16 * i) 1, s.img b (x.off + 0x51 + 16 * i) 1))

/-- The row-select pins of a lamp chain in matrix mode (06 R213). -/
def rowPins (s : State) (c : Nat) : List Nat :=
  if s.fld (R.LC_CFG c) F.LC_CFG_ENABLE = 1 ∧ s.fld (R.LC_CFG c) F.LC_CFG_MODE = 2 then
    let lo := s.fld (R.LC_MATRIX c) F.LC_MATRIX_ROW_PIN
    let rows := min 8 (max 2 (s.fld (R.LC_MATRIX c) F.LC_MATRIX_ROWS))
    ((List.range rows).map (lo + ·)).filter (· < 32)
  else []

/-- The pins that a block is set to drive, each with the FUNC and INDEX that names it (18 R551). -/
def drivenPins (s : State) : List (Nat × Nat × Nat) :=
  ((List.range 16).filter (fun m => s.bit (R.CMP_CFG m) F.CMP_CFG_GPIO_EN)).map
      (fun m => (s.fld (R.CMP_CFG m) F.CMP_CFG_GPIO_PIN, 3, m)) ++
    ((List.range 4).filter (fun n => s.fld (R.TP_SHUT_CFG n) F.TP_SHUT_CFG_MODE == 2)).map
      (fun n => (s.fld (R.TP_SHUT_CFG n) F.TP_SHUT_CFG_ACT, 5, n)) ++
    (List.range 4).flatMap (fun c => (rowPins s c).map (fun p => (p, 4, c)))

/-- Whether a pin's FUNC and INDEX name a block and unit (18 R550, R551). -/
def pinNames (s : State) (pin func unit : Nat) : Bool :=
  s.fld (R.GPIO_CFG pin) F.GPIO_CFG_FUNC == func && s.fld (R.GPIO_CFG pin) F.GPIO_CFG_INDEX == unit

/-- The conflict of a driven stream whose feature does not claim its pacing axis (02 R57, R68). -/
def pacingConflict (cs : List Claim) : List (Nat × Nat) → Nat → Option Conflict
  | [], _ => none
  | (fl, ax) :: r, i =>
    if fl % 2 = 1 ∧ fl / 2 % 2 = 1 then
      let sc := cs.filter (fun c => c.cls == 7 && decide (c.first ≤ i ∧ i < c.first + c.count))
      let ac := cs.filter (fun c => c.cls == 8 && decide (c.first ≤ ax ∧ ax < c.first + c.count))
      if sc.any (fun c => ac.any (fun d => c.feature == d.feature)) then pacingConflict cs r (i + 1)
      else some ⟨8, ax, (sc.head?.map (·.feature)).getD 0, (ac.head?.map (·.feature)).getD 0⟩
    else pacingConflict cs r (i + 1)

/-- A use without a claim, or the ninth port's lane group beyond the range, which is reported with the FEATURE of the
claim that covers group 9 (02 R67, R68). -/
def useConflict (cs : List Claim) (u : Nat × Nat) : Conflict :=
  if u.1 = 2 ∧ u.2 = 10 then
    ⟨2, 10, ((cs.find? (fun c => c.cls == 2 && decide (c.first ≤ 9 ∧ 9 < c.first + c.count))).map (·.feature)).getD 0, 0⟩
  else ⟨u.1, u.2, 0xFFFF, 0⟩

/-- The first conflict of an image: claims, uses without claim, misrouted pins, pacing axes (02 R66 to R68). `s1` holds
the registers after the BLOCK records. R66 gives an order to claims alone; that uses are judged after every claim, by the
order of the BLOCK records, then of POLICY's streams, then misrouted pins, is the model's choice (log entry 84). -/
def conflictOf (s s1 : State) (b : Nat) : Option Conflict :=
  let cs := claimsOf s b
  match claimsConflict [] cs with
  | some c => some c
  | none =>
    let ps := policyStreams s b
    let streamUses := ((List.range 16).filter (fun i => (ps.getD i (0, 0)).1 % 2 == 1)).map (fun i => (7, i))
    let uses := (blockWrites s b).flatMap (fun a => usesAt s1 (canonReg a)) ++ streamUses
    match uses.find? (fun u => !claimed cs u.1 u.2) with
    | some u => some (useConflict cs u)
    | none =>
      match (drivenPins s1).find? (fun p => !pinNames s1 p.1 p.2.1 p.2.2) with
      | some p => some ⟨1, p.1, 0xFFFF, 0⟩
      | none => pacingConflict cs ps 0

/-! ### Checks 9 to 11 -/

/-- Check 9 of 02 R63: a BLOCK address is 4-byte aligned, inside a register block, and not in SYS, BOOT, TRUST or PEAT
(02 R53). -/
def blockAddrOk (a : Nat) : Bool :=
  decide (a % 4 = 0) &&
    (match regionOf a with
     | .block blk => blk != 0 && blk != 1 && blk != 0x2C && blk != 0x38
     | _ => false)

/-- The tuft table entry of a tuft: OP0 to OP3, START_OP, PARK (02, FROND). -/
def tuftEntry (s : State) (b : Nat) (x : Sec) (t : Nat) : List Nat × Nat × Nat :=
  let e := x.off + 0x40 + 16 * t
  ((List.range 4).map (fun i => s.img b (e + 2 * i) 2), s.img b (e + 8) 1, s.img b (e + 9) 1)

/-- Check 10 of 02 R63: a frond image that lies within its section fits its memory, and no descriptor names a frond of a
parked tuft (02 R50, R55). A FROND above 63 belongs to no tuft and is left to check 11. -/
def frondFitOk (s : State) (b : Nat) : Bool :=
  match secOf s b 3 with
  | none => true
  | some x => (entriesOf s b 3).all (fun e =>
      let f := s.img b e 1
      let fits (o size : Nat) : Bool :=
        let n := s.img b (e + o + 4) 4
        decide (x.len < s.img b (e + o) 4 + n ∨ n ≤ size)
      let parked := decide (f < 64) && (tuftEntry s b x (f / 8)).2.2 == 1
      fits 8 65536 && fits 0x10 262144 && !parked)

/-- Whether a list of keys names nothing twice. -/
def noTwice : List Nat → Bool
  | [] => true
  | a :: r => !(r.contains a) && noTwice r

/-- The content limits of FROND (02, FROND). -/
def frondContentOk (s : State) (b : Nat) : Bool :=
  match secOf s b 3 with
  | none => true
  | some x =>
    let es := entriesOf s b 3
    decide (0xC0 ≤ x.len) &&
      (List.range 8).all (fun t =>
        let (ops, st, park) := tuftEntry s b x t
        ops.all (fun o => o == 0 || decide (400 ≤ o ∧ o ≤ 1500)) && decide (park < 2 ∧ st < 4) &&
          ops.getD st 0 != 0) &&
      noTwice (es.map (fun e => s.img b e 1)) &&
      es.all (fun e => decide (s.img b e 1 < 64 ∧ s.img b (e + 4) 4 % 8 = 0 ∧ s.img b (e + 4) 4 < 0x10000 ∧ s.img b (e + 8) 4 % 64 = 0 ∧
        s.img b (e + 0xC) 4 % 8 = 0 ∧ s.img b (e + 0x10) 4 % 64 = 0 ∧
        s.img b (e + 8) 4 + s.img b (e + 0xC) 4 ≤ x.len ∧ s.img b (e + 0x10) 4 + s.img b (e + 0x14) 4 ≤ x.len))

/-- The content limits of CALREF (02 R56). -/
def calrefContentOk (s : State) (b : Nat) : Bool :=
  let es := entriesOf s b 4
  es.all (fun e =>
      let blk := s.img b e 1
      let kind := s.img b (e + 2) 1
      let isImg := decide (0x10 ≤ blk ∧ blk ≤ 0x19)
      (isImg || decide (0x20 ≤ blk ∧ blk ≤ 0x23)) && decide (s.img b (e + 1) 1 < 4 ∧ 1 ≤ kind ∧ kind ≤ 6) &&
        ((kind == 1) == isImg)) &&
    noTwice (es.map (fun e =>
      let kind := s.img b (e + 2) 1
      65536 * s.img b e 1 + 256 * kind + (if kind = 4 then 4 else s.img b (e + 1) 1)))

/-- The range of a threshold (02 R57); `none` for an unknown ID. -/
def thresholdMax (id : Nat) : Option Nat :=
  if id = 1 then some 16777215 else if id = 2 then some 60000 else if id = 3 then some 60000 else none

/-- The content limits of POLICY (02, POLICY; R57). -/
def policyContentOk (s : State) (b : Nat) : Bool :=
  match secOf s b 5 with
  | none => true
  | some x =>
    let es := entriesOf s b 5
    decide (0x1C0 ≤ x.len) && decide (s.img b (x.off + 0x44) 1 < 2) &&
      es.all (fun e => match thresholdMax (s.img b e 4) with
        | some m => decide (s.img b (e + 4) 4 ≤ m)
        | none => false) &&
      noTwice (es.map (fun e => s.img b e 4)) &&
      (policyStreams s b).all (fun p => p.1 / 2 % 2 == 0 || decide (p.2 < 8))

/-- Whether a SCRIPT target exists (02, SCRIPT). -/
def targetOk (t : Nat) : Bool := decide (t ≤ 9) || decide (0x10 ≤ t ∧ t ≤ 0x13) || decide (0x20 ≤ t ∧ t ≤ 0x23)

/-- One operation of a script (02, SCRIPT). -/
def opAt (s : State) (b a : Nat) : ScriptOp :=
  ⟨s.img b a 1, s.img b (a + 1) 1, s.img b (a + 2) 2, s.img b (a + 4) 4, s.img b (a + 8) 4, s.img b (a + 12) 4⟩

/-- The scripts of an image (02, SCRIPT). -/
def scriptsOf (s : State) (b : Nat) : List Script :=
  match secOf s b 6 with
  | none => []
  | some x => (entriesOf s b 6).map (fun e =>
      let ofs := s.img b (e + 4) 4
      let n := if ofs + 16 * s.img b (e + 8) 4 ≤ x.len then s.img b (e + 8) 4 else 0
      ⟨s.img b e 1, s.img b (e + 1) 1, (List.range n).map (fun i => opAt s b (x.off + ofs + 16 * i))⟩)

/-- The content limits of SCRIPT (02 R50, R58, R59). The SCRIPT table says that DEV is 0 for SPI and names no code for
another value; it is taken and has no effect there (log entry 85). For I²C, whose targets are the thermal ports, DEV is a
7-bit address. -/
def scriptContentOk (s : State) (b : Nat) : Bool :=
  (entriesOf s b 6).all (fun e => targetOk (s.img b e 1) &&
      decide (1 ≤ s.img b (e + 1) 1 ∧ s.img b (e + 1) 1 ≤ 4 ∧ s.img b (e + 4) 4 % 16 = 0)) &&
    (scriptsOf s b).all (fun sc =>
      ((sc.ops.getLast?.map (·.op)) == some 0) &&
        sc.ops.all (fun o => decide (o.op ≤ 4) && (o.op != 4 || decide (o.data ≤ 1000000)) &&
          (o.op == 0 || o.op == 4 || (decide ((o.width % 16 = 1 ∨ o.width % 16 = 2) ∧ 1 ≤ o.width / 16 ∧ o.width / 16 ≤ 4) &&
            (sc.target / 16 != 1 || decide (o.dev < 128))))))

/-- The content limits of MOTION (02, MOTION). -/
def motionContentOk (s : State) (b : Nat) : Bool :=
  match secOf s b 7 with
  | none => true
  | some x =>
    let es := entriesOf s b 7
    noTwice (es.map (fun e => s.img b e 1)) &&
      es.all (fun e => decide (s.img b e 1 < 8 ∧ 1 ≤ s.img b (e + 8) 4 ∧ s.img b (e + 8) 4 ≤ 1024 ∧
        s.img b (e + 4) 4 + 32 * s.img b (e + 8) 4 ≤ x.len))

/-- The zones of an image (02, ZONE); bits [7:4] of TPORT_MASK have no meaning and none is required of them (DESIGN
CHOICE: log entry 108). -/
def zonesOf (s : State) (b : Nat) : List Zone :=
  (entriesOf s b 8).map (fun e => ⟨s.img b e 2, s.img b (e + 2) 1, s.img b (e + 3) 1 % 16,
    toSigned 64 (s.img b (e + 8) 8), toSigned 64 (s.img b (e + 16) 8)⟩)

/-- The content limits of ZONE (02, ZONE). -/
def zoneContentOk (s : State) (b : Nat) : Bool :=
  let z := zonesOf s b
  z.all (fun x => decide (x.id < 256 ∧ x.itf < 8 ∧ x.start < x.stop)) && noTwice (z.map (·.id))

/-- The content limits of RESOURCE: FEATURE 1 to 0xFFFD, COUNT at least 1 (02, RESOURCE). -/
def resourceContentOk (s : State) (b : Nat) : Bool :=
  (claimsOf s b).all (fun c => decide (1 ≤ c.feature ∧ c.feature ≤ 0xFFFD ∧ 1 ≤ c.count))

/-- Every section's COUNT within its limit and its entries within its LENGTH (02 R50, R51). -/
def countsOk (s : State) (b : Nat) : Bool :=
  (secsOf s b).all (fun x =>
    let (sz, start, lim) := entryShape x.typ
    decide (secCount s b x ≤ lim ∧ start + sz * secCount s b x ≤ x.len))

/-- The limits that other chapters put on the registers after the BLOCK records (04 R130, 06 R196, 13 R414). -/
def registersOk (s s1 : State) (b : Nat) : Bool :=
  let ps := policyStreams s b
  let enabled := (List.range 16).filter (fun i => (ps.getD i (0, 0)).1 % 2 == 1)
  let size := fun i => s1.fld (R.SPOOL_SIZE i) F.SPOOL_SIZE_SIZE
  (List.range 10).all (fun n =>
      let px := s1.fld (R.IMG_GEOM n) F.IMG_GEOM_PIXELS
      let top := if s1.bit (R.IMG_FRAME_CFG n) F.IMG_FRAME_CFG_TRILINEAR then 16384 else 32768
      decide (px % 32 = 0 ∧ 64 ≤ px ∧ px ≤ top)) &&
    (List.range 4).all (fun n =>
      s1.fld (R.LC_LAYOUT n) F.LC_LAYOUT_PWM_BITS != 0 || s1.fld (R.LC_LAYOUT n) F.LC_LAYOUT_DAC_BITS != 0) &&
    enabled.all (fun i => decide ((s1.reg (R.SPOOL_BASE_LO i)).toNat % 0x100000 = 0 ∧ 16 ≤ size i ∧ size i ≤ 98304)) &&
    decide ((enabled.map size).sum ≤ 98304)

/-- Check 11 of 02 R63. -/
def contentOk (s s1 : State) (b : Nat) : Bool :=
  countsOk s b && resourceContentOk s b && frondContentOk s b && calrefContentOk s b && policyContentOk s b &&
    scriptContentOk s b && motionContentOk s b && zoneContentOk s b && registersOk s s1 b

/-- Whether an image holds bytes programmed from a data buffer that was written meanwhile (02 R79). -/
def flashSpoilt (s : State) (b : Nat) : Bool :=
  let len := max 0x400 (s.img b 0xC 4)
  s.boot.spoilt.any (fun p => decide (p.1 < b + len ∧ b < p.1 + p.2))

/-- Whether a flash read error is met in a slot's image or, with `whole` false, in its header and signature block. -/
def flashError (s : State) (b : Nat) (whole : Bool) : Bool :=
  let len := s.img b 0xC 4
  let so := s.img b 0x10 4
  let n := if keyFlags s b = 0 then 320 else 5568
  s.bench.badFlash.any (fun a => decide (b ≤ a ∧ a < b + 0x4000000) &&
    (decide (a - b < 0x400) || decide (so ≤ a - b ∧ a - b < so + n) || (whole && decide (a - b < len))))

/-- Checks 1 to 6 of a slot, which step 3 of a start makes (02 R63, R69): the code, 1 where they pass. A read error in a
section's bytes is met at check 7, which reads them all (DESIGN CHOICE: log entry 109). -/
def slotHead (s : State) (slot : Nat) : Nat :=
  let b := slotBase slot
  if !s.bench.sfdp then 4
  else if s.bench.badFlash.any (fun a => decide (b ≤ a ∧ a < b + 0x400)) then 4
  else if s.img b 0 8 ≠ 0x45524F50534F4147 then 2
  else if flashError s b false then 4
  else if !formatOk s b then 3
  else if !ownerOk s b then 5
  else if !signaturesOk s b then 6
  else if !arbOk s b then 7
  else 1

/-- Checks 7 to 11 of a slot, which step 7 of a start makes: the code and the conflict to report. An image with
undefined bytes of R79 fails at check 7 at the latest (log entry 117). -/
def slotBody (s : State) (slot : Nat) : Nat × Option Conflict :=
  let b := slotBase slot
  let s1 := blocksApply s b { State.reset with tm := s.tm }
  if flashError s b true then (4, none)
  else if flashSpoilt s b || !hashesOk s b then (8, none)
  else
    match conflictOf s s1 b with
    | some c => (9, some c)
    | none =>
      if !(blockAddrs s b).all blockAddrOk then (0xA, none)
      else if !frondFitOk s b then (0xB, none)
      else if !contentOk s s1 b then (0xC, none)
      else (1, none)

/-- What the check of a slot answers: the code of 02 R63 (1: accepted) and the conflict to report. -/
def checkSlot (s : State) (slot : Nat) : Nat × Option Conflict :=
  let h := slotHead s slot
  if h = 1 then slotBody s slot else (h, none)

/-- The value of a threshold of POLICY, or its default 0 (02 R57). -/
def thresholdOf (s : State) (b id : Nat) : Nat :=
  match (entriesOf s b 5).find? (fun e => s.img b e 4 == id) with
  | some e => s.img b (e + 4) 4
  | none => 0

/-- What the device keeps of an accepted image. -/
def sporeOf (s : State) (slot : Nat) : Spore :=
  let b := slotBase slot
  let p := ((secOf s b 5).map (·.off)).getD 0
  { slot := slot, header := s.imgBytes b 0 0x400, build := s.img b 0x18 4, arb := s.img b 0x14 1,
    flags := s.img b 0x15 1, permissions := s.img b (p + 0x40) 4, autorun := s.img b (p + 0x44) 1 == 1,
    readyMask := s.img b (p + 0x46) 2, recordKey := s.imgBytes b (p + 0x150) 97, wdogMs := thresholdOf s b 1,
    autorunDelay := thresholdOf s b 2, hostReqMin := thresholdOf s b 3, streams := policyStreams s b,
    scripts := scriptsOf s b, zones := zonesOf s b,
    calrefs := (entriesOf s b 4).map (fun e =>
      ⟨s.img b e 1, s.img b (e + 1) 1, s.img b (e + 2) 1, s.img b (e + 4) 4, s.img b (e + 8) 4⟩) }

end Sys2Proof.Machine
end

