-- ==== Sys2Proof/Machine/Pins.lean ====
section
/-!
DEFINITION. The GPIO bank: what drives each pin, the levels, the drives withheld (18 R550 to R552).
-/

namespace Sys2Proof.Machine

/-- The shutter's settings as its last event read them at its start; before the first one those of the register (08
R288). -/
def shutterCfg (s : State) (n : Nat) : Word :=
  let x : TpSt := Sparse.get (fun _ => {}) s.tps n
  x.shutCfg.getD (s.reg (R.TP_SHUT_CFG n))

/-- The pins that blocks in force are set to drive, each with the FUNC and INDEX that names its block and the level the
block gives it (18 R551; 03 R111, 06 R213, 08 R263). -/
def pinDrives (s : State) : List (Nat × Nat × Nat × Bool) :=
  ((List.range 16).filter (fun m => s.actBit (R.CMP_CFG m) F.CMP_CFG_GPIO_EN)).map
      (fun m => (s.actFld (R.CMP_CFG m) F.CMP_CFG_GPIO_PIN, 3, m, (Sparse.find s.cmpPulse m).isSome)) ++
    ((List.range 4).filter (fun n => (shutterCfg s n).get F.TP_SHUT_CFG_MODE == 2)).map
      (fun n =>
        let x : TpSt := Sparse.get (fun _ => {}) s.tps n
        let w := shutterCfg s n
        (w.get F.TP_SHUT_CFG_ACT, 5, n, x.drive != (w.get F.TP_SHUT_CFG_GPIO_INV == 1))) ++
    (List.range 4).flatMap (fun c =>
      let x : LampSt := Sparse.get (fun _ => {}) s.lamps c
      let lo := s.fld (R.LC_MATRIX c) F.LC_MATRIX_ROW_PIN
      (rowPins s c).map (fun p => (p, 4, c, x.rowOn && (x.row == p - lo))))

/-- The instruction that the TAP executes: EXTEST, CLAMP and HIGHZ only in SAFE and MAINT and while POR_N is low, frond
debug access only after an unlock; BYPASS in their place (21 R608, 16 R501). -/
def tapExecutes (s : State) : TapInstr :=
  match s.tap with
  | .extest | .clamp | .highz => if s.mode = .safe ∨ s.mode = .maint ∨ s.mode = .off then s.tap else .bypass
  | .frondDebug => if s.root.debug then .frondDebug else .bypass
  | i => i

/-- FUNC of a pin; 0x6 to 0xF are taken as 0, and outside RUN and MAINT, and under HIGHZ,
every pin is an input (18 R550, R552; 21 R608). -/
def pinFunc (s : State) (k : Nat) : Nat :=
  let f := s.fld (R.GPIO_CFG k) F.GPIO_CFG_FUNC
  if s.working ∧ f ≤ 5 ∧ tapExecutes s ≠ .highz then f else 0

/-- The level that a pin's FUNC gives it; `none` for an input (18 R550). A FUNC whose block does not drive the pin
gives it a low level. -/
def pinLevel (s : State) (k : Nat) : Option Bool :=
  let f := pinFunc s k
  let i := s.fld (R.GPIO_CFG k) F.GPIO_CFG_INDEX
  if f = 0 then none
  else if f = 1 then some (s.bit R.GPIO_OUT ⟨k, 1⟩)
  else if f = 2 then some (s.bit (R.TMRN_STATUS i) F.TMRN_STATUS_OUTPUT)
  else some ((pinDrives s).any (fun d => d.1 == k && d.2.1 == f && d.2.2.1 == i && d.2.2.2))

/-- GPIO_IN of one pin: the driven level, or the level on the board's side of an input or of a released open-drain
pin (18 R550). -/
def pinIn (s : State) (k : Nat) : Bool :=
  let board := s.pins.getLsbD k
  match pinLevel s k with
  | none => board
  | some v => if s.bit (R.GPIO_CFG k) F.GPIO_CFG_OD && v then board else v

/-- GPIO_IN (18 R550). -/
def gpioIn (s : State) : Word :=
  (List.range 32).foldl (fun w k => Word.put w ⟨k, 1⟩ (if pinIn s k then 1 else 0)) 0

/-- GPIO_MISROUTE: the drives withheld (18 R551). -/
def gpioMisroute (s : State) : Word :=
  if s.working then
    (pinDrives s).foldl (fun w d => if pinNames s d.1 d.2.1 d.2.2.1 then w else Word.put w ⟨d.1, 1⟩ 1) 0
  else 0

/-! ### FAULT_N (21 R594) -/

/-- What the block does with the open-drain pin FAULT_N. -/
inductive FaultN where
  | low
  | released
  | undriven
  deriving DecidableEq, Repr

/-- FAULT_N: low in OFF while VDDIO18 is present, and in BOOT, SAFE and HALT, where a static latch holds it after the
clocks have stopped; released in RUN and MAINT (21 R594). -/
def faultN (s : State) : FaultN :=
  match s.mode with
  | .off => if s.pwr.vddio18 then .low else .undriven
  | .boot | .safe | .halt => .low
  | .run | .maint => .released

/-- THERM_N is driven low: the thermal shutdown latch is set and the selected AON supply is up (19 R558). -/
def thermLow (s : State) : Bool := s.pwr.latch && (if s.pwr.onB then s.pwr.vaonB else s.pwr.vaonA)

/-! ### The ball groups before their blocks drive them (21 R591) -/

/-- The groups of signal balls of 21 R591 whose outputs or terminations the table gives states for. -/
inductive BallGroup where
  | sensorLane
  | lineTrigger
  | sensorSckMosi
  | sensorCs
  | sensorMiso
  | thermalMclkSync
  | thermalEn
  | thermalData
  | thermalBus
  | encoder
  | passThrough
  | phaseOut
  | phaseFault
  | lampOut
  | lampBlk
  | lampIn
  | analogueIn
  | excitation
  | analogueRef
  | analogueTest
  | loopDrive
  | loopSense
  | runnerTx
  | runnerRx
  | pcieTx
  | refClock
  | perst
  | sporeClk
  | sporeCs
  | sporeRst
  | sporeData
  | gpio
  | strap
  | faultN
  | thermN
  | ready
  | crystal
  | timeSync
  | avsOut
  | avsIn
  | tapTmsTdi
  | tapTckTrst
  | tapTdo
  deriving DecidableEq, Repr

/-- What a ball does: an input with its termination or bias, or what an output drives. `block` means that a rule of the
owning block says it. -/
inductive BallState where
  | terminated
  | biased
  | floating
  | pullUp
  | pullDown
  | low
  | high
  | released
  | off
  | idle
  | running
  | block
  deriving DecidableEq, Repr

/-- The state of a group while POR_N is low with its bank powered (21 R591). -/
def ballInReset : BallGroup → BallState
  | .sensorLane | .thermalData | .runnerRx => .terminated
  | .encoder => .biased
  | .lineTrigger | .sensorSckMosi | .thermalMclkSync | .analogueIn | .analogueRef | .analogueTest | .loopSense
  | .refClock | .sporeClk | .tapTdo | .phaseFault | .perst | .timeSync => .floating
  | .sensorCs | .lampBlk | .sporeCs | .avsOut | .avsIn | .tapTmsTdi => .pullUp
  | .sensorMiso | .thermalEn | .passThrough | .phaseOut | .lampOut | .lampIn | .sporeRst | .sporeData | .gpio | .strap
  | .tapTckTrst => .pullDown
  | .thermalBus => .released
  | .excitation | .loopDrive => .off
  | .runnerTx | .pcieTx => .idle
  | .faultN | .ready => .low
  | .crystal => .running
  | .thermN => .block

/-- The state of a group from the release of POR_N until its owning block first drives it (21 R591). -/
def ballReleased : BallGroup → BallState
  | .lineTrigger | .sensorSckMosi | .thermalMclkSync | .thermalEn | .passThrough | .phaseOut | .lampOut => .low
  | .sensorCs | .lampBlk | .avsOut => .high
  | .pcieTx | .sporeClk | .sporeCs | .sporeRst | .strap | .faultN | .thermN | .ready | .timeSync | .tapTdo => .block
  | .gpio => .pullDown
  | g => ballInReset g

/-- TAP_INSTRUCTION (21 R608): IDCODE reads 0x1640_0FC7. -/
def execTapInstruction (i : TapInstr) (s : State) : Result :=
  .next (
    let s := { s with tap := i }
    let e := tapExecutes s
    s.emit (.tap e (if e = .idcode then some 0x16400FC7 else none)))

end Sys2Proof.Machine
end

