-- ==== Sys2Proof/Machine/ThermalPix.lean ====
section
/-!
DEFINITION. Thermal ports: the geometry of a frame, its coefficients, and the stages 1 to 7 of the correction pipeline
(07 R226 to R243, R249, R250; 08 R271 to R275, R284).
-/

namespace Sys2Proof.Machine

/-- A FAULT flag of TP_n_STATUS, with the event on becoming set (07 R256). -/
def tpFault (s : State) (n : Nat) (f : Fld) : State := s.flagEvent (R.TP_STATUS n) f (Ev.tp n 7)

/-- Setting a bit of a frame's flags. -/
def withFlag (fl k : Nat) (b : Bool) : Nat := if b ∧ fl / 2 ^ k % 2 = 0 then fl + 2 ^ k else fl

/-! ### Geometry (07 R227) -/

/-- COLS of a geometry word: 64 to 1,280, rounded down to a multiple of 16. -/
def colsOf (w : Word) : Nat := min 1280 (max 64 (w.get F.TP_GEOM_COLS)) / 16 * 16

/-- ROWS of a geometry word: 16 to 1,024. -/
def rowsOf (w : Word) : Nat := min 1024 (max 16 (w.get F.TP_GEOM_ROWS))

/-- The window of a setting: ROW_FIRST and ROW_COUNT (07 R227, 08 R277). -/
def windowOf (geom window : Word) (line : Bool) : Nat × Nat :=
  let first := window.get F.TP_WINDOW_ROW_FIRST
  let c := window.get F.TP_WINDOW_ROW_COUNT
  let c := if line then min 64 (max 2 c) else c
  (first, if rowsOf geom < first + c then rowsOf geom - first else c)

/-- COLS of a frame. -/
def TFrame.cols (f : TFrame) (n : Nat) : Nat := colsOf (f.reg (R.TP_GEOM n))

/-- ROW_FIRST and ROW_COUNT of a frame. -/
def TFrame.window (f : TFrame) (n : Nat) : Nat × Nat :=
  windowOf (f.reg (R.TP_GEOM n)) (f.inForce (R.TP_WINDOW n)) (f.lineMode n)

/-- BLIND_ROWS and BLIND_COLS of a frame. -/
def TFrame.blind (f : TFrame) (n : Nat) : Nat × Nat :=
  (min 8 ((f.reg (R.TP_BLIND n)).get F.TP_BLIND_BLIND_ROWS), min 32 ((f.reg (R.TP_BLIND n)).get F.TP_BLIND_BLIND_COLS))

/-- The lanes in use of an interface setting. -/
def lanesOf (w : Word) : Nat := let l := w.get F.TP_IF_CFG_LANES; if l = 0 then 1 else if l = 1 then 2 else 4

/-- PIX_BITS of an interface setting. -/
def pixBitsOf (w : Word) : Nat := let b := w.get F.TP_IF_CFG_PIX_BITS; if b = 0 then 12 else if b = 1 then 14 else 16

/-- OUT_MODE of a frame: 0b11 is taken as stage 7 (07 R237). -/
def TFrame.outMode (f : TFrame) (n : Nat) : Nat := min 2 (f.cfg n F.TP_FRAME_CFG_OUT_MODE)

/-! ### Memory of a port -/

/-- A byte that a port reads from DRAM; outside claimed DRAM nothing answers, and the byte is a free value (01 R35). -/
def State.portByte (s : State) (a : Nat) : Byte := if s.dramOpen a 1 then s.byte a else Config.dramFree s.dramEpoch a

/-- A little-endian number that a port reads from DRAM. -/
def State.portNat (s : State) (a n : Nat) : Nat := ofBytesLE (bytesOf n (fun i => s.portByte (a + i)))

/-- Bytes that a port writes to DRAM; outside claimed DRAM they are lost. -/
def State.portWrite (s : State) (a : Nat) (bs : List Byte) : State :=
  if s.dramOpen a bs.length then s.write a bs else s

/-- The stride of a row of coefficients (07 R233). -/
def strideOf (cols : Nat) : Nat := roundUp (cols * 12) 64

/-- The entry of a pixel in a NUC set in DRAM, as a 96-bit number (07 R233, R234). -/
def nucEntry (s : State) (base set cols r c : Nat) : Nat :=
  s.portNat (base + set * 0x1000000 + r * strideOf cols + 12 * c) 12

/-- G, O, A1, A2, A3 and TAU of an entry (07 R234). -/
structure Coef where
  g : Int
  o : Int
  a1 : Int
  a2 : Int
  a3 : Int
  tau : Nat
  deriving DecidableEq, Repr

/-- The fields of an entry. -/
def coefOf (e : Nat) : Coef :=
  ⟨(e % 2 ^ 16 : Nat), toSigned 16 (e / 2 ^ 16), toSigned 16 (e / 2 ^ 32), toSigned 16 (e / 2 ^ 48),
    toSigned 16 (e / 2 ^ 64), e / 2 ^ 80 % 2 ^ 16⟩

/-! ### Stages 1 to 4 (07 R238 to R243) -/

/-- Stage 2: gain and offset (07 R239). -/
def stage2 (c : Coef) (x1 : Int) : Int := (x1 * c.g + 2 ^ 13) / 2 ^ 14 + c.o

/-- Stage 3: drift (07 R242). -/
def stage3 (c : Coef) (dt rate x2 : Int) : Int :=
  x2 - (c.a1 * dt * 2 ^ 16 + c.a2 * (dt * dt) + c.a3 * rate * 2 ^ 20 + 2 ^ 31) / 2 ^ 32

/-- Stage 4 before the clamp: the shutter byte in quarter counts (07 R243). -/
def stage4 (sh x3 : Int) : Int := (4 * x3 - sh + 2) / 4

/-- A blind reference updated: floor of the mean of the qualifying pixels, or the one held where there are too few; the
second component says that it was held (07 R238). -/
def betaOf (held : Int) (sum n least : Nat) : Int × Bool := if n < least then (held, true) else ((sum / n : Nat), false)

/-- The corrected row of a window: stages 1 to 4, with the frame's flags (07 R237 to R243). -/
def correctRow (f : TFrame) (n r : Nat) (beta : Int) (raw : List Nat) (coefs : List Nat) : TRow × Nat :=
  let cols := f.cols n
  let drift := f.cfg n F.TP_FRAME_CFG_DRIFT_EN = 1
  let shut := f.cfg n F.TP_FRAME_CFG_SHUTTER_EN = 1
  let cs := coefs.map coefOf
  let x3 := (raw.zip cs).map (fun p =>
    let x2 := stage2 p.2 (p.1 - beta)
    if drift then stage3 p.2 f.dt f.rate x2 else x2)
  let x4 := x3.zipIdx.map (fun p =>
    stage4 (if shut then Sparse.get (fun _ => (0 : Int)) f.plane (r * cols + p.2) else 0) p.1)
  let fl := withFlag (withFlag f.flags 15 (x4.any (· < 0))) 7 (x4.any (fun v => decide (65535 < v)))
  (⟨r, raw, x3, x4.map (fun v => (clampInt 0 65535 v).toNat), cs.map (·.tau)⟩, fl)

/-! ### Stage 5 (07 R249, R250) -/

/-- ROW and COL of a defect entry as one number, which orders the table (07 R249). -/
def defKey (w : Word) : Nat := w.get F.TP_DEF_ROW * 2048 + w.get F.TP_DEF_COL

/-- Whether a pixel is listed. -/
def isListed (defs : List Word) (r c : Nat) : Bool := defs.any (fun w => defKey w == r * 2048 + c)

/-- The stage-4 value of a pixel that a replacement may use: inside the window, not listed. -/
def usable (rows : List TRow) (defs : List Word) (cols : Nat) (r c : Int) : Option Nat :=
  if r < 0 ∨ c < 0 ∨ (cols : Int) ≤ c ∨ isListed defs r.toNat c.toNat then none
  else (rows.find? (fun w => (w.r : Int) == r)).map (fun w => w.x4.getD c.toNat 0)

/-- The nearest usable pixel of a row in a direction. -/
def nearest (rows : List TRow) (defs : List Word) (cols : Nat) (r d : Int) : Nat → Int → Option Nat
  | 0, _ => none
  | m + 1, c =>
    match usable rows defs cols r (c + d) with
    | some v => some v
    | none => nearest rows defs cols r d m (c + d)

/-- The mean of the usable neighbours. -/
def meanOf (l : List (Option Nat)) : Option Nat :=
  let u := l.filterMap id
  if u = [] then none else some ((u.sum + u.length / 2) / u.length)

/-- The replacement of a listed pixel (07 R250). -/
def replacement (rows : List TRow) (defs : List Word) (cols rule : Nat) (r c : Int) : Nat :=
  let at_ (dr dc : Int) := usable rows defs cols (r + dr) (c + dc)
  let left := nearest rows defs cols r (-1) cols c
  let right := nearest rows defs cols r 1 cols c
  let both := (meanOf [left, right]).getD 0
  let edge := [at_ (-1) 0, at_ 1 0, at_ 0 (-1), at_ 0 1]
  if rule = 0 then (left.orElse (fun _ => right)).getD 0
  else if rule = 1 then (right.orElse (fun _ => left)).getD 0
  else if rule = 2 then both
  else if rule = 3 then (meanOf [at_ (-1) 0, at_ 1 0]).getD both
  else if rule = 5 then (meanOf (edge ++ [at_ (-1) (-1), at_ (-1) 1, at_ 1 (-1), at_ 1 1])).getD 0
  else if rule = 6 then 0
  else (meanOf edge).getD 0

/-- Stage 5 of a frame: its rows of values in window order, and how many replacements were 0. -/
def stage5 (rows : List TRow) (defs : List Word) (cols : Nat) (on : Bool) : List (List Nat) × Nat :=
  if !on then (rows.map (·.x4), 0)
  else
    let zeros := (defs.filter (fun w => (rows.any (fun t => t.r == w.get F.TP_DEF_ROW)) &&
      decide (w.get F.TP_DEF_COL < cols) &&
      replacement rows defs cols (w.get F.TP_DEF_RULE) (w.get F.TP_DEF_ROW) (w.get F.TP_DEF_COL) == 0)).length
    (rows.map (fun t => t.x4.zipIdx.map (fun p =>
      match defs.find? (fun w => defKey w == t.r * 2048 + p.2) with
      | some w => replacement rows defs cols (w.get F.TP_DEF_RULE) t.r p.2
      | none => p.1)), zeros)

/-! ### Stage 6 (08 R271, R272) -/

/-- The exponential series in fixed point with 256 fraction bits: terms from index k on. -/
def expSeries (x : Nat) : Nat → Nat → Nat → Nat
  | 0, _, t => t
  | m + 1, k, t => t + expSeries x m (k + 1) (t * x / 2 ^ 256 / (k + 1))

/-- The lag gain, unsigned 14.10: round(1024 / (exp(D / (10,000 × TAU)) − 1)), computed with 256 fraction bits (08
R271). -/
def lagGain (d tau : Nat) : Nat :=
  if tau = 0 ∨ 80000 * tau ≤ d then 0
  else
    let one := 2 ^ 256
    let den := expSeries (d * one / (10000 * tau)) 120 0 one - one
    if den = 0 then 16777215 else min 16777215 ((2048 * one + den) / (2 * den))

/-- Stage 6 of one pixel before the clamp (08 R271). -/
def stage6 (d tau x5 y : Nat) : Int := (x5 : Int) + ((lagGain d tau : Int) * ((x5 : Int) - y) + 512) / 1024

/-! ### Stage 7 (08 R273 to R275) -/

/-- A radiometric table: the one loaded, or the unit table (08 R273). -/
def radTable (s : State) (n set : Nat) : List Nat :=
  Sparse.get (fun _ => (List.range 4096).map (16 * ·)) (s.tp n).tables set

/-- A table read between its entries (08 R275). -/
def tableAt (tab : List Nat) (c : Nat) : Nat :=
  let i := c / 16
  let a : Int := tab.getD i 0
  (a + (((tab.getD (min (i + 1) 4095) 0 : Int) - a) * (c % 16 : Nat) + 8) / 16).toNat

/-- Whether stage 7 of a frame is anchored: ANCHOR_EN, ANCHOR_VALID and a table that strictly increases. -/
def anchored (f : TFrame) (n : Nat) : Bool :=
  let w := f.reg (R.TP_RAD_CFG n)
  let set := f.cfg n F.TP_FRAME_CFG_NUC_SET
  w.get F.TP_RAD_CFG_ANCHOR_EN == 1 && w.get F.TP_RAD_CFG_ANCHOR_VALID == 1 &&
    w.get F.TP_RAD_CFG_NONMONO / 2 ^ set % 2 == 0

/-- A signed register of a frame. -/
def TFrame.sreg (f : TFrame) (a : Nat) : Int := toSigned 32 (f.reg a).toNat

/-- What stage 7 subtracts from a value: the anchor and the housing and lens terms (08 R275). -/
def anchorOf (f : TFrame) (n : Nat) : Int :=
  if anchored f n then
    let dh := divRound (f.th - f.sreg (R.TP_ANCHOR_TH n)) 10
    let dl := divRound (f.tl - f.sreg (R.TP_ANCHOR_TL n)) 10
    f.sreg (R.TP_ANCHOR n) + (f.sreg (R.TP_RAD_KH n) * dh + f.sreg (R.TP_RAD_KL n) * dl + 2 ^ 15) / 2 ^ 16
  else 0

/-- Stage 7 of a row of values, and whether one was clamped. -/
def stage7 (tab : List Nat) (ofs : Int) (xs : List Nat) : List Nat × Bool :=
  (xs.map (fun x => tableAt tab (clampInt 0 65535 ((x : Int) - ofs)).toNat),
    xs.any (fun x => decide ((x : Int) - ofs < 0) || decide (65535 < (x : Int) - ofs)))

/-! ### Statistics (08 R284, R285) -/

/-- One region's results: minimum, maximum, mean, HOT, row and column of the first maximum. -/
structure RegionStat where
  lo : Nat
  hi : Nat
  mean : Nat
  hot : Nat
  row : Nat
  col : Nat
  deriving DecidableEq, Repr

/-- A region's results over pixels given as (row, column, value) in row-major order; none where it is empty. -/
def regionStat (hotT : Nat) (px : List (Nat × Nat × Nat)) : Option RegionStat :=
  match px with
  | [] => none
  | p :: _ =>
    let vs := px.map (·.2.2)
    let hi := vs.foldl max p.2.2
    let at_ := (px.find? (fun q => q.2.2 == hi)).getD p
    some ⟨vs.foldl min p.2.2, hi, (vs.sum + vs.length / 2) / vs.length,
      (vs.filter (fun v => decide (hotT < v))).length, at_.1, at_.2.1⟩

/-- The pixels of a region on a record's output rows; in line mode rows are ignored. -/
def regionPixels (f : TFrame) (n r : Nat) (out : List (Nat × List Nat)) : List (Nat × Nat × Nat) :=
  let rw := f.reg (R.TP_ROI_ROWS n r)
  let cl := f.reg (R.TP_ROI_COLS n r)
  let r0 := rw.get F.TP_ROI_ROWS_FIRST
  let rn := rw.get F.TP_ROI_ROWS_COUNT
  let c0 := cl.get F.TP_ROI_COLS_FIRST
  let cn := cl.get F.TP_ROI_COLS_COUNT
  if rn = 0 ∨ cn = 0 then []
  else
    (out.filter (fun l => f.lineMode n || decide (r0 ≤ l.1 ∧ l.1 < r0 + rn))).flatMap (fun l =>
      (l.2.zipIdx.filter (fun p => decide (c0 ≤ p.2 ∧ p.2 < c0 + cn))).map (fun p => (l.1, p.2, p.1)))

end Sys2Proof.Machine
end

