-- ==== Sys2Proof/Machine/ThermalOut.lean ====
section
/-!
DEFINITION. What leaves a thermal port: stages 5 to 7 of a frame, FRAME, TLINE, STAT, GAP and SWATH records, thermal line
mode (07 R253 to R255; 08 R269 to R286).
-/

namespace Sys2Proof.Machine

/-! ### GAP records of frames (07 R254, 08 R269) -/

/-- A GAP record of frames emitted. -/
def emitTGap (s : State) (n : Nat) (g : TGap) (aborted : Bool) : State :=
  s.portEmit { typ := 0x10, src := 0x10 + n, pos := g.pos, time := g.time,
               tail := bytesLE 4 g.first ++ bytesLE 4 g.last ++ bytesLE 4 g.count ++ bytesLE 1 g.reason ++
                 bytesLE 1 g.cause ++ bytesLE 1 (if aborted then 1 else 0) ++ [0] }

/-- The open GAP of lost frames closed. -/
def closeTGap (s : State) (n : Nat) : State :=
  match (s.tp n).gap with
  | some g => emitTGap (s.setTp n { s.tp n with gap := none }) n g false
  | none => s

/-- The open GAP of a shutter event closed. -/
def closeShutGap (s : State) (n : Nat) : State :=
  match (s.tp n).shutGap with
  | some g => emitTGap (s.setTp n { s.tp n with shutGap := none }) n g ((s.tp n).aborted.contains g.ev)
  | none => s

/-- A gap with one more frame. -/
def TGap.more (g : Option TGap) (reason no : Nat) (pos : Int) (time cause : Nat) : TGap :=
  match g with
  | some g => { g with last := no, count := g.count + 1 }
  | none => { reason := reason, first := no, last := no, count := 1, pos := pos, time := time, cause := cause }

/-- The record time of a frame: its boundary plus TIME_OFS (07 R253). -/
def TFrame.recTime (f : TFrame) (n : Nat) : Int := (f.at_ : Int) + toSigned 32 (f.inForce (R.TP_TIME_OFS n)).toNat

/-- The position word of a frame: 0 without POS_EN in frame mode (07 R253). -/
def TFrame.posWord (f : TFrame) (n : Nat) : Int :=
  if f.cfg n F.TP_FRAME_CFG_POS_EN = 1 ∨ f.lineMode n then (f.pos.map (·.1)).getD 0 else 0

/-- The speed word of a frame (07 R253). -/
def TFrame.speedWord (f : TFrame) (n : Nat) : Nat :=
  if f.cfg n F.TP_FRAME_CFG_POS_EN = 1 then (f.reg (R.ENC_SPEED (f.cfg n F.TP_FRAME_CFG_INTERFACE))).toNat else 0

/-- A frame of the run withheld by a shutter event: one GAP to an event (08 R269). -/
def accountShut (s : State) (n : Nat) (f : TFrame) (no : Nat) : State :=
  let s := closeTGap s n
  let s := s.cond ((s.tp n).shutGap.any (fun g => g.ev != f.ev)) (fun s => closeShutGap s n)
  let x := s.tp n
  let g := TGap.more x.shutGap 5 no (f.posWord n) (f.recTime n).toNat f.cause
  s.setTp n { x with shutGap := some { g with ev := f.ev } }

/-- A frame of the run that is lost (07 R254). -/
def accountLost (s : State) (n : Nat) (f : TFrame) (no reason : Nat) : State :=
  let s := (closeShutGap s n).satInc (R.TP_DROPPED n) F.TP_DROPPED_DROPPED
  let s := match (s.tp n).gap with
    | some g => if g.reason = reason ∧ g.last + 1 = no then s else closeTGap s n
    | none => s
  let x := s.tp n
  s.setTp n { x with gap := some (TGap.more x.gap reason no (f.posWord n) (f.recTime n).toNat 0) }

/-! ### Statistics (08 R284, R285) -/

/-- The regions' results written, and offered to the current loops. -/
def writeStats (s : State) (n : Nat) (f : TFrame) (out : List (Nat × List Nat)) (stale : Bool) : State :=
  let hot := (f.reg (R.TP_STAT_CFG n)).get F.TP_STAT_CFG_HOT_T
  (List.range 8).foldl (fun s r =>
    match regionStat hot (regionPixels f n r out) with
    | none => s
    | some g =>
      let s := s.setReg (R.TP_ROI_RANGE n r) (BitVec.ofNat 32 (g.hi * 65536 + g.lo))
      let s := s.setReg (R.TP_ROI_MEAN n r) (BitVec.ofNat 32 (min 65535 g.hot * 65536 + g.mean))
      let s := s.setStat (16 * n + 2 * r) ⟨g.hi, some s.now, stale⟩
      s.setStat (16 * n + 2 * r + 1) ⟨g.mean, some s.now, stale⟩) s

/-- The STAT record after every STAT_EVERY-th record (08 R285). In a frame `no` is its FRAME_NO; a TLINE is named by its
sequence, which the intake fills in. -/
def emitStat (s : State) (n : Nat) (f : TFrame) (out : List (Nat × List Nat)) (time : Nat) (no : Option Nat) : State :=
  let every := (f.reg (R.TP_STAT_CFG n)).get F.TP_STAT_CFG_STAT_EVERY
  let c := (s.tp n).statCount + 1
  let s := s.setTp n { s.tp n with statCount := c }
  if every = 0 ∨ c % every ≠ 0 then s
  else
    let hot := (f.reg (R.TP_STAT_CFG n)).get F.TP_STAT_CFG_HOT_T
    let rs := (List.range 8).map (fun r => regionStat hot (regionPixels f n r out))
    let on := (rs.zipIdx.map (fun p => if p.1.isSome then 2 ^ p.2 else 0)).sum
    let ent (g : Option RegionStat) : List Byte := match g with
      | some g => bytesLE 2 g.lo ++ bytesLE 2 g.hi ++ bytesLE 2 g.mean ++ [0, 0] ++ bytesLE 4 g.hot ++
          bytesLE 2 g.row ++ bytesLE 2 g.col
      | none => List.replicate 16 0
    s.portEmit { typ := 0x20, src := 0x10 + n, time := time, seqTail := no.isNone,
                 tail := bytesLE 4 (no.getD 0) ++ bytesLE 1 on ++ bytesLE 1 (f.outMode n), payload := rs.flatMap ent }

/-! ### Thermal line mode (08 R277 to R283) -/

/-- TPITCH, 256 to 2^40 (08 R281). -/
def tPitch (s : State) (n : Nat) : Int := (min (2 ^ 40) (max 256 (s.reg64 (R.TP_TPITCH_LO n))) : Nat)

/-- The position of target k (08 R281). -/
def tTarget (s : State) (n : Nat) (k : Int) : Int := s.sreg64 (R.TP_TORIGIN_LO n) + k * tPitch s n

/-- The line state of a port replaced. -/
def setTLine (s : State) (n : Nat) (l : TLineSt) : State := s.setTp n { s.tp n with line := l }

/-- TP_n_LINE_STATUS brought up to date. -/
def showLine (s : State) (n : Nat) : State :=
  let l := (s.tp n).line
  let a := R.TP_LINE_STATUS n
  let s := (s.setFld a F.TP_LINE_STATUS_SWATH_ID l.id).setFld a F.TP_LINE_STATUS_OPEN
    (min 255 (l.targets.filter (fun t => decide (0 < t.count))).length)
  (s.setBit a F.TP_LINE_STATUS_SWATH_DIR l.back).setBit a F.TP_LINE_STATUS_IN_SWATH l.any

/-- The open GAP record of a swath closed (08 R282, 05 R185). -/
def closeLineGap (s : State) (n : Nat) : State :=
  let l := (s.tp n).line
  match l.gap with
  | none => s
  | some g =>
    (setTLine s n { l with gap := none }).portEmit
      { typ := 0x10, src := 0x10 + n, pos := g.x, time := g.time, flags := if l.back then 32 else 0,
        tail := bytesLE 8 (ofSigned 64 g.last) ++ bytesLE 4 g.count ++ bytesLE 1 g.reason ++ [0] ++ bytesLE 2 l.id }

/-- A target consumed: the first of a swath gives it its number (05 R181). -/
def lineConsume (s : State) (n : Nat) (x : Int) : State :=
  let l := (s.tp n).line
  let l := if l.any then l else { l with any := true, first := x, id := l.nextId, nextId := (l.nextId + 1) % 65536 }
  setTLine s n { l with lastX := x }

/-- A completed target without a record accounted (08 R282, 05 R183). -/
def lineAccount (s : State) (n : Nat) (x : Int) (reason : Nat) : State :=
  let s := lineConsume s n x
  let s := match (s.tp n).line.gap with
    | some g => if g.reason = reason then s else closeLineGap s n
    | none => s
  let l := (s.tp n).line
  let g : GapRun := match l.gap with
    | some g => { g with last := x, count := g.count + 1 }
    | none => ⟨reason, x, s.now, x, 1⟩
  setTLine s n { l with gap := some g }

/-- A completed target's TLINE record, its statistics and STAT record (08 R282 to R286); a FIFO without room drops it
(07 R231). -/
def emitTLine (s : State) (n : Nat) (f : TFrame) (t : TTarget) : State :=
  let x := tTarget s n t.k
  let cols := f.cols n
  let len := roundUp (cols * 2) 64
  if 131072 < fifoBytes s (0x10 + n) + 64 + len then lineAccount (tpFault s n F.TP_STATUS_FIFO_OVF) n x 6
  else
    let set := f.cfg n F.TP_FRAME_CFG_NUC_SET
    let mean := t.sum.map (fun v => (v + t.count / 2) / t.count)
    let (px, clamp) := stage7 (radTable s n set) (anchorOf f n) mean
    let out := if f.outMode n = 2 then px else mean
    let k := (f.window n).2
    let s := lineConsume s n x
    let l := (s.tp n).line
    let fl := withFlag (withFlag (withFlag t.flags 5 l.back) 21 (decide (t.count < k))) 22 (l.lines == 0)
    let off := (f.reg (R.TP_RAD_CFG n)).get F.TP_RAD_CFG_ANCHOR_EN == 1 && !anchored f n
    let fl := withFlag (withFlag (withFlag fl 23 t.cap) 19 clamp) 18 off
    let s := closeLineGap s n
    let s := s.portEmit { typ := 3, src := 0x10 + n, pos := x, time := t.time, flags := fl, speed := f.speedWord n,
                          tail := bytesLE 2 t.count ++ bytesLE 1 k ++ bytesLE 1 (set + 16 * f.outMode n) ++
                            bytesLE 2 l.id ++ bytesLE 2 cols ++ bytesLE 4 0 ++ bytesLE 4 (ofSigned 32 t.tf),
                          payload := padTo len (out.flatMap (bytesLE 2)) }
    let s := setTLine s n { (s.tp n).line with lines := l.lines + 1 }
    let s := s.raise (Ev.tp n 0)
    emitStat (writeStats s n f [(0, out)] (fl / 512 % 2 == 1)) n f [(0, out)] t.time none

/-- One target completed: its record, or its accounting with the first reason that applies (08 R282). -/
def lineDone (s : State) (n : Nat) (f : TFrame) (k : Int) : State :=
  let l := (s.tp n).line
  let t := l.targets.find? (fun t => t.k == k)
  let s := setTLine s n { l with targets := l.targets.filter (fun t => t.k != k) }
  match t with
  | some t =>
    if 0 < t.count then emitTLine s n f t
    else lineAccount s n (tTarget s n k) (if t.shut then 5 else t.loss.getD 2)
  | none => lineAccount s n (tTarget s n k) 2

/-- The targets that a sample whose strips lie from `lo` to `hi` completes (08 R282). -/
def lineCross (s : State) (n : Nat) (f : TFrame) (lo hi : Int) : State :=
  let l := (s.tp n).line
  let q := tPitch s n
  let o := s.sreg64 (R.TP_TORIGIN_LO n)
  let d : Int := if l.back then -1 else 1
  let last := if l.back then (2 * hi + q - 2 * o).fdiv (2 * q) + 1 else (2 * lo - q - 2 * o - 1).fdiv (2 * q)
  match l.next with
  | none => setTLine s n { l with next := some (last + d) }
  | some k =>
    let m := ((last - k) * d + 1).toNat
    let s := (List.range m).foldl (fun s i => lineDone s n f (k + d * i)) s
    setTLine s n { (s.tp n).line with next := some (if 0 < m then last + d else k) }

/-- A swath begun (05 R179). -/
def lineBegin (s : State) (n : Nat) (back : Bool) : State :=
  let l := (s.tp n).line
  showLine (setTLine s n { nextId := l.nextId, turns := l.turns, bad := l.bad, active := true, back := back,
                           id := l.id, lastP := l.lastP }) n

/-- The present swath ended at a device time: open targets with a look are emitted, the gap is closed, the SWATH record
follows (08 R282, 05 R180, R186). -/
def lineEnd (s : State) (n : Nat) (f : TFrame) (reason : Nat) (point : Int) (at_ : Nat) : State :=
  let l := (s.tp n).line
  let ks := (l.targets.filter (fun t => decide (0 < t.count))).mergeSort (fun a b =>
    if l.back then decide (b.k ≤ a.k) else decide (a.k ≤ b.k))
  let s := closeLineGap (ks.foldl (fun s t => lineDone s n f t.k) s) n
  let l := (s.tp n).line
  let s := setTLine s n { l with targets := [], active := false }
  if !l.any then s
  else s.portEmit { typ := 0x11, src := 0x10 + n, pos := if reason = 3 then l.lastX else point, time := at_,
                    tail := bytesLE 8 (ofSigned 64 l.first) ++ bytesLE 2 l.id ++ bytesLE 1 reason ++
                      bytesLE 1 (if l.back then 1 else 0) ++ bytesLE 4 l.lines }

/-- Turns up to an instant take effect (08 R282, 05 R179). -/
def lineTurns (n : Nat) (f : TFrame) (h : Int) : Nat → State → State
  | 0, s => s
  | m + 1, s =>
    let l := (s.tp n).line
    match l.turns with
    | (t2, e, back) :: r =>
      if !l.active ∨ h < (t2 : Int) then s
      else
        let s := lineEnd (setTLine s n { l with turns := r }) n f 1 e (t2 / 2)
        lineTurns n f h m (lineBegin s n back)
    | [] => s

/-- What a sample does to one of its targets: `row` the values to add, or what to note. -/
def touchTarget (s : State) (n : Nat) (f : TFrame) (k : Int) (row : Option (List Nat)) (loss : Option Nat) : State :=
  let l := (s.tp n).line
  let behind := match l.next with
    | some j => if l.back then decide (j < k) else decide (k < j)
    | none => false
  if behind then s
  else
    let fresh : TTarget := ⟨k, 0, List.replicate (f.cols n) 0, (f.recTime n).toNat, f.tf, 0, false, false, none⟩
    let t := (l.targets.find? (fun t => t.k == k)).getD fresh
    let t := match row with
      | some v =>
        if t.count = 255 then { t with cap := true }
        else { t with count := t.count + 1, sum := (t.sum.zip v).map (fun p => p.1 + p.2),
                      time := if t.count = 0 then (f.recTime n).toNat else t.time,
                      tf := if t.count = 0 then f.tf else t.tf, flags := t.flags ||| f.flags }
      | none =>
        match loss with
        | some r => { t with loss := some (t.loss.getD r) }
        | none => { t with shut := true }
    setTLine s n { l with targets := t :: l.targets.filter (fun t => t.k != k) }

/-- The FRAME_NO under which a frame is recorded or accounted: none outside a run, and none from a port whose run-start
script has failed (04 R135, 07 R224, R229; log entry 99). -/
def frameNoOf (s : State) (n : Nat) (f : TFrame) : Option Nat :=
  if (s.engine (0x10 + n)).startFailed then none else f.no

/-- A sample of line mode, in order: accumulated with its stage-6 rows; or withheld or lost, which every target in its
span keeps (08 R281, R282). -/
def lineSample (s : State) (n : Nat) (f : TFrame) (x6 : Option (List (List Nat))) (loss : Option Nat) : State :=
  let s := lineTurns n f (2 * f.recTime n) ((s.tp n).line.turns.length) s
  let l := (s.tp n).line
  match f.pos with
  | none => s
  | some (p, _, valid) =>
    if !l.active ∨ l.bad ∨ !valid ∨ (frameNoOf s n f).isNone then s
    else
      let kk := (f.window n).2
      let rp := toSigned 32 (s.reg (R.TP_ROW_PITCH n)).toNat
      let far := p + ((kk : Int) - 1) * rp
      let s := lineCross s n f (min p far) (max p far)
      let moved := (s.tp n).line.lastP != some p
      let adds := x6.isSome && moved
      if x6.isSome && !moved then showLine s n
      else
        let at_ (x : Int) : Int := divRound (x - s.sreg64 (R.TP_TORIGIN_LO n)) (tPitch s n)
        let s :=
          if adds then
            (List.range kk).foldl (fun s (r : Nat) => touchTarget s n f (at_ (p + r * rp)) (x6.getD [])[r]? none) s
          else
            let k := at_ (min p far)
            (List.range (at_ (max p far) - k + 1).toNat).foldl (fun s (i : Nat) => touchTarget s n f (k + i) none loss) s
        showLine (if adds then setTLine s n { (s.tp n).line with lastP := some p } else s) n

/-! ### Frames in order -/

/-- Whether a frame still waits for the position sample after its record time (07 R253, R254; 08 R281). -/
def frameWaits (s : State) (n : Nat) (f : TFrame) : Bool :=
  (f.lineMode n || f.cfg n F.TP_FRAME_CFG_POS_EN == 1) && f.pos.isNone &&
    encPublishes s (f.cfg n F.TP_FRAME_CFG_INTERFACE)

/-- A frame with its position: that of an interface which publishes nothing is the present one, not valid. -/
def placedFrame (s : State) (n : Nat) (f : TFrame) : TFrame :=
  if f.pos.isSome then f else { f with pos := some (encPos s (f.cfg n F.TP_FRAME_CFG_INTERFACE), false, false) }

/-- A frame that was lost leaves the port: the lag history has a hole, and its loss is accounted (07 R228, R254; 08 R269,
R272). -/
def leaveLost (s : State) (n : Nat) (f : TFrame) (r : Nat) : State :=
  let s := s.setTp n { s.tp n with lagKey := none }
  match frameNoOf s n f with
  | none => s
  | some no =>
    if f.lineMode n then lineSample (s.satInc (R.TP_DROPPED n) F.TP_DROPPED_DROPPED) n f none (if f.withheld then none else some r)
    else if f.withheld then accountShut s n f no
    else accountLost s n f no r

/-- A FRAME record, its statistics and STAT record (07 R253, R254; 08 R284). -/
def emitFrame (s : State) (n : Nat) (f : TFrame) (no : Nat) (out : List (List Nat)) : State :=
  let s := closeTGap (closeShutGap s n) n
  let (first, count) := f.window n
  let cols := f.cols n
  let rows := (List.range count).zip out |>.map (fun p => (first + p.1, p.2))
  let s := s.portEmit { typ := 2, src := 0x10 + n, pos := f.posWord n, time := (f.recTime n).toNat, flags := f.flags,
                        speed := f.speedWord n,
                        tail := bytesLE 4 no ++ bytesLE 2 first ++ bytesLE 2 count ++ bytesLE 2 cols ++
                          bytesLE 1 (f.cfg n F.TP_FRAME_CFG_NUC_SET + 16 * f.outMode n) ++ [0] ++
                          bytesLE 4 (ofSigned 32 f.tf),
                        payload := padTo (roundUp (cols * count * 2) 64) (out.flatten.flatMap (bytesLE 2)) }
  let s := s.setReg (R.TP_FRAME_NO n) (BitVec.ofNat 32 no)
  emitStat (writeStats s n f rows (f.flags / 512 % 2 == 1)) n f rows (f.recTime n).toNat (some no)

/-- The base of a frame's lag history, if the feature is on and the history lies in claimed DRAM (07 R250). -/
def lagBase (s : State) (n : Nat) (f : TFrame) : Option Nat :=
  let base := (f.reg (R.TP_LAG_BASE_LO n)).toNat + 2 ^ 32 * (f.reg (R.TP_LAG_BASE_HI n)).toNat
  if (f.reg (R.TP_LAG_CFG n)).get F.TP_LAG_CFG_LAG_EN = 1 ∧ s.dramOpen base 0x400000 then some base else none

/-- What a lag history belongs to: window, NUC set, columns. -/
def lagKeyOf (n : Nat) (f : TFrame) : List Nat :=
  [(f.window n).1, (f.window n).2, f.cfg n F.TP_FRAME_CFG_NUC_SET, f.cols n]

/-- A complete frame through stages 5 to 7 and out (07 R237, R250, R255; 08 R271, R272, R275, R281). -/
def leaveDone (s : State) (n : Nat) (f : TFrame) : State :=
  let cols := f.cols n
  let rows := f.rows
  let (x5, zeros) := stage5 rows f.defs cols (f.cfg n F.TP_FRAME_CFG_DEFECT_EN == 1)
  let s := s.setFld (R.TP_DEF_STATUS n) F.TP_DEF_STATUS_CLUSTER (min 7 zeros)
  let lagOn := (f.reg (R.TP_LAG_CFG n)).get F.TP_LAG_CFG_LAG_EN == 1
  let base := (lagBase s n f).getD 0
  let inDram := (lagBase s n f).isSome
  let key := lagKeyOf n f
  let prev := lagOn && inDram && (s.tp n).lagKey == some key
  let raw6 := if prev then
      (x5.zip rows).zipIdx.map (fun p => (p.1.1.zip p.1.2.tau).zipIdx.map (fun q =>
        stage6 f.spacing q.1.2 q.1.1 (s.portNat (base + 2 * (p.2 * cols + q.2)) 2)))
    else x5.map (fun l => l.map (fun v => (v : Int)))
  let f := { f with flags := withFlag (withFlag (withFlag f.flags 17 (lagOn && !prev)) 7
    (raw6.any (fun l => l.any (fun v => decide (65535 < v))))) 15 (raw6.any (fun l => l.any (· < 0))) }
  let x6 := raw6.map (fun l => l.map (fun v => (clampInt 0 65535 v).toNat))
  let s := s.cond (lagOn && !inDram) (fun s => tpFault s n F.TP_STATUS_BUS_ERR)
  let s := if lagOn && inDram then s.portWrite base (x5.flatten.flatMap (bytesLE 2)) else s
  let s := s.setTp n { s.tp n with lagKey := if lagOn && inDram then some key else none }
  if f.lineMode n then lineSample s n f (if f.withheld then none else some x6) none
  else
    let o7 := x6.map (stage7 (radTable s n (f.cfg n F.TP_FRAME_CFG_NUC_SET)) (anchorOf f n))
    let off := (f.reg (R.TP_RAD_CFG n)).get F.TP_RAD_CFG_ANCHOR_EN == 1 && !anchored f n
    let f := { f with flags := withFlag (withFlag f.flags 19 (o7.any (·.2))) 18 off }
    let out := if f.outMode n = 0 then rows.map (·.raw) else if f.outMode n = 1 then x6 else o7.map (·.1)
    let s := s.raise (Ev.tp n 0)
    match frameNoOf s n f with
    | none => s
    | some no => if f.withheld then accountShut s n f no else emitFrame s n f no out

/-- Lost frames at the front leave the port, each once its position is known. -/
def leaveLosts (n : Nat) : Nat → State → State
  | 0, s => s
  | m + 1, s =>
    match (s.tp n).frames with
    | f :: r =>
      match f.lost with
      | some why =>
        if frameWaits s n f then s
        else leaveLosts n m (leaveLost (s.setTp n { s.tp n with frames := r }) n (placedFrame s n f) why)
      | none => s
    | [] => s

/-- The frames that can leave without a completion. -/
def tpSettle (s : State) (n : Nat) : State := leaveLosts n (s.tp n).frames.length s

/-- The oldest complete frame completes its stages (07 R230). It waits for the position sample after its record time. An
uncorrectable error in the lag history that it reads loses it whole, and the history with it (13 R417; log entry 131). -/
def sampleComplete (n : Nat) (x : SpanRead) (s : State) : State :=
  let s := tpSettle s n
  match (s.tp n).frames with
  | f :: r =>
    if !f.done || frameWaits s n f then s
    else
      let f := placedFrame s n f
      let suspect := (f.cfg n F.TP_FRAME_CFG_POS_EN == 1 || f.lineMode n) && (f.pos.map (·.2.1)).getD false
      let f := { f with flags := withFlag f.flags 13 suspect }
      let s := s.setTp n { s.tp n with frames := r }
      match (lagBase s n f).filter (fun _ => (s.tp n).lagKey == some (lagKeyOf n f)) with
      | some base =>
        let s := eccNote true (base + x.off) x.ecc s
        tpSettle (if x.ecc = .bad then leaveLost (s.setTp n { s.tp n with lagKey := none }) n f 7 else leaveDone s n f) n
      | none => tpSettle (leaveDone s n f) n
  | [] => s

/-! ### Position samples (07 R253, 08 R281) -/

/-- The interpolated position at a half-ns instant from samples, newest first: none while no later sample has come. -/
def interpolate (h : Int) : List Sample → Option (Int × Bool × Bool)
  | [] => none
  | [a] => if (a.t2 : Int) ≤ h then (if (a.t2 : Int) = h then some (a.pos, a.suspect, a.valid) else none)
      else some (a.pos, a.suspect, a.valid)
  | a :: b :: r =>
    if (a.t2 : Int) < h then none
    else if (b.t2 : Int) ≤ h then
      some (b.pos + divRound ((a.pos - b.pos) * (h - b.t2)) ((a.t2 : Int) - b.t2), a.suspect || b.suspect,
        a.valid && b.valid)
    else interpolate h (b :: r)

/-- A snapshot of the port's present settings in the form of a frame. -/
def liveFrame (s : State) (n : Nat) : TFrame :=
  let base := 0x5002000000 + 0x100000 * n
  let i := s.actFld (R.TP_FRAME_CFG n) F.TP_FRAME_CFG_INTERFACE
  let mine (e : Nat × Word) : Bool := decide (base ≤ e.1 ∧ e.1 < base + 0x4000) || e.1 == R.ENC_SPEED i
  { id := (s.tp n).count, at_ := s.now, spacing := (s.tp n).spacing, no := none, regs := s.regs.filter mine,
    act := s.act.filter mine, flags := 0, tf := toSigned 32 (s.reg (R.TP_TEMP n)).toNat,
    th := toSigned 32 (s.reg (R.TP_REF_T n 1)).toNat, tl := toSigned 32 (s.reg (R.TP_REF_T n 2)).toNat, dt := 0,
    rate := 0, plane := (s.tp n).plane, defs := (s.tp n).defs, withheld := false, avg := false }

/-- The settings that the last boundary found, in the form of a frame (08 R288). -/
def boundFrame (s : State) (n : Nat) : TFrame := (s.tp n).last.getD (liveFrame s n)

/-- A frame's position from the samples of its interface that a port holds. -/
def framePos (s : State) (n : Nat) (f : TFrame) : Option (Int × Bool × Bool) :=
  let i := f.cfg n F.TP_FRAME_CFG_INTERFACE
  interpolate (2 * f.recTime n) ((s.tp n).recent.filter (fun x => x.iface == i))

/-- A sample reaches a thermal port: frames whose record time it passes get their position; a turn ends the swath once
every earlier sample has left. -/
def tpSample (n : Nat) (x : Sample) (s : State) : State :=
  let p := s.tp n
  let recent := x :: (p.recent.filter (fun y => decide (x.t2 ≤ y.t2 + 2 ^ 33)))
  let s := s.setTp n { p with recent := recent }
  let fix (f : TFrame) : TFrame := if f.pos.isSome then f else { f with pos := framePos s n f }
  let s := s.setTp n { s.tp n with frames := p.frames.map fix }
  let ours := x.iface == s.actFld (R.TP_FRAME_CFG n) F.TP_FRAME_CFG_INTERFACE
  let s := s.cond (x.turn && ours && p.line.active) (fun s =>
    setTLine s n { (s.tp n).line with turns := (s.tp n).line.turns ++ [(x.t2, x.prevE, x.back)] })
  let s := tpSettle s n
  if (s.tp n).frames = [] then lineTurns n (boundFrame s n) x.t2 (s.tp n).line.turns.length s else s

/-- The frames of a stopped run have left: turns before the stop take effect, the swath ends, open gaps are closed (07
R254, 08 R269, R282). -/
def tpAfterStop (s : State) (n : Nat) : State :=
  if s.runActive ∨ (s.tp n).frames.any (fun f => f.no.isSome) then s
  else
    let f := boundFrame s n
    let at_ := (s.tp n).line.stopAt.getD s.now
    let s := lineTurns n f (2 * at_) (s.tp n).line.turns.length s
    let s := if (s.tp n).line.active then lineEnd s n f 3 0 at_ else s
    closeTGap (closeShutGap s n) n

end Sys2Proof.Machine
end

