-- ==== Sys2Proof/Machine/Shutter.lean ====
section
/-!
DEFINITION. The shutter event of a thermal port: its causes, its sequence, the averaging and the post-pass, its end and
the persistence of its plane (08 R260 to R270, R274).
-/

namespace Sys2Proof.Machine

/-- SETTLE of a shutter setting: 0 is taken as 1 (08 R264). -/
def settleOf (w : Word) : Nat := max 1 (w.get F.TP_SHUT_CFG_SETTLE)

/-- The frames averaged under a setting. -/
def avgOf (w : Word) : Nat := 4 * 2 ^ w.get F.TP_SHUT_CFG_AVG

/-- OPEN_WAIT of a setting. -/
def openWaitOf (w : Word) : Nat := w.get F.TP_SHUT_CFG_OPEN_WAIT

/-- The shutter asked to close or to open: an axis by a target, or the GPIO drive (08 R263). -/
def shutMove (s : State) (n : Nat) (cfg target : Word) (close : Bool) : State :=
  if cfg.get F.TP_SHUT_CFG_MODE = 1 then
    s.setTp n { s.tp n with ask := some (cfg.get F.TP_SHUT_CFG_ACT % 8, toSigned 32 target.toNat) }
  else s.setTp n { s.tp n with drive := close }

/-- Whether the sense pin reads closed (08 R263). -/
def senseClosed (s : State) (cfg : Word) : Bool :=
  pinIn s (cfg.get F.TP_SHUT_CFG_SENSE_PIN) != (cfg.get F.TP_SHUT_CFG_SENSE_INV == 1)

/-- CAUSE and PHASE of the running event (08, TP_n_SHUT_STATUS). -/
def shutShow (s : State) (n : Nat) : State :=
  let a := R.TP_SHUT_STATUS n
  match (s.tp n).ev with
  | some e =>
    if e.phase = 5 then (s.setFld a F.TP_SHUT_STATUS_CAUSE 0).setFld a F.TP_SHUT_STATUS_PHASE 0
    else (s.setFld a F.TP_SHUT_STATUS_CAUSE e.cause).setFld a F.TP_SHUT_STATUS_PHASE e.phase
  | none => (s.setFld a F.TP_SHUT_STATUS_CAUSE 0).setFld a F.TP_SHUT_STATUS_PHASE 0

/-- The SHUTTER event (08 R287). -/
def shutEvent (s : State) (n : Nat) : State := s.raise (Ev.tp n 6)

/-- The running event aborted (08 R268): open is issued, and frames stay withheld for OPEN_WAIT boundaries after the
next. -/
def shutAbort (why : Nat) (s : State) (n : Nat) : State :=
  let x := s.tp n
  match x.ev with
  | none => s
  | some e =>
    if e.phase = 5 then s
    else
      let a := R.TP_SHUT_STATUS n
      let s := s.setTp n { x with ev := some { e with phase := 5, left := openWaitOf e.cfg }, abortReq := false,
                                  newPlane := none, newAnchor := none, endAt := some s.now, endAborted := true,
                                  aborted := x.evNo :: x.aborted.take 7 }
      let s := shutMove s n e.cfg e.openAt false
      let s := (s.flag a F.TP_SHUT_STATUS_ABORTED).satInc (R.TP_SHUT_COUNT n) F.TP_SHUT_COUNT_ABORTS
      let s := (s.setFld a F.TP_SHUT_STATUS_ABORT_WHY why).setFld a F.TP_SHUT_STATUS_LAST_CAUSE e.cause
      shutEvent (shutShow s n) n

/-! ### Causes (08 R260, R261) -/

/-- PERIOD in force, or the measured spacing with SYNC_SRC = 1 (07 R225, 08 R261). -/
def framePeriod (s : State) (n : Nat) : Nat :=
  if s.actFld (R.TP_FRAME_CFG n) F.TP_FRAME_CFG_SYNC_SRC = 1 then (s.tp n).spacing
  else min 1000000000 (max 125000 (s.inForce (R.TP_PERIOD n)).toNat)

/-- Whether a zone of the spore qualifies for a port (08 R261). -/
def zoneQualifies (s : State) (n : Nat) (z : Zone) : Bool :=
  let cfg := s.reg (R.TP_SHUT_CFG n)
  let p := encPos s z.itf
  let v := (toSigned 32 (s.reg (R.ENC_SPEED z.itf)).toNat).natAbs
  let d : Int := (v * 2 ^ 16 * ((settleOf cfg + avgOf cfg + openWaitOf cfg) * framePeriod s n) / 1000000000 : Nat)
  let left := if encBack s z.itf then p - z.start else z.stop - p
  z.ports.testBit n && s.bit (R.ENC_STATUS z.itf) F.ENC_STATUS_VALID && decide (z.start ≤ p ∧ p < z.stop ∧ d ≤ left)

/-- Whether the interface has been slow for SLOW_TIME (08 R260). -/
def slowHolds (s : State) (n : Nat) : Bool :=
  match slowSince s (s.actFld (R.TP_FRAME_CFG n) F.TP_FRAME_CFG_INTERFACE) (s.reg (R.TP_SLOW_SPEED n)).toNat with
  | some t => decide (t + 1000000 * s.fld (R.TP_GAP_CFG n) F.TP_GAP_CFG_SLOW_TIME ≤ s.now)
  | none => false

/-- Whether an interval in seconds has passed since an instant; where there is none it does not hold anything up. -/
def passedSince (s : State) (o : Option Nat) (sec : Nat) : Bool :=
  match o with
  | some t => decide (t + 1000000000 * sec ≤ s.now)
  | none => true

/-- The cause that holds at a boundary, the lowest code first (08 R260). -/
def shutCause (s : State) (n : Nat) : Option Nat :=
  let x := s.tp n
  let minI := s.fld (R.TP_INTERVALS n) F.TP_INTERVALS_MIN_INTERVAL
  let force := s.fld (R.TP_INTERVALS n) F.TP_INTERVALS_FORCE_INTERVAL
  let empty := s.bit (R.TP_STATUS n) F.TP_STATUS_NO_SHUTTER
  let gapOk := empty || passedSince s x.endAt minI
  let zones := match s.boot.spore with
    | some p => p.zones
    | none => []
  let forced := decide (0 < force) && (x.doneAt.orElse (fun _ => x.readyAt)).isSome &&
    passedSince s (x.doneAt.orElse (fun _ => x.readyAt)) force && (empty || !x.endAborted || passedSince s x.endAt minI)
  if x.hostReq then some 1
  else if x.frondReq then some 2
  else if gapOk && s.bit (R.TP_GAP_CFG n) F.TP_GAP_CFG_ZONE_EN && zones.any (zoneQualifies s n) then some 3
  else if gapOk && s.bit (R.TP_GAP_CFG n) F.TP_GAP_CFG_SLOW_EN && slowHolds s n then some 4
  else if forced then some 5
  else none

/-- MODE of the shutter: 0b11 is taken as no events. -/
def shutMode (s : State) (n : Nat) : Nat := let m := s.fld (R.TP_SHUT_CFG n) F.TP_SHUT_CFG_MODE; if m = 3 then 0 else m

/-- An event started at a boundary for the first cause that holds (08 R260, R264). -/
def shutStart (s : State) (n : Nat) : State :=
  let x := s.tp n
  if shutMode s n = 0 then s.setTp n { x with hostReq := false, frondReq := false, abortReq := false }
  else
    match shutCause s n with
    | none => s.setTp n { x with abortReq := false }
    | some c =>
      let cfg := s.reg (R.TP_SHUT_CFG n)
      let ev : ShutEv := { cause := c, cfg := cfg, openAt := s.reg (R.TP_SHUT_OPEN n), phase := 1, left := settleOf cfg }
      let s := s.setTp n { s.tp n with
        ev := some ev, evNo := x.evNo + 1, shutCfg := some cfg, hostReq := x.hostReq && c != 1,
        frondReq := x.frondReq && c != 2, abortReq := false, newPlane := none, newAnchor := none }
      shutEvent (shutShow (shutMove s n cfg (s.reg (R.TP_SHUT_CLOSE n)) true) n) n

/-- A request that becomes pending, or is merged into the running event (08 R262). -/
def shutRequest (host : Bool) (n : Nat) (s : State) : State :=
  let x := s.tp n
  match x.ev with
  | some e =>
    if e.phase = 5 then s.setTp n { x with hostReq := x.hostReq || host, frondReq := x.frondReq || !host }
    else s.satInc (R.TP_SHUT_COUNT n) F.TP_SHUT_COUNT_MERGED
  | none => s.setTp n { x with hostReq := x.hostReq || host, frondReq := x.frondReq || !host }

/-- ABORT written: the running event is aborted at the next boundary (08 R268). -/
def shutAbortRequest (n : Nat) (s : State) : State :=
  match (s.tp n).ev with
  | some _ => s.setTp n { s.tp n with abortReq := true }
  | none => s

/-! ### Averaging and the post-pass (08 R265, R266, R274) -/

/-- The scratch region of a port. -/
def shutBase (s : State) (n : Nat) : Nat :=
  (tpTaken s n 3 (R.TP_SHUT_BASE_LO n)).toNat + 2 ^ 32 * (tpTaken s n 4 (R.TP_SHUT_BASE_HI n)).toNat

/-- A frame that completes stage 3 in the averaging phase is added; the last one issues open (08 R264, R265). -/
def shutAverage (s : State) (n : Nat) (f : TFrame) : State :=
  let x := s.tp n
  match x.ev with
  | some e =>
    if e.phase ≠ 2 ∨ !f.avg then s
    else
      let base := shutBase s n
      let hole := !s.dramOpen base 0x800000
      let s := s.cond hole (fun s => tpFault s n F.TP_STATUS_BUS_ERR)
      let xs := (f.rows.flatMap (·.x3)).map (fun v => (clampInt 0 65535 v).toNat)
      let bytes := xs.zipIdx.flatMap (fun p =>
        bytesLE 4 ((if e.averaged = 0 then 0 else s.portNat (base + 4 * p.2) 4) + p.1))
      let s := s.portWrite base bytes
      let e := { e with averaged := e.averaged + 1 }
      if e.averaged < avgOf e.cfg then s.setTp n { s.tp n with ev := some e }
      else
        let s := s.setTp n { s.tp n with ev := some { e with phase := 3 } }
        shutShow (shutMove s n e.cfg e.openAt false) n
  | none => s

/-- The anchor of a post-pass (08 R274): A, or none where it is not updated with an error. -/
def anchorNew (s : State) (n mean : Nat) : Option Int :=
  let set := s.actFld (R.TP_FRAME_CFG n) F.TP_FRAME_CFG_NUC_SET
  let tab := radTable s n set
  let bad := s.fld (R.TP_REF_STATUS n) F.TP_REF_STATUS_STALE / 2 % 2 == 1 ||
    (tpTaken s n 2 (R.TP_REF_CFG n)).get F.TP_REF_CFG_SHUTTER_EN == 0 ||
    s.fld (R.TP_RAD_CFG n) F.TP_RAD_CFG_NONMONO / 2 ^ set % 2 == 1
  let v := divRound (toSigned 32 (s.reg (R.TP_REF_T n 0)).toNat) 1000 + 27315
  if bad ∨ v < (tab.getD 0 0 : Int) ∨ (tab.getD 4095 0 : Int) ≤ v then none
  else
    let i := ((List.range 4095).filter (fun j => decide ((tab.getD j 0 : Int) ≤ v))).getLast?.getD 0
    let a : Int := tab.getD i 0
    some (mean - (16 * i + divRound (16 * (v - a)) ((tab.getD (i + 1) 0 : Int) - a)))

/-- The post-pass ends: the new plane, the anchor, the copy in the scratch region (08 R266, R274). With every pixel of
the window listed the spec states no mean: a free value. -/
def postpassDone (n : Nat) (s : State) : State :=
  let x := s.tp n
  match x.ev with
  | none => s
  | some e =>
    if e.phase ≠ 3 then s
    else
      let f := boundFrame s n
      let (first, count) := f.window n
      let cols := f.cols n
      let avg := avgOf e.cfg
      let base := shutBase s n
      let px := (List.range (count * cols)).map (fun i => (first + i / cols, i % cols, s.portNat (base + 4 * i) 4))
      let u := px.filter (fun p => !isListed x.defs p.1 p.2.1)
      let k := u.length
      let m : Nat := if k = 0 then s.free.toNat else ((u.map (·.2.2)).sum + k / 2) / k
      let s := s.cond (k == 0) State.drawn
      let raw := px.map (fun p =>
        (p.1 * cols + p.2.1, if isListed x.defs p.1 p.2.1 then 0 else divRound (4 * ((p.2.2 : Int) - m)) avg))
      let clipped := (raw.filter (fun p => decide (p.2 < -128 ∨ 127 < p.2))).length
      let plane := raw.foldl (fun pl p => Sparse.put (fun _ => some (0 : Int)) pl p.1 (clampInt (-128) 127 p.2)) x.plane
      let mean := ((m + avg / 2) / avg) % 65536
      let s := s.setReg (R.TP_SHUT_MEAN n) (BitVec.ofNat 32 (min 65535 clipped * 65536 + mean))
      let rad := R.TP_RAD_CFG n
      let en := (f.reg rad).get F.TP_RAD_CFG_ANCHOR_EN == 1
      let new := if en then anchorNew s n mean else none
      let s := s.cond (en && new.isNone) (fun s => s.flag (R.TP_SHUT_STATUS n) F.TP_SHUT_STATUS_ANCHOR_ERR)
      let rd (a : Nat) : Int := toSigned 32 (s.reg a).toNat
      let anchor := new.map (fun a => (a, rd (R.TP_REF_T n 1), rd (R.TP_REF_T n 2)))
      let kept := (rd (R.TP_ANCHOR n), rd (R.TP_ANCHOR_TH n), rd (R.TP_ANCHOR_TL n))
      let (a, th, tl) := anchor.getD kept
      let valid := anchor.isSome || s.bit rad F.TP_RAD_CFG_ANCHOR_VALID
      let rows := rowsOf (f.reg (R.TP_GEOM n))
      let img := bytesOf (rows * cols) (fun i => BitVec.ofInt 8 (Sparse.get (fun _ => (0 : Int)) plane i))
      let trailer := bytesLE 4 (ofSigned 32 a) ++ bytesLE 4 (ofSigned 32 th) ++ bytesLE 4 (ofSigned 32 tl) ++
        bytesLE 4 (mean + (if valid then 2 ^ 31 else 0))
      let s := s.portWrite (base + 0x500000) (padTo (roundUp (rows * cols + 16) 64) (img ++ trailer))
      shutShow (s.setTp n { s.tp n with newPlane := some plane, newAnchor := anchor,
                                        ev := some { e with phase := 4, left := openWaitOf e.cfg } }) n

/-! ### Persistence (08 R270) -/

/-- The kind 0x06 reference of a port's set in force. -/
def planeRef (s : State) (n : Nat) : Option CalRef :=
  match s.boot.spore with
  | some p => p.calrefs.find? (fun c => c.block == 0x20 + n && c.kind == 6 &&
      c.set == s.actFld (R.TP_FRAME_CFG n) F.TP_FRAME_CFG_NUC_SET)
  | none => none

/-- The plane handed to the vault; an earlier persistence of the port that still runs is abandoned. -/
def persist (s : State) (n : Nat) : State :=
  let a := R.TP_SHUT_STATUS n
  match planeRef s n with
  | none =>
    let q := s.ms.vault.filter (fun v => v.port != some n)
    ({ s with ms := { s.ms with vault := q } }.setBit a F.TP_SHUT_STATUS_PERSIST_BUSY false).flag a
      F.TP_SHUT_STATUS_PERSIST_ERR
  | some c =>
    let geom := s.reg (R.TP_GEOM n)
    let len := roundUp (rowsOf geom * colsOf geom + 16) 64
    let src := shutBase s n + 0x500000
    let crc := crc32c (bytesOf len (fun i => s.portByte (src + i)))
    let q := s.ms.vault.filter (fun v => v.port != some n)
    let req : VaultReq := ⟨false, src, len, c.id, crc, 6, some n, s.read src len⟩
    let s := { s with ms := { s.ms with vault := q ++ [req] } }
    s.setBit a F.TP_SHUT_STATUS_PERSIST_BUSY true

/-- The vault has ended a port's persistence (08 R270). -/
def persistEnd (s : State) (n : Nat) (ok : Bool) : State :=
  let a := R.TP_SHUT_STATUS n
  let s := (s.setBit a F.TP_SHUT_STATUS_PERSIST_BUSY false).cond (!ok) (fun s => s.flag a F.TP_SHUT_STATUS_PERSIST_ERR)
  shutEvent s n

/-! ### At a boundary (08 R264, R265, R267, R268) -/

/-- The effect boundary: plane and anchor take effect together (08 R267). -/
def shutEffect (s : State) (n : Nat) (e : ShutEv) : State :=
  let x := s.tp n
  let s := s.setTp n { x with plane := x.newPlane.getD x.plane, newPlane := none, newAnchor := none, ev := none,
                              doneAt := some s.now, endAt := some s.now, endAborted := false }
  let s := match x.newAnchor with
    | some (a, th, tl) =>
      let s := s.setReg (R.TP_ANCHOR n) (BitVec.ofNat 32 (ofSigned 32 a))
      let s := s.setReg (R.TP_ANCHOR_TH n) (BitVec.ofNat 32 (ofSigned 32 th))
      let s := s.setReg (R.TP_ANCHOR_TL n) (BitVec.ofNat 32 (ofSigned 32 tl))
      s.setBit (R.TP_RAD_CFG n) F.TP_RAD_CFG_ANCHOR_VALID true
    | none => s
  let s := (s.setBit (R.TP_STATUS n) F.TP_STATUS_NO_SHUTTER false).setReg64 (R.TP_SHUT_LAST_LO n) s.now
  let s := s.wrapInc (R.TP_SHUT_COUNT n) F.TP_SHUT_COUNT_COMPLETED
  let s := s.setFld (R.TP_SHUT_STATUS n) F.TP_SHUT_STATUS_LAST_CAUSE e.cause
  shutEvent (persist (shutShow s n) n) n

/-- The shutter at a frame boundary: the state, whether the frame is withheld, whether it is to be averaged, whether it
is the first under a new plane. `changed`: the boundary's commit changed NUC_SET. -/
def shutBoundary (s : State) (n : Nat) (changed : Bool) : State × Bool × Bool × Bool :=
  let setEv (s : State) (e : ShutEv) : State := shutShow (s.setTp n { s.tp n with ev := some e }) n
  let begun (s : State) : State × Bool × Bool × Bool :=
    let s := shutStart s n
    (s, (s.tp n).ev.isSome, false, false)
  match (s.tp n).ev with
  | none => begun s
  | some e =>
    let sense := e.cfg.get F.TP_SHUT_CFG_SENSE_EN == 1
    let closed := senseClosed s e.cfg
    let averaged (s : State) (e : ShutEv) : State × Bool × Bool × Bool :=
      if 2 * avgOf e.cfg ≤ e.passed then (shutAbort 4 s n, true, false, false)
      else if sense && !closed then (shutAbort 1 s n, true, false, false)
      else (setEv s { e with passed := e.passed + 1 }, true, true, false)
    if e.phase = 5 then
      if e.left = 0 then begun (s.setTp n { s.tp n with ev := none })
      else (s.setTp n { s.tp n with ev := some { e with left := e.left - 1 } }, true, false, false)
    else if changed then (shutAbort 3 s n, true, false, false)
    else if (s.tp n).abortReq then (shutAbort 5 s n, true, false, false)
    else if e.phase = 1 then
      if e.left ≤ 1 then averaged s { e with phase := 2, left := 0 }
      else (setEv s { e with left := e.left - 1 }, true, false, false)
    else if e.phase = 2 then averaged s e
    else if e.phase = 3 then (s, true, false, false)
    else if 0 < e.left then (setEv s { e with left := e.left - 1 }, true, false, false)
    else if sense && closed then (shutAbort 1 s n, true, false, false)
    else (shutEffect s n e, false, false, true)

/-! ### The commands -/

/-- SHUTTER_REQUEST (08 R260, R262). `lost`: the request met a boundary, and one of them lost. -/
def execShutterRequest (n : Fin 4) (lost : Bool) (s : State) : Result :=
  .next (s.whenWorking (fun s => shutRequest false n (s.lost lost (R.TP_RACE n))))

/-- SHUTTER_ABORT (08 R268). -/
def execShutterAbort (n : Fin 4) (s : State) : Result := .next (s.whenWorking (shutAbortRequest n))

/-- SHUTTER_POSTPASS_DONE (08 R266). -/
def execShutterPostpassDone (n : Fin 4) (s : State) : Result := .next (s.whenWorking (postpassDone n))

end Sys2Proof.Machine
end

