-- ==== Sys2Proof/Machine/Thermal.lean ====
section
/-!
DEFINITION. The thermal ports: power-up, lanes and rows, frame boundaries, references, the defect table, FPA register
slots (07_thermal_ports.md; 08 R257 to R259, R279, R280), and the arrival of position samples at the ports.
-/

namespace Sys2Proof.Machine

/-- The shadow set of a thermal port (07 R244). -/
def tpUnit (n : Nat) : CommitUnit :=
  ⟨R.TP_CTRL n, F.TP_CTRL_COMMIT_PENDING,
    [R.TP_FRAME_CFG n, R.TP_PERIOD n, R.TP_WINDOW n, R.TP_TIME_OFS n, R.TP_FPA_CFG n] ++
      (List.range 8).flatMap (fun k => [R.TP_FPA_REG_A n k, R.TP_FPA_REG_B n k]), some (R.TP_COMMIT_TAKEN_LO n)⟩

/-- PORT_READY brought up to date: lanes locked and the bring-up script a success (07 R222). -/
def tpReady (s : State) (n : Nat) : State :=
  let r := s.bit (R.TP_LINK n) F.TP_LINK_LOCKED && (s.engine (0x10 + n)).upOk && decide (1 < (s.tp n).stage)
  let s := (s.setBit (R.TP_LINK n) F.TP_LINK_PORT_READY r).setBit (R.TP_STATUS n) F.TP_STATUS_PORT_READY r
  let x := s.tp n
  readyCheck (if r && x.readyAt.isNone then s.setTp n { x with readyAt := some s.now } else s)

/-! ### Power and bring-up (07 R222, R223) -/

/-- MCLK_DIV, 20 to 160 (07 R221). -/
def mclkDiv (w : Word) : Nat := min 160 (max 20 (w.get F.TP_IF_CFG_MCLK_DIV))

/-- Whether a port's FPA is powered: enabled, and neither in OFF, SAFE or HALT, where thermal shutdown ends (07 R222). -/
def fpaPowered (s : State) (n : Nat) : Bool :=
  decide ((s.tp n).stage ≠ 0) && s.mode != .off && s.mode != .safe && s.mode != .halt

/-- The level of TPn_EN (07 R222, R223). -/
def tpEnPin (s : State) (n : Nat) : Bool := fpaPowered s n

/-- TPn_MCLK: the divider of 1,600 MHz that it runs at, or none while it is held low (07 R221, R222). -/
def tpMclk (s : State) (n : Nat) : Option Nat := if fpaPowered s n then some (s.tp n).mclk else none

/-- The settings that a boundary takes (07 R246, 08 R288). -/
def tpSettings (s : State) (n : Nat) : List Word :=
  [s.reg (R.TP_IF_CFG n), s.reg (R.TP_SYNC_CODE n), s.reg (R.TP_REF_CFG n), s.reg (R.TP_SHUT_BASE_LO n),
    s.reg (R.TP_SHUT_BASE_HI n)]

/-- ENABLE becomes 1: TPn_EN rises, TPn_MCLK starts, and EN_DELAY runs, under the settings that stand then (07 R222,
R223). -/
def tpEnable (n : Nat) (s : State) : State :=
  if (s.tp n).stage ≠ 0 then s
  else
    let d := 1000000 * s.fld (R.TP_IF_CFG n) F.TP_IF_CFG_EN_DELAY
    let s := s.setTp n { s.tp n with stage := 1, mclk := mclkDiv (s.reg (R.TP_IF_CFG n)), delayEnd := s.now + d,
                                     boundary := none, due := none,
                                     hits := [0, 0, 0, 0], misses := [0, 0, 0, 0], skip := false, geo := tpSettings s n,
                                     last := none, startDue := false,
                                     frames := [], beta := 0, refs := [], hist := [], lagKey := none, readyAt := none }
    let stale := s.fld (R.TP_REF_STATUS n) F.TP_REF_STATUS_STALE
    let s := (s.setReg (R.TP_REF_STATUS n) 0xFF).cond (stale != 15) (fun s => s.raise (Ev.tp n 5))
    s.setEngine (0x10 + n) { s.engine (0x10 + n) with upOk := false, upFailed := false }

/-- EN_DELAY has passed: the bring-up script runs (07 R222), and after it the run-start script of a run that has started
meanwhile (04 R135, 07 R224). -/
def tpDelayEnd (n : Nat) (s : State) : State :=
  let x := s.tp n
  if x.stage ≠ 1 then s
  else
    let s := scriptBegin ((s.reach x.delayEnd).setTp n { x with stage := 2, startDue := false }) (0x10 + n) 1
    tpReady (s.cond x.startDue (fun s => scriptBegin s (0x10 + n) 2)) n

/-- ENABLE becomes 0: the frames in progress end without a record, which ends what was left of the last run (07 R254),
the FPA is powered down, and a script that still runs or waits goes no further (07 R223, log entry 100). -/
def tpDisable (n : Nat) (s : State) : State :=
  let s := s.setTp n { s.tp n with stage := 0, frames := [], hist := [], boundary := none, lagKey := none }
  let s := (s.setEngine (0x10 + n) {}).setBit (scriptReg (0x10 + n)) F.IMG_SCRIPT_BUSY false
  let a := R.TP_LINK n
  let s := (s.setBit a F.TP_LINK_LOCKED false).setFld a F.TP_LINK_LANE_LOCK 0
  tpReady (tpAfterStop (s.setBit (R.TP_STATUS n) F.TP_STATUS_RUNNING false) n) n

/-- A write of a register of R246 or R288 has put its new word in place: refused during a run; a change of ENABLE takes
effect at once (07 R223, R246). -/
def tpCfgWritten (n a : Nat) (old : Word) (s : State) : State :=
  if s.runActive then tpFault (s.setReg a old) n F.TP_STATUS_CFG_REFUSED
  else
    let low := [R.TP_NUC_BASE_LO n, R.TP_SHUT_BASE_LO n, R.TP_LAG_BASE_LO n]
    let s := if low.contains a then s.setFld a ⟨0, 16⟩ 0 else s
    if a = R.TP_LINE_CFG n ∧ !s.bit a F.TP_LINE_CFG_LINE_MODE then
      (s.setTp n { s.tp n with coefs := none, fetching := false }).setBit a F.TP_LINE_CFG_COEF_RESIDENT false
    else if a = R.TP_IF_CFG n ∧ s.working then
      let on := s.bit a F.TP_IF_CFG_ENABLE
      if on = (old.get F.TP_IF_CFG_ENABLE == 1) then s else if on then tpEnable n s else tpDisable n s
    else s

/-- A write of a drift model has put its new word in place: refused while its set is in force (07 R236); a model once
written is no fallback any more (02 R56). -/
def tpDriftWritten (n set a : Nat) (old : Word) (s : State) : State :=
  if s.actFld (R.TP_FRAME_CFG n) F.TP_FRAME_CFG_NUC_SET = set then tpFault (s.setReg a old) n F.TP_STATUS_CFG_REFUSED
  else s.setTp n { s.tp n with noDrift := (s.tp n).noDrift - (s.tp n).noDrift / 2 ^ set % 2 * 2 ^ set }

/-! ### References (08 R257 to R259) -/

/-- Enable and AIN input of reference k: 0 FPA, 1 shutter, 2 housing, 3 lens. -/
def refAssign (w : Word) (k : Nat) : Bool × Nat := (w.getLsbD (7 + 8 * k), w.get ⟨8 * k, 4⟩)

/-- A published precision result reaches the references assigned to its input (08 R257, 07 R241). -/
def tpTake (k : Nat) (s : State) : State :=
  match (s.meas k).good with
  | none => s
  | some (v, t, kind) =>
    if kind ≠ 2 ∨ (s.meas k).bad then s
    else
      (List.range 4).foldl (fun s n =>
        if (s.tp n).stage = 0 then s
        else
          (List.range 4).foldl (fun s j =>
            let x := s.tp n
            if refAssign (tpTaken s n 2 (R.TP_REF_CFG n)) j = (true, k) then
              s.setTp n { x with refs := Sparse.put (fun _ => none) x.refs j (v, t),
                                 hist := if j = 0 then ((v, t) :: x.hist).take 64 else x.hist }
            else s) s) s

/-- The references latched at a boundary: values, STALE, NEVER, the REF event; a disabled one reads 0 (08 R258). -/
def latchRefs (s : State) (n : Nat) : State :=
  let w := tpTaken s n 2 (R.TP_REF_CFG n)
  let x := s.tp n
  let val (j : Nat) : Option (Int × Nat) := Sparse.find x.refs j
  let stale (j : Nat) : Bool := match val j with
    | some (_, t) => decide (t + 100000000 < s.now)
    | none => true
  let bits (f : Nat → Bool) : Nat := ((List.range 4).map (fun j => if f j then 2 ^ j else 0)).sum
  let old := s.fld (R.TP_REF_STATUS n) F.TP_REF_STATUS_STALE
  let t (j : Nat) : Word :=
    if (refAssign w j).1 then BitVec.ofNat 32 (ofSigned 32 (((val j).map (·.1)).getD 0)) else 0
  let s := (s.setReg (R.TP_TEMP n) (t 0)).setReg (R.TP_REF_T n 0) (t 1)
  let s := (s.setReg (R.TP_REF_T n 1) (t 2)).setReg (R.TP_REF_T n 2) (t 3)
  let s := s.setReg (R.TP_REF_STATUS n) (BitVec.ofNat 32 (16 * bits (fun j => (val j).isNone) + bits stale))
  s.cond (old != bits stale) (fun s => s.raise (Ev.tp n 5))

/-- The rate of the FPA's temperature in mK/s (07 R241). -/
def fpaRate (hist : List (Int × Nat)) (win : Nat) : Int :=
  match hist with
  | [] => 0
  | (ta, at_) :: r =>
    let b := match r.find? (fun h => decide (h.2 + 10000000 * min 1000 (max 1 win) ≤ at_)) with
      | some h => some h
      | none => r.getLast?
    match b with
    | some (tb, bt) => clampInt (-32767) 32767 (divRound ((ta - tb) * 10 ^ 8) ((at_ : Int) - bt))
    | none => 0

/-- ΔT, the rate and DRIFT_RANGE of a boundary; none of them under a model that fell back to no drift (07 R240, R241, 02
R56). -/
def driftTerms (s : State) (n : Nat) : Int × Int × Bool :=
  let set := s.actFld (R.TP_FRAME_CFG n) F.TP_FRAME_CFG_NUC_SET
  let rd (a : Nat) : Int := toSigned 32 (s.reg a).toNat
  let tf := rd (R.TP_TEMP n)
  let dt := divRound (tf - rd (R.TP_DRIFT_T0 n set)) 10
  let out := decide (tf < rd (R.TP_DRIFT_TLO n set) ∨ rd (R.TP_DRIFT_THI n set) < tf ∨ 32767 < dt.natAbs)
  if (s.tp n).noDrift / 2 ^ set % 2 = 1 then (0, 0, false)
  else (clampInt (-32767) 32767 dt,
    fpaRate (s.tp n).hist (s.fld (R.TP_DRIFT_CFG n set) F.TP_DRIFT_CFG_RATE_WIN), out)

/-! ### The defect table (07 R249, R251, R252) -/

/-- The table in use shown in TP_n_DEF_k (07, TP_n_DEF_k). -/
def showDefs (s : State) (n : Nat) (old : List Word) : State :=
  let new := (s.tp n).defs
  let s := (List.range (max old.length new.length)).foldl (fun s k =>
    let w := new.getD k 0
    if old.getD k 0 = w then s else s.setReg (R.TP_DEF n k) w) s
  s.setFld (R.TP_DEF_STATUS n) F.TP_DEF_STATUS_ENTRIES new.length

/-- An entry put in its place in the table. -/
def defInsert : List Word → Word → List Word
  | [], w => [w]
  | v :: l, w => if defKey w < defKey v then w :: v :: l else if defKey w = defKey v then w :: l else v :: defInsert l w

/-- One queued edit applied (07 R251, R252). -/
def applyEdit (n : Nat) (s : State) (e : Word) : State :=
  let x := s.tp n
  let w := e ||| 0x80000000
  if e.getLsbD 31 then s.setTp n { x with defs := x.defs.filter (fun v => defKey v != defKey w) }
  else if x.defs.any (fun v => defKey v == defKey w) ∨ x.defs.length < 4096 then
    s.setTp n { x with defs := defInsert x.defs w }
  else
    ((s.satInc (R.TP_DEF_OVERFLOWS n) F.TP_DEF_OVERFLOWS_OVERFLOWS).flag (R.TP_STATUS n)
      F.TP_STATUS_DEFECT_OVERFLOW).raise (Ev.tp n 4)

/-- The queued edits applied in order at a boundary (07 R251). -/
def applyEdits (s : State) (n : Nat) : State :=
  let x := s.tp n
  if x.edits = [] then s
  else
    let s := x.edits.foldl (applyEdit n) (s.setTp n { x with edits := [] })
    showDefs (s.setFld (R.TP_DEF_STATUS n) F.TP_DEF_STATUS_QUEUED 0) n x.defs

/-- TP_n_DEF_EDIT written: an edit queued, or discarded where 16 wait (07 R251). -/
def defEdit (n : Nat) (e : Word) (s : State) : State :=
  let x := s.tp n
  if 16 ≤ x.edits.length then (s.satInc (R.TP_DEF_STATUS n) F.TP_DEF_STATUS_REFUSED).raise (Ev.tp n 4)
  else (s.setTp n { x with edits := x.edits ++ [e] }).setFld (R.TP_DEF_STATUS n) F.TP_DEF_STATUS_QUEUED
    (x.edits.length + 1)

/-! ### FPA register slots (07 R247, R248) -/

/-- SLOTS of the set in force. -/
def fpaSlots (s : State) (n : Nat) : Nat := min 8 (s.actFld (R.TP_FPA_CFG n) F.TP_FPA_CFG_SLOTS)

/-- The next slot's write started: DEV, the register address and the data, most significant byte first (07 R247). -/
def slotStart (s : State) (n : Nat) : State :=
  let a := s.inForce (R.TP_FPA_REG_A n (s.tp n).slot)
  let w := a.get F.TP_FPA_REG_A_WIDTH
  let data := bytesBE (w / 16) (s.inForce (R.TP_FPA_REG_B n (s.tp n).slot)).toNat
  s.emit (.i2c n (i2cSpeed (tpTaken s n 0 (R.TP_IF_CFG n))) (a.get F.TP_FPA_REG_A_DEV)
    (bytesBE (w % 16) (a.get F.TP_FPA_REG_A_ADDR) ++ data) 0)

/-- The writes end, whether all were done or one failed: FLAG_FRAMES further frames are flagged. -/
def slotsEnd (s : State) (n : Nat) : State :=
  let k := min 7 (max 2 (s.actFld (R.TP_FPA_CFG n) F.TP_FPA_CFG_FLAG_FRAMES))
  (s.setBit (R.TP_STATUS n) F.TP_STATUS_FPA_WRITING false).setTp n { s.tp n with flagLeft := k }

/-- One slot's write ends (07 R247, R248). -/
def slotDone (n : Nat) (ok : Bool) (s : State) : State :=
  if !s.bit (R.TP_STATUS n) F.TP_STATUS_FPA_WRITING then s
  else if !ok then slotsEnd (tpFault s n F.TP_STATUS_FPA_WRITE_ERR) n
  else
    let s := s.setTp n { s.tp n with slot := (s.tp n).slot + 1 }
    if fpaSlots s n ≤ (s.tp n).slot then slotsEnd s n else slotStart s n

/-! ### Lanes (07 R226) -/

/-- The settings of the interface in force: those of the last boundary (07 R246). -/
def ifWord (s : State) (n : Nat) : Word := tpTaken s n 0 (R.TP_IF_CFG n)

/-- LOCKED and LANE_LOCK from the lanes' counts, with the LINK event where the lock changes (07 R226, R256). -/
def showLock (s : State) (n : Nat) : State :=
  let a := R.TP_LINK n
  let x := s.tp n
  let k := lanesOf (ifWord s n)
  let aligned (i : Nat) : Bool := decide (4 ≤ x.hits.getD i 0)
  let was := s.bit a F.TP_LINK_LOCKED
  let locked := (List.range k).all aligned
  let s := s.setFld a F.TP_LINK_LANE_LOCK ((List.range k).map (fun i => if aligned i then 2 ^ i else 0)).sum
  let s := s.setBit a F.TP_LINK_LOCKED locked
  tpReady (s.cond (was != locked) (fun s => s.raise (Ev.tp n 1))) n

/-- A row's SYNC_ROW counted on each lane: four in a row align, two missing in a row lose (07 R226). -/
def countSync (s : State) (n : Nat) (lanes : List FpaLane) : State :=
  let x := s.tp n
  let code := (tpTaken s n 1 (R.TP_SYNC_CODE n)).get F.TP_SYNC_CODE_SYNC_ROW
  let syncs (i : Nat) : Bool := ((lanes[i]?).map (fun l => l.sync.toNat == code)).getD false
  let miss (i : Nat) : Nat := if syncs i then 0 else x.misses.getD i 0 + 1
  let hit (i : Nat) : Nat :=
    let h := x.hits.getD i 0
    if syncs i then min 4 (h + 1) else if h = 4 ∧ miss i < 2 then 4 else 0
  showLock (s.setTp n { x with hits := (List.range 4).map hit, misses := (List.range 4).map miss }) n

/-! ### Rows (07 R226 to R231, R238) -/

/-- The frame that awaits rows: the oldest neither complete nor lost. -/
def awaiting (s : State) (n : Nat) : Option TFrame := (s.tp n).frames.find? (fun f => !f.done && f.lost.isNone)

/-- A frame replaced by its number. -/
def putFrame (s : State) (n : Nat) (f : TFrame) : State :=
  s.setTp n { s.tp n with frames := (s.tp n).frames.map (fun g => if g.id = f.id then f else g) }

/-- A frame lost for a reason; the rest of its rows are passed over (07 R228, R231). -/
def loseFrame (s : State) (n : Nat) (f : TFrame) (reason : Nat) : State :=
  let s := putFrame s n { f with lost := some reason, rows := [] }
  tpSettle (s.setTp n { s.tp n with skip := decide (0 < f.next) }) n

/-- A row's values put together from the lanes (07 R226). -/
def rowPixels (f : TFrame) (n : Nat) (lanes : List FpaLane) : List Nat :=
  let w := f.reg (R.TP_IF_CFG n)
  let k := lanesOf w
  (List.range (f.cols n + (f.blind n).2)).map (fun j =>
    (((lanes[j % k]?).bind (fun l => l.words[j / k]?)).getD 0).toNat % 2 ^ pixBitsOf w)

/-- The blind pixels of a row inside the plausible window (07 R238). -/
def blindOk (f : TFrame) (n : Nat) (l : List Nat) : List Nat :=
  let wl := (f.reg (R.TP_BLIND_WIN n)).get F.TP_BLIND_WIN_BLIND_LO
  let wh := (f.reg (R.TP_BLIND_WIN n)).get F.TP_BLIND_WIN_BLIND_HI
  l.filter (fun v => decide (wl ≤ v ∧ v ≤ wh))

/-- Whether the NUC region of a port lies in claimed DRAM (07 R232, R233). -/
def nucInDram (s : State) (base : Nat) : Bool := s.dramOpen base 0x4000000

/-- An active row is corrected with the oldest row of fetched coefficients, or with the resident ones (07 R232, R238
to R243; 08 R279). -/
def rowActive (s : State) (n : Nat) (f : TFrame) (px : List Nat) : State × TFrame :=
  let (brows, bcols) := f.blind n
  let (first, _) := f.window n
  let cols := f.cols n
  let least := min 32 (max 1 ((f.reg (R.TP_BLIND n)).get F.TP_BLIND_BLIND_MIN))
  let mode := f.cfg n F.TP_FRAME_CFG_BLIND_MODE
  let pos := (f.reg (R.TP_BLIND n)).get F.TP_BLIND_BLIND_POS
  let bl := if pos = 0 then px.take bcols else px.drop cols
  let act := if pos = 0 then px.drop bcols else px.take cols
  let r := first + (f.next - brows)
  let held := (s.tp n).beta
  let (beta, low) :=
    if mode = 0 then ((0 : Int), false)
    else if mode = 1 then
      (if f.next = brows then betaOf held f.blindSum f.blindN least else (held, false))
    else betaOf held (blindOk f n bl).sum (blindOk f n bl).length least
  let s := if mode = 0 then s else s.setTp n { s.tp n with beta := beta }
  let coefs := match (s.tp n).coefs, f.lineMode n with
    | some cs, true => cs.getD (r - first) []
    | _, _ => f.ring.headD []
  let (row, fl) := correctRow f n r beta act coefs
  let s := s.cond low (fun s => s.flag (R.TP_STATUS n) F.TP_STATUS_BLIND_LOW)
  (s, { f with rows := f.rows ++ [row], ring := f.ring.drop 1, flags := withFlag fl 14 low })

/-- A good row: a blind row is counted, an active row is corrected; the last one completes the frame (07 R227, R238 to
R243). -/
def rowGood (s : State) (n : Nat) (f : TFrame) (lanes : List FpaLane) : State :=
  let px := rowPixels f n lanes
  let brows := (f.blind n).1
  let count := (f.window n).2
  let p : State × TFrame :=
    if f.next < brows then
      (s, { f with blindSum := f.blindSum + (blindOk f n px).sum, blindN := f.blindN + (blindOk f n px).length })
    else rowActive s n f px
  let f := { p.2 with next := p.2.next + 1 }
  let f := { f with done := decide (brows + count ≤ f.next) }
  let s := putFrame p.1 n f
  s.cond f.done (fun s => shutAverage s n f)

/-- A row in error: counted, and its frame lost (07 R228). -/
def rowError (s : State) (n : Nat) (f : TFrame) : State :=
  loseFrame (tpFault (s.satInc (R.TP_LINK n) F.TP_LINK_ROW_ERRS) n F.TP_STATUS_ROW_ERR) n f 7

/-- Whether the coefficients of the next row, if it is an active one, have not arrived (01 R24); resident ones have. -/
def coefLate (s : State) (n : Nat) (f : TFrame) : Bool :=
  let brows := (f.blind n).1
  decide (brows ≤ f.next ∧ f.ring = []) && !(f.lineMode n && (s.tp n).coefs.isSome)

/-- The rows that the coefficient ring of a frame holds (07 R232, 08 R278). -/
def ringRows (f : TFrame) (n : Nat) : Nat := if f.lineMode n then 16 else 32

/-- Coefficients of further window rows are fetched from DRAM into the ring, as far as it has room (01 R24, 07 R232,
R235, 08 R278). An uncorrectable error in them loses the frame whole (13 R417). -/
def coefRowsArrive (n k : Nat) (x : SpanRead) (s : State) : State :=
  match awaiting s n with
  | none => s
  | some f =>
    let (first, count) := f.window n
    let cols := f.cols n
    let set := f.cfg n F.TP_FRAME_CFG_NUC_SET
    let base := (f.reg (R.TP_NUC_BASE_LO n)).toNat + 2 ^ 32 * (f.reg (R.TP_NUC_BASE_HI n)).toNat
    let have_ := f.next - (f.blind n).1 + f.ring.length
    let more := min (ringRows f n - f.ring.length) (min k (count - have_))
    let row (i : Nat) : List Nat := (List.range cols).map (fun c => nucEntry s base set cols (first + have_ + i) c)
    let s := s.cond (!nucInDram s base && decide (0 < more)) (fun s => tpFault s n F.TP_STATUS_BUS_ERR)
    let read := nucInDram s base && decide (0 < more)
    let s := s.cond read (eccNote true (base + x.off) x.ecc)
    if read && x.ecc == .bad then loseFrame s n f 7 else putFrame s n { f with ring := f.ring ++ (List.range more).map row }

/-- A row placed in the frame that awaits rows (07 R228, R231); `ue`: the port's SRAM met an uncorrectable error, and
the frame is lost whole (13 R417). -/
def rowPlace (s : State) (n : Nat) (f : TFrame) (lanes : List FpaLane) (full ue : Bool) : State :=
  let hdr := ((lanes.head?).map (·.hdr.toNat)).getD 0
  let k := lanesOf (f.reg (R.TP_IF_CFG n))
  let w := f.cols n + (f.blind n).2
  let lenOk := (List.range k).all (fun i => ((lanes[i]?).map (·.words.length)).getD 0 == (w + k - 1) / k)
  if hdr % 2048 ≠ f.next ∨ ((decide (32768 ≤ hdr)) != decide (f.next = 0)) ∨ !lenOk then rowError s n f
  else if coefLate s n f then loseFrame (tpFault s n F.TP_STATUS_COEF_LATE) n f 6
  else if full then loseFrame (tpFault s n F.TP_STATUS_FIFO_OVF) n f 6
  else if ue then loseFrame s n f 7
  else rowGood s n f lanes

/-- A row of read-out arrives: each lane's words. `full`: it finds the output FIFO full (07 R226, R228, R231; 01 R24).
`ue` as at `rowPlace`. -/
def fpaRow (n : Nat) (lanes : List FpaLane) (full ue : Bool) (s : State) : State :=
  if (s.tp n).stage ≠ 3 then s
  else
    let was := s.bit (R.TP_LINK n) F.TP_LINK_LOCKED
    let s := countSync s n lanes
    let locked := s.bit (R.TP_LINK n) F.TP_LINK_LOCKED
    if !locked then
      if !was then s
      else
        match awaiting s n with
        | some f => loseFrame (tpFault s n F.TP_STATUS_LINK_LOST) n f 7
        | none => s
    else
      let first := decide (32768 ≤ ((lanes.head?).map (·.hdr.toNat)).getD 0)
      let count (s : State) := s.satInc (R.TP_LINK n) F.TP_LINK_ROW_ERRS
      match awaiting s n with
      | none => count s
      | some f =>
        if !first && (s.tp n).skip then count s
        else
          let s := s.setTp n { s.tp n with skip := false }
          if first && decide (0 < f.next) then
            let s := rowError s n f
            match awaiting s n with
            | some g => rowPlace (s.setTp n { s.tp n with skip := false }) n g lanes full ue
            | none => s
          else rowPlace s n f lanes full ue

/-! ### Frame boundaries (07 R225, R228, R240, R244, R245) -/

/-- Whether the window's coefficients fit in the port (08 R279). -/
def coefsFit (s : State) (n : Nat) : Bool :=
  let geom := s.reg (R.TP_GEOM n)
  decide ((windowOf geom (s.inForce (R.TP_WINDOW n)) true).2 * strideOf (colsOf geom) ≤ 245760)

/-- The fetch of resident coefficients begins (08 R279). -/
def coefFetch (s : State) (n : Nat) : State :=
  let line := s.bit (R.TP_LINE_CFG n) F.TP_LINE_CFG_LINE_MODE
  (s.setTp n { s.tp n with coefs := none, fetching := line && coefsFit s n }).setBit (R.TP_LINE_CFG n)
    F.TP_LINE_CFG_COEF_RESIDENT false

/-- The fetch of resident coefficients ends (08 R279). With an uncorrectable error in it nothing becomes resident, and
it goes on (13 R417; log entry 131). -/
def coefFetchDone (n : Nat) (e : SpanRead) (s : State) : State :=
  let x := s.tp n
  if !x.fetching then s
  else
    let geom := s.reg (R.TP_GEOM n)
    let (first, count) := windowOf geom (s.inForce (R.TP_WINDOW n)) true
    let cols := colsOf geom
    let base := s.reg64 (R.TP_NUC_BASE_LO n)
    let set := s.actFld (R.TP_FRAME_CFG n) F.TP_FRAME_CFG_NUC_SET
    let cs := (List.range count).map (fun r => (List.range cols).map (fun c => nucEntry s base set cols (first + r) c))
    let s := s.cond (nucInDram s base) (eccNote true (base + e.off) e.ecc)
    if nucInDram s base && e.ecc == .bad then s else
    (s.setTp n { x with coefs := some cs, fetching := false }).setBit (R.TP_LINE_CFG n) F.TP_LINE_CFG_COEF_RESIDENT true

/-- The port's set taken at a boundary, unless FPA registers are being written (07 R244, R245, R247, R248): whether it
changed NUC_SET. -/
def tpTakeSet (s : State) (n : Nat) : State × Bool :=
  if !(tpUnit n).waits s ∨ s.bit (R.TP_STATUS n) F.TP_STATUS_FPA_WRITING then (s, false)
  else
    let old := s.actFld (R.TP_FRAME_CFG n) F.TP_FRAME_CFG_NUC_SET
    let s := (tpUnit n).take s
    let changed := decide (s.actFld (R.TP_FRAME_CFG n) F.TP_FRAME_CFG_NUC_SET ≠ old)
    let s := if changed then
        let s := (s.setTp n { s.tp n with plane := [] }).setBit (R.TP_STATUS n) F.TP_STATUS_NO_SHUTTER true
        coefFetch (s.raise (Ev.tp n 3)) n
      else s
    (s, changed)

/-- The writes of a taken set start, after the boundary (07 R247). -/
def startSlots (s : State) (n : Nat) (taken : Bool) : State :=
  if taken && decide (0 < fpaSlots s n) then
    slotStart ((s.setTp n { s.tp n with slot := 0 }).setBit (R.TP_STATUS n) F.TP_STATUS_FPA_WRITING true) n
  else s

/-- Settings that take effect at a boundary: a change of lanes, pixel width or sync word drops the lock; another input for
the FPA's reference clears its history (07 R241, R246). -/
def takeGeo (s : State) (n : Nat) : State :=
  let x := s.tp n
  let s := s.setTp n { x with geo := tpSettings s n, mclk := mclkDiv (s.reg (R.TP_IF_CFG n)) }
  match x.geo with
  | i :: c :: w :: _ =>
    let same (f : Fld) : Bool := i.get f == (s.reg (R.TP_IF_CFG n)).get f
    let relock := !(same F.TP_IF_CFG_LANES && same F.TP_IF_CFG_PIX_BITS) || c != s.reg (R.TP_SYNC_CODE n)
    let moved := (refAssign w 0).2 != (refAssign (s.reg (R.TP_REF_CFG n)) 0).2
    let s := s.setTp n { s.tp n with hist := if moved then [] else (s.tp n).hist }
    if relock then showLock (s.setTp n { s.tp n with hits := [0, 0, 0, 0], misses := [0, 0, 0, 0] }) n else s
  | _ => s

/-- Frames that are not complete two boundaries after their own are lost (07 R228). -/
def expireFrames (s : State) (n : Nat) : State :=
  (s.tp n).frames.foldl (fun s f =>
    if !f.done && f.lost.isNone && decide (f.id + 2 ≤ (s.tp n).count) then
      loseFrame (tpFault s n F.TP_STATUS_ROW_ERR) n f 7
    else s) s

/-- The flags that a frame has from its boundary (07 R255, 08 R286). -/
def boundaryFlags (s : State) (n : Nat) (changed range fpa fresh : Bool) : Nat :=
  let x := s.tp n
  let set := s.actFld (R.TP_FRAME_CFG n) F.TP_FRAME_CFG_NUC_SET
  let w := tpTaken s n 2 (R.TP_REF_CFG n)
  let stale (j : Nat) : Bool := s.fld (R.TP_REF_STATUS n) F.TP_REF_STATUS_STALE / 2 ^ j % 2 == 1 || !(refAssign w j).1
  let refStale := (s.actBit (R.TP_FRAME_CFG n) F.TP_FRAME_CFG_DRIFT_EN && stale 0) ||
    (s.reg (R.TP_RAD_KH n) != 0 && stale 2) || (s.reg (R.TP_RAD_KL n) != 0 && stale 3)
  let force := s.fld (R.TP_INTERVALS n) F.TP_INTERVALS_FORCE_INTERVAL
  let limit := if force = 0 then 1800 else force
  let old := match x.doneAt.orElse (fun _ => x.readyAt) with
    | some t => decide (t + 1000000000 * limit < s.now)
    | none => false
  let fl := withFlag (withFlag (withFlag 0 3 (x.ident.testBit set)) 6 changed) 8 fpa
  let fl := withFlag (withFlag (withFlag fl 9 refStale) 10 (s.bit (R.TP_STATUS n) F.TP_STATUS_DEFECT_OVERFLOW)) 11 range
  let fl := withFlag (withFlag fl 12 (s.bit (R.TP_STATUS n) F.TP_STATUS_NO_SHUTTER)) 16 old
  withFlag fl 20 fresh

/-- A frame boundary (07 R225, R228, R240, R244, R248, R251; 08 R258, R264). -/
def frameBoundary (n : Nat) (s : State) : State :=
  let x := s.tp n
  let e := s.engine (0x10 + n)
  let timer := s.actBit (R.TP_FRAME_CFG n) F.TP_FRAME_CFG_SYNC_SRC
  if x.stage < 2 ∨ !(e.upOk || e.upFailed) ∨ (timer && x.due.isNone) then s
  else
    let s := match (if timer then x.due else x.boundary.map (· + framePeriod s n)) with
      | some t => s.reach t
      | none => s
    let spacing := match x.boundary with
      | some b => s.now - b
      | none => framePeriod s n
    let s := s.setTp n { x with stage := 3, boundary := some s.now, spacing := spacing, count := x.count + 1, due := none }
    let s := s.setBit (R.TP_STATUS n) F.TP_STATUS_RUNNING true
    let s := takeGeo (expireFrames s n) n
    let fpa := s.bit (R.TP_STATUS n) F.TP_STATUS_FPA_WRITING || decide (0 < (s.tp n).flagLeft)
    let s := s.setTp n { s.tp n with flagLeft := (s.tp n).flagLeft - 1 }
    let waited := (tpUnit n).waits s
    let (s, changed) := tpTakeSet s n
    let taken := waited && !(tpUnit n).waits s
    let s := applyEdits (latchRefs s n) n
    let (dt, rate, range) := driftTerms s n
    let s := (s.setSfld (R.TP_DRIFT_DT n) F.TP_DRIFT_DT_DT dt).setSfld (R.TP_RATE n) F.TP_RATE_R rate
    let s := s.cond range (fun s => s.flagEvent (R.TP_STATUS n) F.TP_STATUS_DRIFT_RANGE (Ev.tp n 3))
    let (s, withheld, avg, fresh) := shutBoundary s n changed
    let no := if s.runActive then some (s.tp n).frameNo else none
    let w := s.inForce (R.TP_FRAME_CFG n)
    let high := max 1 (w.get F.TP_FRAME_CFG_SYNC_W)
    let low := (ifWord s n).get F.TP_IF_CFG_SYNC_INV == 1
    let f := { liveFrame s n with
      no := no, flags := boundaryFlags s n changed range fpa fresh, dt := dt, rate := rate, withheld := withheld,
      avg := avg, at_ := s.now, ev := (s.tp n).evNo, cause := ((s.tp n).ev.map (fun (e : ShutEv) => e.cause)).getD 0 }
    let f := { f with pos := framePos s n f }
    let late := f.lineMode n && (s.tp n).fetching
    let f := if late then { f with lost := some 6 } else f
    let s := s.cond late (fun s => tpFault s n F.TP_STATUS_COEF_LATE)
    let s := s.setTp n { s.tp n with frames := (s.tp n).frames ++ [f], last := some f,
                                     frameNo := if no.isSome then (s.tp n).frameNo + 1 else (s.tp n).frameNo }
    startSlots (tpSettle (s.emit (.frameSync n s.now high (s.tp n).mclk low)) n) n taken

/-- A timer event that starts frames, once bring-up has ended (07 R225, R229): the boundary falls due at once. -/
def tpTimer (timer : Nat) (s : State) : State :=
  (List.range 4).foldl (fun s n =>
    let c := s.inForce (R.TP_FRAME_CFG n)
    let e := s.engine (0x10 + n)
    if 2 ≤ (s.tp n).stage ∧ (e.upOk || e.upFailed) ∧ c.get F.TP_FRAME_CFG_SYNC_SRC = 1 ∧ c.get F.TP_FRAME_CFG_TIMER = timer then
      s.setTp n { s.tp n with due := some s.now }
    else s) s

/-! ### Runs -/

/-- N_OPEN and the check of the accumulators (08 R280). -/
def accumulatorsFit (s : State) (n : Nat) : Bool :=
  let geom := s.reg (R.TP_GEOM n)
  let k := (windowOf geom (s.inForce (R.TP_WINDOW n)) true).2
  let rp := (toSigned 32 (s.reg (R.TP_ROW_PITCH n)).toNat).natAbs
  let q := (tPitch s n).toNat
  decide (((k * rp + q - 1) / q + 1) * colsOf geom * 3 ≤ 278528)

/-- A run starts at a thermal port: counts start afresh, the run-start script begins, after EN_DELAY where that still
runs; in line mode the accumulators are checked, the coefficients fetched and a swath begins (07 R224, R229, R253; 08
R279 to R282). -/
def tpRunStart (s : State) (n : Nat) : State :=
  if (s.tp n).stage = 0 then s
  else
    let t := 0x10 + n
    let s := s.setEngine t { s.engine t with startDone := false, startFailed := false }
    let s := s.setTp n { s.tp n with frameNo := 0, gap := none, shutGap := none, statCount := 0, line := {} }
    let s := s.setReg (R.TP_DROPPED n) 0
    let line := s.bit (R.TP_LINE_CFG n) F.TP_LINE_CFG_LINE_MODE
    let s := if !line then s
      else
        let bad := !accumulatorsFit s n
        let s := s.cond bad (fun s => tpFault s n F.TP_STATUS_CFG_REFUSED)
        let s := coefFetch (setTLine s n { (s.tp n).line with bad := bad }) n
        lineBegin s n (encBack s (s.actFld (R.TP_FRAME_CFG n) F.TP_FRAME_CFG_INTERFACE))
    if 2 ≤ (s.tp n).stage then scriptBegin s t 2 else s.setTp n { s.tp n with startDue := true }

/-- A run stops at a thermal port: its run-stop script falls due (07 R224, R229). -/
def tpRunStop (s : State) (n : Nat) : State :=
  if (s.tp n).stage = 0 then s
  else
    let s := setTLine (s.setTp n { s.tp n with startDue := false }) n { (s.tp n).line with stopAt := some s.now }
    tpAfterStop { s with stopScripts := NatSet.insert s.stopScripts (0x10 + n) } n

/-- Whether the frames of the last run have left a port. -/
def tpDrained (s : State) (n : Nat) : Bool :=
  let x := s.tp n
  !x.frames.any (fun f => f.no.isSome) && !x.line.active && x.gap.isNone && x.shutGap.isNone

/-! ### The commands -/

/-- TP_ENABLE (07 R223). During a run the write is refused (07 R246). -/
def execTpEnable (n : Fin 4) (s : State) : Result :=
  .next (s.whenWorking (fun s => tpCfgWritten n (R.TP_IF_CFG n) (s.reg (R.TP_IF_CFG n))
    (s.setBit (R.TP_IF_CFG n) F.TP_IF_CFG_ENABLE true)))

/-- TP_DISABLE (07 R223). -/
def execTpDisable (n : Fin 4) (s : State) : Result :=
  .next (s.whenWorking (fun s => tpCfgWritten n (R.TP_IF_CFG n) (s.reg (R.TP_IF_CFG n))
    (s.setBit (R.TP_IF_CFG n) F.TP_IF_CFG_ENABLE false)))

/-- TP_EN_DELAY_END (07 R222). -/
def execTpEnDelayEnd (n : Fin 4) (s : State) : Result := .next (s.whenWorking (tpDelayEnd n))

/-- FRAME_BOUNDARY (07 R225). `lost`: something met the boundary in the port's arbiter and one of them lost. -/
def execFrameBoundary (n : Fin 4) (lost : Bool) (s : State) : Result :=
  .next (s.whenWorking (fun s => tpAfterStop (frameBoundary n (s.lost lost (R.TP_RACE n))) n))

/-- COEF_RESIDENT_FETCH_DONE (08 R279). -/
def execCoefResidentFetchDone (x : PortRead) (s : State) : Result :=
  .next (s.whenWorking (coefFetchDone x.port x.read))

/-- FPA_ROW (07 R226), with what it meets in the output FIFO and in the port's SRAM (13 R417). -/
def execFpaRow (n : Fin 4) (lanes : List FpaLane) (x : RowMeets) (lost : Bool) (s : State) : Result :=
  .next (s.whenWorking (fun s =>
    let s := eccNote false (unitAddr (0x60 + n) x.ram.off.toNat) x.ram.ecc (s.lost lost (R.TP_RACE n))
    tpAfterStop (fpaRow n lanes x.full (x.ram.ecc == .bad) s) n))

/-- COEF_ROWS_ARRIVE (01 R24, 07 R230, R231). -/
def execCoefRowsArrive (n : Fin 4) (k : CoefRows) (lost : Bool) (s : State) : Result :=
  .next (s.whenWorking (fun s => tpAfterStop (coefRowsArrive n k.rows k.read (s.lost lost (R.TP_RACE n))) n))

/-- THERMAL_SAMPLE_COMPLETE (07 R230). -/
def execThermalSampleComplete (x : PortRead) (s : State) : Result :=
  .next (s.whenWorking (fun s => tpAfterStop (sampleComplete x.port x.read s) x.port))

/-- FPA_SLOT_WRITE_DONE (07 R247). -/
def execFpaSlotWriteDone (n : Fin 4) (ok : Bool) (s : State) : Result := .next (s.whenWorking (slotDone n ok))

/-- DEF_EDIT_ADD (07 R251). -/
def execDefEditAdd (n : Fin 4) (rule : Fin 8) (row col : Fin 2048) (lost : Bool) (s : State) : Result :=
  .next (s.whenWorking (fun s =>
    defEdit n (BitVec.ofNat 32 (rule * 2 ^ 28 + row * 2 ^ 16 + col)) (s.lost lost (R.TP_RACE n))))

/-- DEF_EDIT_DELETE (07 R251). -/
def execDefEditDelete (n : Fin 4) (row col : Fin 2048) (lost : Bool) (s : State) : Result :=
  .next (s.whenWorking (fun s =>
    defEdit n (BitVec.ofNat 32 (2 ^ 31 + row * 2 ^ 16 + col)) (s.lost lost (R.TP_RACE n))))

/-- TP_COMMIT (07 R244). -/
def execTpCommit (n : Fin 4) (lost : Bool) (s : State) : Result :=
  .next (s.whenWorking (fun s => (tpUnit n).commit (s.lost lost (R.TP_RACE n))))

/-- TP_SCRIPT_RUN (07 R224). -/
def execTpScriptRun (n : Fin 4) (s : State) : Result := .next (s.whenWorking (scriptRun (0x10 + n)))

/-- POS_SAMPLE_ARRIVAL (03 R90): the oldest sample on its way arrives at imaging port c, or at thermal port c − 10.
`m.lost`: it met the port's fire instant, and one of them lost (04 R146); `m.meets`: a completing shading load met the
boundary that the sample makes and lost to the commit (05 R165). -/
def execPosSampleArrival (c : Fin 14) (m : Meeting) (s : State) : Result :=
  .next (s.whenWorking (fun s =>
    if c.val < 10 then imgArrival c m.meets ((s.lost m.lost (R.IMG_RACE c)).lost m.meets (R.IMG_RACE c))
    else
      let n := c.val - 10
      let (_, x, s) := takeItem (s.lost m.lost (R.TP_RACE n)) (16 + n)
      match x with
      | some x => tpSample n x s
      | none => s))

/-- RESULT_PUBLISH (09 R310, R311). `lost`: it met a loop's tick, and one of them lost (09 R312). -/
def execResultPublish (k : Fin 16) (lost : Bool) (s : State) : Result :=
  .next (s.whenWorking (fun s => tpTake k (lampTake k (resultPublish k (s.lost lost R.PREC_RACE)))))

end Sys2Proof.Machine
end

