-- ==== Sys2Proof/Machine/Memory.lean ====
section
/-!
DEFINITION. The memories: error correction, the scrubber, march tests, the calibration vault (13_memory.md).
-/

namespace Sys2Proof.Machine

/-! ### The scrubber (13 R413) -/

/-- One word of the scrubber's pass (13 R413): it reads a DRAM word, rewrites it if corrected; SCRUB_HOURS of 0 turns it
off; the end of a pass raises SCRUB_DONE. -/
def scrubWord (e : Ecc) (s : State) : State :=
  if s.fld R.MEM_SCRUB F.MEM_SCRUB_SCRUB_HOURS = 0 then s
  else
    let a := s.ms.scrubAt
    let s := eccNote true a e s
    if 0x2000000000 ≤ a + 8 then ({ s with ms := { s.ms with scrubAt := 0 } }).raise 422
    else { s with ms := { s.ms with scrubAt := a + 8 } }

/-! ### The exchange RAM, port B (13 R418, R419) -/

/-- A collision counted, with EXCH_COLLISION. -/
def exchCollided (s : State) : State := (s.satInc R.MEM_EXCH_STATUS F.MEM_EXCH_STATUS_A_COUNT).raise 423

/-- Bytes read on port B; a colliding word that the write on port A wins is undefined, and so is a word with an
uncorrectable error, for which R417 names no outcome (log entry 131). -/
def exchRead (s : State) (a n : Nat) (c : PortB) : List Byte :=
  bytesOf n (fun i =>
    let o := (a + i) % 262144
    let bad := c.collision.any (fun (x : Collision) => x.busy && x.word.val == o / 8) ||
      (c.read.ecc == .bad && (a + c.read.off) % 262144 / 8 == o / 8)
    if bad then (Config.freeWord (s.freeCtr + i)).setWidth 8 else s.byte (exchBase + o))

/-- What the codes say of a read on port B (13 R416). -/
def exchNote (a : Nat) (c : PortB) (s : State) : State :=
  eccNote false (exchBase + (a + c.read.off) % 262144) c.read.ecc s

/-- Bytes written on port B, each where it is enabled. -/
def exchWrite (s : State) (a : Nat) (bs : List (Option Byte)) : State :=
  (bs.zip (List.range bs.length)).foldl (fun s p =>
    match p.1 with
    | some b => s.setByte (exchBase + (a + p.2) % 262144) b
    | none => s) s

/-! ### March tests (13 R421 to R423) -/

/-- The bytes of a unit; 0 for a number that names none (13, On-die SRAM; R421). -/
def unitSize (u : Nat) : Nat :=
  if u < 0x40 then 0x50000
  else if u < 0x4A then 0x400000
  else if 0x50 ≤ u ∧ u ≤ 0x59 then 0x480000
  else if 0x60 ≤ u ∧ u ≤ 0x63 then 0x200000
  else if u = 0x70 then 0x40000
  else 0

/-- The keys of a unit's bytes that lie in addressed memory. -/
def unitKeys (u : Nat) : Nat × Nat :=
  if u < 0x40 then (frondKey u 0, frondKey u 0x50000)
  else if u < 0x48 then (0x4010000000 + 0x1000000 * (u - 0x40), 0x4010400000 + 0x1000000 * (u - 0x40))
  else if u < 0x4A then (0x4000000000 + 0x400000 * (u - 0x48), 0x4000400000 + 0x400000 * (u - 0x48))
  else if u = 0x70 then (exchBase, exchBase + 0x40000)
  else (0, 0)

/-- The spare rows of a unit: 16 for each 4 MiB, at least 2 (13 R420). -/
def unitSpares (u : Nat) : Nat := max 2 (16 * unitSize u / 0x400000)

/-- Whether a tuft is parked (11 R382). -/
def tuftParked (s : State) (t : Nat) : Bool := s.bit (R.TUFT_STATUS t) F.TUFT_STATUS_PARKED

/-- Whether a frond is HALTED or FAULTED (11 R351). -/
def frondStopped (s : State) (f : Nat) : Bool :=
  let st := s.fld (R.FRD_STATUS f) F.FRD_STATUS_STATE
  st == 0 || st == 3

/-- Whether a march of a unit is permitted (13 R421). -/
def marchAllowed (s : State) (u : Nat) (destructive : Bool) : Bool :=
  let unit :=
    if u < 0x40 then frondStopped s u
    else if u < 0x48 then !tuftParked s (u - 0x40)
    else if u = 0x48 ∨ u = 0x49 ∨ u = 0x70 then true
    else if 0x50 ≤ u ∧ u ≤ 0x59 then !s.runActive
    else if 0x60 ≤ u ∧ u ≤ 0x63 then !s.bit (R.TP_IF_CFG (u - 0x60)) F.TP_IF_CFG_ENABLE
    else false
  unit && (!destructive || s.mode == .maint)

/-- MEM_MARCH_CTRL written with START (13 R421): ignored while a march runs; permitted, or refused with RESULT 0b11. -/
def marchStart (u : Nat) (destructive : Bool) (s : State) : State :=
  let c := R.MEM_MARCH_CTRL
  let s := (s.setFld c F.MEM_MARCH_CTRL_UNIT u).setBit c F.MEM_MARCH_CTRL_DESTRUCTIVE destructive
  if s.bit c F.MEM_MARCH_CTRL_BUSY then s
  else if !marchAllowed s u destructive then s.setFld c F.MEM_MARCH_CTRL_RESULT 3
  else
    let s := { s with ms := { s.ms with march := some ⟨u, destructive⟩ } }
    (s.setBit c F.MEM_MARCH_CTRL_BUSY true).setFld c F.MEM_MARCH_CTRL_RESULT 0

/-- Whether a unit's accesses are bus errors because a destructive march tests it (13 R422). -/
def underMarch (s : State) (u : Nat) : Bool := s.ms.march.any (fun m => m.unit == u && m.destructive)

/-- What stands at an offset of an FRD block (11 R356, R372): a byte of the frond's local memories by the frond's own
view, a queue's DMA port, or its registers. -/
inductive FrdPlace where
  | memory (a : Nat)
  | port (k : Nat)
  | regs
  deriving DecidableEq, Repr

/-- The place that an offset of an FRD block names. -/
def frdPlace (o : Nat) : FrdPlace :=
  if 0x8000 ≤ o ∧ o < 0x8200 then .port ((o - 0x8000) / 0x40)
  else if 0x10000 ≤ o ∧ o < 0x20000 then .memory (o - 0x10000)
  else if 0x40000 ≤ o ∧ o < 0x80000 then .memory (o - 0x40000 + 0x10000)
  else .regs

/-- The unit of SRAM that holds the byte of a device address, by its number in a march test (13 R421). -/
def marchUnit (a : Nat) : Option Nat :=
  match regionOf a with
  | .commons => some (0x48 + (a - 0x4000000000) / 0x400000)
  | .tuft t => some (0x40 + t)
  | .exchange => some 0x70
  | .block b =>
    if b < 0x40 then none
    else match frdPlace (a % 0x100000) with
      | .memory _ => some (b - 0x40)
      | _ => none
  | _ => none

/-- The address that MEM_UE_ADDR names for a word that an access reads; none where no code guards it (13 R412). -/
def eccPlace (a : Nat) : Option (Bool × Nat) :=
  match regionOf a with
  | .dram => some (true, a)
  | .commons => some (false, a)
  | .tuft _ => some (false, a)
  | .exchange => some (false, a)
  | .mram => none
  | .hole => none
  | .block b =>
    if b < 0x40 then none
    else
      match frdPlace (a % 0x100000) with
      | .memory o => some (false, unitAddr (b - 0x40) o)
      | _ => none

/-- What the codes say of a span of memory read: the word in error counted, with its address (13 R412, R416). -/
def spanNote (a : Nat) (x : SpanRead) (s : State) : State :=
  match eccPlace (a + x.off) with
  | some (dram, w) => eccNote dram w x.ecc s
  | none => s

/-- Whether a span of memory read has an uncorrectable error (13 R417). -/
def spanBad (a : Nat) (x : SpanRead) : Bool := x.ecc == .bad && (eccPlace (a + x.off)).isSome

/-- Whether an access to an address stalls: a transparent march tests its unit (13 R422). -/
def marchStalls (s : State) (a : Nat) : Bool :=
  (marchUnit a).any (fun u => s.ms.march.any (fun m => m.unit == u && !m.destructive))

/-- A unit's content after a destructive march: it reads 0 (13 R422). -/
def unitZero (u : Nat) (s : State) : State :=
  if 0x50 ≤ u ∧ u ≤ 0x59 then
    let n := u - 0x50
    let z : Shade := ⟨List.replicate (imgColours s n * imgPixels s n) (0, 0), [], false⟩
    s.setImg n { s.imgSt n with shadeA := z, shadeB := z }
  else if 0x60 ≤ u ∧ u ≤ 0x63 then
    let n := u - 0x60
    s.setTp n { s.tp n with plane := [], defs := [], coefs := (s.tp n).coefs.map (·.map (·.map (fun _ => 0))),
                              tables := (List.range 4).map (fun i => (i, List.replicate 4096 0)) }
  else s.forget (unitKeys u).1 (unitKeys u).2

/-- A march on request ends, having found failing rows: spares repair as many as there are left (13 R423). -/
def marchDone (failing : Nat) (s : State) : State :=
  match s.ms.march with
  | none => s
  | some m =>
    let c := R.MEM_MARCH_CTRL
    let used := Sparse.get (fun _ => 0) s.ms.sparesUsed m.unit
    let fix := min failing (unitSpares m.unit - used)
    let left := failing - fix
    let s := { s with ms := { s.ms with march := none,
                                        sparesUsed := Sparse.put (fun _ => some 0) s.ms.sparesUsed m.unit (used + fix) } }
    let s := s.cond m.destructive (unitZero m.unit)
    let s := (s.setBit c F.MEM_MARCH_CTRL_BUSY false).setFld c F.MEM_MARCH_CTRL_RESULT (if failing = 0 then 1 else 2)
    let s := s.satInc R.MEM_MARCH_STATUS F.MEM_MARCH_STATUS_SOFT_REPAIRS fix
    let s := s.satInc R.MEM_MARCH_STATUS F.MEM_MARCH_STATUS_FAILED_ROWS left
    (s.cond (decide (0 < left)) (fun s => s.raise 417)).raise 416

/-! ### The calibration vault (13 R427 to R431) -/

/-- The address of a directory slot. -/
def vaultSlot (i : Nat) : Nat := mramBase + 0x1200000 + 64 * i

/-- The MRAM offset of a data block. -/
def vaultBlock (i : Nat) : Nat := 0x1210000 + 0x10000 * i

/-- A valid directory slot (13 R427). -/
structure VaultEnt where
  slot : Nat
  id : Nat
  gen : Nat
  kind : Nat
  start : Nat
  len : Nat
  crc : Nat
  deriving DecidableEq, Repr

/-- The directory slot of an index, if it is valid: MAGIC is correct and HDR_CRC checks (13 R427). -/
def vaultEnt (s : State) (i : Nat) : Option VaultEnt :=
  let b := s.read (vaultSlot i) 64
  if slice 0 4 b = [0x47, 0x56, 0x4C, 0x54] ∧ natAt 0x3C 4 b = crc32c (slice 0 0x3C b) then
    some ⟨i, natAt 4 4 b, natAt 8 4 b, byteAt 0xC b, natAt 0x10 4 b, natAt 0x14 4 b, natAt 0x18 4 b⟩
  else none

/-- The valid slots of the directory. -/
def vaultDir (s : State) : List VaultEnt := (List.range 1024).filterMap (vaultEnt s)

/-- The valid slots of an ID, newest generation first. -/
def vaultOf (s : State) (id : Nat) : List VaultEnt :=
  ((vaultDir s).filter (fun e => e.id == id)).mergeSort (fun a b => decide (b.gen ≤ a.gen))

/-- Whether a data block belongs to a valid slot. -/
def blockUsed (dir : List VaultEnt) (i : Nat) : Bool :=
  dir.any (fun e => decide (e.start ≤ vaultBlock i ∧ vaultBlock i < e.start + e.len))

/-- How many data blocks are free. -/
def vaultFree (s : State) : Nat :=
  let dir := vaultDir s
  ((List.range 3807).filter (fun i => !blockUsed dir i)).length

/-- FREE brought up to date (13, MEM_VAULT_FREE). -/
def vaultShowFree (s : State) : State := s.setFld R.MEM_VAULT_FREE F.MEM_VAULT_FREE_FREE (vaultFree s)

/-- FREE after an operation that began with a number of free blocks; VAULT_LOW when it falls below LOW_BLOCKS (13
R432). -/
def vaultFell (old : Nat) (s : State) : State :=
  let low := s.fld R.MEM_VAULT_FREE F.MEM_VAULT_FREE_LOW_BLOCKS
  let s := vaultShowFree s
  if low ≤ old ∧ vaultFree s < low then s.raise 425 else s

/-- The first run of free blocks that holds a number of bytes (13 R428). -/
def vaultRun (s : State) (len : Nat) : Option Nat :=
  let dir := vaultDir s
  let k := (len + 0xFFFF) / 0x10000
  (List.range 3807).find? (fun i => decide (i + k ≤ 3807) && (List.range k).all (fun j => !blockUsed dir (i + j)))

/-- Slots zeroed. -/
def zeroSlots (s : State) (l : List VaultEnt) : State :=
  l.foldl (fun s e => s.write (vaultSlot e.slot) (List.replicate 64 0)) s

/-- Whether a request's source may be read: DRAM, commons or a tuft bank, 64-byte aligned, not under a destructive
march (13 R411, R422, R428, MEM_VAULT_SRC). -/
def vaultSrcOk (s : State) (src len : Nat) : Bool :=
  let last := src + len - 1
  src % 64 == 0 && !(marchUnit src).any (underMarch s) && !(marchUnit last).any (underMarch s) && match regionOf src with
  | .dram => s.dramOpen src len
  | .commons => decide (last < 0x4000800000)
  | .tuft t => !tuftParked s t && decide (last < 0x4010400000 + 0x1000000 * t)
  | _ => false

/-- A commit carried out: the first failure, or the GEN written (13 R428). `ue`: the source met an uncorrectable
error. A source that is not what it was when the command was written fails as its CRC does (13 R431). -/
def vaultCommitRun (s : State) (v : VaultReq) (ue : Bool) : State × Except Nat Nat :=
  match vaultRun s v.len with
  | none => (s, .error 1)
  | some b =>
    if ue || !vaultSrcOk s v.src v.len then (s, .error 4)
    else
      let data := s.read v.src v.len
      let s := s.write (mramBase + vaultBlock b) data
      if crc32c data ≠ v.crc || !sameBytes data v.data then (s, .error 3)
      else
        match (List.range 1024).find? (fun i => (vaultEnt s i).isNone) with
        | none => (s, .error 2)
        | some i =>
          let gen := ((vaultOf s v.id).head?.map (·.gen)).getD 0 + 1
          if 0xFFFFFFFE < gen then (s, .error 5)
          else
            let h := [0x47, 0x56, 0x4C, 0x54] ++ bytesLE 4 v.id ++ bytesLE 4 gen ++ bytesLE 1 v.kind ++ [0, 0, 0] ++
              bytesLE 4 (vaultBlock b) ++ bytesLE 4 v.len ++ bytesLE 4 v.crc ++ bytesLE 8 s.now ++ List.replicate 24 0
            let s := s.write (vaultSlot i) (h ++ bytesLE 4 (crc32c h))
            (zeroSlots s ((vaultOf s v.id).drop 2), .ok gen)

/-- The commit in hand: what its read of the source meets, then R428. -/
def vaultCommit (v : VaultReq) (x : SpanRead) (s : State) : State × Bool :=
  let st := R.MEM_VAULT_STATUS
  let reads := vaultSrcOk s v.src v.len && (vaultRun s v.len).isSome
  match vaultCommitRun (s.cond reads (spanNote v.src x)) v (spanBad v.src x) with
  | (s, .error e) => (s.setFld st F.MEM_VAULT_STATUS_ERR e, false)
  | (s, .ok g) => ((s.setFld st F.MEM_VAULT_STATUS_ERR 0).setReg R.MEM_VAULT_GEN (BitVec.ofNat 32 g), true)

/-- The vault controller's present operation ends (13 R428, R431, R432): ERR, GEN, FREE, VAULT_DONE. A transparent
march of the source's memory stalls it (13 R422). -/
def vaultEnd (isDelete : Bool) (x : SpanRead) (s : State) : State :=
  match s.ms.vault with
  | [] => s
  | v :: rest =>
    if v.isDelete ≠ isDelete || (!isDelete && marchStalls s v.src) then s
    else
      let old := vaultFree s
      let s := { s with ms := { s.ms with vault := rest } }
      let (s, ok) :=
        if isDelete then ((zeroSlots s (vaultOf s v.id)).setFld R.MEM_VAULT_STATUS F.MEM_VAULT_STATUS_ERR 0, true)
        else vaultCommit v x s
      let s := (vaultFell old s).raise 424
      match v.port with
      | some n => persistEnd s n ok
      | none => s

/-- A frond's vault command (13 R431): refused and counted while BUSY is 1. One that meets a port's request in the
arbiter and loses to it runs after it. -/
def vaultAsk (isDelete : Bool) (kind : Nat) (lost : Bool) (s : State) : State :=
  let behind := lost && s.ms.vault.length == 1 && s.ms.vault.all (fun v => v.port.isSome)
  if s.ms.vault ≠ [] && !behind then s.satInc R.MEM_VAULT_STATUS F.MEM_VAULT_STATUS_REFUSED
  else
    let src := s.reg64 R.MEM_VAULT_SRC_LO
    let len := (s.reg R.MEM_VAULT_LEN).toNat
    let v : VaultReq := ⟨isDelete, src, len, (s.reg R.MEM_VAULT_ID).toNat, (s.reg R.MEM_VAULT_CRC).toNat, kind, none,
      if isDelete then [] else s.read src len⟩
    { s with ms := { s.ms with vault := s.ms.vault ++ [v] } }

/-- At a start, a third generation of an ID that a loss of power left behind is zeroed (13 R429). -/
def vaultTidy (s : State) : State :=
  (vaultDir s).foldl (fun s e => zeroSlots s ((vaultOf s e.id).drop 2)) s

/-! ### The commands of the table -/

/-- SCRUB_WORD (13 R413). `lost` counts a rewrite and a write that meet. -/
def execScrubWord (e : Ecc) (lost : Bool) (s : State) : Result :=
  .next (s.whenWorking (fun s => (scrubWord e s).lost lost R.MEM_RACE))

/-- ECC_WRITEBACK (13 R416): the oldest corrected word is written back; its content stands. -/
def execEccWriteback (s : State) : Result :=
  .next (s.whenWorking (fun s => { s with ms := { s.ms with writebacks := s.ms.writebacks.drop 1 } }))

/-- MARCH_START (13 R421). -/
def execMarchStart (unit : Fin 128) (destructive : Bool) (s : State) : Result :=
  .next (s.whenWorking (marchStart unit destructive))

/-- MARCH_DONE (13 R423). -/
def execMarchDone (failing : Nat) (s : State) : Result := .next (s.whenWorking (marchDone failing))

/-- VAULT_COMMIT (13 R431). `lost` counts a frond command and a port request that meet. -/
def execVaultCommit (kind : BitVec 8) (lost : Bool) (s : State) : Result :=
  .next (s.whenWorking (fun s => (vaultAsk false kind.toNat lost s).lost lost R.MEM_RACE))

/-- VAULT_DELETE (13 R431). -/
def execVaultDelete (lost : Bool) (s : State) : Result :=
  .next (s.whenWorking (fun s => (vaultAsk true 0 lost s).lost lost R.MEM_RACE))

/-- VAULT_CMD_INVALID: other values of CMD are refused (13, MEM_VAULT_CMD). -/
def execVaultCmdInvalid (s : State) : Result :=
  .next (s.whenWorking (fun s => s.satInc R.MEM_VAULT_STATUS F.MEM_VAULT_STATUS_REFUSED))

/-- VAULT_COMMIT_DONE (13 R428), with what its read of the source meets. -/
def execVaultCommitDone (x : SpanRead) (s : State) : Result := .next (s.whenWorking (vaultEnd false x))

/-- VAULT_DELETE_DONE (13 R431). -/
def execVaultDeleteDone (s : State) : Result := .next (s.whenWorking (vaultEnd true {}))

end Sys2Proof.Machine
end

