-- ==== Sys2Proof/Machine/Spool.lean ====
section
/-!
DEFINITION. The spool regions: their sizes, pointers and fill (01 R20, 13 R414, R415).
-/

namespace Sys2Proof.Machine

/-- The bytes of a stream's spool region (13 R414). -/
def spoolSize (s : State) (n : Nat) : Nat := s.fld (R.SPOOL_SIZE n) F.SPOOL_SIZE_SIZE * 0x100000

/-- The device address of a stream's spool region. -/
def spoolBase (s : State) (n : Nat) : Nat := s.reg64 (R.SPOOL_BASE_LO n)

/-- The intake pointer, in bytes from BASE. -/
def intakeAt (s : State) (n : Nat) : Nat := 64 * (s.reg (R.SPOOL_INTAKE n)).toNat

/-- The seal pointer, in bytes from BASE. -/
def sealAt (s : State) (n : Nat) : Nat := 64 * (s.reg (R.SPOOL_SEAL n)).toNat

/-- The drain pointer, in bytes from BASE. -/
def drainAt (s : State) (n : Nat) : Nat := 64 * (s.reg (R.SPOOL_DRAIN n)).toNat

/-- The bytes from one place of a ring forward to another. -/
def ringSpan (size a b : Nat) : Nat := if size = 0 then 0 else (b + size - a) % size

/-- The bytes from the drain pointer to the intake pointer. -/
def spoolUsed (s : State) (n : Nat) : Nat := ringSpan (spoolSize s n) (drainAt s n) (intakeAt s n)

/-- FILL brought up to date; SPOOL_HIGH when it rises through 0xC000 or falls through 0x8000 (13 R415, 15 R481). -/
def showFill (s : State) (n : Nat) : State :=
  let old := s.fld (R.SPOOL_FILL n) F.SPOOL_FILL_FILL
  let new := if spoolSize s n = 0 then 0 else spoolUsed s n * 65536 / spoolSize s n
  let s := s.setFld (R.SPOOL_FILL n) F.SPOOL_FILL_FILL new
  s.cond (decide (old < 0xC000 ∧ 0xC000 ≤ new) || decide (0x8000 ≤ old ∧ new < 0x8000)) (fun s =>
    s.raise (Ev.stream n 3))

/-- A pointer moved, in bytes from BASE, with FILL. -/
def setPtr (s : State) (n reg at_ : Nat) : State := showFill (s.setReg reg (BitVec.ofNat 32 (at_ / 64))) n

/-- A stream's stage ring. -/
def State.stage (s : State) (n : Nat) : StageSt := Sparse.get (fun _ => {}) s.stages n

/-- A stream's stage ring replaced. -/
def State.setStage (s : State) (n : Nat) (x : StageSt) : State :=
  { s with stages := Sparse.put (fun _ => some {}) s.stages n x }

/-- STAGE_SIZE of a stream's stage input queue (11 R375). -/
def stageSize (s : State) (n : Nat) : Nat :=
  match stageQueue s 4 n with
  | some (f, k) => (s.reg (R.FRD_Q_SIZE f k)).toNat
  | none => 0

/-- The fill that paces an axis: the spool's, or that of stage ring and spool together (10 R342, 11 R379). -/
def paceFillOf (s : State) (n : Nat) : Nat :=
  if isStaged s n then
    let total := stageSize s n + spoolSize s n
    if total = 0 then 0 else ((s.stage n).used + spoolUsed s n) * 65536 / total
  else s.fld (R.SPOOL_FILL n) F.SPOOL_FILL_FILL

end Sys2Proof.Machine
end

