-- ==== Sys2Proof/Machine/FrondBase.lean ====
section
/-!
DEFINITION. Fronds and tufts without the instruction set: states, windows, watchdogs, faults, operating points and
parking (11_fronds.md).
-/

namespace Sys2Proof.Machine

/-- A frond. -/
def State.frond (s : State) (f : Nat) : FrondSt := Sparse.get (fun _ => {}) s.fronds f

/-- A frond replaced. -/
def State.setFrond (s : State) (f : Nat) (x : FrondSt) : State :=
  { s with fronds := Sparse.put (fun _ => some {}) s.fronds f x }

/-- STATE of a frond (11 R351): 0 HALTED, 1 RUNNING, 2 WAITING, 3 FAULTED. -/
def frondState (s : State) (f : Nat) : Nat := s.fld (R.FRD_STATUS f) F.FRD_STATUS_STATE

/-- STATE written. -/
def setFrondState (s : State) (f st : Nat) : State := s.setFld (R.FRD_STATUS f) F.FRD_STATUS_STATE st

/-- A command that a frond's state ignores (11 R352, R353). -/
def frondIgnored (f : Nat) (s : State) : State := s.flag (R.FRD_STATUS f) F.FRD_STATUS_CMD_IGNORED

/-- A write that a frond's state refuses (11 R359, R374). -/
def frondCfgRefused (f : Nat) (s : State) : State := s.flag (R.FRD_STATUS f) F.FRD_STATUS_CFG_REFUSED

/-! ### The watchdog (11 R386) -/

/-- The watchdog's time left, in ns: it counts down while the frond is RUNNING or WAITING. -/
def wdogLeft (s : State) (f : Nat) : Nat :=
  let x := s.frond f
  if frondStopped s f then x.wdogLeft else x.wdogLeft - (s.now - x.wdogFrom)

/-- LEFT of FRD_WDOG_LEFT, in us. -/
def wdogLeftView (s : State) (f : Nat) : Nat := (wdogLeft s f + 999) / 1000

/-- The watchdog reloaded with a count of us. -/
def wdogLoad (f us : Nat) (s : State) : State :=
  s.setFrond f { s.frond f with wdogLeft := us * 1000, wdogFrom := s.now }

/-- FRD_KICK written: the watchdog reloads TIMEOUT. -/
def wdogKick (f : Nat) (s : State) : State := wdogLoad f (s.fld (R.FRD_WDOG f) F.FRD_WDOG_TIMEOUT) s

/-- FRD_WDOG written. -/
def wdogWrite (f us : Nat) (s : State) : State := wdogLoad f us (s.setFld (R.FRD_WDOG f) F.FRD_WDOG_TIMEOUT us)

/-! ### Event lines and waking -/

/-- The 64 event lines of a frond as one number. -/
def frondLines (s : State) (f : Nat) : Nat := s.reg64 (R.FRD_EVT_PEND_LO f)

/-- A waiting frond resumes when a line of its mask is among those that are, or were, pending: no wake-up is lost where a
line is cleared before the frond resumes (11 R369). -/
def frondWakeBy (f lines : Nat) (s : State) : State :=
  let x := s.frond f
  if frondState s f = 2 ∧ x.waitMask &&& lines ≠ 0 then
    setFrondState (s.setFrond f { x with waitMask := 0 }) f 1
  else s

/-- A waiting frond resumes when a masked line is pending (11 R369). -/
def frondWake (f : Nat) (s : State) : State := frondWakeBy f (frondLines s f) s

/-- Event source f of a frond occurs (11 R370), which triggers the channels that wait for it (14 R438). -/
def frondEvent (f : Nat) (s : State) : State := dmaSend 3 f (s.raise (Ev.frond f))

/-! ### Starting, halting, faulting (11 R351 to R354, R384, R385) -/

/-- START written: registers zeroed, the program counter at ENTRY, the watchdog reloaded (11 R352). -/
def frondStart (f : Nat) (s : State) : State :=
  if frondStopped s f && !tuftParked s (f / 8) then
    let x := s.frond f
    let s := s.setFrond f { x with sregs := [], vregs := [], preds := [], accs := [], waitMask := 0,
                                   pc := 8 * s.fld (R.FRD_ENTRY f) F.FRD_ENTRY_ENTRY }
    let s := setFrondState (s.setFld (R.FRD_STATUS f) F.FRD_STATUS_CAUSE 0) f 1
    wdogKick f s
  else frondIgnored f s

/-- Issue stops: the watchdog's count is kept, and what loads in flight return is discarded (11 R353, R386). -/
def frondStop (f st cause : Nat) (s : State) : State :=
  let x := s.frond f
  let s := s.setFrond f { x with wdogLeft := wdogLeft s f, waitMask := 0,
                                 accesses := x.accesses.map (fun a => { a with discard := true }) }
  setFrondState (s.setFld (R.FRD_STATUS f) F.FRD_STATUS_CAUSE cause) f st

/-- HALT written, or the halt instruction, with its CAUSE (11 R353). -/
def frondHalt (f cause : Nat) (s : State) : State :=
  if frondStopped s f then frondIgnored f s else frondStop f 0 cause s

/-- A fault (11 R384, R385): STATE, CAUSE, where and at which address; event source n; a peat log record. -/
def frondFault (f cause pc addr : Nat) (s : State) : State :=
  let s := frondStop f 3 cause s
  let s := s.setFld (R.FRD_FAULT_PC f) F.FRD_FAULT_PC_PC pc
  let s := s.setReg64 (R.FRD_FAULT_ADDR_LO f) addr
  let d := bytesLE 1 f ++ bytesLE 1 cause ++ bytesLE 2 pc ++ [0, 0, 0, 0] ++ bytesLE 8 addr
  (frondEvent f s).peatPush 3 f d

/-- Whether a frond is marked CRITICAL (11 R385). -/
def frondCritical (s : State) (f : Nat) : Bool := s.bit (R.FRD_STATUS f) F.FRD_STATUS_CRITICAL

/-! ### Windows (11 R355 to R359) -/

/-- The kinds of permission of a window. -/
inductive Perm where
  | read
  | write
  | atomic
  deriving DecidableEq, Repr

/-- The bit of a permission. -/
def Perm.fld : Perm → Fld
  | .read => F.FRD_WIN_BASE_LO_READ
  | .write => F.FRD_WIN_BASE_LO_WRITE
  | .atomic => F.FRD_WIN_BASE_LO_ATOMIC

/-- Whether window w of frond f grants a permission at an address (11 R357). -/
def winCovers (s : State) (f w : Nat) (p : Perm) (a : Nat) : Bool :=
  let lo := s.fld (R.FRD_WIN_BASE_LO f w) F.FRD_WIN_BASE_LO_BASE * 0x1000 +
    s.fld (R.FRD_WIN_BASE_HI f w) F.FRD_WIN_BASE_HI_ADDR * 0x100000000
  let hi := s.fld (R.FRD_WIN_LIMIT_LO f w) F.FRD_WIN_LIMIT_LO_LIMIT * 0x1000 +
    s.fld (R.FRD_WIN_LIMIT_HI f w) F.FRD_WIN_LIMIT_HI_ADDR * 0x100000000
  s.bit (R.FRD_WIN_BASE_LO f w) p.fld && decide (lo ≤ a ∧ a < hi + 0x1000 ∧ lo ≤ hi)

/-- Whether the windows of a frond grant every byte of a span (11 R358). Windows end on 4 KiB boundaries: the first byte
and the first byte of each further page stand for the span. -/
def winGrants (s : State) (f : Nat) (p : Perm) (a len : Nat) : Bool :=
  (List.range ((a % 0x1000 + len + 0xFFF) / 0x1000)).all (fun i =>
    (List.range 8).any (fun w => winCovers s f w p (max a (a / 0x1000 * 0x1000 + 0x1000 * i))))

/-! ### Tufts (11 R381 to R383) -/

/-- Whether a tuft's fronds stall issue for a switch (11 R381). -/
def tuftSwitching (s : State) (t : Nat) : Bool := s.bit (R.TUFT_STATUS t) F.TUFT_STATUS_SWITCHING

/-- The eight fronds of a tuft. -/
def tuftFronds (t : Nat) : List Nat := (List.range 8).map (8 * t + ·)

/-- MHz of an operating point of a tuft; 0: unused (11, TUFT_t_OPS). -/
def tuftMhz (s : State) (t op : Nat) : Nat :=
  let r := if op < 2 then s.reg (R.TUFT_OPS_A t) else s.reg (R.TUFT_OPS_B t)
  r.get ⟨16 * (op % 2), 16⟩

/-- The operating point in force, with its frequency. -/
def tuftRun (t op : Nat) (s : State) : State :=
  let s := s.setFld (R.TUFT_STATUS t) F.TUFT_STATUS_OP_IN_FORCE op
  s.setFld (R.TUFT_STATUS t) F.TUFT_STATUS_MHZ (tuftMhz s t op)

/-- COMMIT_TAKEN of a tuft. -/
def tuftTaken (t : Nat) (s : State) : State :=
  (s.setBit (R.TUFT_CTRL t) F.TUFT_CTRL_COMMIT_PENDING false).setReg64 (R.TUFT_COMMIT_TAKEN_LO t) s.now

/-- Whether the accesses of a tuft's fronds have drained (11 R381). -/
def tuftDrained (s : State) (t : Nat) : Bool := (tuftFronds t).all (fun f => (s.frond f).accesses.isEmpty)

/-- A tuft parked at its boundary, or, where a frond of it runs, the commit taken without PARK (11 R382). -/
def tuftPark (t : Nat) (s : State) : State :=
  let op := s.actFld (R.TUFT_OP t) F.TUFT_OP_OP
  if (tuftFronds t).all (frondStopped s) then
    tuftTaken t (tuftRun t op (s.setBit (R.TUFT_STATUS t) F.TUFT_STATUS_PARKED true))
  else
    let w := (s.inForce (R.TUFT_OP t)).put F.TUFT_OP_PARK 0
    let s := ((s.setInForce (R.TUFT_OP t) w).setReg (R.TUFT_OP t) w).flag (R.TUFT_STATUS t) F.TUFT_STATUS_CFG_REFUSED
    tuftTaken t (tuftRun t op s)

/-- A commit of TUFT_t_OP (11 R381, R382): OP and PARK are judged, each refused alone, its shadow then holding the
value in force (18 R529); the fronds stall issue until their accesses have drained, and a tuft that has none
outstanding parks at once. A wake waits for its 4 us. -/
def tuftCommit (t : Nat) (s : State) : State :=
  if s.bit (R.TUFT_CTRL t) F.TUFT_CTRL_COMMIT_PENDING then s
  else
    let want := s.reg (R.TUFT_OP t)
    let opOk := decide (tuftMhz s t (want.get F.TUFT_OP_OP) ≠ 0)
    let op := if opOk then want.get F.TUFT_OP_OP else s.actFld (R.TUFT_OP t) F.TUFT_OP_OP
    let parkOk := want.get F.TUFT_OP_PARK == 0 || (tuftFronds t).all (frondStopped s)
    let park := if parkOk then want.get F.TUFT_OP_PARK else s.actFld (R.TUFT_OP t) F.TUFT_OP_PARK
    let w := (want.put F.TUFT_OP_OP op).put F.TUFT_OP_PARK park
    let s := (s.setInForce (R.TUFT_OP t) w).setReg (R.TUFT_OP t) w
    let s := s.cond (!opOk || !parkOk) (fun s => s.flag (R.TUFT_STATUS t) F.TUFT_STATUS_CFG_REFUSED)
    if park = 1 ∧ (tuftParked s t ∨ tuftDrained s t) then tuftPark t s
    else
      let s := s.setBit (R.TUFT_CTRL t) F.TUFT_CTRL_COMMIT_PENDING true
      if tuftParked s t then s.setFrond (8 * t) { s.frond (8 * t) with wakeFrom := s.now }
      else s.setBit (R.TUFT_STATUS t) F.TUFT_STATUS_SWITCHING true

/-- The fronds' accesses have drained: the tuft parks, or, at step 3 of R381, the DCO has relocked and issue resumes. -/
def tuftSwitched (t : Nat) (s : State) : State :=
  if tuftSwitching s t && tuftDrained s t then
    let s := s.setBit (R.TUFT_STATUS t) F.TUFT_STATUS_SWITCHING false
    if s.actBit (R.TUFT_OP t) F.TUFT_OP_PARK then tuftPark t s
    else tuftTaken t (tuftRun t (s.actFld (R.TUFT_OP t) F.TUFT_OP_OP) s)
  else s

/-- A tuft wakes 4 us after the boundary that cleared PARK, with its content (11 R382). -/
def tuftWake (t : Nat) (s : State) : State :=
  if tuftParked s t && s.bit (R.TUFT_CTRL t) F.TUFT_CTRL_COMMIT_PENDING then
    let s := s.reach ((s.frond (8 * t)).wakeFrom + 4000)
    let s := s.setBit (R.TUFT_STATUS t) F.TUFT_STATUS_PARKED false
    tuftTaken t (tuftRun t (s.actFld (R.TUFT_OP t) F.TUFT_OP_OP) s)
  else s

/-! ### Reports -/

/-- The oldest access fault reported (11 R367). -/
def accessReport (f : Nat) (s : State) : State :=
  let x := s.frond f
  match x.reports with
  | [] => s
  | a :: r =>
    let s := s.setFrond f { x with reports := r }
    let s := (s.flag (R.FRD_STATUS f) F.FRD_STATUS_ACCESS_FAULT).satInc (R.FRD_STATUS f) F.FRD_STATUS_ACC_COUNT
    (s.setReg64 (R.FRD_ACC_ADDR_LO f) a).setLine f 55

/-- An access fault to be reported to a frond. -/
def accessRefused (f addr : Nat) (s : State) : State :=
  let x := s.frond f
  s.setFrond f { x with reports := x.reports ++ [addr] }

/-! ### The commands of the table -/

/-- FRD_START (11 R352). -/
def execFrdStart (f : Fin 64) (s : State) : Result := .next (s.whenWorking (frondStart f))

/-- FRD_HALT (11 R353). `lost` counts a fault and a HALT that meet (11 R385). -/
def execFrdHalt (f : Fin 64) (lost : Bool) (s : State) : Result :=
  .next (s.whenWorking (fun s => (frondHalt f 1 s).lost lost (R.FRD_RACE f)))

/-- FRD_KICK (11 R386). `lost` counts a kick and an expiry that meet. -/
def execFrdKick (f : Fin 64) (lost : Bool) (s : State) : Result :=
  .next (s.whenWorking (fun s => (wdogKick f s).lost lost (R.FRD_RACE f)))

/-- FRD_WDOG_WRITE (11 R386). -/
def execFrdWdogWrite (f : Fin 64) (us : Fin 16777216) (s : State) : Result :=
  .next (s.whenWorking (wdogWrite f us))

/-- FRD_EVT_RAISE (11 R368). `lost` counts a wait that meets the line (11 R369). -/
def execFrdEvtRaise (f line : Fin 64) (lost : Bool) (s : State) : Result :=
  .next (s.whenWorking (fun s => (s.setLine f line).lost lost (R.FRD_RACE f)))

/-- FRD_SWEVT (11 R370). -/
def execFrdSwevt (f : Fin 64) (s : State) : Result := .next (s.whenWorking (frondEvent f))

/-- WAIT_WAKE (11 R369). -/
def execWaitWake (f : Fin 64) (s : State) : Result := .next (s.whenWorking (frondWake f))

/-- ACCESS_FAULT (11 R367). -/
def execAccessFault (f : Fin 64) (s : State) : Result := .next (s.whenWorking (accessReport f))

/-- TUFT_COMMIT (11 R381, R382). `lost` counts a commit that meets the boundary (11 R383). -/
def execTuftCommit (t : Fin 8) (lost : Bool) (s : State) : Result :=
  .next (s.whenWorking (fun s => (tuftCommit t s).lost lost (R.TUFT_RACE t)))

/-- TUFT_SWITCH_DONE (11 R381). -/
def execTuftSwitchDone (t : Fin 8) (s : State) : Result := .next (s.whenWorking (tuftSwitched t))

/-- TUFT_WAKE (11 R382). -/
def execTuftWake (t : Fin 8) (s : State) : Result := .next (s.whenWorking (tuftWake t))

end Sys2Proof.Machine
end

