-- ==== Sys2Proof/Machine/Intake.lean ====
section
/-!
DEFINITION. The intake of the output streams: room, chunks, drop spans, control records of a run, stage rings
(11 R375 to R380, 13 R415, 15 R465, R474 to R479, 16 R493, R496, R497).
-/

namespace Sys2Proof.Machine

/-! ### What the intake writes -/

/-- The flag bits that the intake ORs in: DEBUG, THROTTLED, TEMP_BAND_CHANGE (16 R501, 19 R568, R569). -/
def intakeFlags (s : State) (n : Nat) : Nat :=
  (if s.root.debug then 1 else 0) + (if 0 < s.fld R.PWR_STATUS F.PWR_STATUS_LEVEL then 2 else 0) +
    (if (s.stream n).bandMark then 16 else 0)

/-- The run ID of the present run (01, SYS_STATE). -/
def runId (s : State) : Nat := s.fld R.SYS_STATE F.SYS_STATE_RUN_ID

/-- Whether a chunk is closed by an ANCHOR (16 R497). -/
def closesAnchor (idx : Nat) (final : Bool) : Bool := idx % 4096 == 0 || final

/-- Whether the booted spore has its anchors signed with ML-DSA as well (16 R498). -/
def mldsaOn (s : State) : Bool := s.boot.spore.any (fun p => p.flags % 2 == 1)

/-- The payload length of a closing SEAL or ANCHOR (16 R496, R497). -/
def sealLen (s : State) (anchor : Bool) : Nat := if !anchor then 64 else if mldsaOn s then 3776 else 448

/-! ### Room (13 R415, 15 R478) -/

/-- The bus-error event of the port that a record comes from (01 R35); the device's own control records have none. -/
def sourceBusError (s : State) (src : Nat) : State :=
  if src < 10 then imgFault s src F.IMG_STATUS_BUS_ERR
  else if 0x10 ≤ src ∧ src < 0x14 then tpFault s (src - 0x10) F.TP_STATUS_BUS_ERR
  else s

/-- A record's bytes written to the spool or a stage ring for its source: a hole or the MRAM takes none (01 R35). -/
def sourceWrite (src a : Nat) (bs : List Byte) (s : State) : State :=
  (s.islandWrite a bs).cond (busErrorIn s a bs.length) (fun s => sourceBusError s src)

/-- Where a record of a length goes, and the bytes used once it lies there: it never straddles the region's end. -/
def placeAt (size at_ used len : Nat) : Nat × Nat :=
  if size < at_ + len then (0, used + (size - at_) + len) else (at_, used + len)

/-- The bytes used after records of these lengths, with the SEALs that close full chunks among them: `cnt` records of
`bytes` bytes lie in the open chunk of index `idx`. -/
def usedAfter (s : State) (size : Nat) : List Nat → (at_ used cnt bytes idx : Nat) → Nat
  | [], _, used, _, _, _ => used
  | len :: r, at_, used, cnt, bytes, idx =>
    let full := cnt = 256 ∨ (0 < cnt ∧ 0x400000 < bytes + len)
    let (a, u) := if full then placeAt size at_ used (64 + sealLen s (closesAnchor idx false)) else (at_, used)
    let sl := 64 + sealLen s (closesAnchor idx false)
    let a := if full then a + sl else a
    let (p, u) := placeAt size a u len
    usedAfter s size r (p + len) u (if full then 1 else cnt + 1) (if full then len else bytes + len)
      (if full then idx + 1 else idx)

/-- The record bytes of the open chunk. -/
def openBytes (x : Stream) : Nat := (x.open_.map (·.len)).sum

/-- Whether records of these lengths find room and leave a number of bytes free. -/
def roomFor (s : State) (n : Nat) (lens : List Nat) (keep : Nat) : Bool :=
  let x := s.stream n
  let size := spoolSize s n
  decide (usedAfter s size lens (intakeAt s n) (spoolUsed s n) x.open_.length (openBytes x) x.chunkIdx + keep ≤ size)

/-- What a record must leave free: 64 bytes, the closing room, and for any but a control record the reserve. -/
def keepFree (control : Bool) : Nat := if control then 64 + 16384 else 64 + 16384 + 65536

/-! ### Chunks (15 R475, 16 R493, R496) -/

/-- The open chunk closed: the place of its SEAL is reserved directly after its last record, and the next chunk's index
follows. -/
def closeChunk (n : Nat) (final : Bool) (s : State) : State :=
  let x := s.stream n
  if x.open_.isEmpty then s
  else
    let anchor := closesAnchor x.chunkIdx final
    let len := 64 + sealLen s anchor
    let at_ := (placeAt (spoolSize s n) (intakeAt s n) 0 len).1
    let ent : Ent := ⟨at_, len, x.nextSeq, runId s, 0xF0, 0x20, false, final, final⟩
    let c : Chunk := ⟨x.chunkIdx, x.epoch, x.open_, ent, intakeFlags s n, anchor, final, s.now, false⟩
    let wraps := x.chunkIdx = 0xFFFFFFFF
    let x' := { x with closed := x.closed ++ [c], open_ := [], nextSeq := x.nextSeq + 1, bandMark := false,
                       chunkIdx := if wraps then 0 else x.chunkIdx + 1, epoch := if wraps then x.epoch + 1 else x.epoch }
    let s := (s.setStream n x').cond (decide wraps && !final) (fun s => s.raise (Ev.stream n 9))
    let s := s.setReg (R.SEALS_CHUNK n) (BitVec.ofNat 32 x'.chunkIdx)
    let s := s.setFld (R.SEALS_EPOCH n) F.SEALS_EPOCH_EPOCH x'.epoch
    setPtr s n (R.SPOOL_INTAKE n) ((at_ + len) % spoolSize s n)

/-- RUN_STOP of the device (15 R477): fronds' codes begin at 0x0100. -/
def isRunStop (r : Rec) : Bool := r.typ == 0x21 && r.src == 0x20 && natAt 0 2 r.tail == 2

/-- RUN_START of the device. -/
def isRunStart (r : Rec) : Bool := r.typ == 0x21 && r.src == 0x20 && natAt 0 2 r.tail == 1

/-- A record enters the intake: the closing of a chunk that it would overfill, its place, the fields that the intake
writes, and the closing of a chunk that it fills, the run's last one where it is RUN_STOP (15 R474, R475, R478). -/
def enterRecord (n : Nat) (r : Rec) (s : State) : State :=
  let len := 64 + r.payload.length
  let x := s.stream n
  let s := s.cond (decide (0x400000 < openBytes x + len)) (closeChunk n false)
  let x := s.stream n
  let at_ := (placeAt (spoolSize s n) (intakeAt s n) 0 len).1
  let lastSeq := Sparse.get (fun _ => 0) x.lastSeqs r.src
  let tail := if r.seqTail then bytesLE 4 lastSeq ++ (padTo 16 r.tail).drop 4 else r.tail
  let h := headerOf { r with tail := tail } s.devid (runId s) x.nextSeq (r.flags ||| intakeFlags s n) x.chunkIdx
    x.open_.length
  let s := sourceWrite r.src (spoolBase s n + at_) (h ++ r.payload) s
  let ent : Ent := ⟨at_, len, x.nextSeq, runId s, r.typ, r.src, false, false, false⟩
  let x' := { x with open_ := x.open_ ++ [ent], openAt := if x.open_.isEmpty then s.now else x.openAt,
                     nextSeq := x.nextSeq + 1, recCount := x.recCount + 1, bandMark := false,
                     lastSeqs := if r.typ = 3 then Sparse.put (fun _ => none) x.lastSeqs r.src x.nextSeq else x.lastSeqs }
  let s := setPtr (s.setStream n x') n (R.SPOOL_INTAKE n) ((at_ + len) % spoolSize s n)
  s.cond (decide (x'.open_.length = 256)) (closeChunk n (isRunStop r))

/-! ### Drop spans (15 R478, R479) -/

/-- Whether a record type is a control type of the intake: GAP or SWATH. -/
def isControl (typ : Nat) : Bool := typ == 0x10 || typ == 0x11

/-- The data type of a source (15 R479). -/
def dataType (s : State) (src : Nat) : Nat :=
  if src < 0x10 then 1
  else if src < 0x14 then (if s.bit (R.TP_LINE_CFG (src - 0x10)) F.TP_LINE_CFG_LINE_MODE then 3 else 2)
  else 0x21

/-- SWATH_ID of a LINE or TLINE record, of no other: bytes 62 and 63 of a LINE's header, 52 and 53 of a TLINE's (04
R154, 08 R283). -/
def swathOf (r : Rec) : Option Nat :=
  if r.typ = 1 then some (natAt 14 2 (padTo 16 r.tail))
  else if r.typ = 3 then some (natAt 4 2 (padTo 16 r.tail)) else none

/-- A dropped record opens a span of its source and type, or extends it. -/
def dropRecord (n : Nat) (r : Rec) (s : State) : State :=
  let x := s.stream n
  let typ := if isControl r.typ then dataType s r.src else r.typ
  let last := if typ = 1 ∨ typ = 3 then ofSigned 64 r.pos else r.time
  let k := if r.typ = 0x10 then natAt 8 4 (padTo 16 r.tail) else if r.typ = 0x11 then 0 else 1
  let lost := r.typ == 0x11
  match x.spans.find? (fun p => p.src == r.src && p.typ == typ) with
  | some _ =>
    let f (p : Span) : Span := if p.src = r.src ∧ p.typ = typ then
      { p with last := last, count := p.count + k, swathLost := p.swathLost || lost, swath := p.swath.orElse (fun _ => swathOf r) }
      else p
    s.setStream n { x with spans := x.spans.map f }
  | none =>
    let p : Span := ⟨r.src, typ, r.pos, r.time, last, k, swathOf r, lost⟩
    (s.setStream n { x with spans := x.spans ++ [p] }).raise (Ev.stream n 4)

/-- The GAP record of a span (15 R478). -/
def spanGap (p : Span) : Rec :=
  { typ := 0x10, src := p.src, pos := p.pos, time := p.time, flags := if p.swathLost then 2 ^ 23 else 0,
    tail := bytesLE 8 p.last ++ bytesLE 4 p.count ++ bytesLE 1 1 ++ bytesLE 1 p.typ ++ bytesLE 2 (p.swath.getD 0) }

/-- A span closed: its GAP record enters. -/
def closeSpan (n : Nat) (p : Span) (s : State) : State :=
  let x := s.stream n
  enterRecord n (spanGap p) (s.setStream n { x with spans := x.spans.filter (fun q => decide (q ≠ p)) })

/-- Whether the spool intake has room for a record, with the GAP of an open span of its source and type (15 R478). -/
def intakeTakes (s : State) (n : Nat) (r : Rec) : Bool :=
  let x := s.stream n
  let len := 64 + r.payload.length
  let gap := x.spans.any (fun p => p.src == r.src && p.typ == r.typ)
  x.waiting.isEmpty && roomFor s n (if gap then [64, len] else [len]) (keepFree (isControl r.typ))

/-- A record offered to the intake: it enters, after the GAP of an open span of its source and type, or it is dropped.
While RUN_START waits every other record is dropped (15 R478). -/
def offerRecord (n : Nat) (r : Rec) (s : State) : State :=
  if intakeTakes s n r then
    let s := match (s.stream n).spans.find? (fun p => p.src == r.src && p.typ == r.typ) with
      | some p => closeSpan n p s
      | none => s
    enterRecord n r s
  else dropRecord n r s

/-! ### The records of a run (15 R477, R478, 20 R579) -/

/-- An EVENT record of the device. -/
def eventRec (s : State) (code data : Nat) : Rec :=
  { typ := 0x21, src := 0x20, time := s.now, tail := bytesLE 2 code ++ List.replicate 6 0 ++ bytesLE 8 data }

/-- RUN_START (15 R477). -/
def runStartRec (s : State) : Rec :=
  match s.boot.spore with
  | some p => eventRec s 1 (p.build + 2 ^ 32 * p.arb)
  | none => eventRec s 1 0

/-- GAP(RECOVERY) of a stream (20 R579). -/
def recoveryRec (n : Nat) (v : Recovery) (s : State) : Rec :=
  let x := s.stream n
  let f := (if x.anySealed then 0 else 1) + (if v.abandoned then 2 else 0) + (if v.dramLost then 4 else 0)
  { typ := 0x10, src := 0x20, time := v.time,
    tail := bytesLE 2 v.prevRun ++ bytesLE 2 x.sealedEpoch ++ bytesLE 4 x.sealedIdx ++
      bytesLE 4 ((Sparse.find v.discarded n).getD 0xFFFFFFFF) ++ bytesLE 1 8 ++ bytesLE 1 v.cause ++ bytesLE 1 f ++ [0] }

/-- The records that wait at the intake enter as the drain makes room; with RUN_START the GAP records of the spans that
opened meanwhile come to wait, so that they enter directly after it (15 R478). -/
def enterWaiting (n : Nat) : Nat → State → State
  | 0, s => s
  | k + 1, s =>
    let x := s.stream n
    match x.waiting with
    | [] => s
    | r :: rest =>
      if roomFor s n [64 + r.payload.length] (keepFree true) then
        if isRunStart r then
          let s := s.setStream n { x with waiting := rest ++ x.spans.map spanGap, spans := [] }
          enterWaiting n k ((enterRecord n r s).raise (Ev.stream n 6))
        else enterWaiting n k (enterRecord n r (s.setStream n { x with waiting := rest }))
      else s

/-- What may enter of a stream's waiting records. -/
def enterAll (n : Nat) (s : State) : State :=
  enterWaiting n ((s.stream n).waiting.length + (s.stream n).spans.length) s

/-- A stage input or output queue's STAGE_ERR (11 R376, R377). -/
def stageErr (f k : Nat) (s : State) : State := s.flag (R.FRD_Q_STATUS f k) F.FRD_Q_STATUS_STAGE_ERR

/-- Notices of an earlier run that a new run finds in the stage output queue are discarded, with STAGE_ERR (11 R380). -/
def stageClear (n : Nat) (s : State) : State :=
  match stageQueue s 5 n with
  | some (f, k) => if s.queue f k = [] then s else stageErr f k (s.setQueueEntries f k [])
  | none => s

/-- A stream's part of a run start: chunk 0 of epoch 0, sequence 0, the records that open it (15 R477, 16 R493, 20
R579). -/
def streamBegin (v : Option Recovery) (n : Nat) (s : State) : State :=
  let x := s.stream n
  let first := match v with
    | some v => [recoveryRec n v s]
    | none => []
  let s := s.setStream n { x with open_ := [], closed := [], chunkIdx := 0, epoch := 0, nextSeq := 0, recCount := 0,
                                  lastSeqs := [], spans := [], waiting := first ++ [runStartRec s], inRun := true,
                                  stopping := false, prevTag := List.replicate 16 0, anySealed := false,
                                  finalSealed := false, sealedIdx := 0, sealedEpoch := 0, sealedSeq := 0 }
  let s := (s.setReg (R.SEALS_CHUNK n) 0).setReg (R.SEALS_EPOCH n) 0
  enterAll n (stageClear n (s.setStage n { }))

/-- A stream's part of a run stop once its sources have drained: the GAP records that still wait and those of the open
spans, RUN_STOP, the final ANCHOR, all in the closing room (13 R415, 15 R477, R478). -/
def streamFinish (n : Nat) (s : State) : State :=
  let x := s.stream n
  let s := x.waiting.foldl (fun s r => enterRecord n r s) (s.setStream n { x with waiting := [] })
  let s := (s.stream n).spans.foldl (fun s p => closeSpan n p s) s
  let s := enterRecord n (eventRec s 2 (s.stream n).recCount) s
  let s := closeChunk n true s
  s.setStream n { s.stream n with inRun := false, stopping := false }

/-- The stream that a source is mapped to, if it is on (15 R465). -/
def sourceStream (s : State) (i : Nat) : Option Nat :=
  if s.bit (R.HOST_SRC_MAP i) F.HOST_SRC_MAP_EN then some (s.fld (R.HOST_SRC_MAP i) F.HOST_SRC_MAP_STREAM) else none

/-- The source byte of source i. -/
def sourceByte (i : Nat) : Nat := if i < 10 then i else 0x10 + (i - 10)

/-- Whether a source has no record of the run left. -/
def sourceDrained (s : State) (i : Nat) : Bool :=
  (s.queueOf (sourceByte i)).isEmpty && (if i < 10 then imgDrained s i else tpDrained s (i - 10))

/-- Whether all sources of a stream have drained. -/
def sourcesDrained (s : State) (n : Nat) : Bool :=
  (List.range 14).all (fun i => sourceStream s i != some n || sourceDrained s i)

/-- Whether a staged stream's stage is over: everything released and every notice copied, or the time out (11 R380). -/
def stageOver (s : State) (n : Nat) : Bool :=
  if isStaged s n then
    let g := s.stage n
    g.ended || (g.used == 0 && g.waiting.isEmpty && match stageQueue s 5 n with
      | some (f, k) => (s.queue f k).isEmpty
      | none => true)
  else true

/-- A stopping stream whose RUN_START has entered and whose sources and stage are done finishes its run. -/
def streamProgress (s : State) (n : Nat) : State :=
  let x := s.stream n
  let s := s.cond (x.inRun && !x.waiting.isEmpty) (enterAll n)
  let x := s.stream n
  if x.inRun && x.stopping && !x.waiting.any isRunStart && sourcesDrained s n && stageOver s n then streamFinish n s else s

/-- Every stream that can go on does. -/
def streamsProgress (s : State) : State := (List.range 16).foldl streamProgress s

/-! ### Stage rings (11 R375 to R380) -/

/-- The address of a stage ring. -/
def stageBase (s : State) (n : Nat) : Nat :=
  match stageQueue s 4 n with
  | some (f, k) => s.reg64 (R.FRD_Q_BASE_LO f k)
  | none => 0

/-- A stage ring's state stored, with PROGRESS: the bytes occupied. -/
def showStage (n : Nat) (g : StageSt) (s : State) : State :=
  match stageQueue s 4 n with
  | some (f, k) => (s.setStage n g).setReg (R.FRD_Q_PROGRESS f k) (BitVec.ofNat 32 g.used)
  | none => s.setStage n g

/-- Notices that wait enter the stage input queue as far as it has room. -/
def stageFlow (n : Nat) : Nat → State → State
  | 0, s => s
  | j + 1, s =>
    let g := s.stage n
    match stageQueue s 4 n, g.waiting with
    | some (f, k), (e, len) :: rest =>
      if (s.queue f k).length < 16 then
        stageFlow n j (queueAdd (s.setStage n { g with waiting := rest, given := g.given + len }) f k e)
      else s
    | _, _ => s

/-- An entry has left a queue: where it is a stage input, the notices that wait enter as far as there is room (11
R375). -/
def stageRefill (f k : Nat) (s : State) : State :=
  if queueKind s f k = 4 ∧ queueBound s f k then
    stageFlow (queuePeer s f k) (s.stage (queuePeer s f k)).waiting.length s
  else s

/-- A record of a source lands in the stage ring, with its notice; one that finds the ring full is dropped as at a full
spool region (11 R375, R379). -/
def stageIn (n : Nat) (r : Rec) (s : State) : State :=
  let g := s.stage n
  let size := stageSize s n
  let len := 64 + r.payload.length
  let (at_, used) := placeAt size g.wr g.used len
  if used ≤ size then
    let h := producerHeader s r
    let a := stageBase s n + at_
    let s := sourceWrite r.src a (h ++ r.payload) s
    let note := h.take 40 ++ bytesLE 8 a ++ h.drop 48
    stageFlow n 1 (showStage n { g with wr := (at_ + len) % size, used := used,
                                        waiting := g.waiting ++ [(note, used - g.used)] } s)
  else dropRecord n r s

/-- A release: ring space up to an address is freed, in ring order, not beyond the last notice delivered (11 R376). -/
def stageRelease (f k addr : Nat) (s : State) : State :=
  if queueKind s f k = 4 ∧ queueBound s f k then
    let n := queuePeer s f k
    let g := s.stage n
    let size := stageSize s n
    let base := stageBase s n
    let d := ringSpan size g.rd (addr - base)
    let d := if d = 0 ∧ g.given = size ∧ addr = base + g.wr then 0 else d
    if addr < base ∨ base + size ≤ addr ∨ g.given < d then stageErr f k s
    else streamProgress (showStage n { g with rd := addr - base, used := g.used - d, given := g.given - d } s) n
  else s

/-- The record that a header in memory describes. -/
def recAt (s : State) (a len : Nat) : Rec :=
  let h := s.read a 64
  { typ := natAt 0 2 h, src := byteAt 2 h, pos := toSigned 64 (natAt 16 8 h), time := natAt 24 8 h,
    flags := natAt 32 4 h, speed := natAt 36 4 h, missed := natAt 46 2 h, tail := h.drop 48,
    seqTail := natAt 0 2 h == 0x20 && dataType s (byteAt 2 h) == 3,
    payload := s.read (a + 64) (len - 64) }

/-- Whether a span of addresses lies in claimed DRAM, the commons or an awake tuft bank. -/
def stageSource (s : State) (a len : Nat) : Bool :=
  let last := a + len - 1
  match regionOf a, regionOf last with
  | .dram, _ => s.dramOpen a len
  | .commons, .commons => !underMarch s (0x48 + (a - 0x4000000000) / 0x400000)
  | .tuft t, .tuft u => t == u && !tuftParked s t && !underMarch s (0x40 + t)
  | _, _ => false

/-- The oldest notice of the stage output queue: the record it names is copied into the spool intake, or the notice is
discarded (11 R377, R380). While the intake has no room the notice stays, so that the frond stalls (11 R371).
A record that meets an uncorrectable error is discarded as at a bus error (13 R417; log entry 131). -/
def stageCopy (n : Nat) (x : SpanRead) (s : State) : State :=
  match stageQueue s 5 n with
  | none => s
  | some (f, k) =>
    match s.queue f k with
    | [] => s
    | e :: _ =>
      let a := natAt 40 8 e
      let len := 64 + natAt 4 4 e
      let ok := decide (a % 64 = 0 ∧ len % 64 = 0) && stageSource s a len && winGrants s f .read a len &&
        (s.stream n).inRun && !(s.stage n).ended
      if marchStalls s a || (ok && !intakeTakes s n (recAt s a len)) then s else
      let s := (queueDrop s f k).cond ok (spanNote a x)
      if ok && !spanBad a x then
        let s := s.wrapInc (R.FRD_Q_PROGRESS f k) F.FRD_Q_PROGRESS_PROGRESS
        streamProgress (offerRecord n (recAt s a len) s) n
      else streamProgress (stageErr f k s) n

/-! ### Records on their way in -/

/-- Whether a stream takes records of this device's run: it is enabled, its run has not ended, and it receives none from
another device (15 R465, 17 R516). -/
def takesRecords (s : State) (n : Nat) : Bool :=
  let x := s.stream n
  x.enabled && x.inRun && !s.bit (R.RUN_FWD n) F.RUN_FWD_IN_EN

/-- The oldest record of a source reaches the intake of its stream: the spool or the stage ring; a source or a stream that
is off discards it (15 R465). -/
def recordIntake (i : Nat) (s : State) : State :=
  let src := sourceByte i
  match s.queueOf src with
  | [] => s
  | r :: rest =>
    let s := s.setQueue src rest
    match sourceStream s i with
    | none => s
    | some n =>
      if takesRecords s n then
        streamProgress (if isStaged s n then stageIn n r s else offerRecord n r s) n
      else s

/-- HOST_EVREC_CMD written (15 R465, R477): the device's source emits the record to the stream that the command names;
with its EN 0 it is discarded (log entry 52). A code below 0x0100 sets CFG_REFUSED. -/
def eventRecord (n code : Nat) (s : State) : State :=
  if code < 0x100 then s.flag R.HOST_STATUS F.HOST_STATUS_CFG_REFUSED
  else if takesRecords s n && s.bit (R.HOST_SRC_MAP 14) F.HOST_SRC_MAP_EN then
    offerRecord n (eventRec s code (s.reg64 R.HOST_EVREC_DATA_LO)) s
  else s

/-! ### The commands of the table -/

/-- RECORD_INTAKE (15 R465, R474). -/
def execRecordIntake (i : Fin 14) (s : State) : Result := .next (s.whenWorking (recordIntake i))

/-- CHUNK_AGE_EXPIRY (15 R475): CHUNK_AGE ms since the chunk's first record; 0 is taken as 1. -/
def execChunkAgeExpiry (n : Fin 16) (s : State) : Result :=
  .next (s.whenWorking (fun s =>
    let x := s.stream n
    if x.open_.isEmpty then s
    else closeChunk n false
      (s.reach (x.openAt + max 1 (s.fld (R.HOST_CHUNK_AGE n) F.HOST_CHUNK_AGE_CHUNK_AGE) * 1000000))))

/-- EVENT_RECORD_EMIT (15 R477). -/
def execEventRecordEmit (n : Fin 16) (code : BitVec 16) (s : State) : Result :=
  .next (s.whenWorking (eventRecord n code.toNat))

/-- STAGE_RELEASE (11 R376): queue k of frond f. -/
def execStageRelease (f : Fin 64) (k : Fin 8) (addr : BitVec 48) (s : State) : Result :=
  .next (s.whenWorking (fun s =>
    stageRelease f k addr.toNat (s.setReg64 (R.FRD_Q_RELEASE_LO f k) addr.toNat)))

/-- STAGE_COPY_DONE (11 R377). -/
def execStageCopyDone (x : StageRead) (s : State) : Result := .next (s.whenWorking (stageCopy x.stream x.read))

/-- STAGE_DRAIN_TIMEOUT (11 R380): 1 s after the stop. -/
def execStageDrainTimeout (n : Fin 16) (s : State) : Result :=
  .next (s.whenWorking (fun s =>
    let g := s.stage n
    match g.stopAt with
    | some t =>
      if isStaged s n && (s.stream n).stopping then
        streamProgress ((s.reach (t + 1000000000)).setStage n { g with ended := true }) n
      else s
    | none => s))

end Sys2Proof.Machine
end

