-- ==== Sys2Proof/Machine/Sealer.lean ====
section
/-!
DEFINITION. Run keys, seals and anchors, and the state snapshot (16 R492 to R500, 20 R578).
-/

namespace Sys2Proof.Machine

/-- The bytes of a label. -/
def ascii (t : String) : List Byte := t.toList.map (fun c => BitVec.ofNat 8 c.toNat)

/-! ### The state snapshot (13 R426, 20 R578) -/

/-- The address of an entry in a copy of the snapshot. -/
def snapAddr (copy e : Nat) : Nat := mramBase + 0x100000 + 0x80000 * copy + 64 * e

/-- An entry of a copy, if its CRC checks. -/
def snapCopy (s : State) (e copy : Nat) : Option (List Byte) :=
  let b := s.read (snapAddr copy e) 64
  if natAt 60 4 b = crc32c (b.take 60) then some b else none

/-- The copy of an entry in force: the higher generation of those that check. -/
def snapInForce (s : State) (e : Nat) : Option (Nat × List Byte) :=
  match snapCopy s e 0, snapCopy s e 1 with
  | some a, some b => if natAt 0 8 a < natAt 0 8 b then some (1, b) else some (0, a)
  | some a, none => some (0, a)
  | none, some b => some (1, b)
  | none, none => none

/-- An entry written: bytes 8 to 59, to the copy not in force, with generation + 1. -/
def snapWrite (e : Nat) (body : List Byte) (s : State) : State :=
  let (copy, gen) := match snapInForce s e with
    | some (c, b) => (1 - c, natAt 0 8 b + 1)
    | none => (0, 1)
  let b := bytesLE 8 gen ++ padTo 52 body
  s.write (snapAddr copy e) (b ++ bytesLE 4 (crc32c b))

/-- A stream's entry, written when its seal or drain pointer moves, at an abandon and at a forwarded record (DEDUCED: log
entry 126). -/
def snapStream (n : Nat) (s : State) : State :=
  let x := s.stream n
  snapWrite n (bytesLE 2 x.sealedRun ++ bytesLE 1 ((if x.inRun then 1 else 0) + (if x.finalSealed then 2 else 0)) ++ [0] ++
    bytesLE 4 (sealAt s n / 64) ++ bytesLE 4 (drainAt s n / 64) ++ bytesLE 4 x.sealedIdx ++ bytesLE 2 x.sealedEpoch ++
    bytesLE 6 x.sealedSeq ++ padTo 16 x.prevTag) s

/-- The device's entry. -/
def snapDevice (active : Bool) (s : State) : State :=
  snapWrite 16 (bytesLE 2 (runId s) ++ [if active then 1 else 0]) s

/-! ### Keys (16 R492, R494) -/

/-- The key of a stream in an epoch. -/
def streamKey (k : RunKeys) (n epoch : Nat) : List Byte :=
  bytesOf 32 (Config.hkdfByte k.prk (ascii "GAO6400 stream" ++ bytesBE 1 n ++ bytesBE 2 epoch))

/-- The IV of a chunk. -/
def chunkIv (n epoch idx : Nat) : List Byte := bytesBE 2 epoch ++ bytesBE 1 n ++ [0] ++ bytesBE 4 idx ++ [0, 0, 0, 0]

/-- The run's keys are derived (16 R492): a fresh pair, Z, PRK. -/
def deriveKeys (s : State) : State :=
  match s.boot.spore with
  | none => s
  | some p =>
    let d := bytesOf 48 (Config.randomByte s.root.randoms)
    let z := (Config.p384Ecdh d p.recordKey).toList
    let salt := bytesBE 8 s.root.serial ++ bytesBE 2 (runId s)
    let k : RunKeys := ⟨(Config.hmac salt z).toList, (Config.p384Public d).toList⟩
    { s with root := { s.root with keys := some k, randoms := s.root.randoms + 1 } }

/-- Whether a stream's run goes on or chunks of it wait for their SEAL. -/
def streamBusy (s : State) (n : Nat) : Bool := (s.stream n).inRun || !(s.stream n).closed.isEmpty

/-- Keys and PRK erased. -/
def eraseKeys (s : State) : State := { s with root := { s.root with keys := none } }

/-- The keys die once the run has stopped and its last SEAL is written (16 R492). -/
def eraseDone (s : State) : State :=
  if (List.range 16).any (streamBusy s) then s else eraseKeys s

/-! ### SEAL and ANCHOR (16 R495 to R498) -/

/-- A header or record of a stream's spool region. -/
def spoolRead (s : State) (n off len : Nat) : List Byte := s.islandRead (spoolBase s n + off) len

/-- The record bytes of a chunk. -/
def chunkBytes (c : Chunk) : Nat := (c.ents.map (·.len)).sum

/-- The header of a chunk's SEAL (16 R496). -/
def sealHeader (s : State) (n : Nat) (c : Chunk) : List Byte :=
  let x := s.stream n
  let tail := [if c.anchor then 1 else 0] ++ bytesLE 1 n ++ bytesLE 2 c.epoch ++ bytesLE 4 (chunkBytes c) ++
    [if x.isSealed then 1 else 0] ++ bytesLE 1 ((if c.final then 1 else 0) + (if c.idx = 0 then 2 else 0))
  headerOf { typ := 0xF0, src := 0x20, time := c.closedAt, tail := tail,
             payload := List.replicate (c.sealEnt.len - 64) 0 }
    s.devid c.sealEnt.run c.sealEnt.seq c.flags c.idx c.ents.length

/-- The plaintext of a chunk: every payload. -/
def chunkPlain (s : State) (n : Nat) (c : Chunk) : List Byte :=
  c.ents.flatMap (fun e => spoolRead s n (e.off + 64) (e.len - 64))

/-- A byte string under a key stream. -/
def encrypted (key iv plain : List Byte) : List Byte :=
  (plain.zip (List.range plain.length)).map (fun p => p.1 ^^^ Config.gcmStream key iv p.2)

/-- The TAG of a chunk, over what its stream authenticates (16 R495). -/
def chunkTag (s : State) (n : Nat) (c : Chunk) (key prev h : List Byte) : List Byte :=
  let iv := chunkIv n c.epoch c.idx
  if (s.stream n).isSealed then
    let aad := prev ++ c.ents.flatMap (fun e => spoolRead s n e.off 64) ++ h
    (Config.gcmTag key iv aad (encrypted key iv (chunkPlain s n c))).toList
  else
    let aad := prev ++ c.ents.flatMap (fun e => spoolRead s n e.off e.len) ++ h
    (Config.gcmTag key iv aad []).toList

/-- Ciphertext written in place of the payloads. The sealer's block has no bus-error event; bytes that meet a bus
error are lost (01 R35; log entry 86). -/
def writeCipher (n : Nat) : List Ent → List Byte → State → State
  | [], _, s => s
  | e :: r, bs, s =>
    writeCipher n r (bs.drop (e.len - 64)) (s.islandWrite (spoolBase s n + e.off + 64) (bs.take (e.len - 64)))

/-- The seed of the attestation key, and of its ML-DSA-65 companion (16 R483). -/
def aliasSeed (s : State) : List Byte := bytesOf 48 (Config.hkdfByte s.root.cdi1 (ascii "GAO6400 alias"))

/-- The seed of the ML-DSA-65 attestation key. -/
def aliasMldsaSeed (s : State) : List Byte := bytesOf 32 (Config.hkdfByte s.root.cdi1 (ascii "GAO6400 alias mldsa"))

/-- The attestation public key, uncompressed. -/
def aliasKey (s : State) : List Byte := (Config.p384Public (aliasSeed s)).toList

/-- The payload of an ANCHOR (16 R497, R498). -/
def anchorPayload (s : State) (tag prev h qE : List Byte) : List Byte :=
  let p := s.boot.spore
  let pq := mldsaOn s
  let a := tag ++ prev ++ bytesBE 8 s.root.serial ++ bytesLE 4 ((p.map (·.build)).getD 0) ++
    bytesLE 1 ((p.map (·.arb)).getD 0) ++ bytesLE 1 s.root.arbFused ++ bytesLE 1 s.root.slotInForce ++
    bytesLE 1 ((if pq then 1 else 0) + (if s.root.debug then 2 else 0)) ++ List.replicate 16 0 ++ padTo 97 qE ++
    List.replicate 15 0 ++ (Config.sha384 ((p.map (·.header)).getD [])).toList ++
    (Config.sha384 ((p.map (·.recordKey)).getD [])).toList ++ (Config.sha384 (aliasKey s)).toList
  let msg := h ++ a
  a ++ (Config.ecdsaSign (aliasSeed s) (Config.sha384 msg).toList).toList ++ List.replicate 32 0 ++
    (if pq then padTo 3328 (bytesOf 3309 (Config.mldsaByte (aliasMldsaSeed s) msg)) else [])

/-- The peat log record of a SEAL (20 R584): `fault`: its run ended by fault. -/
def peatSealed (n : Nat) (fault : Bool) (s : State) : State :=
  let x := s.stream n
  s.peatPush 6 0xFFFF (bytesLE 1 n ++ bytesLE 1 ((if x.finalSealed then 1 else 0) + (if fault then 2 else 0)) ++
    bytesLE 2 x.sealedRun ++ bytesLE 2 x.sealedEpoch ++ [0, 0] ++ bytesLE 4 x.sealedIdx ++ bytesLE 6 x.sealedSeq ++
    List.replicate 6 0 ++ padTo 16 x.prevTag)

/-- Steps 3 to 5 of R499: TAG, ciphertext, SEAL, seal pointer, snapshot. -/
def sealChunk (n : Nat) (s : State) : State :=
  let x := s.stream n
  match s.root.keys, x.closed with
  | some k, c :: rest =>
    let key := streamKey k n c.epoch
    let prev := padTo 16 x.prevTag
    let h := sealHeader s n c
    let tag := chunkTag s n c key prev h
    let cipher := encrypted key (chunkIv n c.epoch c.idx) (chunkPlain s n c)
    let payload := if c.anchor then anchorPayload s tag prev h k.qE else padTo 64 (tag ++ prev)
    let s := s.cond x.isSealed (writeCipher n c.ents cipher)
    let s := s.islandWrite (spoolBase s n + c.sealEnt.off) (h ++ padTo (c.sealEnt.len - 64) payload)
    let s := s.setStream n { x with closed := rest, ents := x.ents ++ c.ents ++ [c.sealEnt], prevTag := tag,
                                    sealedIdx := c.idx, sealedEpoch := c.epoch, sealedSeq := c.sealEnt.seq,
                                    sealedRun := c.sealEnt.run, anySealed := true, finalSealed := c.final }
    let s := setPtr s n (R.SPOOL_SEAL n) ((c.sealEnt.off + c.sealEnt.len) % spoolSize s n)
    let s := (List.range 4).foldl (fun s i => s.setReg (R.SEALS_TAG n i) (BitVec.ofNat 32 (natAt (4 * i) 4 tag))) s
    let s := s.cond c.anchor (fun s =>
      peatSealed n false ((s.wrapInc (R.SEALS_EPOCH n) F.SEALS_EPOCH_ANCHORS).raise (Ev.stream n 8)))
    eraseDone (snapStream n s)
  | _, _ => s

/-- Step 2 of R499: the sealer starts on the oldest chunk of a stream once the keys exist. -/
def sealStart (n : Nat) (s : State) : State :=
  let x := s.stream n
  match s.root.keys, x.closed with
  | some _, c :: rest => s.setStream n { x with closed := { c with started := true } :: rest }
  | _, _ => s

/-- Whether the sealer is at work on a stream's oldest chunk. -/
def sealing (s : State) (n : Nat) : Bool := ((s.stream n).closed.head?.map (·.started)).getD false

/-! ### The commands of the table -/

/-- RUN_KEYS_DERIVED (16 R492). -/
def execRunKeysDerived (s : State) : Result :=
  .next (s.whenWorking (fun s =>
    if s.root.keys.isNone && (List.range 16).any (streamBusy s) then deriveKeys s else s))

end Sys2Proof.Machine
end

