-- ==== Sys2Proof/Machine/Ring.lean ====
section
/-!
DEFINITION. The ring of the runner links: flits, retry buffers, routes, the receiving end of record forwarding
(17 R505 to R510, R516, R517).
-/

namespace Sys2Proof.Machine

/-! ### Links (17 R509, R510) -/

/-- A runner link: 0 is RUN_A. -/
def State.link (s : State) (n : Nat) : LinkSt := Sparse.get (fun _ => {}) s.runner.links n

/-- A runner link replaced. -/
def State.setLink (s : State) (n : Nat) (x : LinkSt) : State :=
  { s with runner := { s.runner with links := Sparse.put (fun _ => some {}) s.runner.links n x } }

/-- TYPE of a flit (17 R508). -/
def flitType : FlitBody → Nat
  | .idle => 0
  | .ring _ _ _ => 1
  | .time _ => 2
  | .trig _ _ => 3
  | .pos _ _ => 4
  | .rmtReq _ _ _ _ => 5
  | .rmtRsp _ _ => 6
  | .fwd _ _ => 7

/-- 1 or 0. -/
def bitNat (b : Bool) : Nat := if b then 1 else 0

/-- The payload of a flit, up to 24 bytes: that of a position sample and of forwarded record bytes as 17 R513 and R518
give it; elsewhere its layout is free (log entry 132). -/
def flitPayload (b : FlitBody) : List Byte :=
  let open_ (l : List Nat) : List Byte := (Config.flitPayload (flitType b) l).take 24
  match b with
  | .idle => []
  | .pos itf (.sample p t d k n v u) =>
    let flags := bitNat d + 2 * bitNat k + 4 * bitNat n + 8 * bitNat v + 16 * bitNat u
    bytesLE 8 p.toNat ++ bytesLE 8 t.toNat ++ bytesLE 1 flags ++ bytesLE 1 itf ++ List.replicate 6 0
  | .pos itf (.turningPoint e) => open_ [itf, e.toNat]
  | .pos itf (.speed v a c d e) => open_ [itf, v.toNat, bitNat a, bitNat c, bitNat d, bitNat e]
  | .fwd _ (.data bs) => bs.take 24
  | .fwd n (.ack x y) => open_ [n, x, y]
  | .ring s x y => open_ [s.toNat, bitNat x, bitNat y]
  | .time t => open_ [t.toNat]
  | .trig c t => open_ [c, t.toNat]
  | .rmtReq w z o bs => open_ ([bitNat w, z, o] ++ bs.map (·.toNat))
  | .rmtRsp r bs => open_ ([r.val] ++ bs.map (·.toNat))

/-- The 32 bytes of a flit (17 R508): header, payload, CRC-32 over both. -/
def flitBytes (f : Flit) : List Byte :=
  let p := flitPayload f.body
  let w := flitType f.body + 2 ^ 4 * f.seq + 2 ^ 10 * f.ack + 2 ^ 16 * bitNat f.nak + 2 ^ 17 * f.dest + 2 ^ 20 * f.src +
    2 ^ 23 * p.length + 2 ^ 28 * f.hops
  let b := bytesLE 4 w ++ padTo 24 p
  b ++ bytesLE 4 (crc32 b)

/-- A flit put on a link; any flit carries the ACK of what the link has received (17 R509, R510). -/
def flitOut (n : Nat) (f : HeldFlit) (s : State) : State :=
  let x : Flit := ⟨f.seq, (s.link n).got, false, f.dest, f.src, f.hops, f.body⟩
  s.emit (.flit n x (flitBytes x))

/-- An IDLE flit with the ACK of what a link has received, or with its NAK; it carries no SEQ (17 R509). -/
def idleOut (n : Nat) (nak : Bool) (s : State) : State :=
  let x : Flit := ⟨0, (s.link n).got, nak, s.devid, s.devid, 0, .idle⟩
  s.emit (.flit n x (flitBytes x))

/-- The place of a flit in the order of 17 R510, replays apart. -/
def flitRank : FlitBody → Nat
  | .idle => 7
  | .time _ => 0
  | .ring _ _ _ => 1
  | .trig _ _ => 2
  | .pos _ _ => 3
  | .rmtReq _ _ _ _ => 4
  | .rmtRsp _ _ => 5
  | .fwd _ _ => 6

/-- A flit put among those that wait, after those of its own priority and above. -/
def flitInsert (f : HeldFlit) : List HeldFlit → List HeldFlit
  | [] => [f]
  | g :: l => if flitRank f.body < flitRank g.body then f :: g :: l else g :: flitInsert f l

/-- Waiting flits sent while fewer than 63 are held. -/
def linkDrain (n : Nat) : Nat → State → State
  | 0, s => s
  | k + 1, s =>
    let x := s.link n
    match x.waiting with
    | [] => s
    | f :: l =>
      if x.held.length < 63 then
        let f := { f with seq := x.nextSeq }
        let s := s.setLink n { x with waiting := l, held := x.held ++ [f], nextSeq := (x.nextSeq + 1) % 64 }
        linkDrain n k (flitOut n f s)
      else s

/-- A flit handed to a link. -/
def linkSend (n dest src hops : Nat) (b : FlitBody) (s : State) : State :=
  let x := s.link n
  if x.up then linkDrain n 64 (s.setLink n { x with waiting := flitInsert ⟨0, dest, src, hops, b⟩ x.waiting }) else s

/-! ### Routes (17 R507) -/

/-- Whether the services above the link level are offered (17 R506). -/
def ringServes (s : State) : Bool := s.working && !s.runner.dup

/-- The number of devices present. -/
def presentCount (s : State) : Nat :=
  ((List.range 8).filter (fun i => s.fld R.RUN_RING F.RUN_RING_PRESENT / 2 ^ i % 2 == 1)).length

/-- The way to a device: the shorter one, RUN_A on a tie, with its hops; nothing where no way reaches. -/
def routeTo (s : State) (dev : Nat) : Option (Nat × Nat) :=
  match s.runner.heard.find? (fun h => h.id == dev) with
  | none => none
  | some h =>
    match h.a, h.b with
    | some a, some b => if a ≤ b then some (0, a) else some (1, b)
    | some a, none => some (0, a)
    | none, some b => some (1, b)
    | none, none => none

/-- A unicast flit of this device; nothing is sent where no way reaches. -/
def unicast (dev : Nat) (b : FlitBody) (s : State) : State :=
  match routeTo s dev with
  | some (n, hops) => linkSend n dev s.devid hops b s
  | none => s

/-- A broadcast of this device: out both links, around the ring or to its open ends. -/
def broadcast (b : FlitBody) (s : State) : State :=
  let k := presentCount s - 1
  let closed := s.bit R.RUN_RING F.RUN_RING_CLOSED
  let ha := if closed then (k + 1) / 2 else k
  let hb := if closed then k / 2 else k
  let s := if ha = 0 then s else linkSend 0 s.devid s.devid ha b s
  if hb = 0 then s else linkSend 1 s.devid s.devid hb b s

/-- A link trains when it is down and enabled (17 R506, RUN_CFG). -/
def linkTrain (s : State) (n : Nat) : State :=
  if (s.link n).up then s
  else s.setFld (R.RLINK_STATUS n) ⟨0, 2⟩ (if s.bit R.RUN_CFG F.RUN_CFG_ENABLE then 1 else 0)

/-- Both links after a start. -/
def linksTrain (s : State) : State := if s.serving then (List.range 2).foldl linkTrain s else s

/-! ### The receiver of a forwarded stream (17 R516, R517) -/

/-- Whether a stream receives its records from another device. -/
def fwdIn (s : State) (n : Nat) : Bool := s.bit (R.RUN_FWD n) F.RUN_FWD_IN_EN

/-- The answer to a stream's origin: bytes that stand in the spool, and the space granted. -/
def fwdAnswer (n bytes : Nat) (s : State) : State :=
  let r := s.reg (R.RUN_FWD n)
  let space := spoolSize s n - spoolUsed s n - 64
  unicast (r.get F.RUN_FWD_DEVICE) (.fwd (Fin.ofNat 16 (r.get F.RUN_FWD_STREAM)) (.ack bytes space)) s

/-- The entry of a record that lies in the buffer of received bytes. -/
def fwdEnt (b : List Byte) (len at_ : Nat) : Ent :=
  let typ := natAt 0 2 b
  let final := typ == 0xF0 && byteAt 57 b % 2 == 1
  ⟨at_, len, natAt 10 6 b, natAt 8 2 b, typ, byteAt 2 b, false, final, final⟩

/-- What a forwarded record must leave free in the receiving region (13 R415, 15 R478): 64 bytes for a SEAL, an ANCHOR or
RUN_STOP, else the closing room too, and for any but a control record the reserve. -/
def fwdKeep (b : List Byte) : Nat :=
  let typ := natAt 0 2 b
  let code := if typ = 0x21 ∧ byteAt 2 b = 0x20 then natAt 48 2 b else 0
  if typ = 0xF0 ∨ code = 2 then 64 else keepFree (isControl typ || code == 1)

/-- A complete record at the front of what has been received takes its place in the spool, once; without a complete
record, or without room, nothing happens (17 R517, R518). -/
def fwdOne (n : Nat) (s : State) : Option State :=
  let x := s.stream n
  let b := x.fwdBuf
  let len := 64 + natAt 4 4 b
  if b.length < 64 ∨ b.length < len then none
  else
    let x := { x with fwdBuf := b.drop len }
    if (Sparse.find x.fwdGot (natAt 8 2 b)).any (fun q => decide (natAt 10 6 b ≤ q)) then
      some (fwdAnswer n len (s.setStream n x))
    else
      let place := placeAt (spoolSize s n) (intakeAt s n) (spoolUsed s n) len
      if spoolSize s n < place.2 + fwdKeep b then none
      else
        let s := s.islandWrite (spoolBase s n + place.1) (b.take len)
        let got := Sparse.put (fun _ => none) x.fwdGot (natAt 8 2 b) (natAt 10 6 b)
        let e := fwdEnt b len place.1
        let s := s.setStream n { x with fwdGot := got, ents := x.ents ++ [e], sealedRun := e.run, sealedSeq := e.seq,
                                        anySealed := true, finalSealed := e.final }
        let next := (place.1 + len) % spoolSize s n
        some (fwdAnswer n len (snapStream n (setPtr (setPtr s n (R.SPOOL_INTAKE n) next) n (R.SPOOL_SEAL n) next)))

/-- As many records as are complete and find room. -/
def fwdPlace (n : Nat) : Nat → State → State
  | 0, s => s
  | k + 1, s =>
    match fwdOne n s with
    | some t => fwdPlace n k t
    | none => s

/-- The drain of a forwarded stream has advanced: waiting records enter, and the new space is granted. -/
def fwdResume (n : Nat) (s : State) : State := if fwdIn s n then fwdAnswer n 0 (fwdPlace n 64 s) else s

end Sys2Proof.Machine
end

