-- ==== Sys2Proof/Machine/Deliver.lean ====
section
/-!
DEFINITION. Delivery to the host: the host window's gate, host memory, grant rings, buffers, completion rings
(15 R458 to R473).
-/

namespace Sys2Proof.Machine

/-! ### Host memory and the host's reach (15 R455, R458, R459) -/

/-- Whether link IDE has left its secure state: no request passes the link then (15 R459; log entry 130). -/
def linkInsecure (s : State) : Bool := s.pcie.ideFailed.contains 0

/-- Whether the function answers memory requests of the host: ready, Memory Space Enable, D0 (15 R457, R458). -/
def hostReaches (s : State) : Bool := s.pcie.ready && s.pcie.memEnable && !s.pcie.d3 && !linkInsecure s

/-- Whether the device may issue requests: link up, Bus Master Enable, D0 (15 R458, R459). -/
def hostOpen (s : State) : Bool :=
  s.pcie.ready && s.pcie.linkUp && s.pcie.busMaster && !s.pcie.d3 && !linkInsecure s

/-- A write of the host to a page that only MAINT and RUN serve (15 R460). -/
def State.whenWindow (s : State) (f : State → State) : State := if s.working && hostReaches s then f s else s

/-- Posted writes to host memory, split under the max payload size (14 R441, 15 R455). -/
def hostPut (s : State) (a : Nat) (bs : List Byte) : State :=
  let m := max 1 s.pcie.maxPayload
  let s := s.write (hostKey a) bs
  (List.range ((bs.length + m - 1) / m)).foldl (fun s i => s.emit (.hostWrite (a + m * i) (slice (m * i) m bs))) s

/-- The operations in flight: the burst that has not left the device, and the non-posted reads (14 R444). -/
def inflight (s : State) : Nat := s.hostReads.length + (if s.dma.busy.isSome then 1 else 0)

/-- DMA_INFLIGHT: the operations in flight, and the highest count (14 R444). -/
def showInflight (s : State) : State :=
  let k := inflight s
  let s := s.setFld R.DMA_INFLIGHT F.DMA_INFLIGHT_COUNT k
  s.setFld R.DMA_INFLIGHT F.DMA_INFLIGHT_PEAK (max k (s.fld R.DMA_INFLIGHT F.DMA_INFLIGHT_PEAK))

/-- The first tag that no read in flight uses, and none whose completion may still come (14 R449). -/
def freeTag (s : State) : Nat :=
  let free : Nat → Bool := fun t => !s.hostReads.any (fun r => r.tag == t)
  (((List.range 16384).find? (fun t => free t && !s.dma.late.contains t)).or ((List.range 16384).find? free)).getD 0

/-- Reads in flight given up: their completions are unexpected when they come (14 R449). -/
def abandonReads (p : HostRead → Bool) (s : State) : State :=
  showInflight { s with
    hostReads := s.hostReads.filter (fun r => !p r)
    dma := { s.dma with late := s.dma.late ++ (s.hostReads.filter p).map (·.tag) } }

/-- Whether a read in flight is a grant-ring read of a stream. -/
def readOfStream (n : Nat) (r : HostRead) : Bool := r.stream.any (fun (m : Fin 16) => m.val == n)

/-- A non-posted read issued. -/
def hostAsk (s : State) (r : HostRead) : State :=
  let t := freeTag s
  showInflight { s.emit (.hostRead r.addr r.len) with
    hostReads := s.hostReads ++ [{ r with tag := t }]
    dma := { s.dma with late := s.dma.late.erase t } }

/-! ### Rings (15 R466, R467, R471, R472) -/

/-- Entries of a ring: 2^k, k from 4 to 16 (15, RING_SIZE). -/
def ringLen (s : State) (n : Nat) (f : Fld) : Nat := 2 ^ max 4 (min 16 (s.fld (R.RING_SIZE n) f))

/-- Entries of the grant ring. -/
def grLen (s : State) (n : Nat) : Nat := ringLen s n F.RING_SIZE_GR_LOG2

/-- Entries of the completion ring. -/
def crLen (s : State) (n : Nat) : Nat := ringLen s n F.RING_SIZE_CR_LOG2

/-- A ring index register. -/
def ringIdx (s : State) (r : Nat) : Nat := s.fld r ⟨0, 16⟩

/-- A ring index register set. -/
def setRingIdx (s : State) (r v : Nat) : State := s.setFld r ⟨0, 16⟩ v

/-- ACTIVE: ENABLE is 1 and RING_ERR is 0. -/
def showActive (n : Nat) (s : State) : State :=
  s.setBit (R.RING_CTRL n) F.RING_CTRL_ACTIVE
    (s.bit (R.RING_CTRL n) F.RING_CTRL_ENABLE && !s.bit (R.RING_CTRL n) F.RING_CTRL_RING_ERR)

/-- Whether a ring may deliver: it is active and has not stopped on a ring error. -/
def ringRuns (s : State) (n : Nat) : Bool := s.bit (R.RING_CTRL n) F.RING_CTRL_ACTIVE && !(s.stream n).stopped

/-- A ring error: RING_ERR, its event, delivery stops (15 R472). -/
def ringError (n : Nat) (s : State) : State :=
  let s := (s.flag (R.RING_CTRL n) F.RING_CTRL_RING_ERR).raise (Ev.stream n 5)
  showActive n (s.setStream n { s.stream n with stopped := true })

/-- GR_TAIL written: it holds the value, and one of at least the ring size is a ring error (00 R11, 15 R467, R472). -/
def grTailWrite (n v : Nat) (s : State) : State :=
  setRingIdx (s.cond (decide (grLen s n ≤ v)) (ringError n)) (R.GR_TAIL n) v

/-- CR_HEAD written: it holds the value, and one that does not move it forward to CR_TAIL at most is a ring error (00
R11, 15 R472). -/
def crHeadWrite (n v : Nat) (s : State) : State :=
  let m := crLen s n
  let h := ringIdx s (R.CR_HEAD n)
  let t := ringIdx s (R.CR_TAIL n)
  setRingIdx (s.cond (decide (m ≤ v ∨ ringSpan m h t < ringSpan m h v)) (ringError n)) (R.CR_HEAD n) v

/-- Grant-ring reads up to GR_TAIL as last seen, up to 16 ahead of use. -/
def readGrants (n : Nat) : Nat → State → State
  | 0, s => s
  | k + 1, s =>
    let x := s.stream n
    let i := (ringIdx s (R.GR_HEAD n) + x.reading) % grLen s n
    if x.grants.length + x.reading < 16 ∧ i ≠ x.tailSeen ∧ inflight s < 4096 then
      let a := s.reg64 (R.GR_BASE_LO n) + 16 * i
      let s := hostAsk s { tag := 0, channel := none, stream := some (Fin.ofNat 16 n), addr := a, len := 16, dst := i,
                           issued := s.now }
      readGrants n k (s.setStream n { s.stream n with reading := x.reading + 1 })
    else s

/-- A tail check, 1 us after the last one (15 R467). -/
def tailCheck (n : Nat) (s : State) : State :=
  if ringRuns s n && hostOpen s then
    let s := s.reach ((s.stream n).tailAt + 1000)
    let s := s.setStream n { s.stream n with tailAt := s.now }
    readGrants n 16 (s.setStream n { s.stream n with tailSeen := ringIdx s (R.GR_TAIL n) })
  else s

/-! ### Buffers (15 R468 to R470) -/

/-- STARVED brought up to date: sealed records wait with no grant (15, When the host stops taking data). -/
def showStarved (n : Nat) (s : State) : State :=
  let x := s.stream n
  let held := (x.ents.map (·.len)).sum
  let starved := decide (x.cut + x.sent < held) && x.grants.isEmpty && x.filling.isNone &&
    !s.bit (R.RUN_FWD n) F.RUN_FWD_OUT_EN
  if starved then s.flagEvent (R.RING_CTRL n) F.RING_CTRL_STARVED (Ev.stream n 2)
  else s.setBit (R.RING_CTRL n) F.RING_CTRL_STARVED false

/-- The record at a byte of the delivery order, with the byte within it. -/
def entAt : List Ent → Nat → Option (Ent × Nat × Bool)
  | [], _ => none
  | e :: r, k => if k < e.len then some (e, k, r.isEmpty) else entAt r (k - e.len)

/-- Whether fewer than two slots of the completion ring are free (15 R470). -/
def ringFull (s : State) (n : Nat) : Bool :=
  let m := crLen s n
  decide (m - ringSpan m (ringIdx s (R.CR_HEAD n)) (ringIdx s (R.CR_TAIL n)) < 2)

/-- The buffer being filled is completed. -/
def completeBuffer (n : Nat) (short : Bool) (s : State) : State :=
  let x := s.stream n
  match x.filling with
  | none => s
  | some b =>
    let fl := (if b.headCont then 4 else 0) + (if b.tailCont then 8 else 0) + (if short then 16 else 0) +
      (if b.runEnd then 32 else 0) + (if b.recovered then 64 else 0)
    let c : Completion := ⟨b.grant.id, b.bytes, b.firstSeq, b.lastSeq, b.run, fl, b.bytes, b.final⟩
    s.setStream n { x with filling := none, completions := x.completions ++ [c] }

/-- One piece of a record moved into the buffer, and what ends the buffer then (15 R468, R469): it is full, the run's last
record is in it, or a SEAL is in it and nothing more is sealed. -/
def movePiece (n : Nat) (budget : Nat) (s : State) : Option (State × Nat) :=
  let x := s.stream n
  match entAt x.ents (x.cut + x.sent), x.filling, x.grants with
  | none, _, _ => none
  | some _, none, [] => none
  | some (e, k, lastEnt), fill, gs =>
    let (b, gs) : Filling × List Grant := match fill, gs with
      | some b, gs => (b, gs)
      | none, g :: r => ({ grant := g, firstSeq := e.seq, run := e.run, headCont := decide (0 < k), recovered := e.old }, r)
      | none, [] => ({ grant := ⟨0, 0, 0⟩ }, [])
    let b := if b.bytes = 0 then { b with firstSeq := e.seq, run := e.run, headCont := decide (0 < k), recovered := e.old }
      else b
    if e.run ≠ b.run then 
      some (completeBuffer n false (s.setStream n { x with filling := some { b with runEnd := true }, grants := gs }), 0)
    else
      let m := min (min budget (e.len - k)) (b.grant.len - b.bytes)
      let s := hostPut s (b.grant.addr + b.bytes) (s.islandRead (spoolBase s n + e.off + k) m)
      let ended := decide (k + m = e.len)
      let b := { b with bytes := b.bytes + m, lastSeq := e.seq, tailCont := !ended, runEnd := ended && e.fin,
                        final := ended && e.final }
      let s := s.setStream n { x with filling := some b, grants := gs, sent := x.sent + m }
      let full := decide (b.bytes = b.grant.len)
      let dry := ended && e.typ == 0xF0 && lastEnt
      let s := if full then completeBuffer n false s
        else if b.runEnd || dry then completeBuffer n dry s
        else s
      some (s, m)

/-- A delivery burst of up to 4 KiB: pieces until the budget or the buffer is used up (15 R473). -/
def deliverBurst (n : Nat) : Nat → Nat → State → State
  | 0, _, s => s
  | k + 1, budget, s =>
    match movePiece n budget s with
    | none => s
    | some (s, m) =>
      if budget ≤ m ∨ (s.stream n).filling.isNone then s else deliverBurst n k (budget - m) s

/-- Whether a stream mover has a burst ready (14 R442, 15 R458, R459, R470, R472). -/
def moverReady (s : State) (n : Nat) : Bool :=
  let x := s.stream n
  s.working && ringRuns s n && hostOpen s && !ringFull s n && (entAt x.ents (x.cut + x.sent)).isSome &&
    (x.filling.isSome || !x.grants.isEmpty) && !s.bit (R.RUN_FWD n) F.RUN_FWD_OUT_EN

/-! ### Completion entries (15 R466, R470) -/

/-- The records left once a number of bytes has gone, and how much of the first one has. -/
def dropEnts : List Ent → Nat → List Ent × Nat
  | [], _ => ([], 0)
  | e :: r, c => if e.len ≤ c then dropEnts r (c - e.len) else (e :: r, c)

/-- The end of the last record that a number of bytes covers whole; where it covers none, where the pointer stands. -/
def endOfEnts (size : Nat) : List Ent → Nat → Nat → Nat
  | [], _, d => d
  | e :: r, c, d => if e.len ≤ c then endOfEnts size r (c - e.len) ((e.off + e.len) % size) else d

/-- The bytes of delivered records leave the spool: the drain pointer advances over them, and a forwarded stream has
room again. -/
def drainBytes (n k : Nat) (s : State) : State :=
  let x := s.stream n
  let rest := dropEnts x.ents (x.cut + k)
  let at_ := match rest.1 with
    | e :: _ => if rest.2 = 0 then endOfEnts (spoolSize s n) x.ents (x.cut + k) (drainAt s n) else e.off + rest.2
    | [] => endOfEnts (spoolSize s n) x.ents (x.cut + k) (drainAt s n)
  fwdResume n (setPtr (s.setStream n { x with ents := rest.1, cut := rest.2, sent := x.sent - k }) n (R.SPOOL_DRAIN n) at_)

/-- RECOVERING falls once no stream holds recovered records (20 R580). -/
def showRecovering (s : State) : State :=
  if (List.range 16).any (fun n => (s.stream n).ents.any (·.old)) then s
  else s.setBit R.RUN_STATUS F.RUN_STATUS_RECOVERING false

/-- The oldest waiting completion entry is issued when two slots are free: entry, COMPLETION event, drain pointer,
snapshot (15 R470, 20 R578). -/
def issueEntry (n : Nat) (s : State) : State :=
  let x := s.stream n
  match x.completions with
  | [] => s
  | c :: rest =>
    if ringFull s n || !hostOpen s || !s.working then s
    else
      let t := ringIdx s (R.CR_TAIL n)
      let e := bytesLE 4 c.id ++ bytesLE 4 c.bytes ++ bytesLE 6 c.firstSeq ++ bytesLE 2 c.run ++ bytesLE 6 c.lastSeq ++
        bytesLE 2 (c.flags + (if x.phase then 1 else 0)) ++ bytesLE 8 s.now
      let s := hostPut s (s.reg64 (R.CR_BASE_LO n) + 32 * t) e
      let t' := (t + 1) % crLen s n
      let s := setRingIdx s (R.CR_TAIL n) t'
      let s := s.setStream n { x with completions := rest, phase := if t' = 0 then !x.phase else x.phase }
      let s := s.raise (Ev.stream n 0)
      let s := s.cond (decide (0 < c.drain)) (drainBytes n c.drain)
      let s := s.cond c.final (fun s => s.raise (Ev.stream n 7))
      streamProgress (showRecovering (snapStream n s)) n

/-- A grant taken from the ring in its turn (15 R467): accepted, or refused with an entry of its own. -/
def acceptGrant (n : Nat) (g : Grant) (s : State) : State :=
  let s := setRingIdx s (R.GR_HEAD n) ((ringIdx s (R.GR_HEAD n) + 1) % grLen s n)
  let x := { s.stream n with reading := (s.stream n).reading - 1 }
  let badA := decide (g.addr % 4096 ≠ 0)
  let badL := decide (g.len % 4096 ≠ 0 ∨ g.len < 65536 ∨ 16777216 < g.len)
  if badA || badL then
    let c : Completion := ⟨g.id, 0, 0, 0, 0, 2 + (if badA then 256 else 0) + (if badL then 512 else 0), 0, false⟩
    let s := s.setStream n { x with completions := x.completions ++ [c] }
    (s.satInc (R.RING_STAT n) F.RING_STAT_REFUSED).raise (Ev.stream n 1)
  else showStarved n (s.setStream n { x with grants := x.grants ++ [g] })

/-- Grants whose reads returned ahead of their turn, taken as it comes (15 R468: in ring order). -/
def acceptEarly (n : Nat) : Nat → State → State
  | 0, s => s
  | k + 1, s =>
    let x := s.stream n
    let i := ringIdx s (R.GR_HEAD n)
    match Sparse.find x.early i with
    | some g => acceptEarly n k (acceptGrant n g (s.setStream n { x with early := x.early.filter (fun p => p.1 != i) }))
    | none => s

/-- A grant-ring read returns (15 R467, R468): the oldest one in flight, or the one of a tag. Its grant is taken in its
turn; a failed read is a ring error. -/
def grantRead (n : Nat) (tag : Option Nat) (g : Grant) (ok : Bool) (s : State) : State :=
  match s.hostReads.find? (fun r => readOfStream n r && tag.all (· == r.tag)) with
  | none => s
  | some r =>
    let s := showInflight { s with hostReads := s.hostReads.filter (fun q => q.tag != r.tag) }
    let x := s.stream n
    if !ok then ringError n (s.setStream n { x with reading := x.reading - 1 })
    else if r.dst = ringIdx s (R.GR_HEAD n) then acceptEarly n 16 (acceptGrant n g s)
    else s.setStream n { x with early := x.early ++ [(r.dst, g)] }

/-- The instant of a full-ring check: 1 us after the last one while an entry waits (15 R473). -/
def fullCheck (n : Nat) (s : State) : State :=
  if (s.stream n).completions = [] then s
  else
    let s := s.reach ((s.stream n).fullAt + 1000)
    s.setStream n { s.stream n with fullAt := s.now }

/-! ### Enabling and disabling (15 R471) -/

/-- ENABLE set to 1: indices cleared, phase 1, entries not yet written discarded; delivery resumes at the drain
pointer. -/
def ringEnable (n : Nat) (s : State) : State :=
  if s.bit (R.RING_CTRL n) F.RING_CTRL_ENABLE then s
  else
    let x := s.stream n
    let s := [R.GR_HEAD n, R.GR_TAIL n, R.CR_HEAD n, R.CR_TAIL n].foldl (fun s r => setRingIdx s r 0) s
    let s := s.setStream n { x with grants := [], filling := none, completions := [], sent := 0, phase := true,
                                    stopped := false, tailSeen := 0, reading := 0, early := [], tailAt := s.now, fullAt := s.now }
    let s := abandonReads (readOfStream n) s
    showStarved n (showActive n (s.setBit (R.RING_CTRL n) F.RING_CTRL_ENABLE true))

/-- ENABLE set to 0: the grant being filled is completed with SHORT, grants read and unused are returned with BYTES 0 and
SHORT. Reads of grants in flight are abandoned. -/
def ringDisable (n : Nat) (s : State) : State :=
  if !s.bit (R.RING_CTRL n) F.RING_CTRL_ENABLE then s
  else
    let x := s.stream n
    let (gs, s) := match x.filling with
      | some b => if b.bytes = 0 then (b.grant :: x.grants, s.setStream n { x with filling := none })
                  else (x.grants, completeBuffer n true s)
      | none => (x.grants, s)
    let back := gs.map (fun g => (⟨g.id, 0, 0, 0, 0, 16, 0, false⟩ : Completion))
    let x := s.stream n
    let s := s.setStream n { x with grants := [], completions := x.completions ++ back, reading := 0, early := [] }
    let s := abandonReads (readOfStream n) s
    showStarved n (showActive n (s.setBit (R.RING_CTRL n) F.RING_CTRL_ENABLE false))

/-- ENABLE written with 0: a burst of the stream that is granted completes first (15 R471, R473), if the device may still
issue requests (15 R459). -/
def ringStop (n : Nat) (s : State) : State :=
  ringDisable n (if s.dma.busy = some (64 + n) then
      let s := showInflight { s with dma := { s.dma with busy := none } }
      if hostOpen s then deliverBurst n 64 4096 s else s
    else s)

/-- A write of the host that is counted in BAD_WRITE (15 R461, R471). -/
def badWrite (s : State) : State := (s.satInc R.HOST_STATUS F.HOST_STATUS_BAD_WRITE).raise 452

/-- A ring base or size register written: taken only while ENABLE is 0 (15 R471). -/
def ringConfig (n r : Nat) (v : Word) (s : State) : State :=
  if s.bit (R.RING_CTRL n) F.RING_CTRL_ENABLE then badWrite s
  else if r = R.RING_SIZE n then s.setReg r (v &&& 0x1F1F)
  else if r = R.GR_BASE_LO n ∨ r = R.CR_BASE_LO n then s.setReg r (v &&& 0xFFFFFFC0)
  else s.setReg r v

/-! ### The commands of the table -/

/-- CHUNK_SEAL_COMPLETE (16 R499, R500): a chunk that an unlock or a recovery met and lost to is counted. -/
def execChunkSealComplete (n : Fin 16) (lost : Bool) (s : State) : Result :=
  .next (s.whenWorking (fun s => (s.cond (sealing s n) (fun s => showStarved n (sealChunk n s))).lost lost R.SEAL_RACE))

/-- GR_TAIL_WRITE (15 R467, R472). `lost` counts a tail check that it meets (15 R473). -/
def execGrTailWrite (n : Fin 16) (v : BitVec 16) (lost : Bool) (s : State) : Result :=
  .next (s.whenWindow (fun s => (grTailWrite n v.toNat s).lost lost R.HOST_RACE))

/-- GRANT_TAIL_CHECK (15 R467). -/
def execGrantTailCheck (n : Fin 16) (s : State) : Result := .next (s.whenWorking (tailCheck n))

/-- CR_HEAD_WRITE (15 R472). `lost` counts a full-ring check that it meets (15 R473). -/
def execCrHeadWrite (n : Fin 16) (v : BitVec 16) (lost : Bool) (s : State) : Result :=
  .next (s.whenWindow (fun s => (crHeadWrite n v.toNat s).lost lost R.HOST_RACE))

/-- RING_CONFIG_WRITE (15 R471): register 0 RING_SIZE, 1 and 2 GR_BASE, 3 and 4 CR_BASE. -/
def execRingConfigWrite (n : Fin 16) (k : Fin 5) (v : BitVec 32) (s : State) : Result :=
  .next (s.whenWindow (ringConfig n (R.RING_SIZE n + 4 * k) v))

/-- RING_ENABLE (15 R471). -/
def execRingEnable (n : Fin 16) (s : State) : Result := .next (s.whenWindow (ringEnable n))

/-- GRANT_READ_DONE (15 R467): the entry that the host's memory holds, or a failed read. -/
def execGrantReadDone (n : Fin 16) (addr : BitVec 64) (len id : BitVec 32) (ok : Bool) (s : State) : Result :=
  .next (s.whenWorking (grantRead n none ⟨addr.toNat, len.toNat, id.toNat⟩ ok))

/-- COMPLETION_ENTRY_ISSUE (15 R470). -/
def execCompletionEntryIssue (n : Fin 16) (s : State) : Result := .next (s.whenWorking (issueEntry n))

/-- COMPLETION_RING_CHECK (15 R470, R473): 1 us after the last check; one that finds two free slots lets the waiting entry
go. -/
def execCompletionRingCheck (n : Fin 16) (s : State) : Result :=
  .next (s.whenWorking (fun s => issueEntry n (fullCheck n s)))

end Sys2Proof.Machine
end

