-- ==== Sys2Proof/Machine/DmaCtl.lean ====
section
/-!
DEFINITION. The data movement engine without the movement: descriptors, channel states, triggers, arbitration
(14_dma.md).
-/

namespace Sys2Proof.Machine

/-- STATE written. -/
def setChanState (s : State) (n st : Nat) : State := s.setFld (R.CH_STATUS n) F.CH_STATUS_STATE st

/-! ### Descriptors (14 R433, R435) -/

/-- A field of a descriptor. -/
def Desc.at (d : Desc) (off n : Nat) : Nat := natAt off n d.bytes

/-- LENGTH. -/
def dLen (d : Desc) : Nat := d.at 0x18 4

/-- A bit of CONTROL. -/
def dBit (d : Desc) (i : Nat) : Bool := d.at 0x1C 4 / 2 ^ i % 2 == 1

/-- The burst size in bytes. -/
def dBurst (d : Desc) : Nat := 64 * 2 ^ min 6 (d.at 0x1C 4 / 256 % 8)

/-- Whether a descriptor is moved in one burst (14 R447). -/
def dOneBurst (d : Desc) : Bool := decide (dLen d ≤ dBurst d)

/-- SRC and INDEX of TRIGGER. -/
def dTrigger (d : Desc) : Nat × Nat := (d.at 0x28 4 % 8, d.at 0x28 4 / 256 % 64)

/-- MISALIGNED (14 R435). -/
def dMisaligned (d : Desc) : Bool :=
  decide (d.at 8 8 % 64 ≠ 0 ∨ d.at 0x10 8 % 64 ≠ 0 ∨ dLen d = 0 ∨ dLen d % 64 ≠ 0)

/-- MALFORMED (14 R435). -/
def dMalformed (d : Desc) : Bool :=
  let c := d.at 0x1C 4
  let t := d.at 0x28 4
  let h := d.at 0x2C 4
  decide (2 ^ 48 ≤ d.at 0 8) || (!dBit d 0 && decide (2 ^ 48 ≤ d.at 8 8)) || (!dBit d 1 && decide (2 ^ 48 ≤ d.at 0x10 8)) ||
    decide (c / 65536 ≠ 0 ∨ c / 4 % 64 ≠ 0) || !allZero (slice 0x25 3 d.bytes) ||
    decide (t / 16384 ≠ 0 ∨ t / 8 % 32 ≠ 0 ∨ 4 < t % 8) || decide (h / 65536 ≠ 0 ∨ h / 64 % 8 ≠ 0) ||
    !allZero (slice 0x38 8 d.bytes) || (dBit d 0 && dBit d 1)

/-- Whether memory at a span answers: claimed DRAM, the commons, an awake tuft bank or the exchange RAM, not under a
destructive march (01 R33, 11 R382, 13 R411, R422). -/
def plainOk (s : State) (a len : Nat) : Bool :=
  let last := a + len - 1
  match regionOf a with
  | .dram => s.dramOpen a len
  | .commons => regionOf last == .commons && !underMarch s (0x48 + (a - 0x4000000000) / 0x400000)
  | .tuft t => regionOf last == .tuft t && !tuftParked s t && !underMarch s (0x40 + t)
  | .exchange => regionOf last == .exchange && !underMarch s 0x70
  | _ => false

/-- Whether a frond's local memories answer from outside: while it is HALTED or FAULTED, its tuft is not parked and no
destructive march tests them (11 R356, R382, 13 R422). -/
def localOpen (s : State) (f : Nat) : Bool := frondStopped s f && !tuftParked s (f / 8) && !underMarch s f

/-- Where a device address keeps its byte, if it is a byte of memory that answers: the memories of `plainOk`, and a
stopped frond's local memories. -/
def memoryKey (s : State) (a : Nat) : Option Nat :=
  match regionOf a with
  | .block b =>
    if b < 0x40 then none
    else match frdPlace (a % 0x100000) with
      | .memory m => if localOpen s (b - 0x40) then some (frondKey (b - 0x40) m) else none
      | _ => none
  | _ => if plainOk s a 1 then some a else none

/-- The destination bytes of a descriptor that BAD_BUS or BAD_TIMEOUT leaves undefined, from the first failing burst on:
free values (14 R448; log entry 3). -/
def leaveFree (d : Desc) (off : Nat) (s : State) : State :=
  let k := dLen d - off
  let t := (List.range k).foldl (fun t i =>
    let b := (Config.freeWord (s.freeCtr + i)).setWidth 8
    let a := d.at 0x10 8 + off + i
    if dBit d 1 then t.setByte (hostKey a) b
    else match memoryKey s a with
      | some key => t.setByte key b
      | none => t) s
  { t with freeCtr := t.freeCtr + k }

/-! ### States (14 R436 to R440, R448) -/

/-- The channel's event (14 R454): its bit set, its source raised. -/
def chanEvent (n : Nat) (f : Fld) (s : State) : State := (s.flag (R.CH_STATUS n) f).raise (Ev.dma n)

/-- The channel halts. -/
def chanHalt (n why : Nat) (s : State) : State :=
  let s := s.setChan n { s.chan n with cur := none, nxt := .none, aborting := false, abortAfter := false,
                                       ending := none, failed := none, flushing := false }
  let s := setChanState (s.setFld (R.CH_STATUS n) F.CH_STATUS_HALT_WHY why) n 4
  chanEvent n F.CH_STATUS_HALTED_SEEN s

/-- HOPMAX in force; 0 is taken as 1 (14, CH_n_HOPMAX). -/
def hopMax (s : State) (n : Nat) : Nat := max 1 (s.inForce (R.CH_HOPMAX n)).toNat

/-- A fetch begins, or is not made: the chain's limit, an address that is not a multiple of 64 (14 R440, R448). -/
def chanFetch (n addr : Nat) (s : State) : State :=
  let c := s.chan n
  if hopMax s n ≤ (s.reg (R.CH_HOPS n)).toNat then s.setChan n { c with nxt := .failed 4 addr }
  else if addr % 64 ≠ 0 then s.setChan n { c with nxt := .failed 3 addr }
  else (s.setChan n { c with nxt := .fetching addr }).wrapInc (R.CH_HOPS n) F.CH_HOPS_COUNT

/-- TRIG_PEND of a channel. -/
def trigPend (s : State) (n : Nat) : Nat := s.fld (R.CH_STATUS n) F.CH_STATUS_TRIG_PEND

/-- The descriptor held is released by a waiting trigger, or at once where it names none (14 R438, R439). -/
def chanRelease (n : Nat) (s : State) : State :=
  let c := s.chan n
  match c.cur with
  | none => s
  | some d =>
    if c.released || c.ending.isSome then s
    else if (dTrigger d).1 = 0 then setChanState (s.setChan n { c with released := true }) n 3
    else if 0 < trigPend s n then
      let s := s.setFld (R.CH_STATUS n) F.CH_STATUS_TRIG_PEND (trigPend s n - 1)
      setChanState (s.setChan n { c with released := true }) n 3
    else setChanState s n 2

/-- The next descriptor takes the place of one that has ended (14 R435, R440, R448). -/
def chanPromote (n : Nat) (s : State) : State :=
  let c := s.chan n
  match c.nxt with
  | .none => setChanState (s.setChan n { c with cur := none }) n 1
  | .fetching _ => setChanState (s.setChan n { c with cur := none }) n 3
  | .failed why a => chanHalt n why (s.cond (why == 3) (fun s => s.setReg64 (R.CH_FETCH_ADDR_LO n) a))
  | .held d =>
    let ending := if dMisaligned d then some (5, dLen d) else if dMalformed d then some (6, dLen d) else none
    let s := s.setReg64 (R.CH_CUR_LO n) d.addr
    let s := s.setChan n { c with cur := some d, nxt := .none, released := false, granted := 0, moved := 0, half := false,
                                  failed := none, flushing := false, ending := ending }
    if ending.isSome then setChanState s n 3 else chanRelease n s

/-- A fetch returns (14 R434, R439, R440, R448), with what the codes say of it; a transparent march stalls it (13
R422). -/
def chanFetched (n : Nat) (x : SpanRead) (s : State) : State :=
  let c := s.chan n
  match c.nxt with
  | .fetching a =>
    if marchStalls s a then s else
    let s := s.cond (plainOk s a 64) (spanNote a x)
    if spanBad a x || !plainOk s a 64 then
      let s := s.setChan n { c with nxt := .failed 3 a }
      if c.cur.isNone then chanPromote n s else s
    else
      let d : Desc := ⟨a, s.read a 64⟩
      let s := s.cond (dBit d 14) (fun s => s.setReg (R.CH_HOPS n) 0)
      let s := s.cond (decide (c.source.isSome ∧ c.source ≠ some (dTrigger d))) (fun s =>
        let k := trigPend s n
        (s.satInc (R.CH_TRIG_COUNT n) F.CH_TRIG_COUNT_DISCARDED k).setFld (R.CH_STATUS n) F.CH_STATUS_TRIG_PEND 0)
      let former := if c.source = some (dTrigger d) then none else c.source
      let s := s.setChan n { c with nxt := .held d, source := some (dTrigger d), former := former }
      if c.cur.isNone then chanPromote n s else s
  | _ => s

/-- START (14 R437). -/
def chanStart (n : Nat) (s : State) : State :=
  let st := chanState s n
  if st = 1 ∨ st = 4 then
    if (s.chan n).nxt ≠ .none then s.flag (R.CH_STATUS n) F.CH_STATUS_CMD_IGNORED
    else
      let c := s.chan n
      let s := s.cond c.undef (fun s => s.setFld (R.CH_STATUS n) F.CH_STATUS_TRIG_PEND 0)
      let s := s.setChan n { c with undef := false, abortAfter := false, aborting := false }
      let s := ((s.setReg (R.CH_HOPS n) 0).setReg (R.CH_DONE_COUNT n) 0).setFld (R.CH_STATUS n) F.CH_STATUS_HALT_WHY 0
      let s := chanFetch n (s.reg64 (R.CH_HEAD_LO n)) s
      match (s.chan n).nxt with
      | .failed _ _ => chanPromote n s
      | _ => setChanState s n 3
  else s.flag (R.CH_STATUS n) F.CH_STATUS_CMD_IGNORED

/-- One trigger counted (14 R439). -/
def chanTrigger (n : Nat) (s : State) : State :=
  if trigPend s n = 15 then
    chanEvent n F.CH_STATUS_TRIG_OVERRUN (s.satInc (R.CH_TRIG_COUNT n) F.CH_TRIG_COUNT_OVERRUNS)
  else chanRelease n (s.setFld (R.CH_STATUS n) F.CH_STATUS_TRIG_PEND (trigPend s n + 1))

/-- A trigger of a source, or the register write, counted where the descriptor held names a source that it is
(14 R438, R439). `late`: it lost to the fetch of that descriptor, and counts for it though the one before it named the
source (14 R452). -/
def chanTriggerFrom (n : Nat) (src : Option (Nat × Nat)) (late : Bool) (s : State) : State :=
  let st := chanState s n
  let c := s.chan n
  let fits : Bool := match c.source, src with
    | some (k, i), some (k', i') =>
      (k == k' && i == i' && k != 4 && k != 0) || (late && c.former == some (k', i') && k != 0)
    | some (k, _), none => k != 0
    | none, _ => false
  if (st = 2 ∨ st = 3) ∧ (c.cur.isSome ∨ c.nxt matches .held _) ∧ fits then chanTrigger n s else s

/-- A trigger that was sent arrives at the channel (14 R445 step 2); of one that was not sent, nothing does. -/
def chanArrival (n kind index : Nat) (late : Bool) (s : State) : State :=
  if s.dma.sent.contains (n, kind, index) then
    chanTriggerFrom n (some (kind, index)) late
      { s with dma := { s.dma with sent := s.dma.sent.erase (n, kind, index) } }
  else s

/-! ### The end of a descriptor (14 R446 to R448, R450) -/

/-- Whether the engine moves a burst of a channel, or reads of it are in flight. -/
def chanBusy (s : State) (n : Nat) : Bool :=
  s.dma.busy == some n || s.hostReads.any (fun r => r.channel.any (fun (m : Fin 64) => m.val == n))

/-- Whether a read is the flush read of a channel. -/
def isFlush (n : Nat) (r : HostRead) : Bool := r.flush && r.channel.any (fun (m : Fin 64) => m.val == n)

/-- The zero-length flush read of a host destination, to the last address written (14 R446); where 4,096 operations are in
flight it waits for one to end (log entry 58). -/
def askFlush (n : Nat) (d : Desc) (s : State) : State :=
  if dBit d 1 && decide (inflight s < 4096) then
    hostAsk s { tag := 0, channel := some (Fin.ofNat 64 n), stream := none, addr := d.at 0x10 8 + dLen d - 1, len := 0,
                dst := 0, issued := s.now, flush := true }
  else s

/-- Whether a channel's flush read of the host is still to be issued. -/
def flushWaits (s : State) (n : Nat) : Bool :=
  (s.chan n).flushing && (s.chan n).cur.any (dBit · 1) && !s.hostReads.any (isFlush n)

/-- An operation has ended: a flush read that waits for one is issued. -/
def flushNext (s : State) : State :=
  match (List.range 64).find? (flushWaits s) with
  | some n =>
    match (s.chan n).cur with
    | some d => askFlush n d s
    | none => s
  | none => s

/-- The descriptor ends once its bursts have: aborted, failed, or moved whole; with FLUSH a read follows first. -/
def chanEnds (n : Nat) (s : State) : State :=
  let c := s.chan n
  match c.cur with
  | none => s
  | some d =>
    if c.ending.isSome || c.flushing || chanBusy s n then s
    else if c.aborting then s.setChan n { c with ending := some (2, dLen d - c.moved) }
    else
      match c.failed with
      | some (off, st) => s.setChan n { c with ending := some (st, dLen d - off) }
      | none =>
        if c.released && decide (c.granted = dLen d) then
          if dBit d 13 then
            if dBit d 1 && !hostOpen s then s.setChan n { c with ending := some (3, 0) }
            else askFlush n d (s.setChan n { c with flushing := true })
          else s.setChan n { c with ending := some (1, 0) }
        else s

/-- The status write is accepted: RESIDUE and STATUS in the descriptor, the event (with that of HALF where one burst moved
all), the event line, the completion trigger, what follows (14 R446 to R448, R450). -/
def chanStatus (n : Nat) (s : State) : State :=
  let c := s.chan n
  match c.cur, c.ending with
  | some d, some (st, res) =>
    let s := s.cond (st == 3 || st == 4) (leaveFree d (dLen d - res))
    let s := s.cond (plainOk s d.addr 64) (fun s => s.write (d.addr + 0x20) (bytesLE 4 res ++ bytesLE 1 st ++ [0, 0, 0]))
    let s := s.cond (c.half && dOneBurst d) (chanEvent n F.CH_STATUS_HALF_SEEN)
    if st = 2 then chanHalt n 5 s
    else if st = 5 then chanHalt n 1 s
    else if st = 6 then chanHalt n 2 s
    else
      let h := d.at 0x2C 4
      let s := if st = 1 then
          let s := s.wrapInc (R.CH_DONE_COUNT n) F.CH_DONE_COUNT_COUNT
          let s := s.cond (dBit d 12) (chanEvent n F.CH_STATUS_DONE_SEEN)
          dmaSend 2 n (s.cond (decide (h / 32768 % 2 = 1)) (fun s => s.setLine (h / 512 % 64) (h % 64)))
        else chanEvent n F.CH_STATUS_ERR_SEEN s
      let s := s.setChan n { s.chan n with cur := none, ending := none }
      if c.abortAfter then chanHalt n 5 s
      else
        let s := s.cond (!dBit d 15 && decide (c.nxt = .none)) (chanFetch n (d.at 0 8))
        chanPromote n s
  | _, _ => s

/-- ABORT (14 R450, R452). -/
def chanAbort (n : Nat) (s : State) : State :=
  let c := s.chan n
  let st := chanState s n
  if st = 2 ∨ st = 3 then
    match c.cur with
    | none => chanHalt n 5 s
    | some d =>
      if c.ending.isSome || c.flushing || (c.released && decide (c.granted = dLen d) && !chanBusy s n) then
        s.setChan n { c with abortAfter := true }
      else chanEnds n (setChanState (s.setChan n { c with aborting := true }) n 3)
  else s.flag (R.CH_STATUS n) F.CH_STATUS_CMD_IGNORED

/-- The channel enters OFF; what it held is lost, and RESIDUE, TRIG_PEND and DONE_COUNT are free until the next START
(14 R451). -/
def chanOff (n : Nat) (s : State) : State :=
  let c := s.chan n
  let s := match c.cur with
    | some d => (s.write (d.addr + 0x20) (bytesLE 4 s.free.toNat)).drawn
    | none => s
  let s := { s with dma := { s.dma with busy := if s.dma.busy = some n then none else s.dma.busy } }
  let s := (abandonReads (fun r => r.channel.any (fun (m : Fin 64) => m.val == n)) s).setChan n { undef := true }
  let s := (s.setFld (R.CH_STATUS n) F.CH_STATUS_TRIG_PEND s.free.toNat).drawn
  let s := (s.setReg (R.CH_DONE_COUNT n) s.free).drawn
  setChanState (s.setBit (R.CH_CTRL n) F.CH_CTRL_ENABLE false) n 0

/-- ENABLE written (14 R451): 0 takes effect in MAINT and in BOOT; elsewhere it is ignored, with a peat log record. -/
def chanEnable (n : Nat) (on : Bool) (s : State) : State :=
  if on then
    let s := s.setBit (R.CH_CTRL n) F.CH_CTRL_ENABLE true
    if chanState s n = 0 then setChanState s n 1 else s
  else if s.mode = .maint ∨ s.mode = .boot then
    if chanState s n = 0 then s.setBit (R.CH_CTRL n) F.CH_CTRL_ENABLE false else chanOff n s
  else (chanEvent n F.CH_STATUS_ENABLE_IGNORED s).peatPush 0xA 0xFFFF (bytesLE 1 0x29 ++ bytesLE 1 n)

/-- The commit unit of a channel (14 R453). -/
def chanUnit (n : Nat) : CommitUnit :=
  ⟨R.CH_CTRL n, F.CH_CTRL_COMMIT_PENDING, [R.CH_CFG n, R.CH_HOPMAX n], some (R.CH_COMMIT_TAKEN_LO n)⟩

/-- COMMIT: taken at the next burst grant, at once where the channel is not RUNNING (14 R453). -/
def chanCommit (n : Nat) (s : State) : State :=
  let s := (chanUnit n).commit s
  if chanState s n = 3 then s else (chanUnit n).take s

/-! ### Arbitration (14 R442 to R444) -/

/-- The queue that a DMA port address names (11 R372): frond and queue. -/
def portOf (a : Nat) : Option (Nat × Nat) :=
  if 0x5004000000 ≤ a ∧ a < 0x5008000000 ∧ 0x8000 ≤ a % 0x100000 ∧ a % 0x100000 < 0x8200 then
    some ((a - 0x5004000000) / 0x100000, (a % 0x100000 - 0x8000) / 0x40)
  else none

/-- Whether a frond's queue takes entries from channel n, or gives them (11 R371, R372). -/
def portBound (s : State) (n f k : Nat) (out : Bool) : Bool :=
  queueKind s f k == 2 && queuePeer s f k == n && queueOut s f k == out

/-- Whether a channel is stalled by a queue bound to it that is full or empty (11 R371, R372); any other access to a port
meets a bus error. -/
def portStalls (s : State) (n : Nat) (d : Desc) (off len : Nat) : Bool :=
  if len ≠ 64 then false
  else
    (match if dBit d 0 then none else portOf (d.at 8 8 + off) with
      | some (f, k) => portBound s n f k true && (s.queue f k).isEmpty
      | none => false) ||
    (match if dBit d 1 then none else portOf (d.at 0x10 8 + off) with
      | some (f, k) => portBound s n f k false && decide (16 ≤ (s.queue f k).length)
      | none => false)

/-- The next burst of a channel: its place in the descriptor and its length. -/
def nextBurst (c : Chan) (d : Desc) : Nat × Nat := (c.granted, min (dBurst d) (dLen d - c.granted))

/-- Whether a channel has a burst ready. -/
def chanReady (s : State) (n : Nat) : Bool :=
  let c := s.chan n
  match c.cur with
  | none => false
  | some d =>
    chanState s n == 3 && c.released && c.ending.isNone && !c.aborting && c.failed.isNone && !c.flushing &&
      decide (c.granted < dLen d) && s.dma.busy != some n &&
      !portStalls s n d (nextBurst c d).1 (nextBurst c d).2

/-- The requesters with a burst ready, ascending: channels, then stream movers. -/
def requesters (s : State) : List Nat :=
  (List.range 64).filter (chanReady s) ++ ((List.range 16).filter (moverReady s)).map (64 + ·)

/-- A requester's own level. -/
def ownLevel (s : State) (r : Nat) : Nat :=
  if r < 64 then s.actFld (R.CH_CFG r) F.CH_CFG_PRIO
  else if r < 72 then s.fld R.DMA_STREAM_PRIO_A ⟨4 * (r - 64), 3⟩
  else s.fld R.DMA_STREAM_PRIO_B ⟨4 * (r - 72), 3⟩

/-- A requester's wait. -/
def waitOf (s : State) (r : Nat) : Wait := Sparse.get (fun _ => {}) s.dma.waits r

/-- A requester's present level: it keeps the levels that waiting has raised. -/
def levelOf (s : State) (r : Nat) : Nat := min 7 (ownLevel s r + (waitOf s r).raised)

/-- The requester to serve: the highest level, in it the promoted first, in order, then round robin. -/
def chooseRequester (s : State) (rs : List Nat) : Option Nat :=
  match (rs.map (levelOf s)).max? with
  | none => none
  | some top =>
    let at_ := rs.filter (fun r => levelOf s r == top)
    let promoted := at_.filter (fun r => (waitOf s r).order.isSome)
    match promoted.mergeSort (fun a b => decide ((waitOf s a).order.getD 0 ≤ (waitOf s b).order.getD 0)) with
    | p :: _ => some p
    | [] =>
      match Sparse.find s.dma.served top with
      | some l => match at_.find? (fun r => decide (l < r)) with
        | some r => some r
        | none => at_.head?
      | none => at_.head?

/-- The waits after a grant: every other requester has seen one more; at 64 it rises one level, to 7 at most (14 R443). -/
def countWaits (s : State) (rs : List Nat) (g : Nat) : State :=
  rs.foldl (fun s r =>
    if r = g then s
    else
      let w := waitOf s r
      let up := decide (w.seen + 1 = 64) && decide (levelOf s r < 7)
      let w := if up then { seen := 0, raised := w.raised + 1, order := some s.dma.promotions }
        else { w with seen := if w.seen + 1 = 64 then 0 else w.seen + 1 }
      { s with dma := { s.dma with waits := Sparse.put (fun _ => some {}) s.dma.waits r w,
                                   promotions := if up then s.dma.promotions + 1 else s.dma.promotions } })
    { s with dma := { s.dma with waits := s.dma.waits.filter (fun p => rs.contains p.1 && p.1 != g) } }

/-- A burst granted to a channel: a waiting commit is taken, and after the last burst the next fetch begins (14 R440,
R453). -/
def grantChannel (n : Nat) (s : State) : State :=
  let s := (chanUnit n).take s
  let c := s.chan n
  match c.cur with
  | none => s
  | some d =>
    let b := nextBurst c d
    let s := showInflight
      { s.setChan n { c with granted := c.granted + b.2 } with dma := { s.dma with busy := some n, burst := b } }
    s.cond (decide (b.1 + b.2 = dLen d) && !dBit d 15) (chanFetch n (d.at 0 8))

/-- The arbiter grants a burst, unless 4,096 operations are in flight (14 R442 to R444). -/
def grantBurst (s : State) : State :=
  let rs := requesters s
  if s.dma.busy.isSome ∨ 4096 ≤ inflight s then s
  else
    match chooseRequester s rs with
    | none => s
    | some g =>
      let top := levelOf s g
      let s := countWaits s rs g
      let s := { s with dma := { s.dma with served := Sparse.put (fun _ => none) s.dma.served top g } }
      if g < 64 then grantChannel g s else showInflight { s with dma := { s.dma with busy := some g } }

/-! ### Host reads (14 R448, R449) -/

/-- The completion timeout in ns (14, DMA_CFG). -/
def cplTimeout (s : State) : Nat :=
  let k := s.fld R.DMA_CFG F.DMA_CFG_CPL_TO
  (if k = 1 then 1 else if k = 2 then 10 else if k = 4 then 100 else if k = 5 then 1000 else if k = 6 then 4000 else 50) *
    1000000

/-- A burst of a channel fails at a place in its descriptor; the first failing burst counts (14 R448). -/
def chanFails (n off st : Nat) (s : State) : State :=
  let c := s.chan n
  let keep := c.failed.any (fun p => decide (p.1 ≤ off))
  chanEnds n (if keep then s else s.setChan n { c with failed := some (off, st) })

/-- The bytes of a burst completed; HALF when they first reach half of LENGTH, with DONE where one burst moves all
(14 R447). -/
def chanMoved (n k : Nat) (s : State) : State :=
  let c := s.chan n
  match c.cur with
  | none => s
  | some d =>
    let m := c.moved + k
    let half := dBit d 11 && !c.half && decide (dLen d ≤ 2 * m)
    let s := s.setChan n { c with moved := m, half := c.half || half }
    s.cond (half && !dOneBurst d) (chanEvent n F.CH_STATUS_HALF_SEEN)

/-- A read of a channel leaves the list of those in flight. -/
def dropRead (tag : Nat) (s : State) : State :=
  showInflight { s with hostReads := s.hostReads.filter (fun r => r.tag != tag) }

/-- The place in the descriptor of the burst that a read belongs to. -/
def burstOf (c : Chan) (r : HostRead) : Nat :=
  match c.cur with
  | some d => let off := r.addr - d.at 8 8; off / dBurst d * dBurst d
  | none => 0

/-- A host read of a channel times out (14 R449): its tag stays unused until its completion has come. A grant-ring read
that times out has failed (15 R472). -/
def readTimeout (tag : Nat) (s : State) : State :=
  match s.hostReads.find? (fun r => r.tag == tag) with
  | none => s
  | some r =>
    let s := s.reach (r.issued + cplTimeout s)
    let late : State → State := fun s => { s with dma := { s.dma with late := s.dma.late ++ [tag] } }
    match r.channel, r.stream with
    | some n, _ =>
      let c := s.chan n
      let s := late (dropRead tag s)
      if r.flush then
        (s.setChan n { c with flushing := false, ending := some (4, 0) })
      else chanFails n (burstOf c r) 4 s
    | none, some m => late (grantRead m (some tag) ⟨0, 0, 0⟩ false s)
    | none, none => s

/-! ### The commands of the table -/

/-- CH_START (14 R437). `lost` counts an ENABLE = 0 that it meets (14 R452). -/
def execChStart (n : Fin 64) (lost : Bool) (s : State) : Result :=
  .next (s.whenWorking (fun s => (chanStart n s).lost lost (R.CH_RACE n)))

/-- CH_ABORT (14 R450). `lost` counts the end of the last burst that it meets (14 R452). -/
def execChAbort (n : Fin 64) (lost : Bool) (s : State) : Result :=
  .next (s.whenWorking (fun s => (chanAbort n s).lost lost (R.CH_RACE n)))

/-- CH_TRIGGER (14 R438): a trigger for every source. -/
def execChTrigger (n : Fin 64) (lost : Bool) (s : State) : Result :=
  .next (s.whenWorking (fun s => (chanTriggerFrom n none lost s).lost lost (R.CH_RACE n)))

/-- CH_COMMIT (14 R453). `lost` counts a burst grant that it meets (14 R452). -/
def execChCommit (n : Fin 64) (lost : Bool) (s : State) : Result :=
  .next (s.whenWorking (fun s => (chanCommit n s).lost lost (R.CH_RACE n)))

/-- CH_ENABLE_WRITE (14 R451). -/
def execChEnableWrite (n : Fin 64) (on : Bool) (lost : Bool) (s : State) : Result :=
  .next (if s.working || s.mode == .boot || s.mode == .safe then (chanEnable n on s).lost lost (R.CH_RACE n) else s)

/-- DESCRIPTOR_FETCH_DONE (14 R435). -/
def execDescriptorFetchDone (n : Fin 64) (x : SpanRead) (s : State) : Result := .next (s.whenWorking (chanFetched n x))

/-- DMA_TRIGGER_ARRIVAL (14 R438, R439, R445): source kind and index. `lost` counts a fetch that it meets and loses to
(14 R452). -/
def execDmaTriggerArrival (n : Fin 64) (kind : Fin 8) (index : Fin 64) (lost : Bool) (s : State) : Result :=
  .next (s.whenWorking (fun s => (chanArrival n kind index lost s).lost lost (R.CH_RACE n)))

/-- HOST_READ_TIMEOUT (14 R449). `lost` counts the completion that it meets. -/
def execHostReadTimeout (tag : Fin 16384) (lost : Bool) (s : State) : Result :=
  .next (s.whenWorking (fun s => flushNext ((readTimeout tag s).lost lost R.DMA_RACE)))

/-- DESCRIPTOR_STATUS_ACCEPTED (14 R446). -/
def execDescriptorStatusAccepted (n : Fin 64) (s : State) : Result := .next (s.whenWorking (chanStatus n))

/-- RING_DISABLE (15 R471): a burst of the stream that is granted completes first. `lost` counts a burst grant that it
meets (15 R473). -/
def execRingDisable (n : Fin 16) (lost : Bool) (s : State) : Result :=
  .next (s.whenWindow (fun s => (ringStop n s).lost lost R.HOST_RACE))

end Sys2Proof.Machine
end

