-- ==== Sys2Proof/Machine/Events.lean ====
section
/-!
DEFINITION. The event router and MSI-X (01 R37 to R39, R615, 15 R456, R482).
-/

namespace Sys2Proof.Machine

/-- Bit i of a bit array of registers. -/
def arrayBit (s : State) (r : Nat → Nat) (i : Nat) : Bool := (s.reg (r (i / 32))).getLsbD (i % 32)

/-- Bit i of a bit array set or cleared. -/
def setArrayBit (s : State) (r : Nat → Nat) (i : Nat) (b : Bool) : State := s.setBit (r (i / 32)) ⟨i % 32, 1⟩ b

/-- Whether a vector may be sent: MSI-X enabled, neither the function nor the vector masked, and the device able to issue
requests (15 R456, R459; log entry 12). -/
def vectorFree (s : State) (v : Nat) : Bool :=
  s.pcie.msixEnable && !s.pcie.msixMask && hostOpen s && !(s.reg (R.MSIX_TABLE (4 * v + 3))).getLsbD 0

/-- A vector issued, or kept in the pending-bit array (15 R482). -/
def vectorIssue (v : Nat) (s : State) : State :=
  if vectorFree s v then s.emit (.msix v) else setArrayBit s R.MSIX_PBA v true

/-- One pending vector issued, if it may now be sent. -/
def vectorRetry (s : State) (v : Nat) : State :=
  if arrayBit s R.MSIX_PBA v && vectorFree s v then (setArrayBit s R.MSIX_PBA v false).emit (.msix v) else s

/-- Every pending vector that may now be sent is issued. -/
def vectorsRetry (s : State) : State :=
  if s.pcie.msixEnable && !s.pcie.msixMask && hostOpen s then (List.range 2048).foldl vectorRetry s else s

/-- An occurrence routed to MSI-X: HOST_PEND and the vector, or HOST_MERGED (15 R482). -/
def hostNotice (src v : Nat) (s : State) : State :=
  if arrayBit s R.HOST_PEND src then setArrayBit s R.HOST_MERGED src true
  else vectorIssue v (setArrayBit s R.HOST_PEND src true)

/-- The island of a source, as ORIGIN of its peat log records (01 R37, 18 R521); 0xFFFF for the runner links. -/
def originOf (src : Nat) : Nat :=
  if src < 64 then src else if src < 128 then 89 else if src < 192 then 72 + (src - 128) / 6
  else if src < 224 then 82 + (src - 192) / 8 else if src < 256 then 88 else if src < 384 then 86
  else if src < 416 then 87 else if src < 448 then 91 else if src < 480 then 90 else if src < 512 then 92
  else if src < 544 then 0xFFFF else if src < 568 then 95 else if src < 576 then 94 else if src < 640 then 93 else 90

/-- A pending occurrence delivered to every destination that its route enables now, and its mark cleared
(01 R39, 20 R584). -/
def eventDeliver (src : Nat) (s : State) : State :=
  if src ∈ s.evPend then
    let w := s.reg (R.EVT_ROUTE src)
    let s := { s with evPend := NatSet.erase s.evPend src }
    let s := s.cond (w.get F.EVT_ROUTE_FROND_EN == 1) (fun s => s.setLine (w.get F.EVT_ROUTE_FROND) (w.get F.EVT_ROUTE_LINE))
    let s := s.cond (w.get F.EVT_ROUTE_MSIX_EN == 1) (hostNotice src (w.get F.EVT_ROUTE_VECTOR))
    s.cond (w.get F.EVT_ROUTE_PEAT_EN == 1) (fun s => s.peatPush 4 (originOf src) (bytesLE 2 src))
  else s

/-- EVT_ACK written (15 R482). -/
def eventAck (src : Nat) (s : State) : State :=
  if arrayBit s R.HOST_MERGED src then
    let s := setArrayBit (setArrayBit s R.HOST_MERGED src false) R.HOST_PEND src true
    vectorIssue ((s.reg (R.EVT_ROUTE src)).get F.EVT_ROUTE_VECTOR) s
  else setArrayBit s R.HOST_PEND src false

/-! ### The commands of the table -/

/-- EVENT_DELIVERY (01 R39). `lost` counts an occurrence or a route write that it meets (01 R615). -/
def execEventDelivery (src : Fin 1024) (lost : Bool) (s : State) : Result :=
  .next (s.whenServing (fun s => (eventDeliver src s).lost lost R.EVT_RACE))

/-- EVT_ACK (15 R482, R460). `lost` counts an occurrence that it meets. -/
def execEvtAck (src : Fin 1024) (lost : Bool) (s : State) : Result :=
  .next (s.whenServing (fun s => if hostReaches s then (eventAck src s).lost lost R.HOST_RACE else s))

end Sys2Proof.Machine
end

