-- ==== Sys2Proof/Machine/Peat.lean ====
section
/-!
DEFINITION. The peat log writer (20 R583 to R588).
-/

namespace Sys2Proof.Machine

/-- The first address of the peat log ring (13 R425). -/
def peatBase : Nat := mramBase + 0x200000

/-- The slot of record k of the log (20 R583). -/
def peatSlot (k : Nat) : Nat := peatBase + 64 * (k % 262144)

/-- A record's 64 bytes (20 R583). -/
def peatBytes (seq : Nat) (r : PeatRec) : List Byte :=
  let b := bytesLE 8 seq ++ bytesLE 8 r.time ++ bytesLE 2 r.typ ++ bytesLE 2 r.origin ++ padTo 40 r.data
  b ++ bytesLE 4 (crc32c b)

/-- NEWEST and OLDEST as the log stands (20, PEAT registers). -/
def peatShow (s : State) : State :=
  if s.peat.nextSeq = 0 then s
  else (s.setReg64 R.PEAT_NEWEST_LO (s.peat.nextSeq - 1)).setReg64 R.PEAT_OLDEST_LO (s.peat.nextSeq - 262144)

/-- The oldest queued record written; once space returns a LOST record carries the count of dropped ones (20 R585). The
MRAM write takes the pulse of the band (19 R569). -/
def peatCommit (s : State) : State :=
  match s.peat.queue with
  | [] => s
  | r :: q =>
    let k := s.peat.nextSeq
    let s := s.write (peatSlot k) (peatBytes k r)
    let s := { s with peat := { s.peat with queue := q, nextSeq := k + 1 },
                      pwr := { s.pwr with pulseBand := s.fld R.PWR_STATUS F.PWR_STATUS_BAND } }
    let s := peatShow (s.setFld R.PEAT_STATUS F.PEAT_STATUS_QUEUED q.length)
    let lost := s.fld R.PEAT_STATUS F.PEAT_STATUS_LOST
    if lost = 0 then s
    else (s.setFld R.PEAT_STATUS F.PEAT_STATUS_LOST 0).peatPush 0xB 0xFFFF (bytesLE 4 lost)

/-- Every queued record written. -/
def peatFlush (s : State) : State := (List.range (s.peat.queue.length + 1)).foldl (fun s _ => peatCommit s) s

/-- The SEQ of the record in a slot, if its CRC checks (20 R586). -/
def peatSeqAt (s : State) (k : Nat) : Option Nat :=
  let b := s.read (peatSlot k) 64
  if natAt 60 4 b = crc32c (b.take 60) then some (natAt 0 8 b) else none

/-- The slots of the ring that hold anything but zeros. -/
def peatSlots (s : State) : List Nat :=
  s.mem.foldl (fun l e =>
    if peatBase ≤ e.1 ∧ e.1 < peatBase + 0x1000000 then
      let k := (e.1 - peatBase) / 64
      if l.head? = some k then l else k :: l
    else l) []

/-- At a start: the log goes on after the record of highest SEQ whose CRC checks (20 R586). -/
def peatFind (s : State) : State :=
  let l := (peatSlots s).filterMap (peatSeqAt s)
  let next := l.foldl (fun m k => max m (k + 1)) 0
  peatShow { s with peat := { s.peat with nextSeq := next } }

/-- PEAT_FW_CMD written by a frond: a record of PEAT_FW_DATA, or CFG_REFUSED (20 R587). -/
def peatFirmware (f typ : Nat) (s : State) : State :=
  if typ < 0x8000 then s.flag R.PEAT_STATUS F.PEAT_STATUS_CFG_REFUSED
  else s.peatPush typ f ((List.range 10).flatMap (fun k => bytesLE 4 (s.reg (R.PEAT_FW_DATA k)).toNat))

/-! ### The commands of the table -/

/-- PEAT_RECORD_COMMIT (20 R585). `lost` counts a band change that meets the write (19 R573). -/
def execPeatRecordCommit (lost : Bool) (s : State) : Result :=
  .next (s.whenServing (fun s => (peatCommit s).lost lost R.PWR_RACE))

/-- PEAT_FW_CMD (20 R587). -/
def execPeatFwCmd (f : Fin 64) (typ : BitVec 16) (s : State) : Result :=
  .next (s.whenWorking (peatFirmware f typ.toNat))

end Sys2Proof.Machine
end

