-- ==== Sys2Proof/Machine/Planner.lean ====
section
/-!
DEFINITION. The planner of the driven axes: where an axis comes to rest, and one tick of the profile that is shortest in
time under its bounds (10 R330, R331). Positions are in units of 2^-16 microstep / (6 x 10^15), velocities in units of
2^-16 microstep/s / (2 x 10^10), accelerations in units of 2^-16 microstep/s^2 / 10^5 and jerks in units of
2^-16 microstep/s^3, so that motion under a constant jerk is exact over a tick of 10 us. The instants at which a profile
switches its jerk or acceleration are found to 2^-32 of a tick (log entry 45).
-/

namespace Sys2Proof.Machine

/-- Planner units of position in 2^-16 microstep. -/
def fineP : Int := 6000000000000000

/-- Planner units of velocity in 2^-16 microstep/s. -/
def fineV : Int := 20000000000

/-- The bounds of a profile: speed, acceleration while speed rises and while it falls, jerk (0: unbounded). -/
structure Bounds where
  vmax : Int
  amax : Int
  dmax : Int
  jerk : Int
  deriving DecidableEq, Repr

/-- The distance in which a speed without acceleration is braked to rest. -/
def stopDist (d j v : Int) : Int :=
  if j = 0 then 3 * v * v / (4 * d)
  else if v * j ≤ 2 * d * d then (Nat.sqrt (9 * v * v * v / (2 * j)).toNat : Int)
  else 3 * v * v / (4 * d) + 3 * v * d / (2 * j)

/-- How far from its position an axis comes to rest under a deceleration and a jerk, from a velocity and an
acceleration. -/
def restFrom (d j v a : Int) : Int :=
  if j = 0 then (if v < 0 then -stopDist d j (-v) else stopDist d j v)
  else
    let f : Int := if v < 0 ∨ (v = 0 ∧ a < 0) then -1 else 1
    let v := f * v
    let a := f * a
    let pre := 3 * v * a / j + 2 * a * a * a / (j * j)
    if 0 ≤ a ∨ a * a ≤ v * j then f * (pre + stopDist d j (v + (if a < 0 then -(-(a * a) / j) else a * a / j)))
    else f * (2 * a * a * a / (j * j) - 3 * v * a / j - stopDist d j (a * a / j - v))

/-- The sub-divisions of a tick in which the planner times the switches of a profile. -/
def quanta : Int := 2 ^ 32

/-- A commanded state: position, velocity, acceleration. -/
structure Kin where
  p : Int
  v : Int
  a : Int
  deriving DecidableEq, Repr

/-- A commanded state a number of quanta later under a constant jerk. -/
def Kin.glide (x : Kin) (j k : Int) : Kin :=
  let q := quanta
  ⟨x.p + (3 * x.v * k * q ^ 2 + 3 * x.a * k ^ 2 * q + j * k ^ 3) / q ^ 3,
   x.v + (2 * x.a * k * q + j * k ^ 2) / q ^ 2, x.a + j * k / q⟩

/-- The opposite motion. -/
def Kin.flip (f : Int) (x : Kin) : Kin := ⟨f * x.p, f * x.v, f * x.a⟩

/-- The largest number of an interval that passes a test, the lower end if none does; the test fails above a number
that it fails at. -/
def searchUp (ok : Int → Bool) (lo hi : Int) : Nat → Int
  | 0 => lo
  | n + 1 =>
    if hi - lo ≤ 1 then lo
    else
      let m := (lo + hi) / 2
      if ok m then searchUp ok m hi n else searchUp ok lo m n

/-- The longest time, at most `m` quanta, for which a motion keeps a condition. -/
def longest (ok : Kin → Bool) (go : Int → Kin) (m : Int) : Int :=
  if ok (go m) then m else searchUp (fun k => ok (go k)) 0 m 40

/-- Whether a motion that raises its velocity keeps the bounds and can still end at the velocity `top` without
acceleration: DMAX bounds it while the speed falls, AMAX while it rises (10 R330). -/
def Bounds.holds (b : Bounds) (top : Int) (x : Kin) : Bool :=
  decide (x.a ≤ 0) ||
    (decide (x.v * b.jerk + x.a * x.a ≤ top * b.jerk) &&
      (if x.v < 0 then decide (x.a ≤ b.dmax) && (decide (x.a ≤ b.amax) || decide (x.v * b.jerk + x.a * x.a ≤ b.amax * b.amax))
       else decide (x.a ≤ b.amax)))

/-- One stretch of the fastest way to a velocity `top` above, jerk bounded: the jerk and its time. The acceleration
rises, is held, or falls. -/
def Bounds.stretch (b : Bounds) (top : Int) (x : Kin) (m : Int) : Kin × Int :=
  let up := longest (b.holds top) (x.glide b.jerk) m
  let on := longest (b.holds top) (x.glide 0) m
  if 0 < up then (x.glide b.jerk up, up)
  else if 0 < on then (x.glide 0 on, on)
  else
    let floor := if x.v < 0 ∧ b.amax < x.a then b.amax else 0
    let k := longest (fun y => decide (floor ≤ y.a) && (decide (floor = 0) || decide (y.v ≤ 0))) (x.glide (-b.jerk)) m
    (x.glide (-b.jerk) (max 1 k), max 1 k)

/-- One stretch of the fastest way to a velocity `top` above, jerk unbounded: the acceleration of the present sign of the
velocity, to the end of that sign or to `top`. -/
def Bounds.leap (b : Bounds) (top : Int) (x : Kin) (m : Int) : Kin × Int :=
  let a := if x.v < 0 then b.dmax else b.amax
  let stop := if x.v < 0 then min 0 top else top
  let x := { x with a := a }
  let k := longest (fun y => decide (y.v ≤ stop)) (x.glide 0) m
  if 0 < k then (x.glide 0 k, k)
  else ({ x with p := (x.glide 0 1).p, v := stop }, 1)

/-- The fastest way to a velocity without acceleration, for a time (10 R330, R331): the velocity rises or falls to it,
then is held. -/
def Bounds.toward (b : Bounds) (top : Int) : Nat → Kin → Int → Kin
  | 0, x, m => x.glide 0 m
  | n + 1, x, m =>
    if m ≤ 0 then x
    else if b.jerk = 0 then
      if x.v = top then { x with a := 0 }.glide 0 m
      else
        let f : Int := if x.v < top then 1 else -1
        let (y, k) := b.leap (f * top) (x.flip f) m
        b.toward top n (y.flip f) (m - k)
    else
      let near := b.jerk * 16 / quanta + 16
      if |x.a| ≤ near ∧ |x.v - top| ≤ near then { x with v := top, a := 0 }.glide 0 m
      else
        let f : Int := if x.v * b.jerk + x.a * |x.a| ≤ top * b.jerk then 1 else -1
        let (y, k) := b.stretch (f * top) (x.flip f) m
        b.toward top n (y.flip f) (m - k)

/-- One tick of the planner toward a goal: position, velocity and acceleration at its end (10 R330). In the direction of
the goal the axis takes the fastest way to VMAX up to the instant from which braking rests at the goal, and brakes from
there: the profile that is shortest in time. The axis arrives at the tick within which it comes to rest on the goal. -/
def planTick (b : Bounds) (goal p v a : Int) : Int × Int × Int :=
  let f : Int := if p + restFrom b.dmax b.jerk v a ≤ goal + fineP then 1 else -1
  let x : Kin := ⟨f * p, f * v, f * a⟩
  let early : Kin → Bool := fun y => decide (y.p + restFrom b.dmax b.jerk y.v y.a ≤ f * goal)
  let k := longest early (b.toward b.vmax 12 x) quanta
  let y := b.toward b.vmax 12 x k
  let z := b.toward 0 12 y (quanta - k)
  let r := b.toward 0 12 y (quanta - k + 64)
  if r.v = 0 ∧ r.a = 0 ∧ |r.p - f * goal| ≤ fineP then (goal, 0, 0) else (f * z.p, f * z.v, f * z.a)

end Sys2Proof.Machine
end

