-- ==== Sys2Proof/Machine/Motion.lean ====
section
/-!
DEFINITION. The driven axes (10_motion.md): commands and commits, the update tick, segment tables, faults, homing,
pacing, port requests and the phase ports.
-/

namespace Sys2Proof.Machine

/-- An axis's hidden state. -/
def State.axis (s : State) (n : Nat) : AxisSt := Sparse.get (fun _ => {}) s.axes n

/-- An axis's hidden state replaced. -/
def State.setAxis (s : State) (n : Nat) (x : AxisSt) : State :=
  { s with axes := Sparse.put (fun _ => some {}) s.axes n x }

/-- STATE of an axis (10 R324). -/
def axState (s : State) (n : Nat) : Nat := s.fld (R.AXIS_STATUS n) F.AXIS_STATUS_STATE

/-- A bit of AXIS_n_STATUS. -/
def axBit (s : State) (n : Nat) (f : Fld) : Bool := s.bit (R.AXIS_STATUS n) f

/-- A bit of AXIS_n_STATUS set or cleared. -/
def setAxBit (s : State) (n : Nat) (f : Fld) (b : Bool) : State := s.setBit (R.AXIS_STATUS n) f b

/-- STATE replaced. -/
def setAxState (s : State) (n st : Nat) : State := s.setFld (R.AXIS_STATUS n) F.AXIS_STATUS_STATE st

/-- A flag of AXIS_n_STATUS that becomes set raises source k of the axis (10 R349, 01 R614). -/
def axFlag (s : State) (n : Nat) (f : Fld) (k : Nat) : State := s.flagEvent (R.AXIS_STATUS n) f (Ev.axis n k)

/-- The commanded position in 2^-16 microstep, rounded to nearest (10 R326). -/
def axPos (x : AxisSt) : Int := divRound x.p fineP

/-- The shadow set of an axis: offsets 0x008 to 0x064 (10, AXIS_n_CTRL). -/
def axUnit (n : Nat) : CommitUnit :=
  ⟨R.AXIS_CTRL n, F.AXIS_CTRL_COMMIT_PENDING, (List.range 24).map (fun i => R.AXIS_CFG n + 4 * i),
    some (R.AXIS_COMMIT_TAKEN_LO n)⟩

/-- Whether the virtual limits are in force (10 R323, R333). -/
def limitsOn (s : State) (n : Nat) : Bool :=
  s.actBit (R.AXIS_CFG n) F.AXIS_CFG_LIMITS_EN && axBit s n F.AXIS_STATUS_HOMED

/-- POS_MIN in force, in 2^-16 microstep. -/
def posMin (s : State) (n : Nat) : Int := s.sinForce64 (R.AXIS_POS_MIN_LO n)

/-- POS_MAX in force, in 2^-16 microstep. -/
def posMax (s : State) (n : Nat) : Int := s.sinForce64 (R.AXIS_POS_MAX_LO n)

/-- Whether a position lies outside the virtual limits in force (10 R323). -/
def outside (s : State) (n : Nat) (p : Int) : Bool := decide (p < posMin s n) || decide (posMax s n < p)

/-- The factor in force (10 R342). -/
def paceFactor (s : State) (n : Nat) : Nat := s.fld (R.AXIS_PACE_STATUS n) F.AXIS_PACE_STATUS_FACTOR

/-- DMAX in planner units; 0 is taken as 1 (10, AXIS_n_DMAX). -/
def dmaxOf (s : State) (n : Nat) : Int := max 1 (s.inForce (R.AXIS_DMAX n)).toNat * 65536 * 100000

/-- AMAX in planner units; 0 is taken as 1. -/
def amaxOf (s : State) (n : Nat) : Int := max 1 (s.inForce (R.AXIS_AMAX n)).toNat * 65536 * 100000

/-- LIMIT_DECEL in planner units; below DMAX it is taken as DMAX. -/
def limitDecelOf (s : State) (n : Nat) : Int :=
  max (dmaxOf s n) (max 1 (s.inForce (R.AXIS_LIMIT_DECEL n)).toNat * 65536 * 100000)

/-- JMAX in planner units; 0 is unbounded (10 R330). -/
def jmaxOf (s : State) (n : Nat) : Int := (s.inForce (R.AXIS_JMAX n)).toNat * 1024 * 65536

/-- A speed register in planner units, scaled by a factor; above 100,000,000 it is taken as that. -/
def speedOf (s : State) (a : Nat) (factor : Nat) : Int :=
  min 100000000 (s.inForce a).toNat * factor * 16 * fineV

/-- The bounds of a planner move under a factor (10 R330). -/
def moveBounds (s : State) (n factor : Nat) : Bounds :=
  ⟨speedOf s (R.AXIS_VMAX n) factor, amaxOf s n, dmaxOf s n, jmaxOf s n⟩

/-- Where an axis would come to rest under a deceleration, in planner units. -/
def restOf (s : State) (n : Nat) (d : Int) (p v a : Int) : Int := p + restFrom d (jmaxOf s n) v a

/-! ### The registers an axis shows -/

/-- POS, VEL and, where a distance remains, REMAIN brought up to date. -/
def axShow (s : State) (n : Nat) : State :=
  let x := s.axis n
  let s := s.setSreg64 (R.AXIS_POS_LO n) (axPos x)
  s.setSfld (R.AXIS_VEL n) F.AXIS_VEL_VALUE (satSigned 32 (divRound x.v (fineV * 65536)))

/-- REMAIN: the distance to the kept target from the present position, 0 where there is none (10 R334, R335). -/
def setRemain (s : State) (n : Nat) (keep : Bool) : State :=
  let x := s.axis n
  s.setSreg64 (R.AXIS_REMAIN_LO n) (if keep && x.aim then x.goal - axPos x else 0)

/-- STOPPED entered with the distance kept; a homing leaves none (10 R324, R334; log entry 101). -/
def enterStopped (s : State) (n : Nat) : State :=
  let s := setRemain (setAxState s n 6) n true
  (setAxBit s n F.AXIS_STATUS_RESUMABLE (s.axis n).aim).raise (Ev.axis n 1)

/-- IDLE entered: no distance remains (10 R324, R334). -/
def enterIdle (s : State) (n : Nat) : State :=
  let x := s.axis n
  let s := s.setAxis n { x with brake := none, table := none, home := none, port := none, back := none, forth := false,
                                aim := false }
  let s := setRemain (setAxState s n 1) n false
  setAxBit (setAxBit s n F.AXIS_STATUS_RESUMABLE false) n F.AXIS_STATUS_RUNUP_DUE false

/-- A move, table or homing completes (10 R349). -/
def enterDone (s : State) (n : Nat) : State := (enterIdle s n).raise (Ev.axis n 0)

/-- FAULT_MODE in force; 0b00 is taken as 0b01 (10 R335). -/
def faultMode (s : State) (n : Nat) : Nat := max 1 (s.actFld (R.AXIS_CFG n) F.AXIS_CFG_FAULT_MODE)

/-- Whether any fault bit of an axis is set (10 R335). -/
def anyFault (s : State) (n : Nat) : Bool :=
  [F.AXIS_STATUS_POWER, F.AXIS_STATUS_FOLLOW, F.AXIS_STATUS_FB_LOST, F.AXIS_STATUS_HARD_LIMIT,
    F.AXIS_STATUS_HOME_FAIL, F.AXIS_STATUS_LIMIT_FAULT, F.AXIS_STATUS_STEP_LIMIT].any (axBit s n)

/-- The axis leaves FAULT for STOPPED when every fault bit has been cleared (10 R335). -/
def faultLeave (s : State) (n : Nat) : State :=
  if axState s n = 8 ∧ !anyFault s n then
    let x := s.axis n
    let s := setRemain (setAxState s n 6) n true
    (setAxBit s n F.AXIS_STATUS_RESUMABLE (x.aim && decide (x.goal ≠ axPos x))).raise (Ev.axis n 1)
  else s

/-- A fault is reported to the thermal port whose request moves the axis (10 R346). -/
def tellPort (s : State) (n : Nat) : State :=
  match (s.axis n).port with
  | some t => shutAbort 2 (s.setAxis n { s.axis n with port := none }) t
  | none => s

/-- A fault's coils: without current they may let the rotor move, and without feedback the position is lost (10 R336). -/
def coilsFault (s : State) (n : Nat) (power : Bool) : State :=
  let off := power || decide (faultMode s n ≤ 2)
  let fb := s.actBit (R.AXIS_CFG n) F.AXIS_CFG_FB_EN
  let s := s.setAxis n { s.axis n with off := (s.axis n).off || off }
  s.cond (off && !fb) (fun s => setAxBit (setAxBit s n F.AXIS_STATUS_HOMED false) n F.AXIS_STATUS_POS_LOST true)

/-- FAULT entered at rest: distance is kept (10 R324, R335, R336). -/
def enterFault (s : State) (n : Nat) (power : Bool) : State :=
  let x := s.axis n
  let s := s.setAxis n { x with v := 0, a := 0, brake := none, table := none, home := none, port := none,
                                back := none, forth := false }
  let s := coilsFault (setRemain (setAxState s n 8) n true) n power
  axShow (setAxBit s n F.AXIS_STATUS_RESUMABLE (x.aim && decide (x.goal ≠ axPos x))) n

/-- TABLE_LEFT when a table is left for good (10 R329). -/
def leaveTable (s : State) (n : Nat) : State :=
  let x := s.axis n
  if x.table.isSome then (s.setAxis n { x with table := none }).flag (R.AXIS_STATUS n) F.AXIS_STATUS_TABLE_LEFT else s

/-- A braking begins: the axis is in STOPPING (10 R334). -/
def startBrake (s : State) (n : Nat) (b : Braking) : State :=
  let s := leaveTable s n
  setAxState (s.setAxis n { s.axis n with brake := some b }) n 5

/-- A fault bit becomes set, with the FAULT event (10 R335, R349). -/
def faultBit (s : State) (n : Nat) (f : Fld) : State := tellPort (axFlag s n f 2) n

/-- A fault that acts at once (10 R335): a disabled axis stays so, and an axis in FAULT stays there, and the fault's coils
act (10 R336). -/
def faultNow (s : State) (n : Nat) (f : Fld) (power : Bool) : State :=
  let s := faultBit s n f
  if axState s n = 0 ∨ axState s n = 8 then coilsFault s n power
  else enterFault (leaveTable s n) n power

/-- A fault that brakes with LIMIT_DECEL and JMAX first (10 R335). -/
def faultBrake (s : State) (n : Nat) (f : Fld) : State :=
  let s := faultBit s n f
  let s := s.setAxis n { s.axis n with home := none }
  startBrake s n ⟨none, true, .fault⟩

/-! ### Commands and commits -/

/-- A command or a set refused (10 R323). -/
def cmdRefused (s : State) (n : Nat) : State := axFlag s n F.AXIS_STATUS_CMD_REFUSED 7

/-- Fields of a set that are left out: their shadows return to the values in force (18 R529). -/
def dropShadows (s : State) (l : List Nat) : State := l.foldl (fun s a => s.setReg a (s.inForce a)) s

/-- Whether a target is pending: a distance remains to it, and the axis does not brake to IDLE (10 R323, R334). A homing
has none. -/
def hasGoal (s : State) (n : Nat) : Bool :=
  let st := axState s n
  let x := s.axis n
  x.aim && x.brake.all (fun b => b.after != .idle) &&
    (decide (st = 2 ∨ st = 3 ∨ st = 5 ∨ st = 7) || axBit s n F.AXIS_STATUS_RESUMABLE)

/-- Whether a shadow set changes the TARGET of a planner move in progress, which the planner then follows (10 R323, R331).
A MOVE sets its own. -/
def retargets (s : State) (n : Nat) : Bool :=
  let x := s.axis n
  decide (axState s n = 2) && x.port.isNone && x.aim && decide (x.cmd ≠ some 1) &&
    decide (s.sreg64 (R.AXIS_TARGET_LO n) ≠ s.sinForce64 (R.AXIS_TARGET_LO n))

/-- The axis's shadow set taken at a tick, without what R323 leaves out; a changed TARGET is the one a move in progress
heads for (10 R331). -/
def axTake (s : State) (n : Nat) : State :=
  let lims := [R.AXIS_POS_MIN_LO n, R.AXIS_POS_MIN_HI n, R.AXIS_POS_MAX_LO n, R.AXIS_POS_MAX_HI n, R.AXIS_HOME_POS_LO n,
    R.AXIS_HOME_POS_HI n]
  let s := s.cond (retargets s n) (fun s => s.setAxis n { s.axis n with goal := s.sreg64 (R.AXIS_TARGET_LO n) })
  let x := s.axis n
  let lo := s.sreg64 (R.AXIS_POS_MIN_LO n)
  let hi := s.sreg64 (R.AXIS_POS_MAX_LO n)
  let on := s.bit (R.AXIS_CFG n) F.AXIS_CFG_LIMITS_EN && axBit s n F.AXIS_STATUS_HOMED
  let out : Int → Bool := fun p => decide (p < lo) || decide (hi < p)
  let bad := decide (hi ≤ lo) || (on && (out (axPos x) || (hasGoal s n && out x.goal)))
  let h := s.fld (R.AXIS_PACE n) F.AXIS_PACE_HIGH_MARK
  let l := s.fld (R.AXIS_PACE n) F.AXIS_PACE_LOW_MARK
  let r := s.fld (R.AXIS_PACE_RESUME n) F.AXIS_PACE_RESUME_RESUME_MARK
  let badPace := decide (h ≤ l ∨ r < l ∨ h < r)
  let s := s.cond bad (fun s => dropShadows s lims)
  let s := s.cond badPace (fun s => dropShadows s [R.AXIS_PACE n, R.AXIS_PACE_RESUME n])
  let s := s.setBit (R.AXIS_CTRL n) F.AXIS_CTRL_COMMIT_PENDING true
  let s := (axUnit n).take s
  s.cond (bad || badPace) (fun s => axFlag s n F.AXIS_STATUS_CFG_REFUSED 7)

/-- The state follows ENABLE in force: DISABLED, or IDLE when taken from DISABLED (10, AXIS_n_CFG). -/
def axEnable (s : State) (n : Nat) : State :=
  let en := s.actBit (R.AXIS_CFG n) F.AXIS_CFG_ENABLE
  if !en ∧ axState s n ≠ 0 then
    let s := tellPort s n
    let x := s.axis n
    axShow (setAxState (enterIdle (s.setAxis n { x with v := 0, a := 0, goal := axPos x }) n) n 0) n
  else if en ∧ axState s n = 0 then enterIdle s n
  else s

/-- Whether a command is accepted in the present state (10 R325). -/
def cmdAccepted (s : State) (n c : Nat) : Bool :=
  let st := axState s n
  if c = 1 then decide (st = 1 ∨ st = 2 ∨ st = 6 ∨ st = 7)
  else if c = 2 ∨ c = 3 then decide (st = 1 ∨ st = 6)
  else if c = 4 ∨ c = 5 then decide (st = 2 ∨ st = 3 ∨ st = 4 ∨ st = 7)
  else if c = 6 then decide (1 ≤ st)
  else if c = 7 then decide (st = 6) && axBit s n F.AXIS_STATUS_RESUMABLE
  else false

/-- AXIS_n_CMD written: the command waits for the next tick, or is refused (10 R323, R325). A later write before the
tick replaces the one that waits. -/
def axCommand (s : State) (n c : Nat) : State :=
  if (axUnit n).waits s ∨ !cmdAccepted s n c then cmdRefused s n
  else s.setAxis n { s.axis n with cmd := some c }

/-- A target refused, with the LIMIT event (10 R327, R333, R340, R349). -/
def targetRefused (s : State) (n : Nat) : State := axFlag s n F.AXIS_STATUS_TARGET_REFUSED 5

/-- How many ticks a switch must read active: DEBOUNCE x 0.1 ms (10 R337, R340). -/
def debounceTicks (s : State) (n : Nat) : Nat := 10 * min 100 (s.actFld (R.AXIS_HOME_CFG n) F.AXIS_HOME_CFG_DEBOUNCE)

/-- Whether the hard limit on a side reads active, judged with DEBOUNCE (10 R340). -/
def hardAt (s : State) (n : Nat) (up : Bool) : Bool :=
  s.actBit (R.AXIS_CFG n) F.AXIS_CFG_HARD_EN &&
    decide (debounceTicks s n < (if up then (s.axis n).limP else (s.axis n).limN))

/-- Whether a target may be taken: inside the virtual limits, and not toward an active hard limit (10 R333, R340). -/
def targetAllowed (s : State) (n : Nat) (t : Int) : Bool :=
  let p := axPos (s.axis n)
  !(limitsOn s n && outside s n t) && !(hardAt s n true && decide (p < t)) && !(hardAt s n false && decide (t < p))

/-- A replan in motion: where braking under DMAX carries the axis past its target, the path turns back, or, where the
turn lies beyond a limit, LIMIT_DECEL decides where it rests (10 R332). -/
def replan (s : State) (n : Nat) : State :=
  let x := s.axis n
  if axState s n ≠ 2 ∨ x.back.isSome then s
  else
    let f : Int := if x.v < 0 then -1 else 1
    let goal := x.goal * fineP
    let rest := restOf s n (dmaxOf s n) x.p x.v x.a
    if f * rest ≤ f * goal + fineP ∨ x.v = 0 then s
    else
      let s := axFlag s n F.AXIS_STATUS_OVERSHOOT_PLANNED 5
      let lim := if x.v < 0 then posMin s n * fineP else posMax s n * fineP
      if !limitsOn s n ∨ f * rest ≤ f * lim then s
      else
        let hard := restOf s n (limitDecelOf s n) x.p x.v x.a
        if f * hard ≤ f * goal then startBrake s n ⟨some x.goal, true, .limitDone⟩
        else if f * hard ≤ f * lim then startBrake s n ⟨some (divRound lim fineP), true, .limitStop⟩
        else startBrake (faultBit s n F.AXIS_STATUS_LIMIT_FAULT) n ⟨none, true, .fault⟩

/-- A move begins toward a target; one taken in PAUSED replaces the target, a table's too, and the pause continues (10
R325, R330). -/
def startMove (s : State) (n : Nat) (t : Int) (port : Option Nat) : State :=
  let s := leaveTable (tellPort s n) n
  let x := s.axis n
  let s := s.setAxis n { x with goal := t, aim := true, port := port, back := none, forth := false, brake := none,
                                off := false }
  if axState s n = 7 then setRemain s n true
  else
    let s := setRemain s n false
    let s := setAxBit (setAxBit s n F.AXIS_STATUS_RESUMABLE false) n F.AXIS_STATUS_RUNUP_DUE false
    replan (setAxState s n 2) n

/-- The address of word w of segment i of an axis (10, MOT registers). -/
def segAddr (n i w : Nat) : Nat := R.MOT_SEGMENT n (8 * i + w)

/-- DURATION of a segment, in ticks. -/
def segDuration (s : State) (n i : Nat) : Nat := (s.reg (segAddr n i 0)).toNat

/-- POSITION of a segment, in 2^-16 microstep. -/
def segPosition (s : State) (n i : Nat) : Int := s.sreg64 (segAddr n i 2)

/-- VELOCITY of a segment, in 2^-16 microstep/s. -/
def segVelocity (s : State) (n i : Nat) : Int := s.sreg64 (segAddr n i 4)

/-- TABLE taken: its segments judged, the first one begins (10 R327, R328). -/
def startTable (s : State) (n : Nat) : State :=
  let first := s.actFld (R.AXIS_TABLE n) F.AXIS_TABLE_FIRST
  let count := s.actFld (R.AXIS_TABLE n) F.AXIS_TABLE_COUNT
  let segs := (List.range count).map (first + ·)
  if count = 0 ∨ 1024 < first + count ∨ segs.any (fun i => segDuration s n i == 0) then cmdRefused s n
  else if limitsOn s n ∧ segs.any (fun i => outside s n (segPosition s n i)) then targetRefused s n
  else
    let x := s.axis n
    let s := setAxBit (setAxBit (setRemain s n false) n F.AXIS_STATUS_RESUMABLE false) n F.AXIS_STATUS_RUNUP_DUE false
    setAxState (s.setAxis n { x with table := some { seg := first, left := count, p0 := axPos x, v0 := 0 },
                                     goal := segPosition s n (first + count - 1), aim := true, off := false }) n 3

/-- Whether the home switch reads active (10 R337). -/
def homeOn (s : State) (n : Nat) : Bool :=
  pinIn s (s.actFld (R.AXIS_HOME_CFG n) F.AXIS_HOME_CFG_HOME_PIN) != s.actBit (R.AXIS_HOME_CFG n) F.AXIS_HOME_CFG_HOME_INV

/-- Whether the home switch counts: it is ignored after a latch until the commanded position differs from HOME_POS by more
than RELEASE_DIST (10 R338). -/
def homeHeard (s : State) (n : Nat) : Bool := !(s.axis n).mute

/-- The ignored home switch counts again (10 R338). -/
def homeUnmute (s : State) (n : Nat) : State :=
  let x := s.axis n
  let dist : Int := (s.inForce (R.AXIS_RELEASE_DIST n)).toNat * 65536
  if x.mute && decide (dist < |axPos x - s.sinForce64 (R.AXIS_HOME_POS_LO n)|) then s.setAxis n { x with mute := false } else s

/-- HOME taken: a search, or a release first where the switch reads active (10 R337). -/
def startHome (s : State) (n : Nat) : State :=
  let up := s.actBit (R.AXIS_HOME_CFG n) F.AXIS_HOME_CFG_HOME_DIR
  let on := homeOn s n
  let x := s.axis n
  let phase := if on && homeHeard s n then 0 else 1
  let s := setAxBit (setAxBit (setRemain s n false) n F.AXIS_STATUS_RESUMABLE false) n F.AXIS_STATUS_RUNUP_DUE false
  setAxState (s.setAxis n { x with home := some { phase := phase, up := up, wasOn := on }, aim := false }) n 4

/-- The feedback offset set so that fb equals the commanded position (10 R341). -/
def fbRaw (s : State) (n : Nat) : Int :=
  (encPos s (s.actFld (R.AXIS_CFG n) F.AXIS_CFG_FB_IF) * (s.inForce (R.AXIS_FB_SCALE n)).toNat).fdiv (2 ^ 24)

/-- The feedback offset re-synchronised (10 R336, R337, R341). -/
def fbSync (s : State) (n : Nat) : State :=
  let x := s.axis n
  s.setAxis n { x with fbOfs := axPos x - fbRaw s n }

/-- The run-up of an axis begins: it backs off against the direction it had before the pause, unpaced (10 R344). -/
def startRunUp (s : State) (n : Nat) : State :=
  let x := s.axis n
  let d : Int := (s.inForce (R.AXIS_RUN_UP n)).toNat * 65536
  setAxState (s.setAxis n { x with back := some (axPos x + (if x.way then -d else d)), forth := false }) n 2

/-- RESUME (10 R334, R336): after a fault without current the feedback position is taken first. -/
def doResume (s : State) (n : Nat) : State :=
  let x := s.axis n
  let fb := s.actBit (R.AXIS_CFG n) F.AXIS_CFG_FB_EN
  let s := s.cond (x.off && fb) (fun s => s.setAxis n { x with p := (fbRaw s n + x.fbOfs) * fineP })
  let s := s.setAxis n { s.axis n with off := false, fbMiss := 0 }
  let s := setAxBit s n F.AXIS_STATUS_RESUMABLE false
  if axBit s n F.AXIS_STATUS_RUNUP_DUE then startRunUp s n else setAxState s n 2

/-- A stop: braking, or STOPPED at once from a pause (10 R334, R347). -/
def doStop (s : State) (n : Nat) (byLimit : Bool) : State :=
  if axState s n = 7 then enterStopped (leaveTable s n) n
  else
    let s := tellPort (s.setAxis n { s.axis n with home := none, back := none, forth := false }) n
    startBrake s n ⟨none, byLimit, .stopped⟩

/-- ABORT: braking to IDLE, at once where the axis rests (10 R334). -/
def doAbort (s : State) (n : Nat) : State :=
  let st := axState s n
  if st = 1 ∨ st = 6 ∨ st = 7 ∨ st = 8 then enterIdle (leaveTable s n) n
  else
    let s := tellPort (s.setAxis n { s.axis n with home := none, back := none, forth := false }) n
    startBrake s n ⟨none, false, .idle⟩

/-- The command that waits acts at the tick, with the axis's shadow set (10 R323, R325); one that the state no longer
accepts is refused. -/
def axObey (s : State) (n : Nat) : State :=
  match (s.axis n).cmd with
  | none => if (axUnit n).waits s then replan (axEnable (axTake s n) n) n else s
  | some c =>
    let s := axTake s n
    let s := axEnable (s.setAxis n { s.axis n with cmd := none }) n
    if !cmdAccepted s n c then cmdRefused s n
    else if c = 1 then
      let t := s.sinForce64 (R.AXIS_TARGET_LO n)
      if targetAllowed s n t then startMove s n t none else replan (targetRefused s n) n
    else if c = 2 then startTable s n
    else if c = 3 then startHome s n
    else if c = 4 then doStop s n false
    else if c = 5 then doStop s n true
    else if c = 6 then doAbort s n
    else doResume s n

/-! ### Motion of one tick -/

/-- What happens at rest after a braking. -/
def afterRest (s : State) (n : Nat) : AfterRest → State
  | .stopped => enterStopped s n
  | .idle => enterIdle s n
  | .done => enterDone s n
  | .limitDone => enterDone (axFlag s n F.AXIS_STATUS_LIMIT_STOP 5) n
  | .limitStop => enterStopped (axFlag s n F.AXIS_STATUS_LIMIT_STOP 5) n
  | .fault => faultLeave (enterFault s n false) n
  | .search =>
    match (s.axis n).home with
    | some h =>
      let up := if h.phase = 0 then h.up else !h.up
      setAxState (s.setAxis n { s.axis n with home := some { h with phase := 1, up := up, reversed := true } }) n 4
    | none => s
  | .homed =>
    let x := s.axis n
    let d := s.sinForce64 (R.AXIS_HOME_POS_LO n) - s.sreg64 (R.AXIS_HOME_LATCH_LO n)
    let s := s.setAxis n { x with p := x.p + d * fineP, goal := x.goal + d }
    let s := setAxBit (setAxBit s n F.AXIS_STATUS_HOMED true) n F.AXIS_STATUS_POS_LOST false
    let s := s.cond (s.actBit (R.AXIS_CFG n) F.AXIS_CFG_FB_EN) (fun s => fbSync s n)
    (enterDone (s.setAxis n { s.axis n with off := false, mute := true }) n).raise (Ev.axis n 6)

/-- The position, velocity and acceleration of a table at its clock, for a factor (10 R328, R345). -/
def axTableAt (s : State) (n : Nat) (t : TableRun) (factor : Nat) : Int × Int × Int :=
  let dur : Int := segDuration s n t.seg
  let m : Int := 4096 * dur
  let c : Int := t.clock
  let p1 := segPosition s n t.seg
  let v1 := segVelocity s n t.seg
  let p := divRound (100000 * ((2 * c ^ 3 - 3 * c ^ 2 * m + m ^ 3) * t.p0 + (3 * c ^ 2 * m - 2 * c ^ 3) * p1) +
    dur * ((c ^ 3 - 2 * c ^ 2 * m + c * m ^ 2) * t.v0 + (c ^ 3 - c ^ 2 * m) * v1)) (100000 * m ^ 3)
  let f : Int := factor
  let v := divRound (f * fineV * (100000 * (6 * c ^ 2 - 6 * c * m) * (t.p0 - p1) +
    dur * ((3 * c ^ 2 - 4 * c * m + m ^ 2) * t.v0 + (3 * c ^ 2 - 2 * c * m) * v1))) (4096 * dur * m ^ 2)
  let a := divRound (f * f * 100000 * 100000 * (100000 * (12 * c - 6 * m) * (t.p0 - p1) +
    dur * ((6 * c - 4 * m) * t.v0 + (6 * c - 2 * m) * v1))) (4096 * 4096 * dur * dur * m)
  (p * fineP, v, a)

/-- The table clock advanced by a factor: the segment reached, or none after the last one (10 R328, R329, R345). -/
def tableStep (s : State) (n : Nat) (t : TableRun) (factor : Nat) : TableRun × Bool :=
  let c := t.clock + factor
  let m := 4096 * segDuration s n t.seg
  if c < m then ({ t with clock := c }, false)
  else if t.left ≤ 1 then ({ t with clock := m }, true)
  else if c = m then ({ t with clock := m }, false)
  else ({ seg := t.seg + 1, left := t.left - 1, clock := c - m, p0 := segPosition s n t.seg,
          v0 := segVelocity s n t.seg }, decide (t.left ≤ 2 ∧ 4096 * segDuration s n (t.seg + 1) ≤ c - m))

/-- A commanded step of more than 1,024 microsteps in a tick (10 R326). -/
def stepTooLong (p p' : Int) : Bool :=
  decide (1024 * 65536 < (divRound p' fineP - divRound p fineP).natAbs)

/-- The position, velocity and acceleration of a tick take effect, or the step is a STEP_LIMIT fault (10 R326). -/
def axAdvance (s : State) (n : Nat) (p v a : Int) (k : State → State) : State :=
  let x := s.axis n
  if stepTooLong x.p p then faultNow s n F.AXIS_STATUS_STEP_LIMIT false
  else k (s.setAxis n { x with p := p, v := v, a := a, up := if v = 0 then x.up else decide (0 < v) })

/-- Whether the virtual limits take an axis off its move: following it for the tick would carry its rest under
LIMIT_DECEL beyond a limit (10 R333). -/
def limitHit (s : State) (n : Nat) (p v a : Int) : Option Int :=
  if !limitsOn s n then none
  else
    let rest := restOf s n (limitDecelOf s n) p v a
    if 0 < v ∧ posMax s n * fineP < rest then some (posMax s n)
    else if v < 0 ∧ rest < posMin s n * fineP then some (posMin s n)
    else none

/-- Where a braking comes to rest, and its position, velocity and acceleration a tick later (10 R334). -/
def brakePlan (s : State) (n : Nat) (b : Braking) : Int × Int × Int × Int :=
  let x := s.axis n
  let d := if b.byLimit then limitDecelOf s n else dmaxOf s n
  let goal := match b.point with
    | some g => g * fineP
    | none => divRound (restOf s n d x.p x.v x.a) fineP * fineP
  (goal, planTick ⟨|x.v|, d, d, jmaxOf s n⟩ goal x.p x.v x.a)

/-- One tick of a braking (10 R334). -/
def brakeTick (s : State) (n : Nat) (b : Braking) : State :=
  let (goal, p, v, a) := brakePlan s n b
  axAdvance s n p v a (fun s =>
    if p = goal ∧ v = 0 ∧ a = 0 then afterRest (s.setAxis n { s.axis n with brake := none }) n b.after else s)

/-- A move left for a limit: braking to rest at it, or beyond it with LIMIT_FAULT where LIMIT_DECEL does not suffice
(10 R332, R333). -/
def limitLeave (s : State) (n : Nat) (lim : Int) : State :=
  let x := s.axis n
  let rest := restOf s n (limitDecelOf s n) x.p x.v x.a
  let beyond := if 0 < x.v then decide (lim * fineP + fineP < rest) else decide (rest < lim * fineP - fineP)
  let s := tellPort (s.setAxis n { x with back := none, forth := false }) n
  if beyond then
    let s := startBrake (faultBit s n F.AXIS_STATUS_LIMIT_FAULT) n ⟨none, true, .fault⟩
    brakeTick s n ⟨none, true, .fault⟩
  else
    let b : Braking := ⟨some lim, true, .limitStop⟩
    brakeTick (startBrake s n b) n b

/-- One tick of the run-out after a table's last segment, which the virtual limits may cut short (10 R329, R333). -/
def runOutTick (s : State) (n : Nat) (b : Braking) : State :=
  let (_, p, v, a) := brakePlan s n b
  match limitHit s n p v a with
  | some lim => limitLeave s n lim
  | none => brakeTick s n b

/-- A planner move that ends at rest with the factor at 0 pauses (10 R343). -/
def enterPause (s : State) (n : Nat) : State :=
  let s := setRemain (setAxState (s.setAxis n { s.axis n with way := (s.axis n).up }) n 7) n true
  let s := (setAxBit s n F.AXIS_STATUS_RUNUP_DUE true).raise (Ev.axis n 3)
  holdStart n s

/-- One tick of a planner move toward a goal (10 R330, R333, R342 to R344). -/
def moveTick (s : State) (n : Nat) : State :=
  let x := s.axis n
  let paced := x.port.isNone && x.back.isNone
  let f := if paced then paceFactor s n else 4096
  let goal := (x.back.getD x.goal) * fineP
  let bd := moveBounds s n f
  let goal' := if f = 0 then divRound (restOf s n bd.dmax x.p x.v x.a) fineP * fineP else goal
  let (p, v, a) := planTick (if f = 0 then { bd with vmax := |x.v| } else bd) goal' x.p x.v x.a
  match limitHit s n p v a with
  | some lim => limitLeave s n lim
  | none =>
    axAdvance s n p v a (fun s =>
      if v ≠ 0 ∨ a ≠ 0 then s
      else if x.back.isSome then
        if p = goal then
          setAxBit (s.setAxis n { s.axis n with back := none, forth := true }) n F.AXIS_STATUS_RUNUP_DUE false
        else s
      else if p = goal then enterDone s n
      else if f = 0 then enterPause s n
      else s)

/-- One tick of a segment table (10 R328, R329, R333, R345). -/
def tableTick (s : State) (n : Nat) (t : TableRun) : State :=
  let f := paceFactor s n
  if f = 0 then
    let x := s.axis n
    let s := s.setAxis n { x with v := 0, a := 0, way := x.up }
    holdStart n (setRemain (setAxState s n 7) n true)
  else
    let (t', last) := tableStep s n t f
    let (p, v, a) := axTableAt s n t' f
    match limitHit s n p v a with
    | some lim => limitLeave s n lim
    | none =>
      axAdvance s n p v a (fun s =>
        let s := s.setAxis n { s.axis n with table := some t' }
        if !last then s
        else if segVelocity s n t'.seg = 0 then enterDone (s.setAxis n { s.axis n with v := 0, a := 0 }) n
        else s.setAxis n { s.axis n with table := none, brake := some ⟨none, false, .done⟩ })

/-- The motion of a homing at HOME_VEL in a direction for one tick, and what its position then shows (10 R337). -/
def homeDrive (s : State) (n : Nat) (up : Bool) (k : State → State) : State :=
  let x := s.axis n
  let bd : Bounds := ⟨speedOf s (R.AXIS_HOME_VEL n) 4096, amaxOf s n, dmaxOf s n, jmaxOf s n⟩
  let far : Int := if up then 2 ^ 70 * fineP else -(2 ^ 70 * fineP)
  let (p, v, a) := planTick bd far x.p x.v x.a
  axAdvance s n p v a k

/-- A qualified edge of the home switch: the axis brakes to rest (10 R337). -/
def homeLatch (s : State) (n : Nat) (h : HomeRun) (at_ : Int) : State :=
  let s := s.setSreg64 (R.AXIS_HOME_LATCH_LO n) at_
  let b : Braking := ⟨none, false, .homed⟩
  s.setAxis n { s.axis n with home := some { h with phase := 2, cand := none }, brake := some b }

/-- The release judged at a tick's position: the switch inactive for the debounce time, then RELEASE_DIST (10 R337). -/
def homeRelease (s : State) (n : Nat) (h : HomeRun) : State :=
  let on := homeOn s n
  let pos := axPos (s.axis n)
  let off := if on then 0 else h.off + 1
  let rel := if on then none else if debounceTicks s n < off then some (h.released.getD pos) else none
  let dist : Int := (s.inForce (R.AXIS_RELEASE_DIST n)).toNat * 65536
  let h' := if rel.any (fun r => decide (dist ≤ |pos - r|)) then { h with phase := 1, wasOn := false, cand := none }
    else { h with off := off, released := rel }
  s.setAxis n { s.axis n with home := some h' }

/-- The search judged at a tick's position: an edge, its debounce time, the latch of the position at the edge's tick (10
R337, R338). -/
def homeSearch (s : State) (n : Nat) (h : HomeRun) : State :=
  let on := homeOn s n
  let cand := if !on || !homeHeard s n then none
    else match h.cand with
      | some (p, k) => some (p, k + 1)
      | none => if h.wasOn then none else some (axPos (s.axis n), 0)
  let wait := s.setAxis n { s.axis n with home := some { h with cand := cand, wasOn := on } }
  match cand with
  | some (p, k) => if debounceTicks s n ≤ k then homeLatch s n h p else wait
  | none => wait

/-- One tick of the release or of the search (10 R337). -/
def homeSeek (s : State) (n : Nat) (h : HomeRun) : State :=
  if h.phase = 0 then homeDrive s n (!h.up) (fun s => homeRelease s n h)
  else homeDrive s n h.up (fun s => homeSearch s n h)

/-- A hard limit during a homing: one reversal, then HOME_FAIL (10 R339). -/
def homeHard (s : State) (n : Nat) (h : HomeRun) : State :=
  if h.reversed then
    let s := faultBrake s n F.AXIS_STATUS_HOME_FAIL
    brakeTick s n ⟨none, true, .fault⟩
  else
    let b : Braking := ⟨none, true, .search⟩
    let h' := { h with reversed := true, cand := none }
    brakeTick (s.setAxis n { s.axis n with brake := some b, home := some h' }) n b

/-- Whether an edge of the home switch comes at this tick (10 R337, R338). -/
def homeEdge (s : State) (n : Nat) (h : HomeRun) : Bool :=
  decide (h.phase = 1) && homeOn s n && homeHeard s n && !h.wasOn

/-- Whether the hard limit a homing moves toward reads active (10 R339). -/
def homeHit (s : State) (n : Nat) (h : HomeRun) : Bool :=
  let v := (s.axis n).v
  let way := if h.phase = 0 then !h.up else h.up
  decide (0 < v) == way && decide (v ≠ 0) && hardAt s n way

/-- One tick of a homing (10 R337 to R339). An edge whose debounce time runs comes before a hard limit; of an edge and a
limit that meet, the limit wins with `limFirst`, and the loser is counted (10 R347). -/
def homeTick (s : State) (n : Nat) (h : HomeRun) (limFirst : Bool) : State :=
  let hit := homeHit s n h
  let edge := homeEdge s n h
  let runs := h.cand.isSome && homeOn s n
  let s := s.lost (hit && edge) (R.AXIS_RACE n)
  if hit ∧ !runs ∧ (!edge ∨ limFirst) then homeHard s n h else homeSeek s n h

/-- The motion of one tick, by state (10 R324). -/
def axMotion (s : State) (n : Nat) (limFirst : Bool) : State :=
  let x := s.axis n
  match x.brake with
  | some b => if axState s n = 3 then runOutTick s n b else brakeTick s n b
  | none =>
    let st := axState s n
    if st = 2 then moveTick s n
    else if st = 3 then (match x.table with
      | some t => tableTick s n t
      | none => s)
    else if st = 4 then (match x.home with
      | some h => homeTick s n h limFirst
      | none => s)
    else s

/-! ### Switches, feedback, pacing, port requests -/

/-- The debounce counters of the hard limits (10 R340). -/
def axSwitches (s : State) (n : Nat) : State :=
  let c := R.AXIS_HOME_CFG n
  let inv := s.actBit c F.AXIS_HOME_CFG_LIM_INV
  let x := s.axis n
  let cnt : Nat → Bool → Nat := fun k b => if b then min 1001 (k + 1) else 0
  s.setAxis n { x with limN := cnt x.limN (pinIn s (s.actFld c F.AXIS_HOME_CFG_LIMN_PIN) != inv),
                       limP := cnt x.limP (pinIn s (s.actFld c F.AXIS_HOME_CFG_LIMP_PIN) != inv) }

/-- A hard limit reached outside homing while the commanded velocity points toward it (10 R340): in a braking for a
further fault too, but for the one of the homing it ends. After the latch of a homing it acts if HOMED (10 R347). -/
def axHard (s : State) (n : Nat) : State :=
  let x := s.axis n
  let st := axState s n
  let hit := (decide (0 < x.v) && hardAt s n true) || (decide (x.v < 0) && hardAt s n false)
  let known := axBit s n F.AXIS_STATUS_HARD_LIMIT || axBit s n F.AXIS_STATUS_HOME_FAIL
  let fresh := x.brake.all (fun b => b.after != .fault) || !known
  let latched := decide (st = 4) && x.home.any (fun h => h.phase == 2) && axBit s n F.AXIS_STATUS_HOMED
  if hit && fresh && (decide (st = 2 ∨ st = 3 ∨ st = 5) || latched) then faultBrake s n F.AXIS_STATUS_HARD_LIMIT else s

/-- The feedback of one tick: fb, the following error, FOLLOW and FB_LOST (10 R341). After a fault that de-energised the
coils the error is judged again from the next motion on: its RESUME takes the feedback position (10 R336; log entry
37). -/
def axFeedback (s : State) (n : Nat) : State :=
  let on := s.actBit (R.AXIS_CFG n) F.AXIS_CFG_FB_EN
  if !on then
    (s.setAxis n { s.axis n with fbOn := false, fbMiss := 0 }).setBit (R.AXIS_STATUS n) F.AXIS_STATUS_FB_INVALID false
  else
    let s := if (s.axis n).fbOn then s else fbSync (s.setAxis n { s.axis n with fbOn := true, fbMiss := 0 }) n
    let x := s.axis n
    let fb := fbRaw s n + x.fbOfs
    let err := axPos x - fb
    let s := s.setSreg64 (R.AXIS_FB_POS_LO n) fb
    let s := s.setSfld (R.AXIS_FOLLOW_ERR n) F.AXIS_FOLLOW_ERR_VALUE (satSigned 32 err)
    let ok := s.bit (R.ENC_STATUS (s.actFld (R.AXIS_CFG n) F.AXIS_CFG_FB_IF)) F.ENC_STATUS_VALID
    let s := setAxBit s n F.AXIS_STATUS_FB_INVALID !ok
    if ok then
      let s := s.setAxis n { x with fbMiss := 0 }
      if !x.off ∧ (((s.inForce (R.AXIS_FOLLOW_LIMIT n)).toNat * 65536 : Nat) : Int) < |err| then
        faultNow s n F.AXIS_STATUS_FOLLOW false
      else s
    else
      let s := s.setAxis n { x with fbMiss := min 100 (x.fbMiss + 1) }
      if 100 ≤ x.fbMiss + 1 then faultNow s n F.AXIS_STATUS_FB_LOST false else s

/-- The stream whose pacing axis an axis is: of several, the fullest one counts (10 R342). -/
def paceFill (s : State) (n : Nat) : Option Nat :=
  let l := (List.range 16).filter (fun i => (s.stream i).enabled && (s.stream i).driven && (s.stream i).pacingAxis == n)
  if l = [] ∨ !s.runActive then none
  else some ((l.map (fun i => paceFillOf s i)).foldl max 0)

/-- The target factor of a fill (10 R342). -/
def paceTarget (s : State) (n fill : Nat) : Nat :=
  let h := s.actFld (R.AXIS_PACE n) F.AXIS_PACE_HIGH_MARK
  let l := s.actFld (R.AXIS_PACE n) F.AXIS_PACE_LOW_MARK
  if fill ≤ l then 4096 else if h ≤ fill then 0 else 4096 * (h - fill) / (h - l)

/-- A paused axis resumes: a planner move by its run-up, a table at once as F rises (10 R344, R345). -/
def pauseEnd (s : State) (n fill : Nat) : State :=
  if axState s n ≠ 7 then s
  else if (s.axis n).table.isSome then (if paceFactor s n = 0 then s else setAxState s n 3)
  else if fill ≤ s.actFld (R.AXIS_PACE_RESUME n) F.AXIS_PACE_RESUME_RESUME_MARK then
    startRunUp (s.raise (Ev.axis n 4)) n
  else s

/-- Pacing at a tick: the fill read, the factor moved by at most 4; without a run the factor is 4,096 and a PAUSED axis
enters STOPPED (10 R342 to R345). -/
def axPace (s : State) (n : Nat) : State :=
  let a := R.AXIS_PACE_STATUS n
  match paceFill s n with
  | none =>
    let s := (setAxBit s n F.AXIS_STATUS_PACED false).setFld a F.AXIS_PACE_STATUS_FACTOR 4096
    if axState s n = 7 then setAxBit (enterStopped (leaveTable s n) n) n F.AXIS_STATUS_RUNUP_DUE false else s
  | some fill =>
    let t := paceTarget s n fill
    let f := paceFactor s n
    let f' := if f < t then min t (f + 4) else max t (f - 4)
    let s := ((setAxBit s n F.AXIS_STATUS_PACED true).setFld a F.AXIS_PACE_STATUS_FILL fill).setFld a
      F.AXIS_PACE_STATUS_FACTOR f'
    pauseEnd s n fill

/-- A thermal port's request acts as a MOVE at the tick, or is refused and reported as an axis fault (10 R346). -/
def axRequests (s : State) (n : Nat) : State :=
  (List.range 4).foldl (fun s t =>
    match (s.tp t).ask with
    | some (ax, pos) =>
      if ax ≠ n then s
      else
        let s := s.setTp t { s.tp t with ask := none }
        let st := axState s n
        let free := decide (st = 1) || (decide (st = 2) && (s.axis n).port.isSome)
        if !free then shutAbort 2 s t
        else if !targetAllowed s n (pos * 65536) then shutAbort 2 (targetRefused s n) t
        else
          let x := s.axis n
          startMove (s.setAxis n { x with port := if x.port = some t then none else x.port }) n (pos * 65536) (some t)
    | none => s) s

/-! ### The update tick and the phase ports -/

/-- Whether an axis rests. -/
def atRest (s : State) (n : Nat) : Bool := (s.axis n).v == 0

/-- The power fault that waited for a command of the same tick (10 R347). -/
def axPower (s : State) (n : Nat) : State :=
  if (s.axis n).power then faultNow (s.setAxis n { s.axis n with power := false }) n F.AXIS_STATUS_POWER true else s

/-- What befalls an axis at a tick beside its command: a power fault that waited, pacing, motion, feedback. `still` counts
the ticks without motion (10 R326). -/
def axWork (limFirst : Bool) (s : State) (n : Nat) : State :=
  let s := axPace (axPower (axRequests (axEnable s n) n) n) n
  let p := (s.axis n).p
  let s := homeUnmute (axMotion (axHard s n) n limFirst) n
  let x := s.axis n
  axFeedback (s.setAxis n { x with still := if x.v = 0 ∧ x.p = p then min 6553600 (x.still + 1) else 0 }) n

/-- Whether a fault of a tick's own is new (10 R347). -/
def axFaulted (s o : State) (n : Nat) : Bool :=
  [F.AXIS_STATUS_FOLLOW, F.AXIS_STATUS_FB_LOST, F.AXIS_STATUS_HARD_LIMIT, F.AXIS_STATUS_HOME_FAIL,
    F.AXIS_STATUS_LIMIT_FAULT, F.AXIS_STATUS_STEP_LIMIT].any (fun f => axBit o n f && !axBit s n f)

/-- Whether a command that waits meets what the tick would bring without it: a fault, or, for a STOP, the start or the end
of a pause (10 R347). -/
def axMeets (s o : State) (n : Nat) : Bool :=
  let x := s.axis n
  let stop := decide (x.cmd = some 4 ∨ x.cmd = some 5)
  let paused := decide (axState s n ≠ 7) && decide (axState o n = 7)
  let resumed := decide (axState s n = 7) && decide (axState o n = 2)
  x.cmd.isSome && !x.power && (axFaulted s o n || (stop && (paused || resumed)))

/-- The tick of one axis (10 R323 to R346). The command comes first; where it meets what the tick brings, `late` lets that
come first and the loser is counted: a command that meets a fault is then refused (10 R347; log entry 46). -/
def axTick (late : Nat → Bool) (s : State) (n : Nat) : State :=
  let s := axSwitches s n
  let o := axWork (late n) s n
  let met := axMeets s o n
  let faulted := axFaulted s o n
  let s :=
    if met && late n then
      (if faulted then cmdRefused (o.setAxis n { o.axis n with cmd := none }) n else axObey o n)
    else axWork (late n) (axObey s n) n
  let s := axShow (faultLeave (s.lost met (R.AXIS_RACE n)) n) n
  if axState s n = 8 ∨ axState s n = 6 ∨ axState s n = 7 ∨ axBit s n F.AXIS_STATUS_RESUMABLE then setRemain s n true else s

/-- MAG and MODE of a phase word (10 R318, R324, R326, R335). -/
def phaseDrive (s : State) (n : Nat) : Nat × Nat :=
  let run := s.actFld (R.AXIS_DRIVE n) F.AXIS_DRIVE_RUN_CURRENT
  let hold := s.actFld (R.AXIS_DRIVE n) F.AXIS_DRIVE_HOLD_CURRENT
  let still (m : Nat) : Nat × Nat := if m = 0 then (run, 0) else (if m = 3 then hold else 0, m)
  if axState s n = 8 then still (faultMode s n)
  else if (s.axis n).still ≤ 100 * s.actFld (R.AXIS_CFG n) F.AXIS_CFG_STANDSTILL_DELAY then (run, 0)
  else still (s.actFld (R.AXIS_CFG n) F.AXIS_CFG_STANDSTILL_MODE)

/-- One bit of the CRC-4 with polynomial x^4 + x + 1 (10 R320). -/
def crc4Bit (c : Nat) (b : Bool) : Nat :=
  let top := (decide (8 ≤ c)) != b
  let c := c * 2 % 16
  if top then Nat.xor c 3 else c

/-- The CRC-4 of bits [31:4] of a word, most significant bit first (10 R320). -/
def crc4 (w : Word) : Nat := (List.range 28).foldl (fun c i => crc4Bit c (w.getLsbD (31 - i))) 0

/-- A phase word from its fields (10 R320). -/
def phaseWord (angle mag mode seq : Nat) : Nat :=
  let w : Word := BitVec.ofNat 32 (angle % 4096 * 2 ^ 20 + mag % 1024 * 2 ^ 10 + mode % 4 * 2 ^ 8 + seq % 16 * 2 ^ 4)
  w.toNat + crc4 w

/-- The phase word of an axis (10 R318, R326): in a last frame (`last`) every enabled axis has FAULT_MODE, 0b11 and 0b00
taken as 0b01 (10 R348). -/
def axisWord (s : State) (n : Nat) (last : Bool) : Nat :=
  let seq := (s.axis n).seq
  if axState s n = 0 then phaseWord 0 0 1 seq
  else
    let angle := ((axPos (s.axis n) / 65536 + s.actFld (R.AXIS_DRIVE n) F.AXIS_DRIVE_ANGLE_OFS) % 4096).toNat
    let fm := s.actFld (R.AXIS_CFG n) F.AXIS_CFG_FAULT_MODE
    let (mag, mode) := if last then (0, if fm = 2 then 2 else 1) else phaseDrive s n
    phaseWord angle mag mode seq

/-- The frame of one phase port, sent while either of its axes is enabled (10 R318 to R320). -/
def phaseFrame (last : Bool) (s : State) (p : Nat) : State :=
  if axState s (2 * p) = 0 ∧ axState s (2 * p + 1) = 0 then s
  else
    let s := s.emit (.phaseFrame p [axisWord s (2 * p) last, axisWord s (2 * p + 1) last])
    let s := s.wrapInc (R.PH_STATUS p) F.PH_STATUS_FRAMES
    let bump : State → Nat → State := fun s n => s.setAxis n { s.axis n with seq := ((s.axis n).seq + 1) % 16 }
    bump (bump s (2 * p)) (2 * p + 1)

/-- The last frames at a thermal shutdown (10 R348). -/
def lastFrames (s : State) : State := (List.range 4).foldl (phaseFrame true) s

/-- The device time of the next update tick (10 R319). -/
def nextTick (s : State) : Nat :=
  let t := (s.now + 9999) / 10000 * 10000
  if t ≤ s.tickAt then (s.tickAt / 10000 + 1) * 10000 else t

/-! ### The commands of the table -/

/-- UPDATE_TICK (10 R319, R323, R326, R328, R330, R333, R341, R342, R346): device time is a multiple of 10,000 ns; the
board's pin levels are sampled. `late` names the axes whose command loses to the tick's own happenings (10 R347). -/
def execUpdateTick (pins : BitVec 32) (late : BitVec 8) (s : State) : Result :=
  let s := { s with pins := pins }
  .next (s.whenWorking (fun s =>
    let s := s.reach (nextTick s)
    let s := { s with tickAt := s.now }
    let s := (List.range 8).foldl (axTick (fun n => late.getLsbD n)) s
    (List.range 4).foldl (phaseFrame false) s))

/-- A command code written to AXIS_n_CMD (10 R323, R325); `lost` counts the loser against a tick (10 R347). -/
def axisCmd (n c : Nat) (lost : Bool) (s : State) : State :=
  s.whenWorking (fun s => (axCommand s n c).lost lost (R.AXIS_RACE n))

/-- AXIS_MOVE (10 R325). -/
def execAxisMove (n : Fin 8) (lost : Bool) (s : State) : Result := .next (axisCmd n 1 lost s)

/-- AXIS_TABLE (10 R325, R327). -/
def execAxisTable (n : Fin 8) (lost : Bool) (s : State) : Result := .next (axisCmd n 2 lost s)

/-- AXIS_HOME (10 R325, R337). -/
def execAxisHome (n : Fin 8) (lost : Bool) (s : State) : Result := .next (axisCmd n 3 lost s)

/-- AXIS_STOP (10 R325, R334). -/
def execAxisStop (n : Fin 8) (lost : Bool) (s : State) : Result := .next (axisCmd n 4 lost s)

/-- AXIS_QUICKSTOP (10 R325, R334). -/
def execAxisQuickstop (n : Fin 8) (lost : Bool) (s : State) : Result := .next (axisCmd n 5 lost s)

/-- AXIS_ABORT (10 R325, R334). -/
def execAxisAbort (n : Fin 8) (lost : Bool) (s : State) : Result := .next (axisCmd n 6 lost s)

/-- AXIS_RESUME (10 R325, R334, R344). -/
def execAxisResume (n : Fin 8) (lost : Bool) (s : State) : Result := .next (axisCmd n 7 lost s)

/-- AXIS_CMD_INVALID: a code outside 1 to 7 is refused (10 R325). -/
def execAxisCmdInvalid (n : Fin 8) (s : State) : Result := .next (s.whenWorking (fun s => cmdRefused s n))

/-- AXIS_COMMIT (10 R323). -/
def execAxisCommit (n : Fin 8) (lost : Bool) (s : State) : Result :=
  .next (s.whenWorking (fun s => ((axUnit n).commit s).lost lost (R.AXIS_RACE n)))

/-- A power fault of an axis: at once, or, where it lost to a command that waits, at the tick that takes the command,
counted as the loser (10 R335, R347). -/
def axPowerFault (lost : Bool) (s : State) (n : Nat) : State :=
  if lost && (s.axis n).cmd.isSome then (s.setAxis n { s.axis n with power := true }).lost true (R.AXIS_RACE n)
  else faultNow s n F.AXIS_STATUS_POWER true

/-- PHASE_FAULT (10 R322): PHp_FLT has been low for 1 us, or is high again. With `lost` the fault met a command that waits
for the tick and lost to it (10 R347). -/
def execPhaseFault (p : Fin 4) (low lost : Bool) (s : State) : Result :=
  .next (s.whenWorking (fun s =>
    let s := s.setBit (R.PH_STATUS p) F.PH_STATUS_FLT low
    if !low then s
    else
      let s := s.flag (R.PH_STATUS p) F.PH_STATUS_FLT_SEEN
      axPowerFault lost (axPowerFault lost s (2 * p)) (2 * p + 1)))

end Sys2Proof.Machine
end

