-- ==== Sys2Proof/Machine/Instants.lean ====
section
/-!
DEFINITION. What a step of device time does to the instants from which the block measures an interval (18 R537, R538):
they move by the step, so that a time-out, a period or a wait lasts as long as it would have lasted (log entry 133).
Instants that the spec gives in device time itself stay: the due times of shared triggers (17 R512), the update grid
(10 R319), the timers' own expiries (18 R546), and every time already recorded.
-/

namespace Sys2Proof.Machine

/-- An instant moved by a step of device time. -/
def movedBy (d : Int) (t : Nat) : Nat := ((t : Int) + d).toNat

/-- An output stream's instants: the open chunk, the ring checks (15 R467, R470, R475). -/
def streamMoved (d : Int) (x : Stream) : Stream :=
  { x with openAt := movedBy d x.openAt, tailAt := movedBy d x.tailAt, fullAt := movedBy d x.fullAt }

/-- A stage ring's instant: the run stop (11 R380). -/
def stageMoved (d : Int) (g : StageSt) : StageSt := { g with stopAt := g.stopAt.map (movedBy d) }

/-- A pass-through output's instant: its last edge (03 R113). -/
def ptMoved (d : Int) (p : PtSt) : PtSt := { p with lastEdge := movedBy d p.lastEdge }

/-- A frond's instants: its watchdog's count, the end of its tuft's park (11 R382, R386). -/
def frondMoved (d : Int) (f : FrondSt) : FrondSt :=
  { f with wdogFrom := movedBy d f.wdogFrom, wakeFrom := movedBy d f.wakeFrom }

/-- A script engine's instants (02 R58, R59). -/
def engineMoved (d : Int) (x : Engine) : Engine :=
  { x with pollFrom := x.pollFrom.map (movedBy d), pollLast := movedBy d x.pollLast,
           waitUntil := x.waitUntil.map (movedBy d) }

/-- A position interface's instants: the speed window, past speeds, the last publication, the correction's period. -/
def encMoved (d : Int) (x : EncSt) : EncSt :=
  { x with winStart := movedBy d x.winStart, fast := x.fast.map (fun e => (movedBy d e.1, e.2)),
           corrAt := movedBy d x.corrAt, lastPub := movedBy d x.lastPub }

/-- An imaging port's instants: re-adaptation, data time-outs, the last fire instant (04 R122, R131, R137). -/
def imgMoved (d : Int) (x : ImgSt) : ImgSt :=
  { x with adaptAt := movedBy d x.adaptAt, lastFire2 := x.lastFire2.map (fun t => t + 2 * d),
           awaited := x.awaited.map (fun a => { a with deadline := movedBy d a.deadline }) }

/-- A lamp chain's instants: blanking, the age of the temperature, the ends of faults (06 R200, R209, R215). -/
def lampMoved (d : Int) (x : LampSt) : LampSt :=
  { x with blkAt := x.blkAt.map (movedBy d), tempTime := x.tempTime.map (movedBy d),
           endedG := x.endedG.map (fun e => (e.1, movedBy d e.2)), endedC := x.endedC.map (movedBy d) }

/-- A thermal port's instants: the enable delay, boundaries, the references' ages, the shutter's intervals. -/
def tpMoved (d : Int) (x : TpSt) : TpSt :=
  { x with delayEnd := movedBy d x.delayEnd, readyAt := x.readyAt.map (movedBy d), boundary := x.boundary.map (movedBy d),
           due := x.due.map (movedBy d), endAt := x.endAt.map (movedBy d), doneAt := x.doneAt.map (movedBy d),
           refs := x.refs.map (fun e => (e.1, e.2.1, movedBy d e.2.2)), hist := x.hist.map (fun e => (e.1, movedBy d e.2)) }

/-- A current loop's instants (09 R313, R314). -/
def loopMoved (d : Int) (x : LoopSt) : LoopSt :=
  { x with writtenAt := x.writtenAt.map (movedBy d), limitFrom := x.limitFrom.map (movedBy d),
           offFrom := x.offFrom.map (movedBy d) }

/-- The precision island's instants: waits, triggers, test intervals, the ages of the loops' sources. -/
def precMoved (d : Int) (x : PrecSt) : PrecSt :=
  { x with
      queue := x.queue.map (fun r => { r with at_ := movedBy d r.at_ })
      mods := Sparse.change (fun _ => some {}) (fun m => { m with startAt := movedBy d m.startAt }) x.mods
      meas := Sparse.change (fun _ => some {}) (fun m =>
        { m with delay := m.delay.map (movedBy d), impFrom := m.impFrom.map (movedBy d),
                 pubAt := m.pubAt.map (movedBy d) }) x.meas
      loops := Sparse.change (fun _ => some {}) (loopMoved d) x.loops
      stats := Sparse.change (fun _ => some {}) (fun t => { t with updated := t.updated.map (movedBy d) }) x.stats }

/-- The power island's instants: conversions, evaluations, records, an AVS wait, a sensor's constant code. -/
def pwrMoved (d : Int) (x : PwrSt) : PwrSt :=
  { x with convAt := movedBy d x.convAt, evalAt := movedBy d x.evalAt, logAt := movedBy d x.logAt,
           avsAt := x.avsAt.map (movedBy d),
           sensors := x.sensors.map (fun e => (e.1, { e.2 with since := movedBy d e.2.since })) }

/-- The runner links' instants: the last valid flit, the last flits sent, a remote access, shared samples. -/
def runnerMoved (d : Int) (x : RunnerSt) : RunnerSt :=
  { x with links := Sparse.change (fun _ => some {}) (fun l => { l with lastAt := movedBy d l.lastAt }) x.links,
           timeAt := movedBy d x.timeAt, shareAt := movedBy d x.shareAt,
           rmt := x.rmt.map (fun r => { r with at_ := movedBy d r.at_ }),
           posAt := x.posAt.map (fun e => (e.1, movedBy d e.2)) }

/-- Every instant from which an interval runs moved by a step of device time (log entry 133). -/
def instantsMoved (d : Int) (s : State) : State :=
  { s with
      tm := { s.tm with runnerLast := movedBy d s.tm.runnerLast, tsyncLast := s.tm.tsyncLast.map (movedBy d),
                        tsyncOut := none }
      root := { s.root with wdogAt := movedBy d s.root.wdogAt }
      boot := { s.boot with startAt := movedBy d s.boot.startAt, readyRose := s.boot.readyRose.map (movedBy d),
                            holdoff := s.boot.holdoff.map (fun e => (e.1, movedBy d e.2)) }
      hostReads := s.hostReads.map (fun r => { r with issued := movedBy d r.issued })
      streams := Sparse.change (fun _ => some {}) (streamMoved d) s.streams
      stages := Sparse.change (fun _ => some {}) (stageMoved d) s.stages
      engines := Sparse.change (fun _ => some {}) (engineMoved d) s.engines
      encs := Sparse.change (fun _ => some {}) (encMoved d) s.encs
      cmpPulse := Sparse.change (fun _ => none) (movedBy d) s.cmpPulse
      pts := Sparse.change (fun _ => some {}) (ptMoved d) s.pts
      imgs := Sparse.change (fun _ => some {}) (imgMoved d) s.imgs
      windows := s.windows.map (fun w => { w with start2 := w.start2 + 2 * d, end2 := w.end2 + 2 * d })
      prec := precMoved d s.prec
      lamps := Sparse.change (fun _ => some {}) (lampMoved d) s.lamps
      tps := Sparse.change (fun _ => some {}) (tpMoved d) s.tps
      fronds := Sparse.change (fun _ => some {}) (frondMoved d) s.fronds
      pwr := pwrMoved d s.pwr
      runner := runnerMoved d s.runner }

end Sys2Proof.Machine
end

