-- ==== Sys2Proof/Machine/Timers.lean ====
section
/-!
DEFINITION. The sixty-four timers and the writes of the GPIO bank (18 R546 to R552).
-/

namespace Sys2Proof.Machine

/-- A timer's hidden state. -/
def State.timer (s : State) (n : Nat) : TimerSt := Sparse.get (fun _ => {}) s.timers n

/-- A timer's hidden state replaced. -/
def State.setTimer (s : State) (n : Nat) (x : TimerSt) : State :=
  { s with timers := Sparse.put (fun _ => some {}) s.timers n x }

/-- The shadow set of a timer (18 R549). -/
def tmrUnit (n : Nat) : CommitUnit :=
  ⟨R.TMRN_CTRL n, F.TMRN_CTRL_COMMIT_PENDING, [R.TMRN_CFG n, R.TMRN_PERIOD n, R.TMRN_PHASE n, R.TMRN_HIGH n],
    some (R.TMRN_COMMIT_TAKEN_LO n)⟩

/-- PERIOD in force; below 100 it is taken as 100 (18 R546). -/
def tmrPeriod (s : State) (n : Nat) : Nat := max 100 (s.inForce (R.TMRN_PERIOD n)).toNat

/-- MODE in force (18 R546). -/
def tmrMode (s : State) (n : Nat) : Nat := s.actFld (R.TMRN_CFG n) F.TMRN_CFG_MODE

/-- RUNNING and NEXT brought up to date (18, TMR registers). -/
def tmrShow (s : State) (n : Nat) : State :=
  let nx := (s.timer n).next
  (s.setBit (R.TMRN_STATUS n) F.TMRN_STATUS_RUNNING nx.isSome).setReg64 (R.TMRN_NEXT_LO n) (nx.getD 0)

/-- The level of the PWM output brought up to date; its edges are triggers of the precision island (18 R547,
09 R299). -/
def tmrOutput (s : State) (n : Nat) (high : Bool) : State :=
  let s := s.setTimer n { s.timer n with high := high }
  let level := high != s.actBit (R.TMRN_CFG n) F.TMRN_CFG_PWM_INV
  let old := s.bit (R.TMRN_STATUS n) F.TMRN_STATUS_OUTPUT
  let s := s.setBit (R.TMRN_STATUS n) F.TMRN_STATUS_OUTPUT level
  if level = old then s else precTrigger (if level then 2 else 3) n s

/-- The first instant after a device time at which an aligned timer expires (18 R546). -/
def alignedNext (period phase after : Nat) : Nat :=
  let ph := phase % period
  let k := (after + period - ph) / period * period + ph
  if k ≤ after then k + period else k

/-- The next expiry of a timer whose set was taken, or whose expiry has passed, at an instant (18 R546). -/
def tmrNext (s : State) (n : Nat) (t : Nat) (fresh : Bool) : Option Nat :=
  let p := tmrPeriod s n
  match tmrMode s n with
  | 1 => some (t + p)
  | 2 => if fresh then some (t + p) else none
  | 3 => some (alignedNext p (s.inForce (R.TMRN_PHASE n)).toNat (max t ((s.timer n).last.getD 0)))
  | _ => none

/-- A timer's set has taken effect at an instant: it runs by its mode, or stops with its output idle (18 R546,
R549). -/
def tmrBegin (s : State) (n t : Nat) : State :=
  let s := s.setTimer n { s.timer n with next := tmrNext s n t true }
  let s := if tmrMode s n = 0 then tmrOutput (s.setTimer n { s.timer n with fall := none }) n false
    else tmrOutput s n (s.timer n).high
  tmrShow s n

/-- The PWM pulse of an expiry (18 R547): HIGH of 0 leaves the output low, HIGH of at least PERIOD leaves it high. -/
def tmrPulse (s : State) (n t : Nat) : State :=
  let h := (s.inForce (R.TMRN_HIGH n)).toNat
  if h = 0 then tmrOutput (s.setTimer n { s.timer n with fall := none }) n false
  else
    let stays := decide (tmrPeriod s n ≤ h) && decide (tmrMode s n ≠ 2)
    tmrOutput (s.setTimer n { s.timer n with fall := if stays then none else some (t + h) }) n true

/-- The PWM output returns low (18 R547). -/
def tmrFall (s : State) (n : Nat) : State := tmrOutput (s.setTimer n { s.timer n with fall := none }) n false

/-- The expiry of a timer that waits for one (18 R547, R549): COUNT, FIRED, the event, the deliveries, the output; a
waiting set then takes effect. -/
def tmrExpire (n : Nat) (s : State) : State :=
  match (s.timer n).next with
  | none => s
  | some t =>
    let s := s.reach t
    let s := s.cond ((s.timer n).fall.any (fun f => decide (f ≤ t))) (fun s => tmrFall s n)
    let s := (s.wrapInc (R.TMRN_STATUS n) F.TMRN_STATUS_COUNT).flag (R.TMRN_STATUS n) F.TMRN_STATUS_FIRED
    let s := dmaSend 1 n (s.raise (Ev.timer n))
    let s := tpTimer n (precTrigger 1 n s)
    let s := tmrPulse s n t
    let s := s.setTimer n { s.timer n with last := some t }
    if (tmrUnit n).waits s then tmrBegin ((tmrUnit n).take s) n t
    else tmrShow (s.setTimer n { s.timer n with next := tmrNext s n t false }) n

/-- COMMIT of a timer: a timer that is OFF or stopped takes the set at once (18 R549). -/
def tmrCommit (n : Nat) (s : State) : State :=
  let s := (tmrUnit n).commit s
  if (s.timer n).next.isNone then tmrBegin ((tmrUnit n).take s) n s.now else s

/-- Every timer begins with the values of the spore at a start (18 R530, R546). -/
def timersBegin (s : State) : State := (List.range 64).foldl (fun s n => tmrBegin s n s.now) s

/-- A step of device time moves every pending instant of a timer, and an aligned timer looks for its next one anew
(18 R546). -/
def tmrStepped (d : Int) (s : State) (n : Nat) : State :=
  let x := s.timer n
  let mv : Nat → Nat := fun t => ((t : Int) + d).toNat
  match x.next with
  | none => s.setTimer n { x with fall := x.fall.map mv }
  | some t =>
    let x := { x with fall := x.fall.map mv, next := some (mv t) }
    let s := s.setTimer n x
    tmrShow (s.setTimer n { x with next := if tmrMode s n = 3 then tmrNext s n s.now true else x.next }) n

/-! ### The GPIO bank -/

/-- GPIO_k_CFG written: taken only while no run is active (18 R552). -/
def gpioCfgWritten (k : Nat) (v : Word) (s : State) : State :=
  if s.runActive then s.flag R.GPIO_STATUS F.GPIO_STATUS_CFG_REFUSED else s.setReg (R.GPIO_CFG k) v

/-! ### The commands of the table -/

/-- TIMER_EXPIRY (18 R547). A commit that meets the expiry and loses is counted in TMR_RACE (18 R549). -/
def execTimerExpiry (n : Fin 64) (lost : Bool) (s : State) : Result :=
  .next (s.whenWorking (fun s => (tmrExpire n s).lost lost R.TMR_RACE))

/-- PWM_HIGH_END (18 R547). -/
def execPwmHighEnd (n : Fin 64) (s : State) : Result :=
  .next (s.whenWorking (fun s =>
    match (s.timer n).fall with
    | some t => tmrFall (s.reach t) n
    | none => s))

/-- TMR_COMMIT (18 R549). -/
def execTmrCommit (n : Fin 64) (lost : Bool) (s : State) : Result :=
  .next (s.whenWorking (fun s => (tmrCommit n s).lost lost R.TMR_RACE))

/-- GPIO_OUT_WRITE (18 R552): pins with FUNC 0x1 follow. -/
def execGpioOutWrite (v : BitVec 32) (s : State) : Result :=
  .next (s.whenServing (fun s => s.setReg R.GPIO_OUT v))

end Sys2Proof.Machine
end

