-- ==== Sys2Proof/Machine/Time.lean ====
section
/-!
DEFINITION. Device time: its sources, steering, steps, TSYNC, the oscillator (18 R523, R531 to R538).
-/

namespace Sys2Proof.Machine

/-- Whether a source code is valid; FREE always is (18 R534). -/
def srcValid (s : State) (c : Nat) : Bool := c == 3 || s.fld R.TIME_STATUS F.TIME_STATUS_VALID / 2 ^ c % 2 == 1

/-- Whether this device is the time master of its ring (17 R511, 18 R534). -/
def isMaster (s : State) : Bool :=
  decide (s.fld R.RUN_RING F.RUN_RING_PRESENT ≠ 0) && s.fld R.RUN_RING F.RUN_RING_MASTER == s.fld R.SYS_ID F.SYS_ID_DEVID

/-- The valid source of highest rank (18 R534); FREE if PRIO names none. -/
def pickSource (s : State) : Nat :=
  let prio := s.fld R.TIME_CFG F.TIME_CFG_PRIO
  ([prio / 64 % 4, prio / 16 % 4, prio / 4 % 4, prio % 4].find?
    (fun c => srcValid s c && !(c == 0 && isMaster s))).getD 3

/-- LOCKED set or cleared, with the LOCK event on a change (18 R536, R545). -/
def setLocked (s : State) (b : Bool) : State :=
  if s.bit R.TIME_STATUS F.TIME_STATUS_LOCKED = b then s
  else (s.setBit R.TIME_STATUS F.TIME_STATUS_LOCKED b).raise 569

/-- The frequency term F, in ppb (18 R536). -/
def freqTerm (s : State) : Int := s.sfld R.TIME_FREQ F.TIME_FREQ_VALUE

/-- Device time runs at 1 + F / 10^9 (18 R536). -/
def runFree (s : State) : State := { s with tm := { s.tm with steerNum := freqTerm s, steerDen := 1000000000 } }

/-- HOLDOVER brought up to date: no source other than FREE is valid (18 R536). -/
def timeHold (s : State) : State :=
  let none_ := !(srcValid s 0 || srcValid s 1 || srcValid s 2)
  let s := s.setBit R.TIME_STATUS F.TIME_STATUS_HOLDOVER none_
  if none_ then runFree s else s

/-- A source becomes valid or invalid; TSYNC that becomes invalid raises TSYNC_FAULT (18 R534, R545). -/
def setValid (s : State) (c : Nat) (b : Bool) : State :=
  let f : Fld := ⟨4 + c, 1⟩
  let s := s.cond (c == 1 && s.bit R.TIME_STATUS f && !b) (fun s => s.raise 570)
  timeHold (s.setBit R.TIME_STATUS f b)

/-- The source chosen again, at a measurement instant (18 R534, R536, R545). -/
def choose (s : State) : State :=
  let c := pickSource s
  if s.fld R.TIME_STATUS F.TIME_STATUS_SRC = c then s
  else
    let s := setLocked (s.setFld R.TIME_STATUS F.TIME_STATUS_SRC c) false
    { s with tm := { s.tm with streak := 0 } }.raise 568

/-- Device time steps (18 R537): STEPPED, the peat log record, TIME_COLD, the timers' instants; the instants from which
intervals run move with it (log entry 133). After a step back the update ticks follow the grid of the new device time
(10 R319). -/
def stepTime (d : Int) (s : State) : State :=
  let s := instantsMoved d { s with tm := { s.tm with now := ((s.tm.now : Int) + d).toNat, cold := false } }
  let s := { s with tickAt := if d < 0 then min s.tickAt (s.now - 1) else s.tickAt }
  let s := (s.flag R.TIME_STATUS F.TIME_STATUS_STEPPED).setBit R.TIME_STATUS F.TIME_STATUS_TIME_COLD false
  let s := (s.raise 572).peatPush 0x0009 94 (bytesLE 8 (ofSigned 64 d))
  (List.range 64).foldl (tmrStepped d) s

/-- LOCKED after a measurement of the selected source (18 R536). -/
def lockAfter (e : Int) (s : State) : State :=
  let l : Int := s.fld R.TIME_STEER F.TIME_STEER_LOCK_NS
  let k := if |e| ≤ l then min 8 (s.tm.streak + 1) else 0
  let s := { s with tm := { s.tm with streak := k } }
  if 4 * l < |e| then setLocked s false else if k = 8 then setLocked s true else s

/-- SLEW_MAX in ppm; 0 is taken as 1, above 1,000 as 1,000 (18 R536). -/
def slewMax (s : State) : Int := min 1000 (max 1 (s.fld R.TIME_STEER F.TIME_STEER_SLEW_MAX))

/-- Steering after a measurement with error e over an interval T, in ns (18 R536). -/
def steer (e : Int) (t : Nat) (s : State) : State :=
  let f' := freqTerm s + divRound (e * 1000000000) (64 * t)
  let num := 8 * f' * t + 1000000000 * e
  let den := 8 * 1000000000 * t
  let lim := slewMax s
  if lim * den < |num| * 1000000 then
    { s with tm := { s.tm with steerNum := if num < 0 then -lim else lim, steerDen := 1000000 } }
  else
    let s := s.setSfld R.TIME_FREQ F.TIME_FREQ_VALUE (satSigned 32 f')
    { s with tm := { s.tm with steerNum := num, steerDen := den } }

/-- A measurement of a source that is judged valid or not already: the source is chosen again; a measurement of the
selected one steps or steers device time (18 R534, R536, R537). -/
def measureTime (c : Nat) (e : Int) (t : Nat) (s : State) : State :=
  let s := choose s
  if s.fld R.TIME_STATUS F.TIME_STATUS_SRC ≠ c then s
  else
    let s := lockAfter e (s.setSfld R.TIME_ERR F.TIME_ERR_VALUE (satSigned 32 e))
    let lim : Int := (s.reg R.TIME_STEP_NS).toNat
    if !s.runActive ∧ lim < e then runFree (stepTime e s)
    else if !s.runActive ∧ s.bit R.TIME_CFG F.TIME_CFG_STEP_BACK ∧ e < -lim then runFree (stepTime e s)
    else steer e t s

/-- A TIME flit measured: the master's device time less the own (18 R534, 17 R511). -/
def runnerMeasure (e : Int) (s : State) : State :=
  let k := min 2 (s.tm.runnerGood + 1)
  let s := { s with tm := { s.tm with runnerGood := k, runnerLast := s.now } }
  measureTime 0 e 1000000 (s.cond (k == 2 && !srcValid s 0) (fun s => setValid s 0 true))

/-- TIME_LOCK, with TIME on a change, at the link of the last TIME flit (17 R511, R520). -/
def setTimeLock (b : Bool) (s : State) : State :=
  if s.bit R.RUN_RING F.RUN_RING_TIME_LOCK = b then s
  else (s.setBit R.RUN_RING F.RUN_RING_TIME_LOCK b).raise (Ev.runner s.runner.timeLink 3)

/-- The runner source without a TIME flit for 3 ms (18 R534). -/
def runnerInvalid (s : State) : State :=
  setTimeLock false (setValid { s with tm := { s.tm with runnerGood := 0 } } 0 false)

/-- Whether TSYNC is an input in use (18 R534, R535). -/
def tsyncInput (s : State) : Bool :=
  s.bit R.TIME_CFG F.TIME_CFG_TSYNC_EN && !s.bit R.TIME_CFG F.TIME_CFG_TSYNC_DIR

/-- TSYNC_OFS, taken modulo a second. -/
def tsyncOfs (s : State) : Nat := s.fld R.TIME_TSYNC F.TIME_TSYNC_TSYNC_OFS % 1000000000

/-- A rising edge of TSYNC at a device time (18 R534): its spacing from the last edge, its offset from the nearest
TSYNC_OFS instant. -/
def tsyncEdge (t : Nat) (s : State) : State :=
  let good := match s.tm.tsyncLast with
    | some l => decide (999900000 ≤ t - l ∧ t - l ≤ 1000100000)
    | none => false
  let k := if good then min 3 (s.tm.tsyncGood + 1) else 1
  let s := { s with tm := { s.tm with tsyncGood := k, tsyncLast := some t } }
  let s := s.cond (srcValid s 1 && !good) (fun s => setValid s 1 false)
  let s := s.cond (k == 3 && !srcValid s 1) (fun s => setValid s 1 true)
  let r : Int := ((t : Int) - tsyncOfs s) % 1000000000
  measureTime 1 (if r ≤ 500000000 then -r else 1000000000 - r) 1000000000 s

/-- The PTM interval in ns (18, TIME_CFG). -/
def ptmInterval (s : State) : Nat :=
  let m := s.fld R.TIME_CFG F.TIME_CFG_PTM_MS
  (if m = 0 then 10 else min 1000 m) * 1000000

/-- A PTM dialogue that succeeded, with the PTM master time, or failed (18 R534). -/
def ptmMeasure (master : Option Nat) (s : State) : State :=
  match master with
  | none =>
    let k := min 3 (s.tm.ptmBad + 1)
    let s := { s with tm := { s.tm with ptmBad := k, ptmGood := if k = 3 then 0 else s.tm.ptmGood } }
    s.cond (k == 3 && srcValid s 2) (fun s => setValid s 2 false)
  | some m =>
    let k := min 2 (s.tm.ptmGood + 1)
    let s := { s with tm := { s.tm with ptmBad := 0, ptmGood := k } }
    let s := s.cond (k == 2 && !srcValid s 2) (fun s => setValid s 2 true)
    measureTime 2 ((m : Int) + s.sreg64 R.TIME_PTM_OFS_LO - s.now) (ptmInterval s) s

/-- APPLY of TIME_SET_CMD (18 R538). -/
def timeSetApply (s : State) : State :=
  if s.runActive then s.flag R.TIME_STATUS F.TIME_STATUS_SET_REFUSED
  else stepTime ((s.reg64 R.TIME_SET_LO : Int) - s.now) s

/-- A nanosecond of nominal time, adjusted by steering (18 R531, R536). -/
def tick (s : State) : State :=
  let acc := s.tm.steerAcc + s.tm.steerNum
  let d : Int := s.tm.steerDen
  { s with tm := { s.tm with now := ((s.tm.now : Int) + 1 + acc / d).toNat, steerAcc := acc % d } }

/-! ### The commands of the table -/

/-- TIME_BEACON (18 R531): the beacon carries the time of the next whole microsecond. -/
def execTimeBeacon (s : State) : Result := .next (s.whenServing (fun s => s.reach ((s.now / 1000 + 1) * 1000)))

/-- TSYNC_EDGE (18 R534): ignored unless TSYNC is an enabled input. `t.lost` counts a measurement or time-out that it
meets in the choice of the source (18 R524, TIME_RACE). -/
def execTsyncEdge (t : TimeMark) (s : State) : Result :=
  .next (s.whenServing (fun s =>
    if tsyncInput s then tsyncEdge t.at_.toNat ((s.lost t.lost R.TIME_RACE).reach t.at_.toNat) else s))

/-- TSYNC_TIMEOUT (18 R534): 1.1 s without an edge. -/
def execTsyncTimeout (s : State) : Result :=
  .next (s.whenServing (fun s =>
    match s.tm.tsyncLast with
    | none => s
    | some t =>
      let s := (s.reach (t + 1100000000))
      let s := { s with tm := { s.tm with tsyncGood := 0, tsyncLast := none } }
      s.cond (srcValid s 1) (fun s => setValid s 1 false)))

/-- The instant after which the next pulse of TSYNC begins: the present one has had its pulse already, or not. -/
def tsyncAfter (s : State) : Nat := max (s.now - 1) (s.tm.tsyncOut.getD 0)

/-- TSYNC_OUTPUT (18 R535): a pulse of TSYNC_W us from the next instant of TSYNC_OFS. -/
def execTsyncOutput (s : State) : Result :=
  .next (s.whenServing (fun s =>
    if s.bit R.TIME_CFG F.TIME_CFG_TSYNC_EN ∧ s.bit R.TIME_CFG F.TIME_CFG_TSYNC_DIR then
      let s := s.reach (alignedNext 1000000000 (tsyncOfs s) (tsyncAfter s))
      let s := { s with tm := { s.tm with tsyncOut := some s.now } }
      s.emit (.pulse .timeSync 0 s.now (1000 * s.fld R.TIME_TSYNC_W F.TIME_TSYNC_W_TSYNC_W) false)
    else s))

/-- RUNNER_SOURCE_TIMEOUT (18 R534): 3 ms without a TIME flit. -/
def execRunnerSourceTimeout (s : State) : Result :=
  .next (s.whenServing (fun s =>
    if s.tm.runnerGood = 0 then s else runnerInvalid (s.reach (s.tm.runnerLast + 3000000))))

/-- TIME_SET_APPLY (18 R538). The loser against a run start is counted in TIME_RACE. -/
def execTimeSetApply (lost : Bool) (s : State) : Result :=
  .next (s.whenServing (fun s => (timeSetApply s).lost lost R.TIME_RACE))

/-- REF_LOST (18 R523): the AON island's bit falls with the oscillator; device time goes on. -/
def execRefLost (s : State) : Result :=
  .next (s.whenServing (fun s =>
    if !s.tm.oscillator then s
    else
      let s := { s with tm := { s.tm with oscillator := false } }
      ((s.flag R.TIME_STATUS F.TIME_STATUS_REF_LOST).setBit (R.TIME_ISL_LOCK 2) ⟨31, 1⟩ false).raise 571))

/-- REF_RESTORED (18 R523): edges for 1 ms. -/
def execRefRestored (s : State) : Result :=
  .next (s.whenServing (fun s =>
    let s := { s with tm := { s.tm with oscillator := true } }
    (s.setBit R.TIME_STATUS F.TIME_STATUS_REF_LOST false).setBit (R.TIME_ISL_LOCK 2) ⟨31, 1⟩ true))

end Sys2Proof.Machine
end

