-- ==== Sys2Proof/Machine/Trim.lean ====
section
/-!
DEFINITION. The self-trim and its vault (18 R539 to R544, 13 R426).
-/

namespace Sys2Proof.Machine

/-- The address of copy A (0) or B (1) of the trim vault (13 R425). -/
def trimCopy (i : Nat) : Nat := mramBase + 0x10000 * (1 + i)

/-- Whether a trim vault copy checks (18 R544). -/
def trimCopyGood (s : State) (i : Nat) : Bool :=
  s.read (trimCopy i) 4 == [0x47, 0x54, 0x52, 0x4D] &&
    s.readNat (trimCopy i + 0x3B8) 4 == crc32c (s.read (trimCopy i) 0x3B8)

/-- GEN of a copy. -/
def trimGen (s : State) (i : Nat) : Nat := s.readNat (trimCopy i + 4) 4

/-- The copy in force: of those that check, the one of higher generation (13 R426). -/
def trimInForce (s : State) : Option Nat :=
  let a := trimCopyGood s 0
  let b := trimCopyGood s 1
  if a && b then some (if trimGen s 1 > trimGen s 0 then 1 else 0)
  else if a then some 0 else if b then some 1 else none

/-- The TRIM registers loaded from a copy at a start (02 R69 step 4; 18, TRIM registers). -/
def trimLoad (s : State) (i : Nat) : State :=
  let b := trimCopy i
  let s := s.setReg R.TRIM_COUNT (BitVec.ofNat 32 (s.readNat (b + 8) 4))
  let s := s.setReg64 R.TRIM_TIME_LO (s.readNat (b + 0x10) 8)
  (List.range 222).foldl (fun s k => s.setReg (R.TRIM_ITEM k) (BitVec.ofNat 32 (s.readNat (b + 0x40 + 4 * k) 4))) s

/-- The range of an item's taps, and its distance from the factory tap where the plausibility limits name one
(18 R539). -/
def trimLimits (k : Nat) : Int × Int × Option Int :=
  if k < 40 then (-32, 31, some 16)
  else if k < 80 then (-256, 255, some 128)
  else if k < 100 then (0, 127, none)
  else if k < 124 then (-32, 31, some 8)
  else if k < 126 then (-128, 127, none)
  else (0, 255, none)

/-- Whether an item cannot be measured as the device stands (18 R541): a position receiver whose interface is neither
off nor at STANDSTILL, a modulator reference without the board's reference. -/
def trimSkips (s : State) (k : Nat) : Bool :=
  if 100 ≤ k ∧ k < 124 then
    let n := (k - 100) / 3
    decide (encMode s n ≠ 0) && !s.bit (R.ENC_STATUS n) F.ENC_STATUS_STANDSTILL
  else if k = 124 ∨ k = 125 then s.fld R.TRIM_CTRL F.TRIM_CTRL_BOARD_REF_MV == 0
  else false

/-- START of TRIM_CTRL (18 R540, R542): steps 2 to 4 measure; `found` is what they find. -/
def trimStart (found : List (Option (Int × Bool))) (s : State) : State :=
  if s.trim.step ≠ 0 then s
  else
    let sk := (List.range 221).filter (trimSkips s)
    let s := { s with trim := { step := 2, found := found, skip := sk } }
    (s.setBit R.TRIM_CTRL F.TRIM_CTRL_START true).setFld R.TRIM_CTRL F.TRIM_CTRL_STEP 2

/-- The verdict on one item: its new word, and whether it failed or was skipped (18 R539, R541). -/
def trimItem (s : State) (k : Nat) : Nat × Bool × Bool :=
  let old := (s.reg (R.TRIM_ITEM k)).toNat
  if k = 221 then (old, false, false)
  else if k ∈ s.trim.skip then (old, false, true)
  else
    match s.trim.found.getD k none with
    | none => (old, false, true)
    | some (tap, ok) =>
      let (lo, hi, near) := trimLimits k
      let fac := s.sfld (R.TRIM_ITEM k) F.TRIM_ITEM_FACTORY
      let good := ok && decide (lo ≤ tap ∧ tap ≤ hi) && near.all (fun d => decide (|tap - fac| ≤ d))
      if good then (old / 65536 * 65536 + ofSigned 16 tap, false, false) else (old, true, false)

/-- Step 5: the verdicts on all items (18 R541). -/
def trimVerdicts (s : State) : List (Nat × Bool × Bool) := (List.range 222).map (trimItem s)

/-- A trim vault copy of these verdicts, with the generation and count that follow those of copy `cur` (18 R544). -/
def trimImage (s : State) (cur : Nat) (v : List (Nat × Bool × Bool)) : List Byte :=
  let trims := s.readNat (trimCopy cur + 8) 4 + 1
  let body := [0x47, 0x54, 0x52, 0x4D] ++ bytesLE 4 (trimGen s cur + 1) ++ bytesLE 4 trims ++ [0x02, 0, 0, 0] ++
    bytesLE 8 s.now ++ List.replicate 40 0 ++ v.flatMap (fun x => bytesLE 4 x.1)
  body ++ bytesLE 4 (crc32c body)

/-- The step shown in TRIM_CTRL, with what is to be applied. -/
def trimReady (v : List (Nat × Bool × Bool)) (s : State) : State :=
  let items := v.zipIdx.map (fun e => (e.2, e.1.1))
  ({ s with trim := { s.trim with step := 7, items := items } }).setFld R.TRIM_CTRL F.TRIM_CTRL_STEP 7

/-- Steps 5 and 6: the plausibility check, and the vault copy written with generation + 1 (18 R540, R541, R544;
13 R426). -/
def trimWrite (s : State) : State :=
  if s.trim.step ≠ 2 then s
  else
    let v := trimVerdicts s
    let cur := (trimInForce s).getD 0
    let s := (s.write (trimCopy (1 - cur)) (trimImage s cur v)).setReg64 R.TRIM_TIME_LO s.now
    let s := s.setFld R.TRIM_STATUS F.TRIM_STATUS_FAILED (v.filter (fun x => x.2.1)).length
    trimReady v (s.setFld R.TRIM_STATUS F.TRIM_STATUS_SKIPPED (v.filter (fun x => x.2.2)).length)

/-- Step 7: every new tap takes effect at once (18 R540 to R542, R545). -/
def trimApply (s : State) : State :=
  if s.trim.step ≠ 7 then s
  else
    let s := s.trim.items.foldl (fun s e => s.setReg (R.TRIM_ITEM e.1) (BitVec.ofNat 32 e.2)) s
    let s := s.cond ((trimInForce s).isSome) (fun s =>
      s.setReg R.TRIM_COUNT (BitVec.ofNat 32 (s.readNat (trimCopy ((trimInForce s).getD 0) + 8) 4)))
    let s := { s with trim := {} }
    let s := (s.setBit R.TRIM_CTRL F.TRIM_CTRL_START false).setFld R.TRIM_CTRL F.TRIM_CTRL_STEP 0
    let s := s.raise 573
    if s.reg R.TRIM_STATUS ≠ 0 then s.raise 574 else s

/-- The fire instant of a port; that of APPLY_PORT is also the apply instant of a trim that has been written (18 R542). -/
def fireInstant (n : Nat) (meets : Bool) (s : State) : State :=
  let applies := (firePred s n).isSome && s.fld R.TRIM_CTRL F.TRIM_CTRL_APPLY_PORT == n
  (triggerFire n meets s).cond applies trimApply

/-! ### The commands of the table -/

/-- TRIM_START (18 R540). -/
def execTrimStart (found : List (Option (Int × Bool))) (s : State) : Result :=
  .next (s.whenWorking (trimStart found))

/-- TRIM_VAULT_WRITTEN (18 R541). -/
def execTrimVaultWritten (s : State) : Result :=
  .next (s.whenWorking trimWrite)

/-- TRIM_APPLY (18 R542): at the end of step 6 where APPLY_PORT is not armed; where it is, its next fire instant
(TRIGGER_FIRE) applies. -/
def execTrimApply (s : State) : Result :=
  .next (s.whenWorking (fun s => if imgArmed s (s.fld R.TRIM_CTRL F.TRIM_CTRL_APPLY_PORT) then s else trimApply s))

/-- TRIGGER_FIRE (04 R143). `lost`: the fire instant lost to a sample, a commit or the end of LINE_MIN; `meets`: a
completing shading load met the boundary and lost to the commit (05 R165). -/
def execTriggerFire (n : Fin 10) (lost meets : Bool) (s : State) : Result :=
  .next (s.whenWorking (fun s =>
    fireInstant n meets ((s.lost lost (R.IMG_RACE n)).lost meets (R.IMG_RACE n))))

end Sys2Proof.Machine
end

