-- ==== Sys2Proof/Machine/Run.lean ====
section
/-!
DEFINITION. Runs, MAINT and the device watchdog (01 R27, R29, 15 R464, R477, 20 R576, R579, R580).
-/

namespace Sys2Proof.Machine

/-- A state record in the peat log (20 R584). -/
def peatState (old : Mode) (s : State) : State :=
  s.peatPush 1 0xFFFF (bytesLE 1 old.code ++ bytesLE 1 s.mode.code ++ bytesLE 2 (runId s) ++
    [if s.runActive then 1 else 0])

/-- The operating state changes: SYS_STATE, READY, a peat log record (01 R27, 02 R71). -/
def setMode (m : Mode) (s : State) : State :=
  let old := s.mode
  let s := ({ s with mode := m }).setFld R.SYS_STATE F.SYS_STATE_STATE m.code
  readyCheck (if old = m then s else peatState old s)

/-- RUN_ACTIVE and its copy in RUN_STATUS. -/
def showRunActive (b : Bool) (s : State) : State :=
  (s.setBit R.SYS_STATE F.SYS_STATE_RUN_ACTIVE b).setBit R.RUN_STATUS F.RUN_STATUS_ACTIVE b

/-- Whether a stream takes part in a run: it is enabled and receives nothing from another device (15 R465, 17 R516). -/
def takesPart (s : State) (n : Nat) : Bool := (s.stream n).enabled && !s.bit (R.RUN_FWD n) F.RUN_FWD_IN_EN

/-- Whether the last run still has records on their way, or chunks that wait for their SEAL: a new run's keys would take
theirs away (16 R492, R499; log entry 125). -/
def runEnding (s : State) : Bool := (List.range 16).any (streamBusy s)

/-- A run starts (01 R27, 15 R477, 20 R579): its ID, its streams, its ports and chains. -/
def beginRun (s : State) : State :=
  let id := (s.fld R.RUN_STATUS F.RUN_STATUS_RUN_ID + 1) % 65536
  let s := (s.setFld R.SYS_STATE F.SYS_STATE_RUN_ID id).setFld R.RUN_STATUS F.RUN_STATUS_RUN_ID id
  let s := eraseKeys (showRunActive true s)
  let v := s.boot.recovery
  let s := { s with boot := { s.boot with recovery := none } }
  let s := (List.range 16).foldl (fun s n =>
    if takesPart s n then
      let s := streamBegin v n s
      snapStream n (s.setStream n { s.stream n with sealedRun := id })
    else s) s
  let s := snapDevice true s
  let s := (List.range 10).foldl imgRunStart s
  let s := (List.range 4).foldl lampRunStart s
  (List.range 4).foldl tpRunStart s

/-- A run stops: its ports stop, its streams finish once their sources have drained (01 R27, 15 R477). -/
def endRun (s : State) : State :=
  let s := showRunActive false s
  let s := (List.range 16).foldl (fun s n =>
    let x := s.stream n
    if x.inRun then
      (s.setStream n { x with stopping := true }).setStage n { s.stage n with stopAt := some s.now }
    else s) s
  let s := (List.range 10).foldl imgRunStop s
  let s := (List.range 4).foldl lampRunStop s
  let s := (List.range 4).foldl tpRunStop s
  let s := streamsProgress s
  let s := (List.range 16).foldl (fun s n => if takesPart s n then snapStream n s else s) s
  snapDevice false s

/-- The RESULT of a request to start a run, and its effect where it is accepted (01 R27, 20 R580). -/
def askStart (s : State) : State × Nat :=
  if !s.working || s.bit R.RUN_STATUS F.RUN_STATUS_RECOVERING then (s, 3)
  else if s.runActive || runEnding s then (s, 4)
  else (beginRun s, 1)

/-- The RESULT of a request to stop the run. -/
def askStop (s : State) : State × Nat := if s.working && s.runActive then (endRun s, 1) else (s, 3)

/-- The RESULT of a request to enter MAINT (01 R27, R29). -/
def askMaintEnter (s : State) : State × Nat :=
  if s.mode ≠ .run then (s, 3) else if s.runActive then (s, 4) else (setMode .maint s, 1)

/-- The RESULT of a request to leave MAINT. -/
def askMaintExit (s : State) : State × Nat :=
  if s.mode ≠ .maint then (s, 3) else if s.runActive then (s, 4) else (setMode .run s, 1)

/-- ABANDON (20 R580): every drain pointer goes to its seal pointer without delivery, in the snapshot too (13 R425; log
entry 126). -/
def askAbandon (s : State) : State × Nat :=
  if s.mode ≠ .maint then (s, 3)
  else
    let s := (List.range 16).foldl (fun s n =>
      let s := completeBuffer n true s
      let x := s.stream n
      let s := s.setStream n { x with ents := [], cut := 0, sent := 0,
                                      completions := x.completions.map (fun (c : Completion) => { c with drain := 0 }) }
      snapStream n (showStarved n (setPtr s n (R.SPOOL_DRAIN n) (sealAt s n)))) s
    let v := s.boot.recovery
    let s := { s with boot := { s.boot with recovery := v.map (fun (w : Recovery) => { w with abandoned := true }) } }
    (s.setBit R.RUN_STATUS F.RUN_STATUS_RECOVERING false, 1)

/-- A frond's request: RESULT in RUN_STATUS. -/
def frondAsk (f : State → State × Nat) (s : State) : State :=
  let p := f s
  p.1.setFld R.RUN_STATUS F.RUN_STATUS_RESULT p.2

/-! ### The device watchdog (20 R576) -/

/-- The time left, in ns: it counts while the state is RUN or MAINT. -/
def devWdogLeft (s : State) : Nat :=
  if s.working && s.fld R.RUN_WDOG F.RUN_WDOG_TIMEOUT != 0 then s.root.wdogLeft - (s.now - s.root.wdogAt)
  else s.root.wdogLeft

/-- LEFT of RUN_WDOG_LEFT, in ms. -/
def devWdogView (s : State) : Nat := (devWdogLeft s + 999999) / 1000000

/-- The count reloaded. -/
def devWdogLoad (s : State) : State :=
  { s with root := { s.root with wdogLeft := s.fld R.RUN_WDOG F.RUN_WDOG_TIMEOUT * 1000000, wdogAt := s.now } }

/-- TIMEOUT written: the first nonzero write sets LOCK; while it is set a write has no effect. -/
def devWdogWrite (ms : Nat) (s : State) : State :=
  if s.bit R.RUN_WDOG F.RUN_WDOG_LOCK then s
  else
    let s := s.setFld R.RUN_WDOG F.RUN_WDOG_TIMEOUT ms
    devWdogLoad (if ms = 0 then s else s.setBit R.RUN_WDOG F.RUN_WDOG_LOCK true)

/-! ### The commands of the table -/

/-- RUN_START (01 R27). `lost` counts a MAINT request or a recovery that it meets (01 R32). -/
def execRunStart (lost : Bool) (s : State) : Result :=
  .next (s.whenWorking (fun s => (frondAsk askStart s).lost lost R.SYS_RACE))

/-- RUN_STOP (01 R27). `lost` counts a warm recovery cause that it meets (01 R32). -/
def execRunStop (lost : Bool) (s : State) : Result :=
  .next (s.whenWorking (fun s => (frondAsk askStop s).lost lost R.SYS_RACE))

/-- MAINT_EXIT (01 R27, R29). -/
def execMaintExit (lost : Bool) (s : State) : Result :=
  .next (s.whenWorking (fun s => (frondAsk askMaintExit s).lost lost R.SYS_RACE))

/-- ABANDON (20 R580). -/
def execAbandon (s : State) : Result := .next (s.whenWorking (frondAsk askAbandon))

/-- RUN_WDOG_WRITE (20 R576). -/
def execRunWdogWrite (ms : Fin 16777216) (s : State) : Result := .next (s.whenWorking (devWdogWrite ms))

/-- RUN_KICK (20 R576). `lost` counts an expiry that it meets. -/
def execRunKick (lost : Bool) (s : State) : Result :=
  .next (s.whenWorking (fun s =>
    (s.cond (s.fld R.RUN_WDOG F.RUN_WDOG_TIMEOUT != 0) devWdogLoad).lost lost R.SYS_RACE))

/-- AUTORUN_START (02 R72, R74): AUTORUN_DELAY_MS after READY first rises, once the previous run's records are
delivered. -/
def execAutorunStart (s : State) : Result :=
  .next (s.whenWorking (fun s =>
    match s.boot.spore, s.boot.readyRose with
    | some p, some t =>
      if p.autorun && s.boot.autorunWaits && !s.bit R.RUN_STATUS F.RUN_STATUS_RECOVERING then
        let s := s.reach (t + p.autorunDelay * 1000000)
        frondAsk askStart { s with boot := { s.boot with autorunWaits := false } }
      else s
    | _, _ => s))

end Sys2Proof.Machine
end

