-- ==== Sys2Proof/Machine/Power.lean ====
section
/-!
DEFINITION. Supplies, temperature, throttling and thermal shutdown (19 R553 to R574). Temperatures are in 1/16 °C.
-/

namespace Sys2Proof.Machine

/-! ### Sensors and islands (19 R562, R563) -/

/-- A sensor's own last reading. -/
def sensorT (s : State) (i : Nat) : Int := s.sfld (R.PWR_SENSOR i) F.PWR_SENSOR_T

/-- The other sensor of a sensor's island. -/
def twinOf (i : Nat) : Nat := if i % 2 = 0 then i + 1 else i - 1

/-- Whether a sensor is broken. -/
def sensorBroken (s : State) (i : Nat) : Bool := s.bit (R.PWR_SENSOR i) F.PWR_SENSOR_BROKEN

/-- A threshold of PWR_THRESH, a signed number of °C (19 R564). -/
def threshold (s : State) (f : Fld) : Int := 16 * s.sfld R.PWR_THRESH f

/-- HYST; 0 is taken as 1. -/
def hysteresis (s : State) : Int := 16 * (max 1 (s.fld R.PWR_THRESH F.PWR_THRESH_HYST) : Nat)

/-- The effective reading of a sensor: its own, or its twin's while it is broken. -/
def effective (s : State) (i : Nat) : Int := sensorT s (if sensorBroken s i then twinOf i else i)

/-- Whether both sensors of an island are broken. -/
def islandBlind (s : State) (k : Nat) : Bool := sensorBroken s (2 * k) && sensorBroken s (2 * k + 1)

/-- An island's reading: the higher of its two effective readings; with both sensors broken, as at SHUTDOWN. -/
def islandT (s : State) (k : Nat) : Int :=
  if islandBlind s k then threshold s F.PWR_THRESH_SHUTDOWN else max (effective s (2 * k)) (effective s (2 * k + 1))

/-- The hottest island, of several the first. -/
def hottest (s : State) : Nat :=
  (List.range 96).foldl (fun k j => if islandT s k < islandT s j then j else k) 0

/-- A sensor becomes broken and stays so until the next start: BROKEN, WHY, the SENSOR event. -/
def sensorBreak (s : State) (i why : Nat) : State :=
  let a := R.PWR_SENSOR i
  let s := (s.setBit a F.PWR_SENSOR_BROKEN true).setFld a F.PWR_SENSOR_WHY why
  (s.setBit (R.PWR_BROKEN (i / 32)) ⟨i % 32, 1⟩ true).raise 547

/-- A reading stored, with what the STUCK rule watches: since when the code stands, how far its twin has moved. -/
def sensorStore (codes : List Int) (s : State) (i : Nat) : State :=
  let c := codes.getD i (sensorT s i)
  let twin := codes.getD (twinOf i) (sensorT s (twinOf i))
  let s := s.setFld (R.PWR_SENSOR i) F.PWR_SENSOR_T (ofSigned 16 c)
  let fresh : SensorSt := ⟨c, s.now, twin, false⟩
  let x := match Sparse.find s.pwr.sensors i with
    | some w => if w.code = c then { w with moved := w.moved || decide (32 ≤ (twin - w.twin).natAbs) } else fresh
    | none => fresh
  { s with pwr := { s.pwr with sensors := Sparse.put (fun _ => none) s.pwr.sensors i x } }

/-- RANGE and STUCK. -/
def sensorJudge (s : State) (i : Nat) : State :=
  if sensorBroken s i then s
  else
    let t := sensorT s i
    let stuck := (Sparse.find s.pwr.sensors i).any (fun w => w.moved && decide (w.since + 10000000000 ≤ s.now))
    if t < -960 ∨ 2560 < t then sensorBreak s i 1 else if stuck then sensorBreak s i 2 else s

/-- DISAGREE: more than 10 °C below a twin that is not itself broken. -/
def sensorDisagree (s : State) (i : Nat) : State :=
  if !sensorBroken s i && !sensorBroken s (twinOf i) && decide (sensorT s i + 160 < sensorT s (twinOf i)) then
    sensorBreak s i 3
  else s

/-! ### Core voltage (19 R559, R560) -/

/-- The highest used operating point of any tuft, in MHz. -/
def highestOp (s : State) : Nat :=
  (List.range 8).foldl (fun m t => (List.range 4).foldl (fun m o => max m (tuftMhz s t o)) m) 0

/-- The VDD target in mV. -/
def vddTarget (s : State) : Nat :=
  let op := highestOp s
  let vop := if op ≤ 1000 then 0 else if op ≤ 1250 then 25 else 40
  let cold := if s.fld R.PWR_STATUS F.PWR_STATUS_BAND = 0 then 10 else 0
  max 700 (min 800 (700 + 5 * s.fld R.PWR_AVS_CFG F.PWR_AVS_CFG_PROCESS + vop + cold))

/-- The target written to the regulator; AVS_SETTLE later the voltage is read back. Before the end of step 8 of a start
the device writes nothing. -/
def avsWrite (s : State) : State :=
  if s.fld R.BOOT_STATUS F.BOOT_STATUS_STEP < 8 then s else
  let s := s.setFld R.PWR_AVS F.PWR_AVS_TARGET (vddTarget s)
  { s with pwr := { s.pwr with avsAt := some (s.now + 1000 * max 1 (s.fld R.PWR_AVS_CFG F.PWR_AVS_CFG_AVS_SETTLE)) } }

/-! ### Bands and the temperature records (19 R569, R572) -/

/-- A temperature record in the peat log (20 R584). -/
def tempRecord (why : Nat) (s : State) : State :=
  let k := s.fld R.PWR_STATUS F.PWR_STATUS_HOT_ISLAND
  s.peatPush 5 95 (bytesLE 1 k ++ [0] ++ bytesLE 2 (s.fld R.PWR_HOT F.PWR_HOT_T) ++
    bytesLE 2 (s.fld R.PWR_RATE F.PWR_RATE_MEAN) ++ bytesLE 2 (s.fld R.PWR_RATE F.PWR_RATE_RATE) ++
    bytesLE 1 (s.fld R.PWR_STATUS F.PWR_STATUS_LEVEL) ++ bytesLE 1 (s.fld R.PWR_STATUS F.PWR_STATUS_BAND) ++
    bytesLE 1 why)

/-- The band of a reading, from a band other than COLD. -/
def bandAbove (b : Nat) (t : Int) : Nat :=
  if t < 0 then 0
  else if 1600 < t then 3
  else if 1360 < t then (if b = 3 ∧ 1568 < t then 3 else 2)
  else if 2 ≤ b ∧ 1328 < t then 2 else 1

/-- The band that follows a reading (19 R569): 0 COLD, 1 NORMAL, 2 WARM, 3 HOT. -/
def bandOf (b : Nat) (t : Int) : Nat := if b = 0 ∧ t < 32 then 0 else bandAbove (max 1 b) t

/-- The band brought up to date: the event, the record, the mark for the streams, the VDD target at entry into and exit
from COLD. -/
def bandShow (s : State) : State :=
  let old := s.fld R.PWR_STATUS F.PWR_STATUS_BAND
  let b := bandOf old (s.sfld R.PWR_HOT F.PWR_HOT_T)
  if b = old then s
  else
    let s := (s.setFld R.PWR_STATUS F.PWR_STATUS_BAND b).raise 548
    let s := (List.range 16).foldl (fun s n => s.setStream n { s.stream n with bandMark := true }) s
    let s := tempRecord 3 s
    s.cond (b == 0 || old == 0) avsWrite

/-! ### Latched shutdown (19 R570) -/

/-- Every active run ends by fault: no unsealed record of it is ever sealed (01 R32, 16 R492). -/
def runsFault (s : State) : State :=
  let s := eraseKeys (showRunActive false s)
  let s := { s with recQ := [] }
  (List.range 16).foldl (fun s n =>
    let x := s.stream n
    s.setStream n { x with inRun := false, stopping := false, closed := [], open_ := [], spans := [], waiting := [] }) s

/-- Step 2: an enabled loop is set to 3,500 uA (09 R315). -/
def loopShut (s : State) (n : Nat) : State :=
  if s.actFld (R.LOOP_CFG n) F.LOOP_CFG_ENABLE = 0 then s else s.setFld (R.LOOP_READ n) F.LOOP_READ_SETPOINT 3500

/-- DRAM loses its content (19 R570, 20 R581). -/
def dramLose (s : State) : State :=
  let s := s.forget 0 0x2000000000
  { s with dramEpoch := s.dramEpoch + 1 }

/-- The steps of R570 for an island and its reading: latch, runs, lamps, loops, the last phase frame, SHUTDOWN delivered,
the peat log record, HALT. -/
def thermalShutdown (k : Nat) (t : Int) (s : State) : State :=
  let s := { s with pwr := { s.pwr with latch := true } }
  let s := runsFault s
  let s := (List.range 4).foldl blkAssert s
  let s := (List.range 2).foldl loopShut s
  let s := lastFrames s
  let s := eventDeliver 551 (s.raise 551)
  let s := s.peatPush 0xC 95 (bytesLE 1 k ++ [0] ++ bytesLE 2 (ofSigned 16 t))
  let s := setMode .halt (dramLose s)
  peatFlush s

/-! ### Thresholds (19 R564) -/

/-- Whether an island is at or above a threshold: it has reached it and not left it. -/
def stays (was : List Nat) (k : Nat) (t thr hyst : Int) : Bool :=
  decide (thr ≤ t) || (was.contains k && decide (thr - hyst < t))

/-- WARN and THROTTLE judged for one island. -/
def judgeIsland (s : State) (k : Nat) : State :=
  let t := islandT s k
  let h := hysteresis s
  let w := stays s.pwr.warm k t (threshold s F.PWR_THRESH_WARN) h
  let r := w && !s.pwr.warm.contains k
  let o := stays s.pwr.hot k t (threshold s F.PWR_THRESH_THROTTLE) h
  let put (l : List Nat) (b : Bool) : List Nat := if b then NatSet.insert l k else NatSet.erase l k
  let s := { s with pwr := { s.pwr with warm := put s.pwr.warm w, hot := put s.pwr.hot o } }
  s.cond r (fun s => (s.flag R.PWR_STATUS F.PWR_STATUS_WARN_ACTIVE).raise 544)

/-- One conversion of the 192 sensors (19 R562 to R564, R569, R570). -/
def tempConvert (codes : List Int) (s : State) : State :=
  let s := (List.range 192).foldl (sensorStore codes) s
  let s := (List.range 192).foldl sensorJudge s
  let s := (List.range 192).foldl sensorDisagree s
  let k := hottest s
  let t := islandT s k
  let s := (s.setFld R.PWR_STATUS F.PWR_STATUS_HOT_ISLAND k).setFld R.PWR_HOT F.PWR_HOT_T (ofSigned 16 t)
  let s := (List.range 96).foldl judgeIsland s
  let s := s.setBit R.PWR_STATUS F.PWR_STATUS_WARN_ACTIVE (!s.pwr.warm.isEmpty)
  let s := bandShow s
  if threshold s F.PWR_THRESH_SHUTDOWN ≤ t then thermalShutdown k t s else s

/-! ### Throttling (19 R565, R566) -/

/-- The level in force: the higher of the thermal level and FLOOR. A change raises LEVEL and is recorded. -/
def levelShow (s : State) : State :=
  let a := R.PWR_THROTTLE
  let old := s.fld R.PWR_STATUS F.PWR_STATUS_LEVEL
  let l := max (s.fld a F.PWR_THROTTLE_THERMAL) (s.fld a F.PWR_THROTTLE_FLOOR)
  if l = old then s
  else
    let s := (s.setFld R.PWR_STATUS F.PWR_STATUS_LEVEL l).setBit R.PWR_STATUS F.PWR_STATUS_THROTTLE_ACTIVE (0 < l)
    let s := s.setFld a F.PWR_THROTTLE_PEAK (max l (s.fld a F.PWR_THROTTLE_PEAK))
    tempRecord 2 (s.raise 545)

/-- M, 192 times over: the sum of the effective readings. -/
def meanSum (s : State) : Int := (List.range 192).foldl (fun m i => m + effective s i) 0

/-- The thermal level after an evaluation, and the count of evaluations since rule 2 acted, by the rules of R565 in order:
`r` is the rate in 192 times 1/16 °C per second, `hot` whether an island is at or above THROTTLE, `cool` whether every
island is below THROTTLE less HYST. -/
def levelRules (old : Nat) (rateFor : Option Nat) (sinceLevel : Nat) (r : Int) (hot cool : Bool) : Nat × Option Nat :=
  let fast := decide ((3 * 16 * 192 : Int) ≤ r)
  let acts := fast && (match rateFor with
    | none => true
    | some k => decide (10 ≤ k + 1))
  let next := if fast then (if acts then some 0 else rateFor.map (· + 1)) else none
  let l1 : Nat := if (6 * 16 * 192 : Int) ≤ r then 7 else old
  let l2 := if acts then l1 + 2 else l1
  let l3 := if hot then l2 + 1 else l2
  let l4 := if cool ∧ !fast ∧ 10 ≤ sinceLevel then l3 - 1 else l3
  (min 7 l4, next)

/-- The evaluation of every 100 ms (19 R565, R566). -/
def throttleEval (s : State) : State :=
  let a := R.PWR_THROTTLE
  let m := meanSum s
  let r : Int := (s.pwr.sums[9]?).elim 0 (fun b => m - b)
  let steep : Bool := decide (18432 ≤ r)
  let thr := threshold s F.PWR_THRESH_THROTTLE
  let cool := (List.range 96).all (fun k => decide (islandT s k < thr - hysteresis s))
  let old := s.fld a F.PWR_THROTTLE_THERMAL
  let since := s.pwr.sinceLevel + 1
  let (l, rf) := levelRules old s.pwr.rateFor since r (!s.pwr.hot.isEmpty) cool
  let s := { s with pwr := { s.pwr with sums := (m :: s.pwr.sums).take 10, rateFor := rf,
                                        sinceLevel := if l = old then since else 0 } }
  let s := s.setFld R.PWR_RATE F.PWR_RATE_MEAN (ofSigned 16 (divRound m 192))
  let s := s.setFld R.PWR_RATE F.PWR_RATE_RATE (ofSigned 16 (clampInt (-32768) 32767 (divRound r 192)))
  let s := s.cond steep (fun s => (s.flag R.PWR_STATUS F.PWR_STATUS_RATE_WARN).raise 546)
  levelShow (s.setFld a F.PWR_THROTTLE_THERMAL l)

/-- PWR_THRESH written: SHUTDOWN may only be lowered (19 R564). -/
def threshWrite (v : Word) (s : State) : State :=
  let old := s.reg R.PWR_THRESH
  let a := toSigned 8 (old.get F.PWR_THRESH_SHUTDOWN)
  let b := toSigned 8 (v.get F.PWR_THRESH_SHUTDOWN)
  let v := v &&& 0x0FFFFFFF
  s.setReg R.PWR_THRESH (if a < b then v.put F.PWR_THRESH_SHUTDOWN (old.get F.PWR_THRESH_SHUTDOWN) else v)

/-! ### The AON island's supplies (19 R557) -/

/-- The supplies as PWR_STATUS shows them. -/
def aonShow (s : State) : State :=
  let a := R.PWR_STATUS
  ((s.setBit a F.PWR_STATUS_VAON_A_OK s.pwr.vaonA).setBit a F.PWR_STATUS_VAON_B_OK s.pwr.vaonB).setBit a
    F.PWR_STATUS_AON_SRC s.pwr.onB

/-- A switch of the AON island's supply: SWITCHES and AON_SWITCH. -/
def aonSwitch (toB : Bool) (s : State) : State :=
  if s.pwr.onB = toB then s
  else (({ s with pwr := { s.pwr with onB := toB } }).satInc R.PWR_AON F.PWR_AON_SWITCHES).raise 549

/-- VAON_A below 1.62 V, or above 1.70 V for 10 ms. -/
def vaonA (up : Bool) (s : State) : State :=
  let s := { s with pwr := { s.pwr with vaonA := up } }
  aonShow (if up then aonSwitch false s else s.cond s.pwr.vaonB (aonSwitch true))

/-- VAON_B below or at 1.62 V. The island moves to it if VAON_A is still below 1.62 V. -/
def vaonB (up : Bool) (s : State) : State :=
  let s := { s with pwr := { s.pwr with vaonB := up } }
  aonShow (s.cond (up && !s.pwr.vaonA) (aonSwitch true))

/-! ### The commands of the table -/

/-- TEMP_CONVERSION (19 R562): the next conversion, 50 us after the last. `m.lost` counts a threshold write or an MRAM
write start that it meets (19 R573); `m.meets`: another state event reaches the root's arbiter with the shutdown that
this conversion finds, and loses (01 R32). -/
def execTempConversion (codes : List (BitVec 16)) (m : Meeting) (s : State) : Result :=
  .next (s.whenServing (fun s =>
    let s := s.reach (s.pwr.convAt + 50000)
    let s := { s with pwr := { s.pwr with convAt := s.now } }
    let s := tempConvert (codes.map (fun c => c.toInt)) (s.lost m.lost R.PWR_RACE)
    s.cond (m.meets && s.mode == .halt) (fun s => s.satInc R.SYS_RACE F.SYS_RACE_RACE)))

/-- THROTTLE_EVALUATION (19 R565): 100 ms after the last. `lost` counts a write of FLOOR that it meets (19 R573). -/
def execThrottleEvaluation (lost : Bool) (s : State) : Result :=
  .next (s.whenServing (fun s =>
    let s := s.reach (s.pwr.evalAt + 100000000)
    let s := { s with pwr := { s.pwr with evalAt := s.now } }
    throttleEval (s.lost lost R.PWR_RACE)))

/-- PWR_THRESH_WRITE (19 R564). `lost` counts a conversion that it meets. -/
def execPwrThreshWrite (v : BitVec 32) (lost : Bool) (s : State) : Result :=
  .next (s.whenWorking (fun s => (threshWrite v s).lost lost R.PWR_RACE))

/-- TEMP_LOG_SAMPLE (19 R572): TEMP_LOG seconds after the last record; 0 turns them off. -/
def execTempLogSample (s : State) : Result :=
  .next (s.whenServing (fun s =>
    let k := s.fld R.PWR_LOG F.PWR_LOG_TEMP_LOG
    if k = 0 then s
    else
      let s := s.reach (s.pwr.logAt + k * 1000000000)
      tempRecord 1 { s with pwr := { s.pwr with logAt := s.now } }))

/-- AVS_READBACK (19 R560): the voltage read AVS_SETTLE after a target write; `ok` is false where the regulator does not
respond or a frame fails its CRC. -/
def execAvsReadback (mv : BitVec 10) (ok : Bool) (s : State) : Result :=
  .next (s.whenServing (fun s =>
    match s.pwr.avsAt with
    | none => s
    | some t =>
      let s := s.reach t
      let s := { s with pwr := { s.pwr with avsAt := none } }
      let want := s.fld R.PWR_AVS F.PWR_AVS_TARGET
      let s := s.cond ok (fun s => s.setFld R.PWR_AVS F.PWR_AVS_READBACK mv.toNat)
      let bad := !ok || decide (want + 10 < mv.toNat ∨ mv.toNat + 10 < want)
      s.cond bad (fun s => (s.flag R.PWR_STATUS F.PWR_STATUS_AVS_ERR).raise 550)))

/-- DRAM_REFRESH (19 R569): the refresh takes the interval of the band. `lost` counts a band change that it meets. -/
def execDramRefresh (lost : Bool) (s : State) : Result :=
  .next (s.whenServing (fun s =>
    let s := { s with pwr := { s.pwr with refreshBand := s.fld R.PWR_STATUS F.PWR_STATUS_BAND } }
    (s.emit .refresh).lost lost R.PWR_RACE))

/-- VAON_A_LOSS (19 R557). -/
def execVaonALoss (s : State) : Result := .next (vaonA false s)

/-- VAON_A_RETURN (19 R557). -/
def execVaonAReturn (s : State) : Result := .next (vaonA true s)

/-- VAON_B_LOSS (19 R557). -/
def execVaonBLoss (s : State) : Result := .next (vaonB false s)

/-- VAON_B_RETURN (19 R557). -/
def execVaonBReturn (s : State) : Result := .next (vaonB true s)

end Sys2Proof.Machine
end

