-- ==== Sys2Proof/Machine/Calib.lean ====
section
/-!
DEFINITION. The calibration sets loaded during step 8 of a start (02 R56, 05 R161, 07 R235, R236, R243, R249, 08 R273,
13 R430).
-/

namespace Sys2Proof.Machine

/-- The generation that a reference loads: the newest, or the one it names, whose LENGTH fits and whose DATA_CRC holds
(13 R430). -/
def calPick (s : State) (c : CalRef) (fits : Nat → Bool) : Option VaultEnt :=
  ((vaultOf s c.id).take 2).find? (fun e =>
    (c.gen == 0 || e.gen == c.gen) && e.kind == c.kind && fits e.len && crc32c (s.read (mramBase + e.start) e.len) == e.crc)

/-- The reference of a block, a kind and a set. -/
def calRefOf (s : State) (block kind set : Nat) : Option CalRef :=
  match s.boot.spore with
  | some p => p.calrefs.find? (fun c => c.block == block && c.kind == kind && c.set == set)
  | none => none

/-- What a reference brings: nothing where none is made, `some none` where it falls back to identity. -/
def calData (s : State) (block kind set : Nat) (fits : Nat → Bool) : Option (Option (List Byte)) :=
  (calRefOf s block kind set).map (fun c => (calPick s c fits).map (fun e => s.read (mramBase + e.start) e.len))

/-! ### Imaging ports -/

/-- One shading set written to DRAM; a region outside DRAM is a bus error, one that no claim covers takes
nothing (05 R161, 01 R35, 13 R411). -/
def calShade (n : Nat) (s : State) (set : Nat) : State :=
  let k := imgColours s n * imgPixels s n
  let b := setsBase s n + 0x80000 * set
  let d := calData s (0x10 + n) 1 set (· == 0x60400)
  let (ents, list) := match d with
    | some (some x) => (slice 0 (8 * k) x, slice 0x60000 0x400 x)
    | _ => ((List.replicate k (bytesLE 8 (2 ^ 36))).flatten, List.replicate 0x400 0)
  let s := if 0x2000000000 < b + 0x80000 then imgFault s n F.IMG_STATUS_BUS_ERR
    else s.cond (s.dramOpen b 0x80000) (fun s => (s.write b ents).write (b + 0x60000) list)
  s.cond (d == some none) (fun s => s.raise (Ev.img n 4))

/-- The sets of an imaging port. -/
def calImg (s : State) (n : Nat) : State := showDual ((List.range 4).foldl (calShade n) s) n

/-! ### Thermal ports -/

/-- A port's calibration event. -/
def calEvent (n : Nat) (s : State) : State := s.raise (Ev.tp n 3)

/-- A set whose records carry UNCALIBRATED. -/
def calIdent (n set : Nat) (s : State) : State :=
  s.setTp n { s.tp n with ident := (s.tp n).ident ||| 2 ^ set }

/-- One NUC set written to DRAM (07 R233 to R235). -/
def calNuc (n : Nat) (s : State) (set : Nat) : State :=
  let g := s.reg (R.TP_GEOM n)
  let (rows, cols) := (rowsOf g, colsOf g)
  let b := s.reg64 (R.TP_NUC_BASE_LO n) + 0x1000000 * set
  let d := calData s (0x20 + n) 2 set (· == rows * cols * 12)
  let row (r : Nat) : List Byte := match d with
    | some (some x) => slice (r * cols * 12) (cols * 12) x
    | _ => (List.replicate cols (bytesLE 12 0x4000)).flatten
  let s := (List.range rows).foldl (fun s r => s.portWrite (b + r * strideOf cols) (row r)) s
  let good := match d with
    | some (some _) => true
    | _ => false
  let s := s.setTp n { s.tp n with ident := if good then (s.tp n).ident &&& (15 - 2 ^ set) else (s.tp n).ident ||| 2 ^ set }
  s.cond (d == some none) (calEvent n)

/-- One drift model; a reference that fails leaves no drift (07 R236, 02 R56). -/
def calDrift (n : Nat) (s : State) (set : Nat) : State :=
  let d := calData s (0x20 + n) 3 set (· == 16)
  let x := match d with
    | some (some x) => x
    | _ => bytesLE 4 0 ++ bytesLE 4 0x80000000 ++ bytesLE 4 0x7FFFFFFF ++ bytesLE 4 100
  let s := (List.range 4).foldl (fun s i => s.setReg (R.TP_DRIFT_T0 n set + 4 * i) (BitVec.ofNat 32 (natAt (4 * i) 4 x))) s
  s.cond (d == some none) (fun s =>
    calEvent n (calIdent n set (s.setTp n { s.tp n with noDrift := (s.tp n).noDrift ||| 2 ^ set })))

/-- The defect table: entries out of order, duplicated or outside the array are dropped and counted (07 R249). -/
def calDefects (s : State) (n : Nat) : State :=
  let refs : List CalRef := match s.boot.spore with
    | some p => p.calrefs.filter (fun (c : CalRef) => c.block == 0x20 + n && c.kind == 4)
    | none => []
  match refs with
  | [] => s
  | c :: _ =>
    match calPick s c (fun l => decide (l % 64 = 0 ∧ l ≤ 16384)) with
    | none => calEvent n (s.setTp n { s.tp n with ident := 15 })
    | some e =>
      let g := s.reg (R.TP_GEOM n)
      let ws : List Word := (List.range (e.len / 4)).map (fun i => BitVec.ofNat 32 (s.readNat (mramBase + e.start + 4 * i) 4))
      let ws := ws.filter (fun (w : Word) => w.getLsbD 31)
      let step (p : List Word × Nat) (w : Word) : List Word × Nat :=
        let inside := decide (w.get F.TP_DEF_ROW < rowsOf g ∧ w.get F.TP_DEF_COL < colsOf g)
        let after := match p.1.getLast? with
          | some v => decide (defKey v < defKey w)
          | none => true
        if inside && after then (p.1 ++ [w], p.2) else (p.1, p.2 + 1)
      let (l, bad) := ws.foldl step ([], 0)
      let old := (s.tp n).defs
      showDefs ((s.setTp n { s.tp n with defs := l }).satInc (R.TP_DEF_STATUS n) F.TP_DEF_STATUS_REFUSED bad) n old

/-- Whether a radiometric table strictly increases. -/
def rising : List Nat → Bool
  | a :: b :: l => decide (a < b) && rising (b :: l)
  | _ => true

/-- One radiometric table (08 R273). -/
def calRadio (n : Nat) (s : State) (set : Nat) : State :=
  match calData s (0x20 + n) 5 set (· == 8192) with
  | none => s
  | some none => calEvent n (calIdent n set s)
  | some (some x) =>
    let t := (List.range 4096).map (fun i => natAt (2 * i) 2 x)
    let y := s.tp n
    let s := s.setTp n { y with tables := Sparse.put (fun _ => some ((List.range 4096).map (16 * ·))) y.tables set t }
    s.cond (!rising t) (fun s => s.setBit (R.TP_RAD_CFG n) ⟨F.TP_RAD_CFG_NONMONO.lo + set, 1⟩ true)

/-- The shutter plane and its trailer, of the NUC set in force (07 R243, 08 R266, R270). -/
def calPlane (s : State) (n : Nat) : State :=
  let g := s.reg (R.TP_GEOM n)
  let k := rowsOf g * colsOf g
  let set := s.actFld (R.TP_FRAME_CFG n) F.TP_FRAME_CFG_NUC_SET
  match calData s (0x20 + n) 6 set (· == roundUp (k + 16) 64) with
  | none => s.setBit (R.TP_STATUS n) F.TP_STATUS_NO_SHUTTER true
  | some none => calEvent n (calIdent n set (s.setBit (R.TP_STATUS n) F.TP_STATUS_NO_SHUTTER true))
  | some (some x) =>
    let bs := (List.range k).filterMap (fun i => if byteAt i x = 0 then none else some (i, toSigned 8 (byteAt i x)))
    let s := (s.setTp n { s.tp n with plane := bs }).setBit (R.TP_STATUS n) F.TP_STATUS_NO_SHUTTER false
    let w (i : Nat) : Word := BitVec.ofNat 32 (natAt (k + 4 * i) 4 x)
    let s := ((s.setReg (R.TP_ANCHOR n) (w 0)).setReg (R.TP_ANCHOR_TH n) (w 1)).setReg (R.TP_ANCHOR_TL n) (w 2)
    let s := s.setFld (R.TP_SHUT_MEAN n) ⟨0, 16⟩ ((w 3).get ⟨0, 16⟩)
    s.setBit (R.TP_RAD_CFG n) F.TP_RAD_CFG_ANCHOR_VALID ((w 3).getLsbD 31)

/-- Everything that a thermal port loads. -/
def calTp (s : State) (n : Nat) : State :=
  let s := (List.range 4).foldl (calNuc n) s
  let s := (List.range 4).foldl (calDrift n) s
  let s := (List.range 4).foldl (calRadio n) (calDefects s n)
  calPlane s n

/-- Step 8: every calibration set of every port. -/
def calLoad (s : State) : State := (List.range 4).foldl calTp ((List.range 10).foldl calImg s)

end Sys2Proof.Machine
end

