-- ==== Sys2Proof/Machine/Runner.lean ====
section
/-!
DEFINITION. The runner links' commands: the ring, device time across it, shared triggers and positions, remote access to
exchange RAM, record forwarding (17 R505 to R520).
-/

namespace Sys2Proof.Machine

/-- The runner state changed. -/
def State.onRunner (s : State) (f : RunnerSt → RunnerSt) : State := { s with runner := f s.runner }

/-! ### Receiving (17 R508, R509) -/

/-- The flits left once an ACK covers up to its SEQ; none goes where no held flit has it. -/
def ackHeld (ack : Nat) (l : List HeldFlit) : List HeldFlit :=
  if l.any (fun f => f.seq == ack) then (l.dropWhile (fun f => f.seq != ack)).drop 1 else l

/-- An ACK taken: held flits leave; a valid flit has arrived. -/
def linkFree (n ack : Nat) (s : State) : State :=
  let x := s.link n
  let l := ackHeld ack x.held
  let progress := decide (l.length < x.held.length)
  s.setLink n { x with held := l, replays := if progress then 0 else x.replays, lastAt := s.now }

/-- An ACK taken, after which waiting flits follow. -/
def linkAck (n ack : Nat) (s : State) : State := linkDrain n 64 (linkFree n ack s)

/-- A received flit on the link: its ACK, its place in SEQ order; one taken is acknowledged, one out of order is
answered with NAK. -/
def linkReceive (h : FlitHead) (f : State → State) (s : State) : State :=
  if !(s.link h.link).up then s
  else
    let s := linkAck h.link h.ack s
    let x := s.link h.link
    if h.seq.val = (x.got + 1) % 64 then idleOut h.link false (f (s.setLink h.link { x with got := h.seq }))
    else idleOut h.link true s

/-- A flit goes on out the other link while it has hops left. -/
def relay (h : FlitHead) (b : FlitBody) (s : State) : State :=
  if h.hops.val ≤ 1 then s else linkSend (1 - h.link.val) h.dest h.src (h.hops - 1) b s

/-- A broadcast flit: taken here and passed on, unless it is this device's own. -/
def receiveAll (h : FlitHead) (b : FlitBody) (f : State → State) (s : State) : State :=
  linkReceive h (fun s =>
    if h.src.val = s.devid then s else relay h b (s.cond (ringServes s) f)) s

/-- A unicast flit: taken here, or passed on. -/
def receiveOne (h : FlitHead) (b : FlitBody) (f : State → State) (s : State) : State :=
  linkReceive h (fun s => if h.dest.val = s.devid then s.cond (ringServes s) f else relay h b s) s

/-! ### The ring (17 R506, R507, R511) -/

/-- PRESENT, CLOSED and MASTER. -/
def ringShow (s : State) : State :=
  let up (n : Nat) : Bool := (s.link n).up
  let l := s.runner.heard
  let own := up 0 || up 1
  let ids := (if own then [s.devid] else []) ++ l.map (·.id)
  let mask := (List.range 8).foldl (fun m i => if ids.contains i then m + 2 ^ i else m) 0
  let closed := !l.isEmpty && up 0 && up 1 && l.all (fun h => h.aUp && h.bUp)
  let master := ((List.range 8).find? (fun i => ids.contains i)).getD 0
  let a := R.RUN_RING
  ((s.setFld a F.RUN_RING_PRESENT mask).setBit a F.RUN_RING_CLOSED closed).setFld a F.RUN_RING_MASTER master

/-- The devices that no way reaches any more leave the list. -/
def heardTidy (s : State) : State :=
  s.onRunner (fun r => { r with heard := r.heard.filter (fun h => h.a.isSome || h.b.isSome) })

/-- This device announces itself out both links. -/
def announce (s : State) : State :=
  let b : FlitBody := .ring (BitVec.ofNat 64 s.root.serial) (s.link 0).up (s.link 1).up
  linkSend 1 s.devid s.devid 7 b (linkSend 0 s.devid s.devid 7 b s)

/-- The own ID heard from another device: DUP_ID and NEIGHBOUR; no service until the next start. -/
def duplicate (n : Nat) (s : State) : State :=
  ((s.flag R.RUN_RING F.RUN_RING_DUP_ID).raise (Ev.runner n 2)).onRunner (fun r => { r with dup := true })

/-- A device heard at a distance out a link; one whose far link is down ends the way there. -/
def hear (n id d : Nat) (aUp bUp : Bool) (s : State) : State :=
  let l := s.runner.heard
  let old := (l.find? (fun h => h.id == id)).getD ⟨id, aUp, bUp, none, none⟩
  let new : Heard := if n = 0 then { old with aUp := aUp, bUp := bUp, a := some d }
    else { old with aUp := aUp, bUp := bUp, b := some d }
  let ends := if n = 0 then !aUp else !bUp
  let cut (h : Heard) : Heard :=
    if !ends then h
    else if n = 0 then { h with a := h.a.filter (fun k => decide (k ≤ d)) }
    else { h with b := h.b.filter (fun k => decide (k ≤ d)) }
  let l := (l.filter (fun h => h.id != id)).map cut ++ [new]
  ringShow (heardTidy (s.onRunner (fun r => { r with heard := l })))

/-- A link comes up (17 R506): the neighbour is known, NEIGHBOUR tells that it is another one than before (17 R520), and
the device announces itself. -/
def linkUp (n id serial : Nat) (s : State) : State :=
  let st := R.RLINK_STATUS n
  if !s.serving ∨ !s.bit R.RUN_CFG F.RUN_CFG_ENABLE ∨ (s.link n).up then s
  else
    let changed := (s.link n).nb.any (fun i => i != id)
    let s := s.setLink n { up := true, lastAt := s.now, nb := some id }
    let s := ((s.setFld st ⟨0, 2⟩ 2).setBit st F.RLINK_STATUS_NB_VALID true).setFld st ⟨4, 3⟩ id
    let s := (s.raise (Ev.runner n 0)).cond changed (fun s => s.raise (Ev.runner n 2))
    let s := s.cond (id == s.devid && serial != s.root.serial) (duplicate n)
    announce (ringShow s)

/-- A trigger scheduled, or raised on arrival once it is late (17 R512). -/
def trigSource (c : Nat) : Nat := if c < 8 then 520 + c else 536 + (c - 8)

/-- After a lost link the origin of forwarded streams resends from their drain pointers (17 R517). -/
def fwdAgain (s : State) : State :=
  (List.range 16).foldl (fun s k =>
    s.cond (s.bit (R.RUN_FWD k) F.RUN_FWD_OUT_EN) (fun s => s.setStream k { s.stream k with sent := 0 })) s

/-- A link goes down (17 R509, R519): its retry buffer is discarded; a shared trigger of this device that lay in it goes
by the other way; a forwarded stream resends from its drain pointer. -/
def linkDown (n : Nat) (fail : Bool) (s : State) : State :=
  if !(s.link n).up then s
  else
    let x := s.link n
    let st := R.RLINK_STATUS n
    let s := (s.setLink n { nb := x.nb }).setBit st F.RLINK_STATUS_NB_VALID false
    let s := (s.cond fail (fun s => s.flag st F.RLINK_STATUS_LINK_FAIL)).raise (Ev.runner n 0)
    let s := s.onRunner (fun r => { r with
      heard := r.heard.map (fun h => if n = 0 then { h with a := none } else { h with b := none }) })
    let s := announce (ringShow (heardTidy (linkTrain s n)))
    let own := (x.held ++ x.waiting).filter (fun f => f.src == s.devid && flitRank f.body == 2)
    fwdAgain (own.foldl (fun s f => unicast f.dest f.body s) s)

/-- RUN_CFG written: taken only while no run is active; ENABLE 0 holds both links down. -/
def runCfgWritten (s : State) : State :=
  if s.bit R.RUN_CFG F.RUN_CFG_ENABLE then (List.range 2).foldl linkTrain s
  else (List.range 2).foldl (fun s n => linkTrain (linkDown n false s) n) s

/-! ### Shared triggers (17 R512) -/

/-- A trigger that reaches this device: scheduled, or raised on arrival, counted in TRIG_LATE with LATE. -/
def trigArrives (n c due : Nat) (s : State) : State :=
  if due < s.now then
    ((s.satInc R.RUN_TRIG_STAT F.RUN_TRIG_STAT_TRIG_LATE).raise (Ev.runner n 4)).raise (trigSource c)
  else s.onRunner (fun r => { r with trigs := r.trigs ++ [⟨c, due⟩] })

/-- RUN_TRIG_SEND written: one flit to each device named, the own one scheduled here. -/
def trigSend (dest c : Nat) (s : State) : State :=
  let s := s.wrapInc R.RUN_TRIG_STAT F.RUN_TRIG_STAT_SENT
  let due := s.now + max 200 (s.fld R.RUN_CFG F.RUN_CFG_TRIG_DELAY)
  (List.range 8).foldl (fun s d =>
    if dest / 2 ^ d % 2 = 0 then s
    else if d = s.devid then s.onRunner (fun r => { r with trigs := r.trigs ++ [⟨c, due⟩] })
    else unicast d (.trig (Fin.ofNat 16 c) (BitVec.ofNat 64 due)) s) s

/-- The trigger that is due first. -/
def firstTrig : List TrigDue → Option TrigDue
  | [] => none
  | t :: l =>
    match firstTrig l with
    | some u => if u.due < t.due then some u else some t
    | none => some t

/-! ### Shared positions (17 R513, R514) -/

/-- SHARE_NS within its limits. -/
def shareNs (s : State) : Nat := min 10000 (max 250 (s.fld R.RUN_POS_OUT F.RUN_POS_OUT_SHARE_NS))

/-- The speed window that the shared interface has completed since the last flit of one, sent in a flit of its own (17
R513). -/
def speedShare (s : State) : State :=
  let i := s.fld R.RUN_POS_OUT F.RUN_POS_OUT_INTERFACE
  let st := s.reg (R.ENC_SPEED_STAT i)
  let seq := st.get F.ENC_SPEED_STAT_WINDOW_SEQ
  let one (f : Fld) : Bool := st.get f == 1
  let v : PosFlit := .speed (s.reg (R.ENC_SPEED i)) (one F.ENC_SPEED_STAT_STANDSTILL) (one F.ENC_SPEED_STAT_REVERSAL)
    (one F.ENC_SPEED_STAT_STARTUP) (one F.ENC_SPEED_STAT_SAT)
  if !s.bit R.RUN_POS_OUT F.RUN_POS_OUT_EN ∨ seq = s.runner.speedSeq then s
  else (broadcast (.pos (Fin.ofNat 8 i) v) s).onRunner (fun r => { r with speedSeq := seq })

/-- The newest sample broadcast, with TURN and its turning point after a reversal. -/
def posShare (s : State) : State :=
  if !s.bit R.RUN_POS_OUT F.RUN_POS_OUT_EN then s
  else
    let i := s.fld R.RUN_POS_OUT F.RUN_POS_OUT_INTERFACE
    let itf : Fin 8 := Fin.ofNat 8 i
    let s := s.reach (s.runner.shareAt + shareNs s)
    let x := (s.enc i).last
    let turn := s.runner.turn
    let b : PosFlit := .sample (BitVec.ofInt 64 x.pos) (BitVec.ofNat 64 x.t2) x.dir x.back turn.isSome x.valid x.suspect
    let s := broadcast (.pos itf b) s
    let s := match turn with
      | some e => broadcast (.pos itf (.turningPoint (BitVec.ofInt 64 e))) s
      | none => s
    speedShare (s.onRunner (fun r => { r with shareAt := s.now, turn := none }))

/-- Whether a shared interface's local interface publishes: its MODE is off. -/
def posLocal (s : State) (j : Nat) : Option Nat :=
  let r := s.reg (R.RUN_POS_IN j)
  let n := r.get F.RUN_POS_IN_LOCAL
  if r.get F.RUN_POS_IN_EN = 1 ∧ encMode s n = 0 then some n else none

/-- A received sample published by the local interface (03 R88). -/
def posPublish (n : Nat) (x : Sample) (s : State) : State :=
  let st := R.ENC_STATUS n
  let s := dirShow n x.dir (s.setSreg64 (R.ENC_POS_LO n) x.pos)
  let s := (s.setBit st F.ENC_STATUS_TDIR x.back).setBit st F.ENC_STATUS_POS_SUSPECT x.suspect
  let e := (s.enc n).e
  let beyond := if x.back then decide (x.pos < e) else decide (e < x.pos)
  let s := s.setEnc n { s.enc n with e := if beyond || x.turn then x.pos else e }
  publish s n x

/-- A POS flit taken by POS_IN j. A sample with TURN waits for its turning point, the flit that follows it. -/
def posTake (j : Nat) (p : PosFlit) (s : State) : State :=
  match posLocal s j with
  | none => s
  | some n =>
    match p with
    | .sample pos t2 dir back turn valid suspect =>
      let x : Sample := ⟨pos.toInt, t2.toNat, dir, back, turn, valid, suspect, (s.enc n).e, n⟩
      let s := s.onRunner (fun r => { r with posAt := Sparse.put (fun _ => none) r.posAt j s.now })
      if turn then s.onRunner (fun r => { r with heldTurn := Sparse.put (fun _ => none) r.heldTurn j x })
      else posPublish n x s
    | .turningPoint e =>
      match Sparse.find s.runner.heldTurn j with
      | some x =>
        let s := s.onRunner (fun r => { r with heldTurn := Sparse.erase r.heldTurn j })
        posPublish n { x with prevE := e.toInt } s
      | none => s
    | .speed v still rev startup sat =>
      let st := R.ENC_SPEED_STAT n
      let s := ((noteSpeed s n).setReg (R.ENC_SPEED n) v).wrapInc st F.ENC_SPEED_STAT_WINDOW_SEQ
      let s := (s.setBit st F.ENC_SPEED_STAT_STANDSTILL still).setBit st F.ENC_SPEED_STAT_SAT sat
      let s := (s.setBit st F.ENC_SPEED_STAT_REVERSAL rev).setBit st F.ENC_SPEED_STAT_STARTUP startup
      let s := s.cond (s.bit (R.ENC_STATUS n) F.ENC_STATUS_STANDSTILL != still) (fun s =>
        (s.setBit (R.ENC_STATUS n) F.ENC_STATUS_STANDSTILL still).raise (Ev.enc n 3))
      s.cond still (fun s => sendItem s n .still)

/-- A POS flit of an interface of a device. -/
def posArrives (src itf : Nat) (p : PosFlit) (s : State) : State :=
  (List.range 2).foldl (fun s j =>
    let r := s.reg (R.RUN_POS_IN j)
    if r.get F.RUN_POS_IN_SRC_DEV = src ∧ r.get F.RUN_POS_IN_SRC_IF = itf then posTake j p s else s) s

/-- 10 us without a sample: the interface publishes one with VALID 0 (17 R514). -/
def posTimeout (j : Nat) (s : State) : State :=
  match posLocal s j with
  | none => s
  | some n =>
    let s := s.reach ((Sparse.find s.runner.posAt j).getD 0 + 10000)
    let x := (s.enc n).last
    publish s n { x with t2 := 2 * s.now, turn := false, valid := false }

/-! ### Remote exchange-RAM access (17 R515, R519) -/

/-- A remote access ends: RESULT, PENDING, REMOTE. -/
def rmtEnd (n result : Nat) (s : State) : State :=
  let a := R.RUN_RMT_STATUS
  let s := (s.setFld a F.RUN_RMT_STATUS_RESULT result).setBit a F.RUN_RMT_STATUS_PENDING false
  (s.onRunner (fun r => { r with rmt := none })).raise (Ev.runner n 5)

/-- The bytes of an access by SIZE. -/
def rmtLen (size : Nat) : Nat := 8 * 2 ^ size

/-- The data of an access, 16 bytes to a flit, each piece with its place (17 R508: a payload has 24 bytes; log entry
132). -/
def pieces (bs : List Byte) : List (Nat × List Byte) :=
  (List.range ((bs.length + 15) / 16)).map (fun i => (16 * i, slice (16 * i) 16 bs))

/-- GO: ignored while an access is pending; to a device that no way reaches it ends at once. -/
def rmtGo (write : Bool) (dev size : Nat) (s : State) : State :=
  if s.bit R.RUN_RMT_STATUS F.RUN_RMT_STATUS_PENDING then s
  else
    match (if ringServes s then routeTo s dev else none) with
    | none => rmtEnd 0 5 s
    | some (n, _) =>
      let len := rmtLen size
      let off := s.fld R.RUN_RMT_ADDR F.RUN_RMT_ADDR_OFFSET / len * len
      let data := if write then ((List.range 16).flatMap (fun k => bytesLE 4 (s.reg (R.RUN_RMT_DATA k)).toNat)).take len
        else []
      let s := s.setBit R.RUN_RMT_STATUS F.RUN_RMT_STATUS_PENDING true
      let s := s.onRunner (fun r => { r with rmt := some ⟨n, write, len, s.now, [], dev⟩ })
      if write then (pieces data).foldl (fun s p =>
          unicast dev (.rmtReq true (Fin.ofNat 4 size) (Fin.ofNat 262144 (off + p.1)) p.2) s) s
      else unicast dev (.rmtReq false (Fin.ofNat 4 size) (Fin.ofNat 262144 off) []) s

/-- A response sent: its data goes 16 bytes to a flit; without data it is one flit. -/
def rmtAnswer (dev : Nat) (result : Fin 16) (out : List Byte) (s : State) : State :=
  if out = [] then unicast dev (.rmtRsp result []) s
  else (pieces out).foldl (fun s p => unicast dev (.rmtRsp result p.2) s) s

/-- An access of another device, whole: served on port B, or refused; a destructive march of the exchange RAM refuses
it (13 R422; log entry 107). Busy on port B is reported in the response (13 R419). -/
def rmtServe (dev : Nat) (write : Bool) (len off : Nat) (data : List Byte) (c : PortB) (s : State) : State :=
  let lo := 64 * s.fld R.RUN_RMT_WIN F.RUN_RMT_WIN_BASE
  let hi := 64 * s.fld R.RUN_RMT_WIN F.RUN_RMT_WIN_LIMIT + 64
  if !s.bit R.RUN_CFG F.RUN_CFG_RMT_EN ∨ off < lo ∨ hi < off + len ∨ underMarch s 0x70 then rmtAnswer dev 3 [] s
  else
    let out := if write then [] else exchRead s off len c
    let s := if write then exchWrite s off ((padTo len data).map some) else exchNote off c { s with freeCtr := s.freeCtr + len }
    let busy := c.collision.any (·.busy)
    let s := s.cond c.collision.isSome exchCollided
    rmtAnswer dev (if busy then 2 else 1) out s

/-- A flit of an access of another device: a write is served once all its bytes have come. -/
def rmtArrives (dev : Nat) (write : Bool) (size off : Nat) (data : List Byte) (c : PortB) (s : State) : State :=
  let len := rmtLen size
  if write then
    let before := (Sparse.find s.runner.rmtIn dev).getD []
    let got := before ++ data
    if got.length < len then s.onRunner (fun r => { r with rmtIn := Sparse.put (fun _ => none) r.rmtIn dev got })
    else rmtServe dev true len (off - before.length) got c (s.onRunner (fun r => { r with rmtIn := Sparse.erase r.rmtIn dev }))
  else rmtServe dev false len off [] c s

/-- Whether a flit of a response answers the access that is pending: not one of a former access, and not one of another
device than the access asks. -/
def rmtMatches (dev : Nat) (former : Bool) (s : State) : Bool :=
  !former && s.runner.rmt.any (fun x => x.dev == dev)

/-- A response that comes after the timeout is discarded, flit by flit, and counted in LATE_RSP once (17 R519). -/
def rmtLate (last : Bool) (s : State) : State := s.cond last (fun s => s.satInc R.RUN_RMT_STATUS F.RUN_RMT_STATUS_LATE_RSP)

/-- A flit of the pending access's response: the access ends with the last one of its data, or with a result without
data. -/
def rmtResponse (result : Nat) (data : List Byte) (s : State) : State :=
  match s.runner.rmt with
  | none => s
  | some x =>
    let take := !x.write && (result == 1 || result == 2)
    let got := x.got ++ data
    if take && got.length < x.len then s.onRunner (fun r => { r with rmt := some { x with got := got } })
    else
      let s := s.cond take (fun s => (List.range (x.len / 4)).foldl (fun s k =>
        s.setReg (R.RUN_RMT_DATA k) (BitVec.ofNat 32 (natAt (4 * k) 4 got))) s)
      rmtEnd x.link result s

/-! ### Record forwarding: the origin (17 R516 to R518) -/

/-- FORWARD when forwarding stops for lack of space, and when it resumes. -/
def fwdStall (n : Nat) (b : Bool) (s : State) : State :=
  let x := s.stream n
  if x.fwdStalled = b then s
  else
    let l := ((routeTo s (s.fld (R.RUN_FWD n) F.RUN_FWD_DEVICE)).map (·.1)).getD 0
    (s.setStream n { x with fwdStalled := b }).raise (Ev.runner l 6)

/-- The next sealed record sent, 24 bytes to a flit, if the granted space holds it. -/
def fwdSend (n : Nat) (s : State) : State :=
  let x := s.stream n
  let r := s.reg (R.RUN_FWD n)
  let dev := r.get F.RUN_FWD_DEVICE
  if r.get F.RUN_FWD_OUT_EN = 0 ∨ !x.enabled ∨ (routeTo s dev).isNone then s
  else
    match entAt x.ents (x.cut + x.sent) with
    | none => s
    | some (e, _, _) =>
      if x.fwdSpace < e.len then fwdStall n true s
      else
        let s := fwdStall n false s
        let bs := s.islandRead (spoolBase s n + e.off) e.len
        let peer : Fin 16 := Fin.ofNat 16 (r.get F.RUN_FWD_STREAM)
        let s := (List.range ((e.len + 23) / 24)).foldl (fun s i =>
          unicast dev (.fwd peer (.data (slice (24 * i) 24 bs))) s) s
        let x := s.stream n
        s.setStream n { x with sent := x.sent + e.len, fwdSpace := x.fwdSpace - e.len }

/-- An answer of the receiver: the drain pointer advances over what it holds, and its space is granted. -/
def fwdAcked (n bytes space : Nat) (s : State) : State :=
  if !s.bit (R.RUN_FWD n) F.RUN_FWD_OUT_EN then s
  else
    let bytes := min bytes (((s.stream n).ents.map (·.len)).sum - (s.stream n).cut)
    let s := s.cond (decide (0 < bytes)) (fun s => streamProgress (showRecovering (snapStream n (drainBytes n bytes s))) n)
    let x := s.stream n
    s.setStream n { x with fwdSpace := space - x.sent }

/-- An FWD flit for this device: bytes of a forwarded stream, or an answer. -/
def fwdArrives (src n : Nat) (f : FwdFlit) (s : State) : State :=
  match f with
  | .data bs =>
    if fwdIn s n && s.fld (R.RUN_FWD n) F.RUN_FWD_DEVICE == src then
      let x := s.stream n
      showStarved n (fwdPlace n 64 (s.setStream n { x with fwdBuf := x.fwdBuf ++ bs }))
    else s
  | .ack bytes space => if s.fld (R.RUN_FWD n) F.RUN_FWD_DEVICE = src then fwdAcked n bytes space s else s

/-- The streams that a device forwards here are granted their space. -/
def grantAll (src : Nat) (s : State) : State :=
  (List.range 16).foldl (fun s n =>
    if fwdIn s n && s.fld (R.RUN_FWD n) F.RUN_FWD_DEVICE == src then
      fwdAnswer n 0 (s.setStream n { s.stream n with fwdBuf := [] }) else s) s

/-! ### The commands of the table -/

/-- RUNNER_LINK_UP (17 R506). -/
def execRunnerLinkUp (n : Fin 2) (id : Fin 8) (serial : BitVec 64) (s : State) : Result :=
  .next (linkUp n id serial.toNat s)

/-- RUNNER_LINK_DOWN (17 R509): 16 replays without progress, or 10 us without a valid flit. -/
def execRunnerLinkDown (n : Fin 2) (lost : Bool) (s : State) : Result :=
  .next (
    let x := s.link n
    if !x.up then s
    else (linkDown n true (if 16 ≤ x.replays then s else s.reach (x.lastAt + 10000))).lost lost R.RUN_RACE)

/-- FLIT_NAK (17 R509, R510): replay from the next SEQ, before any flit that waits. -/
def execFlitNak (n : Fin 2) (ack : Fin 64) (s : State) : Result :=
  .next (
    if !(s.link n).up then s
    else
      let s := linkFree n ack s
      let x := s.link n
      let s := s.setLink n { x with replays := x.replays + 1 }
      let s := (s.satInc (R.RLINK_ERR n) F.RLINK_ERR_REPLAYS).raise (Ev.runner n 1)
      linkDrain n 64 (x.held.foldl (fun s f => flitOut n f s) s))

/-- RING_ANNOUNCE (17 R506): announcements leave with 7 hops. A device that hears of a link that has come up, or of
one gone, announces itself anew (log entry 62); after a lost link it resends its forwarded streams (17 R517). -/
def execRingAnnounce (h : FlitHead) (serial : BitVec 64) (aUp bUp : Bool) (s : State) : Result :=
  .next (linkReceive h (fun s =>
    if h.src.val = s.devid then (if serial.toNat = s.root.serial then s else duplicate h.link s)
    else
      let known := s.runner.heard.any (fun x => x.id == h.src.val && x.aUp == aUp && x.bUp == bUp)
      let s := relay h (.ring serial aUp bUp) (hear h.link h.src (8 - h.hops.val) aUp bUp s)
      (s.cond (!known) (fun s => announce (s.cond (!(aUp && bUp)) fwdAgain))).cond (ringServes s) (grantAll h.src)) s)

/-- TIME_FLIT (17 R511): `t` is the master's device time at this instant, link delays and residence times added; `t.lost`
counts a measurement or time-out that it meets in the choice of the source (18 R524, TIME_RACE). -/
def execTimeFlit (h : FlitHead) (t : TimeMark) (s : State) : Result :=
  .next (receiveAll h (.time t.at_) (fun s =>
    if isMaster s then s
    else
      let s := s.lost t.lost R.TIME_RACE
      let e : Int := (t.at_.toNat : Int) - s.now
      let s := runnerMeasure e (s.onRunner (fun r => { r with timeLink := h.link }))
      setTimeLock (srcValid s 0 && decide (e.natAbs ≤ 2)) s) s)

/-- TIME_FLIT_SEND (17 R511): the master's, every 1 ms. -/
def execTimeFlitSend (s : State) : Result :=
  .next (
    if ringServes s && isMaster s then
      let s := s.reach (s.runner.timeAt + 1000000)
      broadcast (.time (BitVec.ofNat 64 s.now)) (s.onRunner (fun r => { r with timeAt := s.now }))
    else s)

/-- RUN_TRIG_SEND (17 R512). `lost` counts a link's fall that it meets (17 R519). -/
def execRunTrigSend (dest : BitVec 8) (channel : Fin 16) (lost : Bool) (s : State) : Result :=
  .next (if ringServes s then (trigSend dest.toNat channel s).lost lost R.RUN_RACE else s)

/-- TRIG_FLIT (17 R512). -/
def execTrigFlit (h : FlitHead) (channel : Fin 16) (due : BitVec 64) (s : State) : Result :=
  .next (receiveOne h (.trig channel due) (trigArrives h.link channel due.toNat) s)

/-- TRIGGER_DUE (17 R512): the trigger that is due first. -/
def execTriggerDue (s : State) : Result :=
  .next (s.whenWorking (fun s =>
    match firstTrig s.runner.trigs with
    | none => s
    | some t => ((s.reach t.due).onRunner (fun r => { r with trigs := r.trigs.erase t })).raise (trigSource t.channel)))

/-- SPEED_WINDOW_END (03 R103, R104): a completed window of the shared interface is sent (17 R513). -/
def execSpeedWindowEnd (n : Fin 8) (lost : Bool) (s : State) : Result :=
  .next (s.whenWorking (fun s =>
    let s := windowEnd n (s.lost lost (R.ENC_RACE n))
    s.cond (ringServes s) speedShare))

/-- POS_SHARE_SEND (17 R513): SHARE_NS after the last one. -/
def execPosShareSend (s : State) : Result := .next (if ringServes s then posShare s else s)

/-- POS_FLIT (17 R514). -/
def execPosFlit (h : FlitHead) (itf : Fin 8) (p : PosFlit) (s : State) : Result :=
  .next (receiveAll h (.pos itf p) (posArrives h.src itf p) s)

/-- SHARED_POS_TIMEOUT (17 R514). -/
def execSharedPosTimeout (j : Fin 2) (s : State) : Result := .next (s.whenWorking (posTimeout j))

/-- RMT_READ (17 R515). -/
def execRmtRead (dev : Fin 8) (size : Fin 4) (s : State) : Result := .next (s.whenWorking (rmtGo false dev size))

/-- RMT_WRITE (17 R515). -/
def execRmtWrite (dev : Fin 8) (size : Fin 4) (s : State) : Result := .next (s.whenWorking (rmtGo true dev size))

/-- RMT_REQ (17 R515, 13 R418, R419). -/
def execRmtReq (h : FlitHead) (write : Bool) (size : Fin 4) (offset : Fin 262144) (data : List Byte)
    (c : PortB) (s : State) : Result :=
  .next (receiveOne h (.rmtReq write size offset data) (rmtArrives h.src write size offset data c) s)

/-- RMT_RSP (17 R515). `x.lost` counts the timeout that it meets (17 R519). -/
def execRmtRsp (h : FlitHead) (result : Fin 16) (data : List Byte) (x : RspFlit) (s : State) : Result :=
  .next (receiveOne h (.rmtRsp result data) (fun s =>
    if rmtMatches h.src x.former s then (rmtResponse result data s).lost x.lost R.RUN_RACE else rmtLate x.last s) s)

/-- RMT_TIMEOUT (17 R515): 10 us. `lost` counts a response that it meets (17 R519). -/
def execRmtTimeout (lost : Bool) (s : State) : Result :=
  .next (s.whenWorking (fun s =>
    match s.runner.rmt with
    | none => s
    | some x => (rmtEnd x.link 4 (s.reach (x.at_ + 10000))).lost lost R.RUN_RACE))

/-- RECORD_FORWARD_SEND (17 R517). -/
def execRecordForwardSend (n : Fin 16) (s : State) : Result := .next (if ringServes s then fwdSend n s else s)

/-- FWD_FLIT (17 R516, R517). `lost` counts a link loss that an acknowledgement meets (17 R519). -/
def execFwdFlit (h : FlitHead) (stream : Fin 16) (f : FwdFlit) (lost : Bool) (s : State) : Result :=
  .next (receiveOne h (.fwd stream f) (fun s => (fwdArrives h.src stream f s).lost lost R.RUN_RACE) s)

/-- FLIT_RECEIVE_ERROR (17 R509): a CRC failure, or a SEQ out of order; NAK with the last good SEQ. -/
def execFlitReceiveError (n : Fin 2) (crc : Bool) (s : State) : Result :=
  .next (
    if !(s.link n).up then s
    else idleOut n true (s.cond crc (fun s => s.satInc (R.RLINK_ERR n) F.RLINK_ERR_CRC_ERR)))

/-- BAD_FLIT_TYPE (17 R508): dropped and counted. -/
def execBadFlitType (h : FlitHead) (s : State) : Result :=
  .next (linkReceive h (fun s => s.satInc (R.RLINK_STATUS h.link) F.RLINK_STATUS_BAD_FLIT) s)

/-- IDLE_FLIT (17 R508, R509): its ACK frees held flits. -/
def execIdleFlit (n : Fin 2) (ack : Fin 64) (s : State) : Result := .next (if (s.link n).up then linkAck n ack s else s)

end Sys2Proof.Machine
end

