-- ==== Sys2Proof/Machine/Scripts.lean ====
section
/-!
DEFINITION. The commands of the script engines (02 R58, R59; 04 R134, R135; 06 R205, R206; 07 R224).
-/

namespace Sys2Proof.Machine

/-- Whether a target's next operation may start: a chain lets its drive frame in progress latch first, and holds LCn_BLK
asserted (06 R205). -/
def scriptMay (s : State) (t : ScriptTarget) : Bool :=
  match t with
  | .lamp n => lampScriptMay s n
  | _ => true

/-- What follows a change of a script engine at its port or chain: readiness; a chain's first script frame, and the
present words after its last (04 R122, 06 R205, R206, 07 R222). -/
def scriptSettle (t : ScriptTarget) (s : State) : State :=
  match t with
  | .img n => readyCheck (imgReady s n)
  | .tp n => tpReady s n
  | .lamp n => lampScriptSettle (s.cond (s.engine (targetCode t)).inTransfer (fun s => lampScriptFrame s n)) n

/-- A step of a target's engine. -/
def scriptStep (t : ScriptTarget) (f : Nat → State → State) (s : State) : State :=
  s.whenWorking (fun s => scriptSettle t (f (targetCode t) s))

/-- An operation begins. -/
def scriptOpen (t : ScriptTarget) (f : Nat → State → State) (s : State) : State :=
  if scriptMay s t then scriptStep t f s else s

/-- Whether the last line, frame or exposure window of the run has ended at a target (04 R135, 06 R205, 07 R224). -/
def runStopReached (s : State) (t : ScriptTarget) : Bool :=
  match t with
  | .img n => imgDelivered s n
  | .tp n => tpDrained s n
  | .lamp _ => s.windows.isEmpty

/-! ### The commands of the table -/

/-- SCRIPT_PHASE_RUN_STOP (04 R135). -/
def execScriptPhaseRunStop (t : ScriptTarget) (s : State) : Result :=
  .next (s.whenWorking (fun s =>
    if (targetCode t) ∈ s.stopScripts ∧ !s.runActive ∧ runStopReached s t then
      scriptSettle t (scriptBegin { s with stopScripts := NatSet.erase s.stopScripts (targetCode t) } (targetCode t) 3)
    else s))

/-- SCRIPT_WRITE (02 R58). -/
def execScriptWrite (t : ScriptTarget) (s : State) : Result := .next (scriptOpen t (scriptStart 1) s)

/-- SCRIPT_CHECK (02 R58). -/
def execScriptCheck (t : ScriptTarget) (s : State) : Result := .next (scriptOpen t (scriptStart 2) s)

/-- SCRIPT_POLL (02 R58). -/
def execScriptPoll (t : ScriptTarget) (s : State) : Result := .next (scriptOpen t (scriptStart 3) s)

/-- SCRIPT_WAIT (02 R58). -/
def execScriptWait (t : ScriptTarget) (s : State) : Result := .next (scriptOpen t scriptWait s)

/-- SCRIPT_END (02 R58). -/
def execScriptEnd (t : ScriptTarget) (s : State) : Result := .next (scriptOpen t scriptEndOp s)

/-- SCRIPT_TRANSFER_DONE (04 R134, 06 R203, R204, 07 R224): the bytes that came back, most significant first: the data
bytes, or all of the readback of a chain's second script frame; `ok`: acknowledged in time. -/
def execScriptTransferDone (t : ScriptTarget) (got : List Byte) (ok : Bool) (s : State) : Result :=
  .next (scriptStep t (fun k => scriptTransferDone k got ok) s)

/-- SCRIPT_POLL_RETRY (02 R58). -/
def execScriptPollRetry (t : ScriptTarget) (limit : Bool) (s : State) : Result :=
  .next (scriptStep t (fun k => scriptPollRetry k limit) s)

/-- SCRIPT_WAIT_END (02 R58). -/
def execScriptWaitEnd (t : ScriptTarget) (s : State) : Result := .next (scriptStep t scriptWaitEnd s)

end Sys2Proof.Machine
end

