-- ==== Sys2Proof/Machine/Regs.lean ====
section
/-!
DEFINITION. What a write of any register does, and what a read of it returns (00 R10 to R14, 03 R117, 18 R526, R528).
The families' own meanings hold what each register's write starts; here a write finds them by its address.
-/

namespace Sys2Proof.Machine

/-! ### Reading (00 R11, R12, 03 R117) -/

/-- Half of a 64-bit value. -/
def halfOf (v : Nat) (hi : Bool) : Word := BitVec.ofNat 32 (if hi then v / 2 ^ 32 else v)

/-- A register whose value is computed when it is read. -/
def liveView (s : State) (a : Nat) : Option Word :=
  let f := (a - 0x5004000000) / 0x100000
  if a = R.TIME_NOW_LO then some (halfOf s.now false)
  else if a = R.TIME_NOW_LO + 4 then some (halfOf s.now true)
  else if a = R.GPIO_IN then some (gpioIn s)
  else if a = R.GPIO_MISROUTE then some (gpioMisroute s)
  else if a = R.RUN_WDOG_LEFT then some (BitVec.ofNat 32 (devWdogView s))
  else if a = R.MEM_VAULT_STATUS then
    some ((s.reg a).put F.MEM_VAULT_STATUS_BUSY (if s.ms.vault = [] then 0 else 1))
  else if 0x5004000000 ≤ a ∧ a < 0x5008000000 ∧ a = R.FRD_WDOG_LEFT f then some (BitVec.ofNat 32 (wdogLeftView s f))
  else none

/-- What a register shows now: 0 where no register is (00 R12). -/
def State.shown (s : State) (a : Nat) : Word :=
  let a := canonReg a
  match liveView s a with
  | some w => w
  | none =>
    match descOf a with
    | some _ => s.reg a
    | none => 0

/-- The low registers of the 64-bit pairs, by address and strides (03 R117). -/
def pairLows : List (Nat × List (Nat × Nat)) := [
  (R.BOOT_CONFLICT_IDX_LO, []), (R.ENC_POS_LO 0, [(256, 8)]), (R.ENC_INDEX_LO 0, [(256, 8)]),
  (R.ENC_INDEX_PREV_LO 0, [(256, 8)]), (R.CMP_TIME_LO 0, [(32, 16)]), (R.IMG_LAST_LO 0, [(1048576, 10)]),
  (R.IMG_NEXT_LO 0, [(1048576, 10)]), (R.IMG_COMMIT_TAKEN_LO 0, [(1048576, 10)]),
  (R.LC_COMMIT_TAKEN_LO 0, [(4096, 4)]), (R.TP_COMMIT_TAKEN_LO 0, [(1048576, 4)]),
  (R.TP_SHUT_LAST_LO 0, [(1048576, 4)]), (R.M_VALUE_LO 0, [(64, 16)]), (R.M_TIME_LO 0, [(64, 16)]),
  (R.AXIS_POS_LO 0, [(512, 8)]), (R.AXIS_REMAIN_LO 0, [(512, 8)]), (R.AXIS_FB_POS_LO 0, [(512, 8)]),
  (R.AXIS_HOME_LATCH_LO 0, [(512, 8)]), (R.AXIS_COMMIT_TAKEN_LO 0, [(512, 8)]),
  (R.FRD_FAULT_ADDR_LO 0, [(1048576, 64)]), (R.FRD_ACC_ADDR_LO 0, [(1048576, 64)]),
  (R.TUFT_COMMIT_TAKEN_LO 0, [(8388608, 8)]), (R.MEM_UE_ADDR_LO, []), (R.CH_CUR_LO 0, [(64, 64)]),
  (R.CH_FETCH_ADDR_LO 0, [(64, 64)]), (R.CH_COMMIT_TAKEN_LO 0, [(64, 64)]), (R.TRUST_SERIAL_LO, []),
  (R.TIME_NOW_LO, []), (R.TRIM_TIME_LO, []), (R.TMRN_NEXT_LO 0, [(32, 64)]), (R.TMRN_COMMIT_TAKEN_LO 0, [(8, 64)]),
  (R.PEAT_NEWEST_LO, []), (R.PEAT_OLDEST_LO, []), (R.ENC_PRESET_LO 0, [(256, 8)]), (R.CMP_TARGET_LO 0, [(32, 16)]),
  (R.IMG_PITCH_LO 0, [(1048576, 10)]), (R.IMG_ORIGIN_LO 0, [(1048576, 10)]), (R.IMG_SETS_LO 0, [(1048576, 10)]),
  (R.TP_NUC_BASE_LO 0, [(1048576, 4)]), (R.TP_SHUT_BASE_LO 0, [(1048576, 4)]), (R.TP_LAG_BASE_LO 0, [(1048576, 4)]),
  (R.TP_TPITCH_LO 0, [(1048576, 4)]), (R.TP_TORIGIN_LO 0, [(1048576, 4)]), (R.AXIS_TARGET_LO 0, [(512, 8)]),
  (R.AXIS_POS_MIN_LO 0, [(512, 8)]), (R.AXIS_POS_MAX_LO 0, [(512, 8)]), (R.AXIS_HOME_POS_LO 0, [(512, 8)]),
  (R.FRD_WIN_BASE_LO 0 0, [(1048576, 64), (16, 8)]), (R.FRD_WIN_LIMIT_LO 0 0, [(1048576, 64), (16, 8)]),
  (R.FRD_Q_BASE_LO 0 0, [(1048576, 64), (32, 8)]), (R.FRD_Q_RELEASE_LO 0 0, [(1048576, 64), (32, 8)]),
  (R.FRD_EVT_PEND_LO 0, [(1048576, 64)]), (R.MEM_VAULT_SRC_LO, []), (R.SPOOL_BASE_LO 0, [(32, 16)]),
  (R.CH_HEAD_LO 0, [(64, 64)]), (R.HOST_EVREC_DATA_LO, []), (R.TIME_PTM_OFS_LO, []), (R.TIME_SET_LO, [])]

/-- Whether a register is the low half of such a pair. -/
def isPairLow (a : Nat) : Bool := pairLows.any (fun p => decide (p.1 ≤ a) && RegDesc.hits p.2 (a - p.1))

/-- The place of a requester's snapshot of a high half: the fronds and the DMA engine have one each (03 R117). -/
def snapKey (q : Requester) (a : Nat) : Option Nat :=
  match q with
  | .frond f => some (a + 0x1000000000000 * f.val)
  | .dma => some (a + 0x1000000000000 * 64)
  | _ => none

/-- A requester's read: a _LO register captures its _HI half; a _HI register returns what was captured, 0 before the
first capture (03 R117; log entry 13). -/
def readReg (q : Requester) (a0 : Nat) (s : State) : Word × State :=
  let a := canonReg a0
  if isPairLow a then
    match snapKey q (a + 4) with
    | some k => (s.shown a, { s with snap := Sparse.put (fun _ => none) s.snap k (s.shown (a + 4)) })
    | none => (s.shown a, s)
  else if 4 ≤ a && isPairLow (a - 4) then
    match snapKey q a with
    | some k => ((Sparse.find s.snap k).getD 0, s)
    | none => (s.shown a, s)
  else (s.shown a, s)

/-! ### Shadows that wait (00 R14, 18 R526) -/

/-- The CTRL register and the COMMIT_PENDING bit of the set that an RW-S register belongs to. -/
def pendingOf (a : Nat) : Option (Nat × Fld) :=
  let o := a % 0x100000
  let of (u : CommitUnit) : Option (Nat × Fld) := some (u.ctrl, u.pend)
  match regionOf a with
  | .block b =>
    if b = 8 then
      if o < 0x1000 then of (encUnit (o / 0x100)) else if o < 0x2000 then of (cmpUnit ((o - 0x1000) / 0x20))
      else of (ptUnit ((o - 0x2000) / 0x20))
    else if b = 9 then of (axUnit (o / 0x200))
    else if b = 0xA then if o < 0x800 then of (measUnit ((o - 0x400) / 0x40)) else of (loopUnit ((o - 0x800) / 0x40))
    else if b = 0xB then of (lampUnit (o / 0x1000))
    else if 0x10 ≤ b ∧ b < 0x1A then of (if o < 0x1000 then capUnit (b - 0x10) else corUnit (b - 0x10))
    else if 0x20 ≤ b ∧ b < 0x24 then of (tpUnit (b - 0x20))
    else if b = 6 then of (tmrUnit ((o - 0x100) / 0x20))
    else if b = 0x29 then of (chanUnit ((o - 0x1000) / 0x40))
    else if 0x40 ≤ b then some (R.TUFT_CTRL ((b - 0x40) / 8), F.TUFT_CTRL_COMMIT_PENDING)
    else none
  | _ => none

/-- The CTRL register whose COMMIT_PENDING refuses a write of this register (00 R14). -/
def refusedBy (s : State) (a : Nat) : Option Nat :=
  match pendingOf a with
  | some (c, f) => if s.bit c f then some c else none
  | none => none

/-- A refused shadow write counted, and reported to a frond under the address that it wrote (00 R14, 11 R367; log entry
14). -/
def refuseShadow (q : Requester) (a ctrl : Nat) (s : State) : State :=
  let n := Sparse.get (fun _ => 0) s.refusals ctrl
  let s := { s with refusals := Sparse.put (fun _ => some 0) s.refusals ctrl (n + 1) }
  match q with
  | .frond f => accessRefused f a s
  | _ => s

/-! ### Effects beside the stored bits, by block -/

/-- A write that a rule takes back. -/
def State.restore (s : State) (a : Nat) (old : Word) : State := s.setReg a old

/-- An effect on a bit written 1. -/
def onBit (v : Word) (k : Nat) (f : State → State) (s : State) : State := s.cond (v.getLsbD k) f

/-- POS (03 R83, R109, R113). -/
def posWritten (o : Nat) (v : Word) (s : State) : State :=
  if o < 0x1000 then if o % 0x100 = 4 then onBit v 0 (encCommit (o / 0x100)) s else s
  else if o < 0x2000 then if o % 0x20 = 4 then onBit v 0 (cmpCommit ((o - 0x1000) / 0x20)) s else s
  else if o % 0x20 = 4 then onBit v 0 (ptCommit ((o - 0x2000) / 0x20)) s else s

/-- MOT (10 R323, R325, R327). -/
def motWritten (a o : Nat) (v old : Word) (s : State) : State :=
  if 0x10000 ≤ o then
    let n := (o - 0x10000) / 0x8000
    if axState s n = 3 then axFlag (s.restore a old) n F.AXIS_STATUS_CFG_REFUSED 7 else s
  else if o < 0x1000 then
    let n := o / 0x200
    if o % 0x200 = 0 then onBit v 0 ((axUnit n).commit) s
    else if o % 0x200 = 4 then
      let c := v.get F.AXIS_CMD_CMD
      if 1 ≤ c ∧ c ≤ 7 then axCommand s n c else cmdRefused s n
    else s
  else s

/-- PREC (09 R296 to R317). -/
def precWritten (a o : Nat) (v old : Word) (s : State) : State :=
  if o = 0 then onBit v 0 calStart s
  else if o = 4 ∨ o = 8 then precRefWritten a old s
  else if 0x400 ≤ o ∧ o < 0x800 ∧ o % 0x40 = 0xC then
    let k := (o - 0x400) / 0x40
    onBit v 4 (measUrgent k) (onBit v 3 (measTrigger k) (onBit v 0 (measCommit k) s))
  else if 0x800 ≤ o ∧ o < 0x880 then
    let n := (o - 0x800) / 0x40
    if o % 0x40 = 4 then onBit v 0 (loopCommit n) s else if o % 0x40 = 0x10 then loopRefresh n s else s
  else s

/-- LAMP (06 R197 to R217). -/
def lampWritten (a o : Nat) (v old : Word) (s : State) : State :=
  if 0x4000 ≤ o then s
  else
    let n := o / 0x1000
    let p := o % 0x1000
    if p = 0 then onBit v 0 (lampCommit n) s
    else if p = 4 ∨ p = 8 ∨ p = 0xC ∨ p = 0x10 ∨ p = 0x1C ∨ p = 0x88 then lampCfgWritten n a old s
    else if p = 0x24 then tempWritten n s
    else if p = 0x80 then onBit v 8 (lampScriptRun n) s
    else if 0x100 ≤ p ∧ p < 0x180 ∧ p % 0x10 = 8 then onBit v 2 (groupRestore n ((p - 0x100) / 0x10)) s
    else s

/-- IMG_n (04 R119, R121, R133, R147, 05 R162, R176, R193): a width of 8 lanes takes the next port's group, and a geometry
shows DUAL anew. A write of COR_CTRL with COMMIT and LOAD commits first (DESIGN CHOICE: log entry 124). -/
def imgWritten (n a o : Nat) (v old : Word) (s : State) : State :=
  if o = 0 then onBit v 0 (imgCommit n) s
  else if o = 0x20 then onBit v 8 (scriptRun n) s
  else if o = 0x1000 then onBit v 4 (shadingLoad n) (onBit v 0 (imgCorCommit n false) s)
  else if s.runActive && [4, 0x10, 0x14, 0x18, 0x1008, 0x100C, 0x1010, 0x1014, 0x1030, 0x1034].contains o then
    imgFault (s.restore a old) n F.IMG_STATUS_CFG_REFUSED
  else if o = 4 then (List.range 10).foldl (fun s k => s.cond (n < k) (fun s => portYield s k)) (laneRewidth n s)
  else if o = 0x1008 then s.setFld a ⟨0, 16⟩ 0
  else if o = 0x10 ∨ o = 0x18 then showDual s n
  else s

/-- TPORT_n (07 R223 to R247, 08 R260, R263). -/
def tpWritten (n a o : Nat) (v old : Word) (s : State) : State :=
  if o = 0 then onBit v 0 ((tpUnit n).commit) s
  else if o = 0x20 then onBit v 8 (scriptRun (0x10 + n)) s
  else if [4, 8, 0xC, 0x10, 0x14, 0x28, 0x2C, 0x230, 0x234, 0x240, 0x280, 0x284, 0x288, 0x2A0, 0x2A4, 0x2A8, 0x2AC, 0x2B0,
      0x2B4].contains o then tpCfgWritten n a old s
  else if 0x100 ≤ o ∧ o < 0x140 then tpDriftWritten n ((o - 0x100) / 0x10) a old s
  else if o = 0xC0 then defEdit n v s
  else if o = 0x20C then onBit v 1 (shutAbortRequest n) (onBit v 0 (shutRequest false n) s)
  else s

/-- TMR and GPIO (18 R546, R552). -/
def tmrWritten (a o : Nat) (v old : Word) (s : State) : State :=
  if 0x100 ≤ o ∧ o < 0x900 then if o % 0x20 = 0 then onBit v 0 (tmrCommit ((o - 0x100) / 0x20)) s else s
  else if 0x2000 ≤ o ∧ o < 0x2080 then
    gpioCfgWritten ((o - 0x2000) / 4) (s.reg a) (s.restore a old)
  else s

/-- MEM (13 R414, R421, R428, R431). -/
def memWritten (a o : Nat) (v old : Word) (s : State) : State :=
  if o = 0x20 then
    let (u, d) := (v.get F.MEM_MARCH_CTRL_UNIT, v.get F.MEM_MARCH_CTRL_DESTRUCTIVE == 1)
    let s := ((s.restore a old).setFld a F.MEM_MARCH_CTRL_UNIT u).setBit a F.MEM_MARCH_CTRL_DESTRUCTIVE d
    onBit v 8 (marchStart u d) s
  else if o = 0x40 then
    let c := v.get F.MEM_VAULT_CMD_CMD
    if c = 1 then vaultAsk false (v.get F.MEM_VAULT_CMD_KIND) false s
    else if c = 2 then vaultAsk true 0 false s
    else s.satInc R.MEM_VAULT_STATUS F.MEM_VAULT_STATUS_REFUSED
  else if 0x400 ≤ o ∧ o < 0x600 ∧ o % 0x20 < 0xC then
    let n := (o - 0x400) / 0x20
    if s.runActive then (s.restore a old).flag (R.SPOOL_FILL n) F.SPOOL_FILL_CFG_REFUSED
    else showFill (s.cond (o % 0x20 == 0) (fun s => s.setFld a ⟨0, 20⟩ 0)) n
  else s

/-- DMA (14 R437 to R453). -/
def dmaWritten (a o : Nat) (v old : Word) (s : State) : State :=
  if o < 0x1000 then s
  else
    let n := (o - 0x1000) / 0x40
    let p := o % 0x40
    if p = 0 then
      let on := v.getLsbD 0
      let s := s.restore a old
      let s := chanEnable n on s
      let s := onBit v 2 (chanStart n) s
      let s := onBit v 4 (chanTriggerFrom n none false) s
      onBit v 5 (chanCommit n) (onBit v 3 (chanAbort n) s)
    else if p = 0xC ∨ p = 0x10 then
      if chanState s n = 2 ∨ chanState s n = 3 then (s.restore a old).flag (R.CH_STATUS n) F.CH_STATUS_CMD_IGNORED else s
    else s

/-- HOST and the runner registers in its block (15 R465, R477, 17 R508, R512, R515 to R517). -/
def hostBlockWritten (a o : Nat) (v old : Word) (s : State) : State :=
  if o < 0x3C then
    if s.runActive then (s.restore a old).flag R.HOST_STATUS F.HOST_STATUS_CFG_REFUSED else s
  else if o = 0x88 then
    eventRecord (v.get F.HOST_EVREC_CMD_STREAM) (v.get F.HOST_EVREC_CMD_CODE) s
  else if o = 0x1100 then if s.runActive then s.restore a old else runCfgWritten s
  else if o = 0x1108 then
    s.cond (ringServes s) (trigSend (v.get F.RUN_TRIG_SEND_DEST_MASK) (v.get F.RUN_TRIG_SEND_CHANNEL))
  else if o = 0x1114 then
    onBit v 0 (rmtGo (v.getLsbD 1) (v.get F.RUN_RMT_CMD_DEV) (v.get F.RUN_RMT_CMD_SIZE)) s
  else if o = 0x1124 ∨ o = 0x1128 ∨ (0x1180 ≤ o ∧ o < 0x11C0) then if s.runActive then s.restore a old else s
  else s

/-- A queue register: taken only while the frond is stopped, stage kinds only while no run is active; a stream's stage
already bound elsewhere is not bound again (11 R371, R374). -/
def queueWritten (f k a p : Nat) (old : Word) (s : State) : State :=
  if !frondStopped s f then frondCfgRefused f (s.restore a old)
  else if p ≠ 0 then s
  else
    let w := s.reg a
    let kd := w.get F.FRD_Q_CFG_KIND
    let stage := kd == 4 || kd == 5
    let taken := stage && allQueues.any (fun q => decide (q ≠ (f, k)) && queueKind s q.1 q.2 == kd &&
      queuePeer s q.1 q.2 == w.get F.FRD_Q_CFG_PEER && queueBound s q.1 q.2)
    let no := taken || (stage && s.runActive)
    let keep := (w.put F.FRD_Q_CFG_KIND (old.get F.FRD_Q_CFG_KIND)).put F.FRD_Q_CFG_PEER (old.get F.FRD_Q_CFG_PEER)
    let s := if no then frondCfgRefused f (s.setReg a keep) else s
    let s := [f, old.get F.FRD_Q_CFG_PEER, w.get F.FRD_Q_CFG_PEER].foldl refreshBound s
    let s := queueFlow s f k
    if queueKind s f k = 1 then queueFlow s (queuePeer s f k) (queuePeerQ s f k) else s

/-- The island that ORIGIN names for a requester (20 R583, R587). -/
def requesterOrigin : Requester → Nat
  | .frond f => f
  | _ => 0xFFFF

/-- FRD_f and its tuft (11 R352 to R386). A frond's own write of EVT_RAISE sets no line (11 R368). -/
def frondWritten (q : Requester) (f a o : Nat) (v old : Word) (s : State) : State :=
  if o = 0 then onBit v 1 (frondHalt f 1) (onBit v 0 (frondStart f) s)
  else if o = 0x20 then wdogWrite f (v.get F.FRD_WDOG_TIMEOUT) s
  else if o = 0x24 then wdogKick f s
  else if 0x100 ≤ o ∧ o < 0x180 then if frondStopped s f then s else frondCfgRefused f (s.restore a old)
  else if 0x200 ≤ o ∧ o < 0x300 then
    let k := (o - 0x200) / 0x20
    let p := o % 0x20
    if p = 0 ∨ p = 8 ∨ p = 0xC ∨ p = 0x10 then queueWritten f k a p old s
    else if p = 0x18 then stageRelease f k (s.reg64 (R.FRD_Q_RELEASE_LO f k)) s
    else s
  else if o = 0x300 then frondWakeBy f (old.toNat + 2 ^ 32 * (s.reg (R.FRD_EVT_PEND_HI f)).toNat) s
  else if o = 0x304 then frondWakeBy f ((s.reg (R.FRD_EVT_PEND_LO f)).toNat + 2 ^ 32 * old.toNat) s
  else if o = 0x308 then if requesterOrigin q = f then s else s.setLine f (v.get ⟨0, 6⟩)
  else if o = 0x30C then onBit v 0 (frondEvent f) s
  else if o = 0x400 then onBit v 0 (tuftCommit (f / 8)) s
  else s

/-- The measurements that the self-trim will find, where the write that starts it does not bring them (log entry 15). -/
def freeFound (s : State) : List (Option (Int × Bool)) :=
  (List.range 221).map (fun k =>
    let w := Config.freeWord (s.freeCtr + k)
    if w.getLsbD 0 then none else some (toSigned 16 (w.get ⟨2, 16⟩), w.getLsbD 1))

/-- RUN (20, RUN_CTRL, R576). Both MAINT bits together are refused. -/
def runWritten (a o : Nat) (v old : Word) (s : State) : State :=
  if o = 0 then
    let s := onBit v 0 (frondAsk askStart) s
    let s := onBit v 1 (frondAsk askStop) s
    let s := onBit v 2 (frondAsk askAbandon) s
    if v.getLsbD 3 && v.getLsbD 4 then s.setFld R.RUN_STATUS F.RUN_STATUS_RESULT 3
    else onBit v 4 (frondAsk askMaintExit) (onBit v 3 (frondAsk askMaintEnter) s)
  else if o = 8 then devWdogWrite (v.get F.RUN_WDOG_TIMEOUT) (s.restore a old)
  else if o = 0xC then devWdogLoad s
  else s

/-- What a write does beside the bits that it stores, by the register's block. `old` is the word before the write. -/
def afterWrite (q : Requester) (a : Nat) (v old : Word) (s : State) : State :=
  let o := a % 0x100000
  match regionOf a with
  | .block b =>
    if b = 8 then posWritten o v s
    else if b = 9 then motWritten a o v old s
    else if b = 0xA then precWritten a o v old s
    else if b = 0xB then lampWritten a o v old s
    else if 0x10 ≤ b ∧ b < 0x1A then imgWritten (b - 0x10) a o v old s
    else if 0x20 ≤ b ∧ b < 0x24 then tpWritten (b - 0x20) a o v old s
    else if b = 2 then if o = 0x48 then onBit v 0 timeSetApply s else s
    else if b = 3 then if o = 4 then threshWrite v (s.restore a old) else s
    else if b = 4 then
      if o = 0 && v.getLsbD 0 then
        let found := freeFound s
        trimStart found { s with freeCtr := s.freeCtr + 221 }
      else s
    else if b = 6 then tmrWritten a o v old s
    else if b = 0x28 then memWritten a o v old s
    else if b = 0x29 then dmaWritten a o v old s
    else if b = 0x2A then hostBlockWritten a o v old s
    else if b = 0x30 then runWritten a o v old s
    else if b = 0x38 then if o = 0x48 then peatFirmware (requesterOrigin q) (v.get ⟨0, 16⟩) s else s
    else if 0x40 ≤ b then frondWritten q (b - 0x40) a o v old s
    else s
  | _ => s

/-! ### A write (00 R11 to R14) -/

/-- The word of a register after a write: RW and RW-S bits are stored, W1C bits written 1 are cleared but for those
whose set won (00 R11, R13). -/
def storedWord (d : RegDesc) (old v setWon : Word) : Word :=
  let m : Word := BitVec.ofNat 32 (d.rw ||| d.rws)
  let c : Word := v &&& BitVec.ofNat 32 d.w1c &&& ~~~setWon
  ((old &&& ~~~m) ||| (v &&& m)) &&& ~~~c

/-- A write of one register under its access codes. `setWon` and `clearWon` name the W1C bits that hardware sets in the
same cycle: the loser of each is counted (00 R13). -/
def writeReg (q : Requester) (a0 : Nat) (v setWon clearWon : Word) (s : State) : State :=
  let a := canonReg a0
  match descOf a with
  | none => s
  | some d =>
    match (if d.rws = 0 then none else refusedBy s a) with
    | some ctrl => refuseShadow q a0 ctrl s
    | none =>
      let old := s.reg a
      let met := popCount ((setWon ||| clearWon) &&& v &&& BitVec.ofNat 32 d.w1c)
      let s := s.setReg a (storedWord d old v setWon)
      let s := s.cond (0 < met) (fun s => s.race a met)
      afterWrite q a (v &&& ~~~(setWon &&& BitVec.ofNat 32 d.w1c)) old s

/-- The words of registers upward from an address, read by a requester. -/
def readRegs (q : Requester) : Nat → Nat → State → List Byte × State
  | _, 0, s => ([], s)
  | a, n + 1, s =>
    let (w, s) := readReg q a s
    let (bs, s) := readRegs q (a + 4) n s
    (bytesLE 4 w.toNat ++ bs, s)

end Sys2Proof.Machine
end

