-- ==== Sys2Proof/Machine/Boot.lean ====
section
/-!
DEFINITION. Start-up, cold and warm, warm recovery causes, loss of power (01 R27 to R32, 02 R43 to R76, 15 R616, 16 R483,
20 R577 to R581). A start runs whole in one command: no device time passes in it (log entry 1); what befalls it before its end
comes with the board (log entry 88).
-/

namespace Sys2Proof.Machine

/-! ### What a start keeps -/

/-- The bits of a register that a warm start keeps: race counters, which only a cold start clears, the counts "since the
last cold start", and the count of peat log records dropped (18 R525; 01 R37; 13, MEM_ECC; 14, DMA_INFLIGHT; 19, PWR_AON).
-/
def warmMask (a : Nat) : Word :=
  let low : Word := 0xFFFF
  let one := [R.SYS_RACE, R.EVT_RACE, R.PREC_RACE, R.COMMONS_RACE 0, R.MEM_RACE, R.DMA_RACE, R.HOST_RACE, R.SEAL_RACE,
    R.RUN_RACE, R.TIME_RACE, R.TMR_RACE, R.PWR_RACE]
  if one.contains a || (List.range 8).any (fun n => a == R.ENC_RACE n || a == R.AXIS_RACE n || a == R.TUFT_RACE n) ||
      (List.range 10).any (fun n => a == R.IMG_RACE n) ||
      (List.range 4).any (fun n => a == R.LC_RACE n || a == R.TP_RACE n) ||
      (List.range 64).any (fun n => a == R.FRD_RACE n || a == R.CH_RACE n) then low
  else if (List.range 16).any (fun n => a == R.CMP_STATUS n) then 0xFF00
  else if a = R.EVT_LOST ∨ a = R.MEM_ECC_SRAM ∨ a = R.MEM_ECC_DRAM then 0xFFFFFFFF
  else if a = R.DMA_INFLIGHT ∨ a = R.PWR_AON then 0xFFFF0000
  else if a = R.PEAT_STATUS then 0xFFFF007F
  else 0

/-- Whether an address of the control window is part of the MSI-X table or the PBA. -/
def isMsix (a : Nat) : Bool := decide (winBase + 0x100000 ≤ a ∧ a < winBase + 0x109000)

/-- The registers that a warm start keeps; the MSI-X table with the PCIe function's configuration state (15 R616). -/
def keptRegs (keepPcie : Bool) (s : State) : List (Nat × Word) :=
  s.regs.filterMap (fun e =>
    let m := if isMsix e.1 then (if keepPcie then 0xFFFFFFFF else 0) else warmMask e.1
    if m = 0 then none else some (e.1, e.2 &&& m))

/-- Whether a byte of memory survives a start: DRAM if it is warm, MRAM, the flash, host memory; SRAM is marched
(02 R73, R74, 13 R420). -/
def survives (warm : Bool) (a : Nat) : Bool :=
  if isDram a then warm else decide (mramBase ≤ a ∧ a < 0x5000000000) || decide (0x3000000000000 ≤ a)

/-- A stream after a start: the sealed records from the drain pointer on are recovered records, the last of them ends its
run; nothing unsealed is left (15 R480, 20 R577, R580). -/
def keptStream (x : Stream) : Stream :=
  let n := x.ents.length
  let mark (p : Ent × Nat) : Ent := { p.1 with old := true, fin := p.1.fin || p.2 + 1 == n }
  { ents := (x.ents.zip (List.range n)).map mark, cut := x.cut, prevTag := x.prevTag, sealedIdx := x.sealedIdx,
    sealedEpoch := x.sealedEpoch, sealedSeq := x.sealedSeq, sealedRun := x.sealedRun, anySealed := x.anySealed,
    finalSealed := x.finalSealed, fwdGot := x.fwdGot }

/-- Bytes of the flash whose content the spec leaves open: free values (log entry 3). -/
def flashFree (a n : Nat) (s : State) : State :=
  let t := s.write (flashKey a) (bytesOf n (fun i => (Config.freeWord (s.freeCtr + i)).setWidth 8))
  { t with freeCtr := t.freeCtr + n }

/-- The spans of the flash that R79 leaves undefined, without those bytes that are erased or programmed anew (02 R79). -/
def spoiltLess (a n : Nat) (l : List (Nat × Nat)) : List (Nat × Nat) :=
  (l.flatMap (fun p => [(p.1, min p.2 (a - p.1)), (max p.1 (a + n), p.1 + p.2 - max p.1 (a + n))])).filter (fun p => p.2 != 0)

/-- Bytes of the flash erased or programmed. -/
def flashSet (a : Nat) (bs : List Byte) (s : State) : State :=
  let s := s.write (flashKey a) bs
  { s with boot := { s.boot with spoilt := spoiltLess a bs.length s.boot.spoilt } }

/-- Bytes of the flash programmed from a data buffer that was written meanwhile: undefined, and no image with them passes
VERIFY (02 R79). -/
def flashSpoil (a n : Nat) (s : State) : State :=
  let s := flashFree a n s
  { s with boot := { s.boot with spoilt := (a, n) :: spoiltLess a n s.boot.spoilt } }

/-- The slot that the mailbox addresses: the one that was not booted (02, MBX_STATUS). DESIGN CHOICE (log entry 89):
with no slot booted it is slot B, as BOOTED_SLOT reads 0. -/
def targetSlot (s : State) : Nat := 1 - s.fld R.BOOT_STATUS F.BOOT_STATUS_BOOTED_SLOT

/-- A running mailbox command abandoned: what an ERASE or WRITE has reached by then is open (02 R78, R80). -/
def jobAbandon (s : State) : State :=
  let b := slotBase (targetSlot s)
  let s := match s.boot.job with
    | some (.erase off len) => flashFree (b + off) len s
    | some (.write off len _) => if s.boot.bufferDirty then flashSpoil (b + off) len s else flashFree (b + off) len s
    | _ => s
  { s with boot := { s.boot with job := none } }

/-- The state in which a start begins, but for the registers that it keeps: every block and SRAM as after reset, and
what the AON island, the fuses, the MRAM, the flash and with a warm start the DRAM keep. -/
def freshBase (warm : Bool) (s : State) : State :=
  { State.reset with
    mode := s.mode, mem := s.mem.filter (fun e => survives warm e.1),
    dramEpoch := if warm then s.dramEpoch else s.dramEpoch + 1,
    tm := { now := s.tm.now, oscillator := s.tm.oscillator, cold := s.tm.cold },
    pcie := if warm then s.pcie else { perst := s.pcie.perst },
    peat := { queue := if warm then s.peat.queue else [] },
    root := { serial := s.root.serial, slots := s.root.slots, arbFused := s.root.arbFused,
              debug := warm && s.root.debug, randoms := s.root.randoms, causeTime := s.root.causeTime },
    boot := { recovery := if warm then s.boot.recovery else none, startAt := s.tm.now, spoilt := s.boot.spoilt },
    bench := s.bench, pins := s.pins, tap := s.tap, out := s.out, freeCtr := s.freeCtr, pending := s.pending,
    pwr := { latch := s.pwr.latch, vddio18 := s.pwr.vddio18, vaonA := s.pwr.vaonA, vaonB := s.pwr.vaonB, onB := s.pwr.onB,
             convAt := s.tm.now, evalAt := s.tm.now, logAt := s.tm.now },
    streams := if warm then s.streams.filterMap (fun e =>
      let x := keptStream e.2
      if x = {} then none else some (e.1, x)) else [] }

/-- The seal and drain pointers that a warm start restores: those of the state snapshot (20 R577). DESIGN CHOICE (log
entry 126): with no copy of the entry good they stay as they stand. -/
def snapPtrs (s : State) (n : Nat) : Word × Word :=
  match snapInForce s n with
  | some (_, b) => (BitVec.ofNat 32 (natAt 12 4 b), BitVec.ofNat 32 (natAt 16 4 b))
  | none => (s.reg (R.SPOOL_SEAL n), s.reg (R.SPOOL_DRAIN n))

/-- The state in which a start begins, with the registers that a warm start keeps. -/
def freshState (warm keepPcie : Bool) (s : State) : State :=
  let s := jobAbandon s
  let base := freshBase warm s
  if warm then
    let base := (keptRegs keepPcie s).foldl (fun t e => t.setReg e.1 e.2) base
    (List.range 16).foldl (fun t n =>
      let p := snapPtrs s n
      ((t.setReg (R.SPOOL_SEAL n) p.1).setReg (R.SPOOL_INTAKE n) p.1).setReg (R.SPOOL_DRAIN n) p.2) base
  else base

/-! ### The root at a start (02 R46, R65, 16 R483, R488) -/

/-- Where a copy of the slot record lies in MRAM: slot, three zero bytes, generation, CRC-32C of these (log entry 90). -/
def slotCopyAt (c : Nat) : Nat := mramBase + 0x8000 * c

/-- A copy of the slot record, if its CRC checks: the slot and the generation. -/
def slotCopy (s : State) (c : Nat) : Option (Nat × Nat) :=
  let b := s.read (slotCopyAt c) 12
  if natAt 8 4 b = crc32c (b.take 8) then some (byteAt 0 b % 2, natAt 4 4 b) else none

/-- The copy in force: the higher generation of those that check; of equal ones copy A (log entry 90). -/
def slotCopyInForce (s : State) : Option (Nat × Nat × Nat) :=
  match slotCopy s 0, slotCopy s 1 with
  | some (k, g), some (l, h) => if g < h then some (1, l, h) else some (0, k, g)
  | some (k, g), none => some (0, k, g)
  | none, some (l, h) => some (1, l, h)
  | none, none => none

/-- The slot record in force; slot A and SLOTREC_DEFAULT if neither copy checks. -/
def slotRecord (s : State) : Nat × Bool :=
  match slotCopyInForce s with
  | some (_, k, _) => (k, false)
  | none => (0, true)

/-- A change of the slot record: the copy that is not in force is written with generation + 1, of 32 bits (log entry
90: with neither copy good it is copy A, with generation 1). -/
def slotRecordWrite (k : Nat) (s : State) : State :=
  let (c, g) := match slotCopyInForce s with
    | some (c, _, g) => (1 - c, g + 1)
    | none => (0, 1)
  let b := bytesLE 1 k ++ [0, 0, 0] ++ bytesLE 4 g
  s.write (slotCopyAt c) (b ++ bytesLE 4 (crc32c b))

/-- The state code of an owner slot (16, TRUST_STATE): a VALID fuse unblown and some hash fuse blown is SPOILED. -/
def slotCode (o : OwnerSlot) : Nat :=
  if o.valid then (if o.revoked then 2 else 1) else if o.hash.any (· != 0) then 3 else 0

/-- TRUST_STATE brought up to date. -/
def trustShow (s : State) : State :=
  let a := R.TRUST_STATE
  let code := (List.range 4).foldl (fun c k => c + 4 ^ k * slotCode (s.root.slots.getD k {})) 0
  let k := s.root.slotInForce
  let s := (s.setFld a F.TRUST_STATE_SLOT_STATE code).setBit a F.TRUST_STATE_DEBUG s.root.debug
  let s := s.setBit a F.TRUST_STATE_MLDSA (s.boot.spore.any (fun (p : Spore) => p.flags % 2 == 1))
  let s := s.setBit a F.TRUST_STATE_SESSION s.spdm.session
  let s := s.setBit a F.TRUST_STATE_REVOKED_IN_FORCE (s.boot.spore.isSome && (s.root.slots.getD k {}).revoked)
  s.setFld a F.TRUST_STATE_SLOT_IN_FORCE k

/-- CDI_0 (16 R483): gone from the root's working memory once layer 1 exists. -/
def cdiZero : List Byte := (Config.hmac Config.uds.toList Config.romDigest.toList).toList

/-- The seed of the DeviceID key (16 R483). -/
def deviceIdSeed : List Byte := bytesOf 48 (Config.hkdfByte cdiZero (ascii "GAO6400 deviceid"))

/-- The layer-1 inputs, but for the spore's header: ARB_FUSED, the slot in force, DEBUG (16 R483). -/
def tcbInputs (s : State) : List Byte :=
  bytesLE 1 s.root.arbFused ++ bytesLE 1 s.root.slotInForce ++ [if s.root.debug then 1 else 0]

/-- The ML-DSA-65 attestation public key, or nothing (16 R483, R486). -/
def mldsaKey (s : State) : List Byte :=
  if mldsaOn s then bytesOf 1952 (Config.mldsaPublicByte (aliasMldsaSeed s)) else []

/-- The Alias certificate over the present layer-1 inputs, signed by the DeviceID key (16 R484). -/
def issueAlias (s : State) : State :=
  let tbs := Config.aliasTbs (aliasKey s) (s.root.layerHeader ++ tcbInputs s) (mldsaKey s)
  let sign := (Config.ecdsaSign deviceIdSeed (Config.sha384 tbs).toList).toList
  { s with root := { s.root with aliasCert := Config.certificate tbs sign } }

/-- Layer 1 of the device's identity at a start: spore bytes 0x000 to 0x3FF, CDI_1, the Alias certificate (16 R483,
R484). -/
def layerOne (header : List Byte) (s : State) : State :=
  let cdi1 := (Config.hmac cdiZero ((Config.sha384 header).toList ++ tcbInputs s)).toList
  issueAlias { s with root := { s.root with layerHeader := header, cdi1 := cdi1 } }

/-- Layer 1 of a start that booted no spore: the spec names no header for it, so its bytes are free values (log entry
129). -/
def layerFree (s : State) : State :=
  if s.boot.spore.isNone && s.serving then
    let h := bytesOf 1024 (fun i => (Config.freeWord (s.freeCtr + i)).setWidth 8)
    layerOne h { s with freeCtr := s.freeCtr + 1024 }
  else s

/-! ### Steps 8 to 10 of an accepted image (02 R53 to R55, R69) -/

/-- The tuft table: operating points, START_OP, PARK (02, FROND). -/
def loadTufts (s0 : State) (b : Nat) (s : State) : State :=
  match secOf s0 b 3 with
  | none => s
  | some x => (List.range 8).foldl (fun s t =>
      let (ops, op, park) := tuftEntry s0 b x t
      let o := fun i => ops.getD i 0
      let s := s.setReg (R.TUFT_OPS_A t) (BitVec.ofNat 32 (o 0 + 65536 * o 1))
      let s := s.setReg (R.TUFT_OPS_B t) (BitVec.ofNat 32 (o 2 + 65536 * o 3))
      let w := ((0 : Word).put F.TUFT_OP_OP op).put F.TUFT_OP_PARK park
      ((s.setReg (R.TUFT_OP t) w).setInForce (R.TUFT_OP t) w)) s

/-- The commit of a tuft after the last BLOCK record: an unused point is refused (11 R381). -/
def startTuft (s : State) (t : Nat) : State :=
  let want := s.reg (R.TUFT_OP t)
  let bad := tuftMhz s t (want.get F.TUFT_OP_OP) == 0
  let op := if bad then s.actFld (R.TUFT_OP t) F.TUFT_OP_OP else want.get F.TUFT_OP_OP
  let s := s.setInForce (R.TUFT_OP t) (want.put F.TUFT_OP_OP op)
  let s := s.cond (bad && op != want.get F.TUFT_OP_OP) (fun s => s.flag (R.TUFT_STATUS t) F.TUFT_STATUS_CFG_REFUSED)
  tuftTaken t ((tuftRun t op s).setBit (R.TUFT_STATUS t) F.TUFT_STATUS_PARKED (want.get F.TUFT_OP_PARK == 1))

/-- One frond descriptor: its images, ENTRY, CRITICAL (02 R55). -/
def loadFrond (s0 : State) (b off : Nat) (s : State) (e : Nat) : State :=
  let f := s0.img b e 1
  let part (i : Nat) : List Byte := s0.imgBytes b (off + s0.img b (e + i) 4) (s0.img b (e + i + 4) 4)
  let s := (s.write (frondKey f 0) (part 8)).write (frondKey f 0x10000) (part 0x10)
  let s := s.setFld (R.FRD_ENTRY f) F.FRD_ENTRY_ENTRY (s0.img b (e + 4) 4 / 8)
  s.setBit (R.FRD_STATUS f) F.FRD_STATUS_CRITICAL (s0.img b (e + 1) 1 % 2 == 1)

/-- The segment tables of the axes (02, MOTION). -/
def loadMotion (s0 : State) (b : Nat) (s : State) : State :=
  match secOf s0 b 7 with
  | none => s
  | some x => (entriesOf s0 b 7).foldl (fun s e =>
      let n := s0.img b e 1
      let a := x.off + s0.img b (e + 4) 4
      (List.range (8 * s0.img b (e + 8) 4)).foldl (fun s w =>
        s.setReg (R.MOT_SEGMENT n w) (BitVec.ofNat 32 (s0.img b (a + 4 * w) 4))) s) s

/-- A set taken at the commit that ends step 8: an idle block's boundary is that commit (02 R54). -/
def takeNow (s : State) (u : CommitUnit) : State := u.take (u.commit s)

/-- A step for each of `k` units. -/
def State.each (k : Nat) (f : State → Nat → State) (s : State) : State := (List.range k).foldl f s

/-- COMMIT written to every block that has shadows (02 R54). -/
def commitAll (s : State) : State :=
  let s := s.each 8 (fun s n => encTake ((encUnit n).commit s) n)
  let s := s.each 16 (fun s m => cmpTake ((cmpUnit m).commit s) m)
  let s := s.each 2 (fun s t => ptTake ((ptUnit t).commit s) t)
  let s := s.each 10 (fun s n => takeNow (takeNow s (capUnit n)) (corUnit n))
  let s := s.each 4 (fun s n => takeNow (takeNow s (tpUnit n)) (lampUnit n))
  let s := s.each 16 (fun s k => measTake ((measUnit k).commit s) k)
  let s := s.each 2 (fun s n => loopTake ((loopUnit n).commit s) n)
  let s := s.each 8 (fun s n => axEnable (axTake ((axUnit n).commit s) n) n)
  let s := s.each 64 (fun s n => takeNow (takeNow s (tmrUnit n)) (chanUnit n))
  s.each 8 startTuft

/-- The streams as POLICY sets them (02, POLICY). -/
def loadStreams (p : Spore) (s : State) : State :=
  (List.range 16).foldl (fun s n =>
    let (f, ax) := p.streams.getD n (0, 0)
    s.setStream n { s.stream n with enabled := f % 2 == 1, driven := f / 2 % 2 == 1, isSealed := f / 4 % 2 == 1,
                                    pacingAxis := ax % 8 }) s

/-- One BLOCK record: the register is written with (old AND NOT MASK) OR (VALUE AND MASK), as any write of it; a MASK of 0
has no effect (02 R53). -/
def blockWrite (s0 : State) (b : Nat) (s : State) (e : Nat) : State :=
  let a := s0.img b e 8
  let v := BitVec.ofNat 32 (s0.img b (e + 8) 4)
  let m := BitVec.ofNat 32 (s0.img b (e + 12) 4)
  if m = 0 then s else writeReg .root a ((s.shown a &&& ~~~m) ||| (v &&& m)) 0 0 s

/-- Every BLOCK record of an image, in section order. -/
def blocksWrite (s0 : State) (b : Nat) (s : State) : State := (entriesOf s0 b 2).foldl (blockWrite s0 b) s

/-- Step 8: the image of a slot applied (02 R53 to R55, R69). -/
def applyImage (slot : Nat) (s0 : State) : State :=
  let b := slotBase slot
  let p := sporeOf s0 slot
  let s := s0.forget stagingBase 0x2000000000
  let s := { s with boot := { s.boot with spore := some p, regions := bufferClaims s0 b } }
  let k := (s.root.slots.zip (List.range 4)).find? (fun e =>
    e.1.active && sameBytes (padTo 48 e.1.hash) (slice 0x20 48 p.header))
  let s := { s with root := { s.root with slotInForce := (k.map (·.2)).getD 0 } }
  let s := trustShow (layerOne p.header s)
  let s := (s.setFld R.BOOT_SPORE F.BOOT_SPORE_ARB p.arb).setReg R.BOOT_BUILD (BitVec.ofNat 32 p.build)
  let s := vaultShowFree (vaultTidy s)
  let s := commitAll (blocksWrite s0 b (loadTufts s0 b s))
  let off := ((secOf s0 b 3).map (·.off)).getD 0
  let s := (entriesOf s0 b 3).foldl (loadFrond s0 b off) s
  let s := loadStreams p (loadMotion s0 b s)
  let s := (List.range 10).foldl imgShow (calLoad s)
  s.setFld R.BOOT_STATUS F.BOOT_STATUS_STEP 8

/-- Step 9 and the start of step 10: the fronds marked START begin, the state becomes RUN, ports and chains are brought up
(02 R57, R69, R72, R76). -/
def beginImage (slot : Nat) (s0 : State) : State :=
  let b := slotBase slot
  let p := sporeOf s0 slot
  let s := timeHold (timersBegin (avsWrite s0))
  let s := setMode .run (s.setFld R.BOOT_STATUS F.BOOT_STATUS_STEP 9)
  let marked := (entriesOf s0 b 3).filter (fun e => s0.img b (e + 1) 1 / 2 % 2 == 1)
  let s := marked.foldl (fun s e => frondStart (s0.img b e 1) s) s
  let s := devWdogWrite p.wdogMs s
  let s := (List.range 4).foldl (fun s n => s.cond (s.bit (R.TP_IF_CFG n) F.TP_IF_CFG_ENABLE) (tpEnable n)) s
  let s := (List.range 4).foldl (fun s n => lampEnable n s) s
  let adv := decide (s.root.arbFused < p.arb) && p.flags / 2 % 2 == 1
  readyCheck { s with boot := { s.boot with autorunWaits := p.autorun, arbPending := adv } }

/-! ### A start -/

/-- SAFE with a reason (02 R75, R76, 01 R27). -/
def enterSafe (code : Nat) (s : State) : State := setMode .safe (s.setFld R.SYS_CAUSE F.SYS_CAUSE_SAFE_CODE code)

/-- The verdict on a slot shown in BOOT_STATUS; a conflict is reported (02 R68). DESIGN CHOICE (log entry 91): where
both slots are refused for a conflict, the report of the slot tried second stands. -/
def slotVerdict (slot code : Nat) (c : Option Conflict) (s : State) : State :=
  let a := R.BOOT_STATUS
  let s := s.setFld a (if slot = 0 then F.BOOT_STATUS_SLOT_A_RESULT else F.BOOT_STATUS_SLOT_B_RESULT) code
  match c with
  | none => s
  | some c =>
    let s := s.setFld a F.BOOT_STATUS_CONFLICT_CLASS c.cls
    let s := (s.setFld R.BOOT_CONFLICT F.BOOT_CONFLICT_CLAIMANT_A c.a).setFld R.BOOT_CONFLICT F.BOOT_CONFLICT_CLAIMANT_B c.b
    s.setReg64 R.BOOT_CONFLICT_IDX_LO c.idx

/-- A BOOT record (20 R584). -/
def bootRecord (s : State) : State :=
  let w := s.reg R.BOOT_STATUS
  s.peatPush 8 0xFFFF (bytesLE 1 (w.get F.BOOT_STATUS_SLOT_A_RESULT) ++ bytesLE 1 (w.get F.BOOT_STATUS_SLOT_B_RESULT) ++
    bytesLE 1 (w.get F.BOOT_STATUS_FALLBACK) ++ bytesLE 1 s.root.arbFused ++ bytesLE 4 (s.reg R.BOOT_BUILD).toNat)

/-- The staged image of a slot read back and checked; an uncorrectable error refuses the slot with code 0x4 (02 R70, 13
R417). -/
def stagedCheck (k : Nat) (s : State) : State × Nat × Option Conflict :=
  match s.bench.badStaging.find? (fun e => e.1 == k) with
  | some e => if slotHead s k = 1 then (eccBad true e.2 s, 4, none) else (s, checkSlot s k)
  | none => (s, checkSlot s k)

/-- Step 7: the slots that remain, in order, each checked from where it stands; the first accepted one boots (02 R47,
R70). -/
def trySlots (active : Nat) : List Nat → State → State × Bool
  | [], s =>
    (enterSafe (s.fld R.BOOT_STATUS (if active = 0 then F.BOOT_STATUS_SLOT_A_RESULT else F.BOOT_STATUS_SLOT_B_RESULT)) s,
      true)
  | k :: l, s =>
    let (s, code, c) := stagedCheck k s
    let s := slotVerdict k code c s
    if code = 1 then
      let s := (s.setFld R.BOOT_STATUS F.BOOT_STATUS_STEP 7).setFld R.BOOT_STATUS F.BOOT_STATUS_BOOTED_SLOT k
      (s.setBit R.BOOT_STATUS F.BOOT_STATUS_FALLBACK (k != active), false)
    else trySlots active l s

/-- The records recovered from the spool: STARVED, RECOVERING and the RECOVERY record (15 R481, 20 R577, R580, R584). -/
def recoverStreams (s : State) : State :=
  let held := (List.range 16).filter (fun n => !(s.stream n).ents.isEmpty)
  if held.isEmpty then s
  else
    let mask := held.foldl (fun m n => m + 2 ^ n) 0
    let bytes := held.foldl (fun t n => t + ((s.stream n).ents.map (·.len)).sum - (s.stream n).cut) 0
    let s := held.foldl (fun s n => showStarved n s) s
    (s.setBit R.RUN_STATUS F.RUN_STATUS_RECOVERING true).peatPush 7 0xFFFF (bytesLE 2 mask ++ [0, 0] ++ bytesLE 8 bytes)

/-- A cold start reads the snapshots: run IDs go on; a run shown ACTIVE ended by power loss (20 R579, R581). -/
def coldSnapshots (s : State) : State :=
  let s := (List.range 16).foldl (fun s n =>
    match snapInForce s n with
    | none => s
    | some (_, b) =>
      let q := natAt 26 6 b
      s.setStream n { s.stream n with sealedRun := natAt 8 2 b, finalSealed := byteAt 10 b / 2 % 2 == 1,
                                      sealedIdx := natAt 20 4 b, sealedEpoch := natAt 24 2 b, sealedSeq := q,
                                      prevTag := slice 32 16 b, anySealed := q != 0 }) s
  match snapInForce s 16 with
  | none => s
  | some (_, b) =>
    let v : Recovery := ⟨natAt 8 2 b, s.now, 0, false, true, []⟩
    if byteAt 10 b % 2 = 1 then { s with boot := { s.boot with recovery := some v } } else s

/-- RUN_ID of RUN_STATUS, from the snapshot. -/
def runIdLoad (s : State) : State :=
  match snapInForce s 16 with
  | none => s
  | some (_, b) => s.setFld R.RUN_STATUS F.RUN_STATUS_RUN_ID (natAt 8 2 b)

/-- NEXT_SLOT and TARGET_SLOT of the mailbox (02, MBX_STATUS). -/
def mbxShow (s : State) : State :=
  (s.setFld R.MBX_STATUS F.MBX_STATUS_NEXT_SLOT (slotRecord s).1).setFld R.MBX_STATUS F.MBX_STATUS_TARGET_SLOT
    (targetSlot s)

/-! ### The steps of a start (02 R69): each answers whether BOOT is over with it -/

/-- What a start sets before its first step (01 R27, 02 R74). -/
def startBegin (warm : Bool) (cause : Nat) (s : State) : State :=
  let keepPcie := warm && cause != 3 && cause != 4
  let s := freshState warm keepPcie s
  let s := (s.setBit R.SYS_STATE F.SYS_STATE_WARM warm).setFld R.SYS_CAUSE F.SYS_CAUSE_CAUSE
    (if s.pwr.latch then 6 else cause)
  let s := s.setFld R.SYS_ID F.SYS_ID_DEVID s.bench.devid
  let s := s.setFld R.PWR_AVS_CFG F.PWR_AVS_CFG_PROCESS s.bench.process
  let s := aonShow (peatFind s)
  let s := s.setBit R.TIME_STATUS F.TIME_STATUS_TIME_COLD s.tm.cold
  let s := (s.setReg64 R.TRUST_SERIAL_LO s.root.serial).setFld R.BOOT_SPORE F.BOOT_SPORE_ARB_FUSED s.root.arbFused
  runIdLoad (setMode .boot (if warm then s else coldSnapshots s))

/-- BOOT_STATUS.STEP. -/
def bootStep (k : Nat) (s : State) : State := s.setFld R.BOOT_STATUS F.BOOT_STATUS_STEP k

/-- Step 1: the thermal latch leads to HALT; the DCOs lock (01 R31). -/
def bootLatch (s : State) : State × Bool :=
  if s.pwr.latch then (setMode .halt s, true)
  else (bootStep 1 ((List.range 3).foldl (fun s w => s.setReg (R.TIME_ISL_LOCK w) 0xFFFFFFFF) s), false)

/-- Step 2: the root, the slot record, the recovered records (02 R46, 20 R577). -/
def bootRoot (s : State) : State × Bool :=
  let s := (trustShow s).setBit R.BOOT_STATUS F.BOOT_STATUS_SLOTREC_DEFAULT (slotRecord s).2
  (recoverStreams (bootStep 2 s), false)

/-- Step 3: SPORE_RST_N pulses low; header and signature block of the active slot, and where it is refused of the
other one (02 R44, R70). -/
def bootHeads (s : State) : State × Bool :=
  let s := s.emit (.pulse .sporeReset 0 s.now 10000 true)
  let active := (slotRecord s).1
  let ha := slotHead s active
  if ha = 1 then (bootStep 3 s, false)
  else
    let s := slotVerdict active ha none s
    let hb := slotHead s (1 - active)
    if hb = 1 then (bootStep 3 s, false) else (enterSafe ha (slotVerdict (1 - active) hb none s), true)

/-- Step 4: the trims (18 R544). -/
def bootTrims (s : State) : State × Bool :=
  match trimInForce s with
  | none => (enterSafe 0x12 s, true)
  | some i => (bootStep 4 (trimLoad s i), false)

/-- Step 5: the march of every SRAM, with soft repair (13 R420). -/
def bootMarch (s : State) : State × Bool :=
  if s.bench.failingRows.any (fun e => decide (unitSpares e.1 < e.2)) then (enterSafe 0x10 s, true)
  else
    let used := s.bench.failingRows.foldl (fun l e => Sparse.put (fun _ => some 0) l e.1 e.2) []
    let n := (s.bench.failingRows.map (·.2)).sum
    let s := ({ s with ms := { s.ms with sparesUsed := used } }).setFld R.MEM_MARCH_STATUS
      F.MEM_MARCH_STATUS_SOFT_REPAIRS (min 65535 n)
    (bootStep 5 s, false)

/-- Step 6: DRAM initialisation and training (02 R75). -/
def bootDram (s : State) : State × Bool :=
  if s.bench.dramTrains then (bootStep 6 s, false) else (enterSafe 0x11 s, true)

/-- Step 7: the resource checker and the other checks of the image. -/
def bootCheck (s : State) : State × Bool :=
  let active := (slotRecord s).1
  trySlots active (if slotHead s active = 1 then [active, 1 - active] else [1 - active]) s

/-- The slot that step 7 has accepted. -/
def bootedSlot (s : State) : Nat := s.fld R.BOOT_STATUS F.BOOT_STATUS_BOOTED_SLOT

/-- Step 8. -/
def bootApply (s : State) : State × Bool := (applyImage (bootedSlot s) s, false)

/-- Step 9; a fallback is recorded (02 R47). -/
def bootRun (s : State) : State × Bool :=
  ((beginImage (bootedSlot s) s).cond (s.bit R.BOOT_STATUS F.BOOT_STATUS_FALLBACK) bootRecord, true)

/-- The steps in their order. -/
def bootSteps : List (State → State × Bool) :=
  [bootLatch, bootRoot, bootHeads, bootTrims, bootMarch, bootDram, bootCheck, bootApply, bootRun]

/-- The steps run from the k-th on, until BOOT is over or the event that the board brings cuts it short. -/
def runSteps (ev : Option BootEvent) : List (State → State × Bool) → Nat → State → State × Option BootCut
  | [], _, s => (s, none)
  | f :: fs, k, s =>
    match ev with
    | some e =>
      if e.step.val = k then (s, some e.what)
      else if (f s).2 then ((f s).1, none) else runSteps ev fs (k + 1) (f s).1
    | none => if (f s).2 then ((f s).1, none) else runSteps ev fs (k + 1) (f s).1

/-- One start as far as it comes, with the event that cuts it short. -/
def startOnce (warm : Bool) (cause : Nat) (s : State) : State × Option BootCut :=
  let s := startBegin warm cause s
  let ev := s.bench.during.head?.join
  runSteps ev bootSteps 0 { s with bench := { s.bench with during := s.bench.during.drop 1 } }

/-! ### Warm recovery (01 R32, 20 R577) -/

/-- The records of a stream that have entered and were never sealed. -/
def unsealed (x : Stream) : Nat := (x.closed.map (fun c => c.ents.length)).sum + x.open_.length

/-- Step 1 of R577: the active run ends by fault; what its next run's GAP(RECOVERY) will say is kept (20 R579). -/
def endByFault (cause : Nat) (s : State) : State :=
  if (List.range 16).any (streamBusy s) || s.runActive then
    let v : Recovery := ⟨runId s, s.now, cause, false, false, (List.range 16).map (fun n => (n, unsealed (s.stream n)))⟩
    runsFault { s with boot := { s.boot with recovery := some v } }
  else s

/-- Step 2: the CAUSE record, and one SEALED record for each enabled stream (20 R577, R584). -/
def causeRecords (cause : Nat) (s : State) : State :=
  let s := s.peatPush 2 0xFFFF (bytesLE 1 cause ++ bytesLE 1 (s.fld R.SYS_CAUSE F.SYS_CAUSE_SAFE_CODE) ++ [0xFF, 0] ++
    bytesLE 8 s.now)
  (List.range 16).foldl (fun s n => s.cond (s.stream n).enabled (peatSealed n true)) s

/-- A run stop that won against the cause: the run ends normally and its last chunk is sealed (01 R32). -/
def settleRun (s : State) : State :=
  if (List.range 16).any (streamBusy s) then
    let s := (List.range 14).foldl (fun s i =>
      (List.range (s.queueOf (sourceByte i)).length).foldl (fun s _ => recordIntake i s) s) s
    let s := (List.range 16).foldl (fun s n => s.cond (s.stream n).inRun (streamFinish n)) s
    let s := s.cond s.root.keys.isNone deriveKeys
    (List.range 16).foldl (fun s n =>
      (List.range (s.stream n).closed.length).foldl (fun s _ => sealChunk n (sealStart n s)) s) s
  else s

/-- The losing cause written into the CAUSE record, or into one of its own where that is committed (01 R32, 20 R584). -/
def secondCause (cause : Nat) (s : State) : State :=
  let isCause (r : PeatRec) : Bool := r.typ == 2
  if s.peat.queue.any isCause then
    let q := s.peat.queue.map (fun r =>
      if isCause r then { r with data := slice 0 2 r.data ++ bytesLE 1 cause ++ r.data.drop 3 } else r)
    { s with peat := { s.peat with queue := q } }
  else
    s.peatPush 2 0xFFFF (bytesLE 1 (s.fld R.SYS_CAUSE F.SYS_CAUSE_CAUSE) ++ [0] ++ bytesLE 1 cause ++ [0] ++ bytesLE 8 s.now)

/-- What a warm recovery cause leaves of the PCIe function (15 R457, R616): PERST_N resets all of it; a function-level
reset all but the link, the max payload size and the sticky error log, which the PCI Express Base Specification keeps
over it (log entry 127). Both reset the MSI-X table and its pending bits. -/
def pcieReset (cause : Nat) (s : State) : State :=
  let p := s.pcie
  let t := { s with regs := s.regs.filter (fun e => !isMsix e.1) }
  if cause = 3 then { t with pcie := { perst := true } }
  else if cause = 4 then
    { t with pcie := { linkUp := p.linkUp, speed := p.speed, width := p.width, perst := p.perst, maxPayload := p.maxPayload,
                       aer := p.aer } }
  else s

/-- An event of what ends with the start that follows: raised and delivered before it (log entry 68). -/
def eventNow (src : Nat) (s : State) : State := eventDeliver src (s.raise src)

/-- Steps 1 and 2 of R577, before the start; an SPDM session ends with them (16 R504; log entry 68). -/
def warmBegin (cause : Nat) (s : State) : State :=
  let s := s.cond s.spdm.session (eventNow 480)
  causeRecords cause (endByFault cause { s with root := { s.root with causeTime := s.now } })

/-- A start, and after each warm recovery cause during BOOT a warm one from its first step; thermal shutdown during
BOOT leads to HALT (01 R27, R28). Each start takes one event of the board's list. -/
def startLoop : Nat → Bool → Nat → State → State
  | 0, warm, cause, s => (startOnce warm cause s).1
  | n + 1, warm, cause, s =>
    match startOnce warm cause s with
    | (t, none) => t
    | (t, some (.warm c)) => startLoop n true c (warmBegin c (pcieReset c t))
    | (t, some (.shutdown k x)) => thermalShutdown k x.toInt t

/-- A start, with the mailbox as it then stands; the runner links train from step 6 on (17 R506). -/
def start (warm : Bool) (cause : Nat) (s : State) : State :=
  linksTrain (mbxShow (layerFree (startLoop s.bench.during.length warm cause s)))

/-- A warm recovery cause that is alone in the root's arbiter. -/
def warmStart (cause : Nat) (s : State) : State := start true cause (warmBegin cause s)

/-- A warm recovery cause, with what it meets in the root's arbiter (01 R27, R32): it acts in SAFE, MAINT and RUN. One
that wins against thermal shutdown finds the latch set in the BOOT that it begins (01 R31); one that wins against step
5 of R499 leaves the chunk unsealed, and the losing advance is counted (16 R500). -/
def warmCause (cause : Nat) (m : Meet) (s : State) : State :=
  if !s.serving then s
  else
    match m with
    | .alone => warmStart cause s
    | .afterStop => warmStart cause (settleRun (s.satInc R.SYS_RACE F.SYS_RACE_RACE))
    | .afterCause => secondCause cause (s.satInc R.SYS_RACE F.SYS_RACE_RACE)
    | .beforeSeal => warmStart cause (s.satInc R.SEAL_RACE F.SEAL_RACE_RACE)
    | .beforeShutdown =>
      let s := s.satInc R.SYS_RACE F.SYS_RACE_RACE
      warmStart cause { s with pwr := { s.pwr with latch := true } }

/-! ### Off (02 R69, 19 R555, R558, 21 R593) -/

/-- OFF: nothing but the persistent memories, the fuses, the AON island and the thermal latch is kept. -/
def powerOff (s : State) : State := { freshState false false s with mode := .off }

/-- Power lost without POR_N: VDDIO18 goes with the supplies (19 R555, 21 R594). -/
def powerGone (s : State) : State := powerOff { s with pwr := { s.pwr with vddio18 := false } }

/-- The AON island without supply: oscillator and time copy stop, the root's key state is erased, and the device is as
under POR_N (19 R558, 18 R532). -/
def aonDown (s : State) : State :=
  let s := powerOff s
  { s with tm := { now := 0, oscillator := false, cold := true }, root := { s.root with keys := none, debug := false } }

/-! ### The commands of the table -/

/-- POR_RELEASE (02 R69): from OFF, with the AON island supplied. -/
def execPorRelease (b : Bench) (s : State) : Result :=
  .next (if s.mode ≠ .off ∨ !(s.pwr.vaonA || s.pwr.vaonB) then s
    else
      let p := { s.pwr with vddio18 := true }
      start false 0 { s with bench := b, pwr := p, tm := { s.tm with oscillator := true } })

/-- POR_ASSERT (21 R593). -/
def execPorAssert (s : State) : Result := .next (powerOff s)

/-- POWER_LOSS (19 R555). -/
def execPowerLoss (s : State) : Result := .next (powerGone s)

/-- AON_BROWNOUT (19 R558): the selected supply below 1.50 V while the other is not available. -/
def execAonBrownout (s : State) : Result :=
  .next (
    let other := if s.pwr.onB then s.pwr.vaonA else s.pwr.vaonB
    if other then s
    else
      let p := s.pwr
      aonDown { s with pwr := if p.onB then { p with vaonB := false } else { p with vaonA := false } })

/-- AON_LATCH_CLEAR (19 R558): both supplies below 0.3 V for at least 50 ms. -/
def execAonLatchClear (s : State) : Result :=
  .next (aonDown { s with pwr := { s.pwr with latch := false, vaonA := false, vaonB := false, onB := false } })

/-- ARB_FUSE_ADVANCE (02 R65): the next fuse step; with the last one ARB_ADVANCED, its event and a peat log record. -/
def execArbFuseAdvance (s : State) : Result :=
  .next (s.whenWorking (fun s =>
    match s.boot.spore with
    | none => s
    | some p =>
      if !s.boot.arbPending then s
      else
        let n := s.root.arbFused + 1
        let s := { s with root := { s.root with arbFused := n }, boot := { s.boot with arbPending := decide (n < p.arb) } }
        let s := s.setFld R.BOOT_SPORE F.BOOT_SPORE_ARB_FUSED n
        if n < p.arb then s else bootRecord ((s.flag R.BOOT_STATUS F.BOOT_STATUS_ARB_ADVANCED).raise 483)))

/-- RUN_WDOG_EXPIRY (20 R576): cause 0x1. -/
def execRunWdogExpiry (m : Meet) (s : State) : Result :=
  .next (s.whenWorking (fun s =>
    if s.fld R.RUN_WDOG F.RUN_WDOG_TIMEOUT = 0 then s else warmCause 1 m (s.reach (s.root.wdogAt + s.root.wdogLeft))))

/-- FROND_WDOG_EXPIRY (11 R386): fault 0x7; of a CRITICAL frond, an escalation (11 R385). `lost` counts a kick. -/
def execFrondWdogExpiry (f : Fin 64) (lost : Bool) (m : Meet) (s : State) : Result :=
  .next (s.whenWorking (fun s =>
    if frondStopped s f ∨ s.fld (R.FRD_WDOG f) F.FRD_WDOG_TIMEOUT = 0 then s
    else
      let x := s.frond f
      let s := (frondFault f 7 x.pc 0 (s.reach (x.wdogFrom + x.wdogLeft))).lost lost (R.FRD_RACE f)
      s.cond (frondCritical s f) (warmCause 2 m)))

/-- CHUNK_SEAL_START (16 R499), with what the sealer's read of the chunk meets: at an uncorrectable error the chunk
stays unsealed and the device escalates (13 R417). -/
def execChunkSealStart (n : Fin 16) (x : SealRead) (m : Meet) (s : State) : Result :=
  .next (s.whenWorking (fun s =>
    let t := sealStart n s
    if !sealing t n then t
    else
      let t := eccNote true x.addr.toNat x.ecc t
      if x.ecc = .bad then warmCause 2 m t else t))

/-- DCO_MONITOR (18 R522): an island whose DCO has lost lock. Island 95 has no DCO. -/
def execDcoMonitor (i : Fin 96) (locked : Bool) (m : Meet) (s : State) : Result :=
  .next (s.whenServing (fun s =>
    let f : Fld := ⟨i.val % 32, 1⟩
    let r := R.TIME_ISL_LOCK (i.val / 32)
    if locked ∨ i.val = 95 ∨ !s.bit r f then s else warmCause 2 m ((s.setBit r f false).raise 571)))

end Sys2Proof.Machine
end

