-- ==== Sys2Proof/Machine/Mailbox.lean ====
section
/-!
DEFINITION. The spore-update mailbox (02 R77 to R80), and the permission gate of the host's writes (15 R462).
-/

namespace Sys2Proof.Machine

/-! ### Permissions (15 R462) -/

/-- Whether the host holds a permission of the booted spore. -/
def permits (s : State) (k : Nat) : Bool := s.boot.spore.any (fun (p : Spore) => p.permissions / 2 ^ k % 2 == 1)

/-- DENIED counted, with its event. -/
def countDenied (s : State) : State := (s.satInc R.REQ_STATUS F.REQ_STATUS_DENIED).raise 451

/-- A write of a gated register without its permission. -/
def denied (s : State) : State := countDenied (s.setFld R.REQ_STATUS F.REQ_STATUS_RESULT 5)

/-! ### The mailbox -/

/-- RESULT of the mailbox. -/
def mbxResult (v : Nat) (s : State) : State := s.setFld R.MBX_STATUS F.MBX_STATUS_RESULT v

/-- Whether a command runs. -/
def mbxBusy (s : State) : Bool := s.boot.job.isSome

/-- A command begins. -/
def mbxBegin (j : MbxJob) (s : State) : State :=
  ({ s with boot := { s.boot with job := some j, bufferDirty := false } }).setBit R.MBX_STATUS F.MBX_STATUS_BUSY true

/-- A command ends with a result. -/
def mbxEnd (v : Nat) (s : State) : State :=
  mbxResult v (({ s with boot := { s.boot with job := none } }).setBit R.MBX_STATUS F.MBX_STATUS_BUSY false)

/-- A command other than ABORT reaches the mailbox: discarded while one runs; in RUN and MAINT it needs permission 3
(02 R77). -/
def mbxGate (f : State → State) (s : State) : State :=
  if mbxBusy s then s.satInc R.MBX_STATUS F.MBX_STATUS_REFUSED
  else if s.mode ≠ .safe ∧ !permits s 3 then mbxResult 0x20 (denied s)
  else f s

/-- OFFSET. -/
def mbxOffset (s : State) : Nat := (s.reg R.MBX_OFFSET).toNat

/-- LENGTH. -/
def mbxLength (s : State) : Nat := (s.reg R.MBX_LENGTH).toNat

/-- VERIFIED cleared. -/
def unverify (s : State) : State := s.setBit R.MBX_STATUS F.MBX_STATUS_VERIFIED false

/-- ERASE (02 R78). -/
def mbxErase (s : State) : State :=
  let (o, n) := (mbxOffset s, mbxLength s)
  if o % 65536 ≠ 0 ∨ n % 65536 ≠ 0 ∨ n = 0 ∨ 0x4000000 < o + n then mbxResult 0x22 s
  else unverify (mbxBegin (.erase o n) s)

/-- The bytes of the data buffer. -/
def mbxBuffer (s : State) (n : Nat) : List Byte :=
  (List.range (n / 4)).flatMap (fun i => bytesLE 4 (s.reg (R.MBX_DATA i)).toNat)

/-- WRITE (02 R78). -/
def mbxWrite (s : State) : State :=
  let (o, n) := (mbxOffset s, mbxLength s)
  if o % 64 ≠ 0 ∨ n % 64 ≠ 0 ∨ n = 0 ∨ 65536 < n ∨ 0x4000000 < o + n then mbxResult 0x22 s
  else unverify (mbxBegin (.write o n (mbxBuffer s n)) s)

/-- ACTIVATE (02 R78): it requires VERIFIED. -/
def mbxActivate (s : State) : State :=
  if s.bit R.MBX_STATUS F.MBX_STATUS_VERIFIED then mbxBegin .activate s else mbxResult 0x21 s

/-- ABORT (02 R78): RESULT 0x24, VERIFIED cleared; a running ACTIVATE goes on to its end. -/
def mbxAbort (s : State) : State :=
  if s.boot.job = some .activate then mbxResult 0x24 (unverify s) else mbxEnd 0x24 (unverify (jobAbandon s))

/-- REBOOT (02 R78). -/
def mbxReboot (s : State) : State :=
  if s.mode ≠ .safe then mbxResult 0x25 s
  else if s.boot.activated then warmCause 5 .alone s
  else mbxResult 0x21 s

/-- A running ERASE ends; `ok` is false where the flash reports an error (02 R78). -/
def mbxEraseDone (ok : Bool) (s : State) : State :=
  match s.boot.job with
  | some (.erase o n) =>
    let a := slotBase (targetSlot s) + o
    if ok then mbxEnd 0 (flashSet a (List.replicate n 0xFF) s) else mbxEnd 0x23 (flashFree a n s)
  | _ => s

/-- A running WRITE ends (02 R78, R79). -/
def mbxWriteDone (ok : Bool) (s : State) : State :=
  match s.boot.job with
  | some (.write o n bs) =>
    let a := slotBase (targetSlot s) + o
    let s' := if s.boot.bufferDirty then flashSpoil a n s else if ok then flashSet a bs s else flashFree a n s
    mbxEnd (if ok then 0 else 0x23) s'
  | _ => s

/-- A running VERIFY ends (02 R78): checks 1 to 11 against the present fuses. -/
def mbxVerifyDone (s : State) : State :=
  match s.boot.job with
  | some .verify =>
    let code := (checkSlot s (targetSlot s)).1
    if code = 1 then mbxEnd 0 (s.setBit R.MBX_STATUS F.MBX_STATUS_VERIFIED true) else mbxEnd code s
  | _ => s

/-- A running ACTIVATE ends: the copy of lower generation is written with generation + 1 (02 R46, R78). -/
def mbxActivateDone (s : State) : State :=
  match s.boot.job with
  | some .activate =>
    let s := slotRecordWrite (targetSlot s) s
    mbxEnd 0 (mbxShow { s with boot := { s.boot with activated := s.boot.activated || s.mode == .safe } })
  | _ => s

/-- A write of the host to the mailbox page: served in SAFE, MAINT and RUN (15 R460). -/
def State.whenMailbox (s : State) (f : State → State) : State := if s.serving && hostReaches s then f s else s

/-! ### The commands of the table -/

/-- MBX_ERASE (02 R78). -/
def execMbxErase (s : State) : Result := .next (s.whenMailbox (mbxGate mbxErase))

/-- MBX_WRITE (02 R78). -/
def execMbxWrite (s : State) : Result := .next (s.whenMailbox (mbxGate mbxWrite))

/-- MBX_VERIFY (02 R78). -/
def execMbxVerify (s : State) : Result := .next (s.whenMailbox (mbxGate (mbxBegin .verify)))

/-- MBX_ACTIVATE (02 R78). -/
def execMbxActivate (s : State) : Result := .next (s.whenMailbox (mbxGate mbxActivate))

/-- MBX_ABORT (02 R77, R78): the one command accepted while another runs. -/
def execMbxAbort (s : State) : Result :=
  .next (s.whenMailbox (fun s => if s.mode ≠ .safe ∧ !permits s 3 then mbxResult 0x20 (denied s) else mbxAbort s))

/-- MBX_REBOOT (02 R78). -/
def execMbxReboot (s : State) : Result := .next (s.whenMailbox (mbxGate mbxReboot))

/-- MBX_CMD_INVALID (02, MBX_CMD): another value of CMD. -/
def execMbxCmdInvalid (s : State) : Result := .next (s.whenMailbox (mbxGate (mbxResult 0x22)))

/-- MBX_ERASE_DONE (02 R78). -/
def execMbxEraseDone (ok : Bool) (s : State) : Result := .next (s.whenServing (mbxEraseDone ok))

/-- MBX_WRITE_DONE (02 R78). -/
def execMbxWriteDone (ok : Bool) (s : State) : Result := .next (s.whenServing (mbxWriteDone ok))

/-- MBX_VERIFY_DONE (02 R78). -/
def execMbxVerifyDone (s : State) : Result := .next (s.whenServing mbxVerifyDone)

/-- MBX_ACTIVATE_DONE (02 R46, R78). -/
def execMbxActivateDone (s : State) : Result := .next (s.whenServing mbxActivateDone)

end Sys2Proof.Machine
end

