-- ==== Sys2Proof/Machine/Host.lean ====
section
/-!
DEFINITION. The PCIe function, the exchange window, the host's requests, the peat log read window (15 R455 to R464, R481,
R616; 13 R418, R419; 20 R588).
-/

namespace Sys2Proof.Machine

/-! ### The function (15 R455 to R459) -/

/-- A bit field of a capability's DWORD: the capability as `capPlace` numbers them, the DWORD in it, the bits that are
fixed, and what they read. -/
structure CapField where
  cap : Nat
  dword : Nat
  mask : Word
  value : Word

/-- Where a capability lies (log entry 128): the first extended one, Advanced Error Reporting, at DWORD 64, as PCI
Express fixes it. Numbers: 0 PCI Express, 1 Power Management, 2 MSI-X, 3 Advanced Error Reporting, 4 Precision Time
Measurement, 5 Data Object Exchange, 6 Integrity and Data Encryption, 7 Device Serial Number, 8 Data Link Feature, 9
to 11 Physical Layer 16, 32 and 64 GT/s, 12 Lane Margining. -/
def capPlace (c : Nat) : Nat := if c = 3 then 64 else Config.capAt c

/-- The header of an extended capability: its ID, and where the next one lies. -/
def extHeader (c id : Nat) (last : Bool) : CapField :=
  ⟨c, 0, 0xFFF0FFFF, BitVec.ofNat 32 (id + 0x100000 * (if last then 0 else 4 * capPlace (c + 1)))⟩

/-- The header of a capability: its ID, where the next one lies, and what shares the DWORD. -/
def capHeader (c id : Nat) (last : Bool) (mask value : Word) : CapField :=
  ⟨c, 0, mask ||| 0xFFFF, value ||| BitVec.ofNat 32 (id + 0x100 * (if last then 0 else 4 * capPlace (c + 1) % 256))⟩

/-- A max payload or read request size as its field codes it. -/
def sizeCode (bytes : Nat) : Nat := ((List.range 6).find? (fun k => 128 * 2 ^ k == bytes)).getD 0

/-- The capabilities of R456, in its order, with the limits of R455 and what the model holds of them: the fields'
places in their structures are the PCI Express Base Specification's (log entry 128). -/
def capFields (s : State) : List CapField :=
  let p := s.pcie
  let w : Nat → Word := BitVec.ofNat 32
  let bit : Bool → Nat := fun b => if b then 1 else 0
  [capHeader 0 0x10 false 0xF00000 0,
    ⟨0, 1, 0x10000007, 0x10000003⟩,
    ⟨0, 2, 0x70E0, w (0x20 * sizeCode p.maxPayload + 0x1000 * sizeCode p.maxRead)⟩,
    ⟨0, 3, 0x3FF, 0x86⟩,
    ⟨0, 4, 0x3FF0000, w (0x10000 * p.speed + 0x100000 * p.width)⟩,
    ⟨0, 11, 0xFE, 0x7E⟩,
    capHeader 1 0x01 false 0x6000000 0,
    ⟨1, 1, 0xB, w (8 + 3 * bit p.d3)⟩,
    capHeader 2 0x11 true 0xC7FF0000 (w (0x7FF0000 + 0x40000000 * bit p.msixMask + 0x80000000 * bit p.msixEnable)),
    ⟨2, 1, 0xFFFFFFFF, 0x100000⟩,
    ⟨2, 2, 0xFFFFFFFF, 0x108000⟩,
    extHeader 3 0x01 false,
    extHeader 4 0x1F false,
    ⟨4, 1, 0x7, 0x1⟩,
    ⟨4, 2, 0x1, w (bit p.ptmEnable)⟩,
    extHeader 5 0x2E false,
    extHeader 6 0x30 false,
    ⟨6, 1, 0xFF0043, 0x30043⟩,
    extHeader 7 0x03 false,
    ⟨7, 1, 0xFFFFFFFF, w s.root.serial⟩,
    ⟨7, 2, 0xFFFFFFFF, w (s.root.serial / 2 ^ 32)⟩,
    extHeader 8 0x25 false,
    extHeader 9 0x26 false,
    extHeader 10 0x2A false,
    extHeader 11 0x31 false,
    extHeader 12 0x27 true]

/-- A DWORD with the fixed bits of the capabilities that lie there. -/
def withCaps (d : Nat) (s : State) (w : Word) : Word :=
  (capFields s).foldl (fun w c =>
    if capPlace c.cap + c.dword = d then (w &&& ~~~c.mask) ||| (c.value &&& c.mask) else w) w

/-- What a configuration read returns: the identity, the header type of a single endpoint function, the BARs with the
bits that their sizes fix, Command and the capability list as the model holds them (15 R455, R456, R458), the
capabilities; elsewhere what was written, else a free value, since the rest of the space is the PCI Express Base
Specification's. -/
def configWord (d : Nat) (s : State) : Word :=
  let w := (Sparse.find s.pcie.cfg d).getD s.free
  if d = 0 ∨ d = 11 then 0x64001FC7
  else if d = 2 then 0x118000B0
  else if d = 3 then w &&& 0xFF
  else if d = 4 then ((Sparse.find s.pcie.cfg d).getD 0 &&& 0xFFC00000) ||| 4
  else if d = 6 then ((Sparse.find s.pcie.cfg d).getD 0 &&& 0xFFFC0000) ||| 0xC
  else if d = 5 ∨ d = 7 then (Sparse.find s.pcie.cfg d).getD 0
  else if d = 8 ∨ d = 9 then 0
  else if d = 1 then ((s.free.put ⟨1, 1⟩ (if s.pcie.memEnable then 1 else 0)).put ⟨2, 1⟩
    (if s.pcie.busMaster then 1 else 0)).put ⟨20, 1⟩ 1
  else if d = 13 then w.put ⟨0, 8⟩ (4 * capPlace 0)
  else if d < 16 then w
  else withCaps d s w

/-- A configuration request answered (15 R457): retry status until the function is ready. -/
def configRequest (a : CfgAccess) (s : State) : State :=
  let p := s.pcie
  if !p.linkUp ∨ s.mode = .off then s
  else if !p.ready then s.emit (.config none)
  else
    match a with
    | .read d => (s.emit (.config (some (configWord d s)))).drawn
    | .command m b => vectorsRetry { s.emit (.config (some 0)) with pcie := { p with memEnable := m, busMaster := b } }
    | .msix e m => vectorsRetry { s.emit (.config (some 0)) with pcie := { p with msixEnable := e, msixMask := m } }
    | .deviceControl k r =>
      { s.emit (.config (some 0)) with pcie := { p with maxPayload := 128 * 2 ^ k.val, maxRead := 128 * 2 ^ r.val } }
    | .ptm e => { s.emit (.config (some 0)) with pcie := { p with ptmEnable := e } }
    | .other d v =>
      { s.emit (.config (some 0)) with pcie := { p with cfg := Sparse.put (fun _ => none) p.cfg d v } }

/-- The link goes up or down or changes speed or width (15 R481). -/
def linkChange (up : Bool) (speed width : Nat) (s : State) : State :=
  let p := s.pcie
  if p.linkUp = up ∧ p.speed = speed ∧ p.width = width then s
  else vectorsRetry (({ s with pcie := { p with linkUp := up, speed := speed, width := width } }).raise 453)

/-- The power state (15 R458): D_STATE is raised when it changes; the return to D0 resets nothing. -/
def powerState (d3 : Bool) (s : State) : State :=
  if s.pcie.d3 = d3 then s else vectorsRetry (({ s with pcie := { s.pcie with d3 := d3 } }).raise 456)

/-! ### The exchange RAM (13 R418, R419) -/

/-- An access of the host (15 R463): with no data, a read. A destructive march of the exchange RAM makes it a bus error, a
transparent one only puts it off (13 R422; log entry 107). -/
def hostExchange (a n : Nat) (bs : List (Option Byte)) (c : PortB) (s : State) : State :=
  if underMarch s 0x70 then s else
  let s := if bs = [] then exchNote a c { s.emit (.windowRead (exchRead s a n c)) with freeCtr := s.freeCtr + n }
    else exchWrite s a bs
  match c.collision with
  | none => s
  | some x =>
    let e := R.MEM_EXCH_STATUS
    let s := s.cond x.busy (fun s => (s.flag e F.MEM_EXCH_STATUS_B_COLLIDED).satInc e F.MEM_EXCH_STATUS_B_COUNT)
    exchCollided s

/-! ### The peat log read window (20 R588) -/

/-- A word of the window: WIN_SEQ reads as last written, and the records are those of the number taken with WIN_SEQ_HI. -/
def peatWindow (o : Nat) (s : State) : Word :=
  let nat (v : Nat) : Word := BitVec.ofNat 32 v
  let k := s.peat.nextSeq
  let (old, new) := (k - 262144, k - 1)
  if o = 0 then nat new else if o = 4 then nat (new / 2 ^ 32) else if o = 8 then nat old
  else if o = 0xC then nat (old / 2 ^ 32) else if o = 0x10 then s.reg R.WIN_SEQ_LO
  else if o = 0x14 then s.reg R.WIN_SEQ_HI
  else if o = 0x18 then nat (s.fld R.PEAT_STATUS F.PEAT_STATUS_LOST)
  else if 0x10000 ≤ o then
    let q := s.peat.winSeq + (o - 0x10000) / 64
    if old ≤ q ∧ q < k then nat (s.readNat (peatSlot q + o % 64) 4) else 0
  else 0

/-- Whether the host may read the log: in SAFE, or with permission 2 (15 R460). -/
def peatOpen (s : State) : Bool := s.mode == .safe || permits s 2

/-! ### Host requests (15 R464, 02 R57) -/

/-- A request shown: LAST and RESULT. -/
def reqShow (k r : Nat) (s : State) : State :=
  (s.setFld R.REQ_STATUS F.REQ_STATUS_LAST k).setFld R.REQ_STATUS F.REQ_STATUS_RESULT r

/-- A write of request register k, gated by a permission: denied, held off, or carried out, which starts its hold-off
(02 R57, 15 R462, R464). -/
def hostRequest (k perm : Nat) (f : State → State × Nat) (s : State) : State :=
  if !permits s perm then countDenied (reqShow k 5 s)
  else if (Sparse.find s.boot.holdoff k).any (fun t => decide (s.now < t)) then reqShow k 6 s
  else
    let p := f s
    let ms := (p.1.boot.spore.map (fun (w : Spore) => w.hostReqMin)).getD 0
    let h := if ms = 0 then p.1.boot.holdoff else Sparse.put (fun _ => none) p.1.boot.holdoff k (p.1.now + ms * 1000000)
    reqShow k p.2 { p.1 with boot := { p.1.boot with holdoff := h } }

/-- A request that raises an event when it is accepted. -/
def acceptedRaise (src : Nat) (p : State × Nat) : State × Nat := if p.2 = 1 then (p.1.raise src, 1) else p

/-- REQ_RUN: START and STOP; both or neither are refused. -/
def reqRun (up down : Bool) (s : State) : State × Nat :=
  if up = down then (s, 3) else acceptedRaise 448 (if up then askStart s else askStop s)

/-- REQ_MAINT: ENTER and EXIT; both or neither are refused. -/
def reqMaint (enter exit : Bool) (s : State) : State × Nat :=
  if enter = exit then (s, 3) else if enter then askMaintEnter s else askMaintExit s

/-- A request to start a run that a MAINT request won over: refused, reported to who made it, counted in SYS_RACE (01 R32;
the code of a wrong state: log entry 116). -/
def startLoses (m : StartMeet) (s : State) : State :=
  match m with
  | .alone => s
  | .frond => (s.setFld R.RUN_STATUS F.RUN_STATUS_RESULT 3).lost true R.SYS_RACE
  | .host => (hostRequest 0 0 (fun s => (s, 3)) s).lost true R.SYS_RACE

/-- A MAINT request, with the start that it wins over where it is accepted (01 R32). -/
def maintOver (m : StartMeet) (ask : State → State) (s : State) : State :=
  (ask s).cond (s.mode == .run && (ask s).mode == .maint) (startLoses m)

/-- REQ_SHUTTER: the ports named that are enabled and have a shutter. -/
def reqShutter (mask : Nat) (s : State) : State × Nat :=
  let l := (List.range 4).filter (fun n => mask / 2 ^ n % 2 == 1 && s.bit (R.TP_IF_CFG n) F.TP_IF_CFG_ENABLE &&
    shutMode s n != 0)
  if l = [] then (s, 3) else (l.foldl (fun s n => shutRequest true n s) s, 1)

/-- REQ_PACKING: passed to firmware. -/
def reqPacking (stream v : Nat) (s : State) : State × Nat :=
  (((s.setFld R.HOST_FW_REQ F.HOST_FW_REQ_PACK_STREAM stream).setFld R.HOST_FW_REQ F.HOST_FW_REQ_PACK_VALUE v).raise 450, 2)

/-- REQ_CAL: passed to firmware. -/
def reqCal (code : Nat) (s : State) : State × Nat := ((s.setFld R.HOST_FW_REQ F.HOST_FW_REQ_CAL_CODE code).raise 449, 2)

/-! ### The commands of the table -/

/-- CONFIG_REQUEST (15 R457, R459). -/
def execConfigRequest (a : CfgAccess) (s : State) : Result := .next (configRequest a s)

/-- HOST_LINK_READY (15 R457, R616). -/
def execHostLinkReady (s : State) : Result :=
  .next (if s.mode = .off ∨ s.pcie.perst then s else { s with pcie := { s.pcie with ready := true } })

/-- PCIE_LINK_CHANGE (15 R481). -/
def execPcieLinkChange (up : Bool) (speed width : Fin 256) (s : State) : Result :=
  .next (if s.mode = .off then s else linkChange up speed width s)

/-- POWER_STATE_CHANGE (15 R458). -/
def execPowerStateChange (d3 : Bool) (s : State) : Result := .next (if s.mode = .off then s else powerState d3 s)

/-- PERST_N_ASSERT (15 R457, R616): cause 0x3; every part of the function returns to its default. -/
def execPerstNAssert (m : Meet) (s : State) : Result := .next (warmCause 3 m (pcieReset 3 s))

/-- PERST_N_RELEASE (15 R457): the link trains; the function is ready within 500 ms. -/
def execPerstNRelease (s : State) : Result := .next { s with pcie := { s.pcie with perst := false } }

/-- FUNCTION_LEVEL_RESET (15 R457, R616): cause 0x4; the function's state is reset, the link stays up. -/
def execFunctionLevelReset (m : Meet) (s : State) : Result :=
  .next (warmCause 4 m (pcieReset 4 s))

/-- IDE_INTEGRITY_FAIL (15 R459): the stream, 0 link IDE, 1 to 4 selective, leaves IDE's secure state; IDE_FAULT. -/
def execIdeIntegrityFail (stream : Fin 5) (s : State) : Result :=
  .next (s.whenServing (fun s =>
    ({ s with pcie := { s.pcie with ideFailed := NatSet.insert s.pcie.ideFailed stream } }).raise 457))

/-- BAD_WRITE (15 R461): a write to a page that is served, which each state but OFF has (15 R460). -/
def execBadWrite (s : State) : Result := .next (if hostReaches s && s.mode != .off then badWrite s else s)

/-- AER_ERROR (15 R481): an error logged. -/
def execAerError (code : BitVec 32) (s : State) : Result :=
  .next (s.whenServing (fun s => ({ s with pcie := { s.pcie with aer := s.pcie.aer ++ [code.toNat] } }).raise 454))

/-- PTM_DIALOGUE (15, Time; 18 R534): with PTM enabled; a dialogue that fails raises PTM_FAIL. -/
def execPtmDialogue (master : Option (BitVec 64)) (s : State) : Result :=
  .next (s.whenServing (fun s =>
    if s.pcie.ptmEnable && hostOpen s then
      ptmMeasure (master.map (·.toNat)) (s.cond master.isNone (fun s => s.raise 455))
    else s))

/-- HOST_EXCH_ACCESS (15 R463, 13 R418, R419). -/
def execHostExchAccess (addr : Fin 262144) (len : Fin 4097) (data : List (Option Byte)) (c : PortB)
    (s : State) : Result :=
  .next (s.whenWindow (hostExchange addr len data c))

/-- PEAT_WINDOW_READ (15 R460, R462, 20 R588). -/
def execPeatWindowRead (word : Fin 32768) (s : State) : Result :=
  .next (s.whenMailbox (fun s =>
    if peatOpen s then s.emit (.windowRead (bytesLE 4 (peatWindow (4 * word) s).toNat))
    else countDenied (s.emit (.windowRead [0, 0, 0, 0]))))

/-- PEAT_WIN_SEQ_WRITE (20 R588): HI written, with the LO that stands. -/
def execPeatWinSeqWrite (v : BitVec 32) (s : State) : Result :=
  .next (s.whenMailbox (fun s =>
    if peatOpen s then
      let s := s.setReg R.WIN_SEQ_HI v
      { s with peat := { s.peat with winSeq := s.reg64 R.WIN_SEQ_LO } }
    else denied s))

/-- REQ_RUN_START (15 R464). `lost` counts a MAINT request that it meets (01 R32). -/
def execReqRunStart (lost : Bool) (s : State) : Result :=
  .next (s.whenWindow (fun s => (hostRequest 0 0 (reqRun true false) s).lost lost R.SYS_RACE))

/-- REQ_RUN_STOP (15 R464). `lost` counts a warm recovery cause that it meets (01 R32). -/
def execReqRunStop (lost : Bool) (s : State) : Result :=
  .next (s.whenWindow (fun s => (hostRequest 0 0 (reqRun false true) s).lost lost R.SYS_RACE))

/-- REQ_SHUTTER (15 R464, 08 R260, R262). -/
def execReqShutter (ports : BitVec 4) (s : State) : Result :=
  .next (s.whenWindow (hostRequest 1 1 (reqShutter ports.toNat)))

/-- REQ_PACKING (15 R464). -/
def execReqPacking (stream : Fin 16) (v : BitVec 8) (s : State) : Result :=
  .next (s.whenWindow (hostRequest 2 4 (reqPacking stream v.toNat)))

/-- REQ_CAL (15 R464). -/
def execReqCal (code : BitVec 16) (s : State) : Result := .next (s.whenWindow (hostRequest 3 5 (reqCal code.toNat)))

/-- MAINT_ENTER (01 R27, R29, R32); `m`: the run start that it meets. -/
def execMaintEnter (m : StartMeet) (s : State) : Result :=
  .next (s.whenWorking (maintOver m (frondAsk askMaintEnter)))

/-- REQ_MAINT_ENTER (15 R464, 01 R32); `m`: the run start that it meets. -/
def execReqMaintEnter (m : StartMeet) (s : State) : Result :=
  .next (s.whenWindow (maintOver m (hostRequest 4 6 (reqMaint true false))))

/-- REQ_MAINT_EXIT (15 R464). -/
def execReqMaintExit (lost : Bool) (s : State) : Result :=
  .next (s.whenWindow (fun s => (hostRequest 4 6 (reqMaint false true) s).lost lost R.SYS_RACE))

/-- HOST_REQ_HOLDOFF_END (02 R57). -/
def execHostReqHoldoffEnd (k : Fin 5) (s : State) : Result :=
  .next (s.whenWorking (fun s =>
    match Sparse.find s.boot.holdoff k with
    | some t =>
      let s := s.reach t
      { s with boot := { s.boot with holdoff := Sparse.erase s.boot.holdoff k } }
    | none => s))

end Sys2Proof.Machine
end

