-- ==== Sys2Proof/Machine/Trust.lean ====
section
/-!
DEFINITION. The root's SPDM responder and the owner's commands (16 R483 to R491, R501, R502; 20 R589). A request names its
content; the framing of messages is the DMTF standard's and is left out (log entry 60).
-/

namespace Sys2Proof.Machine

/-! ### Answers -/

/-- An answer. -/
def answer (r : SpdmRsp) (s : State) : State := s.emit (.spdm r)

/-- A request reaches the DOE mailbox: the root answers in SAFE, MAINT and RUN; one that arrives while the previous one
runs gets ERROR Busy (16 R485). -/
def spdmRequest (busy : Bool) (f : State → State) (s : State) : State :=
  if !s.serving ∨ !s.pcie.ready ∨ !s.pcie.linkUp then s else if busy then answer .busy s else f s

/-- A request that needs an open session. -/
def inSession (f : State → State) (s : State) : State := if s.spdm.session then f s else answer .unexpected s

/-! ### Identity and measurements (16 R483 to R486) -/

/-- The chain of slot 0: Creile's root CA, the manufacturing CA, DeviceID, Alias (16 R484, R485). -/
def certChain (s : State) : List Byte := Config.deviceChain ++ s.root.aliasCert

/-- A signature of the attestation key over an SPDM transcript. -/
def spdmSign (k : Nat) (request : List Byte) (s : State) : List Byte :=
  (Config.ecdsaSign (aliasSeed s) (Config.sha384 (Config.spdmTranscript k request)).toList).toList

/-- The DMTF type of a measurement block: immutable ROM, mutable firmware, firmware configuration, debug and device mode
(16 R486; the codes: log entry 60). -/
def measType (i : Nat) : Nat := if i = 1 then 0 else if i = 2 ∨ i = 6 then 1 else if i = 5 then 5 else 3

/-- The content of a measurement block (16 R486). -/
def measContent (s : State) (i : Nat) : List Byte :=
  let w := s.reg R.TRUST_STATE
  if i = 1 then Config.romDigest.toList
  else if i = 2 then (Config.sha384 s.root.layerHeader).toList ++ bytesLE 4 (s.reg R.BOOT_BUILD).toNat
  else if i = 3 then bytesLE 1 (s.fld R.BOOT_SPORE F.BOOT_SPORE_ARB) ++ bytesLE 1 s.root.arbFused
  else if i = 4 then
    bytesLE 1 (w.get F.TRUST_STATE_SLOT_STATE) ++ bytesLE 1 (w.get F.TRUST_STATE_SLOT_IN_FORCE)
  else if i = 5 then [if s.root.debug then 1 else 0]
  else mldsaKey s

/-- A measurement block in DMTF form: index, the DMTF specification, size, type (bit 7 set where the value is no
digest alone), size of the value, value (16 R486; log entry 60). -/
def measured (s : State) (i : Nat) : List Byte :=
  let v := measContent s i
  bytesLE 1 i ++ [1] ++ bytesLE 2 (v.length + 3) ++ bytesLE 1 (measType i + (if i = 1 then 0 else 128)) ++
    bytesLE 2 v.length ++ v

/-- A response kept for CHUNK_GET. -/
def keepLarge (bs : List Byte) (s : State) : State := { s with spdm := { s.spdm with largeOut := bs } }

/-! ### Sessions (16 R485) -/

/-- An open session ends, with SESSION (16 R504). -/
def sessionEnd (s : State) : State :=
  if s.spdm.session then
    trustShow (({ s with spdm := { s.spdm with session := false, established := false } }).raise 480)
  else s

/-- A session opens. -/
def sessionOpen (s : State) : State :=
  trustShow (({ s with spdm := { s.spdm with session := true, established := false, keyEpoch := 0 } }).raise 480)

/-! ### Owner commands (16 R488 to R491) -/

/-- An owner slot. -/
def ownerSlot (s : State) (k : Nat) : OwnerSlot := s.root.slots.getD k {}

/-- An owner slot replaced. -/
def setOwnerSlot (k : Nat) (o : OwnerSlot) (s : State) : State :=
  trustShow { s with root := { s.root with slots := (List.range 4).map (fun j => if j = k then o else ownerSlot s j) } }

/-- The length of the signer's key record. -/
def ownerKeyLen (c : List Byte) : Nat := natAt 0x60 4 c

/-- The signer's key record. -/
def ownerKey (c : List Byte) : List Byte := slice 0x80 (ownerKeyLen c) c

/-- The end of the key record's padding: what the signatures cover. -/
def ownerSigned (c : List Byte) : Nat := 0x80 + roundUp (ownerKeyLen c) 64

/-- Whether the signer's key record has an ML-DSA-65 key. -/
def ownerDual (c : List Byte) : Bool := byteAt 0 (ownerKey c) % 2 == 1

/-- Check 1 of 16 R490: MAGIC, CMD, zero fields, length. -/
def ownerFormatOk (c : List Byte) : Bool :=
  let (cmd, signer, len) := (byteAt 4 c, byteAt 5 c, ownerKeyLen c)
  let fin := ownerSigned c
  let sigs := if signer = 0xFF then 0 else 96 + (if ownerDual c then 3309 else 0)
  let keyOk := if signer = 0xFF then len == 0 else len == (if ownerDual c then 2050 else 98)
  sameBytes (slice 0 4 c) (ascii "GOWN") && decide (1 ≤ cmd ∧ cmd ≤ 3) && byteAt 7 c == 0 &&
    allZero (slice 0x64 28 c) && allZero (slice (0x80 + len) (fin - (0x80 + len)) c) && keyOk &&
    (cmd == 1 || allZero (slice 0x30 48 c)) && (cmd != 3 || byteAt 6 c == 0) && c.length == fin + sigs

/-- Check 3: the signer's slot, or a first enrolment. -/
def ownerSignerOk (s : State) (c : List Byte) : Bool :=
  let signer := byteAt 5 c
  if signer = 0xFF then
    byteAt 4 c == 1 && s.root.slots.all (fun o => slotCode o == 0) && s.mode == .safe
  else
    decide (signer < 4) && (ownerSlot s signer).active &&
      sameBytes (Config.sha384 (ownerKey c)).toList (padTo 48 (ownerSlot s signer).hash)

/-- Check 4: the signatures. -/
def ownerSignaturesOk (c : List Byte) : Bool :=
  let m := c.take (ownerSigned c)
  let sig := c.drop (ownerSigned c)
  byteAt 5 c == 0xFF ||
    Config.ecdsaOk (slice 1 97 (ownerKey c)) m (sig.take 96) &&
      (!ownerDual c || Config.mldsaOk ((ownerKey c).drop 98) m (sig.drop 96))

/-- Check 5: the target. -/
def ownerTarget (s : State) (c : List Byte) : Nat :=
  let (cmd, t) := (byteAt 4 c, byteAt 6 c)
  let o := ownerSlot s t
  if cmd = 1 then (if t < 4 ∧ slotCode o = 0 then 1 else 5)
  else if cmd = 2 then
    if !(decide (t < 4) && o.active) ∨ t = byteAt 5 c then 5
    else if (s.root.slots.filter (·.active)).length = 1 then 6
    else 1
  else 1

/-- Checks 1 to 5 in their order: the RESULT of the first that fails, 0x1 if none does. -/
def ownerCheck (s : State) (c : List Byte) : Nat :=
  if !ownerFormatOk c then 7
  else if natAt 8 8 c ≠ s.root.serial then 4
  else if !s.root.nonce.any (fun n => sameBytes n (slice 0x10 32 c)) then 3
  else if !ownerSignerOk s c then 5
  else if !ownerSignaturesOk c then 2
  else ownerTarget s c

/-- The hash fuses that an interrupted burn has blown: some of those of NEW_REF, which of them is open (16 R491). -/
def cutHash (ref : List Byte) (k : Nat) : List Byte :=
  let h := List.zipWith (fun b i => b &&& (Config.freeWord (k + i)).setWidth 8) ref (List.range ref.length)
  if h.any (· != 0) then h else ref

/-- The fuses of a command burn (16 R490, R491). A burn that does not read back leaves the fuses it touched open; one
that loss of power interrupts leaves an ENROL target SPOILED and a REVOKE target ACTIVE. -/
def ownerBurn (c : List Byte) (b : FuseBurn) (s : State) : State :=
  let (cmd, t) := (byteAt 4 c, byteAt 6 c)
  let o := ownerSlot s t
  let k := s.freeCtr
  if cmd = 1 then
    match b with
    | .burnt => setOwnerSlot t { o with hash := slice 0x30 48 c, valid := true } s
    | .failed =>
      let h := bytesOf 48 (fun i => (Config.freeWord (k + i)).setWidth 8)
      { setOwnerSlot t { o with hash := h, valid := (Config.freeWord (k + 48)).getLsbD 0 } s with freeCtr := k + 49 }
    | .cut => { setOwnerSlot t { o with hash := cutHash (slice 0x30 48 c) k } s with freeCtr := k + 48 }
  else if cmd = 2 then
    match b with
    | .burnt => setOwnerSlot t { o with revoked := true } s
    | .failed => { setOwnerSlot t { o with revoked := (Config.freeWord k).getLsbD 0 } s with freeCtr := k + 1 }
    | .cut => s
  else s

/-- RESULT, LAST_CMD, REFUSED, the peat log record, the answer; OWNER_CMD on acceptance (16 R490, 20 R584). -/
def ownerResult (c : List Byte) (r : Nat) (s : State) : State :=
  let a := R.TRUST_OWNER_STATUS
  let s := (s.setFld a F.TRUST_OWNER_STATUS_LAST_CMD (byteAt 4 c)).setFld a F.TRUST_OWNER_STATUS_RESULT r
  let s := s.cond (r != 1) (fun s => s.satInc a F.TRUST_OWNER_STATUS_REFUSED)
  let s := s.peatPush 0xD 92 (bytesLE 1 (byteAt 4 c) ++ bytesLE 1 (byteAt 6 c) ++ bytesLE 1 r)
  answer (.owner r) (s.cond (r == 1) (fun s => s.raise 481))

/-- An accepted UNLOCK (16 R501, R502): runs end by fault, keys are erased, DEBUG is set, and the device starts warm with
cause 0x2; the events are delivered before the start (log entry 68). `lost` counts a step 5 of R499 that it meets. -/
def unlock (lost : Bool) (s : State) : State :=
  let s := eventNow 482 (s.lost lost R.SEAL_RACE)
  let s := (List.range 16).foldl (fun s n =>
    s.cond (decide (0 < unsealed (s.stream n))) (eventNow (Ev.stream n 10))) s
  let s := eraseKeys { s with root := { s.root with debug := true } }
  warmCause 2 .alone s

/-- An OWNER_COMMAND, whose CMD is k or is no command: the checks, the fuses, the outcome; the nonce is consumed.
Power lost during the burn leaves the device in OFF (16 R491). -/
def ownerCommand (k : Nat) (c : List Byte) (b : FuseBurn) (s : State) : State :=
  if byteAt 4 c ≠ k ∧ 1 ≤ byteAt 4 c ∧ byteAt 4 c ≤ 3 then s
  else
    let r := ownerCheck s c
    let s := { s with root := { s.root with nonce := none } }
    if r ≠ 1 then ownerResult c r s
    else
      let s := ownerBurn c b s
      if b = .cut ∧ k ≠ 3 then powerGone s else ownerResult c (if b = .burnt ∨ k = 3 then 1 else 8) s

/-! ### PEAT_READ (20 R589) -/

/-- The records that PEAT_READ returns. -/
def peatReadOut (first count : Nat) (s : State) : State :=
  let next := s.peat.nextSeq
  let a := max first (next - 262144)
  let n := min (min count 64) (next - a)
  let bs := (List.range n).flatMap (fun i => s.read (peatSlot (a + i)) 64)
  answer (.peat (next - 1) bs) (keepLarge bs s)

/-! ### The requests (16 R485 to R487) -/

/-- The root's capabilities (16 R485). -/
def spdmCaps : List SpdmCap :=
  [.cert, .chal, .measSigned, .measFresh, .keyEx, .encrypt, .mac, .hbeat, .keyUpd, .chunk]

/-- The root's algorithms (16 R485). -/
def spdmAlgs : List SpdmAlg := [.ecdsaP384, .sha384, .dheSecp384r1, .aes256Gcm, .spdmKeySchedule]

/-- GET_DIGESTS: slot 0 only. -/
def doDigests (s : State) : State := answer (.digests (Config.sha384 (certChain s)).toList) s

/-- GET_CERTIFICATE: slot 0 only. -/
def doCertificate (slot : Nat) (s : State) : State :=
  if slot ≠ 0 then answer .unexpected s else answer (.certificate (certChain s)) (keepLarge (certChain s) s)

/-- CHALLENGE: signed with the attestation key. -/
def doChallenge (slot : Nat) (request : List Byte) (s : State) : State :=
  if slot ≠ 0 then answer .unexpected s else answer (.challengeAuth (spdmSign 0 request s)) s

/-- GET_MEASUREMENTS: the blocks asked for, signed. -/
def doMeasurements (l : List Nat) (request : List Byte) (s : State) : State :=
  let bs := l.map (fun i => (i, measured s i))
  answer (.measurements bs (spdmSign 1 request s)) (keepLarge (bs.flatMap (·.2)) s)

/-- KEY_EXCHANGE: during a session it ends the old session. -/
def doKeyExchange (request : List Byte) (s : State) : State :=
  answer (.keyExchange (spdmSign 2 request s)) (sessionOpen (sessionEnd s))

/-- FINISH: session establishment completes. -/
def doFinish : State → State := inSession (fun s =>
  if s.spdm.established then answer .unexpected s
  else answer .finish { s with spdm := { s.spdm with established := true } })

/-- KEY_UPDATE: the session's keys change. -/
def doKeyUpdate : State → State := inSession (fun s =>
  answer .keyUpdate { s with spdm := { s.spdm with keyEpoch := s.spdm.keyEpoch + 1 } })

/-- END_SESSION. -/
def doEndSession : State → State := inSession (fun s => answer .endSession (sessionEnd s))

/-- GET_OWNER_NONCE: 32 fresh random bytes, valid for one OWNER_COMMAND. -/
def doNonce (s : State) : State :=
  let n := bytesOf 32 (Config.randomByte s.root.randoms)
  answer (.nonce n) { s with root := { s.root with nonce := some n, randoms := s.root.randoms + 1 } }

/-- OWNER_COMMAND with UNLOCK. -/
def doUnlock (cmd : List Byte) (lost : Bool) (s : State) : State :=
  let ok := byteAt 4 cmd == 3 && ownerCheck s cmd == 1
  (ownerCommand 3 cmd .burnt s).cond ok (unlock lost)

/-- PEAT_READ: accepted only inside a session. COUNT is 1 to 64. -/
def doPeatRead (first count : Nat) (s : State) : State :=
  if !s.spdm.established ∨ count = 0 ∨ 64 < count then answer .unexpected s else peatReadOut first count s

/-- A vendor-defined request by its payload: code, then what the code carries (16 R487, 20 R589). -/
def vendorRun (p : List Byte) (fuses : FuseBurn) (lost : Bool) (s : State) : State :=
  let code := byteAt 0 p
  let c := p.drop 1
  if code = 1 then doNonce s
  else if code = 2 then
    if byteAt 4 c = 3 then doUnlock c lost s else ownerCommand (byteAt 4 c) c fuses s
  else if code = 3 then doPeatRead (natAt 0 8 c) (natAt 8 2 c) s
  else answer .unsupported s

/-- A large request, whole, runs as its message says: the codes and the places of the fields are the DMTF standard's
(log entry 60). -/
def largeRun (m : List Byte) (fuses : FuseBurn) (lost : Bool) (s : State) : State :=
  let code := byteAt 1 m
  let (p1, p2) := (byteAt 2 m, byteAt 3 m)
  if code = 0x84 then answer .version s
  else if code = 0xE1 then answer (.capabilities spdmCaps) s
  else if code = 0xE3 then answer (.algorithms spdmAlgs) s
  else if code = 0x81 then doDigests s
  else if code = 0x82 then doCertificate (p1 % 16) s
  else if code = 0x83 then doChallenge (p1 % 16) m s
  else if code = 0xE0 then
    if p2 = 255 then doMeasurements [1, 2, 3, 4, 5, 6] m s
    else if 1 ≤ p2 ∧ p2 ≤ 6 then doMeasurements [p2] m s
    else answer .unexpected s
  else if code = 0xE4 then doKeyExchange m s
  else if code = 0xE5 then doFinish s
  else if code = 0xE8 then inSession (answer .heartbeat) s
  else if code = 0xE9 then doKeyUpdate s
  else if code = 0xEC then doEndSession s
  else if code = 0xFE ∧ natAt 4 2 m = 3 ∧ natAt 7 2 m = 0x1FC7 then vendorRun (m.drop 11) fuses lost s
  else answer .unsupported s

/-- CHUNK_SEND: a chunk is kept; with the last one the request runs, and its response follows the acknowledgement. -/
def doChunkSend (c : LargeChunk) (last : Bool) (s : State) : State :=
  let m := s.spdm.large ++ c.bytes
  let s := answer .chunkAck { s with spdm := { s.spdm with large := if last then [] else m } }
  if last then largeRun m c.fuses c.lost s else s

/-! ### The commands of the table -/

/-- GET_VERSION (16 R485): SPDM 1.3. -/
def execGetVersion (busy : Bool) (s : State) : Result := .next (spdmRequest busy (answer .version) s)

/-- GET_CAPABILITIES (16 R485). -/
def execGetCapabilities (busy : Bool) (s : State) : Result :=
  .next (spdmRequest busy (answer (.capabilities spdmCaps)) s)

/-- NEGOTIATE_ALGORITHMS (16 R485). -/
def execNegotiateAlgorithms (busy : Bool) (s : State) : Result :=
  .next (spdmRequest busy (answer (.algorithms spdmAlgs)) s)

/-- GET_DIGESTS (16 R485). -/
def execGetDigests (busy : Bool) (s : State) : Result := .next (spdmRequest busy doDigests s)

/-- GET_CERTIFICATE (16 R484, R485). -/
def execGetCertificate (slot : Fin 8) (busy : Bool) (s : State) : Result := .next (spdmRequest busy (doCertificate slot) s)

/-- CHALLENGE (16 R485). -/
def execChallenge (slot : Fin 8) (request : List Byte) (busy : Bool) (s : State) : Result :=
  .next (spdmRequest busy (doChallenge slot request) s)

/-- GET_MEASUREMENTS (16 R486): one block or all six. -/
def execGetMeasurements (block : Option (Fin 6)) (request : List Byte) (busy : Bool) (s : State) : Result :=
  let l := match block with
    | some i => [i.val + 1]
    | none => [1, 2, 3, 4, 5, 6]
  .next (spdmRequest busy (doMeasurements l request) s)

/-- KEY_EXCHANGE (16 R485). -/
def execKeyExchange (request : List Byte) (busy : Bool) (s : State) : Result :=
  .next (spdmRequest busy (doKeyExchange request) s)

/-- FINISH (16 R485). -/
def execFinish (busy : Bool) (s : State) : Result := .next (spdmRequest busy doFinish s)

/-- HEARTBEAT (16 R485). -/
def execHeartbeat (busy : Bool) (s : State) : Result := .next (spdmRequest busy (inSession (answer .heartbeat)) s)

/-- KEY_UPDATE (16 R485). -/
def execKeyUpdate (busy : Bool) (s : State) : Result := .next (spdmRequest busy doKeyUpdate s)

/-- END_SESSION (16 R485). -/
def execEndSession (busy : Bool) (s : State) : Result := .next (spdmRequest busy doEndSession s)

/-- CHUNK_SEND (16 R485): a chunk of a large request. -/
def execChunkSend (c : LargeChunk) (last busy : Bool) (s : State) : Result := .next (spdmRequest busy (doChunkSend c last) s)

/-- CHUNK_GET (16 R485): the next chunk of the last large response. -/
def execChunkGet (size : Fin 65536) (busy : Bool) (s : State) : Result :=
  .next (spdmRequest busy (fun s =>
    let l := s.spdm.largeOut
    answer (.chunk (l.take size) (decide (l.length ≤ size.val))) (keepLarge (l.drop size) s)) s)

/-- GET_OWNER_NONCE (16 R487). -/
def execGetOwnerNonce (busy : Bool) (s : State) : Result := .next (spdmRequest busy doNonce s)

/-- OWNER_ENROL (16 R490, R491). -/
def execOwnerEnrol (cmd : List Byte) (fuses : FuseBurn) (busy : Bool) (s : State) : Result :=
  .next (spdmRequest busy (ownerCommand 1 cmd fuses) s)

/-- OWNER_REVOKE (16 R490, R491). -/
def execOwnerRevoke (cmd : List Byte) (fuses : FuseBurn) (busy : Bool) (s : State) : Result :=
  .next (spdmRequest busy (ownerCommand 2 cmd fuses) s)

/-- OWNER_UNLOCK (16 R490, R501, R502). -/
def execOwnerUnlock (cmd : List Byte) (lost busy : Bool) (s : State) : Result :=
  .next (spdmRequest busy (doUnlock cmd lost) s)

/-- PEAT_READ (16 R487, 20 R589). -/
def execPeatRead (first : BitVec 64) (count : BitVec 16) (busy : Bool) (s : State) : Result :=
  .next (spdmRequest busy (doPeatRead first.toNat count.toNat) s)

/-- VENDOR_REQUEST_UNSUPPORTED (16 R487): a code other than 0x01 to 0x03. -/
def execVendorRequestUnsupported (code : BitVec 8) (busy : Bool) (s : State) : Result :=
  .next (spdmRequest busy (fun s => if 1 ≤ code.toNat ∧ code.toNat ≤ 3 then s else answer .unsupported s) s)

end Sys2Proof.Machine
end

