-- ==== Sys2Proof/Machine/Window.lean ====
section
/-!
DEFINITION. The host's windows (15 R460 to R464, R471, 02 R77), and the commands by which a requester writes or reads a
register.
-/

namespace Sys2Proof.Machine

/-! ### The host's windows (15 R460 to R464, R471, 02 R77) -/

/-- A write of the mailbox page. -/
def mbxPage (o : Nat) (v : Word) (s : State) : State :=
  if o = 0 then
    let c := v.get F.MBX_CMD_CMD
    if c = 5 then if s.mode ≠ .safe ∧ !permits s 3 then mbxResult 0x20 (denied s) else mbxAbort s
    else mbxGate (if c = 1 then mbxErase else if c = 2 then mbxWrite else if c = 3 then mbxBegin .verify
      else if c = 4 then mbxActivate else if c = 6 then mbxReboot else mbxResult 0x22) s
  else if o = 8 ∨ o = 0xC then s.setReg (winBase + 0x200000 + o) v
  else if 0x10000 ≤ o ∧ o < 0x20000 then
    { s.setReg (winBase + 0x200000 + o) v with boot := { s.boot with bufferDirty := s.boot.bufferDirty || mbxBusy s } }
  else s

/-- A write of a stream's ring registers (15 R467, R471, R472). -/
def ringPage (n o : Nat) (v setWon clearWon : Word) (s : State) : State :=
  let a := R.RING_CTRL n
  if o = 0 then
    let met := popCount ((setWon ||| clearWon) &&& v &&& 4)
    let s := s.cond (0 < met) (fun s => s.race a met)
    let clears := v.getLsbD 2 && !setWon.getLsbD 2
    let s := showActive n (s.cond clears (fun s => s.setBit a F.RING_CTRL_RING_ERR false))
    if v.getLsbD 0 then ringEnable n s else ringStop n s
  else if o = 0x18 then grTailWrite n (v.get ⟨0, 16⟩) s
  else if o = 0x20 then crHeadWrite n (v.get ⟨0, 16⟩) s
  else if 4 ≤ o ∧ o < 0x18 then ringConfig n (a + o) v s
  else s

/-- A write of the request page (15 R464). -/
def requestPage (o : Nat) (v : Word) (s : State) : State :=
  if o = 0 then hostRequest 0 0 (reqRun (v.getLsbD 0) (v.getLsbD 1)) s
  else if o = 4 then hostRequest 1 1 (reqShutter (v.get ⟨0, 4⟩)) s
  else if o = 8 then hostRequest 2 4 (reqPacking (v.get ⟨16, 4⟩) (v.get ⟨0, 8⟩)) s
  else if o = 0xC then hostRequest 3 5 (reqCal (v.get ⟨0, 16⟩)) s
  else if o = 0x10 then hostRequest 4 6 (reqMaint (v.getLsbD 0) (v.getLsbD 1)) s
  else s

/-- Whether the page of an offset in the control window is served (15 R460). -/
def pageServed (o : Nat) (s : State) : Bool :=
  if 0x100000 ≤ o ∧ o < 0x109000 ∨ o < 0x10000 then s.mode != .off
  else if o < 0x20000 ∨ 0x30000 ≤ o ∧ o < 0x40000 then s.working
  else s.serving

/-- A write of one DWORD to the control window, where its page is served (15 R460); one that is not aligned lacks byte
enables of the DWORDs that it touches and is a bad write (15 R461). -/
def windowWrite (o : Nat) (v setWon clearWon : Word) (s : State) : State :=
  if !hostReaches s then s
  else if o % 4 ≠ 0 then s.cond (pageServed o s) badWrite
  else if 0x100000 ≤ o ∧ o < 0x108000 then
    if s.mode = .off then s else vectorsRetry (s.setReg (winBase + o) v)
  else if o = 0x18 then
    if s.serving || s.mode == .halt then writeReg .host R.MEM_EXCH_STATUS v setWon clearWon s else s
  else if 0x10000 ≤ o ∧ o < 0x20000 then
    if s.working then ringPage ((o - 0x10000) / 0x1000) (o % 0x1000) v setWon clearWon s else s
  else if o = 0x20000 then if s.serving then eventAck (v.get ⟨0, 10⟩) s else s
  else if 0x30000 ≤ o ∧ o < 0x40000 then if s.working then requestPage (o - 0x30000) v s else s
  else if o = 0x40010 ∨ o = 0x40014 then
    if !s.serving then s
    else if peatOpen s then
      let s := s.setReg (winBase + o) v
      if o = 0x40014 then { s with peat := { s.peat with winSeq := s.reg64 R.WIN_SEQ_LO } } else s
    else denied s
  else if 0x200000 ≤ o ∧ o < 0x220000 then if s.serving then mbxPage (o - 0x200000) v s else s
  else s

/-- A bit per stream. -/
def streamMask (s : State) (p : Stream → Bool) : Nat :=
  (List.range 16).foldl (fun w n => if p (s.stream n) then w + 2 ^ n else w) 0

/-- A register of the identity and state page (15, Identity and state page). -/
def identityPage (o : Nat) (s : State) : Word :=
  let inSafe := s.mode == .safe
  if o = 0 then s.reg R.SYS_ID
  else if o = 4 then s.reg R.SYS_STATE
  else if o = 8 then s.reg R.SYS_CAUSE
  else if o = 0xC then
    if inSafe then 0 else BitVec.ofNat 32 ((s.boot.spore.map (fun (p : Spore) => p.permissions % 128)).getD 0)
  else if o = 0x10 then
    if inSafe then 0 else BitVec.ofNat 32 (streamMask s (·.enabled) + 65536 * streamMask s (·.isSealed))
  else if o = 0x14 then if inSafe then 0 else BitVec.ofNat 32 (streamMask s (·.driven))
  else if o = 0x18 then s.reg R.MEM_EXCH_STATUS
  else if o = 0x1C then if s.boot.ready then 1 else 0
  else if o = 0x20 then s.reg R.BOOT_BUILD
  else if 0x1000 ≤ o ∧ o < 0x2000 then s.reg (R.EVT_ROUTE ((o - 0x1000) / 4))
  else 0

/-- What the host reads at an aligned offset of the control window: 0 where the page is not served (15 R460). -/
def windowRead (o : Nat) (s : State) : Word :=
  if 0x100000 ≤ o ∧ o < 0x109000 then s.shown (winBase + o)
  else if o < 0x10000 then
    if s.mode = .boot then (if o = 4 then s.reg R.SYS_STATE else 0) else identityPage o s
  else if o < 0x20000 then
    if !s.working then 0
    else if o % 0x1000 = 0x28 then
      let n := (o - 0x10000) / 0x1000
      (s.reg (R.RING_STAT n)).put F.RING_STAT_FILL (s.fld (R.SPOOL_FILL n) F.SPOOL_FILL_FILL)
    else s.shown (winBase + o)
  else if 0x30000 ≤ o ∧ o < 0x40000 then if s.working then s.shown (winBase + o) else 0
  else if 0x40000 ≤ o ∧ o < 0x60000 then if s.serving && peatOpen s then peatWindow (o - 0x40000) s else 0
  else if s.serving then s.shown (winBase + o)
  else 0

/-- Whether a read of the window is a denied read of the peat log (15 R462). -/
def windowDenies (o : Nat) (s : State) : Bool :=
  decide (0x40000 ≤ o ∧ o < 0x60000) && s.serving && !peatOpen s

/-- A read of the host, of any length (15 R461): the bytes of the DWORDs that it touches; a read that touches a page
that the host may not read is denied. -/
def windowSpan (o len : Nat) (s : State) : State :=
  let lo := o / 4
  let words := List.range ((o + len + 3) / 4 - lo)
  let denies := words.any (fun i => windowDenies (4 * (lo + i)) s)
  let bs := words.flatMap (fun i => bytesLE 4 (windowRead (4 * (lo + i)) s).toNat)
  (s.cond denies countDenied).emit (.windowRead (slice (o % 4) len bs))

/-! ### The commands -/

/-- REGISTER_WRITE (00 R11 to R14): the requesters inside reach the register blocks while all blocks work, the host its
window. -/
def execRegisterWrite (q : Requester) (a : Fin 562949953421312) (v setWon clearWon : BitVec 32) (s : State) : Result :=
  .next (
    match q with
    | .host => if winBase ≤ a.val then windowWrite (a.val - winBase) v setWon clearWon s else s
    | _ => if winBase ≤ a.val then s else s.whenWorking (writeReg q a v setWon clearWon))

/-- PAIR_LO_READ (03 R117): a requester's read of registers, word by word; a read by the host, of any length, is
answered (15 R461). -/
def execPairLoRead (q : Requester) (x : ReadSpan) (s : State) : Result :=
  .next (
    let a := x.addr.val
    match q with
    | .host => if winBase ≤ a ∧ hostReaches s then windowSpan (a - winBase) x.len s else s
    | _ => if winBase ≤ a then s else s.whenWorking (fun s => (readRegs q a (x.len / 4) s).2))

end Sys2Proof.Machine
end

