-- ==== Sys2Proof/Machine/Bus.lean ====
section
/-!
DEFINITION. An access to the device address space by a frond or by the DMA engine: memories, register blocks, a frond's
local memories and queue ports seen from outside (01 R33 to R36, 11 R356, R372, 13 R422).
-/

namespace Sys2Proof.Machine

/-- The words of registers upward from an address, written by a requester. -/
def writeRegs (q : Requester) : Nat → Nat → List Byte → State → State
  | _, 0, _, s => s
  | a, n + 1, bs, s => writeRegs q (a + 4) n (bs.drop 4) (writeReg q a (BitVec.ofNat 32 (natAt 0 4 bs)) 0 0 s)

/-- The number of the DMA channel that may use a queue's port; no other requester may (11 R372). -/
abbrev PortUser := Option Nat

/-- A read of `len` bytes at a device address; `none` is a bus error (01 R35). -/
def busRead (q : Requester) (u : PortUser) (a len : Nat) (s : State) : Option (List Byte) × State :=
  match regionOf a with
  | .hole => (none, s)
  | .mram => if regionOf (a + len - 1) = .mram then (some (s.read a len), s) else (none, s)
  | .block b =>
    let o := a % 0x100000
    if 0x100000 < o + len then (none, s)
    else if b < 0x40 then
      let r := readRegs q a (len / 4) s
      (some r.1, r.2)
    else
      let f := b - 0x40
      match frdPlace o with
      | .memory m => if localOpen s f then (some (s.read (frondKey f m) len), s) else (none, s)
      | .port k =>
        match s.queue f k, u with
        | e :: _, some n =>
          if len = 64 ∧ o % 0x40 = 0 ∧ portBound s n f k true then (some e, queueDrop s f k) else (none, s)
        | _, _ => (none, s)
      | .regs =>
        let r := readRegs q a (len / 4) s
        (some r.1, r.2)
  | _ => if plainOk s a len then (some (s.read a len), s) else (none, s)

/-- Bytes stored upward from a key, each where it is enabled. -/
def storeMasked (a : Nat) : List (Byte × Bool) → State → State
  | [], s => s
  | (b, e) :: l, s => storeMasked (a + 1) l (if e then s.setByte a b else s)

/-- A write of bytes at a device address, each where it is enabled; `none` is a bus error (01 R35). -/
def busWrite (q : Requester) (u : PortUser) (a : Nat) (l : List (Byte × Bool)) (s : State) : Option State :=
  let len := l.length
  let bs := l.map (·.1)
  match regionOf a with
  | .hole => none
  | .mram => none
  | .block b =>
    let o := a % 0x100000
    if 0x100000 < o + len then none
    else if b < 0x40 then some (writeRegs q a (len / 4) bs s)
    else
      let f := b - 0x40
      match frdPlace o with
      | .memory m => if localOpen s f then some (storeMasked (frondKey f m) l s) else none
      | .port k =>
        match u with
        | some n =>
          if len = 64 ∧ o % 0x40 = 0 ∧ portBound s n f k false ∧ (s.queue f k).length < 16 then some (queueAdd s f k bs)
          else none
        | none => none
      | .regs => some (writeRegs q a (len / 4) bs s)
  | _ => if plainOk s a len then some (storeMasked a l s) else none

/-- The island that holds what an address reaches (01 R15), as a number; accesses of one frond to one island keep their
order (01 R17, 11 R364). -/
def islandOf (a : Nat) : Nat :=
  match regionOf a with
  | .dram => 200
  | .mram => 200
  | .commons => 201
  | .exchange => 201
  | .tuft t => 210 + t
  | .hole => 255
  | .block b =>
    if 0x40 ≤ b then b - 0x40
    else if b = 0x29 ∨ b = 0x2B ∨ b = 5 then 201
    else if b = 0x28 ∨ b = 0x38 then 200
    else if b = 0 ∨ b = 1 ∨ b = 0x2C ∨ b = 0x30 then 202
    else if b = 2 ∨ b = 4 then 203
    else if b = 8 ∨ b = 9 then 204
    else 220 + b

end Sys2Proof.Machine
end

