-- ==== Sys2Proof/Machine/DmaMove.lean ====
section
/-!
DEFINITION. The data movement engine's bursts (14 R441 to R449).
-/

namespace Sys2Proof.Machine

/-- The bytes of a burst reach their destination; `none` is a bus error. -/
def burstPut (n : Nat) (d : Desc) (off : Nat) (bs : List Byte) (s : State) : Option State :=
  let a := d.at 0x10 8 + off
  if dBit d 1 then if hostOpen s then some (hostPut s a bs) else none
  else busWrite .dma (some n) a (bs.map (fun b => (b, true))) s

/-- The non-posted reads of a burst from the host, split under the max read request size (14 R441). -/
def askHost (n : Nat) : Nat → Nat → Nat → Nat → State → State
  | 0, _, _, _, s => s
  | k + 1, a, len, dst, s =>
    if len = 0 then s
    else
      let m := min len (max 1 s.pcie.maxRead)
      let s := hostAsk s { tag := 0, channel := some (Fin.ofNat 64 n), stream := none, addr := a, len := m, dst := dst,
                           issued := s.now }
      askHost n k (a + m) (len - m) (dst + m) s

/-- The burst in progress of a channel leaves the engine: device data moves, a read of the host is issued (14 R441,
R448). `x`: what the codes say of the source (13 R412, R417). -/
def burstDone (n : Nat) (x : SpanRead) (s : State) : State :=
  let (off, len) := s.dma.burst
  let c := s.chan n
  match c.cur with
  | none => s
  | some d =>
    let src := d.at 8 8 + off
    if dBit d 0 then
      if hostOpen s then askHost n 64 src len (d.at 0x10 8 + off) s else chanFails n off 3 s
    else
      let r := busRead .dma (some n) src len s
      match r.1 with
      | none => chanFails n off 3 r.2
      | some bs =>
        let r := (r.1, spanNote src x r.2)
        if spanBad src x then chanFails n off 3 r.2 else
        match burstPut n d off bs r.2 with
        | none => chanFails n off 3 r.2
        | some s' => chanEnds n (chanMoved n len s')

/-- The reads that a burst from the host is split into. -/
def hostPieces (s : State) (len : Nat) : Nat := (len + max 1 s.pcie.maxRead - 1) / max 1 s.pcie.maxRead

/-- Whether the burst in progress of a requester stalls: a transparent march tests the memory that it reads or writes (13
R422), or its reads of the host would exceed 4,096 operations in flight (14 R444; log entry 58). -/
def burstStalls (s : State) (r : Nat) : Bool :=
  decide (r < 64) && (s.chan r).cur.any (fun d =>
    !dBit d 0 && marchStalls s (d.at 8 8 + s.dma.burst.1) || !dBit d 1 && marchStalls s (d.at 0x10 8 + s.dma.burst.1) ||
    dBit d 0 && decide (4096 < s.hostReads.length + hostPieces s s.dma.burst.2))

/-- A burst ends, the arbiter grants the next one (14 R442); an engine that is idle grants one that is ready. -/
def burstEnd (x : SpanRead) (s : State) : State :=
  match s.dma.busy with
  | none => grantBurst s
  | some r =>
    if burstStalls s r then s else
    let s := showInflight { s with dma := { s.dma with busy := none } }
    grantBurst (
      if r < 64 then burstDone r x s
      else if hostOpen s then showStarved (r - 64) (deliverBurst (r - 64) 64 4096 s)
      else s)

/-- A flush read returns (14 R446): of the host the read in flight, of a device the last 64 bytes written, read now. -/
def chanFlushed (n : Nat) (s : State) : State :=
  let c := s.chan n
  let ends : Nat → State → State := fun st s => s.setChan n { c with flushing := false, ending := some (st, 0) }
  match c.cur with
  | none => s
  | some d =>
    if !c.flushing then s
    else if dBit d 1 then
      if s.hostReads.any (isFlush n) then
        ends 1 (showInflight { s with hostReads := s.hostReads.filter (fun r => !isFlush n r) })
      else flushNext s
    else
      let a := d.at 0x10 8 + dLen d - 64
      if marchStalls s a then s
      else
        let r := busRead .dma (some n) a 64 s
        ends (if r.1.isSome then 1 else 3) r.2

/-- The bytes of a completion that a read awaits; where it brings fewer, the rest is zero. -/
def completionBytes (r : HostRead) (data : List Byte) : List Byte := padTo r.len data

/-- A completion arrives (14 R449): its bytes land, or its burst fails; without a read in flight it is unexpected. -/
def readCompletes (tag : Nat) (data : List Byte) (ok : Bool) (s : State) : State :=
  match s.hostReads.find? (fun r => r.tag == tag) with
  | none => { s with dma := { s.dma with late := s.dma.late.erase tag } }.satInc R.DMA_LATE_CPL F.DMA_LATE_CPL_COUNT
  | some r =>
    match r.channel, r.stream with
    | some m, _ =>
      if !r.flush && ok && marchStalls s r.dst then s else
      let n := m.val
      let s := dropRead tag s
      let c := s.chan n
      if r.flush then
        if ok then s.setChan n { c with flushing := false, ending := some (1, 0) }
        else s.setChan n { c with flushing := false, ending := some (3, 0) }
      else if !ok then chanFails n (burstOf c r) 3 s
      else
        match busWrite .dma (some n) r.dst ((completionBytes r data).map (fun b => (b, true))) s with
        | none => chanFails n (burstOf c r) 3 s
        | some s => chanEnds n (chanMoved n r.len s)
    | none, some m =>
      let bs := padTo 16 data
      grantRead m (some tag) ⟨natAt 0 8 bs, natAt 8 4 bs, natAt 12 4 bs⟩ ok s
    | none, none => s

/-! ### The commands -/

/-- The channel in whose CH_n_RACE a burst's end or the grant after it is counted as the loser (14 R452): the channel
that an ABORT stops, else the one granted whose waiting commit was taken, else the one whose burst ended. -/
def burstLoser (s t : State) : Option Nat :=
  let ended := s.dma.busy.filter (fun n => decide (n < 64))
  let granted := t.dma.busy.filter (fun n => decide (n < 64) && (chanUnit n).waits s)
  if ended.any (fun n => (s.chan n).aborting || (s.chan n).abortAfter) then ended else granted.or ended

/-- DMA_BURST_END (14 R442). `lost` counts the burst's end that loses to an ABORT, or the grant that loses to a commit
(14 R452). -/
def execDmaBurstEnd (x : SpanRead) (lost : Bool) (s : State) : Result :=
  .next (s.whenWorking (fun s =>
    let t := flushNext (burstEnd x s)
    match burstLoser s t with
    | some n => t.lost lost (R.CH_RACE n)
    | none => t))

/-- FLUSH_READ_RETURN (14 R446). -/
def execFlushReadReturn (n : Fin 64) (s : State) : Result := .next (s.whenWorking (chanFlushed n))

/-- HOST_READ_COMPLETION (14 R449). `lost` counts the timeout that it meets. -/
def execHostReadCompletion (tag : Fin 16384) (data : List Byte) (ok lost : Bool) (s : State) : Result :=
  .next (s.whenWorking (fun s => flushNext ((readCompletes tag data ok s).lost lost R.DMA_RACE)))

end Sys2Proof.Machine
end

