-- ==== Sys2Proof/Machine/FrondDecode.lean ====
section
/-!
DEFINITION. The fronds' instructions as the words of a bundle encode them (12 R389 to R398).
-/

namespace Sys2Proof.Machine

/-- Scalar register operations (12 R396, R397). -/
inductive Alu where
  | add | sub | and | or | xor | sll | srl | sra | mul | mulhs | mulhu | min | max | minu | maxu | clz | popc
  | addi | andi | ori | xori | slli | srli | srai
  deriving DecidableEq, Repr

/-- The tests of the compare instructions (12 R396, R397, R406). -/
inductive Test where
  | eq | lt | ltu | ge
  deriving DecidableEq, Repr

/-- Predicate operations (12 R396). -/
inductive PredOp where
  | and | or | xor | andn
  deriving DecidableEq, Repr

/-- Where a scalar operation takes its second operand. -/
inductive Operand where
  | reg (r : Nat)
  | imm (w : Word)
  deriving DecidableEq, Repr

/-- Loads, stores and bank atomics (12 R401). -/
inductive MemOp where
  | ld | st | vld | vst | aadd | aswp
  deriving DecidableEq, Repr

/-- Queue instructions (12 R401). -/
inductive QueueOp where
  | get | put | tryGet | tryPut
  deriving DecidableEq, Repr

/-- Lane operations with two operands (12 R406). -/
inductive VecOp where
  | add | sub | adds | addus | subs | subus | min | max | minu | maxu | and | or | xor | sll | srl | sra
  | mul | mulhs | mulhu | absd
  deriving DecidableEq, Repr

/-- The second operand of a vector instruction: a vector register (V3) or a scalar one (VS). -/
inductive VecB where
  | vec (r : Nat)
  | scalar (r : Nat)
  deriving DecidableEq, Repr

/-- Multiply-accumulate forms (12 R406). -/
inductive MacOp where
  | ss | uu | su | sub
  deriving DecidableEq, Repr

/-- An instruction of either slot, its fields extracted. -/
inductive FInstr where
  | nop
  | alu (op : Alu) (rd ra : Nat) (b : Operand)
  | cmp (t : Test) (pd ra : Nat) (b : Operand)
  | pred (op : PredOp) (pd pa pb : Nat)
  | mfp (rd pa : Nat)
  | mtp (pd ra : Nat)
  | mem (op : MemOp) (rt rb : Nat) (wide : Bool) (size : Nat) (unsignedLoad : Bool) (ofs : Int)
  | queue (op : QueueOp) (rt q pd : Nat)
  | branch (neg link : Bool) (ofs : Int)
  | branchTo (neg link : Bool) (ra : Nat)
  | halt
  | fence
  | wait (r : Nat)
  | evclr (r : Nat)
  | evrd (r : Nat)
  | swevt
  | lil (r imm : Nat)
  | lih (r imm : Nat)
  | timel (r : Nat)
  | timeh (r : Nat)
  | qcnt (r q : Nat)
  | vec (op : VecOp) (wide : Bool) (vd va : Nat) (b : VecB)
  | vcmp (t : Test) (wide : Bool) (pd va : Nat) (b : VecB)
  | vsel (wide : Bool) (vd va vb : Nat)
  | vbcast (wide : Bool) (vd sb : Nat)
  | vrot (wide : Bool) (vd va sb : Nat)
  | vmac (op : MacOp) (ad va vb : Nat)
  | vaclr (ad : Nat)
  | vacrd (unsignedOut : Bool) (vd aa shift : Nat)
  deriving DecidableEq, Repr

/-- One slot of a bundle: the instruction and its guard predicate. -/
structure Slot where
  ins : FInstr
  pg : Nat
  deriving DecidableEq, Repr

/-- Bits [hi:lo] of an instruction word. -/
def bitsOf (w : Word) (hi lo : Nat) : Nat := w.toNat / 2 ^ lo % 2 ^ (hi + 1 - lo)

/-- The pair register must be even (12 R398, R400, R401). -/
def isEven (r : Nat) : Bool := r % 2 == 0

/-- An instruction that is defined only when the fields that must be zero are (12 R394). -/
def whenZero (c : Bool) (i : FInstr) : Option FInstr := if c then some i else none

/-- S3 operations with two scalar sources, by FN (12 R396). -/
def aluByFn (fn : Nat) : Option Alu :=
  match fn with
  | 0x00 => some .add
  | 0x01 => some .sub
  | 0x02 => some .and
  | 0x03 => some .or
  | 0x04 => some .xor
  | 0x05 => some .sll
  | 0x06 => some .srl
  | 0x07 => some .sra
  | 0x08 => some .mul
  | 0x09 => some .mulhs
  | 0x0A => some .mulhu
  | 0x0B => some .min
  | 0x0C => some .max
  | 0x0D => some .minu
  | 0x0E => some .maxu
  | _ => none

/-- A compare's test, by its two-bit code (12 R396, R397, R406). -/
def testOf (k : Nat) : Test := if k = 0 then .eq else if k = 1 then .lt else if k = 2 then .ltu else .ge

/-- Format S3, OP 0x01 (12 R396). -/
def decodeS3 (w : Word) : Option FInstr :=
  let rd := bitsOf w 22 18
  let ra := bitsOf w 17 13
  let rb := bitsOf w 12 8
  let fn := bitsOf w 7 0
  if fn < 0x0F then (aluByFn fn).map (fun op => .alu op rd ra (.reg rb))
  else if 0x10 ≤ fn ∧ fn ≤ 0x13 then whenZero (decide (rd < 8)) (.cmp (testOf (fn - 0x10)) rd ra (.reg rb))
  else if fn = 0x14 then whenZero (rb == 0) (.alu .clz rd ra (.reg 0))
  else if fn = 0x15 then whenZero (rb == 0) (.alu .popc rd ra (.reg 0))
  else if 0x18 ≤ fn ∧ fn ≤ 0x1B then
    whenZero (decide (rd < 8) && decide (ra < 8) && decide (rb < 8))
      (.pred (if fn = 0x18 then .and else if fn = 0x19 then .or else if fn = 0x1A then .xor else .andn) rd ra rb)
  else if fn = 0x20 then whenZero (decide (ra < 8) && rb == 0) (.mfp rd ra)
  else if fn = 0x21 then whenZero (decide (rd < 8) && rb == 0) (.mtp rd ra)
  else none

/-- Format SI, OP 0x02 to 0x09 (12 R397). -/
def decodeSI (w : Word) : Option FInstr :=
  let rd := bitsOf w 22 18
  let ra := bitsOf w 17 13
  let imm := bitsOf w 12 0
  let sx : Operand := .imm (BitVec.ofInt 32 (toSigned 13 imm))
  let zx : Operand := .imm (BitVec.ofNat 32 imm)
  match bitsOf w 31 26 with
  | 0x02 => some (.alu .addi rd ra sx)
  | 0x03 => some (.alu .andi rd ra zx)
  | 0x04 => some (.alu .ori rd ra zx)
  | 0x05 => some (.alu .xori rd ra zx)
  | 0x06 => whenZero (decide (imm < 32)) (.alu .slli rd ra zx)
  | 0x07 => whenZero (decide (imm < 32)) (.alu .srli rd ra zx)
  | 0x08 => whenZero (decide (imm < 32)) (.alu .srai rd ra zx)
  | 0x09 => some (.cmp (testOf (rd % 4)) (rd / 4) ra sx)
  | _ => none

/-- Format M, OP 0x10 to 0x19 (12 R400, R401). -/
def decodeM (w : Word) : Option FInstr :=
  let rt := bitsOf w 22 18
  let rb := bitsOf w 17 13
  let wb := bitsOf w 12 12 == 1
  let sz := bitsOf w 11 10
  let u := bitsOf w 9 9
  let o := bitsOf w 8 0
  let ofs := toSigned 9 o
  let base := !wb || isEven rb
  let pair := sz != 3 || isEven rt
  let q0 := decide (rb < 8) && !wb && sz == 0 && u == 0
  match bitsOf w 31 26 with
  | 0x10 => whenZero (base && pair && (decide (sz < 2) || u == 0)) (.mem .ld rt rb wb sz (u == 1) ofs)
  | 0x11 => whenZero (base && pair && u == 0) (.mem .st rt rb wb sz false ofs)
  | 0x12 => whenZero (base && sz == 0 && u == 0) (.mem .vld rt rb wb 0 false ofs)
  | 0x13 => whenZero (base && sz == 0 && u == 0) (.mem .vst rt rb wb 0 false ofs)
  | 0x14 => whenZero (base && pair && decide (2 ≤ sz) && u == 0) (.mem .aadd rt rb wb sz false ofs)
  | 0x15 => whenZero (base && pair && decide (2 ≤ sz) && u == 0) (.mem .aswp rt rb wb sz false ofs)
  | 0x16 => whenZero (q0 && o == 0) (.queue .get rt rb 0)
  | 0x17 => whenZero (q0 && o == 0) (.queue .put rt rb 0)
  | 0x18 => whenZero (q0 && decide (o < 8)) (.queue .tryGet rt rb o)
  | 0x19 => whenZero (q0 && decide (o < 8)) (.queue .tryPut rt rb o)
  | _ => none

/-- Format B, OP 0x20 (12 R393, R399). -/
def decodeB (w : Word) : Option FInstr :=
  let neg := bitsOf w 22 22 == 1
  let kind := bitsOf w 21 20
  let ra := bitsOf w 19 15
  let o := bitsOf w 14 0
  let link := kind % 2 == 1
  if kind < 2 then some (.branch neg link (toSigned 15 o)) else whenZero (o == 0) (.branchTo neg link ra)

/-- Format X, OP 0x3F (12 R398). -/
def decodeX (w : Word) : Option FInstr :=
  let r := bitsOf w 25 21
  let imm := bitsOf w 20 5
  match bitsOf w 4 0 with
  | 0x01 => whenZero (r == 0 && imm == 0) .halt
  | 0x02 => whenZero (r == 0 && imm == 0) .fence
  | 0x03 => whenZero (isEven r && imm == 0) (.wait r)
  | 0x04 => whenZero (isEven r && imm == 0) (.evclr r)
  | 0x05 => whenZero (isEven r && imm == 0) (.evrd r)
  | 0x06 => whenZero (r == 0 && imm == 0) .swevt
  | 0x07 => some (.lil r imm)
  | 0x08 => some (.lih r imm)
  | 0x09 => whenZero (imm == 0) (.timel r)
  | 0x0A => whenZero (imm == 0) (.timeh r)
  | 0x0B => whenZero (decide (imm < 8)) (.qcnt r imm)
  | _ => none

/-- Lane operations of V3 and VS, by FN (12 R406). -/
def vecByFn (fn : Nat) : Option VecOp :=
  match fn with
  | 0x00 => some .add
  | 0x01 => some .sub
  | 0x02 => some .adds
  | 0x03 => some .addus
  | 0x04 => some .subs
  | 0x05 => some .subus
  | 0x06 => some .min
  | 0x07 => some .max
  | 0x08 => some .minu
  | 0x09 => some .maxu
  | 0x0A => some .and
  | 0x0B => some .or
  | 0x0C => some .xor
  | 0x0D => some .sll
  | 0x0E => some .srl
  | 0x0F => some .sra
  | 0x10 => some .mul
  | 0x11 => some .mulhs
  | 0x12 => some .mulhu
  | 0x13 => some .absd
  | _ => none

/-- The instructions that V3 and VS share: lane operations and compares (12 R406). -/
def decodeLanes (w : Word) (b : VecB) : Option FInstr :=
  let vd := bitsOf w 22 18
  let va := bitsOf w 17 13
  let wide := bitsOf w 7 7 == 1
  let fn := bitsOf w 6 0
  if fn < 0x14 then (vecByFn fn).map (fun op => .vec op wide vd va b)
  else if 0x18 ≤ fn ∧ fn ≤ 0x1B then whenZero (decide (vd < 8)) (.vcmp (testOf (fn - 0x18)) wide vd va b)
  else none

/-- Format V3, OP 0x30 (12 R406, R407). -/
def decodeV3 (w : Word) : Option FInstr :=
  let vd := bitsOf w 22 18
  let va := bitsOf w 17 13
  let vb := bitsOf w 12 8
  let wide := bitsOf w 7 7 == 1
  let acc := !wide && decide (vd < 4)
  match bitsOf w 6 0 with
  | 0x20 => some (.vsel wide vd va vb)
  | 0x28 => whenZero acc (.vmac .ss vd va vb)
  | 0x29 => whenZero acc (.vmac .uu vd va vb)
  | 0x2A => whenZero acc (.vmac .su vd va vb)
  | 0x2B => whenZero acc (.vmac .sub vd va vb)
  | 0x2C => whenZero (acc && va == 0 && vb == 0) (.vaclr vd)
  | 0x2D => whenZero (!wide && decide (va < 4)) (.vacrd false vd va vb)
  | 0x2E => whenZero (!wide && decide (va < 4)) (.vacrd true vd va vb)
  | _ => decodeLanes w (.vec vb)

/-- Format VS, OP 0x31 (12 R406). -/
def decodeVS (w : Word) : Option FInstr :=
  let vd := bitsOf w 22 18
  let va := bitsOf w 17 13
  let sb := bitsOf w 12 8
  let wide := bitsOf w 7 7 == 1
  match bitsOf w 6 0 with
  | 0x21 => whenZero (va == 0) (.vbcast wide vd sb)
  | 0x30 => some (.vrot wide vd va sb)
  | _ => decodeLanes w (.scalar sb)

/-- Slot 0: formats S3, SI, M, B, X, or NOP (12 R389, R395); `none` is ILLEGAL. -/
def decodeSlot0 (w : Word) : Option Slot :=
  let pg := bitsOf w 25 23
  let op := bitsOf w 31 26
  if w = 0 then some ⟨.nop, 0⟩
  else if op = 0x01 then (decodeS3 w).map (fun i => ⟨i, pg⟩)
  else if 0x02 ≤ op ∧ op ≤ 0x09 then (decodeSI w).map (fun i => ⟨i, pg⟩)
  else if 0x10 ≤ op ∧ op ≤ 0x19 then (decodeM w).map (fun i => ⟨i, pg⟩)
  else if op = 0x20 then (decodeB w).map (fun i => ⟨i, pg⟩)
  else if op = 0x3F then (decodeX w).map (fun i => ⟨i, 0⟩)
  else none

/-- Slot 1: formats V3, VS, or NOP (12 R389, R395); `none` is ILLEGAL. -/
def decodeSlot1 (w : Word) : Option Slot :=
  let pg := bitsOf w 25 23
  let op := bitsOf w 31 26
  if w = 0 then some ⟨.nop, 0⟩
  else if op = 0x30 then (decodeV3 w).map (fun i => ⟨i, pg⟩)
  else if op = 0x31 then (decodeVS w).map (fun i => ⟨i, pg⟩)
  else none

/-! ### Registers read and written (12 R390, R391) -/

/-- A register of a frond. -/
inductive FReg where
  | s (n : Nat)
  | v (n : Nat)
  | p (n : Nat)
  | a (n : Nat)
  deriving DecidableEq, Repr

/-- The source of an operand. -/
def Operand.sources : Operand → List FReg
  | .reg r => [.s r]
  | .imm _ => []

/-- The source of a second vector operand. -/
def VecB.sources : VecB → List FReg
  | .vec r => [.v r]
  | .scalar r => [.s r]

/-- A register, or the pair that it begins. -/
def pairOr (r : Nat) (pair : Bool) : List FReg := if pair then [.s r, .s (r + 1)] else [.s r]

/-- The registers that an instruction reads, its guard apart. -/
def FInstr.sources : FInstr → List FReg
  | .alu _ _ ra b => .s ra :: b.sources
  | .cmp _ _ ra b => .s ra :: b.sources
  | .pred _ _ pa pb => [.p pa, .p pb]
  | .mfp _ pa => [.p pa]
  | .mtp _ ra => [.s ra]
  | .mem op rt rb wide size _ _ =>
    pairOr rb wide ++ (match op with
      | .ld => []
      | .vld => []
      | .vst => [.v rt]
      | _ => pairOr rt (size == 3))
  | .queue op rt _ _ => match op with
    | .put => [.v rt]
    | .tryPut => [.v rt]
    | _ => []
  | .branchTo _ _ ra => [.s ra]
  | .wait r => pairOr r true
  | .evclr r => pairOr r true
  | .lih r _ => [.s r]
  | .vec _ _ _ va b => .v va :: b.sources
  | .vcmp _ _ _ va b => .v va :: b.sources
  | .vsel _ _ va vb => [.v va, .v vb]
  | .vbcast _ _ sb => [.s sb]
  | .vrot _ _ va sb => [.v va, .s sb]
  | .vmac _ ad va vb => [.a ad, .v va, .v vb]
  | .vacrd _ _ aa _ => [.a aa]
  | _ => []

/-- The registers that an instruction writes. -/
def FInstr.dests : FInstr → List FReg
  | .alu _ rd _ _ => [.s rd]
  | .cmp _ pd _ _ => [.p pd]
  | .pred _ pd _ _ => [.p pd]
  | .mfp rd _ => [.s rd]
  | .mtp pd _ => [.p pd]
  | .mem op rt _ _ size _ _ => match op with
    | .vld => [.v rt]
    | .st => []
    | .vst => []
    | _ => pairOr rt (size == 3)
  | .queue op rt _ pd => match op with
    | .get => [.v rt]
    | .put => []
    | .tryGet => [.v rt, .p pd]
    | .tryPut => [.p pd]
  | .branch _ link _ => if link then [.s 31] else []
  | .branchTo _ link _ => if link then [.s 31] else []
  | .evrd r => pairOr r true
  | .lil r _ => [.s r]
  | .lih r _ => [.s r]
  | .timel r => [.s r]
  | .timeh r => [.s r]
  | .qcnt r _ => [.s r]
  | .vec _ _ vd _ _ => [.v vd]
  | .vcmp _ _ pd _ _ => [.p pd]
  | .vsel _ vd _ _ => [.v vd]
  | .vbcast _ vd _ => [.v vd]
  | .vrot _ vd _ _ => [.v vd]
  | .vmac _ ad _ _ => [.a ad]
  | .vaclr ad => [.a ad]
  | .vacrd _ vd _ _ => [.v vd]
  | _ => []

/-- The two instructions of a bundle; `none` is ILLEGAL: an undefined encoding, or two slots that write one register
(12 R389, R391, R394). -/
def decodeBundle (w0 w1 : Word) : Option (Slot × Slot) :=
  match decodeSlot0 w0, decodeSlot1 w1 with
  | some a, some b => if a.ins.dests.any (fun r => b.ins.dests.contains r) then none else some (a, b)
  | _, _ => none

end Sys2Proof.Machine
end

