-- ==== Sys2Proof/Machine/FrondAlu.lean ====
section
/-!
DEFINITION. The results of the fronds' scalar, vector and accumulator instructions (12 R396, R397, R406, R407).
-/

namespace Sys2Proof.Machine

/-! ### Scalar (12 R396, R397) -/

/-- How many leading bits of a word are zero: 32 for 0. -/
def leadingZeros (w : Word) : Nat := ((List.range 32).find? (fun i => w.getLsbD (31 - i))).getD 32

/-- How many bits of a word are set. -/
def setBits (w : Word) : Nat := ((List.range 32).filter (fun i => w.getLsbD i)).length

/-- The amount of a shift: its low 5 bits. -/
def shiftBy (b : Word) : Nat := b.toNat % 32

/-- The result of a scalar operation. -/
def aluResult (op : Alu) (a b : Word) : Word :=
  match op with
  | .add => a + b
  | .sub => a - b
  | .and => a &&& b
  | .or => a ||| b
  | .xor => a ^^^ b
  | .sll => a <<< shiftBy b
  | .srl => a >>> shiftBy b
  | .sra => a.sshiftRight (shiftBy b)
  | .mul => a * b
  | .mulhs => BitVec.ofInt 32 ((a.toInt * b.toInt) / 2 ^ 32)
  | .mulhu => BitVec.ofNat 32 (a.toNat * b.toNat / 2 ^ 32)
  | .min => if a.toInt < b.toInt then a else b
  | .max => if a.toInt < b.toInt then b else a
  | .minu => if a.toNat < b.toNat then a else b
  | .maxu => if a.toNat < b.toNat then b else a
  | .clz => BitVec.ofNat 32 (leadingZeros a)
  | .popc => BitVec.ofNat 32 (setBits a)
  | .addi => a + b
  | .andi => a &&& b
  | .ori => a ||| b
  | .xori => a ^^^ b
  | .slli => a <<< shiftBy b
  | .srli => a >>> shiftBy b
  | .srai => a.sshiftRight (shiftBy b)

/-- The outcome of a scalar test. -/
def testHolds (t : Test) (a b : Word) : Bool :=
  match t with
  | .eq => a == b
  | .lt => decide (a.toInt < b.toInt)
  | .ltu => decide (a.toNat < b.toNat)
  | .ge => decide (b.toInt ≤ a.toInt)

/-- What a scalar instruction writes to a predicate (12 R388). -/
def predWord (c : Bool) : Word := if c then 0xFFFFFFFF else 0

/-- The result of a predicate operation. -/
def predResult (op : PredOp) (a b : Word) : Word :=
  match op with
  | .and => a &&& b
  | .or => a ||| b
  | .xor => a ^^^ b
  | .andn => a &&& ~~~b

/-! ### Vectors (12 R387, R388, R406) -/

/-- The bits of a lane. -/
def laneBits (wide : Bool) : Nat := if wide then 32 else 16

/-- The lanes of a vector register. -/
def laneCount (wide : Bool) : Nat := if wide then 16 else 32

/-- Lane i of a vector. -/
def laneOf (wide : Bool) (v : BitVec 512) (i : Nat) : Nat := v.toNat / 2 ^ (laneBits wide * i) % 2 ^ laneBits wide

/-- Whether a predicate governs lane i. -/
def governs (wide : Bool) (p : Word) (i : Nat) : Bool := p.getLsbD (if wide then 2 * i else i)

/-- The number that fields of `bits` bits spell, the first lowest. -/
def packLanes (bits : Nat) : List Nat → Nat
  | [] => 0
  | x :: xs => x % 2 ^ bits + 2 ^ bits * packLanes bits xs

/-- A vector whose lanes a function gives where the predicate governs them; the others keep their values. -/
def mapLanes (wide : Bool) (p : Word) (old : BitVec 512) (f : Nat → Nat) : BitVec 512 :=
  BitVec.ofNat 512 (packLanes (laneBits wide) ((List.range (laneCount wide)).map (fun i =>
    if governs wide p i then f i else laneOf wide old i)))

/-- The result of a lane operation on lanes of `n` bits. -/
def vecResult (op : VecOp) (n a b : Nat) : Nat :=
  let sa := toSigned n a
  let sb := toSigned n b
  let satS (v : Int) : Nat := ofSigned n (clampInt (-(2 ^ (n - 1) : Int)) (2 ^ (n - 1) - 1) v)
  match op with
  | .add => (a + b) % 2 ^ n
  | .sub => (a + 2 ^ n - b) % 2 ^ n
  | .adds => satS (sa + sb)
  | .addus => min (2 ^ n - 1) (a + b)
  | .subs => satS (sa - sb)
  | .subus => a - b
  | .min => if sa < sb then a else b
  | .max => if sa < sb then b else a
  | .minu => min a b
  | .maxu => max a b
  | .and => a &&& b
  | .or => a ||| b
  | .xor => a ^^^ b
  | .sll => if n ≤ b then 0 else a * 2 ^ b % 2 ^ n
  | .srl => if n ≤ b then 0 else a / 2 ^ b
  | .sra => ofSigned n (sa / 2 ^ min b n)
  | .mul => a * b % 2 ^ n
  | .mulhs => ofSigned n (sa * sb / 2 ^ n)
  | .mulhu => a * b / 2 ^ n
  | .absd => if a < b then b - a else a - b

/-- The outcome of a lane test on lanes of `n` bits. -/
def laneTest (t : Test) (n a b : Nat) : Bool :=
  match t with
  | .eq => a == b
  | .lt => decide (toSigned n a < toSigned n b)
  | .ltu => decide (a < b)
  | .ge => decide (toSigned n b ≤ toSigned n a)

/-- A predicate with the bits of governed lanes replaced: with W = 1 both bits of a lane (12 R388). -/
def mapPred (wide : Bool) (g old : Word) (f : Nat → Bool) : Word :=
  BitVec.ofNat 32 (packLanes 1 ((List.range 32).map (fun k =>
    let i := if wide then k / 2 else k
    if governs wide g i then (if f i then 1 else 0) else (if old.getLsbD k then 1 else 0))))

/-! ### Accumulators (12 R407) -/

/-- Lane i of an accumulator, 48 bits. -/
def accLane (a : BitVec 1536) (i : Nat) : Nat := a.toNat / 2 ^ (48 * i) % 2 ^ 48

/-- An accumulator whose governed lanes a function gives. -/
def mapAcc (p : Word) (old : BitVec 1536) (f : Nat → Nat) : BitVec 1536 :=
  BitVec.ofNat 1536 (packLanes 48 ((List.range 32).map (fun i => if p.getLsbD i then f i else accLane old i)))

/-- The exact product that a multiply-accumulate adds, with its sign. -/
def macTerm (op : MacOp) (a b : Nat) : Int :=
  match op with
  | .ss => toSigned 16 a * toSigned 16 b
  | .uu => (a : Int) * b
  | .su => toSigned 16 a * b
  | .sub => -(toSigned 16 a * toSigned 16 b)

/-- A lane of a read-out: rounded, shifted, saturated to 16 bits. -/
def readOut (unsignedOut : Bool) (lane shift : Nat) : Nat :=
  let rnd : Int := if shift = 0 then 0 else 2 ^ (shift - 1)
  let v : Int := (toSigned 48 lane + rnd) / 2 ^ shift
  if unsignedOut then (clampInt 0 65535 v).toNat else ofSigned 16 (clampInt (-32768) 32767 v)

end Sys2Proof.Machine
end

