-- ==== Sys2Proof/Machine/FrondRun.lean ====
section
/-!
DEFINITION. A frond at work: issue of a bundle, its faults and stalls, its accesses outside the local memories
(11 R353 to R373, R384, R385; 12 R387 to R409).
-/

namespace Sys2Proof.Machine

/-! ### The register files (12 R387) -/

/-- A scalar register; s0 reads 0. -/
def FrondSt.getS (x : FrondSt) (n : Nat) : Word := if n = 0 then 0 else Sparse.get (fun _ => 0) x.sregs n

/-- A scalar register written; a write to s0 is discarded. -/
def FrondSt.setS (x : FrondSt) (n : Nat) (v : Word) : FrondSt :=
  if n = 0 then x else { x with sregs := Sparse.put (fun _ => some 0) x.sregs n v }

/-- A vector register. -/
def FrondSt.getV (x : FrondSt) (n : Nat) : BitVec 512 := Sparse.get (fun _ => 0) x.vregs n

/-- A vector register written. -/
def FrondSt.setV (x : FrondSt) (n : Nat) (v : BitVec 512) : FrondSt :=
  { x with vregs := Sparse.put (fun _ => some 0) x.vregs n v }

/-- A predicate register; p0 reads all ones. -/
def FrondSt.getP (x : FrondSt) (n : Nat) : Word := if n = 0 then 0xFFFFFFFF else Sparse.get (fun _ => 0) x.preds n

/-- A predicate register written; a write to p0 is discarded. -/
def FrondSt.setP (x : FrondSt) (n : Nat) (v : Word) : FrondSt :=
  if n = 0 then x else { x with preds := Sparse.put (fun _ => some 0) x.preds n v }

/-- An accumulator. -/
def FrondSt.getA (x : FrondSt) (n : Nat) : BitVec 1536 := Sparse.get (fun _ => 0) x.accs n

/-- An accumulator written. -/
def FrondSt.setA (x : FrondSt) (n : Nat) (v : BitVec 1536) : FrondSt :=
  { x with accs := Sparse.put (fun _ => some 0) x.accs n v }

/-- A register pair as 64 bits (12 R398, R401). -/
def FrondSt.getPair (x : FrondSt) (n : Nat) : Nat := (x.getS n).toNat + 2 ^ 32 * (x.getS (n + 1)).toNat

/-- A register pair written. -/
def FrondSt.setPair (x : FrondSt) (n v : Nat) : FrondSt :=
  (x.setS n (BitVec.ofNat 32 v)).setS (n + 1) (BitVec.ofNat 32 (v / 2 ^ 32))

/-- The value of a scalar operand. -/
def FrondSt.operand (x : FrondSt) : Operand → Word
  | .reg r => x.getS r
  | .imm w => w

/-- Lane i of a second vector operand: a scalar is broadcast (12 R406). -/
def FrondSt.laneB (x : FrondSt) (wide : Bool) (b : VecB) (i : Nat) : Nat :=
  match b with
  | .vec r => laneOf wide (x.getV r) i
  | .scalar r => (x.getS r).toNat % 2 ^ laneBits wide

/-- Bit 0 of a guard (12 R388). -/
def FrondSt.guard (x : FrondSt) (pg : Nat) : Bool := (x.getP pg).getLsbD 0

/-! ### Register effects of an instruction: sources from `x0`, results into `x` (12 R390) -/

/-- The vector slot (12 R406, R407). -/
def vecEffect (x0 : FrondSt) (sl : Slot) (x : FrondSt) : FrondSt :=
  let p := x0.getP sl.pg
  match sl.ins with
  | .vec op w vd va b =>
    x.setV vd (mapLanes w p (x0.getV vd) (fun i => vecResult op (laneBits w) (laneOf w (x0.getV va) i) (x0.laneB w b i)))
  | .vcmp t w pd va b =>
    x.setP pd (mapPred w p (x0.getP pd) (fun i => laneTest t (laneBits w) (laneOf w (x0.getV va) i) (x0.laneB w b i)))
  | .vsel w vd va vb =>
    x.setV vd (mapLanes w 0xFFFFFFFF (x0.getV vd) (fun i =>
      if governs w p i then laneOf w (x0.getV va) i else laneOf w (x0.getV vb) i))
  | .vbcast w vd sb => x.setV vd (mapLanes w p (x0.getV vd) (x0.laneB w (.scalar sb)))
  | .vrot w vd va sb =>
    x.setV vd (mapLanes w p (x0.getV vd) (fun i =>
      laneOf w (x0.getV va) ((i + x0.laneB w (.scalar sb) 0) % laneCount w)))
  | .vmac op ad va vb =>
    x.setA ad (mapAcc p (x0.getA ad) (fun i =>
      ofSigned 48 ((accLane (x0.getA ad) i : Int) +
        macTerm op (laneOf false (x0.getV va) i) (laneOf false (x0.getV vb) i))))
  | .vaclr ad => x.setA ad (mapAcc p (x0.getA ad) (fun _ => 0))
  | .vacrd u vd aa sh => x.setV vd (mapLanes false p (x0.getV vd) (fun i => readOut u (accLane (x0.getA aa) i) sh))
  | _ => x

/-- The scalar slot's instructions that touch registers only (12 R396, R397). -/
def scalarEffect (x0 : FrondSt) (sl : Slot) (x : FrondSt) : FrondSt :=
  if !x0.guard sl.pg then x
  else
    match sl.ins with
    | .alu op rd ra b => x.setS rd (aluResult op (x0.getS ra) (x0.operand b))
    | .cmp t pd ra b => x.setP pd (predWord (testHolds t (x0.getS ra) (x0.operand b)))
    | .pred op pd pa pb => x.setP pd (predResult op (x0.getP pa) (x0.getP pb))
    | .mfp rd pa => x.setS rd (x0.getP pa)
    | .mtp pd ra => x.setP pd (x0.getS ra)
    | .lil r imm => x.setS r (BitVec.ofNat 32 imm)
    | .lih r imm => x.setS r (BitVec.ofNat 32 (imm * 65536 + (x0.getS r).toNat % 65536))
    | .timeh r => x.setS r x0.timeHi
    | _ => x

/-- Whether a branch is taken (12 R399). -/
def branchTaken (x0 : FrondSt) (pg : Nat) (neg : Bool) : Bool := x0.guard pg != neg

/-- The program counter after a bundle, and the link (12 R399). -/
def nextPc (x0 : FrondSt) (sl : Slot) (x : FrondSt) : FrondSt :=
  let onward := (x0.pc + 8) % 65536
  let linked (b : Bool) : FrondSt := if b then x.setS 31 (BitVec.ofNat 32 (x0.pc + 8)) else x
  match sl.ins with
  | .branch neg link ofs =>
    if branchTaken x0 sl.pg neg then { linked link with pc := (((x0.pc : Int) + 8 * ofs) % 65536).toNat }
    else { x with pc := onward }
  | .branchTo neg link ra =>
    if branchTaken x0 sl.pg neg then { linked link with pc := (x0.getS ra).toNat % 65536 } else { x with pc := onward }
  | _ => { x with pc := onward }

/-! ### Addresses and faults of a memory instruction (11 R355 to R366, 12 R400 to R402, R408, R409) -/

/-- The bytes of an access. -/
def accessLen (op : MemOp) (size : Nat) : Nat :=
  match op with
  | .vld => 64
  | .vst => 64
  | _ => 2 ^ size

/-- The effective address (12 R400). -/
def effAddr (x : FrondSt) (op : MemOp) (rb : Nat) (wide : Bool) (size : Nat) (ofs : Int) : Nat :=
  let base := (x.getS rb).toNat + (if wide then 2 ^ 32 * ((x.getS (rb + 1)).toNat % 65536) else 0)
  (((base : Int) + ofs * accessLen op size) % 2 ^ 48).toNat

/-- Whether an address lies in the frond's local memories, by its own view (11 R355). -/
def isLocal (a : Nat) : Bool := a < 0x50000

/-- The permission that an access needs. -/
def MemOp.perm : MemOp → Perm
  | .ld => .read
  | .vld => .read
  | .st => .write
  | .vst => .write
  | .aadd => .atomic
  | .aswp => .atomic

/-- Whether an instruction is a bank atomic. -/
def MemOp.isAtomic (op : MemOp) : Bool := op == .aadd || op == .aswp

/-- Whether an instruction is a load. -/
def MemOp.isLoad (op : MemOp) : Bool := op == .ld || op == .vld

/-- The CAUSE of the fault that an access meets before it leaves the frond, if it meets one (12 R408, R409). -/
def accessFaultOf (s : State) (f : Nat) (op : MemOp) (size a : Nat) : Option Nat :=
  let len := accessLen op size
  let block : Bool := match regionOf a with
    | .block _ => !isLocal a
    | _ => false
  if a % len ≠ 0 ∨ (block ∧ len ≠ 4) then some 4
  else if isLocal a && !op.isAtomic then if decide (a < 0x10000) && !op.isLoad then some 5 else none
  else if !winGrants s f op.perm a len then some 5
  else if isLocal a then some 8
  else
    match regionOf a with
    | .hole => some 5
    | .mram => if op.isLoad then none else some 5
    | .commons => none
    | .tuft _ => none
    | _ => if op.isAtomic then some 8 else none

/-- Whether a memory instruction makes an access (12 R402). -/
def accesses (x : FrondSt) (op : MemOp) (pg : Nat) : Bool := if op = .vst then x.getP pg != 0 else x.guard pg

/-- The fault of a bundle's scalar slot, if it meets one: CAUSE and FAULT_ADDR (12 R408, R409). -/
def slotFault (s : State) (f : Nat) (sl : Slot) : Option (Nat × Nat) :=
  let x := s.frond f
  match sl.ins with
  | .mem op _ rb wide size _ ofs =>
    if accesses x op sl.pg then
      let a := effAddr x op rb wide size ofs
      (accessFaultOf s f op size a).map (fun c => (c, a))
    else none
  | .branchTo neg _ ra =>
    let t := (x.getS ra).toNat % 65536
    if branchTaken x sl.pg neg && t % 8 != 0 then some (4, t) else none
  | _ => none

/-! ### Stalls (11 R363, R365, R371, 12 R390, R392) -/

/-- The registers that an outstanding access will write. -/
def Access.dests (a : Access) : List FReg :=
  if a.discard then []
  else
    match a.kind with
    | .load size _ => pairOr a.reg (size == 3)
    | .vectorLoad => [.v a.reg]
    | .store _ _ => []
    | .bankAdd size _ => pairOr a.reg (size == 3)
    | .bankSwap size _ => pairOr a.reg (size == 3)

/-- Whether an access is a posted store. -/
def Access.isStore (a : Access) : Bool :=
  match a.kind with
  | .store _ _ => true
  | _ => false

/-- Whether a queue moves entries for the frond in a direction: it is bound that way and has an entry, or room
(11 R371, 12 R403). -/
def queueMoves (s : State) (f q : Nat) (out : Bool) : Bool :=
  queueBound s f q && queueOut s f q == out &&
    (if out then decide ((s.queue f q).length < 16) else !(s.queue f q).isEmpty)

/-- Whether a bundle stalls. -/
def bundleStalls (s : State) (f : Nat) (b : Slot × Slot) : Bool :=
  let x := s.frond f
  let late := x.accesses.flatMap Access.dests
  let uses := b.1.ins.sources ++ b.1.ins.dests ++ b.2.ins.sources ++ b.2.ins.dests
  let full (store : Bool) : Bool :=
    decide ((if store then 32 else 16) ≤ (x.accesses.filter (fun a => a.isStore == store)).length)
  uses.any (fun r => r != .s 0 && late.contains r) ||
    (match b.1.ins with
    | .mem op _ rb wide size _ ofs =>
      accesses x op b.1.pg && !isLocal (effAddr x op rb wide size ofs) && full (op == .st || op == .vst)
    | .queue .get _ q _ => x.guard b.1.pg && !queueMoves s f q false
    | .queue .put _ q _ => x.guard b.1.pg && !queueMoves s f q true
    | .fence => !x.accesses.isEmpty
    | _ => false)

/-! ### Effects of a bundle beside the registers -/

/-- A loaded value into its register: extended, a pair, or a vector (12 R401). -/
def FrondSt.takeLoad (x : FrondSt) (k : AccessKind) (r : Nat) (bs : List Byte) : FrondSt :=
  let v := ofBytesLE bs
  match k with
  | .load size u =>
    if size = 3 then x.setPair r v
    else if u then x.setS r (BitVec.ofNat 32 v)
    else x.setS r (BitVec.ofInt 32 (toSigned (8 * 2 ^ size) v))
  | .vectorLoad => x.setV r (BitVec.ofNat 512 v)
  | .bankAdd size _ => if size = 3 then x.setPair r v else x.setS r (BitVec.ofNat 32 v)
  | .bankSwap size _ => if size = 3 then x.setPair r v else x.setS r (BitVec.ofNat 32 v)
  | .store _ _ => x

/-- The bytes a store writes, with the lanes that a VST leaves alone (12 R402). -/
def storeBytes (x : FrondSt) (op : MemOp) (rt size pg : Nat) : List Byte × List Bool :=
  match op with
  | .vst => (bytesLE 64 (x.getV rt).toNat, (List.range 64).map (fun i => (x.getP pg).getLsbD (i / 2)))
  | _ => (bytesLE (2 ^ size) (x.getPair rt), List.replicate (2 ^ size) true)

/-- What an access outside the local memories does at its destination. -/
def kindOf (x : FrondSt) (op : MemOp) (rt size pg : Nat) (u : Bool) : AccessKind :=
  let v := (if size = 3 then x.getPair rt else (x.getS rt).toNat)
  match op with
  | .ld => .load size u
  | .vld => .vectorLoad
  | .aadd => .bankAdd size v
  | .aswp => .bankSwap size v
  | _ => .store (storeBytes x op rt size pg).1 (storeBytes x op rt size pg).2

/-- A fault, with the escalation of a CRITICAL frond (11 R384, R385). -/
def frondFaults (f cause pc addr : Nat) (m : Meet) (s : State) : State :=
  (frondFault f cause pc addr s).cond (frondCritical s f) (warmCause 2 m)

/-- A memory instruction: local accesses happen at once, the others are issued in program order. `x0` is the frond at
issue; `de` what the code says of a local word read (13 R416, R417). -/
def memEffect (f : Nat) (x0 : FrondSt) (sl : Slot) (de : Ecc) (m : Meet) (s : State) : State :=
  match sl.ins with
  | .mem op rt rb wide size u ofs =>
    if !accesses x0 op sl.pg then s
    else
      let a := effAddr x0 op rb wide size ofs
      let k := kindOf x0 op rt size sl.pg u
      if isLocal a then
        if op.isLoad then
          let s := eccNote false (unitAddr f a) de s
          if de = .bad then frondFaults f 6 x0.pc a m s
          else s.setFrond f ((s.frond f).takeLoad k rt (s.read (frondKey f a) (accessLen op size)))
        else
          let p := storeBytes x0 op rt size sl.pg
          storeMasked (frondKey f a) (p.1.zip p.2) s
      else
        let x := s.frond f
        s.setFrond f { x with accesses := x.accesses ++ [⟨k, a, rt, x0.pc, false⟩] }
  | _ => s

/-- A queue instruction (11 R371, 12 R401, R403). -/
def queueEffect (f : Nat) (x0 : FrondSt) (sl : Slot) (s : State) : State :=
  match sl.ins with
  | .queue op rt q pd =>
    if !x0.guard sl.pg then s
    else
      let out := op == .put || op == .tryPut
      let ok := queueMoves s f q out
      let x := s.frond f
      let x := if op = .tryGet ∨ op = .tryPut then x.setP pd (predWord ok) else x
      if !ok then s.setFrond f x
      else if out then queueAdd (s.setFrond f x) f q (bytesLE 64 (x0.getV rt).toNat)
      else stageRefill f q (queueDrop (s.setFrond f (x.setV rt (BitVec.ofNat 512 (ofBytesLE ((s.queue f q).headD []))))) f q)
  | _ => s

/-- A system instruction (12 R398). -/
def systemEffect (f : Nat) (x0 : FrondSt) (sl : Slot) (s : State) : State :=
  let x := s.frond f
  match sl.ins with
  | .halt => frondHalt f 2 s
  | .wait r =>
    if x0.getPair r &&& frondLines s f ≠ 0 then s
    else setFrondState (s.setFrond f { x with waitMask := x0.getPair r }) f 2
  | .evclr r =>
    (s.setReg (R.FRD_EVT_PEND_LO f) (s.reg (R.FRD_EVT_PEND_LO f) &&& ~~~(x0.getS r))).setReg (R.FRD_EVT_PEND_HI f)
      (s.reg (R.FRD_EVT_PEND_HI f) &&& ~~~(x0.getS (r + 1)))
  | .evrd r => s.setFrond f (x.setPair r (frondLines s f))
  | .swevt => frondEvent f s
  | .timel r => s.setFrond f { x.setS r (halfOf s.now false) with timeHi := halfOf s.now true }
  | .qcnt r q => s.setFrond f (x.setS r (BitVec.ofNat 32 (s.queue f q).length))
  | _ => s

/-! ### Issue (12 R389 to R392, R408) -/

/-- The bundle at an address of the local instruction memory. -/
def fetchWords (s : State) (f pc : Nat) : Word × Word :=
  (BitVec.ofNat 32 (s.readNat (frondKey f pc) 4), BitVec.ofNat 32 (s.readNat (frondKey f (pc + 4)) 4))

/-- The registers that a bundle writes at issue, and the program counter after it. -/
def bundleRegs (x0 : FrondSt) (b : Slot × Slot) : FrondSt := nextPc x0 b.1 (vecEffect x0 b.2 (scalarEffect x0 b.1 x0))

/-- A bundle's effect: registers and program counter, then memory, queues and the system. -/
def bundleEffect (f : Nat) (b : Slot × Slot) (de : Ecc) (m : Meet) (s : State) : State :=
  let x0 := s.frond f
  let s := s.setFrond f (bundleRegs x0 b)
  memEffect f x0 b.1 de m (systemEffect f x0 b.1 (queueEffect f x0 b.1 s))

/-- Whether a frond issues: it is RUNNING, its tuft does not switch its clock, and no transparent march tests its local
memories (11 R351, R381, 13 R422). -/
def frondIssues (s : State) (f : Nat) : Bool :=
  frondState s f == 1 && !tuftSwitching s (f / 8) && !s.ms.march.any (fun m => m.unit == f && !m.destructive)

/-- The next bundle issues if one of its slots holds the instruction asked for; a bundle that stalls has not issued, and
one that faults has no effect (12 R390 to R392, R408). A fetch from local memory under a destructive march is a bus error
(13 R422; log entry 122). `fe` and `de` are what the code says of the bundle fetched and of a local word read. -/
def issue (is : FInstr → Bool) (f : Nat) (fe de : Ecc) (m : Meet) (s : State) : State :=
  if !frondIssues s f then s
  else
    let pc := (s.frond f).pc
    if underMarch s f then frondFaults f 5 pc pc m s
    else if fe = .bad then frondFaults f 6 pc pc m (eccBad false (unitAddr f pc) s)
    else
      let w := fetchWords s f pc
      match decodeBundle w.1 w.2 with
      | none => frondFaults f 3 pc 0 m s
      | some b =>
        if !(is b.1.ins || is b.2.ins) then s
        else
          if bundleStalls s f b then s
          else
            match slotFault s f b.1 with
            | some (c, a) => frondFaults f c pc a m s
            | none => bundleEffect f b de m (eccNote false (unitAddr f pc) fe s)

/-- The instruction command of a frond: `lost` counts a coincidence in the frond's arbiter (11 R369, R385, 12 R403). -/
def frondStep (is : FInstr → Bool) (f : Fin 64) (fe de : Ecc) (lost : Bool) (m : Meet) (s : State) : Result :=
  .next (s.whenWorking (fun s => issue is f.val fe de m (s.lost lost (R.FRD_RACE f))))

/-! ### Accesses that return (11 R353, R358, R362 to R367, 12 R405) -/

/-- Whether an access may complete: no earlier one of the frond goes to the same island (01 R17, 11 R364). -/
def accessFirst (x : FrondSt) (i : Nat) : Option Access :=
  match x.accesses[i]? with
  | some a => if (x.accesses.take i).any (fun b => islandOf b.addr == islandOf a.addr) then none else some a
  | none => none

/-- The access that may complete now: it does not stall for a transparent march (13 R422). -/
def accessNow (s : State) (f i : Nat) : Option Access :=
  match accessFirst (s.frond f) i with
  | some a => if marchStalls s a.addr then none else some a
  | none => none

/-- An access leaves the list. -/
def accessGone (f i : Nat) (s : State) : State :=
  let x := s.frond f
  s.setFrond f { x with accesses := x.accesses.eraseIdx i }

/-- The race counter of a bank word (11 R362). -/
def bankRace (a : Nat) (s : State) : State :=
  match regionOf a with
  | .tuft t => s.satInc (R.TUFT_RACE t) ⟨0, 16⟩
  | .commons => s.satInc (R.COMMONS_RACE 0) ⟨0, 16⟩
  | _ => s

/-- A bank ADD or SWAP served: the old value read, the new one written; after an uncorrectable word both halves are free
values (11 R362, 13 R416). -/
def accessSwap (q : Requester) (a : Nat) (bad : Bool) (size : Nat) (g : Nat → Nat) (s : State) :
    Option (List Byte) × State :=
  let r := busRead q none a (2 ^ size) s
  match r.1 with
  | none => r
  | some bs =>
    let v := if bad then s.free.toNat * 2 ^ 32 + (Config.freeWord (s.freeCtr + 1)).toNat else g (ofBytesLE bs)
    let t := if bad then r.2.drawn.drawn else r.2
    match busWrite q none a ((bytesLE (2 ^ size) v).map (fun b => (b, true))) t with
    | none => (none, r.2)
    | some t => (some bs, t)

/-- What an access does at its destination: the bytes it returns, `none` where it meets a bus error. A bank atomic on a
word with an uncorrectable error leaves a free value (log entry 3). -/
def accessServe (f : Nat) (a : Access) (bad : Bool) (s : State) : Option (List Byte) × State :=
  let q : Requester := .frond (Fin.ofNat 64 f)
  match a.kind with
  | .load size _ => busRead q none a.addr (2 ^ size) s
  | .vectorLoad => busRead q none a.addr 64 s
  | .bankAdd size v => accessSwap q a.addr bad size (fun old => (old + v) % 2 ^ (8 * 2 ^ size)) s
  | .bankSwap size v => accessSwap q a.addr bad size (fun _ => v) s
  | .store _ _ => (none, s)

/-- A load or atomic returns (11 R362, R384). -/
def loadReturn (f i : Nat) (e : Ecc) (m : Meet) (s : State) : State :=
  match accessNow s f i with
  | none => s
  | some a =>
    if a.isStore then s
    else
      let s := match eccPlace a.addr with
        | some (dram, w) => eccNote dram w e s
        | none => s
      let bad := e == .bad && (eccPlace a.addr).isSome
      let r := accessServe f a bad s
      let s := accessGone f i r.2
      if a.discard then s
      else
        match r.1 with
        | none => frondFaults f 5 a.pc a.addr m s
        | some bs => if bad then frondFaults f 6 a.pc a.addr m s else s.setFrond f ((s.frond f).takeLoad a.kind a.reg bs)

/-- A store is accepted, or meets a bus error and is reported (11 R358, R365, R367). -/
def storeAccept (f i : Nat) (s : State) : State :=
  match accessNow s f i with
  | none => s
  | some a =>
    match a.kind with
    | .store bs mask =>
      match busWrite (.frond (Fin.ofNat 64 f)) none a.addr (bs.zip mask) (accessGone f i s) with
      | some s => s
      | none => accessRefused f a.addr (accessGone f i s)
    | _ => s

/-- LOAD_RETURN (11 R362): access i of the frond, what the code says of the word, and whether the access lost its bank's
arbiter. -/
def execLoadReturn (f : Fin 64) (i : Fin 48) (e : Ecc) (lost : Bool) (m : Meet) (s : State) : Result :=
  .next (s.whenWorking (fun s =>
    let a := ((s.frond f).accesses[i.val]?.map (·.addr)).getD 0
    loadReturn f i e m (s.cond lost (bankRace a))))

/-- STORE_ACCEPT (11 R365). -/
def execStoreAccept (f : Fin 64) (i : Fin 48) (lost : Bool) (s : State) : Result :=
  .next (s.whenWorking (fun s =>
    let a := ((s.frond f).accesses[i.val]?.map (·.addr)).getD 0
    storeAccept f i (s.cond lost (bankRace a))))

end Sys2Proof.Machine
end

