-- ==== Sys2Proof/Machine/FrondIsa.lean ====
section
/-!
DEFINITION. The commands of the frond instructions (12_frond_instructions.md): frond f issues its next bundle, which holds
the instruction in one of its slots.
-/

namespace Sys2Proof.Machine

/-! ### Which instruction a slot holds -/

/-- The word 0 (12 R389). -/
def isNop : FInstr → Bool
  | .nop => true
  | _ => false

/-- A scalar operation. -/
def isAlu (op : Alu) : FInstr → Bool
  | .alu o _ _ _ => o == op
  | _ => false

/-- A scalar compare of two registers. -/
def isCmp (t : Test) : FInstr → Bool
  | .cmp u _ _ (.reg _) => u == t
  | _ => false

/-- A scalar compare with an immediate. -/
def isCmpi : FInstr → Bool
  | .cmp _ _ _ (.imm _) => true
  | _ => false

/-- A predicate operation. -/
def isPred (op : PredOp) : FInstr → Bool
  | .pred o _ _ _ => o == op
  | _ => false

/-- A predicate moved to a scalar register. -/
def isMfp : FInstr → Bool
  | .mfp _ _ => true
  | _ => false

/-- A scalar register moved to a predicate. -/
def isMtp : FInstr → Bool
  | .mtp _ _ => true
  | _ => false

/-- A relative branch, with link or without. -/
def isBranch (link : Bool) : FInstr → Bool
  | .branch _ l _ => l == link
  | _ => false

/-- An indirect branch, with link or without. -/
def isBranchTo (link : Bool) : FInstr → Bool
  | .branchTo _ l _ => l == link
  | _ => false

/-- A load, a store or a bank atomic. -/
def isMem (op : MemOp) : FInstr → Bool
  | .mem o _ _ _ _ _ _ => o == op
  | _ => false

/-- A queue instruction. -/
def isQueue (op : QueueOp) : FInstr → Bool
  | .queue o _ _ _ => o == op
  | _ => false

/-- A lane operation. -/
def isVec (op : VecOp) : FInstr → Bool
  | .vec o _ _ _ _ => o == op
  | _ => false

/-- A lane compare. -/
def isVcmp (t : Test) : FInstr → Bool
  | .vcmp u _ _ _ _ => u == t
  | _ => false

/-- A multiply-accumulate. -/
def isVmac (op : MacOp) : FInstr → Bool
  | .vmac o _ _ _ => o == op
  | _ => false

/-- An accumulator's read-out, signed or unsigned. -/
def isVacrd (u : Bool) : FInstr → Bool
  | .vacrd v _ _ _ => v == u
  | _ => false

/-- The halt instruction. -/
def isHalt : FInstr → Bool
  | .halt => true
  | _ => false

/-- The fence. -/
def isFence : FInstr → Bool
  | .fence => true
  | _ => false

/-- The wait. -/
def isWait : FInstr → Bool
  | .wait _ => true
  | _ => false

/-- Event lines cleared. -/
def isEvclr : FInstr → Bool
  | .evclr _ => true
  | _ => false

/-- Event lines read. -/
def isEvrd : FInstr → Bool
  | .evrd _ => true
  | _ => false

/-- The software event. -/
def isSwevt : FInstr → Bool
  | .swevt => true
  | _ => false

/-- A long immediate, low half. -/
def isLil : FInstr → Bool
  | .lil _ _ => true
  | _ => false

/-- A long immediate, high half. -/
def isLih : FInstr → Bool
  | .lih _ _ => true
  | _ => false

/-- Device time, low half. -/
def isTimel : FInstr → Bool
  | .timel _ => true
  | _ => false

/-- Device time, high half. -/
def isTimeh : FInstr → Bool
  | .timeh _ => true
  | _ => false

/-- A queue's count. -/
def isQcnt : FInstr → Bool
  | .qcnt _ _ => true
  | _ => false

/-- A lane select. -/
def isVsel : FInstr → Bool
  | .vsel _ _ _ _ => true
  | _ => false

/-- A broadcast. -/
def isVbcast : FInstr → Bool
  | .vbcast _ _ _ => true
  | _ => false

/-- A rotation of lanes. -/
def isVrot : FInstr → Bool
  | .vrot _ _ _ _ => true
  | _ => false

/-- An accumulator cleared. -/
def isVaclr : FInstr → Bool
  | .vaclr _ => true
  | _ => false

/-! ### The commands -/

/-- NOP (12 R389). -/
def execNop (f : Fin 64) (fe de : Ecc) (lost : Bool) (m : Meet) (s : State) : Result := frondStep isNop f fe de lost m s

/-- ADD (12 R396). -/
def execAdd (f : Fin 64) (fe de : Ecc) (lost : Bool) (m : Meet) (s : State) : Result := frondStep (isAlu .add) f fe de lost m s

/-- SUB (12 R396). -/
def execSub (f : Fin 64) (fe de : Ecc) (lost : Bool) (m : Meet) (s : State) : Result := frondStep (isAlu .sub) f fe de lost m s

/-- AND (12 R396). -/
def execAnd (f : Fin 64) (fe de : Ecc) (lost : Bool) (m : Meet) (s : State) : Result := frondStep (isAlu .and) f fe de lost m s

/-- OR (12 R396). -/
def execOr (f : Fin 64) (fe de : Ecc) (lost : Bool) (m : Meet) (s : State) : Result := frondStep (isAlu .or) f fe de lost m s

/-- XOR (12 R396). -/
def execXor (f : Fin 64) (fe de : Ecc) (lost : Bool) (m : Meet) (s : State) : Result := frondStep (isAlu .xor) f fe de lost m s

/-- SLL (12 R396). -/
def execSll (f : Fin 64) (fe de : Ecc) (lost : Bool) (m : Meet) (s : State) : Result := frondStep (isAlu .sll) f fe de lost m s

/-- SRL (12 R396). -/
def execSrl (f : Fin 64) (fe de : Ecc) (lost : Bool) (m : Meet) (s : State) : Result := frondStep (isAlu .srl) f fe de lost m s

/-- SRA (12 R396). -/
def execSra (f : Fin 64) (fe de : Ecc) (lost : Bool) (m : Meet) (s : State) : Result := frondStep (isAlu .sra) f fe de lost m s

/-- MUL (12 R396). -/
def execMul (f : Fin 64) (fe de : Ecc) (lost : Bool) (m : Meet) (s : State) : Result := frondStep (isAlu .mul) f fe de lost m s

/-- MULHS (12 R396). -/
def execMulhs (f : Fin 64) (fe de : Ecc) (lost : Bool) (m : Meet) (s : State) : Result := frondStep (isAlu .mulhs) f fe de lost m s

/-- MULHU (12 R396). -/
def execMulhu (f : Fin 64) (fe de : Ecc) (lost : Bool) (m : Meet) (s : State) : Result := frondStep (isAlu .mulhu) f fe de lost m s

/-- MIN (12 R396). -/
def execMin (f : Fin 64) (fe de : Ecc) (lost : Bool) (m : Meet) (s : State) : Result := frondStep (isAlu .min) f fe de lost m s

/-- MAX (12 R396). -/
def execMax (f : Fin 64) (fe de : Ecc) (lost : Bool) (m : Meet) (s : State) : Result := frondStep (isAlu .max) f fe de lost m s

/-- MINU (12 R396). -/
def execMinu (f : Fin 64) (fe de : Ecc) (lost : Bool) (m : Meet) (s : State) : Result := frondStep (isAlu .minu) f fe de lost m s

/-- MAXU (12 R396). -/
def execMaxu (f : Fin 64) (fe de : Ecc) (lost : Bool) (m : Meet) (s : State) : Result := frondStep (isAlu .maxu) f fe de lost m s

/-- CMPEQ (12 R396). -/
def execCmpeq (f : Fin 64) (fe de : Ecc) (lost : Bool) (m : Meet) (s : State) : Result := frondStep (isCmp .eq) f fe de lost m s

/-- CMPLT (12 R396). -/
def execCmplt (f : Fin 64) (fe de : Ecc) (lost : Bool) (m : Meet) (s : State) : Result := frondStep (isCmp .lt) f fe de lost m s

/-- CMPLTU (12 R396). -/
def execCmpltu (f : Fin 64) (fe de : Ecc) (lost : Bool) (m : Meet) (s : State) : Result := frondStep (isCmp .ltu) f fe de lost m s

/-- CMPGE (12 R396). -/
def execCmpge (f : Fin 64) (fe de : Ecc) (lost : Bool) (m : Meet) (s : State) : Result := frondStep (isCmp .ge) f fe de lost m s

/-- CLZ (12 R396). -/
def execClz (f : Fin 64) (fe de : Ecc) (lost : Bool) (m : Meet) (s : State) : Result := frondStep (isAlu .clz) f fe de lost m s

/-- POPC (12 R396). -/
def execPopc (f : Fin 64) (fe de : Ecc) (lost : Bool) (m : Meet) (s : State) : Result := frondStep (isAlu .popc) f fe de lost m s

/-- PAND (12 R396). -/
def execPand (f : Fin 64) (fe de : Ecc) (lost : Bool) (m : Meet) (s : State) : Result := frondStep (isPred .and) f fe de lost m s

/-- POR (12 R396). -/
def execPor (f : Fin 64) (fe de : Ecc) (lost : Bool) (m : Meet) (s : State) : Result := frondStep (isPred .or) f fe de lost m s

/-- PXOR (12 R396). -/
def execPxor (f : Fin 64) (fe de : Ecc) (lost : Bool) (m : Meet) (s : State) : Result := frondStep (isPred .xor) f fe de lost m s

/-- PANDN (12 R396). -/
def execPandn (f : Fin 64) (fe de : Ecc) (lost : Bool) (m : Meet) (s : State) : Result := frondStep (isPred .andn) f fe de lost m s

/-- MFP (12 R396). -/
def execMfp (f : Fin 64) (fe de : Ecc) (lost : Bool) (m : Meet) (s : State) : Result := frondStep isMfp f fe de lost m s

/-- MTP (12 R396). -/
def execMtp (f : Fin 64) (fe de : Ecc) (lost : Bool) (m : Meet) (s : State) : Result := frondStep isMtp f fe de lost m s

/-- ADDI (12 R397). -/
def execAddi (f : Fin 64) (fe de : Ecc) (lost : Bool) (m : Meet) (s : State) : Result := frondStep (isAlu .addi) f fe de lost m s

/-- ANDI (12 R397). -/
def execAndi (f : Fin 64) (fe de : Ecc) (lost : Bool) (m : Meet) (s : State) : Result := frondStep (isAlu .andi) f fe de lost m s

/-- ORI (12 R397). -/
def execOri (f : Fin 64) (fe de : Ecc) (lost : Bool) (m : Meet) (s : State) : Result := frondStep (isAlu .ori) f fe de lost m s

/-- XORI (12 R397). -/
def execXori (f : Fin 64) (fe de : Ecc) (lost : Bool) (m : Meet) (s : State) : Result := frondStep (isAlu .xori) f fe de lost m s

/-- SLLI (12 R397). -/
def execSlli (f : Fin 64) (fe de : Ecc) (lost : Bool) (m : Meet) (s : State) : Result := frondStep (isAlu .slli) f fe de lost m s

/-- SRLI (12 R397). -/
def execSrli (f : Fin 64) (fe de : Ecc) (lost : Bool) (m : Meet) (s : State) : Result := frondStep (isAlu .srli) f fe de lost m s

/-- SRAI (12 R397). -/
def execSrai (f : Fin 64) (fe de : Ecc) (lost : Bool) (m : Meet) (s : State) : Result := frondStep (isAlu .srai) f fe de lost m s

/-- CMPI (12 R397). -/
def execCmpi (f : Fin 64) (fe de : Ecc) (lost : Bool) (m : Meet) (s : State) : Result := frondStep isCmpi f fe de lost m s

/-- HALT (12 R398). -/
def execHalt (f : Fin 64) (fe de : Ecc) (lost : Bool) (m : Meet) (s : State) : Result := frondStep isHalt f fe de lost m s

/-- FENCE (12 R398). -/
def execFence (f : Fin 64) (fe de : Ecc) (lost : Bool) (m : Meet) (s : State) : Result := frondStep isFence f fe de lost m s

/-- WAIT (12 R398). -/
def execWait (f : Fin 64) (fe de : Ecc) (lost : Bool) (m : Meet) (s : State) : Result := frondStep isWait f fe de lost m s

/-- EVCLR (12 R398). -/
def execEvclr (f : Fin 64) (fe de : Ecc) (lost : Bool) (m : Meet) (s : State) : Result := frondStep isEvclr f fe de lost m s

/-- EVRD (12 R398). -/
def execEvrd (f : Fin 64) (fe de : Ecc) (lost : Bool) (m : Meet) (s : State) : Result := frondStep isEvrd f fe de lost m s

/-- SWEVT (12 R398). -/
def execSwevt (f : Fin 64) (fe de : Ecc) (lost : Bool) (m : Meet) (s : State) : Result := frondStep isSwevt f fe de lost m s

/-- LIL (12 R398). -/
def execLil (f : Fin 64) (fe de : Ecc) (lost : Bool) (m : Meet) (s : State) : Result := frondStep isLil f fe de lost m s

/-- LIH (12 R398). -/
def execLih (f : Fin 64) (fe de : Ecc) (lost : Bool) (m : Meet) (s : State) : Result := frondStep isLih f fe de lost m s

/-- TIMEL (12 R398). -/
def execTimel (f : Fin 64) (fe de : Ecc) (lost : Bool) (m : Meet) (s : State) : Result := frondStep isTimel f fe de lost m s

/-- TIMEH (12 R398). -/
def execTimeh (f : Fin 64) (fe de : Ecc) (lost : Bool) (m : Meet) (s : State) : Result := frondStep isTimeh f fe de lost m s

/-- QCNT (12 R398). -/
def execQcnt (f : Fin 64) (fe de : Ecc) (lost : Bool) (m : Meet) (s : State) : Result := frondStep isQcnt f fe de lost m s

/-- BRANCH (12 R399), KIND 0b00. -/
def execBranch (f : Fin 64) (fe de : Ecc) (lost : Bool) (m : Meet) (s : State) : Result := frondStep (isBranch false) f fe de lost m s

/-- BRANCH_LINK (12 R399), KIND 0b01. -/
def execBranchLink (f : Fin 64) (fe de : Ecc) (lost : Bool) (m : Meet) (s : State) : Result := frondStep (isBranch true) f fe de lost m s

/-- BRANCH_INDIRECT (12 R399), KIND 0b10. -/
def execBranchIndirect (f : Fin 64) (fe de : Ecc) (lost : Bool) (m : Meet) (s : State) : Result := frondStep (isBranchTo false) f fe de lost m s

/-- BRANCH_INDIRECT_LINK (12 R399), KIND 0b11. -/
def execBranchIndirectLink (f : Fin 64) (fe de : Ecc) (lost : Bool) (m : Meet) (s : State) : Result := frondStep (isBranchTo true) f fe de lost m s

/-- LD (12 R400, R401). -/
def execLd (f : Fin 64) (fe de : Ecc) (lost : Bool) (m : Meet) (s : State) : Result := frondStep (isMem .ld) f fe de lost m s

/-- ST (12 R400, R401). -/
def execSt (f : Fin 64) (fe de : Ecc) (lost : Bool) (m : Meet) (s : State) : Result := frondStep (isMem .st) f fe de lost m s

/-- VLD (12 R400, R401). -/
def execVld (f : Fin 64) (fe de : Ecc) (lost : Bool) (m : Meet) (s : State) : Result := frondStep (isMem .vld) f fe de lost m s

/-- VST (12 R400, R401). -/
def execVst (f : Fin 64) (fe de : Ecc) (lost : Bool) (m : Meet) (s : State) : Result := frondStep (isMem .vst) f fe de lost m s

/-- AADD (12 R400, R401). -/
def execAadd (f : Fin 64) (fe de : Ecc) (lost : Bool) (m : Meet) (s : State) : Result := frondStep (isMem .aadd) f fe de lost m s

/-- ASWP (12 R400, R401). -/
def execAswp (f : Fin 64) (fe de : Ecc) (lost : Bool) (m : Meet) (s : State) : Result := frondStep (isMem .aswp) f fe de lost m s

/-- QGET (12 R401, R403). -/
def execQget (f : Fin 64) (fe de : Ecc) (lost : Bool) (m : Meet) (s : State) : Result := frondStep (isQueue .get) f fe de lost m s

/-- QPUT (12 R401, R403). -/
def execQput (f : Fin 64) (fe de : Ecc) (lost : Bool) (m : Meet) (s : State) : Result := frondStep (isQueue .put) f fe de lost m s

/-- QTGET (12 R401, R403). -/
def execQtget (f : Fin 64) (fe de : Ecc) (lost : Bool) (m : Meet) (s : State) : Result := frondStep (isQueue .tryGet) f fe de lost m s

/-- QTPUT (12 R401, R403). -/
def execQtput (f : Fin 64) (fe de : Ecc) (lost : Bool) (m : Meet) (s : State) : Result := frondStep (isQueue .tryPut) f fe de lost m s

/-- VADD (12 R406). -/
def execVadd (f : Fin 64) (fe de : Ecc) (lost : Bool) (m : Meet) (s : State) : Result := frondStep (isVec .add) f fe de lost m s

/-- VSUB (12 R406). -/
def execVsub (f : Fin 64) (fe de : Ecc) (lost : Bool) (m : Meet) (s : State) : Result := frondStep (isVec .sub) f fe de lost m s

/-- VADDS (12 R406). -/
def execVadds (f : Fin 64) (fe de : Ecc) (lost : Bool) (m : Meet) (s : State) : Result := frondStep (isVec .adds) f fe de lost m s

/-- VADDUS (12 R406). -/
def execVaddus (f : Fin 64) (fe de : Ecc) (lost : Bool) (m : Meet) (s : State) : Result := frondStep (isVec .addus) f fe de lost m s

/-- VSUBS (12 R406). -/
def execVsubs (f : Fin 64) (fe de : Ecc) (lost : Bool) (m : Meet) (s : State) : Result := frondStep (isVec .subs) f fe de lost m s

/-- VSUBUS (12 R406). -/
def execVsubus (f : Fin 64) (fe de : Ecc) (lost : Bool) (m : Meet) (s : State) : Result := frondStep (isVec .subus) f fe de lost m s

/-- VMIN (12 R406). -/
def execVmin (f : Fin 64) (fe de : Ecc) (lost : Bool) (m : Meet) (s : State) : Result := frondStep (isVec .min) f fe de lost m s

/-- VMAX (12 R406). -/
def execVmax (f : Fin 64) (fe de : Ecc) (lost : Bool) (m : Meet) (s : State) : Result := frondStep (isVec .max) f fe de lost m s

/-- VMINU (12 R406). -/
def execVminu (f : Fin 64) (fe de : Ecc) (lost : Bool) (m : Meet) (s : State) : Result := frondStep (isVec .minu) f fe de lost m s

/-- VMAXU (12 R406). -/
def execVmaxu (f : Fin 64) (fe de : Ecc) (lost : Bool) (m : Meet) (s : State) : Result := frondStep (isVec .maxu) f fe de lost m s

/-- VAND (12 R406). -/
def execVand (f : Fin 64) (fe de : Ecc) (lost : Bool) (m : Meet) (s : State) : Result := frondStep (isVec .and) f fe de lost m s

/-- VOR (12 R406). -/
def execVor (f : Fin 64) (fe de : Ecc) (lost : Bool) (m : Meet) (s : State) : Result := frondStep (isVec .or) f fe de lost m s

/-- VXOR (12 R406). -/
def execVxor (f : Fin 64) (fe de : Ecc) (lost : Bool) (m : Meet) (s : State) : Result := frondStep (isVec .xor) f fe de lost m s

/-- VSLL (12 R406). -/
def execVsll (f : Fin 64) (fe de : Ecc) (lost : Bool) (m : Meet) (s : State) : Result := frondStep (isVec .sll) f fe de lost m s

/-- VSRL (12 R406). -/
def execVsrl (f : Fin 64) (fe de : Ecc) (lost : Bool) (m : Meet) (s : State) : Result := frondStep (isVec .srl) f fe de lost m s

/-- VSRA (12 R406). -/
def execVsra (f : Fin 64) (fe de : Ecc) (lost : Bool) (m : Meet) (s : State) : Result := frondStep (isVec .sra) f fe de lost m s

/-- VMUL (12 R406). -/
def execVmul (f : Fin 64) (fe de : Ecc) (lost : Bool) (m : Meet) (s : State) : Result := frondStep (isVec .mul) f fe de lost m s

/-- VMULHS (12 R406). -/
def execVmulhs (f : Fin 64) (fe de : Ecc) (lost : Bool) (m : Meet) (s : State) : Result := frondStep (isVec .mulhs) f fe de lost m s

/-- VMULHU (12 R406). -/
def execVmulhu (f : Fin 64) (fe de : Ecc) (lost : Bool) (m : Meet) (s : State) : Result := frondStep (isVec .mulhu) f fe de lost m s

/-- VABSD (12 R406). -/
def execVabsd (f : Fin 64) (fe de : Ecc) (lost : Bool) (m : Meet) (s : State) : Result := frondStep (isVec .absd) f fe de lost m s

/-- VCMPEQ (12 R406). -/
def execVcmpeq (f : Fin 64) (fe de : Ecc) (lost : Bool) (m : Meet) (s : State) : Result := frondStep (isVcmp .eq) f fe de lost m s

/-- VCMPLT (12 R406). -/
def execVcmplt (f : Fin 64) (fe de : Ecc) (lost : Bool) (m : Meet) (s : State) : Result := frondStep (isVcmp .lt) f fe de lost m s

/-- VCMPLTU (12 R406). -/
def execVcmpltu (f : Fin 64) (fe de : Ecc) (lost : Bool) (m : Meet) (s : State) : Result := frondStep (isVcmp .ltu) f fe de lost m s

/-- VCMPGE (12 R406). -/
def execVcmpge (f : Fin 64) (fe de : Ecc) (lost : Bool) (m : Meet) (s : State) : Result := frondStep (isVcmp .ge) f fe de lost m s

/-- VSEL (12 R406). -/
def execVsel (f : Fin 64) (fe de : Ecc) (lost : Bool) (m : Meet) (s : State) : Result := frondStep isVsel f fe de lost m s

/-- VBCAST (12 R406). -/
def execVbcast (f : Fin 64) (fe de : Ecc) (lost : Bool) (m : Meet) (s : State) : Result := frondStep isVbcast f fe de lost m s

/-- VROT (12 R406). -/
def execVrot (f : Fin 64) (fe de : Ecc) (lost : Bool) (m : Meet) (s : State) : Result := frondStep isVrot f fe de lost m s

/-- VMAC (12 R406, R407). -/
def execVmac (f : Fin 64) (fe de : Ecc) (lost : Bool) (m : Meet) (s : State) : Result := frondStep (isVmac .ss) f fe de lost m s

/-- VMACU (12 R406, R407). -/
def execVmacu (f : Fin 64) (fe de : Ecc) (lost : Bool) (m : Meet) (s : State) : Result := frondStep (isVmac .uu) f fe de lost m s

/-- VMACSU (12 R406, R407). -/
def execVmacsu (f : Fin 64) (fe de : Ecc) (lost : Bool) (m : Meet) (s : State) : Result := frondStep (isVmac .su) f fe de lost m s

/-- VMSU (12 R406, R407). -/
def execVmsu (f : Fin 64) (fe de : Ecc) (lost : Bool) (m : Meet) (s : State) : Result := frondStep (isVmac .sub) f fe de lost m s

/-- VACLR (12 R406, R407). -/
def execVaclr (f : Fin 64) (fe de : Ecc) (lost : Bool) (m : Meet) (s : State) : Result := frondStep isVaclr f fe de lost m s

/-- VACRD (12 R406, R407). -/
def execVacrd (f : Fin 64) (fe de : Ecc) (lost : Bool) (m : Meet) (s : State) : Result := frondStep (isVacrd false) f fe de lost m s

/-- VACRDU (12 R406, R407). -/
def execVacrdu (f : Fin 64) (fe de : Ecc) (lost : Bool) (m : Meet) (s : State) : Result := frondStep (isVacrd true) f fe de lost m s

end Sys2Proof.Machine
end

