-- ==== Sys2Proof/Machine/Dispatch.lean ====
section
/-!
DEFINITION. One arm per command: each calls the meaning of its row of spec/opcode_table.json.
-/

namespace Sys2Proof.Machine

def exec (i : Instr) (s : State) : Host.Outcome State Fault Refusal :=
  match i with
  | .porRelease b => Sys2Proof.Machine.execPorRelease b s
  | .porAssert => Sys2Proof.Machine.execPorAssert s
  | .powerLoss => Sys2Proof.Machine.execPowerLoss s
  | .laneBringupDone p => Sys2Proof.Machine.execLaneBringupDone p s
  | .autorunStart => Sys2Proof.Machine.execAutorunStart s
  | .arbFuseAdvance => Sys2Proof.Machine.execArbFuseAdvance s
  | .perstNAssert meet => Sys2Proof.Machine.execPerstNAssert meet s
  | .perstNRelease => Sys2Proof.Machine.execPerstNRelease s
  | .functionLevelReset meet => Sys2Proof.Machine.execFunctionLevelReset meet s
  | .mbxErase => Sys2Proof.Machine.execMbxErase s
  | .mbxWrite => Sys2Proof.Machine.execMbxWrite s
  | .mbxVerify => Sys2Proof.Machine.execMbxVerify s
  | .mbxActivate => Sys2Proof.Machine.execMbxActivate s
  | .mbxAbort => Sys2Proof.Machine.execMbxAbort s
  | .mbxReboot => Sys2Proof.Machine.execMbxReboot s
  | .mbxCmdInvalid => Sys2Proof.Machine.execMbxCmdInvalid s
  | .mbxEraseDone ok => Sys2Proof.Machine.execMbxEraseDone ok s
  | .mbxWriteDone ok => Sys2Proof.Machine.execMbxWriteDone ok s
  | .mbxVerifyDone => Sys2Proof.Machine.execMbxVerifyDone s
  | .eventDelivery src lost => Sys2Proof.Machine.execEventDelivery src lost s
  | .evtAck src lost => Sys2Proof.Machine.execEvtAck src lost s
  | .quadCount n a b z e lost => Sys2Proof.Machine.execQuadCount n a b z e lost s
  | .hallStateChange n uvw e lost => Sys2Proof.Machine.execHallStateChange n uvw e lost s
  | .sincosConversion n sin cos phase t2 lost => Sys2Proof.Machine.execSincosConversion n sin cos phase t2 lost s
  | .heartbeatSample n lost => Sys2Proof.Machine.execHeartbeatSample n lost s
  | .indexLatch n t lost => Sys2Proof.Machine.execIndexLatch n t lost s
  | .speedWindowEnd n lost => Sys2Proof.Machine.execSpeedWindowEnd n lost s
  | .comparePulseEnd m => Sys2Proof.Machine.execComparePulseEnd m s
  | .ptSynthEdge t => Sys2Proof.Machine.execPtSynthEdge t s
  | .encCommit n lost => Sys2Proof.Machine.execEncCommit n lost s
  | .cmpCommit m lost => Sys2Proof.Machine.execCmpCommit m lost s
  | .ptCommit t lost => Sys2Proof.Machine.execPtCommit t lost s
  | .posSampleArrival c m => Sys2Proof.Machine.execPosSampleArrival c m s
  | .laneLockLoss n lane units => Sys2Proof.Machine.execLaneLockLoss n lane units s
  | .rxReadapt n running => Sys2Proof.Machine.execRxReadapt n running s
  | .linePacket n lanes units ram lost => Sys2Proof.Machine.execLinePacket n lanes units ram lost s
  | .lineDataTimeout n lost => Sys2Proof.Machine.execLineDataTimeout n lost s
  | .triggerFire n lost meets => Sys2Proof.Machine.execTriggerFire n lost meets s
  | .lineMinEnd n lost => Sys2Proof.Machine.execLineMinEnd n lost s
  | .generatorArm n => Sys2Proof.Machine.execGeneratorArm n s
  | .imgCommit n lost => Sys2Proof.Machine.execImgCommit n lost s
  | .imgScriptRun n => Sys2Proof.Machine.execImgScriptRun n s
  | .scriptPhaseRunStop t => Sys2Proof.Machine.execScriptPhaseRunStop t s
  | .scriptWrite t => Sys2Proof.Machine.execScriptWrite t s
  | .scriptCheck t => Sys2Proof.Machine.execScriptCheck t s
  | .scriptPoll t => Sys2Proof.Machine.execScriptPoll t s
  | .scriptWait t => Sys2Proof.Machine.execScriptWait t s
  | .scriptEnd t => Sys2Proof.Machine.execScriptEnd t s
  | .scriptTransferDone t got ok => Sys2Proof.Machine.execScriptTransferDone t got ok s
  | .scriptPollRetry t limit => Sys2Proof.Machine.execScriptPollRetry t limit s
  | .scriptWaitEnd t => Sys2Proof.Machine.execScriptWaitEnd t s
  | .shadingLoad n => Sys2Proof.Machine.execShadingLoad n s
  | .shadingLoadDone n x lost => Sys2Proof.Machine.execShadingLoadDone n x lost s
  | .lineRecordComplete n => Sys2Proof.Machine.execLineRecordComplete n s
  | .swathEnd n => Sys2Proof.Machine.execSwathEnd n s
  | .imgCorCommit n m => Sys2Proof.Machine.execImgCorCommit n m s
  | .lampShiftEnd n bits lost => Sys2Proof.Machine.execLampShiftEnd n bits lost s
  | .lampBlankPeriod n => Sys2Proof.Machine.execLampBlankPeriod n s
  | .exposureWindowArrival p => Sys2Proof.Machine.execExposureWindowArrival p s
  | .exposureWindowEnd p lost => Sys2Proof.Machine.execExposureWindowEnd p lost s
  | .matrixRowSlot n => Sys2Proof.Machine.execMatrixRowSlot n s
  | .lcCommit n lost => Sys2Proof.Machine.execLcCommit n lost s
  | .driveWordComputeDone n => Sys2Proof.Machine.execDriveWordComputeDone n s
  | .lcnTempWrite n t => Sys2Proof.Machine.execLcnTempWrite n t s
  | .lampTempStale n => Sys2Proof.Machine.execLampTempStale n s
  | .groupRestore n g m => Sys2Proof.Machine.execGroupRestore n g m s
  | .lcScriptRun n => Sys2Proof.Machine.execLcScriptRun n s
  | .lampChainEnable n => Sys2Proof.Machine.execLampChainEnable n s
  | .tpEnable n => Sys2Proof.Machine.execTpEnable n s
  | .tpDisable n => Sys2Proof.Machine.execTpDisable n s
  | .tpEnDelayEnd n => Sys2Proof.Machine.execTpEnDelayEnd n s
  | .frameBoundary n lost => Sys2Proof.Machine.execFrameBoundary n lost s
  | .coefRowsArrive n k lost => Sys2Proof.Machine.execCoefRowsArrive n k lost s
  | .coefResidentFetchDone x => Sys2Proof.Machine.execCoefResidentFetchDone x s
  | .fpaRow n lanes x lost => Sys2Proof.Machine.execFpaRow n lanes x lost s
  | .thermalSampleComplete x => Sys2Proof.Machine.execThermalSampleComplete x s
  | .fpaSlotWriteDone n ok => Sys2Proof.Machine.execFpaSlotWriteDone n ok s
  | .defEditAdd n rule row col lost => Sys2Proof.Machine.execDefEditAdd n rule row col lost s
  | .defEditDelete n row col lost => Sys2Proof.Machine.execDefEditDelete n row col lost s
  | .tpCommit n lost => Sys2Proof.Machine.execTpCommit n lost s
  | .tpScriptRun n => Sys2Proof.Machine.execTpScriptRun n s
  | .shutterRequest n lost => Sys2Proof.Machine.execShutterRequest n lost s
  | .shutterAbort n => Sys2Proof.Machine.execShutterAbort n s
  | .shutterPostpassDone n => Sys2Proof.Machine.execShutterPostpassDone n s
  | .measTrigger k lost => Sys2Proof.Machine.execMeasTrigger k lost s
  | .measUrgent k lost => Sys2Proof.Machine.execMeasUrgent k lost s
  | .measCommit k lost => Sys2Proof.Machine.execMeasCommit k lost s
  | .calStart => Sys2Proof.Machine.execCalStart s
  | .calGainDone ofs0 gain0 ofs1 gain1 => Sys2Proof.Machine.execCalGainDone ofs0 gain0 ofs1 gain1 s
  | .triggerDelayEnd k => Sys2Proof.Machine.execTriggerDelayEnd k s
  | .conversionStart m lost => Sys2Proof.Machine.execConversionStart m lost s
  | .excSettleEnd m => Sys2Proof.Machine.execExcSettleEnd m s
  | .modulatorSample m code low high t => Sys2Proof.Machine.execModulatorSample m code low high t s
  | .resultPublish k lost => Sys2Proof.Machine.execResultPublish k lost s
  | .impTestDue k => Sys2Proof.Machine.execImpTestDue k s
  | .impTestDone m ohms => Sys2Proof.Machine.execImpTestDone m ohms s
  | .refSettled m => Sys2Proof.Machine.execRefSettled m s
  | .loopTick n t readback atLimit lost => Sys2Proof.Machine.execLoopTick n t readback atLimit lost s
  | .loopCommit n lost => Sys2Proof.Machine.execLoopCommit n lost s
  | .loopValueWrite n v lost => Sys2Proof.Machine.execLoopValueWrite n v lost s
  | .updateTick pins late => Sys2Proof.Machine.execUpdateTick pins late s
  | .axisMove n lost => Sys2Proof.Machine.execAxisMove n lost s
  | .axisTable n lost => Sys2Proof.Machine.execAxisTable n lost s
  | .axisHome n lost => Sys2Proof.Machine.execAxisHome n lost s
  | .axisStop n lost => Sys2Proof.Machine.execAxisStop n lost s
  | .axisQuickstop n lost => Sys2Proof.Machine.execAxisQuickstop n lost s
  | .axisAbort n lost => Sys2Proof.Machine.execAxisAbort n lost s
  | .axisResume n lost => Sys2Proof.Machine.execAxisResume n lost s
  | .axisCmdInvalid n => Sys2Proof.Machine.execAxisCmdInvalid n s
  | .axisCommit n lost => Sys2Proof.Machine.execAxisCommit n lost s
  | .phaseFault p low lost => Sys2Proof.Machine.execPhaseFault p low lost s
  | .frdStart f => Sys2Proof.Machine.execFrdStart f s
  | .frdHalt f lost => Sys2Proof.Machine.execFrdHalt f lost s
  | .frdKick f lost => Sys2Proof.Machine.execFrdKick f lost s
  | .frdWdogWrite f us => Sys2Proof.Machine.execFrdWdogWrite f us s
  | .frondWdogExpiry f lost meet => Sys2Proof.Machine.execFrondWdogExpiry f lost meet s
  | .frdEvtRaise f line lost => Sys2Proof.Machine.execFrdEvtRaise f line lost s
  | .frdSwevt f => Sys2Proof.Machine.execFrdSwevt f s
  | .waitWake f => Sys2Proof.Machine.execWaitWake f s
  | .loadReturn f k e lost m => Sys2Proof.Machine.execLoadReturn f k e lost m s
  | .storeAccept f k lost => Sys2Proof.Machine.execStoreAccept f k lost s
  | .accessFault f => Sys2Proof.Machine.execAccessFault f s
  | .stageRelease f k addr => Sys2Proof.Machine.execStageRelease f k addr s
  | .stageCopyDone x => Sys2Proof.Machine.execStageCopyDone x s
  | .stageDrainTimeout n => Sys2Proof.Machine.execStageDrainTimeout n s
  | .tuftCommit t lost => Sys2Proof.Machine.execTuftCommit t lost s
  | .tuftSwitchDone t => Sys2Proof.Machine.execTuftSwitchDone t s
  | .tuftWake t => Sys2Proof.Machine.execTuftWake t s
  | .nop f fe de lost m => Sys2Proof.Machine.execNop f fe de lost m s
  | .add f fe de lost m => Sys2Proof.Machine.execAdd f fe de lost m s
  | .sub f fe de lost m => Sys2Proof.Machine.execSub f fe de lost m s
  | .and f fe de lost m => Sys2Proof.Machine.execAnd f fe de lost m s
  | .or f fe de lost m => Sys2Proof.Machine.execOr f fe de lost m s
  | .xor f fe de lost m => Sys2Proof.Machine.execXor f fe de lost m s
  | .sll f fe de lost m => Sys2Proof.Machine.execSll f fe de lost m s
  | .srl f fe de lost m => Sys2Proof.Machine.execSrl f fe de lost m s
  | .sra f fe de lost m => Sys2Proof.Machine.execSra f fe de lost m s
  | .mul f fe de lost m => Sys2Proof.Machine.execMul f fe de lost m s
  | .mulhs f fe de lost m => Sys2Proof.Machine.execMulhs f fe de lost m s
  | .mulhu f fe de lost m => Sys2Proof.Machine.execMulhu f fe de lost m s
  | .min f fe de lost m => Sys2Proof.Machine.execMin f fe de lost m s
  | .max f fe de lost m => Sys2Proof.Machine.execMax f fe de lost m s
  | .minu f fe de lost m => Sys2Proof.Machine.execMinu f fe de lost m s
  | .maxu f fe de lost m => Sys2Proof.Machine.execMaxu f fe de lost m s
  | .cmpeq f fe de lost m => Sys2Proof.Machine.execCmpeq f fe de lost m s
  | .cmplt f fe de lost m => Sys2Proof.Machine.execCmplt f fe de lost m s
  | .cmpltu f fe de lost m => Sys2Proof.Machine.execCmpltu f fe de lost m s
  | .cmpge f fe de lost m => Sys2Proof.Machine.execCmpge f fe de lost m s
  | .clz f fe de lost m => Sys2Proof.Machine.execClz f fe de lost m s
  | .popc f fe de lost m => Sys2Proof.Machine.execPopc f fe de lost m s
  | .pand f fe de lost m => Sys2Proof.Machine.execPand f fe de lost m s
  | .por f fe de lost m => Sys2Proof.Machine.execPor f fe de lost m s
  | .pxor f fe de lost m => Sys2Proof.Machine.execPxor f fe de lost m s
  | .pandn f fe de lost m => Sys2Proof.Machine.execPandn f fe de lost m s
  | .mfp f fe de lost m => Sys2Proof.Machine.execMfp f fe de lost m s
  | .mtp f fe de lost m => Sys2Proof.Machine.execMtp f fe de lost m s
  | .addi f fe de lost m => Sys2Proof.Machine.execAddi f fe de lost m s
  | .andi f fe de lost m => Sys2Proof.Machine.execAndi f fe de lost m s
  | .ori f fe de lost m => Sys2Proof.Machine.execOri f fe de lost m s
  | .xori f fe de lost m => Sys2Proof.Machine.execXori f fe de lost m s
  | .slli f fe de lost m => Sys2Proof.Machine.execSlli f fe de lost m s
  | .srli f fe de lost m => Sys2Proof.Machine.execSrli f fe de lost m s
  | .srai f fe de lost m => Sys2Proof.Machine.execSrai f fe de lost m s
  | .cmpi f fe de lost m => Sys2Proof.Machine.execCmpi f fe de lost m s
  | .halt f fe de lost m => Sys2Proof.Machine.execHalt f fe de lost m s
  | .fence f fe de lost m => Sys2Proof.Machine.execFence f fe de lost m s
  | .wait f fe de lost m => Sys2Proof.Machine.execWait f fe de lost m s
  | .evclr f fe de lost m => Sys2Proof.Machine.execEvclr f fe de lost m s
  | .evrd f fe de lost m => Sys2Proof.Machine.execEvrd f fe de lost m s
  | .swevt f fe de lost m => Sys2Proof.Machine.execSwevt f fe de lost m s
  | .lil f fe de lost m => Sys2Proof.Machine.execLil f fe de lost m s
  | .lih f fe de lost m => Sys2Proof.Machine.execLih f fe de lost m s
  | .timel f fe de lost m => Sys2Proof.Machine.execTimel f fe de lost m s
  | .timeh f fe de lost m => Sys2Proof.Machine.execTimeh f fe de lost m s
  | .qcnt f fe de lost m => Sys2Proof.Machine.execQcnt f fe de lost m s
  | .branch f fe de lost m => Sys2Proof.Machine.execBranch f fe de lost m s
  | .branchLink f fe de lost m => Sys2Proof.Machine.execBranchLink f fe de lost m s
  | .branchIndirect f fe de lost m => Sys2Proof.Machine.execBranchIndirect f fe de lost m s
  | .branchIndirectLink f fe de lost m => Sys2Proof.Machine.execBranchIndirectLink f fe de lost m s
  | .ld f fe de lost m => Sys2Proof.Machine.execLd f fe de lost m s
  | .st f fe de lost m => Sys2Proof.Machine.execSt f fe de lost m s
  | .vld f fe de lost m => Sys2Proof.Machine.execVld f fe de lost m s
  | .vst f fe de lost m => Sys2Proof.Machine.execVst f fe de lost m s
  | .aadd f fe de lost m => Sys2Proof.Machine.execAadd f fe de lost m s
  | .aswp f fe de lost m => Sys2Proof.Machine.execAswp f fe de lost m s
  | .qget f fe de lost m => Sys2Proof.Machine.execQget f fe de lost m s
  | .qput f fe de lost m => Sys2Proof.Machine.execQput f fe de lost m s
  | .qtget f fe de lost m => Sys2Proof.Machine.execQtget f fe de lost m s
  | .qtput f fe de lost m => Sys2Proof.Machine.execQtput f fe de lost m s
  | .vadd f fe de lost m => Sys2Proof.Machine.execVadd f fe de lost m s
  | .vsub f fe de lost m => Sys2Proof.Machine.execVsub f fe de lost m s
  | .vadds f fe de lost m => Sys2Proof.Machine.execVadds f fe de lost m s
  | .vaddus f fe de lost m => Sys2Proof.Machine.execVaddus f fe de lost m s
  | .vsubs f fe de lost m => Sys2Proof.Machine.execVsubs f fe de lost m s
  | .vsubus f fe de lost m => Sys2Proof.Machine.execVsubus f fe de lost m s
  | .vmin f fe de lost m => Sys2Proof.Machine.execVmin f fe de lost m s
  | .vmax f fe de lost m => Sys2Proof.Machine.execVmax f fe de lost m s
  | .vminu f fe de lost m => Sys2Proof.Machine.execVminu f fe de lost m s
  | .vmaxu f fe de lost m => Sys2Proof.Machine.execVmaxu f fe de lost m s
  | .vand f fe de lost m => Sys2Proof.Machine.execVand f fe de lost m s
  | .vor f fe de lost m => Sys2Proof.Machine.execVor f fe de lost m s
  | .vxor f fe de lost m => Sys2Proof.Machine.execVxor f fe de lost m s
  | .vsll f fe de lost m => Sys2Proof.Machine.execVsll f fe de lost m s
  | .vsrl f fe de lost m => Sys2Proof.Machine.execVsrl f fe de lost m s
  | .vsra f fe de lost m => Sys2Proof.Machine.execVsra f fe de lost m s
  | .vmul f fe de lost m => Sys2Proof.Machine.execVmul f fe de lost m s
  | .vmulhs f fe de lost m => Sys2Proof.Machine.execVmulhs f fe de lost m s
  | .vmulhu f fe de lost m => Sys2Proof.Machine.execVmulhu f fe de lost m s
  | .vabsd f fe de lost m => Sys2Proof.Machine.execVabsd f fe de lost m s
  | .vcmpeq f fe de lost m => Sys2Proof.Machine.execVcmpeq f fe de lost m s
  | .vcmplt f fe de lost m => Sys2Proof.Machine.execVcmplt f fe de lost m s
  | .vcmpltu f fe de lost m => Sys2Proof.Machine.execVcmpltu f fe de lost m s
  | .vcmpge f fe de lost m => Sys2Proof.Machine.execVcmpge f fe de lost m s
  | .vsel f fe de lost m => Sys2Proof.Machine.execVsel f fe de lost m s
  | .vbcast f fe de lost m => Sys2Proof.Machine.execVbcast f fe de lost m s
  | .vmac f fe de lost m => Sys2Proof.Machine.execVmac f fe de lost m s
  | .vmacu f fe de lost m => Sys2Proof.Machine.execVmacu f fe de lost m s
  | .vmacsu f fe de lost m => Sys2Proof.Machine.execVmacsu f fe de lost m s
  | .vmsu f fe de lost m => Sys2Proof.Machine.execVmsu f fe de lost m s
  | .vaclr f fe de lost m => Sys2Proof.Machine.execVaclr f fe de lost m s
  | .vacrd f fe de lost m => Sys2Proof.Machine.execVacrd f fe de lost m s
  | .vacrdu f fe de lost m => Sys2Proof.Machine.execVacrdu f fe de lost m s
  | .vrot f fe de lost m => Sys2Proof.Machine.execVrot f fe de lost m s
  | .scrubWord e lost => Sys2Proof.Machine.execScrubWord e lost s
  | .eccWriteback => Sys2Proof.Machine.execEccWriteback s
  | .marchStart unit destructive => Sys2Proof.Machine.execMarchStart unit destructive s
  | .marchDone failing => Sys2Proof.Machine.execMarchDone failing s
  | .hostExchAccess addr len data c => Sys2Proof.Machine.execHostExchAccess addr len data c s
  | .vaultCommit kind lost => Sys2Proof.Machine.execVaultCommit kind lost s
  | .vaultDelete lost => Sys2Proof.Machine.execVaultDelete lost s
  | .vaultCmdInvalid => Sys2Proof.Machine.execVaultCmdInvalid s
  | .vaultCommitDone x => Sys2Proof.Machine.execVaultCommitDone x s
  | .vaultDeleteDone => Sys2Proof.Machine.execVaultDeleteDone s
  | .recordIntake k => Sys2Proof.Machine.execRecordIntake k s
  | .chunkAgeExpiry n => Sys2Proof.Machine.execChunkAgeExpiry n s
  | .chunkSealStart n x meet => Sys2Proof.Machine.execChunkSealStart n x meet s
  | .chunkSealComplete n lost => Sys2Proof.Machine.execChunkSealComplete n lost s
  | .runKeysDerived => Sys2Proof.Machine.execRunKeysDerived s
  | .chStart n lost => Sys2Proof.Machine.execChStart n lost s
  | .chAbort n lost => Sys2Proof.Machine.execChAbort n lost s
  | .chTrigger n lost => Sys2Proof.Machine.execChTrigger n lost s
  | .chCommit n lost => Sys2Proof.Machine.execChCommit n lost s
  | .chEnableWrite n on lost => Sys2Proof.Machine.execChEnableWrite n on lost s
  | .descriptorFetchDone n x => Sys2Proof.Machine.execDescriptorFetchDone n x s
  | .dmaTriggerArrival n kind index lost => Sys2Proof.Machine.execDmaTriggerArrival n kind index lost s
  | .dmaBurstEnd x lost => Sys2Proof.Machine.execDmaBurstEnd x lost s
  | .flushReadReturn n => Sys2Proof.Machine.execFlushReadReturn n s
  | .hostReadCompletion tag data ok lost => Sys2Proof.Machine.execHostReadCompletion tag data ok lost s
  | .hostReadTimeout tag lost => Sys2Proof.Machine.execHostReadTimeout tag lost s
  | .descriptorStatusAccepted n => Sys2Proof.Machine.execDescriptorStatusAccepted n s
  | .configRequest a => Sys2Proof.Machine.execConfigRequest a s
  | .hostLinkReady => Sys2Proof.Machine.execHostLinkReady s
  | .pcieLinkChange up speed width => Sys2Proof.Machine.execPcieLinkChange up speed width s
  | .powerStateChange d3 => Sys2Proof.Machine.execPowerStateChange d3 s
  | .ideIntegrityFail stream => Sys2Proof.Machine.execIdeIntegrityFail stream s
  | .badWrite => Sys2Proof.Machine.execBadWrite s
  | .peatWindowRead word => Sys2Proof.Machine.execPeatWindowRead word s
  | .reqRunStart lost => Sys2Proof.Machine.execReqRunStart lost s
  | .reqRunStop lost => Sys2Proof.Machine.execReqRunStop lost s
  | .reqShutter ports => Sys2Proof.Machine.execReqShutter ports s
  | .reqPacking stream v => Sys2Proof.Machine.execReqPacking stream v s
  | .reqCal code => Sys2Proof.Machine.execReqCal code s
  | .reqMaintEnter m => Sys2Proof.Machine.execReqMaintEnter m s
  | .reqMaintExit lost => Sys2Proof.Machine.execReqMaintExit lost s
  | .hostReqHoldoffEnd k => Sys2Proof.Machine.execHostReqHoldoffEnd k s
  | .grTailWrite n v lost => Sys2Proof.Machine.execGrTailWrite n v lost s
  | .grantTailCheck n => Sys2Proof.Machine.execGrantTailCheck n s
  | .grantReadDone n addr len id ok => Sys2Proof.Machine.execGrantReadDone n addr len id ok s
  | .crHeadWrite n v lost => Sys2Proof.Machine.execCrHeadWrite n v lost s
  | .ringEnable n => Sys2Proof.Machine.execRingEnable n s
  | .ringDisable n lost => Sys2Proof.Machine.execRingDisable n lost s
  | .ringConfigWrite n k v => Sys2Proof.Machine.execRingConfigWrite n k v s
  | .completionEntryIssue n => Sys2Proof.Machine.execCompletionEntryIssue n s
  | .completionRingCheck n => Sys2Proof.Machine.execCompletionRingCheck n s
  | .eventRecordEmit n code => Sys2Proof.Machine.execEventRecordEmit n code s
  | .ptmDialogue master => Sys2Proof.Machine.execPtmDialogue master s
  | .runStart lost => Sys2Proof.Machine.execRunStart lost s
  | .runStop lost => Sys2Proof.Machine.execRunStop lost s
  | .maintEnter m => Sys2Proof.Machine.execMaintEnter m s
  | .maintExit lost => Sys2Proof.Machine.execMaintExit lost s
  | .abandon => Sys2Proof.Machine.execAbandon s
  | .runWdogWrite ms => Sys2Proof.Machine.execRunWdogWrite ms s
  | .runKick lost => Sys2Proof.Machine.execRunKick lost s
  | .runWdogExpiry meet => Sys2Proof.Machine.execRunWdogExpiry meet s
  | .getVersion busy => Sys2Proof.Machine.execGetVersion busy s
  | .getCapabilities busy => Sys2Proof.Machine.execGetCapabilities busy s
  | .negotiateAlgorithms busy => Sys2Proof.Machine.execNegotiateAlgorithms busy s
  | .getDigests busy => Sys2Proof.Machine.execGetDigests busy s
  | .getCertificate slot busy => Sys2Proof.Machine.execGetCertificate slot busy s
  | .challenge slot request busy => Sys2Proof.Machine.execChallenge slot request busy s
  | .getMeasurements block request busy => Sys2Proof.Machine.execGetMeasurements block request busy s
  | .keyExchange request busy => Sys2Proof.Machine.execKeyExchange request busy s
  | .finish busy => Sys2Proof.Machine.execFinish busy s
  | .heartbeat busy => Sys2Proof.Machine.execHeartbeat busy s
  | .keyUpdate busy => Sys2Proof.Machine.execKeyUpdate busy s
  | .endSession busy => Sys2Proof.Machine.execEndSession busy s
  | .chunkSend c last busy => Sys2Proof.Machine.execChunkSend c last busy s
  | .chunkGet size busy => Sys2Proof.Machine.execChunkGet size busy s
  | .getOwnerNonce busy => Sys2Proof.Machine.execGetOwnerNonce busy s
  | .ownerEnrol cmd fuses busy => Sys2Proof.Machine.execOwnerEnrol cmd fuses busy s
  | .ownerRevoke cmd fuses busy => Sys2Proof.Machine.execOwnerRevoke cmd fuses busy s
  | .ownerUnlock cmd lost busy => Sys2Proof.Machine.execOwnerUnlock cmd lost busy s
  | .peatRead first count busy => Sys2Proof.Machine.execPeatRead first count busy s
  | .vendorRequestUnsupported code busy => Sys2Proof.Machine.execVendorRequestUnsupported code busy s
  | .runnerLinkUp n id serial => Sys2Proof.Machine.execRunnerLinkUp n id serial s
  | .runnerLinkDown n lost => Sys2Proof.Machine.execRunnerLinkDown n lost s
  | .flitNak n ack => Sys2Proof.Machine.execFlitNak n ack s
  | .ringAnnounce h serial aUp bUp => Sys2Proof.Machine.execRingAnnounce h serial aUp bUp s
  | .timeFlit h t => Sys2Proof.Machine.execTimeFlit h t s
  | .timeFlitSend => Sys2Proof.Machine.execTimeFlitSend s
  | .runTrigSend dest channel lost => Sys2Proof.Machine.execRunTrigSend dest channel lost s
  | .trigFlit h channel due => Sys2Proof.Machine.execTrigFlit h channel due s
  | .triggerDue => Sys2Proof.Machine.execTriggerDue s
  | .posShareSend => Sys2Proof.Machine.execPosShareSend s
  | .posFlit h itf p => Sys2Proof.Machine.execPosFlit h itf p s
  | .sharedPosTimeout j => Sys2Proof.Machine.execSharedPosTimeout j s
  | .rmtRead dev size => Sys2Proof.Machine.execRmtRead dev size s
  | .rmtWrite dev size => Sys2Proof.Machine.execRmtWrite dev size s
  | .rmtReq h write size offset data c => Sys2Proof.Machine.execRmtReq h write size offset data c s
  | .rmtRsp h result data x => Sys2Proof.Machine.execRmtRsp h result data x s
  | .rmtTimeout lost => Sys2Proof.Machine.execRmtTimeout lost s
  | .recordForwardSend n => Sys2Proof.Machine.execRecordForwardSend n s
  | .fwdFlit h stream f lost => Sys2Proof.Machine.execFwdFlit h stream f lost s
  | .dcoMonitor k locked meet => Sys2Proof.Machine.execDcoMonitor k locked meet s
  | .refLost => Sys2Proof.Machine.execRefLost s
  | .refRestored => Sys2Proof.Machine.execRefRestored s
  | .timeBeacon => Sys2Proof.Machine.execTimeBeacon s
  | .tsyncEdge t => Sys2Proof.Machine.execTsyncEdge t s
  | .tsyncTimeout => Sys2Proof.Machine.execTsyncTimeout s
  | .tsyncOutput => Sys2Proof.Machine.execTsyncOutput s
  | .runnerSourceTimeout => Sys2Proof.Machine.execRunnerSourceTimeout s
  | .timeSetApply lost => Sys2Proof.Machine.execTimeSetApply lost s
  | .trimStart found => Sys2Proof.Machine.execTrimStart found s
  | .trimVaultWritten => Sys2Proof.Machine.execTrimVaultWritten s
  | .trimApply => Sys2Proof.Machine.execTrimApply s
  | .timerExpiry n lost => Sys2Proof.Machine.execTimerExpiry n lost s
  | .pwmHighEnd n => Sys2Proof.Machine.execPwmHighEnd n s
  | .tmrCommit n lost => Sys2Proof.Machine.execTmrCommit n lost s
  | .gpioOutWrite v => Sys2Proof.Machine.execGpioOutWrite v s
  | .tempConversion codes m => Sys2Proof.Machine.execTempConversion codes m s
  | .throttleEvaluation lost => Sys2Proof.Machine.execThrottleEvaluation lost s
  | .vaonALoss => Sys2Proof.Machine.execVaonALoss s
  | .vaonAReturn => Sys2Proof.Machine.execVaonAReturn s
  | .aonBrownout => Sys2Proof.Machine.execAonBrownout s
  | .aonLatchClear => Sys2Proof.Machine.execAonLatchClear s
  | .avsReadback mv ok => Sys2Proof.Machine.execAvsReadback mv ok s
  | .tempLogSample => Sys2Proof.Machine.execTempLogSample s
  | .pwrThreshWrite v lost => Sys2Proof.Machine.execPwrThreshWrite v lost s
  | .peatRecordCommit lost => Sys2Proof.Machine.execPeatRecordCommit lost s
  | .peatFwCmd f typ => Sys2Proof.Machine.execPeatFwCmd f typ s
  | .peatWinSeqWrite v => Sys2Proof.Machine.execPeatWinSeqWrite v s
  | .registerWrite q a v setWon clearWon => Sys2Proof.Machine.execRegisterWrite q a v setWon clearWon s
  | .pairLoRead q x => Sys2Proof.Machine.execPairLoRead q x s
  | .mbxActivateDone => Sys2Proof.Machine.execMbxActivateDone s
  | .flitReceiveError n crc => Sys2Proof.Machine.execFlitReceiveError n crc s
  | .badFlitType h => Sys2Proof.Machine.execBadFlitType h s
  | .idleFlit n ack => Sys2Proof.Machine.execIdleFlit n ack s
  | .vaonBLoss => Sys2Proof.Machine.execVaonBLoss s
  | .vaonBReturn => Sys2Proof.Machine.execVaonBReturn s
  | .tapInstruction k => Sys2Proof.Machine.execTapInstruction k s
  | .aerError code => Sys2Proof.Machine.execAerError code s
  | .dramRefresh lost => Sys2Proof.Machine.execDramRefresh lost s

end Sys2Proof.Machine
end

