-- ==== Sys2Proof/Machine/Idle.lean ====
section
/-!
DEFINITION. What happens while no command waits (log entry 16): a nanosecond of nominal time passes (18 R531), and a
stopping stream whose sources have drained finishes its run (15 R477).
-/

namespace Sys2Proof.Machine

/-- Whether device time is held: the AON island is supplied (18 R532, 19 R557). -/
def timeKept (s : State) : Bool := s.pwr.vaonA || s.pwr.vaonB

/-- A nanosecond in which no command comes. -/
def idle (s : State) : State := (s.cond (timeKept s) tick).whenWorking streamsProgress

end Sys2Proof.Machine
end

