-- ==== Sys2Proof/Safety.lean ====
section
/-!
DEFINITION. What a sound state is, in the terms of the statements.
-/

namespace Sys2Proof.Machine

/-- Every table of the state is in its one canonical form, so that states which read alike are equal data. -/
structure State.Canon (s : State) : Prop where
  regs : Sparse.wf (fun k => some (resetOf k)) s.regs = true
  act : Sparse.wf (fun k => some (resetOf k)) s.act = true
  snap : Sparse.wf (fun _ => none) s.snap = true
  refusals : Sparse.wf (fun _ => some 0) s.refusals = true
  mem : Sparse.wf unlisted s.mem = true
  timers : Sparse.wf (fun _ => some {}) s.timers = true
  chans : Sparse.wf (fun _ => some {}) s.chans = true
  engines : Sparse.wf (fun _ => some {}) s.engines = true
  encs : Sparse.wf (fun _ => some {}) s.encs = true
  cmpPulse : Sparse.wf (fun _ => none) s.cmpPulse = true
  pts : Sparse.wf (fun _ => some {}) s.pts = true
  posQ : Sparse.wf (fun _ => some []) s.posQ = true
  imgs : Sparse.wf (fun _ => some {}) s.imgs = true
  lamps : Sparse.wf (fun _ => some {}) s.lamps = true
  tps : Sparse.wf (fun _ => some {}) s.tps = true
  axes : Sparse.wf (fun _ => some {}) s.axes = true
  fronds : Sparse.wf (fun _ => some {}) s.fronds = true
  queues : Sparse.wf (fun _ => some []) s.queues = true
  streams : Sparse.wf (fun _ => some {}) s.streams = true
  stages : Sparse.wf (fun _ => some {}) s.stages = true
  recQ : Sparse.wf (fun _ => some []) s.recQ = true
  evPend : NatSet.wfFrom 0 s.evPend = true
  stopScripts : NatSet.wfFrom 0 s.stopScripts = true
  cmpNear : NatSet.wfFrom 0 s.cmpNear = true

/-- The command completes with an effect: it answers a next state, which is so. -/
def Completes (i : Instr) (s : State) (p : State → Prop) : Prop := ∃ t, exec i s = .next t ∧ p t

/-- Every byte of the device's memories reads as before; host memory, which others write, is none of them. -/
def SameMem (s t : State) : Prop := ∀ a, a < 0x10000000000000000 → t.byte a = s.byte a

/-- Every register that `p` does not name holds what it held, and so does every in-force copy. -/
def SameRegs (s t : State) (p : Nat → Prop) : Prop := ∀ a, ¬ p a → t.reg a = s.reg a ∧ t.inForce a = s.inForce a

/-- The registers of one block, and the count of merged event occurrences, which every raising of an event may touch
(01 R34, R39). -/
def InBlock (b a : Nat) : Prop := (a - 0x5000000000) / 0x100000 = b ∧ 0x5000000000 ≤ a ∨ a = R.EVT_LOST

/-- The shape of the fronds' instruction rows: the frond, what the codes say of the bundle fetched and of a local word
read, a race lost, and what a fault of a CRITICAL frond meets. -/
abbrev FrondRow : Type := Fin 64 → Ecc → Ecc → Bool → Meet → Instr

/-- Frond f issues a bundle: all blocks work, it is RUNNING, its tuft does not switch its clock, no march tests its
local memories, the bundle at its program counter is fetched soundly, decodes to these slots, meets no fault and does
not stall (12 R389, R390, R392, R408). -/
structure Issues (s : State) (f : Nat) (fe : Ecc) (b : Slot × Slot) : Prop where
  working : s.working = true
  issues : frondIssues s f = true
  unmarched : underMarch s f = false
  fetched : fe ≠ .bad
  decodes : decodeBundle (fetchWords s f (s.frond f).pc).1 (fetchWords s f (s.frond f).pc).2 = some b
  sound : slotFault s f b.1 = none
  flows : bundleStalls s f b = false

/-- The state in which the bundle takes effect: a lost race is counted, and a corrected word of the fetch. -/
def atIssue (s : State) (f : Nat) (fe : Ecc) (lost : Bool) : State :=
  eccNote false (unitAddr f (s.frond f).pc) fe (s.lost lost (R.FRD_RACE f))

/-- The instructions of the fronds (12 R388 to R416). -/
def isFrondRow : Instr → Bool
  | .nop .. | .add .. | .sub .. | .and .. | .or .. | .xor .. | .sll .. | .srl .. | .sra .. | .mul .. | .mulhs ..
  | .mulhu .. | .min .. | .max .. | .minu .. | .maxu .. | .cmpeq .. | .cmplt .. | .cmpltu .. | .cmpge .. | .clz ..
  | .popc .. | .pand .. | .por .. | .pxor .. | .pandn .. | .mfp .. | .mtp .. | .addi .. | .andi .. | .ori ..
  | .xori .. | .slli .. | .srli .. | .srai .. | .cmpi .. | .halt .. | .fence .. | .wait .. | .evclr .. | .evrd ..
  | .swevt .. | .lil .. | .lih .. | .timel .. | .timeh .. | .qcnt .. | .branch .. | .branchLink ..
  | .branchIndirect .. | .branchIndirectLink .. | .ld .. | .st .. | .vld .. | .vst .. | .aadd .. | .aswp ..
  | .qget .. | .qput .. | .qtget .. | .qtput .. | .vadd .. | .vsub .. | .vadds .. | .vaddus .. | .vsubs ..
  | .vsubus .. | .vmin .. | .vmax .. | .vminu .. | .vmaxu .. | .vand .. | .vor .. | .vxor .. | .vsll .. | .vsrl ..
  | .vsra .. | .vmul .. | .vmulhs .. | .vmulhu .. | .vabsd .. | .vcmpeq .. | .vcmplt .. | .vcmpltu .. | .vcmpge ..
  | .vsel .. | .vbcast .. | .vmac .. | .vmacu .. | .vmacsu .. | .vmsu .. | .vaclr .. | .vacrd .. | .vacrdu ..
  | .vrot .. => true
  | _ => false

/-- The other commands whose effect can write memory: frond, DMA, root, run and spool commands, calibration files, vaults,
and what ends in a start or in loss of power. -/
def mayStore : Instr → Bool
  | .porRelease .. | .porAssert .. | .powerLoss .. | .autorunStart .. | .perstNAssert .. | .functionLevelReset ..
  | .mbxAbort .. | .mbxReboot .. | .mbxEraseDone .. | .mbxWriteDone .. | .mbxActivateDone .. | .fpaRow ..
  | .thermalSampleComplete .. | .shutterPostpassDone .. | .frondWdogExpiry .. | .loadReturn .. | .storeAccept ..
  | .stageRelease .. | .stageCopyDone .. | .stageDrainTimeout .. | .marchDone .. | .hostExchAccess .. | .vaultCommitDone ..
  | .vaultDeleteDone .. | .recordIntake .. | .chunkSealStart .. | .chunkSealComplete .. | .chEnableWrite ..
  | .dmaBurstEnd .. | .hostReadCompletion .. | .descriptorStatusAccepted .. | .reqRunStart .. | .reqRunStop ..
  | .ringDisable .. | .completionEntryIssue .. | .completionRingCheck .. | .eventRecordEmit .. | .runStart ..
  | .runStop .. | .runWdogExpiry .. | .ownerEnrol .. | .ownerRevoke .. | .ownerUnlock .. | .rmtReq .. | .fwdFlit ..
  | .dcoMonitor .. | .abandon .. | .chunkSend ..
  | .trimVaultWritten .. | .tempConversion .. | .aonBrownout .. | .aonLatchClear .. | .peatRecordCommit ..
  | .registerWrite .. => true
  | c => isFrondRow c

/-- The commands that can change the operating state (01 R27): starts, warm recovery causes and what can raise one, MAINT
requests and register writes that make one, loss of supply, the thermal shutdown. -/
def mayChangeMode : Instr → Bool
  | .porRelease .. | .porAssert .. | .powerLoss .. | .perstNAssert .. | .functionLevelReset .. | .mbxReboot ..
  | .frondWdogExpiry .. | .loadReturn .. | .storeAccept .. | .chunkSealStart .. | .dmaBurstEnd ..
  | .hostReadCompletion .. | .reqMaintEnter .. | .reqMaintExit .. | .maintEnter .. | .maintExit ..
  | .runWdogExpiry .. | .ownerEnrol .. | .ownerRevoke .. | .ownerUnlock .. | .dcoMonitor .. | .tempConversion ..
  | .aonBrownout .. | .aonLatchClear .. | .chunkSend ..
  | .registerWrite .. => true
  | c => isFrondRow c

end Sys2Proof.Machine
end

