-- ==== Sys2Proof/Certificates/Slice0/Obligations.lean ====
section
/-!
DEFINITION. The statements for the provers. OBLIGATIONS.json says of each what it states and which rules it cites.
-/

open Sys2Proof Sys2Proof.Machine

/-- Log entries 1 and 16: the queue of commands is the model's, and so is what an empty queue does. -/
def Obligations.StepTakesFront : Prop :=
  ∀ (s : State) (c : Instr) (rest : List Instr),
    step { s with pending := c :: rest } = exec c { s with pending := rest } ∧
    step { s with pending := [] } = .next (idle { s with pending := [] })

/-- R12, R27, R33, R420 and the register sections' reset values; the canonical form is the model's (log entry 1). -/
def Obligations.ResetState : Prop :=
  State.reset.mode = .off ∧ State.reset.pending = [] ∧ State.reset.out = [] ∧
    (∀ a, State.reset.reg a = resetOf a ∧ State.reset.inForce a = resetOf a) ∧
    (∀ a, descOf a = none → State.reset.reg a = 0) ∧
    State.reset.reg R.SYS_STATE = 1 ∧ State.reset.reg (R.ENC_SC_NOM 7) = 0x2666 ∧ State.reset.reg (R.CMP_CFG 15) = 0x30 ∧
    State.reset.reg (R.IMG_SPI_CFG 9) = 0x01800003 ∧ State.reset.reg (R.LC_LAYOUT 3) = 0x810 ∧
    State.reset.reg (R.TP_IF_CFG 3) = 0x280A0118 ∧ State.reset.reg (R.M_R0 15) = 1000000 ∧
    State.reset.reg (R.AXIS_POS_MIN_HI 7) = 0x80000000 ∧ State.reset.reg R.DMA_CFG = 3 ∧
    State.reset.reg R.TIME_STEP_NS = 1000000 ∧ State.reset.reg R.PWR_THRESH = 0x057D6E69 ∧
    (∀ a, 0x4000000000 ≤ a → a < 0x4000800000 → State.reset.byte a = 0) ∧ State.reset.Canon

/-- Equal memories, registers and unit states are equal data after any command. -/
def Obligations.StepKeepsCanon : Prop := ∀ s : State, s.Canon → ∃ t, step s = .next t ∧ t.Canon

/-- R65, R558, R571; the queue and the list of what was sent are the model's (log entries 1 and 4). -/
def Obligations.NothingGoesBack : Prop :=
  ∀ (i : Instr) (s : State),
    Completes i s (fun t => t.pending = s.pending ∧ (∃ more, t.out = s.out ++ more) ∧
      s.root.arbFused ≤ t.root.arbFused ∧ (i ≠ .aonLatchClear → s.pwr.latch = true → t.pwr.latch = true)) ∧
    Completes .aonLatchClear s (fun t => t.pwr.latch = false ∧ t.mode = .off)

/-- R31, R571: HALT is left only by the power cycle of R558, which AON_LATCH_CLEAR stands for; loss of power alone
leads to OFF, from which a start returns to HALT. -/
def Obligations.LatchLeadsToHalt : Prop :=
  ∀ s : State, s.pwr.latch = true →
    let ends := fun (t : State) => t.mode = .halt ∧ t.fld R.SYS_CAUSE F.SYS_CAUSE_CAUSE = 6 ∧ t.pwr.latch = true
    (∀ b, s.mode = .off → (s.pwr.vaonA || s.pwr.vaonB) = true → Completes (.porRelease b) s ends) ∧
    (∀ warm cause, ends (start warm cause s)) ∧
    (∀ i, i ≠ .aonLatchClear → Completes i s fun t => t.pwr.latch = true ∧
      (s.mode = .halt → t.mode = .halt ∨ t.mode = .off)) ∧
    Completes .aonLatchClear s (fun t => t.pwr.latch = false ∧ t.mode = .off)

/-- R27's table of events, and the frame of every command that stores nothing. -/
def Obligations.CommandsKeepMemoryAndMode : Prop :=
  ∀ (i : Instr) (s : State),
    (mayStore i = false → Completes i s fun t => SameMem s t) ∧
    (mayChangeMode i = false → Completes i s fun t => t.mode = s.mode ∧ t.pwr.latch = s.pwr.latch)

/-- R83, R84, R91, R92, R98: what a quadrature edge and a Hall state do to the position word while no set waits at the
interface, whatever the compare units and outputs that watch it then do. -/
def Obligations.PositionCounts : Prop :=
  ∀ (s : State) (n : Fin 8) (held t2 : Nat) (lost : Bool), s.working = true →
    let same := fun t => SameMem s t ∧ SameRegs s t (InBlock 8)
    let filt := 5 * s.actFld (R.ENC_CFG n) F.ENC_CFG_FILT
    (held < filt → ∀ a b z v, exec (.quadCount n a b z ⟨held, t2⟩ lost) s = .next s ∧
      exec (.hallStateChange n v ⟨held, t2⟩ lost) s = .next s) ∧
    (filt ≤ held → (encUnit n).waits s = false →
    (∀ a b z c, encMode s n = 1 → quadStep (s.enc n).a (s.enc n).b a b = some c → c ≠ 0 →
      Completes (.quadCount n a b z ⟨held, t2⟩ lost) s fun t =>
        encPos t n = toSigned 64 (ofSigned 64 (encPos s n + invertBy s n c * 2 ^ 22)) ∧ same t) ∧
    (∀ a b z, encMode s n = 1 → quadStep (s.enc n).a (s.enc n).b a b = none →
      Completes (.quadCount n a b z ⟨held, t2⟩ lost) s fun t =>
        encPos t n = encPos s n ∧ t.bit (R.ENC_STATUS n) F.ENC_STATUS_QUAD_ERROR = true ∧
          t.bit (R.ENC_STATUS n) F.ENC_STATUS_POS_SUSPECT = true ∧ same t) ∧
    (∀ (v : Fin 8) i j, encMode s n = 3 → hallIndex v = some i → hallIndex (s.enc n).hall = some j →
      (i + 6 - j) % 6 = 1 ∨ (i + 6 - j) % 6 = 5 →
      Completes (.hallStateChange n v ⟨held, t2⟩ lost) s fun t =>
        encPos t n = toSigned 64 (ofSigned 64 (encPos s n +
          invertBy s n (if (i + 6 - j) % 6 = 1 then 1 else -1) * 2 ^ 24)) ∧ same t))

/-- R88, R90, R93, R94, R96, R97, R100, R102, R103, R111, R115, R140: what the other events of the position interfaces
do, with every operand, while all blocks work. -/
def Obligations.PositionSamplesAndLatches : Prop :=
  ∀ (s : State) (n : Fin 8) (lost : Bool), s.working = true →
    let raced := s.lost lost (R.ENC_RACE n)
    (∀ sin cos phase t2, Completes (.sincosConversion n sin cos phase t2 lost) s (SameMem s)) ∧
    (∀ sin cos phase t2, encMode s n ≠ 2 →
      exec (.sincosConversion n sin cos phase t2 lost) s = .next (raced.reach (t2 / 2))) ∧
    (∀ (sin cos phase : BitVec 16) (t2 : Nat), encMode s n = 2 → (encUnit n).waits s = false →
      let nom := s.actFld (R.ENC_SC_NOM n) F.ENC_SC_NOM_NOM
      let q := correctedPair s n sin.toInt cos.toInt
      let r2 := q.1.natAbs ^ 2 + q.2.natAbs ^ 2
      let u := raced.reach (t2 / 2)
      let v := u.setEnc n { u.enc n with signs := (decide (0 ≤ q.1), decide (0 ≤ q.2)) }
      (4 * r2 < nom ^ 2 ∨ 9 * nom ^ 2 < 4 * r2 →
        exec (.sincosConversion n sin cos phase t2 lost) s =
          .next (countBy ((encFault ((v.setEnc n { v.enc n with sigFault := true, peaks := none }).flag (R.ENC_STATUS n)
            F.ENC_STATUS_POS_SUSPECT) n F.ENC_STATUS_SIGNAL_FAULT).satInc (R.ENC_ERRCNT n) F.ENC_ERRCNT_FAULT_COUNT) n
            (2 ^ 12) 0 t2 false)) ∧
      (nom ^ 2 ≤ 4 * r2 → 4 * r2 ≤ 9 * nom ^ 2 → ∀ d : Int,
        d = (match (s.enc n).angle with
          | some a => angleStep s a (pairAngle q.1 q.2)
          | none => 0) →
        let fast := decide (1024 < d.natAbs) && !(s.enc n).sigFault
        Completes (.sincosConversion n sin cos phase t2 lost) s fun t =>
          encPos t n = toSigned 64 (ofSigned 64 (encPos s n + invertBy s n d * 2 ^ 12)) ∧ SameRegs s t (InBlock 8) ∧
            (t.enc n).sigFault = false ∧ (t.enc n).angle = some (pairAngle q.1 q.2) ∧
            (fast = true → t.bit (R.ENC_STATUS n) F.ENC_STATUS_OVERSPEED = true ∧
              t.bit (R.ENC_STATUS n) F.ENC_STATUS_POS_SUSPECT = true ∧
              t.bit (R.ENC_STATUS n) F.ENC_STATUS_VALID = false))) ∧
    Completes (.heartbeatSample n lost) s (SameMem s) ∧
    (encMode s n ≠ 1 → encMode s n ≠ 3 → exec (.heartbeatSample n lost) s = .next raced) ∧
    (encMode s n = 1 ∨ encMode s n = 3 → (encUnit n).waits s = false →
      let u := raced.reach ((s.enc n).lastPub + 250)
      let x : Sample :=
        { pos := encPos s n, t2 := 2 * u.now, dir := s.bit (R.ENC_STATUS n) F.ENC_STATUS_DIR, back := encBack s n,
          turn := false, valid := !(s.enc n).hallErr, suspect := s.bit (R.ENC_STATUS n) F.ENC_STATUS_POS_SUSPECT,
          prevE := (s.enc n).e }
      exec (.heartbeatSample n lost) s = .next (publish u n x)) ∧
    (∀ tz, Completes (.indexLatch n tz lost) s fun t => SameMem s t ∧ SameRegs s t (InBlock 8)) ∧
    (∀ tz, encMode s n ≠ 0 → s.actBit (R.ENC_CFG n) F.ENC_CFG_INDEX_EN = true →
      (encMode s n = 1 → s.actBit (R.ENC_CFG n) F.ENC_CFG_INDEX_GATE = true → (s.enc n).a = true ∧ (s.enc n).b = true) →
      Completes (.indexLatch n tz lost) s fun t =>
        t.reg64 (R.ENC_INDEX_LO n) = s.reg64 (R.ENC_POS_LO n) ∧
          t.reg64 (R.ENC_INDEX_PREV_LO n) = s.reg64 (R.ENC_INDEX_LO n) ∧
          t.fld (R.ENC_INDEX_INFO n) F.ENC_INDEX_INFO_INDEX_COUNT =
            (s.fld (R.ENC_INDEX_INFO n) F.ENC_INDEX_INFO_INDEX_COUNT + 1) % 2 ^ 31 ∧
          t.reg64 (R.ENC_POS_LO n) = s.reg64 (R.ENC_POS_LO n)) ∧
    (∀ tz, encMode s n = 0 ∨ s.actBit (R.ENC_CFG n) F.ENC_CFG_INDEX_EN = false →
      Completes (.indexLatch n tz lost) s fun t =>
        t.reg64 (R.ENC_INDEX_LO n) = s.reg64 (R.ENC_INDEX_LO n) ∧ (t.enc n).z = true) ∧
    (encMode s n = 0 → exec (.speedWindowEnd n lost) s = .next raced) ∧
    (encMode s n ≠ 0 → Completes (.speedWindowEnd n lost) s fun t =>
      (t.enc n).winQ = 0 ∧ (t.enc n).winRev = false ∧ (t.enc n).winStart = t.now ∧
        (s.enc n).winStart + windowNs s n ≤ t.now ∧ SameMem s t) ∧
    (∀ m : Fin 16, Completes (.comparePulseEnd m) s fun t =>
      Sparse.find t.cmpPulse m = none ∧ SameMem s t ∧ ∀ a, t.reg a = s.reg a) ∧
    (∀ k : Fin 2, s.actBit (R.PT_CFG k) F.PT_CFG_ENABLE = false ∨ s.actBit (R.PT_CFG k) F.PT_CFG_SYNTH = false ∨
      (s.pt k).owed = (s.pt k).emitted → exec (.ptSynthEdge k) s = .next s) ∧
    (∀ k : Fin 2, s.actBit (R.PT_CFG k) F.PT_CFG_ENABLE = true → s.actBit (R.PT_CFG k) F.PT_CFG_SYNTH = true →
      (s.pt k).owed ≠ (s.pt k).emitted →
      let next := if (s.pt k).emitted < (s.pt k).owed then (s.pt k).emitted + 1 else (s.pt k).emitted - 1
      Completes (.ptSynthEdge k) s fun t =>
        (t.pt k).emitted = next ∧ ((t.pt k).a, (t.pt k).b) = quadLevels next ∧
          (s.pt k).lastEdge + 25 ≤ t.now ∧ ∀ a, t.reg a = s.reg a) ∧
    ∀ (c : Fin 14) (m : Meeting), Completes (.posSampleArrival c m) s (SameMem s) ∧
      ∀ (x : Sample) (rest : List PosItem),
      (c.val < 10 → s.posItems c = .sample x :: rest → imgArmed s c = false → x.turn = false →
        isMoving (s.imgSt c).lastMove x = true →
        Completes (.posSampleArrival c m) s fun t => t.posItems c = rest ∧
          (t.imgSt c).hist = ((x.pos, x.t2) :: (s.imgSt c).hist).take 16) ∧
      (10 ≤ c.val → s.posItems (16 + (c.val - 10)) = .sample x :: rest →
        Completes (.posSampleArrival c m) s fun t => t.posItems (16 + (c.val - 10)) = rest ∧
          (t.tp (c.val - 10)).recent.head? = some x)

/-- R119, R122 to R127, R131, R132: LANE_BRINGUP_DONE, LANE_LOCK_LOSS, RX_READAPT, LINE_PACKET, LINE_DATA_TIMEOUT. -/
def Obligations.CaptureLink : Prop :=
  ∀ (s : State) (n : Fin 10), s.working = true →
    let a := R.IMG_LANE_STATUS n
    let w := laneWidth s n
    let x := s.imgSt n
    let link := fun t : State => t.bit (R.IMG_STATUS n) F.IMG_STATUS_LINK_UP
    let count := fun (f : Fld) (k : Nat) => min 65535 (s.fld (R.IMG_LANE_ERR n) f + k)
    let told := fun t : State => s.reg (R.EVT_ROUTE (Ev.img n 0)) ≠ 0 → Ev.img n 0 ∈ t.evPend
    let stages : Prop := portTaken s n = false →
      (∀ i : Fin 8, i.val < w →
        (s.bit a ⟨i, 1⟩ = false → Completes (.laneBringupDone ⟨n, .cdrLock i⟩) s fun t =>
          t.bit a ⟨i, 1⟩ = true ∧ t.bit a F.IMG_LANE_STATUS_ADAPT_RUNNING = true ∧ SameMem s t) ∧
        (s.bit a ⟨i, 1⟩ = true → x.adapted / 2 ^ i.val % 2 = 0 → Completes (.laneBringupDone ⟨n, .adapted i⟩) s fun t =>
          (t.imgSt n).adapted = x.adapted + 2 ^ i.val ∧ SameMem s t ∧ (allLanes s n (x.adapted + 2 ^ i.val) = true →
            t.bit a F.IMG_LANE_STATUS_ADAPT_DONE = true ∧ t.bit a F.IMG_LANE_STATUS_ADAPT_RUNNING = false)) ∧
        (x.adapted / 2 ^ i.val % 2 = 1 → s.bit a ⟨8 + i, 1⟩ = false → ∀ l,
          Completes (.laneBringupDone ⟨n, .units i l⟩) s fun t => SameMem s t ∧
            t.bit a ⟨8 + i, 1⟩ = ((gainLock (enc8 s n) l (s.lane n i)).2.1 &&
              !(loseLock (enc8 s n) (gainLock (enc8 s n) l (s.lane n i)).2.2 (gainLock (enc8 s n) l (s.lane n i)).1).2) ∧
            t.fld (R.IMG_LANE_ERR n) F.IMG_LANE_ERR_CODE_ERR = count F.IMG_LANE_ERR_CODE_ERR (badUnits l))) ∧
      (link s = false → allLanes s n (s.fld a F.IMG_LANE_STATUS_BLOCK_LOCK) = true →
        Completes (.laneBringupDone ⟨n, .deskewed⟩) s fun t =>
          (t.imgSt n).brought = true ∧ link t = true ∧ t.bit a F.IMG_LANE_STATUS_DESKEWED = true ∧ SameMem s t)
    let loses : Prop := portTaken s n = false → ∀ (lane : Fin 8) l, lane.val < w → s.bit a ⟨8 + lane, 1⟩ = true →
      ((loseLock (enc8 s n) l (s.lane n lane)).2 = true → x.brought = true →
        Completes (.laneLockLoss n lane l) s fun t =>
          t.bit (R.IMG_STATUS n) F.IMG_STATUS_LINK_LOST = true ∧ link t = false ∧ t.bit a ⟨8 + lane, 1⟩ = false ∧
            t.fld (R.IMG_LANE_ERR n) F.IMG_LANE_ERR_LOCK_LOSS = count F.IMG_LANE_ERR_LOCK_LOSS 1 ∧
            t.fld (R.IMG_LANE_ERR n) F.IMG_LANE_ERR_CODE_ERR = count F.IMG_LANE_ERR_CODE_ERR (badUnits l) ∧
            told t ∧ SameMem s t) ∧
      ((loseLock (enc8 s n) l (s.lane n lane)).2 = false → Completes (.laneLockLoss n lane l) s fun t =>
        t.reg a = s.reg a ∧ link t = link s ∧ SameMem s t ∧
          t.fld (R.IMG_LANE_ERR n) F.IMG_LANE_ERR_CODE_ERR = count F.IMG_LANE_ERR_CODE_ERR (badUnits l))
    let adapts : Prop := ∀ b, (link s = false → exec (.rxReadapt n b) s = .next s) ∧
      (link s = true → Completes (.rxReadapt n b) s fun t => t.bit a F.IMG_LANE_STATUS_ADAPT_RUNNING = b ∧
        SameRegs s t (fun r => r = a) ∧ SameMem s t ∧
        t.now = if b then max s.now (x.adaptAt + readaptInterval s) else s.now)
    let sync := syncWord s n
    let fc := R.IMG_FRAME_CFG n
    let hl := min 16 (max 2 (s.fld fc F.IMG_FRAME_CFG_HDR_LEN))
    let total := hl + (imgPixels s n * (10 + 2 * s.fld fc F.IMG_FRAME_CFG_PIX_BITS) + 7) / 8
    let passes : Prop := (∀ lanes, link s = false → exec (.linePacket n lanes [] {} false) s = .next s) ∧
      (link s = true → 2 ≤ w → exec (.linePacket n [sync] [] {} false) s =
        .next ((s.flag (R.IMG_STATUS n) F.IMG_STATUS_SYNC_ERR).raise (Ev.img n 0)))
    let packets : Prop := link s = true → ∀ shares : List (List Byte), shares.length = w →
      (∀ i, i < w → (shares.getD i []).length = (total + w - 1 - i) / w ∧
        laneShare sync ((total + w - 1 - i) / w) ((shares.getD i []).map .data) = some (shares.getD i [])) →
      let row := Instr.linePacket n (shares.map (fun b => sync ++ b.map .data)) [] {} false
      let p := destripe shares w total
      let c := byteAt (s.fld fc F.IMG_FRAME_CFG_COLOUR_OFS) (p.take hl) % 4
      let seq := natAt (s.fld fc F.IMG_FRAME_CFG_SEQ_OFS) (if s.bit fc F.IMG_FRAME_CFG_SEQ_16 then 2 else 1) (p.take hl)
      exec row s = .next (packetBytes n false p s) ∧
      (∀ off, exec (.linePacket n (shares.map (fun b => sync ++ b.map .data)) [] { ecc := .bad, off := off } false) s =
        .next (packetBytes n true p (eccBad false (unitAddr (0x50 + n) off.toNat) s))) ∧
      (c < imgColours s n → matchLine x seq = none → Completes row s fun t =>
        t.bit (R.IMG_STATUS n) F.IMG_STATUS_SEQ_ERR = true ∧ t.imgs = s.imgs ∧ SameMem s t) ∧
      (∀ l, c < imgColours s n → matchLine x seq = some l → l.slots.getD c false = false →
        (l.slots.set c true).all id = false → Completes row s fun t =>
          ∃ b ∈ (t.imgSt n).awaited, b.serial = l.serial ∧ b.slots = l.slots.set c true)
    let timesOut : Prop := ∀ l lost, firstDue x.awaited = some l → Completes (.lineDataTimeout n lost) s fun t =>
      t.bit (R.IMG_STATUS n) F.IMG_STATUS_DATA_TIMEOUT = true ∧
        (t.imgSt n).awaited = x.awaited.filter (fun b => b.serial != l.serial) ∧ l.deadline ≤ t.now ∧ SameMem s t
    stages ∧ loses ∧ adapts ∧ passes ∧ packets ∧ timesOut

/-- R139, R143, R148 to R153: TRIGGER_FIRE for a target whose prediction stands. -/
def Obligations.TriggerFires : Prop :=
  ∀ (s : State) (n : Fin 10) (p : Pred) (w : Swath), s.working = true → imgArmed s n = true →
    (s.imgSt n).pred = some p → (s.imgSt n).invalid = false → (s.imgSt n).hold = none → (s.imgSt n).heldSet = none →
    (s.imgSt n).swaths.getLast? = some w → (capUnit n).waits s = false → (corUnit n).waits s = false →
    let f2 : Int := max (2 * s.now) p.hFire
    let x := imgTarget s n (s.imgSt n).k
    let width := if s.actBit (R.IMG_TRIG_CFG n) F.IMG_TRIG_CFG_EXP_MODE then imgExposure s n
      else max 20 (s.actFld (R.IMG_TIMING n) F.IMG_TIMING_PULSE)
    let gone := fun t : State => (t.imgSt n).pred = none ∧
      (t.imgSt n).k = (if (s.imgSt n).back then (s.imgSt n).k - 1 else (s.imgSt n).k + 1) ∧ t.now = max s.now (f2 / 2).toNat
    ((s.imgSt n).awaited.length < 4 → (s.imgSt n).lastFire2 = none ∨
        (∃ l, (s.imgSt n).lastFire2 = some l ∧ 2 * lineMin s n < f2 - l) →
      Completes (.triggerFire n false false) s fun t => gone t ∧
        t.out = s.out ++ [.lineTrigger n (f2 + 48).toNat width (s.actBit (R.IMG_TRIG_CFG n) F.IMG_TRIG_CFG_LT_INV)] ∧ t.sreg64 (R.IMG_LAST_LO n) = toSigned 64 (ofSigned 64 x) ∧
        t.fld (R.IMG_LINES n) F.IMG_LINES_LINES = (s.fld (R.IMG_LINES n) F.IMG_LINES_LINES + 1) % 2 ^ 32 ∧
        (t.imgSt n).lastFire2 = some f2 ∧ (t.imgSt n).serial = (s.imgSt n).serial + 1 ∧
        (∃ a, (t.imgSt n).awaited = (s.imgSt n).awaited ++ [a] ∧ a.serial = (s.imgSt n).serial ∧
          a.slots = List.replicate (imgColours s n) false) ∧
        t.bit (R.IMG_STATUS n) F.IMG_STATUS_BUSY = true) ∧
    ((s.imgSt n).awaited.length = 4 → (s.imgSt n).lastFire2 = none →
      Completes (.triggerFire n false false) s fun t => gone t ∧
        t.fld (R.IMG_SKIPS n) F.IMG_SKIPS_SKIPS = min (2 ^ 32 - 1) (s.fld (R.IMG_SKIPS n) F.IMG_SKIPS_SKIPS + 1) ∧
        t.bit (R.IMG_STATUS n) F.IMG_STATUS_SKIPPED = true ∧ (t.imgSt n).awaited = (s.imgSt n).awaited ∧
        (t.imgSt n).missed = min 65535 ((s.imgSt n).missed + 1))

/-- R136, R138, R153, R163 to R165: what the other commands of the trigger generator and of the shading loads do. -/
def Obligations.CaptureGenerator : Prop :=
  ∀ (s : State) (n : Fin 10), s.working = true →
    let lineMinEnds : Prop :=
      ∀ l lost, (s.imgSt n).lastFire2 = some l → exec (.lineMinEnd n lost) s =
        .next (((s.lost lost (R.IMG_RACE n)).reach ((l / 2).toNat + lineMin s n)).setBit (R.IMG_STATUS n) F.IMG_STATUS_BUSY false)
    let arms : Prop :=
      s.runActive = true → (s.imgSt n).waitArm = true → (s.imgSt n).blocked = false → (s.imgSt n).load = none →
        (s.imgSt n).loaded = true → (s.engine n).startDone = true → (∀ c : Fin 4, (s.engine (0x20 + c)).owes 2 = false) →
        Completes (.generatorArm n) s fun t =>
          imgArmed t n = true ∧ (t.imgSt n).back = encBack s (imgIface s n) ∧ (t.imgSt n).waitArm = false ∧
            (t.imgSt n).k = firstBeyond s n (encPos s (imgIface s n)) (encBack s (imgIface s n)) ∧
            (t.imgSt n).swaths = (s.imgSt n).swaths ++ [{ back := encBack s (imgIface s n) }]
    let runIgnored : Prop :=
      (s.engine n).running = true → exec (.imgScriptRun n) s = .next s
    let runChooses : Prop :=
      (s.engine n).running = false →
        (∀ o, (scriptsFor s n 4)[s.fld (R.IMG_SCRIPT n) F.IMG_SCRIPT_INDEX]? = some o → (s.engine n).queue = [] →
          Completes (.imgScriptRun n) s fun t => (t.engine n).running = true ∧ (t.engine n).phase = 4 ∧
            (t.engine n).ops = o ∧ t.bit (R.IMG_SCRIPT n) F.IMG_SCRIPT_BUSY = true) ∧
        ((scriptsFor s n 4)[s.fld (R.IMG_SCRIPT n) F.IMG_SCRIPT_INDEX]? = none →
          exec (.imgScriptRun n) s = .next (s.setFld (R.IMG_SCRIPT n) F.IMG_SCRIPT_RESULT 3))
    let loadStarts : Prop :=
      s.bit (R.IMG_COR_CTRL n) F.IMG_COR_CTRL_LOAD_BUSY = false → (corUnit n).waits s = false →
        Completes (.shadingLoad n) s fun t =>
          (t.imgSt n).load = some (s.fld (R.IMG_COR_CTRL n) F.IMG_COR_CTRL_LOAD_SET, false) ∧
            t.bit (R.IMG_COR_CTRL n) F.IMG_COR_CTRL_LOAD_BUSY = true ∧
            t.bit (R.IMG_COR_CTRL n) F.IMG_COR_CTRL_RESIDENT_VALID = false
    let loadIgnored : Prop :=
      s.bit (R.IMG_COR_CTRL n) F.IMG_COR_CTRL_LOAD_BUSY = true →
        Completes (.shadingLoad n) s fun t =>
          t.imgs = s.imgs ∧ t.bit (R.IMG_COR_STATUS n) F.IMG_COR_STATUS_LOAD_ERR = true
    let loadFails : Prop :=
      ∀ set rs off lost, (s.imgSt n).load = some (set, rs) →
        Completes (.shadingLoadDone n ⟨.bad, off⟩ lost) s fun t => (t.imgSt n).load = none ∧
          t.bit (R.IMG_COR_CTRL n) F.IMG_COR_CTRL_LOAD_BUSY = false ∧
          t.bit (R.IMG_COR_STATUS n) F.IMG_COR_STATUS_LOAD_ERR = true ∧
          (t.imgSt n).blocked = ((s.imgSt n).blocked || rs)
    let loadEnds : Prop :=
      ∀ set lost, (s.imgSt n).load = some (set, false) → s.dramOpen (setsBase s n + 0x80000 * set) 0x80000 = true →
        s.bit (R.IMG_COR_CTRL n) F.IMG_COR_CTRL_DUAL = true → set < 4 →
        Completes (.shadingLoadDone n {} lost) s fun t => (t.imgSt n).load = none ∧
          t.bit (R.IMG_COR_CTRL n) F.IMG_COR_CTRL_RESIDENT_VALID = true ∧
          t.fld (R.IMG_COR_CTRL n) F.IMG_COR_CTRL_RESIDENT_SET = set ∧
          (if (s.imgSt n).half then (t.imgSt n).shadeA else (t.imgSt n).shadeB) = readShade s n set
    lineMinEnds ∧ arms ∧ runIgnored ∧ runChooses ∧ loadStarts ∧ loadIgnored ∧ loadFails ∧ loadEnds

/-- R23, R154, R178, R180, R186: LINE_RECORD_COMPLETE and SWATH_END for the port's only swath. -/
def Obligations.CaptureRecords : Prop :=
  ∀ (s : State) (n : Fin 10) (w : Swath), s.working = true → (s.imgSt n).swaths = [w] →
    let output : Tap → Line → List (List Nat) → Prop := fun x ln pix =>
      w.taps[w.decided]? = some x ∧ w.taps.length = w.decided + 1 ∧ x.status = .filled ∧ x.line = some ln ∧
        ln.place.isSome = true ∧ ∃ fl br, outputOf s n w x = some (some (pix, fl, br))
    let room : List (List Nat) → Bool := fun pix => fifoRoom s n (2 * (pix.map (·.length)).sum)
    let behind : State → Rec → Prop := fun t r =>
      ∃ pre, t.queueOf n = s.queueOf n ++ pre ++ [r] ∧ pre.length = (if w.gap.isSome then 1 else 0)
    let lineLeaves : Prop := ∀ x ln pix, output x ln pix → room pix = true →
      Completes (.lineRecordComplete n) s fun t => ∃ r, behind t r ∧ r.typ = 1 ∧ r.src = n.val ∧ r.pos = x.x ∧
        r.time = ln.time ∧ r.speed = ln.speed ∧ r.missed = ln.missed ∧ (w.lines = 0 → hasFlag r.flags 14 = true) ∧
        r.payload = pix.flatten.flatMap (bytesLE 2)
    let lineDropped : Prop := ∀ x ln pix, output x ln pix → room pix = false → w.gap = none →
      Completes (.lineRecordComplete n) s fun t =>
        t.queueOf n = s.queueOf n ∧ t.bit (R.IMG_STATUS n) F.IMG_STATUS_FIFO_OVF = true
    let swathEnds : Prop := ∀ reason p tm, w.ended = some (reason, p, tm) →
      w.taps.all (fun x => x.status != .waits) = true → w.taps.length ≤ w.decided →
      Completes (.swathEnd n) s fun t => (t.imgSt n).swaths = [] ∧
        (s.reg (R.EVT_ROUTE (Ev.img n 3)) ≠ 0 → Ev.img n 3 ∈ t.evPend) ∧
        ∃ r, behind t r ∧ r.typ = 0x11 ∧ r.src = n.val ∧ r.pos = p ∧ r.time = tm ∧ r.payload = []
    lineLeaves ∧ lineDropped ∧ swathEnds

/-- R58, R59, R134, R135, R204 to R206, R224: the operations of a script and its phases. -/
def Obligations.ScriptOperations : Prop :=
  ∀ (s : State) (g : ScriptTarget) (o : ScriptOp) (rest : List ScriptOp), s.working = true →
    let k := targetCode g
    let e := s.engine k
    let next := fun t : State => (t.engine k).ops = rest ∧ (t.engine k).idx = e.idx + 1 ∧ (t.engine k).running = true
    let failed := fun t : State => t.fld (scriptReg k) F.IMG_SCRIPT_RESULT = 2 ∧
      t.fld (scriptReg k) F.IMG_SCRIPT_FAIL_OP = e.idx % 65536 ∧ (t.engine k).running = false ∧
      t.bit (scriptFailFlag k).1 (scriptFailFlag k).2 = true
    let started := fun t : State => (t.engine k).inTransfer = true ∧
      ∃ more, t.out = s.out ++ transferOut s k o ++ more
    e.ops = o :: rest → e.running = true → e.queue = [] →
    let transfers : Prop :=
      ∀ i, (o.op = 1 ∧ i = Instr.scriptWrite g) ∨ (o.op = 2 ∧ i = Instr.scriptCheck g) ∨ (o.op = 3 ∧ i = Instr.scriptPoll g) →
        e.inTransfer = false → e.polling = false → e.waitUntil = none → scriptMay s g = true →
        (scriptNoDevice s k o = false → Completes i s started) ∧ (scriptNoDevice s k o = true → Completes i s failed)
    let waits : Prop :=
      o.op = 4 → e.inTransfer = false → e.polling = false → e.waitUntil = none → scriptMay s g = true →
        (scriptNoDevice s k o = false → Completes (.scriptWait g) s fun t =>
          (t.engine k).waitUntil = some (s.now + 1000 * min 1000000 o.data)) ∧
        (scriptNoDevice s k o = true → Completes (.scriptWait g) s failed)
    let waitEnds : Prop :=
      ∀ u, e.waitUntil = some u → Completes (.scriptWaitEnd g) s fun t => next t ∧ t.now = max s.now u
    let ends : Prop :=
      o.op = 0 → e.inTransfer = false → e.polling = false → e.waitUntil = none → scriptMay s g = true →
        (scriptNoDevice s k o = false → Completes (.scriptEnd g) s fun t => t.fld (scriptReg k) F.IMG_SCRIPT_RESULT = 1 ∧
          (t.engine k).running = false ∧ t.bit (scriptReg k) F.IMG_SCRIPT_BUSY = false) ∧
        (scriptNoDevice s k o = true → Completes (.scriptEnd g) s failed)
    let transferEnds : Prop :=
      ∀ got, e.inTransfer = true →
        let v := valueRead s k o got
        (o.op = 1 → Completes (.scriptTransferDone g got true) s next) ∧
        (o.op ≠ 1 → o.accepts v = true → Completes (.scriptTransferDone g got true) s fun t =>
          next t ∧ t.reg (scriptReadReg k) = v) ∧
        (o.op = 2 → o.accepts v = false → Completes (.scriptTransferDone g got true) s failed) ∧
        (o.op = 3 → o.accepts v = false → Completes (.scriptTransferDone g got true) s fun t =>
          (t.engine k).polling = true ∧ (t.engine k).ops = o :: rest) ∧
        Completes (.scriptTransferDone g got false) s failed
    let pollRepeats : Prop :=
      ∀ p, e.pollFrom = some p →
        (e.polling = true → scriptNoDevice s k o = false → Completes (.scriptPollRetry g false) s fun t =>
          (t.engine k).inTransfer = true ∧
            ∃ more, t.out = s.out ++ transferOut (s.reach (e.pollLast + 100000)) k o ++ more) ∧
        Completes (.scriptPollRetry g true) s fun t => failed t ∧ t.now = max s.now (p + 100000000)
    transfers ∧ waits ∧ waitEnds ∧ ends ∧ transferEnds ∧ pollRepeats

/-- R135, R136, R205, R224: scripts that the stop of a run or a RUN write starts. -/
def Obligations.ScriptPhases : Prop :=
  ∀ s : State, s.working = true →
    let starts := fun (t : State) (k phase : Nat) (ops : List ScriptOp) =>
      (t.engine k).running = true ∧ (t.engine k).phase = phase ∧ (t.engine k).ops = ops ∧
        t.bit (scriptReg k) F.IMG_SCRIPT_BUSY = true
    let chosen := fun k : Nat => (scriptsFor s k 4)[s.fld (scriptReg k) F.IMG_SCRIPT_INDEX]?
    let runWrite : Nat → Instr → Prop := fun k i =>
      ((s.engine k).running = true → exec i s = .next s) ∧
      ((s.engine k).running = false → (s.engine k).queue = [] → ∀ o, chosen k = some o →
        Completes i s fun t => starts t k 4 o) ∧
      ((s.engine k).running = false → chosen k = none →
        exec i s = .next (s.setFld (scriptReg k) F.IMG_SCRIPT_RESULT 3))
    let runStop : Prop := ∀ g : ScriptTarget, targetCode g ∈ s.stopScripts → s.runActive = false →
      runStopReached s g = true → (s.engine (targetCode g)).running = false → (s.engine (targetCode g)).queue = [] →
      Completes (.scriptPhaseRunStop g) s fun t =>
        t.stopScripts = NatSet.erase s.stopScripts (targetCode g) ∧
          (∀ o l, scriptsFor s (targetCode g) 3 = o :: l → starts t (targetCode g) 3 o)
    (∀ n : Fin 10, runWrite n (.imgScriptRun n)) ∧ (∀ n : Fin 4, runWrite (0x20 + n) (.lcScriptRun n)) ∧
      (∀ n : Fin 4, runWrite (0x10 + n) (.tpScriptRun n)) ∧ runStop

/-- R196 to R201, R211 to R213: DRIVE_WORD_COMPUTE_DONE, LAMP_SHIFT_END, LAMP_BLANK_PERIOD, the windows' commands and
MATRIX_ROW_SLOT. -/
def Obligations.LampFrames : Prop :=
  ∀ (s : State) (n : Fin 4), s.working = true →
    let x := s.lamp n
    let latches := fun t : State => ∀ f, x.frame = some f → f.shifted = true →
      (t.lamp n).latched = some f ∧
        t.fld (R.LC_FRAMES n) F.LC_FRAMES_FRAMES = (s.fld (R.LC_FRAMES n) F.LC_FRAMES_FRAMES + 1) % 2 ^ 32
    let computed : Prop := ∀ w nx, x.computing = some (w, nx) → x.again = false →
      Completes (.driveWordComputeDone n) s fun t => (t.lamp n).words = w ∧ (t.lamp n).computing = none ∧
        (t.lamp n).next = (if (lampUnit n).waits s then nx else none)
    let shifted : Prop := ∀ f bits, x.frame = some f → f.shifted = false → f.relatch = false → strobeIdle s n = false →
      let bad := bits % 2 ^ frameBits s n = 0 ∨ bits % 2 ^ frameBits s n = 2 ^ frameBits s n - 1
      Completes (.lampShiftEnd n bits false) s fun t =>
        (t.lamp n).frame = some { f with shifted := true } ∧ t.bit (R.LC_STATE n) F.LC_STATE_SHIFTING = false ∧
          (t.bit (R.LC_STATE n) F.LC_STATE_CHAIN_ERR = true ↔ bad) ∧ ((t.lamp n).errOpen = true ↔ bad)
    let due : Nat → Nat := fun step => max s.now ((x.blkAt.map (· + step)).getD s.now)
    let blanks : Prop := lampMode s n = 0 → lampRuns s n = true → lampScripting s n = false →
      Completes (.lampBlankPeriod n) s fun t =>
        (t.lamp n).blk = false ∧ t.now = due (lampPeriod s n) + 200 ∧ latches t
    let rowSlot : Prop := lampMode s n = 2 → lampRuns s n = true → lampScripting s n = false →
      ∀ f, x.frame = some f → f.shifted = true →
      Completes (.matrixRowSlot n) s fun t => (t.lamp n).row = f.row ∧ (t.lamp n).rowOn = true ∧
        (t.lamp n).blk = false ∧ latches t ∧ t.now = due (lampPeriod s n / lampRows s n) +
          10 * min 2000 (max 20 (s.fld (R.LC_MATRIX n) F.LC_MATRIX_ROW_BLANK))
    let arrives : Prop := ∀ (p : Fin 10) w, s.windows.find? (fun v => v.port == p.val && !v.here) = some w →
      Completes (.exposureWindowArrival p) s fun t =>
        t.windows = s.windows.map (fun v => if v = w then { v with here := true } else v) ∧
          (n.val ∈ strobesOf s p → lampRuns s n = true → (t.lamp n).blk = false)
    let windowEnds : Prop := ∀ (p : Fin 10) w, s.windows.find? (fun v => v.port == p.val && v.here) = some w →
      Completes (.exposureWindowEnd p none) s fun t => t.windows = s.windows.erase w ∧
        t.now = max s.now (w.end2 / 2).toNat ∧
        (n.val ∈ strobesOf s p → lampRuns s n = true → (t.lamp n).blk = true ∧ latches t)
    computed ∧ shifted ∧ blanks ∧ rowSlot ∧ arrives ∧ windowEnds

/-- R201, R202, R205, R209, R211, R213, R217: LC_COMMIT, LCN_TEMP_WRITE, LAMP_TEMP_STALE, GROUP_RESTORE and
LAMP_CHAIN_ENABLE. -/
def Obligations.LampSettings : Prop :=
  ∀ (s : State) (n : Fin 4), s.working = true →
    let x := s.lamp n
    let commits : Prop := (lampUnit n).waits s = false → x.computing = none →
      let u := (lampUnit n).commit s
      let d := derateOf u n (lampT u n)
      Completes (.lcCommit n false) s fun t => (lampUnit n).waits t = true ∧
        (t.lamp n).computing = some (chainWords u n d false, some (chainWords u n d true))
    let commitWaits : Prop := (lampUnit n).waits s = true → exec (.lcCommit n false) s = .next s
    let tempWritten : Prop := ∀ v, Completes (.lcnTempWrite n v) s fun t =>
      t.reg (R.LC_TEMP n) = (s.reg (R.LC_TEMP n)).put F.LC_TEMP_T v.toNat ∧
        lampT t n = (if s.fld (R.LC_CFG n) F.LC_CFG_TEMP_MODE = 2 then v.toInt else x.temp)
    let stale : Prop := ∀ t0, x.tempTime = some t0 → s.fld (R.LC_CFG n) F.LC_CFG_TEMP_MODE = 1 → x.tempOld = false →
      exec (.lampTempStale n) s = .next ((((s.reach (t0 + 1000000000)).setLamp n { x with tempOld := true }).flag
        (R.LC_STATE n) F.LC_STATE_TEMP_STALE).raise (Ev.lamp n 4))
    let restores : Prop := ∀ g : Fin 8, x.restore.all (fun r => r.1 != g.val) = true →
      Completes (.groupRestore n g {}) s fun t =>
        t.reg (R.LCG_STATE n g) = (s.reg (R.LCG_STATE n g)).put F.LCG_STATE_FAULT 0 ∧
          (t.lamp n).restore = (if groupState s n g < 2 then x.restore
            else x.restore ++ [(g.val, List.range (lampRows s n))])
    let setWins : Prop := ∀ g : Fin 8, exec (.groupRestore n g ⟨true, true⟩) s = .next (s.lost true (R.LC_RACE n))
    let enabled : Prop := s.runActive = false → lampOn s n = false → x.up = false → x.frame = none →
      let u := s.setBit (R.LC_CFG n) F.LC_CFG_ENABLE true
      Completes (.lampChainEnable n) s fun t => lampOn t n = true ∧ (t.lamp n).up = true ∧
        (t.lamp n).held = matrixRefused u n ∧ (t.lamp n).words = chainWords u n (derateOf u n (lampT u n)) false
    let refused : Prop := s.runActive = true → Completes (.lampChainEnable n) s fun t =>
      t.reg (R.LC_CFG n) = s.reg (R.LC_CFG n) ∧ t.bit (R.LC_STATE n) F.LC_STATE_CFG_REFUSED = true ∧ t.lamps = s.lamps
    commits ∧ commitWaits ∧ tempWritten ∧ stale ∧ restores ∧ setWins ∧ enabled ∧ refused

/-- R214, R215: LAMP_SHIFT_END with one fault, while the chain has no group waiting to be relit. -/
def Obligations.LampFaults : Prop :=
  ∀ (s : State) (n : Fin 4) (f g : LampFrame) (bits e : Nat), s.working = true →
    (s.lamp n).frame = some f → f.shifted = false → f.relatch = false → strobeIdle s n = false →
    (s.lamp n).latched = some g → (s.lamp n).restore = [] →
    bits % 2 ^ frameBits s n ≠ 0 → bits % 2 ^ frameBits s n ≠ 2 ^ frameBits s n - 1 →
    faultyChannels s n bits g.row = [e] →
    let k := groupOf s n e
    s.actBit (R.LCG_CFG n k) F.LCG_CFG_ALL_OR_NONE = true →
    Completes (.lampShiftEnd n bits false) s fun t =>
      groupState t n k = 2 ∧ t.bit (R.LCG_STATE n k) F.LCG_STATE_FAULT = true ∧
        t.fld (R.LCG_STATE n k) F.LCG_STATE_FAILED =
          satAdd (2 ^ F.LCG_STATE_FAILED.width - 1) (s.fld (R.LCG_STATE n k) F.LCG_STATE_FAILED) 1 ∧
        (t.lamp n).openG.contains k = true

/-- R221 to R223, R244, R246, R258, R279: TP_ENABLE, TP_DISABLE, TP_EN_DELAY_END, TP_COMMIT, COEF_RESIDENT_FETCH_DONE. -/
def Obligations.ThermalPower : Prop :=
  ∀ (s : State) (n : Fin 4), s.working = true →
    let x := s.tp n
    let on := fun t : State => t.bit (R.TP_IF_CFG n) F.TP_IF_CFG_ENABLE
    let enables : Prop := s.runActive = false → on s = false → x.stage = 0 →
      Completes (.tpEnable n) s fun t => on t = true ∧ (t.tp n).stage = 1 ∧ t.reg (R.TP_REF_STATUS n) = 0xFF ∧
        (t.tp n).delayEnd = s.now + 1000000 * s.fld (R.TP_IF_CFG n) F.TP_IF_CFG_EN_DELAY ∧
        (t.engine (0x10 + n)).upOk = false ∧ tpEnPin t n = true ∧
        tpMclk t n = some (min 160 (max 20 (s.fld (R.TP_IF_CFG n) F.TP_IF_CFG_MCLK_DIV)))
    let disables : Prop := s.runActive = false → on s = true →
      Completes (.tpDisable n) s fun t => on t = false ∧ (t.tp n).stage = 0 ∧ (t.tp n).frames = [] ∧
        t.bit (R.TP_LINK n) F.TP_LINK_LOCKED = false ∧ t.bit (R.TP_STATUS n) F.TP_STATUS_RUNNING = false ∧
        t.bit (R.TP_STATUS n) F.TP_STATUS_PORT_READY = false ∧ tpEnPin t n = false ∧ tpMclk t n = none
    let refused : Prop := s.runActive = true → ∀ i, i = Instr.tpEnable n ∨ i = Instr.tpDisable n →
      Completes i s fun t => t.reg (R.TP_IF_CFG n) = s.reg (R.TP_IF_CFG n) ∧ t.tps = s.tps ∧
        t.bit (R.TP_STATUS n) F.TP_STATUS_CFG_REFUSED = true
    let delayEnds : Prop := x.stage = 1 →
      Completes (.tpEnDelayEnd n) s fun t => (t.tp n).stage = 2 ∧ t.now = max s.now x.delayEnd
    let commits : Prop := ∀ lost, exec (.tpCommit n lost) s =
      .next ((s.lost lost (R.TP_RACE n)).setBit (R.TP_CTRL n) F.TP_CTRL_COMMIT_PENDING true)
    let fetched : Prop := x.fetching = true → ∀ e : SpanRead,
      (e.ecc ≠ .bad → Completes (.coefResidentFetchDone ⟨n, e⟩) s fun t =>
        (t.tp n).coefs.isSome = true ∧ (t.tp n).fetching = false ∧
          t.bit (R.TP_LINE_CFG n) F.TP_LINE_CFG_COEF_RESIDENT = true) ∧
      (e.ecc = .bad → nucInDram s (s.reg64 (R.TP_NUC_BASE_LO n)) = true →
        exec (.coefResidentFetchDone ⟨n, e⟩) s =
          .next (eccBad true (s.reg64 (R.TP_NUC_BASE_LO n) + e.off) s))
    enables ∧ disables ∧ refused ∧ delayEnds ∧ commits ∧ fetched

/-- R24, R225 to R228, R230, R232, R235, R253, R278, R417: FRAME_BOUNDARY, FPA_ROW, COEF_ROWS_ARRIVE,
THERMAL_SAMPLE_COMPLETE. -/
def Obligations.ThermalFrames : Prop :=
  ∀ (s : State) (n : Fin 4), s.working = true →
    let x := s.tp n
    let boundary : Prop := 2 ≤ x.stage → (s.engine (0x10 + n)).upOk = true →
      s.actBit (R.TP_FRAME_CFG n) F.TP_FRAME_CFG_SYNC_SRC = false →
      ∀ lost, Completes (.frameBoundary n lost) s fun t => (t.tp n).stage = 3 ∧ (t.tp n).count = x.count + 1 ∧
        (t.tp n).boundary = some t.now ∧ t.bit (R.TP_STATUS n) F.TP_STATUS_RUNNING = true ∧
        t.now = (x.boundary.map (fun b => max s.now (b + framePeriod s n))).getD s.now ∧
        ∃ w low, .frameSync n t.now w (mclkDiv (s.reg (R.TP_IF_CFG n))) low ∈ t.out ∧ ((tpUnit n).waits s = false →
          w = max 1 (s.actFld (R.TP_FRAME_CFG n) F.TP_FRAME_CFG_SYNC_W) ∧
          low = ((s.reg (R.TP_IF_CFG n)).get F.TP_IF_CFG_SYNC_INV == 1))
    let inPlace : TFrame → List FpaLane → Prop := fun f lanes =>
      let hdr := ((lanes.head?).map (·.hdr.toNat)).getD 0
      let k := lanesOf (f.reg (R.TP_IF_CFG n))
      hdr % 2048 = f.next ∧ (32768 ≤ hdr ↔ f.next = 0) ∧ (f.next ≠ 0 → x.skip = false) ∧
        ∀ i, i < k → ((lanes[i]?).map (·.words.length)).getD 0 = (f.cols n + (f.blind n).2 + k - 1) / k
    let aligned : List FpaLane → Prop := fun lanes =>
      x.stage = 3 ∧ s.bit (R.TP_LINK n) F.TP_LINK_LOCKED = true ∧
        ∀ i, i < lanesOf (ifWord s n) → x.hits.getD i 0 = 4 ∧ (lanes[i]?).map (·.sync.toNat) =
          some ((tpTaken s n 1 (R.TP_SYNC_CODE n)).get F.TP_SYNC_CODE_SYNC_ROW)
    let goodRow : Prop := ∀ f lanes, awaiting s n = some f → aligned lanes → inPlace f lanes → coefLate s n f = false →
      ∀ lost, Completes (.fpaRow n lanes {} lost) s fun t => ∃ g ∈ (t.tp n).frames, g.id = f.id ∧ g.next = f.next + 1
    let badRow : Prop := ∀ f lanes, awaiting s n = some f → aligned lanes → x.skip = false →
      ((lanes.head?).map (·.hdr.toNat)).getD 0 < 32768 →
      ((lanes.head?).map (·.hdr.toNat)).getD 0 % 2048 ≠ f.next →
      ∀ lost, Completes (.fpaRow n lanes {} lost) s fun t =>
        t.bit (R.TP_STATUS n) F.TP_STATUS_ROW_ERR = true ∧
        t.fld (R.TP_LINK n) F.TP_LINK_ROW_ERRS =
          satAdd (2 ^ F.TP_LINK_ROW_ERRS.width - 1) (s.fld (R.TP_LINK n) F.TP_LINK_ROW_ERRS) 1 ∧
        ∀ g ∈ (t.tp n).frames, g.id = f.id → g.lost.isSome = true
    let coefs : Prop := ∀ f (k : Fin 33) base, awaiting s n = some f →
      base = (f.reg (R.TP_NUC_BASE_LO n)).toNat + 2 ^ 32 * (f.reg (R.TP_NUC_BASE_HI n)).toNat → nucInDram s base = true →
      let there_ := f.next - (f.blind n).1 + f.ring.length
      let more := min ((if f.lineMode n then 16 else 32) - f.ring.length) (min k ((f.window n).2 - there_))
      ∀ lost, Completes (.coefRowsArrive n ⟨k, {}⟩ lost) s fun t => ∃ g ∈ (t.tp n).frames, g.id = f.id ∧
        g.next = f.next ∧ g.rows = f.rows ∧ g.ring = f.ring ++ (List.range more).map (fun i =>
          (List.range (f.cols n)).map (fun c =>
            nucEntry s base (f.cfg n F.TP_FRAME_CFG_NUC_SET) (f.cols n) ((f.window n).1 + there_ + i) c))
    let coefsLost : Prop := ∀ f (k : Fin 33) off, awaiting s n = some f → 0 < k.val →
      f.next - (f.blind n).1 + f.ring.length < (f.window n).2 → f.ring.length < ringRows f n →
      nucInDram s ((f.reg (R.TP_NUC_BASE_LO n)).toNat + 2 ^ 32 * (f.reg (R.TP_NUC_BASE_HI n)).toNat) = true →
      ∀ lost, Completes (.coefRowsArrive n ⟨k, ⟨.bad, off⟩⟩ lost) s fun t =>
        ∀ g ∈ (t.tp n).frames, g.id = f.id → g.lost.isSome = true
    let leaves : Prop := ∀ f no, x.frames = [f] → f.done = true → f.lost = none → f.no = some no → f.withheld = false →
      (s.engine (0x10 + n)).startFailed = false →
      f.lineMode n = false → f.cfg n F.TP_FRAME_CFG_POS_EN = 0 → x.gap = none → x.shutGap = none →
      Completes (.thermalSampleComplete ⟨n, {}⟩) s fun t => (t.tp n).frames = [] ∧
        t.reg (R.TP_FRAME_NO n) = BitVec.ofNat 32 no ∧
        ∃ r more, t.queueOf (0x10 + n) = s.queueOf (0x10 + n) ++ [r] ++ more ∧ r.typ = 2 ∧ r.src = 0x10 + n.val ∧
          r.pos = 0 ∧ r.time = (f.recTime n).toNat
    boundary ∧ goodRow ∧ badRow ∧ coefs ∧ coefsLost ∧ leaves

/-- R247, R248, R251, R260, R262, R266, R268: DEF_EDIT_ADD, DEF_EDIT_DELETE, FPA_SLOT_WRITE_DONE, SHUTTER_REQUEST,
SHUTTER_ABORT, SHUTTER_POSTPASS_DONE. -/
def Obligations.ThermalTables : Prop :=
  ∀ (s : State) (n : Fin 4), s.working = true →
    let x := s.tp n
    let edited : Nat → Instr → Prop := fun w i =>
      (x.edits.length < 16 → exec i s = .next ((s.setTp n { x with edits := x.edits ++ [BitVec.ofNat 32 w] }).setFld
        (R.TP_DEF_STATUS n) F.TP_DEF_STATUS_QUEUED (x.edits.length + 1))) ∧
      (16 ≤ x.edits.length → exec i s = .next ((s.satInc (R.TP_DEF_STATUS n) F.TP_DEF_STATUS_REFUSED).raise (Ev.tp n 4)))
    let edits : Prop := ∀ (rule : Fin 8) (row col : Fin 2048),
      edited (rule * 2 ^ 28 + row * 2 ^ 16 + col) (.defEditAdd n rule row col false) ∧
        edited (2 ^ 31 + row * 2 ^ 16 + col) (.defEditDelete n row col false)
    let writing := s.bit (R.TP_STATUS n) F.TP_STATUS_FPA_WRITING
    let slotA := s.inForce (R.TP_FPA_REG_A n (x.slot + 1))
    let flagged := fun t : State => t.bit (R.TP_STATUS n) F.TP_STATUS_FPA_WRITING = false ∧
      (t.tp n).flagLeft = min 7 (max 2 (s.actFld (R.TP_FPA_CFG n) F.TP_FPA_CFG_FLAG_FRAMES))
    let slots : Prop := writing = true →
      (x.slot + 1 < fpaSlots s n → Completes (.fpaSlotWriteDone n true) s fun t => (t.tp n).slot = x.slot + 1 ∧
        t.out = s.out ++ [.i2c n (i2cSpeed (ifWord s n)) (slotA.get F.TP_FPA_REG_A_DEV)
          (bytesBE (slotA.get F.TP_FPA_REG_A_WIDTH % 16) (slotA.get F.TP_FPA_REG_A_ADDR) ++
            bytesBE (slotA.get F.TP_FPA_REG_A_WIDTH / 16) (s.inForce (R.TP_FPA_REG_B n (x.slot + 1))).toNat) 0]) ∧
      (fpaSlots s n ≤ x.slot + 1 → Completes (.fpaSlotWriteDone n true) s flagged) ∧
      Completes (.fpaSlotWriteDone n false) s fun t =>
        flagged t ∧ t.bit (R.TP_STATUS n) F.TP_STATUS_FPA_WRITE_ERR = true
    let requests : Prop := (x.ev = none → exec (.shutterRequest n false) s =
        .next (s.setTp n { x with hostReq := x.hostReq || false, frondReq := x.frondReq || true })) ∧
      (∀ e, x.ev = some e → e.phase ≠ 5 → exec (.shutterRequest n false) s =
        .next (s.satInc (R.TP_SHUT_COUNT n) F.TP_SHUT_COUNT_MERGED))
    let aborts : Prop := ∀ e, x.ev = some e → exec (.shutterAbort n) s = .next (s.setTp n { x with abortReq := true })
    let postpass : Prop := ∀ e, x.ev = some e → e.phase = 3 →
      Completes (.shutterPostpassDone n) s fun t =>
        (t.tp n).ev = some { e with phase := 4, left := openWaitOf e.cfg } ∧ (t.tp n).newPlane.isSome = true ∧
          t.fld (R.TP_SHUT_STATUS n) F.TP_SHUT_STATUS_PHASE = 4
    edits ∧ slots ∧ requests ∧ aborts ∧ postpass

/-- R293, R297 to R300, R302, R304; log entries 103 and 104: MEAS_TRIGGER, MEAS_URGENT, MEAS_COMMIT,
TRIGGER_DELAY_END, CONVERSION_START, EXC_SETTLE_END. -/
def Obligations.PrecisionTriggers : Prop :=
  ∀ (s : State) (k : Fin 16) (m : Fin 2), s.working = true →
    let pending := fun t : State => t.bit (R.M_CTRL k) F.M_CTRL_PENDING
    let waits : Prop := measMode s k = 2 → pending s = false →
      Completes (.measTrigger k false) s fun t => pending t = true ∧ t.prec.queue = s.prec.queue ∧
        (t.meas k).delay = some (s.now + 100 * s.actFld (R.M_TRIG k) F.M_TRIG_DELAY)
    let overruns : Prop := measMode s k = 2 → pending s = true → exec (.measTrigger k false) s =
      .next (((s.flag (R.M_STATUS k) F.M_STATUS_OVERRUN).satInc (R.M_STATUS k) F.M_STATUS_OVERRUNS).raise 400)
    let ignored : Prop := measMode s k = 1 →
      exec (.measTrigger k false) s = .next s ∧ exec (.measUrgent k false) s = .next s
    let urgent : Prop := measMode s k = 2 → s.prec.queue.all (fun r => !(r.k == k.val && !r.imp && r.urgent)) = true →
      Completes (.measUrgent k false) s fun t => pending t = true ∧
        t.prec.queue = enqueue (s.prec.queue.filter (fun r => !(r.k == k.val && !r.imp))) ⟨k, false, true, s.now⟩
    let commits : Prop := modeOf (s.reg (R.M_CFG k)) ≠ 0 →
      exec (.measCommit k false) s = .next (s.setBit (R.M_CTRL k) F.M_CTRL_COMMIT_PENDING true)
    let cuts : Prop := modeOf (s.reg (R.M_CFG k)) = 0 → measMode s k = 2 → (s.mod m).run = some k.val →
      (s.mod (1 - m : Fin 2)).run ≠ some k.val → Completes (.measCommit k false) s fun t => t.mod m = {} ∧
        measMode t k = 0 ∧ t.bit (R.M_STATUS k) F.M_STATUS_BUSY = false ∧
        ∃ r, t.prec.results = s.prec.results ++ [r] ∧ r.k = k.val ∧ r.invalid = true
    let held := s.prec.queue.any (fun r => r.k == k.val && !r.imp)
    let queued : Prop := ∀ at_, (s.meas k).delay = some at_ →
      Completes (.triggerDelayEnd k) s fun t => (t.meas k).delay = none ∧ t.now = max s.now at_ ∧ pending t = true ∧
        t.prec.queue = (if held then s.prec.queue else enqueue s.prec.queue ⟨k, false, false, at_⟩) ∧
        (held = true → t.bit (R.M_STATUS k) F.M_STATUS_OVERRUN = true)
    let begins : Prop := ∀ r, nextReq s m = some r → r.k = k → r.imp = false → s.prec.cal = none →
      (s.mod m).test = none → (s.mod m).run = none → refReady s m = true → (measUnit k).waits s = false →
      measMode s k = 2 → s.actFld (R.M_CFG k) F.M_CFG_MOD = m.val → pinFree s m (s.inForce (R.M_EXC k)) false = true →
      Completes (.conversionStart m false) s fun t => t.mod m = { run := some k.val, startAt := s.now } ∧
        t.bit (R.M_STATUS k) F.M_STATUS_BUSY = true ∧ t.prec.queue = s.prec.queue.filter (· != r)
    let settles : Prop := ∀ j, (s.mod m).run = some j → (s.mod m).waits = false → (s.mod m).settled = false →
      let exc := s.inForce (R.M_EXC j)
      let time := if exc.get F.M_EXC_EXC_EN = 1 then 100000 * min 100 (max 1 (exc.get F.M_EXC_EXC_SETTLE)) else 1000
      exec (.excSettleEnd m) s = .next ((s.reach ((s.mod m).startAt + time)).setMod m
        { s.mod m with settled := true, sup := 4, pos := 0, sum := 0 })
    waits ∧ overruns ∧ ignored ∧ urgent ∧ commits ∧ cuts ∧ queued ∧ begins ∧ settles

/-- R291 to R293, R298, R304, R310: MODULATOR_SAMPLE of a triggered conversion and RESULT_PUBLISH. -/
def Obligations.PrecisionResults : Prop :=
  ∀ (s : State) (k : Fin 16) (m : Fin 2), s.working = true →
    let x := s.mod m
    let cfg := s.inForce (R.M_CFG k)
    let gain := cfg.get F.M_CFG_GAIN
    let runs : Prop := x.run = some k.val ∧ x.settled = true ∧ measMode s k = 2 ∧ x.test = none ∧ s.prec.cal = none ∧
      refReady s m = true
    let corrected : Nat → Int := fun code =>
      clampInt (-(2 ^ 23)) (2 ^ 23 - 1) (((toSigned 24 code - toSigned 32 (s.reg (R.PREC_CAL_OFS m gain)).toNat) *
        (s.reg (R.PREC_CAL_GAIN m gain)).toNat + 2 ^ 21) / 2 ^ 22)
    let suppressed : Prop := ∀ code low high at_, runs → 0 < x.sup →
      Completes (.modulatorSample m code low high at_) s fun t => (t.mod m).sup = x.sup - 1 ∧ t.prec.results = s.prec.results ∧
        (t.mod m).sum = x.sum ∧ t.now = max s.now at_
    let single : Prop := ∀ code low high at_, runs → x.sup = 0 → x.pos = 0 → x.sum = 0 → x.phase2 = false →
      avgExp cfg = 0 → threeWire cfg = false →
      Completes (.modulatorSample m code low high at_) s fun t => t.mod m = {} ∧
        t.bit (R.M_STATUS k) F.M_STATUS_BUSY = false ∧
        ∃ r, t.prec.results = s.prec.results ++ [r] ∧ r.k = k.val ∧ r.raw = some (corrected code) ∧ r.invalid = false
    let published : Prop := ∀ r raw v tm, s.prec.results.find? (fun r => r.k == k.val) = some r → r.raw = some raw →
      r.value = some v → r.time = some tm → r.invalid = false →
      Completes (.resultPublish k false) s fun t => t.prec.results = s.prec.results.erase r ∧
        t.reg (R.M_RAW k) = BitVec.ofNat 32 (ofSigned 32 raw) ∧
        t.sreg64 (R.M_VALUE_LO k) = toSigned 64 (ofSigned 64 v) ∧ t.reg64 (R.M_TIME_LO k) = tm % 2 ^ 64 ∧
        t.fld (R.M_STATUS k) F.M_STATUS_SEQ =
          (s.fld (R.M_STATUS k) F.M_STATUS_SEQ + 1) % 2 ^ F.M_STATUS_SEQ.width ∧
        t.bit (R.M_STATUS k) F.M_STATUS_INVALID = false ∧ t.bit (R.M_STATUS k) F.M_STATUS_OPEN = r.cut ∧
        t.bit (R.M_STATUS k) F.M_STATUS_SAT = r.sat
    let invalid : Prop := ∀ r, s.prec.results.find? (fun r => r.k == k.val) = some r → r.invalid = true →
      Completes (.resultPublish k false) s fun t => t.reg (R.M_RAW k) = s.reg (R.M_RAW k) ∧
        t.sreg64 (R.M_VALUE_LO k) = s.sreg64 (R.M_VALUE_LO k) ∧ t.bit (R.M_STATUS k) F.M_STATUS_INVALID = true
    suppressed ∧ single ∧ published ∧ invalid

/-- R305, R306, R308, R312 to R314; log entry 102: CAL_START, CAL_GAIN_DONE, IMP_TEST_DUE, IMP_TEST_DONE, REF_SETTLED,
LOOP_TICK, LOOP_COMMIT, LOOP_VALUE_WRITE. -/
def Obligations.PrecisionService : Prop :=
  ∀ (s : State) (m n : Fin 2), s.working = true →
    let calBusy := fun t : State => t.bit R.PREC_CTRL F.PREC_CTRL_CAL_BUSY
    let calBegins : Prop := s.prec.cal = none → s.fld R.PREC_CTRL F.PREC_CTRL_CAL_GAINS ≠ 0 →
      Completes .calStart s fun t => calBusy t = true ∧ t.prec.cal =
        some ((List.range 8).filter (fun i => s.fld R.PREC_CTRL F.PREC_CTRL_CAL_GAINS / 2 ^ i % 2 == 1))
    let inRange : Int → Nat → Prop := fun o g => 0x39999A ≤ g ∧ g ≤ 0x466666 ∧ o.natAbs < 2 ^ 19
    let gainEnds : Prop := ∀ o0 g0 o1 g1 g l, s.prec.cal = some (g :: l) → g < 8 → (s.mod 0).run = none →
      (s.mod 1).run = none → (s.mod 0).test = none → (s.mod 1).test = none →
      Completes (.calGainDone o0 g0 o1 g1) s fun t => calBusy t = (if l = [] then false else calBusy s) ∧
        t.prec.cal = (if l = [] then none else some l) ∧
        (inRange o0 g0 → t.reg (R.PREC_CAL_GAIN 0 g) = BitVec.ofNat 32 g0 ∧
          t.reg (R.PREC_CAL_OFS 0 g) = BitVec.ofNat 32 (ofSigned 32 o0) ∧ t.bit R.PREC_CAL_DONE ⟨g, 1⟩ = true) ∧
        (¬ inRange o1 g1 → t.reg (R.PREC_CAL_GAIN 1 g) = s.reg (R.PREC_CAL_GAIN 1 g) ∧
          t.bit R.PREC_CTRL F.PREC_CTRL_CAL_ERR = true)
    let testDue : Prop := ∀ k : Fin 16, s.actFld (R.M_IMP_CFG k) F.M_IMP_CFG_IMP_INTERVAL ≠ 0 →
      s.prec.queue.all (fun r => !(r.k == k.val && r.imp)) = true →
      let due := (s.meas k).impFrom.getD s.boot.startAt + 10 ^ 9 * s.actFld (R.M_IMP_CFG k) F.M_IMP_CFG_IMP_INTERVAL
      exec (.impTestDue k) s = .next (setPrecQueue ((s.reach due).setMeas k { s.meas k with impFrom := some due })
        (enqueue s.prec.queue ⟨k, true, false, due⟩))
    let testDone : Prop := ∀ (k : Fin 16) ohms, (s.mod m).test = some k.val →
      Completes (.impTestDone m ohms) s fun t => (t.mod m).test = none ∧
        t.reg (R.M_IMPED k) = BitVec.ofNat 32 (min 0xFFFFFFFF ohms) ∧
        (t.bit (R.M_STATUS k) F.M_STATUS_HIGH_Z = true ↔ s.actFld (R.M_IMP_CFG k) F.M_IMP_CFG_IMP_LIMIT < ohms)
    let refReadies : Prop := refReady s m = false → exec (.refSettled m) s =
      .next (suppress ((s.setBit R.PREC_REF (refReadyFld m) true).raise 404) m)
    let ticks : Prop := ∀ tm rb v at_, (loopUnit n).waits s = false → loopSource s n = (v, some at_, false) →
      let lo := toSigned 32 (s.inForce (R.LOOP_LO n)).toNat
      let hi := toSigned 32 (s.inForce (R.LOOP_HI n)).toNat
      s.actFld (R.LOOP_CFG n) F.LOOP_CFG_ENABLE = 1 → lo ≠ hi → s.bit (R.LOOP_CTRL n) F.LOOP_CTRL_FAIL = false →
      max s.now tm ≤ at_ + 10000000 * max 1 (s.actFld (R.LOOP_CFG n) F.LOOP_CFG_TIMEOUT) →
      Completes (.loopTick n tm rb false false) s fun t => t.now = max s.now tm ∧
        t.fld (R.LOOP_READ n) F.LOOP_READ_SETPOINT =
          (clampInt 3800 20500 (4000 + divRound (16000 * (v - lo)) (hi - lo))).toNat ∧
        t.fld (R.LOOP_READ n) F.LOOP_READ_READBACK = min 0xFFFF rb ∧ t.fld (R.LOOP_STATUS n) F.LOOP_STATUS_STATE = 1 ∧
        t.bit (R.LOOP_STATUS n) F.LOOP_STATUS_SRC_STALE = false
    let loopCommits : Prop := exec (.loopCommit n false) s =
      .next (s.setBit (R.LOOP_CTRL n) F.LOOP_CTRL_COMMIT_PENDING true)
    let loopWritten : Prop := ∀ v, exec (.loopValueWrite n v false) s =
      .next ((s.setReg (R.LOOP_VALUE n) v).setLoop n { s.loop n with writtenAt := some s.now })
    calBegins ∧ gainEnds ∧ testDue ∧ testDone ∧ refReadies ∧ ticks ∧ loopCommits ∧ loopWritten

/-- R323, R325, R347: the commands written to AXIS_n_CMD; `lost`: the write met a tick, and one of them lost. -/
def Obligations.AxisCommands : Prop :=
  ∀ (s : State) (n : Fin 8) (lost : Bool), s.working = true →
    let resumable := s.bit (R.AXIS_STATUS n) F.AXIS_STATUS_RESUMABLE
    let st := s.fld (R.AXIS_STATUS n) F.AXIS_STATUS_STATE
    let refused := s.flagEvent (R.AXIS_STATUS n) F.AXIS_STATUS_CMD_REFUSED (Ev.axis n 7)
    let raced := fun t : State => t.lost lost (R.AXIS_RACE n)
    let row : Nat → Instr → Prop → Prop := fun c i ok =>
      (ok → (axUnit n).waits s = false → exec i s = .next (raced (s.setAxis n { s.axis n with cmd := some c }))) ∧
      (¬ ok ∨ (axUnit n).waits s = true → exec i s = .next (raced refused))
    row 1 (.axisMove n lost) (st = 1 ∨ st = 2 ∨ st = 6 ∨ st = 7) ∧
    row 2 (.axisTable n lost) (st = 1 ∨ st = 6) ∧
    row 3 (.axisHome n lost) (st = 1 ∨ st = 6) ∧
    row 4 (.axisStop n lost) (st = 2 ∨ st = 3 ∨ st = 4 ∨ st = 7) ∧
    row 5 (.axisQuickstop n lost) (st = 2 ∨ st = 3 ∨ st = 4 ∨ st = 7) ∧
    row 6 (.axisAbort n lost) (st ≠ 0) ∧
    row 7 (.axisResume n lost) (st = 6 ∧ resumable = true) ∧
    exec (.axisCmdInvalid n) s = .next refused ∧
    exec (.axisCommit n lost) s = .next (raced (s.setBit (R.AXIS_CTRL n) F.AXIS_CTRL_COMMIT_PENDING true))

/-- R322, R335, R347: PHASE_FAULT. Where the fault meets a command that waits and loses to it (`lost`), the axis takes
it at the tick that takes the command, which is the model's choice (log entry 46). -/
def Obligations.PhaseFaults : Prop :=
  ∀ (s : State) (p : Fin 4) (lost : Bool), s.working = true →
    exec (.phaseFault p false lost) s = .next (s.setBit (R.PH_STATUS p) F.PH_STATUS_FLT false) ∧
    Completes (.phaseFault p true lost) s fun t =>
      t.bit (R.PH_STATUS p) F.PH_STATUS_FLT = true ∧ t.bit (R.PH_STATUS p) F.PH_STATUS_FLT_SEEN = true ∧
      ∀ n, n = 2 * p.val ∨ n = 2 * p.val + 1 →
        ((s.axis n).cmd = none ∨ lost = false → t.bit (R.AXIS_STATUS n) F.AXIS_STATUS_POWER = true ∧
          (axState s n ≠ 0 → axState t n = 8) ∧ (axState s n = 0 → axState t n = 0)) ∧
        ((s.axis n).cmd.isSome = true → lost = true → (t.axis n).power = true ∧ axState t n = axState s n ∧
          t.reg (R.AXIS_RACE n) = (s.lost true (R.AXIS_RACE n)).reg (R.AXIS_RACE n))

/-- R319, R320, R323, R325, R330: UPDATE_TICK, the order of its parts being the model's (log entry 46). -/
def Obligations.UpdateTicks : Prop :=
  ∀ (s : State), s.working = true →
    let completes : Prop := ∀ pins late,
      let u := { s with pins := pins }
      let v := u.reach (nextTick u)
      exec (.updateTick pins late) s = .next ((List.range 4).foldl (phaseFrame false)
        ((List.range 8).foldl (axTick (fun n => late.getLsbD n)) { v with tickAt := v.now }))
    let grid : Prop := s.now ≤ nextTick s ∧ s.tickAt < nextTick s ∧ nextTick s % 10000 = 0
    let moves : Prop := ∀ n : Fin 8, (s.axis n).cmd = some 1 → (s.axis n).port = none → axState s n = 1 →
      s.bit (R.AXIS_CFG n) F.AXIS_CFG_ENABLE = true → s.bit (R.AXIS_CFG n) F.AXIS_CFG_LIMITS_EN = false →
      s.bit (R.AXIS_CFG n) F.AXIS_CFG_HARD_EN = false → (s.axis n).v = 0 →
      axState (axObey s n) n = 2 ∧ ((axObey s n).axis n).goal = s.sreg64 (R.AXIS_TARGET_LO n) ∧
        ((axObey s n).axis n).cmd = none ∧ (axUnit n).waits (axObey s n) = false
    let words : Prop := ∀ angle mag mode seq,
      let w := phaseWord angle mag mode seq
      w / 2 ^ 20 = angle % 4096 ∧ w / 2 ^ 10 % 1024 = mag % 1024 ∧ w / 2 ^ 8 % 4 = mode % 4 ∧ w / 2 ^ 4 % 16 = seq % 16 ∧
        w % 16 = crc4 (BitVec.ofNat 32 w)
    completes ∧ grid ∧ moves ∧ words

/-- R118, R150, R192, R453, R526, R549: the seven units whose COMMIT is a row of the table and whose set has a
boundary of its own. An interface's set that a run refuses under R86 is left out of the second part. -/
def Obligations.CommitsTakeTheSet : Prop :=
  ∀ (s : State) (lost : Bool), s.working = true →
    let awaits := fun (row : Instr) (ahead : Bool) (t : State) => ahead = true → exec row s = .next t
    let takes := fun (row : Instr) (now : Bool) (u : CommitUnit) (p : Nat → Prop) =>
      now = true → Completes row s fun t => u.waits t = false ∧ (∀ a, a ∈ u.regs → t.inForce a = s.reg a) ∧
        (∀ lo, u.taken = some lo → t.reg64 lo = s.now % 2 ^ 64) ∧ SameMem s t ∧ SameRegs s t p
    let position : Prop := ∀ (n : Fin 8) (m : Fin 16) (k : Fin 2),
      let cmpSrc := encMode s (s.actFld (R.CMP_CFG m.val) F.CMP_CFG_INTERFACE)
      let ptSrc := s.actFld (R.PT_CFG k.val) F.PT_CFG_SOURCE
      awaits (.encCommit n lost) (encMode s n.val != 0) ((encUnit n.val).commit (s.lost lost (R.ENC_RACE n.val))) ∧
      takes (.encCommit n lost) (encMode s n.val == 0 && !encRefused s n.val) (encUnit n.val) (InBlock 8) ∧
      awaits (.cmpCommit m lost) (cmpSrc != 0)
        ((cmpUnit m.val).commit (s.cond lost (fun s => s.satInc (R.CMP_STATUS m.val) F.CMP_STATUS_RACE))) ∧
      takes (.cmpCommit m lost) (cmpSrc == 0) (cmpUnit m.val) (InBlock 8) ∧
      awaits (.ptCommit k lost) (encMode s ptSrc != 0) ((ptUnit k.val).commit (s.lost lost (R.ENC_RACE ptSrc))) ∧
      takes (.ptCommit k lost) (encMode s ptSrc == 0) (ptUnit k.val) (InBlock 8)
    let imaging : Prop := ∀ (n : Fin 10) (m : LoadMeet),
      awaits (.imgCommit n lost) (s.runActive && imgArmed s n.val) ((capUnit n.val).commit (s.lost lost (R.IMG_RACE n.val))) ∧
      takes (.imgCommit n lost) (!s.runActive) (capUnit n.val) (InBlock (16 + n.val)) ∧
      awaits (.imgCorCommit n m) (s.runActive && imgArmed s n.val)
        ((corUnit n.val).commit (s.lost (m == .lost) (R.IMG_RACE n.val))) ∧
      takes (.imgCorCommit n m) (!s.runActive) (corUnit n.val) (InBlock (16 + n.val))
    let timers : Prop := ∀ (n : Fin 64),
      awaits (.tmrCommit n lost) ((s.timer n.val).next.isSome) (((tmrUnit n.val).commit s).lost lost R.TMR_RACE) ∧
      takes (.tmrCommit n lost) ((s.timer n.val).next.isNone) (tmrUnit n.val) (fun a => InBlock 6 a ∨ InBlock 10 a)
    let channels : Prop := ∀ (n : Fin 64),
      awaits (.chCommit n lost) (chanState s n.val == 3) (((chanUnit n.val).commit s).lost lost (R.CH_RACE n.val)) ∧
      takes (.chCommit n lost) (chanState s n.val != 3) (chanUnit n.val) (InBlock 0x29)
    position ∧ imaging ∧ timers ∧ channels

/-- R546, R547, R549, R552: what an expiry, the end of a pulse and a write of the pin levels do. -/
def Obligations.TimersExpire : Prop :=
  ∀ (s : State) (n : Fin 64) (lost : Bool), s.working = true →
    let p := max 100 (s.inForce (R.TMRN_PERIOD n.val)).toNat
    let ph := (s.inForce (R.TMRN_PHASE n.val)).toNat % p
    let inv := s.actBit (R.TMRN_CFG n.val) F.TMRN_CFG_PWM_INV
    let high := (s.inForce (R.TMRN_HIGH n.val)).toNat
    let due := fun (t0 : Nat) => (s.timer n.val).next = some t0
    let expires := fun (q : State → Prop) => Completes (.timerExpiry n lost) s q
    let shows : Prop := ∀ t0, due t0 → expires fun t =>
      t.now = max s.now t0 ∧ (t.timer n.val).last = some t0 ∧
      t.fld (R.TMRN_STATUS n.val) F.TMRN_STATUS_COUNT = (s.fld (R.TMRN_STATUS n.val) F.TMRN_STATUS_COUNT + 1) %
        2 ^ F.TMRN_STATUS_COUNT.width ∧
      t.bit (R.TMRN_STATUS n.val) F.TMRN_STATUS_FIRED = true ∧
      (s.reg (R.EVT_ROUTE (Ev.timer n.val)) ≠ 0 → Ev.timer n.val ∈ t.evPend) ∧
      t.bit (R.TMRN_STATUS n.val) F.TMRN_STATUS_RUNNING = (t.timer n.val).next.isSome ∧ SameMem s t
    let next := fun (mode : Nat) (q : Nat → Option Nat → Prop) => ∀ t0, due t0 → tmrMode s n.val = mode →
      (tmrUnit n.val).waits s = false → expires fun t => q t0 (t.timer n.val).next ∧
        t.bit (R.TMRN_STATUS n.val) F.TMRN_STATUS_OUTPUT = ((high != 0) != inv)
    let follows : Prop := next 1 (fun t0 x => x = some (t0 + p)) ∧ next 2 (fun _ x => x = none) ∧
      next 3 (fun t0 x => ∃ t1, x = some t1 ∧ t0 < t1 ∧ t1 % p = ph ∧ t1 ≤ t0 + p)
    let takes : Prop := ∀ t0, due t0 → (tmrUnit n.val).waits s = true → expires fun t =>
      (tmrUnit n.val).waits t = false ∧ ∀ a, a ∈ (tmrUnit n.val).regs → t.inForce a = s.reg a
    let nothing : Prop := (s.timer n.val).next = none → exec (.timerExpiry n lost) s = .next (s.lost lost R.TMR_RACE)
    let falls : Prop := ∀ t0, (s.timer n.val).fall = some t0 → Completes (.pwmHighEnd n) s fun t =>
      t.now = max s.now t0 ∧ (t.timer n.val).fall = none ∧ t.bit (R.TMRN_STATUS n.val) F.TMRN_STATUS_OUTPUT = inv ∧ SameMem s t
    let pins : Prop := ∀ v, s.serving = true → exec (.gpioOutWrite v) s = .next (s.setReg R.GPIO_OUT v)
    shows ∧ follows ∧ takes ∧ nothing ∧ falls ∧ pins

/-- R523, R531, R534, R535, R537, R538: the eight time commands. Which instants a step moves is the model's (log entry
133). -/
def Obligations.DeviceTime : Prop :=
  ∀ (s : State) (lost : Bool), s.serving = true →
    let valid := fun (t : State) (c : Nat) => t.bit R.TIME_STATUS ⟨4 + c, 1⟩
    let beacon : Prop := exec .timeBeacon s = .next (s.reach ((s.now / 1000 + 1) * 1000))
    let edges : Prop := ∀ m : TimeMark,
      let t := m.at_.toNat
      let last := fun (t' : State) => t'.tm.tsyncLast = some (movedBy ((t'.now : Int) - max s.now t) t) ∧
        t'.fld R.TIME_RACE F.TIME_RACE_RACE = satAdd (2 ^ F.TIME_RACE_RACE.width - 1) (s.fld R.TIME_RACE F.TIME_RACE_RACE)
          (if m.lost then 1 else 0)
      (tsyncInput s = false → exec (.tsyncEdge m) s = .next s) ∧
      (∀ l, tsyncInput s = true → s.tm.tsyncLast = some l → (t - l < 999900000 ∨ 1000100000 < t - l) →
        Completes (.tsyncEdge m) s fun t' => last t' ∧ t'.tm.tsyncGood = 1 ∧ valid t' 1 = false ∧ SameMem s t') ∧
      (∀ l, tsyncInput s = true → s.tm.tsyncLast = some l → 999900000 ≤ t - l → t - l ≤ 1000100000 →
        Completes (.tsyncEdge m) s fun t' => last t' ∧ t'.tm.tsyncGood = min 3 (s.tm.tsyncGood + 1) ∧
          (2 ≤ s.tm.tsyncGood → valid t' 1 = true) ∧ SameMem s t')
    let timeouts : Prop :=
      (∀ l, s.tm.tsyncLast = some l → Completes .tsyncTimeout s fun t =>
        t.tm.tsyncLast = none ∧ t.tm.tsyncGood = 0 ∧ valid t 1 = false ∧ t.now = max s.now (l + 1100000000) ∧ SameMem s t) ∧
      (s.tm.runnerGood ≠ 0 → Completes .runnerSourceTimeout s fun t =>
        t.tm.runnerGood = 0 ∧ valid t 0 = false ∧ t.bit R.RUN_RING F.RUN_RING_TIME_LOCK = false ∧
        t.now = max s.now (s.tm.runnerLast + 3000000) ∧ SameMem s t)
    let output : Prop := s.bit R.TIME_CFG F.TIME_CFG_TSYNC_EN = true → s.bit R.TIME_CFG F.TIME_CFG_TSYNC_DIR = true → 0 < s.now →
      let past := max (s.now - 1) (s.tm.tsyncOut.getD 0)
      Completes .tsyncOutput s fun t => t.now % 1000000000 = tsyncOfs s ∧ past < t.now ∧ t.now ≤ past + 1000000000 ∧
        t = ({ s with tm := { s.tm with now := t.now, tsyncOut := some t.now } }).emit
          (.pulse .timeSync 0 t.now (1000 * s.fld R.TIME_TSYNC_W F.TIME_TSYNC_W_TSYNC_W) false)
    let set : Prop :=
      (s.runActive = true → exec (.timeSetApply lost) s =
        .next ((s.flag R.TIME_STATUS F.TIME_STATUS_SET_REFUSED).lost lost R.TIME_RACE)) ∧
      (s.runActive = false → Completes (.timeSetApply lost) s fun t => t.now = s.reg64 R.TIME_SET_LO ∧
        t.tm.cold = false ∧ t.bit R.TIME_STATUS F.TIME_STATUS_STEPPED = true ∧
        t.bit R.TIME_STATUS F.TIME_STATUS_TIME_COLD = false ∧ SameMem s t ∧
        let d : Int := (t.now : Int) - s.now
        t.tm.tsyncLast = s.tm.tsyncLast.map (movedBy d) ∧ t.tm.runnerLast = movedBy d s.tm.runnerLast ∧
        t.root.wdogAt = movedBy d s.root.wdogAt ∧ t.runner.trigs = s.runner.trigs)
    let reference : Prop :=
      (s.tm.oscillator = true → exec .refLost s = .next (((({ s with tm := { s.tm with oscillator := false } }).flag
        R.TIME_STATUS F.TIME_STATUS_REF_LOST).setBit (R.TIME_ISL_LOCK 2) ⟨31, 1⟩ false).raise 571)) ∧
      exec .refRestored s = .next ((({ s with tm := { s.tm with oscillator := true } }).setBit
        R.TIME_STATUS F.TIME_STATUS_REF_LOST false).setBit (R.TIME_ISL_LOCK 2) ⟨31, 1⟩ true)
    beacon ∧ edges ∧ timeouts ∧ output ∧ set ∧ reference

/-- R539 to R542, R544, R545: the self-trim. What its measurements find comes with TRIM_START (log entry 15). -/
def Obligations.TrimSteps : Prop :=
  ∀ (s : State), s.working = true →
    let starts : Prop := ∀ found,
      (s.trim.step ≠ 0 → exec (.trimStart found) s = .next s) ∧
      (s.trim.step = 0 → Completes (.trimStart found) s fun t => t.trim.step = 2 ∧ t.trim.found = found ∧
        t.bit R.TRIM_CTRL F.TRIM_CTRL_START = true ∧ t.fld R.TRIM_CTRL F.TRIM_CTRL_STEP = 2 ∧ SameMem s t ∧
        SameRegs s t (fun a => a = R.TRIM_CTRL))
    let writes : Prop := s.trim.step = 2 →
      let cur := (trimInForce s).getD 0
      let v := (List.range 222).map (trimItem s)
      let other := trimCopy (1 - cur)
      let image := trimImage s cur v
      Completes .trimVaultWritten s fun t => t.trim.step = 7 ∧ t.fld R.TRIM_CTRL F.TRIM_CTRL_STEP = 7 ∧
        t.read other image.length = image ∧ image.length = 0x3BC ∧
        image.take 12 = [0x47, 0x54, 0x52, 0x4D] ++ bytesLE 4 (trimGen s cur + 1) ++
          bytesLE 4 (s.readNat (trimCopy cur + 8) 4 + 1) ∧
        (∀ a, a < other ∨ other + 0x3BC ≤ a → t.byte a = s.byte a) ∧
        t.fld R.TRIM_STATUS F.TRIM_STATUS_FAILED = (v.filter (fun x => x.2.1)).length ∧
        t.fld R.TRIM_STATUS F.TRIM_STATUS_SKIPPED = (v.filter (fun x => x.2.2)).length ∧
        SameRegs s t (fun a => a = R.TRIM_CTRL ∨ a = R.TRIM_STATUS ∨ a = R.TRIM_TIME_LO ∨ a = R.TRIM_TIME_LO + 4)
    let port := s.fld R.TRIM_CTRL F.TRIM_CTRL_APPLY_PORT
    let waits : Prop := imgArmed s port = true → exec .trimApply s = .next s
    let applies : Prop := s.trim.step = 7 → imgArmed s port = false → (s.trim.items.map (·.1)).Nodup → (∀ e ∈ s.trim.items, e.1 < 222) →
      Completes .trimApply s fun t => t.trim.step = 0 ∧ t.bit R.TRIM_CTRL F.TRIM_CTRL_START = false ∧
        t.fld R.TRIM_CTRL F.TRIM_CTRL_STEP = 0 ∧ (∀ e ∈ s.trim.items, t.reg (R.TRIM_ITEM e.1) = BitVec.ofNat 32 e.2) ∧
        (s.reg (R.EVT_ROUTE 573) ≠ 0 → 573 ∈ t.evPend) ∧ SameMem s t ∧ SameRegs s t (InBlock 4)
    let verdicts : Prop := ∀ k tap ok, k < 221 → k ∉ s.trim.skip → s.trim.found.getD k none = some (tap, ok) →
      let r := trimLimits k
      let old := (s.reg (R.TRIM_ITEM k)).toNat
      let fac := s.sfld (R.TRIM_ITEM k) F.TRIM_ITEM_FACTORY
      (ok = true ∧ r.1 ≤ tap ∧ tap ≤ r.2.1 ∧ (∀ d, r.2.2 = some d → |tap - fac| ≤ d) →
        trimItem s k = (old / 65536 * 65536 + ofSigned 16 tap, false, false)) ∧
      (¬ (ok = true ∧ r.1 ≤ tap ∧ tap ≤ r.2.1 ∧ (∀ d, r.2.2 = some d → |tap - fac| ≤ d)) → trimItem s k = (old, true, false))
    starts ∧ writes ∧ waits ∧ applies ∧ verdicts

/-- R560, R562 to R566, R569, R570, R572: the temperature, throttling, threshold, record, regulator and refresh
commands. -/
def Obligations.TemperatureRules : Prop :=
  ∀ (s : State) (lost : Bool), s.serving = true →
    let hot := fun (t : State) => t.sfld R.PWR_HOT F.PWR_HOT_T
    let converts : Prop := ∀ (codes : List (BitVec 16)) meets, Completes (.tempConversion codes ⟨lost, meets⟩) s fun t =>
      t.now = max s.now (s.pwr.convAt + 50000) ∧ t.pwr.convAt = t.now ∧
      (∀ i, i < 192 → t.sfld (R.PWR_SENSOR i) F.PWR_SENSOR_T = (codes.map (·.toInt)).getD i (sensorT s i)) ∧
      (∀ k, k < 96 → islandT t k ≤ hot t) ∧ (∃ k, k < 96 ∧ islandT t k = hot t) ∧
      (threshold t F.PWR_THRESH_SHUTDOWN ≤ hot t → t.mode = .halt ∧ t.pwr.latch = true) ∧
      (hot t < threshold t F.PWR_THRESH_SHUTDOWN → t.mode = s.mode ∧ t.pwr.latch = s.pwr.latch ∧ SameMem s t)
    let evaluates : Prop :=
      let m := (List.range 192).foldl (fun m i => m + effective s i) 0
      let r : Int := (s.pwr.sums[9]?).elim 0 (fun b => m - b)
      let cool := (List.range 96).all (fun k => decide (islandT s k < threshold s F.PWR_THRESH_THROTTLE - hysteresis s))
      let level := (levelRules (s.fld R.PWR_THROTTLE F.PWR_THROTTLE_THERMAL) s.pwr.rateFor (s.pwr.sinceLevel + 1) r
        (!s.pwr.hot.isEmpty) cool).1
      Completes (.throttleEvaluation lost) s fun t =>
        t.now = max s.now (s.pwr.evalAt + 100000000) ∧ t.pwr.evalAt = t.now ∧
        t.fld R.PWR_THROTTLE F.PWR_THROTTLE_THERMAL = level ∧
        t.fld R.PWR_STATUS F.PWR_STATUS_LEVEL = max level (s.fld R.PWR_THROTTLE F.PWR_THROTTLE_FLOOR) ∧
        (18432 ≤ r → t.bit R.PWR_STATUS F.PWR_STATUS_RATE_WARN = true) ∧ SameMem s t
    let rules : Prop := ∀ old rf k r hot cool, old ≤ 7 →
      let l := (levelRules old rf k r hot cool).1
      l ≤ 7 ∧ (18432 ≤ r → l = 7) ∧ (9216 ≤ r → rf = none → min 7 (old + 2) ≤ l) ∧ (hot = true → min 7 (old + 1) ≤ l ∨ cool = true) ∧
      (r < 9216 → hot = false → cool = true → 10 ≤ k → l = old - 1) ∧
      (r < 9216 → hot = false → (cool = false ∨ k < 10) → l = old)
    let threshold : Prop := s.working = true → ∀ v : BitVec 32, Completes (.pwrThreshWrite v lost) s fun t =>
      t.sfld R.PWR_THRESH F.PWR_THRESH_SHUTDOWN =
        min (s.sfld R.PWR_THRESH F.PWR_THRESH_SHUTDOWN) (toSigned 8 (v.toNat / 65536 % 256)) ∧
      t.fld R.PWR_THRESH F.PWR_THRESH_WARN = v.toNat % 256 ∧ t.fld R.PWR_THRESH F.PWR_THRESH_THROTTLE = v.toNat / 256 % 256 ∧
      t = (s.setReg R.PWR_THRESH (t.reg R.PWR_THRESH)).lost lost R.PWR_RACE
    let records : Prop :=
      let sec := s.fld R.PWR_LOG F.PWR_LOG_TEMP_LOG
      (sec = 0 → exec .tempLogSample s = .next s) ∧
      (sec ≠ 0 → s.peat.queue.length < 64 → Completes .tempLogSample s fun t =>
        t.now = max s.now (s.pwr.logAt + sec * 1000000000) ∧ t.pwr.logAt = t.now ∧
        ∃ d, t.peat.queue = s.peat.queue ++ [⟨t.now, 5, 95, d ++ [1]⟩] ∧ d.length = 10)
    let regulator : Prop := ∀ (mv : BitVec 10) ok at_, s.pwr.avsAt = some at_ →
      let want := s.fld R.PWR_AVS F.PWR_AVS_TARGET
      Completes (.avsReadback mv ok) s fun t => t.now = max s.now at_ ∧ t.pwr.avsAt = none ∧
        (ok = true → t.fld R.PWR_AVS F.PWR_AVS_READBACK = mv.toNat) ∧
        (ok = false ∨ want + 10 < mv.toNat ∨ mv.toNat + 10 < want → t.bit R.PWR_STATUS F.PWR_STATUS_AVS_ERR = true) ∧
        (ok = true → mv.toNat ≤ want + 10 → want ≤ mv.toNat + 10 → t.reg R.PWR_STATUS = s.reg R.PWR_STATUS) ∧ SameMem s t
    let refresh : Prop := exec (.dramRefresh lost) s =
      .next ((({ s with pwr := { s.pwr with refreshBand := s.fld R.PWR_STATUS F.PWR_STATUS_BAND } }).emit .refresh).lost lost R.PWR_RACE)
    converts ∧ evaluates ∧ rules ∧ threshold ∧ records ∧ regulator ∧ refresh

/-- R557: the four supply events of the AON island. -/
def Obligations.AonSupplies : Prop :=
  ∀ (s : State),
    let p := s.pwr
    let after := fun (row : Instr) (a b onB : Bool) => Completes row s fun t =>
      t.pwr = { p with vaonA := a, vaonB := b, onB := onB } ∧
      t.bit R.PWR_STATUS F.PWR_STATUS_VAON_A_OK = a ∧ t.bit R.PWR_STATUS F.PWR_STATUS_VAON_B_OK = b ∧
      t.bit R.PWR_STATUS F.PWR_STATUS_AON_SRC = onB ∧
      t.fld R.PWR_AON F.PWR_AON_SWITCHES =
        (if onB = p.onB then s.fld R.PWR_AON F.PWR_AON_SWITCHES else min 65535 (s.fld R.PWR_AON F.PWR_AON_SWITCHES + 1)) ∧
      SameMem s t ∧ SameRegs s t (fun r => r = R.PWR_STATUS ∨ r = R.PWR_AON ∨ r = R.EVT_LOST) ∧ t.mode = s.mode
    after .vaonALoss false p.vaonB (p.onB || p.vaonB) ∧ after .vaonAReturn true p.vaonB false ∧
    after .vaonBLoss p.vaonA false p.onB ∧ after .vaonBReturn p.vaonA true (p.onB || !p.vaonA)

/-- R39, R460, R462, R482, R583, R585, R587, R588: the events' ways and the peat log's commands. -/
def Obligations.EventsAndLog : Prop :=
  ∀ (s : State) (lost : Bool), s.serving = true →
    let delivery : Prop := ∀ src : Fin 1024,
      let w := s.reg (R.EVT_ROUTE src.val)
      (src.val ∉ s.evPend → exec (.eventDelivery src lost) s = .next (s.lost lost R.EVT_RACE)) ∧
      (src.val ∈ s.evPend → Completes (.eventDelivery src lost) s fun t =>
        t.evPend = NatSet.erase s.evPend src.val ∧
        (w.get F.EVT_ROUTE_FROND_EN = 1 → t.lineUp (w.get F.EVT_ROUTE_FROND) (w.get F.EVT_ROUTE_LINE) = true) ∧
        (w.get F.EVT_ROUTE_MSIX_EN = 1 → arrayBit t R.HOST_PEND src.val = true ∧
          (arrayBit s R.HOST_PEND src.val = true → arrayBit t R.HOST_MERGED src.val = true ∧ t.out = s.out) ∧
          (arrayBit s R.HOST_PEND src.val = false → vectorFree s (w.get F.EVT_ROUTE_VECTOR) = true →
            t.out = s.out ++ [.msix (w.get F.EVT_ROUTE_VECTOR)])) ∧
        (w.get F.EVT_ROUTE_PEAT_EN = 1 → s.peat.queue.length < 64 →
          t.peat.queue = s.peat.queue ++ [⟨s.now, 4, originOf src.val, bytesLE 2 src.val⟩]) ∧ SameMem s t)
    let acknowledge : Prop := ∀ src : Fin 1024,
      (hostReaches s = false → exec (.evtAck src lost) s = .next s) ∧
      (hostReaches s = true → Completes (.evtAck src lost) s fun t =>
        arrayBit t R.HOST_PEND src.val = arrayBit s R.HOST_MERGED src.val ∧ arrayBit t R.HOST_MERGED src.val = false ∧
        (arrayBit s R.HOST_MERGED src.val = false → t.out = s.out) ∧ SameMem s t)
    let write : Prop := ∀ r q, s.peat.queue = r :: q → Completes (.peatRecordCommit lost) s fun t =>
      let k := s.peat.nextSeq
      t.peat.nextSeq = k + 1 ∧ t.read (peatSlot k) 64 = peatBytes k r ∧
      (∀ a, a < peatSlot k ∨ peatSlot k + 64 ≤ a → t.byte a = s.byte a) ∧ t.reg64 R.PEAT_NEWEST_LO = k % 2 ^ 64 ∧
      (s.fld R.PEAT_STATUS F.PEAT_STATUS_LOST = 0 → t.peat.queue = q)
    let firmware : Prop := s.working = true → ∀ (f : Fin 64) (typ : BitVec 16),
      (typ.toNat < 0x8000 → exec (.peatFwCmd f typ) s = .next (s.flag R.PEAT_STATUS F.PEAT_STATUS_CFG_REFUSED)) ∧
      (0x8000 ≤ typ.toNat → s.peat.queue.length < 64 → Completes (.peatFwCmd f typ) s fun t =>
        t.peat.queue = s.peat.queue ++
          [⟨s.now, typ.toNat, f.val, (List.range 10).flatMap (fun k => bytesLE 4 (s.reg (R.PEAT_FW_DATA k)).toNat)⟩] ∧ SameMem s t)
    let window : Prop := hostReaches s = true → ∀ (o : Fin 32768) (v : BitVec 32),
      (peatOpen s = true →
        exec (.peatWindowRead o) s = .next (s.emit (.windowRead (bytesLE 4 (peatWindow (4 * o.val) s).toNat))) ∧
        Completes (.peatWinSeqWrite v) s fun t => t.peat.winSeq = (s.reg R.WIN_SEQ_LO).toNat + 2 ^ 32 * v.toNat ∧
          t = { s.setReg R.WIN_SEQ_HI v with peat := t.peat } ∧ t.peat = { s.peat with winSeq := t.peat.winSeq }) ∧
      (peatOpen s = false →
        exec (.peatWindowRead o) s = .next (countDenied (s.emit (.windowRead [0, 0, 0, 0]))) ∧
        exec (.peatWinSeqWrite v) s = .next (countDenied (s.setFld R.REQ_STATUS F.REQ_STATUS_RESULT 5)))
    delivery ∧ acknowledge ∧ write ∧ firmware ∧ window

/-- R412, R413, R416, R418, R421 to R423, R463: the memory island's upkeep. The units named by their bytes are the
fronds' memories, the tuft banks, the commons and the exchange RAM. -/
def Obligations.MemoryUpkeep : Prop :=
  ∀ (s : State) (lost : Bool), s.working = true →
    let c := R.MEM_MARCH_CTRL
    let scrub : Prop := ∀ e,
      (s.fld R.MEM_SCRUB F.MEM_SCRUB_SCRUB_HOURS = 0 → exec (.scrubWord e lost) s = .next (s.lost lost R.MEM_RACE)) ∧
      (s.fld R.MEM_SCRUB F.MEM_SCRUB_SCRUB_HOURS ≠ 0 → Completes (.scrubWord e lost) s fun t =>
        t.ms.scrubAt = (if 0x2000000000 ≤ s.ms.scrubAt + 8 then 0 else s.ms.scrubAt + 8) ∧
        t.fld R.MEM_ECC_DRAM F.MEM_ECC_DRAM_CE = (if e = .corrected then
          satAdd (2 ^ F.MEM_ECC_DRAM_CE.width - 1) (s.fld R.MEM_ECC_DRAM F.MEM_ECC_DRAM_CE) 1
          else s.fld R.MEM_ECC_DRAM F.MEM_ECC_DRAM_CE) ∧
        (e = .bad → t.reg64 R.MEM_UE_ADDR_LO = s.ms.scrubAt / 8 * 8 % 2 ^ 64) ∧
        SameMem s t ∧ SameRegs s t (fun a => a = R.MEM_ECC_DRAM ∨ a = R.MEM_UE_ADDR_LO ∨ a = R.MEM_UE_ADDR_LO + 4 ∨
          a = R.EVT_LOST ∨ a = R.MEM_RACE))
    let writeback : Prop :=
      exec .eccWriteback s = .next { s with ms := { s.ms with writebacks := s.ms.writebacks.drop 1 } }
    let march : Prop := ∀ (u : Fin 128) (d : Bool),
      Completes (.marchStart u d) s fun t => t.fld c F.MEM_MARCH_CTRL_UNIT = u.val ∧ SameMem s t ∧
        SameRegs s t (fun a => a = c) ∧
        (s.bit c F.MEM_MARCH_CTRL_BUSY = true → t.ms = s.ms ∧ t.bit c F.MEM_MARCH_CTRL_BUSY = true) ∧
        (s.bit c F.MEM_MARCH_CTRL_BUSY = false → marchAllowed s u.val d = true → t.ms.march = some ⟨u.val, d⟩ ∧
          t.bit c F.MEM_MARCH_CTRL_BUSY = true ∧ t.fld c F.MEM_MARCH_CTRL_RESULT = 0) ∧
        (s.bit c F.MEM_MARCH_CTRL_BUSY = false → marchAllowed s u.val d = false → t.ms = s.ms ∧
          t.bit c F.MEM_MARCH_CTRL_BUSY = false ∧ t.fld c F.MEM_MARCH_CTRL_RESULT = 3)
    let ends : Prop := ∀ failing u d, s.ms.march = some ⟨u, d⟩ → Completes (.marchDone failing) s fun t =>
      t.ms.march = none ∧ t.bit c F.MEM_MARCH_CTRL_BUSY = false ∧
      t.fld c F.MEM_MARCH_CTRL_RESULT = (if failing = 0 then 1 else 2) ∧
      (d = false → SameMem s t) ∧
      (d = true → u < 0x4A ∨ u = 0x70 →
        let inside := fun (a : Nat) => (unitKeys u).1 ≤ a ∧ a < (unitKeys u).2
        (∀ a, inside a → t.byte a = 0) ∧ ∀ a, ¬ inside a → a < 2 ^ 64 → t.byte a = s.byte a)
    let tested := underMarch s 0x70
    let exchange : Prop := hostReaches s = true → ∀ (a : Fin 262144) (n : Fin 4097),
      (tested = true → ∀ data c, exec (.hostExchAccess a n data c) s = .next s) ∧ (tested = false →
      exec (.hostExchAccess a n [] {}) s =
        .next { s.emit (.windowRead ((List.range n.val).map (fun i => s.byte (exchBase + (a.val + i) % 262144)))) with
                freeCtr := s.freeCtr + n.val } ∧
      ∀ data : List (Option Byte), data ≠ [] → data.length ≤ 4096 → Completes (.hostExchAccess a n data {}) s fun t =>
        t = { s with mem := t.mem } ∧
        (∀ i, i < data.length → t.byte (exchBase + (a.val + i) % 262144) =
          (data.getD i none).getD (s.byte (exchBase + (a.val + i) % 262144))) ∧
        ∀ k, (∀ i, i < data.length → k ≠ exchBase + (a.val + i) % 262144) → t.byte k = s.byte k)
    scrub ∧ writeback ∧ march ∧ ends ∧ exchange

/-- R422, R427, R428, R431, R432: the vault's five commands. -/
def Obligations.VaultCommands : Prop :=
  ∀ (s : State) (lost : Bool), s.working = true →
    let st := R.MEM_VAULT_STATUS
    let refuse := s.satInc st F.MEM_VAULT_STATUS_REFUSED
    let src := s.reg64 R.MEM_VAULT_SRC_LO
    let len := (s.reg R.MEM_VAULT_LEN).toNat
    let request := fun (d : Bool) (kind : Nat) => ({ s with ms := { s.ms with vault := s.ms.vault ++ [⟨d, src, len,
      (s.reg R.MEM_VAULT_ID).toNat, (s.reg R.MEM_VAULT_CRC).toNat, kind, none, if d then [] else s.read src len⟩] } } : State)
    let free : Prop := s.ms.vault = [] ∨ (lost = true ∧ ∃ v, s.ms.vault = [v] ∧ v.port.isSome = true)
    let asks : Prop := ∀ kind : BitVec 8,
      (free → exec (.vaultCommit kind lost) s = .next ((request false kind.toNat).lost lost R.MEM_RACE) ∧
        exec (.vaultDelete lost) s = .next ((request true 0).lost lost R.MEM_RACE)) ∧
      (¬ free → exec (.vaultCommit kind lost) s = .next (refuse.lost lost R.MEM_RACE) ∧
        exec (.vaultDelete lost) s = .next (refuse.lost lost R.MEM_RACE)) ∧
      exec .vaultCmdInvalid s = .next refuse
    let commits : Prop := ∀ v rest x, s.ms.vault = v :: rest → v.isDelete = false → marchStalls s v.src = false →
      let unread := spanBad v.src x = true ∨ vaultSrcOk s v.src v.len = false
      let data := s.read v.src v.len
      let good := crc32c data = v.crc ∧ sameBytes data v.data = true
      Completes (.vaultCommitDone x) s fun t => t.ms.vault = rest ∧
        let err := t.fld st F.MEM_VAULT_STATUS_ERR
        let newest := ((vaultOf s v.id).head?.map (·.gen)).getD 0
        (vaultRun s v.len = none → err = 1 ∧ SameMem s t) ∧
        ∀ b, vaultRun s v.len = some b →
          (unread → err = 4 ∧ SameMem s t) ∧
          (¬ unread → ¬ good → err = 3) ∧
          (¬ unread → good → (∀ i, i < 1024 → vaultEnt s i ≠ none) → err = 2) ∧
          (¬ unread → good → newest < 0xFFFFFFFE → (∃ i, i < 1024 ∧ vaultEnt s i = none) →
            err = 0 ∧ t.reg R.MEM_VAULT_GEN = BitVec.ofNat 32 (newest + 1) ∧
              t.read (mramBase + vaultBlock b) v.len = data)
    let stalls : Prop := ∀ v rest x, s.ms.vault = v :: rest → v.isDelete = false → marchStalls s v.src = true →
      exec (.vaultCommitDone x) s = .next s
    let deletes : Prop := ∀ v rest, s.ms.vault = v :: rest → v.isDelete = true → Completes .vaultDeleteDone s fun t =>
      t.ms.vault = rest ∧ t.fld st F.MEM_VAULT_STATUS_ERR = 0 ∧ vaultOf t v.id = [] ∧
      ∀ a, a < vaultSlot 0 ∨ vaultSlot 1024 ≤ a → t.byte a = s.byte a
    asks ∧ commits ∧ stalls ∧ deletes

/-- R46, R77 to R79; log entries 72 and 90: the mailbox. A warm recovery that REBOOT causes is named by `warmCause`. -/
def Obligations.MailboxCommands : Prop :=
  ∀ (s : State), s.serving = true →
    let o := (s.reg R.MBX_OFFSET).toNat
    let n := (s.reg R.MBX_LENGTH).toNat
    let st := R.MBX_STATUS
    let result := fun (v : Nat) => s.setFld st F.MBX_STATUS_RESULT v
    let begun := fun (j : MbxJob) (z : State) =>
      ({ z with boot := { z.boot with job := some j, bufferDirty := false } }).setBit st F.MBX_STATUS_BUSY true
    let unverified := fun (z : State) => z.setBit st F.MBX_STATUS_VERIFIED false
    let open_ : Prop := s.boot.job = none ∧ (s.mode = .safe ∨ permits s 3 = true)
    let gate : Prop := hostReaches s = true → ∀ row : Instr,
      row ∈ [Instr.mbxErase, .mbxWrite, .mbxVerify, .mbxActivate, .mbxReboot, .mbxCmdInvalid] →
      (s.boot.job ≠ none → exec row s = .next (s.satInc st F.MBX_STATUS_REFUSED)) ∧
      (s.boot.job = none → s.mode ≠ .safe → permits s 3 = false → exec row s = .next (mbxResult 0x20 (denied s)))
    let begins : Prop := hostReaches s = true → open_ →
      let spanE := o % 65536 = 0 ∧ n % 65536 = 0 ∧ n ≠ 0 ∧ o + n ≤ 0x4000000
      let spanW := o % 64 = 0 ∧ n % 64 = 0 ∧ n ≠ 0 ∧ n ≤ 65536 ∧ o + n ≤ 0x4000000
      (spanE → exec .mbxErase s = .next (unverified (begun (.erase o n) s))) ∧
      (¬ spanE → exec .mbxErase s = .next (result 0x22)) ∧
      (spanW → exec .mbxWrite s = .next (unverified (begun (.write o n (mbxBuffer s n)) s))) ∧
      (¬ spanW → exec .mbxWrite s = .next (result 0x22)) ∧
      exec .mbxVerify s = .next (begun .verify s) ∧
      exec .mbxActivate s = .next (if s.bit st F.MBX_STATUS_VERIFIED then begun .activate s else result 0x21) ∧
      exec .mbxReboot s = .next (if s.mode ≠ .safe then result 0x25 else if s.boot.activated then warmCause 5 .alone s
        else result 0x21) ∧
      exec .mbxCmdInvalid s = .next (result 0x22)
    let aborts : Prop := hostReaches s = true → (s.mode = .safe ∨ permits s 3 = true) →
      (s.boot.job = some .activate → exec .mbxAbort s = .next ((unverified s).setFld st F.MBX_STATUS_RESULT 0x24)) ∧
      (s.boot.job ≠ some .activate → Completes .mbxAbort s fun t => t.boot.job = none ∧
        t.bit st F.MBX_STATUS_BUSY = false ∧ t.bit st F.MBX_STATUS_VERIFIED = false ∧ t.fld st F.MBX_STATUS_RESULT = 0x24)
    let ended := fun (t : State) (v : Nat) => t.boot.job = none ∧ t.bit st F.MBX_STATUS_BUSY = false ∧
      t.fld st F.MBX_STATUS_RESULT = v
    let target := fun (a : Nat) => flashKey (slotBase (targetSlot s) + a)
    let erased : Prop := ∀ a k, s.boot.job = some (.erase a k) → Completes (.mbxEraseDone true) s fun t =>
      ended t 0 ∧ (∀ i, i < k → t.byte (target (a + i)) = 0xFF) ∧
      ∀ x, x < target a ∨ target (a + k) ≤ x → t.byte x = s.byte x
    let written : Prop := ∀ a k bs, s.boot.job = some (.write a k bs) → s.boot.bufferDirty = false →
      Completes (.mbxWriteDone true) s fun t => ended t 0 ∧ t.read (target a) bs.length = bs ∧
        ∀ x, x < target a ∨ target (a + bs.length) ≤ x → t.byte x = s.byte x
    let failed : Prop := ∀ a k bs,
      (s.boot.job = some (.erase a k) → Completes (.mbxEraseDone false) s fun t => ended t 0x23) ∧
      (s.boot.job = some (.write a k bs) → Completes (.mbxWriteDone false) s fun t => ended t 0x23) ∧
      (s.boot.job = some (.write a k bs) → s.boot.bufferDirty = true → ∀ ok, Completes (.mbxWriteDone ok) s fun t =>
        (∀ x, x < target a ∨ target (a + k) ≤ x → t.byte x = s.byte x) ∧
        (a = 0 → 0 < k → flashSpoilt t (slotBase (targetSlot s)) = true))
    let verified : Prop := s.boot.job = some .verify →
      let code := (checkSlot s (targetSlot s)).1
      Completes .mbxVerifyDone s fun t => SameMem s t ∧
        (flashSpoilt s (slotBase (targetSlot s)) = true → code ≠ 1) ∧
        (code = 1 → ended t 0 ∧ t.bit st F.MBX_STATUS_VERIFIED = true) ∧ (code ≠ 1 → code < 256 → ended t code)
    let activated : Prop := s.boot.job = some .activate →
      let next := ((slotCopyInForce s).map (fun x => (1 - x.1, x.2.2 + 1))).getD (0, 1)
      let image := bytesLE 1 (targetSlot s) ++ [0, 0, 0] ++ bytesLE 4 next.2
      Completes .mbxActivateDone s fun t => ended t 0 ∧
        t.read (slotCopyAt next.1) 12 = image ++ bytesLE 4 (crc32c image) ∧
        (∀ x, x < slotCopyAt next.1 ∨ slotCopyAt next.1 + 12 ≤ x → t.byte x = s.byte x) ∧
        (next.2 < 2 ^ 32 → slotRecord t = (targetSlot s, false))
    gate ∧ begins ∧ aborts ∧ erased ∧ written ∧ failed ∧ verified ∧ activated

/-- R27, R29, R32, R72, R576, R580: the run commands, with the RESULT that RUN_STATUS shows. -/
def Obligations.RunRequests : Prop :=
  ∀ (s : State) (lost : Bool), s.working = true →
    let result := fun (t : State) => t.fld R.RUN_STATUS F.RUN_STATUS_RESULT
    let recovering := s.bit R.RUN_STATUS F.RUN_STATUS_RECOVERING
    let busy : Bool := s.runActive || runEnding s
    let refusedAnd := fun (row : Instr) (k : Nat) (b : Bool) =>
      exec row s = .next ((s.setFld R.RUN_STATUS F.RUN_STATUS_RESULT k).lost b R.SYS_RACE)
    let refused := fun (row : Instr) (k : Nat) => refusedAnd row k lost
    let begun := fun (t : State) => t.runActive = true ∧ t.mode = s.mode ∧ result t = 1 ∧ t.root.keys = none ∧
      t.fld R.RUN_STATUS F.RUN_STATUS_RUN_ID = (s.fld R.RUN_STATUS F.RUN_STATUS_RUN_ID + 1) % 65536
    let starts : Prop := (recovering = true → refused (.runStart lost) 3) ∧
      (recovering = false → busy = true → refused (.runStart lost) 4) ∧
      (recovering = false → busy = false → Completes (.runStart lost) s begun)
    let stops : Prop := (s.runActive = false → refused (.runStop lost) 3) ∧
      (s.runActive = true → Completes (.runStop lost) s fun t => t.runActive = false ∧ t.mode = s.mode ∧ result t = 1)
    let maint := fun (row : Instr) (a b : Mode) (c : Bool) => (s.mode ≠ a → refusedAnd row 3 c) ∧
      (s.mode = a → s.runActive = true → refusedAnd row 4 c) ∧
      (s.mode = a → s.runActive = false → Completes row s fun t => t.mode = b ∧ result t = 1 ∧
        t.fld R.SYS_STATE F.SYS_STATE_STATE = b.code ∧ SameMem s t)
    let abandon : Prop :=
      (s.mode ≠ .maint → exec .abandon s = .next (s.setFld R.RUN_STATUS F.RUN_STATUS_RESULT 3)) ∧
      (s.mode = .maint → Completes .abandon s fun t => result t = 1 ∧
        t.bit R.RUN_STATUS F.RUN_STATUS_RECOVERING = false ∧
        ∀ n, n < 16 → (t.stream n).ents = [] ∧ t.reg (R.SPOOL_DRAIN n) = t.reg (R.SPOOL_SEAL n) ∧
          t.reg (R.SPOOL_SEAL n) = s.reg (R.SPOOL_SEAL n))
    let autorun : Prop := ∀ p at_, s.boot.spore = some p → s.boot.readyRose = some at_ → p.autorun = true →
      s.boot.autorunWaits = true → recovering = false → busy = false → Completes .autorunStart s fun t =>
        begun t ∧ t.boot.autorunWaits = false ∧ t.now = max s.now (at_ + p.autorunDelay * 1000000)
    let watchdog : Prop := ∀ (ms : Fin 16777216) (m : Meet),
      let on := s.fld R.RUN_WDOG F.RUN_WDOG_TIMEOUT
      (s.bit R.RUN_WDOG F.RUN_WDOG_LOCK = true → exec (.runWdogWrite ms) s = .next s) ∧
      (s.bit R.RUN_WDOG F.RUN_WDOG_LOCK = false → Completes (.runWdogWrite ms) s fun t =>
        t.fld R.RUN_WDOG F.RUN_WDOG_TIMEOUT = ms.val ∧ t.bit R.RUN_WDOG F.RUN_WDOG_LOCK = decide (ms.val ≠ 0) ∧
        t.root.wdogLeft = ms.val * 1000000 ∧ t.root.wdogAt = s.now ∧ SameMem s t ∧ SameRegs s t (fun a => a = R.RUN_WDOG)) ∧
      exec (.runKick lost) s = .next ((if on = 0 then s else
        { s with root := { s.root with wdogLeft := on * 1000000, wdogAt := s.now } }).lost lost R.SYS_RACE) ∧
      exec (.runWdogExpiry m) s = .next (if on = 0 then s
        else warmCause 1 m (s.reach (s.root.wdogAt + s.root.wdogLeft)))
    let beaten : Prop := ∀ m, m ≠ .alone → s.mode = .run → s.runActive = false → Completes (.maintEnter m) s fun t =>
      t.mode = .maint ∧ t.runActive = false ∧ result t = (if m = .frond then 3 else 1) ∧
        t.fld R.SYS_RACE F.SYS_RACE_RACE = satAdd 65535 (s.fld R.SYS_RACE F.SYS_RACE_RACE) 1
    starts ∧ stops ∧ maint (.maintEnter .alone) .run .maint false ∧ maint (.maintExit lost) .maint .run lost ∧ beaten ∧
      abandon ∧ autorun ∧ watchdog

/-- R29. RESULT 3 and 4 refuse, of the host's requests also 5 and 6 (15 R464). -/
def Obligations.MaintRefusedInRun : Prop :=
  ∀ (s : State) (lost : Bool), s.working = true → s.runActive = true →
    let stays := fun (t : State) (p : Nat → Prop) => t.mode = s.mode ∧ t.runActive = true ∧ SameMem s t ∧
      t.streams = s.streams ∧ t.root = s.root ∧ SameRegs s t p
    let told := fun (t : State) => t.fld R.RUN_STATUS F.RUN_STATUS_RESULT = 3 ∨ t.fld R.RUN_STATUS F.RUN_STATUS_RESULT = 4
    let asked := fun (row : Instr) => Completes row s fun t =>
      stays t (fun a => a = R.RUN_STATUS ∨ a = R.SYS_RACE) ∧ told t
    let hostAsked := fun (row : Instr) => Completes row s fun t =>
      stays t (fun a => a = R.REQ_STATUS ∨ a = R.EVT_LOST ∨ a = R.SYS_RACE) ∧
        3 ≤ t.fld R.REQ_STATUS F.REQ_STATUS_RESULT ∧ t.fld R.REQ_STATUS F.REQ_STATUS_RESULT ≤ 6 ∧
        t.fld R.REQ_STATUS F.REQ_STATUS_LAST = 4
    (∀ m, asked (.maintEnter m)) ∧ asked (.maintExit lost) ∧
      (∀ (f : Fin 64) (a : Fin 562949953421312) (v : Word), a.val = R.RUN_CTRL → v = 8 ∨ v = 16 →
        asked (.registerWrite (.frond f) a v 0 0)) ∧
      (hostReaches s = true → (∀ m, hostAsked (.reqMaintEnter m)) ∧ hostAsked (.reqMaintExit lost))

/-- R27, R31, R44, R70, R522, R532, R555, R558, R593, R594: POR_RELEASE, POR_ASSERT, POWER_LOSS, AON_BROWNOUT. -/
def Obligations.ColdStartAndOff : Prop :=
  ∀ (s : State),
    let starts : Prop := ∀ b : Bench,
      (s.mode = .off → (s.pwr.vaonA || s.pwr.vaonB) = true → Completes (.porRelease b) s fun t =>
        (t.mode = .run ∨ t.mode = .safe ∨ t.mode = .halt) ∧ t.pending = s.pending ∧
          (s.pwr.latch = true → t.mode = .halt) ∧
          (s.pwr.latch = false → b.during = [] → b.sfdp = false →
            t.mode = .safe ∧ t.fld R.SYS_CAUSE F.SYS_CAUSE_SAFE_CODE = 4)) ∧
      (s.mode ≠ .off ∨ (s.pwr.vaonA || s.pwr.vaonB) = false → exec (.porRelease b) s = .next s)
    let persists := fun (t : State) => t.mode = .off ∧ (∀ a, t.reg a = State.reset.reg a) ∧ t.root.slots = s.root.slots ∧
      t.root.arbFused = s.root.arbFused ∧ t.root.keys = none ∧ t.streams = [] ∧ t.pending = s.pending ∧
      (s.boot.job = none → ∀ a, survives false a = true → t.byte a = s.byte a)
    let off := fun (row : Instr) (f : FaultN) => Completes row s fun t => persists t ∧ t.tm.now = s.tm.now ∧
      t.tm.oscillator = s.tm.oscillator ∧ t.pwr.latch = s.pwr.latch ∧ faultN t = f ∧ thermLow t = thermLow s
    let other := if s.pwr.onB then s.pwr.vaonA else s.pwr.vaonB
    let brownout : Prop := (other = true → exec .aonBrownout s = .next s) ∧
      (other = false → Completes .aonBrownout s fun t => persists t ∧ t.tm.now = 0 ∧ t.tm.oscillator = false ∧
        t.tm.cold = true ∧ t.pwr.latch = s.pwr.latch ∧ t.pwr.vaonA = false ∧ t.pwr.vaonB = false ∧ thermLow t = false)
    starts ∧ off .porAssert (if s.pwr.vddio18 then .low else .undriven) ∧ off .powerLoss .undriven ∧ brownout

/-- R27, R28, R32, R65, R457, R500, R522, R577, R616; log entry 127: PERST_N_ASSERT, PERST_N_RELEASE,
FUNCTION_LEVEL_RESET, DCO_MONITOR, ARB_FUSE_ADVANCE. -/
def Obligations.WarmRecovery : Prop :=
  ∀ (s : State),
    let race := fun t : State => t.fld R.SYS_RACE F.SYS_RACE_RACE
    let recovers := fun (row : Meet → Instr) (cause : Nat) (u : State) =>
      exec (row .alone) s = .next (start true cause (warmBegin cause u)) ∧
      Completes (row .alone) s (fun t => (t.mode = .run ∨ t.mode = .safe ∨ t.mode = .halt) ∧ t.pending = s.pending) ∧
      (∀ m, m = Meet.afterStop ∨ m = Meet.beforeSeal →
        Completes (row m) s (fun t => (t.mode = .run ∨ t.mode = .safe ∨ t.mode = .halt) ∧ t.pending = s.pending)) ∧
      Completes (row .afterCause) s (fun t => t.mode = s.mode ∧ SameMem s t ∧
        race t = satAdd (2 ^ F.SYS_RACE_RACE.width - 1) (race s) 1) ∧
      Completes (row .beforeShutdown) s (fun t => t.mode = .halt ∧ t.pwr.latch = true)
    let p := s.pcie
    let kept := s.regs.filter (fun e => !isMsix e.1)
    let perst : State := { s with regs := kept, pcie := { perst := true } }
    let flr : State :=
      { s with regs := kept, pcie := { linkUp := p.linkUp, speed := p.speed, width := p.width, perst := p.perst,
                                       maxPayload := p.maxPayload, aer := p.aer } }
    let resets : Prop := ∀ m, s.serving = false →
      exec (.perstNAssert m) s = .next perst ∧ exec (.functionLevelReset m) s = .next flr
    let monitored : Prop := ∀ (i : Fin 96) (m : Meet),
      let lock := R.TIME_ISL_LOCK (i.val / 32)
      let b : Fld := ⟨i.val % 32, 1⟩
      exec (.dcoMonitor i true m) s = .next s ∧
      (s.serving = false ∨ i.val = 95 ∨ s.bit lock b = false → exec (.dcoMonitor i false m) s = .next s) ∧
      (s.serving = true → i.val ≠ 95 → s.bit lock b = true →
        recovers (fun m => .dcoMonitor i false m) 2 ((s.setBit lock b false).raise 571))
    let fuses : Prop := s.working = true → ∀ q, s.boot.spore = some q → s.boot.arbPending = true →
      Completes .arbFuseAdvance s fun t => t.root.arbFused = s.root.arbFused + 1 ∧
        t.boot.arbPending = decide (s.root.arbFused + 1 < q.arb) ∧ SameMem s t ∧ t.mode = s.mode ∧
        (q.arb ≤ s.root.arbFused + 1 → t.bit R.BOOT_STATUS F.BOOT_STATUS_ARB_ADVANCED = true)
    (s.serving = true → recovers .perstNAssert 3 perst ∧ recovers .functionLevelReset 4 flr) ∧
      resets ∧ exec .perstNRelease s = .next { s with pcie := { p with perst := false } } ∧ monitored ∧ fuses

/-- R388, R390, R396 to R398: the results of the scalar slot's register operations, beside any vector slot. The whole next
state is given, so everything that it does not name is unchanged. -/
def Obligations.ScalarResults : Prop :=
  ∀ (s : State) (f : Fin 64) (fe de : Ecc) (lost : Bool) (m : Meet) (pg : Nat) (v : Slot),
    let x := s.frond f.val
    let gives := fun (row : FrondRow) (ins : FInstr) (pg : Nat) (runs : Bool) (y : FrondSt) =>
      Issues s f.val fe (⟨ins, pg⟩, v) → exec (row f fe de lost m) s = .next ((atIssue s f.val fe lost).setFrond f.val
        { vecEffect x v (if runs then y else x) with pc := (x.pc + 8) % 65536 })
    let alu := fun (row : FrondRow) (op : Alu) (g : Word → Word → Word) =>
      ∀ rd ra b, gives row (.alu op rd ra b) pg (x.guard pg) (x.setS rd (g (x.getS ra) (x.operand b)))
    let test := fun (row : FrondRow) (t : Test) (g : Word → Word → Bool) =>
      ∀ pd ra rb, gives row (.cmp t pd ra (.reg rb)) pg (x.guard pg)
        (x.setP pd (if g (x.getS ra) (x.getS rb) then 0xFFFFFFFF else 0))
    let pred := fun (row : FrondRow) (op : PredOp) (g : Word → Word → Word) =>
      ∀ pd pa pb, gives row (.pred op pd pa pb) pg (x.guard pg) (x.setP pd (g (x.getP pa) (x.getP pb)))
    let arithmetic : Prop :=
      alu .add .add (fun a b => a + b) ∧ alu .sub .sub (fun a b => a - b) ∧ alu .mul .mul (fun a b => a * b) ∧
      alu .mulhs .mulhs (fun a b => BitVec.ofInt 32 (a.toInt * b.toInt / 2 ^ 32)) ∧
      alu .mulhu .mulhu (fun a b => BitVec.ofNat 32 (a.toNat * b.toNat / 2 ^ 32)) ∧
      alu .min .min (fun a b => if a.toInt < b.toInt then a else b) ∧
      alu .max .max (fun a b => if a.toInt < b.toInt then b else a) ∧
      alu .minu .minu (fun a b => if a.toNat < b.toNat then a else b) ∧
      alu .maxu .maxu (fun a b => if a.toNat < b.toNat then b else a) ∧ alu .addi .addi (fun a b => a + b)
    let logic : Prop :=
      alu .and .and (fun a b => a &&& b) ∧ alu .or .or (fun a b => a ||| b) ∧ alu .xor .xor (fun a b => a ^^^ b) ∧
      alu .andi .andi (fun a b => a &&& b) ∧ alu .ori .ori (fun a b => a ||| b) ∧ alu .xori .xori (fun a b => a ^^^ b) ∧
      alu .clz .clz (fun a _ => BitVec.ofNat 32 (leadingZeros a)) ∧
      alu .popc .popc (fun a _ => BitVec.ofNat 32 (setBits a))
    let shifts : Prop :=
      alu .sll .sll (fun a b => a <<< (b.toNat % 32)) ∧ alu .srl .srl (fun a b => a >>> (b.toNat % 32)) ∧
      alu .sra .sra (fun a b => a.sshiftRight (b.toNat % 32)) ∧ alu .slli .slli (fun a b => a <<< (b.toNat % 32)) ∧
      alu .srli .srli (fun a b => a >>> (b.toNat % 32)) ∧ alu .srai .srai (fun a b => a.sshiftRight (b.toNat % 32))
    let compares : Prop :=
      test .cmpeq .eq (fun a b => a == b) ∧ test .cmplt .lt (fun a b => decide (a.toInt < b.toInt)) ∧
      test .cmpltu .ltu (fun a b => decide (a.toNat < b.toNat)) ∧ test .cmpge .ge (fun a b => decide (b.toInt ≤ a.toInt)) ∧
      ∀ t pd ra w, gives .cmpi (.cmp t pd ra (.imm w)) pg (x.guard pg) (x.setP pd (predWord (testHolds t (x.getS ra) w)))
    let predicates : Prop :=
      pred .pand .and (fun a b => a &&& b) ∧ pred .por .or (fun a b => a ||| b) ∧ pred .pxor .xor (fun a b => a ^^^ b) ∧
      pred .pandn .andn (fun a b => a &&& ~~~b) ∧
      (∀ rd pa, gives .mfp (.mfp rd pa) pg (x.guard pg) (x.setS rd (x.getP pa))) ∧
      (∀ pd ra, gives .mtp (.mtp pd ra) pg (x.guard pg) (x.setP pd (x.getS ra)))
    let long : Prop :=
      (∀ r imm, gives .lil (.lil r imm) 0 true (x.setS r (BitVec.ofNat 32 imm))) ∧
      (∀ r imm, gives .lih (.lih r imm) 0 true
        (x.setS r (BitVec.ofNat 32 (imm * 65536 + (x.getS r).toNat % 65536)))) ∧
      (∀ r, gives .timeh (.timeh r) 0 true (x.setS r x.timeHi))
    arithmetic ∧ logic ∧ shifts ∧ compares ∧ predicates ∧ long

/-- R353, R365, R368 to R370, R389, R392, R398: the system instructions, beside any vector slot. `y` is the state with
the vector slot's registers written and the program counter at the next bundle. -/
def Obligations.SystemInstructions : Prop :=
  ∀ (s : State) (f : Fin 64) (fe de : Ecc) (lost : Bool) (m : Meet) (v : Slot),
    let x := s.frond f.val
    let y := (atIssue s f.val fe lost).setFrond f.val { vecEffect x v x with pc := (x.pc + 8) % 65536 }
    let x' := y.frond f.val
    let gives := fun (row : FrondRow) (ins : FInstr) (t : State) =>
      Issues s f.val fe (⟨ins, 0⟩, v) → exec (row f fe de lost m) s = .next t
    let halts : Prop := gives .halt .halt (frondStop f.val 0 2 y) ∧ frondState (frondStop f.val 0 2 y) f.val = 0 ∧
      (frondStop f.val 0 2 y).fld (R.FRD_STATUS f.val) F.FRD_STATUS_CAUSE = 2
    let goesOn : Prop := gives .nop .nop y ∧ gives .fence .fence y ∧
      ∀ u, Issues s f.val fe (u, ⟨.nop, 0⟩) →
        exec (.nop f fe de lost m) s = .next (bundleEffect f.val (u, ⟨.nop, 0⟩) de m (atIssue s f.val fe lost))
    let stalls : Prop := s.working = true → frondIssues s f.val = true → underMarch s f.val = false → fe ≠ .bad → x.accesses ≠ [] →
      decodeBundle (fetchWords s f.val x.pc).1 (fetchWords s f.val x.pc).2 = some (⟨.fence, 0⟩, v) →
      exec (.fence f fe de lost m) s = .next (s.lost lost (R.FRD_RACE f.val))
    let waits : Prop := ∀ r, gives .wait (.wait r) (if x.getPair r &&& frondLines y f.val ≠ 0 then y
      else setFrondState (y.setFrond f.val { x' with waitMask := x.getPair r }) f.val 2)
    let events : Prop :=
      (∀ r, gives .evclr (.evclr r) ((y.setReg (R.FRD_EVT_PEND_LO f.val)
        (y.reg (R.FRD_EVT_PEND_LO f.val) &&& ~~~(x.getS r))).setReg
        (R.FRD_EVT_PEND_HI f.val) (y.reg (R.FRD_EVT_PEND_HI f.val) &&& ~~~(x.getS (r + 1))))) ∧
      (∀ r, gives .evrd (.evrd r) (y.setFrond f.val (x'.setPair r (y.reg64 (R.FRD_EVT_PEND_LO f.val))))) ∧
      gives .swevt .swevt (dmaSend 3 f.val (y.raise f.val))
    let reads : Prop :=
      (∀ r, gives .timel (.timel r) (y.setFrond f.val
        { x'.setS r (BitVec.ofNat 32 s.now) with timeHi := BitVec.ofNat 32 (s.now / 2 ^ 32) })) ∧
      (∀ r q, gives .qcnt (.qcnt r q) (y.setFrond f.val (x'.setS r (BitVec.ofNat 32 (s.queue f.val q).length))))
    halts ∧ goesOn ∧ stalls ∧ waits ∧ events ∧ reads

/-- R399: where the four branches go, and what the two with link write. -/
def Obligations.Branches : Prop :=
  ∀ (s : State) (f : Fin 64) (fe de : Ecc) (lost : Bool) (m : Meet) (pg : Nat) (v : Slot) (neg : Bool),
    let x := s.frond f.val
    let y := vecEffect x v x
    let taken : Bool := x.guard pg != neg
    let linked := y.setS 31 (BitVec.ofNat 32 (x.pc + 8))
    let goes := fun (row : FrondRow) (ins : FInstr) (z : FrondSt) (pc : Nat) =>
      Issues s f.val fe (⟨ins, pg⟩, v) → exec (row f fe de lost m) s = .next ((atIssue s f.val fe lost).setFrond f.val
        (if taken then { z with pc := pc } else { y with pc := (x.pc + 8) % 65536 }))
    let direct : Prop := ∀ ofs : Int,
      goes .branch (.branch neg false ofs) y (((x.pc : Int) + 8 * ofs) % 65536).toNat ∧
      goes .branchLink (.branch neg true ofs) linked (((x.pc : Int) + 8 * ofs) % 65536).toNat
    let indirect : Prop := ∀ ra,
      goes .branchIndirect (.branchTo neg false ra) y ((x.getS ra).toNat % 65536) ∧
      goes .branchIndirectLink (.branchTo neg true ra) linked ((x.getS ra).toNat % 65536)
    direct ∧ indirect

/-- R400 to R402: the loads, stores and bank atomics at issue, beside any vector slot. The address of a store is
`effAddr` of the registers at issue, in the frond's own local memories. -/
def Obligations.MemoryInstructions : Prop :=
  ∀ (s : State) (f : Fin 64) (fe de : Ecc) (lost : Bool) (m : Meet) (pg : Nat) (v : Slot) (rt rb : Nat) (wide : Bool)
    (size : Nat) (u : Bool) (ofs : Int),
    let x := s.frond f.val
    let y := (atIssue s f.val fe lost).setFrond f.val { vecEffect x v x with pc := (x.pc + 8) % 65536 }
    let ea := fun (op : MemOp) => effAddr x op rb wide size ofs
    let holds := fun (op : MemOp) => Issues s f.val fe (⟨.mem op rt rb wide size u ofs, pg⟩, v)
    let key := fun (op : MemOp) => frondKey f.val (ea op)
    let skipped := fun (row : FrondRow) (op : MemOp) =>
      holds op → accesses x op pg = false → exec (row f fe de lost m) s = .next y
    let queued := fun (row : FrondRow) (op : MemOp) (k : AccessKind) =>
      holds op → accesses x op pg = true → 0x50000 ≤ ea op → exec (row f fe de lost m) s = .next (y.setFrond f.val
        { y.frond f.val with accesses := x.accesses ++ [⟨k, ea op, rt, x.pc, false⟩] })
    let localLoad := fun (row : FrondRow) (op : MemOp) (len : Nat) (g : FrondSt → Nat → FrondSt) =>
      holds op → accesses x op pg = true → ea op < 0x50000 → de ≠ .bad →
        let y' := eccNote false (unitAddr f.val (ea op)) de y
        exec (row f fe de lost m) s = .next (y'.setFrond f.val (g (y'.frond f.val) (s.readNat (key op) len)))
    let value : Nat := if size = 3 then x.getPair rt else (x.getS rt).toNat
    let nothing : Prop := skipped .ld .ld ∧ skipped .st .st ∧ skipped .vld .vld ∧ skipped .vst .vst ∧
      skipped .aadd .aadd ∧ skipped .aswp .aswp
    let elsewhere : Prop := queued .ld .ld (.load size u) ∧ queued .vld .vld .vectorLoad ∧
      queued .st .st (.store (bytesLE (2 ^ size) (x.getPair rt)) (List.replicate (2 ^ size) true)) ∧
      queued .vst .vst (.store (bytesLE 64 (x.getV rt).toNat) ((List.range 64).map (fun i => (x.getP pg).getLsbD (i / 2)))) ∧
      queued .aadd .aadd (.bankAdd size value) ∧ queued .aswp .aswp (.bankSwap size value)
    let loads : Prop :=
      localLoad .ld .ld (2 ^ size) (fun z n =>
        if size = 3 then (z.setS rt (BitVec.ofNat 32 n)).setS (rt + 1) (BitVec.ofNat 32 (n / 2 ^ 32))
        else if u then z.setS rt (BitVec.ofNat 32 n) else z.setS rt (BitVec.ofInt 32 (toSigned (8 * 2 ^ size) n))) ∧
      localLoad .vld .vld 64 (fun z n => z.setV rt (BitVec.ofNat 512 n))
    let store : Prop := holds .st → accesses x .st pg = true → ea .st < 0x50000 →
      exec (.st f fe de lost m) s = .next (y.write (key .st) (bytesLE (2 ^ size) (x.getPair rt)))
    let vectorStore : Prop := holds .vst → accesses x .vst pg = true → ea .vst < 0x50000 →
      Completes (.vst f fe de lost m) s fun t =>
        (∀ i, i < 64 → t.byte (key .vst + i) = if (x.getP pg).getLsbD (i / 2) then
          BitVec.ofNat 8 ((x.getV rt).toNat / 2 ^ (8 * i)) else s.byte (key .vst + i)) ∧
        (∀ k, k < key .vst ∨ key .vst + 64 ≤ k → t.byte k = s.byte k) ∧ t = { y with mem := t.mem }
    nothing ∧ elsewhere ∧ loads ∧ store ∧ vectorStore

/-- R371, R401 to R403: the queue instructions, beside any vector slot. -/
def Obligations.QueueInstructions : Prop :=
  ∀ (s : State) (f : Fin 64) (fe de : Ecc) (lost : Bool) (m : Meet) (pg : Nat) (v : Slot) (rt q pd : Nat),
    let x := s.frond f.val
    let y := (atIssue s f.val fe lost).setFrond f.val { vecEffect x v x with pc := (x.pc + 8) % 65536 }
    let gives := fun (row : FrondRow) (op : QueueOp) (c : Bool) (t : State) =>
      Issues s f.val fe (⟨.queue op rt q pd, pg⟩, v) → c = true → exec (row f fe de lost m) s = .next t
    let taken := fun (z : FrondSt) =>
      stageRefill f.val q
        (queueDrop (y.setFrond f.val (z.setV rt (BitVec.ofNat 512 (ofBytesLE ((s.queue f.val q).headD []))))) f.val q)
    let put := fun (z : FrondSt) => queueAdd (y.setFrond f.val z) f.val q (bytesLE 64 (x.getV rt).toNat)
    let x' := y.frond f.val
    let skipped : Prop := gives .qget .get (!x.guard pg) y ∧ gives .qput .put (!x.guard pg) y ∧
      gives .qtget .tryGet (!x.guard pg) y ∧ gives .qtput .tryPut (!x.guard pg) y
    let moves : Prop := gives .qget .get (x.guard pg) (taken x') ∧ gives .qput .put (x.guard pg) (put x')
    let tries : Prop :=
      gives .qtget .tryGet (x.guard pg && queueMoves s f.val q false) (taken (x'.setP pd 0xFFFFFFFF)) ∧
      gives .qtput .tryPut (x.guard pg && queueMoves s f.val q true) (put (x'.setP pd 0xFFFFFFFF)) ∧
      gives .qtget .tryGet (x.guard pg && !queueMoves s f.val q false) (y.setFrond f.val (x'.setP pd 0)) ∧
      gives .qtput .tryPut (x.guard pg && !queueMoves s f.val q true) (y.setFrond f.val (x'.setP pd 0))
    let ready : Prop := ∀ out, queueMoves s f.val q out = true →
      queueBound s f.val q = true ∧ s.bit (R.FRD_Q_CFG f.val q) F.FRD_Q_CFG_DIR = out ∧
      (out = false → s.queue f.val q ≠ []) ∧ (out = true → (s.queue f.val q).length < 16)
    skipped ∧ moves ∧ tries ∧ ready

/-- R387, R388, R406: the vector slot's lane instructions, lane by lane, for both widths and both kinds of second
operand. -/
def Obligations.VectorLanes : Prop :=
  ∀ (s : State) (f : Fin 64) (fe de : Ecc) (lost : Bool) (m : Meet) (pg : Nat) (u : Slot) (w : Bool) (vd va : Nat),
    let x := s.frond f.val
    let n := if w then 32 else 16
    let gov := fun (i : Nat) => (x.getP pg).getLsbD (if w then 2 * i else i)
    let onward := (x.pc + 8) % 65536
    let vector := fun (row : FrondRow) (ins : FInstr) (g : Nat → Nat) =>
      Issues s f.val fe (u, ⟨ins, pg⟩) → de ≠ .bad → Completes (row f fe de lost m) s fun t =>
        (∀ i, i < laneCount w → laneOf w ((t.frond f.val).getV vd) i = g i) ∧
        (u.ins = .nop → t = (atIssue s f.val fe lost).setFrond f.val
          { x.setV vd ((t.frond f.val).getV vd) with pc := onward })
    let lanes := fun (row : FrondRow) (op : VecOp) (g : Nat → Nat → Nat) =>
      ∀ b, vector row (.vec op w vd va b) (fun i =>
        if gov i then g (laneOf w (x.getV va) i) (x.laneB w b i) else laneOf w (x.getV vd) i)
    let compare := fun (row : FrondRow) (k : Test) (g : Nat → Nat → Bool) =>
      ∀ b, Issues s f.val fe (u, ⟨.vcmp k w vd va b, pg⟩) → vd ≠ 0 → de ≠ .bad → Completes (row f fe de lost m) s fun t =>
        (∀ j, j < 32 → ((t.frond f.val).getP vd).getLsbD j = if gov (if w then j / 2 else j) then
          g (laneOf w (x.getV va) (if w then j / 2 else j)) (x.laneB w b (if w then j / 2 else j))
          else (x.getP vd).getLsbD j) ∧
        (u.ins = .nop → t = (atIssue s f.val fe lost).setFrond f.val
          { x.setP vd ((t.frond f.val).getP vd) with pc := onward })
    let si := toSigned n
    let sat := fun (v : Int) => ofSigned n (max (-(2 ^ (n - 1) : Int)) (min (2 ^ (n - 1) - 1) v))
    let sums : Prop := lanes .vadd .add (fun a b => (a + b) % 2 ^ n) ∧
      lanes .vsub .sub (fun a b => (a + 2 ^ n - b) % 2 ^ n) ∧ lanes .vadds .adds (fun a b => sat (si a + si b)) ∧
      lanes .vaddus .addus (fun a b => min (2 ^ n - 1) (a + b)) ∧ lanes .vsubs .subs (fun a b => sat (si a - si b)) ∧
      lanes .vsubus .subus (fun a b => a - b) ∧ lanes .vabsd .absd (fun a b => if a < b then b - a else a - b)
    let orders : Prop := lanes .vmin .min (fun a b => if si a < si b then a else b) ∧
      lanes .vmax .max (fun a b => if si a < si b then b else a) ∧ lanes .vminu .minu (fun a b => min a b) ∧
      lanes .vmaxu .maxu (fun a b => max a b)
    let logic : Prop := lanes .vand .and (fun a b => a &&& b) ∧ lanes .vor .or (fun a b => a ||| b) ∧
      lanes .vxor .xor (fun a b => a ^^^ b)
    let shifts : Prop := lanes .vsll .sll (fun a b => if n ≤ b then 0 else a * 2 ^ b % 2 ^ n) ∧
      lanes .vsrl .srl (fun a b => if n ≤ b then 0 else a / 2 ^ b) ∧
      lanes .vsra .sra (fun a b => ofSigned n (si a / 2 ^ min b n))
    let products : Prop := lanes .vmul .mul (fun a b => a * b % 2 ^ n) ∧
      lanes .vmulhs .mulhs (fun a b => ofSigned n (si a * si b / 2 ^ n)) ∧ lanes .vmulhu .mulhu (fun a b => a * b / 2 ^ n)
    let compares : Prop := compare .vcmpeq .eq (fun a b => a == b) ∧
      compare .vcmplt .lt (fun a b => decide (si a < si b)) ∧ compare .vcmpltu .ltu (fun a b => decide (a < b)) ∧
      compare .vcmpge .ge (fun a b => decide (si b ≤ si a))
    let moves : Prop :=
      (∀ vb, vector .vsel (.vsel w vd va vb) (fun i => if gov i then laneOf w (x.getV va) i else laneOf w (x.getV vb) i)) ∧
      (∀ sb, vector .vbcast (.vbcast w vd sb) (fun i =>
        if gov i then (x.getS sb).toNat % 2 ^ n else laneOf w (x.getV vd) i)) ∧
      (∀ sb, vector .vrot (.vrot w vd va sb) (fun i =>
        if gov i then laneOf w (x.getV va) ((i + (x.getS sb).toNat % 2 ^ n) % laneCount w) else laneOf w (x.getV vd) i))
    sums ∧ orders ∧ logic ∧ shifts ∧ products ∧ compares ∧ moves

/-- R406, R407: the accumulator instructions, lane by lane. -/
def Obligations.Accumulators : Prop :=
  ∀ (s : State) (f : Fin 64) (fe de : Ecc) (lost : Bool) (m : Meet) (pg : Nat) (u : Slot) (d : Nat),
    let x := s.frond f.val
    let gov := fun (i : Nat) => (x.getP pg).getLsbD i
    let onward := (x.pc + 8) % 65536
    let into := fun (row : FrondRow) (ins : FInstr) (g : Nat → Int) =>
      Issues s f.val fe (u, ⟨ins, pg⟩) → de ≠ .bad → Completes (row f fe de lost m) s fun t =>
        (∀ i, i < 32 → accLane ((t.frond f.val).getA d) i = if gov i then (g i % 2 ^ 48).toNat else accLane (x.getA d) i) ∧
        (u.ins = .nop → t = (atIssue s f.val fe lost).setFrond f.val
          { x.setA d ((t.frond f.val).getA d) with pc := onward })
    let out := fun (row : FrondRow) (uns : Bool) (aa sh : Nat) (lo hi : Int) =>
      Issues s f.val fe (u, ⟨.vacrd uns d aa sh, pg⟩) → de ≠ .bad → Completes (row f fe de lost m) s fun t =>
        (∀ i, i < 32 → laneOf false ((t.frond f.val).getV d) i = if gov i then
          (max lo (min hi ((toSigned 48 (accLane (x.getA aa) i) + (if sh = 0 then 0 else 2 ^ (sh - 1))) / 2 ^ sh)) %
            65536).toNat else laneOf false (x.getV d) i) ∧
        (u.ins = .nop → t = (atIssue s f.val fe lost).setFrond f.val
          { x.setV d ((t.frond f.val).getV d) with pc := onward })
    let old := fun (i : Nat) => (accLane (x.getA d) i : Int)
    let products : Prop := ∀ va vb,
      let a := fun (i : Nat) => laneOf false (x.getV va) i
      let b := fun (i : Nat) => laneOf false (x.getV vb) i
      into .vmac (.vmac .ss d va vb) (fun i => old i + toSigned 16 (a i) * toSigned 16 (b i)) ∧
      into .vmacu (.vmac .uu d va vb) (fun i => old i + (a i : Int) * (b i : Int)) ∧
      into .vmacsu (.vmac .su d va vb) (fun i => old i + toSigned 16 (a i) * (b i : Int)) ∧
      into .vmsu (.vmac .sub d va vb) (fun i => old i - toSigned 16 (a i) * toSigned 16 (b i))
    let clear : Prop := into .vaclr (.vaclr d) (fun _ => 0)
    let readOuts : Prop := ∀ aa sh, out .vacrd false aa sh (-32768) 32767 ∧ out .vacrdu true aa sh 0 65535
    products ∧ clear ∧ readOuts

/-- R384, R385, R408, R409: which fault an issuing bundle meets, in the order of R408, and what it leaves. Named for
the rows of LD, ST, VLD, VST, AADD and ASWP; an undefined bundle and a bad fetch fault under any instruction row. -/
def Obligations.FrondFaults : Prop :=
  ∀ (s : State) (f : Fin 64) (fe de : Ecc) (lost : Bool) (m : Meet) (pg : Nat) (v : Slot) (rt rb : Nat) (wide : Bool)
    (size : Nat) (u : Bool) (ofs : Int), s.working = true → frondIssues s f.val = true → frondCritical s f.val = false →
    let x := s.frond f.val
    let w := fetchWords s f.val x.pc
    let s' := s.lost lost (R.FRD_RACE f.val)
    let faults := fun (row : FrondRow) (cause addr : Nat) (z : State) =>
      exec (row f fe de lost m) s = .next (frondFault f.val cause x.pc addr z)
    let each := fun (p : FrondRow → MemOp → Prop) =>
      p .ld .ld ∧ p .st .st ∧ p .vld .vld ∧ p .vst .vst ∧ p .aadd .aadd ∧ p .aswp .aswp
    let unmarched := underMarch s f.val = false
    let marched : Prop := underMarch s f.val = true → ∀ row : FrondRow,
      row ∈ [Instr.ld, Instr.nop, Instr.add, Instr.vadd] → faults row 5 x.pc s'
    let fetch : Prop := unmarched → fe = .bad → ∀ row : FrondRow,
      row ∈ [Instr.ld, Instr.nop, Instr.add, Instr.vadd] → faults row 6 x.pc (eccBad false (unitAddr f.val x.pc) s')
    let undefined : Prop := unmarched → fe ≠ .bad → decodeBundle w.1 w.2 = none → ∀ row : FrondRow,
      row ∈ [Instr.ld, Instr.nop, Instr.add, Instr.vadd] → faults row 3 0 s'
    let access := fun (row : FrondRow) (op : MemOp) =>
      unmarched → fe ≠ .bad → decodeBundle w.1 w.2 = some (⟨.mem op rt rb wide size u ofs, pg⟩, v) →
      (bundleStalls s f.val (⟨.mem op rt rb wide size u ofs, pg⟩, v) = true → exec (row f fe de lost m) s = .next s') ∧
      (bundleStalls s f.val (⟨.mem op rt rb wide size u ofs, pg⟩, v) = false → accesses x op pg = true →
      let a := effAddr x op rb wide size ofs
      let len := accessLen op size
      let block := 0x50000 ≤ a ∧ ∃ b, regionOf a = .block b
      let misaligned := a % len ≠ 0 ∨ (block ∧ len ≠ 4)
      let outside := (a < 0x10000 ∧ (op = .st ∨ op = .vst)) ∨
        ((0x50000 ≤ a ∨ op = .aadd ∨ op = .aswp) ∧ winGrants s f.val op.perm a len = false)
      let unatomic := (op = .aadd ∨ op = .aswp) ∧ (a < 0x50000 ∨ regionOf a = .dram ∨ regionOf a = .exchange ∨ block)
      (misaligned → faults row 4 a s') ∧ (¬ misaligned → outside → faults row 5 a s') ∧
      (¬ misaligned → ¬ outside → unatomic → faults row 8 a s'))
    let leaves : Prop := ∀ cause pc addr, cause < 16 →
      let t := frondFault f.val cause pc addr s'
      frondState t f.val = 3 ∧ t.fld (R.FRD_STATUS f.val) F.FRD_STATUS_CAUSE = cause ∧
      t.fld (R.FRD_FAULT_PC f.val) F.FRD_FAULT_PC_PC = pc % 65536 ∧ t.reg64 (R.FRD_FAULT_ADDR_LO f.val) = addr % 2 ^ 64 ∧
      SameMem s t ∧ t.queues = s.queues ∧ (t.frond f.val).pc = x.pc ∧ (t.frond f.val).sregs = x.sregs ∧
      (t.frond f.val).vregs = x.vregs ∧ (t.frond f.val).preds = x.preds ∧ (t.frond f.val).accs = x.accs
    marched ∧ fetch ∧ undefined ∧ each access ∧ leaves

/-- R351 to R353, R367 to R370, R384 to R386: the commands on a frond from outside it. -/
def Obligations.FrondControl : Prop :=
  ∀ (s : State) (f : Fin 64) (lost : Bool), s.working = true →
    let x := s.frond f.val
    let st := R.FRD_STATUS f.val
    let stopped := frondStopped s f.val
    let ignored := s.flag st F.FRD_STATUS_CMD_IGNORED
    let timeout := s.fld (R.FRD_WDOG f.val) F.FRD_WDOG_TIMEOUT
    let race := R.FRD_RACE f.val
    let starts : Prop :=
      (stopped = true → tuftParked s (f.val / 8) = false → Completes (.frdStart f) s fun t =>
        frondState t f.val = 1 ∧ t.fld st F.FRD_STATUS_CAUSE = 0 ∧ SameMem s t ∧ SameRegs s t (fun a => a = st) ∧
        t.frond f.val = { x with sregs := [], vregs := [], preds := [], accs := [], waitMask := 0,
                                 pc := 8 * s.fld (R.FRD_ENTRY f.val) F.FRD_ENTRY_ENTRY, wdogLeft := timeout * 1000,
                                 wdogFrom := s.now }) ∧
      (stopped = false ∨ tuftParked s (f.val / 8) = true → exec (.frdStart f) s = .next ignored)
    let halts : Prop :=
      (stopped = true → exec (.frdHalt f lost) s = .next (ignored.lost lost race)) ∧
      (stopped = false → Completes (.frdHalt f lost) s fun t =>
        frondState t f.val = 0 ∧ t.fld st F.FRD_STATUS_CAUSE = 1 ∧ SameMem s t ∧ SameRegs s t (fun a => a = st ∨ a = race) ∧
        (∀ a ∈ (t.frond f.val).accesses, a.discard = true) ∧ (t.frond f.val).accesses.length = x.accesses.length ∧
        (t.frond f.val).pc = x.pc ∧ (t.frond f.val).sregs = x.sregs ∧ (t.frond f.val).wdogLeft = wdogLeft s f.val)
    let loaded := fun (z : State) (us : Nat) => z.setFrond f.val { z.frond f.val with wdogLeft := us * 1000, wdogFrom := s.now }
    let watchdog : Prop :=
      exec (.frdKick f lost) s = .next ((loaded s timeout).lost lost race) ∧
      (∀ us : Fin 16777216, exec (.frdWdogWrite f us) s =
        .next (loaded (s.setFld (R.FRD_WDOG f.val) F.FRD_WDOG_TIMEOUT us.val) us.val)) ∧
      (∀ m, stopped = true ∨ timeout = 0 → exec (.frondWdogExpiry f lost m) s = .next s) ∧
      (∀ m, stopped = false → timeout ≠ 0 → frondCritical s f.val = false →
        exec (.frondWdogExpiry f lost m) s =
          .next ((frondFault f.val 7 x.pc 0 (s.reach (x.wdogFrom + x.wdogLeft))).lost lost race)) ∧
      (∀ m, stopped = false → timeout ≠ 0 → frondCritical s f.val = true →
        exec (.frondWdogExpiry f lost m) s =
          .next (warmCause 2 m ((frondFault f.val 7 x.pc 0 (s.reach (x.wdogFrom + x.wdogLeft))).lost lost race)))
    let events : Prop :=
      (∀ l : Fin 64, exec (.frdEvtRaise f l lost) s = .next ((s.setLine f.val l.val).lost lost race) ∧
        (s.setLine f.val l.val).lineUp f.val l.val = true) ∧
      exec (.frdSwevt f) s = .next (dmaSend 3 f.val (s.raise f.val)) ∧
      (frondState s f.val = 2 → x.waitMask &&& s.reg64 (R.FRD_EVT_PEND_LO f.val) ≠ 0 → Completes (.waitWake f) s fun t =>
        frondState t f.val = 1 ∧ t.frond f.val = { x with waitMask := 0 } ∧ SameMem s t ∧ SameRegs s t (fun a => a = st)) ∧
      (frondState s f.val ≠ 2 ∨ x.waitMask &&& s.reg64 (R.FRD_EVT_PEND_LO f.val) = 0 → exec (.waitWake f) s = .next s)
    let reports : Prop :=
      (x.reports = [] → exec (.accessFault f) s = .next s) ∧
      (∀ a r, x.reports = a :: r → Completes (.accessFault f) s fun t =>
        (t.frond f.val).reports = r ∧ t.bit st F.FRD_STATUS_ACCESS_FAULT = true ∧ t.lineUp f.val 55 = true ∧
        t.fld st F.FRD_STATUS_ACC_COUNT = min (2 ^ F.FRD_STATUS_ACC_COUNT.width - 1) (s.fld st F.FRD_STATUS_ACC_COUNT + 1) ∧
        t.reg64 (R.FRD_ACC_ADDR_LO f.val) = a % 2 ^ 64 ∧ SameMem s t)
    starts ∧ halts ∧ watchdog ∧ events ∧ reports

/-- R358, R362, R364, R365, R367, R381, R382, R384, R416, R422: what completes a frond's accesses, and the tufts'
commands. -/
def Obligations.FrondsMeetTheRest : Prop :=
  ∀ (s : State) (lost : Bool), s.working = true →
    let loads : Prop := ∀ (f : Fin 64) (i : Fin 48) (m : Meet) a, accessFirst (s.frond f.val) i.val = some a → a.isStore = false →
      (marchStalls s a.addr = true → exec (.loadReturn f i .sound false m) s = .next s) ∧ (marchStalls s a.addr = false →
      let r := accessServe f.val a false s
      let gone := accessGone f.val i.val r.2
      (a.discard = true → exec (.loadReturn f i .sound false m) s = .next gone) ∧
      (a.discard = false → r.1 = none → exec (.loadReturn f i .sound false m) s = .next (frondFaults f.val 5 a.pc a.addr m gone)) ∧
      (∀ bs, a.discard = false → r.1 = some bs → exec (.loadReturn f i .sound false m) s =
        .next (gone.setFrond f.val ((gone.frond f.val).takeLoad a.kind a.reg bs))) ∧
      (∀ bs d w, a.discard = false → eccPlace a.addr = some (d, w) →
        let b := accessServe f.val a true (eccBad d w s)
        b.1 = some bs → exec (.loadReturn f i .bad false m) s =
          .next (frondFaults f.val 6 a.pc a.addr m (accessGone f.val i.val b.2))))
    let stores : Prop := ∀ (f : Fin 64) (i : Fin 48) a bs mask, accessFirst (s.frond f.val) i.val = some a →
      a.kind = .store bs mask →
      let gone := accessGone f.val i.val s
      (marchStalls s a.addr = true → exec (.storeAccept f i false) s = .next s) ∧
      (marchStalls s a.addr = false → exec (.storeAccept f i false) s = .next ((busWrite (.frond f) none a.addr (bs.zip mask) gone).getD
        (accessRefused f.val a.addr gone)))
    let order : Prop := ∀ (x : FrondSt) i a, accessFirst x i = some a → x.accesses[i]? = some a ∧
      ∀ b ∈ x.accesses.take i, islandOf b.addr ≠ islandOf a.addr
    let tuft : Prop := ∀ (k : Fin 8),
      let ctrl := R.TUFT_CTRL k.val
      let st := R.TUFT_STATUS k.val
      let want := s.reg (R.TUFT_OP k.val)
      let waits := s.bit ctrl F.TUFT_CTRL_COMMIT_PENDING
      let stopped := (tuftFronds k.val).all (frondStopped s)
      let inForce := fun (t : State) => t.bit ctrl F.TUFT_CTRL_COMMIT_PENDING = false ∧
        t.fld st F.TUFT_STATUS_OP_IN_FORCE = t.actFld (R.TUFT_OP k.val) F.TUFT_OP_OP ∧
        t.fld st F.TUFT_STATUS_MHZ = tuftMhz s k.val (t.actFld (R.TUFT_OP k.val) F.TUFT_OP_OP) % 2 ^ F.TUFT_STATUS_MHZ.width ∧
        t.reg64 (R.TUFT_COMMIT_TAKEN_LO k.val) = t.now % 2 ^ 64 ∧ SameMem s t
      let shadow := fun (t : State) => (t.reg (R.TUFT_OP k.val)).get F.TUFT_OP_OP = t.actFld (R.TUFT_OP k.val) F.TUFT_OP_OP ∧
        (t.reg (R.TUFT_OP k.val)).get F.TUFT_OP_PARK = t.actFld (R.TUFT_OP k.val) F.TUFT_OP_PARK
      let pending := fun (t : State) => t.bit ctrl F.TUFT_CTRL_COMMIT_PENDING = true
      let drained := tuftDrained s k.val
      (waits = true → exec (.tuftCommit k lost) s = .next (s.lost lost (R.TUFT_RACE k.val))) ∧
      (waits = false → want.get F.TUFT_OP_PARK = 1 → stopped = true → drained = true ∨ tuftParked s k.val = true →
        Completes (.tuftCommit k lost) s fun t => inForce t ∧ shadow t ∧ tuftParked t k.val = true ∧ t.now = s.now) ∧
      (waits = false → want.get F.TUFT_OP_PARK = 1 → stopped = true → drained = false → tuftParked s k.val = false →
        Completes (.tuftCommit k lost) s fun t => pending t ∧ shadow t ∧ t.bit st F.TUFT_STATUS_SWITCHING = true ∧
          t.actFld (R.TUFT_OP k.val) F.TUFT_OP_PARK = 1 ∧ tuftParked t k.val = false ∧ SameMem s t) ∧
      (waits = false → want.get F.TUFT_OP_PARK = 1 → stopped = false → s.actFld (R.TUFT_OP k.val) F.TUFT_OP_PARK = 0 →
        Completes (.tuftCommit k lost) s fun t => t.bit st F.TUFT_STATUS_CFG_REFUSED = true ∧ pending t ∧ shadow t ∧
          t.actFld (R.TUFT_OP k.val) F.TUFT_OP_PARK = 0 ∧ tuftParked t k.val = tuftParked s k.val ∧ SameMem s t) ∧
      (waits = false → want.get F.TUFT_OP_PARK = 0 → Completes (.tuftCommit k lost) s fun t =>
        pending t ∧ shadow t ∧ (tuftParked s k.val = true → (t.frond (8 * k.val)).wakeFrom = s.now) ∧
        (tuftParked s k.val = false → t.bit st F.TUFT_STATUS_SWITCHING = true) ∧
        (tuftMhz s k.val (want.get F.TUFT_OP_OP) ≠ 0 → t.actFld (R.TUFT_OP k.val) F.TUFT_OP_OP = want.get F.TUFT_OP_OP) ∧
        (tuftMhz s k.val (want.get F.TUFT_OP_OP) = 0 → t.bit st F.TUFT_STATUS_CFG_REFUSED = true ∧
          t.actFld (R.TUFT_OP k.val) F.TUFT_OP_OP = s.actFld (R.TUFT_OP k.val) F.TUFT_OP_OP) ∧ SameMem s t) ∧
      (tuftSwitching s k.val = true → drained = true →
        Completes (.tuftSwitchDone k) s fun t => inForce t ∧ tuftSwitching t k.val = false ∧ t.now = s.now ∧
          (s.actBit (R.TUFT_OP k.val) F.TUFT_OP_PARK = true → stopped = true → tuftParked t k.val = true) ∧
          (s.actBit (R.TUFT_OP k.val) F.TUFT_OP_PARK = true → stopped = false →
            t.bit st F.TUFT_STATUS_CFG_REFUSED = true ∧ t.actFld (R.TUFT_OP k.val) F.TUFT_OP_PARK = 0)) ∧
      (tuftSwitching s k.val = false ∨ drained = false → exec (.tuftSwitchDone k) s = .next s) ∧
      (tuftParked s k.val = true → waits = true → Completes (.tuftWake k) s fun t => inForce t ∧ tuftParked t k.val = false ∧
        t.now = max s.now ((s.frond (8 * k.val)).wakeFrom + 4000)) ∧
      (tuftParked s k.val = false ∨ waits = false → exec (.tuftWake k) s = .next s)
    loads ∧ stores ∧ order ∧ tuft

/-- R376, R377, R380, R417, R465, R474, R475, R478, R492, R496, R499, R500: the intake, the sealer and the stage rings. -/
def Obligations.IntakeAndSeal : Prop :=
  ∀ (s : State) (lost : Bool), s.working = true →
    let intake : Prop := ∀ i : Fin 14,
      let src := sourceByte i.val
      (s.queueOf src = [] → exec (.recordIntake i) s = .next s) ∧
      ∀ r rest, s.queueOf src = r :: rest →
        (sourceStream s i.val = none → exec (.recordIntake i) s = .next (s.setQueue src rest)) ∧
        ∀ n, sourceStream s i.val = some n →
          (takesRecords s n = false → exec (.recordIntake i) s = .next (s.setQueue src rest)) ∧
          let x := s.stream n
          let len := 64 + r.payload.length
          let at_ := if spoolSize s n < intakeAt s n + len then 0 else intakeAt s n
          let plain := takesRecords s n = true ∧ isStaged s n = false ∧ x.stopping = false ∧ x.waiting = [] ∧
            x.spans.find? (fun p => p.src == r.src && p.typ == r.typ) = none
          let room := roomFor s n [len] (keepFree (isControl r.typ))
          (plain → room = true → x.open_.length < 255 → openBytes x + len ≤ 0x400000 → 0 < spoolSize s n →
            busErrorIn s (spoolBase s n + at_) len = false → Completes (.recordIntake i) s fun t =>
              let tail := if r.seqTail then bytesLE 4 (Sparse.get (fun _ => 0) x.lastSeqs r.src) ++ (padTo 16 r.tail).drop 4
                else r.tail
              t.read (spoolBase s n + at_) len = headerOf { r with tail := tail } s.devid (runId s) x.nextSeq
                (r.flags ||| intakeFlags s n) x.chunkIdx x.open_.length ++ r.payload ∧
              (∀ a, a < spoolBase s n + at_ ∨ spoolBase s n + at_ + len ≤ a → t.byte a = s.byte a) ∧
              (t.stream n).nextSeq = x.nextSeq + 1 ∧ (t.stream n).open_.length = x.open_.length + 1 ∧
              t.reg (R.SPOOL_INTAKE n) = BitVec.ofNat 32 ((at_ + len) % spoolSize s n / 64) ∧ t.queueOf src = rest) ∧
          (plain → room = false → isControl r.typ = false → Completes (.recordIntake i) s fun t => SameMem s t ∧ t.queueOf src = rest ∧
            (t.stream n).nextSeq = x.nextSeq ∧ (t.stream n).open_ = x.open_ ∧ (t.stream n).spans.length = x.spans.length + 1)
    let ages : Prop := ∀ n : Fin 16,
      let x := s.stream n.val
      (x.open_ = [] → exec (.chunkAgeExpiry n) s = .next s) ∧
      (x.open_ ≠ [] → Completes (.chunkAgeExpiry n) s fun t => (t.stream n.val).open_ = [] ∧ SameMem s t ∧
        t.now = max s.now (x.openAt + max 1 (s.fld (R.HOST_CHUNK_AGE n.val) F.HOST_CHUNK_AGE_CHUNK_AGE) * 1000000) ∧
        ∃ c, (t.stream n.val).closed = x.closed ++ [c] ∧ c.ents = x.open_ ∧ c.idx = x.chunkIdx ∧ c.epoch = x.epoch ∧
          c.closedAt = t.now ∧ c.sealEnt.seq = x.nextSeq ∧ c.final = false ∧ (t.stream n.val).nextSeq = x.nextSeq + 1 ∧
          (t.stream n.val).chunkIdx = (if x.chunkIdx = 0xFFFFFFFF then 0 else x.chunkIdx + 1))
    let starts : Prop := ∀ (n : Fin 16) (m : Meet) k c rest, s.root.keys = some k → (s.stream n.val).closed = c :: rest →
      let started := s.setStream n.val { s.stream n.val with closed := { c with started := true } :: rest }
      ∀ a, exec (.chunkSealStart n ⟨.sound, a⟩ m) s = .next started ∧
        exec (.chunkSealStart n ⟨.corrected, a⟩ m) s = .next (eccFixed true a.toNat started) ∧
        exec (.chunkSealStart n ⟨.bad, a⟩ m) s = .next (warmCause 2 m (eccBad true a.toNat started))
    let seals : Prop := ∀ (n : Fin 16) k c rest, s.root.keys = some k → (s.stream n.val).closed = c :: rest → c.started = true →
      64 ≤ c.sealEnt.len → busErrorIn s (spoolBase s n.val + c.sealEnt.off) c.sealEnt.len = false →
      Completes (.chunkSealComplete n lost) s fun t =>
        let x := s.stream n.val
        t.read (spoolBase s n.val + c.sealEnt.off) 64 = sealHeader s n.val c ∧ (t.stream n.val).closed = rest ∧
        (t.stream n.val).ents = x.ents ++ c.ents ++ [c.sealEnt] ∧ (t.stream n.val).sealedIdx = c.idx ∧
        (t.stream n.val).sealedSeq = c.sealEnt.seq ∧ (t.stream n.val).finalSealed = c.final ∧
        t.reg (R.SPOOL_SEAL n.val) = BitVec.ofNat 32 ((c.sealEnt.off + c.sealEnt.len) % spoolSize s n.val / 64)
    let keys : Prop := s.root.keys = none → (∃ n, n < 16 ∧ streamBusy s n = true) → s.boot.spore ≠ none →
      Completes .runKeysDerived s fun t => t.root.keys ≠ none ∧ t.root.randoms = s.root.randoms + 1 ∧
        t = { s with root := t.root }
    let stages : Prop := ∀ (f : Fin 64) (q : Fin 8) (addr : BitVec 48), queueKind s f.val q.val = 4 →
      queueBound s f.val q.val = true → ∀ n, n = queuePeer s f.val q.val → stageQueue s 4 n = some (f.val, q.val) →
      let g := s.stage n
      let d := ringSpan (stageSize s n) g.rd (addr.toNat - stageBase s n)
      let inside := stageBase s n ≤ addr.toNat ∧ addr.toNat < stageBase s n + stageSize s n
      (inside → 0 < d → d ≤ g.given → Completes (.stageRelease f q addr) s fun t =>
        t.stage n = { g with rd := addr.toNat - stageBase s n, used := g.used - d, given := g.given - d }) ∧
      (¬ inside ∨ (0 < d ∧ g.given < d) →
        Completes (.stageRelease f q addr) s fun t => t.stage n = g ∧ SameMem s t ∧
          t.bit (R.FRD_Q_STATUS f.val q.val) F.FRD_Q_STATUS_STAGE_ERR = true)
    let copies : Prop := ∀ (n : Fin 16) (r : SpanRead),
      let i : Instr := .stageCopyDone ⟨n, r⟩
      (stageQueue s 5 n.val = none → exec i s = .next s) ∧
      ∀ f q, stageQueue s 5 n.val = some (f, q) →
        (s.queue f q = [] → exec i s = .next s) ∧
        ∀ e rest, s.queue f q = e :: rest → queueKind s f q = 5 →
          let a := natAt 40 8 e
          let len := 64 + natAt 4 4 e
          let sound := a % 64 = 0 ∧ len % 64 = 0 ∧ stageSource s a len = true ∧ winGrants s f .read a len = true ∧
            (s.stream n.val).inRun = true ∧ (s.stage n.val).ended = false
          let takes := intakeTakes s n.val (recAt s a len)
          let error := fun (t : State) => t.bit (R.FRD_Q_STATUS f q) F.FRD_Q_STATUS_STAGE_ERR = true
          (marchStalls s a = true ∨ (sound ∧ takes = false) → exec i s = .next s) ∧
          (marchStalls s a = false → ¬ sound → Completes i s fun t => t.queue f q = rest ∧ error t) ∧
          (marchStalls s a = false → sound → takes = true → Completes i s fun t => t.queue f q = rest ∧
            (spanBad a r = true → error t))
    let ends : Prop := ∀ (n : Fin 16) t0, (s.stage n.val).stopAt = some t0 → isStaged s n.val = true →
      (s.stream n.val).stopping = true → Completes (.stageDrainTimeout n) s fun t =>
        (t.stage n.val).ended = true ∧ t.now = max s.now (t0 + 1000000000)
    intake ∧ ages ∧ starts ∧ seals ∧ keys ∧ stages ∧ copies ∧ ends

/-- R433 to R435, R437 to R440, R446, R448, R450, R451: the commands that move a DMA channel from state to state;
STATE of a channel that fetches is the model's (log entry 57). -/
def Obligations.DmaChannels : Prop :=
  ∀ (s : State) (n : Fin 64) (lost : Bool), s.working = true →
    let c := s.chan n.val
    let st := chanState s n.val
    let status := R.CH_STATUS n.val
    let race := fun (z : State) => z.lost lost (R.CH_RACE n.val)
    let ignored := fun (row : Instr) => exec row s = .next (race (s.flag status F.CH_STATUS_CMD_IGNORED))
    let halted := fun (t : State) (why : Nat) => chanState t n.val = 4 ∧ t.fld status F.CH_STATUS_HALT_WHY = why ∧
      t.bit status F.CH_STATUS_HALTED_SEEN = true ∧ (t.chan n.val).cur = none ∧ (t.chan n.val).nxt = .none
    let head := s.reg64 (R.CH_HEAD_LO n.val)
    let starts : Prop :=
      (st ≠ 1 ∧ st ≠ 4 ∨ c.nxt ≠ .none → ignored (.chStart n lost)) ∧
      (st = 1 ∨ st = 4 → c.nxt = .none → c.cur = none → Completes (.chStart n lost) s fun t => SameMem s t ∧
        (t.reg (R.CH_DONE_COUNT n.val)).toNat = 0 ∧
        (head % 64 = 0 → chanState t n.val = 3 ∧ (t.chan n.val).nxt = .fetching head ∧
          t.fld status F.CH_STATUS_HALT_WHY = 0 ∧ (t.reg (R.CH_HOPS n.val)).toNat = 1) ∧
        (head % 64 ≠ 0 → halted t 3 ∧ t.reg64 (R.CH_FETCH_ADDR_LO n.val) = head))
    let aborts : Prop :=
      (st ≠ 2 → st ≠ 3 → ignored (.chAbort n lost)) ∧
      (st = 2 ∨ st = 3 → c.cur = none → Completes (.chAbort n lost) s fun t => halted t 5 ∧ SameMem s t) ∧
      ∀ d, c.cur = some d →
        (st = 2 ∨ st = 3 → c.ending ≠ none ∨ c.flushing = true →
          exec (.chAbort n lost) s = .next (race (s.setChan n.val { c with abortAfter := true }))) ∧
        (st = 2 → c.ending = none → c.flushing = false → c.released = false → chanBusy s n.val = false →
          Completes (.chAbort n lost) s fun t => SameMem s t ∧ chanState t n.val = 3 ∧
            t.chan n.val = { c with aborting := true, ending := some (2, dLen d - c.moved) })
    let counts := fun (row : Instr) (fits : Prop) (z : State) =>
      let held := (st = 2 ∨ st = 3) ∧ (c.cur ≠ none ∨ ∃ d, c.nxt = .held d)
      (¬ (held ∧ fits) → exec row s = .next (race z)) ∧
      (held → fits → trigPend s n.val = 15 → Completes row s fun t => trigPend t n.val = 15 ∧ t.chan n.val = c ∧
        chanState t n.val = st ∧ t.bit status F.CH_STATUS_TRIG_OVERRUN = true ∧
        t.fld (R.CH_TRIG_COUNT n.val) F.CH_TRIG_COUNT_OVERRUNS = satAdd (2 ^ F.CH_TRIG_COUNT_OVERRUNS.width - 1)
          (s.fld (R.CH_TRIG_COUNT n.val) F.CH_TRIG_COUNT_OVERRUNS) 1) ∧
      ∀ d, held → fits → trigPend s n.val < 15 → c.cur = some d →
        (c.released = true → Completes row s fun t => trigPend t n.val = trigPend s n.val + 1 ∧ t.chan n.val = c ∧
          chanState t n.val = st) ∧
        (st = 2 → c.released = false → c.ending = none → (dTrigger d).1 ≠ 0 → Completes row s fun t =>
          trigPend t n.val = trigPend s n.val ∧ t.chan n.val = { c with released := true } ∧ chanState t n.val = 3)
    let triggers : Prop := counts (.chTrigger n lost) (∃ k, c.source = some k ∧ k.1 ≠ 0) s ∧
      ∀ (kind : Fin 8) (index : Fin 64),
        let sent := (n.val, kind.val, index.val)
        let named := c.source = some (kind.val, index.val) ∧ kind.val ≠ 0 ∧ kind.val ≠ 4
        let late := lost = true ∧ c.former = some (kind.val, index.val) ∧ ∃ k, c.source = some k ∧ k.1 ≠ 0
        (sent ∉ s.dma.sent → exec (.dmaTriggerArrival n kind index lost) s = .next (race s)) ∧
        (sent ∈ s.dma.sent → counts (.dmaTriggerArrival n kind index lost) (named ∨ late)
          { s with dma := { s.dma with sent := s.dma.sent.erase sent } })
    let enables : Prop :=
      (Completes (.chEnableWrite n true lost) s fun t => t.bit (R.CH_CTRL n.val) F.CH_CTRL_ENABLE = true ∧
        chanState t n.val = (if st = 0 then 1 else st) ∧ SameMem s t ∧ t.chan n.val = c) ∧
      (s.mode = .maint → st ≠ 0 → Completes (.chEnableWrite n false lost) s fun t => chanState t n.val = 0 ∧
        t.bit (R.CH_CTRL n.val) F.CH_CTRL_ENABLE = false ∧ t.chan n.val = { undef := true } ∧
        ∀ a, a < 2 ^ 64 → (∀ d, c.cur = some d → a < d.addr + 0x20 ∨ d.addr + 0x24 ≤ a) → t.byte a = s.byte a) ∧
      (s.mode = .run → Completes (.chEnableWrite n false lost) s fun t => t.chan n.val = c ∧ SameMem s t ∧
        chanState t n.val = st ∧ t.bit status F.CH_STATUS_ENABLE_IGNORED = true ∧
        t.bit (R.CH_CTRL n.val) F.CH_CTRL_ENABLE = s.bit (R.CH_CTRL n.val) F.CH_CTRL_ENABLE)
    let fetches : Prop :=
      ((∀ a, c.nxt ≠ .fetching a) → ∀ e, exec (.descriptorFetchDone n e) s = .next s) ∧
      (∀ a e, c.nxt = .fetching a → marchStalls s a = true → exec (.descriptorFetchDone n e) s = .next s) ∧
      ∀ a e, c.nxt = .fetching a → marchStalls s a = false →
        let bad := spanBad a e = true ∨ plainOk s a 64 = false
        let d : Desc := ⟨a, s.read a 64⟩
        let new := c.source ≠ none ∧ c.source ≠ some (dTrigger d)
        let pend := if new then 0 else trigPend s n.val
        Completes (.descriptorFetchDone n e) s fun t => SameMem s t ∧
          (c.cur ≠ none → bad → (t.chan n.val).nxt = .failed 3 a ∧ (t.chan n.val).cur = c.cur) ∧
          (c.cur ≠ none → ¬ bad → t.chan n.val = { c with nxt := .held d, source := some (dTrigger d),
                                                                     former := if new then c.source else none } ∧
            trigPend t n.val = pend) ∧
          (c.cur = none → bad → halted t 3 ∧ t.reg64 (R.CH_FETCH_ADDR_LO n.val) = a % 2 ^ 64) ∧
          (c.cur = none → ¬ bad → (t.chan n.val).cur = some d ∧ (t.chan n.val).moved = 0 ∧ t.reg64 (R.CH_CUR_LO n.val) = a ∧
            (if dMisaligned d then (t.chan n.val).ending = some (5, dLen d) ∧ chanState t n.val = 3
              else if dMalformed d then (t.chan n.val).ending = some (6, dLen d) ∧ chanState t n.val = 3
              else if (dTrigger d).1 = 0 then chanState t n.val = 3 ∧ trigPend t n.val = pend
              else if 0 < pend then chanState t n.val = 3 ∧ trigPend t n.val = pend - 1
              else chanState t n.val = 2))
    let ends : Prop :=
      (c.cur = none ∨ c.ending = none → exec (.descriptorStatusAccepted n) s = .next s) ∧
      ∀ d code res, c.cur = some d → c.ending = some (code, res) → Completes (.descriptorStatusAccepted n) s fun t =>
        (plainOk s d.addr 64 = true → code < 256 → t.readNat (d.addr + 0x20) 4 = res % 2 ^ 32 ∧
          t.readNat (d.addr + 0x24) 1 = code) ∧
        (code ≠ 3 → code ≠ 4 → ∀ a, a < 2 ^ 64 → a < d.addr + 0x20 ∨ d.addr + 0x28 ≤ a → t.byte a = s.byte a) ∧
        (code = 2 → halted t 5) ∧ (code = 5 → halted t 1) ∧ (code = 6 → halted t 2) ∧
        (code = 1 → (t.reg (R.CH_DONE_COUNT n.val)).toNat = ((s.reg (R.CH_DONE_COUNT n.val)).toNat + 1) % 2 ^ 32 ∧
          (dBit d 12 = true → t.bit status F.CH_STATUS_DONE_SEEN = true)) ∧
        (code = 3 ∨ code = 4 → t.bit status F.CH_STATUS_ERR_SEEN = true) ∧
        (code = 1 ∨ code = 3 ∨ code = 4 → (c.abortAfter = true → halted t 5) ∧
          (c.abortAfter = false → dBit d 15 = true → c.nxt = .none → chanState t n.val = 1 ∧ (t.chan n.val).cur = none) ∧
          (c.abortAfter = false → dBit d 15 = false → c.nxt = .none → d.at 0 8 % 64 = 0 →
            (s.reg (R.CH_HOPS n.val)).toNat < hopMax s n.val →
            (t.chan n.val).nxt = .fetching (d.at 0 8) ∧ chanState t n.val = 3) ∧
          (c.abortAfter = false → dBit d 15 = false → c.nxt = .none →
            hopMax s n.val ≤ (s.reg (R.CH_HOPS n.val)).toNat → halted t 4))
    starts ∧ aborts ∧ triggers ∧ enables ∧ fetches ∧ ends

/-- R422, R433, R441, R442, R446 to R449: bursts, host reads, and the arbiter. -/
def Obligations.DmaMoves : Prop :=
  ∀ (s : State) (lost : Bool), s.working = true →
    let racing := fun (r : Nat) (z : State) => z.lost lost r
    let open_ := fun (c : Chan) => c.ending = none ∧ c.aborting = false ∧ c.failed = none ∧ c.flushing = false
    let memory := fun (a : Nat) => isDram a = true ∨ regionOf a = .commons ∨ regionOf a = .exchange
    let quiet : Prop := (List.range 64).find? (flushWaits s) = none
    let idle : Prop := s.dma.busy = none → ∀ e,
      (requesters s = [] ∨ 4096 ≤ s.hostReads.length → quiet → exec (.dmaBurstEnd e lost) s = .next s) ∧
      (requesters s ≠ [] → s.hostReads.length < 4096 → Completes (.dmaBurstEnd e lost) s fun t => SameMem s t ∧
        ∃ g, g ∈ requesters s ∧ t.dma.busy = some g ∧ (∀ r, r ∈ requesters s → levelOf s r ≤ levelOf s g) ∧
          (g < 64 → ∀ d, (s.chan g).cur = some d → t.dma.burst = nextBurst (s.chan g) d ∧
            (t.chan g).granted = (s.chan g).granted + (nextBurst (s.chan g) d).2))
    let bursts : Prop := ∀ (n : Fin 64) d e, s.dma.busy = some n.val → (s.chan n.val).cur = some d → dBit d 0 = false →
      dBit d 1 = false → open_ (s.chan n.val) → s.hostReads = [] →
      let c := s.chan n.val
      let off := s.dma.burst.1
      let len := s.dma.burst.2
      let src := d.at 8 8 + off
      let dst := d.at 0x10 8 + off
      (burstStalls s n.val = true → quiet → exec (.dmaBurstEnd e lost) s = .next (racing (R.CH_RACE n) s)) ∧
      (burstStalls s n.val = false → spanBad src e = false → memory src → memory dst → plainOk s src len = true → plainOk s dst len = true →
        Completes (.dmaBurstEnd e lost) s fun t => t.read dst len = s.read src len ∧
          (∀ a, a < dst ∨ dst + len ≤ a → a < 2 ^ 64 → t.byte a = s.byte a) ∧ (t.chan n.val).moved = c.moved + len ∧
          (dBit d 11 = true → dLen d ≤ 2 * (c.moved + len) → (t.chan n.val).half = true)) ∧
      (burstStalls s n.val = false → spanBad src e = true ∨ (memory src ∧ plainOk s src len = false) →
        Completes (.dmaBurstEnd e lost) s fun t => SameMem s t ∧ (t.chan n.val).moved = c.moved ∧
          (t.chan n.val).failed = some (off, 3) ∧ (t.chan n.val).ending = some (3, dLen d - off))
    let flushes : Prop := ∀ n : Fin 64,
      let c := s.chan n.val
      (c.flushing = false ∨ c.cur = none → exec (.flushReadReturn n) s = .next s) ∧
      ∀ d, c.cur = some d → c.flushing = true →
        let a := d.at 0x10 8 + dLen d - 64
        let flown := s.hostReads.any (isFlush n.val)
        let ends := fun (st : Nat) => Completes (.flushReadReturn n) s fun t => SameMem s t ∧
          t.chan n.val = { c with flushing := false, ending := some (st, 0) }
        (dBit d 1 = true → flown = true → ends 1) ∧
        (dBit d 1 = true → flown = false → exec (.flushReadReturn n) s = .next (flushNext s)) ∧
        (dBit d 1 = false → marchStalls s a = true → exec (.flushReadReturn n) s = .next s) ∧
        (dBit d 1 = false → marchStalls s a = false → memory a → plainOk s a 64 = true → ends 1) ∧
        (dBit d 1 = false → marchStalls s a = false → memory a → plainOk s a 64 = false → ends 3)
    let reads : Prop := quiet → ∀ (tag : Fin 16384) (data : List Byte),
      (s.hostReads.find? (fun r => r.tag == tag.val) = none →
        (∀ ok, exec (.hostReadCompletion tag data ok lost) s = .next
          (racing R.DMA_RACE
          ({ s with dma := { s.dma with late := s.dma.late.erase tag.val } }.satInc R.DMA_LATE_CPL F.DMA_LATE_CPL_COUNT))) ∧
        exec (.hostReadTimeout tag lost) s = .next (racing R.DMA_RACE s)) ∧
      ∀ r (n : Fin 64) d, s.hostReads.find? (fun r => r.tag == tag.val) = some r → r.channel = some n →
        (s.chan n.val).cur = some d → dBit d 1 = false → open_ (s.chan n.val) →
        let c := s.chan n.val
        let gone := fun (t : State) => t.hostReads = s.hostReads.filter (fun q => q.tag != tag.val)
        let alone := s.dma.busy ≠ some n.val ∧ ∀ q, q ∈ s.hostReads → q.tag ≠ tag.val → q.channel ≠ some n
        (r.flush = false → marchStalls s r.dst = true →
          exec (.hostReadCompletion tag data true lost) s = .next (racing R.DMA_RACE s)) ∧
        (r.flush = false → marchStalls s r.dst = false → regionOf r.dst = .dram ∨ regionOf r.dst = .commons → plainOk s r.dst r.len = true →
          Completes (.hostReadCompletion tag data true lost) s fun t => gone t ∧
            t.read r.dst r.len = (data ++ List.replicate (r.len - data.length) 0).take r.len ∧
            (∀ a, a < r.dst ∨ r.dst + r.len ≤ a → a < 2 ^ 64 → t.byte a = s.byte a) ∧
            (t.chan n.val).moved = c.moved + r.len) ∧
        (r.flush = false → alone → Completes (.hostReadCompletion tag data false lost) s fun t => gone t ∧ SameMem s t ∧
          (t.chan n.val).ending = some (3, dLen d - burstOf c r)) ∧
        (r.flush = false → alone → Completes (.hostReadTimeout tag lost) s fun t => gone t ∧ SameMem s t ∧
          (t.chan n.val).ending = some (4, dLen d - burstOf c r) ∧
          t.now = max s.now (r.issued + cplTimeout s)) ∧
        (r.flush = true → Completes (.hostReadCompletion tag data true lost) s fun t => gone t ∧
          t.chan n.val = { c with ending := some (1, 0) }) ∧
        (r.flush = true → Completes (.hostReadTimeout tag lost) s fun t => gone t ∧
          t.chan n.val = { c with ending := some (4, 0) })
    idle ∧ bursts ∧ flushes ∧ reads

/-- R455, R457 to R459, R461, R481, R482, R534: what reaches the function from the host and the link. Vectors that
cannot be sent wait in the pending array as the PCI Express specification has it (log entry 12). -/
def Obligations.HostFunction : Prop :=
  ∀ (s : State),
    let p := s.pcie
    let told := fun (src : Nat) (t : State) => s.reg (R.EVT_ROUTE src) ≠ 0 → src ∈ t.evPend
    let pba := fun (a : Nat) => ∃ i, i < 64 ∧ a = R.MSIX_PBA i
    let quiet := fun (t : State) => SameMem s t ∧ SameRegs s t (fun a => pba a ∨ a = R.EVT_LOST) ∧ t.mode = s.mode
    let retried := fun (t : State) => ∀ v, v < 2048 →
      (arrayBit s R.MSIX_PBA v = true → vectorFree t v = true → arrayBit t R.MSIX_PBA v = false ∧ Out.msix v ∈ t.out) ∧
      (vectorFree t v = false → arrayBit t R.MSIX_PBA v = arrayBit s R.MSIX_PBA v)
    let ok := fun (z : PcieSt) => ({ s.emit (.config (some 0)) with pcie := z } : State)
    let config : Prop := ∀ a : CfgAccess,
      (p.linkUp = false ∨ s.mode = .off → exec (.configRequest a) s = .next s) ∧
      (p.linkUp = true → s.mode ≠ .off → p.ready = false → exec (.configRequest a) s = .next (s.emit (.config none)))
    let access : Prop := p.linkUp = true → s.mode ≠ .off → p.ready = true →
      (∀ d, d = 0 ∨ d = 11 → exec (.configRequest (.read d)) s = .next (s.emit (.config (some 0x64001FC7))).drawn) ∧
      exec (.configRequest (.read 2)) s = .next (s.emit (.config (some 0x118000B0))).drawn ∧
      (∀ m b, Completes (.configRequest (.command m b)) s fun t => quiet t ∧ retried t ∧
        t.pcie = { p with memEnable := m, busMaster := b }) ∧
      (∀ e m, Completes (.configRequest (.msix e m)) s fun t => quiet t ∧ retried t ∧
        t.pcie = { p with msixEnable := e, msixMask := m }) ∧
      (∀ k r, exec (.configRequest (.deviceControl k r)) s =
        .next (ok { p with maxPayload := 128 * 2 ^ k.val, maxRead := 128 * 2 ^ r.val })) ∧
      (∀ e, exec (.configRequest (.ptm e)) s = .next (ok { p with ptmEnable := e })) ∧
      ∀ (d : Fin 1024) v, Completes (.configRequest (.other d v)) s fun t => quiet t ∧
        let reads := fun (w : Word) => exec (.configRequest (.read d)) t = .next (t.emit (.config (some w))).drawn
        (d.val ∈ [5, 7, 10, 12, 14, 15] → reads v) ∧
        (16 ≤ d.val → (∀ c, c ∈ capFields s → capPlace c.cap + c.dword ≠ d.val) → reads v) ∧
        (d.val = 3 → reads (v &&& 0xFF)) ∧ (d.val = 4 → reads ((v &&& 0xFFC00000) ||| 4)) ∧
        (d.val = 6 → reads ((v &&& 0xFFFC0000) ||| 0xC)) ∧ (d.val = 8 ∨ d.val = 9 → reads 0)
    let ready : Prop := exec .hostLinkReady s =
      .next (if s.mode = .off ∨ p.perst = true then s else { s with pcie := { p with ready := true } })
    let changes : Prop :=
      (∀ up (speed width : Fin 256), s.mode ≠ .off → ¬ (p.linkUp = up ∧ p.speed = speed.val ∧ p.width = width.val) →
        Completes (.pcieLinkChange up speed width) s fun t => quiet t ∧ told 453 t ∧ retried t ∧
          t.pcie = { p with linkUp := up, speed := speed.val, width := width.val }) ∧
      (∀ d3, s.mode ≠ .off → p.d3 ≠ d3 → Completes (.powerStateChange d3) s fun t => quiet t ∧ told 456 t ∧ retried t ∧
        t.pcie = { p with d3 := d3 } ∧ (d3 = true → hostReaches t = false ∧ hostOpen t = false)) ∧
      exec (.powerStateChange p.d3) s = .next s
    let errors : Prop := s.serving = true →
      (∀ i : Fin 5, Completes (.ideIntegrityFail i) s fun t => quiet t ∧ told 457 t ∧ i.val ∈ t.pcie.ideFailed ∧
        t.pcie = { p with ideFailed := t.pcie.ideFailed } ∧ ∀ j, j ≠ i.val → (j ∈ t.pcie.ideFailed ↔ j ∈ p.ideFailed)) ∧
      (∀ code : BitVec 32, Completes (.aerError code) s fun t => quiet t ∧ told 454 t ∧
        t.pcie = { p with aer := p.aer ++ [code.toNat] })
    let badWrites : Prop :=
      (hostReaches s = false ∨ s.mode = .off → exec .badWrite s = .next s) ∧
      (hostReaches s = true → s.mode ≠ .off → Completes .badWrite s fun t => told 452 t ∧ SameMem s t ∧
        SameRegs s t (fun a => a = R.HOST_STATUS ∨ a = R.EVT_LOST) ∧
        t.fld R.HOST_STATUS F.HOST_STATUS_BAD_WRITE = satAdd (2 ^ F.HOST_STATUS_BAD_WRITE.width - 1)
          (s.fld R.HOST_STATUS F.HOST_STATUS_BAD_WRITE) 1)
    let dialogue : Prop := s.serving = true →
      (p.ptmEnable = false ∨ hostOpen s = false → ∀ m, exec (.ptmDialogue m) s = .next s) ∧
      (p.ptmEnable = true → hostOpen s = true →
        (Completes (.ptmDialogue none) s fun t => told 455 t ∧ SameMem s t ∧ t.now = s.now ∧
          t.tm.ptmBad = min 3 (s.tm.ptmBad + 1) ∧ (2 ≤ s.tm.ptmBad → srcValid t 2 = false) ∧
          (s.tm.ptmBad < 2 → srcValid t 2 = srcValid s 2 ∧ t.tm.ptmGood = s.tm.ptmGood)) ∧
        ∀ m : BitVec 64, Completes (.ptmDialogue (some m)) s fun t => SameMem s t ∧ t.tm.ptmBad = 0 ∧
          t.tm.ptmGood = min 2 (s.tm.ptmGood + 1) ∧ (1 ≤ s.tm.ptmGood → srcValid t 2 = true) ∧
          (t.fld R.TIME_STATUS F.TIME_STATUS_SRC = 2 → t.sfld R.TIME_ERR F.TIME_ERR_VALUE =
            clampInt (-2147483648) 2147483647 ((m.toNat : Int) + s.sreg64 R.TIME_PTM_OFS_LO - s.now)))
    config ∧ access ∧ ready ∧ changes ∧ errors ∧ badWrites ∧ dialogue

/-- R27, R29, R57, R260, R262, R462, R464: the request page; a denied request sets LAST too (log entry 73). -/
def Obligations.HostRequests : Prop :=
  ∀ (s : State), s.working = true →
    let q := R.REQ_STATUS
    let told := fun (src : Nat) (t : State) => s.reg (R.EVT_ROUTE src) ≠ 0 → src ∈ t.evPend
    let shows := fun (t : State) (k r : Nat) => t.fld q F.REQ_STATUS_LAST = k ∧ t.fld q F.REQ_STATUS_RESULT = r
    let still := fun (t : State) => SameMem s t ∧ t.mode = s.mode ∧ t.runActive = s.runActive ∧ t.boot = s.boot ∧
      SameRegs s t (fun a => a = q ∨ a = R.EVT_LOST ∨ a = R.SYS_RACE)
    let off := fun (k : Nat) => (Sparse.find s.boot.holdoff k).any (fun t => decide (s.now < t))
    let gate := fun (row : Instr) (k perm : Nat) =>
      (permits s perm = false → Completes row s fun t => still t ∧ shows t k 5 ∧ told 451 t ∧
        t.fld q F.REQ_STATUS_DENIED = satAdd (2 ^ F.REQ_STATUS_DENIED.width - 1) (s.fld q F.REQ_STATUS_DENIED) 1) ∧
      (permits s perm = true → off k = true → Completes row s fun t => still t ∧ shows t k 6)
    let taken := fun (row : Instr) (k perm : Nat) (pre : Prop) (post : State → Nat → Prop) =>
      permits s perm = true → off k = false → pre → Completes row s fun t => t.fld q F.REQ_STATUS_LAST = k ∧
        post t (t.fld q F.REQ_STATUS_RESULT) ∧ ∀ w, s.boot.spore = some w → w.hostReqMin ≠ 0 →
          Sparse.find t.boot.holdoff k = some (t.now + w.hostReqMin * 1000000)
    let recovering := s.bit R.RUN_STATUS F.RUN_STATUS_RECOVERING
    let busy : Bool := s.runActive || runEnding s
    let gates : Prop := ∀ lost (ports : BitVec 4) (stream : Fin 16) (v : BitVec 8) (code : BitVec 16),
      gate (.reqRunStart lost) 0 0 ∧ gate (.reqRunStop lost) 0 0 ∧ gate (.reqShutter ports) 1 1 ∧
      gate (.reqPacking stream v) 2 4 ∧ gate (.reqCal code) 3 5 ∧ (∀ m, gate (.reqMaintEnter m) 4 6) ∧
      gate (.reqMaintExit lost) 4 6
    let runs : Prop := ∀ lost,
      taken (.reqRunStart lost) 0 0 (recovering = true) (fun t r => r = 3 ∧ t.runActive = s.runActive ∧ SameMem s t) ∧
      taken (.reqRunStart lost) 0 0 (recovering = false ∧ busy = true) (fun t r => r = 4 ∧ t.runActive = s.runActive ∧ SameMem s t) ∧
      taken (.reqRunStart lost) 0 0 (recovering = false ∧ busy = false) (fun t r => r = 1 ∧ t.runActive = true ∧ told 448 t ∧
        t.fld R.RUN_STATUS F.RUN_STATUS_RUN_ID = (s.fld R.RUN_STATUS F.RUN_STATUS_RUN_ID + 1) % 65536) ∧
      taken (.reqRunStop lost) 0 0 (s.runActive = false) (fun t r => r = 3 ∧ t.runActive = false ∧ SameMem s t) ∧
      taken (.reqRunStop lost) 0 0 (s.runActive = true) (fun t r => r = 1 ∧ t.runActive = false ∧ told 448 t)
    let maint : Prop := ∀ lost,
      let ask := fun (row : Instr) (a b : Mode) =>
        taken row 4 6 (s.mode ≠ a) (fun t r => r = 3 ∧ t.mode = s.mode) ∧
        taken row 4 6 (s.mode = a ∧ s.runActive = true) (fun t r => r = 4 ∧ t.mode = s.mode) ∧
        taken row 4 6 (s.mode = a ∧ s.runActive = false) (fun t r => r = 1 ∧ t.mode = b ∧ SameMem s t)
      ask (.reqMaintEnter .alone) .run .maint ∧ ask (.reqMaintExit lost) .maint .run ∧
      (permits s 6 = true → off 4 = false → s.mode = .run → s.runActive = false → ∀ m, m ≠ .alone →
        Completes (.reqMaintEnter m) s fun t => t.mode = .maint ∧ t.runActive = false ∧
          t.fld R.SYS_RACE F.SYS_RACE_RACE = satAdd 65535 (s.fld R.SYS_RACE F.SYS_RACE_RACE) 1 ∧
          (m = .frond → shows t 4 1 ∧ t.fld R.RUN_STATUS F.RUN_STATUS_RESULT = 3) ∧
          (m = .host → permits s 0 = true → off 0 = false → shows t 0 3))
    let shutters : Prop := ∀ ports : BitVec 4,
      let named := fun (n : Nat) => n < 4 ∧ ports.getLsbD n = true ∧ s.bit (R.TP_IF_CFG n) F.TP_IF_CFG_ENABLE = true ∧
        shutMode s n ≠ 0
      taken (.reqShutter ports) 1 1 (∀ n, ¬ named n) (fun t r => r = 3 ∧ t.tps = s.tps ∧ SameMem s t) ∧
      taken (.reqShutter ports) 1 1 (∃ n, named n) (fun t r => r = 1 ∧ SameMem s t ∧ ∀ n, n < 4 →
        (¬ named n → t.tp n = s.tp n) ∧
        (named n → (s.tp n).ev = none → t.tp n = { s.tp n with hostReq := true }) ∧
        ∀ e, named n → (s.tp n).ev = some e → e.phase ≠ 5 → t.tp n = s.tp n ∧
          t.fld (R.TP_SHUT_COUNT n) F.TP_SHUT_COUNT_MERGED = satAdd (2 ^ F.TP_SHUT_COUNT_MERGED.width - 1)
            (s.fld (R.TP_SHUT_COUNT n) F.TP_SHUT_COUNT_MERGED) 1)
    let firmware : Prop := ∀ (stream : Fin 16) (v : BitVec 8) (code : BitVec 16),
      taken (.reqPacking stream v) 2 4 True (fun t r => r = 2 ∧ told 450 t ∧ SameMem s t ∧
        t.fld R.HOST_FW_REQ F.HOST_FW_REQ_PACK_STREAM = stream.val ∧ t.fld R.HOST_FW_REQ F.HOST_FW_REQ_PACK_VALUE = v.toNat ∧
        t.fld R.HOST_FW_REQ F.HOST_FW_REQ_CAL_CODE = s.fld R.HOST_FW_REQ F.HOST_FW_REQ_CAL_CODE) ∧
      taken (.reqCal code) 3 5 True (fun t r => r = 2 ∧ told 449 t ∧ SameMem s t ∧
        t.fld R.HOST_FW_REQ F.HOST_FW_REQ_CAL_CODE = code.toNat ∧
        t.fld R.HOST_FW_REQ F.HOST_FW_REQ_PACK_STREAM = s.fld R.HOST_FW_REQ F.HOST_FW_REQ_PACK_STREAM)
    let ends : Prop := ∀ k : Fin 5,
      (Sparse.find s.boot.holdoff k.val = none → exec (.hostReqHoldoffEnd k) s = .next s) ∧
      ∀ t0, Sparse.find s.boot.holdoff k.val = some t0 → Completes (.hostReqHoldoffEnd k) s fun t =>
        t.now = max s.now t0 ∧ Sparse.find t.boot.holdoff k.val = none ∧ SameMem s t ∧
        ∀ j, j ≠ k.val → Sparse.find t.boot.holdoff j = Sparse.find s.boot.holdoff j
    (hostReaches s = true → gates ∧ runs ∧ maint ∧ shutters ∧ firmware) ∧ ends

/-- R458, R466, R467, R469 to R474, R477, R478: the rings' commands. Where no rule speaks of an entry's field it is the
model's (log entry 56). -/
def Obligations.Delivery : Prop :=
  ∀ (s : State) (n : Fin 16) (lost : Bool), s.working = true →
    let x := s.stream n.val
    let ctrl := R.RING_CTRL n.val
    let told := fun (src : Nat) (t : State) => s.reg (R.EVT_ROUTE src) ≠ 0 → src ∈ t.evPend
    let ev := fun (k : Nat) => 640 + 24 * n.val + k
    let race := fun (z : State) => z.lost lost R.HOST_RACE
    let index := fun (z : State) (r : Nat) => z.fld r ⟨0, 16⟩
    let grs := grLen s n.val
    let crs := crLen s n.val
    let enabled := s.bit ctrl F.RING_CTRL_ENABLE
    let stops := fun (t : State) => t.bit ctrl F.RING_CTRL_RING_ERR = true ∧ t.bit ctrl F.RING_CTRL_ACTIVE = false ∧
      (t.stream n.val).stopped = true ∧ told (ev 5) t ∧ SameMem s t
    let indices : Prop := ∀ v : BitVec 16,
      let head := index s (R.CR_HEAD n.val)
      let legal := v.toNat < crs ∧ ringSpan crs head v.toNat ≤ ringSpan crs head (index s (R.CR_TAIL n.val))
      (v.toNat < grs → exec (.grTailWrite n v lost) s = .next (race (s.setFld (R.GR_TAIL n.val) ⟨0, 16⟩ v.toNat))) ∧
      (grs ≤ v.toNat → Completes (.grTailWrite n v lost) s fun t => stops t ∧ index t (R.GR_TAIL n.val) = v.toNat) ∧
      (legal → exec (.crHeadWrite n v lost) s = .next (race (s.setFld (R.CR_HEAD n.val) ⟨0, 16⟩ v.toNat))) ∧
      (¬ legal → Completes (.crHeadWrite n v lost) s fun t => stops t ∧ index t (R.CR_HEAD n.val) = v.toNat)
    let config : Prop := ∀ (k : Fin 5) (v : BitVec 32),
      let mask : Word := if k.val = 0 then 0x1F1F else if k.val % 2 = 1 then 0xFFFFFFC0 else 0xFFFFFFFF
      (enabled = false → exec (.ringConfigWrite n k v) s = .next (s.setReg (R.RING_SIZE n.val + 4 * k.val) (v &&& mask))) ∧
      (enabled = true → Completes (.ringConfigWrite n k v) s fun t => SameMem s t ∧ told 452 t ∧
        SameRegs s t (fun a => a = R.HOST_STATUS ∨ a = R.EVT_LOST) ∧
        t.fld R.HOST_STATUS F.HOST_STATUS_BAD_WRITE = satAdd (2 ^ F.HOST_STATUS_BAD_WRITE.width - 1)
          (s.fld R.HOST_STATUS F.HOST_STATUS_BAD_WRITE) 1)
    let ours := fun (r : HostRead) => r.stream = some n
    let on : Prop :=
      (enabled = true → exec (.ringEnable n) s = .next s) ∧
      (enabled = false → Completes (.ringEnable n) s fun t => SameMem s t ∧ t.bit ctrl F.RING_CTRL_ENABLE = true ∧
        t.bit ctrl F.RING_CTRL_ACTIVE = !s.bit ctrl F.RING_CTRL_RING_ERR ∧
        (∀ r, r ∈ [R.GR_HEAD n.val, R.GR_TAIL n.val, R.CR_HEAD n.val, R.CR_TAIL n.val] → index t r = 0) ∧
        t.stream n.val = { x with grants := [], filling := none, completions := [], sent := 0, phase := true,
                                  stopped := false, tailSeen := 0, reading := 0, early := [], tailAt := s.now,
                                  fullAt := s.now } ∧
        ∀ r, r ∈ t.hostReads ↔ r ∈ s.hostReads ∧ ¬ ours r)
    let down : Prop :=
      (enabled = false → s.dma.busy ≠ some (64 + n.val) → exec (.ringDisable n lost) s = .next (race s)) ∧
      (enabled = true → s.dma.busy ≠ some (64 + n.val) → Completes (.ringDisable n lost) s fun t => SameMem s t ∧
        t.bit ctrl F.RING_CTRL_ENABLE = false ∧ t.bit ctrl F.RING_CTRL_ACTIVE = false ∧ (t.stream n.val).grants = [] ∧
        (t.stream n.val).filling = none ∧ (∀ r, r ∈ t.hostReads ↔ r ∈ s.hostReads ∧ ¬ ours r) ∧
        let back := fun (l : List Grant) => l.map (fun g => (⟨g.id, 0, 0, 0, 0, 16, 0, false⟩ : Completion))
        (x.filling = none → (t.stream n.val).completions = x.completions ++ back x.grants) ∧
        ∀ b, x.filling = some b →
          (b.bytes = 0 → (t.stream n.val).completions = x.completions ++ back (b.grant :: x.grants)) ∧
          (b.bytes ≠ 0 → ∃ c, (t.stream n.val).completions = x.completions ++ [c] ++ back x.grants ∧ c.id = b.grant.id ∧
            c.bytes = b.bytes ∧ c.drain = b.bytes ∧ c.firstSeq = b.firstSeq ∧ c.lastSeq = b.lastSeq ∧ c.flags / 16 % 2 = 1))
    let checks : Prop :=
      (ringRuns s n.val = false ∨ hostOpen s = false → exec (.grantTailCheck n) s = .next s) ∧
      (ringRuns s n.val = true → hostOpen s = true → Completes (.grantTailCheck n) s fun t => SameMem s t ∧
        t.now = max s.now (x.tailAt + 1000) ∧ (t.stream n.val).tailAt = t.now ∧
        (t.stream n.val).tailSeen = index s (R.GR_TAIL n.val) ∧ (t.stream n.val).grants = x.grants ∧
        ∃ l, t.hostReads = s.hostReads ++ l ∧ (t.stream n.val).reading = x.reading + l.length ∧
          (∀ j, (h : j < l.length) → ours l[j] ∧ l[j].len = 16 ∧ l[j].addr = s.reg64 (R.GR_BASE_LO n.val) +
            16 * ((index s (R.GR_HEAD n.val) + (x.reading + j)) % grs)) ∧
          (0 < l.length → x.grants.length + x.reading + l.length ≤ 16 ∧ t.hostReads.length ≤ 4096) ∧
          (16 ≤ x.grants.length + x.reading + l.length ∨ 4096 ≤ inflight t ∨
            (index s (R.GR_HEAD n.val) + (x.reading + l.length)) % grs = index s (R.GR_TAIL n.val)))
    let grants : Prop := ∀ addr (len id : BitVec 32),
      let good := addr.toNat % 4096 = 0 ∧ len.toNat % 4096 = 0 ∧ 65536 ≤ len.toNat ∧ len.toNat ≤ 16777216
      let head := index s (R.GR_HEAD n.val)
      let next := (head + 1) % grs % 65536
      let oldest := s.hostReads.find? (readOfStream n.val)
      (oldest = none → ∀ ok, exec (.grantReadDone n addr len id ok) s = .next s) ∧
      ∀ r, oldest = some r →
      let gone : State := showInflight { s with hostReads := s.hostReads.filter (fun q => q.tag != r.tag) }
      (Completes (.grantReadDone n addr len id false) s fun t => stops t ∧ t.hostReads = gone.hostReads ∧
        (t.stream n.val).reading = x.reading - 1 ∧ (t.stream n.val).grants = x.grants) ∧
      (r.dst ≠ head → exec (.grantReadDone n addr len id true) s = .next (gone.setStream n.val
        { x with early := x.early ++ [(r.dst, ⟨addr.toNat, len.toNat, id.toNat⟩)] })) ∧
      (r.dst = head → Sparse.find x.early next = none → Completes (.grantReadDone n addr len id true) s fun t => SameMem s t ∧
        (t.stream n.val).reading = x.reading - 1 ∧ t.hostReads = gone.hostReads ∧ index t (R.GR_HEAD n.val) = next ∧
        (good → (t.stream n.val).grants = x.grants ++ [⟨addr.toNat, len.toNat, id.toNat⟩] ∧
          (t.stream n.val).completions = x.completions) ∧
        (¬ good → (t.stream n.val).grants = x.grants ∧ told (ev 1) t ∧
          t.fld (R.RING_STAT n.val) F.RING_STAT_REFUSED = satAdd (2 ^ F.RING_STAT_REFUSED.width - 1)
            (s.fld (R.RING_STAT n.val) F.RING_STAT_REFUSED) 1 ∧
          ∃ c, (t.stream n.val).completions = x.completions ++ [c] ∧ c.id = id.toNat ∧ c.bytes = 0 ∧ c.drain = 0 ∧
            c.flags = 2 + (if addr.toNat % 4096 ≠ 0 then 256 else 0) +
              (if len.toNat % 4096 = 0 ∧ 65536 ≤ len.toNat ∧ len.toNat ≤ 16777216 then 0 else 512)))
    let entries : Prop := ∀ row z, row = Instr.completionEntryIssue n ∧ z = s ∨
        row = Instr.completionRingCheck n ∧ z = fullCheck n.val s →
      (x.completions = [] → z = s) ∧
      (x.completions ≠ [] → z = s ∨ z = (s.reach (x.fullAt + 1000)).setStream n.val
        { x with fullAt := max s.now (x.fullAt + 1000) }) ∧
      (x.completions = [] ∨ ringFull s n.val = true ∨ hostOpen s = false → exec row s = .next z) ∧
      ∀ c rest, x.completions = c :: rest → ringFull s n.val = false → hostOpen s = true → 32 ≤ s.pcie.maxPayload →
        let tail := index s (R.CR_TAIL n.val)
        let e := bytesLE 4 c.id ++ bytesLE 4 c.bytes ++ bytesLE 6 c.firstSeq ++ bytesLE 2 c.run ++ bytesLE 6 c.lastSeq ++
          bytesLE 2 (c.flags + (if x.phase then 1 else 0)) ++ bytesLE 8 z.now
        Completes row s fun t => Out.hostWrite (s.reg64 (R.CR_BASE_LO n.val) + 32 * tail) e ∈ t.out ∧
          index t (R.CR_TAIL n.val) = (tail + 1) % crs % 65536 ∧ (t.stream n.val).completions = rest ∧
          ((t.stream n.val).phase = if (tail + 1) % crs = 0 then !x.phase else x.phase) ∧
          (t.stream n.val).sent = x.sent - c.drain ∧ told (ev 0) t ∧ (c.final = true → told (ev 7) t)
    let records : Prop := ∀ code : BitVec 16,
      let r := eventRec s code.toNat (s.reg64 R.HOST_EVREC_DATA_LO)
      let at_ := if spoolSize s n.val < intakeAt s n.val + 64 then 0 else intakeAt s n.val
      let room := roomFor s n.val [64] (keepFree false)
      let on := s.bit (R.HOST_SRC_MAP 14) F.HOST_SRC_MAP_EN
      let plain := 0x100 ≤ code.toNat ∧ takesRecords s n.val = true ∧ on = true ∧ x.waiting = [] ∧
        x.spans.find? (fun p => p.src == 0x20 && p.typ == 0x21) = none
      (code.toNat < 0x100 → exec (.eventRecordEmit n code) s = .next (s.flag R.HOST_STATUS F.HOST_STATUS_CFG_REFUSED)) ∧
      (0x100 ≤ code.toNat → takesRecords s n.val = false ∨ on = false → exec (.eventRecordEmit n code) s = .next s) ∧
      (plain → room = true → x.open_.length < 255 → openBytes x + 64 ≤ 0x400000 → 0 < spoolSize s n.val →
        busErrorIn s (spoolBase s n.val + at_) 64 = false → Completes (.eventRecordEmit n code) s fun t =>
          t.read (spoolBase s n.val + at_) 64 = headerOf r s.devid (runId s) x.nextSeq (intakeFlags s n.val) x.chunkIdx
            x.open_.length ∧
          (∀ a, a < spoolBase s n.val + at_ ∨ spoolBase s n.val + at_ + 64 ≤ a → t.byte a = s.byte a) ∧
          (t.stream n.val).nextSeq = x.nextSeq + 1) ∧
      (plain → room = false → Completes (.eventRecordEmit n code) s fun t => SameMem s t ∧
        (t.stream n.val).nextSeq = x.nextSeq ∧ (t.stream n.val).spans.length = x.spans.length + 1 ∧ told (ev 4) t)
    (hostReaches s = true → indices ∧ config ∧ on ∧ down) ∧ checks ∧ grants ∧ entries ∧ records

/-- R505 to R509, R511, R519, R520, R534: the link level, the ring, and time across it. Hop counts of announcements
and what a TIME flit carries are the model's (log entries 62, 63). -/
def Obligations.RunnerLinks : Prop :=
  ∀ (s : State),
    let told := fun (src : Nat) (t : State) => s.reg (R.EVT_ROUTE src) ≠ 0 → src ∈ t.evPend
    let ev := fun (l k : Nat) => 512 + 16 * l + k
    let fixed := fun (t : State) => SameMem s t ∧ SameRegs s t (fun _ => False)
    let out := fun (t : State) (l : Nat) (f : Flit) => Out.flit l f (flitBytes f) ∈ t.out
    let sends := fun (t : State) (l dest hops : Nat) (b : FlitBody) => (s.link l).up = true → (s.link l).waiting = [] →
      (s.link l).held.length < 63 → ∃ a, out t l ⟨(s.link l).nextSeq, a, false, dest, s.devid, hops, b⟩
    let idle := fun (got : Nat) (nak : Bool) => (⟨0, got, nak, s.devid, s.devid, 0, .idle⟩ : Flit)
    let rest := fun (l : Nat) (ack : Fin 64) => ackHeld ack.val (s.link l).held
    let received := fun (h : FlitHead) (row : Instr) => ∃ a b c d e f g i j k o m r, row ∈ [Instr.ringAnnounce h a b c,
      .timeFlit h m, .trigFlit h d a, .posFlit h e f, .rmtReq h b g i j k, .rmtRsp h d j r, .fwdFlit h d o b, .badFlitType h]
    let order : Prop := ∀ h row, received h row →
      let x := s.link h.link.val
      (x.up = false → exec row s = .next s) ∧
      (x.up = true → h.seq.val ≠ (x.got + 1) % 64 → Completes row s fun t => fixed t ∧ (t.link h.link.val).got = x.got ∧
        out t h.link.val (idle x.got true) ∧ (t.link h.link.val).lastAt = s.now ∧
        (x.waiting = [] → (t.link h.link.val).held = rest h.link.val h.ack))
    let level : Prop := ∀ (l : Fin 2) (ack : Fin 64),
      let x := s.link l.val
      (x.up = false → exec (.idleFlit l ack) s = .next s ∧ exec (.flitNak l ack) s = .next s ∧
        (∀ crc, exec (.flitReceiveError l crc) s = .next s) ∧ ∀ lost, exec (.runnerLinkDown l lost) s = .next s) ∧
      (x.up = true → x.waiting = [] → exec (.idleFlit l ack) s = .next (s.setLink l.val { x with
        held := rest l.val ack, lastAt := s.now,
        replays := if (rest l.val ack).length < x.held.length then 0 else x.replays })) ∧
      (x.up = true → x.waiting = [] → Completes (.flitNak l ack) s fun t => SameMem s t ∧ told (ev l.val 1) t ∧
        (t.link l.val).held = rest l.val ack ∧
        (t.link l.val).replays = (if (rest l.val ack).length < x.held.length then 0 else x.replays) + 1 ∧
        t.fld (R.RLINK_ERR l.val) F.RLINK_ERR_REPLAYS = satAdd (2 ^ F.RLINK_ERR_REPLAYS.width - 1)
          (s.fld (R.RLINK_ERR l.val) F.RLINK_ERR_REPLAYS) 1 ∧
        ∀ f, f ∈ rest l.val ack → out t l.val ⟨f.seq, x.got, false, f.dest, f.src, f.hops, f.body⟩) ∧
      (x.up = true → exec (.flitReceiveError l true) s =
        .next ((s.satInc (R.RLINK_ERR l.val) F.RLINK_ERR_CRC_ERR).emit
          (.flit l.val (idle x.got true) (flitBytes (idle x.got true)))) ∧
        exec (.flitReceiveError l false) s =
          .next (s.emit (.flit l.val (idle x.got true) (flitBytes (idle x.got true)))))
    let ordered := fun (h : FlitHead) => (s.link h.link.val).up = true ∧ h.seq.val = ((s.link h.link.val).got + 1) % 64
    let unknown : Prop := ∀ h, ordered h → Completes (.badFlitType h) s fun t => SameMem s t ∧
      (t.link h.link.val).got = h.seq.val ∧ SameRegs s t (fun a => a = R.RLINK_STATUS h.link.val) ∧
      out t h.link.val (idle h.seq.val false) ∧
      t.fld (R.RLINK_STATUS h.link.val) F.RLINK_STATUS_BAD_FLIT = satAdd (2 ^ F.RLINK_STATUS_BAD_FLIT.width - 1)
        (s.fld (R.RLINK_STATUS h.link.val) F.RLINK_STATUS_BAD_FLIT) 1
    let ups : Prop := ∀ (l : Fin 2) (id : Fin 8) (serial : BitVec 64),
      let st := R.RLINK_STATUS l.val
      let may := s.serving = true ∧ s.bit R.RUN_CFG F.RUN_CFG_ENABLE = true ∧ (s.link l.val).up = false
      (¬ may → exec (.runnerLinkUp l id serial) s = .next s) ∧
      (may → Completes (.runnerLinkUp l id serial) s fun t => SameMem s t ∧ (t.link l.val).up = true ∧ told (ev l.val 0) t ∧
        t.fld st F.RLINK_STATUS_STATE = 2 ∧ t.bit st F.RLINK_STATUS_NB_VALID = true ∧
        t.fld st F.RLINK_STATUS_NEIGHBOUR = id.val ∧ t.fld R.RUN_RING F.RUN_RING_PRESENT / 2 ^ s.devid % 2 = 1 ∧
        (id.val = s.devid → serial.toNat ≠ s.root.serial → t.bit R.RUN_RING F.RUN_RING_DUP_ID = true ∧ t.runner.dup = true ∧
          ringServes t = false) ∧
        (∀ i, (s.link l.val).nb = some i → i ≠ id.val → told (ev l.val 2) t) ∧ (t.link l.val).nb = some id.val ∧
        ∃ q k a b, out t l.val ⟨q, k, false, s.devid, s.devid, 7, .ring (BitVec.ofNat 64 s.root.serial) a b⟩)
    let downs : Prop := ∀ (l : Fin 2) lost, (s.link l.val).up = true → Completes (.runnerLinkDown l lost) s fun t =>
      SameMem s t ∧ told (ev l.val 0) t ∧ t.link l.val = { nb := (s.link l.val).nb } ∧
      t.bit (R.RLINK_STATUS l.val) F.RLINK_STATUS_LINK_FAIL = true ∧
      t.bit (R.RLINK_STATUS l.val) F.RLINK_STATUS_NB_VALID = false ∧
      t.now = (if 16 ≤ (s.link l.val).replays then s.now else max s.now ((s.link l.val).lastAt + 10000)) ∧
      (∀ h, h ∈ t.runner.heard → (if l.val = 0 then h.a else h.b) = none) ∧
      ∀ k, k < 16 → (t.stream k).sent = if s.bit (R.RUN_FWD k) F.RUN_FWD_OUT_EN then 0 else (s.stream k).sent
    let ring : Prop := ∀ h (serial : BitVec 64) aUp bUp, ordered h →
      (h.src.val = s.devid → serial.toNat = s.root.serial → Completes (.ringAnnounce h serial aUp bUp) s fun t => fixed t ∧
        t.runner.heard = s.runner.heard) ∧
      (h.src.val = s.devid → serial.toNat ≠ s.root.serial → Completes (.ringAnnounce h serial aUp bUp) s fun t => SameMem s t ∧
        t.bit R.RUN_RING F.RUN_RING_DUP_ID = true ∧ t.runner.dup = true ∧ told (ev h.link.val 2) t) ∧
      (h.src.val ≠ s.devid → Completes (.ringAnnounce h serial aUp bUp) s fun t => ∃ x, x ∈ t.runner.heard ∧ x.id = h.src.val ∧
        x.aUp = aUp ∧ x.bUp = bUp ∧ (if h.link.val = 0 then x.a else x.b) = some (8 - h.hops.val) ∧
        t.fld R.RUN_RING F.RUN_RING_PRESENT / 2 ^ h.src.val % 2 = 1) ∧
      (h.src.val ≠ s.devid → (aUp && bUp) = false →
        (∀ x, x ∈ s.runner.heard → x.id = h.src.val → x.aUp ≠ aUp ∨ x.bUp ≠ bUp) →
        Completes (.ringAnnounce h serial aUp bUp) s fun t =>
          ∀ k, k < 16 → (t.stream k).sent = if s.bit (R.RUN_FWD k) F.RUN_FWD_OUT_EN then 0 else (s.stream k).sent)
    let times : Prop := ∀ h (m : TimeMark), ordered h → h.src.val ≠ s.devid → ringServes s = true →
      let e : Int := (m.at_.toNat : Int) - s.now
      (isMaster s = true → Completes (.timeFlit h m) s fun t => fixed t ∧ t.tm = s.tm) ∧
      (isMaster s = false → Completes (.timeFlit h m) s fun t => SameMem s t ∧ t.runner.timeLink = h.link.val ∧
        t.tm.runnerGood = min 2 (s.tm.runnerGood + 1) ∧ t.tm.runnerLast = t.now ∧
        t.fld R.TIME_RACE F.TIME_RACE_RACE = satAdd (2 ^ F.TIME_RACE_RACE.width - 1) (s.fld R.TIME_RACE F.TIME_RACE_RACE)
          (if m.lost then 1 else 0) ∧
        (1 ≤ s.tm.runnerGood → srcValid t 0 = true) ∧
        t.bit R.RUN_RING F.RUN_RING_TIME_LOCK = (srcValid t 0 && decide (e.natAbs ≤ 2)) ∧
        (t.fld R.TIME_STATUS F.TIME_STATUS_SRC = 0 →
          t.sfld R.TIME_ERR F.TIME_ERR_VALUE = clampInt (-2147483648) 2147483647 e))
    let beats : Prop :=
      (ringServes s = false ∨ isMaster s = false → exec .timeFlitSend s = .next s) ∧
      (ringServes s = true → isMaster s = true → Completes .timeFlitSend s fun t => fixed t ∧
        t.now = max s.now (s.runner.timeAt + 1000000) ∧ t.runner.timeAt = t.now ∧
        (s.bit R.RUN_RING F.RUN_RING_CLOSED = false → 1 < presentCount s → ∀ l, l < 2 →
          sends t l s.devid (presentCount s - 1) (.time (BitVec.ofNat 64 t.now))))
    order ∧ level ∧ unknown ∧ ups ∧ downs ∧ ring ∧ times ∧ beats

/-- R507, R512 to R519: the services above the link level; fields of flits that no rule gives are the model's (log
entries 63 to 65). -/
def Obligations.RunnerServices : Prop :=
  ∀ (s : State), s.working = true → ringServes s = true →
    let told := fun (src : Nat) (t : State) => s.reg (R.EVT_ROUTE src) ≠ 0 → src ∈ t.evPend
    let sendsAt := fun (t : State) (i l dest src hops : Nat) (b : FlitBody) => (s.link l).up = true → (s.link l).waiting = [] →
      (s.link l).held.length + i < 63 → ∃ a,
        let q := (s.link l).nextSeq
        let f : Flit := ⟨if i = 0 then q else (q + i) % 64, a, false, dest, src, hops, b⟩
        Out.flit l f (flitBytes f) ∈ t.out
    let sends := fun (t : State) (l dest src hops : Nat) (b : FlitBody) => sendsAt t 0 l dest src hops b
    let ordered := fun (h : FlitHead) => (s.link h.link.val).up = true ∧ h.seq.val = ((s.link h.link.val).got + 1) % 64
    let counted := fun (t : State) (r : Nat) (f : Fld) => t.fld r f = satAdd (2 ^ f.width - 1) (s.fld r f) 1
    let relays : Prop := ∀ h, ordered h → h.dest.val ≠ s.devid → 1 < h.hops.val → ∀ a b c d e f g i j,
      let on := fun (row : Instr) (body : FlitBody) => Completes row s fun t => SameMem s t ∧ SameRegs s t (fun _ => False) ∧
        sends t (1 - h.link.val) h.dest.val h.src.val (h.hops.val - 1) body
      on (.trigFlit h a b) (.trig a b) ∧ on (.rmtReq h c d e f g) (.rmtReq c d e f) ∧ on (.rmtRsp h a f j) (.rmtRsp a f) ∧
      on (.fwdFlit h a i c) (.fwd a i)
    let triggers : Prop :=
      (∀ (dest : BitVec 8) (c : Fin 16) lost, let due := s.now + max 200 (s.fld R.RUN_CFG F.RUN_CFG_TRIG_DELAY)
        Completes (.runTrigSend dest c lost) s fun t => SameMem s t ∧
          t.fld R.RUN_TRIG_STAT F.RUN_TRIG_STAT_SENT = (s.fld R.RUN_TRIG_STAT F.RUN_TRIG_STAT_SENT + 1) % 65536 ∧
          t.runner.trigs = s.runner.trigs ++ (if dest.getLsbD s.devid then [⟨c.val, due⟩] else []) ∧
          ∀ d l hops, d < 8 → dest.toNat = 2 ^ d → d ≠ s.devid → routeTo s d = some (l, hops) →
            sends t l d s.devid hops (.trig c (BitVec.ofNat 64 due))) ∧
      (∀ h (c : Fin 16) (due : BitVec 64) src, src = (if c.val < 8 then 520 + c.val else 528 + c.val) → ordered h →
        h.dest.val = s.devid →
        (due.toNat < s.now → Completes (.trigFlit h c due) s fun t => SameMem s t ∧ told src t ∧
          told (512 + 16 * h.link.val + 4) t ∧ counted t R.RUN_TRIG_STAT F.RUN_TRIG_STAT_TRIG_LATE ∧
          t.runner.trigs = s.runner.trigs) ∧
        (s.now ≤ due.toNat → Completes (.trigFlit h c due) s fun t => SameMem s t ∧ SameRegs s t (fun _ => False) ∧
          t.runner.trigs = s.runner.trigs ++ [⟨c.val, due.toNat⟩])) ∧
      (s.runner.trigs = [] → exec .triggerDue s = .next s) ∧
      (s.runner.trigs ≠ [] → Completes .triggerDue s fun t => SameMem s t ∧ ∃ u, u ∈ s.runner.trigs ∧
        (∀ v, v ∈ s.runner.trigs → u.due ≤ v.due) ∧ t.runner.trigs = s.runner.trigs.erase u ∧
        t.now = max s.now u.due ∧ told (trigSource u.channel) t)
    let shares : Prop :=
      let i := s.fld R.RUN_POS_OUT F.RUN_POS_OUT_INTERFACE
      let x := (s.enc i).last
      (s.bit R.RUN_POS_OUT F.RUN_POS_OUT_EN = false → exec .posShareSend s = .next s) ∧
      (s.bit R.RUN_POS_OUT F.RUN_POS_OUT_EN = true → Completes .posShareSend s fun t => SameMem s t ∧
        SameRegs s t (fun _ => False) ∧ t.now = max s.now (s.runner.shareAt + shareNs s) ∧ t.runner.shareAt = t.now ∧
        t.runner.turn = none ∧
        (s.bit R.RUN_RING F.RUN_RING_CLOSED = false → 1 < presentCount s → ∀ l, l < 2 →
          sends t l s.devid s.devid (presentCount s - 1) (.pos (Fin.ofNat 8 i) (.sample (BitVec.ofInt 64 x.pos)
            (BitVec.ofNat 64 x.t2) x.dir x.back s.runner.turn.isSome x.valid x.suspect))))
    let positions : Prop := ∀ h (itf : Fin 8) (j : Fin 2) n, ordered h → h.src.val ≠ s.devid → posLocal s j.val = some n →
      let fits := fun (k : Nat) => s.fld (R.RUN_POS_IN k) F.RUN_POS_IN_SRC_DEV = h.src.val ∧
        s.fld (R.RUN_POS_IN k) F.RUN_POS_IN_SRC_IF = itf.val
      fits j.val → ¬ fits (1 - j.val) → n < 8 → ∀ (pos t2 : BitVec 64) dir back valid suspect,
        (Completes (.posFlit h itf (.sample pos t2 dir back false valid suspect)) s fun t => SameMem s t ∧
          t.sreg64 (R.ENC_POS_LO n) = pos.toInt ∧ t.bit (R.ENC_STATUS n) F.ENC_STATUS_DIR = dir ∧
          t.bit (R.ENC_STATUS n) F.ENC_STATUS_TDIR = back ∧ t.bit (R.ENC_STATUS n) F.ENC_STATUS_VALID = valid ∧
          Sparse.find t.runner.posAt j.val = some s.now) ∧
        (Completes (.posFlit h itf (.sample pos t2 dir back true valid suspect)) s fun t => SameMem s t ∧
          SameRegs s t (fun _ => False) ∧ ∃ y, Sparse.find t.runner.heldTurn j.val = some y ∧ y.pos = pos.toInt ∧ y.turn = true) ∧
        (∀ y e, Sparse.find s.runner.heldTurn j.val = some y →
          Completes (.posFlit h itf (.turningPoint e)) s fun t => SameMem s t ∧
            (-(2 ^ 63 : Int) ≤ y.pos → y.pos < 2 ^ 63 → t.sreg64 (R.ENC_POS_LO n) = y.pos) ∧
            (t.enc n).last = { y with prevE := e.toInt } ∧ Sparse.find t.runner.heldTurn j.val = none) ∧
        (∀ (v : BitVec 32) still rev startup sat, Completes (.posFlit h itf (.speed v still rev startup sat)) s fun t => SameMem s t ∧
          t.reg (R.ENC_SPEED n) = v ∧ t.bit (R.ENC_SPEED_STAT n) F.ENC_SPEED_STAT_STANDSTILL = still ∧
          t.bit (R.ENC_SPEED_STAT n) F.ENC_SPEED_STAT_REVERSAL = rev)
    let lapses : Prop := ∀ j : Fin 2,
      (posLocal s j.val = none → exec (.sharedPosTimeout j) s = .next s) ∧
      ∀ n, posLocal s j.val = some n → Completes (.sharedPosTimeout j) s fun t => SameMem s t ∧ (t.enc n).last.valid = false ∧
        (t.enc n).last.pos = (s.enc n).last.pos ∧ t.bit (R.ENC_STATUS n) F.ENC_STATUS_VALID = false ∧
        t.now = max s.now ((Sparse.find s.runner.posAt j.val).getD 0 + 10000)
    let st := R.RUN_RMT_STATUS
    let asks : Prop := ∀ (dev : Fin 8) (z : Fin 4) w, let row := if w then Instr.rmtWrite dev z else .rmtRead dev z
      let len := 8 * 2 ^ z.val
      (s.bit st F.RUN_RMT_STATUS_PENDING = true → exec row s = .next s) ∧
      (s.bit st F.RUN_RMT_STATUS_PENDING = false → routeTo s dev.val = none → Completes row s fun t => SameMem s t ∧
        t.fld st F.RUN_RMT_STATUS_RESULT = 5 ∧ t.bit st F.RUN_RMT_STATUS_PENDING = false ∧ told 517 t) ∧
      ∀ l hops, s.bit st F.RUN_RMT_STATUS_PENDING = false → routeTo s dev.val = some (l, hops) → Completes row s fun t =>
        let off := s.fld R.RUN_RMT_ADDR F.RUN_RMT_ADDR_OFFSET / len * len
        let data := ((List.range 16).flatMap (fun k => bytesLE 4 (s.reg (R.RUN_RMT_DATA k)).toNat)).take len
        SameMem s t ∧ t.bit st F.RUN_RMT_STATUS_PENDING = true ∧ t.runner.rmt = some ⟨l, w, len, s.now, [], dev.val⟩ ∧
        (w = false → sends t l dev.val s.devid hops (.rmtReq false z (Fin.ofNat 262144 off) [])) ∧
        (w = true → ∀ i, i < (len + 15) / 16 →
          sendsAt t i l dev.val s.devid hops (.rmtReq true z (Fin.ofNat 262144 (off + 16 * i)) (slice (16 * i) 16 data)))
    let serves : Prop := ∀ h w (z : Fin 4) (off : Fin 262144) data, ordered h → h.dest.val = s.devid →
      let row := Instr.rmtReq h w z off data {}
      let len := 8 * 2 ^ z.val
      let before := (Sparse.find s.runner.rmtIn h.src.val).getD []
      let got := before ++ data
      let at_ := if w then off.val - before.length else off.val
      let inside := s.bit R.RUN_CFG F.RUN_CFG_RMT_EN = true ∧ 64 * s.fld R.RUN_RMT_WIN F.RUN_RMT_WIN_BASE ≤ at_ ∧
        at_ + len ≤ 64 * s.fld R.RUN_RMT_WIN F.RUN_RMT_WIN_LIMIT + 64 ∧ underMarch s 0x70 = false
      let reach := fun (p : Nat → Nat → Prop) => ∀ l hops, routeTo s h.src.val = some (l, hops) → p l hops
      let replies := fun (t : State) (r : Fin 16) => reach fun l hops => sends t l h.src.val s.devid hops (.rmtRsp r [])
      (w = true → got.length < len → Completes row s fun t => SameMem s t ∧ SameRegs s t (fun _ => False) ∧
        Sparse.find t.runner.rmtIn h.src.val = some got) ∧
      (¬ inside → w = false ∨ len ≤ got.length → Completes row s fun t => SameMem s t ∧ SameRegs s t (fun _ => False) ∧ replies t 3) ∧
      (inside → w = false → at_ + len ≤ 262144 → Completes row s fun t => SameMem s t ∧ SameRegs s t (fun _ => False) ∧
        reach fun l hops => ∀ i, i < (len + 15) / 16 →
          sendsAt t i l h.src.val s.devid hops (.rmtRsp 1 (slice (16 * i) 16 (s.read (exchBase + at_) len)))) ∧
      (inside → w = true → got.length = len → at_ + len ≤ 262144 → Completes row s fun t =>
        t.read (exchBase + at_) len = got ∧ replies t 1 ∧ SameRegs s t (fun _ => False) ∧
        Sparse.find t.runner.rmtIn h.src.val = none ∧
        ∀ a, a < exchBase + at_ ∨ exchBase + at_ + len ≤ a → t.byte a = s.byte a)
    let responses : Prop :=
      (∀ h r data f, ordered h → h.dest.val = s.devid →
        (f.former = true ∨ s.runner.rmt = none ∨ (∃ x, s.runner.rmt = some x ∧ x.dev ≠ h.src.val) →
          Completes (.rmtRsp h r data f) s fun t => SameMem s t ∧ t.runner.rmt = s.runner.rmt ∧
            SameRegs s t (fun a => a = st) ∧ (f.last = true → counted t st F.RUN_RMT_STATUS_LATE_RSP) ∧
            (f.last = false → t.reg st = s.reg st)) ∧
        ∀ x, s.runner.rmt = some x → x.dev = h.src.val → f.former = false → x.len ≤ 64 →
          let got := x.got ++ data
          let takes := x.write = false ∧ (r.val = 1 ∨ r.val = 2)
          (takes → got.length < x.len → Completes (.rmtRsp h r data f) s fun t => SameMem s t ∧
            t.runner.rmt = some { x with got := got } ∧ SameRegs s t (fun a => a = R.RUN_RACE)) ∧
          (¬ takes ∨ x.len ≤ got.length → Completes (.rmtRsp h r data f) s fun t => SameMem s t ∧ t.runner.rmt = none ∧
            t.fld st F.RUN_RMT_STATUS_RESULT = r.val ∧ t.bit st F.RUN_RMT_STATUS_PENDING = false ∧
            told (512 + 16 * x.link + 5) t ∧
            (takes → ∀ k, k < x.len / 4 → k < 16 → t.reg (R.RUN_RMT_DATA k) = BitVec.ofNat 32 (natAt (4 * k) 4 got)))) ∧
      ∀ lost, (s.runner.rmt = none → exec (.rmtTimeout lost) s = .next s) ∧
        ∀ x, s.runner.rmt = some x → Completes (.rmtTimeout lost) s fun t => SameMem s t ∧ t.runner.rmt = none ∧
          t.fld st F.RUN_RMT_STATUS_RESULT = 4 ∧ t.bit st F.RUN_RMT_STATUS_PENDING = false ∧
          t.now = max s.now (x.at_ + 10000) ∧ told (512 + 16 * x.link + 5) t
    let forwards : Prop := ∀ n : Fin 16,
      let x := s.stream n.val
      let r := R.RUN_FWD n.val
      let dev := s.fld r F.RUN_FWD_DEVICE
      (s.bit r F.RUN_FWD_OUT_EN = false ∨ x.enabled = false ∨ routeTo s dev = none ∨ entAt x.ents (x.cut + x.sent) = none →
        exec (.recordForwardSend n) s = .next s) ∧
      ∀ l hops e k b, s.bit r F.RUN_FWD_OUT_EN = true → x.enabled = true → routeTo s dev = some (l, hops) →
        entAt x.ents (x.cut + x.sent) = some (e, k, b) →
        (x.fwdSpace < e.len → Completes (.recordForwardSend n) s fun t => SameMem s t ∧
          t.stream n.val = { x with fwdStalled := true } ∧ t.out = s.out) ∧
        (e.len ≤ x.fwdSpace → Completes (.recordForwardSend n) s fun t => SameMem s t ∧
          t.stream n.val = { x with fwdStalled := false, sent := x.sent + e.len, fwdSpace := x.fwdSpace - e.len } ∧
          (0 < e.len → sends t l dev s.devid hops (.fwd (Fin.ofNat 16 (s.fld r F.RUN_FWD_STREAM))
            (.data ((s.islandRead (spoolBase s n.val + e.off) e.len).take 24)))))
    let arrives : Prop := ∀ h (n : Fin 16) lost, ordered h → h.dest.val = s.devid →
      let x := s.stream n.val
      let r := R.RUN_FWD n.val
      let mine := s.fld r F.RUN_FWD_DEVICE = h.src.val
      (∀ bytes space, mine → s.bit r F.RUN_FWD_OUT_EN = true → Completes (.fwdFlit h n (.ack bytes space) lost) s fun t =>
        (t.stream n.val).fwdSpace = space - (t.stream n.val).sent ∧
        (t.stream n.val).sent = x.sent - min bytes ((x.ents.map (·.len)).sum - x.cut)) ∧
      ∀ bs, mine → s.bit r F.RUN_FWD_IN_EN = true →
        let got := x.fwdBuf ++ bs
        let len := 64 + natAt 4 4 got
        (got.length < 64 → Completes (.fwdFlit h n (.data bs) lost) s fun t => SameMem s t ∧
          (t.stream n.val).fwdBuf = got ∧ (t.stream n.val).ents = x.ents) ∧
        let at_ := if spoolSize s n.val < intakeAt s n.val + len then 0 else intakeAt s n.val
        let room := (placeAt (spoolSize s n.val) (intakeAt s n.val) (spoolUsed s n.val) len).2 + fwdKeep got ≤ spoolSize s n.val
        let snap := fun (a : Nat) => ∃ copy, copy < 2 ∧ snapAddr copy n.val ≤ a ∧ a < snapAddr copy n.val + 64
        (got.length = len → Sparse.find x.fwdGot (natAt 8 2 got) = none → room →
          busErrorIn s (spoolBase s n.val + at_) len = false → Completes (.fwdFlit h n (.data bs) lost) s fun t => t.read (spoolBase s n.val + at_) len = got ∧
            (∀ a, ¬ snap a → a < spoolBase s n.val + at_ ∨ spoolBase s n.val + at_ + len ≤ a → t.byte a = s.byte a) ∧
            (t.stream n.val).fwdBuf = [] ∧ (t.stream n.val).ents.length = x.ents.length + 1 ∧
            t.reg (R.SPOOL_INTAKE n.val) = BitVec.ofNat 32 ((at_ + len) % spoolSize s n.val / 64) ∧
            t.reg (R.SPOOL_SEAL n.val) = t.reg (R.SPOOL_INTAKE n.val))
    relays ∧ triggers ∧ shares ∧ positions ∧ lapses ∧ asks ∧ serves ∧ responses ∧ forwards ∧ arrives

/-- R485 to R490, R491, R501, R502, R504, R589: the root's requests. The framing is the SPDM standard's, and what a
session needs beyond the rules is the model's (log entries 60, 61); keys and signatures are opaque (log entry 7). -/
def Obligations.TrustRequests : Prop :=
  ∀ (s : State),
    let told := fun (src : Nat) (t : State) => s.reg (R.EVT_ROUTE src) ≠ 0 → src ∈ t.evPend
    let reached := s.serving = true ∧ s.pcie.ready = true ∧ s.pcie.linkUp = true
    let said := fun (r : SpdmRsp) => s.emit (.spdm r)
    let still := fun (t : State) => SameMem s t ∧ SameRegs s t (fun _ => False) ∧ t.root = s.root ∧ t.spdm.session = s.spdm.session
    let gate : Prop := ∀ busy slot request block bytes last size cmd fuses lost first count code,
      ∀ row, row ∈ [Instr.getVersion busy, .getCapabilities busy, .negotiateAlgorithms busy, .getDigests busy,
        .getCertificate slot busy, .challenge slot request busy, .getMeasurements block request busy,
        .keyExchange request busy, .finish busy, .heartbeat busy, .keyUpdate busy, .endSession busy,
        .chunkSend bytes last busy, .chunkGet size busy, .getOwnerNonce busy, .ownerEnrol cmd fuses busy,
        .ownerRevoke cmd fuses busy, .ownerUnlock cmd lost busy, .peatRead first count busy,
        .vendorRequestUnsupported code busy] →
      (¬ reached → exec row s = .next s) ∧ (reached → busy = true → exec row s = .next (said .busy))
    let fixed : Prop :=
      exec (.getVersion false) s = .next (said .version) ∧ exec (.getCapabilities false) s = .next (said
        (.capabilities [.cert, .chal, .measSigned, .measFresh, .keyEx, .encrypt, .mac, .hbeat, .keyUpd, .chunk])) ∧
      exec (.negotiateAlgorithms false) s = .next (said
        (.algorithms [.ecdsaP384, .sha384, .dheSecp384r1, .aes256Gcm, .spdmKeySchedule])) ∧
      (Completes (.getDigests false) s fun t => still t ∧ ∃ d, d.length = 48 ∧ t.out = s.out ++ [.spdm (.digests d)]) ∧
      (∀ slot : Fin 8, slot.val ≠ 0 → exec (.getCertificate slot false) s = .next (said .unexpected) ∧
        ∀ q, exec (.challenge slot q false) s = .next (said .unexpected)) ∧
      (Completes (.getCertificate 0 false) s fun t => still t ∧ t.out = s.out ++ [.spdm (.certificate t.spdm.largeOut)] ∧
        ∃ rest, t.spdm.largeOut = Config.deviceChain ++ rest) ∧
      (∀ q, Completes (.challenge 0 q false) s fun t => still t ∧ ∃ g, g.length = 96 ∧
        t.out = s.out ++ [.spdm (.challengeAuth g)]) ∧
      ∀ code : BitVec 8, exec (.vendorRequestUnsupported code false) s =
        .next (if code.toNat = 0 ∨ 4 ≤ code.toNat then said .unsupported else s)
    let measures : Prop := ∀ block q, Completes (.getMeasurements block q false) s fun t => still t ∧ ∃ bs g,
      t.out = s.out ++ [.spdm (.measurements bs g)] ∧ g.length = 96 ∧
      bs.map (·.1) = (match block with | some i => [i.val + 1] | none => [1, 2, 3, 4, 5, 6]) ∧
      (∀ i v, (i, v) ∈ bs → v.take 2 = [BitVec.ofNat 8 i, 1] ∧ byteAt 4 v = [0, 129, 131, 131, 133, 129].getD (i - 1) 0) ∧
      (∀ v, (5, v) ∈ bs → v.drop 7 = [if s.root.debug then 1 else 0]) ∧
      (∀ v, (1, v) ∈ bs → v.drop 7 = Config.romDigest.toList) ∧
      ∀ v, (3, v) ∈ bs → v.length = 9 ∧ v.getD 8 0 = BitVec.ofNat 8 s.root.arbFused
    let sessions : Prop :=
      (∀ q, Completes (.keyExchange q false) s fun t => t.spdm.session = true ∧ t.spdm.established = false ∧ SameMem s t ∧
        t.root = s.root ∧ t.bit R.TRUST_STATE F.TRUST_STATE_SESSION = true ∧ told 480 t) ∧
      (s.spdm.session = false → ∀ row, row ∈ [Instr.finish false, .heartbeat false, .keyUpdate false, .endSession false] →
        exec row s = .next (said .unexpected)) ∧
      (s.spdm.session = true →
        exec (.finish false) s = .next (if s.spdm.established then said .unexpected else
          { said .finish with spdm := { s.spdm with established := true } }) ∧
        exec (.heartbeat false) s = .next (said .heartbeat) ∧
        exec (.keyUpdate false) s = .next { said .keyUpdate with spdm := { s.spdm with keyEpoch := s.spdm.keyEpoch + 1 } } ∧
        Completes (.endSession false) s fun t => t.spdm.session = false ∧ t.spdm.established = false ∧ told 480 t ∧
          SameMem s t ∧ t.bit R.TRUST_STATE F.TRUST_STATE_SESSION = false)
    let chunks : Prop := ∀ (c : LargeChunk) (size : Fin 65536), let l := s.spdm.largeOut
      let m := s.spdm.large ++ c.bytes
      let done : State := { said .chunkAck with spdm := { s.spdm with large := [] } }
      let runs := fun (code : Nat) (row : Instr) => byteAt 1 m = code → exec (.chunkSend c true false) s = exec row done
      exec (.chunkSend c false false) s = .next { said .chunkAck with spdm := { s.spdm with large := m } } ∧
      runs 0x84 (.getVersion false) ∧ runs 0xE1 (.getCapabilities false) ∧ runs 0xE3 (.negotiateAlgorithms false) ∧
      runs 0x81 (.getDigests false) ∧ runs 0xE4 (.keyExchange m false) ∧ runs 0xE5 (.finish false) ∧
      runs 0xE8 (.heartbeat false) ∧ runs 0xE9 (.keyUpdate false) ∧ runs 0xEC (.endSession false) ∧
      (byteAt 2 m = 0 → runs 0x82 (.getCertificate 0 false) ∧ runs 0x83 (.challenge 0 m false)) ∧
      (byteAt 3 m = 255 → runs 0xE0 (.getMeasurements none m false)) ∧
      exec (.chunkGet size false) s = .next { said (.chunk (l.take size) (decide (l.length ≤ size.val))) with
        spdm := { s.spdm with largeOut := l.drop size } }
    let peat : Prop := ∀ (first : BitVec 64) (count : BitVec 16),
      let n := min (min count.toNat 64) (s.peat.nextSeq - max first.toNat (s.peat.nextSeq - 262144))
      (s.spdm.established = false ∨ count.toNat = 0 ∨ 64 < count.toNat →
        exec (.peatRead first count false) s = .next (said .unexpected)) ∧
      (s.spdm.established = true → 0 < count.toNat → count.toNat ≤ 64 → Completes (.peatRead first count false) s fun t =>
        still t ∧ ∃ bs, t.out = s.out ++ [.spdm (.peat (s.peat.nextSeq - 1) bs)] ∧ bs.length = 64 * n ∧ ∀ i, i < n →
          (bs.drop (64 * i)).take 64 = s.read (peatSlot (max first.toNat (s.peat.nextSeq - 262144) + i)) 64)
    let nonce : Prop := Completes (.getOwnerNonce false) s fun t => SameMem s t ∧ ∃ n, n.length = 32 ∧
      t.root = { s.root with nonce := some n, randoms := s.root.randoms + 1 } ∧ t.out = s.out ++ [.spdm (.nonce n)]
    let stat := R.TRUST_OWNER_STATUS
    let shown := fun (t : State) (cmd : List Byte) (r : Nat) => t.fld stat F.TRUST_OWNER_STATUS_RESULT = r ∧
      t.fld stat F.TRUST_OWNER_STATUS_LAST_CMD = (byteAt 4 cmd) ∧ t.root.nonce = none ∧ (∀ c, ownerCheck t c ≠ 1) ∧
      Out.spdm (.owner r) ∈ t.out ∧ t.fld stat F.TRUST_OWNER_STATUS_REFUSED = (if r = 1 then
        s.fld stat F.TRUST_OWNER_STATUS_REFUSED else satAdd (2 ^ F.TRUST_OWNER_STATUS_REFUSED.width - 1)
          (s.fld stat F.TRUST_OWNER_STATUS_REFUSED) 1)
    let others := fun (t : State) (k : Nat) => ∀ j, j < 4 → j ≠ k → ownerSlot t j = ownerSlot s j
    let owners : Prop := ∀ cmd : List Byte,
      let k := byteAt 6 cmd
      (∀ fuses, byteAt 4 cmd = 1 ∨ byteAt 4 cmd = 2 → ownerCheck s cmd ≠ 1 →
        Completes (if byteAt 4 cmd = 1 then .ownerEnrol cmd fuses false else .ownerRevoke cmd fuses false) s fun t =>
          shown t cmd (ownerCheck s cmd) ∧ t.root.slots = s.root.slots ∧ SameMem s t) ∧
      (byteAt 4 cmd = 1 → ownerCheck s cmd = 1 →
        (Completes (.ownerEnrol cmd .burnt false) s fun t => shown t cmd 1 ∧ others t k ∧ told 481 t ∧ SameMem s t ∧
          ownerSlot t k = { ownerSlot s k with hash := slice 0x30 48 cmd, valid := true }) ∧
        (Completes (.ownerEnrol cmd .failed false) s fun t => shown t cmd 8 ∧ others t k ∧ SameMem s t) ∧
        Completes (.ownerEnrol cmd .cut false) s fun t => t.mode = .off ∧ t.root.nonce = none ∧ others t k ∧
          ((∃ b ∈ slice 0x30 48 cmd, b ≠ 0) → slotCode (ownerSlot t k) = 3)) ∧
      (byteAt 4 cmd = 2 → ownerCheck s cmd = 1 →
        (Completes (.ownerRevoke cmd .burnt false) s fun t => shown t cmd 1 ∧ others t k ∧ told 481 t ∧ SameMem s t ∧
          ownerSlot t k = { ownerSlot s k with revoked := true } ∧ ∃ j, j < 4 ∧ (ownerSlot t j).active = true) ∧
        (Completes (.ownerRevoke cmd .failed false) s fun t => shown t cmd 8 ∧ others t k ∧ SameMem s t) ∧
        Completes (.ownerRevoke cmd .cut false) s fun t => t.mode = .off ∧ t.root.nonce = none ∧
          t.root.slots = s.root.slots) ∧
      (∀ lost, byteAt 4 cmd = 3 → ownerCheck s cmd ≠ 1 → Completes (.ownerUnlock cmd lost false) s fun t =>
        shown t cmd (ownerCheck s cmd) ∧ t.root.debug = s.root.debug ∧ t.mode = s.mode ∧ SameMem s t) ∧
      (∀ lost, byteAt 4 cmd = 3 → ownerCheck s cmd = 1 → Completes (.ownerUnlock cmd lost false) s fun t =>
        t.root.debug = true ∧ t.root.keys = none ∧ t.root.nonce = none ∧ t.root.slots = s.root.slots ∧
        (t.mode = .run ∨ t.mode = .safe ∨ t.mode = .halt))
    let checks : Prop := ∀ cmd : List Byte, (s.root.nonce = none → ownerCheck s cmd ≠ 1) ∧
      (ownerCheck s cmd = 1 → natAt 8 8 cmd = s.root.serial ∧ s.root.nonce = some (slice 0x10 32 cmd) ∧
        (byteAt 5 cmd = 255 → s.mode = .safe ∧ byteAt 4 cmd = 1) ∧
        (byteAt 4 cmd = 1 → byteAt 6 cmd < 4 ∧ slotCode (ownerSlot s (byteAt 6 cmd)) = 0) ∧
        (byteAt 4 cmd = 2 → byteAt 6 cmd < 4 ∧ (ownerSlot s (byteAt 6 cmd)).active = true ∧ byteAt 6 cmd ≠ byteAt 5 cmd))
    gate ∧ (reached → fixed ∧ measures ∧ sessions ∧ chunks ∧ peat ∧ nonce ∧ owners) ∧ checks

/-- R11 to R14, R117, R460 to R462, R608: what a write and a read of a register do. Where the refusals are counted is
the model's (log entry 14). -/
def Obligations.RegisterAccess : Prop :=
  ∀ (s : State),
    let told := fun (src : Nat) (t : State) => s.reg (R.EVT_ROUTE src) ≠ 0 → src ∈ t.evPend
    let refusals := fun (t : State) (c : Nat) => Sparse.get (fun _ => 0) t.refusals c
    let units : List CommitUnit := (List.range 8).map encUnit ++ (List.range 16).map cmpUnit ++ (List.range 2).map ptUnit ++
      (List.range 10).map capUnit ++ (List.range 10).map corUnit ++ (List.range 4).map lampUnit ++ (List.range 4).map tpUnit ++
      (List.range 16).map measUnit ++ (List.range 2).map loopUnit ++ (List.range 8).map axUnit ++ (List.range 64).map tmrUnit ++
      (List.range 64).map chanUnit
    let block := fun (a : Nat) => (a - 0x5000000000) / 0x100000
    let off := fun (a : Nat) => a % 0x100000
    let quiet := fun (a : Nat) => 0x5000000000 ≤ a ∧ a < 0x5008000000 ∧ (block a ∈ [0, 1, 5] ∨
      (block a = 6 ∧ (off a < 0x100 ∨ (0x100 ≤ off a ∧ off a < 0x2000 ∧ off a % 32 ≠ 0) ∨ 0x2080 ≤ off a)) ∨
      (block a = 8 ∧ off a % 32 ≠ 4) ∨ (block a = 9 ∧ off a < 0x1000 ∧ off a % 512 ≠ 0 ∧ off a % 512 ≠ 4) ∨
      (block a = 0xB ∧ 0x4000 ≤ off a) ∨ (block a = 0x29 ∧ off a < 0x1000) ∨
      (0x10 ≤ block a ∧ block a < 0x1A ∧ s.runActive = false ∧ off a ∉ [0, 4, 0x10, 0x18, 0x20, 0x1000, 0x1008]))
    let nothing : Prop := ∀ (q : Requester) (a : Fin 562949953421312) v sw cw, q ≠ .host →
      (winBase ≤ a.val ∨ s.working = false ∨ descOf (canonReg a.val) = none) →
        exec (.registerWrite q a v sw cw) s = .next s
    let refused : Prop := ∀ (q : Requester) (a : Fin 562949953421312) v sw cw u, q ≠ .host → s.working = true →
      u ∈ units → a.val ∈ u.regs → u.waits s = true → Completes (.registerWrite q a v sw cw) s fun t =>
        SameMem s t ∧ SameRegs s t (fun _ => False) ∧ refusals t u.ctrl = refusals s u.ctrl + 1 ∧
        (∀ c, c ≠ u.ctrl → refusals t c = refusals s c) ∧
        (∀ f : Fin 64, q = .frond f → (t.frond f.val).reports = (s.frond f.val).reports ++ [a.val])
    let stored : Prop := ∀ (q : Requester) (a : Fin 562949953421312) (v sw cw : BitVec 32) (d : RegDesc),
      let b := canonReg a.val
      let losers := (List.range 32).filter (fun k => (sw.getLsbD k || cw.getLsbD k) && v.getLsbD k && d.w1c.testBit k)
      q ≠ .host → s.working = true → a.val < winBase → quiet b → descOf b = some d → (∀ u, u ∈ units → b ∈ u.regs →
        u.waits s = false) → Completes (.registerWrite q a v sw cw) s fun t =>
          SameMem s t ∧ SameRegs s t (fun x => x = b ∨ ∃ f, raceOf s b = some (x, f)) ∧ (∀ x, t.inForce x = s.inForce x) ∧
          (∀ x f, raceOf s b = some (x, f) → x ≠ b → t.fld x f = satAdd (2 ^ f.width - 1) (s.fld x f) losers.length) ∧
          ((∀ f, raceOf s b ≠ some (b, f)) → ∀ k, k < 32 → (t.reg b).getLsbD k =
            if d.w1c.testBit k && v.getLsbD k && !sw.getLsbD k then false
            else if d.rw.testBit k || d.rws.testBit k then v.getLsbD k else (s.reg b).getLsbD k)
    let pairs : Prop := ∀ (q : Requester) (a : Fin 562949953421312),
      let b := canonReg a.val
      (q ≠ .host → (winBase ≤ a.val ∨ s.working = false) → ∀ len, exec (.pairLoRead q ⟨a, len⟩) s = .next s) ∧
      (q ≠ .host → (isPairLow b = false ∨ q = .root) → exec (.pairLoRead q ⟨a, 4⟩) s = .next s) ∧
      (q = .dma ∨ (∃ f, q = .frond f) → s.working = true → a.val < winBase → isPairLow b = true →
        Completes (.pairLoRead q ⟨a, 4⟩) s fun t => { t with snap := s.snap } = s ∧ readReg q a.val s = (s.shown b, t) ∧
          (∀ u : State, u.snap = t.snap → readReg q (b + 4) u = (s.shown (b + 4), u)) ∧
          ∀ (r : Requester) (x : Nat), r ≠ q → x < winBase → (readReg r x t).1 = (readReg r x s).1)
    let hostReads : Prop := ∀ x : ReadSpan,
      let a := x.addr
      let o := a.val - winBase
      let row := Instr.pairLoRead .host x
      let peat := 0x40000 ≤ o ∧ o < 0x60000
      let denied := s.serving = true ∧ peatOpen s = false ∧
        ∃ k, o / 4 ≤ k ∧ k < (o + x.len + 3) / 4 ∧ 0x10000 ≤ k ∧ k < 0x18000
      let answers := fun (bs : List Byte) => bs.length = x.len ∧ ∀ i, i < x.len →
        bs.getD i 0 = BitVec.ofNat 8 ((windowRead (4 * ((o + i) / 4)) s).toNat / 2 ^ (8 * ((o + i) % 4)))
      (a.val < winBase ∨ hostReaches s = false → exec row s = .next s) ∧
      (winBase ≤ a.val → hostReaches s = true →
        (¬ denied → ∃ bs, answers bs ∧ exec row s = .next (s.emit (.windowRead bs))) ∧
        (denied → Completes row s fun t => SameMem s t ∧ told 451 t ∧
          (∃ bs, answers bs ∧ t.out = s.out ++ [.windowRead bs]) ∧ t.fld R.REQ_STATUS F.REQ_STATUS_DENIED =
            satAdd (2 ^ F.REQ_STATUS_DENIED.width - 1) (s.fld R.REQ_STATUS F.REQ_STATUS_DENIED) 1 ∧
          t.fld R.REQ_STATUS F.REQ_STATUS_RESULT = s.fld R.REQ_STATUS F.REQ_STATUS_RESULT ∧
          t.fld R.REQ_STATUS F.REQ_STATUS_LAST = s.fld R.REQ_STATUS F.REQ_STATUS_LAST)) ∧
      (peat ∧ (s.serving = false ∨ peatOpen s = false) → windowRead o s = 0) ∧
      (o < 0x10000 → s.mode = .boot → windowRead o s = if o = 4 then s.reg R.SYS_STATE else 0) ∧
      (0x10000 ≤ o ∧ o < 0x20000 ∨ 0x30000 ≤ o ∧ o < 0x40000 → s.working = false → windowRead o s = 0) ∧
      (0x20000 ≤ o ∧ o < 0x30000 ∨ 0x200000 ≤ o → s.serving = false → windowRead o s = 0)
    let hostWrites : Prop := ∀ (a : Fin 562949953421312) v sw cw,
      let o := a.val - winBase
      (winBase ≤ a.val → hostReaches s = true → a.val % 4 ≠ 0 →
        exec (.registerWrite .host a v sw cw) s = .next (
          if (o < 0x10000 ∨ 0x100000 ≤ o ∧ o < 0x109000) ∧ s.mode ≠ .off ∨
            (0x10000 ≤ o ∧ o < 0x20000 ∨ 0x30000 ≤ o ∧ o < 0x40000) ∧ s.working ∨
            (0x20000 ≤ o ∧ o < 0x30000 ∨ 0x40000 ≤ o ∧ o < 0x100000 ∨ 0x109000 ≤ o) ∧ s.serving then badWrite s else s)) ∧
      (a.val < winBase ∨ hostReaches s = false ∨ a.val % 4 = 0 ∧ ((o < 0x10000 ∧ o ≠ 0x18) ∨
        ((0x10000 ≤ o ∧ o < 0x20000 ∨ 0x30000 ≤ o ∧ o < 0x40000) ∧ s.working = false) ∨
        ((0x20000 ≤ o ∧ o < 0x30000 ∨ 0x40000 ≤ o ∧ o < 0x60000 ∨ 0x200000 ≤ o) ∧ s.serving = false) ∨
        (0x60000 ≤ o ∧ o < 0x100000) ∨ (0x108000 ≤ o ∧ o < 0x200000) ∨ 0x220000 ≤ o) →
        exec (.registerWrite .host a v sw cw) s = .next s) ∧
      (winBase ≤ a.val → hostReaches s = true → s.serving = true → o = 0x200008 ∨ o = 0x20000C →
        exec (.registerWrite .host a v sw cw) s = .next (s.setReg a.val v))
    let tap : Prop := ∀ i : TapInstr,
      let open_ := s.mode = .safe ∨ s.mode = .maint ∨ s.mode = .off
      let does := if (i = .extest ∨ i = .clamp ∨ i = .highz) ∧ ¬ open_ ∨ (i = .frondDebug ∧ s.root.debug = false) then
        TapInstr.bypass else i
      exec (.tapInstruction i) s = .next (({ s with tap := i }).emit (.tap does
        (if does = TapInstr.idcode then some 0x16400FC7 else none)))
    nothing ∧ refused ∧ stored ∧ pairs ∧ hostReads ∧ hostWrites ∧ tap
end

