-- ==== Sys2Proof/Laws/Sparse.lean ====
section
/-!
SUPPORT. Sparse tables: what is read after a write, and that every operation keeps the canonical form.
-/

namespace Sys2Proof.Machine

variable {α : Type}

@[simp] theorem Sparse.find_nil (k : Nat) : Sparse.find ([] : List (Nat × α)) k = none := rfl

theorem Sparse.find_erase_self (m : List (Nat × α)) (k : Nat) : Sparse.find (Sparse.erase m k) k = none := by
  induction m with
  | nil => rfl
  | cons e m ih =>
    obtain ⟨a, v⟩ := e
    by_cases h : k = a
    · simpa [Sparse.erase, h] using h ▸ ih
    · simpa [Sparse.erase, Sparse.find, h] using ih

theorem Sparse.find_erase_ne (m : List (Nat × α)) {j k : Nat} (h : j ≠ k) :
    Sparse.find (Sparse.erase m k) j = Sparse.find m j := by
  induction m with
  | nil => rfl
  | cons e m ih =>
    obtain ⟨a, v⟩ := e
    by_cases hk : k = a
    · subst hk
      simp only [Sparse.erase, Sparse.find, if_true, h, if_false, ih]
    · simp [Sparse.erase, Sparse.find, hk, ih]

theorem Sparse.find_insert_ne (m : List (Nat × α)) {j k : Nat} (v : α) (h : j ≠ k) :
    Sparse.find (Sparse.insert m k v) j = Sparse.find m j := by
  induction m with
  | nil => simp [Sparse.insert, Sparse.find, h]
  | cons e m ih =>
    obtain ⟨a, w⟩ := e
    by_cases hk : k < a
    · simp [Sparse.insert, Sparse.find, hk, h]
    · simp [Sparse.insert, Sparse.find, hk, ih]

theorem Sparse.find_insert_self (m : List (Nat × α)) (k : Nat) (v : α) (h : Sparse.find m k = none) :
    Sparse.find (Sparse.insert m k v) k = some v := by
  induction m with
  | nil => simp [Sparse.insert, Sparse.find]
  | cons e m ih =>
    obtain ⟨a, w⟩ := e
    by_cases hk : k < a
    · simp [Sparse.insert, Sparse.find, hk]
    · by_cases ha : k = a
      · simp [Sparse.find, ha] at h
      · simp only [Sparse.find, ha, if_false] at h
        simp [Sparse.insert, Sparse.find, hk, ha, ih h]

/-- A key reads what was put there. -/
theorem Sparse.find_put_self [DecidableEq α] (d : Nat → Option α) (m : List (Nat × α)) (k : Nat) (v : α) :
    Sparse.find (Sparse.put d m k v) k = if d k = some v then none else some v := by
  by_cases h : d k = some v
  · simp [Sparse.put, h, Sparse.find_erase_self]
  · simp [Sparse.put, h, Sparse.find_insert_self _ _ _ (Sparse.find_erase_self m k)]

/-- Every other key reads as before. -/
theorem Sparse.find_put_ne [DecidableEq α] (d : Nat → Option α) (m : List (Nat × α)) {j k : Nat} (v : α) (h : j ≠ k) :
    Sparse.find (Sparse.put d m k v) j = Sparse.find m j := by
  by_cases hd : d k = some v
  · simp [Sparse.put, hd, Sparse.find_erase_ne m h]
  · simp [Sparse.put, hd, Sparse.find_insert_ne _ v h, Sparse.find_erase_ne m h]

@[simp] theorem Sparse.get_put_self [DecidableEq α] (d : Nat → α) (m : List (Nat × α)) (k : Nat) (v : α) :
    Sparse.get d (Sparse.put (fun j => some (d j)) m k v) k = v := by
  by_cases h : d k = v <;> simp [Sparse.get, Sparse.find_put_self, h]

theorem Sparse.get_put_ne [DecidableEq α] (d : Nat → α) (m : List (Nat × α)) {j k : Nat} (v : α) (h : j ≠ k) :
    Sparse.get d (Sparse.put (fun j => some (d j)) m k v) j = Sparse.get d m j := by
  simp [Sparse.get, Sparse.find_put_ne _ m v h]

/-! ### The canonical form -/

theorem Sparse.wfFrom_mono [DecidableEq α] {d : Nat → Option α} {m : List (Nat × α)} {lo hi : Nat} (hl : lo ≤ hi)
    (h : Sparse.wfFrom d hi m = true) : Sparse.wfFrom d lo m = true := by
  cases m with
  | nil => rfl
  | cons e m =>
    obtain ⟨a, v⟩ := e
    simp only [Sparse.wfFrom, Bool.and_eq_true, decide_eq_true_eq] at h ⊢
    exact ⟨⟨le_trans hl h.1.1, h.1.2⟩, h.2⟩

theorem Sparse.wfFrom_filter [DecidableEq α] {d : Nat → Option α} (p : Nat × α → Bool) (m : List (Nat × α)) :
    ∀ lo, Sparse.wfFrom d lo m = true → Sparse.wfFrom d lo (m.filter p) = true := by
  induction m with
  | nil => intro lo h; exact h
  | cons e m ih =>
    intro lo h
    obtain ⟨a, v⟩ := e
    simp only [Sparse.wfFrom, Bool.and_eq_true, decide_eq_true_eq] at h
    by_cases hp : p (a, v) = true
    · simpa [List.filter, hp, Sparse.wfFrom, h.1.1, h.1.2] using ih _ h.2
    · simpa [List.filter, hp] using Sparse.wfFrom_mono (by omega) (ih _ h.2)

theorem Sparse.wfFrom_filterMap {β : Type} [DecidableEq α] [DecidableEq β] {d : Nat → Option α} {d' : Nat → Option β}
    (f : Nat × α → Option (Nat × β)) (hf : ∀ e r, f e = some r → r.1 = e.1 ∧ d' r.1 ≠ some r.2) (m : List (Nat × α)) :
    ∀ lo, Sparse.wfFrom d lo m = true → Sparse.wfFrom d' lo (m.filterMap f) = true := by
  induction m with
  | nil => intro lo h; rfl
  | cons e m ih =>
    intro lo h
    obtain ⟨a, v⟩ := e
    simp only [Sparse.wfFrom, Bool.and_eq_true, decide_eq_true_eq] at h
    cases hr : f (a, v) with
    | none => simpa [List.filterMap, hr] using Sparse.wfFrom_mono (by omega) (ih _ h.2)
    | some r =>
      obtain ⟨b, w⟩ := r
      have hb : b = a := (hf _ _ hr).1
      have hw : d' b ≠ some w := (hf _ _ hr).2
      subst hb
      simpa [List.filterMap, hr, Sparse.wfFrom, h.1.1, hw] using ih _ h.2

theorem Sparse.erase_eq_filter (m : List (Nat × α)) (k : Nat) :
    Sparse.erase m k = m.filter (fun e => decide (k ≠ e.1)) := by
  induction m with
  | nil => rfl
  | cons e m ih =>
    obtain ⟨a, v⟩ := e
    by_cases h : k = a
    · subst h
      simpa [Sparse.erase] using ih
    · simpa [Sparse.erase, h] using ih

theorem Sparse.wfFrom_insert [DecidableEq α] {d : Nat → Option α} {k : Nat} {v : α} (hv : d k ≠ some v)
    (m : List (Nat × α)) : ∀ lo, lo ≤ k → Sparse.find m k = none → Sparse.wfFrom d lo m = true →
      Sparse.wfFrom d lo (Sparse.insert m k v) = true := by
  induction m with
  | nil => intro lo hl _ _; simp [Sparse.insert, Sparse.wfFrom, hl, hv]
  | cons e m ih =>
    intro lo hl hn h
    obtain ⟨a, w⟩ := e
    simp only [Sparse.wfFrom, Bool.and_eq_true, decide_eq_true_eq] at h
    by_cases hk : k < a
    · simp [Sparse.insert, hk, Sparse.wfFrom, hl, hv, h.1.2, h.2, Nat.succ_le_of_lt hk]
    · by_cases ha : k = a
      · simp [Sparse.find, ha] at hn
      · simp only [Sparse.find, ha, if_false] at hn
        simpa [Sparse.insert, hk, Sparse.wfFrom, h.1.1, h.1.2] using ih _ (by omega) hn h.2

theorem Sparse.wf_nil [DecidableEq α] (d : Nat → Option α) : Sparse.wf d ([] : List (Nat × α)) = true := rfl

theorem Sparse.wf_erase [DecidableEq α] {d : Nat → Option α} {m : List (Nat × α)} (k : Nat) (h : Sparse.wf d m = true) :
    Sparse.wf d (Sparse.erase m k) = true := by
  rw [Sparse.erase_eq_filter]
  exact Sparse.wfFrom_filter _ m 0 h

theorem Sparse.wf_filter [DecidableEq α] {d : Nat → Option α} {m : List (Nat × α)} (p : Nat × α → Bool)
    (h : Sparse.wf d m = true) : Sparse.wf d (m.filter p) = true := Sparse.wfFrom_filter p m 0 h

theorem Sparse.wf_put [DecidableEq α] {d : Nat → Option α} {m : List (Nat × α)} (k : Nat) (v : α)
    (h : Sparse.wf d m = true) : Sparse.wf d (Sparse.put d m k v) = true := by
  by_cases hd : d k = some v
  · simpa [Sparse.put, hd] using Sparse.wf_erase k h
  · rw [Sparse.put, if_neg hd]
    exact Sparse.wfFrom_insert hd _ 0 (Nat.zero_le _) (Sparse.find_erase_self m k) (Sparse.wf_erase k h)

/-- Changing every value keeps the canonical form. -/
theorem Sparse.wf_change [DecidableEq α] {d : Nat → Option α} {f : α → α} {m : List (Nat × α)}
    (h : Sparse.wf d m = true) : Sparse.wf d (Sparse.change d f m) = true := by
  have go : ∀ (l t : List (Nat × α)), Sparse.wf d t = true →
      Sparse.wf d (l.foldl (fun t e => Sparse.put d t e.1 (f e.2)) t) = true := by
    intro l
    induction l with
    | nil => exact fun _ ht => ht
    | cons e l ih => exact fun t ht => ih _ (Sparse.wf_put _ _ ht)
  exact go m m h

/-! ### Rising sets -/

theorem NatSet.wfFrom_mono {m : List Nat} {lo hi : Nat} (hl : lo ≤ hi) (h : NatSet.wfFrom hi m = true) :
    NatSet.wfFrom lo m = true := by
  cases m with
  | nil => rfl
  | cons a m =>
    simp only [NatSet.wfFrom, Bool.and_eq_true, decide_eq_true_eq] at h ⊢
    exact ⟨le_trans hl h.1, h.2⟩

theorem NatSet.wfFrom_insert (k : Nat) (m : List Nat) :
    ∀ lo, lo ≤ k → NatSet.wfFrom lo m = true → NatSet.wfFrom lo (NatSet.insert m k) = true := by
  induction m with
  | nil => intro lo hl _; simp [NatSet.insert, NatSet.wfFrom, hl]
  | cons a m ih =>
    intro lo hl h
    simp only [NatSet.wfFrom, Bool.and_eq_true, decide_eq_true_eq] at h
    by_cases hk : k < a
    · simp [NatSet.insert, hk, NatSet.wfFrom, hl, h.2, Nat.succ_le_of_lt hk]
    · by_cases ha : k = a
      · simp [NatSet.insert, ha, NatSet.wfFrom, h.1, h.2]
      · simpa [NatSet.insert, hk, ha, NatSet.wfFrom, h.1] using ih _ (by omega) h.2

theorem NatSet.wfFrom_erase (k : Nat) (m : List Nat) :
    ∀ lo, NatSet.wfFrom lo m = true → NatSet.wfFrom lo (NatSet.erase m k) = true := by
  induction m with
  | nil => intro lo h; exact h
  | cons a m ih =>
    intro lo h
    simp only [NatSet.wfFrom, Bool.and_eq_true, decide_eq_true_eq] at h
    by_cases ha : a = k
    · simpa [NatSet.erase, List.filter, ha] using NatSet.wfFrom_mono (by omega) (ih _ h.2)
    · have hb : (a != k) = true := by simpa using ha
      simpa [NatSet.erase, List.filter, hb, NatSet.wfFrom, h.1] using ih _ h.2

theorem NatSet.wf_insert {m : List Nat} (k : Nat) (h : NatSet.wfFrom 0 m = true) :
    NatSet.wfFrom 0 (NatSet.insert m k) = true := NatSet.wfFrom_insert k m 0 (Nat.zero_le k) h

theorem NatSet.wf_erase {m : List Nat} (k : Nat) (h : NatSet.wfFrom 0 m = true) :
    NatSet.wfFrom 0 (NatSet.erase m k) = true := NatSet.wfFrom_erase k m 0 h

/-- What a set contains after an insertion. -/
theorem NatSet.mem_insert {m : List Nat} {j k : Nat} : j ∈ NatSet.insert m k ↔ j = k ∨ j ∈ m := by
  induction m with
  | nil => simp [NatSet.insert]
  | cons a m ih =>
    by_cases hk : k < a
    · simp [NatSet.insert, hk]
    · by_cases ha : k = a
      · simp [NatSet.insert, ha]
      · simp [NatSet.insert, hk, ha, ih]; tauto

end Sys2Proof.Machine
end

