-- ==== Sys2Proof/Laws/Word.lean ====
section
/-!
SUPPORT. What reading a field after writing one gives (00 R4).
-/

namespace Sys2Proof

/-- A number around a field: what lies above, the field, what lies below. -/
theorem Word.around (x lo w : Nat) : x = x / 2 ^ (lo + w) * 2 ^ (lo + w) + x / 2 ^ lo % 2 ^ w * 2 ^ lo + x % 2 ^ lo := by
  have h1 := Nat.div_add_mod x (2 ^ lo)
  have h2 := Nat.div_add_mod (x / 2 ^ lo) (2 ^ w)
  rw [Nat.div_div_eq_div_mul, ← pow_add] at h2
  have h3 : x / 2 ^ (lo + w) * 2 ^ (lo + w) = 2 ^ lo * (2 ^ w * (x / 2 ^ (lo + w))) := by rw [pow_add]; ring
  have h4 : 2 ^ lo * (x / 2 ^ lo) = 2 ^ lo * (2 ^ w * (x / 2 ^ (lo + w))) + x / 2 ^ lo % 2 ^ w * 2 ^ lo := by
    conv_lhs => rw [← h2]
    ring
  omega

theorem Word.put_toNat (x : Word) (f : Fld) (v : Nat) (h : f.lo + f.width ≤ 32) :
    (x.put f v).toNat =
      x.toNat / 2 ^ (f.lo + f.width) * 2 ^ (f.lo + f.width) + v % 2 ^ f.width * 2 ^ f.lo + x.toNat % 2 ^ f.lo := by
  have a := Word.around x.toNat f.lo f.width
  have e : x.toNat - Word.get x f * 2 ^ f.lo + v % 2 ^ f.width * 2 ^ f.lo =
      x.toNat / 2 ^ (f.lo + f.width) * 2 ^ (f.lo + f.width) + v % 2 ^ f.width * 2 ^ f.lo + x.toNat % 2 ^ f.lo := by
    unfold Word.get
    omega
  unfold Word.put
  rw [e, BitVec.toNat_ofNat]
  apply Nat.mod_eq_of_lt
  have hv : v % 2 ^ f.width < 2 ^ f.width := Nat.mod_lt _ (by positivity)
  have hl : x.toNat % 2 ^ f.lo < 2 ^ f.lo := Nat.mod_lt _ (by positivity)
  have hm : v % 2 ^ f.width * 2 ^ f.lo + x.toNat % 2 ^ f.lo < 2 ^ (f.lo + f.width) := by
    rw [pow_add]
    have := Nat.mul_le_mul_right (2 ^ f.lo) (Nat.succ_le_of_lt hv)
    rw [Nat.succ_mul] at this
    rw [Nat.mul_comm (2 ^ f.lo)]
    omega
  have hh : x.toNat / 2 ^ (f.lo + f.width) < 2 ^ (32 - (f.lo + f.width)) := by
    apply Nat.div_lt_of_lt_mul
    rw [← pow_add, Nat.add_sub_cancel' h]
    exact x.isLt
  have hp : (2 : Nat) ^ (32 - (f.lo + f.width)) * 2 ^ (f.lo + f.width) = 2 ^ 32 := by
    rw [← pow_add, Nat.sub_add_cancel h]
  have := Nat.mul_le_mul_right (2 ^ (f.lo + f.width)) (Nat.succ_le_of_lt hh)
  rw [Nat.succ_mul, hp] at this
  omega

/-- A field reads as what was written to it. -/
theorem Word.get_put_self (x : Word) (f : Fld) (v : Nat) (h : f.lo + f.width ≤ 32) :
    Word.get (x.put f v) f = v % 2 ^ f.width := by
  unfold Word.get
  rw [Word.put_toNat x f v h, pow_add]
  have hl : x.toNat % 2 ^ f.lo < 2 ^ f.lo := Nat.mod_lt _ (by positivity)
  have e : x.toNat / (2 ^ f.lo * 2 ^ f.width) * (2 ^ f.lo * 2 ^ f.width) + v % 2 ^ f.width * 2 ^ f.lo + x.toNat % 2 ^ f.lo =
      x.toNat % 2 ^ f.lo + 2 ^ f.lo * (v % 2 ^ f.width + 2 ^ f.width * (x.toNat / (2 ^ f.lo * 2 ^ f.width))) := by ring
  rw [e, Nat.add_mul_div_left _ _ (by positivity), Nat.div_eq_of_lt hl, Nat.zero_add, Nat.add_mul_mod_self_left,
    Nat.mod_mod]

/-- A write of one field leaves every field that does not overlap it. -/
theorem Word.get_put_apart (x : Word) (f g : Fld) (v : Nat) (h : f.lo + f.width ≤ 32)
    (d : g.lo + g.width ≤ f.lo ∨ f.lo + f.width ≤ g.lo) : Word.get (x.put f v) g = Word.get x g := by
  unfold Word.get
  rw [Word.put_toNat x f v h]
  have a := Word.around x.toNat f.lo f.width
  generalize x.toNat / 2 ^ f.lo % 2 ^ f.width = old at a
  generalize hn : v % 2 ^ f.width = new
  rcases d with d | d
  · obtain ⟨k, hk⟩ := Nat.exists_eq_add_of_le d
    have key : ∀ u, (x.toNat / 2 ^ (f.lo + f.width) * 2 ^ (f.lo + f.width) + u * 2 ^ f.lo + x.toNat % 2 ^ f.lo) / 2 ^ g.lo
        % 2 ^ g.width = x.toNat % 2 ^ f.lo / 2 ^ g.lo % 2 ^ g.width := by
      intro u
      have e : x.toNat / 2 ^ (f.lo + f.width) * 2 ^ (f.lo + f.width) + u * 2 ^ f.lo + x.toNat % 2 ^ f.lo =
          x.toNat % 2 ^ f.lo + 2 ^ g.lo * (2 ^ g.width * (2 ^ k * (u + 2 ^ f.width *
            (x.toNat / 2 ^ (f.lo + f.width))))) := by
        rw [show (2 : Nat) ^ (f.lo + f.width) = 2 ^ g.lo * 2 ^ g.width * 2 ^ k * 2 ^ f.width by rw [← pow_add, ← pow_add,
          ← pow_add, hk], show (2 : Nat) ^ f.lo = 2 ^ g.lo * 2 ^ g.width * 2 ^ k by rw [← pow_add, ← pow_add, hk]]
        ring
      rw [e, Nat.add_mul_div_left _ _ (by positivity), Nat.add_mul_mod_self_left]
    rw [key new]
    conv_rhs => rw [a]
    rw [key old]
  · obtain ⟨k, hk⟩ := Nat.exists_eq_add_of_le d
    have key : ∀ u, u < 2 ^ f.width → (x.toNat / 2 ^ (f.lo + f.width) * 2 ^ (f.lo + f.width) + u * 2 ^ f.lo +
        x.toNat % 2 ^ f.lo) / 2 ^ g.lo = x.toNat / 2 ^ (f.lo + f.width) / 2 ^ k := by
      intro u hu
      have hl : x.toNat % 2 ^ f.lo < 2 ^ f.lo := Nat.mod_lt _ (by positivity)
      have hm : u * 2 ^ f.lo + x.toNat % 2 ^ f.lo < 2 ^ (f.lo + f.width) := by
        rw [pow_add]
        have := Nat.mul_le_mul_right (2 ^ f.lo) (Nat.succ_le_of_lt hu)
        rw [Nat.succ_mul] at this
        rw [Nat.mul_comm (2 ^ f.lo)]
        omega
      rw [hk, pow_add (2 : Nat) (f.lo + f.width) k, ← Nat.div_div_eq_div_mul]
      congr 1
      rw [Nat.add_assoc, Nat.add_comm, Nat.add_mul_div_right _ _ (by positivity), Nat.div_eq_of_lt hm, Nat.zero_add]
    rw [key new (by rw [← hn]; exact Nat.mod_lt _ (by positivity))]
    rw [hk, pow_add (2 : Nat) (f.lo + f.width) k, ← Nat.div_div_eq_div_mul]

end Sys2Proof
end

