-- ==== Sys2Proof/Laws/State.lean ====
section
/-!
SUPPORT. What the operations over registers, memory, events and output leave of each field of the state, and what a
register, a field or a byte reads after them.
-/

namespace Sys2Proof.Machine

/-! ### What a read gives after an operation -/

theorem State.reg_setReg_self (s : State) (a : Nat) (v : Word) : (s.setReg a v).reg a = v := by
  unfold State.reg State.setReg
  simp only [Sparse.find_put_self]
  split
  · rename_i h; simpa using h
  · rfl

theorem State.reg_setReg_ne (s : State) {a b : Nat} (v : Word) (h : b ≠ a) : (s.setReg a v).reg b = s.reg b := by
  unfold State.reg State.setReg
  rw [Sparse.find_put_ne _ _ v h]

theorem State.reg_setReg (s : State) (a b : Nat) (v : Word) : (s.setReg a v).reg b = if b = a then v else s.reg b := by
  split
  · subst b; exact s.reg_setReg_self a v
  · rename_i h; exact s.reg_setReg_ne v h

theorem State.inForce_setInForce (s : State) (a b : Nat) (v : Word) :
    (s.setInForce a v).inForce b = if b = a then v else s.inForce b := by
  unfold State.inForce State.setInForce
  split
  · subst b
    simp only [Sparse.find_put_self]
    split
    · rename_i h; simpa using h
    · rfl
  · rename_i h
    rw [Sparse.find_put_ne _ _ v h]

@[simp] theorem State.reg_setInForce (s : State) (a b : Nat) (v : Word) : (s.setInForce a v).reg b = s.reg b := rfl

@[simp] theorem State.inForce_setReg (s : State) (a b : Nat) (v : Word) : (s.setReg a v).inForce b = s.inForce b := rfl

theorem State.reg_setFld_self (s : State) (a : Nat) (f : Fld) (v : Nat) :
    (s.setFld a f v).reg a = (s.reg a).put f v := s.reg_setReg_self a _

theorem State.reg_setFld_ne (s : State) {a b : Nat} (f : Fld) (v : Nat) (h : b ≠ a) : (s.setFld a f v).reg b =
    s.reg b :=
  s.reg_setReg_ne _ h

@[simp] theorem State.inForce_setFld (s : State) (a b : Nat) (f : Fld) (v : Nat) :
    (s.setFld a f v).inForce b = s.inForce b := rfl

theorem State.fld_setFld_self (s : State) (a : Nat) (f : Fld) (v : Nat) (h : f.lo + f.width ≤ 32) :
    (s.setFld a f v).fld a f = v % 2 ^ f.width := by
  unfold State.fld
  rw [s.reg_setFld_self, Word.get_put_self _ _ _ h]

theorem State.fld_setFld_apart (s : State) (a : Nat) (f g : Fld) (v : Nat) (h : f.lo + f.width ≤ 32)
    (d : g.lo + g.width ≤ f.lo ∨ f.lo + f.width ≤ g.lo) : (s.setFld a f v).fld a g = s.fld a g := by
  unfold State.fld
  rw [s.reg_setFld_self, Word.get_put_apart _ _ _ _ h d]

theorem State.fld_setFld_ne (s : State) {a b : Nat} (f g : Fld) (v : Nat) (h : b ≠ a) :
    (s.setFld a f v).fld b g = s.fld b g := by
  unfold State.fld
  rw [s.reg_setFld_ne f v h]

theorem State.bit_setBit_self (s : State) (a lo : Nat) (b : Bool) (h : lo < 32) :
    (s.setBit a ⟨lo, 1⟩ b).bit a ⟨lo, 1⟩ = b := by
  unfold State.bit State.setBit
  rw [s.fld_setFld_self a ⟨lo, 1⟩ _ h]
  cases b <;> rfl

theorem State.bit_setBit_ne (s : State) {a c : Nat} (f g : Fld) (b : Bool) (h : c ≠ a) :
    (s.setBit a f b).bit c g = s.bit c g := by
  unfold State.bit State.setBit
  rw [s.fld_setFld_ne f g _ h]

theorem State.reg_setBit_ne (s : State) {a c : Nat} (f : Fld) (b : Bool) (h : c ≠ a) :
    (s.setBit a f b).reg c = s.reg c := s.reg_setFld_ne f _ h

theorem State.reg_satInc_ne (s : State) {a c : Nat} (f : Fld) (k : Nat) (h : c ≠ a) :
    (s.satInc a f k).reg c = s.reg c := s.reg_setFld_ne f _ h

theorem State.reg_wrapInc_ne (s : State) {a c : Nat} (f : Fld) (k : Nat) (h : c ≠ a) :
    (s.wrapInc a f k).reg c = s.reg c := s.reg_setFld_ne f _ h

theorem State.reg_setReg64_ne (s : State) {a c : Nat} (v : Nat) (h : c ≠ a) (k : c ≠ a + 4) :
    (s.setReg64 a v).reg c = s.reg c := by
  unfold State.setReg64
  rw [State.reg_setReg_ne _ _ k, s.reg_setReg_ne _ h]

/-- A pair of registers reads as the 64-bit number written to it. -/
theorem State.reg64_setReg64 (s : State) (a v : Nat) : (s.setReg64 a v).reg64 a = v % 2 ^ 64 := by
  unfold State.setReg64 State.reg64
  rw [State.reg_setReg_self, State.reg_setReg_ne _ _ (by omega), State.reg_setReg_self]
  simp only [BitVec.toNat_ofNat]
  omega

theorem State.reg64_congr {s t : State} {a : Nat} (h : t.reg a = s.reg a) (k : t.reg (a + 4) = s.reg (a + 4)) :
    t.reg64 a = s.reg64 a := by
  unfold State.reg64
  rw [h, k]

theorem State.raise_eq (s : State) (e : Nat) :
    s.raise e = { s with regs := (s.raise e).regs, evPend := (s.raise e).evPend } := by
  unfold State.raise
  split
  · rfl
  · split <;> rfl

theorem State.write_eq (l : List Byte) : ∀ (s : State) (a : Nat),
    s.write a l = { s with mem := (s.write a l).mem } := by
  induction l with
  | nil => intro s a; rfl
  | cons b l ih => intro s a; exact ih _ _

/-- Raising an event touches no register but the count of merged occurrences. -/
theorem State.reg_raise (s : State) (e : Nat) {a : Nat} (h : a ≠ R.EVT_LOST) : (s.raise e).reg a = s.reg a := by
  unfold State.raise
  repeat' split
  · rfl
  · rw [State.reg_setFld_ne _ _ _ h, State.reg_satInc_ne _ _ _ h]
  · rfl

theorem State.reg_flagEvent (s : State) (a : Nat) (f : Fld) (e : Nat) {b : Nat} (h : b ≠ R.EVT_LOST) (k : b ≠ a) :
    (s.flagEvent a f e).reg b = s.reg b := by
  unfold State.flagEvent
  split
  · rfl
  · rw [State.reg_raise _ _ h, State.reg_setBit_ne _ _ _ k]

theorem State.reg_lost (s : State) (b : Bool) {a c : Nat} (h : c ≠ a) : (s.lost b a).reg c = s.reg c := by
  cases b
  · rfl
  · exact s.reg_satInc_ne _ _ h

@[simp] theorem State.lost_false (s : State) (a : Nat) : s.lost false a = s := rfl

@[simp] theorem State.cond_true (s : State) (f : State → State) : s.cond true f = f s := rfl

@[simp] theorem State.cond_false (s : State) (f : State → State) : s.cond false f = s := rfl

theorem State.whenWorking_true {s : State} (h : s.working = true) (f : State → State) : s.whenWorking f = f s := by
  simp [State.whenWorking, h]

theorem State.whenWorking_false {s : State} (h : s.working = false) (f : State → State) : s.whenWorking f = s := by
  simp [State.whenWorking, h]

theorem State.whenServing_true {s : State} (h : s.serving = true) (f : State → State) : s.whenServing f = f s := by
  simp [State.whenServing, h]

theorem State.whenServing_false {s : State} (h : s.serving = false) (f : State → State) : s.whenServing f = s := by
  simp [State.whenServing, h]

/-- Bytes read through a memory that is the same are the same. -/
theorem State.byte_congr {s t : State} (m : t.mem = s.mem) (d : t.dramEpoch = s.dramEpoch) (f : t.freeCtr = s.freeCtr)
    (a : Nat) : t.byte a = s.byte a := by
  unfold State.byte
  rw [m, d, f]

theorem State.byte_setByte (s : State) (a b : Nat) (v : Byte) :
    (s.setByte a v).byte b = if b = a then v else s.byte b := by
  split
  · subst b
    unfold State.byte State.setByte
    simp only [Sparse.find_put_self]
    split
    · rename_i x h
      split at h
      · cases h
      · cases h; rfl
    · rename_i h
      split at h
      · rename_i k; rw [k]
      · cases h
  · rename_i h
    unfold State.byte State.setByte
    simp only [Sparse.find_put_ne _ _ v h]

/-- A write leaves every byte outside it. -/
theorem State.byte_write_outside (l : List Byte) :
    ∀ (s : State) (a b : Nat), (b < a ∨ a + l.length ≤ b) → (s.write a l).byte b = s.byte b := by
  induction l with
  | nil => intro s a b _; rfl
  | cons x l ih =>
    intro s a b h
    rw [List.length_cons] at h
    unfold State.write
    rw [ih _ _ _ (by omega), State.byte_setByte, if_neg (by omega)]

/-- A write gives every byte inside it. -/
theorem State.byte_write_inside (l : List Byte) :
    ∀ (s : State) (a i : Nat) (h : i < l.length), (s.write a l).byte (a + i) = l[i] := by
  induction l with
  | nil => intro s a i h; simp at h
  | cons x l ih =>
    intro s a i h
    unfold State.write
    cases i with
    | zero => rw [State.byte_write_outside _ _ _ _ (by omega), State.byte_setByte, if_pos (Nat.add_zero a)]; rfl
    | succ i =>
      have := ih (s.setByte a x) (a + 1) i (by simpa using h)
      rw [show a + 1 + i = a + (i + 1) by omega] at this
      simpa using this

/-- What is read is what was written. -/
theorem State.read_write_self (s : State) (a : Nat) (l : List Byte) : (s.write a l).read a l.length = l := by
  have key : ∀ (t : State) (n b : Nat), (t.read b n).length = n ∧ ∀ i, (h : i < (t.read b n).length) →
      (t.read b n)[i] = t.byte (b + i) := by
    intro t n
    induction n with
    | zero => intro b; exact ⟨rfl, fun i h => by simp [State.read] at h⟩
    | succ n ih =>
      intro b
      refine ⟨by simp [State.read, (ih (b + 1)).1], ?_⟩
      intro i h
      cases i with
      | zero => rfl
      | succ i =>
        simp only [State.read, List.getElem_cons_succ]
        rw [(ih (b + 1)).2 i, show b + 1 + i = b + (i + 1) by omega]
  apply List.ext_getElem
  · exact (key _ _ _).1
  · intro i h k
    rw [(key _ _ _).2 i h, State.byte_write_inside l s a i k]

/-! ### What the commit rule does (18 R526) -/

@[simp] theorem State.reg_takeShadows (l : List Nat) : ∀ (s : State) (a : Nat),
    (s.takeShadows l).reg a = s.reg a := by
  induction l with
  | nil => intro s a; rfl
  | cons b l ih => intro s a; exact ih _ _

/-- Every shadow of the list stands in force, and no other register's in-force copy changes. -/
theorem State.inForce_takeShadows (l : List Nat) :
    ∀ (s : State) (a : Nat), (s.takeShadows l).inForce a = if a ∈ l then s.reg a else s.inForce a := by
  induction l with
  | nil => intro s a; rfl
  | cons b l ih =>
    intro s a
    unfold State.takeShadows
    rw [ih, State.inForce_setInForce, State.reg_setInForce]
    by_cases h : a ∈ l
    · simp [h]
    · by_cases e : a = b <;> simp [h, e]

/-! ### What each operation leaves of each field -/

/-! #### setReg -/

@[simp] theorem State.setReg_mode (s : State) (a : Nat) (v : Word) : (s.setReg a v).mode = s.mode := rfl
@[simp] theorem State.setReg_act (s : State) (a : Nat) (v : Word) : (s.setReg a v).act = s.act := rfl
@[simp] theorem State.setReg_snap (s : State) (a : Nat) (v : Word) : (s.setReg a v).snap = s.snap := rfl
@[simp] theorem State.setReg_refusals (s : State) (a : Nat) (v : Word) : (s.setReg a v).refusals = s.refusals := rfl
@[simp] theorem State.setReg_mem (s : State) (a : Nat) (v : Word) : (s.setReg a v).mem = s.mem := rfl
@[simp] theorem State.setReg_dramEpoch (s : State) (a : Nat) (v : Word) : (s.setReg a v).dramEpoch = s.dramEpoch :=
  rfl
@[simp] theorem State.setReg_tm (s : State) (a : Nat) (v : Word) : (s.setReg a v).tm = s.tm := rfl
@[simp] theorem State.setReg_timers (s : State) (a : Nat) (v : Word) : (s.setReg a v).timers = s.timers := rfl
@[simp] theorem State.setReg_trim (s : State) (a : Nat) (v : Word) : (s.setReg a v).trim = s.trim := rfl
@[simp] theorem State.setReg_ms (s : State) (a : Nat) (v : Word) : (s.setReg a v).ms = s.ms := rfl
@[simp] theorem State.setReg_pcie (s : State) (a : Nat) (v : Word) : (s.setReg a v).pcie = s.pcie := rfl
@[simp] theorem State.setReg_hostReads (s : State) (a : Nat) (v : Word) : (s.setReg a v).hostReads = s.hostReads :=
  rfl
@[simp] theorem State.setReg_chans (s : State) (a : Nat) (v : Word) : (s.setReg a v).chans = s.chans := rfl
@[simp] theorem State.setReg_dma (s : State) (a : Nat) (v : Word) : (s.setReg a v).dma = s.dma := rfl
@[simp] theorem State.setReg_pwr (s : State) (a : Nat) (v : Word) : (s.setReg a v).pwr = s.pwr := rfl
@[simp] theorem State.setReg_peat (s : State) (a : Nat) (v : Word) : (s.setReg a v).peat = s.peat := rfl
@[simp] theorem State.setReg_root (s : State) (a : Nat) (v : Word) : (s.setReg a v).root = s.root := rfl
@[simp] theorem State.setReg_spdm (s : State) (a : Nat) (v : Word) : (s.setReg a v).spdm = s.spdm := rfl
@[simp] theorem State.setReg_runner (s : State) (a : Nat) (v : Word) : (s.setReg a v).runner = s.runner := rfl
@[simp] theorem State.setReg_boot (s : State) (a : Nat) (v : Word) : (s.setReg a v).boot = s.boot := rfl
@[simp] theorem State.setReg_bench (s : State) (a : Nat) (v : Word) : (s.setReg a v).bench = s.bench := rfl
@[simp] theorem State.setReg_engines (s : State) (a : Nat) (v : Word) : (s.setReg a v).engines = s.engines := rfl
@[simp] theorem State.setReg_encs (s : State) (a : Nat) (v : Word) : (s.setReg a v).encs = s.encs := rfl
@[simp] theorem State.setReg_cmpPulse (s : State) (a : Nat) (v : Word) : (s.setReg a v).cmpPulse = s.cmpPulse := rfl
@[simp] theorem State.setReg_cmpNear (s : State) (a : Nat) (v : Word) : (s.setReg a v).cmpNear = s.cmpNear := rfl
@[simp] theorem State.setReg_pts (s : State) (a : Nat) (v : Word) : (s.setReg a v).pts = s.pts := rfl
@[simp] theorem State.setReg_posQ (s : State) (a : Nat) (v : Word) : (s.setReg a v).posQ = s.posQ := rfl
@[simp] theorem State.setReg_imgs (s : State) (a : Nat) (v : Word) : (s.setReg a v).imgs = s.imgs := rfl
@[simp] theorem State.setReg_windows (s : State) (a : Nat) (v : Word) : (s.setReg a v).windows = s.windows := rfl
@[simp] theorem State.setReg_stopScripts (s : State) (a : Nat) (v : Word) : (s.setReg a v).stopScripts = s.stopScripts :=
  rfl
@[simp] theorem State.setReg_prec (s : State) (a : Nat) (v : Word) : (s.setReg a v).prec = s.prec := rfl
@[simp] theorem State.setReg_lamps (s : State) (a : Nat) (v : Word) : (s.setReg a v).lamps = s.lamps := rfl
@[simp] theorem State.setReg_tps (s : State) (a : Nat) (v : Word) : (s.setReg a v).tps = s.tps := rfl
@[simp] theorem State.setReg_axes (s : State) (a : Nat) (v : Word) : (s.setReg a v).axes = s.axes := rfl
@[simp] theorem State.setReg_tickAt (s : State) (a : Nat) (v : Word) : (s.setReg a v).tickAt = s.tickAt := rfl
@[simp] theorem State.setReg_fronds (s : State) (a : Nat) (v : Word) : (s.setReg a v).fronds = s.fronds := rfl
@[simp] theorem State.setReg_queues (s : State) (a : Nat) (v : Word) : (s.setReg a v).queues = s.queues := rfl
@[simp] theorem State.setReg_evPend (s : State) (a : Nat) (v : Word) : (s.setReg a v).evPend = s.evPend := rfl
@[simp] theorem State.setReg_tap (s : State) (a : Nat) (v : Word) : (s.setReg a v).tap = s.tap := rfl
@[simp] theorem State.setReg_pins (s : State) (a : Nat) (v : Word) : (s.setReg a v).pins = s.pins := rfl
@[simp] theorem State.setReg_streams (s : State) (a : Nat) (v : Word) : (s.setReg a v).streams = s.streams := rfl
@[simp] theorem State.setReg_stages (s : State) (a : Nat) (v : Word) : (s.setReg a v).stages = s.stages := rfl
@[simp] theorem State.setReg_recQ (s : State) (a : Nat) (v : Word) : (s.setReg a v).recQ = s.recQ := rfl
@[simp] theorem State.setReg_out (s : State) (a : Nat) (v : Word) : (s.setReg a v).out = s.out := rfl
@[simp] theorem State.setReg_freeCtr (s : State) (a : Nat) (v : Word) : (s.setReg a v).freeCtr = s.freeCtr := rfl
@[simp] theorem State.setReg_pending (s : State) (a : Nat) (v : Word) : (s.setReg a v).pending = s.pending := rfl

/-! #### setFld -/

@[simp] theorem State.setFld_mode (s : State) (a : Nat) (f : Fld) (v : Nat) : (s.setFld a f v).mode = s.mode := rfl
@[simp] theorem State.setFld_act (s : State) (a : Nat) (f : Fld) (v : Nat) : (s.setFld a f v).act = s.act := rfl
@[simp] theorem State.setFld_snap (s : State) (a : Nat) (f : Fld) (v : Nat) : (s.setFld a f v).snap = s.snap := rfl
@[simp] theorem State.setFld_refusals (s : State) (a : Nat) (f : Fld) (v : Nat) : (s.setFld a f v).refusals = s.refusals :=
  rfl
@[simp] theorem State.setFld_mem (s : State) (a : Nat) (f : Fld) (v : Nat) : (s.setFld a f v).mem = s.mem := rfl
@[simp] theorem State.setFld_dramEpoch (s : State) (a : Nat) (f : Fld) (v : Nat) : (s.setFld a f v).dramEpoch = s.dramEpoch :=
  rfl
@[simp] theorem State.setFld_tm (s : State) (a : Nat) (f : Fld) (v : Nat) : (s.setFld a f v).tm = s.tm := rfl
@[simp] theorem State.setFld_timers (s : State) (a : Nat) (f : Fld) (v : Nat) : (s.setFld a f v).timers = s.timers :=
  rfl
@[simp] theorem State.setFld_trim (s : State) (a : Nat) (f : Fld) (v : Nat) : (s.setFld a f v).trim = s.trim := rfl
@[simp] theorem State.setFld_ms (s : State) (a : Nat) (f : Fld) (v : Nat) : (s.setFld a f v).ms = s.ms := rfl
@[simp] theorem State.setFld_pcie (s : State) (a : Nat) (f : Fld) (v : Nat) : (s.setFld a f v).pcie = s.pcie := rfl
@[simp] theorem State.setFld_hostReads (s : State) (a : Nat) (f : Fld) (v : Nat) : (s.setFld a f v).hostReads = s.hostReads :=
  rfl
@[simp] theorem State.setFld_chans (s : State) (a : Nat) (f : Fld) (v : Nat) : (s.setFld a f v).chans = s.chans := rfl
@[simp] theorem State.setFld_dma (s : State) (a : Nat) (f : Fld) (v : Nat) : (s.setFld a f v).dma = s.dma := rfl
@[simp] theorem State.setFld_pwr (s : State) (a : Nat) (f : Fld) (v : Nat) : (s.setFld a f v).pwr = s.pwr := rfl
@[simp] theorem State.setFld_peat (s : State) (a : Nat) (f : Fld) (v : Nat) : (s.setFld a f v).peat = s.peat := rfl
@[simp] theorem State.setFld_root (s : State) (a : Nat) (f : Fld) (v : Nat) : (s.setFld a f v).root = s.root := rfl
@[simp] theorem State.setFld_spdm (s : State) (a : Nat) (f : Fld) (v : Nat) : (s.setFld a f v).spdm = s.spdm := rfl
@[simp] theorem State.setFld_runner (s : State) (a : Nat) (f : Fld) (v : Nat) : (s.setFld a f v).runner = s.runner :=
  rfl
@[simp] theorem State.setFld_boot (s : State) (a : Nat) (f : Fld) (v : Nat) : (s.setFld a f v).boot = s.boot := rfl
@[simp] theorem State.setFld_bench (s : State) (a : Nat) (f : Fld) (v : Nat) : (s.setFld a f v).bench = s.bench := rfl
@[simp] theorem State.setFld_engines (s : State) (a : Nat) (f : Fld) (v : Nat) : (s.setFld a f v).engines = s.engines :=
  rfl
@[simp] theorem State.setFld_encs (s : State) (a : Nat) (f : Fld) (v : Nat) : (s.setFld a f v).encs = s.encs := rfl
@[simp] theorem State.setFld_cmpPulse (s : State) (a : Nat) (f : Fld) (v : Nat) : (s.setFld a f v).cmpPulse = s.cmpPulse :=
  rfl
@[simp] theorem State.setFld_cmpNear (s : State) (a : Nat) (f : Fld) (v : Nat) : (s.setFld a f v).cmpNear = s.cmpNear :=
  rfl
@[simp] theorem State.setFld_pts (s : State) (a : Nat) (f : Fld) (v : Nat) : (s.setFld a f v).pts = s.pts := rfl
@[simp] theorem State.setFld_posQ (s : State) (a : Nat) (f : Fld) (v : Nat) : (s.setFld a f v).posQ = s.posQ := rfl
@[simp] theorem State.setFld_imgs (s : State) (a : Nat) (f : Fld) (v : Nat) : (s.setFld a f v).imgs = s.imgs := rfl
@[simp] theorem State.setFld_windows (s : State) (a : Nat) (f : Fld) (v : Nat) : (s.setFld a f v).windows = s.windows :=
  rfl
@[simp] theorem State.setFld_stopScripts (s : State) (a : Nat) (f : Fld) (v : Nat) : (s.setFld a f v).stopScripts = s.stopScripts :=
  rfl
@[simp] theorem State.setFld_prec (s : State) (a : Nat) (f : Fld) (v : Nat) : (s.setFld a f v).prec = s.prec := rfl
@[simp] theorem State.setFld_lamps (s : State) (a : Nat) (f : Fld) (v : Nat) : (s.setFld a f v).lamps = s.lamps := rfl
@[simp] theorem State.setFld_tps (s : State) (a : Nat) (f : Fld) (v : Nat) : (s.setFld a f v).tps = s.tps := rfl
@[simp] theorem State.setFld_axes (s : State) (a : Nat) (f : Fld) (v : Nat) : (s.setFld a f v).axes = s.axes := rfl
@[simp] theorem State.setFld_tickAt (s : State) (a : Nat) (f : Fld) (v : Nat) : (s.setFld a f v).tickAt = s.tickAt :=
  rfl
@[simp] theorem State.setFld_fronds (s : State) (a : Nat) (f : Fld) (v : Nat) : (s.setFld a f v).fronds = s.fronds :=
  rfl
@[simp] theorem State.setFld_queues (s : State) (a : Nat) (f : Fld) (v : Nat) : (s.setFld a f v).queues = s.queues :=
  rfl
@[simp] theorem State.setFld_evPend (s : State) (a : Nat) (f : Fld) (v : Nat) : (s.setFld a f v).evPend = s.evPend :=
  rfl
@[simp] theorem State.setFld_tap (s : State) (a : Nat) (f : Fld) (v : Nat) : (s.setFld a f v).tap = s.tap := rfl
@[simp] theorem State.setFld_pins (s : State) (a : Nat) (f : Fld) (v : Nat) : (s.setFld a f v).pins = s.pins := rfl
@[simp] theorem State.setFld_streams (s : State) (a : Nat) (f : Fld) (v : Nat) : (s.setFld a f v).streams = s.streams :=
  rfl
@[simp] theorem State.setFld_stages (s : State) (a : Nat) (f : Fld) (v : Nat) : (s.setFld a f v).stages = s.stages :=
  rfl
@[simp] theorem State.setFld_recQ (s : State) (a : Nat) (f : Fld) (v : Nat) : (s.setFld a f v).recQ = s.recQ := rfl
@[simp] theorem State.setFld_out (s : State) (a : Nat) (f : Fld) (v : Nat) : (s.setFld a f v).out = s.out := rfl
@[simp] theorem State.setFld_freeCtr (s : State) (a : Nat) (f : Fld) (v : Nat) : (s.setFld a f v).freeCtr = s.freeCtr :=
  rfl
@[simp] theorem State.setFld_pending (s : State) (a : Nat) (f : Fld) (v : Nat) : (s.setFld a f v).pending = s.pending :=
  rfl

/-! #### setBit -/

@[simp] theorem State.setBit_mode (s : State) (a : Nat) (f : Fld) (b : Bool) : (s.setBit a f b).mode = s.mode := rfl
@[simp] theorem State.setBit_act (s : State) (a : Nat) (f : Fld) (b : Bool) : (s.setBit a f b).act = s.act := rfl
@[simp] theorem State.setBit_snap (s : State) (a : Nat) (f : Fld) (b : Bool) : (s.setBit a f b).snap = s.snap := rfl
@[simp] theorem State.setBit_refusals (s : State) (a : Nat) (f : Fld) (b : Bool) : (s.setBit a f b).refusals = s.refusals :=
  rfl
@[simp] theorem State.setBit_mem (s : State) (a : Nat) (f : Fld) (b : Bool) : (s.setBit a f b).mem = s.mem := rfl
@[simp] theorem State.setBit_dramEpoch (s : State) (a : Nat) (f : Fld) (b : Bool) : (s.setBit a f b).dramEpoch = s.dramEpoch :=
  rfl
@[simp] theorem State.setBit_tm (s : State) (a : Nat) (f : Fld) (b : Bool) : (s.setBit a f b).tm = s.tm := rfl
@[simp] theorem State.setBit_timers (s : State) (a : Nat) (f : Fld) (b : Bool) : (s.setBit a f b).timers = s.timers :=
  rfl
@[simp] theorem State.setBit_trim (s : State) (a : Nat) (f : Fld) (b : Bool) : (s.setBit a f b).trim = s.trim := rfl
@[simp] theorem State.setBit_ms (s : State) (a : Nat) (f : Fld) (b : Bool) : (s.setBit a f b).ms = s.ms := rfl
@[simp] theorem State.setBit_pcie (s : State) (a : Nat) (f : Fld) (b : Bool) : (s.setBit a f b).pcie = s.pcie := rfl
@[simp] theorem State.setBit_hostReads (s : State) (a : Nat) (f : Fld) (b : Bool) : (s.setBit a f b).hostReads = s.hostReads :=
  rfl
@[simp] theorem State.setBit_chans (s : State) (a : Nat) (f : Fld) (b : Bool) : (s.setBit a f b).chans = s.chans :=
  rfl
@[simp] theorem State.setBit_dma (s : State) (a : Nat) (f : Fld) (b : Bool) : (s.setBit a f b).dma = s.dma := rfl
@[simp] theorem State.setBit_pwr (s : State) (a : Nat) (f : Fld) (b : Bool) : (s.setBit a f b).pwr = s.pwr := rfl
@[simp] theorem State.setBit_peat (s : State) (a : Nat) (f : Fld) (b : Bool) : (s.setBit a f b).peat = s.peat := rfl
@[simp] theorem State.setBit_root (s : State) (a : Nat) (f : Fld) (b : Bool) : (s.setBit a f b).root = s.root := rfl
@[simp] theorem State.setBit_spdm (s : State) (a : Nat) (f : Fld) (b : Bool) : (s.setBit a f b).spdm = s.spdm := rfl
@[simp] theorem State.setBit_runner (s : State) (a : Nat) (f : Fld) (b : Bool) : (s.setBit a f b).runner = s.runner :=
  rfl
@[simp] theorem State.setBit_boot (s : State) (a : Nat) (f : Fld) (b : Bool) : (s.setBit a f b).boot = s.boot := rfl
@[simp] theorem State.setBit_bench (s : State) (a : Nat) (f : Fld) (b : Bool) : (s.setBit a f b).bench = s.bench :=
  rfl
@[simp] theorem State.setBit_engines (s : State) (a : Nat) (f : Fld) (b : Bool) : (s.setBit a f b).engines = s.engines :=
  rfl
@[simp] theorem State.setBit_encs (s : State) (a : Nat) (f : Fld) (b : Bool) : (s.setBit a f b).encs = s.encs := rfl
@[simp] theorem State.setBit_cmpPulse (s : State) (a : Nat) (f : Fld) (b : Bool) : (s.setBit a f b).cmpPulse = s.cmpPulse :=
  rfl
@[simp] theorem State.setBit_cmpNear (s : State) (a : Nat) (f : Fld) (b : Bool) : (s.setBit a f b).cmpNear = s.cmpNear :=
  rfl
@[simp] theorem State.setBit_pts (s : State) (a : Nat) (f : Fld) (b : Bool) : (s.setBit a f b).pts = s.pts := rfl
@[simp] theorem State.setBit_posQ (s : State) (a : Nat) (f : Fld) (b : Bool) : (s.setBit a f b).posQ = s.posQ := rfl
@[simp] theorem State.setBit_imgs (s : State) (a : Nat) (f : Fld) (b : Bool) : (s.setBit a f b).imgs = s.imgs := rfl
@[simp] theorem State.setBit_windows (s : State) (a : Nat) (f : Fld) (b : Bool) : (s.setBit a f b).windows = s.windows :=
  rfl
@[simp] theorem State.setBit_stopScripts (s : State) (a : Nat) (f : Fld) (b : Bool) : (s.setBit a f b).stopScripts = s.stopScripts :=
  rfl
@[simp] theorem State.setBit_prec (s : State) (a : Nat) (f : Fld) (b : Bool) : (s.setBit a f b).prec = s.prec := rfl
@[simp] theorem State.setBit_lamps (s : State) (a : Nat) (f : Fld) (b : Bool) : (s.setBit a f b).lamps = s.lamps :=
  rfl
@[simp] theorem State.setBit_tps (s : State) (a : Nat) (f : Fld) (b : Bool) : (s.setBit a f b).tps = s.tps := rfl
@[simp] theorem State.setBit_axes (s : State) (a : Nat) (f : Fld) (b : Bool) : (s.setBit a f b).axes = s.axes := rfl
@[simp] theorem State.setBit_tickAt (s : State) (a : Nat) (f : Fld) (b : Bool) : (s.setBit a f b).tickAt = s.tickAt :=
  rfl
@[simp] theorem State.setBit_fronds (s : State) (a : Nat) (f : Fld) (b : Bool) : (s.setBit a f b).fronds = s.fronds :=
  rfl
@[simp] theorem State.setBit_queues (s : State) (a : Nat) (f : Fld) (b : Bool) : (s.setBit a f b).queues = s.queues :=
  rfl
@[simp] theorem State.setBit_evPend (s : State) (a : Nat) (f : Fld) (b : Bool) : (s.setBit a f b).evPend = s.evPend :=
  rfl
@[simp] theorem State.setBit_tap (s : State) (a : Nat) (f : Fld) (b : Bool) : (s.setBit a f b).tap = s.tap := rfl
@[simp] theorem State.setBit_pins (s : State) (a : Nat) (f : Fld) (b : Bool) : (s.setBit a f b).pins = s.pins := rfl
@[simp] theorem State.setBit_streams (s : State) (a : Nat) (f : Fld) (b : Bool) : (s.setBit a f b).streams = s.streams :=
  rfl
@[simp] theorem State.setBit_stages (s : State) (a : Nat) (f : Fld) (b : Bool) : (s.setBit a f b).stages = s.stages :=
  rfl
@[simp] theorem State.setBit_recQ (s : State) (a : Nat) (f : Fld) (b : Bool) : (s.setBit a f b).recQ = s.recQ := rfl
@[simp] theorem State.setBit_out (s : State) (a : Nat) (f : Fld) (b : Bool) : (s.setBit a f b).out = s.out := rfl
@[simp] theorem State.setBit_freeCtr (s : State) (a : Nat) (f : Fld) (b : Bool) : (s.setBit a f b).freeCtr = s.freeCtr :=
  rfl
@[simp] theorem State.setBit_pending (s : State) (a : Nat) (f : Fld) (b : Bool) : (s.setBit a f b).pending = s.pending :=
  rfl

/-! #### setReg64 -/

@[simp] theorem State.setReg64_mode (s : State) (a v : Nat) : (s.setReg64 a v).mode = s.mode := rfl
@[simp] theorem State.setReg64_act (s : State) (a v : Nat) : (s.setReg64 a v).act = s.act := rfl
@[simp] theorem State.setReg64_snap (s : State) (a v : Nat) : (s.setReg64 a v).snap = s.snap := rfl
@[simp] theorem State.setReg64_refusals (s : State) (a v : Nat) : (s.setReg64 a v).refusals = s.refusals := rfl
@[simp] theorem State.setReg64_mem (s : State) (a v : Nat) : (s.setReg64 a v).mem = s.mem := rfl
@[simp] theorem State.setReg64_dramEpoch (s : State) (a v : Nat) : (s.setReg64 a v).dramEpoch = s.dramEpoch := rfl
@[simp] theorem State.setReg64_tm (s : State) (a v : Nat) : (s.setReg64 a v).tm = s.tm := rfl
@[simp] theorem State.setReg64_timers (s : State) (a v : Nat) : (s.setReg64 a v).timers = s.timers := rfl
@[simp] theorem State.setReg64_trim (s : State) (a v : Nat) : (s.setReg64 a v).trim = s.trim := rfl
@[simp] theorem State.setReg64_ms (s : State) (a v : Nat) : (s.setReg64 a v).ms = s.ms := rfl
@[simp] theorem State.setReg64_pcie (s : State) (a v : Nat) : (s.setReg64 a v).pcie = s.pcie := rfl
@[simp] theorem State.setReg64_hostReads (s : State) (a v : Nat) : (s.setReg64 a v).hostReads = s.hostReads := rfl
@[simp] theorem State.setReg64_chans (s : State) (a v : Nat) : (s.setReg64 a v).chans = s.chans := rfl
@[simp] theorem State.setReg64_dma (s : State) (a v : Nat) : (s.setReg64 a v).dma = s.dma := rfl
@[simp] theorem State.setReg64_pwr (s : State) (a v : Nat) : (s.setReg64 a v).pwr = s.pwr := rfl
@[simp] theorem State.setReg64_peat (s : State) (a v : Nat) : (s.setReg64 a v).peat = s.peat := rfl
@[simp] theorem State.setReg64_root (s : State) (a v : Nat) : (s.setReg64 a v).root = s.root := rfl
@[simp] theorem State.setReg64_spdm (s : State) (a v : Nat) : (s.setReg64 a v).spdm = s.spdm := rfl
@[simp] theorem State.setReg64_runner (s : State) (a v : Nat) : (s.setReg64 a v).runner = s.runner := rfl
@[simp] theorem State.setReg64_boot (s : State) (a v : Nat) : (s.setReg64 a v).boot = s.boot := rfl
@[simp] theorem State.setReg64_bench (s : State) (a v : Nat) : (s.setReg64 a v).bench = s.bench := rfl
@[simp] theorem State.setReg64_engines (s : State) (a v : Nat) : (s.setReg64 a v).engines = s.engines := rfl
@[simp] theorem State.setReg64_encs (s : State) (a v : Nat) : (s.setReg64 a v).encs = s.encs := rfl
@[simp] theorem State.setReg64_cmpPulse (s : State) (a v : Nat) : (s.setReg64 a v).cmpPulse = s.cmpPulse := rfl
@[simp] theorem State.setReg64_cmpNear (s : State) (a v : Nat) : (s.setReg64 a v).cmpNear = s.cmpNear := rfl
@[simp] theorem State.setReg64_pts (s : State) (a v : Nat) : (s.setReg64 a v).pts = s.pts := rfl
@[simp] theorem State.setReg64_posQ (s : State) (a v : Nat) : (s.setReg64 a v).posQ = s.posQ := rfl
@[simp] theorem State.setReg64_imgs (s : State) (a v : Nat) : (s.setReg64 a v).imgs = s.imgs := rfl
@[simp] theorem State.setReg64_windows (s : State) (a v : Nat) : (s.setReg64 a v).windows = s.windows := rfl
@[simp] theorem State.setReg64_stopScripts (s : State) (a v : Nat) : (s.setReg64 a v).stopScripts = s.stopScripts :=
  rfl
@[simp] theorem State.setReg64_prec (s : State) (a v : Nat) : (s.setReg64 a v).prec = s.prec := rfl
@[simp] theorem State.setReg64_lamps (s : State) (a v : Nat) : (s.setReg64 a v).lamps = s.lamps := rfl
@[simp] theorem State.setReg64_tps (s : State) (a v : Nat) : (s.setReg64 a v).tps = s.tps := rfl
@[simp] theorem State.setReg64_axes (s : State) (a v : Nat) : (s.setReg64 a v).axes = s.axes := rfl
@[simp] theorem State.setReg64_tickAt (s : State) (a v : Nat) : (s.setReg64 a v).tickAt = s.tickAt := rfl
@[simp] theorem State.setReg64_fronds (s : State) (a v : Nat) : (s.setReg64 a v).fronds = s.fronds := rfl
@[simp] theorem State.setReg64_queues (s : State) (a v : Nat) : (s.setReg64 a v).queues = s.queues := rfl
@[simp] theorem State.setReg64_evPend (s : State) (a v : Nat) : (s.setReg64 a v).evPend = s.evPend := rfl
@[simp] theorem State.setReg64_tap (s : State) (a v : Nat) : (s.setReg64 a v).tap = s.tap := rfl
@[simp] theorem State.setReg64_pins (s : State) (a v : Nat) : (s.setReg64 a v).pins = s.pins := rfl
@[simp] theorem State.setReg64_streams (s : State) (a v : Nat) : (s.setReg64 a v).streams = s.streams := rfl
@[simp] theorem State.setReg64_stages (s : State) (a v : Nat) : (s.setReg64 a v).stages = s.stages := rfl
@[simp] theorem State.setReg64_recQ (s : State) (a v : Nat) : (s.setReg64 a v).recQ = s.recQ := rfl
@[simp] theorem State.setReg64_out (s : State) (a v : Nat) : (s.setReg64 a v).out = s.out := rfl
@[simp] theorem State.setReg64_freeCtr (s : State) (a v : Nat) : (s.setReg64 a v).freeCtr = s.freeCtr := rfl
@[simp] theorem State.setReg64_pending (s : State) (a v : Nat) : (s.setReg64 a v).pending = s.pending := rfl

/-! #### satInc -/

@[simp] theorem State.satInc_mode (s : State) (a : Nat) (f : Fld) (k : Nat) : (s.satInc a f k).mode = s.mode := rfl
@[simp] theorem State.satInc_act (s : State) (a : Nat) (f : Fld) (k : Nat) : (s.satInc a f k).act = s.act := rfl
@[simp] theorem State.satInc_snap (s : State) (a : Nat) (f : Fld) (k : Nat) : (s.satInc a f k).snap = s.snap := rfl
@[simp] theorem State.satInc_refusals (s : State) (a : Nat) (f : Fld) (k : Nat) : (s.satInc a f k).refusals = s.refusals :=
  rfl
@[simp] theorem State.satInc_mem (s : State) (a : Nat) (f : Fld) (k : Nat) : (s.satInc a f k).mem = s.mem := rfl
@[simp] theorem State.satInc_dramEpoch (s : State) (a : Nat) (f : Fld) (k : Nat) : (s.satInc a f k).dramEpoch = s.dramEpoch :=
  rfl
@[simp] theorem State.satInc_tm (s : State) (a : Nat) (f : Fld) (k : Nat) : (s.satInc a f k).tm = s.tm := rfl
@[simp] theorem State.satInc_timers (s : State) (a : Nat) (f : Fld) (k : Nat) : (s.satInc a f k).timers = s.timers :=
  rfl
@[simp] theorem State.satInc_trim (s : State) (a : Nat) (f : Fld) (k : Nat) : (s.satInc a f k).trim = s.trim := rfl
@[simp] theorem State.satInc_ms (s : State) (a : Nat) (f : Fld) (k : Nat) : (s.satInc a f k).ms = s.ms := rfl
@[simp] theorem State.satInc_pcie (s : State) (a : Nat) (f : Fld) (k : Nat) : (s.satInc a f k).pcie = s.pcie := rfl
@[simp] theorem State.satInc_hostReads (s : State) (a : Nat) (f : Fld) (k : Nat) : (s.satInc a f k).hostReads = s.hostReads :=
  rfl
@[simp] theorem State.satInc_chans (s : State) (a : Nat) (f : Fld) (k : Nat) : (s.satInc a f k).chans = s.chans := rfl
@[simp] theorem State.satInc_dma (s : State) (a : Nat) (f : Fld) (k : Nat) : (s.satInc a f k).dma = s.dma := rfl
@[simp] theorem State.satInc_pwr (s : State) (a : Nat) (f : Fld) (k : Nat) : (s.satInc a f k).pwr = s.pwr := rfl
@[simp] theorem State.satInc_peat (s : State) (a : Nat) (f : Fld) (k : Nat) : (s.satInc a f k).peat = s.peat := rfl
@[simp] theorem State.satInc_root (s : State) (a : Nat) (f : Fld) (k : Nat) : (s.satInc a f k).root = s.root := rfl
@[simp] theorem State.satInc_spdm (s : State) (a : Nat) (f : Fld) (k : Nat) : (s.satInc a f k).spdm = s.spdm := rfl
@[simp] theorem State.satInc_runner (s : State) (a : Nat) (f : Fld) (k : Nat) : (s.satInc a f k).runner = s.runner :=
  rfl
@[simp] theorem State.satInc_boot (s : State) (a : Nat) (f : Fld) (k : Nat) : (s.satInc a f k).boot = s.boot := rfl
@[simp] theorem State.satInc_bench (s : State) (a : Nat) (f : Fld) (k : Nat) : (s.satInc a f k).bench = s.bench := rfl
@[simp] theorem State.satInc_engines (s : State) (a : Nat) (f : Fld) (k : Nat) : (s.satInc a f k).engines = s.engines :=
  rfl
@[simp] theorem State.satInc_encs (s : State) (a : Nat) (f : Fld) (k : Nat) : (s.satInc a f k).encs = s.encs := rfl
@[simp] theorem State.satInc_cmpPulse (s : State) (a : Nat) (f : Fld) (k : Nat) : (s.satInc a f k).cmpPulse = s.cmpPulse :=
  rfl
@[simp] theorem State.satInc_cmpNear (s : State) (a : Nat) (f : Fld) (k : Nat) : (s.satInc a f k).cmpNear = s.cmpNear :=
  rfl
@[simp] theorem State.satInc_pts (s : State) (a : Nat) (f : Fld) (k : Nat) : (s.satInc a f k).pts = s.pts := rfl
@[simp] theorem State.satInc_posQ (s : State) (a : Nat) (f : Fld) (k : Nat) : (s.satInc a f k).posQ = s.posQ := rfl
@[simp] theorem State.satInc_imgs (s : State) (a : Nat) (f : Fld) (k : Nat) : (s.satInc a f k).imgs = s.imgs := rfl
@[simp] theorem State.satInc_windows (s : State) (a : Nat) (f : Fld) (k : Nat) : (s.satInc a f k).windows = s.windows :=
  rfl
@[simp] theorem State.satInc_stopScripts (s : State) (a : Nat) (f : Fld) (k : Nat) : (s.satInc a f k).stopScripts = s.stopScripts :=
  rfl
@[simp] theorem State.satInc_prec (s : State) (a : Nat) (f : Fld) (k : Nat) : (s.satInc a f k).prec = s.prec := rfl
@[simp] theorem State.satInc_lamps (s : State) (a : Nat) (f : Fld) (k : Nat) : (s.satInc a f k).lamps = s.lamps := rfl
@[simp] theorem State.satInc_tps (s : State) (a : Nat) (f : Fld) (k : Nat) : (s.satInc a f k).tps = s.tps := rfl
@[simp] theorem State.satInc_axes (s : State) (a : Nat) (f : Fld) (k : Nat) : (s.satInc a f k).axes = s.axes := rfl
@[simp] theorem State.satInc_tickAt (s : State) (a : Nat) (f : Fld) (k : Nat) : (s.satInc a f k).tickAt = s.tickAt :=
  rfl
@[simp] theorem State.satInc_fronds (s : State) (a : Nat) (f : Fld) (k : Nat) : (s.satInc a f k).fronds = s.fronds :=
  rfl
@[simp] theorem State.satInc_queues (s : State) (a : Nat) (f : Fld) (k : Nat) : (s.satInc a f k).queues = s.queues :=
  rfl
@[simp] theorem State.satInc_evPend (s : State) (a : Nat) (f : Fld) (k : Nat) : (s.satInc a f k).evPend = s.evPend :=
  rfl
@[simp] theorem State.satInc_tap (s : State) (a : Nat) (f : Fld) (k : Nat) : (s.satInc a f k).tap = s.tap := rfl
@[simp] theorem State.satInc_pins (s : State) (a : Nat) (f : Fld) (k : Nat) : (s.satInc a f k).pins = s.pins := rfl
@[simp] theorem State.satInc_streams (s : State) (a : Nat) (f : Fld) (k : Nat) : (s.satInc a f k).streams = s.streams :=
  rfl
@[simp] theorem State.satInc_stages (s : State) (a : Nat) (f : Fld) (k : Nat) : (s.satInc a f k).stages = s.stages :=
  rfl
@[simp] theorem State.satInc_recQ (s : State) (a : Nat) (f : Fld) (k : Nat) : (s.satInc a f k).recQ = s.recQ := rfl
@[simp] theorem State.satInc_out (s : State) (a : Nat) (f : Fld) (k : Nat) : (s.satInc a f k).out = s.out := rfl
@[simp] theorem State.satInc_freeCtr (s : State) (a : Nat) (f : Fld) (k : Nat) : (s.satInc a f k).freeCtr = s.freeCtr :=
  rfl
@[simp] theorem State.satInc_pending (s : State) (a : Nat) (f : Fld) (k : Nat) : (s.satInc a f k).pending = s.pending :=
  rfl

/-! #### wrapInc -/

@[simp] theorem State.wrapInc_mode (s : State) (a : Nat) (f : Fld) (k : Nat) : (s.wrapInc a f k).mode = s.mode := rfl
@[simp] theorem State.wrapInc_act (s : State) (a : Nat) (f : Fld) (k : Nat) : (s.wrapInc a f k).act = s.act := rfl
@[simp] theorem State.wrapInc_snap (s : State) (a : Nat) (f : Fld) (k : Nat) : (s.wrapInc a f k).snap = s.snap := rfl
@[simp] theorem State.wrapInc_refusals (s : State) (a : Nat) (f : Fld) (k : Nat) : (s.wrapInc a f k).refusals = s.refusals :=
  rfl
@[simp] theorem State.wrapInc_mem (s : State) (a : Nat) (f : Fld) (k : Nat) : (s.wrapInc a f k).mem = s.mem := rfl
@[simp] theorem State.wrapInc_dramEpoch (s : State) (a : Nat) (f : Fld) (k : Nat) : (s.wrapInc a f k).dramEpoch = s.dramEpoch :=
  rfl
@[simp] theorem State.wrapInc_tm (s : State) (a : Nat) (f : Fld) (k : Nat) : (s.wrapInc a f k).tm = s.tm := rfl
@[simp] theorem State.wrapInc_timers (s : State) (a : Nat) (f : Fld) (k : Nat) : (s.wrapInc a f k).timers = s.timers :=
  rfl
@[simp] theorem State.wrapInc_trim (s : State) (a : Nat) (f : Fld) (k : Nat) : (s.wrapInc a f k).trim = s.trim := rfl
@[simp] theorem State.wrapInc_ms (s : State) (a : Nat) (f : Fld) (k : Nat) : (s.wrapInc a f k).ms = s.ms := rfl
@[simp] theorem State.wrapInc_pcie (s : State) (a : Nat) (f : Fld) (k : Nat) : (s.wrapInc a f k).pcie = s.pcie := rfl
@[simp] theorem State.wrapInc_hostReads (s : State) (a : Nat) (f : Fld) (k : Nat) : (s.wrapInc a f k).hostReads = s.hostReads :=
  rfl
@[simp] theorem State.wrapInc_chans (s : State) (a : Nat) (f : Fld) (k : Nat) : (s.wrapInc a f k).chans = s.chans :=
  rfl
@[simp] theorem State.wrapInc_dma (s : State) (a : Nat) (f : Fld) (k : Nat) : (s.wrapInc a f k).dma = s.dma := rfl
@[simp] theorem State.wrapInc_pwr (s : State) (a : Nat) (f : Fld) (k : Nat) : (s.wrapInc a f k).pwr = s.pwr := rfl
@[simp] theorem State.wrapInc_peat (s : State) (a : Nat) (f : Fld) (k : Nat) : (s.wrapInc a f k).peat = s.peat := rfl
@[simp] theorem State.wrapInc_root (s : State) (a : Nat) (f : Fld) (k : Nat) : (s.wrapInc a f k).root = s.root := rfl
@[simp] theorem State.wrapInc_spdm (s : State) (a : Nat) (f : Fld) (k : Nat) : (s.wrapInc a f k).spdm = s.spdm := rfl
@[simp] theorem State.wrapInc_runner (s : State) (a : Nat) (f : Fld) (k : Nat) : (s.wrapInc a f k).runner = s.runner :=
  rfl
@[simp] theorem State.wrapInc_boot (s : State) (a : Nat) (f : Fld) (k : Nat) : (s.wrapInc a f k).boot = s.boot := rfl
@[simp] theorem State.wrapInc_bench (s : State) (a : Nat) (f : Fld) (k : Nat) : (s.wrapInc a f k).bench = s.bench :=
  rfl
@[simp] theorem State.wrapInc_engines (s : State) (a : Nat) (f : Fld) (k : Nat) : (s.wrapInc a f k).engines = s.engines :=
  rfl
@[simp] theorem State.wrapInc_encs (s : State) (a : Nat) (f : Fld) (k : Nat) : (s.wrapInc a f k).encs = s.encs := rfl
@[simp] theorem State.wrapInc_cmpPulse (s : State) (a : Nat) (f : Fld) (k : Nat) : (s.wrapInc a f k).cmpPulse = s.cmpPulse :=
  rfl
@[simp] theorem State.wrapInc_cmpNear (s : State) (a : Nat) (f : Fld) (k : Nat) : (s.wrapInc a f k).cmpNear = s.cmpNear :=
  rfl
@[simp] theorem State.wrapInc_pts (s : State) (a : Nat) (f : Fld) (k : Nat) : (s.wrapInc a f k).pts = s.pts := rfl
@[simp] theorem State.wrapInc_posQ (s : State) (a : Nat) (f : Fld) (k : Nat) : (s.wrapInc a f k).posQ = s.posQ := rfl
@[simp] theorem State.wrapInc_imgs (s : State) (a : Nat) (f : Fld) (k : Nat) : (s.wrapInc a f k).imgs = s.imgs := rfl
@[simp] theorem State.wrapInc_windows (s : State) (a : Nat) (f : Fld) (k : Nat) : (s.wrapInc a f k).windows = s.windows :=
  rfl
@[simp] theorem State.wrapInc_stopScripts (s : State) (a : Nat) (f : Fld) (k : Nat) : (s.wrapInc a f k).stopScripts = s.stopScripts :=
  rfl
@[simp] theorem State.wrapInc_prec (s : State) (a : Nat) (f : Fld) (k : Nat) : (s.wrapInc a f k).prec = s.prec := rfl
@[simp] theorem State.wrapInc_lamps (s : State) (a : Nat) (f : Fld) (k : Nat) : (s.wrapInc a f k).lamps = s.lamps :=
  rfl
@[simp] theorem State.wrapInc_tps (s : State) (a : Nat) (f : Fld) (k : Nat) : (s.wrapInc a f k).tps = s.tps := rfl
@[simp] theorem State.wrapInc_axes (s : State) (a : Nat) (f : Fld) (k : Nat) : (s.wrapInc a f k).axes = s.axes := rfl
@[simp] theorem State.wrapInc_tickAt (s : State) (a : Nat) (f : Fld) (k : Nat) : (s.wrapInc a f k).tickAt = s.tickAt :=
  rfl
@[simp] theorem State.wrapInc_fronds (s : State) (a : Nat) (f : Fld) (k : Nat) : (s.wrapInc a f k).fronds = s.fronds :=
  rfl
@[simp] theorem State.wrapInc_queues (s : State) (a : Nat) (f : Fld) (k : Nat) : (s.wrapInc a f k).queues = s.queues :=
  rfl
@[simp] theorem State.wrapInc_evPend (s : State) (a : Nat) (f : Fld) (k : Nat) : (s.wrapInc a f k).evPend = s.evPend :=
  rfl
@[simp] theorem State.wrapInc_tap (s : State) (a : Nat) (f : Fld) (k : Nat) : (s.wrapInc a f k).tap = s.tap := rfl
@[simp] theorem State.wrapInc_pins (s : State) (a : Nat) (f : Fld) (k : Nat) : (s.wrapInc a f k).pins = s.pins := rfl
@[simp] theorem State.wrapInc_streams (s : State) (a : Nat) (f : Fld) (k : Nat) : (s.wrapInc a f k).streams = s.streams :=
  rfl
@[simp] theorem State.wrapInc_stages (s : State) (a : Nat) (f : Fld) (k : Nat) : (s.wrapInc a f k).stages = s.stages :=
  rfl
@[simp] theorem State.wrapInc_recQ (s : State) (a : Nat) (f : Fld) (k : Nat) : (s.wrapInc a f k).recQ = s.recQ := rfl
@[simp] theorem State.wrapInc_out (s : State) (a : Nat) (f : Fld) (k : Nat) : (s.wrapInc a f k).out = s.out := rfl
@[simp] theorem State.wrapInc_freeCtr (s : State) (a : Nat) (f : Fld) (k : Nat) : (s.wrapInc a f k).freeCtr = s.freeCtr :=
  rfl
@[simp] theorem State.wrapInc_pending (s : State) (a : Nat) (f : Fld) (k : Nat) : (s.wrapInc a f k).pending = s.pending :=
  rfl

/-! #### flag -/

@[simp] theorem State.flag_mode (s : State) (a : Nat) (f : Fld) : (s.flag a f).mode = s.mode := rfl
@[simp] theorem State.flag_act (s : State) (a : Nat) (f : Fld) : (s.flag a f).act = s.act := rfl
@[simp] theorem State.flag_snap (s : State) (a : Nat) (f : Fld) : (s.flag a f).snap = s.snap := rfl
@[simp] theorem State.flag_refusals (s : State) (a : Nat) (f : Fld) : (s.flag a f).refusals = s.refusals := rfl
@[simp] theorem State.flag_mem (s : State) (a : Nat) (f : Fld) : (s.flag a f).mem = s.mem := rfl
@[simp] theorem State.flag_dramEpoch (s : State) (a : Nat) (f : Fld) : (s.flag a f).dramEpoch = s.dramEpoch := rfl
@[simp] theorem State.flag_tm (s : State) (a : Nat) (f : Fld) : (s.flag a f).tm = s.tm := rfl
@[simp] theorem State.flag_timers (s : State) (a : Nat) (f : Fld) : (s.flag a f).timers = s.timers := rfl
@[simp] theorem State.flag_trim (s : State) (a : Nat) (f : Fld) : (s.flag a f).trim = s.trim := rfl
@[simp] theorem State.flag_ms (s : State) (a : Nat) (f : Fld) : (s.flag a f).ms = s.ms := rfl
@[simp] theorem State.flag_pcie (s : State) (a : Nat) (f : Fld) : (s.flag a f).pcie = s.pcie := rfl
@[simp] theorem State.flag_hostReads (s : State) (a : Nat) (f : Fld) : (s.flag a f).hostReads = s.hostReads := rfl
@[simp] theorem State.flag_chans (s : State) (a : Nat) (f : Fld) : (s.flag a f).chans = s.chans := rfl
@[simp] theorem State.flag_dma (s : State) (a : Nat) (f : Fld) : (s.flag a f).dma = s.dma := rfl
@[simp] theorem State.flag_pwr (s : State) (a : Nat) (f : Fld) : (s.flag a f).pwr = s.pwr := rfl
@[simp] theorem State.flag_peat (s : State) (a : Nat) (f : Fld) : (s.flag a f).peat = s.peat := rfl
@[simp] theorem State.flag_root (s : State) (a : Nat) (f : Fld) : (s.flag a f).root = s.root := rfl
@[simp] theorem State.flag_spdm (s : State) (a : Nat) (f : Fld) : (s.flag a f).spdm = s.spdm := rfl
@[simp] theorem State.flag_runner (s : State) (a : Nat) (f : Fld) : (s.flag a f).runner = s.runner := rfl
@[simp] theorem State.flag_boot (s : State) (a : Nat) (f : Fld) : (s.flag a f).boot = s.boot := rfl
@[simp] theorem State.flag_bench (s : State) (a : Nat) (f : Fld) : (s.flag a f).bench = s.bench := rfl
@[simp] theorem State.flag_engines (s : State) (a : Nat) (f : Fld) : (s.flag a f).engines = s.engines := rfl
@[simp] theorem State.flag_encs (s : State) (a : Nat) (f : Fld) : (s.flag a f).encs = s.encs := rfl
@[simp] theorem State.flag_cmpPulse (s : State) (a : Nat) (f : Fld) : (s.flag a f).cmpPulse = s.cmpPulse := rfl
@[simp] theorem State.flag_cmpNear (s : State) (a : Nat) (f : Fld) : (s.flag a f).cmpNear = s.cmpNear := rfl
@[simp] theorem State.flag_pts (s : State) (a : Nat) (f : Fld) : (s.flag a f).pts = s.pts := rfl
@[simp] theorem State.flag_posQ (s : State) (a : Nat) (f : Fld) : (s.flag a f).posQ = s.posQ := rfl
@[simp] theorem State.flag_imgs (s : State) (a : Nat) (f : Fld) : (s.flag a f).imgs = s.imgs := rfl
@[simp] theorem State.flag_windows (s : State) (a : Nat) (f : Fld) : (s.flag a f).windows = s.windows := rfl
@[simp] theorem State.flag_stopScripts (s : State) (a : Nat) (f : Fld) : (s.flag a f).stopScripts = s.stopScripts :=
  rfl
@[simp] theorem State.flag_prec (s : State) (a : Nat) (f : Fld) : (s.flag a f).prec = s.prec := rfl
@[simp] theorem State.flag_lamps (s : State) (a : Nat) (f : Fld) : (s.flag a f).lamps = s.lamps := rfl
@[simp] theorem State.flag_tps (s : State) (a : Nat) (f : Fld) : (s.flag a f).tps = s.tps := rfl
@[simp] theorem State.flag_axes (s : State) (a : Nat) (f : Fld) : (s.flag a f).axes = s.axes := rfl
@[simp] theorem State.flag_tickAt (s : State) (a : Nat) (f : Fld) : (s.flag a f).tickAt = s.tickAt := rfl
@[simp] theorem State.flag_fronds (s : State) (a : Nat) (f : Fld) : (s.flag a f).fronds = s.fronds := rfl
@[simp] theorem State.flag_queues (s : State) (a : Nat) (f : Fld) : (s.flag a f).queues = s.queues := rfl
@[simp] theorem State.flag_evPend (s : State) (a : Nat) (f : Fld) : (s.flag a f).evPend = s.evPend := rfl
@[simp] theorem State.flag_tap (s : State) (a : Nat) (f : Fld) : (s.flag a f).tap = s.tap := rfl
@[simp] theorem State.flag_pins (s : State) (a : Nat) (f : Fld) : (s.flag a f).pins = s.pins := rfl
@[simp] theorem State.flag_streams (s : State) (a : Nat) (f : Fld) : (s.flag a f).streams = s.streams := rfl
@[simp] theorem State.flag_stages (s : State) (a : Nat) (f : Fld) : (s.flag a f).stages = s.stages := rfl
@[simp] theorem State.flag_recQ (s : State) (a : Nat) (f : Fld) : (s.flag a f).recQ = s.recQ := rfl
@[simp] theorem State.flag_out (s : State) (a : Nat) (f : Fld) : (s.flag a f).out = s.out := rfl
@[simp] theorem State.flag_freeCtr (s : State) (a : Nat) (f : Fld) : (s.flag a f).freeCtr = s.freeCtr := rfl
@[simp] theorem State.flag_pending (s : State) (a : Nat) (f : Fld) : (s.flag a f).pending = s.pending := rfl

/-! #### setInForce -/

@[simp] theorem State.setInForce_mode (s : State) (a : Nat) (v : Word) : (s.setInForce a v).mode = s.mode := rfl
@[simp] theorem State.setInForce_regs (s : State) (a : Nat) (v : Word) : (s.setInForce a v).regs = s.regs := rfl
@[simp] theorem State.setInForce_snap (s : State) (a : Nat) (v : Word) : (s.setInForce a v).snap = s.snap := rfl
@[simp] theorem State.setInForce_refusals (s : State) (a : Nat) (v : Word) : (s.setInForce a v).refusals = s.refusals :=
  rfl
@[simp] theorem State.setInForce_mem (s : State) (a : Nat) (v : Word) : (s.setInForce a v).mem = s.mem := rfl
@[simp] theorem State.setInForce_dramEpoch (s : State) (a : Nat) (v : Word) : (s.setInForce a v).dramEpoch = s.dramEpoch :=
  rfl
@[simp] theorem State.setInForce_tm (s : State) (a : Nat) (v : Word) : (s.setInForce a v).tm = s.tm := rfl
@[simp] theorem State.setInForce_timers (s : State) (a : Nat) (v : Word) : (s.setInForce a v).timers = s.timers := rfl
@[simp] theorem State.setInForce_trim (s : State) (a : Nat) (v : Word) : (s.setInForce a v).trim = s.trim := rfl
@[simp] theorem State.setInForce_ms (s : State) (a : Nat) (v : Word) : (s.setInForce a v).ms = s.ms := rfl
@[simp] theorem State.setInForce_pcie (s : State) (a : Nat) (v : Word) : (s.setInForce a v).pcie = s.pcie := rfl
@[simp] theorem State.setInForce_hostReads (s : State) (a : Nat) (v : Word) : (s.setInForce a v).hostReads = s.hostReads :=
  rfl
@[simp] theorem State.setInForce_chans (s : State) (a : Nat) (v : Word) : (s.setInForce a v).chans = s.chans := rfl
@[simp] theorem State.setInForce_dma (s : State) (a : Nat) (v : Word) : (s.setInForce a v).dma = s.dma := rfl
@[simp] theorem State.setInForce_pwr (s : State) (a : Nat) (v : Word) : (s.setInForce a v).pwr = s.pwr := rfl
@[simp] theorem State.setInForce_peat (s : State) (a : Nat) (v : Word) : (s.setInForce a v).peat = s.peat := rfl
@[simp] theorem State.setInForce_root (s : State) (a : Nat) (v : Word) : (s.setInForce a v).root = s.root := rfl
@[simp] theorem State.setInForce_spdm (s : State) (a : Nat) (v : Word) : (s.setInForce a v).spdm = s.spdm := rfl
@[simp] theorem State.setInForce_runner (s : State) (a : Nat) (v : Word) : (s.setInForce a v).runner = s.runner := rfl
@[simp] theorem State.setInForce_boot (s : State) (a : Nat) (v : Word) : (s.setInForce a v).boot = s.boot := rfl
@[simp] theorem State.setInForce_bench (s : State) (a : Nat) (v : Word) : (s.setInForce a v).bench = s.bench := rfl
@[simp] theorem State.setInForce_engines (s : State) (a : Nat) (v : Word) : (s.setInForce a v).engines = s.engines :=
  rfl
@[simp] theorem State.setInForce_encs (s : State) (a : Nat) (v : Word) : (s.setInForce a v).encs = s.encs := rfl
@[simp] theorem State.setInForce_cmpPulse (s : State) (a : Nat) (v : Word) : (s.setInForce a v).cmpPulse = s.cmpPulse :=
  rfl
@[simp] theorem State.setInForce_cmpNear (s : State) (a : Nat) (v : Word) : (s.setInForce a v).cmpNear = s.cmpNear :=
  rfl
@[simp] theorem State.setInForce_pts (s : State) (a : Nat) (v : Word) : (s.setInForce a v).pts = s.pts := rfl
@[simp] theorem State.setInForce_posQ (s : State) (a : Nat) (v : Word) : (s.setInForce a v).posQ = s.posQ := rfl
@[simp] theorem State.setInForce_imgs (s : State) (a : Nat) (v : Word) : (s.setInForce a v).imgs = s.imgs := rfl
@[simp] theorem State.setInForce_windows (s : State) (a : Nat) (v : Word) : (s.setInForce a v).windows = s.windows :=
  rfl
@[simp] theorem State.setInForce_stopScripts (s : State) (a : Nat) (v : Word) : (s.setInForce a v).stopScripts = s.stopScripts :=
  rfl
@[simp] theorem State.setInForce_prec (s : State) (a : Nat) (v : Word) : (s.setInForce a v).prec = s.prec := rfl
@[simp] theorem State.setInForce_lamps (s : State) (a : Nat) (v : Word) : (s.setInForce a v).lamps = s.lamps := rfl
@[simp] theorem State.setInForce_tps (s : State) (a : Nat) (v : Word) : (s.setInForce a v).tps = s.tps := rfl
@[simp] theorem State.setInForce_axes (s : State) (a : Nat) (v : Word) : (s.setInForce a v).axes = s.axes := rfl
@[simp] theorem State.setInForce_tickAt (s : State) (a : Nat) (v : Word) : (s.setInForce a v).tickAt = s.tickAt := rfl
@[simp] theorem State.setInForce_fronds (s : State) (a : Nat) (v : Word) : (s.setInForce a v).fronds = s.fronds := rfl
@[simp] theorem State.setInForce_queues (s : State) (a : Nat) (v : Word) : (s.setInForce a v).queues = s.queues := rfl
@[simp] theorem State.setInForce_evPend (s : State) (a : Nat) (v : Word) : (s.setInForce a v).evPend = s.evPend := rfl
@[simp] theorem State.setInForce_tap (s : State) (a : Nat) (v : Word) : (s.setInForce a v).tap = s.tap := rfl
@[simp] theorem State.setInForce_pins (s : State) (a : Nat) (v : Word) : (s.setInForce a v).pins = s.pins := rfl
@[simp] theorem State.setInForce_streams (s : State) (a : Nat) (v : Word) : (s.setInForce a v).streams = s.streams :=
  rfl
@[simp] theorem State.setInForce_stages (s : State) (a : Nat) (v : Word) : (s.setInForce a v).stages = s.stages := rfl
@[simp] theorem State.setInForce_recQ (s : State) (a : Nat) (v : Word) : (s.setInForce a v).recQ = s.recQ := rfl
@[simp] theorem State.setInForce_out (s : State) (a : Nat) (v : Word) : (s.setInForce a v).out = s.out := rfl
@[simp] theorem State.setInForce_freeCtr (s : State) (a : Nat) (v : Word) : (s.setInForce a v).freeCtr = s.freeCtr :=
  rfl
@[simp] theorem State.setInForce_pending (s : State) (a : Nat) (v : Word) : (s.setInForce a v).pending = s.pending :=
  rfl

/-! #### setByte -/

@[simp] theorem State.setByte_mode (s : State) (a : Nat) (b : Byte) : (s.setByte a b).mode = s.mode := rfl
@[simp] theorem State.setByte_regs (s : State) (a : Nat) (b : Byte) : (s.setByte a b).regs = s.regs := rfl
@[simp] theorem State.setByte_act (s : State) (a : Nat) (b : Byte) : (s.setByte a b).act = s.act := rfl
@[simp] theorem State.setByte_snap (s : State) (a : Nat) (b : Byte) : (s.setByte a b).snap = s.snap := rfl
@[simp] theorem State.setByte_refusals (s : State) (a : Nat) (b : Byte) : (s.setByte a b).refusals = s.refusals := rfl
@[simp] theorem State.setByte_dramEpoch (s : State) (a : Nat) (b : Byte) : (s.setByte a b).dramEpoch = s.dramEpoch :=
  rfl
@[simp] theorem State.setByte_tm (s : State) (a : Nat) (b : Byte) : (s.setByte a b).tm = s.tm := rfl
@[simp] theorem State.setByte_timers (s : State) (a : Nat) (b : Byte) : (s.setByte a b).timers = s.timers := rfl
@[simp] theorem State.setByte_trim (s : State) (a : Nat) (b : Byte) : (s.setByte a b).trim = s.trim := rfl
@[simp] theorem State.setByte_ms (s : State) (a : Nat) (b : Byte) : (s.setByte a b).ms = s.ms := rfl
@[simp] theorem State.setByte_pcie (s : State) (a : Nat) (b : Byte) : (s.setByte a b).pcie = s.pcie := rfl
@[simp] theorem State.setByte_hostReads (s : State) (a : Nat) (b : Byte) : (s.setByte a b).hostReads = s.hostReads :=
  rfl
@[simp] theorem State.setByte_chans (s : State) (a : Nat) (b : Byte) : (s.setByte a b).chans = s.chans := rfl
@[simp] theorem State.setByte_dma (s : State) (a : Nat) (b : Byte) : (s.setByte a b).dma = s.dma := rfl
@[simp] theorem State.setByte_pwr (s : State) (a : Nat) (b : Byte) : (s.setByte a b).pwr = s.pwr := rfl
@[simp] theorem State.setByte_peat (s : State) (a : Nat) (b : Byte) : (s.setByte a b).peat = s.peat := rfl
@[simp] theorem State.setByte_root (s : State) (a : Nat) (b : Byte) : (s.setByte a b).root = s.root := rfl
@[simp] theorem State.setByte_spdm (s : State) (a : Nat) (b : Byte) : (s.setByte a b).spdm = s.spdm := rfl
@[simp] theorem State.setByte_runner (s : State) (a : Nat) (b : Byte) : (s.setByte a b).runner = s.runner := rfl
@[simp] theorem State.setByte_boot (s : State) (a : Nat) (b : Byte) : (s.setByte a b).boot = s.boot := rfl
@[simp] theorem State.setByte_bench (s : State) (a : Nat) (b : Byte) : (s.setByte a b).bench = s.bench := rfl
@[simp] theorem State.setByte_engines (s : State) (a : Nat) (b : Byte) : (s.setByte a b).engines = s.engines := rfl
@[simp] theorem State.setByte_encs (s : State) (a : Nat) (b : Byte) : (s.setByte a b).encs = s.encs := rfl
@[simp] theorem State.setByte_cmpPulse (s : State) (a : Nat) (b : Byte) : (s.setByte a b).cmpPulse = s.cmpPulse := rfl
@[simp] theorem State.setByte_cmpNear (s : State) (a : Nat) (b : Byte) : (s.setByte a b).cmpNear = s.cmpNear := rfl
@[simp] theorem State.setByte_pts (s : State) (a : Nat) (b : Byte) : (s.setByte a b).pts = s.pts := rfl
@[simp] theorem State.setByte_posQ (s : State) (a : Nat) (b : Byte) : (s.setByte a b).posQ = s.posQ := rfl
@[simp] theorem State.setByte_imgs (s : State) (a : Nat) (b : Byte) : (s.setByte a b).imgs = s.imgs := rfl
@[simp] theorem State.setByte_windows (s : State) (a : Nat) (b : Byte) : (s.setByte a b).windows = s.windows := rfl
@[simp] theorem State.setByte_stopScripts (s : State) (a : Nat) (b : Byte) : (s.setByte a b).stopScripts = s.stopScripts :=
  rfl
@[simp] theorem State.setByte_prec (s : State) (a : Nat) (b : Byte) : (s.setByte a b).prec = s.prec := rfl
@[simp] theorem State.setByte_lamps (s : State) (a : Nat) (b : Byte) : (s.setByte a b).lamps = s.lamps := rfl
@[simp] theorem State.setByte_tps (s : State) (a : Nat) (b : Byte) : (s.setByte a b).tps = s.tps := rfl
@[simp] theorem State.setByte_axes (s : State) (a : Nat) (b : Byte) : (s.setByte a b).axes = s.axes := rfl
@[simp] theorem State.setByte_tickAt (s : State) (a : Nat) (b : Byte) : (s.setByte a b).tickAt = s.tickAt := rfl
@[simp] theorem State.setByte_fronds (s : State) (a : Nat) (b : Byte) : (s.setByte a b).fronds = s.fronds := rfl
@[simp] theorem State.setByte_queues (s : State) (a : Nat) (b : Byte) : (s.setByte a b).queues = s.queues := rfl
@[simp] theorem State.setByte_evPend (s : State) (a : Nat) (b : Byte) : (s.setByte a b).evPend = s.evPend := rfl
@[simp] theorem State.setByte_tap (s : State) (a : Nat) (b : Byte) : (s.setByte a b).tap = s.tap := rfl
@[simp] theorem State.setByte_pins (s : State) (a : Nat) (b : Byte) : (s.setByte a b).pins = s.pins := rfl
@[simp] theorem State.setByte_streams (s : State) (a : Nat) (b : Byte) : (s.setByte a b).streams = s.streams := rfl
@[simp] theorem State.setByte_stages (s : State) (a : Nat) (b : Byte) : (s.setByte a b).stages = s.stages := rfl
@[simp] theorem State.setByte_recQ (s : State) (a : Nat) (b : Byte) : (s.setByte a b).recQ = s.recQ := rfl
@[simp] theorem State.setByte_out (s : State) (a : Nat) (b : Byte) : (s.setByte a b).out = s.out := rfl
@[simp] theorem State.setByte_freeCtr (s : State) (a : Nat) (b : Byte) : (s.setByte a b).freeCtr = s.freeCtr := rfl
@[simp] theorem State.setByte_pending (s : State) (a : Nat) (b : Byte) : (s.setByte a b).pending = s.pending := rfl

/-! #### emit -/

@[simp] theorem State.emit_mode (s : State) (o : Out) : (s.emit o).mode = s.mode := rfl
@[simp] theorem State.emit_regs (s : State) (o : Out) : (s.emit o).regs = s.regs := rfl
@[simp] theorem State.emit_act (s : State) (o : Out) : (s.emit o).act = s.act := rfl
@[simp] theorem State.emit_snap (s : State) (o : Out) : (s.emit o).snap = s.snap := rfl
@[simp] theorem State.emit_refusals (s : State) (o : Out) : (s.emit o).refusals = s.refusals := rfl
@[simp] theorem State.emit_mem (s : State) (o : Out) : (s.emit o).mem = s.mem := rfl
@[simp] theorem State.emit_dramEpoch (s : State) (o : Out) : (s.emit o).dramEpoch = s.dramEpoch := rfl
@[simp] theorem State.emit_tm (s : State) (o : Out) : (s.emit o).tm = s.tm := rfl
@[simp] theorem State.emit_timers (s : State) (o : Out) : (s.emit o).timers = s.timers := rfl
@[simp] theorem State.emit_trim (s : State) (o : Out) : (s.emit o).trim = s.trim := rfl
@[simp] theorem State.emit_ms (s : State) (o : Out) : (s.emit o).ms = s.ms := rfl
@[simp] theorem State.emit_pcie (s : State) (o : Out) : (s.emit o).pcie = s.pcie := rfl
@[simp] theorem State.emit_hostReads (s : State) (o : Out) : (s.emit o).hostReads = s.hostReads := rfl
@[simp] theorem State.emit_chans (s : State) (o : Out) : (s.emit o).chans = s.chans := rfl
@[simp] theorem State.emit_dma (s : State) (o : Out) : (s.emit o).dma = s.dma := rfl
@[simp] theorem State.emit_pwr (s : State) (o : Out) : (s.emit o).pwr = s.pwr := rfl
@[simp] theorem State.emit_peat (s : State) (o : Out) : (s.emit o).peat = s.peat := rfl
@[simp] theorem State.emit_root (s : State) (o : Out) : (s.emit o).root = s.root := rfl
@[simp] theorem State.emit_spdm (s : State) (o : Out) : (s.emit o).spdm = s.spdm := rfl
@[simp] theorem State.emit_runner (s : State) (o : Out) : (s.emit o).runner = s.runner := rfl
@[simp] theorem State.emit_boot (s : State) (o : Out) : (s.emit o).boot = s.boot := rfl
@[simp] theorem State.emit_bench (s : State) (o : Out) : (s.emit o).bench = s.bench := rfl
@[simp] theorem State.emit_engines (s : State) (o : Out) : (s.emit o).engines = s.engines := rfl
@[simp] theorem State.emit_encs (s : State) (o : Out) : (s.emit o).encs = s.encs := rfl
@[simp] theorem State.emit_cmpPulse (s : State) (o : Out) : (s.emit o).cmpPulse = s.cmpPulse := rfl
@[simp] theorem State.emit_cmpNear (s : State) (o : Out) : (s.emit o).cmpNear = s.cmpNear := rfl
@[simp] theorem State.emit_pts (s : State) (o : Out) : (s.emit o).pts = s.pts := rfl
@[simp] theorem State.emit_posQ (s : State) (o : Out) : (s.emit o).posQ = s.posQ := rfl
@[simp] theorem State.emit_imgs (s : State) (o : Out) : (s.emit o).imgs = s.imgs := rfl
@[simp] theorem State.emit_windows (s : State) (o : Out) : (s.emit o).windows = s.windows := rfl
@[simp] theorem State.emit_stopScripts (s : State) (o : Out) : (s.emit o).stopScripts = s.stopScripts := rfl
@[simp] theorem State.emit_prec (s : State) (o : Out) : (s.emit o).prec = s.prec := rfl
@[simp] theorem State.emit_lamps (s : State) (o : Out) : (s.emit o).lamps = s.lamps := rfl
@[simp] theorem State.emit_tps (s : State) (o : Out) : (s.emit o).tps = s.tps := rfl
@[simp] theorem State.emit_axes (s : State) (o : Out) : (s.emit o).axes = s.axes := rfl
@[simp] theorem State.emit_tickAt (s : State) (o : Out) : (s.emit o).tickAt = s.tickAt := rfl
@[simp] theorem State.emit_fronds (s : State) (o : Out) : (s.emit o).fronds = s.fronds := rfl
@[simp] theorem State.emit_queues (s : State) (o : Out) : (s.emit o).queues = s.queues := rfl
@[simp] theorem State.emit_evPend (s : State) (o : Out) : (s.emit o).evPend = s.evPend := rfl
@[simp] theorem State.emit_tap (s : State) (o : Out) : (s.emit o).tap = s.tap := rfl
@[simp] theorem State.emit_pins (s : State) (o : Out) : (s.emit o).pins = s.pins := rfl
@[simp] theorem State.emit_streams (s : State) (o : Out) : (s.emit o).streams = s.streams := rfl
@[simp] theorem State.emit_stages (s : State) (o : Out) : (s.emit o).stages = s.stages := rfl
@[simp] theorem State.emit_recQ (s : State) (o : Out) : (s.emit o).recQ = s.recQ := rfl
@[simp] theorem State.emit_freeCtr (s : State) (o : Out) : (s.emit o).freeCtr = s.freeCtr := rfl
@[simp] theorem State.emit_pending (s : State) (o : Out) : (s.emit o).pending = s.pending := rfl

/-! #### drawn -/

@[simp] theorem State.drawn_mode (s : State) : (s.drawn).mode = s.mode := rfl
@[simp] theorem State.drawn_regs (s : State) : (s.drawn).regs = s.regs := rfl
@[simp] theorem State.drawn_act (s : State) : (s.drawn).act = s.act := rfl
@[simp] theorem State.drawn_snap (s : State) : (s.drawn).snap = s.snap := rfl
@[simp] theorem State.drawn_refusals (s : State) : (s.drawn).refusals = s.refusals := rfl
@[simp] theorem State.drawn_mem (s : State) : (s.drawn).mem = s.mem := rfl
@[simp] theorem State.drawn_dramEpoch (s : State) : (s.drawn).dramEpoch = s.dramEpoch := rfl
@[simp] theorem State.drawn_tm (s : State) : (s.drawn).tm = s.tm := rfl
@[simp] theorem State.drawn_timers (s : State) : (s.drawn).timers = s.timers := rfl
@[simp] theorem State.drawn_trim (s : State) : (s.drawn).trim = s.trim := rfl
@[simp] theorem State.drawn_ms (s : State) : (s.drawn).ms = s.ms := rfl
@[simp] theorem State.drawn_pcie (s : State) : (s.drawn).pcie = s.pcie := rfl
@[simp] theorem State.drawn_hostReads (s : State) : (s.drawn).hostReads = s.hostReads := rfl
@[simp] theorem State.drawn_chans (s : State) : (s.drawn).chans = s.chans := rfl
@[simp] theorem State.drawn_dma (s : State) : (s.drawn).dma = s.dma := rfl
@[simp] theorem State.drawn_pwr (s : State) : (s.drawn).pwr = s.pwr := rfl
@[simp] theorem State.drawn_peat (s : State) : (s.drawn).peat = s.peat := rfl
@[simp] theorem State.drawn_root (s : State) : (s.drawn).root = s.root := rfl
@[simp] theorem State.drawn_spdm (s : State) : (s.drawn).spdm = s.spdm := rfl
@[simp] theorem State.drawn_runner (s : State) : (s.drawn).runner = s.runner := rfl
@[simp] theorem State.drawn_boot (s : State) : (s.drawn).boot = s.boot := rfl
@[simp] theorem State.drawn_bench (s : State) : (s.drawn).bench = s.bench := rfl
@[simp] theorem State.drawn_engines (s : State) : (s.drawn).engines = s.engines := rfl
@[simp] theorem State.drawn_encs (s : State) : (s.drawn).encs = s.encs := rfl
@[simp] theorem State.drawn_cmpPulse (s : State) : (s.drawn).cmpPulse = s.cmpPulse := rfl
@[simp] theorem State.drawn_cmpNear (s : State) : (s.drawn).cmpNear = s.cmpNear := rfl
@[simp] theorem State.drawn_pts (s : State) : (s.drawn).pts = s.pts := rfl
@[simp] theorem State.drawn_posQ (s : State) : (s.drawn).posQ = s.posQ := rfl
@[simp] theorem State.drawn_imgs (s : State) : (s.drawn).imgs = s.imgs := rfl
@[simp] theorem State.drawn_windows (s : State) : (s.drawn).windows = s.windows := rfl
@[simp] theorem State.drawn_stopScripts (s : State) : (s.drawn).stopScripts = s.stopScripts := rfl
@[simp] theorem State.drawn_prec (s : State) : (s.drawn).prec = s.prec := rfl
@[simp] theorem State.drawn_lamps (s : State) : (s.drawn).lamps = s.lamps := rfl
@[simp] theorem State.drawn_tps (s : State) : (s.drawn).tps = s.tps := rfl
@[simp] theorem State.drawn_axes (s : State) : (s.drawn).axes = s.axes := rfl
@[simp] theorem State.drawn_tickAt (s : State) : (s.drawn).tickAt = s.tickAt := rfl
@[simp] theorem State.drawn_fronds (s : State) : (s.drawn).fronds = s.fronds := rfl
@[simp] theorem State.drawn_queues (s : State) : (s.drawn).queues = s.queues := rfl
@[simp] theorem State.drawn_evPend (s : State) : (s.drawn).evPend = s.evPend := rfl
@[simp] theorem State.drawn_tap (s : State) : (s.drawn).tap = s.tap := rfl
@[simp] theorem State.drawn_pins (s : State) : (s.drawn).pins = s.pins := rfl
@[simp] theorem State.drawn_streams (s : State) : (s.drawn).streams = s.streams := rfl
@[simp] theorem State.drawn_stages (s : State) : (s.drawn).stages = s.stages := rfl
@[simp] theorem State.drawn_recQ (s : State) : (s.drawn).recQ = s.recQ := rfl
@[simp] theorem State.drawn_out (s : State) : (s.drawn).out = s.out := rfl
@[simp] theorem State.drawn_pending (s : State) : (s.drawn).pending = s.pending := rfl

/-! #### reach -/

@[simp] theorem State.reach_mode (s : State) (n : Nat) : (s.reach n).mode = s.mode := rfl
@[simp] theorem State.reach_regs (s : State) (n : Nat) : (s.reach n).regs = s.regs := rfl
@[simp] theorem State.reach_act (s : State) (n : Nat) : (s.reach n).act = s.act := rfl
@[simp] theorem State.reach_snap (s : State) (n : Nat) : (s.reach n).snap = s.snap := rfl
@[simp] theorem State.reach_refusals (s : State) (n : Nat) : (s.reach n).refusals = s.refusals := rfl
@[simp] theorem State.reach_mem (s : State) (n : Nat) : (s.reach n).mem = s.mem := rfl
@[simp] theorem State.reach_dramEpoch (s : State) (n : Nat) : (s.reach n).dramEpoch = s.dramEpoch := rfl
@[simp] theorem State.reach_timers (s : State) (n : Nat) : (s.reach n).timers = s.timers := rfl
@[simp] theorem State.reach_trim (s : State) (n : Nat) : (s.reach n).trim = s.trim := rfl
@[simp] theorem State.reach_ms (s : State) (n : Nat) : (s.reach n).ms = s.ms := rfl
@[simp] theorem State.reach_pcie (s : State) (n : Nat) : (s.reach n).pcie = s.pcie := rfl
@[simp] theorem State.reach_hostReads (s : State) (n : Nat) : (s.reach n).hostReads = s.hostReads := rfl
@[simp] theorem State.reach_chans (s : State) (n : Nat) : (s.reach n).chans = s.chans := rfl
@[simp] theorem State.reach_dma (s : State) (n : Nat) : (s.reach n).dma = s.dma := rfl
@[simp] theorem State.reach_pwr (s : State) (n : Nat) : (s.reach n).pwr = s.pwr := rfl
@[simp] theorem State.reach_peat (s : State) (n : Nat) : (s.reach n).peat = s.peat := rfl
@[simp] theorem State.reach_root (s : State) (n : Nat) : (s.reach n).root = s.root := rfl
@[simp] theorem State.reach_spdm (s : State) (n : Nat) : (s.reach n).spdm = s.spdm := rfl
@[simp] theorem State.reach_runner (s : State) (n : Nat) : (s.reach n).runner = s.runner := rfl
@[simp] theorem State.reach_boot (s : State) (n : Nat) : (s.reach n).boot = s.boot := rfl
@[simp] theorem State.reach_bench (s : State) (n : Nat) : (s.reach n).bench = s.bench := rfl
@[simp] theorem State.reach_engines (s : State) (n : Nat) : (s.reach n).engines = s.engines := rfl
@[simp] theorem State.reach_encs (s : State) (n : Nat) : (s.reach n).encs = s.encs := rfl
@[simp] theorem State.reach_cmpPulse (s : State) (n : Nat) : (s.reach n).cmpPulse = s.cmpPulse := rfl
@[simp] theorem State.reach_cmpNear (s : State) (n : Nat) : (s.reach n).cmpNear = s.cmpNear := rfl
@[simp] theorem State.reach_pts (s : State) (n : Nat) : (s.reach n).pts = s.pts := rfl
@[simp] theorem State.reach_posQ (s : State) (n : Nat) : (s.reach n).posQ = s.posQ := rfl
@[simp] theorem State.reach_imgs (s : State) (n : Nat) : (s.reach n).imgs = s.imgs := rfl
@[simp] theorem State.reach_windows (s : State) (n : Nat) : (s.reach n).windows = s.windows := rfl
@[simp] theorem State.reach_stopScripts (s : State) (n : Nat) : (s.reach n).stopScripts = s.stopScripts := rfl
@[simp] theorem State.reach_prec (s : State) (n : Nat) : (s.reach n).prec = s.prec := rfl
@[simp] theorem State.reach_lamps (s : State) (n : Nat) : (s.reach n).lamps = s.lamps := rfl
@[simp] theorem State.reach_tps (s : State) (n : Nat) : (s.reach n).tps = s.tps := rfl
@[simp] theorem State.reach_axes (s : State) (n : Nat) : (s.reach n).axes = s.axes := rfl
@[simp] theorem State.reach_tickAt (s : State) (n : Nat) : (s.reach n).tickAt = s.tickAt := rfl
@[simp] theorem State.reach_fronds (s : State) (n : Nat) : (s.reach n).fronds = s.fronds := rfl
@[simp] theorem State.reach_queues (s : State) (n : Nat) : (s.reach n).queues = s.queues := rfl
@[simp] theorem State.reach_evPend (s : State) (n : Nat) : (s.reach n).evPend = s.evPend := rfl
@[simp] theorem State.reach_tap (s : State) (n : Nat) : (s.reach n).tap = s.tap := rfl
@[simp] theorem State.reach_pins (s : State) (n : Nat) : (s.reach n).pins = s.pins := rfl
@[simp] theorem State.reach_streams (s : State) (n : Nat) : (s.reach n).streams = s.streams := rfl
@[simp] theorem State.reach_stages (s : State) (n : Nat) : (s.reach n).stages = s.stages := rfl
@[simp] theorem State.reach_recQ (s : State) (n : Nat) : (s.reach n).recQ = s.recQ := rfl
@[simp] theorem State.reach_out (s : State) (n : Nat) : (s.reach n).out = s.out := rfl
@[simp] theorem State.reach_freeCtr (s : State) (n : Nat) : (s.reach n).freeCtr = s.freeCtr := rfl
@[simp] theorem State.reach_pending (s : State) (n : Nat) : (s.reach n).pending = s.pending := rfl

/-! #### raise, lost, write -/

@[simp] theorem State.raise_mode (s : State) (e : Nat) : (s.raise e).mode = s.mode :=
  (congrArg State.mode (s.raise_eq e)).trans rfl
@[simp] theorem State.raise_act (s : State) (e : Nat) : (s.raise e).act = s.act :=
  (congrArg State.act (s.raise_eq e)).trans rfl
@[simp] theorem State.raise_snap (s : State) (e : Nat) : (s.raise e).snap = s.snap :=
  (congrArg State.snap (s.raise_eq e)).trans rfl
@[simp] theorem State.raise_refusals (s : State) (e : Nat) : (s.raise e).refusals = s.refusals :=
  (congrArg State.refusals (s.raise_eq e)).trans rfl
@[simp] theorem State.raise_mem (s : State) (e : Nat) : (s.raise e).mem = s.mem :=
  (congrArg State.mem (s.raise_eq e)).trans rfl
@[simp] theorem State.raise_dramEpoch (s : State) (e : Nat) : (s.raise e).dramEpoch = s.dramEpoch :=
  (congrArg State.dramEpoch (s.raise_eq e)).trans rfl
@[simp] theorem State.raise_tm (s : State) (e : Nat) : (s.raise e).tm = s.tm :=
  (congrArg State.tm (s.raise_eq e)).trans rfl
@[simp] theorem State.raise_timers (s : State) (e : Nat) : (s.raise e).timers = s.timers :=
  (congrArg State.timers (s.raise_eq e)).trans rfl
@[simp] theorem State.raise_trim (s : State) (e : Nat) : (s.raise e).trim = s.trim :=
  (congrArg State.trim (s.raise_eq e)).trans rfl
@[simp] theorem State.raise_ms (s : State) (e : Nat) : (s.raise e).ms = s.ms :=
  (congrArg State.ms (s.raise_eq e)).trans rfl
@[simp] theorem State.raise_pcie (s : State) (e : Nat) : (s.raise e).pcie = s.pcie :=
  (congrArg State.pcie (s.raise_eq e)).trans rfl
@[simp] theorem State.raise_hostReads (s : State) (e : Nat) : (s.raise e).hostReads = s.hostReads :=
  (congrArg State.hostReads (s.raise_eq e)).trans rfl
@[simp] theorem State.raise_chans (s : State) (e : Nat) : (s.raise e).chans = s.chans :=
  (congrArg State.chans (s.raise_eq e)).trans rfl
@[simp] theorem State.raise_dma (s : State) (e : Nat) : (s.raise e).dma = s.dma :=
  (congrArg State.dma (s.raise_eq e)).trans rfl
@[simp] theorem State.raise_pwr (s : State) (e : Nat) : (s.raise e).pwr = s.pwr :=
  (congrArg State.pwr (s.raise_eq e)).trans rfl
@[simp] theorem State.raise_peat (s : State) (e : Nat) : (s.raise e).peat = s.peat :=
  (congrArg State.peat (s.raise_eq e)).trans rfl
@[simp] theorem State.raise_root (s : State) (e : Nat) : (s.raise e).root = s.root :=
  (congrArg State.root (s.raise_eq e)).trans rfl
@[simp] theorem State.raise_spdm (s : State) (e : Nat) : (s.raise e).spdm = s.spdm :=
  (congrArg State.spdm (s.raise_eq e)).trans rfl
@[simp] theorem State.raise_runner (s : State) (e : Nat) : (s.raise e).runner = s.runner :=
  (congrArg State.runner (s.raise_eq e)).trans rfl
@[simp] theorem State.raise_boot (s : State) (e : Nat) : (s.raise e).boot = s.boot :=
  (congrArg State.boot (s.raise_eq e)).trans rfl
@[simp] theorem State.raise_bench (s : State) (e : Nat) : (s.raise e).bench = s.bench :=
  (congrArg State.bench (s.raise_eq e)).trans rfl
@[simp] theorem State.raise_engines (s : State) (e : Nat) : (s.raise e).engines = s.engines :=
  (congrArg State.engines (s.raise_eq e)).trans rfl
@[simp] theorem State.raise_encs (s : State) (e : Nat) : (s.raise e).encs = s.encs :=
  (congrArg State.encs (s.raise_eq e)).trans rfl
@[simp] theorem State.raise_cmpPulse (s : State) (e : Nat) : (s.raise e).cmpPulse = s.cmpPulse :=
  (congrArg State.cmpPulse (s.raise_eq e)).trans rfl
@[simp] theorem State.raise_cmpNear (s : State) (e : Nat) : (s.raise e).cmpNear = s.cmpNear :=
  (congrArg State.cmpNear (s.raise_eq e)).trans rfl
@[simp] theorem State.raise_pts (s : State) (e : Nat) : (s.raise e).pts = s.pts :=
  (congrArg State.pts (s.raise_eq e)).trans rfl
@[simp] theorem State.raise_posQ (s : State) (e : Nat) : (s.raise e).posQ = s.posQ :=
  (congrArg State.posQ (s.raise_eq e)).trans rfl
@[simp] theorem State.raise_imgs (s : State) (e : Nat) : (s.raise e).imgs = s.imgs :=
  (congrArg State.imgs (s.raise_eq e)).trans rfl
@[simp] theorem State.raise_windows (s : State) (e : Nat) : (s.raise e).windows = s.windows :=
  (congrArg State.windows (s.raise_eq e)).trans rfl
@[simp] theorem State.raise_stopScripts (s : State) (e : Nat) : (s.raise e).stopScripts = s.stopScripts :=
  (congrArg State.stopScripts (s.raise_eq e)).trans rfl
@[simp] theorem State.raise_prec (s : State) (e : Nat) : (s.raise e).prec = s.prec :=
  (congrArg State.prec (s.raise_eq e)).trans rfl
@[simp] theorem State.raise_lamps (s : State) (e : Nat) : (s.raise e).lamps = s.lamps :=
  (congrArg State.lamps (s.raise_eq e)).trans rfl
@[simp] theorem State.raise_tps (s : State) (e : Nat) : (s.raise e).tps = s.tps :=
  (congrArg State.tps (s.raise_eq e)).trans rfl
@[simp] theorem State.raise_axes (s : State) (e : Nat) : (s.raise e).axes = s.axes :=
  (congrArg State.axes (s.raise_eq e)).trans rfl
@[simp] theorem State.raise_tickAt (s : State) (e : Nat) : (s.raise e).tickAt = s.tickAt :=
  (congrArg State.tickAt (s.raise_eq e)).trans rfl
@[simp] theorem State.raise_fronds (s : State) (e : Nat) : (s.raise e).fronds = s.fronds :=
  (congrArg State.fronds (s.raise_eq e)).trans rfl
@[simp] theorem State.raise_queues (s : State) (e : Nat) : (s.raise e).queues = s.queues :=
  (congrArg State.queues (s.raise_eq e)).trans rfl
@[simp] theorem State.raise_tap (s : State) (e : Nat) : (s.raise e).tap = s.tap :=
  (congrArg State.tap (s.raise_eq e)).trans rfl
@[simp] theorem State.raise_pins (s : State) (e : Nat) : (s.raise e).pins = s.pins :=
  (congrArg State.pins (s.raise_eq e)).trans rfl
@[simp] theorem State.raise_streams (s : State) (e : Nat) : (s.raise e).streams = s.streams :=
  (congrArg State.streams (s.raise_eq e)).trans rfl
@[simp] theorem State.raise_stages (s : State) (e : Nat) : (s.raise e).stages = s.stages :=
  (congrArg State.stages (s.raise_eq e)).trans rfl
@[simp] theorem State.raise_recQ (s : State) (e : Nat) : (s.raise e).recQ = s.recQ :=
  (congrArg State.recQ (s.raise_eq e)).trans rfl
@[simp] theorem State.raise_out (s : State) (e : Nat) : (s.raise e).out = s.out :=
  (congrArg State.out (s.raise_eq e)).trans rfl
@[simp] theorem State.raise_freeCtr (s : State) (e : Nat) : (s.raise e).freeCtr = s.freeCtr :=
  (congrArg State.freeCtr (s.raise_eq e)).trans rfl
@[simp] theorem State.raise_pending (s : State) (e : Nat) : (s.raise e).pending = s.pending :=
  (congrArg State.pending (s.raise_eq e)).trans rfl

@[simp] theorem State.lost_mode (s : State) (b : Bool) (a : Nat) : (s.lost b a).mode = s.mode := by cases b <;> rfl
@[simp] theorem State.lost_act (s : State) (b : Bool) (a : Nat) : (s.lost b a).act = s.act := by cases b <;> rfl
@[simp] theorem State.lost_snap (s : State) (b : Bool) (a : Nat) : (s.lost b a).snap = s.snap := by cases b <;> rfl
@[simp] theorem State.lost_refusals (s : State) (b : Bool) (a : Nat) : (s.lost b a).refusals = s.refusals := by cases b <;> rfl
@[simp] theorem State.lost_mem (s : State) (b : Bool) (a : Nat) : (s.lost b a).mem = s.mem := by cases b <;> rfl
@[simp] theorem State.lost_dramEpoch (s : State) (b : Bool) (a : Nat) : (s.lost b a).dramEpoch = s.dramEpoch := by cases b <;> rfl
@[simp] theorem State.lost_tm (s : State) (b : Bool) (a : Nat) : (s.lost b a).tm = s.tm := by cases b <;> rfl
@[simp] theorem State.lost_timers (s : State) (b : Bool) (a : Nat) : (s.lost b a).timers = s.timers := by cases b <;> rfl
@[simp] theorem State.lost_trim (s : State) (b : Bool) (a : Nat) : (s.lost b a).trim = s.trim := by cases b <;> rfl
@[simp] theorem State.lost_ms (s : State) (b : Bool) (a : Nat) : (s.lost b a).ms = s.ms := by cases b <;> rfl
@[simp] theorem State.lost_pcie (s : State) (b : Bool) (a : Nat) : (s.lost b a).pcie = s.pcie := by cases b <;> rfl
@[simp] theorem State.lost_hostReads (s : State) (b : Bool) (a : Nat) : (s.lost b a).hostReads = s.hostReads := by cases b <;> rfl
@[simp] theorem State.lost_chans (s : State) (b : Bool) (a : Nat) : (s.lost b a).chans = s.chans := by cases b <;> rfl
@[simp] theorem State.lost_dma (s : State) (b : Bool) (a : Nat) : (s.lost b a).dma = s.dma := by cases b <;> rfl
@[simp] theorem State.lost_pwr (s : State) (b : Bool) (a : Nat) : (s.lost b a).pwr = s.pwr := by cases b <;> rfl
@[simp] theorem State.lost_peat (s : State) (b : Bool) (a : Nat) : (s.lost b a).peat = s.peat := by cases b <;> rfl
@[simp] theorem State.lost_root (s : State) (b : Bool) (a : Nat) : (s.lost b a).root = s.root := by cases b <;> rfl
@[simp] theorem State.lost_spdm (s : State) (b : Bool) (a : Nat) : (s.lost b a).spdm = s.spdm := by cases b <;> rfl
@[simp] theorem State.lost_runner (s : State) (b : Bool) (a : Nat) : (s.lost b a).runner = s.runner := by cases b <;> rfl
@[simp] theorem State.lost_boot (s : State) (b : Bool) (a : Nat) : (s.lost b a).boot = s.boot := by cases b <;> rfl
@[simp] theorem State.lost_bench (s : State) (b : Bool) (a : Nat) : (s.lost b a).bench = s.bench := by cases b <;> rfl
@[simp] theorem State.lost_engines (s : State) (b : Bool) (a : Nat) : (s.lost b a).engines = s.engines := by cases b <;> rfl
@[simp] theorem State.lost_encs (s : State) (b : Bool) (a : Nat) : (s.lost b a).encs = s.encs := by cases b <;> rfl
@[simp] theorem State.lost_cmpPulse (s : State) (b : Bool) (a : Nat) : (s.lost b a).cmpPulse = s.cmpPulse := by cases b <;> rfl
@[simp] theorem State.lost_cmpNear (s : State) (b : Bool) (a : Nat) : (s.lost b a).cmpNear = s.cmpNear := by cases b <;> rfl
@[simp] theorem State.lost_pts (s : State) (b : Bool) (a : Nat) : (s.lost b a).pts = s.pts := by cases b <;> rfl
@[simp] theorem State.lost_posQ (s : State) (b : Bool) (a : Nat) : (s.lost b a).posQ = s.posQ := by cases b <;> rfl
@[simp] theorem State.lost_imgs (s : State) (b : Bool) (a : Nat) : (s.lost b a).imgs = s.imgs := by cases b <;> rfl
@[simp] theorem State.lost_windows (s : State) (b : Bool) (a : Nat) : (s.lost b a).windows = s.windows := by cases b <;> rfl
@[simp] theorem State.lost_stopScripts (s : State) (b : Bool) (a : Nat) : (s.lost b a).stopScripts = s.stopScripts := by cases b <;> rfl
@[simp] theorem State.lost_prec (s : State) (b : Bool) (a : Nat) : (s.lost b a).prec = s.prec := by cases b <;> rfl
@[simp] theorem State.lost_lamps (s : State) (b : Bool) (a : Nat) : (s.lost b a).lamps = s.lamps := by cases b <;> rfl
@[simp] theorem State.lost_tps (s : State) (b : Bool) (a : Nat) : (s.lost b a).tps = s.tps := by cases b <;> rfl
@[simp] theorem State.lost_axes (s : State) (b : Bool) (a : Nat) : (s.lost b a).axes = s.axes := by cases b <;> rfl
@[simp] theorem State.lost_tickAt (s : State) (b : Bool) (a : Nat) : (s.lost b a).tickAt = s.tickAt := by cases b <;> rfl
@[simp] theorem State.lost_fronds (s : State) (b : Bool) (a : Nat) : (s.lost b a).fronds = s.fronds := by cases b <;> rfl
@[simp] theorem State.lost_queues (s : State) (b : Bool) (a : Nat) : (s.lost b a).queues = s.queues := by cases b <;> rfl
@[simp] theorem State.lost_evPend (s : State) (b : Bool) (a : Nat) : (s.lost b a).evPend = s.evPend := by cases b <;> rfl
@[simp] theorem State.lost_tap (s : State) (b : Bool) (a : Nat) : (s.lost b a).tap = s.tap := by cases b <;> rfl
@[simp] theorem State.lost_pins (s : State) (b : Bool) (a : Nat) : (s.lost b a).pins = s.pins := by cases b <;> rfl
@[simp] theorem State.lost_streams (s : State) (b : Bool) (a : Nat) : (s.lost b a).streams = s.streams := by cases b <;> rfl
@[simp] theorem State.lost_stages (s : State) (b : Bool) (a : Nat) : (s.lost b a).stages = s.stages := by cases b <;> rfl
@[simp] theorem State.lost_recQ (s : State) (b : Bool) (a : Nat) : (s.lost b a).recQ = s.recQ := by cases b <;> rfl
@[simp] theorem State.lost_out (s : State) (b : Bool) (a : Nat) : (s.lost b a).out = s.out := by cases b <;> rfl
@[simp] theorem State.lost_freeCtr (s : State) (b : Bool) (a : Nat) : (s.lost b a).freeCtr = s.freeCtr := by cases b <;> rfl
@[simp] theorem State.lost_pending (s : State) (b : Bool) (a : Nat) : (s.lost b a).pending = s.pending := by cases b <;> rfl

@[simp] theorem State.write_mode (s : State) (a : Nat) (l : List Byte) : (s.write a l).mode = s.mode :=
  (congrArg State.mode (State.write_eq l s a)).trans rfl
@[simp] theorem State.write_regs (s : State) (a : Nat) (l : List Byte) : (s.write a l).regs = s.regs :=
  (congrArg State.regs (State.write_eq l s a)).trans rfl
@[simp] theorem State.write_act (s : State) (a : Nat) (l : List Byte) : (s.write a l).act = s.act :=
  (congrArg State.act (State.write_eq l s a)).trans rfl
@[simp] theorem State.write_snap (s : State) (a : Nat) (l : List Byte) : (s.write a l).snap = s.snap :=
  (congrArg State.snap (State.write_eq l s a)).trans rfl
@[simp] theorem State.write_refusals (s : State) (a : Nat) (l : List Byte) : (s.write a l).refusals = s.refusals :=
  (congrArg State.refusals (State.write_eq l s a)).trans rfl
@[simp] theorem State.write_dramEpoch (s : State) (a : Nat) (l : List Byte) : (s.write a l).dramEpoch = s.dramEpoch :=
  (congrArg State.dramEpoch (State.write_eq l s a)).trans rfl
@[simp] theorem State.write_tm (s : State) (a : Nat) (l : List Byte) : (s.write a l).tm = s.tm :=
  (congrArg State.tm (State.write_eq l s a)).trans rfl
@[simp] theorem State.write_timers (s : State) (a : Nat) (l : List Byte) : (s.write a l).timers = s.timers :=
  (congrArg State.timers (State.write_eq l s a)).trans rfl
@[simp] theorem State.write_trim (s : State) (a : Nat) (l : List Byte) : (s.write a l).trim = s.trim :=
  (congrArg State.trim (State.write_eq l s a)).trans rfl
@[simp] theorem State.write_ms (s : State) (a : Nat) (l : List Byte) : (s.write a l).ms = s.ms :=
  (congrArg State.ms (State.write_eq l s a)).trans rfl
@[simp] theorem State.write_pcie (s : State) (a : Nat) (l : List Byte) : (s.write a l).pcie = s.pcie :=
  (congrArg State.pcie (State.write_eq l s a)).trans rfl
@[simp] theorem State.write_hostReads (s : State) (a : Nat) (l : List Byte) : (s.write a l).hostReads = s.hostReads :=
  (congrArg State.hostReads (State.write_eq l s a)).trans rfl
@[simp] theorem State.write_chans (s : State) (a : Nat) (l : List Byte) : (s.write a l).chans = s.chans :=
  (congrArg State.chans (State.write_eq l s a)).trans rfl
@[simp] theorem State.write_dma (s : State) (a : Nat) (l : List Byte) : (s.write a l).dma = s.dma :=
  (congrArg State.dma (State.write_eq l s a)).trans rfl
@[simp] theorem State.write_pwr (s : State) (a : Nat) (l : List Byte) : (s.write a l).pwr = s.pwr :=
  (congrArg State.pwr (State.write_eq l s a)).trans rfl
@[simp] theorem State.write_peat (s : State) (a : Nat) (l : List Byte) : (s.write a l).peat = s.peat :=
  (congrArg State.peat (State.write_eq l s a)).trans rfl
@[simp] theorem State.write_root (s : State) (a : Nat) (l : List Byte) : (s.write a l).root = s.root :=
  (congrArg State.root (State.write_eq l s a)).trans rfl
@[simp] theorem State.write_spdm (s : State) (a : Nat) (l : List Byte) : (s.write a l).spdm = s.spdm :=
  (congrArg State.spdm (State.write_eq l s a)).trans rfl
@[simp] theorem State.write_runner (s : State) (a : Nat) (l : List Byte) : (s.write a l).runner = s.runner :=
  (congrArg State.runner (State.write_eq l s a)).trans rfl
@[simp] theorem State.write_boot (s : State) (a : Nat) (l : List Byte) : (s.write a l).boot = s.boot :=
  (congrArg State.boot (State.write_eq l s a)).trans rfl
@[simp] theorem State.write_bench (s : State) (a : Nat) (l : List Byte) : (s.write a l).bench = s.bench :=
  (congrArg State.bench (State.write_eq l s a)).trans rfl
@[simp] theorem State.write_engines (s : State) (a : Nat) (l : List Byte) : (s.write a l).engines = s.engines :=
  (congrArg State.engines (State.write_eq l s a)).trans rfl
@[simp] theorem State.write_encs (s : State) (a : Nat) (l : List Byte) : (s.write a l).encs = s.encs :=
  (congrArg State.encs (State.write_eq l s a)).trans rfl
@[simp] theorem State.write_cmpPulse (s : State) (a : Nat) (l : List Byte) : (s.write a l).cmpPulse = s.cmpPulse :=
  (congrArg State.cmpPulse (State.write_eq l s a)).trans rfl
@[simp] theorem State.write_cmpNear (s : State) (a : Nat) (l : List Byte) : (s.write a l).cmpNear = s.cmpNear :=
  (congrArg State.cmpNear (State.write_eq l s a)).trans rfl
@[simp] theorem State.write_pts (s : State) (a : Nat) (l : List Byte) : (s.write a l).pts = s.pts :=
  (congrArg State.pts (State.write_eq l s a)).trans rfl
@[simp] theorem State.write_posQ (s : State) (a : Nat) (l : List Byte) : (s.write a l).posQ = s.posQ :=
  (congrArg State.posQ (State.write_eq l s a)).trans rfl
@[simp] theorem State.write_imgs (s : State) (a : Nat) (l : List Byte) : (s.write a l).imgs = s.imgs :=
  (congrArg State.imgs (State.write_eq l s a)).trans rfl
@[simp] theorem State.write_windows (s : State) (a : Nat) (l : List Byte) : (s.write a l).windows = s.windows :=
  (congrArg State.windows (State.write_eq l s a)).trans rfl
@[simp] theorem State.write_stopScripts (s : State) (a : Nat) (l : List Byte) : (s.write a l).stopScripts = s.stopScripts :=
  (congrArg State.stopScripts (State.write_eq l s a)).trans rfl
@[simp] theorem State.write_prec (s : State) (a : Nat) (l : List Byte) : (s.write a l).prec = s.prec :=
  (congrArg State.prec (State.write_eq l s a)).trans rfl
@[simp] theorem State.write_lamps (s : State) (a : Nat) (l : List Byte) : (s.write a l).lamps = s.lamps :=
  (congrArg State.lamps (State.write_eq l s a)).trans rfl
@[simp] theorem State.write_tps (s : State) (a : Nat) (l : List Byte) : (s.write a l).tps = s.tps :=
  (congrArg State.tps (State.write_eq l s a)).trans rfl
@[simp] theorem State.write_axes (s : State) (a : Nat) (l : List Byte) : (s.write a l).axes = s.axes :=
  (congrArg State.axes (State.write_eq l s a)).trans rfl
@[simp] theorem State.write_tickAt (s : State) (a : Nat) (l : List Byte) : (s.write a l).tickAt = s.tickAt :=
  (congrArg State.tickAt (State.write_eq l s a)).trans rfl
@[simp] theorem State.write_fronds (s : State) (a : Nat) (l : List Byte) : (s.write a l).fronds = s.fronds :=
  (congrArg State.fronds (State.write_eq l s a)).trans rfl
@[simp] theorem State.write_queues (s : State) (a : Nat) (l : List Byte) : (s.write a l).queues = s.queues :=
  (congrArg State.queues (State.write_eq l s a)).trans rfl
@[simp] theorem State.write_evPend (s : State) (a : Nat) (l : List Byte) : (s.write a l).evPend = s.evPend :=
  (congrArg State.evPend (State.write_eq l s a)).trans rfl
@[simp] theorem State.write_tap (s : State) (a : Nat) (l : List Byte) : (s.write a l).tap = s.tap :=
  (congrArg State.tap (State.write_eq l s a)).trans rfl
@[simp] theorem State.write_pins (s : State) (a : Nat) (l : List Byte) : (s.write a l).pins = s.pins :=
  (congrArg State.pins (State.write_eq l s a)).trans rfl
@[simp] theorem State.write_streams (s : State) (a : Nat) (l : List Byte) : (s.write a l).streams = s.streams :=
  (congrArg State.streams (State.write_eq l s a)).trans rfl
@[simp] theorem State.write_stages (s : State) (a : Nat) (l : List Byte) : (s.write a l).stages = s.stages :=
  (congrArg State.stages (State.write_eq l s a)).trans rfl
@[simp] theorem State.write_recQ (s : State) (a : Nat) (l : List Byte) : (s.write a l).recQ = s.recQ :=
  (congrArg State.recQ (State.write_eq l s a)).trans rfl
@[simp] theorem State.write_out (s : State) (a : Nat) (l : List Byte) : (s.write a l).out = s.out :=
  (congrArg State.out (State.write_eq l s a)).trans rfl
@[simp] theorem State.write_freeCtr (s : State) (a : Nat) (l : List Byte) : (s.write a l).freeCtr = s.freeCtr :=
  (congrArg State.freeCtr (State.write_eq l s a)).trans rfl
@[simp] theorem State.write_pending (s : State) (a : Nat) (l : List Byte) : (s.write a l).pending = s.pending :=
  (congrArg State.pending (State.write_eq l s a)).trans rfl

end Sys2Proof.Machine
end

