-- ==== Sys2Proof/Laws/Units.lean ====
section
/-!
SUPPORT. The tables of units: what reading a unit gives after one was replaced, and what replacing one leaves.
-/

namespace Sys2Proof.Machine

/-- Fields that two states have in common when only a unit was replaced. -/
theorem State.reg_of_regs {s t : State} (h : t.regs = s.regs) (a : Nat) : t.reg a = s.reg a := by
  unfold State.reg
  rw [h]

theorem State.enc_setEnc (s : State) (n k : Nat) (x : EncSt) :
    (s.setEnc n x).enc k = if k = n then x else s.enc k := by
  split
  · rename_i h; subst h; exact Sparse.get_put_self _ _ _ _
  · rename_i h; exact Sparse.get_put_ne _ _ _ h

@[simp] theorem State.enc_setEnc_self (s : State) (n : Nat) (x : EncSt) : (s.setEnc n x).enc n = x := by
  rw [State.enc_setEnc, if_pos rfl]

@[simp] theorem State.reg_setEnc (s : State) (n a : Nat) (x : EncSt) : (s.setEnc n x).reg a = s.reg a := rfl
@[simp] theorem State.inForce_setEnc (s : State) (n a : Nat) (x :
    EncSt) : (s.setEnc n x).inForce a = s.inForce a := rfl
@[simp] theorem State.setEnc_regs (s : State) (n : Nat) (x : EncSt) : (s.setEnc n x).regs = s.regs := rfl
@[simp] theorem State.setEnc_act (s : State) (n : Nat) (x : EncSt) : (s.setEnc n x).act = s.act := rfl
@[simp] theorem State.setEnc_mem (s : State) (n : Nat) (x : EncSt) : (s.setEnc n x).mem = s.mem := rfl
@[simp] theorem State.setEnc_dramEpoch (s : State) (n : Nat) (x :
    EncSt) : (s.setEnc n x).dramEpoch = s.dramEpoch := rfl
@[simp] theorem State.setEnc_freeCtr (s : State) (n : Nat) (x : EncSt) : (s.setEnc n x).freeCtr = s.freeCtr := rfl
@[simp] theorem State.setEnc_mode (s : State) (n : Nat) (x : EncSt) : (s.setEnc n x).mode = s.mode := rfl
@[simp] theorem State.setEnc_tm (s : State) (n : Nat) (x : EncSt) : (s.setEnc n x).tm = s.tm := rfl
@[simp] theorem State.setEnc_pwr (s : State) (n : Nat) (x : EncSt) : (s.setEnc n x).pwr = s.pwr := rfl
@[simp] theorem State.setEnc_root (s : State) (n : Nat) (x : EncSt) : (s.setEnc n x).root = s.root := rfl
@[simp] theorem State.setEnc_evPend (s : State) (n : Nat) (x : EncSt) : (s.setEnc n x).evPend = s.evPend := rfl
@[simp] theorem State.setEnc_out (s : State) (n : Nat) (x : EncSt) : (s.setEnc n x).out = s.out := rfl
@[simp] theorem State.setEnc_pending (s : State) (n : Nat) (x : EncSt) : (s.setEnc n x).pending = s.pending := rfl

theorem State.pt_setPt (s : State) (n k : Nat) (x : PtSt) :
    (s.setPt n x).pt k = if k = n then x else s.pt k := by
  split
  · rename_i h; subst h; exact Sparse.get_put_self _ _ _ _
  · rename_i h; exact Sparse.get_put_ne _ _ _ h

@[simp] theorem State.pt_setPt_self (s : State) (n : Nat) (x : PtSt) : (s.setPt n x).pt n = x := by
  rw [State.pt_setPt, if_pos rfl]

@[simp] theorem State.reg_setPt (s : State) (n a : Nat) (x : PtSt) : (s.setPt n x).reg a = s.reg a := rfl
@[simp] theorem State.inForce_setPt (s : State) (n a : Nat) (x : PtSt) : (s.setPt n x).inForce a = s.inForce a := rfl
@[simp] theorem State.setPt_regs (s : State) (n : Nat) (x : PtSt) : (s.setPt n x).regs = s.regs := rfl
@[simp] theorem State.setPt_act (s : State) (n : Nat) (x : PtSt) : (s.setPt n x).act = s.act := rfl
@[simp] theorem State.setPt_mem (s : State) (n : Nat) (x : PtSt) : (s.setPt n x).mem = s.mem := rfl
@[simp] theorem State.setPt_dramEpoch (s : State) (n : Nat) (x : PtSt) : (s.setPt n x).dramEpoch = s.dramEpoch := rfl
@[simp] theorem State.setPt_freeCtr (s : State) (n : Nat) (x : PtSt) : (s.setPt n x).freeCtr = s.freeCtr := rfl
@[simp] theorem State.setPt_mode (s : State) (n : Nat) (x : PtSt) : (s.setPt n x).mode = s.mode := rfl
@[simp] theorem State.setPt_tm (s : State) (n : Nat) (x : PtSt) : (s.setPt n x).tm = s.tm := rfl
@[simp] theorem State.setPt_pwr (s : State) (n : Nat) (x : PtSt) : (s.setPt n x).pwr = s.pwr := rfl
@[simp] theorem State.setPt_root (s : State) (n : Nat) (x : PtSt) : (s.setPt n x).root = s.root := rfl
@[simp] theorem State.setPt_evPend (s : State) (n : Nat) (x : PtSt) : (s.setPt n x).evPend = s.evPend := rfl
@[simp] theorem State.setPt_out (s : State) (n : Nat) (x : PtSt) : (s.setPt n x).out = s.out := rfl
@[simp] theorem State.setPt_pending (s : State) (n : Nat) (x : PtSt) : (s.setPt n x).pending = s.pending := rfl

theorem State.posItems_setPosItems (s : State) (n k : Nat) (x : List PosItem) :
    (s.setPosItems n x).posItems k = if k = n then x else s.posItems k := by
  split
  · rename_i h; subst h; exact Sparse.get_put_self _ _ _ _
  · rename_i h; exact Sparse.get_put_ne _ _ _ h

@[simp] theorem State.posItems_setPosItems_self (s : State) (n :
    Nat) (x : List PosItem) : (s.setPosItems n x).posItems n = x := by
  rw [State.posItems_setPosItems, if_pos rfl]

@[simp] theorem State.reg_setPosItems (s : State) (n a : Nat) (x :
    List PosItem) : (s.setPosItems n x).reg a = s.reg a := rfl
@[simp] theorem State.inForce_setPosItems (s : State) (n a : Nat) (x :
    List PosItem) : (s.setPosItems n x).inForce a = s.inForce a := rfl
@[simp] theorem State.setPosItems_regs (s : State) (n : Nat) (x :
    List PosItem) : (s.setPosItems n x).regs = s.regs := rfl
@[simp] theorem State.setPosItems_act (s : State) (n : Nat) (x :
    List PosItem) : (s.setPosItems n x).act = s.act := rfl
@[simp] theorem State.setPosItems_mem (s : State) (n : Nat) (x :
    List PosItem) : (s.setPosItems n x).mem = s.mem := rfl
@[simp] theorem State.setPosItems_dramEpoch (s : State) (n : Nat) (x :
    List PosItem) : (s.setPosItems n x).dramEpoch = s.dramEpoch := rfl
@[simp] theorem State.setPosItems_freeCtr (s : State) (n : Nat) (x :
    List PosItem) : (s.setPosItems n x).freeCtr = s.freeCtr := rfl
@[simp] theorem State.setPosItems_mode (s : State) (n : Nat) (x :
    List PosItem) : (s.setPosItems n x).mode = s.mode := rfl
@[simp] theorem State.setPosItems_tm (s : State) (n : Nat) (x : List PosItem) : (s.setPosItems n x).tm = s.tm := rfl
@[simp] theorem State.setPosItems_pwr (s : State) (n : Nat) (x :
    List PosItem) : (s.setPosItems n x).pwr = s.pwr := rfl
@[simp] theorem State.setPosItems_root (s : State) (n : Nat) (x :
    List PosItem) : (s.setPosItems n x).root = s.root := rfl
@[simp] theorem State.setPosItems_evPend (s : State) (n : Nat) (x :
    List PosItem) : (s.setPosItems n x).evPend = s.evPend := rfl
@[simp] theorem State.setPosItems_out (s : State) (n : Nat) (x :
    List PosItem) : (s.setPosItems n x).out = s.out := rfl
@[simp] theorem State.setPosItems_pending (s : State) (n : Nat) (x :
    List PosItem) : (s.setPosItems n x).pending = s.pending := rfl

theorem State.imgSt_setImg (s : State) (n k : Nat) (x : ImgSt) :
    (s.setImg n x).imgSt k = if k = n then x else s.imgSt k := by
  split
  · rename_i h; subst h; exact Sparse.get_put_self _ _ _ _
  · rename_i h; exact Sparse.get_put_ne _ _ _ h

@[simp] theorem State.imgSt_setImg_self (s : State) (n : Nat) (x : ImgSt) : (s.setImg n x).imgSt n = x := by
  rw [State.imgSt_setImg, if_pos rfl]

@[simp] theorem State.reg_setImg (s : State) (n a : Nat) (x : ImgSt) : (s.setImg n x).reg a = s.reg a := rfl
@[simp] theorem State.inForce_setImg (s : State) (n a : Nat) (x :
    ImgSt) : (s.setImg n x).inForce a = s.inForce a := rfl
@[simp] theorem State.setImg_regs (s : State) (n : Nat) (x : ImgSt) : (s.setImg n x).regs = s.regs := rfl
@[simp] theorem State.setImg_act (s : State) (n : Nat) (x : ImgSt) : (s.setImg n x).act = s.act := rfl
@[simp] theorem State.setImg_mem (s : State) (n : Nat) (x : ImgSt) : (s.setImg n x).mem = s.mem := rfl
@[simp] theorem State.setImg_dramEpoch (s : State) (n : Nat) (x :
    ImgSt) : (s.setImg n x).dramEpoch = s.dramEpoch := rfl
@[simp] theorem State.setImg_freeCtr (s : State) (n : Nat) (x : ImgSt) : (s.setImg n x).freeCtr = s.freeCtr := rfl
@[simp] theorem State.setImg_mode (s : State) (n : Nat) (x : ImgSt) : (s.setImg n x).mode = s.mode := rfl
@[simp] theorem State.setImg_tm (s : State) (n : Nat) (x : ImgSt) : (s.setImg n x).tm = s.tm := rfl
@[simp] theorem State.setImg_pwr (s : State) (n : Nat) (x : ImgSt) : (s.setImg n x).pwr = s.pwr := rfl
@[simp] theorem State.setImg_root (s : State) (n : Nat) (x : ImgSt) : (s.setImg n x).root = s.root := rfl
@[simp] theorem State.setImg_evPend (s : State) (n : Nat) (x : ImgSt) : (s.setImg n x).evPend = s.evPend := rfl
@[simp] theorem State.setImg_out (s : State) (n : Nat) (x : ImgSt) : (s.setImg n x).out = s.out := rfl
@[simp] theorem State.setImg_pending (s : State) (n : Nat) (x : ImgSt) : (s.setImg n x).pending = s.pending := rfl

theorem State.chan_setChan (s : State) (n k : Nat) (x : Chan) :
    (s.setChan n x).chan k = if k = n then x else s.chan k := by
  split
  · rename_i h; subst h; exact Sparse.get_put_self _ _ _ _
  · rename_i h; exact Sparse.get_put_ne _ _ _ h

@[simp] theorem State.chan_setChan_self (s : State) (n : Nat) (x : Chan) : (s.setChan n x).chan n = x := by
  rw [State.chan_setChan, if_pos rfl]

@[simp] theorem State.reg_setChan (s : State) (n a : Nat) (x : Chan) : (s.setChan n x).reg a = s.reg a := rfl
@[simp] theorem State.inForce_setChan (s : State) (n a : Nat) (x :
    Chan) : (s.setChan n x).inForce a = s.inForce a := rfl
@[simp] theorem State.setChan_regs (s : State) (n : Nat) (x : Chan) : (s.setChan n x).regs = s.regs := rfl
@[simp] theorem State.setChan_act (s : State) (n : Nat) (x : Chan) : (s.setChan n x).act = s.act := rfl
@[simp] theorem State.setChan_mem (s : State) (n : Nat) (x : Chan) : (s.setChan n x).mem = s.mem := rfl
@[simp] theorem State.setChan_dramEpoch (s : State) (n : Nat) (x :
    Chan) : (s.setChan n x).dramEpoch = s.dramEpoch := rfl
@[simp] theorem State.setChan_freeCtr (s : State) (n : Nat) (x : Chan) : (s.setChan n x).freeCtr = s.freeCtr := rfl
@[simp] theorem State.setChan_mode (s : State) (n : Nat) (x : Chan) : (s.setChan n x).mode = s.mode := rfl
@[simp] theorem State.setChan_tm (s : State) (n : Nat) (x : Chan) : (s.setChan n x).tm = s.tm := rfl
@[simp] theorem State.setChan_pwr (s : State) (n : Nat) (x : Chan) : (s.setChan n x).pwr = s.pwr := rfl
@[simp] theorem State.setChan_root (s : State) (n : Nat) (x : Chan) : (s.setChan n x).root = s.root := rfl
@[simp] theorem State.setChan_evPend (s : State) (n : Nat) (x : Chan) : (s.setChan n x).evPend = s.evPend := rfl
@[simp] theorem State.setChan_out (s : State) (n : Nat) (x : Chan) : (s.setChan n x).out = s.out := rfl
@[simp] theorem State.setChan_pending (s : State) (n : Nat) (x : Chan) : (s.setChan n x).pending = s.pending := rfl

theorem State.frond_setFrond (s : State) (n k : Nat) (x : FrondSt) :
    (s.setFrond n x).frond k = if k = n then x else s.frond k := by
  split
  · rename_i h; subst h; exact Sparse.get_put_self _ _ _ _
  · rename_i h; exact Sparse.get_put_ne _ _ _ h

@[simp] theorem State.frond_setFrond_self (s : State) (n : Nat) (x : FrondSt) : (s.setFrond n x).frond n = x := by
  rw [State.frond_setFrond, if_pos rfl]

@[simp] theorem State.reg_setFrond (s : State) (n a : Nat) (x : FrondSt) : (s.setFrond n x).reg a = s.reg a := rfl
@[simp] theorem State.inForce_setFrond (s : State) (n a : Nat) (x :
    FrondSt) : (s.setFrond n x).inForce a = s.inForce a := rfl
@[simp] theorem State.setFrond_regs (s : State) (n : Nat) (x : FrondSt) : (s.setFrond n x).regs = s.regs := rfl
@[simp] theorem State.setFrond_act (s : State) (n : Nat) (x : FrondSt) : (s.setFrond n x).act = s.act := rfl
@[simp] theorem State.setFrond_mem (s : State) (n : Nat) (x : FrondSt) : (s.setFrond n x).mem = s.mem := rfl
@[simp] theorem State.setFrond_dramEpoch (s : State) (n : Nat) (x :
    FrondSt) : (s.setFrond n x).dramEpoch = s.dramEpoch := rfl
@[simp] theorem State.setFrond_freeCtr (s : State) (n : Nat) (x :
    FrondSt) : (s.setFrond n x).freeCtr = s.freeCtr := rfl
@[simp] theorem State.setFrond_mode (s : State) (n : Nat) (x : FrondSt) : (s.setFrond n x).mode = s.mode := rfl
@[simp] theorem State.setFrond_tm (s : State) (n : Nat) (x : FrondSt) : (s.setFrond n x).tm = s.tm := rfl
@[simp] theorem State.setFrond_pwr (s : State) (n : Nat) (x : FrondSt) : (s.setFrond n x).pwr = s.pwr := rfl
@[simp] theorem State.setFrond_root (s : State) (n : Nat) (x : FrondSt) : (s.setFrond n x).root = s.root := rfl
@[simp] theorem State.setFrond_evPend (s : State) (n : Nat) (x : FrondSt) : (s.setFrond n x).evPend = s.evPend := rfl
@[simp] theorem State.setFrond_out (s : State) (n : Nat) (x : FrondSt) : (s.setFrond n x).out = s.out := rfl
@[simp] theorem State.setFrond_pending (s : State) (n : Nat) (x :
    FrondSt) : (s.setFrond n x).pending = s.pending := rfl

theorem State.lamp_setLamp (s : State) (n k : Nat) (x : LampSt) :
    (s.setLamp n x).lamp k = if k = n then x else s.lamp k := by
  split
  · rename_i h; subst h; exact Sparse.get_put_self _ _ _ _
  · rename_i h; exact Sparse.get_put_ne _ _ _ h

@[simp] theorem State.lamp_setLamp_self (s : State) (n : Nat) (x : LampSt) : (s.setLamp n x).lamp n = x := by
  rw [State.lamp_setLamp, if_pos rfl]

@[simp] theorem State.reg_setLamp (s : State) (n a : Nat) (x : LampSt) : (s.setLamp n x).reg a = s.reg a := rfl
@[simp] theorem State.inForce_setLamp (s : State) (n a : Nat) (x :
    LampSt) : (s.setLamp n x).inForce a = s.inForce a := rfl
@[simp] theorem State.setLamp_regs (s : State) (n : Nat) (x : LampSt) : (s.setLamp n x).regs = s.regs := rfl
@[simp] theorem State.setLamp_act (s : State) (n : Nat) (x : LampSt) : (s.setLamp n x).act = s.act := rfl
@[simp] theorem State.setLamp_mem (s : State) (n : Nat) (x : LampSt) : (s.setLamp n x).mem = s.mem := rfl
@[simp] theorem State.setLamp_dramEpoch (s : State) (n : Nat) (x :
    LampSt) : (s.setLamp n x).dramEpoch = s.dramEpoch := rfl
@[simp] theorem State.setLamp_freeCtr (s : State) (n : Nat) (x : LampSt) : (s.setLamp n x).freeCtr = s.freeCtr := rfl
@[simp] theorem State.setLamp_mode (s : State) (n : Nat) (x : LampSt) : (s.setLamp n x).mode = s.mode := rfl
@[simp] theorem State.setLamp_tm (s : State) (n : Nat) (x : LampSt) : (s.setLamp n x).tm = s.tm := rfl
@[simp] theorem State.setLamp_pwr (s : State) (n : Nat) (x : LampSt) : (s.setLamp n x).pwr = s.pwr := rfl
@[simp] theorem State.setLamp_root (s : State) (n : Nat) (x : LampSt) : (s.setLamp n x).root = s.root := rfl
@[simp] theorem State.setLamp_evPend (s : State) (n : Nat) (x : LampSt) : (s.setLamp n x).evPend = s.evPend := rfl
@[simp] theorem State.setLamp_out (s : State) (n : Nat) (x : LampSt) : (s.setLamp n x).out = s.out := rfl
@[simp] theorem State.setLamp_pending (s : State) (n : Nat) (x : LampSt) : (s.setLamp n x).pending = s.pending := rfl

theorem State.axis_setAxis (s : State) (n k : Nat) (x : AxisSt) :
    (s.setAxis n x).axis k = if k = n then x else s.axis k := by
  split
  · rename_i h; subst h; exact Sparse.get_put_self _ _ _ _
  · rename_i h; exact Sparse.get_put_ne _ _ _ h

@[simp] theorem State.axis_setAxis_self (s : State) (n : Nat) (x : AxisSt) : (s.setAxis n x).axis n = x := by
  rw [State.axis_setAxis, if_pos rfl]

@[simp] theorem State.reg_setAxis (s : State) (n a : Nat) (x : AxisSt) : (s.setAxis n x).reg a = s.reg a := rfl
@[simp] theorem State.inForce_setAxis (s : State) (n a : Nat) (x :
    AxisSt) : (s.setAxis n x).inForce a = s.inForce a := rfl
@[simp] theorem State.setAxis_regs (s : State) (n : Nat) (x : AxisSt) : (s.setAxis n x).regs = s.regs := rfl
@[simp] theorem State.setAxis_act (s : State) (n : Nat) (x : AxisSt) : (s.setAxis n x).act = s.act := rfl
@[simp] theorem State.setAxis_mem (s : State) (n : Nat) (x : AxisSt) : (s.setAxis n x).mem = s.mem := rfl
@[simp] theorem State.setAxis_dramEpoch (s : State) (n : Nat) (x :
    AxisSt) : (s.setAxis n x).dramEpoch = s.dramEpoch := rfl
@[simp] theorem State.setAxis_freeCtr (s : State) (n : Nat) (x : AxisSt) : (s.setAxis n x).freeCtr = s.freeCtr := rfl
@[simp] theorem State.setAxis_mode (s : State) (n : Nat) (x : AxisSt) : (s.setAxis n x).mode = s.mode := rfl
@[simp] theorem State.setAxis_tm (s : State) (n : Nat) (x : AxisSt) : (s.setAxis n x).tm = s.tm := rfl
@[simp] theorem State.setAxis_pwr (s : State) (n : Nat) (x : AxisSt) : (s.setAxis n x).pwr = s.pwr := rfl
@[simp] theorem State.setAxis_root (s : State) (n : Nat) (x : AxisSt) : (s.setAxis n x).root = s.root := rfl
@[simp] theorem State.setAxis_evPend (s : State) (n : Nat) (x : AxisSt) : (s.setAxis n x).evPend = s.evPend := rfl
@[simp] theorem State.setAxis_out (s : State) (n : Nat) (x : AxisSt) : (s.setAxis n x).out = s.out := rfl
@[simp] theorem State.setAxis_pending (s : State) (n : Nat) (x : AxisSt) : (s.setAxis n x).pending = s.pending := rfl

theorem State.mod_setMod (s : State) (n k : Nat) (x : ModSt) :
    (s.setMod n x).mod k = if k = n then x else s.mod k := by
  split
  · rename_i h; subst h; exact Sparse.get_put_self _ _ _ _
  · rename_i h; exact Sparse.get_put_ne _ _ _ h

@[simp] theorem State.mod_setMod_self (s : State) (n : Nat) (x : ModSt) : (s.setMod n x).mod n = x := by
  rw [State.mod_setMod, if_pos rfl]

@[simp] theorem State.reg_setMod (s : State) (n a : Nat) (x : ModSt) : (s.setMod n x).reg a = s.reg a := rfl
@[simp] theorem State.inForce_setMod (s : State) (n a : Nat) (x :
    ModSt) : (s.setMod n x).inForce a = s.inForce a := rfl
@[simp] theorem State.setMod_regs (s : State) (n : Nat) (x : ModSt) : (s.setMod n x).regs = s.regs := rfl
@[simp] theorem State.setMod_act (s : State) (n : Nat) (x : ModSt) : (s.setMod n x).act = s.act := rfl
@[simp] theorem State.setMod_mem (s : State) (n : Nat) (x : ModSt) : (s.setMod n x).mem = s.mem := rfl
@[simp] theorem State.setMod_dramEpoch (s : State) (n : Nat) (x :
    ModSt) : (s.setMod n x).dramEpoch = s.dramEpoch := rfl
@[simp] theorem State.setMod_freeCtr (s : State) (n : Nat) (x : ModSt) : (s.setMod n x).freeCtr = s.freeCtr := rfl
@[simp] theorem State.setMod_mode (s : State) (n : Nat) (x : ModSt) : (s.setMod n x).mode = s.mode := rfl
@[simp] theorem State.setMod_tm (s : State) (n : Nat) (x : ModSt) : (s.setMod n x).tm = s.tm := rfl
@[simp] theorem State.setMod_pwr (s : State) (n : Nat) (x : ModSt) : (s.setMod n x).pwr = s.pwr := rfl
@[simp] theorem State.setMod_root (s : State) (n : Nat) (x : ModSt) : (s.setMod n x).root = s.root := rfl
@[simp] theorem State.setMod_evPend (s : State) (n : Nat) (x : ModSt) : (s.setMod n x).evPend = s.evPend := rfl
@[simp] theorem State.setMod_out (s : State) (n : Nat) (x : ModSt) : (s.setMod n x).out = s.out := rfl
@[simp] theorem State.setMod_pending (s : State) (n : Nat) (x : ModSt) : (s.setMod n x).pending = s.pending := rfl

theorem State.meas_setMeas (s : State) (n k : Nat) (x : MeasSt) :
    (s.setMeas n x).meas k = if k = n then x else s.meas k := by
  split
  · rename_i h; subst h; exact Sparse.get_put_self _ _ _ _
  · rename_i h; exact Sparse.get_put_ne _ _ _ h

@[simp] theorem State.meas_setMeas_self (s : State) (n : Nat) (x : MeasSt) : (s.setMeas n x).meas n = x := by
  rw [State.meas_setMeas, if_pos rfl]

@[simp] theorem State.reg_setMeas (s : State) (n a : Nat) (x : MeasSt) : (s.setMeas n x).reg a = s.reg a := rfl
@[simp] theorem State.inForce_setMeas (s : State) (n a : Nat) (x :
    MeasSt) : (s.setMeas n x).inForce a = s.inForce a := rfl
@[simp] theorem State.setMeas_regs (s : State) (n : Nat) (x : MeasSt) : (s.setMeas n x).regs = s.regs := rfl
@[simp] theorem State.setMeas_act (s : State) (n : Nat) (x : MeasSt) : (s.setMeas n x).act = s.act := rfl
@[simp] theorem State.setMeas_mem (s : State) (n : Nat) (x : MeasSt) : (s.setMeas n x).mem = s.mem := rfl
@[simp] theorem State.setMeas_dramEpoch (s : State) (n : Nat) (x :
    MeasSt) : (s.setMeas n x).dramEpoch = s.dramEpoch := rfl
@[simp] theorem State.setMeas_freeCtr (s : State) (n : Nat) (x : MeasSt) : (s.setMeas n x).freeCtr = s.freeCtr := rfl
@[simp] theorem State.setMeas_mode (s : State) (n : Nat) (x : MeasSt) : (s.setMeas n x).mode = s.mode := rfl
@[simp] theorem State.setMeas_tm (s : State) (n : Nat) (x : MeasSt) : (s.setMeas n x).tm = s.tm := rfl
@[simp] theorem State.setMeas_pwr (s : State) (n : Nat) (x : MeasSt) : (s.setMeas n x).pwr = s.pwr := rfl
@[simp] theorem State.setMeas_root (s : State) (n : Nat) (x : MeasSt) : (s.setMeas n x).root = s.root := rfl
@[simp] theorem State.setMeas_evPend (s : State) (n : Nat) (x : MeasSt) : (s.setMeas n x).evPend = s.evPend := rfl
@[simp] theorem State.setMeas_out (s : State) (n : Nat) (x : MeasSt) : (s.setMeas n x).out = s.out := rfl
@[simp] theorem State.setMeas_pending (s : State) (n : Nat) (x : MeasSt) : (s.setMeas n x).pending = s.pending := rfl

theorem State.loop_setLoop (s : State) (n k : Nat) (x : LoopSt) :
    (s.setLoop n x).loop k = if k = n then x else s.loop k := by
  split
  · rename_i h; subst h; exact Sparse.get_put_self _ _ _ _
  · rename_i h; exact Sparse.get_put_ne _ _ _ h

@[simp] theorem State.loop_setLoop_self (s : State) (n : Nat) (x : LoopSt) : (s.setLoop n x).loop n = x := by
  rw [State.loop_setLoop, if_pos rfl]

@[simp] theorem State.reg_setLoop (s : State) (n a : Nat) (x : LoopSt) : (s.setLoop n x).reg a = s.reg a := rfl
@[simp] theorem State.inForce_setLoop (s : State) (n a : Nat) (x :
    LoopSt) : (s.setLoop n x).inForce a = s.inForce a := rfl
@[simp] theorem State.setLoop_regs (s : State) (n : Nat) (x : LoopSt) : (s.setLoop n x).regs = s.regs := rfl
@[simp] theorem State.setLoop_act (s : State) (n : Nat) (x : LoopSt) : (s.setLoop n x).act = s.act := rfl
@[simp] theorem State.setLoop_mem (s : State) (n : Nat) (x : LoopSt) : (s.setLoop n x).mem = s.mem := rfl
@[simp] theorem State.setLoop_dramEpoch (s : State) (n : Nat) (x :
    LoopSt) : (s.setLoop n x).dramEpoch = s.dramEpoch := rfl
@[simp] theorem State.setLoop_freeCtr (s : State) (n : Nat) (x : LoopSt) : (s.setLoop n x).freeCtr = s.freeCtr := rfl
@[simp] theorem State.setLoop_mode (s : State) (n : Nat) (x : LoopSt) : (s.setLoop n x).mode = s.mode := rfl
@[simp] theorem State.setLoop_tm (s : State) (n : Nat) (x : LoopSt) : (s.setLoop n x).tm = s.tm := rfl
@[simp] theorem State.setLoop_pwr (s : State) (n : Nat) (x : LoopSt) : (s.setLoop n x).pwr = s.pwr := rfl
@[simp] theorem State.setLoop_root (s : State) (n : Nat) (x : LoopSt) : (s.setLoop n x).root = s.root := rfl
@[simp] theorem State.setLoop_evPend (s : State) (n : Nat) (x : LoopSt) : (s.setLoop n x).evPend = s.evPend := rfl
@[simp] theorem State.setLoop_out (s : State) (n : Nat) (x : LoopSt) : (s.setLoop n x).out = s.out := rfl
@[simp] theorem State.setLoop_pending (s : State) (n : Nat) (x : LoopSt) : (s.setLoop n x).pending = s.pending := rfl

theorem State.link_setLink (s : State) (n k : Nat) (x : LinkSt) :
    (s.setLink n x).link k = if k = n then x else s.link k := by
  split
  · rename_i h; subst h; exact Sparse.get_put_self _ _ _ _
  · rename_i h; exact Sparse.get_put_ne _ _ _ h

@[simp] theorem State.link_setLink_self (s : State) (n : Nat) (x : LinkSt) : (s.setLink n x).link n = x := by
  rw [State.link_setLink, if_pos rfl]

@[simp] theorem State.reg_setLink (s : State) (n a : Nat) (x : LinkSt) : (s.setLink n x).reg a = s.reg a := rfl
@[simp] theorem State.inForce_setLink (s : State) (n a : Nat) (x :
    LinkSt) : (s.setLink n x).inForce a = s.inForce a := rfl
@[simp] theorem State.setLink_regs (s : State) (n : Nat) (x : LinkSt) : (s.setLink n x).regs = s.regs := rfl
@[simp] theorem State.setLink_act (s : State) (n : Nat) (x : LinkSt) : (s.setLink n x).act = s.act := rfl
@[simp] theorem State.setLink_mem (s : State) (n : Nat) (x : LinkSt) : (s.setLink n x).mem = s.mem := rfl
@[simp] theorem State.setLink_dramEpoch (s : State) (n : Nat) (x :
    LinkSt) : (s.setLink n x).dramEpoch = s.dramEpoch := rfl
@[simp] theorem State.setLink_freeCtr (s : State) (n : Nat) (x : LinkSt) : (s.setLink n x).freeCtr = s.freeCtr := rfl
@[simp] theorem State.setLink_mode (s : State) (n : Nat) (x : LinkSt) : (s.setLink n x).mode = s.mode := rfl
@[simp] theorem State.setLink_tm (s : State) (n : Nat) (x : LinkSt) : (s.setLink n x).tm = s.tm := rfl
@[simp] theorem State.setLink_pwr (s : State) (n : Nat) (x : LinkSt) : (s.setLink n x).pwr = s.pwr := rfl
@[simp] theorem State.setLink_root (s : State) (n : Nat) (x : LinkSt) : (s.setLink n x).root = s.root := rfl
@[simp] theorem State.setLink_evPend (s : State) (n : Nat) (x : LinkSt) : (s.setLink n x).evPend = s.evPend := rfl
@[simp] theorem State.setLink_out (s : State) (n : Nat) (x : LinkSt) : (s.setLink n x).out = s.out := rfl
@[simp] theorem State.setLink_pending (s : State) (n : Nat) (x : LinkSt) : (s.setLink n x).pending = s.pending := rfl

theorem State.engine_setEngine (s : State) (n k : Nat) (x : Engine) :
    (s.setEngine n x).engine k = if k = n then x else s.engine k := by
  split
  · rename_i h; subst h; exact Sparse.get_put_self _ _ _ _
  · rename_i h; exact Sparse.get_put_ne _ _ _ h

@[simp] theorem State.engine_setEngine_self (s : State) (n : Nat) (x : Engine) : (s.setEngine n x).engine n = x := by
  rw [State.engine_setEngine, if_pos rfl]

@[simp] theorem State.reg_setEngine (s : State) (n a : Nat) (x : Engine) : (s.setEngine n x).reg a = s.reg a := rfl
@[simp] theorem State.inForce_setEngine (s : State) (n a : Nat) (x :
    Engine) : (s.setEngine n x).inForce a = s.inForce a := rfl
@[simp] theorem State.setEngine_regs (s : State) (n : Nat) (x : Engine) : (s.setEngine n x).regs = s.regs := rfl
@[simp] theorem State.setEngine_act (s : State) (n : Nat) (x : Engine) : (s.setEngine n x).act = s.act := rfl
@[simp] theorem State.setEngine_mem (s : State) (n : Nat) (x : Engine) : (s.setEngine n x).mem = s.mem := rfl
@[simp] theorem State.setEngine_dramEpoch (s : State) (n : Nat) (x :
    Engine) : (s.setEngine n x).dramEpoch = s.dramEpoch := rfl
@[simp] theorem State.setEngine_freeCtr (s : State) (n : Nat) (x :
    Engine) : (s.setEngine n x).freeCtr = s.freeCtr := rfl
@[simp] theorem State.setEngine_mode (s : State) (n : Nat) (x : Engine) : (s.setEngine n x).mode = s.mode := rfl
@[simp] theorem State.setEngine_tm (s : State) (n : Nat) (x : Engine) : (s.setEngine n x).tm = s.tm := rfl
@[simp] theorem State.setEngine_pwr (s : State) (n : Nat) (x : Engine) : (s.setEngine n x).pwr = s.pwr := rfl
@[simp] theorem State.setEngine_root (s : State) (n : Nat) (x : Engine) : (s.setEngine n x).root = s.root := rfl
@[simp] theorem State.setEngine_evPend (s : State) (n : Nat) (x : Engine) : (s.setEngine n x).evPend = s.evPend := rfl
@[simp] theorem State.setEngine_out (s : State) (n : Nat) (x : Engine) : (s.setEngine n x).out = s.out := rfl
@[simp] theorem State.setEngine_pending (s : State) (n : Nat) (x :
    Engine) : (s.setEngine n x).pending = s.pending := rfl

theorem State.stage_setStage (s : State) (n k : Nat) (x : StageSt) :
    (s.setStage n x).stage k = if k = n then x else s.stage k := by
  split
  · rename_i h; subst h; exact Sparse.get_put_self _ _ _ _
  · rename_i h; exact Sparse.get_put_ne _ _ _ h

@[simp] theorem State.stage_setStage_self (s : State) (n : Nat) (x : StageSt) : (s.setStage n x).stage n = x := by
  rw [State.stage_setStage, if_pos rfl]

@[simp] theorem State.reg_setStage (s : State) (n a : Nat) (x : StageSt) : (s.setStage n x).reg a = s.reg a := rfl
@[simp] theorem State.inForce_setStage (s : State) (n a : Nat) (x :
    StageSt) : (s.setStage n x).inForce a = s.inForce a := rfl
@[simp] theorem State.setStage_regs (s : State) (n : Nat) (x : StageSt) : (s.setStage n x).regs = s.regs := rfl
@[simp] theorem State.setStage_act (s : State) (n : Nat) (x : StageSt) : (s.setStage n x).act = s.act := rfl
@[simp] theorem State.setStage_mem (s : State) (n : Nat) (x : StageSt) : (s.setStage n x).mem = s.mem := rfl
@[simp] theorem State.setStage_dramEpoch (s : State) (n : Nat) (x :
    StageSt) : (s.setStage n x).dramEpoch = s.dramEpoch := rfl
@[simp] theorem State.setStage_freeCtr (s : State) (n : Nat) (x :
    StageSt) : (s.setStage n x).freeCtr = s.freeCtr := rfl
@[simp] theorem State.setStage_mode (s : State) (n : Nat) (x : StageSt) : (s.setStage n x).mode = s.mode := rfl
@[simp] theorem State.setStage_tm (s : State) (n : Nat) (x : StageSt) : (s.setStage n x).tm = s.tm := rfl
@[simp] theorem State.setStage_pwr (s : State) (n : Nat) (x : StageSt) : (s.setStage n x).pwr = s.pwr := rfl
@[simp] theorem State.setStage_root (s : State) (n : Nat) (x : StageSt) : (s.setStage n x).root = s.root := rfl
@[simp] theorem State.setStage_evPend (s : State) (n : Nat) (x : StageSt) : (s.setStage n x).evPend = s.evPend := rfl
@[simp] theorem State.setStage_out (s : State) (n : Nat) (x : StageSt) : (s.setStage n x).out = s.out := rfl
@[simp] theorem State.setStage_pending (s : State) (n : Nat) (x :
    StageSt) : (s.setStage n x).pending = s.pending := rfl

theorem State.tp_setTp (s : State) (n k : Nat) (x : TpSt) :
    (s.setTp n x).tp k = if k = n then x else s.tp k := by
  split
  · rename_i h; subst h; exact Sparse.get_put_self _ _ _ _
  · rename_i h; exact Sparse.get_put_ne _ _ _ h

@[simp] theorem State.tp_setTp_self (s : State) (n : Nat) (x : TpSt) : (s.setTp n x).tp n = x := by
  rw [State.tp_setTp, if_pos rfl]

@[simp] theorem State.reg_setTp (s : State) (n a : Nat) (x : TpSt) : (s.setTp n x).reg a = s.reg a := rfl
@[simp] theorem State.inForce_setTp (s : State) (n a : Nat) (x : TpSt) : (s.setTp n x).inForce a = s.inForce a := rfl
@[simp] theorem State.setTp_regs (s : State) (n : Nat) (x : TpSt) : (s.setTp n x).regs = s.regs := rfl
@[simp] theorem State.setTp_act (s : State) (n : Nat) (x : TpSt) : (s.setTp n x).act = s.act := rfl
@[simp] theorem State.setTp_mem (s : State) (n : Nat) (x : TpSt) : (s.setTp n x).mem = s.mem := rfl
@[simp] theorem State.setTp_dramEpoch (s : State) (n : Nat) (x : TpSt) : (s.setTp n x).dramEpoch = s.dramEpoch := rfl
@[simp] theorem State.setTp_freeCtr (s : State) (n : Nat) (x : TpSt) : (s.setTp n x).freeCtr = s.freeCtr := rfl
@[simp] theorem State.setTp_mode (s : State) (n : Nat) (x : TpSt) : (s.setTp n x).mode = s.mode := rfl
@[simp] theorem State.setTp_tm (s : State) (n : Nat) (x : TpSt) : (s.setTp n x).tm = s.tm := rfl
@[simp] theorem State.setTp_pwr (s : State) (n : Nat) (x : TpSt) : (s.setTp n x).pwr = s.pwr := rfl
@[simp] theorem State.setTp_root (s : State) (n : Nat) (x : TpSt) : (s.setTp n x).root = s.root := rfl
@[simp] theorem State.setTp_evPend (s : State) (n : Nat) (x : TpSt) : (s.setTp n x).evPend = s.evPend := rfl
@[simp] theorem State.setTp_out (s : State) (n : Nat) (x : TpSt) : (s.setTp n x).out = s.out := rfl
@[simp] theorem State.setTp_pending (s : State) (n : Nat) (x : TpSt) : (s.setTp n x).pending = s.pending := rfl

theorem State.timer_setTimer (s : State) (n k : Nat) (x : TimerSt) :
    (s.setTimer n x).timer k = if k = n then x else s.timer k := by
  split
  · rename_i h; subst h; exact Sparse.get_put_self _ _ _ _
  · rename_i h; exact Sparse.get_put_ne _ _ _ h

@[simp] theorem State.timer_setTimer_self (s : State) (n : Nat) (x : TimerSt) : (s.setTimer n x).timer n = x := by
  rw [State.timer_setTimer, if_pos rfl]

@[simp] theorem State.reg_setTimer (s : State) (n a : Nat) (x : TimerSt) : (s.setTimer n x).reg a = s.reg a := rfl
@[simp] theorem State.inForce_setTimer (s : State) (n a : Nat) (x :
    TimerSt) : (s.setTimer n x).inForce a = s.inForce a := rfl
@[simp] theorem State.setTimer_regs (s : State) (n : Nat) (x : TimerSt) : (s.setTimer n x).regs = s.regs := rfl
@[simp] theorem State.setTimer_act (s : State) (n : Nat) (x : TimerSt) : (s.setTimer n x).act = s.act := rfl
@[simp] theorem State.setTimer_mem (s : State) (n : Nat) (x : TimerSt) : (s.setTimer n x).mem = s.mem := rfl
@[simp] theorem State.setTimer_dramEpoch (s : State) (n : Nat) (x :
    TimerSt) : (s.setTimer n x).dramEpoch = s.dramEpoch := rfl
@[simp] theorem State.setTimer_freeCtr (s : State) (n : Nat) (x :
    TimerSt) : (s.setTimer n x).freeCtr = s.freeCtr := rfl
@[simp] theorem State.setTimer_mode (s : State) (n : Nat) (x : TimerSt) : (s.setTimer n x).mode = s.mode := rfl
@[simp] theorem State.setTimer_tm (s : State) (n : Nat) (x : TimerSt) : (s.setTimer n x).tm = s.tm := rfl
@[simp] theorem State.setTimer_pwr (s : State) (n : Nat) (x : TimerSt) : (s.setTimer n x).pwr = s.pwr := rfl
@[simp] theorem State.setTimer_root (s : State) (n : Nat) (x : TimerSt) : (s.setTimer n x).root = s.root := rfl
@[simp] theorem State.setTimer_evPend (s : State) (n : Nat) (x : TimerSt) : (s.setTimer n x).evPend = s.evPend := rfl
@[simp] theorem State.setTimer_out (s : State) (n : Nat) (x : TimerSt) : (s.setTimer n x).out = s.out := rfl
@[simp] theorem State.setTimer_pending (s : State) (n : Nat) (x :
    TimerSt) : (s.setTimer n x).pending = s.pending := rfl

theorem State.stream_setStream (s : State) (n k : Nat) (x : Stream) :
    (s.setStream n x).stream k = if k = n then x else s.stream k := by
  split
  · rename_i h; subst h; exact Sparse.get_put_self _ _ _ _
  · rename_i h; exact Sparse.get_put_ne _ _ _ h

@[simp] theorem State.stream_setStream_self (s : State) (n : Nat) (x : Stream) : (s.setStream n x).stream n = x := by
  rw [State.stream_setStream, if_pos rfl]

@[simp] theorem State.reg_setStream (s : State) (n a : Nat) (x : Stream) : (s.setStream n x).reg a = s.reg a := rfl
@[simp] theorem State.inForce_setStream (s : State) (n a : Nat) (x :
    Stream) : (s.setStream n x).inForce a = s.inForce a := rfl
@[simp] theorem State.setStream_regs (s : State) (n : Nat) (x : Stream) : (s.setStream n x).regs = s.regs := rfl
@[simp] theorem State.setStream_act (s : State) (n : Nat) (x : Stream) : (s.setStream n x).act = s.act := rfl
@[simp] theorem State.setStream_mem (s : State) (n : Nat) (x : Stream) : (s.setStream n x).mem = s.mem := rfl
@[simp] theorem State.setStream_dramEpoch (s : State) (n : Nat) (x :
    Stream) : (s.setStream n x).dramEpoch = s.dramEpoch := rfl
@[simp] theorem State.setStream_freeCtr (s : State) (n : Nat) (x :
    Stream) : (s.setStream n x).freeCtr = s.freeCtr := rfl
@[simp] theorem State.setStream_mode (s : State) (n : Nat) (x : Stream) : (s.setStream n x).mode = s.mode := rfl
@[simp] theorem State.setStream_tm (s : State) (n : Nat) (x : Stream) : (s.setStream n x).tm = s.tm := rfl
@[simp] theorem State.setStream_pwr (s : State) (n : Nat) (x : Stream) : (s.setStream n x).pwr = s.pwr := rfl
@[simp] theorem State.setStream_root (s : State) (n : Nat) (x : Stream) : (s.setStream n x).root = s.root := rfl
@[simp] theorem State.setStream_evPend (s : State) (n : Nat) (x : Stream) : (s.setStream n x).evPend = s.evPend := rfl
@[simp] theorem State.setStream_out (s : State) (n : Nat) (x : Stream) : (s.setStream n x).out = s.out := rfl
@[simp] theorem State.setStream_pending (s : State) (n : Nat) (x :
    Stream) : (s.setStream n x).pending = s.pending := rfl

theorem State.queueOf_setQueue (s : State) (n k : Nat) (x : List Rec) :
    (s.setQueue n x).queueOf k = if k = n then x else s.queueOf k := by
  split
  · rename_i h; subst h; exact Sparse.get_put_self _ _ _ _
  · rename_i h; exact Sparse.get_put_ne _ _ _ h

@[simp] theorem State.queueOf_setQueue_self (s : State) (n : Nat) (x :
    List Rec) : (s.setQueue n x).queueOf n = x := by
  rw [State.queueOf_setQueue, if_pos rfl]

@[simp] theorem State.reg_setQueue (s : State) (n a : Nat) (x : List Rec) : (s.setQueue n x).reg a = s.reg a := rfl
@[simp] theorem State.inForce_setQueue (s : State) (n a : Nat) (x :
    List Rec) : (s.setQueue n x).inForce a = s.inForce a := rfl
@[simp] theorem State.setQueue_regs (s : State) (n : Nat) (x : List Rec) : (s.setQueue n x).regs = s.regs := rfl
@[simp] theorem State.setQueue_act (s : State) (n : Nat) (x : List Rec) : (s.setQueue n x).act = s.act := rfl
@[simp] theorem State.setQueue_mem (s : State) (n : Nat) (x : List Rec) : (s.setQueue n x).mem = s.mem := rfl
@[simp] theorem State.setQueue_dramEpoch (s : State) (n : Nat) (x :
    List Rec) : (s.setQueue n x).dramEpoch = s.dramEpoch := rfl
@[simp] theorem State.setQueue_freeCtr (s : State) (n : Nat) (x :
    List Rec) : (s.setQueue n x).freeCtr = s.freeCtr := rfl
@[simp] theorem State.setQueue_mode (s : State) (n : Nat) (x : List Rec) : (s.setQueue n x).mode = s.mode := rfl
@[simp] theorem State.setQueue_tm (s : State) (n : Nat) (x : List Rec) : (s.setQueue n x).tm = s.tm := rfl
@[simp] theorem State.setQueue_pwr (s : State) (n : Nat) (x : List Rec) : (s.setQueue n x).pwr = s.pwr := rfl
@[simp] theorem State.setQueue_root (s : State) (n : Nat) (x : List Rec) : (s.setQueue n x).root = s.root := rfl
@[simp] theorem State.setQueue_evPend (s : State) (n : Nat) (x : List Rec) : (s.setQueue n x).evPend = s.evPend := rfl
@[simp] theorem State.setQueue_out (s : State) (n : Nat) (x : List Rec) : (s.setQueue n x).out = s.out := rfl
@[simp] theorem State.setQueue_pending (s : State) (n : Nat) (x :
    List Rec) : (s.setQueue n x).pending = s.pending := rfl

end Sys2Proof.Machine
end

