-- ==== Sys2Proof/Laws/Frame.lean ====
section
/-!
SUPPORT. Frames: what every operation over registers keeps of the registers outside a set.
-/

namespace Sys2Proof.Machine

theorem SameRegs.refl (s : State) (p : Nat → Prop) : SameRegs s s p := fun _ _ => ⟨rfl, rfl⟩

theorem SameRegs.trans {s t u : State} {p : Nat → Prop} (h : SameRegs s t p) (k : SameRegs t u p) : SameRegs s u p :=
  fun a n => ⟨(k a n).1.trans (h a n).1, (k a n).2.trans (h a n).2⟩

theorem SameRegs.of_eq {s t : State} {p : Nat → Prop} (r : t.regs = s.regs) (f : t.act = s.act) : SameRegs s t p :=
  fun _ _ => ⟨by unfold State.reg; rw [r], by unfold State.inForce; rw [f]⟩

theorem SameRegs.setReg {s t : State} {p : Nat → Prop} {a : Nat} {v : Word} (h : SameRegs s t p) (k : p a) :
    SameRegs s (t.setReg a v) p :=
  h.trans fun _ n => ⟨State.reg_setReg_ne _ _ (fun e => n (e ▸ k)), rfl⟩

theorem SameRegs.setFld {s t : State} {p : Nat → Prop} {a : Nat} {f : Fld} {v : Nat} (h : SameRegs s t p) (k : p a) :
    SameRegs s (t.setFld a f v) p := h.setReg k

theorem SameRegs.setBit {s t : State} {p : Nat → Prop} {a : Nat} {f : Fld} {v : Bool} (h : SameRegs s t p) (k : p a) :
    SameRegs s (t.setBit a f v) p := h.setReg k

theorem SameRegs.satInc {s t : State} {p : Nat → Prop} {a : Nat} {f : Fld} {v : Nat} (h : SameRegs s t p) (k : p a) :
    SameRegs s (t.satInc a f v) p := h.setReg k

theorem SameRegs.wrapInc {s t : State} {p : Nat → Prop} {a : Nat} {f : Fld} {v : Nat} (h : SameRegs s t p) (k : p a) :
    SameRegs s (t.wrapInc a f v) p := h.setReg k

theorem SameRegs.setReg64 {s t : State} {p : Nat → Prop} {a v : Nat} (h : SameRegs s t p) (k : p a) (l : p (a + 4)) :
    SameRegs s (t.setReg64 a v) p := (h.setReg k).setReg l

theorem SameRegs.setInForce {s t : State} {p : Nat → Prop} {a : Nat} {v : Word} (h : SameRegs s t p) (k : p a) :
    SameRegs s (t.setInForce a v) p :=
  h.trans fun b n => ⟨rfl, by rw [State.inForce_setInForce, if_neg (fun e : b = a => n (e ▸ k))]⟩

theorem SameRegs.takeShadows {s t : State} {p : Nat → Prop} {l : List Nat} (h : SameRegs s t p) (k : ∀ a ∈ l, p a) :
    SameRegs s (t.takeShadows l) p :=
  h.trans fun b n => ⟨State.reg_takeShadows l t b, by
    rw [State.inForce_takeShadows, if_neg (fun m => n (k b m))]⟩

theorem SameRegs.raise {s t : State} {p : Nat → Prop} {e : Nat} (h : SameRegs s t p) (k : p R.EVT_LOST) :
    SameRegs s (t.raise e) p :=
  h.trans fun _ n => ⟨State.reg_raise _ _ (fun q => n (q ▸ k)), by unfold State.inForce; rw [State.raise_act]⟩

theorem SameRegs.flagEvent {s t : State} {p : Nat → Prop} {a e : Nat} {f : Fld} (h : SameRegs s t p) (k : p a)
    (l : p R.EVT_LOST) : SameRegs s (t.flagEvent a f e) p := by
  unfold State.flagEvent
  split
  · exact h
  · exact (h.setBit k).raise l

theorem SameRegs.cond {s t : State} {p : Nat → Prop} {c : Bool} {f : State → State} (h : SameRegs s t p)
    (k : ∀ u, SameRegs s u p → SameRegs s (f u) p) : SameRegs s (t.cond c f) p := by
  cases c
  · exact h
  · exact k t h

theorem SameRegs.foldl {s t : State} {p : Nat → Prop} {f : State → Nat → State} {l : List Nat} (h : SameRegs s t p)
    (k : ∀ u, SameRegs s u p → ∀ m ∈ l, SameRegs s (f u m) p) : SameRegs s (l.foldl f t) p := by
  induction l generalizing t with
  | nil => exact h
  | cons a l ih =>
    exact ih (k t h a (List.mem_cons_self ..)) fun u w m hm => k u w m (List.mem_cons_of_mem _ hm)

/-- A hand-over boundary touches the unit's own registers only (18 R526). -/
theorem SameRegs.take {s t : State} {p : Nat → Prop} {u : CommitUnit} (h : SameRegs s t p) (c : p u.ctrl)
    (r : ∀ a ∈ u.regs, p a) (k : ∀ lo, u.taken = some lo → p lo ∧ p (lo + 4)) : SameRegs s (u.take t) p := by
  unfold CommitUnit.take
  split
  · have h1 := (h.takeShadows r).setBit (f := u.pend) (v := false) c
    split
    · rename_i lo e
      exact h1.setReg64 (k lo e).1 (k lo e).2
    · exact h1
  · exact h

theorem SameMem.refl (s : State) : SameMem s s := fun _ _ => rfl

theorem SameMem.trans {s t u : State} (h : SameMem s t) (k : SameMem t u) : SameMem s u :=
  fun a n => (k a n).trans (h a n)

theorem SameMem.of_eq {s t : State} (m : t.mem = s.mem) (d : t.dramEpoch = s.dramEpoch) : SameMem s t := by
  intro a h
  unfold State.byte
  rw [m, d]
  split
  · rfl
  · split
    · rfl
    · rw [if_pos h, if_pos h]

end Sys2Proof.Machine
end

