-- ==== Sys2Proof/Laws/Keep.lean ====
section
/-!
SUPPORT. Keep, once and for all: its shape lemmas, and the operations that touch a table. Every later KeepX file cites
these, one lemma per function of Machine/X.lean.
-/

namespace Sys2Proof.Machine

/-- What every function of the model leaves so on its way from one state to another: canonical tables, the waiting
commands, what has been sent, blown anti-rollback fuses (02 R65), a set thermal latch (19 R558), the counts of DRAM losses and of
free values; with `q`, memory, and with `m`, the operating state and the latch. AON_LATCH_CLEAR alone clears the latch. -/
structure Keep (q m : Bool) (s t : State) : Prop where
  mem : q = true → t.mem = s.mem ∧ t.dramEpoch = s.dramEpoch
  mode : m = true → t.mode = s.mode ∧ t.pwr.latch = s.pwr.latch
  canon : s.Canon → t.Canon
  pending : t.pending = s.pending
  out : ∃ more, t.out = s.out ++ more
  arb : s.root.arbFused ≤ t.root.arbFused
  latch : s.pwr.latch = true → t.pwr.latch = true
  epoch : s.dramEpoch ≤ t.dramEpoch
  free : s.freeCtr ≤ t.freeCtr

theorem Keep.refl (q m : Bool) (s : State) : Keep q m s s :=
  ⟨fun _ => ⟨rfl, rfl⟩, fun _ => ⟨rfl, rfl⟩, id, rfl, ⟨[], (List.append_nil _).symm⟩, le_refl _, id, le_refl _, le_refl _⟩

theorem Keep.trans {q m : Bool} {a b c : State} (h : Keep q m a b) (k : Keep q m b c) : Keep q m a c := by
  obtain ⟨x, hx⟩ := h.out
  obtain ⟨y, hy⟩ := k.out
  exact ⟨fun e => ⟨(k.mem e).1.trans (h.mem e).1, (k.mem e).2.trans (h.mem e).2⟩,
    fun e => ⟨(k.mode e).1.trans (h.mode e).1, (k.mode e).2.trans (h.mode e).2⟩, k.canon ∘ h.canon, k.pending.trans h.pending, ⟨x ++ y, by rw [hy, hx,
    List.append_assoc]⟩, h.arb.trans k.arb,
    k.latch ∘ h.latch, h.epoch.trans k.epoch, h.free.trans k.free⟩

/-! ### One lemma per field of the state -/

theorem Keep.tables {q m : Bool} {s0 s t : State} (h : Keep q m s0 s) (c : s.Canon → t.Canon) (p :
    t.pending = s.pending)
    (o : t.out = s.out) (a : t.root = s.root) (l : t.pwr = s.pwr) (d : t.dramEpoch = s.dramEpoch)
    (f : t.freeCtr = s.freeCtr) (x : t.mem = s.mem) (y : t.mode = s.mode) : Keep q m s0 t :=
  h.trans ⟨fun _ => ⟨x, d⟩, fun _ => ⟨y, by rw [l]⟩, c, p, ⟨[], by rw [o, List.append_nil]⟩, le_of_eq (by rw [a]), fun x => by
    rw [l]; exact x, ge_of_eq d,
    ge_of_eq f⟩

theorem Keep.set_mode {q : Bool} {s0 s : State} {x} (h : Keep q false s0 s) :
    Keep q false s0 { s with mode := x } :=
  h.trans ⟨fun _ => ⟨rfl, rfl⟩, nofun, fun c => { c with }, rfl, ⟨[], (List.append_nil _).symm⟩, le_refl _, id,
    le_refl _,
    le_refl _⟩

theorem Keep.set_tm {q m : Bool} {s0 s : State} {x} (h : Keep q m s0 s) : Keep q m s0 { s with tm := x } :=
  h.tables (fun c => { c with }) rfl rfl rfl rfl rfl rfl rfl rfl

theorem Keep.set_trim {q m : Bool} {s0 s : State} {x} (h : Keep q m s0 s) : Keep q m s0 { s with trim := x } :=
  h.tables (fun c => { c with }) rfl rfl rfl rfl rfl rfl rfl rfl

theorem Keep.set_ms {q m : Bool} {s0 s : State} {x} (h : Keep q m s0 s) : Keep q m s0 { s with ms := x } :=
  h.tables (fun c => { c with }) rfl rfl rfl rfl rfl rfl rfl rfl

theorem Keep.set_pcie {q m : Bool} {s0 s : State} {x} (h : Keep q m s0 s) : Keep q m s0 { s with pcie := x } :=
  h.tables (fun c => { c with }) rfl rfl rfl rfl rfl rfl rfl rfl

theorem Keep.set_hostReads {q m : Bool} {s0 s : State} {x} (h : Keep q m s0 s) : Keep q m s0 { s with hostReads :=
    x } :=
  h.tables (fun c => { c with }) rfl rfl rfl rfl rfl rfl rfl rfl

theorem Keep.set_dma {q m : Bool} {s0 s : State} {x} (h : Keep q m s0 s) : Keep q m s0 { s with dma := x } :=
  h.tables (fun c => { c with }) rfl rfl rfl rfl rfl rfl rfl rfl

theorem Keep.set_peat {q m : Bool} {s0 s : State} {x} (h : Keep q m s0 s) : Keep q m s0 { s with peat := x } :=
  h.tables (fun c => { c with }) rfl rfl rfl rfl rfl rfl rfl rfl

theorem Keep.set_spdm {q m : Bool} {s0 s : State} {x} (h : Keep q m s0 s) : Keep q m s0 { s with spdm := x } :=
  h.tables (fun c => { c with }) rfl rfl rfl rfl rfl rfl rfl rfl

theorem Keep.set_runner {q m : Bool} {s0 s : State} {x} (h : Keep q m s0 s) : Keep q m s0 { s with runner := x } :=
  h.tables (fun c => { c with }) rfl rfl rfl rfl rfl rfl rfl rfl

theorem Keep.set_boot {q m : Bool} {s0 s : State} {x} (h : Keep q m s0 s) : Keep q m s0 { s with boot := x } :=
  h.tables (fun c => { c with }) rfl rfl rfl rfl rfl rfl rfl rfl

theorem Keep.set_bench {q m : Bool} {s0 s : State} {x} (h : Keep q m s0 s) : Keep q m s0 { s with bench := x } :=
  h.tables (fun c => { c with }) rfl rfl rfl rfl rfl rfl rfl rfl

theorem Keep.set_windows {q m : Bool} {s0 s : State} {x} (h : Keep q m s0 s) : Keep q m s0 { s with windows := x } :=
  h.tables (fun c => { c with }) rfl rfl rfl rfl rfl rfl rfl rfl

theorem Keep.set_prec {q m : Bool} {s0 s : State} {x} (h : Keep q m s0 s) : Keep q m s0 { s with prec := x } :=
  h.tables (fun c => { c with }) rfl rfl rfl rfl rfl rfl rfl rfl

theorem Keep.set_tickAt {q m : Bool} {s0 s : State} {x} (h : Keep q m s0 s) : Keep q m s0 { s with tickAt := x } :=
  h.tables (fun c => { c with }) rfl rfl rfl rfl rfl rfl rfl rfl

theorem Keep.set_tap {q m : Bool} {s0 s : State} {x} (h : Keep q m s0 s) : Keep q m s0 { s with tap := x } :=
  h.tables (fun c => { c with }) rfl rfl rfl rfl rfl rfl rfl rfl

theorem Keep.set_pins {q m : Bool} {s0 s : State} {x} (h : Keep q m s0 s) : Keep q m s0 { s with pins := x } :=
  h.tables (fun c => { c with }) rfl rfl rfl rfl rfl rfl rfl rfl

theorem Keep.set_regs {q m : Bool} {s0 s : State} {x} (h : Keep q m s0 s)
    (w : Sparse.wf (fun k => some (resetOf k)) s.regs = true → Sparse.wf (fun k => some (resetOf k)) x = true) :
    Keep q m s0 { s with regs := x } :=
  h.tables (fun c => { c with regs := w c.regs }) rfl rfl rfl rfl rfl rfl rfl rfl

theorem Keep.set_act {q m : Bool} {s0 s : State} {x} (h : Keep q m s0 s)
    (w : Sparse.wf (fun k => some (resetOf k)) s.act = true → Sparse.wf (fun k => some (resetOf k)) x = true) :
    Keep q m s0 { s with act := x } :=
  h.tables (fun c => { c with act := w c.act }) rfl rfl rfl rfl rfl rfl rfl rfl

theorem Keep.set_snap {q m : Bool} {s0 s : State} {x} (h : Keep q m s0 s)
    (w : Sparse.wf (fun _ => none) s.snap = true → Sparse.wf (fun _ => none) x = true) : Keep q m s0 { s with snap
    := x } :=
  h.tables (fun c => { c with snap := w c.snap }) rfl rfl rfl rfl rfl rfl rfl rfl

theorem Keep.set_refusals {q m : Bool} {s0 s : State} {x} (h : Keep q m s0 s)
    (w : Sparse.wf (fun _ => some 0) s.refusals = true → Sparse.wf (fun _ => some 0) x = true) : Keep q m s0 { s
    with refusals := x } :=
  h.tables (fun c => { c with refusals := w c.refusals }) rfl rfl rfl rfl rfl rfl rfl rfl

theorem Keep.set_mem {m : Bool} {s0 s : State} {x} (h : Keep false m s0 s)
    (w : Sparse.wf unlisted s.mem = true → Sparse.wf unlisted x = true) : Keep false m s0 { s with mem := x } :=
  h.trans ⟨nofun, fun _ => ⟨rfl, rfl⟩, fun c => { c with mem := w c.mem }, rfl, ⟨[], (List.append_nil _).symm⟩, le_refl _,
    id,
    le_refl _, le_refl _⟩

theorem Keep.set_timers {q m : Bool} {s0 s : State} {x} (h : Keep q m s0 s)
    (w : Sparse.wf (fun _ => some {}) s.timers = true → Sparse.wf (fun _ => some {}) x = true) : Keep q m s0 { s
    with timers := x } :=
  h.tables (fun c => { c with timers := w c.timers }) rfl rfl rfl rfl rfl rfl rfl rfl

theorem Keep.set_chans {q m : Bool} {s0 s : State} {x} (h : Keep q m s0 s)
    (w : Sparse.wf (fun _ => some {}) s.chans = true → Sparse.wf (fun _ => some {}) x = true) : Keep q m s0 { s
    with chans := x } :=
  h.tables (fun c => { c with chans := w c.chans }) rfl rfl rfl rfl rfl rfl rfl rfl

theorem Keep.set_engines {q m : Bool} {s0 s : State} {x} (h : Keep q m s0 s)
    (w : Sparse.wf (fun _ => some {}) s.engines = true → Sparse.wf (fun _ => some {}) x = true) : Keep q m s0 { s
    with engines := x } :=
  h.tables (fun c => { c with engines := w c.engines }) rfl rfl rfl rfl rfl rfl rfl rfl

theorem Keep.set_encs {q m : Bool} {s0 s : State} {x} (h : Keep q m s0 s)
    (w : Sparse.wf (fun _ => some {}) s.encs = true → Sparse.wf (fun _ => some {}) x = true) : Keep q m s0 { s with
    encs := x } :=
  h.tables (fun c => { c with encs := w c.encs }) rfl rfl rfl rfl rfl rfl rfl rfl

theorem Keep.set_cmpPulse {q m : Bool} {s0 s : State} {x} (h : Keep q m s0 s)
    (w : Sparse.wf (fun _ => none) s.cmpPulse = true → Sparse.wf (fun _ => none) x = true) : Keep q m s0 { s with
    cmpPulse := x } :=
  h.tables (fun c => { c with cmpPulse := w c.cmpPulse }) rfl rfl rfl rfl rfl rfl rfl rfl

theorem Keep.set_pts {q m : Bool} {s0 s : State} {x} (h : Keep q m s0 s)
    (w : Sparse.wf (fun _ => some {}) s.pts = true → Sparse.wf (fun _ => some {}) x = true) : Keep q m s0 { s with
    pts := x } :=
  h.tables (fun c => { c with pts := w c.pts }) rfl rfl rfl rfl rfl rfl rfl rfl

theorem Keep.set_posQ {q m : Bool} {s0 s : State} {x} (h : Keep q m s0 s)
    (w : Sparse.wf (fun _ => some []) s.posQ = true → Sparse.wf (fun _ => some []) x = true) : Keep q m s0 { s with
    posQ := x } :=
  h.tables (fun c => { c with posQ := w c.posQ }) rfl rfl rfl rfl rfl rfl rfl rfl

theorem Keep.set_imgs {q m : Bool} {s0 s : State} {x} (h : Keep q m s0 s)
    (w : Sparse.wf (fun _ => some {}) s.imgs = true → Sparse.wf (fun _ => some {}) x = true) : Keep q m s0 { s with
    imgs := x } :=
  h.tables (fun c => { c with imgs := w c.imgs }) rfl rfl rfl rfl rfl rfl rfl rfl

theorem Keep.set_lamps {q m : Bool} {s0 s : State} {x} (h : Keep q m s0 s)
    (w : Sparse.wf (fun _ => some {}) s.lamps = true → Sparse.wf (fun _ => some {}) x = true) : Keep q m s0 { s
    with lamps := x } :=
  h.tables (fun c => { c with lamps := w c.lamps }) rfl rfl rfl rfl rfl rfl rfl rfl

theorem Keep.set_tps {q m : Bool} {s0 s : State} {x} (h : Keep q m s0 s)
    (w : Sparse.wf (fun _ => some {}) s.tps = true → Sparse.wf (fun _ => some {}) x = true) : Keep q m s0 { s with
    tps := x } :=
  h.tables (fun c => { c with tps := w c.tps }) rfl rfl rfl rfl rfl rfl rfl rfl

theorem Keep.set_axes {q m : Bool} {s0 s : State} {x} (h : Keep q m s0 s)
    (w : Sparse.wf (fun _ => some {}) s.axes = true → Sparse.wf (fun _ => some {}) x = true) : Keep q m s0 { s with
    axes := x } :=
  h.tables (fun c => { c with axes := w c.axes }) rfl rfl rfl rfl rfl rfl rfl rfl

theorem Keep.set_fronds {q m : Bool} {s0 s : State} {x} (h : Keep q m s0 s)
    (w : Sparse.wf (fun _ => some {}) s.fronds = true → Sparse.wf (fun _ => some {}) x = true) : Keep q m s0 { s
    with fronds := x } :=
  h.tables (fun c => { c with fronds := w c.fronds }) rfl rfl rfl rfl rfl rfl rfl rfl

theorem Keep.set_queues {q m : Bool} {s0 s : State} {x} (h : Keep q m s0 s)
    (w : Sparse.wf (fun _ => some []) s.queues = true → Sparse.wf (fun _ => some []) x = true) : Keep q m s0 { s
    with queues := x } :=
  h.tables (fun c => { c with queues := w c.queues }) rfl rfl rfl rfl rfl rfl rfl rfl

theorem Keep.set_streams {q m : Bool} {s0 s : State} {x} (h : Keep q m s0 s)
    (w : Sparse.wf (fun _ => some {}) s.streams = true → Sparse.wf (fun _ => some {}) x = true) : Keep q m s0 { s
    with streams := x } :=
  h.tables (fun c => { c with streams := w c.streams }) rfl rfl rfl rfl rfl rfl rfl rfl

theorem Keep.set_stages {q m : Bool} {s0 s : State} {x} (h : Keep q m s0 s)
    (w : Sparse.wf (fun _ => some {}) s.stages = true → Sparse.wf (fun _ => some {}) x = true) : Keep q m s0 { s
    with stages := x } :=
  h.tables (fun c => { c with stages := w c.stages }) rfl rfl rfl rfl rfl rfl rfl rfl

theorem Keep.set_recQ {q m : Bool} {s0 s : State} {x} (h : Keep q m s0 s)
    (w : Sparse.wf (fun _ => some []) s.recQ = true → Sparse.wf (fun _ => some []) x = true) : Keep q m s0 { s with
    recQ := x } :=
  h.tables (fun c => { c with recQ := w c.recQ }) rfl rfl rfl rfl rfl rfl rfl rfl

theorem Keep.set_evPend {q m : Bool} {s0 s : State} {x} (h : Keep q m s0 s)
    (w : NatSet.wfFrom 0 s.evPend = true → NatSet.wfFrom 0 x = true) : Keep q m s0 { s with evPend := x } :=
  h.tables (fun c => { c with evPend := w c.evPend }) rfl rfl rfl rfl rfl rfl rfl rfl

theorem Keep.set_stopScripts {q m : Bool} {s0 s : State} {x} (h : Keep q m s0 s)
    (w : NatSet.wfFrom 0 s.stopScripts = true → NatSet.wfFrom 0 x = true) : Keep q m s0 { s with stopScripts := x } :=
  h.tables (fun c => { c with stopScripts := w c.stopScripts }) rfl rfl rfl rfl rfl rfl rfl rfl

theorem Keep.set_cmpNear {q m : Bool} {s0 s : State} {x} (h : Keep q m s0 s)
    (w : NatSet.wfFrom 0 s.cmpNear = true → NatSet.wfFrom 0 x = true) : Keep q m s0 { s with cmpNear := x } :=
  h.tables (fun c => { c with cmpNear := w c.cmpNear }) rfl rfl rfl rfl rfl rfl rfl rfl

theorem Keep.set_root {q m : Bool} {s0 s : State} {x} (h : Keep q m s0 s) (e : x.arbFused = s.root.arbFused) :
    Keep q m s0 { s with root := x } :=
  h.trans ⟨fun _ => ⟨rfl, rfl⟩, fun _ => ⟨rfl, rfl⟩, fun c => { c with }, rfl, ⟨[], (List.append_nil _).symm⟩, ge_of_eq e,
    id, le_refl _, le_refl _⟩

theorem Keep.set_pwr {q m : Bool} {s0 s : State} {x} (h : Keep q m s0 s) (e : s.pwr.latch = true → x.latch = true)
    (e' : m = true → x.latch = s.pwr.latch := by first | exact fun _ => rfl | exact nofun) :
    Keep q m s0 { s with pwr := x } :=
  h.trans ⟨fun _ => ⟨rfl, rfl⟩, fun k => ⟨rfl, e' k⟩, fun c => { c with }, rfl, ⟨[], (List.append_nil _).symm⟩, le_refl _,
    e, le_refl _, le_refl _⟩

theorem Keep.set_dramEpoch {m : Bool} {s0 s : State} {x} (h : Keep false m s0 s) (e : s.dramEpoch ≤ x) :
    Keep false m s0 { s with dramEpoch := x } :=
  h.trans ⟨nofun, fun _ => ⟨rfl, rfl⟩, fun c => { c with }, rfl, ⟨[], (List.append_nil _).symm⟩, le_refl _, id, e, le_refl _⟩

theorem Keep.set_freeCtr {q m : Bool} {s0 s : State} {x} (h : Keep q m s0 s) (e : s.freeCtr ≤ x) : Keep q m s0 { s
    with freeCtr := x } :=
  h.trans ⟨fun _ => ⟨rfl, rfl⟩, fun _ => ⟨rfl, rfl⟩, fun c => { c with }, rfl, ⟨[], (List.append_nil _).symm⟩, le_refl _,
    id, le_refl _, e⟩

theorem Keep.ite {q m : Bool} {s0 a b : State} {c : Prop} [Decidable c] (h : Keep q m s0 a) (k : Keep q m s0 b) :
    Keep q m s0 (if c then a else b) := by split <;> assumption

theorem Keep.foldl {q m : Bool} {s0 s : State} {α : Type} {f : State → α → State} {l : List α} (h : Keep q m s0 s)
    (hf : ∀ x, Keep q m s0 x → ∀ a, Keep q m s0 (f x a)) : Keep q m s0 (l.foldl f s) := by
  induction l generalizing s with
  | nil => exact h
  | cons a l ih => exact ih (hf s h a)

theorem Keep.foldlP11 {q m : Bool} {s0 : State} {α β : Type} {f : State × β → α → State × β} {l : List α} {p :
    State × β}
    (h : Keep q m s0 p.1) (hf : ∀ x, Keep q m s0 x.1 → ∀ a, Keep q m s0 (f x a).1) : Keep q m s0 (l.foldl f p).1 := by
  induction l generalizing p with
  | nil => exact h
  | cons a l ih => exact ih (hf p h a)

theorem Keep.foldlP12 {q m : Bool} {s0 : State} {α β : Type} {f : β × State → α → β × State} {l : List α} {p : β ×
    State}
    (h : Keep q m s0 p.2) (hf : ∀ x, Keep q m s0 x.2 → ∀ a, Keep q m s0 (f x a).2) : Keep q m s0 (l.foldl f p).2 := by
  induction l generalizing p with
  | nil => exact h
  | cons a l ih => exact ih (hf p h a)

theorem Keep.mk1 {q m : Bool} {s0 a : State} {β : Type} {b : β} (h : Keep q m s0 a) : Keep q m s0 (a, b).1 := h

theorem Keep.mk2 {q m : Bool} {s0 a : State} {β : Type} {b : β} (h : Keep q m s0 a) : Keep q m s0 (b, a).2 := h

theorem Keep.eq1 {q m : Bool} {s0 a : State} {β : Type} {b : β} {p : State × β} (h : Keep q m s0 p.1) (e : p = (a,
    b)) : Keep q m s0 a := by
  subst e; exact h

theorem Keep.eq2 {q m : Bool} {s0 a : State} {β : Type} {b : β} {p : β × State} (h : Keep q m s0 p.2) (e : p = (b,
    a)) : Keep q m s0 a := by
  subst e; exact h

theorem Keep.eq22 {q m : Bool} {s0 a : State} {β γ : Type} {b : β} {c : γ} {p : β × γ × State} (h : Keep q m s0 p.2.2)
    (e : p = (b, c, a)) : Keep q m s0 a := by
  subst e; exact h

/-- Whatever next state an outcome gives is reached with Keep. -/
def OutKeep (q m : Bool) (s0 : State) (r : Host.Outcome State Fault Refusal) : Prop := ∀ t, r = .next t → Keep q m
    s0 t

theorem OutKeep.next {q m : Bool} {s0 t : State} (h : Keep q m s0 t) : OutKeep q m s0 (.next t) := fun _ e => by
    cases e; exact h

/-- What an answer that may be missing gives is reached with Keep. -/
def OptKeep (q m : Bool) (s0 : State) (r : Option State) : Prop := ∀ t, r = some t → Keep q m s0 t

theorem OptKeep.none {q m : Bool} {s0 : State} : OptKeep q m s0 Option.none := fun _ e => nomatch e

theorem OptKeep.some {q m : Bool} {s0 t : State} (h : Keep q m s0 t) : OptKeep q m s0 (Option.some t) := fun _ e =>
    by cases e; exact h

/-- The same, for an answer with a second part. -/
def OptKeep1 {β : Type} (q m : Bool) (s0 : State) (r : Option (State × β)) : Prop := ∀ t b, r = some (t, b) → Keep
    q m s0 t

theorem OptKeep1.none {q m : Bool} {β : Type} {s0 : State} : OptKeep1 (β := β) q m s0 Option.none := fun _ _ e =>
    nomatch e

theorem OptKeep1.some {q m : Bool} {β : Type} {s0 : State} {p : State × β} (h : Keep q m s0 p.1) : OptKeep1 q m s0
    (Option.some p) :=
  fun _ _ e => by cases e; exact h

/-! ### The operations that touch a table -/

theorem State.setReg_keep {q m s0 v0 v1 v2} (k : Keep q m s0 v0) : Keep q m s0 (State.setReg v0 v1 v2) :=
  k.set_regs (Sparse.wf_put _ _)

theorem State.setInForce_keep {q m s0 v0 v1 v2} (k : Keep q m s0 v0) : Keep q m s0 (State.setInForce v0 v1 v2) :=
  k.set_act (Sparse.wf_put _ _)

theorem State.setByte_keep {m s0 v0 v1 v2} (k : Keep false m s0 v0) : Keep false m s0 (State.setByte v0 v1 v2) :=
  k.set_mem (Sparse.wf_put _ _)

theorem State.forget_keep {m s0 v0 v1 v2} (k : Keep false m s0 v0) : Keep false m s0 (State.forget v0 v1 v2) :=
  k.set_mem (Sparse.wf_filter _)

theorem State.emit_keep {q m s0 v0 v1} (k : Keep q m s0 v0) : Keep q m s0 (State.emit v0 v1) :=
  k.trans ⟨fun _ => ⟨rfl, rfl⟩, fun _ => ⟨rfl, rfl⟩, fun c => { c with }, rfl, ⟨[v1], rfl⟩, le_refl _, id, le_refl _,
    le_refl _⟩

theorem State.drawn_keep {q m s0 v0} (k : Keep q m s0 v0) : Keep q m s0 (State.drawn v0) := k.set_freeCtr
    (Nat.le_succ _)

theorem State.setStream_keep {q m s0 v0 v1 v2} (k : Keep q m s0 v0) : Keep q m s0 (State.setStream v0 v1 v2) :=
  k.set_streams (Sparse.wf_put _ _)

theorem State.setQueue_keep {q m s0 v0 v1 v2} (k : Keep q m s0 v0) : Keep q m s0 (State.setQueue v0 v1 v2) :=
  k.set_recQ (Sparse.wf_put _ _)

theorem State.write_keep {m s0 v0 v1 v2} (k : Keep false m s0 v0) : Keep false m s0 (State.write v0 v1 v2) := by
  induction v2 generalizing v0 v1 with
  | nil => exact k
  | cons b bs ih => exact ih (State.setByte_keep k)

theorem State.takeShadows_keep {q m s0 v0 v1} (k : Keep q m s0 v0) : Keep q m s0 (State.takeShadows v0 v1) := by
  induction v1 generalizing v0 with
  | nil => exact k
  | cons a l ih => exact ih (State.setInForce_keep k)

end Sys2Proof.Machine
end

