-- ==== Sys2Proof/Laws/KeepOps.lean ====
section
/-!
SUPPORT. Keep for every function of Machine/Ops.lean that makes a state.
-/

namespace Sys2Proof.Machine

theorem State.setFld_keep {q m s0 v0 v1 v2 v3} (k0 : Keep q m s0 v0) : Keep q m s0 (State.setFld v0 v1 v2 v3) := by
  unfold State.setFld
  exact State.setReg_keep k0

theorem State.setBit_keep {q m s0 v0 v1 v2 v3} (k0 : Keep q m s0 v0) : Keep q m s0 (State.setBit v0 v1 v2 v3) := by
  unfold State.setBit
  exact State.setFld_keep k0

theorem State.setReg64_keep {q m s0 v0 v1 v2} (k0 : Keep q m s0 v0) : Keep q m s0 (State.setReg64 v0 v1 v2) := by
  unfold State.setReg64
  exact State.setReg_keep (State.setReg_keep k0)

theorem State.satInc_keep {q m s0 v0 v1 v2 v3} (k0 : Keep q m s0 v0) : Keep q m s0 (State.satInc v0 v1 v2 v3) := by
  unfold State.satInc
  exact State.setFld_keep k0

theorem State.wrapInc_keep {q m s0 v0 v1 v2 v3} (k0 : Keep q m s0 v0) : Keep q m s0 (State.wrapInc v0 v1 v2 v3) := by
  unfold State.wrapInc
  exact State.setFld_keep k0

theorem State.reach_keep {q m s0 v0 v1} (k0 : Keep q m s0 v0) : Keep q m s0 (State.reach v0 v1) := by
  unfold State.reach
  extract_lets a0
  exact Keep.set_tm k0

theorem State.writeNat_keep {m s0 v0 v1 v2 v3} (k0 : Keep false m s0 v0) : Keep false m s0 (State.writeNat v0 v1 v2
    v3) := by
  unfold State.writeNat
  exact State.write_keep k0

theorem State.islandWrite_keep {m s0 v0 v1 v2} (k0 : Keep false m s0 v0) : Keep false m s0 (State.islandWrite v0 v1
    v2) := by
  induction v2 generalizing v0 v1 with
  | nil =>
    unfold State.islandWrite
    exact k0
  | cons j js ih =>
    unfold State.islandWrite
    exact ih (Keep.ite (State.setByte_keep k0) k0)

theorem State.raise_keep {q m s0 v0 v1} (k0 : Keep q m s0 v0) : Keep q m s0 (State.raise v0 v1) := by
  unfold State.raise
  exact Keep.ite k0 (Keep.ite (State.setFld_keep (State.satInc_keep k0)) (Keep.set_evPend k0 (NatSet.wf_insert _)))

theorem State.flagEvent_keep {q m s0 v0 v1 v2 v3} (k0 : Keep q m s0 v0) : Keep q m s0 (State.flagEvent v0 v1 v2 v3)
    := by
  unfold State.flagEvent
  exact Keep.ite k0 (State.raise_keep (State.setBit_keep k0))

theorem State.flag_keep {q m s0 v0 v1 v2} (k0 : Keep q m s0 v0) : Keep q m s0 (State.flag v0 v1 v2) := by
  unfold State.flag
  exact State.setBit_keep k0

theorem State.cond_keep {q m s0 v0 v1 v2} (k0 : Keep q m s0 v0) (k2 : ∀ y1, Keep q m s0 y1 → Keep q m s0 (v2 y1)) :
    Keep q m s0 (State.cond v0 v1 v2) := by
  unfold State.cond
  exact Keep.ite (k2 _ k0) k0

theorem State.peatPush_keep {q m s0 v0 v1 v2 v3} (k0 : Keep q m s0 v0) : Keep q m s0 (State.peatPush v0 v1 v2 v3) :=
    by
  unfold State.peatPush
  extract_lets a0 a1
  exact Keep.ite (State.setFld_keep (Keep.set_peat k0)) (State.satInc_keep k0)

theorem State.pushRec_keep {q m s0 v0 v1} (k0 : Keep q m s0 v0) : Keep q m s0 (State.pushRec v0 v1) := by
  unfold State.pushRec
  exact State.setQueue_keep k0

theorem eccBad_keep {q m s0 v0 v1 v2} (k2 : Keep q m s0 v2) : Keep q m s0 (eccBad v0 v1 v2) := by
  unfold eccBad
  extract_lets a0 a1
  have h2 : Keep q m s0 a1 := State.setReg64_keep k2
  exact Keep.ite (State.raise_keep (State.satInc_keep h2)) (State.raise_keep (State.satInc_keep h2))

theorem eccFixed_keep {q m s0 v0 v1 v2} (k2 : Keep q m s0 v2) : Keep q m s0 (eccFixed v0 v1 v2) := by
  unfold eccFixed
  extract_lets a0 a1
  have h2 : Keep q m s0 a1 := Keep.set_ms k2
  exact Keep.ite (State.raise_keep (State.satInc_keep k2)) (State.raise_keep (State.satInc_keep h2))

theorem eccNote_keep {q m s0 v0 v1 v2 v3} (k3 : Keep q m s0 v3) : Keep q m s0 (eccNote v0 v1 v2 v3) := by
  unfold eccNote
  split
  · next b0 =>
    exact k3
  · next b1 =>
    exact eccFixed_keep k3
  · next b2 =>
    exact eccBad_keep k3

theorem State.whenWorking_keep {q m s0 v0 v1} (k0 : Keep q m s0 v0) (k1 : ∀ y1, Keep q m s0 y1 → Keep q m s0 (v1 y1))
    : Keep q m s0 (State.whenWorking v0 v1) := by
  unfold State.whenWorking
  exact Keep.ite (k1 _ k0) k0

theorem State.whenServing_keep {q m s0 v0 v1} (k0 : Keep q m s0 v0) (k1 : ∀ y1, Keep q m s0 y1 → Keep q m s0 (v1 y1))
    : Keep q m s0 (State.whenServing v0 v1) := by
  unfold State.whenServing
  exact Keep.ite (k1 _ k0) k0

theorem CommitUnit.commit_keep {q m s0 v0 v1} (k1 : Keep q m s0 v1) : Keep q m s0 (CommitUnit.commit v0 v1) := by
  unfold CommitUnit.commit
  exact State.setBit_keep k1

theorem CommitUnit.take_keep {q m s0 v0 v1} (k1 : Keep q m s0 v1) : Keep q m s0 (CommitUnit.take v0 v1) := by
  unfold CommitUnit.take
  extract_lets a0
  have h1 : Keep q m s0 a0 := State.setBit_keep (State.takeShadows_keep k1)
  exact (Keep.ite (by
      split
      · next b2 b3 b4 =>
        exact State.setReg64_keep h1
      · next b5 b6 =>
        exact h1) k1)

end Sys2Proof.Machine
end

