-- ==== Sys2Proof/Laws/KeepOperands.lean ====
section
/-!
SUPPORT. Keep for every function of Machine/Operands.lean that makes a state.
-/

namespace Sys2Proof.Machine

theorem State.setSreg64_keep {q m s0 v0 v1 v2} (k0 : Keep q m s0 v0) : Keep q m s0 (State.setSreg64 v0 v1 v2) := by
  unfold State.setSreg64
  exact State.setReg64_keep k0

theorem State.setSfld_keep {q m s0 v0 v1 v2 v3} (k0 : Keep q m s0 v0) : Keep q m s0 (State.setSfld v0 v1 v2 v3) := by
  unfold State.setSfld
  exact State.setFld_keep k0

end Sys2Proof.Machine
end

