-- ==== Sys2Proof/Laws/KeepFlags.lean ====
section
/-!
SUPPORT. Keep for every function of Machine/Flags.lean that makes a state.
-/

namespace Sys2Proof.Machine

theorem State.race_keep {q m s0 v0 v1 v2} (k0 : Keep q m s0 v0) : Keep q m s0 (State.race v0 v1 v2) := by
  unfold State.race
  split
  · next b0 b1 b2 b3 =>
    exact State.satInc_keep k0
  · next b4 b5 =>
    exact k0

theorem State.lost_keep {q m s0 v0 v1 v2} (k0 : Keep q m s0 v0) : Keep q m s0 (State.lost v0 v1 v2) := by
  unfold State.lost
  exact Keep.ite (State.satInc_keep k0) k0

end Sys2Proof.Machine
end

