-- ==== Sys2Proof/Laws/KeepSpore.lean ====
section
/-!
SUPPORT. Keep for every function of Machine/Spore.lean that makes a state.
-/

namespace Sys2Proof.Machine

theorem blockApply_keep {q m s0 v0 v1 v2 v3} (_k0 : Keep q m s0 v0) (k2 : Keep q m s0 v2) : Keep q m s0 (blockApply
    v0 v1 v2 v3) := by
  unfold blockApply
  extract_lets a0 a1 a2
  clear_value a0
  split
  · next b3 b4 b5 =>
    extract_lets a6
    exact Keep.ite k2 (State.setReg_keep k2)
  · next b7 b8 =>
    exact k2

theorem blocksApply_keep {q m s0 v0 v1 v2} (k0 : Keep q m s0 v0) (k2 : Keep q m s0 v2) : Keep q m s0 (blocksApply v0
    v1 v2) := by
  unfold blocksApply
  exact Keep.foldl k2 (fun x0 h1 _ => (blockApply_keep k0 h1))

end Sys2Proof.Machine
end

