-- ==== Sys2Proof/Laws/KeepPins.lean ====
section
/-!
SUPPORT. Keep for every function of Machine/Pins.lean that makes a state.
-/

namespace Sys2Proof.Machine

theorem execTapInstruction_keep {q m s0 v0 v1} (k1 : Keep q m s0 v1) : OutKeep q m s0 (execTapInstruction v0 v1) := by
  unfold execTapInstruction
  extract_lets a0 a1
  have h2 : Keep q m s0 a0 := Keep.set_tap k1
  exact OutKeep.next (State.emit_keep h2)

end Sys2Proof.Machine
end

