-- ==== Sys2Proof/Laws/KeepPosition.lean ====
section
/-!
SUPPORT. Keep for every function of Machine/Position.lean that makes a state.
-/

namespace Sys2Proof.Machine

theorem State.setImg_keep {q m s0 v0 v1 v2} (k0 : Keep q m s0 v0) : Keep q m s0 (State.setImg v0 v1 v2) := by
  unfold State.setImg
  exact Keep.set_imgs k0 (Sparse.wf_put _ _)

theorem State.setTp_keep {q m s0 v0 v1 v2} (k0 : Keep q m s0 v0) : Keep q m s0 (State.setTp v0 v1 v2) := by
  unfold State.setTp
  exact Keep.set_tps k0 (Sparse.wf_put _ _)

theorem State.setEnc_keep {q m s0 v0 v1 v2} (k0 : Keep q m s0 v0) : Keep q m s0 (State.setEnc v0 v1 v2) := by
  unfold State.setEnc
  exact Keep.set_encs k0 (Sparse.wf_put _ _)

theorem State.setPt_keep {q m s0 v0 v1 v2} (k0 : Keep q m s0 v0) : Keep q m s0 (State.setPt v0 v1 v2) := by
  unfold State.setPt
  exact Keep.set_pts k0 (Sparse.wf_put _ _)

theorem State.setPosItems_keep {q m s0 v0 v1 v2} (k0 : Keep q m s0 v0) : Keep q m s0 (State.setPosItems v0 v1 v2) :=
    by
  unfold State.setPosItems
  exact Keep.set_posQ k0 (Sparse.wf_put _ _)

theorem encFault_keep {q m s0 v0 v1 v2} (k0 : Keep q m s0 v0) : Keep q m s0 (encFault v0 v1 v2) := by
  unfold encFault
  exact State.flagEvent_keep k0

theorem cmpNote_keep {q m s0 v0 v1} (k0 : Keep q m s0 v0) : Keep q m s0 (cmpNote v0 v1) := by
  unfold cmpNote
  extract_lets a0 a1
  exact Keep.ite (Keep.set_cmpNear k0 (NatSet.wf_insert _)) (Keep.set_cmpNear k0 (NatSet.wf_erase _))

theorem cmpArm_keep {q m s0 v0 v1} (k0 : Keep q m s0 v0) : Keep q m s0 (cmpArm v0 v1) := by
  unfold cmpArm
  extract_lets a0 a1 a2
  have h3 : Keep q m s0 a2 := State.setBit_keep (State.flag_keep k0)
  exact Keep.ite (cmpNote_keep (State.cond_keep h3 (fun x4 h5 => (State.raise_keep h5)))) (State.setBit_keep k0)

theorem cmpTake_keep {q m s0 v0 v1} (k0 : Keep q m s0 v0) : Keep q m s0 (cmpTake v0 v1) := by
  unfold cmpTake
  exact Keep.ite (cmpArm_keep (CommitUnit.take_keep k0)) k0

theorem cmpFire_keep {q m s0 v0 v1 v2 v3 v4} (k0 : Keep q m s0 v0) : Keep q m s0 (cmpFire v0 v1 v2 v3 v4) := by
  unfold cmpFire
  extract_lets a0 a1 a2 a3 a4 a5 a6 a7 a8
  have h9 : Keep q m s0 a5 := State.flag_keep (State.wrapInc_keep k0)
  have h10 : Keep q m s0 a6 := State.raise_keep (State.setReg64_keep h9)
  have h11 : Keep q m s0 a8 := Keep.ite (cmpNote_keep (State.setBit_keep (State.setInForce_keep
      (State.setInForce_keep h10)))) (State.setBit_keep h10)
  exact State.cond_keep h11 (fun x12 h13 => (State.emit_keep (Keep.set_cmpPulse h13 (Sparse.wf_put _ _))))

theorem cmpSample_keep {q m s0 v0 v1 v2 v3} (k2 : Keep q m s0 v2) : Keep q m s0 (cmpSample v0 v1 v2 v3) := by
  unfold cmpSample
  extract_lets a0 a1 a2 a3 a4 a5 a6
  have h7 : Keep q m s0 a3 := State.cond_keep k2 (fun x8 h9 => (Keep.set_cmpNear h9 (NatSet.wf_erase _)))
  exact Keep.ite k2 (Keep.ite (cmpTake_keep k2) (Keep.ite k2 (Keep.ite (cmpFire_keep h7) h7)))

theorem cmpRejudge_keep {q m s0 v0 v1 v2} (k1 : Keep q m s0 v1) : Keep q m s0 (cmpRejudge v0 v1 v2) := by
  unfold cmpRejudge
  exact Keep.ite (cmpNote_keep (State.setBit_keep k1)) k1

theorem cmpRenote_keep {q m s0 v0 v1 v2} (k1 : Keep q m s0 v1) : Keep q m s0 (cmpRenote v0 v1 v2) := by
  unfold cmpRenote
  exact State.cond_keep k1 (fun x0 h1 => (cmpNote_keep h1))

theorem ptFollow_keep {q m s0 v0 v1 v2} (k1 : Keep q m s0 v1) : Keep q m s0 (ptFollow v0 v1 v2) := by
  unfold ptFollow
  extract_lets a0 a1 a2 a3 a4
  have h5 : Keep q m s0 a4 := State.setPt_keep k1
  exact (Keep.ite k1 (Keep.ite (State.setPt_keep k1) (Keep.ite (State.cond_keep h5 (fun x6 h7 =>
      (State.flagEvent_keep h7))) (by
      split
      · next b8 b9 b10 b11 =>
        exact (State.setPt_keep k1)))))

theorem ptTake_keep {q m s0 v0 v1} (k0 : Keep q m s0 v0) : Keep q m s0 (ptTake v0 v1) := by
  unfold ptTake
  extract_lets a0 a1 a2 a3
  have h4 : Keep q m s0 a0 := CommitUnit.take_keep k0
  exact (Keep.ite (by
      clear_value a2
      split
      · next b5 b6 b7 b8 =>
        exact (ptFollow_keep (State.setPt_keep h4))) k0)

theorem ptRebase_keep {q m s0 v0 v1 v2} (k1 : Keep q m s0 v1) : Keep q m s0 (ptRebase v0 v1 v2) := by
  unfold ptRebase
  extract_lets a0
  exact Keep.ite (State.setPt_keep k1) k1

theorem ptSample_keep {q m s0 v0 v1 v2} (k1 : Keep q m s0 v1) : Keep q m s0 (ptSample v0 v1 v2) := by
  unfold ptSample
  exact Keep.ite (ptFollow_keep (ptTake_keep k1)) k1

theorem sendItem_keep {q m s0 v0 v1 v2} (k0 : Keep q m s0 v0) : Keep q m s0 (sendItem v0 v1 v2) := by
  unfold sendItem
  exact Keep.foldl k0 (fun x0 h1 _ => (State.setPosItems_keep h1))

theorem publish_keep {q m s0 v0 v1 v2} (k0 : Keep q m s0 v0) : Keep q m s0 (publish v0 v1 v2) := by
  unfold publish
  extract_lets a0 a1 a2 a3 a4 a5 a6 a7 a8
  have h9 : Keep q m s0 a2 := State.setEnc_keep k0
  have h10 : Keep q m s0 a5 := Keep.ite (Keep.set_runner h9) h9
  have h11 : Keep q m s0 a6 := State.setBit_keep h10
  have h12 : Keep q m s0 a7 := Keep.foldl h11 (fun x13 h14 _ => (cmpSample_keep h14))
  have h16 : Keep q m s0 a8 := Keep.foldl h12 (fun x17 h18 _ => (ptSample_keep h18))
  exact sendItem_keep h16

theorem windowStart_keep {q m s0 v0 v1} (k0 : Keep q m s0 v0) : Keep q m s0 (windowStart v0 v1) := by
  unfold windowStart
  extract_lets a0
  exact State.setEnc_keep k0

theorem noteSpeed_keep {q m s0 v0 v1} (k0 : Keep q m s0 v0) : Keep q m s0 (noteSpeed v0 v1) := by
  unfold noteSpeed
  extract_lets a0 a1
  exact State.setEnc_keep k0

theorem windowClose_keep {q m s0 v0 v1} (k0 : Keep q m s0 v0) : Keep q m s0 (windowClose v0 v1) := by
  unfold windowClose
  extract_lets a0 a1 a2 a3 a4 a5 a6 a7 a8 a9 a10 a11 a12 a13 a14
  have h15 : Keep q m s0 a7 := noteSpeed_keep (State.setEnc_keep k0)
  have h16 : Keep q m s0 a8 := State.setReg_keep h15
  have h17 : Keep q m s0 a10 := State.wrapInc_keep h16
  have h18 : Keep q m s0 a11 := State.setBit_keep (State.setBit_keep h17)
  have h19 : Keep q m s0 a12 := State.setBit_keep (State.setBit_keep h18)
  have h20 : Keep q m s0 a13 := State.cond_keep h19 (fun x21 h22 => (State.flag_keep h22))
  have h23 : Keep q m s0 a14 := State.cond_keep h20 (fun x24 h25 => (State.raise_keep (State.setBit_keep h25)))
  exact Keep.ite k0 (State.cond_keep h23 (fun x26 h27 => (sendItem_keep h27)))

theorem encLoad_keep {q m s0 v0 v1 v2} (k0 : Keep q m s0 v0) : Keep q m s0 (encLoad v0 v1 v2) := by
  unfold encLoad
  extract_lets a0 a1 a2
  have h3 : Keep q m s0 a0 := State.setBit_keep (State.setSreg64_keep k0)
  exact State.setEnc_keep h3

theorem encWithhold_keep {q m s0 v0 v1} (k0 : Keep q m s0 v0) : Keep q m s0 (encWithhold v0 v1) := by
  unfold encWithhold
  extract_lets a0 a1 a2
  have h3 : Keep q m s0 a1 := State.setFld_keep k0
  have h4 : Keep q m s0 a2 := State.setFld_keep h3
  exact State.setFld_keep h4

theorem takeWatchers_keep {q m s0 v0 v1} (k1 : Keep q m s0 v1) : Keep q m s0 (takeWatchers v0 v1) := by
  unfold takeWatchers
  extract_lets a0
  have h1 : Keep q m s0 a0 := Keep.foldl k1 (fun x2 h3 _ => (State.cond_keep h3 (fun x5 h6 => (cmpTake_keep h6))))
  exact Keep.foldl h1 (fun x7 h8 _ => (State.cond_keep h8 (fun x10 h11 => (ptTake_keep h11))))

theorem encTake_keep {q m s0 v0 v1} (k0 : Keep q m s0 v0) : Keep q m s0 (encTake v0 v1) := by
  unfold encTake
  extract_lets a0 a1 a2 a3 a4 a5 a6 a7 a8 a9 a10 a11 a12 a13
  have h14 : Keep q m s0 a3 := State.cond_keep k0 (fun x15 h16 => (encFault_keep (encWithhold_keep h16)))
  have h17 : Keep q m s0 a4 := CommitUnit.take_keep h14
  have h18 : Keep q m s0 a7 := (State.cond_keep h17 (fun x19 h20 => (by
      extract_lets a21
      exact (State.setEnc_keep (State.setBit_keep h20)))))
  have h22 : Keep q m s0 a8 := Keep.ite (Keep.foldl (encLoad_keep h18) (fun x23 h24 _ => (cmpRejudge_keep h24)))
      (Keep.ite h18 (Keep.foldl (encLoad_keep h18) (fun x26 h27 _ => (cmpRenote_keep h27))))
  have h29 : Keep q m s0 a9 := State.cond_keep h22 (fun x30 h31 => (Keep.foldl h31 (fun x32 h33 _ => (ptRebase_keep
      h33))))
  have h35 : Keep q m s0 a10 := State.setBit_keep h29
  have h36 : Keep q m s0 a11 := State.setFld_keep h35
  have h37 : Keep q m s0 a13 := windowStart_keep (windowClose_keep h29)
  exact Keep.ite k0 (Keep.ite (Keep.ite h29 (windowStart_keep (State.setEnc_keep h36))) (State.cond_keep h37 (fun x38
      h39 => (takeWatchers_keep h39))))

theorem encCommit_keep {q m s0 v0 v1} (k1 : Keep q m s0 v1) : Keep q m s0 (encCommit v0 v1) := by
  unfold encCommit
  extract_lets a0
  have h1 : Keep q m s0 a0 := CommitUnit.commit_keep k1
  exact Keep.ite (encTake_keep h1) h1

theorem cmpCommit_keep {q m s0 v0 v1} (k1 : Keep q m s0 v1) : Keep q m s0 (cmpCommit v0 v1) := by
  unfold cmpCommit
  extract_lets a0
  have h1 : Keep q m s0 a0 := CommitUnit.commit_keep k1
  exact Keep.ite (cmpTake_keep h1) h1

theorem ptCommit_keep {q m s0 v0 v1} (k1 : Keep q m s0 v1) : Keep q m s0 (ptCommit v0 v1) := by
  unfold ptCommit
  extract_lets a0
  have h1 : Keep q m s0 a0 := CommitUnit.commit_keep k1
  exact Keep.ite (ptTake_keep h1) h1

theorem countBy_keep {q m s0 v0 v1 v2 v3 v4 v5} (k0 : Keep q m s0 v0) : Keep q m s0 (countBy v0 v1 v2 v3 v4 v5) := by
  unfold countBy
  extract_lets a0 a1 a2 a3 a4 a5 a6 a7 a8 a9 a10 a11 a12
  have h13 : Keep q m s0 a9 := State.setSreg64_keep k0
  have h14 : Keep q m s0 a10 := State.setEnc_keep h13
  have h15 : Keep q m s0 a11 := State.cond_keep h14 (fun x16 h17 => (State.raise_keep (State.setBit_keep h17)))
  have h18 : Keep q m s0 a12 := State.setBit_keep h15
  exact publish_keep h18

theorem ptAll_keep {q m s0 v0 v1} (k1 : Keep q m s0 v1) : Keep q m s0 (ptAll v0 v1) := by
  unfold ptAll
  exact Keep.foldl k1 (fun x0 h1 _ => (ptFollow_keep h1))

theorem dirShow_keep {q m s0 v0 v1 v2} (k2 : Keep q m s0 v2) : Keep q m s0 (dirShow v0 v1 v2) := by
  unfold dirShow
  exact State.cond_keep k2 (fun x0 h1 => (State.raise_keep (State.setBit_keep h1)))

theorem countAt_keep {q m s0 v0 v1 v2 v3 v4 v5} (k0 : Keep q m s0 v0) : Keep q m s0 (countAt v0 v1 v2 v3 v4 v5) := by
  unfold countAt
  exact Keep.ite (ptAll_keep (State.cond_keep (encLoad_keep k0) (fun x0 h1 => (dirShow_keep h1)))) (countBy_keep k0)

theorem quadCount_keep {q m s0 v0 v1 v2 v3 v4 v5} (k5 : Keep q m s0 v5) : Keep q m s0 (quadCount v0 v1 v2 v3 v4 v5)
    := by
  unfold quadCount
  extract_lets a0 a1 a2 a3
  have h4 : Keep q m s0 a1 := State.setEnc_keep (State.reach_keep k5)
  have h5 : Keep q m s0 a2 := encFault_keep (State.flag_keep h4)
  have h6 : Keep q m s0 a3 := encTake_keep h4
  exact (Keep.ite (ptAll_keep h4) (by
      clear_value a0
      split
      · next b7 b8 =>
        exact ptAll_keep (State.satInc_keep h5)
      · next b9 b10 b11 =>
        exact (Keep.ite (ptAll_keep h4) (countAt_keep h6))))

theorem hallError_keep {q m s0 v0 v1 v2} (k0 : Keep q m s0 v0) : Keep q m s0 (hallError v0 v1 v2) := by
  unfold hallError
  extract_lets a0 a1
  have h2 : Keep q m s0 a0 := encFault_keep (State.flag_keep k0)
  exact State.setEnc_keep (State.satInc_keep h2)

theorem hallChange_keep {q m s0 v0 v1 v2 v3} (k3 : Keep q m s0 v3) : Keep q m s0 (hallChange v0 v1 v2 v3) := by
  unfold hallChange
  extract_lets a0 a1 a2 a3 a4 a5
  have h6 : Keep q m s0 a0 := State.reach_keep k3
  have h7 : Keep q m s0 a2 := State.setEnc_keep h6
  have h8 : Keep q m s0 a4 := State.setEnc_keep h7
  have h9 : Keep q m s0 a5 := encTake_keep h8
  exact (Keep.ite (ptAll_keep h7) (by
      split
      · next b10 b11 =>
        exact ptAll_keep (hallError_keep h7)
      · next b12 b13 b14 =>
        clear_value a3
        split
        · next b15 b16 =>
          exact ptAll_keep h8
        · next b17 b18 b19 =>
          extract_lets a20
          exact (Keep.ite (ptAll_keep h8) (Keep.ite (countAt_keep h9) (ptAll_keep (hallError_keep h8))))))

theorem scCorrect_keep {q m s0 v0 v1 v2 v3} (k0 : Keep q m s0 v0) : Keep q m s0 (scCorrect v0 v1 v2 v3) := by
  unfold scCorrect
  extract_lets a0 a1 a2
  exact (Keep.ite k0 (by
      split
      · next b3 b4 b5 b6 =>
        split
        · next b7 b8 b9 b10 =>
          split
          · next b11 b12 b13 b14 =>
            clear_value a2
            split
            · next b15 b16 b17 b18 =>
              split
              · next b19 b20 b21 b22 =>
                extract_lets a23 a24 a25 a26 a27 a28 a29 a30
                have h31 : Keep q m s0 a23 := State.setSfld_keep (State.setSfld_keep k0)
                have h32 : Keep q m s0 a24 := State.setFld_keep (State.setSfld_keep h31)
                have h33 : Keep q m s0 a30 := State.setEnc_keep h32
                exact (State.cond_keep h33 (fun x34 h35 => (State.flag_keep h35)))))

theorem scPeriod_keep {q m s0 v0 v1 v2 v3 v4 v5} (k5 : Keep q m s0 v5) : Keep q m s0 (scPeriod v0 v1 v2 v3 v4 v5) :=
    by
  unfold scPeriod
  extract_lets a0 a1
  split
  · next b2 b3 =>
    exact State.setEnc_keep k5
  · next b4 b5 b6 =>
    extract_lets a7 a8 a9
    have h10 : Keep q m s0 a8 := scCorrect_keep k5
    exact Keep.ite (State.setEnc_keep h10) (State.setEnc_keep k5)

theorem sincosConvert_keep {q m s0 v0 v1 v2 v3 v4 v5} (k5 : Keep q m s0 v5) : Keep q m s0 (sincosConvert v0 v1 v2 v3
    v4 v5) := by
  unfold sincosConvert
  extract_lets a0 a1 a2 a3 a4 a5
  have h6 : Keep q m s0 a0 := State.reach_keep k5
  have h7 : Keep q m s0 a2 := encTake_keep h6
  have h8 : ∀ y1, Keep q m s0 y1 → ∀ y2, Keep q m s0 (a5 y1 y2) := fun x9 h10 _ => (State.satInc_keep (encFault_keep
      (State.flag_keep h10)))
  exact (Keep.ite h6 (by
      clear_value a2
      split
      · next b12 b13 b14 b15 =>
        extract_lets a16 a17 a18 a19 a20 a21 a22 a23 a24 a25 a26 a27
        have h28 : Keep q m s0 a17 := State.setEnc_keep h7
        have h29 : Keep q m s0 a19 := State.setEnc_keep h28
        have h30 : Keep q m s0 a22 := Keep.set_freeCtr h28 (Nat.le_add_right _ _)
        have h31 : Keep q m s0 a24 := State.setEnc_keep h30
        have h32 : Keep q m s0 a26 := State.cond_keep h31 (fun x33 h34 => (h8 _ h34 _))
        have h35 : Keep q m s0 a27 := State.cond_keep h32 (fun x36 h37 => (scPeriod_keep h37))
        exact (Keep.ite (countAt_keep (h8 _ h29 _)) (countAt_keep h35))))

theorem heartbeat_keep {q m s0 v0 v1} (k1 : Keep q m s0 v1) : Keep q m s0 (heartbeat v0 v1) := by
  unfold heartbeat
  extract_lets a0 a1 a2 a3
  have h4 : Keep q m s0 a1 := encTake_keep (State.reach_keep k1)
  exact Keep.ite (Keep.ite h4 (publish_keep h4)) k1

theorem indexLatch_keep {q m s0 v0 v1} (k1 : Keep q m s0 v1) : Keep q m s0 (indexLatch v0 v1) := by
  unfold indexLatch
  extract_lets a0 a1 a2 a3 a4 a5 a6
  have h7 : Keep q m s0 a2 := ptAll_keep (State.setEnc_keep k1)
  have h8 : Keep q m s0 a4 := State.setReg64_keep h7
  have h9 : Keep q m s0 a5 := State.setReg64_keep h8
  have h10 : Keep q m s0 a6 := State.wrapInc_keep h9
  exact Keep.ite h7 (State.raise_keep (State.setBit_keep h10))

theorem windowEnd_keep {q m s0 v0 v1} (k1 : Keep q m s0 v1) : Keep q m s0 (windowEnd v0 v1) := by
  unfold windowEnd
  extract_lets a0
  have h1 : Keep q m s0 a0 := State.reach_keep k1
  exact Keep.ite k1 (windowStart_keep (windowClose_keep h1))

theorem ptEdge_keep {q m s0 v0 v1} (k1 : Keep q m s0 v1) : Keep q m s0 (ptEdge v0 v1) := by
  unfold ptEdge
  extract_lets a0 a1 a2 a3
  have h4 : Keep q m s0 a2 := State.reach_keep k1
  exact (Keep.ite k1 (by
      clear_value a3
      split
      · next b5 b6 b7 b8 =>
        exact (State.setPt_keep h4)))

theorem execQuadCount_keep {q m s0 v0 v1 v2 v3 v4 v5 v6} (k6 : Keep q m s0 v6) : OutKeep q m s0 (execQuadCount v0 v1
    v2 v3 v4 v5 v6) := by
  unfold execQuadCount
  exact OutKeep.next (State.whenWorking_keep k6 (fun x0 h1 => (Keep.ite (quadCount_keep (State.lost_keep h1)) h1)))

theorem execHallStateChange_keep {q m s0 v0 v1 v2 v3 v4} (k4 : Keep q m s0 v4) : OutKeep q m s0 (execHallStateChange
    v0 v1 v2 v3 v4) := by
  unfold execHallStateChange
  exact OutKeep.next (State.whenWorking_keep k4 (fun x0 h1 => (Keep.ite (hallChange_keep (State.lost_keep h1)) h1)))

theorem execSincosConversion_keep {q m s0 v0 v1 v2 v3 v4 v5 v6} (k6 : Keep q m s0 v6) : OutKeep q m s0
    (execSincosConversion v0 v1 v2 v3 v4 v5 v6) := by
  unfold execSincosConversion
  exact OutKeep.next (State.whenWorking_keep k6 (fun x0 h1 => (sincosConvert_keep (State.lost_keep h1))))

theorem execHeartbeatSample_keep {q m s0 v0 v1 v2} (k2 : Keep q m s0 v2) : OutKeep q m s0 (execHeartbeatSample v0 v1
    v2) := by
  unfold execHeartbeatSample
  exact OutKeep.next (State.whenWorking_keep k2 (fun x0 h1 => (heartbeat_keep (State.lost_keep h1))))

theorem execIndexLatch_keep {q m s0 v0 v1 v2 v3} (k3 : Keep q m s0 v3) : OutKeep q m s0 (execIndexLatch v0 v1 v2 v3)
    := by
  unfold execIndexLatch
  exact OutKeep.next (State.whenWorking_keep k3 (fun x0 h1 => (indexLatch_keep (State.lost_keep (State.reach_keep
      h1)))))

theorem execComparePulseEnd_keep {q m s0 v0 v1} (k1 : Keep q m s0 v1) : OutKeep q m s0 (execComparePulseEnd v0 v1) :=
    by
  unfold execComparePulseEnd
  exact (OutKeep.next (by
      split
      · next b0 b1 b2 =>
        extract_lets a3
        have h4 : Keep q m s0 a3 := State.reach_keep k1
        exact Keep.set_cmpPulse h4 (Sparse.wf_erase _)
      · next b5 b6 =>
        exact k1))

theorem execPtSynthEdge_keep {q m s0 v0 v1} (k1 : Keep q m s0 v1) : OutKeep q m s0 (execPtSynthEdge v0 v1) := by
  unfold execPtSynthEdge
  exact OutKeep.next (State.whenWorking_keep k1 (fun x0 h1 => (ptEdge_keep h1)))

theorem execEncCommit_keep {q m s0 v0 v1 v2} (k2 : Keep q m s0 v2) : OutKeep q m s0 (execEncCommit v0 v1 v2) := by
  unfold execEncCommit
  exact OutKeep.next (State.whenWorking_keep k2 (fun x0 h1 => (encCommit_keep (State.lost_keep h1))))

theorem execCmpCommit_keep {q m s0 v0 v1 v2} (k2 : Keep q m s0 v2) : OutKeep q m s0 (execCmpCommit v0 v1 v2) := by
  unfold execCmpCommit
  exact OutKeep.next (State.whenWorking_keep k2 (fun x0 h1 => (cmpCommit_keep (State.cond_keep h1 (fun x2 h3 =>
      (State.satInc_keep h3))))))

theorem execPtCommit_keep {q m s0 v0 v1 v2} (k2 : Keep q m s0 v2) : OutKeep q m s0 (execPtCommit v0 v1 v2) := by
  unfold execPtCommit
  exact OutKeep.next (State.whenWorking_keep k2 (fun x0 h1 => (ptCommit_keep (State.lost_keep h1))))

end Sys2Proof.Machine
end

