-- ==== Sys2Proof/Laws/KeepScript.lean ====
section
/-!
SUPPORT. Keep for every function of Machine/Script.lean that makes a state.
-/

namespace Sys2Proof.Machine

theorem State.setEngine_keep {q m s0 v0 v1 v2} (k0 : Keep q m s0 v0) : Keep q m s0 (State.setEngine v0 v1 v2) := by
  unfold State.setEngine
  exact Keep.set_engines k0 (Sparse.wf_put _ _)

theorem engineNext_keep {q m s0 v0 v1} (k0 : Keep q m s0 v0) : Keep q m s0 (engineNext v0 v1) := by
  unfold engineNext
  extract_lets a0
  exact (Keep.ite k0 (by
      clear_value a0
      split
      · next b1 b2 =>
        exact State.setBit_keep k0
      · next b3 b4 b5 b6 b7 =>
        exact (State.setBit_keep (State.setEngine_keep k0))))

theorem scriptBegin_keep {q m s0 v0 v1 v2} (k0 : Keep q m s0 v0) : Keep q m s0 (scriptBegin v0 v1 v2) := by
  unfold scriptBegin
  split
  · next b0 b1 =>
    exact State.setEngine_keep k0
  · next b2 b3 =>
    extract_lets a4
    exact engineNext_keep (State.setEngine_keep k0)

theorem scriptOver_keep {q m s0 v0 v1 v2} (k0 : Keep q m s0 v0) : Keep q m s0 (scriptOver v0 v1 v2) := by
  unfold scriptOver
  extract_lets a0 a1 a2 a3 a4 a5 a6
  have h7 : Keep q m s0 a4 := State.setEngine_keep k0
  have h8 : Keep q m s0 a5 := State.setFld_keep h7
  have h9 : Keep q m s0 a6 := State.cond_keep h8 (fun x10 h11 => (State.flag_keep (State.setFld_keep h11)))
  exact engineNext_keep (State.raise_keep h9)

theorem scriptAdvance_keep {q m s0 v0 v1} (k0 : Keep q m s0 v0) : Keep q m s0 (scriptAdvance v0 v1) := by
  unfold scriptAdvance
  extract_lets a0
  exact State.setEngine_keep k0

theorem scriptTransfer_keep {q m s0 v0 v1 v2} (k0 : Keep q m s0 v0) : Keep q m s0 (scriptTransfer v0 v1 v2) := by
  unfold scriptTransfer
  extract_lets a0
  exact Keep.ite (scriptOver_keep k0) (Keep.foldl (State.setEngine_keep k0) (fun x1 h2 _ => (State.emit_keep h2)))

theorem scriptStart_keep {q m s0 v0 v1 v2} (k2 : Keep q m s0 v2) : Keep q m s0 (scriptStart v0 v1 v2) := by
  unfold scriptStart
  split
  · next b0 b1 =>
    exact k2
  · next b2 b3 b4 =>
    extract_lets a5
    have h6 : Keep q m s0 a5 := State.cond_keep k2 (fun x7 h8 => (State.setEngine_keep h8))
    exact scriptTransfer_keep h6

theorem scriptTransferDone_keep {q m s0 v0 v1 v2 v3} (k3 : Keep q m s0 v3) : Keep q m s0 (scriptTransferDone v0 v1 v2
    v3) := by
  unfold scriptTransferDone
  extract_lets a0 a1
  have h2 : Keep q m s0 a1 := State.setEngine_keep k3
  exact (Keep.ite k3 (by
      clear_value a0
      split
      · next b3 b4 =>
        exact k3
      · next b5 b6 b7 b8 =>
        extract_lets a9 a10 a11
        have h12 : Keep q m s0 a10 := State.setReg_keep h2
        exact (Keep.ite (scriptOver_keep h2) (Keep.ite (scriptAdvance_keep h2) (Keep.ite (scriptAdvance_keep h12)
            (Keep.ite (scriptOver_keep h12) (State.setEngine_keep h12)))))))

theorem scriptPollRetry_keep {q m s0 v0 v1 v2} (k2 : Keep q m s0 v2) : Keep q m s0 (scriptPollRetry v0 v1 v2) := by
  unfold scriptPollRetry
  extract_lets a0
  clear_value a0
  split
  · next b1 b2 b3 b4 b5 b6 b7 =>
    exact Keep.ite (scriptOver_keep (State.reach_keep k2)) (Keep.ite (scriptTransfer_keep (State.reach_keep k2)) k2)
  · next b8 b9 b10 =>
    exact k2

theorem scriptWait_keep {q m s0 v0 v1} (k1 : Keep q m s0 v1) : Keep q m s0 (scriptWait v0 v1) := by
  unfold scriptWait
  split
  · next b0 b1 b2 =>
    extract_lets a3
    exact Keep.ite (scriptOver_keep k1) (State.setEngine_keep k1)
  · next b4 b5 =>
    exact k1

theorem scriptWaitEnd_keep {q m s0 v0 v1} (k1 : Keep q m s0 v1) : Keep q m s0 (scriptWaitEnd v0 v1) := by
  unfold scriptWaitEnd
  split
  · next b0 b1 b2 =>
    exact scriptAdvance_keep (State.reach_keep k1)
  · next b3 b4 =>
    exact k1

theorem scriptEndOp_keep {q m s0 v0 v1} (k1 : Keep q m s0 v1) : Keep q m s0 (scriptEndOp v0 v1) := by
  unfold scriptEndOp
  split
  · next b0 b1 b2 =>
    exact scriptOver_keep k1
  · next b3 b4 =>
    exact k1

theorem scriptRun_keep {q m s0 v0 v1} (k1 : Keep q m s0 v1) : Keep q m s0 (scriptRun v0 v1) := by
  unfold scriptRun
  exact (Keep.ite k1 (by
      split
      · next b0 b1 b2 =>
        extract_lets a3
        exact engineNext_keep (State.setEngine_keep k1)
      · next b4 b5 =>
        exact (State.setFld_keep k1)))

theorem readyCheck_keep {q m s0 v0} (k0 : Keep q m s0 v0) : Keep q m s0 (readyCheck v0) := by
  unfold readyCheck
  split
  · next b0 b1 =>
    extract_lets a2
    exact Keep.set_boot k0
  · next b3 b4 b5 =>
    extract_lets a6 a7 a8 a9
    have h10 : Keep q m s0 a9 := Keep.set_boot k0
    exact State.cond_keep h10 (fun x11 h12 => (State.setFld_keep (State.setReg_keep h12)))

end Sys2Proof.Machine
end

