-- ==== Sys2Proof/Laws/KeepCorrect.lean ====
section
/-!
SUPPORT. Keep for every function of Machine/Correct.lean that makes a state.
-/

namespace Sys2Proof.Machine

theorem correctLine_keep {q m s0 v0 v1 v2 v3 v4} (k0 : Keep q m s0 v0) : Keep q m s0 (correctLine v0 v1 v2 v3 v4).2.2
    := by
  unfold correctLine
  extract_lets a0 a1 a2 a3 a4 a5
  clear_value a1 a2 a3
  split
  · next b6 b7 b8 b9 =>
    extract_lets a10 a11 a12 a13 a14 a15
    split
    · next b16 =>
      exact Keep.mk2 k0
    · next b17 =>
      split
      · next b18 =>
        clear_value a5
        split
        · next b19 b20 b21 b22 =>
          exact Keep.mk2 k0
      · next b23 =>
        clear_value a15
        split
        · next b24 b25 b26 b27 =>
          extract_lets a28
          have h29 : Keep q m s0 a28 := State.setFld_keep (State.setImg_keep k0)
          split
          · next b30 b31 b32 b33 =>
            exact Keep.mk2 h29

end Sys2Proof.Machine
end

