-- ==== Sys2Proof/Laws/KeepQueue.lean ====
section
/-!
SUPPORT. Keep for every function of Machine/Queue.lean that makes a state.
-/

namespace Sys2Proof.Machine

theorem State.setLine_keep {q m s0 v0 v1 v2} (k0 : Keep q m s0 v0) : Keep q m s0 (State.setLine v0 v1 v2) := by
  unfold State.setLine
  exact Keep.ite (State.setBit_keep k0) (State.setBit_keep k0)

theorem State.clearLine_keep {q m s0 v0 v1 v2} (k0 : Keep q m s0 v0) : Keep q m s0 (State.clearLine v0 v1 v2) := by
  unfold State.clearLine
  exact Keep.ite (State.setBit_keep k0) (State.setBit_keep k0)

theorem State.setChan_keep {q m s0 v0 v1 v2} (k0 : Keep q m s0 v0) : Keep q m s0 (State.setChan v0 v1 v2) := by
  unfold State.setChan
  exact Keep.set_chans k0 (Sparse.wf_put _ _)

theorem dmaSend_keep {q m s0 v0 v1 v2} (k2 : Keep q m s0 v2) : Keep q m s0 (dmaSend v0 v1 v2) := by
  unfold dmaSend
  extract_lets a0
  exact Keep.set_dma k2

theorem State.setQueueEntries_keep {q m s0 v0 v1 v2 v3} (k0 : Keep q m s0 v0) : Keep q m s0 (State.setQueueEntries v0
    v1 v2 v3) := by
  unfold State.setQueueEntries
  extract_lets a0 a1 a2 a3
  have h4 : Keep q m s0 a1 := Keep.set_queues k0 (Sparse.wf_put _ _)
  have h5 : Keep q m s0 a2 := State.setFld_keep h4
  exact State.cond_keep h5 (fun x6 h7 => (State.setLine_keep h7))

theorem refreshBound_keep {q m s0 v0 v1} (k0 : Keep q m s0 v0) : Keep q m s0 (refreshBound v0 v1) := by
  unfold refreshBound
  exact (Keep.foldl k0 (fun x0 h1 _ => (by
      extract_lets a3
      exact (State.setBit_keep h1))))

theorem queueFlow_keep {q m s0 v0 v1 v2} (k0 : Keep q m s0 v0) : Keep q m s0 (queueFlow v0 v1 v2) := by
  unfold queueFlow
  extract_lets a0 a1 a2 a3
  exact Keep.ite (Keep.ite k0 (State.setQueueEntries_keep (State.setQueueEntries_keep k0))) k0

theorem queueAdd_keep {q m s0 v0 v1 v2 v3} (k0 : Keep q m s0 v0) : Keep q m s0 (queueAdd v0 v1 v2 v3) := by
  unfold queueAdd
  exact queueFlow_keep (State.setQueueEntries_keep k0)

theorem queueDrop_keep {q m s0 v0 v1 v2} (k0 : Keep q m s0 v0) : Keep q m s0 (queueDrop v0 v1 v2) := by
  unfold queueDrop
  extract_lets a0
  have h1 : Keep q m s0 a0 := State.setQueueEntries_keep k0
  exact Keep.ite (queueFlow_keep h1) h1

theorem tapTo_keep {q m s0 v0 v1 v2 v3} (k2 : Keep q m s0 v2) : Keep q m s0 (tapTo v0 v1 v2 v3) := by
  unfold tapTo
  exact Keep.ite (Keep.ite (queueAdd_keep k2) (State.satInc_keep k2)) k2

theorem State.portEmit_keep {q m s0 v0 v1} (k0 : Keep q m s0 v0) : Keep q m s0 (State.portEmit v0 v1) := by
  unfold State.portEmit
  exact Keep.foldl (State.pushRec_keep k0) (fun x0 h1 _ => (tapTo_keep h1))

end Sys2Proof.Machine
end

