-- ==== Sys2Proof/Laws/KeepSpool.lean ====
section
/-!
SUPPORT. Keep for every function of Machine/Spool.lean that makes a state.
-/

namespace Sys2Proof.Machine

theorem showFill_keep {q m s0 v0 v1} (k0 : Keep q m s0 v0) : Keep q m s0 (showFill v0 v1) := by
  unfold showFill
  extract_lets a0 a1 a2
  have h3 : Keep q m s0 a2 := State.setFld_keep k0
  exact State.cond_keep h3 (fun x4 h5 => (State.raise_keep h5))

theorem setPtr_keep {q m s0 v0 v1 v2 v3} (k0 : Keep q m s0 v0) : Keep q m s0 (setPtr v0 v1 v2 v3) := by
  unfold setPtr
  exact showFill_keep (State.setReg_keep k0)

theorem State.setStage_keep {q m s0 v0 v1 v2} (k0 : Keep q m s0 v0) : Keep q m s0 (State.setStage v0 v1 v2) := by
  unfold State.setStage
  exact Keep.set_stages k0 (Sparse.wf_put _ _)

end Sys2Proof.Machine
end

