-- ==== Sys2Proof/Laws/KeepSwath.lean ====
section
/-!
SUPPORT. Keep for every function of Machine/Swath.lean that makes a state.
-/

namespace Sys2Proof.Machine

theorem emitGap_keep {q m s0 v0 v1 v2} (k0 : Keep q m s0 v0) : Keep q m s0 (emitGap v0 v1 v2) := by
  unfold emitGap
  split
  · next b0 b1 =>
    exact k0
  · next b2 b3 b4 =>
    exact State.portEmit_keep k0

theorem setFrontSwath_keep {q m s0 v0 v1 v2} (k0 : Keep q m s0 v0) : Keep q m s0 (setFrontSwath v0 v1 v2) := by
  unfold setFrontSwath
  extract_lets a0
  exact State.setImg_keep k0

theorem accountTap_keep {q m s0 v0 v1 v2 v3 v4} (k0 : Keep q m s0 v0) : Keep q m s0 (accountTap v0 v1 v2 v3 v4).1 :=
    by
  unfold accountTap
  split
  · next b0 b1 b2 =>
    split
    · next b3 =>
      exact Keep.mk1 k0
    · next b4 =>
      exact Keep.mk1 (emitGap_keep k0)
  · next b5 b6 =>
    exact Keep.mk1 k0

theorem decideOn_keep {q m s0 v0 v1 v2} (k2 : Keep q m s0 v2) : Keep q m s0 (decideOn v0 v1 v2) := by
  induction v1 generalizing v0 v2 with
  | zero =>
    unfold decideOn
    exact k2
  | succ j ih =>
    unfold decideOn
    split
    · next b0 b1 =>
      exact k2
    · next b2 b3 b4 b5 =>
      split
      · next b6 b7 =>
        exact k2
      · next b8 b9 b10 =>
        split
        · next b11 b12 =>
          exact k2
        · next b13 b14 b15 =>
          split
          · next b16 b17 b18 b19 =>
            have h20 : Keep q m s0 b17 := Keep.eq1 (accountTap_keep k2) b19
            exact ih (setFrontSwath_keep h20)
        · next b21 b22 =>
          split
          · next b23 b24 =>
            split
            · next b25 b26 b27 b28 =>
              have h29 : Keep q m s0 b26 := Keep.eq1 (accountTap_keep (State.satInc_keep k2)) b28
              exact ih (setFrontSwath_keep h29)
          · next b30 b31 =>
            exact k2

theorem decide_keep {q m s0 v0 v1} (k0 : Keep q m s0 v0) : Keep q m s0 (decide_ v0 v1) := by
  unfold decide_
  exact decideOn_keep k0

theorem emitLine_keep {q m s0 v0 v1 v2 v3 v4 v5 v6 v7} (k0 : Keep q m s0 v0) : Keep q m s0 (emitLine v0 v1 v2 v3 v4
    v5 v6 v7) := by
  unfold emitLine
  extract_lets a0 a1 a2 a3 a4 a5 a6 a7 a8 a9 a10 a11
  have h12 : Keep q m s0 a1 := State.flagEvent_keep k0
  have h13 : Keep q m s0 a2 := emitGap_keep k0
  have h14 : Keep q m s0 a5 := State.setImg_keep h13
  have h15 : Keep q m s0 a7 := State.cond_keep h14 (fun x16 h17 => (State.satInc_keep h17))
  have h18 : Keep q m s0 a8 := (State.cond_keep h15 (fun x19 h20 => (by
      extract_lets a21 a22
      have h23 : Keep q m s0 a21 := State.satInc_keep (State.flag_keep h20)
      exact (Keep.ite h23 (State.raise_keep (State.setImg_keep h23))))))
  have h24 : Keep q m s0 a9 := State.cond_keep h18 (fun x25 h26 => (State.satInc_keep (State.flag_keep h26)))
  have h27 : Keep q m s0 a11 := State.portEmit_keep h24
  exact (Keep.ite (by
      clear_value a1
      split
      · next b28 b29 b30 b31 =>
        have h32 : Keep q m s0 b29 := Keep.eq1 (accountTap_keep h12) b31
        exact (setFrontSwath_keep h32)) (setFrontSwath_keep h27))

theorem lineComplete_keep {q m s0 v0 v1} (k1 : Keep q m s0 v1) : Keep q m s0 (lineComplete v0 v1) := by
  unfold lineComplete
  extract_lets a0
  have h1 : Keep q m s0 a0 := decide_keep k1
  clear_value a0
  split
  · next b2 b3 =>
    exact h1
  · next b4 b5 b6 b7 =>
    split
    · next b8 b9 =>
      exact h1
    · next b10 b11 b12 =>
      split
      · next b13 b14 b15 b16 b17 =>
        exact (Keep.ite h1 (by
            split
            · next b18 b19 b20 b21 b22 =>
              exact decide_keep (emitLine_keep h1)
            · next b23 b24 =>
              exact h1))
      · next b25 b26 b27 =>
        exact h1

theorem linesComplete_keep {q m s0 v0 v1 v2} (k2 : Keep q m s0 v2) : Keep q m s0 (linesComplete v0 v1 v2) := by
  induction v1 generalizing v0 v2 with
  | zero =>
    unfold linesComplete
    exact k2
  | succ j ih =>
    unfold linesComplete
    exact ih (lineComplete_keep k2)

theorem beginSwath_keep {q m s0 v0 v1 v2} (k0 : Keep q m s0 v0) : Keep q m s0 (beginSwath v0 v1 v2) := by
  unfold beginSwath
  extract_lets a0 a1
  have h2 : Keep q m s0 a1 := State.setImg_keep k0
  exact State.setBit_keep (State.setBit_keep h2)

theorem endSwath_keep {q m s0 v0 v1 v2 v3} (k0 : Keep q m s0 v0) : Keep q m s0 (endSwath v0 v1 v2 v3) := by
  unfold endSwath
  extract_lets a0
  clear_value a0
  split
  · next b1 b2 =>
    exact k0
  · next b3 b4 b5 =>
    extract_lets a6
    exact Keep.ite k0 (Keep.ite (State.setImg_keep k0) (decide_keep (State.setImg_keep k0)))

theorem consume_keep {q m s0 v0 v1 v2 v3 v4} (k0 : Keep q m s0 v0) : Keep q m s0 (consume v0 v1 v2 v3 v4) := by
  unfold consume
  extract_lets a0 a1 a2
  clear_value a0
  split
  · next b3 b4 =>
    exact k0
  · next b5 b6 b7 =>
    extract_lets a8 a9
    have h10 : Keep q m s0 a9 := State.setImg_keep k0
    exact State.setBit_keep (State.setFld_keep h10)

theorem mapTap_keep {q m s0 v0 v1 v2 v3} (k0 : Keep q m s0 v0) : Keep q m s0 (mapTap v0 v1 v2 v3) := by
  unfold mapTap
  extract_lets a0
  exact State.setImg_keep k0

theorem swathEnd_keep {q m s0 v0 v1} (k1 : Keep q m s0 v1) : Keep q m s0 (swathEnd v0 v1) := by
  unfold swathEnd
  extract_lets a0
  have h1 : Keep q m s0 a0 := decide_keep k1
  clear_value a0
  split
  · next b2 b3 =>
    exact h1
  · next b4 b5 b6 b7 =>
    split
    · next b8 b9 =>
      exact h1
    · next b10 b11 b12 b13 b14 =>
      extract_lets a15
      have h16 : Keep q m s0 a15 := linesComplete_keep h1
      exact (Keep.ite h1 (by
          clear_value a15
          split
          · next b17 b18 =>
            exact h16
          · next b19 b20 b21 b22 =>
            extract_lets a23 a24 a25
            have h26 : Keep q m s0 a23 := emitGap_keep h16
            have h27 : Keep q m s0 a24 := State.portEmit_keep h26
            exact (Keep.ite h16 (decide_keep (State.raise_keep (State.setImg_keep h27))))))

end Sys2Proof.Machine
end

