-- ==== Sys2Proof/Laws/KeepCapture.lean ====
section
/-!
SUPPORT. Keep for every function of Machine/Capture.lean that makes a state.
-/

namespace Sys2Proof.Machine

theorem imgFault_keep {q m s0 v0 v1 v2} (k0 : Keep q m s0 v0) : Keep q m s0 (imgFault v0 v1 v2) := by
  unfold imgFault
  exact State.flagEvent_keep k0

theorem imgShow_keep {q m s0 v0 v1} (k0 : Keep q m s0 v0) : Keep q m s0 (imgShow v0 v1) := by
  unfold imgShow
  extract_lets a0 a1 a2
  have h3 : Keep q m s0 a1 := State.setBit_keep k0
  have h4 : Keep q m s0 a2 := State.setFld_keep h3
  exact Keep.ite (State.setSreg64_keep h4) h4

theorem imgReady_keep {q m s0 v0 v1} (k0 : Keep q m s0 v0) : Keep q m s0 (imgReady v0 v1) := by
  unfold imgReady
  exact State.setBit_keep k0

theorem portYield_keep {q m s0 v0 v1} (k0 : Keep q m s0 v0) : Keep q m s0 (portYield v0 v1) := by
  unfold portYield
  extract_lets a0 a1
  have h2 : Keep q m s0 a0 := State.setBit_keep (State.setReg_keep k0)
  exact Keep.ite (imgReady_keep k0) (imgReady_keep (State.setImg_keep h2))

theorem capTake_keep {q m s0 v0 v1} (k0 : Keep q m s0 v0) : Keep q m s0 (capTake v0 v1) := by
  unfold capTake
  extract_lets a0 a1 a2 a3 a4 a5
  have h6 : Keep q m s0 a4 := (State.cond_keep k0 (fun x7 h8 => (by
      extract_lets a9
      have h10 : Keep q m s0 a9 := State.setFld_keep h8
      exact (imgFault_keep (Keep.foldl h10 (fun x11 h12 _ => (State.setReg_keep h12)))))))
  have h14 : Keep q m s0 a5 := CommitUnit.take_keep h6
  exact Keep.ite k0 (State.cond_keep h14 (fun x15 h16 => (State.setImg_keep h16)))

theorem swapHalves_keep {q m s0 v0 v1 v2} (k0 : Keep q m s0 v0) : Keep q m s0 (swapHalves v0 v1 v2) := by
  unfold swapHalves
  extract_lets a0 a1 a2 a3
  have h4 : Keep q m s0 a2 := State.setImg_keep k0
  have h5 : Keep q m s0 a3 := State.setFld_keep h4
  exact Keep.foldl h5 (fun x6 h7 _ => (State.setReg_keep h7))

theorem corTake_keep {q m s0 v0 v1 v2} (k0 : Keep q m s0 v0) : Keep q m s0 (corTake v0 v1 v2) := by
  unfold corTake
  extract_lets a0 a1 a2 a3 a4 a5 a6 a7 a8 a9 a10 a11 a12 a13 a14 a15 a16
  have h17 : Keep q m s0 a12 := State.cond_keep k0 (fun x18 h19 => (State.setFld_keep h19))
  have h20 : Keep q m s0 a13 := State.cond_keep h17 (fun x21 h22 => (State.setImg_keep h22))
  have h23 : Keep q m s0 a14 := State.cond_keep h20 (fun x24 h25 => (State.flagEvent_keep h25))
  have h26 : Keep q m s0 a15 := (State.cond_keep h23 (fun x27 h28 => (by
      extract_lets a29
      have h30 : Keep q m s0 a29 := State.setFld_keep h28
      exact (imgFault_keep (State.setFld_keep h30)))))
  have h31 : Keep q m s0 a16 := CommitUnit.take_keep h26
  exact Keep.ite k0 (State.cond_keep h31 (fun x32 h33 => (swapHalves_keep h33)))

theorem heldSwap_keep {q m s0 v0 v1} (k0 : Keep q m s0 v0) : Keep q m s0 (heldSwap v0 v1) := by
  unfold heldSwap
  split
  · next b0 b1 =>
    exact k0
  · next b2 b3 b4 =>
    extract_lets a5 a6 a7 a8 a9
    have h10 : Keep q m s0 a8 := State.setInForce_keep (State.setFld_keep k0)
    exact Keep.ite (swapHalves_keep (State.setImg_keep h10)) k0

theorem imgBoundary_keep {q m s0 v0 v1 v2} (k0 : Keep q m s0 v0) : Keep q m s0 (imgBoundary v0 v1 v2) := by
  unfold imgBoundary
  exact corTake_keep (heldSwap_keep (capTake_keep k0))

theorem imgCommit_keep {q m s0 v0 v1} (k1 : Keep q m s0 v1) : Keep q m s0 (imgCommit v0 v1) := by
  unfold imgCommit
  extract_lets a0
  have h1 : Keep q m s0 a0 := CommitUnit.commit_keep k1
  exact Keep.ite (imgShow_keep (capTake_keep h1)) h1

theorem imgCorCommit_keep {q m s0 v0 v1 v2} (k2 : Keep q m s0 v2) : Keep q m s0 (imgCorCommit v0 v1 v2) := by
  unfold imgCorCommit
  extract_lets a0
  have h1 : Keep q m s0 a0 := CommitUnit.commit_keep k2
  exact Keep.ite (corTake_keep h1) h1

theorem imgSkip_keep {q m s0 v0 v1} (k0 : Keep q m s0 v0) : Keep q m s0 (imgSkip v0 v1) := by
  unfold imgSkip
  extract_lets a0 a1 a2 a3 a4
  have h5 : Keep q m s0 a1 := consume_keep k0
  have h6 : Keep q m s0 a3 := State.setImg_keep h5
  have h7 : Keep q m s0 a4 := State.flag_keep (State.satInc_keep h6)
  exact decide_keep (State.raise_keep h7)

theorem holdEnd_keep {q m s0 v0 v1} (k0 : Keep q m s0 v0) : Keep q m s0 (holdEnd v0 v1) := by
  unfold holdEnd
  extract_lets a0
  exact State.setBit_keep (State.setImg_keep k0)

theorem imgFire_keep {q m s0 v0 v1 v2 v3 v4 v5 v6 v7} (k0 : Keep q m s0 v0) : Keep q m s0 (imgFire v0 v1 v2 v3 v4 v5
    v6 v7) := by
  unfold imgFire
  extract_lets a0 a1 a2 a3 a4 a5 a6 a7 a8 a9 a10 a11 a12 a13 a14 a15 a16 a17 a18 a19 a20
  have h21 : Keep q m s0 a8 := consume_keep k0
  have h22 : Keep q m s0 a14 := State.setImg_keep h21
  have h23 : Keep q m s0 a15 := State.cond_keep h22 (fun x24 h25 => (holdEnd_keep h25))
  have h26 : Keep q m s0 a16 := State.setSreg64_keep (State.wrapInc_keep h23)
  have h27 : Keep q m s0 a17 := State.cond_keep (State.setBit_keep h26) (fun x28 h29 => (State.flag_keep h29))
  have h30 : Keep q m s0 a20 := Keep.set_windows h27
  exact State.emit_keep h30

theorem imgInstant_keep {q m s0 v0 v1 v2 v3 v4 v5} (k0 : Keep q m s0 v0) : Keep q m s0 (imgInstant v0 v1 v2 v3 v4 v5)
    := by
  unfold imgInstant
  extract_lets a0 a1 a2 a3 a4
  have h5 : Keep q m s0 a0 := imgBoundary_keep k0
  exact (Keep.ite (imgSkip_keep h5) (by
      split
      · next b6 b7 =>
        exact imgFire_keep h5
      · next b8 =>
        exact (imgFire_keep h5)))

theorem passOver_keep {q m s0 v0 v1 v2 v3} (k0 : Keep q m s0 v0) : Keep q m s0 (passOver v0 v1 v2 v3) := by
  unfold passOver
  extract_lets a0 a1
  exact Keep.ite k0 (Keep.foldl (imgBoundary_keep k0) (fun x2 h3 _ => (imgSkip_keep h3)))

theorem triggerFire_keep {q m s0 v0 v1 v2} (k2 : Keep q m s0 v2) : Keep q m s0 (triggerFire v0 v1 v2) := by
  unfold triggerFire
  split
  · next b0 b1 =>
    exact k2
  · next b2 b3 b4 =>
    extract_lets a5 a6
    have h7 : Keep q m s0 a6 := State.reach_keep k2
    exact imgShow_keep (imgInstant_keep h7)

theorem clearHist_keep {q m s0 v0 v1} (k0 : Keep q m s0 v0) : Keep q m s0 (clearHist v0 v1) := by
  unfold clearHist
  extract_lets a0
  exact State.setImg_keep k0

theorem placeLines_keep {q m s0 v0 v1 v2} (k0 : Keep q m s0 v0) : Keep q m s0 (placeLines v0 v1 v2) := by
  unfold placeLines
  extract_lets a0 a1 a2 a3
  have h4 : Keep q m s0 a3 := State.setImg_keep k0
  exact decide_keep h4

theorem predict_keep {q m s0 v0 v1 v2} (k0 : Keep q m s0 v0) : Keep q m s0 (predict v0 v1 v2) := by
  unfold predict
  extract_lets a0 a1 a2
  clear_value a0
  split
  · next b3 b4 b5 b6 b7 =>
    extract_lets a8
    clear_value a8
    split
    · next b9 =>
      exact k0
    · next b10 b11 b12 =>
      extract_lets a13
      exact State.setImg_keep k0
  · next b14 b15 =>
    exact k0

theorem keepMoving_keep {q m s0 v0 v1 v2} (k0 : Keep q m s0 v0) : Keep q m s0 (keepMoving v0 v1 v2) := by
  unfold keepMoving
  extract_lets a0
  exact State.setImg_keep k0

theorem imgTurn_keep {q m s0 v0 v1 v2 v3} (k0 : Keep q m s0 v0) : Keep q m s0 (imgTurn v0 v1 v2 v3) := by
  unfold imgTurn
  extract_lets a0 a1 a2
  have h3 : Keep q m s0 a0 := endSwath_keep k0
  have h4 : Keep q m s0 a2 := State.setImg_keep h3
  exact beginSwath_keep h4

theorem holdRelease_keep {q m s0 v0 v1 v2} (k0 : Keep q m s0 v0) : Keep q m s0 (holdRelease v0 v1 v2) := by
  unfold holdRelease
  extract_lets a0
  clear_value a0
  split
  · next b1 b2 =>
    exact k0
  · next b3 b4 b5 =>
    extract_lets a6
    exact Keep.ite (imgTurn_keep (holdEnd_keep k0)) k0

theorem imgSample_keep {q m s0 v0 v1 v2 v3} (k3 : Keep q m s0 v3) : Keep q m s0 (imgSample v0 v1 v2 v3) := by
  unfold imgSample
  extract_lets a0 a1 a2 a3 a4 a5 a6 a7 a8 a9 a10 a11 a12 a13 a14 a15 a16 a17
  have h18 : Keep q m s0 a0 := placeLines_keep k3
  have h19 : Keep q m s0 a1 := State.cond_keep h18 (fun x20 h21 => (clearHist_keep h21))
  have h22 : Keep q m s0 a2 := State.cond_keep h19 (fun x23 h24 => (State.setImg_keep h24))
  have h25 : Keep q m s0 a5 := State.cond_keep h22 (fun x26 h27 => (imgTurn_keep h27))
  have h28 : Keep q m s0 a7 := State.cond_keep h25 (fun x29 h30 => (Keep.ite (passOver_keep h30) h30))
  have h31 : Keep q m s0 a9 := State.setImg_keep h28
  have h32 : Keep q m s0 a10 := holdRelease_keep h31
  have h33 : Keep q m s0 a15 := (State.cond_keep h32 (fun x34 h35 => (by
      extract_lets a36 a37
      have h38 : Keep q m s0 a37 := passOver_keep h35
      exact (imgInstant_keep h38))))
  have h39 : Keep q m s0 a17 := keepMoving_keep (State.setImg_keep h33)
  exact Keep.ite (Keep.ite (imgShow_keep (keepMoving_keep h22)) h22) (Keep.ite (imgShow_keep (State.setImg_keep h25))
      (Keep.ite (imgShow_keep h33) (imgShow_keep (State.cond_keep h39 (fun x40 h41 => (predict_keep h41))))))

theorem takeItem_keep {q m s0 v0 v1} (k0 : Keep q m s0 v0) : Keep q m s0 (takeItem v0 v1).2.2 := by
  unfold takeItem
  extract_lets a0 a1
  clear_value a0 a1
  split
  · next b2 b3 b4 b5 =>
    exact Keep.mk2 (State.setPosItems_keep k0)
  · next b6 b7 =>
    exact Keep.mk2 (State.setPosItems_keep k0)

theorem imgArrival_keep {q m s0 v0 v1 v2} (k2 : Keep q m s0 v2) : Keep q m s0 (imgArrival v0 v1 v2) := by
  unfold imgArrival
  split
  · next b0 b1 b2 b3 b4 =>
    have h5 : Keep q m s0 b3 := Keep.eq22 (takeItem_keep k2) b4
    extract_lets a6
    have h7 : Keep q m s0 a6 := State.cond_keep h5 (fun x8 h9 => (imgShow_keep (clearHist_keep h9)))
    split
    · next b10 b11 =>
      exact imgSample_keep h7
    · next b12 =>
      exact h7

theorem holdStart_keep {q m s0 v0 v1} (k1 : Keep q m s0 v1) : Keep q m s0 (holdStart v0 v1) := by
  unfold holdStart
  exact (Keep.foldl k1 (fun x0 h1 _ => (by
      extract_lets a3 a4 a5
      exact (Keep.ite (State.setBit_keep (State.setImg_keep h1)) h1))))

theorem showDual_keep {q m s0 v0 v1} (k0 : Keep q m s0 v0) : Keep q m s0 (showDual v0 v1) := by
  unfold showDual
  extract_lets a0 a1
  exact State.cond_keep (State.setBit_keep k0) (fun x2 h3 => (State.setBit_keep h3))

theorem loadBegin_keep {q m s0 v0 v1 v2 v3} (k0 : Keep q m s0 v0) : Keep q m s0 (loadBegin v0 v1 v2 v3) := by
  unfold loadBegin
  extract_lets a0 a1 a2
  have h3 : Keep q m s0 a2 := State.setBit_keep (State.setImg_keep k0)
  exact State.setBit_keep h3

theorem loadErr_keep {q m s0 v0 v1} (k0 : Keep q m s0 v0) : Keep q m s0 (loadErr v0 v1) := by
  unfold loadErr
  exact State.flagEvent_keep k0

theorem shadingLoad_keep {q m s0 v0 v1} (k1 : Keep q m s0 v1) : Keep q m s0 (shadingLoad v0 v1) := by
  unfold shadingLoad
  extract_lets a0 a1 a2
  have h3 : Keep q m s0 a0 := showDual_keep k1
  exact Keep.ite (loadErr_keep h3) (loadBegin_keep h3)

theorem shadingLoadDone_keep {q m s0 v0 v1 v2} (k2 : Keep q m s0 v2) : Keep q m s0 (shadingLoadDone v0 v1 v2) := by
  unfold shadingLoadDone
  extract_lets a0 a1 a2
  have h3 : Keep q m s0 a2 := State.setBit_keep (State.setImg_keep k2)
  clear_value a0
  split
  · next b4 b5 =>
    exact k2
  · next b6 b7 b8 b9 =>
    extract_lets a10 a11 a12 a13 a14 a15 a16 a17 a18 a19 a20 a21 a22 a23
    have h24 : Keep q m s0 a12 := State.cond_keep h3 (fun x25 h26 => (imgFault_keep h26))
    have h27 : Keep q m s0 a13 := State.cond_keep h24 (fun x28 h29 => (eccNote_keep h29))
    have h30 : Keep q m s0 a14 := loadErr_keep h27
    have h31 : Keep q m s0 a21 := State.setImg_keep h27
    have h32 : Keep q m s0 a22 := State.setImg_keep h27
    have h33 : Keep q m s0 a23 := Keep.ite (Keep.foldl h31 (fun x34 h35 _ => (State.setReg_keep h35))) (Keep.ite
        (State.setBit_keep (State.setFld_keep h32)) h27)
    exact Keep.ite (State.setImg_keep h30) (State.raise_keep h33)

theorem imgRunStart_keep {q m s0 v0 v1} (k0 : Keep q m s0 v0) : Keep q m s0 (imgRunStart v0 v1) := by
  unfold imgRunStart
  extract_lets a0 a1 a2 a3 a4 a5 a6 a7 a8 a9 a10 a11
  have h12 : Keep q m s0 a2 := State.setEngine_keep k0
  have h13 : Keep q m s0 a3 := State.setImg_keep h12
  have h14 : Keep q m s0 a4 := State.setReg_keep (State.setReg_keep (State.setReg_keep h13))
  have h15 : Keep q m s0 a5 := State.setReg_keep (State.setReg_keep h14)
  have h16 : Keep q m s0 a6 := State.setFld_keep h15
  have h17 : Keep q m s0 a7 := Keep.foldl h16 (fun x18 h19 _ => (State.setFld_keep h19))
  have h21 : Keep q m s0 a10 := State.cond_keep h17 (fun x22 h23 => (State.setImg_keep (State.flagEvent_keep h23)))
  have h24 : Keep q m s0 a11 := loadBegin_keep (showDual_keep h21)
  exact Keep.ite k0 (imgShow_keep (scriptBegin_keep h24))

theorem generatorArm_keep {q m s0 v0 v1} (k1 : Keep q m s0 v1) : Keep q m s0 (generatorArm v0 v1) := by
  unfold generatorArm
  extract_lets a0 a1 a2 a3 a4 a5 a6 a7
  have h8 : Keep q m s0 a6 := State.setImg_keep k1
  have h9 : Keep q m s0 a7 := beginSwath_keep (State.setBit_keep h8)
  exact Keep.ite k1 (imgShow_keep h9)

theorem imgRunStop_keep {q m s0 v0 v1} (k0 : Keep q m s0 v0) : Keep q m s0 (imgRunStop v0 v1) := by
  unfold imgRunStop
  extract_lets a0 a1 a2 a3 a4 a5 a6 a7
  have h8 : Keep q m s0 a2 := holdEnd_keep k0
  have h9 : Keep q m s0 a3 := State.cond_keep h8 (fun x10 h11 => (endSwath_keep h11))
  have h12 : Keep q m s0 a4 := State.setBit_keep h9
  have h13 : Keep q m s0 a6 := State.setImg_keep h12
  have h14 : Keep q m s0 a7 := corTake_keep (heldSwap_keep (capTake_keep h13))
  exact Keep.ite k0 (imgShow_keep (Keep.set_stopScripts h14 (NatSet.wf_insert _)))

theorem State.setLane_keep {q m s0 v0 v1 v2 v3} (k0 : Keep q m s0 v0) : Keep q m s0 (State.setLane v0 v1 v2 v3) := by
  unfold State.setLane
  extract_lets a0
  exact State.setImg_keep k0

theorem laneLost_keep {q m s0 v0 v1 v2} (k2 : Keep q m s0 v2) : Keep q m s0 (laneLost v0 v1 v2) := by
  unfold laneLost
  extract_lets a0 a1 a2 a3 a4 a5 a6 a7
  have h8 : Keep q m s0 a1 := State.setBit_keep (State.setBit_keep k2)
  have h9 : Keep q m s0 a2 := State.setBit_keep (State.setBit_keep h8)
  have h10 : Keep q m s0 a5 := State.setImg_keep h9
  have h11 : Keep q m s0 a6 := State.setBit_keep h10
  have h12 : Keep q m s0 a7 := State.satInc_keep (State.flag_keep h11)
  exact Keep.ite (imgReady_keep h11) (imgReady_keep (State.raise_keep h12))

theorem laneTake_keep {q m s0 v0 v1 v2 v3} (k3 : Keep q m s0 v3) : Keep q m s0 (laneTake v0 v1 v2 v3) := by
  unfold laneTake
  extract_lets a0 a1 a2
  have h3 : Keep q m s0 a1 := State.satInc_keep k3
  exact (Keep.ite k3 (Keep.ite h3 (by
      clear_value a1 a2
      split
      · next b4 b5 b6 b7 b8 =>
        exact (Keep.ite (State.setLane_keep h3) (by
            split
            · next b9 b10 b11 b12 =>
              extract_lets a13
              have h14 : Keep q m s0 a13 := State.cond_keep (State.setLane_keep h3) (fun x15 h16 =>
                  (State.setBit_keep h16))
              exact (State.cond_keep h14 (fun x17 h18 => (laneLost_keep h18))))))))

theorem laneRewidth_keep {q m s0 v0 v1} (k1 : Keep q m s0 v1) : Keep q m s0 (laneRewidth v0 v1) := by
  unfold laneRewidth
  extract_lets a0 a1 a2 a3 a4 a5 a6 a7
  have h8 : Keep q m s0 a3 := State.setFld_keep k1
  have h9 : Keep q m s0 a4 := State.setFld_keep h8
  have h10 : Keep q m s0 a5 := State.setImg_keep h9
  have h11 : Keep q m s0 a6 := State.setBit_keep h10
  have h12 : Keep q m s0 a7 := State.cond_keep h11 (fun x13 h14 => (State.setBit_keep (State.setBit_keep h14)))
  exact imgReady_keep h12

theorem laneBringup_keep {q m s0 v0 v1 v2} (k2 : Keep q m s0 v2) : Keep q m s0 (laneBringup v0 v1 v2) := by
  unfold laneBringup
  extract_lets a0 a1 a2 a3 a4 a5 a6
  have h7 : Keep q m s0 a3 := State.setBit_keep (State.setBit_keep k2)
  have h8 : Keep q m s0 a6 := State.setImg_keep h7
  split
  · next b9 b10 =>
    extract_lets a11
    have h12 : Keep q m s0 a11 := State.setBit_keep (State.setBit_keep k2)
    exact Keep.ite k2 (State.setImg_keep h12)
  · next b13 b14 =>
    extract_lets a15
    have h16 : Keep q m s0 a15 := State.setImg_keep k2
    exact Keep.ite k2 (Keep.ite h16 (State.setBit_keep (State.setBit_keep h16)))
  · next b17 b18 b19 =>
    exact laneTake_keep k2
  · next b20 =>
    exact Keep.ite k2 (imgReady_keep (State.cond_keep h8 (fun x21 h22 => (scriptBegin_keep h22))))

theorem rxReadapt_keep {q m s0 v0 v1 v2} (k2 : Keep q m s0 v2) : Keep q m s0 (rxReadapt v0 v1 v2) := by
  unfold rxReadapt
  extract_lets a0 a1 a2
  have h3 : Keep q m s0 a1 := State.reach_keep k2
  exact Keep.ite k2 (Keep.ite (State.setBit_keep k2) (State.setBit_keep (State.setImg_keep h3)))

theorem dropAwaited_keep {q m s0 v0 v1 v2} (k0 : Keep q m s0 v0) : Keep q m s0 (dropAwaited v0 v1 v2) := by
  unfold dropAwaited
  extract_lets a0
  exact imgShow_keep (State.setImg_keep k0)

theorem loseAwaited_keep {q m s0 v0 v1 v2 v3} (k0 : Keep q m s0 v0) : Keep q m s0 (loseAwaited v0 v1 v2 v3) := by
  unfold loseAwaited
  extract_lets a0 a1
  have h2 : Keep q m s0 a1 := State.setImg_keep k0
  exact decide_keep (mapTap_keep h2)

theorem packetBytes_keep {q m s0 v0 v1 v2 v3} (k3 : Keep q m s0 v3) : Keep q m s0 (packetBytes v0 v1 v2 v3) := by
  unfold packetBytes
  extract_lets a0 a1 a2 a3 a4
  exact (Keep.ite (imgFault_keep k3) (by
      clear_value a4
      split
      · next b5 b6 =>
        exact imgFault_keep k3
      · next b7 b8 b9 =>
        extract_lets a10 a11 a12 a13 a14 a15 a16 a17 a18
        have h19 : Keep q m s0 a10 := State.cond_keep k3 (fun x20 h21 => (State.setImg_keep h21))
        have h22 : Keep q m s0 a13 := State.setImg_keep h19
        have h23 : Keep q m s0 a14 := State.cond_keep h22 (fun x24 h25 => (loseAwaited_keep h25))
        have h26 : Keep q m s0 a17 := (Keep.ite h23 (by
            clear_value a14
            split
            · next b27 b28 =>
              exact h23
            · next b29 b30 b31 =>
              clear_value a2 a16
              split
              · next b32 b33 b34 b35 b36 =>
                have h37 : Keep q m s0 b35 := Keep.eq22 (correctLine_keep h23) b36
                extract_lets a38
                exact (mapTap_keep h37)))
        have h39 : Keep q m s0 a18 := dropAwaited_keep h26
        exact (Keep.ite (imgFault_keep k3) (Keep.ite (Keep.ite h39 (decide_keep (mapTap_keep h39))) h26))))

theorem syncErr_keep {q m s0 v0 v1 v2} (k0 : Keep q m s0 v0) : Keep q m s0 (syncErr v0 v1 v2) := by
  unfold syncErr
  exact Keep.ite (State.flagEvent_keep k0) (State.raise_keep (State.flag_keep k0))

theorem packetsFrom_keep {q m s0 v0 v1 v2 v3 v4 v5 v6 v7} (k7 : Keep q m s0 v7) : Keep q m s0 (packetsFrom v0 v1 v2
    v3 v4 v5 v6 v7) := by
  induction v5 generalizing v0 v1 v2 v3 v4 v6 v7 with
  | zero =>
    unfold packetsFrom
    exact k7
  | succ j ih =>
    unfold packetsFrom
    extract_lets a0 a1 a2
    clear_value a0 a1 a2
    split
    · next b3 b4 =>
      exact k7
    · next b5 b6 b7 b8 =>
      extract_lets a9 a10 a11 a12 a13
      have h14 : Keep q m s0 a13 := packetBytes_keep k7
      clear_value a9 a10 a11 a12 a13
      exact Keep.ite (ih (syncErr_keep k7)) (Keep.ite (ih (syncErr_keep k7)) (ih h14))

theorem linePacket_keep {q m s0 v0 v1 v2 v3} (k3 : Keep q m s0 v3) : Keep q m s0 (linePacket v0 v1 v2 v3) := by
  unfold linePacket
  extract_lets a0 a1 a2 a3
  exact Keep.ite k3 (packetsFrom_keep k3)

theorem dataTimeout_keep {q m s0 v0 v1} (k1 : Keep q m s0 v1) : Keep q m s0 (dataTimeout v0 v1) := by
  unfold dataTimeout
  split
  · next b0 b1 =>
    exact k1
  · next b2 b3 b4 =>
    extract_lets a5 a6 a7 a8
    have h9 : Keep q m s0 a5 := imgFault_keep (State.reach_keep k1)
    have h10 : Keep q m s0 a7 := State.setImg_keep h9
    have h11 : Keep q m s0 a8 := dropAwaited_keep h10
    exact decide_keep (mapTap_keep h11)

theorem illumVerdict_keep {q m s0 v0 v1 v2 v3} (k0 : Keep q m s0 v0) : Keep q m s0 (illumVerdict v0 v1 v2 v3) := by
  unfold illumVerdict
  extract_lets a0
  have h1 : Keep q m s0 a0 := mapTap_keep k0
  exact Keep.ite k0 (Keep.ite (loseAwaited_keep h1) h1)

theorem execLaneBringupDone_keep {q m s0 v0 v1} (k1 : Keep q m s0 v1) : OutKeep q m s0 (execLaneBringupDone v0 v1) :=
    by
  unfold execLaneBringupDone
  exact OutKeep.next (State.whenWorking_keep k1 (fun x0 h1 => (readyCheck_keep (laneBringup_keep h1))))

theorem execLaneLockLoss_keep {q m s0 v0 v1 v2 v3} (k3 : Keep q m s0 v3) : OutKeep q m s0 (execLaneLockLoss v0 v1 v2
    v3) := by
  unfold execLaneLockLoss
  exact OutKeep.next (State.whenWorking_keep k3 (fun x0 h1 => (readyCheck_keep (laneTake_keep h1))))

theorem execRxReadapt_keep {q m s0 v0 v1 v2} (k2 : Keep q m s0 v2) : OutKeep q m s0 (execRxReadapt v0 v1 v2) := by
  unfold execRxReadapt
  exact OutKeep.next (State.whenWorking_keep k2 (fun x0 h1 => (rxReadapt_keep h1)))

theorem lanesReceive_keep {q m s0 v0 v1 v2} (k2 : Keep q m s0 v2) : Keep q m s0 (lanesReceive v0 v1 v2) := by
  unfold lanesReceive
  exact Keep.foldl k2 (fun x0 h1 _ => (readyCheck_keep (laneTake_keep h1)))

theorem execLinePacket_keep {q m s0 v0 v1 v2 v3 v4 v5} (k5 : Keep q m s0 v5) : OutKeep q m s0 (execLinePacket v0 v1
    v2 v3 v4 v5) := by
  unfold execLinePacket
  exact (OutKeep.next (State.whenWorking_keep k5 (fun x0 h1 => (by
      extract_lets a2
      have h3 : Keep q m s0 a2 := State.lost_keep (lanesReceive_keep h1)
      exact (linePacket_keep (eccNote_keep h3))))))

theorem execLineDataTimeout_keep {q m s0 v0 v1 v2} (k2 : Keep q m s0 v2) : OutKeep q m s0 (execLineDataTimeout v0 v1
    v2) := by
  unfold execLineDataTimeout
  exact OutKeep.next (State.whenWorking_keep k2 (fun x0 h1 => (dataTimeout_keep (State.lost_keep h1))))

theorem execLineMinEnd_keep {q m s0 v0 v1 v2} (k2 : Keep q m s0 v2) : OutKeep q m s0 (execLineMinEnd v0 v1 v2) := by
  unfold execLineMinEnd
  exact (OutKeep.next (State.whenWorking_keep k2 (fun x0 h1 => (by
      split
      · next b2 b3 b4 =>
        extract_lets a5
        have h6 : Keep q m s0 a5 := State.reach_keep (State.lost_keep h1)
        exact State.setBit_keep h6
      · next b7 b8 =>
        exact h1))))

theorem execGeneratorArm_keep {q m s0 v0 v1} (k1 : Keep q m s0 v1) : OutKeep q m s0 (execGeneratorArm v0 v1) := by
  unfold execGeneratorArm
  exact OutKeep.next (State.whenWorking_keep k1 (fun x0 h1 => (generatorArm_keep h1)))

theorem execImgCommit_keep {q m s0 v0 v1 v2} (k2 : Keep q m s0 v2) : OutKeep q m s0 (execImgCommit v0 v1 v2) := by
  unfold execImgCommit
  exact OutKeep.next (State.whenWorking_keep k2 (fun x0 h1 => (imgCommit_keep (State.lost_keep h1))))

theorem execImgCorCommit_keep {q m s0 v0 v1 v2} (k2 : Keep q m s0 v2) : OutKeep q m s0 (execImgCorCommit v0 v1 v2) :=
    by
  unfold execImgCorCommit
  exact OutKeep.next (State.whenWorking_keep k2 (fun x0 h1 => (imgCorCommit_keep (State.lost_keep h1))))

theorem execImgScriptRun_keep {q m s0 v0 v1} (k1 : Keep q m s0 v1) : OutKeep q m s0 (execImgScriptRun v0 v1) := by
  unfold execImgScriptRun
  exact OutKeep.next (State.whenWorking_keep k1 (fun x0 h1 => (scriptRun_keep h1)))

theorem execShadingLoad_keep {q m s0 v0 v1} (k1 : Keep q m s0 v1) : OutKeep q m s0 (execShadingLoad v0 v1) := by
  unfold execShadingLoad
  exact OutKeep.next (State.whenWorking_keep k1 (fun x0 h1 => (shadingLoad_keep h1)))

theorem execShadingLoadDone_keep {q m s0 v0 v1 v2 v3} (k3 : Keep q m s0 v3) : OutKeep q m s0 (execShadingLoadDone v0
    v1 v2 v3) := by
  unfold execShadingLoadDone
  exact OutKeep.next (State.whenWorking_keep k3 (fun x0 h1 => (shadingLoadDone_keep (State.lost_keep h1))))

theorem execLineRecordComplete_keep {q m s0 v0 v1} (k1 : Keep q m s0 v1) : OutKeep q m s0 (execLineRecordComplete v0
    v1) := by
  unfold execLineRecordComplete
  exact OutKeep.next (State.whenWorking_keep k1 (fun x0 h1 => (lineComplete_keep h1)))

theorem execSwathEnd_keep {q m s0 v0 v1} (k1 : Keep q m s0 v1) : OutKeep q m s0 (execSwathEnd v0 v1) := by
  unfold execSwathEnd
  exact OutKeep.next (State.whenWorking_keep k1 (fun x0 h1 => (swathEnd_keep h1)))

end Sys2Proof.Machine
end

