-- ==== Sys2Proof/Laws/KeepPrecision.lean ====
section
/-!
SUPPORT. Keep for every function of Machine/Precision.lean that makes a state.
-/

namespace Sys2Proof.Machine

theorem State.setMod_keep {q m s0 v0 v1 v2} (k0 : Keep q m s0 v0) : Keep q m s0 (State.setMod v0 v1 v2) := by
  unfold State.setMod
  extract_lets a0
  exact Keep.set_prec k0

theorem State.setMeas_keep {q m s0 v0 v1 v2} (k0 : Keep q m s0 v0) : Keep q m s0 (State.setMeas v0 v1 v2) := by
  unfold State.setMeas
  extract_lets a0
  exact Keep.set_prec k0

theorem State.setLoop_keep {q m s0 v0 v1 v2} (k0 : Keep q m s0 v0) : Keep q m s0 (State.setLoop v0 v1 v2) := by
  unfold State.setLoop
  extract_lets a0
  exact Keep.set_prec k0

theorem State.setStat_keep {q m s0 v0 v1 v2} (k0 : Keep q m s0 v0) : Keep q m s0 (State.setStat v0 v1 v2) := by
  unfold State.setStat
  extract_lets a0
  exact Keep.set_prec k0

theorem precRefused_keep {q m s0 v0} (k0 : Keep q m s0 v0) : Keep q m s0 (precRefused v0) := by
  unfold precRefused
  exact State.flagEvent_keep k0

theorem measTake_keep {q m s0 v0 v1} (k0 : Keep q m s0 v0) : Keep q m s0 (measTake v0 v1) := by
  unfold measTake
  extract_lets a0 a1 a2
  have h3 : Keep q m s0 a0 := State.cond_keep k0 (fun x4 h5 => (precRefused_keep (State.setFld_keep h5)))
  have h6 : Keep q m s0 a2 := CommitUnit.take_keep h3
  exact Keep.ite k0 (State.cond_keep h6 (fun x7 h8 => (State.setMeas_keep h8)))

theorem showPending_keep {q m s0 v0 v1} (k0 : Keep q m s0 v0) : Keep q m s0 (showPending v0 v1) := by
  unfold showPending
  exact State.setBit_keep k0

theorem setPrecQueue_keep {q m s0 v0 v1} (k0 : Keep q m s0 v0) : Keep q m s0 (setPrecQueue v0 v1) := by
  unfold setPrecQueue
  extract_lets a0
  exact Keep.set_prec k0

theorem overrun_keep {q m s0 v0 v1} (k1 : Keep q m s0 v1) : Keep q m s0 (overrun v0 v1) := by
  unfold overrun
  exact State.raise_keep (State.satInc_keep (State.flag_keep k1))

theorem measTrigger_keep {q m s0 v0 v1} (k1 : Keep q m s0 v1) : Keep q m s0 (measTrigger v0 v1) := by
  unfold measTrigger
  extract_lets a0 a1 a2
  exact Keep.ite k1 (Keep.ite (overrun_keep k1) (showPending_keep (State.setMeas_keep k1)))

theorem precTrigger_keep {q m s0 v0 v1 v2} (k2 : Keep q m s0 v2) : Keep q m s0 (precTrigger v0 v1 v2) := by
  unfold precTrigger
  exact Keep.foldl k2 (fun x0 h1 _ => (Keep.ite (measTrigger_keep h1) h1))

theorem triggerDelayEnd_keep {q m s0 v0 v1} (k1 : Keep q m s0 v1) : Keep q m s0 (triggerDelayEnd v0 v1) := by
  unfold triggerDelayEnd
  split
  · next b0 b1 b2 =>
    extract_lets a3 a4
    have h5 : Keep q m s0 a4 := State.setMeas_keep (State.reach_keep k1)
    exact Keep.ite (showPending_keep (overrun_keep h5)) (showPending_keep (setPrecQueue_keep h5))
  · next b6 b7 =>
    exact k1

theorem measUrgent_keep {q m s0 v0 v1} (k1 : Keep q m s0 v1) : Keep q m s0 (measUrgent v0 v1) := by
  unfold measUrgent
  extract_lets a0 a1
  exact Keep.ite k1 (Keep.ite k1 (showPending_keep (setPrecQueue_keep k1)))

theorem setBusy_keep {q m s0 v0 v1 v2} (k0 : Keep q m s0 v0) : Keep q m s0 (setBusy v0 v1 v2) := by
  unfold setBusy
  exact State.setBit_keep k0

theorem precResult_keep {q m s0 v0 v1 v2 v3 v4} (k0 : Keep q m s0 v0) : Keep q m s0 (precResult v0 v1 v2 v3 v4) := by
  unfold precResult
  extract_lets a0 a1 a2 a3 a4
  split
  · next b5 b6 b7 b8 =>
    extract_lets a9
    exact Keep.set_prec k0

theorem convBegin_keep {q m s0 v0 v1 v2 v3} (k0 : Keep q m s0 v0) : Keep q m s0 (convBegin v0 v1 v2 v3) := by
  unfold convBegin
  extract_lets a0
  have h1 : Keep q m s0 a0 := measTake_keep k0
  exact Keep.ite (Keep.ite (precResult_keep h1) h1) (Keep.ite h1 (Keep.ite h1 (setBusy_keep (State.setMod_keep h1))))

theorem convStart_keep {q m s0 v0 v1} (k1 : Keep q m s0 v1) : Keep q m s0 (convStart v0 v1) := by
  unfold convStart
  extract_lets a0
  exact (Keep.ite k1 (by
      clear_value a0
      split
      · next b1 b2 b3 =>
        exact (Keep.ite (Keep.ite (State.setMod_keep k1) k1) (Keep.ite (by
            split
            · next b4 b5 b6 =>
              exact Keep.ite (State.setMod_keep (setPrecQueue_keep k1)) k1
            · next b7 b8 =>
              exact k1) k1))
      · next b9 b10 =>
        split
        · next b11 b12 b13 =>
          extract_lets a14
          have h15 : Keep q m s0 a14 := showPending_keep (setPrecQueue_keep k1)
          exact Keep.ite k1 (Keep.ite (State.setMod_keep (setPrecQueue_keep k1)) (Keep.ite (convBegin_keep h15) k1))
        · next b16 b17 =>
          split
          · next b18 b19 b20 =>
            exact Keep.ite (convBegin_keep k1) k1
          · next b21 b22 =>
            exact k1))

theorem excSettleEnd_keep {q m s0 v0 v1} (k1 : Keep q m s0 v1) : Keep q m s0 (excSettleEnd v0 v1) := by
  unfold excSettleEnd
  extract_lets a0
  clear_value a0
  split
  · next b1 b2 b3 =>
    exact Keep.ite k1 (State.setMod_keep (State.reach_keep k1))
  · next b4 b5 =>
    exact k1

theorem triggeredSample_keep {q m s0 v0 v1 v2 v3 v4 v5} (k0 : Keep q m s0 v0) : Keep q m s0 (triggeredSample v0 v1 v2
    v3 v4 v5) := by
  unfold triggeredSample
  extract_lets a0 a1 a2
  exact Keep.ite (State.setMod_keep k0) (Keep.ite (State.setMod_keep k0) (Keep.ite (State.setMod_keep k0)
      (setBusy_keep (precResult_keep (State.setMod_keep k0)))))

theorem continuousSample_keep {q m s0 v0 v1 v2 v3 v4 v5 v6} (k0 : Keep q m s0 v0) : Keep q m s0 (continuousSample v0
    v1 v2 v3 v4 v5 v6) := by
  unfold continuousSample
  extract_lets a0 a1 a2
  exact Keep.ite (State.setMod_keep k0) (precResult_keep (State.setMod_keep k0))

theorem continuousTake_keep {q m s0 v0 v1 v2} (k0 : Keep q m s0 v0) : Keep q m s0 (continuousTake v0 v1 v2) := by
  unfold continuousTake
  extract_lets a0 a1 a2 a3 a4
  have h5 : Keep q m s0 a1 := measTake_keep k0
  exact Keep.ite k0 (Keep.ite (setBusy_keep (State.setMod_keep h5)) (Keep.ite (State.setMod_keep h5) (Keep.ite
      (State.setMod_keep h5) h5)))

theorem modulatorSample_keep {q m s0 v0 v1 v2 v3 v4} (k4 : Keep q m s0 v4) : Keep q m s0 (modulatorSample v0 v1 v2 v3
    v4) := by
  unfold modulatorSample
  split
  · next b0 b1 =>
    exact k4
  · next b2 b3 b4 =>
    extract_lets a5 a6 a7 a8 a9 a10 a11 a12
    have h13 : Keep q m s0 a5 := State.cond_keep k4 (fun x14 h15 => (continuousTake_keep h15))
    have h16 : Keep q m s0 a10 := State.cond_keep h13 (fun x17 h18 => (State.raise_keep h18))
    exact (Keep.ite k4 (Keep.ite h13 (by
        clear_value a10 a12
        split
        · next b19 b20 b21 b22 =>
          extract_lets a23
          exact (Keep.ite (continuousSample_keep h16) (Keep.ite (State.setMod_keep h16) (triggeredSample_keep
              h16))))))

theorem measCommit_keep {q m s0 v0 v1} (k1 : Keep q m s0 v1) : Keep q m s0 (measCommit v0 v1) := by
  unfold measCommit
  extract_lets a0
  have h1 : Keep q m s0 a0 := CommitUnit.commit_keep k1
  exact (Keep.ite (by
      clear_value a0
      split
      · next b2 b3 b4 =>
        extract_lets a5
        exact setBusy_keep (measTake_keep (precResult_keep (State.setMod_keep h1)))
      · next b6 b7 =>
        exact h1) h1)

theorem resultPublish_keep {q m s0 v0 v1} (k1 : Keep q m s0 v1) : Keep q m s0 (resultPublish v0 v1) := by
  unfold resultPublish
  split
  · next b0 b1 =>
    exact k1
  · next b2 b3 b4 =>
    extract_lets a5 a6 a7 a8 a9 a10 a11 a12 a13 a14 a15 a16 a17
    have h18 : Keep q m s0 a6 := Keep.set_prec k1
    have h19 : Keep q m s0 a8 := (by
        unfold a8
        split
        · next b20 b21 b22 =>
          exact State.setReg_keep h18
        · next b23 b24 =>
          exact (State.drawn_keep (State.setReg_keep h18)))
    have h25 : Keep q m s0 a9 := (Keep.ite h18 (by
        split
        · next b26 b27 b28 =>
          exact State.setSreg64_keep h19
        · next b29 b30 =>
          exact (State.drawn_keep (State.setReg_keep (State.drawn_keep (State.setReg_keep h19))))))
    have h31 : Keep q m s0 a10 := (by
        unfold a10
        split
        · next b32 b33 b34 =>
          exact State.setReg64_keep h25
        · next b35 b36 =>
          exact (State.drawn_keep (State.setReg_keep (State.drawn_keep (State.setReg_keep h25)))))
    have h37 : Keep q m s0 a11 := State.setBit_keep (State.setBit_keep (State.setBit_keep h31))
    have h38 : Keep q m s0 a12 := State.setBit_keep (State.setBit_keep h37)
    have h39 : Keep q m s0 a13 := State.wrapInc_keep h38
    have h40 : Keep q m s0 a17 := State.setMeas_keep h39
    exact State.cond_keep h40 (fun x41 h42 => (State.raise_keep h42))

theorem suppress_keep {q m s0 v0 v1} (k0 : Keep q m s0 v0) : Keep q m s0 (suppress v0 v1) := by
  unfold suppress
  extract_lets a0
  exact State.setMod_keep k0

theorem calEnd_keep {q m s0 v0} (k0 : Keep q m s0 v0) : Keep q m s0 (calEnd v0) := by
  unfold calEnd
  extract_lets a0 a1
  have h2 : Keep q m s0 a1 := Keep.set_prec k0
  exact State.raise_keep (suppress_keep (suppress_keep (State.setBit_keep h2)))

theorem calStart_keep {q m s0 v0} (k0 : Keep q m s0 v0) : Keep q m s0 (calStart v0) := by
  unfold calStart
  extract_lets a0 a1 a2 a3
  have h4 : Keep q m s0 a3 := State.setBit_keep (Keep.set_prec k0)
  exact Keep.ite k0 (Keep.ite (calEnd_keep h4) h4)

theorem keepFactors_keep {q m s0 v0 v1 v2 v3 v4} (k0 : Keep q m s0 v0) : Keep q m s0 (keepFactors v0 v1 v2 v3 v4) :=
    by
  unfold keepFactors
  extract_lets a0 a1
  have h2 : Keep q m s0 a0 := State.setReg_keep k0
  have h3 : Keep q m s0 a1 := State.setReg_keep h2
  exact Keep.ite (State.setBit_keep h3) (State.flag_keep k0)

theorem calGainDone_keep {q m s0 v0 v1 v2 v3 v4} (k4 : Keep q m s0 v4) : Keep q m s0 (calGainDone v0 v1 v2 v3 v4) :=
    by
  unfold calGainDone
  extract_lets a0
  split
  · next b1 b2 b3 b4 =>
    extract_lets a5 a6
    have h7 : Keep q m s0 a5 := keepFactors_keep (keepFactors_keep k4)
    exact Keep.ite k4 (Keep.ite (calEnd_keep h7) (Keep.set_prec h7))
  · next b8 b9 =>
    exact k4

theorem impTestDue_keep {q m s0 v0 v1} (k1 : Keep q m s0 v1) : Keep q m s0 (impTestDue v0 v1) := by
  unfold impTestDue
  extract_lets a0 a1 a2
  have h3 : Keep q m s0 a2 := State.setMeas_keep (State.reach_keep k1)
  exact Keep.ite k1 (Keep.ite h3 (setPrecQueue_keep h3))

theorem impTestDone_keep {q m s0 v0 v1 v2} (k2 : Keep q m s0 v2) : Keep q m s0 (impTestDone v0 v1 v2) := by
  unfold impTestDone
  split
  · next b0 b1 =>
    exact k2
  · next b2 b3 b4 =>
    extract_lets a5 a6 a7
    have h8 : Keep q m s0 a6 := suppress_keep (State.setMod_keep k2)
    have h9 : Keep q m s0 a7 := State.setReg_keep h8
    exact Keep.ite (State.flagEvent_keep h9) (State.setBit_keep h9)

theorem refSettled_keep {q m s0 v0 v1} (k1 : Keep q m s0 v1) : Keep q m s0 (refSettled v0 v1) := by
  unfold refSettled
  exact Keep.ite k1 (suppress_keep (State.raise_keep (State.setBit_keep k1)))

theorem precRefWritten_keep {q m s0 v0 v1 v2} (k2 : Keep q m s0 v2) : Keep q m s0 (precRefWritten v0 v1 v2) := by
  unfold precRefWritten
  extract_lets a0
  have h1 : ∀ y1, Keep q m s0 y1 → ∀ y2, Keep q m s0 (a0 y1 y2) := fun x2 h3 _ => (Keep.ite h3 (State.cond_keep h3
      (fun x5 h6 => (State.raise_keep (State.setBit_keep h6)))))
  exact Keep.ite (precRefused_keep (State.setReg_keep k2)) (Keep.ite (h1 _ (h1 _ k2 _) _) k2)

theorem loopTake_keep {q m s0 v0 v1} (k0 : Keep q m s0 v0) : Keep q m s0 (loopTake v0 v1) := by
  unfold loopTake
  extract_lets a0
  have h1 : Keep q m s0 a0 := State.cond_keep k0 (fun x2 h3 => (precRefused_keep (State.setReg_keep
      (State.setReg_keep h3))))
  exact Keep.ite k0 (CommitUnit.take_keep h1)

theorem loopFlag_keep {q m s0 v0 v1 v2 v3} (k0 : Keep q m s0 v0) : Keep q m s0 (loopFlag v0 v1 v2 v3) := by
  unfold loopFlag
  exact Keep.ite (State.flagEvent_keep k0) (State.setBit_keep k0)

theorem loopTick_keep {q m s0 v0 v1 v2 v3} (k3 : Keep q m s0 v3) : Keep q m s0 (loopTick v0 v1 v2 v3) := by
  unfold loopTick
  extract_lets a0 a1 a2 a3 a4 a5 a6
  have h7 : Keep q m s0 a0 := loopTake_keep k3
  have h8 : Keep q m s0 a3 := State.setFld_keep h7
  exact (Keep.ite (State.setLoop_keep (State.setFld_keep (State.setFld_keep h8))) (by
      clear_value a3
      split
      · next b9 b10 b11 b12 b13 =>
        extract_lets a14 a15 a16 a17 a18 a19 a20 a21 a22 a23 a24 a25 a26 a27 a28 a29 a30
        have h31 : Keep q m s0 a15 := loopFlag_keep h8
        have h32 : Keep q m s0 a17 := loopFlag_keep h31
        have h33 : Keep q m s0 a22 := State.cond_keep h32 (fun x34 h35 => (State.drawn_keep h35))
        have h36 : Keep q m s0 a25 := State.setBit_keep h33
        have h37 : Keep q m s0 a26 := State.setFld_keep (State.setFld_keep h36)
        have h38 : Keep q m s0 a29 := State.setLoop_keep h37
        have h39 : Keep q m s0 a30 := State.cond_keep h38 (fun x40 h41 => (State.flagEvent_keep h41))
        exact (State.cond_keep h39 (fun x42 h43 => (State.flagEvent_keep h43)))))

theorem loopCommit_keep {q m s0 v0 v1} (k1 : Keep q m s0 v1) : Keep q m s0 (loopCommit v0 v1) := by
  unfold loopCommit
  exact CommitUnit.commit_keep k1

theorem loopRefresh_keep {q m s0 v0 v1} (k1 : Keep q m s0 v1) : Keep q m s0 (loopRefresh v0 v1) := by
  unfold loopRefresh
  extract_lets a0
  exact State.setLoop_keep k1

theorem execMeasTrigger_keep {q m s0 v0 v1 v2} (k2 : Keep q m s0 v2) : OutKeep q m s0 (execMeasTrigger v0 v1 v2) := by
  unfold execMeasTrigger
  exact OutKeep.next (State.whenWorking_keep k2 (fun x0 h1 => (measTrigger_keep (State.lost_keep h1))))

theorem execMeasUrgent_keep {q m s0 v0 v1 v2} (k2 : Keep q m s0 v2) : OutKeep q m s0 (execMeasUrgent v0 v1 v2) := by
  unfold execMeasUrgent
  exact OutKeep.next (State.whenWorking_keep k2 (fun x0 h1 => (measUrgent_keep (State.lost_keep h1))))

theorem execMeasCommit_keep {q m s0 v0 v1 v2} (k2 : Keep q m s0 v2) : OutKeep q m s0 (execMeasCommit v0 v1 v2) := by
  unfold execMeasCommit
  exact OutKeep.next (State.whenWorking_keep k2 (fun x0 h1 => (measCommit_keep (State.lost_keep h1))))

theorem execCalStart_keep {q m s0 v0} (k0 : Keep q m s0 v0) : OutKeep q m s0 (execCalStart v0) := by
  unfold execCalStart
  exact OutKeep.next (State.whenWorking_keep k0 (fun x0 h1 => (calStart_keep h1)))

theorem execCalGainDone_keep {q m s0 v0 v1 v2 v3 v4} (k4 : Keep q m s0 v4) : OutKeep q m s0 (execCalGainDone v0 v1 v2
    v3 v4) := by
  unfold execCalGainDone
  exact OutKeep.next (State.whenWorking_keep k4 (fun x0 h1 => (calGainDone_keep h1)))

theorem execTriggerDelayEnd_keep {q m s0 v0 v1} (k1 : Keep q m s0 v1) : OutKeep q m s0 (execTriggerDelayEnd v0 v1) :=
    by
  unfold execTriggerDelayEnd
  exact OutKeep.next (State.whenWorking_keep k1 (fun x0 h1 => (triggerDelayEnd_keep h1)))

theorem execConversionStart_keep {q m s0 v0 v1 v2} (k2 : Keep q m s0 v2) : OutKeep q m s0 (execConversionStart v0 v1
    v2) := by
  unfold execConversionStart
  exact OutKeep.next (State.whenWorking_keep k2 (fun x0 h1 => (convStart_keep (State.lost_keep h1))))

theorem execExcSettleEnd_keep {q m s0 v0 v1} (k1 : Keep q m s0 v1) : OutKeep q m s0 (execExcSettleEnd v0 v1) := by
  unfold execExcSettleEnd
  exact OutKeep.next (State.whenWorking_keep k1 (fun x0 h1 => (excSettleEnd_keep h1)))

theorem execModulatorSample_keep {q m s0 v0 v1 v2 v3 v4 v5} (k5 : Keep q m s0 v5) : OutKeep q m s0
    (execModulatorSample v0 v1 v2 v3 v4 v5) := by
  unfold execModulatorSample
  exact OutKeep.next (State.whenWorking_keep k5 (fun x0 h1 => (modulatorSample_keep (State.reach_keep h1))))

theorem execImpTestDue_keep {q m s0 v0 v1} (k1 : Keep q m s0 v1) : OutKeep q m s0 (execImpTestDue v0 v1) := by
  unfold execImpTestDue
  exact OutKeep.next (State.whenWorking_keep k1 (fun x0 h1 => (impTestDue_keep h1)))

theorem execImpTestDone_keep {q m s0 v0 v1 v2} (k2 : Keep q m s0 v2) : OutKeep q m s0 (execImpTestDone v0 v1 v2) := by
  unfold execImpTestDone
  exact OutKeep.next (State.whenWorking_keep k2 (fun x0 h1 => (impTestDone_keep h1)))

theorem execRefSettled_keep {q m s0 v0 v1} (k1 : Keep q m s0 v1) : OutKeep q m s0 (execRefSettled v0 v1) := by
  unfold execRefSettled
  exact OutKeep.next (State.whenWorking_keep k1 (fun x0 h1 => (refSettled_keep h1)))

theorem execLoopTick_keep {q m s0 v0 v1 v2 v3 v4 v5} (k5 : Keep q m s0 v5) : OutKeep q m s0 (execLoopTick v0 v1 v2 v3
    v4 v5) := by
  unfold execLoopTick
  exact OutKeep.next (State.whenWorking_keep k5 (fun x0 h1 => (loopTick_keep (State.lost_keep (State.reach_keep
      h1)))))

theorem execLoopCommit_keep {q m s0 v0 v1 v2} (k2 : Keep q m s0 v2) : OutKeep q m s0 (execLoopCommit v0 v1 v2) := by
  unfold execLoopCommit
  exact OutKeep.next (State.whenWorking_keep k2 (fun x0 h1 => (loopCommit_keep (State.lost_keep h1))))

theorem execLoopValueWrite_keep {q m s0 v0 v1 v2 v3} (k3 : Keep q m s0 v3) : OutKeep q m s0 (execLoopValueWrite v0 v1
    v2 v3) := by
  unfold execLoopValueWrite
  exact OutKeep.next (State.whenWorking_keep k3 (fun x0 h1 => (loopRefresh_keep (State.setReg_keep (State.lost_keep
      h1)))))

end Sys2Proof.Machine
end

