-- ==== Sys2Proof/Laws/KeepLamp.lean ====
section
/-!
SUPPORT. Keep for every function of Machine/Lamp.lean that makes a state.
-/

namespace Sys2Proof.Machine

theorem State.setLamp_keep {q m s0 v0 v1 v2} (k0 : Keep q m s0 v0) : Keep q m s0 (State.setLamp v0 v1 v2) := by
  unfold State.setLamp
  exact Keep.set_lamps k0 (Sparse.wf_put _ _)

theorem lampCfgFlag_keep {q m s0 v0 v1 v2} (k0 : Keep q m s0 v0) : Keep q m s0 (lampCfgFlag v0 v1 v2) := by
  unfold lampCfgFlag
  exact State.flagEvent_keep k0

theorem computeWords_keep {q m s0 v0 v1} (k0 : Keep q m s0 v0) : Keep q m s0 (computeWords v0 v1) := by
  unfold computeWords
  extract_lets a0 a1 a2
  exact Keep.ite (State.setLamp_keep k0) (State.drawn_keep (State.setLamp_keep k0))

theorem lampTemp_keep {q m s0 v0 v1} (k0 : Keep q m s0 v0) : Keep q m s0 (lampTemp v0 v1) := by
  unfold lampTemp
  exact Keep.ite k0 (computeWords_keep k0)

theorem frameStart_keep {q m s0 v0 v1} (k0 : Keep q m s0 v0) : Keep q m s0 (frameStart v0 v1) := by
  unfold frameStart
  extract_lets a0 a1 a2 a3 a4 a5 a6 a7 a8
  exact Keep.ite k0 (State.emit_keep (State.flag_keep (State.setLamp_keep k0)))

theorem groupsShow_keep {q m s0 v0 v1} (k0 : Keep q m s0 v0) : Keep q m s0 (groupsShow v0 v1) := by
  unfold groupsShow
  exact Keep.foldl k0 (fun x0 h1 _ => (Keep.ite h1 (State.setFld_keep h1)))

theorem blkAssert_keep {q m s0 v0 v1} (k0 : Keep q m s0 v0) : Keep q m s0 (blkAssert v0 v1) := by
  unfold blkAssert
  extract_lets a0
  exact Keep.ite k0 (precTrigger_keep (State.setLamp_keep k0))

theorem blkRelease_keep {q m s0 v0 v1} (k0 : Keep q m s0 v0) : Keep q m s0 (blkRelease v0 v1) := by
  unfold blkRelease
  extract_lets a0
  exact Keep.ite (precTrigger_keep (State.setLamp_keep k0)) k0

theorem scriptTakes_keep {q m s0 v0 v1} (k0 : Keep q m s0 v0) : Keep q m s0 (scriptTakes v0 v1) := by
  unfold scriptTakes
  extract_lets a0
  exact Keep.ite (blkAssert_keep (State.setLamp_keep k0)) k0

theorem lampLatch_keep {q m s0 v0 v1} (k0 : Keep q m s0 v0) : Keep q m s0 (lampLatch v0 v1) := by
  unfold lampLatch
  extract_lets a0
  clear_value a0
  split
  · next b1 b2 =>
    exact k0
  · next b3 b4 b5 =>
    extract_lets a6 a7 a8 a9 a10 a11
    have h12 : Keep q m s0 a8 := State.setLamp_keep k0
    have h13 : Keep q m s0 a9 := State.emit_keep h12
    have h14 : Keep q m s0 a10 := State.wrapInc_keep h13
    have h15 : Keep q m s0 a11 := State.cond_keep h14 (fun x16 h17 => (groupsShow_keep (State.raise_keep
        (CommitUnit.take_keep h17))))
    exact Keep.ite k0 (frameStart_keep (scriptTakes_keep h15))

theorem computeDone_keep {q m s0 v0 v1} (k1 : Keep q m s0 v1) : Keep q m s0 (computeDone v0 v1) := by
  unfold computeDone
  extract_lets a0
  clear_value a0
  split
  · next b1 b2 =>
    exact k1
  · next b3 b4 b5 b6 =>
    extract_lets a7
    have h8 : Keep q m s0 a7 := State.setLamp_keep k1
    exact frameStart_keep (Keep.ite (computeWords_keep h8) h8)

theorem lampCommit_keep {q m s0 v0 v1} (k1 : Keep q m s0 v1) : Keep q m s0 (lampCommit v0 v1) := by
  unfold lampCommit
  exact Keep.ite k1 (computeWords_keep (CommitUnit.commit_keep k1))

theorem openGroup_keep {q m s0 v0 v1 v2} (k0 : Keep q m s0 v0) : Keep q m s0 (openGroup v0 v1 v2) := by
  unfold openGroup
  extract_lets a0
  exact State.setLamp_keep k0

theorem closeGroup_keep {q m s0 v0 v1 v2} (k0 : Keep q m s0 v0) : Keep q m s0 (closeGroup v0 v1 v2) := by
  unfold closeGroup
  extract_lets a0
  exact Keep.ite (State.setLamp_keep k0) k0

theorem groupFails_keep {q m s0 v0 v1 v2 v3 v4} (k0 : Keep q m s0 v0) : Keep q m s0 (groupFails v0 v1 v2 v3 v4) := by
  unfold groupFails
  extract_lets a0 a1 a2 a3 a4 a5 a6 a7
  have h8 : Keep q m s0 a1 := State.flag_keep (openGroup_keep k0)
  have h9 : Keep q m s0 a4 := State.setLamp_keep h8
  have h10 : Keep q m s0 a7 := State.setLamp_keep h9
  exact Keep.ite (State.cond_keep h9 (fun x11 h12 => (State.raise_keep (State.setFld_keep h12)))) (State.cond_keep
      h10 (fun x13 h14 => (State.setFld_keep h14)))

theorem groupRelit_keep {q m s0 v0 v1 v2 v3 v4} (k0 : Keep q m s0 v0) : Keep q m s0 (groupRelit v0 v1 v2 v3 v4) := by
  unfold groupRelit
  extract_lets a0 a1 a2 a3
  have h4 : Keep q m s0 a2 := State.setLamp_keep k0
  have h5 : Keep q m s0 a3 := closeGroup_keep h4
  exact Keep.ite (State.setLamp_keep k0) (groupsShow_keep (State.raise_keep (State.setFld_keep h5)))

theorem quietGroup_keep {q m s0 v0 v1 v2} (k0 : Keep q m s0 v0) : Keep q m s0 (quietGroup v0 v1 v2) := by
  unfold quietGroup
  exact Keep.ite (closeGroup_keep k0) k0

theorem judgeGroup_keep {q m s0 v0 v1 v2 v3 v4} (k3 : Keep q m s0 v3) : Keep q m s0 (judgeGroup v0 v1 v2 v3 v4) := by
  unfold judgeGroup
  extract_lets a0
  split
  · next b1 b2 b3 b4 =>
    exact Keep.ite (groupFails_keep k3) (quietGroup_keep (Keep.ite (groupRelit_keep k3) k3))
  · next b5 b6 =>
    exact Keep.ite (groupFails_keep k3) (quietGroup_keep k3)

theorem judgeReadback_keep {q m s0 v0 v1 v2} (k0 : Keep q m s0 v0) : Keep q m s0 (judgeReadback v0 v1 v2) := by
  unfold judgeReadback
  extract_lets a0 a1 a2 a3 a4 a5
  have h6 : Keep q m s0 a2 := State.setLamp_keep k0
  have h7 : Keep q m s0 a3 := State.setBit_keep h6
  exact (Keep.ite (State.raise_keep (State.flag_keep (State.setLamp_keep k0))) (by
      clear_value a1
      split
      · next b8 b9 =>
        exact h7
      · next b10 b11 b12 =>
        extract_lets a13 a14 a15 a16
        have h17 : Keep q m s0 a15 := State.setLamp_keep h7
        have h18 : Keep q m s0 a16 := Keep.foldl h17 (fun x19 h20 _ => (State.raise_keep (State.satInc_keep h20)))
        exact (Keep.foldl h18 (fun x22 h23 _ => (judgeGroup_keep h23)))))

theorem strobeSettle_keep {q m s0 v0 v1} (k0 : Keep q m s0 v0) : Keep q m s0 (strobeSettle v0 v1) := by
  unfold strobeSettle
  exact Keep.ite (lampLatch_keep k0) k0

theorem blkEnd_keep {q m s0 v0 v1} (k0 : Keep q m s0 v0) : Keep q m s0 (blkEnd v0 v1) := by
  unfold blkEnd
  exact Keep.ite k0 (blkRelease_keep k0)

theorem shiftEnd_keep {q m s0 v0 v1 v2} (k2 : Keep q m s0 v2) : Keep q m s0 (shiftEnd v0 v1 v2) := by
  unfold shiftEnd
  extract_lets a0
  clear_value a0
  split
  · next b1 b2 =>
    exact k2
  · next b3 b4 b5 =>
    extract_lets a6 a7 a8 a9
    have h10 : Keep q m s0 a6 := State.setLamp_keep k2
    have h11 : Keep q m s0 a7 := State.setBit_keep h10
    have h12 : Keep q m s0 a8 := judgeReadback_keep h11
    have h13 : Keep q m s0 a9 := Keep.ite (lampLatch_keep h12) h12
    exact Keep.ite k2 (State.cond_keep h13 (fun x14 h15 => (blkEnd_keep (State.reach_keep h15))))

theorem groupRestore_keep {q m s0 v0 v1 v2} (k2 : Keep q m s0 v2) : Keep q m s0 (groupRestore v0 v1 v2) := by
  unfold groupRestore
  extract_lets a0 a1 a2
  have h3 : Keep q m s0 a1 := State.setBit_keep k2
  exact Keep.ite h3 (State.setLamp_keep h3)

theorem blankDue_keep {q m s0 v0 v1 v2} (k0 : Keep q m s0 v0) : Keep q m s0 (blankDue v0 v1 v2) := by
  unfold blankDue
  extract_lets a0 a1
  have h2 : Keep q m s0 a0 := State.reach_keep k0
  exact State.setLamp_keep h2

theorem blankPeriod_keep {q m s0 v0 v1} (k1 : Keep q m s0 v1) : Keep q m s0 (blankPeriod v0 v1) := by
  unfold blankPeriod
  extract_lets a0 a1
  have h2 : Keep q m s0 a0 := blankDue_keep k1
  have h3 : Keep q m s0 a1 := lampLatch_keep (blkAssert_keep h2)
  exact Keep.ite k1 (blkEnd_keep (State.reach_keep h3))

theorem matrixSlot_keep {q m s0 v0 v1} (k1 : Keep q m s0 v1) : Keep q m s0 (matrixSlot v0 v1) := by
  unfold matrixSlot
  split
  · next b0 b1 =>
    exact k1
  · next b2 b3 b4 =>
    extract_lets a5 a6 a7 a8 a9
    have h10 : Keep q m s0 a6 := blkAssert_keep (blankDue_keep k1)
    have h11 : Keep q m s0 a7 := State.reach_keep h10
    have h12 : Keep q m s0 a9 := lampLatch_keep (State.setLamp_keep h11)
    exact Keep.ite k1 (blkEnd_keep (State.reach_keep h12))

theorem windowArrival_keep {q m s0 v0 v1} (k1 : Keep q m s0 v1) : Keep q m s0 (windowArrival v0 v1) := by
  unfold windowArrival
  split
  · next b0 b1 =>
    exact k1
  · next b2 b3 b4 =>
    extract_lets a5
    have h6 : Keep q m s0 a5 := Keep.set_windows k1
    exact (Keep.foldl h6 (fun x7 h8 _ => (Keep.ite h8 (by
        extract_lets a10 a11 a12 a13
        have h14 : Keep q m s0 a12 := State.cond_keep h8 (fun x15 h16 => (lampCfgFlag_keep h16))
        have h17 : Keep q m s0 a13 := Keep.ite h14 (State.reach_keep h14)
        exact (blkRelease_keep h17)))))

theorem windowDone_keep {q m s0 v0 v1} (k1 : Keep q m s0 v1) : Keep q m s0 (windowDone v0 v1) := by
  unfold windowDone
  split
  · next b0 b1 =>
    exact k1
  · next b2 b3 b4 =>
    extract_lets a5 a6 a7
    have h8 : Keep q m s0 a5 := State.reach_keep k1
    have h9 : Keep q m s0 a6 := Keep.set_windows h8
    have h10 : Keep q m s0 a7 := illumVerdict_keep h9
    exact Keep.foldl h10 (fun x11 h12 _ => (Keep.ite (lampLatch_keep (blkAssert_keep h12)) h12))

theorem lampStop_keep {q m s0 v0 v1} (k0 : Keep q m s0 v0) : Keep q m s0 (lampStop v0 v1) := by
  unfold lampStop
  extract_lets a0 a1
  have h2 : Keep q m s0 a0 := blkAssert_keep k0
  exact State.setBit_keep (State.setLamp_keep h2)

theorem lampTurn_keep {q m s0 v0 v1} (k0 : Keep q m s0 v0) : Keep q m s0 (lampTurn v0 v1) := by
  unfold lampTurn
  extract_lets a0 a1
  have h2 : Keep q m s0 a0 := blkAssert_keep k0
  exact State.setLamp_keep h2

theorem lampEnable_keep {q m s0 v0 v1} (k1 : Keep q m s0 v1) : Keep q m s0 (lampEnable v0 v1) := by
  unfold lampEnable
  extract_lets a0 a1 a2 a3 a4 a5 a6 a7
  have h8 : Keep q m s0 a1 := State.cond_keep k1 (fun x9 h10 => (lampCfgFlag_keep h10))
  have h11 : Keep q m s0 a4 := State.drawn_keep (State.setLamp_keep h8)
  have h12 : Keep q m s0 a5 := groupsShow_keep h11
  have h13 : Keep q m s0 a7 := Keep.ite h12 (scriptBegin_keep h12)
  exact Keep.ite k1 (frameStart_keep (scriptTakes_keep h13))

theorem lampCfgWritten_keep {q m s0 v0 v1 v2 v3} (k3 : Keep q m s0 v3) : Keep q m s0 (lampCfgWritten v0 v1 v2 v3) :=
    by
  unfold lampCfgWritten
  extract_lets a0 a1 a2 a3
  have h4 : Keep q m s0 a2 := Keep.ite (lampStop_keep k3) (Keep.ite (lampTurn_keep k3) k3)
  have h5 : Keep q m s0 a3 := Keep.ite h4 (lampEnable_keep h4)
  exact Keep.ite (lampCfgFlag_keep (State.setReg_keep k3)) (Keep.ite (strobeSettle_keep (State.cond_keep h5 (fun x6
      h7 => (lampTemp_keep h7)))) k3)

theorem lampScriptFrame_keep {q m s0 v0 v1} (k0 : Keep q m s0 v0) : Keep q m s0 (lampScriptFrame v0 v1) := by
  unfold lampScriptFrame
  extract_lets a0
  exact State.setLamp_keep k0

theorem lampScriptSettle_keep {q m s0 v0 v1} (k0 : Keep q m s0 v0) : Keep q m s0 (lampScriptSettle v0 v1) := by
  unfold lampScriptSettle
  exact Keep.ite (scriptTakes_keep k0) (frameStart_keep k0)

theorem lampScriptRun_keep {q m s0 v0 v1} (k1 : Keep q m s0 v1) : Keep q m s0 (lampScriptRun v0 v1) := by
  unfold lampScriptRun
  extract_lets a0
  have h1 : Keep q m s0 a0 := scriptRun_keep k1
  exact Keep.ite k1 (Keep.ite (scriptTakes_keep h1) h1)

theorem lampRunStart_keep {q m s0 v0 v1} (k0 : Keep q m s0 v0) : Keep q m s0 (lampRunStart v0 v1) := by
  unfold lampRunStart
  extract_lets a0 a1
  exact Keep.ite (scriptTakes_keep (scriptBegin_keep (State.setEngine_keep k0))) k0

theorem lampRunStop_keep {q m s0 v0 v1} (k0 : Keep q m s0 v0) : Keep q m s0 (lampRunStop v0 v1) := by
  unfold lampRunStop
  exact Keep.ite (strobeSettle_keep (Keep.set_stopScripts k0 (NatSet.wf_insert _))) k0

theorem lampTake_keep {q m s0 v0 v1} (k1 : Keep q m s0 v1) : Keep q m s0 (lampTake v0 v1) := by
  unfold lampTake
  split
  · next b0 b1 =>
    exact k1
  · next b2 b3 b4 b5 b6 =>
    exact (Keep.ite k1 (Keep.foldl k1 (fun x7 h8 _ => (by
        extract_lets a10 a11 a12 a13
        have h14 : Keep q m s0 a12 := Keep.ite (State.setSfld_keep h8) (State.drawn_keep (State.setFld_keep h8))
        exact (Keep.ite (lampTemp_keep (State.setLamp_keep h14)) h8)))))

theorem tempStale_keep {q m s0 v0 v1} (k1 : Keep q m s0 v1) : Keep q m s0 (tempStale v0 v1) := by
  unfold tempStale
  extract_lets a0
  clear_value a0
  split
  · next b1 b2 b3 =>
    exact Keep.ite (State.raise_keep (State.flag_keep (State.setLamp_keep (State.reach_keep k1)))) k1
  · next b4 b5 =>
    exact k1

theorem tempWritten_keep {q m s0 v0 v1} (k1 : Keep q m s0 v1) : Keep q m s0 (tempWritten v0 v1) := by
  unfold tempWritten
  exact Keep.ite (lampTemp_keep k1) k1

theorem execLcCommit_keep {q m s0 v0 v1 v2} (k2 : Keep q m s0 v2) : OutKeep q m s0 (execLcCommit v0 v1 v2) := by
  unfold execLcCommit
  exact OutKeep.next (State.whenWorking_keep k2 (fun x0 h1 => (lampCommit_keep (State.lost_keep h1))))

theorem execDriveWordComputeDone_keep {q m s0 v0 v1} (k1 : Keep q m s0 v1) : OutKeep q m s0 (execDriveWordComputeDone
    v0 v1) := by
  unfold execDriveWordComputeDone
  exact OutKeep.next (State.whenWorking_keep k1 (fun x0 h1 => (computeDone_keep h1)))

theorem execLampShiftEnd_keep {q m s0 v0 v1 v2 v3} (k3 : Keep q m s0 v3) : OutKeep q m s0 (execLampShiftEnd v0 v1 v2
    v3) := by
  unfold execLampShiftEnd
  exact OutKeep.next (State.whenWorking_keep k3 (fun x0 h1 => (shiftEnd_keep (State.lost_keep h1))))

theorem execLampBlankPeriod_keep {q m s0 v0 v1} (k1 : Keep q m s0 v1) : OutKeep q m s0 (execLampBlankPeriod v0 v1) :=
    by
  unfold execLampBlankPeriod
  exact OutKeep.next (State.whenWorking_keep k1 (fun x0 h1 => (blankPeriod_keep h1)))

theorem execExposureWindowArrival_keep {q m s0 v0 v1} (k1 : Keep q m s0 v1) : OutKeep q m s0
    (execExposureWindowArrival v0 v1) := by
  unfold execExposureWindowArrival
  exact OutKeep.next (State.whenWorking_keep k1 (fun x0 h1 => (windowArrival_keep h1)))

theorem execExposureWindowEnd_keep {q m s0 v0 v1 v2} (k2 : Keep q m s0 v2) : OutKeep q m s0 (execExposureWindowEnd v0
    v1 v2) := by
  unfold execExposureWindowEnd
  exact (OutKeep.next (State.whenWorking_keep k2 (fun x0 h1 => (windowDone_keep (by
      split
      · next b2 b3 =>
        exact State.lost_keep h1
      · next b4 =>
        exact h1)))))

theorem execMatrixRowSlot_keep {q m s0 v0 v1} (k1 : Keep q m s0 v1) : OutKeep q m s0 (execMatrixRowSlot v0 v1) := by
  unfold execMatrixRowSlot
  exact OutKeep.next (State.whenWorking_keep k1 (fun x0 h1 => (matrixSlot_keep h1)))

theorem execLcnTempWrite_keep {q m s0 v0 v1 v2} (k2 : Keep q m s0 v2) : OutKeep q m s0 (execLcnTempWrite v0 v1 v2) :=
    by
  unfold execLcnTempWrite
  exact OutKeep.next (State.whenWorking_keep k2 (fun x0 h1 => (tempWritten_keep (State.setFld_keep h1))))

theorem execLampTempStale_keep {q m s0 v0 v1} (k1 : Keep q m s0 v1) : OutKeep q m s0 (execLampTempStale v0 v1) := by
  unfold execLampTempStale
  exact OutKeep.next (State.whenWorking_keep k1 (fun x0 h1 => (tempStale_keep h1)))

theorem execGroupRestore_keep {q m s0 v0 v1 v2 v3} (k3 : Keep q m s0 v3) : OutKeep q m s0 (execGroupRestore v0 v1 v2
    v3) := by
  unfold execGroupRestore
  exact (OutKeep.next (State.whenWorking_keep k3 (fun x0 h1 => (by
      extract_lets a2
      have h3 : Keep q m s0 a2 := State.lost_keep h1
      exact (Keep.ite h3 (groupRestore_keep h3))))))

theorem execLcScriptRun_keep {q m s0 v0 v1} (k1 : Keep q m s0 v1) : OutKeep q m s0 (execLcScriptRun v0 v1) := by
  unfold execLcScriptRun
  exact OutKeep.next (State.whenWorking_keep k1 (fun x0 h1 => (lampScriptRun_keep h1)))

theorem execLampChainEnable_keep {q m s0 v0 v1} (k1 : Keep q m s0 v1) : OutKeep q m s0 (execLampChainEnable v0 v1) :=
    by
  unfold execLampChainEnable
  exact OutKeep.next (State.whenWorking_keep k1 (fun x0 h1 => (lampCfgWritten_keep (State.setBit_keep h1))))

end Sys2Proof.Machine
end

