-- ==== Sys2Proof/Laws/KeepThermalPix.lean ====
section
/-!
SUPPORT. Keep for every function of Machine/ThermalPix.lean that makes a state.
-/

namespace Sys2Proof.Machine

theorem tpFault_keep {q m s0 v0 v1 v2} (k0 : Keep q m s0 v0) : Keep q m s0 (tpFault v0 v1 v2) := by
  unfold tpFault
  exact State.flagEvent_keep k0

theorem State.portWrite_keep {m s0 v0 v1 v2} (k0 : Keep false m s0 v0) : Keep false m s0 (State.portWrite v0 v1 v2)
    := by
  unfold State.portWrite
  exact Keep.ite (State.write_keep k0) k0

end Sys2Proof.Machine
end

