-- ==== Sys2Proof/Laws/KeepThermalOut.lean ====
section
/-!
SUPPORT. Keep for every function of Machine/ThermalOut.lean that makes a state.
-/

namespace Sys2Proof.Machine

theorem emitTGap_keep {q m s0 v0 v1 v2 v3} (k0 : Keep q m s0 v0) : Keep q m s0 (emitTGap v0 v1 v2 v3) := by
  unfold emitTGap
  exact State.portEmit_keep k0

theorem closeTGap_keep {q m s0 v0 v1} (k0 : Keep q m s0 v0) : Keep q m s0 (closeTGap v0 v1) := by
  unfold closeTGap
  split
  · next b0 b1 b2 =>
    extract_lets a3
    exact emitTGap_keep (State.setTp_keep k0)
  · next b4 b5 =>
    exact k0

theorem closeShutGap_keep {q m s0 v0 v1} (k0 : Keep q m s0 v0) : Keep q m s0 (closeShutGap v0 v1) := by
  unfold closeShutGap
  split
  · next b0 b1 b2 =>
    extract_lets a3
    exact emitTGap_keep (State.setTp_keep k0)
  · next b4 b5 =>
    exact k0

theorem accountShut_keep {q m s0 v0 v1 v2 v3} (k0 : Keep q m s0 v0) : Keep q m s0 (accountShut v0 v1 v2 v3) := by
  unfold accountShut
  extract_lets a0 a1 a2 a3
  have h4 : Keep q m s0 a0 := closeTGap_keep k0
  have h5 : Keep q m s0 a1 := State.cond_keep h4 (fun x6 h7 => (closeShutGap_keep h7))
  exact State.setTp_keep h5

theorem accountLost_keep {q m s0 v0 v1 v2 v3 v4} (k0 : Keep q m s0 v0) : Keep q m s0 (accountLost v0 v1 v2 v3 v4) :=
    by
  unfold accountLost
  extract_lets a0 a1 a2
  have h3 : Keep q m s0 a0 := State.satInc_keep (closeShutGap_keep k0)
  have h4 : Keep q m s0 a1 := (by
      unfold a1
      clear_value a0
      split
      · next b5 b6 b7 =>
        exact Keep.ite h3 (closeTGap_keep h3)
      · next b8 b9 =>
        exact h3)
  exact State.setTp_keep h4

theorem writeStats_keep {q m s0 v0 v1 v2 v3 v4} (k0 : Keep q m s0 v0) : Keep q m s0 (writeStats v0 v1 v2 v3 v4) := by
  unfold writeStats
  extract_lets a0
  exact (Keep.foldl k0 (fun x1 h2 _ => (by
      clear_value a0
      split
      · next b4 b5 =>
        exact h2
      · next b6 b7 b8 =>
        extract_lets a9 a10 a11
        have h12 : Keep q m s0 a9 := State.setReg_keep h2
        have h13 : Keep q m s0 a10 := State.setReg_keep h12
        have h14 : Keep q m s0 a11 := State.setStat_keep h13
        exact (State.setStat_keep h14))))

theorem emitStat_keep {q m s0 v0 v1 v2 v3 v4 v5} (k0 : Keep q m s0 v0) : Keep q m s0 (emitStat v0 v1 v2 v3 v4 v5) :=
    by
  unfold emitStat
  extract_lets a0 a1 a2 a3 a4 a5 a6 a7
  have h8 : Keep q m s0 a3 := State.setTp_keep k0
  exact Keep.ite h8 (State.portEmit_keep h8)

theorem setTLine_keep {q m s0 v0 v1 v2} (k0 : Keep q m s0 v0) : Keep q m s0 (setTLine v0 v1 v2) := by
  unfold setTLine
  extract_lets a0
  exact State.setTp_keep k0

theorem showLine_keep {q m s0 v0 v1} (k0 : Keep q m s0 v0) : Keep q m s0 (showLine v0 v1) := by
  unfold showLine
  extract_lets a0 a1 a2
  have h3 : Keep q m s0 a2 := State.setFld_keep (State.setFld_keep k0)
  exact State.setBit_keep (State.setBit_keep h3)

theorem closeLineGap_keep {q m s0 v0 v1} (k0 : Keep q m s0 v0) : Keep q m s0 (closeLineGap v0 v1) := by
  unfold closeLineGap
  extract_lets a0
  clear_value a0
  split
  · next b1 b2 =>
    exact k0
  · next b3 b4 b5 =>
    exact State.portEmit_keep (setTLine_keep k0)

theorem lineConsume_keep {q m s0 v0 v1 v2} (k0 : Keep q m s0 v0) : Keep q m s0 (lineConsume v0 v1 v2) := by
  unfold lineConsume
  extract_lets a0 a1
  exact setTLine_keep k0

theorem lineAccount_keep {q m s0 v0 v1 v2 v3} (k0 : Keep q m s0 v0) : Keep q m s0 (lineAccount v0 v1 v2 v3) := by
  unfold lineAccount
  extract_lets a0 a1 a2 a3
  have h4 : Keep q m s0 a0 := lineConsume_keep k0
  have h5 : Keep q m s0 a1 := (by
      unfold a1
      clear_value a0
      split
      · next b6 b7 b8 =>
        exact Keep.ite h4 (closeLineGap_keep h4)
      · next b9 b10 =>
        exact h4)
  exact setTLine_keep h5

theorem emitTLine_keep {q m s0 v0 v1 v2 v3} (k0 : Keep q m s0 v0) : Keep q m s0 (emitTLine v0 v1 v2 v3) := by
  unfold emitTLine
  extract_lets a0 a1 a2 a3 a4 a5 a6 a7 a8 a9 a10
  have h11 : Keep q m s0 a6 := lineConsume_keep k0
  have h12 : Keep q m s0 a10 := closeLineGap_keep h11
  exact (Keep.ite (lineAccount_keep (tpFault_keep k0)) (by
      clear_value a3 a4
      split
      · next b13 b14 b15 b16 =>
        extract_lets a17 a18 a19 a20 a21 a22
        have h23 : Keep q m s0 a19 := State.portEmit_keep h12
        have h24 : Keep q m s0 a21 := setTLine_keep h23
        have h25 : Keep q m s0 a22 := State.raise_keep h24
        exact (emitStat_keep (writeStats_keep h25))))

theorem lineDone_keep {q m s0 v0 v1 v2 v3} (k0 : Keep q m s0 v0) : Keep q m s0 (lineDone v0 v1 v2 v3) := by
  unfold lineDone
  extract_lets a0 a1 a2
  have h3 : Keep q m s0 a2 := setTLine_keep k0
  clear_value a1
  split
  · next b4 b5 =>
    exact Keep.ite (emitTLine_keep h3) (lineAccount_keep h3)
  · next b6 =>
    exact lineAccount_keep h3

theorem lineCross_keep {q m s0 v0 v1 v2 v3 v4} (k0 : Keep q m s0 v0) : Keep q m s0 (lineCross v0 v1 v2 v3 v4) := by
  unfold lineCross
  extract_lets a0 a1 a2 a3 a4
  clear_value a0
  split
  · next b5 b6 =>
    exact setTLine_keep k0
  · next b7 b8 b9 =>
    extract_lets a10 a11 a12
    have h13 : Keep q m s0 a11 := Keep.foldl k0 (fun x14 h15 _ => (lineDone_keep h15))
    exact setTLine_keep h13

theorem lineBegin_keep {q m s0 v0 v1 v2} (k0 : Keep q m s0 v0) : Keep q m s0 (lineBegin v0 v1 v2) := by
  unfold lineBegin
  extract_lets a0
  exact showLine_keep (setTLine_keep k0)

theorem lineEnd_keep {q m s0 v0 v1 v2 v3 v4 v5} (k0 : Keep q m s0 v0) : Keep q m s0 (lineEnd v0 v1 v2 v3 v4 v5) := by
  unfold lineEnd
  extract_lets a0 a1 a2 a3 a4
  have h5 : Keep q m s0 a2 := closeLineGap_keep (Keep.foldl k0 (fun x6 h7 _ => (lineDone_keep h7)))
  have h9 : Keep q m s0 a4 := setTLine_keep h5
  exact Keep.ite h9 (State.portEmit_keep h9)

theorem lineTurns_keep {q m s0 v0 v1 v2 v3 v4} (k4 : Keep q m s0 v4) : Keep q m s0 (lineTurns v0 v1 v2 v3 v4) := by
  induction v3 generalizing v0 v1 v2 v4 with
  | zero =>
    unfold lineTurns
    exact k4
  | succ j ih =>
    unfold lineTurns
    extract_lets a0
    clear_value a0
    split
    · next b1 b2 b3 b4 b5 b6 =>
      extract_lets a7
      have h8 : Keep q m s0 a7 := lineEnd_keep (setTLine_keep k4)
      clear_value a7
      exact Keep.ite k4 (ih (lineBegin_keep h8))
    · next b9 b10 =>
      exact k4

theorem touchTarget_keep {q m s0 v0 v1 v2 v3 v4 v5} (k0 : Keep q m s0 v0) : Keep q m s0 (touchTarget v0 v1 v2 v3 v4
    v5) := by
  unfold touchTarget
  extract_lets a0 a1 a2 a3 a4
  exact Keep.ite k0 (setTLine_keep k0)

theorem lineSample_keep {q m s0 v0 v1 v2 v3 v4} (k0 : Keep q m s0 v0) : Keep q m s0 (lineSample v0 v1 v2 v3 v4) := by
  unfold lineSample
  extract_lets a0 a1 a2 a3
  have h4 : Keep q m s0 a0 := lineTurns_keep k0
  split
  · next b5 b6 =>
    exact h4
  · next b7 b8 b9 b10 b11 =>
    extract_lets a12 a13 a14 a15 a16 a17 a18 a19
    have h20 : Keep q m s0 a13 := lineCross_keep h4
    have h21 : Keep q m s0 a18 := Keep.ite (Keep.foldl h20 (fun x22 h23 _ => (touchTarget_keep h23))) (Keep.foldl h20
        (fun x25 h26 _ => (touchTarget_keep h26)))
    exact Keep.ite h4 (Keep.ite (showLine_keep h20) (showLine_keep (Keep.ite (setTLine_keep h21) h21)))

theorem leaveLost_keep {q m s0 v0 v1 v2 v3} (k0 : Keep q m s0 v0) : Keep q m s0 (leaveLost v0 v1 v2 v3) := by
  unfold leaveLost
  extract_lets a0 a1
  have h2 : Keep q m s0 a1 := State.setTp_keep k0
  clear_value a1
  split
  · next b3 b4 =>
    exact h2
  · next b5 b6 b7 =>
    exact Keep.ite (lineSample_keep (State.satInc_keep h2)) (Keep.ite (accountShut_keep h2) (accountLost_keep h2))

theorem emitFrame_keep {q m s0 v0 v1 v2 v3 v4} (k0 : Keep q m s0 v0) : Keep q m s0 (emitFrame v0 v1 v2 v3 v4) := by
  unfold emitFrame
  extract_lets a0 a1
  have h2 : Keep q m s0 a0 := closeTGap_keep (closeShutGap_keep k0)
  split
  · next b3 b4 b5 b6 =>
    extract_lets a7 a8 a9
    have h10 : Keep q m s0 a8 := State.portEmit_keep h2
    have h11 : Keep q m s0 a9 := State.setReg_keep h10
    exact emitStat_keep (writeStats_keep h11)

theorem leaveDone_keep {m s0 v0 v1 v2} (k0 : Keep false m s0 v0) : Keep false m s0 (leaveDone v0 v1 v2) := by
  unfold leaveDone
  extract_lets a0 a1 a2 a3
  clear_value a0 a1
  split
  · next b4 b5 b6 b7 =>
    extract_lets a8 a9 a10 a11 a12 a13 a14 a15 a16 a17 a18 a19 a20 a21 a22 a23
    have h24 : Keep false m s0 a8 := State.setFld_keep k0
    have h25 : Keep false m s0 a15 := State.cond_keep h24 (fun x26 h27 => (tpFault_keep h27))
    have h28 : Keep false m s0 a16 := Keep.ite (State.portWrite_keep h25) h25
    have h29 : Keep false m s0 a18 := State.setTp_keep h28
    have h30 : Keep false m s0 a23 := State.raise_keep h29
    exact (Keep.ite (lineSample_keep h29) (by
        clear_value a21 a23
        split
        · next b31 b32 =>
          exact h30
        · next b33 b34 b35 =>
          exact (Keep.ite (accountShut_keep h30) (emitFrame_keep h30))))

theorem leaveLosts_keep {q m s0 v0 v1 v2} (k2 : Keep q m s0 v2) : Keep q m s0 (leaveLosts v0 v1 v2) := by
  induction v1 generalizing v0 v2 with
  | zero =>
    unfold leaveLosts
    exact k2
  | succ j ih =>
    unfold leaveLosts
    split
    · next b0 b1 b2 b3 =>
      split
      · next b4 b5 b6 =>
        extract_lets a7
        clear_value a7
        exact Keep.ite k2 (ih (leaveLost_keep (State.setTp_keep k2)))
      · next b8 b9 =>
        exact k2
    · next b10 b11 =>
      exact k2

theorem tpSettle_keep {q m s0 v0 v1} (k0 : Keep q m s0 v0) : Keep q m s0 (tpSettle v0 v1) := by
  unfold tpSettle
  exact leaveLosts_keep k0

theorem sampleComplete_keep {m s0 v0 v1 v2} (k2 : Keep false m s0 v2) : Keep false m s0 (sampleComplete v0 v1 v2) :=
    by
  unfold sampleComplete
  extract_lets a0 a1
  have h2 : Keep false m s0 a0 := tpSettle_keep k2
  clear_value a0
  split
  · next b3 b4 b5 b6 =>
    extract_lets a7 a8 a9 a10
    have h11 : Keep false m s0 a10 := State.setTp_keep h2
    exact (Keep.ite h2 (by
        clear_value a9 a10
        split
        · next b12 b13 b14 =>
          extract_lets a15 a16
          have h17 : Keep false m s0 a15 := eccNote_keep h11
          exact tpSettle_keep (Keep.ite (leaveLost_keep (State.setTp_keep h17)) (leaveDone_keep h17))
        · next b18 b19 =>
          exact (tpSettle_keep (leaveDone_keep h11))))
  · next b20 b21 =>
    exact h2

theorem tpSample_keep {q m s0 v0 v1 v2} (k2 : Keep q m s0 v2) : Keep q m s0 (tpSample v0 v1 v2) := by
  unfold tpSample
  extract_lets a0 a1 a2 a3 a4 a5 a6 a7 a8
  have h9 : Keep q m s0 a2 := State.setTp_keep k2
  have h10 : Keep q m s0 a5 := State.setTp_keep h9
  have h11 : Keep q m s0 a7 := State.cond_keep h10 (fun x12 h13 => (setTLine_keep h13))
  have h14 : Keep q m s0 a8 := tpSettle_keep h11
  exact Keep.ite (lineTurns_keep h14) h14

theorem tpAfterStop_keep {q m s0 v0 v1} (k0 : Keep q m s0 v0) : Keep q m s0 (tpAfterStop v0 v1) := by
  unfold tpAfterStop
  extract_lets a0 a1 a2 a3
  have h4 : Keep q m s0 a2 := lineTurns_keep k0
  have h5 : Keep q m s0 a3 := Keep.ite (lineEnd_keep h4) h4
  exact Keep.ite k0 (closeTGap_keep (closeShutGap_keep h5))

end Sys2Proof.Machine
end

