-- ==== Sys2Proof/Laws/KeepShutter.lean ====
section
/-!
SUPPORT. Keep for every function of Machine/Shutter.lean that makes a state.
-/

namespace Sys2Proof.Machine

theorem shutMove_keep {q m s0 v0 v1 v2 v3 v4} (k0 : Keep q m s0 v0) : Keep q m s0 (shutMove v0 v1 v2 v3 v4) := by
  unfold shutMove
  extract_lets a0
  exact Keep.ite (State.setTp_keep k0) (State.setTp_keep k0)

theorem shutShow_keep {q m s0 v0 v1} (k0 : Keep q m s0 v0) : Keep q m s0 (shutShow v0 v1) := by
  unfold shutShow
  extract_lets a0
  split
  · next b1 b2 b3 =>
    exact Keep.ite (State.setFld_keep (State.setFld_keep k0)) (State.setFld_keep (State.setFld_keep k0))
  · next b4 b5 =>
    exact State.setFld_keep (State.setFld_keep k0)

theorem shutEvent_keep {q m s0 v0 v1} (k0 : Keep q m s0 v0) : Keep q m s0 (shutEvent v0 v1) := by
  unfold shutEvent
  exact State.raise_keep k0

theorem shutAbort_keep {q m s0 v0 v1 v2} (k1 : Keep q m s0 v1) : Keep q m s0 (shutAbort v0 v1 v2) := by
  unfold shutAbort
  extract_lets a0 a1
  clear_value a0
  split
  · next b2 b3 =>
    exact k1
  · next b4 b5 b6 =>
    extract_lets a7 a8 a9 a10
    have h11 : Keep q m s0 a7 := State.setTp_keep k1
    have h12 : Keep q m s0 a8 := shutMove_keep h11
    have h13 : Keep q m s0 a9 := State.satInc_keep (State.flag_keep h12)
    have h14 : Keep q m s0 a10 := State.setFld_keep (State.setFld_keep h13)
    exact Keep.ite k1 (shutEvent_keep (shutShow_keep h14))

theorem shutStart_keep {q m s0 v0 v1} (k0 : Keep q m s0 v0) : Keep q m s0 (shutStart v0 v1) := by
  unfold shutStart
  extract_lets a0 a1
  exact (Keep.ite (State.setTp_keep k0) (by
      split
      · next b2 b3 =>
        exact State.setTp_keep k0
      · next b4 b5 b6 =>
        extract_lets a7 a8
        have h9 : Keep q m s0 a8 := State.setTp_keep k0
        exact (shutEvent_keep (shutShow_keep (shutMove_keep h9)))))

theorem shutRequest_keep {q m s0 v0 v1 v2} (k2 : Keep q m s0 v2) : Keep q m s0 (shutRequest v0 v1 v2) := by
  unfold shutRequest
  extract_lets a0
  clear_value a0
  split
  · next b1 b2 b3 =>
    exact Keep.ite (State.setTp_keep k2) (State.satInc_keep k2)
  · next b4 b5 =>
    exact State.setTp_keep k2

theorem shutAbortRequest_keep {q m s0 v0 v1} (k1 : Keep q m s0 v1) : Keep q m s0 (shutAbortRequest v0 v1) := by
  unfold shutAbortRequest
  split
  · next b0 b1 b2 =>
    extract_lets a3
    exact State.setTp_keep k1
  · next b4 b5 =>
    exact k1

theorem shutAverage_keep {m s0 v0 v1 v2} (k0 : Keep false m s0 v0) : Keep false m s0 (shutAverage v0 v1 v2) := by
  unfold shutAverage
  extract_lets a0 a1 a2 a3 a4
  have h5 : Keep false m s0 a3 := State.cond_keep k0 (fun x6 h7 => (tpFault_keep h7))
  clear_value a0
  split
  · next b8 b9 b10 =>
    extract_lets a11 a12 a13 a14 a15
    have h16 : Keep false m s0 a12 := State.portWrite_keep h5
    have h17 : Keep false m s0 a15 := State.setTp_keep h16
    exact Keep.ite k0 (Keep.ite (State.setTp_keep h16) (shutShow_keep (shutMove_keep h17)))
  · next b18 b19 =>
    exact k0

theorem postpassDone_keep {m s0 v0 v1} (k1 : Keep false m s0 v1) : Keep false m s0 (postpassDone v0 v1) := by
  unfold postpassDone
  extract_lets a0 a1 a2 a3 a4 a5 a6
  clear_value a0
  split
  · next b7 b8 =>
    exact k1
  · next b9 b10 b11 =>
    exact (Keep.ite k1 (by
        clear_value a1
        split
        · next b12 b13 b14 b15 =>
          extract_lets a16 a17 a18 a19 a20 a21 a22 a23 a24 a25 a26 a27 a28 a29 a30 a31 a32 a33
          have h34 : Keep false m s0 a21 := State.cond_keep k1 (fun x35 h36 => (State.drawn_keep h36))
          have h37 : Keep false m s0 a26 := State.setReg_keep h34
          have h38 : Keep false m s0 a28 := State.cond_keep h37 (fun x39 h40 => (State.flag_keep h40))
          clear_value a30 a31
          split
          · next b41 b42 b43 b44 b45 =>
            extract_lets a46 a47 a48
            have h49 : Keep false m s0 a47 := State.portWrite_keep h38
            exact (shutShow_keep (State.setTp_keep h49))))

theorem persist_keep {q m s0 v0 v1} (k0 : Keep q m s0 v0) : Keep q m s0 (persist v0 v1) := by
  unfold persist
  extract_lets a0 a1 a2 a3 a4 a5 a6
  split
  · next b7 b8 =>
    exact State.flag_keep (State.setBit_keep (Keep.set_ms k0))
  · next b9 b10 b11 =>
    extract_lets a12 a13
    have h14 : Keep q m s0 a13 := Keep.set_ms k0
    exact State.setBit_keep h14

theorem persistEnd_keep {q m s0 v0 v1 v2} (k0 : Keep q m s0 v0) : Keep q m s0 (persistEnd v0 v1 v2) := by
  unfold persistEnd
  extract_lets a0 a1
  have h2 : Keep q m s0 a1 := State.cond_keep (State.setBit_keep k0) (fun x3 h4 => (State.flag_keep h4))
  exact shutEvent_keep h2

theorem shutEffect_keep {q m s0 v0 v1 v2} (k0 : Keep q m s0 v0) : Keep q m s0 (shutEffect v0 v1 v2) := by
  unfold shutEffect
  extract_lets a0 a1 a2 a3 a4 a5
  have h6 : Keep q m s0 a1 := State.setTp_keep k0
  have h7 : Keep q m s0 a2 := (by
      unfold a2
      clear_value a0
      split
      · next b8 b9 b10 b11 b12 =>
        extract_lets a13 a14 a15
        have h16 : Keep q m s0 a13 := State.setReg_keep h6
        have h17 : Keep q m s0 a14 := State.setReg_keep h16
        have h18 : Keep q m s0 a15 := State.setReg_keep h17
        exact State.setBit_keep h18
      · next b19 b20 =>
        exact h6)
  have h21 : Keep q m s0 a3 := State.setReg64_keep (State.setBit_keep h7)
  have h22 : Keep q m s0 a4 := State.wrapInc_keep h21
  have h23 : Keep q m s0 a5 := State.setFld_keep h22
  exact shutEvent_keep (persist_keep (shutShow_keep h23))

theorem shutBoundary_keep {q m s0 v0 v1 v2} (k0 : Keep q m s0 v0) : Keep q m s0 (shutBoundary v0 v1 v2).1 := by
  unfold shutBoundary
  extract_lets a0 a1 a2
  have h3 : ∀ y1, Keep q m s0 y1 → ∀ y2, Keep q m s0 (a0 y1 y2) := fun x4 h5 _ => (shutShow_keep (State.setTp_keep
      h5))
  have h7 : ∀ y1, Keep q m s0 y1 → Keep q m s0 (a1 y1).1 := by
    unfold a1
    exact (fun x8 h9 => (by
      extract_lets a10
      have h11 : Keep q m s0 a10 := shutStart_keep h9
      exact (Keep.mk1 h11)))
  split
  · next b12 b13 =>
    exact h7 _ k0
  · next b14 b15 b16 =>
    extract_lets a17 a18 a19
    have h20 : ∀ y1, Keep q m s0 y1 → ∀ y2, Keep q m s0 (a19 y1 y2).1 := by
      unfold a19
      exact (fun x21 h22 _ => (by
        split
        · next b24 =>
          exact Keep.mk1 (shutAbort_keep h22)
        · next b25 =>
          split
          · next b26 =>
            exact Keep.mk1 (shutAbort_keep h22)
          · next b27 =>
            exact (Keep.mk1 (h3 _ h22 _))))
    split
    · next b28 =>
      split
      · next b29 =>
        exact h7 _ (State.setTp_keep k0)
      · next b30 =>
        exact Keep.mk1 (State.setTp_keep k0)
    · next b31 =>
      split
      · next b32 =>
        exact Keep.mk1 (shutAbort_keep k0)
      · next b33 =>
        split
        · next b34 =>
          exact Keep.mk1 (shutAbort_keep k0)
        · next b35 =>
          split
          · next b36 =>
            split
            · next b37 =>
              exact h20 _ k0 _
            · next b38 =>
              exact Keep.mk1 (h3 _ k0 _)
          · next b39 =>
            split
            · next b40 =>
              exact h20 _ k0 _
            · next b41 =>
              split
              · next b42 =>
                exact Keep.mk1 k0
              · next b43 =>
                split
                · next b44 =>
                  exact Keep.mk1 (h3 _ k0 _)
                · next b45 =>
                  split
                  · next b46 =>
                    exact Keep.mk1 (shutAbort_keep k0)
                  · next b47 =>
                    exact Keep.mk1 (shutEffect_keep k0)

theorem execShutterRequest_keep {q m s0 v0 v1 v2} (k2 : Keep q m s0 v2) : OutKeep q m s0 (execShutterRequest v0 v1
    v2) := by
  unfold execShutterRequest
  exact OutKeep.next (State.whenWorking_keep k2 (fun x0 h1 => (shutRequest_keep (State.lost_keep h1))))

theorem execShutterAbort_keep {q m s0 v0 v1} (k1 : Keep q m s0 v1) : OutKeep q m s0 (execShutterAbort v0 v1) := by
  unfold execShutterAbort
  exact OutKeep.next (State.whenWorking_keep k1 (fun x0 h1 => (shutAbortRequest_keep h1)))

theorem execShutterPostpassDone_keep {m s0 v0 v1} (k1 : Keep false m s0 v1) : OutKeep false m s0
    (execShutterPostpassDone v0 v1) := by
  unfold execShutterPostpassDone
  exact OutKeep.next (State.whenWorking_keep k1 (fun x0 h1 => (postpassDone_keep h1)))

end Sys2Proof.Machine
end

