-- ==== Sys2Proof/Laws/KeepThermal.lean ====
section
/-!
SUPPORT. Keep for every function of Machine/Thermal.lean that makes a state.
-/

namespace Sys2Proof.Machine

theorem tpReady_keep {q m s0 v0 v1} (k0 : Keep q m s0 v0) : Keep q m s0 (tpReady v0 v1) := by
  unfold tpReady
  extract_lets a0 a1 a2
  have h3 : Keep q m s0 a1 := State.setBit_keep (State.setBit_keep k0)
  exact readyCheck_keep (Keep.ite (State.setTp_keep h3) h3)

theorem tpEnable_keep {q m s0 v0 v1} (k1 : Keep q m s0 v1) : Keep q m s0 (tpEnable v0 v1) := by
  unfold tpEnable
  extract_lets a0 a1 a2 a3 a4 a5
  have h6 : Keep q m s0 a2 := State.setTp_keep k1
  have h7 : Keep q m s0 a4 := State.cond_keep (State.setReg_keep h6) (fun x8 h9 => (State.raise_keep h9))
  exact Keep.ite k1 (State.setEngine_keep h7)

theorem tpDelayEnd_keep {q m s0 v0 v1} (k1 : Keep q m s0 v1) : Keep q m s0 (tpDelayEnd v0 v1) := by
  unfold tpDelayEnd
  extract_lets a0 a1
  have h2 : Keep q m s0 a1 := scriptBegin_keep (State.setTp_keep (State.reach_keep k1))
  exact Keep.ite k1 (tpReady_keep (State.cond_keep h2 (fun x3 h4 => (scriptBegin_keep h4))))

theorem tpDisable_keep {q m s0 v0 v1} (k1 : Keep q m s0 v1) : Keep q m s0 (tpDisable v0 v1) := by
  unfold tpDisable
  extract_lets a0 a1 a2 a3 a4
  have h5 : Keep q m s0 a1 := State.setTp_keep k1
  have h6 : Keep q m s0 a2 := State.setBit_keep (State.setEngine_keep h5)
  have h7 : Keep q m s0 a4 := State.setFld_keep (State.setBit_keep h6)
  exact tpReady_keep (tpAfterStop_keep (State.setBit_keep h7))

theorem tpCfgWritten_keep {q m s0 v0 v1 v2 v3} (k3 : Keep q m s0 v3) : Keep q m s0 (tpCfgWritten v0 v1 v2 v3) := by
  unfold tpCfgWritten
  extract_lets a0 a1 a2 a3
  have h4 : Keep q m s0 a1 := Keep.ite (State.setFld_keep k3) k3
  exact Keep.ite (tpFault_keep (State.setReg_keep k3)) (Keep.ite (State.setBit_keep (State.setTp_keep h4)) (Keep.ite
      (Keep.ite h4 (Keep.ite (tpEnable_keep h4) (tpDisable_keep h4))) h4))

theorem tpDriftWritten_keep {q m s0 v0 v1 v2 v3 v4} (k4 : Keep q m s0 v4) : Keep q m s0 (tpDriftWritten v0 v1 v2 v3
    v4) := by
  unfold tpDriftWritten
  extract_lets a0
  exact Keep.ite (tpFault_keep (State.setReg_keep k4)) (State.setTp_keep k4)

theorem tpTake_keep {q m s0 v0 v1} (k1 : Keep q m s0 v1) : Keep q m s0 (tpTake v0 v1) := by
  unfold tpTake
  split
  · next b0 b1 =>
    exact k1
  · next b2 b3 b4 b5 b6 =>
    exact (Keep.ite k1 (Keep.foldl k1 (fun x7 h8 _ => (Keep.ite h8 (Keep.foldl h8 (fun x10 h11 _ => (by
        extract_lets a13
        exact (Keep.ite (State.setTp_keep h11) h11))))))))

theorem latchRefs_keep {q m s0 v0 v1} (k0 : Keep q m s0 v0) : Keep q m s0 (latchRefs v0 v1) := by
  unfold latchRefs
  extract_lets a0 a1 a2 a3 a4 a5 a6 a7 a8 a9
  have h10 : Keep q m s0 a7 := State.setReg_keep (State.setReg_keep k0)
  have h11 : Keep q m s0 a8 := State.setReg_keep (State.setReg_keep h10)
  have h12 : Keep q m s0 a9 := State.setReg_keep h11
  exact State.cond_keep h12 (fun x13 h14 => (State.raise_keep h14))

theorem showDefs_keep {q m s0 v0 v1 v2} (k0 : Keep q m s0 v0) : Keep q m s0 (showDefs v0 v1 v2) := by
  unfold showDefs
  extract_lets a0 a1
  have h2 : Keep q m s0 a1 := (Keep.foldl k0 (fun x3 h4 _ => (by
      extract_lets a6
      exact (Keep.ite h4 (State.setReg_keep h4)))))
  exact State.setFld_keep h2

theorem applyEdit_keep {q m s0 v0 v1 v2} (k1 : Keep q m s0 v1) : Keep q m s0 (applyEdit v0 v1 v2) := by
  unfold applyEdit
  extract_lets a0 a1
  exact Keep.ite (State.setTp_keep k1) (Keep.ite (State.setTp_keep k1) (State.raise_keep (State.flag_keep
      (State.satInc_keep k1))))

theorem applyEdits_keep {q m s0 v0 v1} (k0 : Keep q m s0 v0) : Keep q m s0 (applyEdits v0 v1) := by
  unfold applyEdits
  extract_lets a0 a1
  have h2 : Keep q m s0 a1 := Keep.foldl (State.setTp_keep k0) (fun x3 h4 _ => (applyEdit_keep h4))
  exact Keep.ite k0 (showDefs_keep (State.setFld_keep h2))

theorem defEdit_keep {q m s0 v0 v1 v2} (k2 : Keep q m s0 v2) : Keep q m s0 (defEdit v0 v1 v2) := by
  unfold defEdit
  extract_lets a0
  exact Keep.ite (State.raise_keep (State.satInc_keep k2)) (State.setFld_keep (State.setTp_keep k2))

theorem slotStart_keep {q m s0 v0 v1} (k0 : Keep q m s0 v0) : Keep q m s0 (slotStart v0 v1) := by
  unfold slotStart
  extract_lets a0 a1 a2
  exact State.emit_keep k0

theorem slotsEnd_keep {q m s0 v0 v1} (k0 : Keep q m s0 v0) : Keep q m s0 (slotsEnd v0 v1) := by
  unfold slotsEnd
  extract_lets a0 a1
  exact State.setTp_keep (State.setBit_keep k0)

theorem slotDone_keep {q m s0 v0 v1 v2} (k2 : Keep q m s0 v2) : Keep q m s0 (slotDone v0 v1 v2) := by
  unfold slotDone
  extract_lets a0 a1
  have h2 : Keep q m s0 a1 := State.setTp_keep k2
  exact Keep.ite k2 (Keep.ite (slotsEnd_keep (tpFault_keep k2)) (Keep.ite (slotsEnd_keep h2) (slotStart_keep h2)))

theorem showLock_keep {q m s0 v0 v1} (k0 : Keep q m s0 v0) : Keep q m s0 (showLock v0 v1) := by
  unfold showLock
  extract_lets a0 a1 a2 a3 a4 a5 a6 a7
  have h8 : Keep q m s0 a6 := State.setFld_keep k0
  have h9 : Keep q m s0 a7 := State.setBit_keep h8
  exact tpReady_keep (State.cond_keep h9 (fun x10 h11 => (State.raise_keep h11)))

theorem countSync_keep {q m s0 v0 v1 v2} (k0 : Keep q m s0 v0) : Keep q m s0 (countSync v0 v1 v2) := by
  unfold countSync
  extract_lets a0 a1 a2 a3 a4
  exact showLock_keep (State.setTp_keep k0)

theorem putFrame_keep {q m s0 v0 v1 v2} (k0 : Keep q m s0 v0) : Keep q m s0 (putFrame v0 v1 v2) := by
  unfold putFrame
  extract_lets a0
  exact State.setTp_keep k0

theorem loseFrame_keep {q m s0 v0 v1 v2 v3} (k0 : Keep q m s0 v0) : Keep q m s0 (loseFrame v0 v1 v2 v3) := by
  unfold loseFrame
  extract_lets a0 a1
  have h2 : Keep q m s0 a0 := putFrame_keep k0
  exact tpSettle_keep (State.setTp_keep h2)

theorem rowActive_keep {q m s0 v0 v1 v2 v3} (k0 : Keep q m s0 v0) : Keep q m s0 (rowActive v0 v1 v2 v3).1 := by
  unfold rowActive
  split
  · next b0 b1 b2 b3 =>
    split
    · next b4 b5 b6 b7 =>
      extract_lets a8 a9 a10 a11 a12 a13 a14 a15 a16
      clear_value a9 a10 a12 a15
      split
      · next b17 b18 b19 b20 =>
        extract_lets a21 a22 a23
        have h24 : Keep q m s0 a21 := Keep.ite k0 (State.setTp_keep k0)
        have h25 : Keep q m s0 a23 := State.cond_keep h24 (fun x26 h27 => (State.flag_keep h27))
        clear_value a13 a14 a22
        split
        · next b28 b29 b30 b31 =>
          exact Keep.mk1 h25

theorem rowGood_keep {m s0 v0 v1 v2 v3} (k0 : Keep false m s0 v0) : Keep false m s0 (rowGood v0 v1 v2 v3) := by
  unfold rowGood
  extract_lets a0 a1 a2 a3 a4 a5 a6 a7
  have h8 : Keep false m s0 a3.1 := (by
      unfold a3
      split
      · next b9 =>
        exact Keep.mk1 k0
      · next b10 =>
        exact (rowActive_keep k0))
  have h11 : Keep false m s0 a7 := putFrame_keep h8
  exact State.cond_keep h11 (fun x12 h13 => (shutAverage_keep h13))

theorem rowError_keep {q m s0 v0 v1 v2} (k0 : Keep q m s0 v0) : Keep q m s0 (rowError v0 v1 v2) := by
  unfold rowError
  exact loseFrame_keep (tpFault_keep (State.satInc_keep k0))

theorem coefRowsArrive_keep {q m s0 v0 v1 v2 v3} (k3 : Keep q m s0 v3) : Keep q m s0 (coefRowsArrive v0 v1 v2 v3) :=
    by
  unfold coefRowsArrive
  split
  · next b0 b1 =>
    exact k3
  · next b2 b3 b4 =>
    split
    · next b5 b6 b7 b8 =>
      extract_lets a9 a10 a11 a12 a13 a14 a15 a16 a17
      have h18 : Keep q m s0 a15 := State.cond_keep k3 (fun x19 h20 => (tpFault_keep h20))
      have h21 : Keep q m s0 a17 := State.cond_keep h18 (fun x22 h23 => (eccNote_keep h23))
      exact Keep.ite (loseFrame_keep h21) (putFrame_keep h21)

theorem rowPlace_keep {m s0 v0 v1 v2 v3 v4 v5} (k0 : Keep false m s0 v0) : Keep false m s0 (rowPlace v0 v1 v2 v3 v4
    v5) := by
  unfold rowPlace
  extract_lets a0 a1 a2 a3
  exact Keep.ite (rowError_keep k0) (Keep.ite (loseFrame_keep (tpFault_keep k0)) (Keep.ite (loseFrame_keep
      (tpFault_keep k0)) (Keep.ite (loseFrame_keep k0) (rowGood_keep k0))))

theorem fpaRow_keep {m s0 v0 v1 v2 v3 v4} (k4 : Keep false m s0 v4) : Keep false m s0 (fpaRow v0 v1 v2 v3 v4) := by
  unfold fpaRow
  extract_lets a0 a1 a2 a3 a4 a5 a6
  have h7 : Keep false m s0 a1 := countSync_keep k4
  have h8 : ∀ y1, Keep false m s0 y1 → Keep false m s0 (a4 y1) := fun x9 h10 => (State.satInc_keep h10)
  have h11 : Keep false m s0 a6 := State.setTp_keep h7
  exact (Keep.ite k4 (Keep.ite (Keep.ite h7 (by
      clear_value a1
      split
      · next b12 b13 b14 =>
        exact loseFrame_keep (tpFault_keep h7)
      · next b15 b16 =>
        exact h7)) (by
      clear_value a1
      split
      · next b17 b18 =>
        exact h8 _ h7
      · next b19 b20 b21 =>
        extract_lets a22 a23
        have h24 : Keep false m s0 a22 := rowError_keep h11
        exact (Keep.ite (h8 _ h7) (Keep.ite (by
            clear_value a22
            split
            · next b25 b26 b27 =>
              exact rowPlace_keep (State.setTp_keep h24)
            · next b28 b29 =>
              exact h24) (rowPlace_keep h11))))))

theorem coefFetch_keep {q m s0 v0 v1} (k0 : Keep q m s0 v0) : Keep q m s0 (coefFetch v0 v1) := by
  unfold coefFetch
  extract_lets a0 a1
  exact State.setBit_keep (State.setTp_keep k0)

theorem coefFetchDone_keep {q m s0 v0 v1 v2} (k2 : Keep q m s0 v2) : Keep q m s0 (coefFetchDone v0 v1 v2) := by
  unfold coefFetchDone
  extract_lets a0 a1 a2 a3 a4 a5
  have h6 : Keep q m s0 a5 := State.cond_keep k2 (fun x7 h8 => (eccNote_keep h8))
  exact (Keep.ite k2 (by
      clear_value a1
      split
      · next b9 b10 b11 b12 =>
        extract_lets a13
        exact (Keep.ite h6 (State.setBit_keep (State.setTp_keep h6)))))

theorem tpTakeSet_keep {q m s0 v0 v1} (k0 : Keep q m s0 v0) : Keep q m s0 (tpTakeSet v0 v1).1 := by
  unfold tpTakeSet
  extract_lets a0 a1 a2 a3 a4 a5
  have h6 : Keep q m s0 a1 := CommitUnit.take_keep k0
  have h7 : Keep q m s0 a4 := State.setBit_keep (State.setTp_keep h6)
  have h8 : Keep q m s0 a5 := Keep.ite (coefFetch_keep (State.raise_keep h7)) h6
  split
  · next b9 =>
    exact Keep.mk1 k0
  · next b10 =>
    exact Keep.mk1 h8

theorem startSlots_keep {q m s0 v0 v1 v2} (k0 : Keep q m s0 v0) : Keep q m s0 (startSlots v0 v1 v2) := by
  unfold startSlots
  extract_lets a0
  exact Keep.ite (slotStart_keep (State.setBit_keep (State.setTp_keep k0))) k0

theorem takeGeo_keep {q m s0 v0 v1} (k0 : Keep q m s0 v0) : Keep q m s0 (takeGeo v0 v1) := by
  unfold takeGeo
  extract_lets a0 a1 a2
  have h3 : Keep q m s0 a1 := State.setTp_keep k0
  clear_value a0
  split
  · next b4 b5 b6 b7 b8 b9 =>
    extract_lets a10 a11 a12 a13 a14
    have h15 : Keep q m s0 a13 := State.setTp_keep h3
    exact Keep.ite (showLock_keep (State.setTp_keep h15)) h15
  · next b16 b17 =>
    exact h3

theorem expireFrames_keep {q m s0 v0 v1} (k0 : Keep q m s0 v0) : Keep q m s0 (expireFrames v0 v1) := by
  unfold expireFrames
  exact Keep.foldl k0 (fun x0 h1 _ => (Keep.ite (loseFrame_keep (tpFault_keep h1)) h1))

theorem frameBoundary_keep {q m s0 v0 v1} (k1 : Keep q m s0 v1) : Keep q m s0 (frameBoundary v0 v1) := by
  unfold frameBoundary
  extract_lets a0 a1 a2 a3 a4 a5 a6 a7 a8 a9 a10 a11
  have h12 : Keep q m s0 a3 := (by
      unfold a3
      clear_value a0 a2
      split
      · next b13 b14 b15 =>
        exact State.reach_keep k1
      · next b16 b17 =>
        exact k1)
  have h18 : Keep q m s0 a5 := State.setTp_keep h12
  have h19 : Keep q m s0 a6 := State.setBit_keep h18
  have h20 : Keep q m s0 a7 := takeGeo_keep (expireFrames_keep h19)
  have h21 : Keep q m s0 a10 := State.setTp_keep h20
  exact (Keep.ite k1 (by
      clear_value a10
      split
      · next b22 b23 b24 b25 =>
        have h26 : Keep q m s0 b23 := Keep.eq1 (tpTakeSet_keep h21) b25
        extract_lets a27 a28
        have h29 : Keep q m s0 a28 := applyEdits_keep (latchRefs_keep h26)
        clear_value a28
        split
        · next b30 b31 b32 b33 b34 =>
          extract_lets a35 a36
          have h37 : Keep q m s0 a35 := State.setSfld_keep (State.setSfld_keep h29)
          have h38 : Keep q m s0 a36 := State.cond_keep h37 (fun x39 h40 => (State.flagEvent_keep h40))
          clear_value a36
          split
          · next b41 b42 b43 b44 b45 b46 =>
            have h47 : Keep q m s0 b42 := Keep.eq1 (shutBoundary_keep h38) b46
            extract_lets a48 a49 a50 a51 a52 a53 a54 a55 a56 a57 a58 a59
            have h60 : Keep q m s0 a57 := State.cond_keep h47 (fun x61 h62 => (tpFault_keep h62))
            have h63 : Keep q m s0 a59 := State.setTp_keep h60
            exact (startSlots_keep (tpSettle_keep (State.emit_keep h63)))))

theorem tpTimer_keep {q m s0 v0 v1} (k1 : Keep q m s0 v1) : Keep q m s0 (tpTimer v0 v1) := by
  unfold tpTimer
  exact (Keep.foldl k1 (fun x0 h1 _ => (by
      extract_lets a3 a4 a5
      exact (Keep.ite (State.setTp_keep h1) h1))))

theorem tpRunStart_keep {q m s0 v0 v1} (k0 : Keep q m s0 v0) : Keep q m s0 (tpRunStart v0 v1) := by
  unfold tpRunStart
  extract_lets a0 a1 a2 a3 a4 a5 a6 a7 a8 a9 a10 a11 a12
  have h13 : Keep q m s0 a2 := State.setEngine_keep k0
  have h14 : Keep q m s0 a4 := State.setTp_keep h13
  have h15 : Keep q m s0 a5 := State.setReg_keep h14
  have h16 : Keep q m s0 a8 := State.cond_keep h15 (fun x17 h18 => (tpFault_keep h18))
  have h19 : Keep q m s0 a10 := coefFetch_keep (setTLine_keep h16)
  have h20 : Keep q m s0 a11 := Keep.ite h15 (lineBegin_keep h19)
  exact Keep.ite k0 (Keep.ite (scriptBegin_keep h20) (State.setTp_keep h20))

theorem tpRunStop_keep {q m s0 v0 v1} (k0 : Keep q m s0 v0) : Keep q m s0 (tpRunStop v0 v1) := by
  unfold tpRunStop
  extract_lets a0 a1 a2
  have h3 : Keep q m s0 a2 := setTLine_keep (State.setTp_keep k0)
  exact Keep.ite k0 (tpAfterStop_keep (Keep.set_stopScripts h3 (NatSet.wf_insert _)))

theorem execTpEnable_keep {q m s0 v0 v1} (k1 : Keep q m s0 v1) : OutKeep q m s0 (execTpEnable v0 v1) := by
  unfold execTpEnable
  exact OutKeep.next (State.whenWorking_keep k1 (fun x0 h1 => (tpCfgWritten_keep (State.setBit_keep h1))))

theorem execTpDisable_keep {q m s0 v0 v1} (k1 : Keep q m s0 v1) : OutKeep q m s0 (execTpDisable v0 v1) := by
  unfold execTpDisable
  exact OutKeep.next (State.whenWorking_keep k1 (fun x0 h1 => (tpCfgWritten_keep (State.setBit_keep h1))))

theorem execTpEnDelayEnd_keep {q m s0 v0 v1} (k1 : Keep q m s0 v1) : OutKeep q m s0 (execTpEnDelayEnd v0 v1) := by
  unfold execTpEnDelayEnd
  exact OutKeep.next (State.whenWorking_keep k1 (fun x0 h1 => (tpDelayEnd_keep h1)))

theorem execFrameBoundary_keep {q m s0 v0 v1 v2} (k2 : Keep q m s0 v2) : OutKeep q m s0 (execFrameBoundary v0 v1 v2)
    := by
  unfold execFrameBoundary
  exact OutKeep.next (State.whenWorking_keep k2 (fun x0 h1 => (tpAfterStop_keep (frameBoundary_keep (State.lost_keep
      h1)))))

theorem execCoefResidentFetchDone_keep {q m s0 v0 v1} (k1 : Keep q m s0 v1) : OutKeep q m s0
    (execCoefResidentFetchDone v0 v1) := by
  unfold execCoefResidentFetchDone
  exact OutKeep.next (State.whenWorking_keep k1 (fun x0 h1 => (coefFetchDone_keep h1)))

theorem execFpaRow_keep {m s0 v0 v1 v2 v3 v4} (k4 : Keep false m s0 v4) : OutKeep false m s0 (execFpaRow v0 v1 v2 v3
    v4) := by
  unfold execFpaRow
  exact (OutKeep.next (State.whenWorking_keep k4 (fun x0 h1 => (by
      extract_lets a2
      have h3 : Keep false m s0 a2 := eccNote_keep (State.lost_keep h1)
      exact (tpAfterStop_keep (fpaRow_keep h3))))))

theorem execCoefRowsArrive_keep {q m s0 v0 v1 v2 v3} (k3 : Keep q m s0 v3) : OutKeep q m s0 (execCoefRowsArrive v0 v1
    v2 v3) := by
  unfold execCoefRowsArrive
  exact OutKeep.next (State.whenWorking_keep k3 (fun x0 h1 => (tpAfterStop_keep (coefRowsArrive_keep (State.lost_keep
      h1)))))

theorem execThermalSampleComplete_keep {m s0 v0 v1} (k1 : Keep false m s0 v1) : OutKeep false m s0
    (execThermalSampleComplete v0 v1) := by
  unfold execThermalSampleComplete
  exact OutKeep.next (State.whenWorking_keep k1 (fun x0 h1 => (tpAfterStop_keep (sampleComplete_keep h1))))

theorem execFpaSlotWriteDone_keep {q m s0 v0 v1 v2} (k2 : Keep q m s0 v2) : OutKeep q m s0 (execFpaSlotWriteDone v0
    v1 v2) := by
  unfold execFpaSlotWriteDone
  exact OutKeep.next (State.whenWorking_keep k2 (fun x0 h1 => (slotDone_keep h1)))

theorem execDefEditAdd_keep {q m s0 v0 v1 v2 v3 v4 v5} (k5 : Keep q m s0 v5) : OutKeep q m s0 (execDefEditAdd v0 v1
    v2 v3 v4 v5) := by
  unfold execDefEditAdd
  exact OutKeep.next (State.whenWorking_keep k5 (fun x0 h1 => (defEdit_keep (State.lost_keep h1))))

theorem execDefEditDelete_keep {q m s0 v0 v1 v2 v3 v4} (k4 : Keep q m s0 v4) : OutKeep q m s0 (execDefEditDelete v0
    v1 v2 v3 v4) := by
  unfold execDefEditDelete
  exact OutKeep.next (State.whenWorking_keep k4 (fun x0 h1 => (defEdit_keep (State.lost_keep h1))))

theorem execTpCommit_keep {q m s0 v0 v1 v2} (k2 : Keep q m s0 v2) : OutKeep q m s0 (execTpCommit v0 v1 v2) := by
  unfold execTpCommit
  exact OutKeep.next (State.whenWorking_keep k2 (fun x0 h1 => (CommitUnit.commit_keep (State.lost_keep h1))))

theorem execTpScriptRun_keep {q m s0 v0 v1} (k1 : Keep q m s0 v1) : OutKeep q m s0 (execTpScriptRun v0 v1) := by
  unfold execTpScriptRun
  exact OutKeep.next (State.whenWorking_keep k1 (fun x0 h1 => (scriptRun_keep h1)))

theorem execPosSampleArrival_keep {q m s0 v0 v1 v2} (k2 : Keep q m s0 v2) : OutKeep q m s0 (execPosSampleArrival v0
    v1 v2) := by
  unfold execPosSampleArrival
  exact (OutKeep.next (State.whenWorking_keep k2 (fun x0 h1 => (Keep.ite (imgArrival_keep (State.lost_keep
      (State.lost_keep h1))) (by
      extract_lets a2
      clear_value a2
      split
      · next b3 b4 b5 b6 b7 =>
        have h8 : Keep q m s0 b6 := Keep.eq22 (takeItem_keep (State.lost_keep h1)) b7
        split
        · next b9 b10 =>
          exact tpSample_keep h8
        · next b11 =>
          exact h8)))))

theorem execResultPublish_keep {q m s0 v0 v1 v2} (k2 : Keep q m s0 v2) : OutKeep q m s0 (execResultPublish v0 v1 v2)
    := by
  unfold execResultPublish
  exact OutKeep.next (State.whenWorking_keep k2 (fun x0 h1 => (tpTake_keep (lampTake_keep (resultPublish_keep
      (State.lost_keep h1))))))

end Sys2Proof.Machine
end

