-- ==== Sys2Proof/Laws/KeepMotion.lean ====
section
/-!
SUPPORT. Keep for every function of Machine/Motion.lean that makes a state.
-/

namespace Sys2Proof.Machine

theorem State.setAxis_keep {q m s0 v0 v1 v2} (k0 : Keep q m s0 v0) : Keep q m s0 (State.setAxis v0 v1 v2) := by
  unfold State.setAxis
  exact Keep.set_axes k0 (Sparse.wf_put _ _)

theorem setAxBit_keep {q m s0 v0 v1 v2 v3} (k0 : Keep q m s0 v0) : Keep q m s0 (setAxBit v0 v1 v2 v3) := by
  unfold setAxBit
  exact State.setBit_keep k0

theorem setAxState_keep {q m s0 v0 v1 v2} (k0 : Keep q m s0 v0) : Keep q m s0 (setAxState v0 v1 v2) := by
  unfold setAxState
  exact State.setFld_keep k0

theorem axFlag_keep {q m s0 v0 v1 v2 v3} (k0 : Keep q m s0 v0) : Keep q m s0 (axFlag v0 v1 v2 v3) := by
  unfold axFlag
  exact State.flagEvent_keep k0

theorem axShow_keep {q m s0 v0 v1} (k0 : Keep q m s0 v0) : Keep q m s0 (axShow v0 v1) := by
  unfold axShow
  extract_lets a0 a1
  have h2 : Keep q m s0 a1 := State.setSreg64_keep k0
  exact State.setSfld_keep h2

theorem setRemain_keep {q m s0 v0 v1 v2} (k0 : Keep q m s0 v0) : Keep q m s0 (setRemain v0 v1 v2) := by
  unfold setRemain
  extract_lets a0
  exact State.setSreg64_keep k0

theorem enterStopped_keep {q m s0 v0 v1} (k0 : Keep q m s0 v0) : Keep q m s0 (enterStopped v0 v1) := by
  unfold enterStopped
  extract_lets a0
  have h1 : Keep q m s0 a0 := setRemain_keep (setAxState_keep k0)
  exact State.raise_keep (setAxBit_keep h1)

theorem enterIdle_keep {q m s0 v0 v1} (k0 : Keep q m s0 v0) : Keep q m s0 (enterIdle v0 v1) := by
  unfold enterIdle
  extract_lets a0 a1 a2
  have h3 : Keep q m s0 a1 := State.setAxis_keep k0
  have h4 : Keep q m s0 a2 := setRemain_keep (setAxState_keep h3)
  exact setAxBit_keep (setAxBit_keep h4)

theorem enterDone_keep {q m s0 v0 v1} (k0 : Keep q m s0 v0) : Keep q m s0 (enterDone v0 v1) := by
  unfold enterDone
  exact State.raise_keep (enterIdle_keep k0)

theorem faultLeave_keep {q m s0 v0 v1} (k0 : Keep q m s0 v0) : Keep q m s0 (faultLeave v0 v1) := by
  unfold faultLeave
  extract_lets a0 a1
  have h2 : Keep q m s0 a1 := setRemain_keep (setAxState_keep k0)
  exact Keep.ite (State.raise_keep (setAxBit_keep h2)) k0

theorem tellPort_keep {q m s0 v0 v1} (k0 : Keep q m s0 v0) : Keep q m s0 (tellPort v0 v1) := by
  unfold tellPort
  split
  · next b0 b1 b2 =>
    extract_lets a3
    exact shutAbort_keep (State.setAxis_keep k0)
  · next b4 b5 =>
    exact k0

theorem coilsFault_keep {q m s0 v0 v1 v2} (k0 : Keep q m s0 v0) : Keep q m s0 (coilsFault v0 v1 v2) := by
  unfold coilsFault
  extract_lets a0 a1 a2 a3
  have h4 : Keep q m s0 a3 := State.setAxis_keep k0
  exact State.cond_keep h4 (fun x5 h6 => (setAxBit_keep (setAxBit_keep h6)))

theorem enterFault_keep {q m s0 v0 v1 v2} (k0 : Keep q m s0 v0) : Keep q m s0 (enterFault v0 v1 v2) := by
  unfold enterFault
  extract_lets a0 a1 a2
  have h3 : Keep q m s0 a1 := State.setAxis_keep k0
  have h4 : Keep q m s0 a2 := coilsFault_keep (setRemain_keep (setAxState_keep h3))
  exact axShow_keep (setAxBit_keep h4)

theorem leaveTable_keep {q m s0 v0 v1} (k0 : Keep q m s0 v0) : Keep q m s0 (leaveTable v0 v1) := by
  unfold leaveTable
  extract_lets a0
  exact Keep.ite (State.flag_keep (State.setAxis_keep k0)) k0

theorem startBrake_keep {q m s0 v0 v1 v2} (k0 : Keep q m s0 v0) : Keep q m s0 (startBrake v0 v1 v2) := by
  unfold startBrake
  extract_lets a0 a1
  have h2 : Keep q m s0 a0 := leaveTable_keep k0
  exact setAxState_keep (State.setAxis_keep h2)

theorem faultBit_keep {q m s0 v0 v1 v2} (k0 : Keep q m s0 v0) : Keep q m s0 (faultBit v0 v1 v2) := by
  unfold faultBit
  exact tellPort_keep (axFlag_keep k0)

theorem faultNow_keep {q m s0 v0 v1 v2 v3} (k0 : Keep q m s0 v0) : Keep q m s0 (faultNow v0 v1 v2 v3) := by
  unfold faultNow
  extract_lets a0
  have h1 : Keep q m s0 a0 := faultBit_keep k0
  exact Keep.ite (coilsFault_keep h1) (enterFault_keep (leaveTable_keep h1))

theorem faultBrake_keep {q m s0 v0 v1 v2} (k0 : Keep q m s0 v0) : Keep q m s0 (faultBrake v0 v1 v2) := by
  unfold faultBrake
  extract_lets a0 a1 a2
  have h3 : Keep q m s0 a0 := faultBit_keep k0
  have h4 : Keep q m s0 a2 := State.setAxis_keep h3
  exact startBrake_keep h4

theorem cmdRefused_keep {q m s0 v0 v1} (k0 : Keep q m s0 v0) : Keep q m s0 (cmdRefused v0 v1) := by
  unfold cmdRefused
  exact axFlag_keep k0

theorem dropShadows_keep {q m s0 v0 v1} (k0 : Keep q m s0 v0) : Keep q m s0 (dropShadows v0 v1) := by
  unfold dropShadows
  exact Keep.foldl k0 (fun x0 h1 _ => (State.setReg_keep h1))

theorem axTake_keep {q m s0 v0 v1} (k0 : Keep q m s0 v0) : Keep q m s0 (axTake v0 v1) := by
  unfold axTake
  extract_lets a0 a1 a2 a3 a4 a5 a6 a7 a8 a9 a10 a11 a12 a13 a14 a15
  have h16 : Keep q m s0 a1 := State.cond_keep k0 (fun x17 h18 => (State.setAxis_keep h18))
  have h19 : Keep q m s0 a12 := State.cond_keep h16 (fun x20 h21 => (dropShadows_keep h21))
  have h22 : Keep q m s0 a13 := State.cond_keep h19 (fun x23 h24 => (dropShadows_keep h24))
  have h25 : Keep q m s0 a14 := State.setBit_keep h22
  have h26 : Keep q m s0 a15 := CommitUnit.take_keep h25
  exact State.cond_keep h26 (fun x27 h28 => (axFlag_keep h28))

theorem axEnable_keep {q m s0 v0 v1} (k0 : Keep q m s0 v0) : Keep q m s0 (axEnable v0 v1) := by
  unfold axEnable
  extract_lets a0 a1 a2
  have h3 : Keep q m s0 a1 := tellPort_keep k0
  exact Keep.ite (axShow_keep (setAxState_keep (enterIdle_keep (State.setAxis_keep h3)))) (Keep.ite (enterIdle_keep
      k0) k0)

theorem axCommand_keep {q m s0 v0 v1 v2} (k0 : Keep q m s0 v0) : Keep q m s0 (axCommand v0 v1 v2) := by
  unfold axCommand
  extract_lets a0
  exact Keep.ite (cmdRefused_keep k0) (State.setAxis_keep k0)

theorem targetRefused_keep {q m s0 v0 v1} (k0 : Keep q m s0 v0) : Keep q m s0 (targetRefused v0 v1) := by
  unfold targetRefused
  exact axFlag_keep k0

theorem replan_keep {q m s0 v0 v1} (k0 : Keep q m s0 v0) : Keep q m s0 (replan v0 v1) := by
  unfold replan
  extract_lets a0 a1 a2 a3 a4 a5 a6
  have h7 : Keep q m s0 a4 := axFlag_keep k0
  exact Keep.ite k0 (Keep.ite k0 (Keep.ite h7 (Keep.ite (startBrake_keep h7) (Keep.ite (startBrake_keep h7)
      (startBrake_keep (faultBit_keep h7))))))

theorem startMove_keep {q m s0 v0 v1 v2 v3} (k0 : Keep q m s0 v0) : Keep q m s0 (startMove v0 v1 v2 v3) := by
  unfold startMove
  extract_lets a0 a1 a2 a3 a4
  have h5 : Keep q m s0 a0 := leaveTable_keep (tellPort_keep k0)
  have h6 : Keep q m s0 a2 := State.setAxis_keep h5
  have h7 : Keep q m s0 a3 := setRemain_keep h6
  have h8 : Keep q m s0 a4 := setAxBit_keep (setAxBit_keep h7)
  exact Keep.ite (setRemain_keep h6) (replan_keep (setAxState_keep h8))

theorem startTable_keep {q m s0 v0 v1} (k0 : Keep q m s0 v0) : Keep q m s0 (startTable v0 v1) := by
  unfold startTable
  extract_lets a0 a1 a2 a3 a4
  have h5 : Keep q m s0 a4 := setAxBit_keep (setAxBit_keep (setRemain_keep k0))
  exact Keep.ite (cmdRefused_keep k0) (Keep.ite (targetRefused_keep k0) (setAxState_keep (State.setAxis_keep h5)))

theorem homeUnmute_keep {q m s0 v0 v1} (k0 : Keep q m s0 v0) : Keep q m s0 (homeUnmute v0 v1) := by
  unfold homeUnmute
  extract_lets a0 a1
  exact Keep.ite (State.setAxis_keep k0) k0

theorem startHome_keep {q m s0 v0 v1} (k0 : Keep q m s0 v0) : Keep q m s0 (startHome v0 v1) := by
  unfold startHome
  extract_lets a0 a1 a2 a3 a4
  have h5 : Keep q m s0 a4 := setAxBit_keep (setAxBit_keep (setRemain_keep k0))
  exact setAxState_keep (State.setAxis_keep h5)

theorem fbSync_keep {q m s0 v0 v1} (k0 : Keep q m s0 v0) : Keep q m s0 (fbSync v0 v1) := by
  unfold fbSync
  extract_lets a0
  exact State.setAxis_keep k0

theorem startRunUp_keep {q m s0 v0 v1} (k0 : Keep q m s0 v0) : Keep q m s0 (startRunUp v0 v1) := by
  unfold startRunUp
  extract_lets a0 a1
  exact setAxState_keep (State.setAxis_keep k0)

theorem doResume_keep {q m s0 v0 v1} (k0 : Keep q m s0 v0) : Keep q m s0 (doResume v0 v1) := by
  unfold doResume
  extract_lets a0 a1 a2 a3 a4 a5
  have h6 : Keep q m s0 a2 := State.cond_keep k0 (fun x7 h8 => (State.setAxis_keep h8))
  have h9 : Keep q m s0 a4 := State.setAxis_keep h6
  have h10 : Keep q m s0 a5 := setAxBit_keep h9
  exact Keep.ite (startRunUp_keep h10) (setAxState_keep h10)

theorem doStop_keep {q m s0 v0 v1 v2} (k0 : Keep q m s0 v0) : Keep q m s0 (doStop v0 v1 v2) := by
  unfold doStop
  extract_lets a0 a1
  have h2 : Keep q m s0 a1 := tellPort_keep (State.setAxis_keep k0)
  exact Keep.ite (enterStopped_keep (leaveTable_keep k0)) (startBrake_keep h2)

theorem doAbort_keep {q m s0 v0 v1} (k0 : Keep q m s0 v0) : Keep q m s0 (doAbort v0 v1) := by
  unfold doAbort
  extract_lets a0 a1 a2
  have h3 : Keep q m s0 a2 := tellPort_keep (State.setAxis_keep k0)
  exact Keep.ite (enterIdle_keep (leaveTable_keep k0)) (startBrake_keep h3)

theorem axObey_keep {q m s0 v0 v1} (k0 : Keep q m s0 v0) : Keep q m s0 (axObey v0 v1) := by
  unfold axObey
  split
  · next b0 b1 =>
    exact Keep.ite (replan_keep (axEnable_keep (axTake_keep k0))) k0
  · next b2 b3 b4 =>
    extract_lets a5 a6 a7 a8
    have h9 : Keep q m s0 a5 := axTake_keep k0
    have h10 : Keep q m s0 a7 := axEnable_keep (State.setAxis_keep h9)
    exact Keep.ite (cmdRefused_keep h10) (Keep.ite (Keep.ite (startMove_keep h10) (replan_keep (targetRefused_keep
        h10))) (Keep.ite (startTable_keep h10) (Keep.ite (startHome_keep h10) (Keep.ite (doStop_keep h10) (Keep.ite
        (doStop_keep h10) (Keep.ite (doAbort_keep h10) (doResume_keep h10)))))))

theorem afterRest_keep {q m s0 v0 v1 v2} (k0 : Keep q m s0 v0) : Keep q m s0 (afterRest v0 v1 v2) := by
  unfold afterRest
  split
  · next b0 =>
    exact enterStopped_keep k0
  · next b1 =>
    exact enterIdle_keep k0
  · next b2 =>
    exact enterDone_keep k0
  · next b3 =>
    exact enterDone_keep (axFlag_keep k0)
  · next b4 =>
    exact enterStopped_keep (axFlag_keep k0)
  · next b5 =>
    exact faultLeave_keep (enterFault_keep k0)
  · next b6 =>
    split
    · next b7 b8 b9 =>
      extract_lets a10 a11
      exact setAxState_keep (State.setAxis_keep k0)
    · next b12 b13 =>
      exact k0
  · next b14 =>
    extract_lets a15 a16 a17 a18 a19 a20
    have h21 : Keep q m s0 a17 := State.setAxis_keep k0
    have h22 : Keep q m s0 a18 := setAxBit_keep (setAxBit_keep h21)
    have h23 : Keep q m s0 a19 := State.cond_keep h22 (fun x24 h25 => (fbSync_keep h25))
    exact State.raise_keep (enterDone_keep (State.setAxis_keep h23))

theorem axAdvance_keep {q m s0 v0 v1 v2 v3 v4 v5} (k0 : Keep q m s0 v0) (k5 : ∀ y1, Keep q m s0 y1 → Keep q m s0 (v5
    y1)) : Keep q m s0 (axAdvance v0 v1 v2 v3 v4 v5) := by
  unfold axAdvance
  extract_lets a0
  exact Keep.ite (faultNow_keep k0) (k5 _ (State.setAxis_keep k0))

theorem brakeTick_keep {q m s0 v0 v1 v2} (k0 : Keep q m s0 v0) : Keep q m s0 (brakeTick v0 v1 v2) := by
  unfold brakeTick
  split
  · next b0 b1 b2 b3 b4 b5 =>
    exact axAdvance_keep k0 (fun x6 h7 => (Keep.ite (afterRest_keep (State.setAxis_keep h7)) h7))

theorem limitLeave_keep {q m s0 v0 v1 v2} (k0 : Keep q m s0 v0) : Keep q m s0 (limitLeave v0 v1 v2) := by
  unfold limitLeave
  extract_lets a0 a1 a2 a3 a4 a5
  have h6 : Keep q m s0 a3 := tellPort_keep (State.setAxis_keep k0)
  have h7 : Keep q m s0 a4 := startBrake_keep (faultBit_keep h6)
  exact Keep.ite (brakeTick_keep h7) (brakeTick_keep (startBrake_keep h6))

theorem runOutTick_keep {q m s0 v0 v1 v2} (k0 : Keep q m s0 v0) : Keep q m s0 (runOutTick v0 v1 v2) := by
  unfold runOutTick
  split
  · next b0 b1 b2 b3 b4 b5 =>
    split
    · next b6 b7 b8 =>
      exact limitLeave_keep k0
    · next b9 b10 =>
      exact brakeTick_keep k0

theorem enterPause_keep {q m s0 v0 v1} (k0 : Keep q m s0 v0) : Keep q m s0 (enterPause v0 v1) := by
  unfold enterPause
  extract_lets a0 a1 a2
  have h3 : Keep q m s0 a1 := setRemain_keep (setAxState_keep (State.setAxis_keep k0))
  have h4 : Keep q m s0 a2 := State.raise_keep (setAxBit_keep h3)
  exact holdStart_keep h4

theorem moveTick_keep {q m s0 v0 v1} (k0 : Keep q m s0 v0) : Keep q m s0 (moveTick v0 v1) := by
  unfold moveTick
  extract_lets a0 a1 a2 a3 a4 a5
  clear_value a0 a2 a4 a5
  split
  · next b6 b7 b8 b9 b10 =>
    split
    · next b11 b12 b13 =>
      exact limitLeave_keep k0
    · next b14 b15 =>
      exact axAdvance_keep k0 (fun x16 h17 => (Keep.ite h17 (Keep.ite (Keep.ite (setAxBit_keep (State.setAxis_keep
          h17)) h17) (Keep.ite (enterDone_keep h17) (Keep.ite (enterPause_keep h17) h17)))))

theorem tableTick_keep {q m s0 v0 v1 v2} (k0 : Keep q m s0 v0) : Keep q m s0 (tableTick v0 v1 v2) := by
  unfold tableTick
  extract_lets a0 a1 a2
  have h3 : Keep q m s0 a2 := State.setAxis_keep k0
  exact (Keep.ite (holdStart_keep (setRemain_keep (setAxState_keep h3))) (by
      clear_value a0
      split
      · next b4 b5 b6 b7 =>
        split
        · next b8 b9 b10 b11 b12 =>
          split
          · next b13 b14 b15 =>
            exact limitLeave_keep k0
          · next b16 b17 =>
            exact (axAdvance_keep k0 (fun x18 h19 => (by
                extract_lets a20 a21 a22
                have h23 : Keep q m s0 a21 := State.setAxis_keep h19
                exact (Keep.ite h23 (Keep.ite (enterDone_keep (State.setAxis_keep h23)) (State.setAxis_keep
                    h23))))))))

theorem homeDrive_keep {q m s0 v0 v1 v2 v3} (k0 : Keep q m s0 v0) (k3 : ∀ y1, Keep q m s0 y1 → Keep q m s0 (v3 y1)) :
    Keep q m s0 (homeDrive v0 v1 v2 v3) := by
  unfold homeDrive
  extract_lets a0 a1 a2
  clear_value a0 a1 a2
  split
  · next b3 b4 b5 b6 b7 =>
    exact axAdvance_keep k0 k3

theorem homeLatch_keep {q m s0 v0 v1 v2 v3} (k0 : Keep q m s0 v0) : Keep q m s0 (homeLatch v0 v1 v2 v3) := by
  unfold homeLatch
  extract_lets a0 a1 a2
  have h3 : Keep q m s0 a0 := State.setSreg64_keep k0
  exact State.setAxis_keep h3

theorem homeRelease_keep {q m s0 v0 v1 v2} (k0 : Keep q m s0 v0) : Keep q m s0 (homeRelease v0 v1 v2) := by
  unfold homeRelease
  extract_lets a0 a1 a2 a3 a4 a5 a6
  exact State.setAxis_keep k0

theorem homeSearch_keep {q m s0 v0 v1 v2} (k0 : Keep q m s0 v0) : Keep q m s0 (homeSearch v0 v1 v2) := by
  unfold homeSearch
  extract_lets a0 a1 a2 a3
  have h4 : Keep q m s0 a3 := State.setAxis_keep k0
  clear_value a1
  split
  · next b5 b6 b7 =>
    exact Keep.ite (homeLatch_keep k0) h4
  · next b8 =>
    exact h4

theorem homeSeek_keep {q m s0 v0 v1 v2} (k0 : Keep q m s0 v0) : Keep q m s0 (homeSeek v0 v1 v2) := by
  unfold homeSeek
  exact Keep.ite (homeDrive_keep k0 (fun x0 h1 => (homeRelease_keep h1))) (homeDrive_keep k0 (fun x2 h3 =>
      (homeSearch_keep h3)))

theorem homeHard_keep {q m s0 v0 v1 v2} (k0 : Keep q m s0 v0) : Keep q m s0 (homeHard v0 v1 v2) := by
  unfold homeHard
  extract_lets a0 a1 a2 a3
  have h4 : Keep q m s0 a0 := faultBrake_keep k0
  exact Keep.ite (brakeTick_keep h4) (brakeTick_keep (State.setAxis_keep k0))

theorem homeTick_keep {q m s0 v0 v1 v2 v3} (k0 : Keep q m s0 v0) : Keep q m s0 (homeTick v0 v1 v2 v3) := by
  unfold homeTick
  extract_lets a0 a1 a2 a3
  have h4 : Keep q m s0 a3 := State.lost_keep k0
  exact Keep.ite (homeHard_keep h4) (homeSeek_keep h4)

theorem axMotion_keep {q m s0 v0 v1 v2} (k0 : Keep q m s0 v0) : Keep q m s0 (axMotion v0 v1 v2) := by
  unfold axMotion
  extract_lets a0 a1
  clear_value a0
  split
  · next b2 b3 b4 =>
    exact Keep.ite (runOutTick_keep k0) (brakeTick_keep k0)
  · next b5 b6 =>
    exact (Keep.ite (moveTick_keep k0) (Keep.ite (by
        split
        · next b7 b8 b9 =>
          exact tableTick_keep k0
        · next b10 b11 =>
          exact k0) (Keep.ite (by
        split
        · next b12 b13 b14 =>
          exact homeTick_keep k0
        · next b15 b16 =>
          exact k0) k0)))

theorem axSwitches_keep {q m s0 v0 v1} (k0 : Keep q m s0 v0) : Keep q m s0 (axSwitches v0 v1) := by
  unfold axSwitches
  extract_lets a0 a1 a2 a3
  exact State.setAxis_keep k0

theorem axHard_keep {q m s0 v0 v1} (k0 : Keep q m s0 v0) : Keep q m s0 (axHard v0 v1) := by
  unfold axHard
  extract_lets a0 a1 a2 a3 a4 a5
  exact Keep.ite (faultBrake_keep k0) k0

theorem axFeedback_keep {q m s0 v0 v1} (k0 : Keep q m s0 v0) : Keep q m s0 (axFeedback v0 v1) := by
  unfold axFeedback
  extract_lets a0 a1 a2 a3 a4 a5 a6 a7 a8 a9 a10 a11
  have h12 : Keep q m s0 a2 := Keep.ite k0 (fbSync_keep (State.setAxis_keep k0))
  have h13 : Keep q m s0 a6 := State.setSreg64_keep h12
  have h14 : Keep q m s0 a7 := State.setSfld_keep h13
  have h15 : Keep q m s0 a9 := setAxBit_keep h14
  have h16 : Keep q m s0 a10 := State.setAxis_keep h15
  have h17 : Keep q m s0 a11 := State.setAxis_keep h15
  exact Keep.ite (State.setBit_keep (State.setAxis_keep k0)) (Keep.ite (Keep.ite (faultNow_keep h16) h16) (Keep.ite
      (faultNow_keep h17) h17))

theorem pauseEnd_keep {q m s0 v0 v1 v2} (k0 : Keep q m s0 v0) : Keep q m s0 (pauseEnd v0 v1 v2) := by
  unfold pauseEnd
  exact Keep.ite k0 (Keep.ite (Keep.ite k0 (setAxState_keep k0)) (Keep.ite (startRunUp_keep (State.raise_keep k0))
      k0))

theorem axPace_keep {q m s0 v0 v1} (k0 : Keep q m s0 v0) : Keep q m s0 (axPace v0 v1) := by
  unfold axPace
  extract_lets a0 a1 a2
  have h3 : Keep q m s0 a1 := State.setFld_keep (setAxBit_keep k0)
  split
  · next b4 b5 =>
    exact Keep.ite (setAxBit_keep (enterStopped_keep (leaveTable_keep h3))) h3
  · next b6 b7 b8 =>
    extract_lets a9 a10 a11
    have h12 : Keep q m s0 a11 := State.setFld_keep (State.setFld_keep (setAxBit_keep k0))
    exact pauseEnd_keep h12

theorem axRequests_keep {q m s0 v0 v1} (k0 : Keep q m s0 v0) : Keep q m s0 (axRequests v0 v1) := by
  unfold axRequests
  exact (Keep.foldl k0 (fun x0 h1 _ => (by
      split
      · next b3 b4 b5 b6 =>
        extract_lets a7 a8 a9 a10 a11
        have h12 : Keep q m s0 a8 := State.setTp_keep h1
        exact Keep.ite h1 (Keep.ite (shutAbort_keep h12) (Keep.ite (shutAbort_keep (targetRefused_keep h12))
            (startMove_keep (State.setAxis_keep h12))))
      · next b13 b14 =>
        exact h1)))

theorem axPower_keep {q m s0 v0 v1} (k0 : Keep q m s0 v0) : Keep q m s0 (axPower v0 v1) := by
  unfold axPower
  extract_lets a0
  exact Keep.ite (faultNow_keep (State.setAxis_keep k0)) k0

theorem axWork_keep {q m s0 v0 v1 v2} (k1 : Keep q m s0 v1) : Keep q m s0 (axWork v0 v1 v2) := by
  unfold axWork
  extract_lets a0 a1 a2 a3
  have h4 : Keep q m s0 a0 := axPace_keep (axPower_keep (axRequests_keep (axEnable_keep k1)))
  have h5 : Keep q m s0 a2 := homeUnmute_keep (axMotion_keep (axHard_keep h4))
  exact axFeedback_keep (State.setAxis_keep h5)

theorem axTick_keep {q m s0 v0 v1 v2} (k1 : Keep q m s0 v1) : Keep q m s0 (axTick v0 v1 v2) := by
  unfold axTick
  extract_lets a0 a1 a2 a3 a4 a5 a6
  have h7 : Keep q m s0 a0 := axSwitches_keep k1
  have h8 : Keep q m s0 a1 := axWork_keep h7
  have h9 : Keep q m s0 a5 := Keep.ite (Keep.ite (cmdRefused_keep (State.setAxis_keep h8)) (axObey_keep h8))
      (axWork_keep (axObey_keep h7))
  have h10 : Keep q m s0 a6 := axShow_keep (faultLeave_keep (State.lost_keep h9))
  exact Keep.ite (setRemain_keep h10) h10

theorem phaseFrame_keep {q m s0 v0 v1 v2} (k1 : Keep q m s0 v1) : Keep q m s0 (phaseFrame v0 v1 v2) := by
  unfold phaseFrame
  extract_lets a0 a1 a2
  have h3 : Keep q m s0 a0 := State.emit_keep k1
  have h4 : Keep q m s0 a1 := State.wrapInc_keep h3
  have h5 : ∀ y1, Keep q m s0 y1 → ∀ y2, Keep q m s0 (a2 y1 y2) := fun x6 h7 _ => (State.setAxis_keep h7)
  exact Keep.ite k1 (h5 _ (h5 _ h4 _) _)

theorem lastFrames_keep {q m s0 v0} (k0 : Keep q m s0 v0) : Keep q m s0 (lastFrames v0) := by
  unfold lastFrames
  exact Keep.foldl k0 (fun x0 h1 _ => (phaseFrame_keep h1))

theorem execUpdateTick_keep {q m s0 v0 v1 v2} (k2 : Keep q m s0 v2) : OutKeep q m s0 (execUpdateTick v0 v1 v2) := by
  unfold execUpdateTick
  extract_lets a0
  have h1 : Keep q m s0 a0 := Keep.set_pins k2
  exact (OutKeep.next (State.whenWorking_keep h1 (fun x2 h3 => (by
      extract_lets a4 a5 a6
      have h7 : Keep q m s0 a4 := State.reach_keep h3
      have h8 : Keep q m s0 a5 := Keep.set_tickAt h7
      have h9 : Keep q m s0 a6 := Keep.foldl h8 (fun x10 h11 _ => (axTick_keep h11))
      exact (Keep.foldl h9 (fun x13 h14 _ => (phaseFrame_keep h14)))))))

theorem axisCmd_keep {q m s0 v0 v1 v2 v3} (k3 : Keep q m s0 v3) : Keep q m s0 (axisCmd v0 v1 v2 v3) := by
  unfold axisCmd
  exact State.whenWorking_keep k3 (fun x0 h1 => (State.lost_keep (axCommand_keep h1)))

theorem execAxisMove_keep {q m s0 v0 v1 v2} (k2 : Keep q m s0 v2) : OutKeep q m s0 (execAxisMove v0 v1 v2) := by
  unfold execAxisMove
  exact OutKeep.next (axisCmd_keep k2)

theorem execAxisTable_keep {q m s0 v0 v1 v2} (k2 : Keep q m s0 v2) : OutKeep q m s0 (execAxisTable v0 v1 v2) := by
  unfold execAxisTable
  exact OutKeep.next (axisCmd_keep k2)

theorem execAxisHome_keep {q m s0 v0 v1 v2} (k2 : Keep q m s0 v2) : OutKeep q m s0 (execAxisHome v0 v1 v2) := by
  unfold execAxisHome
  exact OutKeep.next (axisCmd_keep k2)

theorem execAxisStop_keep {q m s0 v0 v1 v2} (k2 : Keep q m s0 v2) : OutKeep q m s0 (execAxisStop v0 v1 v2) := by
  unfold execAxisStop
  exact OutKeep.next (axisCmd_keep k2)

theorem execAxisQuickstop_keep {q m s0 v0 v1 v2} (k2 : Keep q m s0 v2) : OutKeep q m s0 (execAxisQuickstop v0 v1 v2)
    := by
  unfold execAxisQuickstop
  exact OutKeep.next (axisCmd_keep k2)

theorem execAxisAbort_keep {q m s0 v0 v1 v2} (k2 : Keep q m s0 v2) : OutKeep q m s0 (execAxisAbort v0 v1 v2) := by
  unfold execAxisAbort
  exact OutKeep.next (axisCmd_keep k2)

theorem execAxisResume_keep {q m s0 v0 v1 v2} (k2 : Keep q m s0 v2) : OutKeep q m s0 (execAxisResume v0 v1 v2) := by
  unfold execAxisResume
  exact OutKeep.next (axisCmd_keep k2)

theorem execAxisCmdInvalid_keep {q m s0 v0 v1} (k1 : Keep q m s0 v1) : OutKeep q m s0 (execAxisCmdInvalid v0 v1) := by
  unfold execAxisCmdInvalid
  exact OutKeep.next (State.whenWorking_keep k1 (fun x0 h1 => (cmdRefused_keep h1)))

theorem execAxisCommit_keep {q m s0 v0 v1 v2} (k2 : Keep q m s0 v2) : OutKeep q m s0 (execAxisCommit v0 v1 v2) := by
  unfold execAxisCommit
  exact OutKeep.next (State.whenWorking_keep k2 (fun x0 h1 => (State.lost_keep (CommitUnit.commit_keep h1))))

theorem axPowerFault_keep {q m s0 v0 v1 v2} (k1 : Keep q m s0 v1) : Keep q m s0 (axPowerFault v0 v1 v2) := by
  unfold axPowerFault
  extract_lets a0
  exact Keep.ite (State.lost_keep (State.setAxis_keep k1)) (faultNow_keep k1)

theorem execPhaseFault_keep {q m s0 v0 v1 v2 v3} (k3 : Keep q m s0 v3) : OutKeep q m s0 (execPhaseFault v0 v1 v2 v3)
    := by
  unfold execPhaseFault
  exact (OutKeep.next (State.whenWorking_keep k3 (fun x0 h1 => (by
      extract_lets a2 a3
      have h4 : Keep q m s0 a2 := State.setBit_keep h1
      have h5 : Keep q m s0 a3 := State.flag_keep h4
      exact (Keep.ite h4 (axPowerFault_keep (axPowerFault_keep h5)))))))

end Sys2Proof.Machine
end

