-- ==== Sys2Proof/Laws/KeepTimers.lean ====
section
/-!
SUPPORT. Keep for every function of Machine/Timers.lean that makes a state.
-/

namespace Sys2Proof.Machine

theorem State.setTimer_keep {q m s0 v0 v1 v2} (k0 : Keep q m s0 v0) : Keep q m s0 (State.setTimer v0 v1 v2) := by
  unfold State.setTimer
  exact Keep.set_timers k0 (Sparse.wf_put _ _)

theorem tmrShow_keep {q m s0 v0 v1} (k0 : Keep q m s0 v0) : Keep q m s0 (tmrShow v0 v1) := by
  unfold tmrShow
  extract_lets a0
  exact State.setReg64_keep (State.setBit_keep k0)

theorem tmrOutput_keep {q m s0 v0 v1 v2} (k0 : Keep q m s0 v0) : Keep q m s0 (tmrOutput v0 v1 v2) := by
  unfold tmrOutput
  extract_lets a0 a1 a2 a3 a4
  have h5 : Keep q m s0 a1 := State.setTimer_keep k0
  have h6 : Keep q m s0 a4 := State.setBit_keep h5
  exact Keep.ite h6 (precTrigger_keep h6)

theorem tmrBegin_keep {q m s0 v0 v1 v2} (k0 : Keep q m s0 v0) : Keep q m s0 (tmrBegin v0 v1 v2) := by
  unfold tmrBegin
  extract_lets a0 a1 a2 a3
  have h4 : Keep q m s0 a1 := State.setTimer_keep k0
  have h5 : Keep q m s0 a3 := Keep.ite (tmrOutput_keep (State.setTimer_keep h4)) (tmrOutput_keep h4)
  exact tmrShow_keep h5

theorem tmrPulse_keep {q m s0 v0 v1 v2} (k0 : Keep q m s0 v0) : Keep q m s0 (tmrPulse v0 v1 v2) := by
  unfold tmrPulse
  extract_lets a0 a1 a2
  exact Keep.ite (tmrOutput_keep (State.setTimer_keep k0)) (tmrOutput_keep (State.setTimer_keep k0))

theorem tmrFall_keep {q m s0 v0 v1} (k0 : Keep q m s0 v0) : Keep q m s0 (tmrFall v0 v1) := by
  unfold tmrFall
  extract_lets a0
  exact tmrOutput_keep (State.setTimer_keep k0)

theorem tmrExpire_keep {q m s0 v0 v1} (k1 : Keep q m s0 v1) : Keep q m s0 (tmrExpire v0 v1) := by
  unfold tmrExpire
  split
  · next b0 b1 =>
    exact k1
  · next b2 b3 b4 =>
    extract_lets a5 a6 a7 a8 a9 a10 a11 a12 a13
    have h14 : Keep q m s0 a5 := State.reach_keep k1
    have h15 : Keep q m s0 a6 := State.cond_keep h14 (fun x16 h17 => (tmrFall_keep h17))
    have h18 : Keep q m s0 a7 := State.flag_keep (State.wrapInc_keep h15)
    have h19 : Keep q m s0 a8 := dmaSend_keep (State.raise_keep h18)
    have h20 : Keep q m s0 a9 := tpTimer_keep (precTrigger_keep h19)
    have h21 : Keep q m s0 a10 := tmrPulse_keep h20
    have h22 : Keep q m s0 a12 := State.setTimer_keep h21
    exact Keep.ite (tmrBegin_keep (CommitUnit.take_keep h22)) (tmrShow_keep (State.setTimer_keep h22))

theorem tmrCommit_keep {q m s0 v0 v1} (k1 : Keep q m s0 v1) : Keep q m s0 (tmrCommit v0 v1) := by
  unfold tmrCommit
  extract_lets a0
  have h1 : Keep q m s0 a0 := CommitUnit.commit_keep k1
  exact Keep.ite (tmrBegin_keep (CommitUnit.take_keep h1)) h1

theorem timersBegin_keep {q m s0 v0} (k0 : Keep q m s0 v0) : Keep q m s0 (timersBegin v0) := by
  unfold timersBegin
  exact Keep.foldl k0 (fun x0 h1 _ => (tmrBegin_keep h1))

theorem tmrStepped_keep {q m s0 v0 v1 v2} (k1 : Keep q m s0 v1) : Keep q m s0 (tmrStepped v0 v1 v2) := by
  unfold tmrStepped
  extract_lets a0 a1
  clear_value a0
  split
  · next b2 b3 =>
    exact State.setTimer_keep k1
  · next b4 b5 b6 =>
    extract_lets a7 a8
    have h9 : Keep q m s0 a8 := State.setTimer_keep k1
    exact tmrShow_keep (State.setTimer_keep h9)

theorem gpioCfgWritten_keep {q m s0 v0 v1 v2} (k2 : Keep q m s0 v2) : Keep q m s0 (gpioCfgWritten v0 v1 v2) := by
  unfold gpioCfgWritten
  exact Keep.ite (State.flag_keep k2) (State.setReg_keep k2)

theorem execTimerExpiry_keep {q m s0 v0 v1 v2} (k2 : Keep q m s0 v2) : OutKeep q m s0 (execTimerExpiry v0 v1 v2) := by
  unfold execTimerExpiry
  exact OutKeep.next (State.whenWorking_keep k2 (fun x0 h1 => (State.lost_keep (tmrExpire_keep h1))))

theorem execPwmHighEnd_keep {q m s0 v0 v1} (k1 : Keep q m s0 v1) : OutKeep q m s0 (execPwmHighEnd v0 v1) := by
  unfold execPwmHighEnd
  exact (OutKeep.next (State.whenWorking_keep k1 (fun x0 h1 => (by
      split
      · next b2 b3 b4 =>
        exact tmrFall_keep (State.reach_keep h1)
      · next b5 b6 =>
        exact h1))))

theorem execTmrCommit_keep {q m s0 v0 v1 v2} (k2 : Keep q m s0 v2) : OutKeep q m s0 (execTmrCommit v0 v1 v2) := by
  unfold execTmrCommit
  exact OutKeep.next (State.whenWorking_keep k2 (fun x0 h1 => (State.lost_keep (tmrCommit_keep h1))))

theorem execGpioOutWrite_keep {q m s0 v0 v1} (k1 : Keep q m s0 v1) : OutKeep q m s0 (execGpioOutWrite v0 v1) := by
  unfold execGpioOutWrite
  exact OutKeep.next (State.whenServing_keep k1 (fun x0 h1 => (State.setReg_keep h1)))

end Sys2Proof.Machine
end

