-- ==== Sys2Proof/Laws/KeepInstants.lean ====
section
/-!
SUPPORT. Keep for every function of Machine/Instants.lean that makes a state.
-/

namespace Sys2Proof.Machine

theorem instantsMoved_keep {q m s0 v0 v1} (k1 : Keep q m s0 v1) : Keep q m s0 (instantsMoved v0 v1) := by
  refine k1.trans ⟨fun _ => ⟨rfl, rfl⟩, fun _ => ⟨rfl, rfl⟩, fun c => ?_, rfl, ⟨[], (List.append_nil _).symm⟩,
    le_refl _, id, le_refl _, le_refl _⟩
  exact { c with
    streams := Sparse.wf_change c.streams, stages := Sparse.wf_change c.stages
    engines := Sparse.wf_change c.engines, encs := Sparse.wf_change c.encs
    cmpPulse := Sparse.wf_change c.cmpPulse, pts := Sparse.wf_change c.pts, imgs := Sparse.wf_change c.imgs
    lamps := Sparse.wf_change c.lamps, tps := Sparse.wf_change c.tps, fronds := Sparse.wf_change c.fronds }

end Sys2Proof.Machine
end

