-- ==== Sys2Proof/Laws/KeepTime.lean ====
section
/-!
SUPPORT. Keep for every function of Machine/Time.lean that makes a state.
-/

namespace Sys2Proof.Machine

theorem setLocked_keep {q m s0 v0 v1} (k0 : Keep q m s0 v0) : Keep q m s0 (setLocked v0 v1) := by
  unfold setLocked
  exact Keep.ite k0 (State.raise_keep (State.setBit_keep k0))

theorem runFree_keep {q m s0 v0} (k0 : Keep q m s0 v0) : Keep q m s0 (runFree v0) := by
  unfold runFree
  extract_lets a0
  exact Keep.set_tm k0

theorem timeHold_keep {q m s0 v0} (k0 : Keep q m s0 v0) : Keep q m s0 (timeHold v0) := by
  unfold timeHold
  extract_lets a0 a1
  have h2 : Keep q m s0 a1 := State.setBit_keep k0
  exact Keep.ite (runFree_keep h2) h2

theorem setValid_keep {q m s0 v0 v1 v2} (k0 : Keep q m s0 v0) : Keep q m s0 (setValid v0 v1 v2) := by
  unfold setValid
  extract_lets a0 a1
  have h2 : Keep q m s0 a1 := State.cond_keep k0 (fun x3 h4 => (State.raise_keep h4))
  exact timeHold_keep (State.setBit_keep h2)

theorem choose_keep {q m s0 v0} (k0 : Keep q m s0 v0) : Keep q m s0 (choose v0) := by
  unfold choose
  extract_lets a0 a1 a2
  have h3 : Keep q m s0 a1 := setLocked_keep (State.setFld_keep k0)
  exact Keep.ite k0 (State.raise_keep (Keep.set_tm h3))

theorem stepTime_keep {q m s0 v0 v1} (k1 : Keep q m s0 v1) : Keep q m s0 (stepTime v0 v1) := by
  unfold stepTime
  extract_lets a0 a1 a2 a3 a4
  have h5 : Keep q m s0 a1 := instantsMoved_keep (Keep.set_tm k1)
  have h6 : Keep q m s0 a2 := Keep.set_tickAt h5
  have h7 : Keep q m s0 a3 := State.setBit_keep (State.flag_keep h6)
  have h8 : Keep q m s0 a4 := State.peatPush_keep (State.raise_keep h7)
  exact Keep.foldl h8 (fun x9 h10 _ => (tmrStepped_keep h10))

theorem lockAfter_keep {q m s0 v0 v1} (k1 : Keep q m s0 v1) : Keep q m s0 (lockAfter v0 v1) := by
  unfold lockAfter
  extract_lets a0 a1 a2 a3
  have h4 : Keep q m s0 a3 := Keep.set_tm k1
  exact Keep.ite (setLocked_keep h4) (Keep.ite (setLocked_keep h4) h4)

theorem steer_keep {q m s0 v0 v1 v2} (k2 : Keep q m s0 v2) : Keep q m s0 (steer v0 v1 v2) := by
  unfold steer
  extract_lets a0 a1 a2 a3 a4 a5 a6
  have h7 : Keep q m s0 a5 := State.setSfld_keep k2
  exact Keep.ite (Keep.set_tm k2) (Keep.set_tm h7)

theorem measureTime_keep {q m s0 v0 v1 v2 v3} (k3 : Keep q m s0 v3) : Keep q m s0 (measureTime v0 v1 v2 v3) := by
  unfold measureTime
  extract_lets a0 a1 a2
  have h3 : Keep q m s0 a0 := choose_keep k3
  have h4 : Keep q m s0 a1 := lockAfter_keep (State.setSfld_keep h3)
  exact Keep.ite h3 (Keep.ite (runFree_keep (stepTime_keep h4)) (Keep.ite (runFree_keep (stepTime_keep h4))
      (steer_keep h4)))

theorem runnerMeasure_keep {q m s0 v0 v1} (k1 : Keep q m s0 v1) : Keep q m s0 (runnerMeasure v0 v1) := by
  unfold runnerMeasure
  extract_lets a0 a1 a2
  have h3 : Keep q m s0 a2 := Keep.set_tm k1
  exact measureTime_keep (State.cond_keep h3 (fun x4 h5 => (setValid_keep h5)))

theorem setTimeLock_keep {q m s0 v0 v1} (k1 : Keep q m s0 v1) : Keep q m s0 (setTimeLock v0 v1) := by
  unfold setTimeLock
  exact Keep.ite k1 (State.raise_keep (State.setBit_keep k1))

theorem runnerInvalid_keep {q m s0 v0} (k0 : Keep q m s0 v0) : Keep q m s0 (runnerInvalid v0) := by
  unfold runnerInvalid
  extract_lets a0
  exact setTimeLock_keep (setValid_keep (Keep.set_tm k0))

theorem tsyncEdge_keep {q m s0 v0 v1} (k1 : Keep q m s0 v1) : Keep q m s0 (tsyncEdge v0 v1) := by
  unfold tsyncEdge
  extract_lets a0 a1 a2 a3 a4 a5 a6
  have h7 : Keep q m s0 a3 := Keep.set_tm k1
  have h8 : Keep q m s0 a4 := State.cond_keep h7 (fun x9 h10 => (setValid_keep h10))
  have h11 : Keep q m s0 a5 := State.cond_keep h8 (fun x12 h13 => (setValid_keep h13))
  exact measureTime_keep h11

theorem ptmMeasure_keep {q m s0 v0 v1} (k1 : Keep q m s0 v1) : Keep q m s0 (ptmMeasure v0 v1) := by
  unfold ptmMeasure
  split
  · next b0 =>
    extract_lets a1 a2 a3
    have h4 : Keep q m s0 a3 := Keep.set_tm k1
    exact State.cond_keep h4 (fun x5 h6 => (setValid_keep h6))
  · next b7 b8 =>
    extract_lets a9 a10 a11 a12
    have h13 : Keep q m s0 a11 := Keep.set_tm k1
    have h14 : Keep q m s0 a12 := State.cond_keep h13 (fun x15 h16 => (setValid_keep h16))
    exact measureTime_keep h14

theorem timeSetApply_keep {q m s0 v0} (k0 : Keep q m s0 v0) : Keep q m s0 (timeSetApply v0) := by
  unfold timeSetApply
  exact Keep.ite (State.flag_keep k0) (stepTime_keep k0)

theorem tick_keep {q m s0 v0} (k0 : Keep q m s0 v0) : Keep q m s0 (tick v0) := by
  unfold tick
  extract_lets a0 a1 a2
  exact Keep.set_tm k0

theorem execTimeBeacon_keep {q m s0 v0} (k0 : Keep q m s0 v0) : OutKeep q m s0 (execTimeBeacon v0) := by
  unfold execTimeBeacon
  exact OutKeep.next (State.whenServing_keep k0 (fun x0 h1 => (State.reach_keep h1)))

theorem execTsyncEdge_keep {q m s0 v0 v1} (k1 : Keep q m s0 v1) : OutKeep q m s0 (execTsyncEdge v0 v1) := by
  unfold execTsyncEdge
  exact OutKeep.next (State.whenServing_keep k1 (fun x0 h1 => (Keep.ite (tsyncEdge_keep (State.reach_keep
      (State.lost_keep h1))) h1)))

theorem execTsyncTimeout_keep {q m s0 v0} (k0 : Keep q m s0 v0) : OutKeep q m s0 (execTsyncTimeout v0) := by
  unfold execTsyncTimeout
  exact (OutKeep.next (State.whenServing_keep k0 (fun x0 h1 => (by
      split
      · next b2 b3 =>
        exact h1
      · next b4 b5 b6 =>
        extract_lets a7 a8 a9
        have h10 : Keep q m s0 a7 := State.reach_keep h1
        have h11 : Keep q m s0 a9 := Keep.set_tm h10
        exact (State.cond_keep h11 (fun x12 h13 => (setValid_keep h13)))))))

theorem execTsyncOutput_keep {q m s0 v0} (k0 : Keep q m s0 v0) : OutKeep q m s0 (execTsyncOutput v0) := by
  unfold execTsyncOutput
  exact (OutKeep.next (State.whenServing_keep k0 (fun x0 h1 => (Keep.ite (by
      extract_lets a2 a3 a4
      have h5 : Keep q m s0 a2 := State.reach_keep h1
      have h6 : Keep q m s0 a4 := Keep.set_tm h5
      exact (State.emit_keep h6)) h1))))

theorem execRunnerSourceTimeout_keep {q m s0 v0} (k0 : Keep q m s0 v0) : OutKeep q m s0 (execRunnerSourceTimeout v0)
    := by
  unfold execRunnerSourceTimeout
  exact OutKeep.next (State.whenServing_keep k0 (fun x0 h1 => (Keep.ite h1 (runnerInvalid_keep (State.reach_keep
      h1)))))

theorem execTimeSetApply_keep {q m s0 v0 v1} (k1 : Keep q m s0 v1) : OutKeep q m s0 (execTimeSetApply v0 v1) := by
  unfold execTimeSetApply
  exact OutKeep.next (State.whenServing_keep k1 (fun x0 h1 => (State.lost_keep (timeSetApply_keep h1))))

theorem execRefLost_keep {q m s0 v0} (k0 : Keep q m s0 v0) : OutKeep q m s0 (execRefLost v0) := by
  unfold execRefLost
  exact (OutKeep.next (State.whenServing_keep k0 (fun x0 h1 => (Keep.ite h1 (by
      extract_lets a2 a3
      have h4 : Keep q m s0 a3 := Keep.set_tm h1
      exact (State.raise_keep (State.setBit_keep (State.flag_keep h4))))))))

theorem execRefRestored_keep {q m s0 v0} (k0 : Keep q m s0 v0) : OutKeep q m s0 (execRefRestored v0) := by
  unfold execRefRestored
  exact (OutKeep.next (State.whenServing_keep k0 (fun x0 h1 => (by
      extract_lets a2 a3
      have h4 : Keep q m s0 a3 := Keep.set_tm h1
      exact (State.setBit_keep (State.setBit_keep h4))))))

end Sys2Proof.Machine
end

