-- ==== Sys2Proof/Laws/KeepTrim.lean ====
section
/-!
SUPPORT. Keep for every function of Machine/Trim.lean that makes a state.
-/

namespace Sys2Proof.Machine

theorem trimLoad_keep {q m s0 v0 v1} (k0 : Keep q m s0 v0) : Keep q m s0 (trimLoad v0 v1) := by
  unfold trimLoad
  extract_lets a0 a1 a2
  have h3 : Keep q m s0 a1 := State.setReg_keep k0
  have h4 : Keep q m s0 a2 := State.setReg64_keep h3
  exact Keep.foldl h4 (fun x5 h6 _ => (State.setReg_keep h6))

theorem trimStart_keep {q m s0 v0 v1} (k1 : Keep q m s0 v1) : Keep q m s0 (trimStart v0 v1) := by
  unfold trimStart
  extract_lets a0 a1
  have h2 : Keep q m s0 a1 := Keep.set_trim k1
  exact Keep.ite k1 (State.setFld_keep (State.setBit_keep h2))

theorem trimReady_keep {q m s0 v0 v1} (k1 : Keep q m s0 v1) : Keep q m s0 (trimReady v0 v1) := by
  unfold trimReady
  extract_lets a0 a1
  exact State.setFld_keep (Keep.set_trim k1)

theorem trimWrite_keep {m s0 v0} (k0 : Keep false m s0 v0) : Keep false m s0 (trimWrite v0) := by
  unfold trimWrite
  extract_lets a0 a1 a2 a3
  have h4 : Keep false m s0 a2 := State.setReg64_keep (State.write_keep k0)
  have h5 : Keep false m s0 a3 := State.setFld_keep h4
  exact Keep.ite k0 (trimReady_keep (State.setFld_keep h5))

theorem trimApply_keep {q m s0 v0} (k0 : Keep q m s0 v0) : Keep q m s0 (trimApply v0) := by
  unfold trimApply
  extract_lets a0 a1 a2 a3 a4
  have h5 : Keep q m s0 a0 := Keep.foldl k0 (fun x6 h7 _ => (State.setReg_keep h7))
  have h9 : Keep q m s0 a1 := State.cond_keep h5 (fun x10 h11 => (State.setReg_keep h11))
  have h12 : Keep q m s0 a2 := Keep.set_trim h9
  have h13 : Keep q m s0 a3 := State.setFld_keep (State.setBit_keep h12)
  have h14 : Keep q m s0 a4 := State.raise_keep h13
  exact Keep.ite k0 (Keep.ite (State.raise_keep h14) h14)

theorem fireInstant_keep {q m s0 v0 v1 v2} (k2 : Keep q m s0 v2) : Keep q m s0 (fireInstant v0 v1 v2) := by
  unfold fireInstant
  extract_lets a0
  exact State.cond_keep (triggerFire_keep k2) (fun x1 h2 => (trimApply_keep h2))

theorem execTrimStart_keep {q m s0 v0 v1} (k1 : Keep q m s0 v1) : OutKeep q m s0 (execTrimStart v0 v1) := by
  unfold execTrimStart
  exact OutKeep.next (State.whenWorking_keep k1 (fun x0 h1 => (trimStart_keep h1)))

theorem execTrimVaultWritten_keep {m s0 v0} (k0 : Keep false m s0 v0) : OutKeep false m s0 (execTrimVaultWritten v0)
    := by
  unfold execTrimVaultWritten
  exact OutKeep.next (State.whenWorking_keep k0 (fun x0 h1 => (trimWrite_keep h1)))

theorem execTrimApply_keep {q m s0 v0} (k0 : Keep q m s0 v0) : OutKeep q m s0 (execTrimApply v0) := by
  unfold execTrimApply
  exact OutKeep.next (State.whenWorking_keep k0 (fun x0 h1 => (Keep.ite h1 (trimApply_keep h1))))

theorem execTriggerFire_keep {q m s0 v0 v1 v2 v3} (k3 : Keep q m s0 v3) : OutKeep q m s0 (execTriggerFire v0 v1 v2
    v3) := by
  unfold execTriggerFire
  exact OutKeep.next (State.whenWorking_keep k3 (fun x0 h1 => (fireInstant_keep (State.lost_keep (State.lost_keep
      h1)))))

end Sys2Proof.Machine
end

