-- ==== Sys2Proof/Laws/KeepMemory.lean ====
section
/-!
SUPPORT. Keep for every function of Machine/Memory.lean that makes a state.
-/

namespace Sys2Proof.Machine

theorem scrubWord_keep {q m s0 v0 v1} (k1 : Keep q m s0 v1) : Keep q m s0 (scrubWord v0 v1) := by
  unfold scrubWord
  extract_lets a0 a1 a2
  have h3 : Keep q m s0 a1 := eccNote_keep k1
  exact Keep.ite k1 (Keep.ite (State.raise_keep (Keep.set_ms h3)) (Keep.set_ms h3))

theorem exchCollided_keep {q m s0 v0} (k0 : Keep q m s0 v0) : Keep q m s0 (exchCollided v0) := by
  unfold exchCollided
  exact State.raise_keep (State.satInc_keep k0)

theorem exchNote_keep {q m s0 v0 v1 v2} (k2 : Keep q m s0 v2) : Keep q m s0 (exchNote v0 v1 v2) := by
  unfold exchNote
  exact eccNote_keep k2

theorem exchWrite_keep {m s0 v0 v1 v2} (k0 : Keep false m s0 v0) : Keep false m s0 (exchWrite v0 v1 v2) := by
  unfold exchWrite
  exact (Keep.foldl k0 (fun x0 h1 _ => (by
      split
      · next b3 b4 b5 =>
        exact State.setByte_keep h1
      · next b6 b7 =>
        exact h1)))

theorem marchStart_keep {q m s0 v0 v1 v2} (k2 : Keep q m s0 v2) : Keep q m s0 (marchStart v0 v1 v2) := by
  unfold marchStart
  extract_lets a0 a1 a2 a3
  have h4 : Keep q m s0 a1 := State.setBit_keep (State.setFld_keep k2)
  have h5 : Keep q m s0 a3 := Keep.set_ms h4
  exact Keep.ite h4 (Keep.ite (State.setFld_keep h4) (State.setFld_keep (State.setBit_keep h5)))

theorem spanNote_keep {q m s0 v0 v1 v2} (k2 : Keep q m s0 v2) : Keep q m s0 (spanNote v0 v1 v2) := by
  unfold spanNote
  split
  · next b0 b1 b2 b3 =>
    exact eccNote_keep k2
  · next b4 b5 =>
    exact k2

theorem unitZero_keep {m s0 v0 v1} (k1 : Keep false m s0 v1) : Keep false m s0 (unitZero v0 v1) := by
  unfold unitZero
  extract_lets a0 a1 a2 a3 a4
  exact Keep.ite (State.setImg_keep k1) (Keep.ite (State.setTp_keep k1) (State.forget_keep k1))

theorem marchDone_keep {m s0 v0 v1} (k1 : Keep false m s0 v1) : Keep false m s0 (marchDone v0 v1) := by
  unfold marchDone
  split
  · next b0 b1 =>
    exact k1
  · next b2 b3 b4 =>
    extract_lets a5 a6 a7 a8 a9 a10 a11 a12 a13 a14
    have h15 : Keep false m s0 a10 := Keep.set_ms k1
    have h16 : Keep false m s0 a11 := State.cond_keep h15 (fun x17 h18 => (unitZero_keep h18))
    have h19 : Keep false m s0 a12 := State.setFld_keep (State.setBit_keep h16)
    have h20 : Keep false m s0 a13 := State.satInc_keep h19
    have h21 : Keep false m s0 a14 := State.satInc_keep h20
    exact State.raise_keep (State.cond_keep h21 (fun x22 h23 => (State.raise_keep h23)))

theorem vaultShowFree_keep {q m s0 v0} (k0 : Keep q m s0 v0) : Keep q m s0 (vaultShowFree v0) := by
  unfold vaultShowFree
  exact State.setFld_keep k0

theorem vaultFell_keep {q m s0 v0 v1} (k1 : Keep q m s0 v1) : Keep q m s0 (vaultFell v0 v1) := by
  unfold vaultFell
  extract_lets a0 a1
  have h2 : Keep q m s0 a1 := vaultShowFree_keep k1
  exact Keep.ite (State.raise_keep h2) h2

theorem zeroSlots_keep {m s0 v0 v1} (k0 : Keep false m s0 v0) : Keep false m s0 (zeroSlots v0 v1) := by
  unfold zeroSlots
  exact Keep.foldl k0 (fun x0 h1 _ => (State.write_keep h1))

theorem vaultCommitRun_keep {m s0 v0 v1 v2} (k0 : Keep false m s0 v0) : Keep false m s0 (vaultCommitRun v0 v1 v2).1
    := by
  unfold vaultCommitRun
  split
  · next b0 b1 =>
    exact Keep.mk1 k0
  · next b2 b3 b4 =>
    extract_lets a5 a6 a7 a8
    have h9 : Keep false m s0 a6 := State.write_keep k0
    split
    · next b10 =>
      exact Keep.mk1 k0
    · next b11 =>
      split
      · next b12 =>
        exact Keep.mk1 h9
      · next b13 =>
        clear_value a6
        split
        · next b14 b15 =>
          exact Keep.mk1 h9
        · next b16 b17 b18 =>
          extract_lets a19
          have h20 : Keep false m s0 a19 := State.write_keep h9
          split
          · next b21 =>
            exact Keep.mk1 h9
          · next b22 =>
            exact Keep.mk1 (zeroSlots_keep h20)

theorem vaultCommit_keep {m s0 v0 v1 v2} (k2 : Keep false m s0 v2) : Keep false m s0 (vaultCommit v0 v1 v2).1 := by
  unfold vaultCommit
  extract_lets a0 a1
  clear_value a1
  split
  · next b2 b3 b4 b5 =>
    have h6 : Keep false m s0 b3 := Keep.eq1 (vaultCommitRun_keep (State.cond_keep k2 (fun x7 h8 => (spanNote_keep
        h8)))) b5
    exact Keep.mk1 (State.setFld_keep h6)
  · next b9 b10 b11 b12 =>
    have h13 : Keep false m s0 b10 := Keep.eq1 (vaultCommitRun_keep (State.cond_keep k2 (fun x14 h15 =>
        (spanNote_keep h15)))) b12
    exact Keep.mk1 (State.setReg_keep (State.setFld_keep h13))

theorem vaultEnd_keep {m s0 v0 v1 v2} (k2 : Keep false m s0 v2) : Keep false m s0 (vaultEnd v0 v1 v2) := by
  unfold vaultEnd
  split
  · next b0 b1 =>
    exact k2
  · next b2 b3 b4 b5 =>
    extract_lets a6 a7 a8
    have h9 : Keep false m s0 a8 := Keep.set_ms k2
    exact (Keep.ite k2 (by
        clear_value a8
        split
        · next b10 b11 b12 b13 =>
          have h14 : Keep false m s0 b11 := Keep.eq1 (by
              split
              · next b15 =>
                exact Keep.mk1 (State.setFld_keep (zeroSlots_keep h9))
              · next b16 =>
                exact (vaultCommit_keep h9)) b13
          extract_lets a17
          have h18 : Keep false m s0 a17 := State.raise_keep (vaultFell_keep h14)
          split
          · next b19 b20 b21 =>
            exact persistEnd_keep h18
          · next b22 b23 =>
            exact h18))

theorem vaultAsk_keep {q m s0 v0 v1 v2 v3} (k3 : Keep q m s0 v3) : Keep q m s0 (vaultAsk v0 v1 v2 v3) := by
  unfold vaultAsk
  extract_lets a0 a1 a2 a3 a4
  exact Keep.ite (State.satInc_keep k3) (Keep.set_ms k3)

theorem vaultTidy_keep {m s0 v0} (k0 : Keep false m s0 v0) : Keep false m s0 (vaultTidy v0) := by
  unfold vaultTidy
  exact Keep.foldl k0 (fun x0 h1 _ => (zeroSlots_keep h1))

theorem execScrubWord_keep {q m s0 v0 v1 v2} (k2 : Keep q m s0 v2) : OutKeep q m s0 (execScrubWord v0 v1 v2) := by
  unfold execScrubWord
  exact OutKeep.next (State.whenWorking_keep k2 (fun x0 h1 => (State.lost_keep (scrubWord_keep h1))))

theorem execEccWriteback_keep {q m s0 v0} (k0 : Keep q m s0 v0) : OutKeep q m s0 (execEccWriteback v0) := by
  unfold execEccWriteback
  exact OutKeep.next (State.whenWorking_keep k0 (fun x0 h1 => (Keep.set_ms h1)))

theorem execMarchStart_keep {q m s0 v0 v1 v2} (k2 : Keep q m s0 v2) : OutKeep q m s0 (execMarchStart v0 v1 v2) := by
  unfold execMarchStart
  exact OutKeep.next (State.whenWorking_keep k2 (fun x0 h1 => (marchStart_keep h1)))

theorem execMarchDone_keep {m s0 v0 v1} (k1 : Keep false m s0 v1) : OutKeep false m s0 (execMarchDone v0 v1) := by
  unfold execMarchDone
  exact OutKeep.next (State.whenWorking_keep k1 (fun x0 h1 => (marchDone_keep h1)))

theorem execVaultCommit_keep {q m s0 v0 v1 v2} (k2 : Keep q m s0 v2) : OutKeep q m s0 (execVaultCommit v0 v1 v2) := by
  unfold execVaultCommit
  exact OutKeep.next (State.whenWorking_keep k2 (fun x0 h1 => (State.lost_keep (vaultAsk_keep h1))))

theorem execVaultDelete_keep {q m s0 v0 v1} (k1 : Keep q m s0 v1) : OutKeep q m s0 (execVaultDelete v0 v1) := by
  unfold execVaultDelete
  exact OutKeep.next (State.whenWorking_keep k1 (fun x0 h1 => (State.lost_keep (vaultAsk_keep h1))))

theorem execVaultCmdInvalid_keep {q m s0 v0} (k0 : Keep q m s0 v0) : OutKeep q m s0 (execVaultCmdInvalid v0) := by
  unfold execVaultCmdInvalid
  exact OutKeep.next (State.whenWorking_keep k0 (fun x0 h1 => (State.satInc_keep h1)))

theorem execVaultCommitDone_keep {m s0 v0 v1} (k1 : Keep false m s0 v1) : OutKeep false m s0 (execVaultCommitDone v0
    v1) := by
  unfold execVaultCommitDone
  exact OutKeep.next (State.whenWorking_keep k1 (fun x0 h1 => (vaultEnd_keep h1)))

theorem execVaultDeleteDone_keep {m s0 v0} (k0 : Keep false m s0 v0) : OutKeep false m s0 (execVaultDeleteDone v0) :=
    by
  unfold execVaultDeleteDone
  exact OutKeep.next (State.whenWorking_keep k0 (fun x0 h1 => (vaultEnd_keep h1)))

end Sys2Proof.Machine
end

