-- ==== Sys2Proof/Laws/KeepFrondBase.lean ====
section
/-!
SUPPORT. Keep for every function of Machine/FrondBase.lean that makes a state.
-/

namespace Sys2Proof.Machine

theorem State.setFrond_keep {q m s0 v0 v1 v2} (k0 : Keep q m s0 v0) : Keep q m s0 (State.setFrond v0 v1 v2) := by
  unfold State.setFrond
  exact Keep.set_fronds k0 (Sparse.wf_put _ _)

theorem setFrondState_keep {q m s0 v0 v1 v2} (k0 : Keep q m s0 v0) : Keep q m s0 (setFrondState v0 v1 v2) := by
  unfold setFrondState
  exact State.setFld_keep k0

theorem frondIgnored_keep {q m s0 v0 v1} (k1 : Keep q m s0 v1) : Keep q m s0 (frondIgnored v0 v1) := by
  unfold frondIgnored
  exact State.flag_keep k1

theorem frondCfgRefused_keep {q m s0 v0 v1} (k1 : Keep q m s0 v1) : Keep q m s0 (frondCfgRefused v0 v1) := by
  unfold frondCfgRefused
  exact State.flag_keep k1

theorem wdogLoad_keep {q m s0 v0 v1 v2} (k2 : Keep q m s0 v2) : Keep q m s0 (wdogLoad v0 v1 v2) := by
  unfold wdogLoad
  extract_lets a0
  exact State.setFrond_keep k2

theorem wdogKick_keep {q m s0 v0 v1} (k1 : Keep q m s0 v1) : Keep q m s0 (wdogKick v0 v1) := by
  unfold wdogKick
  exact wdogLoad_keep k1

theorem wdogWrite_keep {q m s0 v0 v1 v2} (k2 : Keep q m s0 v2) : Keep q m s0 (wdogWrite v0 v1 v2) := by
  unfold wdogWrite
  exact wdogLoad_keep (State.setFld_keep k2)

theorem frondWakeBy_keep {q m s0 v0 v1 v2} (k2 : Keep q m s0 v2) : Keep q m s0 (frondWakeBy v0 v1 v2) := by
  unfold frondWakeBy
  extract_lets a0
  exact Keep.ite (setFrondState_keep (State.setFrond_keep k2)) k2

theorem frondWake_keep {q m s0 v0 v1} (k1 : Keep q m s0 v1) : Keep q m s0 (frondWake v0 v1) := by
  unfold frondWake
  exact frondWakeBy_keep k1

theorem frondEvent_keep {q m s0 v0 v1} (k1 : Keep q m s0 v1) : Keep q m s0 (frondEvent v0 v1) := by
  unfold frondEvent
  exact dmaSend_keep (State.raise_keep k1)

theorem frondStart_keep {q m s0 v0 v1} (k1 : Keep q m s0 v1) : Keep q m s0 (frondStart v0 v1) := by
  unfold frondStart
  extract_lets a0 a1 a2
  have h3 : Keep q m s0 a1 := State.setFrond_keep k1
  have h4 : Keep q m s0 a2 := setFrondState_keep (State.setFld_keep h3)
  exact Keep.ite (wdogKick_keep h4) (frondIgnored_keep k1)

theorem frondStop_keep {q m s0 v0 v1 v2 v3} (k3 : Keep q m s0 v3) : Keep q m s0 (frondStop v0 v1 v2 v3) := by
  unfold frondStop
  extract_lets a0 a1
  have h2 : Keep q m s0 a1 := State.setFrond_keep k3
  exact setFrondState_keep (State.setFld_keep h2)

theorem frondHalt_keep {q m s0 v0 v1 v2} (k2 : Keep q m s0 v2) : Keep q m s0 (frondHalt v0 v1 v2) := by
  unfold frondHalt
  exact Keep.ite (frondIgnored_keep k2) (frondStop_keep k2)

theorem frondFault_keep {q m s0 v0 v1 v2 v3 v4} (k4 : Keep q m s0 v4) : Keep q m s0 (frondFault v0 v1 v2 v3 v4) := by
  unfold frondFault
  extract_lets a0 a1 a2 a3
  have h4 : Keep q m s0 a0 := frondStop_keep k4
  have h5 : Keep q m s0 a1 := State.setFld_keep h4
  have h6 : Keep q m s0 a2 := State.setReg64_keep h5
  exact State.peatPush_keep (frondEvent_keep h6)

theorem tuftRun_keep {q m s0 v0 v1 v2} (k2 : Keep q m s0 v2) : Keep q m s0 (tuftRun v0 v1 v2) := by
  unfold tuftRun
  extract_lets a0
  have h1 : Keep q m s0 a0 := State.setFld_keep k2
  exact State.setFld_keep h1

theorem tuftTaken_keep {q m s0 v0 v1} (k1 : Keep q m s0 v1) : Keep q m s0 (tuftTaken v0 v1) := by
  unfold tuftTaken
  exact State.setReg64_keep (State.setBit_keep k1)

theorem tuftPark_keep {q m s0 v0 v1} (k1 : Keep q m s0 v1) : Keep q m s0 (tuftPark v0 v1) := by
  unfold tuftPark
  extract_lets a0 a1 a2
  have h3 : Keep q m s0 a2 := State.flag_keep (State.setReg_keep (State.setInForce_keep k1))
  exact Keep.ite (tuftTaken_keep (tuftRun_keep (State.setBit_keep k1))) (tuftTaken_keep (tuftRun_keep h3))

theorem tuftCommit_keep {q m s0 v0 v1} (k1 : Keep q m s0 v1) : Keep q m s0 (tuftCommit v0 v1) := by
  unfold tuftCommit
  extract_lets a0 a1 a2 a3 a4 a5 a6 a7 a8 a9
  have h10 : Keep q m s0 a6 := State.setReg_keep (State.setInForce_keep k1)
  have h11 : Keep q m s0 a7 := State.cond_keep h10 (fun x12 h13 => (State.flag_keep h13))
  have h14 : Keep q m s0 a8 := State.setBit_keep h11
  exact Keep.ite k1 (Keep.ite (tuftPark_keep h11) (Keep.ite (State.setFrond_keep h14) (State.setBit_keep h14)))

theorem tuftSwitched_keep {q m s0 v0 v1} (k1 : Keep q m s0 v1) : Keep q m s0 (tuftSwitched v0 v1) := by
  unfold tuftSwitched
  extract_lets a0
  have h1 : Keep q m s0 a0 := State.setBit_keep k1
  exact Keep.ite (Keep.ite (tuftPark_keep h1) (tuftTaken_keep (tuftRun_keep h1))) k1

theorem tuftWake_keep {q m s0 v0 v1} (k1 : Keep q m s0 v1) : Keep q m s0 (tuftWake v0 v1) := by
  unfold tuftWake
  extract_lets a0 a1
  have h2 : Keep q m s0 a0 := State.reach_keep k1
  have h3 : Keep q m s0 a1 := State.setBit_keep h2
  exact Keep.ite (tuftTaken_keep (tuftRun_keep h3)) k1

theorem accessReport_keep {q m s0 v0 v1} (k1 : Keep q m s0 v1) : Keep q m s0 (accessReport v0 v1) := by
  unfold accessReport
  extract_lets a0
  clear_value a0
  split
  · next b1 b2 =>
    exact k1
  · next b3 b4 b5 b6 =>
    extract_lets a7 a8
    have h9 : Keep q m s0 a7 := State.setFrond_keep k1
    have h10 : Keep q m s0 a8 := State.satInc_keep (State.flag_keep h9)
    exact State.setLine_keep (State.setReg64_keep h10)

theorem accessRefused_keep {q m s0 v0 v1 v2} (k2 : Keep q m s0 v2) : Keep q m s0 (accessRefused v0 v1 v2) := by
  unfold accessRefused
  extract_lets a0
  exact State.setFrond_keep k2

theorem execFrdStart_keep {q m s0 v0 v1} (k1 : Keep q m s0 v1) : OutKeep q m s0 (execFrdStart v0 v1) := by
  unfold execFrdStart
  exact OutKeep.next (State.whenWorking_keep k1 (fun x0 h1 => (frondStart_keep h1)))

theorem execFrdHalt_keep {q m s0 v0 v1 v2} (k2 : Keep q m s0 v2) : OutKeep q m s0 (execFrdHalt v0 v1 v2) := by
  unfold execFrdHalt
  exact OutKeep.next (State.whenWorking_keep k2 (fun x0 h1 => (State.lost_keep (frondHalt_keep h1))))

theorem execFrdKick_keep {q m s0 v0 v1 v2} (k2 : Keep q m s0 v2) : OutKeep q m s0 (execFrdKick v0 v1 v2) := by
  unfold execFrdKick
  exact OutKeep.next (State.whenWorking_keep k2 (fun x0 h1 => (State.lost_keep (wdogKick_keep h1))))

theorem execFrdWdogWrite_keep {q m s0 v0 v1 v2} (k2 : Keep q m s0 v2) : OutKeep q m s0 (execFrdWdogWrite v0 v1 v2) :=
    by
  unfold execFrdWdogWrite
  exact OutKeep.next (State.whenWorking_keep k2 (fun x0 h1 => (wdogWrite_keep h1)))

theorem execFrdEvtRaise_keep {q m s0 v0 v1 v2 v3} (k3 : Keep q m s0 v3) : OutKeep q m s0 (execFrdEvtRaise v0 v1 v2
    v3) := by
  unfold execFrdEvtRaise
  exact OutKeep.next (State.whenWorking_keep k3 (fun x0 h1 => (State.lost_keep (State.setLine_keep h1))))

theorem execFrdSwevt_keep {q m s0 v0 v1} (k1 : Keep q m s0 v1) : OutKeep q m s0 (execFrdSwevt v0 v1) := by
  unfold execFrdSwevt
  exact OutKeep.next (State.whenWorking_keep k1 (fun x0 h1 => (frondEvent_keep h1)))

theorem execWaitWake_keep {q m s0 v0 v1} (k1 : Keep q m s0 v1) : OutKeep q m s0 (execWaitWake v0 v1) := by
  unfold execWaitWake
  exact OutKeep.next (State.whenWorking_keep k1 (fun x0 h1 => (frondWake_keep h1)))

theorem execAccessFault_keep {q m s0 v0 v1} (k1 : Keep q m s0 v1) : OutKeep q m s0 (execAccessFault v0 v1) := by
  unfold execAccessFault
  exact OutKeep.next (State.whenWorking_keep k1 (fun x0 h1 => (accessReport_keep h1)))

theorem execTuftCommit_keep {q m s0 v0 v1 v2} (k2 : Keep q m s0 v2) : OutKeep q m s0 (execTuftCommit v0 v1 v2) := by
  unfold execTuftCommit
  exact OutKeep.next (State.whenWorking_keep k2 (fun x0 h1 => (State.lost_keep (tuftCommit_keep h1))))

theorem execTuftSwitchDone_keep {q m s0 v0 v1} (k1 : Keep q m s0 v1) : OutKeep q m s0 (execTuftSwitchDone v0 v1) := by
  unfold execTuftSwitchDone
  exact OutKeep.next (State.whenWorking_keep k1 (fun x0 h1 => (tuftSwitched_keep h1)))

theorem execTuftWake_keep {q m s0 v0 v1} (k1 : Keep q m s0 v1) : OutKeep q m s0 (execTuftWake v0 v1) := by
  unfold execTuftWake
  exact OutKeep.next (State.whenWorking_keep k1 (fun x0 h1 => (tuftWake_keep h1)))

end Sys2Proof.Machine
end

