-- ==== Sys2Proof/Laws/KeepIntake.lean ====
section
/-!
SUPPORT. Keep for every function of Machine/Intake.lean that makes a state.
-/

namespace Sys2Proof.Machine

theorem sourceBusError_keep {q m s0 v0 v1} (k0 : Keep q m s0 v0) : Keep q m s0 (sourceBusError v0 v1) := by
  unfold sourceBusError
  exact Keep.ite (imgFault_keep k0) (Keep.ite (tpFault_keep k0) k0)

theorem sourceWrite_keep {m s0 v0 v1 v2 v3} (k3 : Keep false m s0 v3) : Keep false m s0 (sourceWrite v0 v1 v2 v3) :=
    by
  unfold sourceWrite
  exact State.cond_keep (State.islandWrite_keep k3) (fun x0 h1 => (sourceBusError_keep h1))

theorem closeChunk_keep {q m s0 v0 v1 v2} (k2 : Keep q m s0 v2) : Keep q m s0 (closeChunk v0 v1 v2) := by
  unfold closeChunk
  extract_lets a0 a1 a2 a3 a4 a5 a6 a7 a8 a9 a10
  have h11 : Keep q m s0 a8 := State.cond_keep (State.setStream_keep k2) (fun x12 h13 => (State.raise_keep h13))
  have h14 : Keep q m s0 a9 := State.setReg_keep h11
  have h15 : Keep q m s0 a10 := State.setFld_keep h14
  exact Keep.ite k2 (setPtr_keep h15)

theorem enterRecord_keep {m s0 v0 v1 v2} (k2 : Keep false m s0 v2) : Keep false m s0 (enterRecord v0 v1 v2) := by
  unfold enterRecord
  extract_lets a0 a1 a2 a3 a4 a5 a6 a7 a8 a9 a10 a11
  have h12 : Keep false m s0 a2 := State.cond_keep k2 (fun x13 h14 => (closeChunk_keep h14))
  have h15 : Keep false m s0 a8 := sourceWrite_keep h12
  have h16 : Keep false m s0 a11 := setPtr_keep (State.setStream_keep h15)
  exact State.cond_keep h16 (fun x17 h18 => (closeChunk_keep h18))

theorem dropRecord_keep {q m s0 v0 v1 v2} (k2 : Keep q m s0 v2) : Keep q m s0 (dropRecord v0 v1 v2) := by
  unfold dropRecord
  extract_lets a0 a1 a2 a3 a4 a5 a6
  clear_value a0 a1
  split
  · next b7 b8 b9 =>
    exact State.setStream_keep k2
  · next b10 b11 =>
    exact State.raise_keep (State.setStream_keep k2)

theorem closeSpan_keep {m s0 v0 v1 v2} (k2 : Keep false m s0 v2) : Keep false m s0 (closeSpan v0 v1 v2) := by
  unfold closeSpan
  extract_lets a0
  exact enterRecord_keep (State.setStream_keep k2)

theorem offerRecord_keep {m s0 v0 v1 v2} (k2 : Keep false m s0 v2) : Keep false m s0 (offerRecord v0 v1 v2) := by
  unfold offerRecord
  extract_lets a0
  have h1 : Keep false m s0 a0 := (by
      unfold a0
      split
      · next b2 b3 b4 =>
        exact closeSpan_keep k2
      · next b5 b6 =>
        exact k2)
  exact Keep.ite (enterRecord_keep h1) (dropRecord_keep k2)

theorem enterWaiting_keep {m s0 v0 v1 v2} (k2 : Keep false m s0 v2) : Keep false m s0 (enterWaiting v0 v1 v2) := by
  induction v1 generalizing v0 v2 with
  | zero =>
    unfold enterWaiting
    exact k2
  | succ j ih =>
    unfold enterWaiting
    extract_lets a0
    clear_value a0
    split
    · next b1 b2 =>
      exact k2
    · next b3 b4 b5 b6 =>
      extract_lets a7
      have h8 : Keep false m s0 a7 := State.setStream_keep k2
      clear_value a7
      exact Keep.ite (Keep.ite (ih (State.raise_keep (enterRecord_keep h8))) (ih (enterRecord_keep
          (State.setStream_keep k2)))) k2

theorem enterAll_keep {m s0 v0 v1} (k1 : Keep false m s0 v1) : Keep false m s0 (enterAll v0 v1) := by
  unfold enterAll
  exact enterWaiting_keep k1

theorem stageErr_keep {q m s0 v0 v1 v2} (k2 : Keep q m s0 v2) : Keep q m s0 (stageErr v0 v1 v2) := by
  unfold stageErr
  exact State.flag_keep k2

theorem stageClear_keep {q m s0 v0 v1} (k1 : Keep q m s0 v1) : Keep q m s0 (stageClear v0 v1) := by
  unfold stageClear
  split
  · next b0 b1 b2 b3 =>
    exact Keep.ite k1 (stageErr_keep (State.setQueueEntries_keep k1))
  · next b4 b5 =>
    exact k1

theorem streamBegin_keep {m s0 v0 v1 v2} (k2 : Keep false m s0 v2) : Keep false m s0 (streamBegin v0 v1 v2) := by
  unfold streamBegin
  extract_lets a0 a1 a2 a3
  have h4 : Keep false m s0 a2 := State.setStream_keep k2
  have h5 : Keep false m s0 a3 := State.setReg_keep (State.setReg_keep h4)
  exact enterAll_keep (stageClear_keep (State.setStage_keep h5))

theorem streamFinish_keep {m s0 v0 v1} (k1 : Keep false m s0 v1) : Keep false m s0 (streamFinish v0 v1) := by
  unfold streamFinish
  extract_lets a0 a1 a2 a3 a4 a5
  have h6 : Keep false m s0 a1 := Keep.foldl (State.setStream_keep k1) (fun x7 h8 _ => (enterRecord_keep h8))
  have h10 : Keep false m s0 a2 := Keep.foldl h6 (fun x11 h12 _ => (closeSpan_keep h12))
  have h14 : Keep false m s0 a3 := enterRecord_keep h10
  have h15 : Keep false m s0 a4 := closeChunk_keep h14
  exact State.setStream_keep h15

theorem streamProgress_keep {m s0 v0 v1} (k0 : Keep false m s0 v0) : Keep false m s0 (streamProgress v0 v1) := by
  unfold streamProgress
  extract_lets a0 a1 a2
  have h3 : Keep false m s0 a1 := State.cond_keep k0 (fun x4 h5 => (enterAll_keep h5))
  exact Keep.ite (streamFinish_keep h3) h3

theorem streamsProgress_keep {m s0 v0} (k0 : Keep false m s0 v0) : Keep false m s0 (streamsProgress v0) := by
  unfold streamsProgress
  exact Keep.foldl k0 (fun x0 h1 _ => (streamProgress_keep h1))

theorem showStage_keep {q m s0 v0 v1 v2} (k2 : Keep q m s0 v2) : Keep q m s0 (showStage v0 v1 v2) := by
  unfold showStage
  split
  · next b0 b1 b2 b3 =>
    exact State.setReg_keep (State.setStage_keep k2)
  · next b4 b5 =>
    exact State.setStage_keep k2

theorem stageFlow_keep {q m s0 v0 v1 v2} (k2 : Keep q m s0 v2) : Keep q m s0 (stageFlow v0 v1 v2) := by
  induction v1 generalizing v0 v2 with
  | zero =>
    unfold stageFlow
    exact k2
  | succ j ih =>
    unfold stageFlow
    extract_lets a0
    clear_value a0
    split
    · next b1 b2 b3 b4 b5 b6 b7 b8 b9 =>
      exact Keep.ite (ih (queueAdd_keep (State.setStage_keep k2))) k2
    · next b10 b11 b12 =>
      exact k2

theorem stageRefill_keep {q m s0 v0 v1 v2} (k2 : Keep q m s0 v2) : Keep q m s0 (stageRefill v0 v1 v2) := by
  unfold stageRefill
  exact Keep.ite (stageFlow_keep k2) k2

theorem stageIn_keep {m s0 v0 v1 v2} (k2 : Keep false m s0 v2) : Keep false m s0 (stageIn v0 v1 v2) := by
  unfold stageIn
  extract_lets a0 a1 a2 a3
  clear_value a0 a1 a2
  split
  · next b4 b5 b6 b7 =>
    extract_lets a8 a9 a10
    have h11 : Keep false m s0 a9 := sourceWrite_keep k2
    exact Keep.ite (stageFlow_keep (showStage_keep h11)) (dropRecord_keep k2)

theorem stageRelease_keep {m s0 v0 v1 v2 v3} (k3 : Keep false m s0 v3) : Keep false m s0 (stageRelease v0 v1 v2 v3)
    := by
  unfold stageRelease
  extract_lets a0 a1 a2 a3 a4 a5
  exact Keep.ite (Keep.ite (stageErr_keep k3) (streamProgress_keep (showStage_keep k3))) k3

theorem stageCopy_keep {m s0 v0 v1 v2} (k2 : Keep false m s0 v2) : Keep false m s0 (stageCopy v0 v1 v2) := by
  unfold stageCopy
  split
  · next b0 b1 =>
    exact k2
  · next b2 b3 b4 b5 =>
    split
    · next b6 b7 =>
      exact k2
    · next b8 b9 b10 b11 =>
      extract_lets a12 a13 a14 a15 a16
      have h17 : Keep false m s0 a15 := State.cond_keep (queueDrop_keep k2) (fun x18 h19 => (spanNote_keep h19))
      have h20 : Keep false m s0 a16 := State.wrapInc_keep h17
      exact Keep.ite k2 (Keep.ite (streamProgress_keep (offerRecord_keep h20)) (streamProgress_keep (stageErr_keep
          h17)))

theorem recordIntake_keep {m s0 v0 v1} (k1 : Keep false m s0 v1) : Keep false m s0 (recordIntake v0 v1) := by
  unfold recordIntake
  extract_lets a0
  clear_value a0
  split
  · next b1 b2 =>
    exact k1
  · next b3 b4 b5 b6 =>
    extract_lets a7
    have h8 : Keep false m s0 a7 := State.setQueue_keep k1
    clear_value a7
    split
    · next b9 b10 =>
      exact h8
    · next b11 b12 b13 =>
      exact Keep.ite (streamProgress_keep (Keep.ite (stageIn_keep h8) (offerRecord_keep h8))) h8

theorem eventRecord_keep {m s0 v0 v1 v2} (k2 : Keep false m s0 v2) : Keep false m s0 (eventRecord v0 v1 v2) := by
  unfold eventRecord
  exact Keep.ite (State.flag_keep k2) (Keep.ite (offerRecord_keep k2) k2)

theorem execRecordIntake_keep {m s0 v0 v1} (k1 : Keep false m s0 v1) : OutKeep false m s0 (execRecordIntake v0 v1) :=
    by
  unfold execRecordIntake
  exact OutKeep.next (State.whenWorking_keep k1 (fun x0 h1 => (recordIntake_keep h1)))

theorem execChunkAgeExpiry_keep {q m s0 v0 v1} (k1 : Keep q m s0 v1) : OutKeep q m s0 (execChunkAgeExpiry v0 v1) := by
  unfold execChunkAgeExpiry
  exact (OutKeep.next (State.whenWorking_keep k1 (fun x0 h1 => (by
      extract_lets a2
      exact (Keep.ite h1 (closeChunk_keep (State.reach_keep h1)))))))

theorem execEventRecordEmit_keep {m s0 v0 v1 v2} (k2 : Keep false m s0 v2) : OutKeep false m s0 (execEventRecordEmit
    v0 v1 v2) := by
  unfold execEventRecordEmit
  exact OutKeep.next (State.whenWorking_keep k2 (fun x0 h1 => (eventRecord_keep h1)))

theorem execStageRelease_keep {m s0 v0 v1 v2 v3} (k3 : Keep false m s0 v3) : OutKeep false m s0 (execStageRelease v0
    v1 v2 v3) := by
  unfold execStageRelease
  exact OutKeep.next (State.whenWorking_keep k3 (fun x0 h1 => (stageRelease_keep (State.setReg64_keep h1))))

theorem execStageCopyDone_keep {m s0 v0 v1} (k1 : Keep false m s0 v1) : OutKeep false m s0 (execStageCopyDone v0 v1)
    := by
  unfold execStageCopyDone
  exact OutKeep.next (State.whenWorking_keep k1 (fun x0 h1 => (stageCopy_keep h1)))

theorem execStageDrainTimeout_keep {m s0 v0 v1} (k1 : Keep false m s0 v1) : OutKeep false m s0 (execStageDrainTimeout
    v0 v1) := by
  unfold execStageDrainTimeout
  exact (OutKeep.next (State.whenWorking_keep k1 (fun x0 h1 => (by
      extract_lets a2
      clear_value a2
      split
      · next b3 b4 b5 =>
        exact Keep.ite (streamProgress_keep (State.setStage_keep (State.reach_keep h1))) h1
      · next b6 b7 =>
        exact h1))))

end Sys2Proof.Machine
end

