-- ==== Sys2Proof/Laws/KeepSealer.lean ====
section
/-!
SUPPORT. Keep for every function of Machine/Sealer.lean that makes a state.
-/

namespace Sys2Proof.Machine

theorem snapWrite_keep {m s0 v0 v1 v2} (k2 : Keep false m s0 v2) : Keep false m s0 (snapWrite v0 v1 v2) := by
  unfold snapWrite
  split
  · next b0 b1 b2 b3 =>
    extract_lets a4
    exact State.write_keep k2

theorem snapStream_keep {m s0 v0 v1} (k1 : Keep false m s0 v1) : Keep false m s0 (snapStream v0 v1) := by
  unfold snapStream
  extract_lets a0
  exact snapWrite_keep k1

theorem snapDevice_keep {m s0 v0 v1} (k1 : Keep false m s0 v1) : Keep false m s0 (snapDevice v0 v1) := by
  unfold snapDevice
  exact snapWrite_keep k1

theorem deriveKeys_keep {q m s0 v0} (k0 : Keep q m s0 v0) : Keep q m s0 (deriveKeys v0) := by
  unfold deriveKeys
  split
  · next b0 b1 =>
    exact k0
  · next b2 b3 b4 =>
    extract_lets a5 a6 a7 a8 a9
    exact Keep.set_root k0 (by exact rfl)

theorem eraseKeys_keep {q m s0 v0} (k0 : Keep q m s0 v0) : Keep q m s0 (eraseKeys v0) := by
  unfold eraseKeys
  extract_lets a0
  exact Keep.set_root k0 (by exact rfl)

theorem eraseDone_keep {q m s0 v0} (k0 : Keep q m s0 v0) : Keep q m s0 (eraseDone v0) := by
  unfold eraseDone
  exact Keep.ite k0 (eraseKeys_keep k0)

theorem writeCipher_keep {m s0 v0 v1 v2 v3} (k3 : Keep false m s0 v3) : Keep false m s0 (writeCipher v0 v1 v2 v3) :=
    by
  induction v1 generalizing v0 v2 v3 with
  | nil =>
    unfold writeCipher
    exact k3
  | cons j js ih =>
    unfold writeCipher
    exact ih (State.islandWrite_keep k3)

theorem peatSealed_keep {q m s0 v0 v1 v2} (k2 : Keep q m s0 v2) : Keep q m s0 (peatSealed v0 v1 v2) := by
  unfold peatSealed
  extract_lets a0
  exact State.peatPush_keep k2

theorem sealChunk_keep {m s0 v0 v1} (k1 : Keep false m s0 v1) : Keep false m s0 (sealChunk v0 v1) := by
  unfold sealChunk
  extract_lets a0 a1
  clear_value a0
  split
  · next b2 b3 b4 b5 b6 b7 b8 =>
    extract_lets a9 a10 a11 a12 a13 a14 a15 a16 a17 a18 a19
    have h20 : Keep false m s0 a14 := State.cond_keep k1 (fun x21 h22 => (writeCipher_keep h22))
    have h23 : Keep false m s0 a15 := State.islandWrite_keep h20
    have h24 : Keep false m s0 a16 := State.setStream_keep h23
    have h25 : Keep false m s0 a17 := setPtr_keep h24
    have h26 : Keep false m s0 a18 := Keep.foldl h25 (fun x27 h28 _ => (State.setReg_keep h28))
    have h30 : Keep false m s0 a19 := State.cond_keep h26 (fun x31 h32 => (peatSealed_keep (State.raise_keep
        (State.wrapInc_keep h32))))
    exact eraseDone_keep (snapStream_keep h30)
  · next b33 b34 b35 =>
    exact k1

theorem sealStart_keep {q m s0 v0 v1} (k1 : Keep q m s0 v1) : Keep q m s0 (sealStart v0 v1) := by
  unfold sealStart
  extract_lets a0
  clear_value a0
  split
  · next b1 b2 b3 b4 b5 b6 b7 =>
    exact State.setStream_keep k1
  · next b8 b9 b10 =>
    exact k1

theorem execRunKeysDerived_keep {q m s0 v0} (k0 : Keep q m s0 v0) : OutKeep q m s0 (execRunKeysDerived v0) := by
  unfold execRunKeysDerived
  exact OutKeep.next (State.whenWorking_keep k0 (fun x0 h1 => (Keep.ite (deriveKeys_keep h1) h1)))

end Sys2Proof.Machine
end

