-- ==== Sys2Proof/Laws/KeepRing.lean ====
section
/-!
SUPPORT. Keep for every function of Machine/Ring.lean that makes a state.
-/

namespace Sys2Proof.Machine

theorem State.setLink_keep {q m s0 v0 v1 v2} (k0 : Keep q m s0 v0) : Keep q m s0 (State.setLink v0 v1 v2) := by
  unfold State.setLink
  extract_lets a0
  exact Keep.set_runner k0

theorem flitOut_keep {q m s0 v0 v1 v2} (k2 : Keep q m s0 v2) : Keep q m s0 (flitOut v0 v1 v2) := by
  unfold flitOut
  extract_lets a0
  exact State.emit_keep k2

theorem idleOut_keep {q m s0 v0 v1 v2} (k2 : Keep q m s0 v2) : Keep q m s0 (idleOut v0 v1 v2) := by
  unfold idleOut
  extract_lets a0
  exact State.emit_keep k2

theorem linkDrain_keep {q m s0 v0 v1 v2} (k2 : Keep q m s0 v2) : Keep q m s0 (linkDrain v0 v1 v2) := by
  induction v1 generalizing v0 v2 with
  | zero =>
    unfold linkDrain
    exact k2
  | succ j ih =>
    unfold linkDrain
    extract_lets a0
    clear_value a0
    split
    · next b1 b2 =>
      exact k2
    · next b3 b4 b5 b6 =>
      extract_lets a7 a8
      have h9 : Keep q m s0 a8 := State.setLink_keep k2
      clear_value a7 a8
      exact Keep.ite (ih (flitOut_keep h9)) k2

theorem linkSend_keep {q m s0 v0 v1 v2 v3 v4 v5} (k5 : Keep q m s0 v5) : Keep q m s0 (linkSend v0 v1 v2 v3 v4 v5) :=
    by
  unfold linkSend
  extract_lets a0
  exact Keep.ite (linkDrain_keep (State.setLink_keep k5)) k5

theorem unicast_keep {q m s0 v0 v1 v2} (k2 : Keep q m s0 v2) : Keep q m s0 (unicast v0 v1 v2) := by
  unfold unicast
  split
  · next b0 b1 b2 b3 =>
    exact linkSend_keep k2
  · next b4 b5 =>
    exact k2

theorem broadcast_keep {q m s0 v0 v1} (k1 : Keep q m s0 v1) : Keep q m s0 (broadcast v0 v1) := by
  unfold broadcast
  extract_lets a0 a1 a2 a3 a4
  have h5 : Keep q m s0 a4 := Keep.ite k1 (linkSend_keep k1)
  exact Keep.ite h5 (linkSend_keep h5)

theorem linkTrain_keep {q m s0 v0 v1} (k0 : Keep q m s0 v0) : Keep q m s0 (linkTrain v0 v1) := by
  unfold linkTrain
  exact Keep.ite k0 (State.setFld_keep k0)

theorem linksTrain_keep {q m s0 v0} (k0 : Keep q m s0 v0) : Keep q m s0 (linksTrain v0) := by
  unfold linksTrain
  exact Keep.ite (Keep.foldl k0 (fun x0 h1 _ => (linkTrain_keep h1))) k0

theorem fwdAnswer_keep {q m s0 v0 v1 v2} (k2 : Keep q m s0 v2) : Keep q m s0 (fwdAnswer v0 v1 v2) := by
  unfold fwdAnswer
  extract_lets a0 a1
  exact unicast_keep k2

theorem fwdOne_keep {m s0 v0 v1} (k1 : Keep false m s0 v1) : OptKeep false m s0 (fwdOne v0 v1) := by
  unfold fwdOne
  extract_lets a0 a1 a2 a3 a4 a5 a6 a7 a8 a9
  have h10 : Keep false m s0 a5 := State.islandWrite_keep k1
  have h11 : Keep false m s0 a8 := State.setStream_keep h10
  split
  · next b12 =>
    exact OptKeep.none
  · next b13 =>
    split
    · next b14 =>
      exact OptKeep.some (fwdAnswer_keep (State.setStream_keep k1))
    · next b15 =>
      split
      · next b16 =>
        exact OptKeep.none
      · next b17 =>
        exact OptKeep.some (fwdAnswer_keep (snapStream_keep (setPtr_keep (setPtr_keep h11))))

theorem fwdPlace_keep {m s0 v0 v1 v2} (k2 : Keep false m s0 v2) : Keep false m s0 (fwdPlace v0 v1 v2) := by
  induction v1 generalizing v0 v2 with
  | zero =>
    unfold fwdPlace
    exact k2
  | succ j ih =>
    unfold fwdPlace
    split
    · next b0 b1 b2 =>
      have h3 : Keep false m s0 b1 := (fwdOne_keep k2) _ b2
      exact ih h3
    · next b4 b5 =>
      exact k2

theorem fwdResume_keep {m s0 v0 v1} (k1 : Keep false m s0 v1) : Keep false m s0 (fwdResume v0 v1) := by
  unfold fwdResume
  exact Keep.ite (fwdAnswer_keep (fwdPlace_keep k1)) k1

end Sys2Proof.Machine
end

