-- ==== Sys2Proof/Laws/KeepDeliver.lean ====
section
/-!
SUPPORT. Keep for every function of Machine/Deliver.lean that makes a state.
-/

namespace Sys2Proof.Machine

theorem State.whenWindow_keep {q m s0 v0 v1} (k0 : Keep q m s0 v0) (k1 : ∀ y1, Keep q m s0 y1 → Keep q m s0 (v1 y1))
    : Keep q m s0 (State.whenWindow v0 v1) := by
  unfold State.whenWindow
  exact Keep.ite (k1 _ k0) k0

theorem hostPut_keep {m s0 v0 v1 v2} (k0 : Keep false m s0 v0) : Keep false m s0 (hostPut v0 v1 v2) := by
  unfold hostPut
  extract_lets a0 a1
  have h2 : Keep false m s0 a1 := State.write_keep k0
  exact Keep.foldl h2 (fun x3 h4 _ => (State.emit_keep h4))

theorem showInflight_keep {q m s0 v0} (k0 : Keep q m s0 v0) : Keep q m s0 (showInflight v0) := by
  unfold showInflight
  extract_lets a0 a1
  have h2 : Keep q m s0 a1 := State.setFld_keep k0
  exact State.setFld_keep h2

theorem abandonReads_keep {q m s0 v0 v1} (k1 : Keep q m s0 v1) : Keep q m s0 (abandonReads v0 v1) := by
  unfold abandonReads
  extract_lets a0
  exact showInflight_keep (Keep.tables k1 (fun c => { c with  }) rfl rfl rfl rfl rfl rfl rfl rfl)

theorem hostAsk_keep {q m s0 v0 v1} (k0 : Keep q m s0 v0) : Keep q m s0 (hostAsk v0 v1) := by
  unfold hostAsk
  extract_lets a0 a1 a2
  have h3 : Keep q m s0 a1 := State.emit_keep k0
  exact showInflight_keep (Keep.tables h3 (fun c => { c with  }) rfl rfl rfl rfl rfl rfl rfl rfl)

theorem setRingIdx_keep {q m s0 v0 v1 v2} (k0 : Keep q m s0 v0) : Keep q m s0 (setRingIdx v0 v1 v2) := by
  unfold setRingIdx
  exact State.setFld_keep k0

theorem showActive_keep {q m s0 v0 v1} (k1 : Keep q m s0 v1) : Keep q m s0 (showActive v0 v1) := by
  unfold showActive
  exact State.setBit_keep k1

theorem ringError_keep {q m s0 v0 v1} (k1 : Keep q m s0 v1) : Keep q m s0 (ringError v0 v1) := by
  unfold ringError
  extract_lets a0 a1
  have h2 : Keep q m s0 a0 := State.raise_keep (State.flag_keep k1)
  exact showActive_keep (State.setStream_keep h2)

theorem grTailWrite_keep {q m s0 v0 v1 v2} (k2 : Keep q m s0 v2) : Keep q m s0 (grTailWrite v0 v1 v2) := by
  unfold grTailWrite
  exact setRingIdx_keep (State.cond_keep k2 (fun x0 h1 => (ringError_keep h1)))

theorem crHeadWrite_keep {q m s0 v0 v1 v2} (k2 : Keep q m s0 v2) : Keep q m s0 (crHeadWrite v0 v1 v2) := by
  unfold crHeadWrite
  extract_lets a0 a1 a2
  exact setRingIdx_keep (State.cond_keep k2 (fun x3 h4 => (ringError_keep h4)))

theorem readGrants_keep {q m s0 v0 v1 v2} (k2 : Keep q m s0 v2) : Keep q m s0 (readGrants v0 v1 v2) := by
  induction v1 generalizing v0 v2 with
  | zero =>
    unfold readGrants
    exact k2
  | succ j ih =>
    unfold readGrants
    extract_lets a0 a1 a2 a3 a4
    have h5 : Keep q m s0 a3 := hostAsk_keep k2
    clear_value a0 a1 a2 a3 a4
    exact Keep.ite (ih (State.setStream_keep h5)) k2

theorem tailCheck_keep {q m s0 v0 v1} (k1 : Keep q m s0 v1) : Keep q m s0 (tailCheck v0 v1) := by
  unfold tailCheck
  extract_lets a0 a1 a2 a3
  have h4 : Keep q m s0 a0 := State.reach_keep k1
  have h5 : Keep q m s0 a2 := State.setStream_keep h4
  exact Keep.ite (readGrants_keep (State.setStream_keep h5)) k1

theorem showStarved_keep {q m s0 v0 v1} (k1 : Keep q m s0 v1) : Keep q m s0 (showStarved v0 v1) := by
  unfold showStarved
  extract_lets a0 a1 a2
  exact Keep.ite (State.flagEvent_keep k1) (State.setBit_keep k1)

theorem completeBuffer_keep {q m s0 v0 v1 v2} (k2 : Keep q m s0 v2) : Keep q m s0 (completeBuffer v0 v1 v2) := by
  unfold completeBuffer
  extract_lets a0
  clear_value a0
  split
  · next b1 b2 =>
    exact k2
  · next b3 b4 b5 =>
    extract_lets a6 a7
    exact State.setStream_keep k2

theorem movePiece_keep {m s0 v0 v1 v2} (k2 : Keep false m s0 v2) : OptKeep1 false m s0 (movePiece v0 v1 v2) := by
  unfold movePiece
  extract_lets a0
  clear_value a0
  split
  · next b1 b2 b3 b4 =>
    exact OptKeep1.none
  · next b5 b6 b7 b8 b9 b10 b11 =>
    exact OptKeep1.none
  · next b12 b13 b14 b15 b16 b17 b18 b19 =>
    split
    · next b20 b21 b22 b23 =>
      extract_lets a24 a25 a26 a27 a28 a29 a30 a31 a32
      have h33 : Keep false m s0 a26 := hostPut_keep k2
      have h34 : Keep false m s0 a29 := State.setStream_keep h33
      have h35 : Keep false m s0 a32 := Keep.ite (completeBuffer_keep h34) (Keep.ite (completeBuffer_keep h34) h34)
      split
      · next b36 =>
        exact OptKeep1.some (Keep.mk1 (completeBuffer_keep (State.setStream_keep k2)))
      · next b37 =>
        exact OptKeep1.some (Keep.mk1 h35)

theorem deliverBurst_keep {m s0 v0 v1 v2 v3} (k3 : Keep false m s0 v3) : Keep false m s0 (deliverBurst v0 v1 v2 v3)
    := by
  induction v1 generalizing v0 v2 v3 with
  | zero =>
    unfold deliverBurst
    exact k3
  | succ j ih =>
    unfold deliverBurst
    split
    · next b0 b1 =>
      exact k3
    · next b2 b3 b4 b5 =>
      have h6 : Keep false m s0 b3 := (movePiece_keep k3) _ _ b5
      exact Keep.ite h6 (ih h6)

theorem drainBytes_keep {m s0 v0 v1 v2} (k2 : Keep false m s0 v2) : Keep false m s0 (drainBytes v0 v1 v2) := by
  unfold drainBytes
  extract_lets a0 a1 a2
  exact fwdResume_keep (setPtr_keep (State.setStream_keep k2))

theorem showRecovering_keep {q m s0 v0} (k0 : Keep q m s0 v0) : Keep q m s0 (showRecovering v0) := by
  unfold showRecovering
  exact Keep.ite k0 (State.setBit_keep k0)

theorem issueEntry_keep {m s0 v0 v1} (k1 : Keep false m s0 v1) : Keep false m s0 (issueEntry v0 v1) := by
  unfold issueEntry
  extract_lets a0 a1
  clear_value a0
  split
  · next b2 b3 =>
    exact k1
  · next b4 b5 b6 b7 =>
    extract_lets a8 a9 a10 a11 a12 a13 a14 a15
    have h16 : Keep false m s0 a9 := hostPut_keep k1
    have h17 : Keep false m s0 a11 := setRingIdx_keep h16
    have h18 : Keep false m s0 a12 := State.setStream_keep h17
    have h19 : Keep false m s0 a13 := State.raise_keep h18
    have h20 : Keep false m s0 a14 := State.cond_keep h19 (fun x21 h22 => (drainBytes_keep h22))
    have h23 : Keep false m s0 a15 := State.cond_keep h20 (fun x24 h25 => (State.raise_keep h25))
    exact Keep.ite k1 (streamProgress_keep (showRecovering_keep (snapStream_keep h23)))

theorem acceptGrant_keep {q m s0 v0 v1 v2} (k2 : Keep q m s0 v2) : Keep q m s0 (acceptGrant v0 v1 v2) := by
  unfold acceptGrant
  extract_lets a0 a1 a2 a3 a4 a5 a6
  have h7 : Keep q m s0 a0 := setRingIdx_keep k2
  have h8 : Keep q m s0 a6 := State.setStream_keep h7
  exact Keep.ite (State.raise_keep (State.satInc_keep h8)) (showStarved_keep (State.setStream_keep h7))

theorem acceptEarly_keep {q m s0 v0 v1 v2} (k2 : Keep q m s0 v2) : Keep q m s0 (acceptEarly v0 v1 v2) := by
  induction v1 generalizing v0 v2 with
  | zero =>
    unfold acceptEarly
    exact k2
  | succ j ih =>
    unfold acceptEarly
    extract_lets a0 a1
    clear_value a0 a1
    split
    · next b2 b3 b4 =>
      exact ih (acceptGrant_keep (State.setStream_keep k2))
    · next b5 b6 =>
      exact k2

theorem grantRead_keep {q m s0 v0 v1 v2 v3 v4} (k4 : Keep q m s0 v4) : Keep q m s0 (grantRead v0 v1 v2 v3 v4) := by
  unfold grantRead
  split
  · next b0 b1 =>
    exact k4
  · next b2 b3 b4 =>
    extract_lets a5 a6
    have h7 : Keep q m s0 a5 := showInflight_keep (Keep.set_hostReads k4)
    exact Keep.ite (ringError_keep (State.setStream_keep h7)) (Keep.ite (acceptEarly_keep (acceptGrant_keep h7))
        (State.setStream_keep h7))

theorem fullCheck_keep {q m s0 v0 v1} (k1 : Keep q m s0 v1) : Keep q m s0 (fullCheck v0 v1) := by
  unfold fullCheck
  extract_lets a0 a1
  have h2 : Keep q m s0 a0 := State.reach_keep k1
  exact Keep.ite k1 (State.setStream_keep h2)

theorem ringEnable_keep {q m s0 v0 v1} (k1 : Keep q m s0 v1) : Keep q m s0 (ringEnable v0 v1) := by
  unfold ringEnable
  extract_lets a0 a1 a2 a3
  have h4 : Keep q m s0 a1 := Keep.foldl k1 (fun x5 h6 _ => (setRingIdx_keep h6))
  have h8 : Keep q m s0 a2 := State.setStream_keep h4
  have h9 : Keep q m s0 a3 := abandonReads_keep h8
  exact Keep.ite k1 (showStarved_keep (showActive_keep (State.setBit_keep h9)))

theorem ringDisable_keep {q m s0 v0 v1} (k1 : Keep q m s0 v1) : Keep q m s0 (ringDisable v0 v1) := by
  unfold ringDisable
  extract_lets a0
  exact (Keep.ite k1 (by
      clear_value a0
      split
      · next b1 b2 b3 b4 =>
        have h5 : Keep q m s0 b3 := Keep.eq2 (by
            split
            · next b6 b7 b8 =>
              split
              · next b9 =>
                exact Keep.mk2 (State.setStream_keep k1)
              · next b10 =>
                exact Keep.mk2 (completeBuffer_keep k1)
            · next b11 b12 =>
              exact (Keep.mk2 k1)) b4
        extract_lets a13 a14 a15 a16
        have h17 : Keep q m s0 a15 := State.setStream_keep h5
        have h18 : Keep q m s0 a16 := abandonReads_keep h17
        exact (showStarved_keep (showActive_keep (State.setBit_keep h18)))))

theorem ringStop_keep {m s0 v0 v1} (k1 : Keep false m s0 v1) : Keep false m s0 (ringStop v0 v1) := by
  unfold ringStop
  extract_lets a0 a1
  have h2 : Keep false m s0 a1 := showInflight_keep (Keep.set_dma k1)
  exact ringDisable_keep (Keep.ite (Keep.ite (deliverBurst_keep h2) h2) k1)

theorem badWrite_keep {q m s0 v0} (k0 : Keep q m s0 v0) : Keep q m s0 (badWrite v0) := by
  unfold badWrite
  exact State.raise_keep (State.satInc_keep k0)

theorem ringConfig_keep {q m s0 v0 v1 v2 v3} (k3 : Keep q m s0 v3) : Keep q m s0 (ringConfig v0 v1 v2 v3) := by
  unfold ringConfig
  exact Keep.ite (badWrite_keep k3) (Keep.ite (State.setReg_keep k3) (Keep.ite (State.setReg_keep k3)
      (State.setReg_keep k3)))

theorem execChunkSealComplete_keep {m s0 v0 v1 v2} (k2 : Keep false m s0 v2) : OutKeep false m s0
    (execChunkSealComplete v0 v1 v2) := by
  unfold execChunkSealComplete
  exact OutKeep.next (State.whenWorking_keep k2 (fun x0 h1 => (State.lost_keep (State.cond_keep h1 (fun x2 h3 =>
      (showStarved_keep (sealChunk_keep h3)))))))

theorem execGrTailWrite_keep {q m s0 v0 v1 v2 v3} (k3 : Keep q m s0 v3) : OutKeep q m s0 (execGrTailWrite v0 v1 v2
    v3) := by
  unfold execGrTailWrite
  exact OutKeep.next (State.whenWindow_keep k3 (fun x0 h1 => (State.lost_keep (grTailWrite_keep h1))))

theorem execGrantTailCheck_keep {q m s0 v0 v1} (k1 : Keep q m s0 v1) : OutKeep q m s0 (execGrantTailCheck v0 v1) := by
  unfold execGrantTailCheck
  exact OutKeep.next (State.whenWorking_keep k1 (fun x0 h1 => (tailCheck_keep h1)))

theorem execCrHeadWrite_keep {q m s0 v0 v1 v2 v3} (k3 : Keep q m s0 v3) : OutKeep q m s0 (execCrHeadWrite v0 v1 v2
    v3) := by
  unfold execCrHeadWrite
  exact OutKeep.next (State.whenWindow_keep k3 (fun x0 h1 => (State.lost_keep (crHeadWrite_keep h1))))

theorem execRingConfigWrite_keep {q m s0 v0 v1 v2 v3} (k3 : Keep q m s0 v3) : OutKeep q m s0 (execRingConfigWrite v0
    v1 v2 v3) := by
  unfold execRingConfigWrite
  exact OutKeep.next (State.whenWindow_keep k3 (fun x0 h1 => (ringConfig_keep h1)))

theorem execRingEnable_keep {q m s0 v0 v1} (k1 : Keep q m s0 v1) : OutKeep q m s0 (execRingEnable v0 v1) := by
  unfold execRingEnable
  exact OutKeep.next (State.whenWindow_keep k1 (fun x0 h1 => (ringEnable_keep h1)))

theorem execGrantReadDone_keep {q m s0 v0 v1 v2 v3 v4 v5} (k5 : Keep q m s0 v5) : OutKeep q m s0 (execGrantReadDone
    v0 v1 v2 v3 v4 v5) := by
  unfold execGrantReadDone
  exact OutKeep.next (State.whenWorking_keep k5 (fun x0 h1 => (grantRead_keep h1)))

theorem execCompletionEntryIssue_keep {m s0 v0 v1} (k1 : Keep false m s0 v1) : OutKeep false m s0
    (execCompletionEntryIssue v0 v1) := by
  unfold execCompletionEntryIssue
  exact OutKeep.next (State.whenWorking_keep k1 (fun x0 h1 => (issueEntry_keep h1)))

theorem execCompletionRingCheck_keep {m s0 v0 v1} (k1 : Keep false m s0 v1) : OutKeep false m s0
    (execCompletionRingCheck v0 v1) := by
  unfold execCompletionRingCheck
  exact OutKeep.next (State.whenWorking_keep k1 (fun x0 h1 => (issueEntry_keep (fullCheck_keep h1))))

end Sys2Proof.Machine
end

