-- ==== Sys2Proof/Laws/KeepDmaCtl.lean ====
section
/-!
SUPPORT. Keep for every function of Machine/DmaCtl.lean that makes a state.
-/

namespace Sys2Proof.Machine

theorem setChanState_keep {q m s0 v0 v1 v2} (k0 : Keep q m s0 v0) : Keep q m s0 (setChanState v0 v1 v2) := by
  unfold setChanState
  exact State.setFld_keep k0

theorem leaveFree_keep {m s0 v0 v1 v2} (k2 : Keep false m s0 v2) : Keep false m s0 (leaveFree v0 v1 v2) := by
  unfold leaveFree
  extract_lets a0 a1
  have h2 : Keep false m s0 a1 := (Keep.foldl k2 (fun x3 h4 _ => (by
      extract_lets a6 a7
      exact (Keep.ite (State.setByte_keep h4) (by
          clear_value a7
          split
          · next b8 b9 b10 =>
            exact State.setByte_keep h4
          · next b11 b12 =>
            exact h4)))))
  exact Keep.set_freeCtr h2 (Nat.le_add_right _ _)

theorem chanEvent_keep {q m s0 v0 v1 v2} (k2 : Keep q m s0 v2) : Keep q m s0 (chanEvent v0 v1 v2) := by
  unfold chanEvent
  exact State.raise_keep (State.flag_keep k2)

theorem chanHalt_keep {q m s0 v0 v1 v2} (k2 : Keep q m s0 v2) : Keep q m s0 (chanHalt v0 v1 v2) := by
  unfold chanHalt
  extract_lets a0 a1 a2
  have h3 : Keep q m s0 a1 := State.setChan_keep k2
  have h4 : Keep q m s0 a2 := setChanState_keep (State.setFld_keep h3)
  exact chanEvent_keep h4

theorem chanFetch_keep {q m s0 v0 v1 v2} (k2 : Keep q m s0 v2) : Keep q m s0 (chanFetch v0 v1 v2) := by
  unfold chanFetch
  extract_lets a0
  exact Keep.ite (State.setChan_keep k2) (Keep.ite (State.setChan_keep k2) (State.wrapInc_keep (State.setChan_keep
      k2)))

theorem chanRelease_keep {q m s0 v0 v1} (k1 : Keep q m s0 v1) : Keep q m s0 (chanRelease v0 v1) := by
  unfold chanRelease
  extract_lets a0 a1
  have h2 : Keep q m s0 a1 := State.setFld_keep k1
  clear_value a0
  split
  · next b3 b4 =>
    exact k1
  · next b5 b6 b7 =>
    exact Keep.ite k1 (Keep.ite (setChanState_keep (State.setChan_keep k1)) (Keep.ite (setChanState_keep
        (State.setChan_keep h2)) (setChanState_keep k1)))

theorem chanPromote_keep {q m s0 v0 v1} (k1 : Keep q m s0 v1) : Keep q m s0 (chanPromote v0 v1) := by
  unfold chanPromote
  extract_lets a0
  clear_value a0
  split
  · next b1 b2 =>
    exact setChanState_keep (State.setChan_keep k1)
  · next b3 b4 b5 =>
    exact setChanState_keep (State.setChan_keep k1)
  · next b6 b7 b8 b9 =>
    exact chanHalt_keep (State.cond_keep k1 (fun x10 h11 => (State.setReg64_keep h11)))
  · next b12 b13 b14 =>
    extract_lets a15 a16 a17
    have h18 : Keep q m s0 a16 := State.setReg64_keep k1
    have h19 : Keep q m s0 a17 := State.setChan_keep h18
    exact Keep.ite (setChanState_keep h19) (chanRelease_keep h19)

theorem chanFetched_keep {q m s0 v0 v1 v2} (k2 : Keep q m s0 v2) : Keep q m s0 (chanFetched v0 v1 v2) := by
  unfold chanFetched
  extract_lets a0
  clear_value a0
  split
  · next b1 b2 b3 =>
    extract_lets a4 a5 a6 a7 a8 a9 a10
    have h11 : Keep q m s0 a4 := State.cond_keep k2 (fun x12 h13 => (spanNote_keep h13))
    have h14 : Keep q m s0 a5 := State.setChan_keep h11
    have h15 : Keep q m s0 a7 := State.cond_keep h11 (fun x16 h17 => (State.setReg_keep h17))
    have h18 : Keep q m s0 a8 := (State.cond_keep h15 (fun x19 h20 => (by
        extract_lets a21
        exact (State.setFld_keep (State.satInc_keep h20)))))
    have h22 : Keep q m s0 a10 := State.setChan_keep h18
    exact Keep.ite k2 (Keep.ite (Keep.ite (chanPromote_keep h14) h14) (Keep.ite (chanPromote_keep h22) h22))
  · next b23 b24 =>
    exact k2

theorem chanStart_keep {q m s0 v0 v1} (k1 : Keep q m s0 v1) : Keep q m s0 (chanStart v0 v1) := by
  unfold chanStart
  extract_lets a0 a1 a2 a3 a4 a5
  have h6 : Keep q m s0 a2 := State.cond_keep k1 (fun x7 h8 => (State.setFld_keep h8))
  have h9 : Keep q m s0 a3 := State.setChan_keep h6
  have h10 : Keep q m s0 a4 := State.setFld_keep (State.setReg_keep (State.setReg_keep h9))
  have h11 : Keep q m s0 a5 := chanFetch_keep h10
  exact (Keep.ite (Keep.ite (State.flag_keep k1) (by
      clear_value a5
      split
      · next b12 b13 b14 b15 =>
        exact chanPromote_keep h11
      · next b16 b17 =>
        exact (setChanState_keep h11))) (State.flag_keep k1))

theorem chanTrigger_keep {q m s0 v0 v1} (k1 : Keep q m s0 v1) : Keep q m s0 (chanTrigger v0 v1) := by
  unfold chanTrigger
  exact Keep.ite (chanEvent_keep (State.satInc_keep k1)) (chanRelease_keep (State.setFld_keep k1))

theorem chanTriggerFrom_keep {q m s0 v0 v1 v2 v3} (k3 : Keep q m s0 v3) : Keep q m s0 (chanTriggerFrom v0 v1 v2 v3)
    := by
  unfold chanTriggerFrom
  extract_lets a0 a1 a2
  exact Keep.ite (chanTrigger_keep k3) k3

theorem chanArrival_keep {q m s0 v0 v1 v2 v3 v4} (k4 : Keep q m s0 v4) : Keep q m s0 (chanArrival v0 v1 v2 v3 v4) :=
    by
  unfold chanArrival
  extract_lets a0
  exact Keep.ite (chanTriggerFrom_keep (Keep.set_dma k4)) k4

theorem askFlush_keep {q m s0 v0 v1 v2} (k2 : Keep q m s0 v2) : Keep q m s0 (askFlush v0 v1 v2) := by
  unfold askFlush
  exact Keep.ite (hostAsk_keep k2) k2

theorem flushNext_keep {q m s0 v0} (k0 : Keep q m s0 v0) : Keep q m s0 (flushNext v0) := by
  unfold flushNext
  split
  · next b0 b1 b2 =>
    split
    · next b3 b4 b5 =>
      exact askFlush_keep k0
    · next b6 b7 =>
      exact k0
  · next b8 b9 =>
    exact k0

theorem chanEnds_keep {q m s0 v0 v1} (k1 : Keep q m s0 v1) : Keep q m s0 (chanEnds v0 v1) := by
  unfold chanEnds
  extract_lets a0
  clear_value a0
  split
  · next b1 b2 =>
    exact k1
  · next b3 b4 b5 =>
    exact (Keep.ite k1 (Keep.ite (State.setChan_keep k1) (by
        split
        · next b6 b7 b8 b9 =>
          exact State.setChan_keep k1
        · next b10 b11 =>
          exact (Keep.ite (Keep.ite (Keep.ite (State.setChan_keep k1) (askFlush_keep (State.setChan_keep k1)))
              (State.setChan_keep k1)) k1))))

theorem chanStatus_keep {m s0 v0 v1} (k1 : Keep false m s0 v1) : Keep false m s0 (chanStatus v0 v1) := by
  unfold chanStatus
  extract_lets a0
  clear_value a0
  split
  · next b1 b2 b3 b4 b5 b6 b7 =>
    extract_lets a8 a9 a10 a11 a12 a13 a14 a15 a16 a17
    have h18 : Keep false m s0 a8 := State.cond_keep k1 (fun x19 h20 => (leaveFree_keep h20))
    have h21 : Keep false m s0 a9 := State.cond_keep h18 (fun x22 h23 => (State.write_keep h23))
    have h24 : Keep false m s0 a10 := State.cond_keep h21 (fun x25 h26 => (chanEvent_keep h26))
    have h27 : Keep false m s0 a12 := State.wrapInc_keep h24
    have h28 : Keep false m s0 a13 := State.cond_keep h27 (fun x29 h30 => (chanEvent_keep h30))
    have h31 : Keep false m s0 a14 := Keep.ite (dmaSend_keep (State.cond_keep h28 (fun x32 h33 => (State.setLine_keep
        h33)))) (chanEvent_keep h24)
    have h34 : Keep false m s0 a16 := State.setChan_keep h31
    have h35 : Keep false m s0 a17 := State.cond_keep h34 (fun x36 h37 => (chanFetch_keep h37))
    exact Keep.ite (chanHalt_keep h24) (Keep.ite (chanHalt_keep h24) (Keep.ite (chanHalt_keep h24) (Keep.ite
        (chanHalt_keep h34) (chanPromote_keep h35))))
  · next b38 b39 b40 =>
    exact k1

theorem chanAbort_keep {q m s0 v0 v1} (k1 : Keep q m s0 v1) : Keep q m s0 (chanAbort v0 v1) := by
  unfold chanAbort
  extract_lets a0 a1
  exact (Keep.ite (by
      clear_value a0
      split
      · next b2 b3 =>
        exact chanHalt_keep k1
      · next b4 b5 b6 =>
        exact (Keep.ite (State.setChan_keep k1) (chanEnds_keep (setChanState_keep (State.setChan_keep k1)))))
            (State.flag_keep k1))

theorem chanOff_keep {m s0 v0 v1} (k1 : Keep false m s0 v1) : Keep false m s0 (chanOff v0 v1) := by
  unfold chanOff
  extract_lets a0 a1 a2 a3 a4 a5 a6
  have h7 : Keep false m s0 a1 := (by
      unfold a1
      clear_value a0
      split
      · next b8 b9 b10 =>
        exact State.drawn_keep (State.write_keep k1)
      · next b11 b12 =>
        exact k1)
  have h13 : Keep false m s0 a3 := Keep.set_dma h7
  have h14 : Keep false m s0 a4 := State.setChan_keep (abandonReads_keep h13)
  have h15 : Keep false m s0 a5 := State.drawn_keep (State.setFld_keep h14)
  have h16 : Keep false m s0 a6 := State.drawn_keep (State.setReg_keep h15)
  exact setChanState_keep (State.setBit_keep h16)

theorem chanEnable_keep {m s0 v0 v1 v2} (k2 : Keep false m s0 v2) : Keep false m s0 (chanEnable v0 v1 v2) := by
  unfold chanEnable
  extract_lets a0
  have h1 : Keep false m s0 a0 := State.setBit_keep k2
  exact Keep.ite (Keep.ite (setChanState_keep h1) h1) (Keep.ite (Keep.ite (State.setBit_keep k2) (chanOff_keep k2))
      (State.peatPush_keep (chanEvent_keep k2)))

theorem chanCommit_keep {q m s0 v0 v1} (k1 : Keep q m s0 v1) : Keep q m s0 (chanCommit v0 v1) := by
  unfold chanCommit
  extract_lets a0
  have h1 : Keep q m s0 a0 := CommitUnit.commit_keep k1
  exact Keep.ite h1 (CommitUnit.take_keep h1)

theorem countWaits_keep {q m s0 v0 v1 v2} (k0 : Keep q m s0 v0) : Keep q m s0 (countWaits v0 v1 v2) := by
  unfold countWaits
  extract_lets a0
  exact (Keep.foldl (Keep.set_dma k0) (fun x1 h2 _ => (Keep.ite h2 (by
      extract_lets a4 a5 a6 a7
      exact (Keep.set_dma h2)))))

theorem grantChannel_keep {q m s0 v0 v1} (k1 : Keep q m s0 v1) : Keep q m s0 (grantChannel v0 v1) := by
  unfold grantChannel
  extract_lets a0 a1 a2
  have h3 : Keep q m s0 a0 := CommitUnit.take_keep k1
  clear_value a1
  split
  · next b4 b5 =>
    exact h3
  · next b6 b7 b8 =>
    extract_lets a9 a10 a11
    have h12 : Keep q m s0 a10 := State.setChan_keep h3
    have h13 : Keep q m s0 a11 := showInflight_keep (Keep.set_dma h12)
    exact State.cond_keep h13 (fun x14 h15 => (chanFetch_keep h15))

theorem grantBurst_keep {q m s0 v0} (k0 : Keep q m s0 v0) : Keep q m s0 (grantBurst v0) := by
  unfold grantBurst
  extract_lets a0
  exact (Keep.ite k0 (by
      clear_value a0
      split
      · next b1 b2 =>
        exact k0
      · next b3 b4 b5 =>
        extract_lets a6 a7 a8 a9 a10
        have h11 : Keep q m s0 a7 := countWaits_keep k0
        have h12 : Keep q m s0 a9 := Keep.set_dma h11
        exact (Keep.ite (grantChannel_keep h12) (showInflight_keep (Keep.set_dma h12)))))

theorem chanFails_keep {q m s0 v0 v1 v2 v3} (k3 : Keep q m s0 v3) : Keep q m s0 (chanFails v0 v1 v2 v3) := by
  unfold chanFails
  extract_lets a0 a1
  exact chanEnds_keep (Keep.ite k3 (State.setChan_keep k3))

theorem chanMoved_keep {q m s0 v0 v1 v2} (k2 : Keep q m s0 v2) : Keep q m s0 (chanMoved v0 v1 v2) := by
  unfold chanMoved
  extract_lets a0 a1
  clear_value a0
  split
  · next b2 b3 =>
    exact k2
  · next b4 b5 b6 =>
    extract_lets a7 a8
    have h9 : Keep q m s0 a8 := State.setChan_keep k2
    exact State.cond_keep h9 (fun x10 h11 => (chanEvent_keep h11))

theorem dropRead_keep {q m s0 v0 v1} (k1 : Keep q m s0 v1) : Keep q m s0 (dropRead v0 v1) := by
  unfold dropRead
  exact showInflight_keep (Keep.set_hostReads k1)

theorem readTimeout_keep {q m s0 v0 v1} (k1 : Keep q m s0 v1) : Keep q m s0 (readTimeout v0 v1) := by
  unfold readTimeout
  split
  · next b0 b1 =>
    exact k1
  · next b2 b3 b4 =>
    extract_lets a5 a6 a7
    have h8 : Keep q m s0 a5 := State.reach_keep k1
    have h9 : ∀ y1, Keep q m s0 y1 → Keep q m s0 (a6 y1) := fun x10 h11 => (Keep.set_dma h11)
    have h12 : Keep q m s0 a7 := h9 _ (dropRead_keep h8)
    split
    · next b13 b14 b15 b16 =>
      extract_lets a17
      exact Keep.ite (State.setChan_keep h12) (chanFails_keep h12)
    · next b18 b19 b20 b21 b22 =>
      exact h9 _ (grantRead_keep h8)
    · next b23 b24 b25 b26 =>
      exact h8

theorem execChStart_keep {q m s0 v0 v1 v2} (k2 : Keep q m s0 v2) : OutKeep q m s0 (execChStart v0 v1 v2) := by
  unfold execChStart
  exact OutKeep.next (State.whenWorking_keep k2 (fun x0 h1 => (State.lost_keep (chanStart_keep h1))))

theorem execChAbort_keep {q m s0 v0 v1 v2} (k2 : Keep q m s0 v2) : OutKeep q m s0 (execChAbort v0 v1 v2) := by
  unfold execChAbort
  exact OutKeep.next (State.whenWorking_keep k2 (fun x0 h1 => (State.lost_keep (chanAbort_keep h1))))

theorem execChTrigger_keep {q m s0 v0 v1 v2} (k2 : Keep q m s0 v2) : OutKeep q m s0 (execChTrigger v0 v1 v2) := by
  unfold execChTrigger
  exact OutKeep.next (State.whenWorking_keep k2 (fun x0 h1 => (State.lost_keep (chanTriggerFrom_keep h1))))

theorem execChCommit_keep {q m s0 v0 v1 v2} (k2 : Keep q m s0 v2) : OutKeep q m s0 (execChCommit v0 v1 v2) := by
  unfold execChCommit
  exact OutKeep.next (State.whenWorking_keep k2 (fun x0 h1 => (State.lost_keep (chanCommit_keep h1))))

theorem execChEnableWrite_keep {m s0 v0 v1 v2 v3} (k3 : Keep false m s0 v3) : OutKeep false m s0 (execChEnableWrite
    v0 v1 v2 v3) := by
  unfold execChEnableWrite
  exact OutKeep.next (Keep.ite (State.lost_keep (chanEnable_keep k3)) k3)

theorem execDescriptorFetchDone_keep {q m s0 v0 v1 v2} (k2 : Keep q m s0 v2) : OutKeep q m s0
    (execDescriptorFetchDone v0 v1 v2) := by
  unfold execDescriptorFetchDone
  exact OutKeep.next (State.whenWorking_keep k2 (fun x0 h1 => (chanFetched_keep h1)))

theorem execDmaTriggerArrival_keep {q m s0 v0 v1 v2 v3 v4} (k4 : Keep q m s0 v4) : OutKeep q m s0
    (execDmaTriggerArrival v0 v1 v2 v3 v4) := by
  unfold execDmaTriggerArrival
  exact OutKeep.next (State.whenWorking_keep k4 (fun x0 h1 => (State.lost_keep (chanArrival_keep h1))))

theorem execHostReadTimeout_keep {q m s0 v0 v1 v2} (k2 : Keep q m s0 v2) : OutKeep q m s0 (execHostReadTimeout v0 v1
    v2) := by
  unfold execHostReadTimeout
  exact OutKeep.next (State.whenWorking_keep k2 (fun x0 h1 => (flushNext_keep (State.lost_keep (readTimeout_keep
      h1)))))

theorem execDescriptorStatusAccepted_keep {m s0 v0 v1} (k1 : Keep false m s0 v1) : OutKeep false m s0
    (execDescriptorStatusAccepted v0 v1) := by
  unfold execDescriptorStatusAccepted
  exact OutKeep.next (State.whenWorking_keep k1 (fun x0 h1 => (chanStatus_keep h1)))

theorem execRingDisable_keep {m s0 v0 v1 v2} (k2 : Keep false m s0 v2) : OutKeep false m s0 (execRingDisable v0 v1
    v2) := by
  unfold execRingDisable
  exact OutKeep.next (State.whenWindow_keep k2 (fun x0 h1 => (State.lost_keep (ringStop_keep h1))))

end Sys2Proof.Machine
end

