-- ==== Sys2Proof/Laws/KeepRun.lean ====
section
/-!
SUPPORT. Keep for every function of Machine/Run.lean that makes a state.
-/

namespace Sys2Proof.Machine

theorem peatState_keep {q m s0 v0 v1} (k1 : Keep q m s0 v1) : Keep q m s0 (peatState v0 v1) := by
  unfold peatState
  exact State.peatPush_keep k1

theorem setMode_keep {q s0 v0 v1} (k1 : Keep q false s0 v1) : Keep q false s0 (setMode v0 v1) := by
  unfold setMode
  extract_lets a0 a1
  have h2 : Keep q false s0 a1 := State.setFld_keep (Keep.set_mode k1)
  exact readyCheck_keep (Keep.ite h2 (peatState_keep h2))

theorem showRunActive_keep {q m s0 v0 v1} (k1 : Keep q m s0 v1) : Keep q m s0 (showRunActive v0 v1) := by
  unfold showRunActive
  exact State.setBit_keep (State.setBit_keep k1)

theorem beginRun_keep {m s0 v0} (k0 : Keep false m s0 v0) : Keep false m s0 (beginRun v0) := by
  unfold beginRun
  extract_lets a0 a1 a2 a3 a4 a5 a6 a7 a8 a9
  have h10 : Keep false m s0 a1 := State.setFld_keep (State.setFld_keep k0)
  have h11 : Keep false m s0 a2 := eraseKeys_keep (showRunActive_keep h10)
  have h12 : Keep false m s0 a5 := Keep.set_boot h11
  have h13 : Keep false m s0 a6 := (Keep.foldl h12 (fun x14 h15 _ => (Keep.ite (by
      extract_lets a17 a18
      have h19 : Keep false m s0 a17 := streamBegin_keep h15
      exact (snapStream_keep (State.setStream_keep h19))) h15)))
  have h20 : Keep false m s0 a7 := snapDevice_keep h13
  have h21 : Keep false m s0 a8 := Keep.foldl h20 (fun x22 h23 _ => (imgRunStart_keep h23))
  have h25 : Keep false m s0 a9 := Keep.foldl h21 (fun x26 h27 _ => (lampRunStart_keep h27))
  exact Keep.foldl h25 (fun x29 h30 _ => (tpRunStart_keep h30))

theorem endRun_keep {m s0 v0} (k0 : Keep false m s0 v0) : Keep false m s0 (endRun v0) := by
  unfold endRun
  extract_lets a0 a1 a2 a3 a4 a5 a6
  have h7 : Keep false m s0 a0 := showRunActive_keep k0
  have h8 : Keep false m s0 a1 := (Keep.foldl h7 (fun x9 h10 _ => (by
      extract_lets a12 a13
      exact (Keep.ite (State.setStage_keep (State.setStream_keep h10)) h10))))
  have h14 : Keep false m s0 a2 := Keep.foldl h8 (fun x15 h16 _ => (imgRunStop_keep h16))
  have h18 : Keep false m s0 a3 := Keep.foldl h14 (fun x19 h20 _ => (lampRunStop_keep h20))
  have h22 : Keep false m s0 a4 := Keep.foldl h18 (fun x23 h24 _ => (tpRunStop_keep h24))
  have h26 : Keep false m s0 a5 := streamsProgress_keep h22
  have h27 : Keep false m s0 a6 := Keep.foldl h26 (fun x28 h29 _ => (Keep.ite (snapStream_keep h29) h29))
  exact snapDevice_keep h27

theorem askStart_keep {m s0 v0} (k0 : Keep false m s0 v0) : Keep false m s0 (askStart v0).1 := by
  unfold askStart
  split
  · next b0 =>
    exact Keep.mk1 k0
  · next b1 =>
    split
    · next b2 =>
      exact Keep.mk1 k0
    · next b3 =>
      exact Keep.mk1 (beginRun_keep k0)

theorem askStop_keep {m s0 v0} (k0 : Keep false m s0 v0) : Keep false m s0 (askStop v0).1 := by
  unfold askStop
  split
  · next b0 =>
    exact Keep.mk1 (endRun_keep k0)
  · next b1 =>
    exact Keep.mk1 k0

theorem askMaintEnter_keep {q s0 v0} (k0 : Keep q false s0 v0) : Keep q false s0 (askMaintEnter v0).1 := by
  unfold askMaintEnter
  split
  · next b0 =>
    exact Keep.mk1 k0
  · next b1 =>
    split
    · next b2 =>
      exact Keep.mk1 k0
    · next b3 =>
      exact Keep.mk1 (setMode_keep k0)

theorem askMaintExit_keep {q s0 v0} (k0 : Keep q false s0 v0) : Keep q false s0 (askMaintExit v0).1 := by
  unfold askMaintExit
  split
  · next b0 =>
    exact Keep.mk1 k0
  · next b1 =>
    split
    · next b2 =>
      exact Keep.mk1 k0
    · next b3 =>
      exact Keep.mk1 (setMode_keep k0)

theorem askAbandon_keep {m s0 v0} (k0 : Keep false m s0 v0) : Keep false m s0 (askAbandon v0).1 := by
  unfold askAbandon
  extract_lets a0 a1 a2 a3
  have h4 : Keep false m s0 a0 := (Keep.foldl k0 (fun x5 h6 _ => (by
      extract_lets a8 a9 a10
      have h11 : Keep false m s0 a8 := completeBuffer_keep h6
      have h12 : Keep false m s0 a10 := State.setStream_keep h11
      exact (snapStream_keep (showStarved_keep (setPtr_keep h12))))))
  have h13 : Keep false m s0 a3 := Keep.set_boot h4
  split
  · next b14 =>
    exact Keep.mk1 k0
  · next b15 =>
    exact Keep.mk1 (State.setBit_keep h13)

theorem frondAsk_keep {q m s0 v0 v1} (k0 : ∀ y1, Keep q m s0 y1 → Keep q m s0 (v0 y1).1) (k1 : Keep q m s0 v1) : Keep
    q m s0 (frondAsk v0 v1) := by
  unfold frondAsk
  extract_lets a0
  have h1 : Keep q m s0 a0.1 := k0 _ k1
  exact State.setFld_keep h1

theorem devWdogLoad_keep {q m s0 v0} (k0 : Keep q m s0 v0) : Keep q m s0 (devWdogLoad v0) := by
  unfold devWdogLoad
  extract_lets a0
  exact Keep.set_root k0 (by exact rfl)

theorem devWdogWrite_keep {q m s0 v0 v1} (k1 : Keep q m s0 v1) : Keep q m s0 (devWdogWrite v0 v1) := by
  unfold devWdogWrite
  extract_lets a0
  have h1 : Keep q m s0 a0 := State.setFld_keep k1
  exact Keep.ite k1 (devWdogLoad_keep (Keep.ite h1 (State.setBit_keep h1)))

theorem execRunStart_keep {m s0 v0 v1} (k1 : Keep false m s0 v1) : OutKeep false m s0 (execRunStart v0 v1) := by
  unfold execRunStart
  exact OutKeep.next (State.whenWorking_keep k1 (fun x0 h1 => (State.lost_keep (frondAsk_keep (fun x2 h3 =>
      (askStart_keep h3)) h1))))

theorem execRunStop_keep {m s0 v0 v1} (k1 : Keep false m s0 v1) : OutKeep false m s0 (execRunStop v0 v1) := by
  unfold execRunStop
  exact OutKeep.next (State.whenWorking_keep k1 (fun x0 h1 => (State.lost_keep (frondAsk_keep (fun x2 h3 =>
      (askStop_keep h3)) h1))))

theorem execMaintExit_keep {q s0 v0 v1} (k1 : Keep q false s0 v1) : OutKeep q false s0 (execMaintExit v0 v1) := by
  unfold execMaintExit
  exact OutKeep.next (State.whenWorking_keep k1 (fun x0 h1 => (State.lost_keep (frondAsk_keep (fun x2 h3 =>
      (askMaintExit_keep h3)) h1))))

theorem execAbandon_keep {m s0 v0} (k0 : Keep false m s0 v0) : OutKeep false m s0 (execAbandon v0) := by
  unfold execAbandon
  exact OutKeep.next (State.whenWorking_keep k0 (fun x0 h1 => (frondAsk_keep (fun x2 h3 => (askAbandon_keep h3)) h1)))

theorem execRunWdogWrite_keep {q m s0 v0 v1} (k1 : Keep q m s0 v1) : OutKeep q m s0 (execRunWdogWrite v0 v1) := by
  unfold execRunWdogWrite
  exact OutKeep.next (State.whenWorking_keep k1 (fun x0 h1 => (devWdogWrite_keep h1)))

theorem execRunKick_keep {q m s0 v0 v1} (k1 : Keep q m s0 v1) : OutKeep q m s0 (execRunKick v0 v1) := by
  unfold execRunKick
  exact OutKeep.next (State.whenWorking_keep k1 (fun x0 h1 => (State.lost_keep (State.cond_keep h1 (fun x2 h3 =>
      (devWdogLoad_keep h3))))))

theorem execAutorunStart_keep {m s0 v0} (k0 : Keep false m s0 v0) : OutKeep false m s0 (execAutorunStart v0) := by
  unfold execAutorunStart
  exact (OutKeep.next (State.whenWorking_keep k0 (fun x0 h1 => (by
      split
      · next b2 b3 b4 b5 b6 b7 =>
        extract_lets a8 a9
        have h10 : Keep false m s0 a8 := State.reach_keep h1
        exact Keep.ite (frondAsk_keep (fun x11 h12 => (askStart_keep h12)) (Keep.set_boot h10)) h1
      · next b13 b14 b15 =>
        exact h1))))

end Sys2Proof.Machine
end

