-- ==== Sys2Proof/Laws/KeepEvents.lean ====
section
/-!
SUPPORT. Keep for every function of Machine/Events.lean that makes a state.
-/

namespace Sys2Proof.Machine

theorem setArrayBit_keep {q m s0 v0 v1 v2 v3} (k0 : Keep q m s0 v0) : Keep q m s0 (setArrayBit v0 v1 v2 v3) := by
  unfold setArrayBit
  exact State.setBit_keep k0

theorem vectorIssue_keep {q m s0 v0 v1} (k1 : Keep q m s0 v1) : Keep q m s0 (vectorIssue v0 v1) := by
  unfold vectorIssue
  exact Keep.ite (State.emit_keep k1) (setArrayBit_keep k1)

theorem vectorRetry_keep {q m s0 v0 v1} (k0 : Keep q m s0 v0) : Keep q m s0 (vectorRetry v0 v1) := by
  unfold vectorRetry
  exact Keep.ite (State.emit_keep (setArrayBit_keep k0)) k0

theorem vectorsRetry_keep {q m s0 v0} (k0 : Keep q m s0 v0) : Keep q m s0 (vectorsRetry v0) := by
  unfold vectorsRetry
  exact Keep.ite (Keep.foldl k0 (fun x0 h1 _ => (vectorRetry_keep h1))) k0

theorem hostNotice_keep {q m s0 v0 v1 v2} (k2 : Keep q m s0 v2) : Keep q m s0 (hostNotice v0 v1 v2) := by
  unfold hostNotice
  exact Keep.ite (setArrayBit_keep k2) (vectorIssue_keep (setArrayBit_keep k2))

theorem eventDeliver_keep {q m s0 v0 v1} (k1 : Keep q m s0 v1) : Keep q m s0 (eventDeliver v0 v1) := by
  unfold eventDeliver
  extract_lets a0 a1 a2 a3
  have h4 : Keep q m s0 a1 := Keep.set_evPend k1 (NatSet.wf_erase _)
  have h5 : Keep q m s0 a2 := State.cond_keep h4 (fun x6 h7 => (State.setLine_keep h7))
  have h8 : Keep q m s0 a3 := State.cond_keep h5 (fun x9 h10 => (hostNotice_keep h10))
  exact Keep.ite (State.cond_keep h8 (fun x11 h12 => (State.peatPush_keep h12))) k1

theorem eventAck_keep {q m s0 v0 v1} (k1 : Keep q m s0 v1) : Keep q m s0 (eventAck v0 v1) := by
  unfold eventAck
  extract_lets a0
  have h1 : Keep q m s0 a0 := setArrayBit_keep (setArrayBit_keep k1)
  exact Keep.ite (vectorIssue_keep h1) (setArrayBit_keep k1)

theorem execEventDelivery_keep {q m s0 v0 v1 v2} (k2 : Keep q m s0 v2) : OutKeep q m s0 (execEventDelivery v0 v1 v2)
    := by
  unfold execEventDelivery
  exact OutKeep.next (State.whenServing_keep k2 (fun x0 h1 => (State.lost_keep (eventDeliver_keep h1))))

theorem execEvtAck_keep {q m s0 v0 v1 v2} (k2 : Keep q m s0 v2) : OutKeep q m s0 (execEvtAck v0 v1 v2) := by
  unfold execEvtAck
  exact OutKeep.next (State.whenServing_keep k2 (fun x0 h1 => (Keep.ite (State.lost_keep (eventAck_keep h1)) h1)))

end Sys2Proof.Machine
end

