-- ==== Sys2Proof/Laws/KeepPeat.lean ====
section
/-!
SUPPORT. Keep for every function of Machine/Peat.lean that makes a state.
-/

namespace Sys2Proof.Machine

theorem peatShow_keep {q m s0 v0} (k0 : Keep q m s0 v0) : Keep q m s0 (peatShow v0) := by
  unfold peatShow
  exact Keep.ite k0 (State.setReg64_keep (State.setReg64_keep k0))

theorem peatCommit_keep {m s0 v0} (k0 : Keep false m s0 v0) : Keep false m s0 (peatCommit v0) := by
  unfold peatCommit
  split
  · next b0 b1 =>
    exact k0
  · next b2 b3 b4 b5 =>
    extract_lets a6 a7 a8 a9 a10 a11 a12
    have h13 : Keep false m s0 a7 := State.write_keep k0
    have h14 : Keep false m s0 a10 := Keep.tables (Keep.set_pwr (x := _) h13 (by exact id)) (fun c => { c with  })
        rfl rfl rfl rfl rfl rfl rfl rfl
    have h15 : Keep false m s0 a11 := peatShow_keep (State.setFld_keep h14)
    exact Keep.ite h15 (State.peatPush_keep (State.setFld_keep h15))

theorem peatFlush_keep {m s0 v0} (k0 : Keep false m s0 v0) : Keep false m s0 (peatFlush v0) := by
  unfold peatFlush
  exact Keep.foldl k0 (fun x0 h1 _ => (peatCommit_keep h1))

theorem peatFind_keep {q m s0 v0} (k0 : Keep q m s0 v0) : Keep q m s0 (peatFind v0) := by
  unfold peatFind
  extract_lets a0 a1 a2
  exact peatShow_keep (Keep.set_peat k0)

theorem peatFirmware_keep {q m s0 v0 v1 v2} (k2 : Keep q m s0 v2) : Keep q m s0 (peatFirmware v0 v1 v2) := by
  unfold peatFirmware
  exact Keep.ite (State.flag_keep k2) (State.peatPush_keep k2)

theorem execPeatRecordCommit_keep {m s0 v0 v1} (k1 : Keep false m s0 v1) : OutKeep false m s0 (execPeatRecordCommit
    v0 v1) := by
  unfold execPeatRecordCommit
  exact OutKeep.next (State.whenServing_keep k1 (fun x0 h1 => (State.lost_keep (peatCommit_keep h1))))

theorem execPeatFwCmd_keep {q m s0 v0 v1 v2} (k2 : Keep q m s0 v2) : OutKeep q m s0 (execPeatFwCmd v0 v1 v2) := by
  unfold execPeatFwCmd
  exact OutKeep.next (State.whenWorking_keep k2 (fun x0 h1 => (peatFirmware_keep h1)))

end Sys2Proof.Machine
end

