-- ==== Sys2Proof/Laws/KeepPower.lean ====
section
/-!
SUPPORT. Keep for every function of Machine/Power.lean that makes a state.
-/

namespace Sys2Proof.Machine

theorem sensorBreak_keep {q m s0 v0 v1 v2} (k0 : Keep q m s0 v0) : Keep q m s0 (sensorBreak v0 v1 v2) := by
  unfold sensorBreak
  extract_lets a0 a1
  have h2 : Keep q m s0 a1 := State.setFld_keep (State.setBit_keep k0)
  exact State.raise_keep (State.setBit_keep h2)

theorem sensorStore_keep {q m s0 v0 v1 v2} (k1 : Keep q m s0 v1) : Keep q m s0 (sensorStore v0 v1 v2) := by
  unfold sensorStore
  extract_lets a0 a1 a2 a3 a4 a5
  have h6 : Keep q m s0 a2 := State.setFld_keep k1
  exact Keep.set_pwr h6 (by exact id)

theorem sensorJudge_keep {q m s0 v0 v1} (k0 : Keep q m s0 v0) : Keep q m s0 (sensorJudge v0 v1) := by
  unfold sensorJudge
  extract_lets a0 a1
  exact Keep.ite k0 (Keep.ite (sensorBreak_keep k0) (Keep.ite (sensorBreak_keep k0) k0))

theorem sensorDisagree_keep {q m s0 v0 v1} (k0 : Keep q m s0 v0) : Keep q m s0 (sensorDisagree v0 v1) := by
  unfold sensorDisagree
  exact Keep.ite (sensorBreak_keep k0) k0

theorem avsWrite_keep {q m s0 v0} (k0 : Keep q m s0 v0) : Keep q m s0 (avsWrite v0) := by
  unfold avsWrite
  extract_lets a0 a1
  have h2 : Keep q m s0 a0 := State.setFld_keep k0
  exact Keep.ite k0 (Keep.set_pwr h2 (by exact id))

theorem tempRecord_keep {q m s0 v0 v1} (k1 : Keep q m s0 v1) : Keep q m s0 (tempRecord v0 v1) := by
  unfold tempRecord
  extract_lets a0
  exact State.peatPush_keep k1

theorem bandShow_keep {q m s0 v0} (k0 : Keep q m s0 v0) : Keep q m s0 (bandShow v0) := by
  unfold bandShow
  extract_lets a0 a1 a2 a3 a4
  have h5 : Keep q m s0 a2 := State.raise_keep (State.setFld_keep k0)
  have h6 : Keep q m s0 a3 := Keep.foldl h5 (fun x7 h8 _ => (State.setStream_keep h8))
  have h10 : Keep q m s0 a4 := tempRecord_keep h6
  exact Keep.ite k0 (State.cond_keep h10 (fun x11 h12 => (avsWrite_keep h12)))

theorem runsFault_keep {q m s0 v0} (k0 : Keep q m s0 v0) : Keep q m s0 (runsFault v0) := by
  unfold runsFault
  extract_lets a0 a1
  have h2 : Keep q m s0 a0 := eraseKeys_keep (showRunActive_keep k0)
  have h3 : Keep q m s0 a1 := Keep.set_recQ h2 (fun _ => rfl)
  exact (Keep.foldl h3 (fun x4 h5 _ => (by
      extract_lets a7
      exact (State.setStream_keep h5))))

theorem loopShut_keep {q m s0 v0 v1} (k0 : Keep q m s0 v0) : Keep q m s0 (loopShut v0 v1) := by
  unfold loopShut
  exact Keep.ite k0 (State.setFld_keep k0)

theorem dramLose_keep {m s0 v0} (k0 : Keep false m s0 v0) : Keep false m s0 (dramLose v0) := by
  unfold dramLose
  extract_lets a0
  have h1 : Keep false m s0 a0 := State.forget_keep k0
  exact Keep.set_dramEpoch h1 (Nat.le_succ _)

theorem thermalShutdown_keep {s0 v0 v1 v2} (k2 : Keep false false s0 v2) : Keep false false s0 (thermalShutdown v0 v1
    v2) := by
  unfold thermalShutdown
  extract_lets a0 a1 a2 a3 a4 a5 a6 a7 a8
  have h9 : Keep false false s0 a1 := Keep.set_pwr k2 (fun _ => rfl)
  have h10 : Keep false false s0 a2 := runsFault_keep h9
  have h11 : Keep false false s0 a3 := Keep.foldl h10 (fun x12 h13 _ => (blkAssert_keep h13))
  have h15 : Keep false false s0 a4 := Keep.foldl h11 (fun x16 h17 _ => (loopShut_keep h17))
  have h19 : Keep false false s0 a5 := lastFrames_keep h15
  have h20 : Keep false false s0 a6 := eventDeliver_keep (State.raise_keep h19)
  have h21 : Keep false false s0 a7 := State.peatPush_keep h20
  have h22 : Keep false false s0 a8 := setMode_keep (dramLose_keep h21)
  exact peatFlush_keep h22

theorem judgeIsland_keep {q m s0 v0 v1} (k0 : Keep q m s0 v0) : Keep q m s0 (judgeIsland v0 v1) := by
  unfold judgeIsland
  extract_lets a0 a1 a2 a3 a4 a5 a6 a7
  have h8 : Keep q m s0 a7 := Keep.set_pwr k0 (by exact id)
  exact State.cond_keep h8 (fun x9 h10 => (State.raise_keep (State.flag_keep h10)))

theorem tempConvert_keep {s0 v0 v1} (k1 : Keep false false s0 v1) : Keep false false s0 (tempConvert v0 v1) := by
  unfold tempConvert
  extract_lets a0 a1 a2 a3 a4 a5 a6 a7 a8
  have h9 : Keep false false s0 a0 := Keep.foldl k1 (fun x10 h11 _ => (sensorStore_keep h11))
  have h13 : Keep false false s0 a1 := Keep.foldl h9 (fun x14 h15 _ => (sensorJudge_keep h15))
  have h17 : Keep false false s0 a2 := Keep.foldl h13 (fun x18 h19 _ => (sensorDisagree_keep h19))
  have h21 : Keep false false s0 a5 := State.setFld_keep (State.setFld_keep h17)
  have h22 : Keep false false s0 a6 := Keep.foldl h21 (fun x23 h24 _ => (judgeIsland_keep h24))
  have h26 : Keep false false s0 a7 := State.setBit_keep h22
  have h27 : Keep false false s0 a8 := bandShow_keep h26
  exact Keep.ite (thermalShutdown_keep h27) h27

theorem levelShow_keep {q m s0 v0} (k0 : Keep q m s0 v0) : Keep q m s0 (levelShow v0) := by
  unfold levelShow
  extract_lets a0 a1 a2 a3 a4
  have h5 : Keep q m s0 a3 := State.setBit_keep (State.setFld_keep k0)
  have h6 : Keep q m s0 a4 := State.setFld_keep h5
  exact Keep.ite k0 (tempRecord_keep (State.raise_keep h6))

theorem throttleEval_keep {q m s0 v0} (k0 : Keep q m s0 v0) : Keep q m s0 (throttleEval v0) := by
  unfold throttleEval
  extract_lets a0 a1 a2 a3 a4 a5 a6 a7 a8
  clear_value a2 a5 a6 a7
  split
  · next b9 b10 b11 b12 =>
    extract_lets a13 a14 a15 a16
    have h17 : Keep q m s0 a13 := Keep.set_pwr k0 (by exact id)
    have h18 : Keep q m s0 a14 := State.setFld_keep h17
    have h19 : Keep q m s0 a15 := State.setFld_keep h18
    have h20 : Keep q m s0 a16 := State.cond_keep h19 (fun x21 h22 => (State.raise_keep (State.flag_keep h22)))
    exact levelShow_keep (State.setFld_keep h20)

theorem threshWrite_keep {q m s0 v0 v1} (k1 : Keep q m s0 v1) : Keep q m s0 (threshWrite v0 v1) := by
  unfold threshWrite
  extract_lets a0 a1 a2 a3
  exact State.setReg_keep k1

theorem aonShow_keep {q m s0 v0} (k0 : Keep q m s0 v0) : Keep q m s0 (aonShow v0) := by
  unfold aonShow
  extract_lets a0
  exact State.setBit_keep (State.setBit_keep (State.setBit_keep k0))

theorem aonSwitch_keep {q m s0 v0 v1} (k1 : Keep q m s0 v1) : Keep q m s0 (aonSwitch v0 v1) := by
  unfold aonSwitch
  extract_lets a0
  exact Keep.ite k1 (State.raise_keep (State.satInc_keep (Keep.set_pwr k1 (by exact id))))

theorem vaonA_keep {q m s0 v0 v1} (k1 : Keep q m s0 v1) : Keep q m s0 (vaonA v0 v1) := by
  unfold vaonA
  extract_lets a0 a1
  have h2 : Keep q m s0 a1 := Keep.set_pwr k1 (by exact id)
  exact aonShow_keep (Keep.ite (aonSwitch_keep h2) (State.cond_keep h2 (fun x3 h4 => (aonSwitch_keep h4))))

theorem vaonB_keep {q m s0 v0 v1} (k1 : Keep q m s0 v1) : Keep q m s0 (vaonB v0 v1) := by
  unfold vaonB
  extract_lets a0 a1
  have h2 : Keep q m s0 a1 := Keep.set_pwr k1 (by exact id)
  exact aonShow_keep (State.cond_keep h2 (fun x3 h4 => (aonSwitch_keep h4)))

theorem execTempConversion_keep {s0 v0 v1 v2} (k2 : Keep false false s0 v2) : OutKeep false false s0
    (execTempConversion v0 v1 v2) := by
  unfold execTempConversion
  exact (OutKeep.next (State.whenServing_keep k2 (fun x0 h1 => (by
      extract_lets a2 a3 a4 a5
      have h6 : Keep false false s0 a2 := State.reach_keep h1
      have h7 : Keep false false s0 a4 := Keep.set_pwr h6 (by exact id)
      have h8 : Keep false false s0 a5 := tempConvert_keep (State.lost_keep h7)
      exact (State.cond_keep h8 (fun x9 h10 => (State.satInc_keep h10)))))))

theorem execThrottleEvaluation_keep {q m s0 v0 v1} (k1 : Keep q m s0 v1) : OutKeep q m s0 (execThrottleEvaluation v0
    v1) := by
  unfold execThrottleEvaluation
  exact (OutKeep.next (State.whenServing_keep k1 (fun x0 h1 => (by
      extract_lets a2 a3 a4
      have h5 : Keep q m s0 a2 := State.reach_keep h1
      have h6 : Keep q m s0 a4 := Keep.set_pwr h5 (by exact id)
      exact (throttleEval_keep (State.lost_keep h6))))))

theorem execPwrThreshWrite_keep {q m s0 v0 v1 v2} (k2 : Keep q m s0 v2) : OutKeep q m s0 (execPwrThreshWrite v0 v1
    v2) := by
  unfold execPwrThreshWrite
  exact OutKeep.next (State.whenWorking_keep k2 (fun x0 h1 => (State.lost_keep (threshWrite_keep h1))))

theorem execTempLogSample_keep {q m s0 v0} (k0 : Keep q m s0 v0) : OutKeep q m s0 (execTempLogSample v0) := by
  unfold execTempLogSample
  exact (OutKeep.next (State.whenServing_keep k0 (fun x0 h1 => (by
      extract_lets a2 a3 a4
      have h5 : Keep q m s0 a3 := State.reach_keep h1
      exact (Keep.ite h1 (tempRecord_keep (Keep.set_pwr h5 (by exact id))))))))

theorem execAvsReadback_keep {q m s0 v0 v1 v2} (k2 : Keep q m s0 v2) : OutKeep q m s0 (execAvsReadback v0 v1 v2) := by
  unfold execAvsReadback
  exact (OutKeep.next (State.whenServing_keep k2 (fun x0 h1 => (by
      split
      · next b2 b3 =>
        exact h1
      · next b4 b5 b6 =>
        extract_lets a7 a8 a9 a10 a11 a12
        have h13 : Keep q m s0 a7 := State.reach_keep h1
        have h14 : Keep q m s0 a9 := Keep.set_pwr h13 (by exact id)
        have h15 : Keep q m s0 a11 := State.cond_keep h14 (fun x16 h17 => (State.setFld_keep h17))
        exact (State.cond_keep h15 (fun x18 h19 => (State.raise_keep (State.flag_keep h19))))))))

theorem execDramRefresh_keep {q m s0 v0 v1} (k1 : Keep q m s0 v1) : OutKeep q m s0 (execDramRefresh v0 v1) := by
  unfold execDramRefresh
  exact (OutKeep.next (State.whenServing_keep k1 (fun x0 h1 => (by
      extract_lets a2 a3
      have h4 : Keep q m s0 a3 := Keep.set_pwr h1 (by exact id)
      exact (State.lost_keep (State.emit_keep h4))))))

theorem execVaonALoss_keep {q m s0 v0} (k0 : Keep q m s0 v0) : OutKeep q m s0 (execVaonALoss v0) := by
  unfold execVaonALoss
  exact OutKeep.next (vaonA_keep k0)

theorem execVaonAReturn_keep {q m s0 v0} (k0 : Keep q m s0 v0) : OutKeep q m s0 (execVaonAReturn v0) := by
  unfold execVaonAReturn
  exact OutKeep.next (vaonA_keep k0)

theorem execVaonBLoss_keep {q m s0 v0} (k0 : Keep q m s0 v0) : OutKeep q m s0 (execVaonBLoss v0) := by
  unfold execVaonBLoss
  exact OutKeep.next (vaonB_keep k0)

theorem execVaonBReturn_keep {q m s0 v0} (k0 : Keep q m s0 v0) : OutKeep q m s0 (execVaonBReturn v0) := by
  unfold execVaonBReturn
  exact OutKeep.next (vaonB_keep k0)

end Sys2Proof.Machine
end

