-- ==== Sys2Proof/Laws/KeepRunner.lean ====
section
/-!
SUPPORT. Keep for every function of Machine/Runner.lean that makes a state.
-/

namespace Sys2Proof.Machine

theorem State.onRunner_keep {q m s0 v0 v1} (k0 : Keep q m s0 v0) : Keep q m s0 (State.onRunner v0 v1) := by
  unfold State.onRunner
  exact Keep.set_runner k0

theorem linkFree_keep {q m s0 v0 v1 v2} (k2 : Keep q m s0 v2) : Keep q m s0 (linkFree v0 v1 v2) := by
  unfold linkFree
  extract_lets a0 a1 a2
  exact State.setLink_keep k2

theorem linkAck_keep {q m s0 v0 v1 v2} (k2 : Keep q m s0 v2) : Keep q m s0 (linkAck v0 v1 v2) := by
  unfold linkAck
  exact linkDrain_keep (linkFree_keep k2)

theorem linkReceive_keep {q m s0 v0 v1 v2} (k1 : ∀ y1, Keep q m s0 y1 → Keep q m s0 (v1 y1)) (k2 : Keep q m s0 v2) :
    Keep q m s0 (linkReceive v0 v1 v2) := by
  unfold linkReceive
  extract_lets a0 a1
  have h2 : Keep q m s0 a0 := linkAck_keep k2
  exact Keep.ite k2 (Keep.ite (idleOut_keep (k1 _ (State.setLink_keep h2))) (idleOut_keep h2))

theorem relay_keep {q m s0 v0 v1 v2} (k2 : Keep q m s0 v2) : Keep q m s0 (relay v0 v1 v2) := by
  unfold relay
  exact Keep.ite k2 (linkSend_keep k2)

theorem receiveAll_keep {q m s0 v0 v1 v2 v3} (k2 : ∀ y1, Keep q m s0 y1 → Keep q m s0 (v2 y1)) (k3 : Keep q m s0 v3)
    : Keep q m s0 (receiveAll v0 v1 v2 v3) := by
  unfold receiveAll
  exact linkReceive_keep (fun x0 h1 => (Keep.ite h1 (relay_keep (State.cond_keep h1 k2)))) k3

theorem receiveOne_keep {q m s0 v0 v1 v2 v3} (k2 : ∀ y1, Keep q m s0 y1 → Keep q m s0 (v2 y1)) (k3 : Keep q m s0 v3)
    : Keep q m s0 (receiveOne v0 v1 v2 v3) := by
  unfold receiveOne
  exact linkReceive_keep (fun x0 h1 => (Keep.ite (State.cond_keep h1 k2) (relay_keep h1))) k3

theorem ringShow_keep {q m s0 v0} (k0 : Keep q m s0 v0) : Keep q m s0 (ringShow v0) := by
  unfold ringShow
  extract_lets a0 a1 a2 a3 a4 a5 a6 a7
  exact State.setFld_keep (State.setBit_keep (State.setFld_keep k0))

theorem heardTidy_keep {q m s0 v0} (k0 : Keep q m s0 v0) : Keep q m s0 (heardTidy v0) := by
  unfold heardTidy
  exact State.onRunner_keep k0

theorem announce_keep {q m s0 v0} (k0 : Keep q m s0 v0) : Keep q m s0 (announce v0) := by
  unfold announce
  extract_lets a0
  exact linkSend_keep (linkSend_keep k0)

theorem duplicate_keep {q m s0 v0 v1} (k1 : Keep q m s0 v1) : Keep q m s0 (duplicate v0 v1) := by
  unfold duplicate
  exact State.onRunner_keep (State.raise_keep (State.flag_keep k1))

theorem hear_keep {q m s0 v0 v1 v2 v3 v4 v5} (k5 : Keep q m s0 v5) : Keep q m s0 (hear v0 v1 v2 v3 v4 v5) := by
  unfold hear
  extract_lets a0 a1 a2 a3 a4 a5
  exact ringShow_keep (heardTidy_keep (State.onRunner_keep k5))

theorem linkUp_keep {q m s0 v0 v1 v2 v3} (k3 : Keep q m s0 v3) : Keep q m s0 (linkUp v0 v1 v2 v3) := by
  unfold linkUp
  extract_lets a0 a1 a2 a3 a4 a5
  have h6 : Keep q m s0 a2 := State.setLink_keep k3
  have h7 : Keep q m s0 a3 := State.setFld_keep (State.setBit_keep (State.setFld_keep h6))
  have h8 : Keep q m s0 a4 := State.cond_keep (State.raise_keep h7) (fun x9 h10 => (State.raise_keep h10))
  have h11 : Keep q m s0 a5 := State.cond_keep h8 (fun x12 h13 => (duplicate_keep h13))
  exact Keep.ite k3 (announce_keep (ringShow_keep h11))

theorem fwdAgain_keep {q m s0 v0} (k0 : Keep q m s0 v0) : Keep q m s0 (fwdAgain v0) := by
  unfold fwdAgain
  exact Keep.foldl k0 (fun x0 h1 _ => (State.cond_keep h1 (fun x3 h4 => (State.setStream_keep h4))))

theorem linkDown_keep {q m s0 v0 v1 v2} (k2 : Keep q m s0 v2) : Keep q m s0 (linkDown v0 v1 v2) := by
  unfold linkDown
  extract_lets a0 a1 a2 a3 a4 a5 a6
  have h7 : Keep q m s0 a2 := State.setBit_keep (State.setLink_keep k2)
  have h8 : Keep q m s0 a3 := State.raise_keep (State.cond_keep h7 (fun x9 h10 => (State.flag_keep h10)))
  have h11 : Keep q m s0 a4 := State.onRunner_keep h8
  have h12 : Keep q m s0 a5 := announce_keep (ringShow_keep (heardTidy_keep (linkTrain_keep h11)))
  exact Keep.ite k2 (fwdAgain_keep (Keep.foldl h12 (fun x13 h14 _ => (unicast_keep h14))))

theorem runCfgWritten_keep {q m s0 v0} (k0 : Keep q m s0 v0) : Keep q m s0 (runCfgWritten v0) := by
  unfold runCfgWritten
  exact Keep.ite (Keep.foldl k0 (fun x0 h1 _ => (linkTrain_keep h1))) (Keep.foldl k0 (fun x3 h4 _ => (linkTrain_keep
      (linkDown_keep h4))))

theorem trigArrives_keep {q m s0 v0 v1 v2 v3} (k3 : Keep q m s0 v3) : Keep q m s0 (trigArrives v0 v1 v2 v3) := by
  unfold trigArrives
  exact Keep.ite (State.raise_keep (State.raise_keep (State.satInc_keep k3))) (State.onRunner_keep k3)

theorem trigSend_keep {q m s0 v0 v1 v2} (k2 : Keep q m s0 v2) : Keep q m s0 (trigSend v0 v1 v2) := by
  unfold trigSend
  extract_lets a0 a1
  have h2 : Keep q m s0 a0 := State.wrapInc_keep k2
  exact Keep.foldl h2 (fun x3 h4 _ => (Keep.ite h4 (Keep.ite (State.onRunner_keep h4) (unicast_keep h4))))

theorem speedShare_keep {q m s0 v0} (k0 : Keep q m s0 v0) : Keep q m s0 (speedShare v0) := by
  unfold speedShare
  extract_lets a0 a1 a2 a3 a4
  exact Keep.ite k0 (State.onRunner_keep (broadcast_keep k0))

theorem posShare_keep {q m s0 v0} (k0 : Keep q m s0 v0) : Keep q m s0 (posShare v0) := by
  unfold posShare
  extract_lets a0 a1 a2 a3 a4 a5 a6 a7
  have h8 : Keep q m s0 a2 := State.reach_keep k0
  have h9 : Keep q m s0 a6 := broadcast_keep h8
  have h10 : Keep q m s0 a7 := (by
      unfold a7
      clear_value a4
      split
      · next b11 b12 =>
        exact broadcast_keep h9
      · next b13 =>
        exact h9)
  exact Keep.ite k0 (speedShare_keep (State.onRunner_keep h10))

theorem posPublish_keep {q m s0 v0 v1 v2} (k2 : Keep q m s0 v2) : Keep q m s0 (posPublish v0 v1 v2) := by
  unfold posPublish
  extract_lets a0 a1 a2 a3 a4 a5 a6
  have h7 : Keep q m s0 a1 := dirShow_keep (State.setSreg64_keep k2)
  have h8 : Keep q m s0 a2 := State.setBit_keep (State.setBit_keep h7)
  have h9 : Keep q m s0 a6 := State.setEnc_keep h8
  exact publish_keep h9

theorem posTake_keep {q m s0 v0 v1 v2} (k2 : Keep q m s0 v2) : Keep q m s0 (posTake v0 v1 v2) := by
  unfold posTake
  split
  · next b0 b1 =>
    exact k2
  · next b2 b3 b4 =>
    split
    · next b5 b6 b7 b8 b9 b10 b11 b12 =>
      extract_lets a13 a14
      have h15 : Keep q m s0 a14 := State.onRunner_keep k2
      exact Keep.ite (State.onRunner_keep h15) (posPublish_keep h15)
    · next b16 b17 =>
      split
      · next b18 b19 b20 =>
        extract_lets a21
        have h22 : Keep q m s0 a21 := State.onRunner_keep k2
        exact posPublish_keep h22
      · next b23 b24 =>
        exact k2
    · next b25 b26 b27 b28 b29 b30 =>
      extract_lets a31 a32 a33 a34 a35
      have h36 : Keep q m s0 a32 := State.wrapInc_keep (State.setReg_keep (noteSpeed_keep k2))
      have h37 : Keep q m s0 a33 := State.setBit_keep (State.setBit_keep h36)
      have h38 : Keep q m s0 a34 := State.setBit_keep (State.setBit_keep h37)
      have h39 : Keep q m s0 a35 := State.cond_keep h38 (fun x40 h41 => (State.raise_keep (State.setBit_keep h41)))
      exact State.cond_keep h39 (fun x42 h43 => (sendItem_keep h43))

theorem posArrives_keep {q m s0 v0 v1 v2 v3} (k3 : Keep q m s0 v3) : Keep q m s0 (posArrives v0 v1 v2 v3) := by
  unfold posArrives
  exact (Keep.foldl k3 (fun x0 h1 _ => (by
      extract_lets a3
      exact (Keep.ite (posTake_keep h1) h1))))

theorem posTimeout_keep {q m s0 v0 v1} (k1 : Keep q m s0 v1) : Keep q m s0 (posTimeout v0 v1) := by
  unfold posTimeout
  split
  · next b0 b1 =>
    exact k1
  · next b2 b3 b4 =>
    extract_lets a5 a6
    have h7 : Keep q m s0 a5 := State.reach_keep k1
    exact publish_keep h7

theorem rmtEnd_keep {q m s0 v0 v1 v2} (k2 : Keep q m s0 v2) : Keep q m s0 (rmtEnd v0 v1 v2) := by
  unfold rmtEnd
  extract_lets a0 a1
  have h2 : Keep q m s0 a1 := State.setBit_keep (State.setFld_keep k2)
  exact State.raise_keep (State.onRunner_keep h2)

theorem rmtGo_keep {q m s0 v0 v1 v2 v3} (k3 : Keep q m s0 v3) : Keep q m s0 (rmtGo v0 v1 v2 v3) := by
  unfold rmtGo
  exact (Keep.ite k3 (by
      split
      · next b0 b1 =>
        exact rmtEnd_keep k3
      · next b2 b3 b4 b5 =>
        extract_lets a6 a7 a8 a9 a10
        have h11 : Keep q m s0 a9 := State.setBit_keep k3
        have h12 : Keep q m s0 a10 := State.onRunner_keep h11
        exact (Keep.ite (Keep.foldl h12 (fun x13 h14 _ => (unicast_keep h14))) (unicast_keep h12))))

theorem rmtAnswer_keep {q m s0 v0 v1 v2 v3} (k3 : Keep q m s0 v3) : Keep q m s0 (rmtAnswer v0 v1 v2 v3) := by
  unfold rmtAnswer
  exact Keep.ite (unicast_keep k3) (Keep.foldl k3 (fun x0 h1 _ => (unicast_keep h1)))

theorem rmtServe_keep {m s0 v0 v1 v2 v3 v4 v5 v6} (k6 : Keep false m s0 v6) : Keep false m s0 (rmtServe v0 v1 v2 v3
    v4 v5 v6) := by
  unfold rmtServe
  extract_lets a0 a1 a2 a3 a4 a5
  have h6 : Keep false m s0 a3 := Keep.ite (exchWrite_keep k6) (exchNote_keep (Keep.set_freeCtr k6 (Nat.le_add_right
      _ _)))
  have h7 : Keep false m s0 a5 := State.cond_keep h6 (fun x8 h9 => (exchCollided_keep h9))
  exact Keep.ite (rmtAnswer_keep k6) (rmtAnswer_keep h7)

theorem rmtArrives_keep {m s0 v0 v1 v2 v3 v4 v5 v6} (k6 : Keep false m s0 v6) : Keep false m s0 (rmtArrives v0 v1 v2
    v3 v4 v5 v6) := by
  unfold rmtArrives
  extract_lets a0 a1 a2
  exact Keep.ite (Keep.ite (State.onRunner_keep k6) (rmtServe_keep (State.onRunner_keep k6))) (rmtServe_keep k6)

theorem rmtLate_keep {q m s0 v0 v1} (k1 : Keep q m s0 v1) : Keep q m s0 (rmtLate v0 v1) := by
  unfold rmtLate
  exact State.cond_keep k1 (fun x0 h1 => (State.satInc_keep h1))

theorem rmtResponse_keep {q m s0 v0 v1 v2} (k2 : Keep q m s0 v2) : Keep q m s0 (rmtResponse v0 v1 v2) := by
  unfold rmtResponse
  split
  · next b0 b1 =>
    exact k2
  · next b2 b3 b4 =>
    extract_lets a5 a6 a7
    have h8 : Keep q m s0 a7 := State.cond_keep k2 (fun x9 h10 => (Keep.foldl h10 (fun x11 h12 _ =>
        (State.setReg_keep h12))))
    exact Keep.ite (State.onRunner_keep k2) (rmtEnd_keep h8)

theorem fwdStall_keep {q m s0 v0 v1 v2} (k2 : Keep q m s0 v2) : Keep q m s0 (fwdStall v0 v1 v2) := by
  unfold fwdStall
  extract_lets a0 a1
  exact Keep.ite k2 (State.raise_keep (State.setStream_keep k2))

theorem fwdSend_keep {q m s0 v0 v1} (k1 : Keep q m s0 v1) : Keep q m s0 (fwdSend v0 v1) := by
  unfold fwdSend
  extract_lets a0 a1 a2 a3 a4
  have h5 : Keep q m s0 a3 := fwdStall_keep k1
  exact (Keep.ite k1 (by
      clear_value a0
      split
      · next b6 b7 =>
        exact k1
      · next b8 b9 b10 b11 b12 =>
        extract_lets a13 a14 a15
        have h16 : Keep q m s0 a14 := Keep.foldl h5 (fun x17 h18 _ => (unicast_keep h18))
        exact (Keep.ite (fwdStall_keep k1) (State.setStream_keep h16))))

theorem fwdAcked_keep {m s0 v0 v1 v2 v3} (k3 : Keep false m s0 v3) : Keep false m s0 (fwdAcked v0 v1 v2 v3) := by
  unfold fwdAcked
  extract_lets a0 a1 a2
  have h3 : Keep false m s0 a1 := State.cond_keep k3 (fun x4 h5 => (streamProgress_keep (showRecovering_keep
      (snapStream_keep (drainBytes_keep h5)))))
  exact Keep.ite k3 (State.setStream_keep h3)

theorem fwdArrives_keep {m s0 v0 v1 v2 v3} (k3 : Keep false m s0 v3) : Keep false m s0 (fwdArrives v0 v1 v2 v3) := by
  unfold fwdArrives
  split
  · next b0 b1 =>
    extract_lets a2
    exact Keep.ite (showStarved_keep (fwdPlace_keep (State.setStream_keep k3))) k3
  · next b3 b4 b5 =>
    exact Keep.ite (fwdAcked_keep k3) k3

theorem grantAll_keep {q m s0 v0 v1} (k1 : Keep q m s0 v1) : Keep q m s0 (grantAll v0 v1) := by
  unfold grantAll
  exact Keep.foldl k1 (fun x0 h1 _ => (Keep.ite (fwdAnswer_keep (State.setStream_keep h1)) h1))

theorem execRunnerLinkUp_keep {q m s0 v0 v1 v2 v3} (k3 : Keep q m s0 v3) : OutKeep q m s0 (execRunnerLinkUp v0 v1 v2
    v3) := by
  unfold execRunnerLinkUp
  exact OutKeep.next (linkUp_keep k3)

theorem execRunnerLinkDown_keep {q m s0 v0 v1 v2} (k2 : Keep q m s0 v2) : OutKeep q m s0 (execRunnerLinkDown v0 v1
    v2) := by
  unfold execRunnerLinkDown
  extract_lets a0
  exact OutKeep.next (Keep.ite k2 (State.lost_keep (linkDown_keep (Keep.ite k2 (State.reach_keep k2)))))

theorem execFlitNak_keep {q m s0 v0 v1 v2} (k2 : Keep q m s0 v2) : OutKeep q m s0 (execFlitNak v0 v1 v2) := by
  unfold execFlitNak
  extract_lets a0 a1 a2 a3
  have h4 : Keep q m s0 a0 := linkFree_keep k2
  have h5 : Keep q m s0 a2 := State.setLink_keep h4
  have h6 : Keep q m s0 a3 := State.raise_keep (State.satInc_keep h5)
  exact OutKeep.next (Keep.ite k2 (linkDrain_keep (Keep.foldl h6 (fun x7 h8 _ => (flitOut_keep h8)))))

theorem execRingAnnounce_keep {q m s0 v0 v1 v2 v3 v4} (k4 : Keep q m s0 v4) : OutKeep q m s0 (execRingAnnounce v0 v1
    v2 v3 v4) := by
  unfold execRingAnnounce
  exact (OutKeep.next (linkReceive_keep (fun x0 h1 => (Keep.ite (Keep.ite h1 (duplicate_keep h1)) (by
      extract_lets a2 a3
      have h4 : Keep q m s0 a3 := relay_keep (hear_keep h1)
      exact (State.cond_keep (State.cond_keep h4 (fun x5 h6 => (announce_keep (State.cond_keep h6 (fun x7 h8 =>
          (fwdAgain_keep h8)))))) (fun x9 h10 => (grantAll_keep h10)))))) k4))

theorem execTimeFlit_keep {q m s0 v0 v1 v2} (k2 : Keep q m s0 v2) : OutKeep q m s0 (execTimeFlit v0 v1 v2) := by
  unfold execTimeFlit
  exact (OutKeep.next (receiveAll_keep (fun x0 h1 => (Keep.ite h1 (by
      extract_lets a2 a3 a4
      have h5 : Keep q m s0 a2 := State.lost_keep h1
      have h6 : Keep q m s0 a4 := runnerMeasure_keep (State.onRunner_keep h5)
      exact (setTimeLock_keep h6)))) k2))

theorem execTimeFlitSend_keep {q m s0 v0} (k0 : Keep q m s0 v0) : OutKeep q m s0 (execTimeFlitSend v0) := by
  unfold execTimeFlitSend
  extract_lets a0
  have h1 : Keep q m s0 a0 := State.reach_keep k0
  exact OutKeep.next (Keep.ite (broadcast_keep (State.onRunner_keep h1)) k0)

theorem execRunTrigSend_keep {q m s0 v0 v1 v2 v3} (k3 : Keep q m s0 v3) : OutKeep q m s0 (execRunTrigSend v0 v1 v2
    v3) := by
  unfold execRunTrigSend
  exact OutKeep.next (Keep.ite (State.lost_keep (trigSend_keep k3)) k3)

theorem execTrigFlit_keep {q m s0 v0 v1 v2 v3} (k3 : Keep q m s0 v3) : OutKeep q m s0 (execTrigFlit v0 v1 v2 v3) := by
  unfold execTrigFlit
  exact OutKeep.next (receiveOne_keep (fun x0 h1 => (trigArrives_keep h1)) k3)

theorem execTriggerDue_keep {q m s0 v0} (k0 : Keep q m s0 v0) : OutKeep q m s0 (execTriggerDue v0) := by
  unfold execTriggerDue
  exact (OutKeep.next (State.whenWorking_keep k0 (fun x0 h1 => (by
      split
      · next b2 b3 =>
        exact h1
      · next b4 b5 b6 =>
        exact (State.raise_keep (State.onRunner_keep (State.reach_keep h1)))))))

theorem execSpeedWindowEnd_keep {q m s0 v0 v1 v2} (k2 : Keep q m s0 v2) : OutKeep q m s0 (execSpeedWindowEnd v0 v1
    v2) := by
  unfold execSpeedWindowEnd
  exact (OutKeep.next (State.whenWorking_keep k2 (fun x0 h1 => (by
      extract_lets a2
      have h3 : Keep q m s0 a2 := windowEnd_keep (State.lost_keep h1)
      exact (State.cond_keep h3 (fun x4 h5 => (speedShare_keep h5)))))))

theorem execPosShareSend_keep {q m s0 v0} (k0 : Keep q m s0 v0) : OutKeep q m s0 (execPosShareSend v0) := by
  unfold execPosShareSend
  exact OutKeep.next (Keep.ite (posShare_keep k0) k0)

theorem execPosFlit_keep {q m s0 v0 v1 v2 v3} (k3 : Keep q m s0 v3) : OutKeep q m s0 (execPosFlit v0 v1 v2 v3) := by
  unfold execPosFlit
  exact OutKeep.next (receiveAll_keep (fun x0 h1 => (posArrives_keep h1)) k3)

theorem execSharedPosTimeout_keep {q m s0 v0 v1} (k1 : Keep q m s0 v1) : OutKeep q m s0 (execSharedPosTimeout v0 v1)
    := by
  unfold execSharedPosTimeout
  exact OutKeep.next (State.whenWorking_keep k1 (fun x0 h1 => (posTimeout_keep h1)))

theorem execRmtRead_keep {q m s0 v0 v1 v2} (k2 : Keep q m s0 v2) : OutKeep q m s0 (execRmtRead v0 v1 v2) := by
  unfold execRmtRead
  exact OutKeep.next (State.whenWorking_keep k2 (fun x0 h1 => (rmtGo_keep h1)))

theorem execRmtWrite_keep {q m s0 v0 v1 v2} (k2 : Keep q m s0 v2) : OutKeep q m s0 (execRmtWrite v0 v1 v2) := by
  unfold execRmtWrite
  exact OutKeep.next (State.whenWorking_keep k2 (fun x0 h1 => (rmtGo_keep h1)))

theorem execRmtReq_keep {m s0 v0 v1 v2 v3 v4 v5 v6} (k6 : Keep false m s0 v6) : OutKeep false m s0 (execRmtReq v0 v1
    v2 v3 v4 v5 v6) := by
  unfold execRmtReq
  exact OutKeep.next (receiveOne_keep (fun x0 h1 => (rmtArrives_keep h1)) k6)

theorem execRmtRsp_keep {q m s0 v0 v1 v2 v3 v4} (k4 : Keep q m s0 v4) : OutKeep q m s0 (execRmtRsp v0 v1 v2 v3 v4) :=
    by
  unfold execRmtRsp
  exact OutKeep.next (receiveOne_keep (fun x0 h1 => (Keep.ite (State.lost_keep (rmtResponse_keep h1)) (rmtLate_keep
      h1))) k4)

theorem execRmtTimeout_keep {q m s0 v0 v1} (k1 : Keep q m s0 v1) : OutKeep q m s0 (execRmtTimeout v0 v1) := by
  unfold execRmtTimeout
  exact (OutKeep.next (State.whenWorking_keep k1 (fun x0 h1 => (by
      split
      · next b2 b3 =>
        exact h1
      · next b4 b5 b6 =>
        exact (State.lost_keep (rmtEnd_keep (State.reach_keep h1)))))))

theorem execRecordForwardSend_keep {q m s0 v0 v1} (k1 : Keep q m s0 v1) : OutKeep q m s0 (execRecordForwardSend v0
    v1) := by
  unfold execRecordForwardSend
  exact OutKeep.next (Keep.ite (fwdSend_keep k1) k1)

theorem execFwdFlit_keep {m s0 v0 v1 v2 v3 v4} (k4 : Keep false m s0 v4) : OutKeep false m s0 (execFwdFlit v0 v1 v2
    v3 v4) := by
  unfold execFwdFlit
  exact OutKeep.next (receiveOne_keep (fun x0 h1 => (State.lost_keep (fwdArrives_keep h1))) k4)

theorem execFlitReceiveError_keep {q m s0 v0 v1 v2} (k2 : Keep q m s0 v2) : OutKeep q m s0 (execFlitReceiveError v0
    v1 v2) := by
  unfold execFlitReceiveError
  exact OutKeep.next (Keep.ite k2 (idleOut_keep (State.cond_keep k2 (fun x0 h1 => (State.satInc_keep h1)))))

theorem execBadFlitType_keep {q m s0 v0 v1} (k1 : Keep q m s0 v1) : OutKeep q m s0 (execBadFlitType v0 v1) := by
  unfold execBadFlitType
  exact OutKeep.next (linkReceive_keep (fun x0 h1 => (State.satInc_keep h1)) k1)

theorem execIdleFlit_keep {q m s0 v0 v1 v2} (k2 : Keep q m s0 v2) : OutKeep q m s0 (execIdleFlit v0 v1 v2) := by
  unfold execIdleFlit
  exact OutKeep.next (Keep.ite (linkAck_keep k2) k2)

end Sys2Proof.Machine
end

