-- ==== Sys2Proof/Laws/KeepScripts.lean ====
section
/-!
SUPPORT. Keep for every function of Machine/Scripts.lean that makes a state.
-/

namespace Sys2Proof.Machine

theorem scriptSettle_keep {q m s0 v0 v1} (k1 : Keep q m s0 v1) : Keep q m s0 (scriptSettle v0 v1) := by
  unfold scriptSettle
  split
  · next b0 b1 =>
    exact readyCheck_keep (imgReady_keep k1)
  · next b2 b3 =>
    exact tpReady_keep k1
  · next b4 b5 =>
    exact lampScriptSettle_keep (State.cond_keep k1 (fun x6 h7 => (lampScriptFrame_keep h7)))

theorem scriptStep_keep {q m s0 v0 v1 v2} (k1 : ∀ y1 y2, Keep q m s0 y2 → Keep q m s0 (v1 y1 y2)) (k2 : Keep q m s0
    v2) : Keep q m s0 (scriptStep v0 v1 v2) := by
  unfold scriptStep
  exact State.whenWorking_keep k2 (fun x0 h1 => (scriptSettle_keep (k1 _ _ h1)))

theorem scriptOpen_keep {q m s0 v0 v1 v2} (k1 : ∀ y1 y2, Keep q m s0 y2 → Keep q m s0 (v1 y1 y2)) (k2 : Keep q m s0
    v2) : Keep q m s0 (scriptOpen v0 v1 v2) := by
  unfold scriptOpen
  exact Keep.ite (scriptStep_keep k1 k2) k2

theorem execScriptPhaseRunStop_keep {q m s0 v0 v1} (k1 : Keep q m s0 v1) : OutKeep q m s0 (execScriptPhaseRunStop v0
    v1) := by
  unfold execScriptPhaseRunStop
  exact OutKeep.next (State.whenWorking_keep k1 (fun x0 h1 => (Keep.ite (scriptSettle_keep (scriptBegin_keep
      (Keep.set_stopScripts h1 (NatSet.wf_erase _)))) h1)))

theorem execScriptWrite_keep {q m s0 v0 v1} (k1 : Keep q m s0 v1) : OutKeep q m s0 (execScriptWrite v0 v1) := by
  unfold execScriptWrite
  exact OutKeep.next (scriptOpen_keep (fun _ x1 h2 => (scriptStart_keep h2)) k1)

theorem execScriptCheck_keep {q m s0 v0 v1} (k1 : Keep q m s0 v1) : OutKeep q m s0 (execScriptCheck v0 v1) := by
  unfold execScriptCheck
  exact OutKeep.next (scriptOpen_keep (fun _ x1 h2 => (scriptStart_keep h2)) k1)

theorem execScriptPoll_keep {q m s0 v0 v1} (k1 : Keep q m s0 v1) : OutKeep q m s0 (execScriptPoll v0 v1) := by
  unfold execScriptPoll
  exact OutKeep.next (scriptOpen_keep (fun _ x1 h2 => (scriptStart_keep h2)) k1)

theorem execScriptWait_keep {q m s0 v0 v1} (k1 : Keep q m s0 v1) : OutKeep q m s0 (execScriptWait v0 v1) := by
  unfold execScriptWait
  exact OutKeep.next (scriptOpen_keep (fun _ x1 h2 => (scriptWait_keep h2)) k1)

theorem execScriptEnd_keep {q m s0 v0 v1} (k1 : Keep q m s0 v1) : OutKeep q m s0 (execScriptEnd v0 v1) := by
  unfold execScriptEnd
  exact OutKeep.next (scriptOpen_keep (fun _ x1 h2 => (scriptEndOp_keep h2)) k1)

theorem execScriptTransferDone_keep {q m s0 v0 v1 v2 v3} (k3 : Keep q m s0 v3) : OutKeep q m s0
    (execScriptTransferDone v0 v1 v2 v3) := by
  unfold execScriptTransferDone
  exact OutKeep.next (scriptStep_keep (fun _ x1 h2 => (scriptTransferDone_keep h2)) k3)

theorem execScriptPollRetry_keep {q m s0 v0 v1 v2} (k2 : Keep q m s0 v2) : OutKeep q m s0 (execScriptPollRetry v0 v1
    v2) := by
  unfold execScriptPollRetry
  exact OutKeep.next (scriptStep_keep (fun _ x1 h2 => (scriptPollRetry_keep h2)) k2)

theorem execScriptWaitEnd_keep {q m s0 v0 v1} (k1 : Keep q m s0 v1) : OutKeep q m s0 (execScriptWaitEnd v0 v1) := by
  unfold execScriptWaitEnd
  exact OutKeep.next (scriptStep_keep (fun _ x1 h2 => (scriptWaitEnd_keep h2)) k1)

end Sys2Proof.Machine
end

