-- ==== Sys2Proof/Laws/KeepRegs.lean ====
section
/-!
SUPPORT. Keep for every function of Machine/Regs.lean that makes a state.
-/

namespace Sys2Proof.Machine

theorem readReg_keep {q m s0 v0 v1 v2} (k2 : Keep q m s0 v2) : Keep q m s0 (readReg v0 v1 v2).2 := by
  unfold readReg
  extract_lets a0
  split
  · next b1 =>
    clear_value a0
    split
    · next b2 b3 b4 =>
      exact Keep.mk2 (Keep.set_snap k2 (Sparse.wf_put _ _))
    · next b5 b6 =>
      exact Keep.mk2 k2
  · next b7 =>
    split
    · next b8 =>
      clear_value a0
      split
      · next b9 b10 b11 =>
        exact Keep.mk2 k2
      · next b12 b13 =>
        exact Keep.mk2 k2
    · next b14 =>
      exact Keep.mk2 k2

theorem refuseShadow_keep {q m s0 v0 v1 v2 v3} (k3 : Keep q m s0 v3) : Keep q m s0 (refuseShadow v0 v1 v2 v3) := by
  unfold refuseShadow
  extract_lets a0 a1
  have h2 : Keep q m s0 a1 := Keep.set_refusals k3 (Sparse.wf_put _ _)
  split
  · next b3 b4 =>
    exact accessRefused_keep h2
  · next b5 b6 =>
    exact h2

theorem State.restore_keep {q m s0 v0 v1 v2} (k0 : Keep q m s0 v0) : Keep q m s0 (State.restore v0 v1 v2) := by
  unfold State.restore
  exact State.setReg_keep k0

theorem onBit_keep {q m s0 v0 v1 v2 v3} (k2 : ∀ y1, Keep q m s0 y1 → Keep q m s0 (v2 y1)) (k3 : Keep q m s0 v3) :
    Keep q m s0 (onBit v0 v1 v2 v3) := by
  unfold onBit
  exact State.cond_keep k3 k2

theorem posWritten_keep {q m s0 v0 v1 v2} (k2 : Keep q m s0 v2) : Keep q m s0 (posWritten v0 v1 v2) := by
  unfold posWritten
  exact Keep.ite (Keep.ite (onBit_keep (fun x0 h1 => (encCommit_keep h1)) k2) k2) (Keep.ite (Keep.ite (onBit_keep
      (fun x2 h3 => (cmpCommit_keep h3)) k2) k2) (Keep.ite (onBit_keep (fun x4 h5 => (ptCommit_keep h5)) k2) k2))

theorem motWritten_keep {q m s0 v0 v1 v2 v3 v4} (k4 : Keep q m s0 v4) : Keep q m s0 (motWritten v0 v1 v2 v3 v4) := by
  unfold motWritten
  extract_lets a0 a1 a2
  exact Keep.ite (Keep.ite (axFlag_keep (State.restore_keep k4)) k4) (Keep.ite (Keep.ite (onBit_keep (fun x3 h4 =>
      (CommitUnit.commit_keep h4)) k4) (Keep.ite (Keep.ite (axCommand_keep k4) (cmdRefused_keep k4)) k4)) k4)

theorem precWritten_keep {q m s0 v0 v1 v2 v3 v4} (k4 : Keep q m s0 v4) : Keep q m s0 (precWritten v0 v1 v2 v3 v4) :=
    by
  unfold precWritten
  extract_lets a0 a1
  exact Keep.ite (onBit_keep (fun x2 h3 => (calStart_keep h3)) k4) (Keep.ite (precRefWritten_keep k4) (Keep.ite
      (onBit_keep (fun x4 h5 => (measUrgent_keep h5)) (onBit_keep (fun x6 h7 => (measTrigger_keep h7)) (onBit_keep
      (fun x8 h9 => (measCommit_keep h9)) k4))) (Keep.ite (Keep.ite (onBit_keep (fun x10 h11 => (loopCommit_keep
      h11)) k4) (Keep.ite (loopRefresh_keep k4) k4)) k4)))

theorem lampWritten_keep {q m s0 v0 v1 v2 v3 v4} (k4 : Keep q m s0 v4) : Keep q m s0 (lampWritten v0 v1 v2 v3 v4) :=
    by
  unfold lampWritten
  extract_lets a0 a1
  exact Keep.ite k4 (Keep.ite (onBit_keep (fun x2 h3 => (lampCommit_keep h3)) k4) (Keep.ite (lampCfgWritten_keep k4)
      (Keep.ite (tempWritten_keep k4) (Keep.ite (onBit_keep (fun x4 h5 => (lampScriptRun_keep h5)) k4) (Keep.ite
      (onBit_keep (fun x6 h7 => (groupRestore_keep h7)) k4) k4)))))

theorem imgWritten_keep {q m s0 v0 v1 v2 v3 v4 v5} (k5 : Keep q m s0 v5) : Keep q m s0 (imgWritten v0 v1 v2 v3 v4 v5)
    := by
  unfold imgWritten
  exact Keep.ite (onBit_keep (fun x0 h1 => (imgCommit_keep h1)) k5) (Keep.ite (onBit_keep (fun x2 h3 =>
      (scriptRun_keep h3)) k5) (Keep.ite (onBit_keep (fun x4 h5 => (shadingLoad_keep h5)) (onBit_keep (fun x6 h7 =>
      (imgCorCommit_keep h7)) k5)) (Keep.ite (imgFault_keep (State.restore_keep k5)) (Keep.ite (Keep.foldl
      (laneRewidth_keep k5) (fun x8 h9 _ => (State.cond_keep h9 (fun x11 h12 => (portYield_keep h12))))) (Keep.ite
      (State.setFld_keep k5) (Keep.ite (showDual_keep k5) k5))))))

theorem tpWritten_keep {q m s0 v0 v1 v2 v3 v4 v5} (k5 : Keep q m s0 v5) : Keep q m s0 (tpWritten v0 v1 v2 v3 v4 v5)
    := by
  unfold tpWritten
  exact Keep.ite (onBit_keep (fun x0 h1 => (CommitUnit.commit_keep h1)) k5) (Keep.ite (onBit_keep (fun x2 h3 =>
      (scriptRun_keep h3)) k5) (Keep.ite (tpCfgWritten_keep k5) (Keep.ite (tpDriftWritten_keep k5) (Keep.ite
      (defEdit_keep k5) (Keep.ite (onBit_keep (fun x4 h5 => (shutAbortRequest_keep h5)) (onBit_keep (fun x6 h7 =>
      (shutRequest_keep h7)) k5)) k5)))))

theorem tmrWritten_keep {q m s0 v0 v1 v2 v3 v4} (k4 : Keep q m s0 v4) : Keep q m s0 (tmrWritten v0 v1 v2 v3 v4) := by
  unfold tmrWritten
  exact Keep.ite (Keep.ite (onBit_keep (fun x0 h1 => (tmrCommit_keep h1)) k4) k4) (Keep.ite (gpioCfgWritten_keep
      (State.restore_keep k4)) k4)

theorem memWritten_keep {q m s0 v0 v1 v2 v3 v4} (k4 : Keep q m s0 v4) : Keep q m s0 (memWritten v0 v1 v2 v3 v4) := by
  unfold memWritten
  extract_lets a0 a1
  exact (Keep.ite (by
      split
      · next b2 b3 b4 b5 =>
        extract_lets a6
        have h7 : Keep q m s0 a6 := State.setBit_keep (State.setFld_keep (State.restore_keep k4))
        exact (onBit_keep (fun x8 h9 => (marchStart_keep h9)) h7)) (Keep.ite (Keep.ite (vaultAsk_keep k4) (Keep.ite
            (vaultAsk_keep k4) (State.satInc_keep k4))) (Keep.ite (Keep.ite (State.flag_keep (State.restore_keep k4))
            (showFill_keep (State.cond_keep k4 (fun x10 h11 => (State.setFld_keep h11))))) k4)))

theorem dmaWritten_keep {m s0 v0 v1 v2 v3 v4} (k4 : Keep false m s0 v4) : Keep false m s0 (dmaWritten v0 v1 v2 v3 v4)
    := by
  unfold dmaWritten
  extract_lets a0 a1 a2 a3 a4 a5 a6
  have h7 : Keep false m s0 a3 := State.restore_keep k4
  have h8 : Keep false m s0 a4 := chanEnable_keep h7
  have h9 : Keep false m s0 a5 := onBit_keep (fun x10 h11 => (chanStart_keep h11)) h8
  have h12 : Keep false m s0 a6 := onBit_keep (fun x13 h14 => (chanTriggerFrom_keep h14)) h9
  exact Keep.ite k4 (Keep.ite (onBit_keep (fun x15 h16 => (chanCommit_keep h16)) (onBit_keep (fun x17 h18 =>
      (chanAbort_keep h18)) h12)) (Keep.ite (Keep.ite (State.flag_keep (State.restore_keep k4)) k4) k4))

theorem hostBlockWritten_keep {m s0 v0 v1 v2 v3 v4} (k4 : Keep false m s0 v4) : Keep false m s0 (hostBlockWritten v0
    v1 v2 v3 v4) := by
  unfold hostBlockWritten
  exact Keep.ite (Keep.ite (State.flag_keep (State.restore_keep k4)) k4) (Keep.ite (eventRecord_keep k4) (Keep.ite
      (Keep.ite (State.restore_keep k4) (runCfgWritten_keep k4)) (Keep.ite (State.cond_keep k4 (fun x0 h1 =>
      (trigSend_keep h1))) (Keep.ite (onBit_keep (fun x2 h3 => (rmtGo_keep h3)) k4) (Keep.ite (Keep.ite
      (State.restore_keep k4) k4) k4)))))

theorem queueWritten_keep {q m s0 v0 v1 v2 v3 v4 v5} (k5 : Keep q m s0 v5) : Keep q m s0 (queueWritten v0 v1 v2 v3 v4
    v5) := by
  unfold queueWritten
  extract_lets a0 a1 a2 a3 a4 a5 a6 a7 a8
  have h9 : Keep q m s0 a6 := Keep.ite (frondCfgRefused_keep (State.setReg_keep k5)) k5
  have h10 : Keep q m s0 a7 := Keep.foldl h9 (fun x11 h12 _ => (refreshBound_keep h12))
  have h14 : Keep q m s0 a8 := queueFlow_keep h10
  exact Keep.ite (frondCfgRefused_keep (State.restore_keep k5)) (Keep.ite k5 (Keep.ite (queueFlow_keep h14) h14))

theorem frondWritten_keep {m s0 v0 v1 v2 v3 v4 v5 v6} (k6 : Keep false m s0 v6) : Keep false m s0 (frondWritten v0 v1
    v2 v3 v4 v5 v6) := by
  unfold frondWritten
  extract_lets a0 a1
  exact Keep.ite (onBit_keep (fun x2 h3 => (frondHalt_keep h3)) (onBit_keep (fun x4 h5 => (frondStart_keep h5)) k6))
      (Keep.ite (wdogWrite_keep k6) (Keep.ite (wdogKick_keep k6) (Keep.ite (Keep.ite k6 (frondCfgRefused_keep
      (State.restore_keep k6))) (Keep.ite (Keep.ite (queueWritten_keep k6) (Keep.ite (stageRelease_keep k6) k6))
      (Keep.ite (frondWakeBy_keep k6) (Keep.ite (frondWakeBy_keep k6) (Keep.ite (Keep.ite k6 (State.setLine_keep k6))
      (Keep.ite (onBit_keep (fun x6 h7 => (frondEvent_keep h7)) k6) (Keep.ite (onBit_keep (fun x8 h9 =>
      (tuftCommit_keep h9)) k6) k6)))))))))

theorem runWritten_keep {s0 v0 v1 v2 v3 v4} (k4 : Keep false false s0 v4) : Keep false false s0 (runWritten v0 v1 v2
    v3 v4) := by
  unfold runWritten
  extract_lets a0 a1 a2
  have h3 : Keep false false s0 a0 := onBit_keep (fun x4 h5 => (frondAsk_keep (fun x6 h7 => (askStart_keep h7)) h5))
      k4
  have h8 : Keep false false s0 a1 := onBit_keep (fun x9 h10 => (frondAsk_keep (fun x11 h12 => (askStop_keep h12))
      h10)) h3
  have h13 : Keep false false s0 a2 := onBit_keep (fun x14 h15 => (frondAsk_keep (fun x16 h17 => (askAbandon_keep
      h17)) h15)) h8
  exact Keep.ite (Keep.ite (State.setFld_keep h13) (onBit_keep (fun x18 h19 => (frondAsk_keep (fun x20 h21 =>
      (askMaintExit_keep h21)) h19)) (onBit_keep (fun x22 h23 => (frondAsk_keep (fun x24 h25 => (askMaintEnter_keep
      h25)) h23)) h13))) (Keep.ite (devWdogWrite_keep (State.restore_keep k4)) (Keep.ite (devWdogLoad_keep k4) k4))

theorem afterWrite_keep {s0 v0 v1 v2 v3 v4} (k4 : Keep false false s0 v4) : Keep false false s0 (afterWrite v0 v1 v2
    v3 v4) := by
  unfold afterWrite
  extract_lets a0 a1
  split
  · next b2 b3 b4 =>
    exact Keep.ite (posWritten_keep k4) (Keep.ite (motWritten_keep k4) (Keep.ite (precWritten_keep k4) (Keep.ite
        (lampWritten_keep k4) (Keep.ite (imgWritten_keep k4) (Keep.ite (tpWritten_keep k4) (Keep.ite (Keep.ite
        (onBit_keep (fun x5 h6 => (timeSetApply_keep h6)) k4) k4) (Keep.ite (Keep.ite (threshWrite_keep
        (State.restore_keep k4)) k4) (Keep.ite (Keep.ite (trimStart_keep (Keep.set_freeCtr k4 (Nat.le_add_right _
        _))) k4) (Keep.ite (tmrWritten_keep k4) (Keep.ite (memWritten_keep k4) (Keep.ite (dmaWritten_keep k4)
        (Keep.ite (hostBlockWritten_keep k4) (Keep.ite (runWritten_keep k4) (Keep.ite (Keep.ite (peatFirmware_keep
        k4) k4) (Keep.ite (frondWritten_keep k4) k4)))))))))))))))
  · next b7 b8 =>
    exact k4

theorem writeReg_keep {s0 v0 v1 v2 v3 v4 v5} (k5 : Keep false false s0 v5) : Keep false false s0 (writeReg v0 v1 v2
    v3 v4 v5) := by
  unfold writeReg
  extract_lets a0 a1
  clear_value a0
  split
  · next b2 b3 =>
    exact k5
  · next b4 b5 b6 =>
    split
    · next b7 b8 b9 =>
      exact refuseShadow_keep k5
    · next b10 b11 =>
      extract_lets a12 a13 a14
      have h15 : Keep false false s0 a13 := State.setReg_keep k5
      have h16 : Keep false false s0 a14 := State.cond_keep h15 (fun x17 h18 => (State.race_keep h18))
      exact afterWrite_keep h16

theorem readRegs_keep {q m s0 v0 v1 v2 v3} (k3 : Keep q m s0 v3) : Keep q m s0 (readRegs v0 v1 v2 v3).2 := by
  induction v2 generalizing v0 v1 v3 with
  | zero =>
    unfold readRegs
    exact Keep.mk2 k3
  | succ j ih =>
    unfold readRegs
    split
    · next b0 b1 b2 b3 =>
      have h4 : Keep q m s0 b2 := Keep.eq2 (readReg_keep k3) b3
      split
      · next b5 b6 b7 b8 =>
        have h9 : Keep q m s0 b7 := Keep.eq2 (ih h4) b8
        exact Keep.mk2 h9

end Sys2Proof.Machine
end

