-- ==== Sys2Proof/Laws/KeepCalib.lean ====
section
/-!
SUPPORT. Keep for every function of Machine/Calib.lean that makes a state.
-/

namespace Sys2Proof.Machine

theorem calShade_keep {m s0 v0 v1 v2} (k1 : Keep false m s0 v1) : Keep false m s0 (calShade v0 v1 v2) := by
  unfold calShade
  extract_lets a0 a1 a2
  clear_value a0 a2
  split
  · next b3 b4 b5 b6 =>
    extract_lets a7
    have h8 : Keep false m s0 a7 := Keep.ite (imgFault_keep k1) (State.cond_keep k1 (fun x9 h10 => (State.write_keep
        (State.write_keep h10))))
    exact State.cond_keep h8 (fun x11 h12 => (State.raise_keep h12))

theorem calImg_keep {m s0 v0 v1} (k0 : Keep false m s0 v0) : Keep false m s0 (calImg v0 v1) := by
  unfold calImg
  exact showDual_keep (Keep.foldl k0 (fun x0 h1 _ => (calShade_keep h1)))

theorem calEvent_keep {q m s0 v0 v1} (k1 : Keep q m s0 v1) : Keep q m s0 (calEvent v0 v1) := by
  unfold calEvent
  exact State.raise_keep k1

theorem calIdent_keep {q m s0 v0 v1 v2} (k2 : Keep q m s0 v2) : Keep q m s0 (calIdent v0 v1 v2) := by
  unfold calIdent
  extract_lets a0
  exact State.setTp_keep k2

theorem calNuc_keep {m s0 v0 v1 v2} (k1 : Keep false m s0 v1) : Keep false m s0 (calNuc v0 v1 v2) := by
  unfold calNuc
  extract_lets a0 a1
  clear_value a0
  split
  · next b2 b3 b4 b5 =>
    extract_lets a6 a7 a8 a9 a10 a11
    have h12 : Keep false m s0 a8 := Keep.foldl k1 (fun x13 h14 _ => (State.portWrite_keep h14))
    have h16 : Keep false m s0 a11 := State.setTp_keep h12
    exact State.cond_keep h16 (fun x17 h18 => (calEvent_keep h18))

theorem calDrift_keep {q m s0 v0 v1 v2} (k1 : Keep q m s0 v1) : Keep q m s0 (calDrift v0 v1 v2) := by
  unfold calDrift
  extract_lets a0 a1 a2
  have h3 : Keep q m s0 a2 := Keep.foldl k1 (fun x4 h5 _ => (State.setReg_keep h5))
  exact State.cond_keep h3 (fun x7 h8 => (calEvent_keep (calIdent_keep (State.setTp_keep h8))))

theorem calDefects_keep {q m s0 v0 v1} (k0 : Keep q m s0 v0) : Keep q m s0 (calDefects v0 v1) := by
  unfold calDefects
  extract_lets a0 a1 a2 a3 a4
  clear_value a0
  split
  · next b5 =>
    exact k0
  · next b6 b7 b8 =>
    split
    · next b9 b10 =>
      exact calEvent_keep (State.setTp_keep k0)
    · next b11 b12 b13 =>
      extract_lets a14 a15
      clear_value a3 a15
      split
      · next b16 b17 b18 b19 =>
        exact showDefs_keep (State.satInc_keep (State.setTp_keep k0))

theorem calRadio_keep {q m s0 v0 v1 v2} (k1 : Keep q m s0 v1) : Keep q m s0 (calRadio v0 v1 v2) := by
  unfold calRadio
  split
  · next b0 b1 =>
    exact k1
  · next b2 b3 =>
    exact calEvent_keep (calIdent_keep k1)
  · next b4 b5 b6 =>
    extract_lets a7 a8 a9
    have h10 : Keep q m s0 a9 := State.setTp_keep k1
    exact State.cond_keep h10 (fun x11 h12 => (State.setBit_keep h12))

theorem calPlane_keep {q m s0 v0 v1} (k0 : Keep q m s0 v0) : Keep q m s0 (calPlane v0 v1) := by
  unfold calPlane
  extract_lets a0 a1 a2 a3
  clear_value a1 a2
  split
  · next b4 b5 =>
    exact State.setBit_keep k0
  · next b6 b7 =>
    exact calEvent_keep (calIdent_keep (State.setBit_keep k0))
  · next b8 b9 b10 =>
    extract_lets a11 a12 a13 a14 a15
    have h16 : Keep q m s0 a12 := State.setBit_keep (State.setTp_keep k0)
    have h17 : Keep q m s0 a14 := State.setReg_keep (State.setReg_keep (State.setReg_keep h16))
    have h18 : Keep q m s0 a15 := State.setFld_keep h17
    exact State.setBit_keep h18

theorem calTp_keep {m s0 v0 v1} (k0 : Keep false m s0 v0) : Keep false m s0 (calTp v0 v1) := by
  unfold calTp
  extract_lets a0 a1 a2
  have h3 : Keep false m s0 a0 := Keep.foldl k0 (fun x4 h5 _ => (calNuc_keep h5))
  have h7 : Keep false m s0 a1 := Keep.foldl h3 (fun x8 h9 _ => (calDrift_keep h9))
  have h11 : Keep false m s0 a2 := Keep.foldl (calDefects_keep h7) (fun x12 h13 _ => (calRadio_keep h13))
  exact calPlane_keep h11

theorem calLoad_keep {m s0 v0} (k0 : Keep false m s0 v0) : Keep false m s0 (calLoad v0) := by
  unfold calLoad
  exact Keep.foldl (Keep.foldl k0 (fun x0 h1 _ => (calImg_keep h1))) (fun x3 h4 _ => (calTp_keep h4))

end Sys2Proof.Machine
end

