-- ==== Sys2Proof/Laws/KeepBoot.lean ====
section
/-!
SUPPORT. Keep for every function of Machine/Boot.lean that makes a state.
-/

namespace Sys2Proof.Machine

theorem flashFree_keep {m s0 v0 v1 v2} (k2 : Keep false m s0 v2) : Keep false m s0 (flashFree v0 v1 v2) := by
  unfold flashFree
  extract_lets a0
  have h1 : Keep false m s0 a0 := State.write_keep k2
  exact Keep.set_freeCtr h1 (Nat.le_add_right _ _)

theorem flashSet_keep {m s0 v0 v1 v2} (k2 : Keep false m s0 v2) : Keep false m s0 (flashSet v0 v1 v2) := by
  unfold flashSet
  extract_lets a0 a1
  have h2 : Keep false m s0 a0 := State.write_keep k2
  exact Keep.set_boot h2

theorem flashSpoil_keep {m s0 v0 v1 v2} (k2 : Keep false m s0 v2) : Keep false m s0 (flashSpoil v0 v1 v2) := by
  unfold flashSpoil
  extract_lets a0 a1
  have h2 : Keep false m s0 a0 := flashFree_keep k2
  exact Keep.set_boot h2

theorem jobAbandon_keep {m s0 v0} (k0 : Keep false m s0 v0) : Keep false m s0 (jobAbandon v0) := by
  unfold jobAbandon
  extract_lets a0 a1 a2
  have h3 : Keep false m s0 a1 := (by
      unfold a1
      split
      · next b4 b5 b6 b7 =>
        exact flashFree_keep k0
      · next b8 b9 b10 b11 b12 =>
        exact Keep.ite (flashSpoil_keep k0) (flashFree_keep k0)
      · next b13 b14 b15 =>
        exact k0)
  exact Keep.set_boot h3

theorem freshBase_keep {m s0 v0 v2} (k2 : Keep false m s0 v2) : Keep false m s0 (freshBase v0 v2) := by
  refine k2.trans ⟨nofun, fun _ => ⟨rfl, rfl⟩, fun c => ?_, rfl, ⟨[], (List.append_nil _).symm⟩, le_refl _, id, ?_, le_refl _⟩
  · have hm : Sparse.wf unlisted (freshBase v0 v2).mem = true := Sparse.wf_filter _ c.mem
    have hs : Sparse.wf (fun _ => some {}) (freshBase v0 v2).streams = true := by
      unfold freshBase
      cases v0
      · rfl
      · refine Sparse.wfFrom_filterMap _ (fun e r h => ?_) _ 0 c.streams
        dsimp only at h
        split at h
        · cases h
        · next hx =>
          cases h
          exact ⟨rfl, fun q => hx (Option.some.inj q).symm⟩
    exact ⟨rfl, rfl, rfl, rfl, hm, rfl, rfl, rfl, rfl, rfl, rfl, rfl, rfl, rfl, rfl, rfl, rfl, rfl, hs, rfl, rfl, rfl,
      rfl, rfl⟩
  · show v2.dramEpoch ≤ if v0 = true then v2.dramEpoch else v2.dramEpoch + 1
    split
    · exact le_refl _
    · exact Nat.le_succ _

theorem freshState_keep {m s0 v0 v1 v2} (k2 : Keep false m s0 v2) : Keep false m s0 (freshState v0 v1 v2) := by
  unfold freshState
  extract_lets a0 a1 a2
  have h3 : Keep false m s0 a0 := jobAbandon_keep k2
  have h4 : Keep false m s0 a1 := freshBase_keep h3
  have h5 : Keep false m s0 a2 := Keep.foldl h4 (fun x6 h7 _ => (State.setReg_keep h7))
  exact (Keep.ite (Keep.foldl h5 (fun x9 h10 _ => (by
      extract_lets a12
      exact (State.setReg_keep (State.setReg_keep (State.setReg_keep h10)))))) h4)

theorem slotRecordWrite_keep {m s0 v0 v1} (k1 : Keep false m s0 v1) : Keep false m s0 (slotRecordWrite v0 v1) := by
  unfold slotRecordWrite
  split
  · next b0 b1 b2 b3 =>
    extract_lets a4
    exact State.write_keep k1

theorem trustShow_keep {q m s0 v0} (k0 : Keep q m s0 v0) : Keep q m s0 (trustShow v0) := by
  unfold trustShow
  extract_lets a0 a1 a2 a3 a4 a5 a6
  have h7 : Keep q m s0 a3 := State.setBit_keep (State.setFld_keep k0)
  have h8 : Keep q m s0 a4 := State.setBit_keep h7
  have h9 : Keep q m s0 a5 := State.setBit_keep h8
  have h10 : Keep q m s0 a6 := State.setBit_keep h9
  exact State.setFld_keep h10

theorem issueAlias_keep {q m s0 v0} (k0 : Keep q m s0 v0) : Keep q m s0 (issueAlias v0) := by
  unfold issueAlias
  extract_lets a0 a1 a2
  exact Keep.set_root k0 (by exact rfl)

theorem layerOne_keep {q m s0 v0 v1} (k1 : Keep q m s0 v1) : Keep q m s0 (layerOne v0 v1) := by
  unfold layerOne
  extract_lets a0 a1
  exact issueAlias_keep (Keep.set_root k1 (by exact rfl))

theorem layerFree_keep {q m s0 v0} (k0 : Keep q m s0 v0) : Keep q m s0 (layerFree v0) := by
  unfold layerFree
  extract_lets a0
  exact Keep.ite (layerOne_keep (Keep.set_freeCtr k0 (Nat.le_add_right _ _))) k0

theorem loadTufts_keep {q m s0 v0 v1 v2} (_k0 : Keep q m s0 v0) (k2 : Keep q m s0 v2) : Keep q m s0 (loadTufts v0 v1
    v2) := by
  unfold loadTufts
  split
  · next b0 b1 =>
    exact k2
  · next b2 b3 b4 =>
    exact (Keep.foldl k2 (fun x5 h6 _ => (by
        split
        · next b8 b9 b10 b11 b12 =>
          extract_lets a13 a14 a15 a16
          have h17 : Keep q m s0 a14 := State.setReg_keep h6
          have h18 : Keep q m s0 a15 := State.setReg_keep h17
          exact (State.setInForce_keep (State.setReg_keep h18)))))

theorem startTuft_keep {q m s0 v0 v1} (k0 : Keep q m s0 v0) : Keep q m s0 (startTuft v0 v1) := by
  unfold startTuft
  extract_lets a0 a1 a2 a3 a4
  have h5 : Keep q m s0 a3 := State.setInForce_keep k0
  have h6 : Keep q m s0 a4 := State.cond_keep h5 (fun x7 h8 => (State.flag_keep h8))
  exact tuftTaken_keep (State.setBit_keep (tuftRun_keep h6))

theorem loadFrond_keep {m s0 v0 v1 v2 v3 v4} (_k0 : Keep false m s0 v0) (k3 : Keep false m s0 v3) : Keep false m s0
    (loadFrond v0 v1 v2 v3 v4) := by
  unfold loadFrond
  extract_lets a0 a1 a2 a3
  have h4 : Keep false m s0 a2 := State.write_keep (State.write_keep k3)
  have h5 : Keep false m s0 a3 := State.setFld_keep h4
  exact State.setBit_keep h5

theorem loadMotion_keep {q m s0 v0 v1 v2} (_k0 : Keep q m s0 v0) (k2 : Keep q m s0 v2) : Keep q m s0 (loadMotion v0
    v1 v2) := by
  unfold loadMotion
  split
  · next b0 b1 =>
    exact k2
  · next b2 b3 b4 =>
    exact (Keep.foldl k2 (fun x5 h6 _ => (by
        extract_lets a8 a9
        exact (Keep.foldl h6 (fun x10 h11 _ => (State.setReg_keep h11))))))

theorem takeNow_keep {q m s0 v0 v1} (k0 : Keep q m s0 v0) : Keep q m s0 (takeNow v0 v1) := by
  unfold takeNow
  exact CommitUnit.take_keep (CommitUnit.commit_keep k0)

theorem State.each_keep {q m s0 v0 v1 v2} (k1 : ∀ y1, Keep q m s0 y1 → ∀ y2,  Keep q m s0 (v1 y1 y2)) (k2 : Keep q m
    s0 v2) : Keep q m s0 (State.each v0 v1 v2) := by
  unfold State.each
  exact Keep.foldl k2 k1

theorem commitAll_keep {q m s0 v0} (k0 : Keep q m s0 v0) : Keep q m s0 (commitAll v0) := by
  unfold commitAll
  extract_lets a0 a1 a2 a3 a4 a5 a6 a7 a8
  have h9 : Keep q m s0 a0 := State.each_keep (fun x10 h11 _ => (encTake_keep (CommitUnit.commit_keep h11))) k0
  have h13 : Keep q m s0 a1 := State.each_keep (fun x14 h15 _ => (cmpTake_keep (CommitUnit.commit_keep h15))) h9
  have h17 : Keep q m s0 a2 := State.each_keep (fun x18 h19 _ => (ptTake_keep (CommitUnit.commit_keep h19))) h13
  have h21 : Keep q m s0 a3 := State.each_keep (fun x22 h23 _ => (takeNow_keep (takeNow_keep h23))) h17
  have h25 : Keep q m s0 a4 := State.each_keep (fun x26 h27 _ => (takeNow_keep (takeNow_keep h27))) h21
  have h29 : Keep q m s0 a5 := State.each_keep (fun x30 h31 _ => (measTake_keep (CommitUnit.commit_keep h31))) h25
  have h33 : Keep q m s0 a6 := State.each_keep (fun x34 h35 _ => (loopTake_keep (CommitUnit.commit_keep h35))) h29
  have h37 : Keep q m s0 a7 := State.each_keep (fun x38 h39 _ => (axEnable_keep (axTake_keep (CommitUnit.commit_keep
      h39)))) h33
  have h41 : Keep q m s0 a8 := State.each_keep (fun x42 h43 _ => (takeNow_keep (takeNow_keep h43))) h37
  exact State.each_keep (fun x45 h46 _ => (startTuft_keep h46)) h41

theorem loadStreams_keep {q m s0 v0 v1} (k1 : Keep q m s0 v1) : Keep q m s0 (loadStreams v0 v1) := by
  unfold loadStreams
  exact (Keep.foldl k1 (fun x0 h1 _ => (by
      split
      · next b3 b4 b5 b6 =>
        extract_lets a7
        exact (State.setStream_keep h1))))

theorem blockWrite_keep {s0 v0 v1 v2 v3} (_k0 : Keep false false s0 v0) (k2 : Keep false false s0 v2) : Keep false
    false s0 (blockWrite v0 v1 v2 v3) := by
  unfold blockWrite
  extract_lets a0 a1 a2
  exact Keep.ite k2 (writeReg_keep k2)

theorem blocksWrite_keep {s0 v0 v1 v2} (k0 : Keep false false s0 v0) (k2 : Keep false false s0 v2) : Keep false false
    s0 (blocksWrite v0 v1 v2) := by
  unfold blocksWrite
  exact Keep.foldl k2 (fun x0 h1 _ => (blockWrite_keep k0 h1))

theorem applyImage_keep {s0 v0 v1} (k1 : Keep false false s0 v1) : Keep false false s0 (applyImage v0 v1) := by
  unfold applyImage
  extract_lets a0 a1 a2 a3 a4 a5 a6 a7 a8 a9 a10 a11 a12 a13 a14 a15
  have h16 : Keep false false s0 a2 := State.forget_keep k1
  have h17 : Keep false false s0 a4 := Keep.set_boot h16
  have h18 : Keep false false s0 a7 := Keep.set_root h17 (by exact rfl)
  have h19 : Keep false false s0 a8 := trustShow_keep (layerOne_keep h18)
  have h20 : Keep false false s0 a9 := State.setReg_keep (State.setFld_keep h19)
  have h21 : Keep false false s0 a10 := vaultShowFree_keep (vaultTidy_keep h20)
  have h22 : Keep false false s0 a11 := commitAll_keep (blocksWrite_keep k1 (loadTufts_keep k1 h21))
  have h23 : Keep false false s0 a13 := Keep.foldl h22 (fun x24 h25 _ => (loadFrond_keep k1 h25))
  have h27 : Keep false false s0 a14 := loadStreams_keep (loadMotion_keep k1 h23)
  have h28 : Keep false false s0 a15 := Keep.foldl (calLoad_keep h27) (fun x29 h30 _ => (imgShow_keep h30))
  exact State.setFld_keep h28

theorem beginImage_keep {q s0 v0 v1} (k1 : Keep q false s0 v1) : Keep q false s0 (beginImage v0 v1) := by
  unfold beginImage
  extract_lets a0 a1 a2 a3 a4 a5 a6 a7 a8 a9 a10
  have h11 : Keep q false s0 a2 := timeHold_keep (timersBegin_keep (avsWrite_keep k1))
  have h12 : Keep q false s0 a3 := setMode_keep (State.setFld_keep h11)
  have h13 : Keep q false s0 a5 := Keep.foldl h12 (fun x14 h15 _ => (frondStart_keep h15))
  have h17 : Keep q false s0 a6 := devWdogWrite_keep h13
  have h18 : Keep q false s0 a7 := Keep.foldl h17 (fun x19 h20 _ => (State.cond_keep h20 (fun x22 h23 =>
      (tpEnable_keep h23))))
  have h24 : Keep q false s0 a8 := Keep.foldl h18 (fun x25 h26 _ => (lampEnable_keep h26))
  exact readyCheck_keep (Keep.set_boot h24)

theorem enterSafe_keep {q s0 v0 v1} (k1 : Keep q false s0 v1) : Keep q false s0 (enterSafe v0 v1) := by
  unfold enterSafe
  exact setMode_keep (State.setFld_keep k1)

theorem slotVerdict_keep {q m s0 v0 v1 v2 v3} (k3 : Keep q m s0 v3) : Keep q m s0 (slotVerdict v0 v1 v2 v3) := by
  unfold slotVerdict
  extract_lets a0 a1
  have h2 : Keep q m s0 a1 := State.setFld_keep k3
  split
  · next b3 =>
    exact h2
  · next b4 b5 =>
    extract_lets a6 a7
    have h8 : Keep q m s0 a6 := State.setFld_keep h2
    have h9 : Keep q m s0 a7 := State.setFld_keep (State.setFld_keep h8)
    exact State.setReg64_keep h9

theorem bootRecord_keep {q m s0 v0} (k0 : Keep q m s0 v0) : Keep q m s0 (bootRecord v0) := by
  unfold bootRecord
  extract_lets a0
  exact State.peatPush_keep k0

theorem stagedCheck_keep {q m s0 v0 v1} (k1 : Keep q m s0 v1) : Keep q m s0 (stagedCheck v0 v1).1 := by
  unfold stagedCheck
  split
  · next b0 b1 b2 =>
    split
    · next b3 =>
      exact Keep.mk1 (eccBad_keep k1)
    · next b4 =>
      exact Keep.mk1 k1
  · next b5 b6 =>
    exact Keep.mk1 k1

theorem trySlots_keep {q s0 v0 v1 v2} (k2 : Keep q false s0 v2) : Keep q false s0 (trySlots v0 v1 v2).1 := by
  induction v1 generalizing v0 v2 with
  | nil =>
    unfold trySlots
    exact Keep.mk1 (enterSafe_keep k2)
  | cons j js ih =>
    unfold trySlots
    split
    · next b0 b1 b2 b3 b4 =>
      have h5 : Keep q false s0 b1 := Keep.eq1 (stagedCheck_keep k2) b4
      extract_lets a6 a7
      have h8 : Keep q false s0 a6 := slotVerdict_keep h5
      have h9 : Keep q false s0 a7 := State.setFld_keep (State.setFld_keep h8)
      clear_value a6 a7
      split
      · next b10 =>
        exact Keep.mk1 (State.setBit_keep h9)
      · next b11 =>
        exact ih h8

theorem recoverStreams_keep {q m s0 v0} (k0 : Keep q m s0 v0) : Keep q m s0 (recoverStreams v0) := by
  unfold recoverStreams
  extract_lets a0 a1 a2 a3
  have h4 : Keep q m s0 a3 := Keep.foldl k0 (fun x5 h6 _ => (showStarved_keep h6))
  exact Keep.ite k0 (State.peatPush_keep (State.setBit_keep h4))

theorem coldSnapshots_keep {q m s0 v0} (k0 : Keep q m s0 v0) : Keep q m s0 (coldSnapshots v0) := by
  unfold coldSnapshots
  extract_lets a0 a1
  have h2 : Keep q m s0 a0 := (Keep.foldl k0 (fun x3 h4 _ => (by
      split
      · next b6 b7 =>
        exact h4
      · next b8 b9 b10 b11 =>
        extract_lets a12 a13
        exact (State.setStream_keep h4))))
  clear_value a0
  split
  · next b14 b15 =>
    exact h2
  · next b16 b17 b18 b19 =>
    extract_lets a20
    exact Keep.ite (Keep.set_boot h2) h2

theorem runIdLoad_keep {q m s0 v0} (k0 : Keep q m s0 v0) : Keep q m s0 (runIdLoad v0) := by
  unfold runIdLoad
  split
  · next b0 b1 =>
    exact k0
  · next b2 b3 b4 b5 =>
    exact State.setFld_keep k0

theorem mbxShow_keep {q m s0 v0} (k0 : Keep q m s0 v0) : Keep q m s0 (mbxShow v0) := by
  unfold mbxShow
  exact State.setFld_keep (State.setFld_keep k0)

theorem startBegin_keep {s0 v0 v1 v2} (k2 : Keep false false s0 v2) : Keep false false s0 (startBegin v0 v1 v2) := by
  unfold startBegin
  extract_lets a0 a1 a2 a3 a4 a5 a6 a7
  have h8 : Keep false false s0 a1 := freshState_keep k2
  have h9 : Keep false false s0 a2 := State.setFld_keep (State.setBit_keep h8)
  have h10 : Keep false false s0 a3 := State.setFld_keep h9
  have h11 : Keep false false s0 a4 := State.setFld_keep h10
  have h12 : Keep false false s0 a5 := aonShow_keep (peatFind_keep h11)
  have h13 : Keep false false s0 a6 := State.setBit_keep h12
  have h14 : Keep false false s0 a7 := State.setFld_keep (State.setReg64_keep h13)
  exact runIdLoad_keep (setMode_keep (Keep.ite h14 (coldSnapshots_keep h14)))

theorem bootStep_keep {q m s0 v0 v1} (k1 : Keep q m s0 v1) : Keep q m s0 (bootStep v0 v1) := by
  unfold bootStep
  exact State.setFld_keep k1

theorem bootLatch_keep {q s0 v0} (k0 : Keep q false s0 v0) : Keep q false s0 (bootLatch v0).1 := by
  unfold bootLatch
  split
  · next b0 =>
    exact Keep.mk1 (setMode_keep k0)
  · next b1 =>
    exact Keep.mk1 (bootStep_keep (Keep.foldl k0 (fun x2 h3 _ => (State.setReg_keep h3))))

theorem bootRoot_keep {q m s0 v0} (k0 : Keep q m s0 v0) : Keep q m s0 (bootRoot v0).1 := by
  unfold bootRoot
  extract_lets a0
  have h1 : Keep q m s0 a0 := State.setBit_keep (trustShow_keep k0)
  exact Keep.mk1 (recoverStreams_keep (bootStep_keep h1))

theorem bootHeads_keep {q s0 v0} (k0 : Keep q false s0 v0) : Keep q false s0 (bootHeads v0).1 := by
  unfold bootHeads
  extract_lets a0 a1 a2 a3 a4
  have h5 : Keep q false s0 a0 := State.emit_keep k0
  have h6 : Keep q false s0 a3 := slotVerdict_keep h5
  split
  · next b7 =>
    exact Keep.mk1 (bootStep_keep h5)
  · next b8 =>
    split
    · next b9 =>
      exact Keep.mk1 (bootStep_keep h6)
    · next b10 =>
      exact Keep.mk1 (enterSafe_keep (slotVerdict_keep h6))

theorem bootTrims_keep {q s0 v0} (k0 : Keep q false s0 v0) : Keep q false s0 (bootTrims v0).1 := by
  unfold bootTrims
  split
  · next b0 b1 =>
    exact Keep.mk1 (enterSafe_keep k0)
  · next b2 b3 b4 =>
    exact Keep.mk1 (bootStep_keep (trimLoad_keep k0))

theorem bootMarch_keep {q s0 v0} (k0 : Keep q false s0 v0) : Keep q false s0 (bootMarch v0).1 := by
  unfold bootMarch
  extract_lets a0 a1 a2 a3
  have h4 : Keep q false s0 a3 := State.setFld_keep (Keep.set_ms k0)
  split
  · next b5 =>
    exact Keep.mk1 (enterSafe_keep k0)
  · next b6 =>
    exact Keep.mk1 (bootStep_keep h4)

theorem bootDram_keep {q s0 v0} (k0 : Keep q false s0 v0) : Keep q false s0 (bootDram v0).1 := by
  unfold bootDram
  split
  · next b0 =>
    exact Keep.mk1 (bootStep_keep k0)
  · next b1 =>
    exact Keep.mk1 (enterSafe_keep k0)

theorem bootCheck_keep {q s0 v0} (k0 : Keep q false s0 v0) : Keep q false s0 (bootCheck v0).1 := by
  unfold bootCheck
  extract_lets a0
  exact trySlots_keep k0

theorem bootApply_keep {s0 v0} (k0 : Keep false false s0 v0) : Keep false false s0 (bootApply v0).1 := by
  unfold bootApply
  exact Keep.mk1 (applyImage_keep k0)

theorem bootRun_keep {q s0 v0} (k0 : Keep q false s0 v0) : Keep q false s0 (bootRun v0).1 := by
  unfold bootRun
  exact Keep.mk1 (State.cond_keep (beginImage_keep k0) (fun x0 h1 => (bootRecord_keep h1)))

theorem runSteps_keep {q m s0 ev} {fs : List (State → State × Bool)}
    (hf : ∀ f ∈ fs, ∀ {s}, Keep q m s0 s → Keep q m s0 (f s).1) :
    ∀ {k s}, Keep q m s0 s → Keep q m s0 (runSteps ev fs k s).1 := by
  induction fs with
  | nil => exact fun h => h
  | cons f l ih =>
    intro k s h
    have hs := hf f List.mem_cons_self h
    have hl := fun {k s} => ih (fun g hg => hf g (List.mem_cons_of_mem _ hg)) (k := k) (s := s)
    unfold runSteps
    split
    · split
      · exact h
      · split
        · exact hs
        · exact hl hs
    · split
      · exact hs
      · exact hl hs

/-- Every step of BOOT keeps what `Keep` says. -/
theorem bootSteps_keep {s0 : State} {f : State → State × Bool} (hf : f ∈ bootSteps) {s : State} (h : Keep false false s0 s) :
    Keep false false s0 (f s).1 := by
  simp only [bootSteps, List.mem_cons, List.not_mem_nil, or_false] at hf
  rcases hf with rfl | rfl | rfl | rfl | rfl | rfl | rfl | rfl | rfl
  · exact bootLatch_keep h
  · exact bootRoot_keep h
  · exact bootHeads_keep h
  · exact bootTrims_keep h
  · exact bootMarch_keep h
  · exact bootDram_keep h
  · exact bootCheck_keep h
  · exact bootApply_keep h
  · exact bootRun_keep h

theorem startOnce_keep {s0 v0 v1 v2} (k2 : Keep false false s0 v2) : Keep false false s0 (startOnce v0 v1 v2).1 := by
  unfold startOnce
  extract_lets a0 a1 a2
  have h3 : Keep false false s0 a0 := startBegin_keep k2
  exact runSteps_keep (fun f hf => bootSteps_keep hf) (Keep.set_bench h3)

theorem endByFault_keep {q m s0 v0 v1} (k1 : Keep q m s0 v1) : Keep q m s0 (endByFault v0 v1) := by
  unfold endByFault
  extract_lets a0 a1
  exact Keep.ite (runsFault_keep (Keep.set_boot k1)) k1

theorem causeRecords_keep {q m s0 v0 v1} (k1 : Keep q m s0 v1) : Keep q m s0 (causeRecords v0 v1) := by
  unfold causeRecords
  extract_lets a0
  have h1 : Keep q m s0 a0 := State.peatPush_keep k1
  exact Keep.foldl h1 (fun x2 h3 _ => (State.cond_keep h3 (fun x5 h6 => (peatSealed_keep h6))))

theorem settleRun_keep {m s0 v0} (k0 : Keep false m s0 v0) : Keep false m s0 (settleRun v0) := by
  unfold settleRun
  extract_lets a0 a1 a2
  have h3 : Keep false m s0 a0 := Keep.foldl k0 (fun x4 h5 _ => (Keep.foldl h5 (fun x7 h8 _ => (recordIntake_keep
      h8))))
  have h10 : Keep false m s0 a1 := Keep.foldl h3 (fun x11 h12 _ => (State.cond_keep h12 (fun x14 h15 =>
      (streamFinish_keep h15))))
  have h16 : Keep false m s0 a2 := State.cond_keep h10 (fun x17 h18 => (deriveKeys_keep h18))
  exact Keep.ite (Keep.foldl h16 (fun x19 h20 _ => (Keep.foldl h20 (fun x22 h23 _ => (sealChunk_keep (sealStart_keep
      h23)))))) k0

theorem secondCause_keep {q m s0 v0 v1} (k1 : Keep q m s0 v1) : Keep q m s0 (secondCause v0 v1) := by
  unfold secondCause
  extract_lets a0 a1 a2
  exact Keep.ite (Keep.set_peat k1) (State.peatPush_keep k1)

theorem pcieReset_keep {q m s0 v0 v1} (k1 : Keep q m s0 v1) : Keep q m s0 (pcieReset v0 v1) := by
  unfold pcieReset
  extract_lets a0 a1
  have h2 : Keep q m s0 a1 := Keep.set_regs k1 (fun w => Sparse.wf_filter _ w)
  exact Keep.ite (Keep.set_pcie h2) (Keep.ite (Keep.set_pcie h2) k1)

theorem eventNow_keep {q m s0 v0 v1} (k1 : Keep q m s0 v1) : Keep q m s0 (eventNow v0 v1) := by
  unfold eventNow
  exact eventDeliver_keep (State.raise_keep k1)

theorem warmBegin_keep {q m s0 v0 v1} (k1 : Keep q m s0 v1) : Keep q m s0 (warmBegin v0 v1) := by
  unfold warmBegin
  extract_lets a0 a1
  have h2 : Keep q m s0 a0 := State.cond_keep k1 (fun x3 h4 => (eventNow_keep h4))
  exact causeRecords_keep (endByFault_keep (Keep.set_root h2 (by exact rfl)))

theorem startLoop_keep {s0 v0 v1 v2 v3} (k3 : Keep false false s0 v3) : Keep false false s0 (startLoop v0 v1 v2 v3)
    := by
  induction v0 generalizing v1 v2 v3 with
  | zero =>
    unfold startLoop
    exact startOnce_keep k3
  | succ j ih =>
    unfold startLoop
    split
    · next b0 b1 b2 =>
      have h3 : Keep false false s0 b1 := Keep.eq1 (startOnce_keep k3) b2
      exact h3
    · next b4 b5 b6 b7 =>
      have h8 : Keep false false s0 b5 := Keep.eq1 (startOnce_keep k3) b7
      exact ih (warmBegin_keep (pcieReset_keep h8))
    · next b9 b10 b11 b12 b13 =>
      have h14 : Keep false false s0 b10 := Keep.eq1 (startOnce_keep k3) b13
      exact thermalShutdown_keep h14

theorem start_keep {s0 v0 v1 v2} (k2 : Keep false false s0 v2) : Keep false false s0 (start v0 v1 v2) := by
  unfold start
  exact linksTrain_keep (mbxShow_keep (layerFree_keep (startLoop_keep k2)))

theorem warmStart_keep {s0 v0 v1} (k1 : Keep false false s0 v1) : Keep false false s0 (warmStart v0 v1) := by
  unfold warmStart
  exact start_keep (warmBegin_keep k1)

theorem warmCause_keep {s0 v0 v1 v2} (k2 : Keep false false s0 v2) : Keep false false s0 (warmCause v0 v1 v2) := by
  unfold warmCause
  extract_lets a0 a1
  have h2 : Keep false false s0 a0 := State.satInc_keep k2
  exact (Keep.ite k2 (by
      split
      · next b3 =>
        exact warmStart_keep k2
      · next b4 =>
        exact warmStart_keep (settleRun_keep (State.satInc_keep k2))
      · next b5 =>
        exact secondCause_keep (State.satInc_keep k2)
      · next b6 =>
        exact warmStart_keep (State.satInc_keep k2)
      · next b7 =>
        exact (warmStart_keep (Keep.set_pwr h2 (fun _ => rfl)))))

theorem powerOff_keep {s0 v0} (k0 : Keep false false s0 v0) : Keep false false s0 (powerOff v0) := by
  unfold powerOff
  extract_lets a0
  have h1 : Keep false false s0 a0 := freshState_keep k0
  exact Keep.set_mode h1

theorem powerGone_keep {s0 v0} (k0 : Keep false false s0 v0) : Keep false false s0 (powerGone v0) := by
  unfold powerGone
  extract_lets a0
  exact powerOff_keep (Keep.set_pwr k0 (by exact id))

theorem aonDown_keep {s0 v0} (k0 : Keep false false s0 v0) : Keep false false s0 (aonDown v0) := by
  unfold aonDown
  extract_lets a0 a1
  have h2 : Keep false false s0 a0 := powerOff_keep k0
  exact Keep.tables (Keep.set_root (x := _) h2 (by exact rfl)) (fun c => { c with  }) rfl rfl rfl rfl rfl rfl rfl rfl

theorem execPorRelease_keep {s0 v0 v1} (k1 : Keep false false s0 v1) : OutKeep false false s0 (execPorRelease v0 v1)
    := by
  unfold execPorRelease
  extract_lets a0 a1 a2
  exact OutKeep.next (Keep.ite k1 (start_keep (Keep.tables (Keep.set_pwr (x := _) k1 (by exact id)) (fun c =>
      { c with  }) rfl rfl rfl rfl rfl rfl rfl rfl)))

theorem execPorAssert_keep {s0 v0} (k0 : Keep false false s0 v0) : OutKeep false false s0 (execPorAssert v0) := by
  unfold execPorAssert
  exact OutKeep.next (powerOff_keep k0)

theorem execPowerLoss_keep {s0 v0} (k0 : Keep false false s0 v0) : OutKeep false false s0 (execPowerLoss v0) := by
  unfold execPowerLoss
  exact OutKeep.next (powerGone_keep k0)

theorem execAonBrownout_keep {s0 v0} (k0 : Keep false false s0 v0) : OutKeep false false s0 (execAonBrownout v0) := by
  unfold execAonBrownout
  extract_lets a0 a1
  refine OutKeep.next (Keep.ite k0 (aonDown_keep (Keep.set_pwr k0 (fun l => ?_))))
  split <;> exact l

/-- AON_LATCH_CLEAR keeps everything of the state in which the latch has just been cleared. -/
theorem execAonLatchClear_keep {s0 v0}
    (k0 : Keep false false s0 { v0 with pwr := { v0.pwr with latch := false, vaonA := false, vaonB := false, onB := false } }) :
    OutKeep false false s0 (execAonLatchClear v0) := by
  unfold execAonLatchClear
  exact OutKeep.next (aonDown_keep k0)

theorem execArbFuseAdvance_keep {q m s0 v0} (k0 : Keep q m s0 v0) : OutKeep q m s0 (execArbFuseAdvance v0) := by
  unfold execArbFuseAdvance
  exact (OutKeep.next (State.whenWorking_keep k0 (fun x0 h1 => (by
      split
      · next b2 b3 =>
        exact h1
      · next b4 b5 b6 =>
        extract_lets a7 a8 a9 a10 a11
        have h12 : Keep q m s0 a10 := h1.trans
          ⟨fun _ => ⟨rfl, rfl⟩, fun _ => ⟨rfl, rfl⟩, fun c => { c with }, rfl, ⟨[], (List.append_nil _).symm⟩, Nat.le_succ _, id, le_refl _, le_refl _⟩
        have h13 : Keep q m s0 a11 := State.setFld_keep h12
        exact (Keep.ite h1 (Keep.ite h13 (bootRecord_keep (State.raise_keep (State.flag_keep h13)))))))))

theorem execRunWdogExpiry_keep {s0 v0 v1} (k1 : Keep false false s0 v1) : OutKeep false false s0 (execRunWdogExpiry
    v0 v1) := by
  unfold execRunWdogExpiry
  exact OutKeep.next (State.whenWorking_keep k1 (fun x0 h1 => (Keep.ite h1 (warmCause_keep (State.reach_keep h1)))))

theorem execFrondWdogExpiry_keep {s0 v0 v1 v2 v3} (k3 : Keep false false s0 v3) : OutKeep false false s0
    (execFrondWdogExpiry v0 v1 v2 v3) := by
  unfold execFrondWdogExpiry
  exact (OutKeep.next (State.whenWorking_keep k3 (fun x0 h1 => (Keep.ite h1 (by
      extract_lets a2 a3
      have h4 : Keep false false s0 a3 := State.lost_keep (frondFault_keep (State.reach_keep h1))
      exact (State.cond_keep h4 (fun x5 h6 => (warmCause_keep h6))))))))

theorem execChunkSealStart_keep {s0 v0 v1 v2 v3} (k3 : Keep false false s0 v3) : OutKeep false false s0
    (execChunkSealStart v0 v1 v2 v3) := by
  unfold execChunkSealStart
  exact (OutKeep.next (State.whenWorking_keep k3 (fun x0 h1 => (by
      extract_lets a2 a3
      have h4 : Keep false false s0 a2 := sealStart_keep h1
      have h5 : Keep false false s0 a3 := eccNote_keep h4
      exact (Keep.ite h4 (Keep.ite (warmCause_keep h5) h5))))))

theorem execDcoMonitor_keep {s0 v0 v1 v2 v3} (k3 : Keep false false s0 v3) : OutKeep false false s0 (execDcoMonitor
    v0 v1 v2 v3) := by
  unfold execDcoMonitor
  exact (OutKeep.next (State.whenServing_keep k3 (fun x0 h1 => (by
      extract_lets a2 a3
      exact (Keep.ite h1 (warmCause_keep (State.raise_keep (State.setBit_keep h1))))))))

end Sys2Proof.Machine
end

