-- ==== Sys2Proof/Laws/KeepMailbox.lean ====
section
/-!
SUPPORT. Keep for every function of Machine/Mailbox.lean that makes a state.
-/

namespace Sys2Proof.Machine

theorem countDenied_keep {q m s0 v0} (k0 : Keep q m s0 v0) : Keep q m s0 (countDenied v0) := by
  unfold countDenied
  exact State.raise_keep (State.satInc_keep k0)

theorem denied_keep {q m s0 v0} (k0 : Keep q m s0 v0) : Keep q m s0 (denied v0) := by
  unfold denied
  exact countDenied_keep (State.setFld_keep k0)

theorem mbxResult_keep {q m s0 v0 v1} (k1 : Keep q m s0 v1) : Keep q m s0 (mbxResult v0 v1) := by
  unfold mbxResult
  exact State.setFld_keep k1

theorem mbxBegin_keep {q m s0 v0 v1} (k1 : Keep q m s0 v1) : Keep q m s0 (mbxBegin v0 v1) := by
  unfold mbxBegin
  extract_lets a0
  exact State.setBit_keep (Keep.set_boot k1)

theorem mbxEnd_keep {q m s0 v0 v1} (k1 : Keep q m s0 v1) : Keep q m s0 (mbxEnd v0 v1) := by
  unfold mbxEnd
  extract_lets a0
  exact mbxResult_keep (State.setBit_keep (Keep.set_boot k1))

theorem mbxGate_keep {q m s0 v0 v1} (k0 : ∀ y1, Keep q m s0 y1 → Keep q m s0 (v0 y1)) (k1 : Keep q m s0 v1) : Keep q
    m s0 (mbxGate v0 v1) := by
  unfold mbxGate
  exact Keep.ite (State.satInc_keep k1) (Keep.ite (mbxResult_keep (denied_keep k1)) (k0 _ k1))

theorem unverify_keep {q m s0 v0} (k0 : Keep q m s0 v0) : Keep q m s0 (unverify v0) := by
  unfold unverify
  exact State.setBit_keep k0

theorem mbxErase_keep {q m s0 v0} (k0 : Keep q m s0 v0) : Keep q m s0 (mbxErase v0) := by
  unfold mbxErase
  split
  · next b0 b1 b2 b3 =>
    exact Keep.ite (mbxResult_keep k0) (unverify_keep (mbxBegin_keep k0))

theorem mbxWrite_keep {q m s0 v0} (k0 : Keep q m s0 v0) : Keep q m s0 (mbxWrite v0) := by
  unfold mbxWrite
  split
  · next b0 b1 b2 b3 =>
    exact Keep.ite (mbxResult_keep k0) (unverify_keep (mbxBegin_keep k0))

theorem mbxActivate_keep {q m s0 v0} (k0 : Keep q m s0 v0) : Keep q m s0 (mbxActivate v0) := by
  unfold mbxActivate
  exact Keep.ite (mbxBegin_keep k0) (mbxResult_keep k0)

theorem mbxAbort_keep {m s0 v0} (k0 : Keep false m s0 v0) : Keep false m s0 (mbxAbort v0) := by
  unfold mbxAbort
  exact Keep.ite (mbxResult_keep (unverify_keep k0)) (mbxEnd_keep (unverify_keep (jobAbandon_keep k0)))

theorem mbxReboot_keep {s0 v0} (k0 : Keep false false s0 v0) : Keep false false s0 (mbxReboot v0) := by
  unfold mbxReboot
  exact Keep.ite (mbxResult_keep k0) (Keep.ite (warmCause_keep k0) (mbxResult_keep k0))

theorem mbxEraseDone_keep {m s0 v0 v1} (k1 : Keep false m s0 v1) : Keep false m s0 (mbxEraseDone v0 v1) := by
  unfold mbxEraseDone
  split
  · next b0 b1 b2 b3 =>
    extract_lets a4
    exact Keep.ite (mbxEnd_keep (flashSet_keep k1)) (mbxEnd_keep (flashFree_keep k1))
  · next b5 b6 =>
    exact k1

theorem mbxWriteDone_keep {m s0 v0 v1} (k1 : Keep false m s0 v1) : Keep false m s0 (mbxWriteDone v0 v1) := by
  unfold mbxWriteDone
  split
  · next b0 b1 b2 b3 b4 =>
    extract_lets a5 a6
    have h7 : Keep false m s0 a6 := Keep.ite (flashSpoil_keep k1) (Keep.ite (flashSet_keep k1) (flashFree_keep k1))
    exact mbxEnd_keep h7
  · next b8 b9 =>
    exact k1

theorem mbxVerifyDone_keep {q m s0 v0} (k0 : Keep q m s0 v0) : Keep q m s0 (mbxVerifyDone v0) := by
  unfold mbxVerifyDone
  split
  · next b0 b1 =>
    extract_lets a2
    exact Keep.ite (mbxEnd_keep (State.setBit_keep k0)) (mbxEnd_keep k0)
  · next b3 b4 =>
    exact k0

theorem mbxActivateDone_keep {m s0 v0} (k0 : Keep false m s0 v0) : Keep false m s0 (mbxActivateDone v0) := by
  unfold mbxActivateDone
  split
  · next b0 b1 =>
    extract_lets a2 a3
    have h4 : Keep false m s0 a2 := slotRecordWrite_keep k0
    exact mbxEnd_keep (mbxShow_keep (Keep.set_boot h4))
  · next b5 b6 =>
    exact k0

theorem State.whenMailbox_keep {q m s0 v0 v1} (k0 : Keep q m s0 v0) (k1 : ∀ y1, Keep q m s0 y1 → Keep q m s0 (v1 y1))
    : Keep q m s0 (State.whenMailbox v0 v1) := by
  unfold State.whenMailbox
  exact Keep.ite (k1 _ k0) k0

theorem execMbxErase_keep {q m s0 v0} (k0 : Keep q m s0 v0) : OutKeep q m s0 (execMbxErase v0) := by
  unfold execMbxErase
  exact OutKeep.next (State.whenMailbox_keep k0 (fun x0 h1 => (mbxGate_keep (fun x2 h3 => (mbxErase_keep h3)) h1)))

theorem execMbxWrite_keep {q m s0 v0} (k0 : Keep q m s0 v0) : OutKeep q m s0 (execMbxWrite v0) := by
  unfold execMbxWrite
  exact OutKeep.next (State.whenMailbox_keep k0 (fun x0 h1 => (mbxGate_keep (fun x2 h3 => (mbxWrite_keep h3)) h1)))

theorem execMbxVerify_keep {q m s0 v0} (k0 : Keep q m s0 v0) : OutKeep q m s0 (execMbxVerify v0) := by
  unfold execMbxVerify
  exact OutKeep.next (State.whenMailbox_keep k0 (fun x0 h1 => (mbxGate_keep (fun x2 h3 => (mbxBegin_keep h3)) h1)))

theorem execMbxActivate_keep {q m s0 v0} (k0 : Keep q m s0 v0) : OutKeep q m s0 (execMbxActivate v0) := by
  unfold execMbxActivate
  exact OutKeep.next (State.whenMailbox_keep k0 (fun x0 h1 => (mbxGate_keep (fun x2 h3 => (mbxActivate_keep h3)) h1)))

theorem execMbxAbort_keep {m s0 v0} (k0 : Keep false m s0 v0) : OutKeep false m s0 (execMbxAbort v0) := by
  unfold execMbxAbort
  exact OutKeep.next (State.whenMailbox_keep k0 (fun x0 h1 => (Keep.ite (mbxResult_keep (denied_keep h1))
      (mbxAbort_keep h1))))

theorem execMbxReboot_keep {s0 v0} (k0 : Keep false false s0 v0) : OutKeep false false s0 (execMbxReboot v0) := by
  unfold execMbxReboot
  exact OutKeep.next (State.whenMailbox_keep k0 (fun x0 h1 => (mbxGate_keep (fun x2 h3 => (mbxReboot_keep h3)) h1)))

theorem execMbxCmdInvalid_keep {q m s0 v0} (k0 : Keep q m s0 v0) : OutKeep q m s0 (execMbxCmdInvalid v0) := by
  unfold execMbxCmdInvalid
  exact OutKeep.next (State.whenMailbox_keep k0 (fun x0 h1 => (mbxGate_keep (fun x2 h3 => (mbxResult_keep h3)) h1)))

theorem execMbxEraseDone_keep {m s0 v0 v1} (k1 : Keep false m s0 v1) : OutKeep false m s0 (execMbxEraseDone v0 v1) :=
    by
  unfold execMbxEraseDone
  exact OutKeep.next (State.whenServing_keep k1 (fun x0 h1 => (mbxEraseDone_keep h1)))

theorem execMbxWriteDone_keep {m s0 v0 v1} (k1 : Keep false m s0 v1) : OutKeep false m s0 (execMbxWriteDone v0 v1) :=
    by
  unfold execMbxWriteDone
  exact OutKeep.next (State.whenServing_keep k1 (fun x0 h1 => (mbxWriteDone_keep h1)))

theorem execMbxVerifyDone_keep {q m s0 v0} (k0 : Keep q m s0 v0) : OutKeep q m s0 (execMbxVerifyDone v0) := by
  unfold execMbxVerifyDone
  exact OutKeep.next (State.whenServing_keep k0 (fun x0 h1 => (mbxVerifyDone_keep h1)))

theorem execMbxActivateDone_keep {m s0 v0} (k0 : Keep false m s0 v0) : OutKeep false m s0 (execMbxActivateDone v0) :=
    by
  unfold execMbxActivateDone
  exact OutKeep.next (State.whenServing_keep k0 (fun x0 h1 => (mbxActivateDone_keep h1)))

end Sys2Proof.Machine
end

