-- ==== Sys2Proof/Laws/KeepHost.lean ====
section
/-!
SUPPORT. Keep for every function of Machine/Host.lean that makes a state.
-/

namespace Sys2Proof.Machine

theorem configRequest_keep {q m s0 v0 v1} (k1 : Keep q m s0 v1) : Keep q m s0 (configRequest v0 v1) := by
  unfold configRequest
  extract_lets a0 a1
  have h2 : Keep q m s0 a1 := State.emit_keep k1
  exact (Keep.ite k1 (Keep.ite (State.emit_keep k1) (by
      split
      · next b3 b4 =>
        exact State.drawn_keep (State.emit_keep k1)
      · next b5 b6 b7 =>
        exact vectorsRetry_keep (Keep.set_pcie h2)
      · next b8 b9 b10 =>
        exact vectorsRetry_keep (Keep.set_pcie h2)
      · next b11 b12 b13 =>
        exact Keep.set_pcie h2
      · next b14 b15 =>
        exact Keep.set_pcie h2
      · next b16 b17 b18 =>
        exact (Keep.set_pcie h2))))

theorem linkChange_keep {q m s0 v0 v1 v2 v3} (k3 : Keep q m s0 v3) : Keep q m s0 (linkChange v0 v1 v2 v3) := by
  unfold linkChange
  extract_lets a0
  exact Keep.ite k3 (vectorsRetry_keep (State.raise_keep (Keep.set_pcie k3)))

theorem powerState_keep {q m s0 v0 v1} (k1 : Keep q m s0 v1) : Keep q m s0 (powerState v0 v1) := by
  unfold powerState
  extract_lets a0
  exact Keep.ite k1 (vectorsRetry_keep (State.raise_keep (Keep.set_pcie k1)))

theorem hostExchange_keep {m s0 v0 v1 v2 v3 v4} (k4 : Keep false m s0 v4) : Keep false m s0 (hostExchange v0 v1 v2 v3
    v4) := by
  unfold hostExchange
  extract_lets a0 a1 a2
  have h3 : Keep false m s0 a0 := State.emit_keep k4
  have h4 : Keep false m s0 a1 := Keep.ite (exchNote_keep (Keep.set_freeCtr h3 (Nat.le_add_right _ _)))
      (exchWrite_keep k4)
  exact (Keep.ite k4 (by
      split
      · next b5 b6 =>
        exact h4
      · next b7 b8 b9 =>
        extract_lets a10
        have h11 : Keep false m s0 a10 := State.cond_keep h4 (fun x12 h13 => (State.satInc_keep (State.flag_keep
            h13)))
        exact (exchCollided_keep h11)))

theorem reqShow_keep {q m s0 v0 v1 v2} (k2 : Keep q m s0 v2) : Keep q m s0 (reqShow v0 v1 v2) := by
  unfold reqShow
  exact State.setFld_keep (State.setFld_keep k2)

theorem hostRequest_keep {q m s0 v0 v1 v2 v3} (k2 : ∀ y1, Keep q m s0 y1 → Keep q m s0 (v2 y1).1) (k3 : Keep q m s0
    v3) : Keep q m s0 (hostRequest v0 v1 v2 v3) := by
  unfold hostRequest
  extract_lets a0 a1 a2 a3 a4
  have h5 : Keep q m s0 a0.1 := k2 _ k3
  have h6 : Keep q m s0 a3 := h5
  exact Keep.ite (countDenied_keep (reqShow_keep k3)) (Keep.ite (reqShow_keep k3) (reqShow_keep (Keep.set_boot h6)))

theorem acceptedRaise_keep {q m s0 v0 v1} (k1 : Keep q m s0 v1.1) : Keep q m s0 (acceptedRaise v0 v1).1 := by
  unfold acceptedRaise
  split
  · next b0 =>
    exact Keep.mk1 (State.raise_keep k1)
  · next b1 =>
    exact k1

theorem reqRun_keep {m s0 v0 v1 v2} (k2 : Keep false m s0 v2) : Keep false m s0 (reqRun v0 v1 v2).1 := by
  unfold reqRun
  split
  · next b0 =>
    exact Keep.mk1 k2
  · next b1 =>
    exact (acceptedRaise_keep (by
        split
        · next b2 =>
          exact askStart_keep k2
        · next b3 =>
          exact (askStop_keep k2)))

theorem reqMaint_keep {q s0 v0 v1 v2} (k2 : Keep q false s0 v2) : Keep q false s0 (reqMaint v0 v1 v2).1 := by
  unfold reqMaint
  split
  · next b0 =>
    exact Keep.mk1 k2
  · next b1 =>
    split
    · next b2 =>
      exact askMaintEnter_keep k2
    · next b3 =>
      exact askMaintExit_keep k2

theorem startLoses_keep {q m s0 v0 v1} (k1 : Keep q m s0 v1) : Keep q m s0 (startLoses v0 v1) := by
  unfold startLoses
  split
  · next b0 =>
    exact k1
  · next b1 =>
    exact State.lost_keep (State.setFld_keep k1)
  · next b2 =>
    exact State.lost_keep (hostRequest_keep (fun x3 h4 => (Keep.mk1 h4)) k1)

theorem maintOver_keep {q m s0 v0 v1 v2} (k1 : ∀ y1, Keep q m s0 y1 → Keep q m s0 (v1 y1)) (k2 : Keep q m s0 v2) :
    Keep q m s0 (maintOver v0 v1 v2) := by
  unfold maintOver
  exact State.cond_keep (k1 _ k2) (fun x0 h1 => (startLoses_keep h1))

theorem reqShutter_keep {q m s0 v0 v1} (k1 : Keep q m s0 v1) : Keep q m s0 (reqShutter v0 v1).1 := by
  unfold reqShutter
  extract_lets a0
  split
  · next b1 =>
    exact Keep.mk1 k1
  · next b2 =>
    exact Keep.mk1 (Keep.foldl k1 (fun x3 h4 _ => (shutRequest_keep h4)))

theorem reqPacking_keep {q m s0 v0 v1 v2} (k2 : Keep q m s0 v2) : Keep q m s0 (reqPacking v0 v1 v2).1 := by
  unfold reqPacking
  exact Keep.mk1 (State.raise_keep (State.setFld_keep (State.setFld_keep k2)))

theorem reqCal_keep {q m s0 v0 v1} (k1 : Keep q m s0 v1) : Keep q m s0 (reqCal v0 v1).1 := by
  unfold reqCal
  exact Keep.mk1 (State.raise_keep (State.setFld_keep k1))

theorem execConfigRequest_keep {q m s0 v0 v1} (k1 : Keep q m s0 v1) : OutKeep q m s0 (execConfigRequest v0 v1) := by
  unfold execConfigRequest
  exact OutKeep.next (configRequest_keep k1)

theorem execHostLinkReady_keep {q m s0 v0} (k0 : Keep q m s0 v0) : OutKeep q m s0 (execHostLinkReady v0) := by
  unfold execHostLinkReady
  extract_lets a0
  exact OutKeep.next (Keep.ite k0 (Keep.set_pcie k0))

theorem execPcieLinkChange_keep {q m s0 v0 v1 v2 v3} (k3 : Keep q m s0 v3) : OutKeep q m s0 (execPcieLinkChange v0 v1
    v2 v3) := by
  unfold execPcieLinkChange
  exact OutKeep.next (Keep.ite k3 (linkChange_keep k3))

theorem execPowerStateChange_keep {q m s0 v0 v1} (k1 : Keep q m s0 v1) : OutKeep q m s0 (execPowerStateChange v0 v1)
    := by
  unfold execPowerStateChange
  exact OutKeep.next (Keep.ite k1 (powerState_keep k1))

theorem execPerstNAssert_keep {s0 v0 v1} (k1 : Keep false false s0 v1) : OutKeep false false s0 (execPerstNAssert v0
    v1) := by
  unfold execPerstNAssert
  exact OutKeep.next (warmCause_keep (pcieReset_keep k1))

theorem execPerstNRelease_keep {q m s0 v0} (k0 : Keep q m s0 v0) : OutKeep q m s0 (execPerstNRelease v0) := by
  unfold execPerstNRelease
  extract_lets a0
  exact OutKeep.next (Keep.set_pcie k0)

theorem execFunctionLevelReset_keep {s0 v0 v1} (k1 : Keep false false s0 v1) : OutKeep false false s0
    (execFunctionLevelReset v0 v1) := by
  unfold execFunctionLevelReset
  exact OutKeep.next (warmCause_keep (pcieReset_keep k1))

theorem execIdeIntegrityFail_keep {q m s0 v0 v1} (k1 : Keep q m s0 v1) : OutKeep q m s0 (execIdeIntegrityFail v0 v1)
    := by
  unfold execIdeIntegrityFail
  exact OutKeep.next (State.whenServing_keep k1 (fun x0 h1 => (State.raise_keep (Keep.set_pcie h1))))

theorem execBadWrite_keep {q m s0 v0} (k0 : Keep q m s0 v0) : OutKeep q m s0 (execBadWrite v0) := by
  unfold execBadWrite
  exact OutKeep.next (Keep.ite (badWrite_keep k0) k0)

theorem execAerError_keep {q m s0 v0 v1} (k1 : Keep q m s0 v1) : OutKeep q m s0 (execAerError v0 v1) := by
  unfold execAerError
  exact OutKeep.next (State.whenServing_keep k1 (fun x0 h1 => (State.raise_keep (Keep.set_pcie h1))))

theorem execPtmDialogue_keep {q m s0 v0 v1} (k1 : Keep q m s0 v1) : OutKeep q m s0 (execPtmDialogue v0 v1) := by
  unfold execPtmDialogue
  exact OutKeep.next (State.whenServing_keep k1 (fun x0 h1 => (Keep.ite (ptmMeasure_keep (State.cond_keep h1 (fun x2
      h3 => (State.raise_keep h3)))) h1)))

theorem execHostExchAccess_keep {m s0 v0 v1 v2 v3 v4} (k4 : Keep false m s0 v4) : OutKeep false m s0
    (execHostExchAccess v0 v1 v2 v3 v4) := by
  unfold execHostExchAccess
  exact OutKeep.next (State.whenWindow_keep k4 (fun x0 h1 => (hostExchange_keep h1)))

theorem execPeatWindowRead_keep {q m s0 v0 v1} (k1 : Keep q m s0 v1) : OutKeep q m s0 (execPeatWindowRead v0 v1) := by
  unfold execPeatWindowRead
  exact OutKeep.next (State.whenMailbox_keep k1 (fun x0 h1 => (Keep.ite (State.emit_keep h1) (countDenied_keep
      (State.emit_keep h1)))))

theorem execPeatWinSeqWrite_keep {q m s0 v0 v1} (k1 : Keep q m s0 v1) : OutKeep q m s0 (execPeatWinSeqWrite v0 v1) :=
    by
  unfold execPeatWinSeqWrite
  exact (OutKeep.next (State.whenMailbox_keep k1 (fun x0 h1 => (Keep.ite (by
      extract_lets a2 a3
      have h4 : Keep q m s0 a2 := State.setReg_keep h1
      exact (Keep.set_peat h4)) (denied_keep h1)))))

theorem execReqRunStart_keep {m s0 v0 v1} (k1 : Keep false m s0 v1) : OutKeep false m s0 (execReqRunStart v0 v1) := by
  unfold execReqRunStart
  exact OutKeep.next (State.whenWindow_keep k1 (fun x0 h1 => (State.lost_keep (hostRequest_keep (fun x2 h3 =>
      (reqRun_keep h3)) h1))))

theorem execReqRunStop_keep {m s0 v0 v1} (k1 : Keep false m s0 v1) : OutKeep false m s0 (execReqRunStop v0 v1) := by
  unfold execReqRunStop
  exact OutKeep.next (State.whenWindow_keep k1 (fun x0 h1 => (State.lost_keep (hostRequest_keep (fun x2 h3 =>
      (reqRun_keep h3)) h1))))

theorem execReqShutter_keep {q m s0 v0 v1} (k1 : Keep q m s0 v1) : OutKeep q m s0 (execReqShutter v0 v1) := by
  unfold execReqShutter
  exact OutKeep.next (State.whenWindow_keep k1 (fun x0 h1 => (hostRequest_keep (fun x2 h3 => (reqShutter_keep h3))
      h1)))

theorem execReqPacking_keep {q m s0 v0 v1 v2} (k2 : Keep q m s0 v2) : OutKeep q m s0 (execReqPacking v0 v1 v2) := by
  unfold execReqPacking
  exact OutKeep.next (State.whenWindow_keep k2 (fun x0 h1 => (hostRequest_keep (fun x2 h3 => (reqPacking_keep h3))
      h1)))

theorem execReqCal_keep {q m s0 v0 v1} (k1 : Keep q m s0 v1) : OutKeep q m s0 (execReqCal v0 v1) := by
  unfold execReqCal
  exact OutKeep.next (State.whenWindow_keep k1 (fun x0 h1 => (hostRequest_keep (fun x2 h3 => (reqCal_keep h3)) h1)))

theorem execMaintEnter_keep {q s0 v0 v1} (k1 : Keep q false s0 v1) : OutKeep q false s0 (execMaintEnter v0 v1) := by
  unfold execMaintEnter
  exact OutKeep.next (State.whenWorking_keep k1 (fun x0 h1 => (maintOver_keep (fun x2 h3 => (frondAsk_keep (fun x4 h5
      => (askMaintEnter_keep h5)) h3)) h1)))

theorem execReqMaintEnter_keep {q s0 v0 v1} (k1 : Keep q false s0 v1) : OutKeep q false s0 (execReqMaintEnter v0 v1)
    := by
  unfold execReqMaintEnter
  exact OutKeep.next (State.whenWindow_keep k1 (fun x0 h1 => (maintOver_keep (fun x2 h3 => (hostRequest_keep (fun x4
      h5 => (reqMaint_keep h5)) h3)) h1)))

theorem execReqMaintExit_keep {q s0 v0 v1} (k1 : Keep q false s0 v1) : OutKeep q false s0 (execReqMaintExit v0 v1) :=
    by
  unfold execReqMaintExit
  exact OutKeep.next (State.whenWindow_keep k1 (fun x0 h1 => (State.lost_keep (hostRequest_keep (fun x2 h3 =>
      (reqMaint_keep h3)) h1))))

theorem execHostReqHoldoffEnd_keep {q m s0 v0 v1} (k1 : Keep q m s0 v1) : OutKeep q m s0 (execHostReqHoldoffEnd v0
    v1) := by
  unfold execHostReqHoldoffEnd
  exact (OutKeep.next (State.whenWorking_keep k1 (fun x0 h1 => (by
      split
      · next b2 b3 b4 =>
        extract_lets a5 a6
        have h7 : Keep q m s0 a5 := State.reach_keep h1
        exact Keep.set_boot h7
      · next b8 b9 =>
        exact h1))))

end Sys2Proof.Machine
end

