-- ==== Sys2Proof/Laws/KeepTrust.lean ====
section
/-!
SUPPORT. Keep for every function of Machine/Trust.lean that makes a state.
-/

namespace Sys2Proof.Machine

theorem answer_keep {q m s0 v0 v1} (k1 : Keep q m s0 v1) : Keep q m s0 (answer v0 v1) := by
  unfold answer
  exact State.emit_keep k1

theorem spdmRequest_keep {q m s0 v0 v1 v2} (k1 : ∀ y1, Keep q m s0 y1 → Keep q m s0 (v1 y1)) (k2 : Keep q m s0 v2) :
    Keep q m s0 (spdmRequest v0 v1 v2) := by
  unfold spdmRequest
  exact Keep.ite k2 (Keep.ite (answer_keep k2) (k1 _ k2))

theorem inSession_keep {q m s0 v0 v1} (k0 : ∀ y1, Keep q m s0 y1 → Keep q m s0 (v0 y1)) (k1 : Keep q m s0 v1) : Keep
    q m s0 (inSession v0 v1) := by
  unfold inSession
  exact Keep.ite (k0 _ k1) (answer_keep k1)

theorem keepLarge_keep {q m s0 v0 v1} (k1 : Keep q m s0 v1) : Keep q m s0 (keepLarge v0 v1) := by
  unfold keepLarge
  extract_lets a0
  exact Keep.set_spdm k1

theorem sessionEnd_keep {q m s0 v0} (k0 : Keep q m s0 v0) : Keep q m s0 (sessionEnd v0) := by
  unfold sessionEnd
  extract_lets a0
  exact Keep.ite (trustShow_keep (State.raise_keep (Keep.set_spdm k0))) k0

theorem sessionOpen_keep {q m s0 v0} (k0 : Keep q m s0 v0) : Keep q m s0 (sessionOpen v0) := by
  unfold sessionOpen
  extract_lets a0
  exact trustShow_keep (State.raise_keep (Keep.set_spdm k0))

theorem setOwnerSlot_keep {q m s0 v0 v1 v2} (k2 : Keep q m s0 v2) : Keep q m s0 (setOwnerSlot v0 v1 v2) := by
  unfold setOwnerSlot
  extract_lets a0
  exact trustShow_keep (Keep.set_root k2 (by exact rfl))

theorem ownerBurn_keep {q m s0 v0 v1 v2} (k2 : Keep q m s0 v2) : Keep q m s0 (ownerBurn v0 v1 v2) := by
  unfold ownerBurn
  split
  · next b0 b1 b2 b3 =>
    extract_lets a4 a5 a6 a7 a8 a9
    have h10 : Keep q m s0 a7 := setOwnerSlot_keep k2
    have h11 : Keep q m s0 a8 := setOwnerSlot_keep k2
    have h12 : Keep q m s0 a9 := setOwnerSlot_keep k2
    exact (Keep.ite (by
        split
        · next b13 =>
          exact setOwnerSlot_keep k2
        · next b14 =>
          exact Keep.set_freeCtr h10 (Nat.le_add_right _ _)
        · next b15 =>
          exact (Keep.set_freeCtr h11 (Nat.le_add_right _ _))) (Keep.ite (by
        split
        · next b16 =>
          exact setOwnerSlot_keep k2
        · next b17 =>
          exact Keep.set_freeCtr h12 (Nat.le_add_right _ _)
        · next b18 =>
          exact k2) k2))

theorem ownerResult_keep {q m s0 v0 v1 v2} (k2 : Keep q m s0 v2) : Keep q m s0 (ownerResult v0 v1 v2) := by
  unfold ownerResult
  extract_lets a0 a1 a2 a3
  have h4 : Keep q m s0 a1 := State.setFld_keep (State.setFld_keep k2)
  have h5 : Keep q m s0 a2 := State.cond_keep h4 (fun x6 h7 => (State.satInc_keep h7))
  have h8 : Keep q m s0 a3 := State.peatPush_keep h5
  exact answer_keep (State.cond_keep h8 (fun x9 h10 => (State.raise_keep h10)))

theorem unlock_keep {s0 v0 v1} (k1 : Keep false false s0 v1) : Keep false false s0 (unlock v0 v1) := by
  unfold unlock
  extract_lets a0 a1 a2 a3
  have h4 : Keep false false s0 a0 := eventNow_keep (State.lost_keep k1)
  have h5 : Keep false false s0 a1 := Keep.foldl h4 (fun x6 h7 _ => (State.cond_keep h7 (fun x9 h10 => (eventNow_keep h10))))
  clear_value a1
  have h11 : Keep false false s0 a3 := eraseKeys_keep (Keep.set_root h5 (by exact rfl))
  exact warmCause_keep h11

theorem ownerCommand_keep {s0 v0 v1 v2 v3} (k3 : Keep false false s0 v3) : Keep false false s0 (ownerCommand v0 v1 v2
    v3) := by
  unfold ownerCommand
  extract_lets a0 a1 a2 a3
  have h4 : Keep false false s0 a2 := Keep.set_root k3 (by exact rfl)
  have h5 : Keep false false s0 a3 := ownerBurn_keep h4
  exact Keep.ite k3 (Keep.ite (ownerResult_keep h4) (Keep.ite (powerGone_keep h5) (ownerResult_keep h5)))

theorem peatReadOut_keep {q m s0 v0 v1 v2} (k2 : Keep q m s0 v2) : Keep q m s0 (peatReadOut v0 v1 v2) := by
  unfold peatReadOut
  extract_lets a0 a1 a2 a3
  exact answer_keep (keepLarge_keep k2)

theorem doDigests_keep {q m s0 v0} (k0 : Keep q m s0 v0) : Keep q m s0 (doDigests v0) := by
  unfold doDigests
  exact answer_keep k0

theorem doCertificate_keep {q m s0 v0 v1} (k1 : Keep q m s0 v1) : Keep q m s0 (doCertificate v0 v1) := by
  unfold doCertificate
  exact Keep.ite (answer_keep k1) (answer_keep (keepLarge_keep k1))

theorem doChallenge_keep {q m s0 v0 v1 v2} (k2 : Keep q m s0 v2) : Keep q m s0 (doChallenge v0 v1 v2) := by
  unfold doChallenge
  exact Keep.ite (answer_keep k2) (answer_keep k2)

theorem doMeasurements_keep {q m s0 v0 v1 v2} (k2 : Keep q m s0 v2) : Keep q m s0 (doMeasurements v0 v1 v2) := by
  unfold doMeasurements
  extract_lets a0
  exact answer_keep (keepLarge_keep k2)

theorem doKeyExchange_keep {q m s0 v0 v1} (k1 : Keep q m s0 v1) : Keep q m s0 (doKeyExchange v0 v1) := by
  unfold doKeyExchange
  exact answer_keep (sessionOpen_keep (sessionEnd_keep k1))

theorem doFinish_keep {q m s0 v0} (k0 : Keep q m s0 v0) : Keep q m s0 (doFinish v0) := by
  unfold doFinish
  exact inSession_keep (fun x0 h1 => (Keep.ite (answer_keep h1) (answer_keep (Keep.set_spdm h1)))) k0

theorem doKeyUpdate_keep {q m s0 v0} (k0 : Keep q m s0 v0) : Keep q m s0 (doKeyUpdate v0) := by
  unfold doKeyUpdate
  exact inSession_keep (fun x0 h1 => (answer_keep (Keep.set_spdm h1))) k0

theorem doEndSession_keep {q m s0 v0} (k0 : Keep q m s0 v0) : Keep q m s0 (doEndSession v0) := by
  unfold doEndSession
  exact inSession_keep (fun x0 h1 => (answer_keep (sessionEnd_keep h1))) k0

theorem doNonce_keep {q m s0 v0} (k0 : Keep q m s0 v0) : Keep q m s0 (doNonce v0) := by
  unfold doNonce
  extract_lets a0 a1
  exact answer_keep (Keep.set_root k0 (by exact rfl))

theorem doUnlock_keep {s0 v0 v1 v2} (k2 : Keep false false s0 v2) : Keep false false s0 (doUnlock v0 v1 v2) := by
  unfold doUnlock
  extract_lets a0
  exact State.cond_keep (ownerCommand_keep k2) (fun x1 h2 => (unlock_keep h2))

theorem doPeatRead_keep {q m s0 v0 v1 v2} (k2 : Keep q m s0 v2) : Keep q m s0 (doPeatRead v0 v1 v2) := by
  unfold doPeatRead
  exact Keep.ite (answer_keep k2) (peatReadOut_keep k2)

theorem vendorRun_keep {s0 v0 v1 v2 v3} (k3 : Keep false false s0 v3) : Keep false false s0 (vendorRun v0 v1 v2 v3)
    := by
  unfold vendorRun
  extract_lets a0 a1
  exact Keep.ite (doNonce_keep k3) (Keep.ite (Keep.ite (doUnlock_keep k3) (ownerCommand_keep k3)) (Keep.ite
      (doPeatRead_keep k3) (answer_keep k3)))

theorem largeRun_keep {s0 v0 v1 v2 v3} (k3 : Keep false false s0 v3) : Keep false false s0 (largeRun v0 v1 v2 v3) :=
    by
  unfold largeRun
  extract_lets a0
  split
  · next b1 b2 b3 b4 =>
    exact Keep.ite (answer_keep k3) (Keep.ite (answer_keep k3) (Keep.ite (answer_keep k3) (Keep.ite (doDigests_keep
        k3) (Keep.ite (doCertificate_keep k3) (Keep.ite (doChallenge_keep k3) (Keep.ite (Keep.ite
        (doMeasurements_keep k3) (Keep.ite (doMeasurements_keep k3) (answer_keep k3))) (Keep.ite (doKeyExchange_keep
        k3) (Keep.ite (doFinish_keep k3) (Keep.ite (inSession_keep (fun x5 h6 => (answer_keep h6)) k3) (Keep.ite
        (doKeyUpdate_keep k3) (Keep.ite (doEndSession_keep k3) (Keep.ite (vendorRun_keep k3) (answer_keep
        k3)))))))))))))

theorem doChunkSend_keep {s0 v0 v1 v2} (k2 : Keep false false s0 v2) : Keep false false s0 (doChunkSend v0 v1 v2) :=
    by
  unfold doChunkSend
  extract_lets a0 a1 a2
  have h3 : Keep false false s0 a2 := answer_keep (Keep.set_spdm k2)
  exact Keep.ite (largeRun_keep h3) h3

theorem execGetVersion_keep {q m s0 v0 v1} (k1 : Keep q m s0 v1) : OutKeep q m s0 (execGetVersion v0 v1) := by
  unfold execGetVersion
  exact OutKeep.next (spdmRequest_keep (fun x0 h1 => (answer_keep h1)) k1)

theorem execGetCapabilities_keep {q m s0 v0 v1} (k1 : Keep q m s0 v1) : OutKeep q m s0 (execGetCapabilities v0 v1) :=
    by
  unfold execGetCapabilities
  exact OutKeep.next (spdmRequest_keep (fun x0 h1 => (answer_keep h1)) k1)

theorem execNegotiateAlgorithms_keep {q m s0 v0 v1} (k1 : Keep q m s0 v1) : OutKeep q m s0 (execNegotiateAlgorithms
    v0 v1) := by
  unfold execNegotiateAlgorithms
  exact OutKeep.next (spdmRequest_keep (fun x0 h1 => (answer_keep h1)) k1)

theorem execGetDigests_keep {q m s0 v0 v1} (k1 : Keep q m s0 v1) : OutKeep q m s0 (execGetDigests v0 v1) := by
  unfold execGetDigests
  exact OutKeep.next (spdmRequest_keep (fun x0 h1 => (doDigests_keep h1)) k1)

theorem execGetCertificate_keep {q m s0 v0 v1 v2} (k2 : Keep q m s0 v2) : OutKeep q m s0 (execGetCertificate v0 v1
    v2) := by
  unfold execGetCertificate
  exact OutKeep.next (spdmRequest_keep (fun x0 h1 => (doCertificate_keep h1)) k2)

theorem execChallenge_keep {q m s0 v0 v1 v2 v3} (k3 : Keep q m s0 v3) : OutKeep q m s0 (execChallenge v0 v1 v2 v3) :=
    by
  unfold execChallenge
  exact OutKeep.next (spdmRequest_keep (fun x0 h1 => (doChallenge_keep h1)) k3)

theorem execGetMeasurements_keep {q m s0 v0 v1 v2 v3} (k3 : Keep q m s0 v3) : OutKeep q m s0 (execGetMeasurements v0
    v1 v2 v3) := by
  unfold execGetMeasurements
  extract_lets a0
  exact OutKeep.next (spdmRequest_keep (fun x1 h2 => (doMeasurements_keep h2)) k3)

theorem execKeyExchange_keep {q m s0 v0 v1 v2} (k2 : Keep q m s0 v2) : OutKeep q m s0 (execKeyExchange v0 v1 v2) := by
  unfold execKeyExchange
  exact OutKeep.next (spdmRequest_keep (fun x0 h1 => (doKeyExchange_keep h1)) k2)

theorem execFinish_keep {q m s0 v0 v1} (k1 : Keep q m s0 v1) : OutKeep q m s0 (execFinish v0 v1) := by
  unfold execFinish
  exact OutKeep.next (spdmRequest_keep (fun x0 h1 => (doFinish_keep h1)) k1)

theorem execHeartbeat_keep {q m s0 v0 v1} (k1 : Keep q m s0 v1) : OutKeep q m s0 (execHeartbeat v0 v1) := by
  unfold execHeartbeat
  exact OutKeep.next (spdmRequest_keep (fun x0 h1 => (inSession_keep (fun x2 h3 => (answer_keep h3)) h1)) k1)

theorem execKeyUpdate_keep {q m s0 v0 v1} (k1 : Keep q m s0 v1) : OutKeep q m s0 (execKeyUpdate v0 v1) := by
  unfold execKeyUpdate
  exact OutKeep.next (spdmRequest_keep (fun x0 h1 => (doKeyUpdate_keep h1)) k1)

theorem execEndSession_keep {q m s0 v0 v1} (k1 : Keep q m s0 v1) : OutKeep q m s0 (execEndSession v0 v1) := by
  unfold execEndSession
  exact OutKeep.next (spdmRequest_keep (fun x0 h1 => (doEndSession_keep h1)) k1)

theorem execChunkSend_keep {s0 v0 v1 v2 v3} (k3 : Keep false false s0 v3) : OutKeep false false s0 (execChunkSend v0
    v1 v2 v3) := by
  unfold execChunkSend
  exact OutKeep.next (spdmRequest_keep (fun x0 h1 => (doChunkSend_keep h1)) k3)

theorem execChunkGet_keep {q m s0 v0 v1 v2} (k2 : Keep q m s0 v2) : OutKeep q m s0 (execChunkGet v0 v1 v2) := by
  unfold execChunkGet
  exact (OutKeep.next (spdmRequest_keep (fun x0 h1 => (by
      extract_lets a2
      exact (answer_keep (keepLarge_keep h1)))) k2))

theorem execGetOwnerNonce_keep {q m s0 v0 v1} (k1 : Keep q m s0 v1) : OutKeep q m s0 (execGetOwnerNonce v0 v1) := by
  unfold execGetOwnerNonce
  exact OutKeep.next (spdmRequest_keep (fun x0 h1 => (doNonce_keep h1)) k1)

theorem execOwnerEnrol_keep {s0 v0 v1 v2 v3} (k3 : Keep false false s0 v3) : OutKeep false false s0 (execOwnerEnrol
    v0 v1 v2 v3) := by
  unfold execOwnerEnrol
  exact OutKeep.next (spdmRequest_keep (fun x0 h1 => (ownerCommand_keep h1)) k3)

theorem execOwnerRevoke_keep {s0 v0 v1 v2 v3} (k3 : Keep false false s0 v3) : OutKeep false false s0 (execOwnerRevoke
    v0 v1 v2 v3) := by
  unfold execOwnerRevoke
  exact OutKeep.next (spdmRequest_keep (fun x0 h1 => (ownerCommand_keep h1)) k3)

theorem execOwnerUnlock_keep {s0 v0 v1 v2 v3} (k3 : Keep false false s0 v3) : OutKeep false false s0 (execOwnerUnlock
    v0 v1 v2 v3) := by
  unfold execOwnerUnlock
  exact OutKeep.next (spdmRequest_keep (fun x0 h1 => (doUnlock_keep h1)) k3)

theorem execPeatRead_keep {q m s0 v0 v1 v2 v3} (k3 : Keep q m s0 v3) : OutKeep q m s0 (execPeatRead v0 v1 v2 v3) := by
  unfold execPeatRead
  exact OutKeep.next (spdmRequest_keep (fun x0 h1 => (doPeatRead_keep h1)) k3)

theorem execVendorRequestUnsupported_keep {q m s0 v0 v1 v2} (k2 : Keep q m s0 v2) : OutKeep q m s0
    (execVendorRequestUnsupported v0 v1 v2) := by
  unfold execVendorRequestUnsupported
  exact OutKeep.next (spdmRequest_keep (fun x0 h1 => (Keep.ite h1 (answer_keep h1))) k2)

end Sys2Proof.Machine
end

