-- ==== Sys2Proof/Laws/KeepWindow.lean ====
section
/-!
SUPPORT. Keep for every function of Machine/Window.lean that makes a state.
-/

namespace Sys2Proof.Machine

theorem mbxPage_keep {s0 v0 v1 v2} (k2 : Keep false false s0 v2) : Keep false false s0 (mbxPage v0 v1 v2) := by
  unfold mbxPage
  extract_lets a0 a1 a2
  have h3 : Keep false false s0 a1 := State.setReg_keep k2
  exact (Keep.ite (Keep.ite (Keep.ite (mbxResult_keep (denied_keep k2)) (mbxAbort_keep k2)) (mbxGate_keep (fun x4 h5
      => (by
      split
      · next b6 =>
        exact mbxErase_keep h5
      · next b7 =>
        split
        · next b8 =>
          exact mbxWrite_keep h5
        · next b9 =>
          split
          · next b10 =>
            exact mbxBegin_keep h5
          · next b11 =>
            split
            · next b12 =>
              exact mbxActivate_keep h5
            · next b13 =>
              split
              · next b14 =>
                exact mbxReboot_keep h5
              · next b15 =>
                exact (mbxResult_keep h5))) k2)) (Keep.ite (State.setReg_keep k2) (Keep.ite (Keep.set_boot h3) k2)))

theorem ringPage_keep {m s0 v0 v1 v2 v3 v4 v5} (k5 : Keep false m s0 v5) : Keep false m s0 (ringPage v0 v1 v2 v3 v4
    v5) := by
  unfold ringPage
  extract_lets a0 a1 a2 a3 a4
  have h5 : Keep false m s0 a2 := State.cond_keep k5 (fun x6 h7 => (State.race_keep h7))
  have h8 : Keep false m s0 a4 := showActive_keep (State.cond_keep h5 (fun x9 h10 => (State.setBit_keep h10)))
  exact Keep.ite (Keep.ite (ringEnable_keep h8) (ringStop_keep h8)) (Keep.ite (grTailWrite_keep k5) (Keep.ite
      (crHeadWrite_keep k5) (Keep.ite (ringConfig_keep k5) k5)))

theorem requestPage_keep {s0 v0 v1 v2} (k2 : Keep false false s0 v2) : Keep false false s0 (requestPage v0 v1 v2) :=
    by
  unfold requestPage
  exact Keep.ite (hostRequest_keep (fun x0 h1 => (reqRun_keep h1)) k2) (Keep.ite (hostRequest_keep (fun x2 h3 =>
      (reqShutter_keep h3)) k2) (Keep.ite (hostRequest_keep (fun x4 h5 => (reqPacking_keep h5)) k2) (Keep.ite
      (hostRequest_keep (fun x6 h7 => (reqCal_keep h7)) k2) (Keep.ite (hostRequest_keep (fun x8 h9 => (reqMaint_keep
      h9)) k2) k2))))

theorem windowWrite_keep {s0 v0 v1 v2 v3 v4} (k4 : Keep false false s0 v4) : Keep false false s0 (windowWrite v0 v1
    v2 v3 v4) := by
  unfold windowWrite
  extract_lets a0 a1
  have h2 : Keep false false s0 a0 := State.setReg_keep k4
  exact Keep.ite k4 (Keep.ite (State.cond_keep k4 (fun x3 h4 => (badWrite_keep h4))) (Keep.ite (Keep.ite k4
      (vectorsRetry_keep (State.setReg_keep k4))) (Keep.ite (Keep.ite (writeReg_keep k4) k4) (Keep.ite (Keep.ite
      (ringPage_keep k4) k4) (Keep.ite (Keep.ite (eventAck_keep k4) k4) (Keep.ite (Keep.ite (requestPage_keep k4) k4)
      (Keep.ite (Keep.ite k4 (Keep.ite (Keep.ite (Keep.set_peat h2) h2) (denied_keep k4))) (Keep.ite (Keep.ite
      (mbxPage_keep k4) k4) k4))))))))

theorem windowSpan_keep {q m s0 v0 v1 v2} (k2 : Keep q m s0 v2) : Keep q m s0 (windowSpan v0 v1 v2) := by
  unfold windowSpan
  extract_lets a0 a1 a2 a3
  exact State.emit_keep (State.cond_keep k2 (fun x4 h5 => (countDenied_keep h5)))

theorem execRegisterWrite_keep {s0 v0 v1 v2 v3 v4 v5} (k5 : Keep false false s0 v5) : OutKeep false false s0
    (execRegisterWrite v0 v1 v2 v3 v4 v5) := by
  unfold execRegisterWrite
  exact (OutKeep.next (by
      split
      · next b0 =>
        exact Keep.ite (windowWrite_keep k5) k5
      · next b1 b2 =>
        exact (Keep.ite k5 (State.whenWorking_keep k5 (fun x3 h4 => (writeReg_keep h4))))))

theorem execPairLoRead_keep {q m s0 v0 v1 v2} (k2 : Keep q m s0 v2) : OutKeep q m s0 (execPairLoRead v0 v1 v2) := by
  unfold execPairLoRead
  extract_lets a0
  exact (OutKeep.next (by
      split
      · next b1 =>
        exact Keep.ite (windowSpan_keep k2) k2
      · next b2 b3 =>
        exact (Keep.ite k2 (State.whenWorking_keep k2 (fun x4 h5 => (readRegs_keep h5))))))

end Sys2Proof.Machine
end

