-- ==== Sys2Proof/Laws/KeepBus.lean ====
section
/-!
SUPPORT. Keep for every function of Machine/Bus.lean that makes a state.
-/

namespace Sys2Proof.Machine

theorem writeRegs_keep {s0 v0 v1 v2 v3 v4} (k4 : Keep false false s0 v4) : Keep false false s0 (writeRegs v0 v1 v2 v3
    v4) := by
  induction v2 generalizing v0 v1 v3 v4 with
  | zero =>
    unfold writeRegs
    exact k4
  | succ j ih =>
    unfold writeRegs
    exact ih (writeReg_keep k4)

theorem busRead_keep {q m s0 v0 v1 v2 v3 v4} (k4 : Keep q m s0 v4) : Keep q m s0 (busRead v0 v1 v2 v3 v4).2 := by
  unfold busRead
  split
  · next b0 b1 =>
    exact Keep.mk2 k4
  · next b2 b3 =>
    split
    · next b4 =>
      exact Keep.mk2 k4
    · next b5 =>
      exact Keep.mk2 k4
  · next b6 b7 b8 =>
    extract_lets a9 a10 a11
    have h12 : Keep q m s0 a10.2 := readRegs_keep k4
    split
    · next b13 =>
      exact Keep.mk2 k4
    · next b14 =>
      split
      · next b15 =>
        exact Keep.mk2 h12
      · next b16 =>
        clear_value a9
        split
        · next b17 b18 b19 =>
          split
          · next b20 =>
            exact Keep.mk2 k4
          · next b21 =>
            exact Keep.mk2 k4
        · next b22 b23 b24 =>
          clear_value a11
          split
          · next b25 b26 b27 b28 b29 b30 =>
            split
            · next b31 =>
              exact Keep.mk2 (queueDrop_keep k4)
            · next b32 =>
              exact Keep.mk2 k4
          · next b33 b34 b35 b36 =>
            exact Keep.mk2 k4
        · next b37 b38 =>
          exact Keep.mk2 h12
  · next b39 b40 b41 b42 =>
    split
    · next b43 =>
      exact Keep.mk2 k4
    · next b44 =>
      exact Keep.mk2 k4

theorem storeMasked_keep {m s0 v0 v1 v2} (k2 : Keep false m s0 v2) : Keep false m s0 (storeMasked v0 v1 v2) := by
  induction v1 generalizing v0 v2 with
  | nil =>
    unfold storeMasked
    exact k2
  | cons j js ih =>
    unfold storeMasked
    exact ih (Keep.ite (State.setByte_keep k2) k2)

theorem busWrite_keep {s0 v0 v1 v2 v3 v4} (k4 : Keep false false s0 v4) : OptKeep false false s0 (busWrite v0 v1 v2
    v3 v4) := by
  unfold busWrite
  extract_lets a0 a1 a2
  split
  · next b3 b4 =>
    exact OptKeep.none
  · next b5 b6 =>
    exact OptKeep.none
  · next b7 b8 b9 =>
    extract_lets a10
    split
    · next b11 =>
      exact OptKeep.none
    · next b12 =>
      split
      · next b13 =>
        exact OptKeep.some (writeRegs_keep k4)
      · next b14 =>
        clear_value a2
        split
        · next b15 b16 b17 =>
          split
          · next b18 =>
            exact OptKeep.some (storeMasked_keep k4)
          · next b19 =>
            exact OptKeep.none
        · next b20 b21 b22 =>
          split
          · next b23 b24 =>
            split
            · next b25 =>
              exact OptKeep.some (queueAdd_keep k4)
            · next b26 =>
              exact OptKeep.none
          · next b27 =>
            exact OptKeep.none
        · next b28 b29 =>
          exact OptKeep.some (writeRegs_keep k4)
  · next b30 b31 b32 b33 =>
    split
    · next b34 =>
      exact OptKeep.some (storeMasked_keep k4)
    · next b35 =>
      exact OptKeep.none

end Sys2Proof.Machine
end

