-- ==== Sys2Proof/Laws/KeepDmaMove.lean ====
section
/-!
SUPPORT. Keep for every function of Machine/DmaMove.lean that makes a state.
-/

namespace Sys2Proof.Machine

theorem burstPut_keep {s0 v0 v1 v2 v3 v4} (k4 : Keep false false s0 v4) : OptKeep false false s0 (burstPut v0 v1 v2
    v3 v4) := by
  unfold burstPut
  extract_lets a0
  split
  · next b1 =>
    split
    · next b2 =>
      exact OptKeep.some (hostPut_keep k4)
    · next b3 =>
      exact OptKeep.none
  · next b4 =>
    exact busWrite_keep k4

theorem askHost_keep {q m s0 v0 v1 v2 v3 v4 v5} (k5 : Keep q m s0 v5) : Keep q m s0 (askHost v0 v1 v2 v3 v4 v5) := by
  induction v1 generalizing v0 v2 v3 v4 v5 with
  | zero =>
    unfold askHost
    exact k5
  | succ j ih =>
    unfold askHost
    extract_lets a0 a1
    have h2 : Keep q m s0 a1 := hostAsk_keep k5
    clear_value a0 a1
    exact Keep.ite k5 (ih h2)

theorem burstDone_keep {s0 v0 v1 v2} (k2 : Keep false false s0 v2) : Keep false false s0 (burstDone v0 v1 v2) := by
  unfold burstDone
  split
  · next b0 b1 b2 b3 =>
    extract_lets a4
    clear_value a4
    split
    · next b5 b6 =>
      exact k2
    · next b7 b8 b9 =>
      extract_lets a10 a11 a12
      have h13 : Keep false false s0 a11.2 := busRead_keep k2
      have h14 : Keep false false s0 a12.2 := Keep.mk2 (spanNote_keep h13)
      exact (Keep.ite (Keep.ite (askHost_keep k2) (chanFails_keep k2)) (by
          clear_value a11
          split
          · next b15 b16 =>
            exact chanFails_keep h13
          · next b17 b18 b19 =>
            exact (Keep.ite (chanFails_keep h14) (by
                clear_value a12
                split
                · next b20 b21 =>
                  exact chanFails_keep h14
                · next b22 b23 b24 =>
                  have h25 : Keep false false s0 b23 := (burstPut_keep h14) _ b24
                  exact (chanEnds_keep (chanMoved_keep h25))))))

theorem burstEnd_keep {s0 v0 v1} (k1 : Keep false false s0 v1) : Keep false false s0 (burstEnd v0 v1) := by
  unfold burstEnd
  split
  · next b0 b1 =>
    exact grantBurst_keep k1
  · next b2 b3 b4 =>
    extract_lets a5 a6
    have h7 : Keep false false s0 a6 := showInflight_keep (Keep.set_dma k1)
    exact Keep.ite k1 (grantBurst_keep (Keep.ite (burstDone_keep h7) (Keep.ite (showStarved_keep (deliverBurst_keep
        h7)) h7)))

theorem chanFlushed_keep {q m s0 v0 v1} (k1 : Keep q m s0 v1) : Keep q m s0 (chanFlushed v0 v1) := by
  unfold chanFlushed
  extract_lets a0 a1
  have h2 : ∀ y1 y2, Keep q m s0 y2 → Keep q m s0 (a1 y1 y2) := fun _ x4 h5 => (State.setChan_keep h5)
  clear_value a0
  split
  · next b6 b7 =>
    exact k1
  · next b8 b9 b10 =>
    extract_lets a11 a12
    have h13 : Keep q m s0 a12.2 := busRead_keep k1
    exact Keep.ite k1 (Keep.ite (Keep.ite (h2 _ _ (showInflight_keep (Keep.set_hostReads k1))) (flushNext_keep k1))
        (Keep.ite k1 (h2 _ _ h13)))

theorem readCompletes_keep {s0 v0 v1 v2 v3} (k3 : Keep false false s0 v3) : Keep false false s0 (readCompletes v0 v1
    v2 v3) := by
  unfold readCompletes
  split
  · next b0 b1 =>
    extract_lets a2
    exact State.satInc_keep (Keep.set_dma k3)
  · next b3 b4 b5 =>
    split
    · next b6 b7 b8 b9 =>
      extract_lets a10 a11 a12
      have h13 : Keep false false s0 a11 := dropRead_keep k3
      exact (Keep.ite k3 (Keep.ite (Keep.ite (State.setChan_keep h13) (State.setChan_keep h13)) (Keep.ite
          (chanFails_keep h13) (by
          clear_value a10 a11
          split
          · next b14 b15 =>
            exact chanFails_keep h13
          · next b16 b17 b18 =>
            have h19 : Keep false false s0 b17 := (busWrite_keep h13) _ b18
            exact (chanEnds_keep (chanMoved_keep h19))))))
    · next b20 b21 b22 b23 b24 =>
      extract_lets a25
      exact grantRead_keep k3
    · next b26 b27 b28 b29 =>
      exact k3

theorem execDmaBurstEnd_keep {s0 v0 v1 v2} (k2 : Keep false false s0 v2) : OutKeep false false s0 (execDmaBurstEnd v0
    v1 v2) := by
  unfold execDmaBurstEnd
  exact (OutKeep.next (State.whenWorking_keep k2 (fun x0 h1 => (by
      extract_lets a2
      have h3 : Keep false false s0 a2 := flushNext_keep (burstEnd_keep h1)
      clear_value a2
      split
      · next b4 b5 b6 =>
        exact State.lost_keep h3
      · next b7 b8 =>
        exact h3))))

theorem execFlushReadReturn_keep {q m s0 v0 v1} (k1 : Keep q m s0 v1) : OutKeep q m s0 (execFlushReadReturn v0 v1) :=
    by
  unfold execFlushReadReturn
  exact OutKeep.next (State.whenWorking_keep k1 (fun x0 h1 => (chanFlushed_keep h1)))

theorem execHostReadCompletion_keep {s0 v0 v1 v2 v3 v4} (k4 : Keep false false s0 v4) : OutKeep false false s0
    (execHostReadCompletion v0 v1 v2 v3 v4) := by
  unfold execHostReadCompletion
  exact OutKeep.next (State.whenWorking_keep k4 (fun x0 h1 => (flushNext_keep (State.lost_keep (readCompletes_keep
      h1)))))

end Sys2Proof.Machine
end

