-- ==== Sys2Proof/Laws/KeepFrondRun.lean ====
section
/-!
SUPPORT. Keep for every function of Machine/FrondRun.lean that makes a state.
-/

namespace Sys2Proof.Machine

theorem frondFaults_keep {s0 v0 v1 v2 v3 v4 v5} (k5 : Keep false false s0 v5) : Keep false false s0 (frondFaults v0
    v1 v2 v3 v4 v5) := by
  unfold frondFaults
  exact State.cond_keep (frondFault_keep k5) (fun x0 h1 => (warmCause_keep h1))

theorem memEffect_keep {s0 v0 v1 v2 v3 v4 v5} (k5 : Keep false false s0 v5) : Keep false false s0 (memEffect v0 v1 v2
    v3 v4 v5) := by
  unfold memEffect
  split
  · next b0 b1 b2 b3 b4 b5 b6 b7 b8 =>
    extract_lets a9 a10 a11 a12 a13
    have h14 : Keep false false s0 a11 := eccNote_keep k5
    exact Keep.ite k5 (Keep.ite (Keep.ite (Keep.ite (frondFaults_keep h14) (State.setFrond_keep h14))
        (storeMasked_keep k5)) (State.setFrond_keep k5))
  · next b15 b16 =>
    exact k5

theorem queueEffect_keep {q m s0 v0 v1 v2 v3} (k3 : Keep q m s0 v3) : Keep q m s0 (queueEffect v0 v1 v2 v3) := by
  unfold queueEffect
  split
  · next b0 b1 b2 b3 b4 b5 =>
    extract_lets a6 a7 a8 a9
    exact Keep.ite k3 (Keep.ite (State.setFrond_keep k3) (Keep.ite (queueAdd_keep (State.setFrond_keep k3))
        (stageRefill_keep (queueDrop_keep (State.setFrond_keep k3)))))
  · next b10 b11 =>
    exact k3

theorem systemEffect_keep {q m s0 v0 v1 v2 v3} (k3 : Keep q m s0 v3) : Keep q m s0 (systemEffect v0 v1 v2 v3) := by
  unfold systemEffect
  extract_lets a0
  split
  · next b1 b2 =>
    exact frondHalt_keep k3
  · next b3 b4 b5 =>
    exact Keep.ite k3 (setFrondState_keep (State.setFrond_keep k3))
  · next b6 b7 b8 =>
    exact State.setReg_keep (State.setReg_keep k3)
  · next b9 b10 b11 =>
    exact State.setFrond_keep k3
  · next b12 b13 =>
    exact frondEvent_keep k3
  · next b14 b15 b16 =>
    extract_lets a17
    exact State.setFrond_keep k3
  · next b18 b19 b20 b21 =>
    exact State.setFrond_keep k3
  · next b22 b23 b24 b25 b26 b27 b28 b29 =>
    exact k3

theorem bundleEffect_keep {s0 v0 v1 v2 v3 v4} (k4 : Keep false false s0 v4) : Keep false false s0 (bundleEffect v0 v1
    v2 v3 v4) := by
  unfold bundleEffect
  extract_lets a0 a1
  have h2 : Keep false false s0 a1 := State.setFrond_keep k4
  exact memEffect_keep (systemEffect_keep (queueEffect_keep h2))

theorem issue_keep {s0 v0 v1 v2 v3 v4 v5} (k5 : Keep false false s0 v5) : Keep false false s0 (issue v0 v1 v2 v3 v4
    v5) := by
  unfold issue
  extract_lets a0 a1
  exact (Keep.ite k5 (Keep.ite (frondFaults_keep k5) (Keep.ite (frondFaults_keep (eccBad_keep k5)) (by
      clear_value a1
      split
      · next b2 b3 =>
        exact frondFaults_keep k5
      · next b4 b5 b6 =>
        exact (Keep.ite k5 (Keep.ite k5 (by
            split
            · next b7 b8 b9 b10 =>
              exact frondFaults_keep k5
            · next b11 b12 =>
              exact (bundleEffect_keep (eccNote_keep k5)))))))))

theorem frondStep_keep {s0 v0 v1 v2 v3 v4 v5 v6} (k6 : Keep false false s0 v6) : OutKeep false false s0 (frondStep v0
    v1 v2 v3 v4 v5 v6) := by
  unfold frondStep
  exact OutKeep.next (State.whenWorking_keep k6 (fun x0 h1 => (issue_keep (State.lost_keep h1))))

theorem accessGone_keep {q m s0 v0 v1 v2} (k2 : Keep q m s0 v2) : Keep q m s0 (accessGone v0 v1 v2) := by
  unfold accessGone
  extract_lets a0
  exact State.setFrond_keep k2

theorem bankRace_keep {q m s0 v0 v1} (k1 : Keep q m s0 v1) : Keep q m s0 (bankRace v0 v1) := by
  unfold bankRace
  split
  · next b0 b1 b2 =>
    exact State.satInc_keep k1
  · next b3 b4 =>
    exact State.satInc_keep k1
  · next b5 b6 b7 =>
    exact k1

theorem accessSwap_keep {s0 v0 v1 v2 v3 v4 v5} (k5 : Keep false false s0 v5) : Keep false false s0 (accessSwap v0 v1
    v2 v3 v4 v5).2 := by
  unfold accessSwap
  extract_lets a0 a1
  have h2 : Keep false false s0 a0.2 := busRead_keep k5
  have h3 : Keep false false s0 a1 := Keep.ite (State.drawn_keep (State.drawn_keep h2)) h2
  clear_value a0
  split
  · next b4 b5 =>
    exact h2
  · next b6 b7 b8 =>
    extract_lets a9
    clear_value a1 a9
    split
    · next b10 b11 =>
      exact Keep.mk2 h2
    · next b12 b13 b14 =>
      have h15 : Keep false false s0 b13 := (busWrite_keep h3) _ b14
      exact Keep.mk2 h15

theorem accessServe_keep {s0 v0 v1 v2 v3} (k3 : Keep false false s0 v3) : Keep false false s0 (accessServe v0 v1 v2
    v3).2 := by
  unfold accessServe
  extract_lets a0
  split
  · next b1 b2 b3 b4 =>
    exact busRead_keep k3
  · next b5 b6 =>
    exact busRead_keep k3
  · next b7 b8 b9 b10 =>
    exact accessSwap_keep k3
  · next b11 b12 b13 b14 =>
    exact accessSwap_keep k3
  · next b15 b16 b17 b18 =>
    exact Keep.mk2 k3

theorem loadReturn_keep {s0 v0 v1 v2 v3 v4} (k4 : Keep false false s0 v4) : Keep false false s0 (loadReturn v0 v1 v2
    v3 v4) := by
  unfold loadReturn
  split
  · next b0 b1 =>
    exact k4
  · next b2 b3 b4 =>
    extract_lets a5 a6 a7 a8
    have h9 : Keep false false s0 a5 := (by
        unfold a5
        split
        · next b10 b11 b12 b13 =>
          exact eccNote_keep k4
        · next b14 b15 =>
          exact k4)
    have h16 : Keep false false s0 a7.2 := accessServe_keep h9
    have h17 : Keep false false s0 a8 := accessGone_keep h16
    exact (Keep.ite k4 (Keep.ite h17 (by
        clear_value a7
        split
        · next b18 b19 =>
          exact frondFaults_keep h17
        · next b20 b21 b22 =>
          exact (Keep.ite (frondFaults_keep h17) (State.setFrond_keep h17)))))

theorem storeAccept_keep {s0 v0 v1 v2} (k2 : Keep false false s0 v2) : Keep false false s0 (storeAccept v0 v1 v2) :=
    by
  unfold storeAccept
  split
  · next b0 b1 =>
    exact k2
  · next b2 b3 b4 =>
    split
    · next b5 b6 b7 b8 =>
      split
      · next b9 b10 b11 =>
        have h12 : Keep false false s0 b10 := (busWrite_keep (accessGone_keep k2)) _ b11
        exact h12
      · next b13 b14 =>
        exact accessRefused_keep (accessGone_keep k2)
    · next b15 b16 =>
      exact k2

theorem execLoadReturn_keep {s0 v0 v1 v2 v3 v4 v5} (k5 : Keep false false s0 v5) : OutKeep false false s0
    (execLoadReturn v0 v1 v2 v3 v4 v5) := by
  unfold execLoadReturn
  exact (OutKeep.next (State.whenWorking_keep k5 (fun x0 h1 => (by
      extract_lets a2
      exact (loadReturn_keep (State.cond_keep h1 (fun x3 h4 => (bankRace_keep h4))))))))

theorem execStoreAccept_keep {s0 v0 v1 v2 v3} (k3 : Keep false false s0 v3) : OutKeep false false s0 (execStoreAccept
    v0 v1 v2 v3) := by
  unfold execStoreAccept
  exact (OutKeep.next (State.whenWorking_keep k3 (fun x0 h1 => (by
      extract_lets a2
      exact (storeAccept_keep (State.cond_keep h1 (fun x3 h4 => (bankRace_keep h4))))))))

end Sys2Proof.Machine
end

