-- ==== Sys2Proof/Laws/KeepFrondIsa.lean ====
section
/-!
SUPPORT. Keep for every function of Machine/FrondIsa.lean that makes a state.
-/

namespace Sys2Proof.Machine

theorem execNop_keep {s0 v0 v1 v2 v3 v4 v5} (k5 : Keep false false s0 v5) : OutKeep false false s0 (execNop v0 v1 v2
    v3 v4 v5) := by
  unfold execNop
  exact frondStep_keep k5

theorem execAdd_keep {s0 v0 v1 v2 v3 v4 v5} (k5 : Keep false false s0 v5) : OutKeep false false s0 (execAdd v0 v1 v2
    v3 v4 v5) := by
  unfold execAdd
  exact frondStep_keep k5

theorem execSub_keep {s0 v0 v1 v2 v3 v4 v5} (k5 : Keep false false s0 v5) : OutKeep false false s0 (execSub v0 v1 v2
    v3 v4 v5) := by
  unfold execSub
  exact frondStep_keep k5

theorem execAnd_keep {s0 v0 v1 v2 v3 v4 v5} (k5 : Keep false false s0 v5) : OutKeep false false s0 (execAnd v0 v1 v2
    v3 v4 v5) := by
  unfold execAnd
  exact frondStep_keep k5

theorem execOr_keep {s0 v0 v1 v2 v3 v4 v5} (k5 : Keep false false s0 v5) : OutKeep false false s0 (execOr v0 v1 v2 v3
    v4 v5) := by
  unfold execOr
  exact frondStep_keep k5

theorem execXor_keep {s0 v0 v1 v2 v3 v4 v5} (k5 : Keep false false s0 v5) : OutKeep false false s0 (execXor v0 v1 v2
    v3 v4 v5) := by
  unfold execXor
  exact frondStep_keep k5

theorem execSll_keep {s0 v0 v1 v2 v3 v4 v5} (k5 : Keep false false s0 v5) : OutKeep false false s0 (execSll v0 v1 v2
    v3 v4 v5) := by
  unfold execSll
  exact frondStep_keep k5

theorem execSrl_keep {s0 v0 v1 v2 v3 v4 v5} (k5 : Keep false false s0 v5) : OutKeep false false s0 (execSrl v0 v1 v2
    v3 v4 v5) := by
  unfold execSrl
  exact frondStep_keep k5

theorem execSra_keep {s0 v0 v1 v2 v3 v4 v5} (k5 : Keep false false s0 v5) : OutKeep false false s0 (execSra v0 v1 v2
    v3 v4 v5) := by
  unfold execSra
  exact frondStep_keep k5

theorem execMul_keep {s0 v0 v1 v2 v3 v4 v5} (k5 : Keep false false s0 v5) : OutKeep false false s0 (execMul v0 v1 v2
    v3 v4 v5) := by
  unfold execMul
  exact frondStep_keep k5

theorem execMulhs_keep {s0 v0 v1 v2 v3 v4 v5} (k5 : Keep false false s0 v5) : OutKeep false false s0 (execMulhs v0 v1
    v2 v3 v4 v5) := by
  unfold execMulhs
  exact frondStep_keep k5

theorem execMulhu_keep {s0 v0 v1 v2 v3 v4 v5} (k5 : Keep false false s0 v5) : OutKeep false false s0 (execMulhu v0 v1
    v2 v3 v4 v5) := by
  unfold execMulhu
  exact frondStep_keep k5

theorem execMin_keep {s0 v0 v1 v2 v3 v4 v5} (k5 : Keep false false s0 v5) : OutKeep false false s0 (execMin v0 v1 v2
    v3 v4 v5) := by
  unfold execMin
  exact frondStep_keep k5

theorem execMax_keep {s0 v0 v1 v2 v3 v4 v5} (k5 : Keep false false s0 v5) : OutKeep false false s0 (execMax v0 v1 v2
    v3 v4 v5) := by
  unfold execMax
  exact frondStep_keep k5

theorem execMinu_keep {s0 v0 v1 v2 v3 v4 v5} (k5 : Keep false false s0 v5) : OutKeep false false s0 (execMinu v0 v1
    v2 v3 v4 v5) := by
  unfold execMinu
  exact frondStep_keep k5

theorem execMaxu_keep {s0 v0 v1 v2 v3 v4 v5} (k5 : Keep false false s0 v5) : OutKeep false false s0 (execMaxu v0 v1
    v2 v3 v4 v5) := by
  unfold execMaxu
  exact frondStep_keep k5

theorem execCmpeq_keep {s0 v0 v1 v2 v3 v4 v5} (k5 : Keep false false s0 v5) : OutKeep false false s0 (execCmpeq v0 v1
    v2 v3 v4 v5) := by
  unfold execCmpeq
  exact frondStep_keep k5

theorem execCmplt_keep {s0 v0 v1 v2 v3 v4 v5} (k5 : Keep false false s0 v5) : OutKeep false false s0 (execCmplt v0 v1
    v2 v3 v4 v5) := by
  unfold execCmplt
  exact frondStep_keep k5

theorem execCmpltu_keep {s0 v0 v1 v2 v3 v4 v5} (k5 : Keep false false s0 v5) : OutKeep false false s0 (execCmpltu v0
    v1 v2 v3 v4 v5) := by
  unfold execCmpltu
  exact frondStep_keep k5

theorem execCmpge_keep {s0 v0 v1 v2 v3 v4 v5} (k5 : Keep false false s0 v5) : OutKeep false false s0 (execCmpge v0 v1
    v2 v3 v4 v5) := by
  unfold execCmpge
  exact frondStep_keep k5

theorem execClz_keep {s0 v0 v1 v2 v3 v4 v5} (k5 : Keep false false s0 v5) : OutKeep false false s0 (execClz v0 v1 v2
    v3 v4 v5) := by
  unfold execClz
  exact frondStep_keep k5

theorem execPopc_keep {s0 v0 v1 v2 v3 v4 v5} (k5 : Keep false false s0 v5) : OutKeep false false s0 (execPopc v0 v1
    v2 v3 v4 v5) := by
  unfold execPopc
  exact frondStep_keep k5

theorem execPand_keep {s0 v0 v1 v2 v3 v4 v5} (k5 : Keep false false s0 v5) : OutKeep false false s0 (execPand v0 v1
    v2 v3 v4 v5) := by
  unfold execPand
  exact frondStep_keep k5

theorem execPor_keep {s0 v0 v1 v2 v3 v4 v5} (k5 : Keep false false s0 v5) : OutKeep false false s0 (execPor v0 v1 v2
    v3 v4 v5) := by
  unfold execPor
  exact frondStep_keep k5

theorem execPxor_keep {s0 v0 v1 v2 v3 v4 v5} (k5 : Keep false false s0 v5) : OutKeep false false s0 (execPxor v0 v1
    v2 v3 v4 v5) := by
  unfold execPxor
  exact frondStep_keep k5

theorem execPandn_keep {s0 v0 v1 v2 v3 v4 v5} (k5 : Keep false false s0 v5) : OutKeep false false s0 (execPandn v0 v1
    v2 v3 v4 v5) := by
  unfold execPandn
  exact frondStep_keep k5

theorem execMfp_keep {s0 v0 v1 v2 v3 v4 v5} (k5 : Keep false false s0 v5) : OutKeep false false s0 (execMfp v0 v1 v2
    v3 v4 v5) := by
  unfold execMfp
  exact frondStep_keep k5

theorem execMtp_keep {s0 v0 v1 v2 v3 v4 v5} (k5 : Keep false false s0 v5) : OutKeep false false s0 (execMtp v0 v1 v2
    v3 v4 v5) := by
  unfold execMtp
  exact frondStep_keep k5

theorem execAddi_keep {s0 v0 v1 v2 v3 v4 v5} (k5 : Keep false false s0 v5) : OutKeep false false s0 (execAddi v0 v1
    v2 v3 v4 v5) := by
  unfold execAddi
  exact frondStep_keep k5

theorem execAndi_keep {s0 v0 v1 v2 v3 v4 v5} (k5 : Keep false false s0 v5) : OutKeep false false s0 (execAndi v0 v1
    v2 v3 v4 v5) := by
  unfold execAndi
  exact frondStep_keep k5

theorem execOri_keep {s0 v0 v1 v2 v3 v4 v5} (k5 : Keep false false s0 v5) : OutKeep false false s0 (execOri v0 v1 v2
    v3 v4 v5) := by
  unfold execOri
  exact frondStep_keep k5

theorem execXori_keep {s0 v0 v1 v2 v3 v4 v5} (k5 : Keep false false s0 v5) : OutKeep false false s0 (execXori v0 v1
    v2 v3 v4 v5) := by
  unfold execXori
  exact frondStep_keep k5

theorem execSlli_keep {s0 v0 v1 v2 v3 v4 v5} (k5 : Keep false false s0 v5) : OutKeep false false s0 (execSlli v0 v1
    v2 v3 v4 v5) := by
  unfold execSlli
  exact frondStep_keep k5

theorem execSrli_keep {s0 v0 v1 v2 v3 v4 v5} (k5 : Keep false false s0 v5) : OutKeep false false s0 (execSrli v0 v1
    v2 v3 v4 v5) := by
  unfold execSrli
  exact frondStep_keep k5

theorem execSrai_keep {s0 v0 v1 v2 v3 v4 v5} (k5 : Keep false false s0 v5) : OutKeep false false s0 (execSrai v0 v1
    v2 v3 v4 v5) := by
  unfold execSrai
  exact frondStep_keep k5

theorem execCmpi_keep {s0 v0 v1 v2 v3 v4 v5} (k5 : Keep false false s0 v5) : OutKeep false false s0 (execCmpi v0 v1
    v2 v3 v4 v5) := by
  unfold execCmpi
  exact frondStep_keep k5

theorem execHalt_keep {s0 v0 v1 v2 v3 v4 v5} (k5 : Keep false false s0 v5) : OutKeep false false s0 (execHalt v0 v1
    v2 v3 v4 v5) := by
  unfold execHalt
  exact frondStep_keep k5

theorem execFence_keep {s0 v0 v1 v2 v3 v4 v5} (k5 : Keep false false s0 v5) : OutKeep false false s0 (execFence v0 v1
    v2 v3 v4 v5) := by
  unfold execFence
  exact frondStep_keep k5

theorem execWait_keep {s0 v0 v1 v2 v3 v4 v5} (k5 : Keep false false s0 v5) : OutKeep false false s0 (execWait v0 v1
    v2 v3 v4 v5) := by
  unfold execWait
  exact frondStep_keep k5

theorem execEvclr_keep {s0 v0 v1 v2 v3 v4 v5} (k5 : Keep false false s0 v5) : OutKeep false false s0 (execEvclr v0 v1
    v2 v3 v4 v5) := by
  unfold execEvclr
  exact frondStep_keep k5

theorem execEvrd_keep {s0 v0 v1 v2 v3 v4 v5} (k5 : Keep false false s0 v5) : OutKeep false false s0 (execEvrd v0 v1
    v2 v3 v4 v5) := by
  unfold execEvrd
  exact frondStep_keep k5

theorem execSwevt_keep {s0 v0 v1 v2 v3 v4 v5} (k5 : Keep false false s0 v5) : OutKeep false false s0 (execSwevt v0 v1
    v2 v3 v4 v5) := by
  unfold execSwevt
  exact frondStep_keep k5

theorem execLil_keep {s0 v0 v1 v2 v3 v4 v5} (k5 : Keep false false s0 v5) : OutKeep false false s0 (execLil v0 v1 v2
    v3 v4 v5) := by
  unfold execLil
  exact frondStep_keep k5

theorem execLih_keep {s0 v0 v1 v2 v3 v4 v5} (k5 : Keep false false s0 v5) : OutKeep false false s0 (execLih v0 v1 v2
    v3 v4 v5) := by
  unfold execLih
  exact frondStep_keep k5

theorem execTimel_keep {s0 v0 v1 v2 v3 v4 v5} (k5 : Keep false false s0 v5) : OutKeep false false s0 (execTimel v0 v1
    v2 v3 v4 v5) := by
  unfold execTimel
  exact frondStep_keep k5

theorem execTimeh_keep {s0 v0 v1 v2 v3 v4 v5} (k5 : Keep false false s0 v5) : OutKeep false false s0 (execTimeh v0 v1
    v2 v3 v4 v5) := by
  unfold execTimeh
  exact frondStep_keep k5

theorem execQcnt_keep {s0 v0 v1 v2 v3 v4 v5} (k5 : Keep false false s0 v5) : OutKeep false false s0 (execQcnt v0 v1
    v2 v3 v4 v5) := by
  unfold execQcnt
  exact frondStep_keep k5

theorem execBranch_keep {s0 v0 v1 v2 v3 v4 v5} (k5 : Keep false false s0 v5) : OutKeep false false s0 (execBranch v0
    v1 v2 v3 v4 v5) := by
  unfold execBranch
  exact frondStep_keep k5

theorem execBranchLink_keep {s0 v0 v1 v2 v3 v4 v5} (k5 : Keep false false s0 v5) : OutKeep false false s0
    (execBranchLink v0 v1 v2 v3 v4 v5) := by
  unfold execBranchLink
  exact frondStep_keep k5

theorem execBranchIndirect_keep {s0 v0 v1 v2 v3 v4 v5} (k5 : Keep false false s0 v5) : OutKeep false false s0
    (execBranchIndirect v0 v1 v2 v3 v4 v5) := by
  unfold execBranchIndirect
  exact frondStep_keep k5

theorem execBranchIndirectLink_keep {s0 v0 v1 v2 v3 v4 v5} (k5 : Keep false false s0 v5) : OutKeep false false s0
    (execBranchIndirectLink v0 v1 v2 v3 v4 v5) := by
  unfold execBranchIndirectLink
  exact frondStep_keep k5

theorem execLd_keep {s0 v0 v1 v2 v3 v4 v5} (k5 : Keep false false s0 v5) : OutKeep false false s0 (execLd v0 v1 v2 v3
    v4 v5) := by
  unfold execLd
  exact frondStep_keep k5

theorem execSt_keep {s0 v0 v1 v2 v3 v4 v5} (k5 : Keep false false s0 v5) : OutKeep false false s0 (execSt v0 v1 v2 v3
    v4 v5) := by
  unfold execSt
  exact frondStep_keep k5

theorem execVld_keep {s0 v0 v1 v2 v3 v4 v5} (k5 : Keep false false s0 v5) : OutKeep false false s0 (execVld v0 v1 v2
    v3 v4 v5) := by
  unfold execVld
  exact frondStep_keep k5

theorem execVst_keep {s0 v0 v1 v2 v3 v4 v5} (k5 : Keep false false s0 v5) : OutKeep false false s0 (execVst v0 v1 v2
    v3 v4 v5) := by
  unfold execVst
  exact frondStep_keep k5

theorem execAadd_keep {s0 v0 v1 v2 v3 v4 v5} (k5 : Keep false false s0 v5) : OutKeep false false s0 (execAadd v0 v1
    v2 v3 v4 v5) := by
  unfold execAadd
  exact frondStep_keep k5

theorem execAswp_keep {s0 v0 v1 v2 v3 v4 v5} (k5 : Keep false false s0 v5) : OutKeep false false s0 (execAswp v0 v1
    v2 v3 v4 v5) := by
  unfold execAswp
  exact frondStep_keep k5

theorem execQget_keep {s0 v0 v1 v2 v3 v4 v5} (k5 : Keep false false s0 v5) : OutKeep false false s0 (execQget v0 v1
    v2 v3 v4 v5) := by
  unfold execQget
  exact frondStep_keep k5

theorem execQput_keep {s0 v0 v1 v2 v3 v4 v5} (k5 : Keep false false s0 v5) : OutKeep false false s0 (execQput v0 v1
    v2 v3 v4 v5) := by
  unfold execQput
  exact frondStep_keep k5

theorem execQtget_keep {s0 v0 v1 v2 v3 v4 v5} (k5 : Keep false false s0 v5) : OutKeep false false s0 (execQtget v0 v1
    v2 v3 v4 v5) := by
  unfold execQtget
  exact frondStep_keep k5

theorem execQtput_keep {s0 v0 v1 v2 v3 v4 v5} (k5 : Keep false false s0 v5) : OutKeep false false s0 (execQtput v0 v1
    v2 v3 v4 v5) := by
  unfold execQtput
  exact frondStep_keep k5

theorem execVadd_keep {s0 v0 v1 v2 v3 v4 v5} (k5 : Keep false false s0 v5) : OutKeep false false s0 (execVadd v0 v1
    v2 v3 v4 v5) := by
  unfold execVadd
  exact frondStep_keep k5

theorem execVsub_keep {s0 v0 v1 v2 v3 v4 v5} (k5 : Keep false false s0 v5) : OutKeep false false s0 (execVsub v0 v1
    v2 v3 v4 v5) := by
  unfold execVsub
  exact frondStep_keep k5

theorem execVadds_keep {s0 v0 v1 v2 v3 v4 v5} (k5 : Keep false false s0 v5) : OutKeep false false s0 (execVadds v0 v1
    v2 v3 v4 v5) := by
  unfold execVadds
  exact frondStep_keep k5

theorem execVaddus_keep {s0 v0 v1 v2 v3 v4 v5} (k5 : Keep false false s0 v5) : OutKeep false false s0 (execVaddus v0
    v1 v2 v3 v4 v5) := by
  unfold execVaddus
  exact frondStep_keep k5

theorem execVsubs_keep {s0 v0 v1 v2 v3 v4 v5} (k5 : Keep false false s0 v5) : OutKeep false false s0 (execVsubs v0 v1
    v2 v3 v4 v5) := by
  unfold execVsubs
  exact frondStep_keep k5

theorem execVsubus_keep {s0 v0 v1 v2 v3 v4 v5} (k5 : Keep false false s0 v5) : OutKeep false false s0 (execVsubus v0
    v1 v2 v3 v4 v5) := by
  unfold execVsubus
  exact frondStep_keep k5

theorem execVmin_keep {s0 v0 v1 v2 v3 v4 v5} (k5 : Keep false false s0 v5) : OutKeep false false s0 (execVmin v0 v1
    v2 v3 v4 v5) := by
  unfold execVmin
  exact frondStep_keep k5

theorem execVmax_keep {s0 v0 v1 v2 v3 v4 v5} (k5 : Keep false false s0 v5) : OutKeep false false s0 (execVmax v0 v1
    v2 v3 v4 v5) := by
  unfold execVmax
  exact frondStep_keep k5

theorem execVminu_keep {s0 v0 v1 v2 v3 v4 v5} (k5 : Keep false false s0 v5) : OutKeep false false s0 (execVminu v0 v1
    v2 v3 v4 v5) := by
  unfold execVminu
  exact frondStep_keep k5

theorem execVmaxu_keep {s0 v0 v1 v2 v3 v4 v5} (k5 : Keep false false s0 v5) : OutKeep false false s0 (execVmaxu v0 v1
    v2 v3 v4 v5) := by
  unfold execVmaxu
  exact frondStep_keep k5

theorem execVand_keep {s0 v0 v1 v2 v3 v4 v5} (k5 : Keep false false s0 v5) : OutKeep false false s0 (execVand v0 v1
    v2 v3 v4 v5) := by
  unfold execVand
  exact frondStep_keep k5

theorem execVor_keep {s0 v0 v1 v2 v3 v4 v5} (k5 : Keep false false s0 v5) : OutKeep false false s0 (execVor v0 v1 v2
    v3 v4 v5) := by
  unfold execVor
  exact frondStep_keep k5

theorem execVxor_keep {s0 v0 v1 v2 v3 v4 v5} (k5 : Keep false false s0 v5) : OutKeep false false s0 (execVxor v0 v1
    v2 v3 v4 v5) := by
  unfold execVxor
  exact frondStep_keep k5

theorem execVsll_keep {s0 v0 v1 v2 v3 v4 v5} (k5 : Keep false false s0 v5) : OutKeep false false s0 (execVsll v0 v1
    v2 v3 v4 v5) := by
  unfold execVsll
  exact frondStep_keep k5

theorem execVsrl_keep {s0 v0 v1 v2 v3 v4 v5} (k5 : Keep false false s0 v5) : OutKeep false false s0 (execVsrl v0 v1
    v2 v3 v4 v5) := by
  unfold execVsrl
  exact frondStep_keep k5

theorem execVsra_keep {s0 v0 v1 v2 v3 v4 v5} (k5 : Keep false false s0 v5) : OutKeep false false s0 (execVsra v0 v1
    v2 v3 v4 v5) := by
  unfold execVsra
  exact frondStep_keep k5

theorem execVmul_keep {s0 v0 v1 v2 v3 v4 v5} (k5 : Keep false false s0 v5) : OutKeep false false s0 (execVmul v0 v1
    v2 v3 v4 v5) := by
  unfold execVmul
  exact frondStep_keep k5

theorem execVmulhs_keep {s0 v0 v1 v2 v3 v4 v5} (k5 : Keep false false s0 v5) : OutKeep false false s0 (execVmulhs v0
    v1 v2 v3 v4 v5) := by
  unfold execVmulhs
  exact frondStep_keep k5

theorem execVmulhu_keep {s0 v0 v1 v2 v3 v4 v5} (k5 : Keep false false s0 v5) : OutKeep false false s0 (execVmulhu v0
    v1 v2 v3 v4 v5) := by
  unfold execVmulhu
  exact frondStep_keep k5

theorem execVabsd_keep {s0 v0 v1 v2 v3 v4 v5} (k5 : Keep false false s0 v5) : OutKeep false false s0 (execVabsd v0 v1
    v2 v3 v4 v5) := by
  unfold execVabsd
  exact frondStep_keep k5

theorem execVcmpeq_keep {s0 v0 v1 v2 v3 v4 v5} (k5 : Keep false false s0 v5) : OutKeep false false s0 (execVcmpeq v0
    v1 v2 v3 v4 v5) := by
  unfold execVcmpeq
  exact frondStep_keep k5

theorem execVcmplt_keep {s0 v0 v1 v2 v3 v4 v5} (k5 : Keep false false s0 v5) : OutKeep false false s0 (execVcmplt v0
    v1 v2 v3 v4 v5) := by
  unfold execVcmplt
  exact frondStep_keep k5

theorem execVcmpltu_keep {s0 v0 v1 v2 v3 v4 v5} (k5 : Keep false false s0 v5) : OutKeep false false s0 (execVcmpltu
    v0 v1 v2 v3 v4 v5) := by
  unfold execVcmpltu
  exact frondStep_keep k5

theorem execVcmpge_keep {s0 v0 v1 v2 v3 v4 v5} (k5 : Keep false false s0 v5) : OutKeep false false s0 (execVcmpge v0
    v1 v2 v3 v4 v5) := by
  unfold execVcmpge
  exact frondStep_keep k5

theorem execVsel_keep {s0 v0 v1 v2 v3 v4 v5} (k5 : Keep false false s0 v5) : OutKeep false false s0 (execVsel v0 v1
    v2 v3 v4 v5) := by
  unfold execVsel
  exact frondStep_keep k5

theorem execVbcast_keep {s0 v0 v1 v2 v3 v4 v5} (k5 : Keep false false s0 v5) : OutKeep false false s0 (execVbcast v0
    v1 v2 v3 v4 v5) := by
  unfold execVbcast
  exact frondStep_keep k5

theorem execVrot_keep {s0 v0 v1 v2 v3 v4 v5} (k5 : Keep false false s0 v5) : OutKeep false false s0 (execVrot v0 v1
    v2 v3 v4 v5) := by
  unfold execVrot
  exact frondStep_keep k5

theorem execVmac_keep {s0 v0 v1 v2 v3 v4 v5} (k5 : Keep false false s0 v5) : OutKeep false false s0 (execVmac v0 v1
    v2 v3 v4 v5) := by
  unfold execVmac
  exact frondStep_keep k5

theorem execVmacu_keep {s0 v0 v1 v2 v3 v4 v5} (k5 : Keep false false s0 v5) : OutKeep false false s0 (execVmacu v0 v1
    v2 v3 v4 v5) := by
  unfold execVmacu
  exact frondStep_keep k5

theorem execVmacsu_keep {s0 v0 v1 v2 v3 v4 v5} (k5 : Keep false false s0 v5) : OutKeep false false s0 (execVmacsu v0
    v1 v2 v3 v4 v5) := by
  unfold execVmacsu
  exact frondStep_keep k5

theorem execVmsu_keep {s0 v0 v1 v2 v3 v4 v5} (k5 : Keep false false s0 v5) : OutKeep false false s0 (execVmsu v0 v1
    v2 v3 v4 v5) := by
  unfold execVmsu
  exact frondStep_keep k5

theorem execVaclr_keep {s0 v0 v1 v2 v3 v4 v5} (k5 : Keep false false s0 v5) : OutKeep false false s0 (execVaclr v0 v1
    v2 v3 v4 v5) := by
  unfold execVaclr
  exact frondStep_keep k5

theorem execVacrd_keep {s0 v0 v1 v2 v3 v4 v5} (k5 : Keep false false s0 v5) : OutKeep false false s0 (execVacrd v0 v1
    v2 v3 v4 v5) := by
  unfold execVacrd
  exact frondStep_keep k5

theorem execVacrdu_keep {s0 v0 v1 v2 v3 v4 v5} (k5 : Keep false false s0 v5) : OutKeep false false s0 (execVacrdu v0
    v1 v2 v3 v4 v5) := by
  unfold execVacrdu
  exact frondStep_keep k5

end Sys2Proof.Machine
end

