-- ==== Sys2Proof/Laws/KeepIdle.lean ====
section
/-!
SUPPORT. Keep for every function of Machine/Idle.lean that makes a state.
-/

namespace Sys2Proof.Machine

theorem idle_keep {m s0 v0} (k0 : Keep false m s0 v0) : Keep false m s0 (idle v0) := by
  unfold idle
  exact State.whenWorking_keep (State.cond_keep k0 (fun x0 h1 => (tick_keep h1))) (fun x2 h3 => (streamsProgress_keep
      h3))

end Sys2Proof.Machine
end

