-- ==== Sys2Proof/Laws/Position.lean ====
section
/-!
SUPPORT. What publishing a position sample can change: the compare units, the pass-through outputs, the status of the
interface (03 R88, R108, R114).
-/

namespace Sys2Proof.Machine

/-- The registers that publishing a sample of interface `n` may write. -/
def PosOut (n a : Nat) : Prop := (0x5000801000 ≤ a ∧ a < 0x5000900000) ∨ a = R.ENC_STATUS n ∨ a = R.EVT_LOST

theorem PosOut.lost {n : Nat} : PosOut n R.EVT_LOST := Or.inr (Or.inr rfl)

theorem PosOut.status {n : Nat} : PosOut n (R.ENC_STATUS n) := Or.inr (Or.inl rfl)

theorem PosOut.cmp {n m k : Nat} (hm : m < 16) (hk : k < 0x20) : PosOut n (0x5000801000 + k + 0x20 * m) :=
  Or.inl ⟨by omega, by omega⟩

theorem PosOut.pt {n t k : Nat} (ht : t < 2) (hk : k < 0x20) : PosOut n (0x5000802000 + k + 0x20 * t) :=
  Or.inl ⟨by omega, by omega⟩

theorem cmpNote_regs {s u : State} {p : Nat → Prop} {m : Nat} (h : SameRegs s u p) : SameRegs s (cmpNote u m) p := by
  unfold cmpNote
  dsimp only
  split
  · exact h.trans (.of_eq rfl rfl)
  · exact h.trans (.of_eq rfl rfl)

theorem cmpArm_regs {s u : State} {n m : Nat} (hm : m < 16) (h : SameRegs s u (PosOut n)) :
    SameRegs s (cmpArm u m) (PosOut n) := by
  have e : PosOut n (R.CMP_STATUS m) := PosOut.cmp (k := 0x14) hm (by decide)
  unfold cmpArm
  split
  · exact cmpNote_regs (((h.setBit e).setBit e).cond fun _ w => w.raise PosOut.lost)
  · exact h.setBit e

theorem cmpTake_regs {s u : State} {n m : Nat} (hm : m < 16) (h : SameRegs s u (PosOut n)) :
    SameRegs s (cmpTake u m) (PosOut n) := by
  unfold cmpTake
  split
  · refine cmpArm_regs hm ?_
    refine h.take (PosOut.cmp (k := 4) hm (by decide)) (fun a ha => ?_) (fun _ e => nomatch e)
    simp only [cmpUnit, List.mem_cons, List.not_mem_nil, or_false] at ha
    rcases ha with rfl | rfl | rfl | rfl
    · exact PosOut.cmp (k := 0) hm (by decide)
    · exact PosOut.cmp (k := 8) hm (by decide)
    · exact PosOut.cmp (k := 0xC) hm (by decide)
    · exact PosOut.cmp (k := 0x10) hm (by decide)
  · exact h

theorem cmpFire_regs {s u : State} {n m : Nat} {b : Bool} {p : Int} {t2 : Nat} (hm : m < 16)
    (h : SameRegs s u (PosOut n)) : SameRegs s (cmpFire u m b p t2) (PosOut n) := by
  have e : PosOut n (R.CMP_STATUS m) := PosOut.cmp (k := 0x14) hm (by decide)
  have l : PosOut n (R.CMP_TIME_LO m) := PosOut.cmp (k := 0x18) hm (by decide)
  have l' : PosOut n (R.CMP_TIME_LO m + 4) := by
    have := PosOut.cmp (n := n) (k := 0x1C) hm (by decide)
    rwa [show R.CMP_TIME_LO m + 4 = 0x5000801000 + 0x1C + 0x20 * m by simp only [R.CMP_TIME_LO]; omega]
  have t : PosOut n (R.CMP_TARGET_LO m) := PosOut.cmp (k := 8) hm (by decide)
  have t' : PosOut n (R.CMP_TARGET_HI m) := PosOut.cmp (k := 0xC) hm (by decide)
  unfold cmpFire
  extract_lets _ _ _ rep _ a1 a2 _ a3
  have h1 : SameRegs s a1 (PosOut n) := (h.wrapInc e).setBit e
  have h2 : SameRegs s a2 (PosOut n) := (h1.setReg64 l l').raise PosOut.lost
  have h3 : SameRegs s a3 (PosOut n) := by
    show SameRegs s (if rep = true then _ else _) (PosOut n)
    split
    · exact cmpNote_regs (((h2.setInForce t).setInForce t').setBit e)
    · exact h2.setBit e
  exact h3.cond fun _ w => w.trans (.of_eq rfl rfl)

theorem cmpSample_regs {s u : State} {n m : Nat} {x : Sample} (hm : m < 16) (h : SameRegs s u (PosOut n)) :
    SameRegs s (cmpSample n x u m) (PosOut n) := by
  unfold cmpSample
  dsimp only
  split
  · exact h
  · split
    · exact cmpTake_regs hm h
    · split
      · exact h
      · have h1 : SameRegs s (u.cond x.turn fun s => { s with cmpNear := NatSet.erase s.cmpNear m }) (PosOut n) :=
          h.cond fun _ w => w.trans (.of_eq rfl rfl)
        split
        · exact cmpFire_regs hm h1
        · exact h1

theorem ptFollow_regs {s u : State} {n k t : Nat} (ht : t < 2) (h : SameRegs s u (PosOut n)) :
    SameRegs s (ptFollow k u t) (PosOut n) := by
  have w : ∀ x, SameRegs s (u.setPt t x) (PosOut n) := fun x => h.trans (.of_eq rfl rfl)
  unfold ptFollow
  dsimp only
  split
  · exact h
  · split
    · exact w _
    · split
      · exact (w _).cond fun _ v => v.flagEvent (PosOut.pt (k := 4) ht (by decide)) PosOut.lost
      · exact w _

theorem ptTake_regs {s u : State} {n t : Nat} (ht : t < 2) (h : SameRegs s u (PosOut n)) :
    SameRegs s (ptTake u t) (PosOut n) := by
  unfold ptTake
  split
  · dsimp only
    have h1 : SameRegs s ((ptUnit t).take u) (PosOut n) := by
      refine h.take (PosOut.pt (k := 4) ht (by decide)) (fun a ha => ?_) (fun _ e => nomatch e)
      simp only [ptUnit, List.mem_cons, List.not_mem_nil, or_false] at ha
      exact ha ▸ PosOut.pt (k := 0) ht (by decide)
    exact ptFollow_regs ht (h1.trans (.of_eq rfl rfl))
  · exact h

theorem sendItem_regs {s u : State} {n k : Nat} {i : PosItem} (h : SameRegs s u (PosOut n)) :
    SameRegs s (sendItem u k i) (PosOut n) := by
  unfold sendItem
  exact h.foldl fun v w m _ => w.trans (.of_eq rfl rfl)

/-- A published sample leaves every register but those of the compare units and pass-through outputs, the interface's
status and the count of merged events. -/
theorem publish_regs {s u : State} {n : Nat} {x : Sample} (h : SameRegs s u (PosOut n)) :
    SameRegs s (publish u n x) (PosOut n) := by
  unfold publish
  extract_lets _ _ a1 shared _ a2 a3 a4 a5
  have h1 : SameRegs s a1 (PosOut n) := h.trans (.of_eq rfl rfl)
  have h2 : SameRegs s a2 (PosOut n) := by
    show SameRegs s (if _ then _ else _) _
    split
    · exact h1.trans (.of_eq rfl rfl)
    · exact h1
  have h3 : SameRegs s a3 (PosOut n) := h2.setBit PosOut.status
  have h4 : SameRegs s a4 (PosOut n) := h3.foldl fun v w m hm => cmpSample_regs (List.mem_range.mp hm) w
  have h5 : SameRegs s a5 (PosOut n) := by
    refine h4.foldl fun v w t ht => ?_
    unfold ptSample
    split
    · exact ptFollow_regs (List.mem_range.mp ht) (ptTake_regs (List.mem_range.mp ht) w)
    · exact w
  exact sendItem_regs h5

/-! ### The position word -/

theorem toSigned_ofSigned (v : Int) : toSigned 64 (ofSigned 64 v) = (v + 2 ^ 63) % 2 ^ 64 - 2 ^ 63 := by
  unfold toSigned ofSigned
  dsimp only
  split <;> omega

theorem toSigned_twice (v : Nat) : toSigned 64 (ofSigned 64 (toSigned 64 v)) = toSigned 64 v := by
  rw [toSigned_ofSigned]
  unfold toSigned
  dsimp only
  split <;> omega

/-- The position word is a signed 64-bit number. -/
theorem encPos_wraps (s : State) (n : Nat) : toSigned 64 (ofSigned 64 (encPos s n)) = encPos s n := toSigned_twice _

/-- Publishing does not move the position word. -/
theorem encPos_of_posOut {s t : State} {n : Nat} (hn : n < 8) (h : SameRegs s t (PosOut n)) : encPos t n = encPos s n := by
  have p : ∀ a, a = R.ENC_POS_LO n ∨ a = R.ENC_POS_LO n + 4 → ¬ PosOut n a := by
    intro a ha
    unfold PosOut
    simp only [R.ENC_STATUS, R.EVT_LOST]
    simp only [R.ENC_POS_LO] at ha
    omega
  unfold encPos State.sreg64
  rw [State.reg64_congr (h _ (p _ (Or.inl rfl))).1 (h _ (p _ (Or.inr rfl))).1]

theorem encPos_setSreg64 (s : State) (n : Nat) (v : Int) :
    encPos (s.setSreg64 (R.ENC_POS_LO n) v) n = toSigned 64 (ofSigned 64 v) := by
  show toSigned 64 ((s.setReg64 _ _).reg64 _) = _
  rw [State.reg64_setReg64]
  congr 1
  unfold ofSigned
  omega

theorem SameRegs.mono {s t : State} {p q : Nat → Prop} (h : SameRegs s t p) (k : ∀ a, p a → q a) : SameRegs s t q :=
  fun a n => h a fun x => n (k a x)

theorem PosOut.inBlock {n a : Nat} (hn : n < 8) (h : PosOut n a) : InBlock 8 a := by
  unfold PosOut at h
  unfold InBlock
  rcases h with h | h | h
  · omega
  · subst h
    simp only [R.ENC_STATUS]
    omega
  · exact Or.inr h

theorem InBlock.enc {n k : Nat} (hn : n < 8) (hk : k < 0x100) : InBlock 8 (0x5000800000 + k + 0x100 * n) := by
  unfold InBlock
  omega

theorem InBlock.encPos {n : Nat} (hn : n < 8) : InBlock 8 (R.ENC_POS_LO n) ∧ InBlock 8 (R.ENC_POS_LO n + 4) := by
  unfold InBlock
  simp only [R.ENC_POS_LO]
  omega

/-- A sample moves the position word by its quanta (03 R84). -/
theorem encPos_countBy (s : State) {n : Nat} (hn : n < 8) (q dq : Int) (t2 : Nat) (v : Bool) :
    encPos (countBy s n q dq t2 v) n = toSigned 64 (ofSigned 64 (encPos s n + dq)) := by
  unfold countBy
  extract_lets p x dir turnDir back beyond turn back' e s1 s2 s3 s4
  have h2 : SameRegs s1 s2 (PosOut n) := .of_eq (State.setEnc_regs ..) (State.setEnc_act ..)
  have h4 : SameRegs s1 s4 (PosOut n) :=
    SameRegs.setBit (h2.cond fun _ w => (w.setBit PosOut.status).raise PosOut.lost) PosOut.status
  have e1 : encPos s1 n = p := (encPos_setSreg64 s n p).trans (toSigned_twice _)
  exact (encPos_of_posOut hn (publish_regs h4)).trans e1

/-- A sample touches registers of the position block only. -/
theorem countBy_regs (s : State) {n : Nat} (hn : n < 8) (q dq : Int) (t2 : Nat) (v : Bool) :
    SameRegs s (countBy s n q dq t2 v) (InBlock 8) := by
  unfold countBy
  extract_lets p x dir turnDir back beyond turn back' e s1 s2 s3 s4
  have h1 : SameRegs s s1 (InBlock 8) := (SameRegs.refl _ _).setReg64 (InBlock.encPos hn).1 (InBlock.encPos hn).2
  have h2 : SameRegs s1 s2 (PosOut n) := .of_eq (State.setEnc_regs ..) (State.setEnc_act ..)
  have h4 : SameRegs s1 s4 (PosOut n) :=
    SameRegs.setBit (h2.cond fun _ w => (w.setBit PosOut.status).raise PosOut.lost) PosOut.status
  exact h1.trans ((publish_regs h4).mono fun a => PosOut.inBlock hn)

theorem encTake_idle {s : State} {n : Nat} (h : (encUnit n).waits s = false) : encTake s n = s := by
  unfold encTake
  simp [h]

end Sys2Proof.Machine
end

