-- ==== Sys2Proof/WellFormed.lean ====
section
/-!
DEFINITION. What a command's operands must be to stand for something that the environment can do. A unit's number, an
address and a fixed-width value have their range in their type; what is left here are the lengths of what arrives.
-/

namespace Sys2Proof

/-- A bench that a device can meet: its ring position has three bits, process code eight (01, SYS_ID; 19 R559), the
rows that fail the march are listed once per unit (13 R420), and what cuts a start short is a warm cause, not the
power-on's 0 (01 R28). -/
def Bench.WellFormed (b : Bench) : Bool :=
  decide (b.devid < 8) && decide (b.process < 256) && decide (b.failingRows.map (·.1)).Nodup &&
    b.during.all (fun e => match e with
      | some ⟨_, .warm cause⟩ => cause != 0
      | _ => true)

/-- The lanes of a line packet: one to eight (04 R119). -/
def lanesWellFormed (l : List (List LaneSym)) : Bool := decide (0 < l.length ∧ l.length ≤ 8)

/-- The lanes of a row of thermal read-out: one to four (07 R226). -/
def fpaWellFormed (l : List FpaLane) : Bool := decide (0 < l.length ∧ l.length ≤ 4)

/-- An access of the host to the exchange window stays inside its 256 KiB, a write brings a byte or nothing for each
place, a collision and a word in error lie in it (13 R416, R418, 15 R463). -/
def exchWellFormed (addr len : Nat) (data : List (Option Byte)) (c : PortB) : Bool :=
  decide (0 < len ∧ addr + len ≤ 262144) && (data.isEmpty || data.length == len) &&
    decide (c.read.off < len) && c.collision.all (fun x => decide (addr / 8 ≤ x.word.val ∧ x.word.val ≤ (addr + len - 1) / 8))

/-- A flit of a remote access of 8 to 64 bytes: of a write it brings up to 16 bytes, of a read none; a
word in error lies in the access (17 R515; log entry 132). -/
def rmtWellFormed (write : Bool) (size offset : Nat) (data : List Byte) (c : PortB) : Bool :=
  decide (c.read.off < 8 * 2 ^ size) &&
    (data.length == if write then min 16 (8 * 2 ^ size) else 0) && decide (offset + data.length ≤ 262144)

/-- A link that is up trains at one of six rates, 2.5 to 64 GT/s, to ×1, ×2, ×4 or ×8 (15, the link's row). -/
def linkWellFormed (up : Bool) (speed width : Nat) : Bool :=
  !up || (decide (1 ≤ speed ∧ speed ≤ 6) && [1, 2, 4, 8].contains width)

/-- A byte read from a port's buffer lies in it: 0x48_0000 bytes of an imaging port, 0x20_0000 of a thermal one (13, the
memories' table). -/
def ramWellFormed (size : Nat) (r : RamRead) : Bool := decide (r.off.toNat < size)

/-- The host reads 1 to 4096 bytes, a requester inside whole aligned words. -/
def spanWellFormed (q : Requester) (x : ReadSpan) : Bool :=
  decide (1 ≤ x.len ∧ x.len ≤ 4096) && (q == .host || (x.addr.val % 4 == 0 && x.len % 4 == 0))

/-- Whether a command can come from outside as it stands. -/
def Instr.WellFormed (i : Instr) : Bool :=
  match i with
  | .porRelease b => b.WellFormed
  | .linePacket _ lanes units r _ =>
    lanesWellFormed lanes && decide (units.length ≤ 8) && ramWellFormed 0x480000 r
  | .fpaRow _ lanes x _ => fpaWellFormed lanes && ramWellFormed 0x200000 x.ram
  | .pcieLinkChange up speed width => linkWellFormed up speed width
  | .modulatorSample _ _ low high _ => decide (low ≤ high)
  | .hostExchAccess a n d c => exchWellFormed a n d c
  | .hostReadCompletion _ d _ _ => decide (d.length ≤ 4096)
  | .rmtReq _ w z o d c => rmtWellFormed w z o d c
  | .rmtRsp _ _ d _ => decide (d.length ≤ 16)
  | .fwdFlit _ _ f _ => match f with
    | .data b => decide (b.length ≤ 24)
    | .ack _ _ => true
  | .descriptorFetchDone _ x => decide (x.off < 64)
  | .tempConversion codes _ => codes.length == 192
  | .registerWrite q a _ _ _ => q == .host || a.val % 4 == 0
  | .pairLoRead q x => spanWellFormed q x
  | _ => true

end Sys2Proof
end

