-- ==== Sys2Proof/Tests/Slice0.lean ====
section
/-!
SUPPORT. The model's own tests: ill-formed commands, single steps on small states, and for every statement with
hypotheses a state that meets them.
-/

namespace Sys2Proof.Tests

open Sys2Proof.Machine

set_option Elab.async false

/-- The block in RUN, otherwise as after reset. -/
def run : State :=
  { State.reset with mode := .run, boot := { State.reset.boot with regions := [(0, 0x2000000000)] } }

/-- Whether a command answers a next state that passes a check. -/
def nextIs (r : Result) (p : State → Bool) : Bool :=
  match r with
  | .next t => p t
  | _ => false

/-- An image that holds nothing but scripts. -/
def sporeOfScripts (l : List Script) : Spore :=
  { slot := 0, header := [], build := 0, arb := 0, flags := 0, permissions := 0, autorun := false, readyMask := 0,
    recordKey := [], wdogMs := 0, autorunDelay := 0, hostReqMin := 0, streams := [], scripts := l, zones := [] }

/-! ### Ill-formed commands, each refused by its check -/

theorem wf_bench_refused : (Instr.porRelease { devid := 8 }).WellFormed = false ∧
    (Instr.porRelease { process := 256 }).WellFormed = false ∧
    (Instr.porRelease { failingRows := [(3, 1), (3, 2)] }).WellFormed = false := by decide

theorem wf_boot_cut_refused : (Instr.porRelease { during := [none, some ⟨2, .warm 0⟩] }).WellFormed = false := by decide

theorem wf_line_refused : (Instr.linePacket 0 [] [] {} false).WellFormed = false ∧
    (Instr.linePacket 0 (List.replicate 9 []) [] {} false).WellFormed = false := by decide

theorem wf_fpa_refused : (Instr.fpaRow 0 [] {} false).WellFormed = false ∧
    (Instr.fpaRow 0 (List.replicate 5 ⟨0, 0, []⟩) {} false).WellFormed = false := by decide

theorem wf_buffer_refused :
    (Instr.linePacket 0 [[], []] [] { off := 0x480000 } false).WellFormed = false ∧
    (Instr.fpaRow 0 [⟨0, 0, []⟩] { ram := { off := 0x200000 } } false).WellFormed = false := by decide

theorem wf_link_refused : (Instr.pcieLinkChange true 0 8).WellFormed = false ∧
    (Instr.pcieLinkChange true 7 8).WellFormed = false ∧ (Instr.pcieLinkChange true 6 3).WellFormed = false := by decide

theorem wf_modulator_refused : (Instr.modulatorSample 0 0 1 0 0).WellFormed = false := by decide

theorem wf_exchange_refused : (Instr.hostExchAccess 0 0 [] {}).WellFormed = false ∧
    (Instr.hostExchAccess 262143 2 [] {}).WellFormed = false ∧
    (Instr.hostExchAccess 0 2 [some 1] {}).WellFormed = false ∧
    (Instr.hostExchAccess 8 8 [] { collision := some ⟨2, false⟩ }).WellFormed = false := by decide

theorem wf_completion_refused : (Instr.hostReadCompletion 0 (List.replicate 4097 0) true false).WellFormed = false := by
  decide +kernel

/-- A flit of link 0 from device 1. -/
def anyHead : FlitHead := ⟨0, 0, 0, 0, 1, 1⟩

theorem wf_ring_refused : (Instr.rmtReq anyHead true 0 0 [1] {}).WellFormed = false ∧
    (Instr.rmtReq anyHead false 3 0 [] { read := { off := 64 } }).WellFormed = false ∧
    (Instr.descriptorFetchDone 0 { off := 64 }).WellFormed = false ∧
    (Instr.rmtRsp anyHead 0 (List.replicate 17 0) {}).WellFormed = false ∧
    (Instr.fwdFlit anyHead 0 (.data (List.replicate 25 0)) false).WellFormed = false := by decide +kernel

theorem wf_temperature_refused : (Instr.tempConversion [0] {}).WellFormed = false := by decide

theorem wf_register_refused : (Instr.registerWrite .root 0x5000000002 0 0 0).WellFormed = false ∧
    (Instr.pairLoRead .dma ⟨0x5000000001, 4⟩).WellFormed = false ∧
    (Instr.pairLoRead .host ⟨0x5000000001, 0⟩).WellFormed = false := by decide

theorem wf_accepted : (Instr.porRelease { during := [some ⟨2, .warm 1⟩] }).WellFormed = true ∧
    (Instr.linePacket 0 [[], []] [] {} false).WellFormed = true ∧
    (Instr.hostExchAccess 8 8 [] { collision := some ⟨1, false⟩ }).WellFormed = true ∧
    (Instr.rmtReq anyHead false 3 262080 [] {}).WellFormed = true ∧
    (Instr.pairLoRead .host ⟨0x5000000001, 3⟩).WellFormed = true ∧
    (Instr.registerWrite .root 0x5000000004 0 0 0).WellFormed = true := by decide +kernel

/-! ### StepKeepsCanon -/

theorem witness_StepKeepsCanon : Sparse.wf unlisted State.reset.mem = true ∧
    Sparse.wf unlisted (State.reset.setByte 0x4000000010 7).mem = true ∧
    (State.reset.setByte 0x4000000010 7).byte 0x4000000010 = 7 := by decide +kernel

/-! ### NothingGoesBack -/

def latched : State := { run with mode := .halt, pwr := { run.pwr with latch := true } }

theorem witness_NothingGoesBack : Instr.porAssert ≠ .aonLatchClear ∧ latched.pwr.latch = true := by decide +kernel

theorem test_porAssert_latch : nextIs (exec .porAssert latched) (fun t => t.pwr.latch && t.mode == .off) = true := by
  decide +kernel

/-! ### LatchLeadsToHalt -/

theorem witness_LatchLeadsToHalt : { latched with mode := .off }.pwr.latch = true ∧
    { latched with mode := .off }.mode = .off ∧
    ({ latched with mode := .off }.pwr.vaonA || { latched with mode := .off }.pwr.vaonB) = true := by decide +kernel

theorem test_porRelease_latched : nextIs (exec (.porRelease {}) { latched with mode := .off }) (fun t =>
    t.mode == .halt && t.fld R.SYS_CAUSE F.SYS_CAUSE_CAUSE == 6) = true := by decide +kernel

/-! ### CommandsKeepMemoryAndMode -/

theorem witness_CommandsKeepMemoryAndMode : mayStore (.updateTick 0 0) = false ∧
    mayChangeMode (.timerExpiry 3 false) = false ∧ mayStore (.ld 0 .sound .sound false .alone) = true := by decide +kernel

/-! ### PositionCounts -/

def quadState : State := run.setInForce (R.ENC_CFG 7) 1

theorem witness_PositionCounts_count : quadState.working = true ∧ (encUnit 7).waits quadState = false ∧
    encMode quadState 7 = 1 ∧ quadStep (quadState.enc 7).a (quadState.enc 7).b true false = some 1 := by decide +kernel

theorem witness_PositionCounts_filter :
    10 < 5 * (run.setInForce (R.ENC_CFG 7) 0xFFFFFFFF).actFld (R.ENC_CFG 7) F.ENC_CFG_FILT ∧
    5 * quadState.actFld (R.ENC_CFG 7) F.ENC_CFG_FILT ≤ 0 := by decide +kernel

theorem witness_PositionCounts_both : encMode quadState 7 = 1 ∧
    quadStep (quadState.enc 7).a (quadState.enc 7).b true true = none := by decide +kernel

def hallState : State := (run.setInForce (R.ENC_CFG 0) 3).setEnc 0 { hall := 5 }

theorem witness_PositionCounts_hall : hallState.working = true ∧ (encUnit 0).waits hallState = false ∧
    encMode hallState 0 = 3 ∧ hallIndex 4 = some 0 ∧ hallIndex (hallState.enc 0).hall = some 5 ∧ (0 + 6 - 5) % 6 = 1 := by
  decide +kernel

theorem test_quadCount_forward : nextIs (exec (.quadCount 7 true false false ⟨0, 100⟩ false) quadState) (fun t =>
    encPos t 7 == 2 ^ 22) = true := by decide +kernel

def oneSample : Sample := { pos := 7, t2 := 100, valid := true, prevE := 3 }

theorem witness_PositionSamplesAndLatches_arrival :
    (run.setPosItems 9 [.sample oneSample]).posItems 9 = .sample oneSample :: [] ∧
    (run.setPosItems 16 [.sample oneSample, .still]).posItems (16 + (10 - 10)) = .sample oneSample :: [.still] ∧
    imgArmed (run.setPosItems 9 [.sample oneSample]) 9 = false ∧ oneSample.turn = false ∧
    isMoving (run.imgSt 9).lastMove oneSample = true := by decide +kernel

/-! ### PositionSamplesAndLatches -/

def sineState : State := (run.setInForce (R.ENC_CFG 1) 0x82).setInForce (R.ENC_SC_NOM 1) 100 |>.setEnc 1 { angle := some 4000 }

theorem witness_PositionSamples_outside : sineState.working = true ∧ encMode sineState 1 = 2 ∧
    (encUnit 1).waits sineState = false ∧ correctedPair sineState 1 49 0 = (49, 0) ∧
    4 * 49 ^ 2 < (sineState.actFld (R.ENC_SC_NOM 1) F.ENC_SC_NOM_NOM) ^ 2 := by decide +kernel

theorem witness_PositionSamples_inside : (sineState.enc 1).angle = some 4000 ∧ correctedPair sineState 1 0 50 = (0, 50) ∧
    (sineState.actFld (R.ENC_SC_NOM 1) F.ENC_SC_NOM_NOM) ^ 2 ≤ 4 * 50 ^ 2 ∧
    4 * 50 ^ 2 ≤ 9 * (sineState.actFld (R.ENC_SC_NOM 1) F.ENC_SC_NOM_NOM) ^ 2 ∧ pairAngle 0 50 = 0 ∧
    (0 + 4096 - 4000) % 4096 < 1024 := by decide +kernel

theorem test_pairAngle : [pairAngle 100 0, pairAngle 0 (-100), pairAngle (-100) 0, pairAngle 100 100, pairAngle (-100) 100] =
    [1024, 2048, 3072, 512, 3584] := by decide +kernel

theorem witness_PositionSamples_fast : angleStep sineState 4000 1000 = 1096 ∧ (sineState.enc 1).sigFault = false := by
  decide +kernel

theorem witness_PositionSamples_index : encMode sineState 1 ≠ 0 ∧ encMode sineState 1 ≠ 1 ∧
    sineState.actBit (R.ENC_CFG 1) F.ENC_CFG_INDEX_EN = true := by decide +kernel

def passState : State := (run.setInForce (R.PT_CFG 1) 0x25).setPt 1 { owed := 3 }

theorem witness_PositionSamples_edge : passState.working = true ∧ passState.actBit (R.PT_CFG 1) F.PT_CFG_ENABLE = true ∧
    passState.actBit (R.PT_CFG 1) F.PT_CFG_SYNTH = true ∧ (passState.pt 1).emitted < (passState.pt 1).owed := by
  decide +kernel

/-! ### CaptureLink -/

def linkState : State :=
  ((run.setReg (R.IMG_LANE_STATUS 9) 0x0F0F).setBit (R.IMG_STATUS 9) F.IMG_STATUS_LINK_UP true).setImg 9
    { brought := true, awaited := [⟨0, none, [false, false, false], 500, false⟩] }

theorem witness_CaptureLink_stages : portTaken run 9 = false ∧ 3 < laneWidth run 9 ∧
    run.bit (R.IMG_LANE_STATUS 9) ⟨3, 1⟩ = false ∧ (run.imgSt 9).adapted / 2 ^ 3 % 2 = 0 ∧
    linkState.bit (R.IMG_LANE_STATUS 9) ⟨3, 1⟩ = true ∧ allLanes run 9 15 = true ∧
    ((run.setImg 9 { adapted := 8 }).imgSt 9).adapted / 2 ^ 3 % 2 = 1 ∧
    run.bit (R.IMG_LANE_STATUS 9) ⟨8 + 3, 1⟩ = false ∧ run.bit (R.IMG_STATUS 9) F.IMG_STATUS_LINK_UP = false ∧
    allLanes linkState 9 (linkState.fld (R.IMG_LANE_STATUS 9) F.IMG_LANE_STATUS_BLOCK_LOCK) = true := by decide +kernel

theorem witness_CaptureLink_lockLoss : portTaken linkState 9 = false ∧ linkState.working = true ∧ (linkState.imgSt 9).brought = true ∧
    3 < laneWidth linkState 9 ∧ linkState.bit (R.IMG_LANE_STATUS 9) ⟨8 + 3, 1⟩ = true ∧
    (loseLock (enc8 linkState 9) (List.replicate 16 .bad) (linkState.lane 9 3)).2 = true ∧
    (loseLock (enc8 linkState 9) [.good] (linkState.lane 9 3)).2 = false := by decide +kernel

theorem witness_CaptureLink_timeout : firstDue (linkState.imgSt 9).awaited =
    some ⟨0, none, [false, false, false], 500, false⟩ ∧ linkState.bit (R.IMG_STATUS 9) F.IMG_STATUS_LINK_UP = true ∧
    2 ≤ laneWidth linkState 9 := by decide +kernel

def packetState : State :=
  (((run.setReg (R.IMG_GEOM 0) 64).setReg (R.IMG_FRAME_CFG 0) 0x225).setBit (R.IMG_STATUS 0) F.IMG_STATUS_LINK_UP
    true).setImg 0 { awaited := [⟨0, some 7, [false, false, false], 500, false⟩] }

def packetShares (seq : Byte) : List (List Byte) :=
  [[seq] ++ List.replicate 24 1, [2] ++ List.replicate 24 1, List.replicate 24 1, List.replicate 24 1]

def packetLanes (seq : Byte) : List (List LaneSym) :=
  (packetShares seq).map (fun b => syncWord packetState 0 ++ b.map .data)

theorem witness_CaptureLink_packet : packetState.bit (R.IMG_STATUS 0) F.IMG_STATUS_LINK_UP = true ∧
    laneWidth packetState 0 = 4 ∧ imgPixels packetState 0 = 64 ∧
    (∀ i, i < 4 → ((packetShares 7).getD i []).length = (98 + 4 - 1 - i) / 4 ∧
      laneShare (syncWord packetState 0) ((98 + 4 - 1 - i) / 4) (((packetShares 7).getD i []).map .data) =
        some ((packetShares 7).getD i [])) ∧
    byteAt 1 ((destripe (packetShares 7) 4 98).take 2) % 4 = 2 ∧ 2 < imgColours packetState 0 ∧
    matchLine (packetState.imgSt 0) 7 = some ⟨0, some 7, [false, false, false], 500, false⟩ ∧
    matchLine ((packetState.setImg 0 { packetState.imgSt 0 with anchor := some (0, 7) }).imgSt 0) 9 = none := by
  decide +kernel

theorem test_linePacket_slot : nextIs (exec (.linePacket 0 (packetLanes 7) [] {} false) packetState) (fun t =>
    (t.imgSt 0).awaited.map (·.slots) == [[false, false, true]]) = true := by decide +kernel

theorem test_linePacket_skew : nextIs (exec (.linePacket 0 [syncWord packetState 0] [] {} false) packetState) (fun t =>
    t.bit (R.IMG_STATUS 0) F.IMG_STATUS_SYNC_ERR) = true := by decide +kernel

/-! ### TriggerFires -/

def armedState (lines : List Awaited) : State :=
  (run.setBit (R.IMG_STATUS 3) F.IMG_STATUS_ARMED true).setImg 3
    { brought := true, pred := some ⟨2000, 1900, 1000, false⟩, swaths := [{ back := false }], k := 5, serial := 9,
      awaited := lines }

theorem witness_TriggerFires : imgArmed (armedState []) 3 = true ∧ ((armedState []).imgSt 3).pred.isSome = true ∧
    ((armedState []).imgSt 3).swaths.getLast? = some { back := false } ∧ (capUnit 3).waits (armedState []) = false ∧
    (corUnit 3).waits (armedState []) = false ∧ ((armedState []).imgSt 3).lastFire2 = none := by decide +kernel

theorem witness_TriggerFires_later : 2 * (lineMin (armedState []) 3 : Int) < 1900 - (-7000) := by decide +kernel

def fourLines : State := armedState (List.replicate 4 ⟨0, none, [false], 500, false⟩)

theorem witness_TriggerFires_skip : (fourLines.imgSt 3).awaited.length = 4 := by decide +kernel

theorem test_triggerFire : nextIs (exec (.triggerFire 3 false false) (armedState [])) (fun t =>
    t.out == [.lineTrigger 3 1948 100 false] && (t.imgSt 3).k == 6 && (t.imgSt 3).awaited.length == 1 &&
      t.sreg64 (R.IMG_LAST_LO 3) == 5 * 0x400000) = true := by decide +kernel

theorem test_triggerFire_skip : nextIs (exec (.triggerFire 3 false false) fourLines) (fun t =>
    t.out == [] && (t.imgSt 3).k == 6 && (t.imgSt 3).missed == 1 && t.reg (R.IMG_SKIPS 3) == 1) = true := by decide +kernel

/-! ### CaptureGenerator -/

def waitingPort : State :=
  ({ run.setBit R.SYS_STATE F.SYS_STATE_RUN_ACTIVE true with
     boot := { spore := some (sporeOfScripts [⟨2, 4, [⟨4, 0, 0, 0, 10, 0⟩]⟩]) } }.setImg 2
    { waitArm := true, loaded := true, lastFire2 := some 9000 }).setEngine 2 { startDone := true }

theorem witness_CaptureGenerator_arm : waitingPort.working = true ∧ waitingPort.runActive = true ∧
    (waitingPort.imgSt 2).waitArm = true ∧ (waitingPort.imgSt 2).blocked = false ∧ (waitingPort.imgSt 2).load = none ∧
    (waitingPort.imgSt 2).loaded = true ∧ (waitingPort.engine 2).startDone = true ∧
    (∀ c : Fin 4, (waitingPort.engine (0x20 + c)).owes 2 = false) ∧ (waitingPort.imgSt 2).lastFire2 = some 9000 := by
  decide +kernel

theorem witness_CaptureGenerator_script : (waitingPort.engine 2).running = false ∧ (waitingPort.engine 2).queue = [] ∧
    (scriptsFor waitingPort 2 4)[waitingPort.fld (R.IMG_SCRIPT 2) F.IMG_SCRIPT_INDEX]? = some [⟨4, 0, 0, 0, 10, 0⟩] ∧
    (scriptsFor run 2 4)[run.fld (R.IMG_SCRIPT 2) F.IMG_SCRIPT_INDEX]? = none ∧
    ((run.setEngine 2 { running := true }).engine 2).running = true := by decide +kernel

def loadingPort : State :=
  (run.setReg (R.IMG_COR_CTRL 1) 0x4A).setImg 1 { load := some (3, false) }

theorem witness_CaptureGenerator_load : run.bit (R.IMG_COR_CTRL 1) F.IMG_COR_CTRL_LOAD_BUSY = false ∧
    (corUnit 1).waits run = false ∧
    ((run.setBit (R.IMG_COR_CTRL 1) F.IMG_COR_CTRL_LOAD_BUSY true).setBit (R.IMG_COR_CTRL 1) F.IMG_COR_CTRL_DUAL true).bit
      (R.IMG_COR_CTRL 1) F.IMG_COR_CTRL_LOAD_BUSY = true ∧
    (loadingPort.imgSt 1).load = some (3, false) ∧ loadingPort.dramOpen (setsBase loadingPort 1 + 0x80000 * 3) 0x80000 = true ∧
    (loadingPort.setBit (R.IMG_COR_CTRL 1) F.IMG_COR_CTRL_DUAL true).bit (R.IMG_COR_CTRL 1) F.IMG_COR_CTRL_DUAL = true := by
  decide +kernel

/-! ### CaptureRecords -/

def oneLine : Line :=
  { serial := 0, start2 := 100, time := 50, flags := 0, speed := 7, missed := 0, exposure := 2000, set := 0,
    corCfg := 0, refCols := 0, refLevel := 0, normLimits := 0, place := some 0, seq := 3 }

def oneTap : Tap :=
  { k := 0, x := 12, time := 50, cfg := 0, status := .filled, line := some oneLine, pix := [[1, 2]], cfl := [0] }

def recordPort : State := run.setImg 4 { swaths := [{ back := false, any := true, taps := [oneTap] }] }

theorem witness_CaptureRecords_line : (recordPort.imgSt 4).swaths = [{ back := false, any := true, taps := [oneTap] }] ∧
    (outputOf recordPort 4 { back := false, any := true, taps := [oneTap] } oneTap).isSome = true ∧
    fifoRoom recordPort 4 4 = true := by decide +kernel

def fullPort : State :=
  recordPort.setQueue 4 (List.replicate 4095 { typ := 1, src := 4 })

theorem witness_CaptureRecords_full : fifoRoom fullPort 4 4 = false := by
  unfold fifoRoom fifoBytes fullPort
  rw [State.queueOf_setQueue_self, List.map_replicate, List.sum_replicate]
  decide

theorem witness_CaptureRecords_end :
    ({ back := false, any := true, ended := some (1, 5, 60), taps := [], decided := 0 } : Swath).ended = some (1, 5, 60) := by
  decide +kernel

/-! ### ScriptOperations -/

/-- A target whose engine stands before one operation. -/
def scripted (k : Nat) (e : Engine) (o : ScriptOp) : State :=
  run.setEngine k { e with running := true, ops := [o], idx := 2 }

theorem witness_ScriptOperations_start : ∀ op : Fin 5,
    let s := scripted 0x21 {} ⟨op, 16, 1, 4, 7, 255⟩
    s.working = true ∧ (s.engine 0x21).ops = [⟨op, 16, 1, 4, 7, 255⟩] ∧ (s.engine 0x21).running = true ∧
      (s.engine 0x21).queue = [] ∧ (s.engine 0x21).inTransfer = false ∧ (s.engine 0x21).polling = false ∧
      (s.engine 0x21).waitUntil = none ∧ scriptMay s (.lamp 1) = true ∧
      scriptNoDevice s 0x21 ⟨op, 16, 1, 4, 7, 255⟩ = true ∧ scriptNoDevice s 0x21 ⟨op, 16, 0, 4, 7, 255⟩ = false := by
  decide +kernel

theorem witness_ScriptOperations_busy :
    ((scripted 0x13 { waitUntil := some 60 } ⟨4, 0, 0, 0, 1, 0⟩).engine 0x13).waitUntil = some 60 ∧
    ((scripted 9 { inTransfer := true } ⟨2, 16, 0, 4, 7, 255⟩).engine 9).inTransfer = true ∧
    (⟨2, 16, 0, 4, 7, 255⟩ : ScriptOp).accepts (valueRead run 9 ⟨2, 16, 0, 4, 7, 255⟩ [7]) = true ∧
    (⟨2, 16, 0, 4, 7, 255⟩ : ScriptOp).accepts (valueRead run 9 ⟨2, 16, 0, 4, 7, 255⟩ [8]) = false ∧
    ((scripted 9 { polling := true, pollFrom := some 5 } ⟨3, 16, 0, 4, 7, 255⟩).engine 9).pollFrom = some 5 := by
  decide +kernel

theorem test_scriptTransferDone : nextIs (exec (.scriptTransferDone (.img 9) [8] true)
    (scripted 9 { inTransfer := true } ⟨2, 16, 0, 4, 7, 255⟩)) (fun t =>
      t.fld (scriptReg 9) F.IMG_SCRIPT_RESULT == 2 && t.fld (scriptReg 9) F.IMG_SCRIPT_FAIL_OP == 2) = true := by
  decide +kernel

/-! ### ScriptPhases -/

def stopDue : State :=
  { run with stopScripts := [2, 0x12, 0x23]
             boot := { spore := some (sporeOfScripts [⟨0x23, 3, [⟨4, 0, 0, 0, 10, 0⟩]⟩]) } }

theorem witness_ScriptPhases_stop : stopDue.working = true ∧ targetCode (.lamp 3) ∈ stopDue.stopScripts ∧
    stopDue.runActive = false ∧ runStopReached stopDue (.lamp 3) = true ∧ runStopReached stopDue (.img 2) = true ∧
    runStopReached stopDue (.tp 2) = true ∧ (stopDue.engine 0x23).running = false ∧ (stopDue.engine 0x23).queue = [] ∧
    scriptsFor stopDue 0x23 3 = [⟨4, 0, 0, 0, 10, 0⟩] :: [] := by decide +kernel

def chosenScript : State :=
  { run with boot := { spore := some (sporeOfScripts [⟨0x20, 4, [⟨0, 0, 0, 0, 0, 0⟩]⟩, ⟨0x13, 4, []⟩]) } }

theorem witness_ScriptPhases_run :
    (scriptsFor chosenScript 0x20 4)[chosenScript.fld (scriptReg 0x20) F.IMG_SCRIPT_INDEX]? = some [⟨0, 0, 0, 0, 0, 0⟩] ∧
    (scriptsFor chosenScript 0x13 4)[chosenScript.fld (scriptReg 0x13) F.IMG_SCRIPT_INDEX]? = some [] ∧
    (scriptsFor chosenScript 0x10 4)[chosenScript.fld (scriptReg 0x10) F.IMG_SCRIPT_INDEX]? = none ∧
    ((run.setEngine 0x20 { running := true }).engine 0x20).running = true := by decide +kernel

theorem test_lcScriptRun : nextIs (exec (.lcScriptRun 0) chosenScript) (fun t =>
    (t.engine 0x20).running && t.bit (R.LC_SCRIPT 0) F.IMG_SCRIPT_BUSY) = true := by decide +kernel

/-! ### LampFrames -/

def litChain (mode : Nat) : State :=
  { (run.setReg (R.LC_CFG 2) (BitVec.ofNat 32 (1 + 2 * mode))).setLamp 2
      { up := true, frame := some { row := 0, words := [], commits := false, relatch := false, shifted := true, lit := [] } }
    with windows := [⟨0, 4, 1000, 3000, false⟩, ⟨1, 5, 1000, 3000, true⟩] }

theorem witness_LampFrames : (litChain 0).working = true ∧ lampMode (litChain 0) 2 = 0 ∧ lampRuns (litChain 0) 2 = true ∧
    ((litChain 0).lamp 2).frame.isSome = true ∧ lampMode (litChain 2) 2 = 2 ∧ lampRuns (litChain 2) 2 = true ∧
    lampScripting (litChain 0) 2 = false ∧ lampScripting (litChain 2) 2 = false ∧
    ((litChain 2).lamp 2).frame.map (·.shifted) = some true ∧
    (litChain 1).windows.find? (fun v => v.port == 0 && !v.here) = some ⟨0, 4, 1000, 3000, false⟩ ∧
    (litChain 1).windows.find? (fun v => v.port == 1 && v.here) = some ⟨1, 5, 1000, 3000, true⟩ ∧
    2 ∈ strobesOf (litChain 1) 0 ∧ strobeIdle (litChain 0) 2 = false := by decide +kernel

theorem witness_LampFrames_computing :
    ((run.setLamp 2 { computing := some ([(1, 2)], none) }).lamp 2).computing = some ([(1, 2)], none) ∧
    0 % 2 ^ frameBits run 2 = 0 ∧ 1 % 2 ^ frameBits run 2 ≠ 0 ∧ 1 % 2 ^ frameBits run 2 ≠ 2 ^ frameBits run 2 - 1 := by
  decide +kernel

/-! ### LampSettings -/

theorem witness_LampSettings : (lampUnit 3).waits run = false ∧ (run.lamp 3).computing = none ∧
    (lampUnit 3).waits ((lampUnit 3).commit run) = true ∧
    ((run.setReg (R.LC_CFG 3) 0x20).setLamp 3 { tempTime := some 5 }).working = true ∧
    ((run.setLamp 3 { tempTime := some 5 }).lamp 3).tempTime = some 5 ∧
    (run.setFld (R.LC_CFG 3) F.LC_CFG_TEMP_MODE 1).fld (R.LC_CFG 3) F.LC_CFG_TEMP_MODE = 1 ∧
    (run.lamp 3).restore.all (fun r => r.1 != 7) = true ∧ lampOn run 3 = false ∧ (run.lamp 3).frame = none ∧ run.runActive = false ∧
    (run.setBit R.SYS_STATE F.SYS_STATE_RUN_ACTIVE true).runActive = true := by decide +kernel

theorem test_lampTempStale : nextIs (exec (.lampTempStale 3)
    ((run.setFld (R.LC_CFG 3) F.LC_CFG_TEMP_MODE 1).setLamp 3 { tempTime := some 5 })) (fun t =>
      t.bit (R.LC_STATE 3) F.LC_STATE_TEMP_STALE && t.now == 1000000005) = true := by decide +kernel

/-! ### LampFaults -/

def faultyChain : State :=
  let f : LampFrame := { row := 0, words := [], commits := false, relatch := false, shifted := false, lit := [] }
  (((run.setReg (R.LC_STATUS_POS 0) 0x10000).setReg (R.LAMP_ENTRY 0 0) 0x80000002).setInForce (R.LCG_CFG 0 2)
    0x20000).setLamp 0 { frame := some f, latched := some f }

theorem witness_LampFaults : faultyChannels faultyChain 0 (2 ^ 360) 0 = [0] ∧ strobeIdle faultyChain 0 = false ∧
    (faultyChain.lamp 0).restore = [] ∧ 2 ^ 360 % 2 ^ frameBits faultyChain 0 ≠ 0 ∧
    2 ^ 360 % 2 ^ frameBits faultyChain 0 ≠ 2 ^ frameBits faultyChain 0 - 1 ∧ groupOf faultyChain 0 0 = 2 ∧
    faultyChain.actBit (R.LCG_CFG 0 2) F.LCG_CFG_ALL_OR_NONE = true ∧ (faultyChain.lamp 0).latched.isSome = true := by
  decide +kernel

theorem test_lampShiftEnd : nextIs (exec (.lampShiftEnd 0 (2 ^ 360) false) faultyChain) (fun t =>
    groupState t 0 2 == 2 && t.bit (R.LCG_STATE 0 2) F.LCG_STATE_FAULT && (t.lamp 0).openG == [2]) = true := by
  decide +kernel

/-! ### ThermalPower -/

theorem witness_ThermalPower : run.working = true ∧ run.runActive = false ∧ (run.tp 3).stage = 0 ∧
    run.bit (R.TP_IF_CFG 3) F.TP_IF_CFG_ENABLE = false ∧
    (run.setBit (R.TP_IF_CFG 3) F.TP_IF_CFG_ENABLE true).bit (R.TP_IF_CFG 3) F.TP_IF_CFG_ENABLE = true ∧
    (run.setBit R.SYS_STATE F.SYS_STATE_RUN_ACTIVE true).runActive = true ∧
    ((run.setTp 3 { stage := 1, fetching := true }).tp 3).stage = 1 ∧
    ((run.setTp 3 { stage := 1, fetching := true }).tp 3).fetching = true := by decide +kernel

theorem test_tpEnable : nextIs (exec (.tpEnable 3) run) (fun t => (t.tp 3).stage == 1 && (t.tp 3).delayEnd == 10000000) =
    true := by decide +kernel

/-! ### ThermalFrames -/

def thermalFrame (k : Nat) (full : Bool) : TFrame :=
  { liveFrame run 1 with next := k, done := full, no := some 6, ring := [[], []] }

def readout (k : Nat) : State :=
  ((run.setBit (R.TP_LINK 1) F.TP_LINK_LOCKED true).setTp 1
    { stage := 3, hits := [4, 4, 4, 4], frames := [thermalFrame k false] }).setEngine 0x11 { upOk := true }

def rowLane (hdr : BitVec 16) (words : Nat) : FpaLane := ⟨BitVec.ofNat 16 ((run.reg (R.TP_SYNC_CODE 1)).get F.TP_SYNC_CODE_SYNC_ROW), hdr, List.replicate words 5⟩

theorem witness_ThermalFrames_boundary : (readout 4).working = true ∧ 2 ≤ ((readout 4).tp 1).stage ∧
    ((readout 4).engine 0x11).upOk = true ∧ (readout 4).actBit (R.TP_FRAME_CFG 1) F.TP_FRAME_CFG_SYNC_SRC = false := by
  decide +kernel

theorem witness_ThermalFrames_coefs : (0 : Nat) < (5 : Fin 33).val ∧
    (thermalFrame 1 false).next - ((thermalFrame 1 false).blind 1).1 + (thermalFrame 1 false).ring.length <
      ((thermalFrame 1 false).window 1).2 ∧ (thermalFrame 1 false).ring.length < ringRows (thermalFrame 1 false) 1 := by
  decide +kernel

theorem witness_ThermalFrames_row :
    awaiting (readout 1) 1 = some (thermalFrame 1 false) ∧ coefLate (readout 1) 1 (thermalFrame 1 false) = false ∧
    lanesOf ((thermalFrame 1 false).reg (R.TP_IF_CFG 1)) = 4 ∧ lanesOf (ifWord (readout 1) 1) = 4 ∧
    ((thermalFrame 1 false).cols 1 + ((thermalFrame 1 false).blind 1).2 + 4 - 1) / 4 = 320 ∧
    ((readout 1).tp 1).skip = false ∧ ((readout 1).tp 1).stage = 3 ∧
    (readout 1).bit (R.TP_LINK 1) F.TP_LINK_LOCKED = true ∧ (∀ i : Fin 4, ((readout 1).tp 1).hits.getD i 0 = 4) := by
  decide +kernel

theorem witness_ThermalFrames_lanes : let l := List.replicate 4 (rowLane 1 320)
    ((l.head?).map (·.hdr.toNat)).getD 0 % 2048 = 1 ∧ ((l.head?).map (·.hdr.toNat)).getD 0 < 32768 ∧
    (∀ i : Fin 4, (l[i.val]?).map (·.sync.toNat) =
      some ((tpTaken (readout 1) 1 1 (R.TP_SYNC_CODE 1)).get F.TP_SYNC_CODE_SYNC_ROW) ∧ ((l[i.val]?).map (·.words.length)).getD 0 = 320) := by
  decide +kernel

theorem witness_ThermalFrames_leaves : ((readout 9).engine 0x11).startFailed = false ∧
    nucInDram run (((thermalFrame 9 true).reg (R.TP_NUC_BASE_LO 1)).toNat +
      2 ^ 32 * ((thermalFrame 9 true).reg (R.TP_NUC_BASE_HI 1)).toNat) = true ∧ (thermalFrame 9 true).done = true ∧ (thermalFrame 9 true).lost = none ∧
    (thermalFrame 9 true).no = some 6 ∧ (thermalFrame 9 true).withheld = false ∧ (thermalFrame 9 true).lineMode 1 = false ∧
    (thermalFrame 9 true).cfg 1 F.TP_FRAME_CFG_POS_EN = 0 := by decide +kernel

/-! ### ThermalTables -/

def averaged : ShutEv := { cause := 2, cfg := 0x10001, openAt := 0, phase := 3, left := 0 }

theorem witness_ThermalTables : (run.tp 0).edits.length < 16 ∧ (run.tp 0).ev = none ∧
    16 ≤ ((run.setTp 0 { edits := List.replicate 16 0 }).tp 0).edits.length ∧
    (run.setBit (R.TP_STATUS 0) F.TP_STATUS_FPA_WRITING true).bit (R.TP_STATUS 0) F.TP_STATUS_FPA_WRITING = true ∧
    (run.tp 0).slot + 1 < fpaSlots (run.setInForce (R.TP_FPA_CFG 0) 0xFFFFFFFF) 0 ∧
    fpaSlots run 0 ≤ (run.tp 0).slot + 1 ∧
    ((run.setTp 0 { ev := some averaged }).tp 0).ev = some averaged ∧ averaged.phase = 3 := by decide +kernel

theorem test_defEditAdd : nextIs (exec (.defEditAdd 0 3 7 9 false) run) (fun t => (t.tp 0).edits == [0x30070009]) = true := by
  decide +kernel

/-! ### PrecisionTriggers -/

def triggered : State := (run.setInForce (R.M_CFG 5) 0x8011840).setBit R.PREC_REF F.PREC_REF_REF_READY_0 true

def triggeredQueue : State := setPrecQueue triggered [⟨5, false, false, 0⟩]

theorem witness_PrecisionTriggers : triggered.working = true ∧ measMode triggered 5 = 2 ∧
    triggered.bit (R.M_CTRL 5) F.M_CTRL_PENDING = false ∧
    (triggered.setBit (R.M_CTRL 5) F.M_CTRL_PENDING true).bit (R.M_CTRL 5) F.M_CTRL_PENDING = true ∧
    measMode (run.setInForce (R.M_CFG 5) 0x20) 5 = 1 ∧
    ((run.setMeas 5 { delay := some 7 }).meas 5).delay = some 7 ∧
    ((run.setMod 1 { run := some 3 }).mod 1).run = some 3 := by decide +kernel

theorem witness_PrecisionTriggers_commit : modeOf (triggered.reg (R.M_CFG 5)) = 0 ∧
    modeOf ((triggered.setReg (R.M_CFG 5) 0x40).reg (R.M_CFG 5)) ≠ 0 ∧
    ((triggered.setMod 1 { run := some 5 }).mod 0).run ≠ some 5 := by decide +kernel

theorem witness_PrecisionTriggers_begins : nextReq triggeredQueue 0 = some ⟨5, false, false, 0⟩ ∧
    triggeredQueue.prec.cal = none ∧ (triggeredQueue.mod 0).test = none ∧ (triggeredQueue.mod 0).run = none ∧
    refReady triggeredQueue 0 = true ∧ (measUnit 5).waits triggeredQueue = false ∧
    triggeredQueue.actFld (R.M_CFG 5) F.M_CFG_MOD = 0 ∧
    pinFree triggeredQueue 0 (triggeredQueue.inForce (R.M_EXC 5)) false = true := by decide +kernel

theorem test_measTrigger : nextIs (exec (.measTrigger 5 false) (triggered.setInForce (R.M_TRIG 5) 0xFFFFFFFF)) (fun t =>
    (t.meas 5).delay == some (100 * (triggered.setInForce (R.M_TRIG 5) 0xFFFFFFFF).actFld (R.M_TRIG 5) F.M_TRIG_DELAY)) =
      true := by decide +kernel

/-! ### PrecisionResults -/

def converting : State :=
  (triggered.setInForce (R.M_CFG 5) 0x8000040).setMod 0 { run := some 5, settled := true }

theorem witness_PrecisionResults : converting.working = true ∧ (converting.mod 0).run = some 5 ∧
    (converting.mod 0).settled = true ∧ measMode converting 5 = 2 ∧ converting.prec.cal = none ∧
    refReady converting 0 = true ∧ (converting.mod 0).sup = 0 ∧ avgExp (converting.inForce (R.M_CFG 5)) = 0 ∧
    threeWire (converting.inForce (R.M_CFG 5)) = false := by decide +kernel

def oneResult (bad : Bool) : PrecRes :=
  ⟨5, some (-9), some 70, bad, false, false, true, false, some 1000, 0⟩

def resultState (bad : Bool) : State := { run with prec := { results := [oneResult bad] } }

theorem witness_PrecisionResults_publish : ∀ b : Bool,
    (resultState b).prec.results.find? (fun r => r.k == 5) = some (oneResult b) ∧ (oneResult b).raw = some (-9) ∧
    (oneResult b).value = some 70 ∧ (oneResult b).time = some 1000 ∧ (oneResult b).invalid = b := by decide +kernel

theorem test_modulatorSample : nextIs (exec (.modulatorSample 0 0xFFFFFE 1 1 9) converting) (fun t =>
    t.prec.results.map (·.raw) == [some (-2)]) = true := by decide +kernel

theorem test_resultPublish : nextIs (exec (.resultPublish 5 false) (resultState false)) (fun t =>
    t.reg (R.M_RAW 5) == 0xFFFFFFF7 && t.sreg64 (R.M_VALUE_LO 5) == 70 && t.bit (R.M_STATUS 5) F.M_STATUS_SAT) = true := by
  decide +kernel

/-! ### PrecisionService -/

def loopState : State :=
  (run.setInForce (R.LOOP_CFG 1) ((run.inForce (R.LOOP_CFG 1)).put F.LOOP_CFG_ENABLE 1)).setLoop 1 { writtenAt := some 5 }

theorem witness_PrecisionService : run.prec.cal = none ∧ run.fld R.PREC_CTRL F.PREC_CTRL_CAL_GAINS ≠ 0 ∧
    { run with prec := { cal := some [7] } }.prec.cal = some (7 :: []) ∧
    (run.mod 0).run = none ∧ (run.mod 1).run = none ∧ (run.mod 0).test = none ∧ refReady run 1 = false ∧
    (run.setInForce (R.M_IMP_CFG 9) 0xFFFFFFFF).actFld (R.M_IMP_CFG 9) F.M_IMP_CFG_IMP_INTERVAL ≠ 0 ∧
    run.prec.queue.all (fun r => !(r.k == 9 && r.imp)) = true ∧
    ((run.setMod 1 { test := some 4 }).mod 1).test = some 4 := by decide +kernel

theorem witness_PrecisionService_tick : (loopUnit 1).waits loopState = false ∧
    loopSource loopState 1 = (0, some 5, false) ∧ loopState.actFld (R.LOOP_CFG 1) F.LOOP_CFG_ENABLE = 1 ∧
    toSigned 32 (loopState.inForce (R.LOOP_LO 1)).toNat ≠ toSigned 32 (loopState.inForce (R.LOOP_HI 1)).toNat ∧
    loopState.bit (R.LOOP_CTRL 1) F.LOOP_CTRL_FAIL = false ∧
    max loopState.now 9 ≤ 5 + 10000000 * max 1 (loopState.actFld (R.LOOP_CFG 1) F.LOOP_CFG_TIMEOUT) := by decide +kernel

theorem test_loopTick : nextIs (exec (.loopTick 1 9 4000 false false) loopState) (fun t =>
    t.fld (R.LOOP_READ 1) F.LOOP_READ_SETPOINT == 4000 && t.fld (R.LOOP_STATUS 1) F.LOOP_STATUS_STATE == 1) = true := by
  decide +kernel

/-! ### AxisCommands -/

/-- Axis 7 in a state, otherwise as after reset. -/
def axisIn (st : Nat) : State := run.setFld (R.AXIS_STATUS 7) F.AXIS_STATUS_STATE st

theorem witness_AxisCommands : ∀ st : Fin 9, (axisIn st).working = true ∧ (axUnit 7).waits (axisIn st) = false ∧
    (axisIn st).fld (R.AXIS_STATUS 7) F.AXIS_STATUS_STATE = st ∧ (axUnit 7).waits ((axUnit 7).commit (axisIn st)) = true ∧
    ((axisIn st).setBit (R.AXIS_STATUS 7) F.AXIS_STATUS_RESUMABLE true).bit (R.AXIS_STATUS 7) F.AXIS_STATUS_RESUMABLE =
      true := by decide +kernel

theorem test_axisMove_stopping : nextIs (exec (.axisMove 7 false) (axisIn 5)) (fun t =>
    (t.axis 7).cmd == none && t.bit (R.AXIS_STATUS 7) F.AXIS_STATUS_CMD_REFUSED) = true := by decide +kernel

/-! ### PhaseFaults -/

theorem witness_PhaseFaults : ((axisIn 2).axis 7).cmd = none ∧ axState (axisIn 2) 7 ≠ 0 ∧ axState (axisIn 2) 6 = 0 ∧
    (((axisIn 2).setAxis 7 { cmd := some 1 }).axis 7).cmd.isSome = true := by decide +kernel

theorem test_phaseFault : nextIs (exec (.phaseFault 3 true false) (axisIn 2)) (fun t =>
    axState t 7 == 8 && axState t 6 == 0 && t.bit (R.PH_STATUS 3) F.PH_STATUS_FLT_SEEN) = true := by decide +kernel

/-! ### UpdateTicks -/

def moveWaits : State :=
  (((axisIn 1).setReg (R.AXIS_CFG 7) 0x1C01F5).setReg (R.AXIS_TARGET_LO 7) 0x50000).setAxis 7 { cmd := some 1 }

theorem witness_UpdateTicks : moveWaits.working = true ∧ (moveWaits.axis 7).cmd = some 1 ∧ (moveWaits.axis 7).port = none ∧
    axState moveWaits 7 = 1 ∧ (moveWaits.setFld (R.AXIS_CFG 7) F.AXIS_CFG_ENABLE 1).bit (R.AXIS_CFG 7) F.AXIS_CFG_ENABLE = true ∧
    moveWaits.bit (R.AXIS_CFG 7) F.AXIS_CFG_LIMITS_EN = false ∧ moveWaits.bit (R.AXIS_CFG 7) F.AXIS_CFG_HARD_EN = false ∧
    (moveWaits.axis 7).v = 0 := by decide +kernel

theorem test_axObey_move : axState (axObey (moveWaits.setFld (R.AXIS_CFG 7) F.AXIS_CFG_ENABLE 1) 7) 7 = 2 ∧
    ((axObey (moveWaits.setFld (R.AXIS_CFG 7) F.AXIS_CFG_ENABLE 1) 7).axis 7).goal = 0x50000 := by decide +kernel

theorem test_phaseWord : phaseWord 1 0 1 0 % 16 = crc4 0x00100100 := by decide +kernel

/-! ### CommitsTakeTheSet -/

/-- Whether a unit that is set up anew takes its set at the commit. -/
def takesNow (row : Instr) (u : CommitUnit) (a : Nat) : Bool :=
  nextIs (exec row (run.setReg a 2)) (fun t => !u.waits t && t.inForce a == 2)

theorem witness_CommitsTakeTheSet : run.working = true ∧ run.runActive = false ∧ encMode run 7 = 0 ∧
    encRefused run 7 = false ∧ encMode run (run.actFld (R.CMP_CFG 15) F.CMP_CFG_INTERFACE) = 0 ∧
    encMode run (run.actFld (R.PT_CFG 1) F.PT_CFG_SOURCE) = 0 ∧ (run.timer 63).next = none ∧ chanState run 63 ≠ 3 := by
  decide +kernel

theorem test_commits_taken :
    (takesNow (.encCommit 7 false) (encUnit 7) (R.ENC_CFG 7) && takesNow (.cmpCommit 15 true) (cmpUnit 15) (R.CMP_STEP 15) &&
    takesNow (.ptCommit 1 false) (ptUnit 1) (R.PT_CFG 1) && takesNow (.imgCommit 9 false) (capUnit 9) (R.IMG_EXPOSURE 9) &&
    takesNow (.imgCorCommit 9 .beats) (corUnit 9) (R.IMG_REF_LEVEL 9) &&
    takesNow (.tmrCommit 63 false) (tmrUnit 63) (R.TMRN_CFG 63) &&
    takesNow (.chCommit 63 false) (chanUnit 63) (R.CH_CFG 63)) = true := by decide +kernel

/-- A run with an interface counting, port 9 armed, a timer due and a channel running. -/
def busyState : State :=
  let s := ((run.setInForce (R.ENC_CFG 0) 1).setBit R.SYS_STATE F.SYS_STATE_RUN_ACTIVE true).setFld (R.IMG_STATUS 9) F.IMG_STATUS_ARMED 1
  (s.setFld (R.CH_STATUS 63) F.CH_STATUS_STATE 3).setTimer 63 { next := some 5 }

theorem witness_CommitsTakeTheSet_ahead : encMode busyState 0 = 1 ∧ busyState.runActive = true ∧ imgArmed busyState 9 = true ∧
    (busyState.timer 63).next.isSome = true ∧ chanState busyState 63 = 3 := by decide +kernel

/-! ### TimersExpire -/

/-- Timer 63 in a mode, PERIOD 50 (taken as 100) and PHASE 7, due at 1,000. -/
def timerState (mode : Nat) : State :=
  (((run.setInForce (R.TMRN_CFG 63) (BitVec.ofNat 32 mode)).setInForce (R.TMRN_PERIOD 63) 50).setInForce (R.TMRN_PHASE 63)
    7).setTimer 63 { next := some 1000, fall := some 1020 }

theorem witness_TimersExpire : (timerState 3).working = true ∧ tmrMode (timerState 1) 63 = 1 ∧ tmrMode (timerState 2) 63 = 2 ∧
    tmrMode (timerState 3) 63 = 3 ∧ (timerState 3).serving = true ∧ ((timerState 3).timer 63).next = some 1000 ∧
    (tmrUnit 63).waits (timerState 3) = false ∧ (tmrUnit 63).waits ((tmrUnit 63).commit (timerState 3)) = true ∧
    ((timerState 3).timer 63).fall = some 1020 ∧ (run.timer 63).next = none := by decide +kernel

theorem test_timer_aligned : nextIs (exec (.timerExpiry 63 false) (timerState 3)) (fun t =>
    (t.timer 63).next == some 1007 && t.now == 1000) = true := by decide +kernel

theorem test_timer_single : nextIs (exec (.timerExpiry 63 false) (timerState 2)) (fun t =>
    (t.timer 63).next == none && !t.bit (R.TMRN_STATUS 63) F.TMRN_STATUS_RUNNING) = true := by decide +kernel

/-! ### DeviceTime -/

/-- TSYNC an enabled input, its last edge at 5 s, two good spacings behind it, a runner source. -/
def syncState : State :=
  let s := run.setBit R.TIME_CFG F.TIME_CFG_TSYNC_EN true
  { s with tm := { s.tm with now := 5500000000, tsyncLast := some 5000000000, tsyncGood := 2, runnerGood := 2 } }

theorem witness_DeviceTime : syncState.serving = true ∧ tsyncInput syncState = true ∧ syncState.tm.runnerGood ≠ 0 ∧
    tsyncInput (run.setBit R.TIME_CFG F.TIME_CFG_TSYNC_EN false) = false ∧ syncState.runActive = false ∧ busyState.runActive = true ∧ busyState.serving = true ∧
    syncState.tm.oscillator = true := by decide +kernel

def syncOut : State := syncState.setBit R.TIME_CFG F.TIME_CFG_TSYNC_DIR true

theorem witness_DeviceTime_output : syncOut.bit R.TIME_CFG F.TIME_CFG_TSYNC_EN = true ∧
    syncOut.bit R.TIME_CFG F.TIME_CFG_TSYNC_DIR = true ∧ 0 < syncOut.now := by decide +kernel

theorem test_tsync_third_good : nextIs (exec (.tsyncEdge ⟨6000100000, false⟩) syncState) (fun t =>
    t.bit R.TIME_STATUS ⟨5, 1⟩ && t.tm.tsyncGood == 3) = true := by decide +kernel

theorem test_tsync_output : nextIs (exec .tsyncOutput syncOut) (fun t => t.now == 6000000000) = true := by decide +kernel

def syncPulsed : State := { syncOut with tm := { now := 6000000000, tsyncOut := some 6000000000 } }

theorem test_tsync_output_once : nextIs (exec .tsyncOutput syncPulsed) (fun t => t.now == 7000000000) = true := by
  decide +kernel

theorem test_step_moves : nextIs (exec (.timeSetApply false) (syncState.setReg64 R.TIME_SET_LO 5000000000)) (fun t =>
    t.now == 5000000000 && t.tm.tsyncLast == some 4500000000) = true := by decide +kernel

/-! ### TrimSteps -/

def trimState : State := { run with trim := { step := 2, found := [some (16, true), some (17, true), none] } }

def trimReadyState : State := { run with trim := { step := 7, items := [(0, 0x1F), (221, 5)] } }

theorem witness_TrimSteps_waits : imgArmed ((run.setFld R.TRIM_CTRL F.TRIM_CTRL_APPLY_PORT 9).setBit (R.IMG_STATUS 9)
    F.IMG_STATUS_ARMED true) (((run.setFld R.TRIM_CTRL F.TRIM_CTRL_APPLY_PORT 9).setBit (R.IMG_STATUS 9)
    F.IMG_STATUS_ARMED true).fld R.TRIM_CTRL F.TRIM_CTRL_APPLY_PORT) = true := by decide +kernel

theorem witness_TrimSteps : run.trim.step = 0 ∧ trimState.working = true ∧ trimState.trim.step = 2 ∧ trimReadyState.trim.step = 7 ∧ imgArmed trimReadyState 0 = false ∧
    (trimReadyState.trim.items.map (·.1)).Nodup ∧ (∀ e ∈ trimReadyState.trim.items, e.1 < 222) ∧
    0 ∉ trimState.trim.skip ∧ trimState.trim.found.getD 1 none = some (17, true) := by decide +kernel

theorem test_trim_limits : trimItem trimState 0 = (16, false, false) ∧ (trimItem trimState 1).2 = (true, false) ∧
    (trimItem trimState 2).2 = (false, true) := by decide +kernel

/-! ### TemperatureRules -/

def powerState : State :=
  let s := run.setFld R.PWR_LOG F.PWR_LOG_TEMP_LOG 5
  { s with pwr := { s.pwr with avsAt := some 1000 } }

theorem witness_TemperatureRules : powerState.serving = true ∧ powerState.working = true ∧
    powerState.fld R.PWR_LOG F.PWR_LOG_TEMP_LOG = 5 ∧ powerState.peat.queue.length < 64 ∧ powerState.pwr.avsAt = some 1000 ∧
    (run.setFld R.PWR_LOG F.PWR_LOG_TEMP_LOG 0).fld R.PWR_LOG F.PWR_LOG_TEMP_LOG = 0 := by decide +kernel

theorem test_threshold_only_lowered : nextIs (exec (.pwrThreshWrite 0x047F0102 false) (run.setReg R.PWR_THRESH 0x04690000)) (fun t =>
    t.reg R.PWR_THRESH == 0x04690102) = true := by decide +kernel

theorem test_level_rules : (levelRules 3 none 11 9216 true false).1 = 6 ∧ (levelRules 3 (some 1) 11 0 false true).1 = 2 ∧
    (levelRules 3 none 9 0 false true).1 = 3 := by decide +kernel

/-! ### AonSupplies -/

theorem test_vaon_a_loss : nextIs (exec .vaonALoss run) (fun t => t.pwr.onB &&
    t.fld R.PWR_AON F.PWR_AON_SWITCHES == 1 && !t.bit R.PWR_STATUS F.PWR_STATUS_VAON_A_OK) = true := by decide +kernel

/-! ### EventsAndLog -/

/-- Source 1023 pending and routed everywhere, a merged occurrence of source 5, a host that reaches the device, one
peat record. -/
def eventState : State :=
  let s := (run.setReg (R.EVT_ROUTE 1023) 0xFFFFFFFF).setReg (R.HOST_MERGED 0) 0x20
  { s with evPend := [1023], pcie := { s.pcie with ready := true, memEnable := true },
           peat := { s.peat with queue := [⟨5, 4, 3, [9]⟩], nextSeq := 262144 } }

theorem witness_EventsAndLog : eventState.serving = true ∧ eventState.working = true ∧ 1023 ∈ eventState.evPend ∧
    hostReaches eventState = true ∧ hostReaches run = false ∧ eventState.peat.queue.length < 64 ∧ peatOpen eventState = false ∧
    peatOpen { eventState with mode := .safe } = true ∧ 5 ∉ eventState.evPend := by decide +kernel

theorem test_delivery : nextIs (exec (.eventDelivery 1023 false) eventState) (fun t => t.evPend == [] &&
    arrayBit t R.HOST_PEND 1023 && t.lineUp 63 63 && t.peat.queue.length == 2) = true := by decide +kernel

theorem test_merged_ack : nextIs (exec (.evtAck 5 false) eventState) (fun t => arrayBit t R.HOST_PEND 5 &&
    !arrayBit t R.HOST_MERGED 5) = true := by decide +kernel

/-! ### MemoryUpkeep -/

/-- A march of the exchange RAM running destructively in MAINT, a host that reaches the device, scrubbing on. -/
def marchState : State :=
  let s := (run.setFld R.MEM_SCRUB F.MEM_SCRUB_SCRUB_HOURS 24).write (exchBase + 0x3FFFF) [7]
  { s with mode := .maint, ms := { s.ms with march := some ⟨0x70, true⟩, scrubAt := 0x1FFFFFFFF8 },
           pcie := { s.pcie with ready := true, memEnable := true } }

theorem witness_MemoryUpkeep : marchState.working = true ∧ marchState.fld R.MEM_SCRUB F.MEM_SCRUB_SCRUB_HOURS ≠ 0 ∧
    (run.setFld R.MEM_SCRUB F.MEM_SCRUB_SCRUB_HOURS 0).fld R.MEM_SCRUB F.MEM_SCRUB_SCRUB_HOURS = 0 ∧
    marchState.ms.march = some ⟨0x70, true⟩ ∧ hostReaches marchState = true ∧
    hostReaches { marchState with ms := {} } = true ∧ marchAllowed run 0x70 false = true ∧
    marchAllowed run 0x70 true = false ∧ run.bit R.MEM_MARCH_CTRL F.MEM_MARCH_CTRL_BUSY = false ∧
    (run.setBit R.MEM_MARCH_CTRL F.MEM_MARCH_CTRL_BUSY true).bit R.MEM_MARCH_CTRL F.MEM_MARCH_CTRL_BUSY = true := by decide +kernel

theorem test_march_zeroes : nextIs (exec (.marchDone 3) marchState) (fun t => t.byte (exchBase + 0x3FFFF) == 0 &&
    t.fld R.MEM_MARCH_CTRL F.MEM_MARCH_CTRL_RESULT == 2) = true := by decide +kernel

theorem test_scrub_wraps : nextIs (exec (.scrubWord .corrected false) marchState) (fun t => t.ms.scrubAt == 0 &&
    t.fld R.MEM_ECC_DRAM F.MEM_ECC_DRAM_CE == 1) = true := by decide +kernel

/-! ### VaultCommands -/

/-- A commit of 64 bytes of the commons waits; its checksum is not theirs. -/
def vaultState (d : Bool) : State :=
  { run with ms := { run.ms with vault := [⟨d, 0x4000000000, 64, 5, 0, 7, none, []⟩] } }

theorem witness_VaultCommands : (vaultState false).working = true ∧ vaultSrcOk (vaultState false) 0x4000000000 64 = true ∧
    vaultSrcOk (vaultState false) 0x4000000001 64 = false ∧
    marchStalls (vaultState false) 0x4000000000 = false ∧ marchStalls { vaultState false with ms := { march := some ⟨0x48, false⟩ } }
      0x4000000000 = true ∧ run.ms.vault = [] := by decide +kernel

theorem test_vault_refused : nextIs (exec (.vaultCommit 1 false) (vaultState true)) (fun t =>
    t.fld R.MEM_VAULT_STATUS F.MEM_VAULT_STATUS_REFUSED == 1) = true := by decide +kernel

/-! ### MailboxCommands -/

/-- SAFE, with a host that reaches the device, a span of one block, and a job. -/
def mailState (j : Option MbxJob) : State :=
  let s := (run.setReg R.MBX_OFFSET 0x3FF0000).setReg R.MBX_LENGTH 0x10000
  { s with mode := .safe, boot := { s.boot with job := j }, pcie := { s.pcie with ready := true, memEnable := true } }

theorem witness_MailboxCommands : (mailState none).serving = true ∧ hostReaches (mailState none) = true ∧
    (mailState none).boot.job = none ∧ (mailState none).mode = .safe ∧ run.mode ≠ .safe ∧ permits run 3 = false ∧
    (mailState (some .activate)).boot.job = some .activate ∧ slotCopyInForce run = none ∧
    (mailState (some .verify)).boot.bufferDirty = false ∧ (mailState (some .verify)).boot.job = some .verify ∧
    ((mailState none).reg R.MBX_OFFSET).toNat + ((mailState none).reg R.MBX_LENGTH).toNat = 0x4000000 := by decide +kernel

theorem test_mailbox_erase : nextIs (exec .mbxErase (mailState none)) (fun t =>
    t.boot.job == some (.erase 0x3FF0000 0x10000) && t.bit R.MBX_STATUS F.MBX_STATUS_BUSY) = true := by decide +kernel

theorem test_mailbox_write_done : nextIs (exec (.mbxWriteDone true) (mailState (some (.write 0 2 [1, 2])))) (fun t =>
    t.read (flashKey (slotBase (targetSlot t))) 2 == [1, 2] && t.fld R.MBX_STATUS F.MBX_STATUS_RESULT == 0) = true := by decide +kernel

/-! ### RunRequests -/

def autorunState : State :=
  { run with boot := { run.boot with spore := some { sporeOfScripts [] with autorun := true, autorunDelay := 5 },
                                     readyRose := some 1000000, autorunWaits := true } }

theorem witness_RunRequests : autorunState.working = true ∧ runEnding autorunState = false ∧ autorunState.runActive = false ∧
    autorunState.bit R.RUN_STATUS F.RUN_STATUS_RECOVERING = false ∧ busyState.runActive = true ∧ busyState.working = true ∧
    (run.setBit R.RUN_STATUS F.RUN_STATUS_RECOVERING true).bit R.RUN_STATUS F.RUN_STATUS_RECOVERING = true ∧
    marchState.mode = .maint ∧ marchState.runActive = false ∧ run.mode = .run ∧
    run.bit R.RUN_WDOG F.RUN_WDOG_LOCK = false ∧
    (run.setBit R.RUN_WDOG F.RUN_WDOG_LOCK true).bit R.RUN_WDOG F.RUN_WDOG_LOCK = true := by decide +kernel

theorem test_run_start : nextIs (exec (.runStart false) run) (fun t => t.runActive &&
    t.fld R.RUN_STATUS F.RUN_STATUS_RUN_ID == 1 && t.fld R.RUN_STATUS F.RUN_STATUS_RESULT == 1) = true := by decide +kernel

theorem test_run_stop_without : nextIs (exec (.runStop false) run) (fun t =>
    t.fld R.RUN_STATUS F.RUN_STATUS_RESULT == 3) = true := by decide +kernel

/-! ### MaintRefusedInRun -/

def busyHost : State :=
  { busyState with pcie := { busyState.pcie with ready := true, memEnable := true } }

theorem witness_MaintRefusedInRun : busyState.working = true ∧ busyState.runActive = true ∧ busyHost.working = true ∧
    busyHost.runActive = true ∧ hostReaches busyHost = true := by decide +kernel

theorem test_maint_refused : nextIs (exec (.registerWrite (.frond 3) 0x5003000000 8 0 0) busyState) (fun t =>
    t.mode == .run && t.fld R.RUN_STATUS F.RUN_STATUS_RESULT == 4) = true := by decide +kernel

/-! ### ColdStartAndOff -/

theorem witness_ColdStartAndOff : State.reset.mode = .off ∧ (State.reset.pwr.vaonA || State.reset.pwr.vaonB) = true ∧
    State.reset.pwr.latch = false ∧ ({ sfdp := false } : Bench).during = [] ∧ ({ sfdp := false } : Bench).sfdp = false ∧
    run.mode ≠ .off ∧ run.boot.job = none ∧ State.reset.pwr.onB = false ∧
    { State.reset with pwr := { vaonB := false } }.pwr.vaonB = false := by decide +kernel

theorem test_por_sfdp : nextIs (exec (.porRelease { sfdp := false }) State.reset) (fun t =>
    t.mode == .safe && t.fld R.SYS_CAUSE F.SYS_CAUSE_SAFE_CODE == 4 && faultN t == .low) = true := by decide +kernel

theorem test_power_loss : nextIs (exec .powerLoss (run.setReg R.MBX_OFFSET 7)) (fun t => t.mode == .off &&
    t.reg R.MBX_OFFSET == 0) = true := by decide +kernel

/-! ### WarmRecovery -/

def fuseState : State :=
  { run with boot := { run.boot with spore := some { sporeOfScripts [] with arb := 1 }, arbPending := true } }

theorem witness_WarmRecovery : fuseState.working = true ∧ fuseState.boot.spore.isSome = true ∧
    fuseState.boot.arbPending = true ∧ run.serving = true ∧ State.reset.serving = false ∧
    (run.setBit (R.TIME_ISL_LOCK 2) ⟨30, 1⟩ true).bit (R.TIME_ISL_LOCK 2) ⟨30, 1⟩ = true := by decide +kernel

theorem test_fuse : nextIs (exec .arbFuseAdvance fuseState) (fun t => t.root.arbFused == 1 && !t.boot.arbPending &&
    t.bit R.BOOT_STATUS F.BOOT_STATUS_ARB_ADVANCED) = true := by decide +kernel

theorem test_perst : nextIs (exec (.perstNAssert .afterCause) run) (fun t => t.mode == .run && t.pcie.perst &&
    t.fld R.SYS_RACE F.SYS_RACE_RACE == 1) = true := by decide +kernel

/-! ### The fronds -/

/-- Frond f running, its registers and some words of its local memories as given. -/
def frondAt (f : Nat) (x : FrondSt) (ws : List (Nat × Nat)) : State :=
  ws.foldl (fun s w => s.write (frondKey f w.1) (bytesLE 4 w.2)) ((setFrondState run f 1).setFrond f x)

/-- `Issues`, computed. -/
def issuesB (s : State) (f : Nat) (fe : Ecc) (b : Slot × Slot) : Bool :=
  s.working && frondIssues s f && !underMarch s f && fe != .bad && slotFault s f b.1 == none && !bundleStalls s f b &&
    decodeBundle (fetchWords s f (s.frond f).pc).1 (fetchWords s f (s.frond f).pc).2 == some b

theorem issues_of_computed {s : State} {f : Nat} {fe : Ecc} {b : Slot × Slot} (h : issuesB s f fe b = true) :
    Issues s f fe b := by
  simp only [issuesB, Bool.and_eq_true, bne_iff_ne, beq_iff_eq, Bool.not_eq_true'] at h
  exact ⟨h.1.1.1.1.1.1, h.1.1.1.1.1.2, h.1.1.1.1.2, h.1.1.1.2, h.2, h.1.1.2, h.1.2⟩

/-- Frond 63 at the last bundle of its instruction memory, with s1 and s2 given. -/
def scalarAt (a b w : Nat) : State :=
  frondAt 63 { pc := 0xFFF8, sregs := [(1, BitVec.ofNat 32 a), (2, BitVec.ofNat 32 b)], preds := [(1, 5), (2, 3)] } [(0xFFF8, w)]

/-- The slot that a word holds. -/
def slotOf (w : Nat) : Slot := (decodeSlot0 (BitVec.ofNat 32 w)).getD ⟨.halt, 0⟩

/-- Words of all the scalar operations, written from the formats S3, SI and X with RD 3, RA 1, RB 2 (12 R393, R396 to
R398): OP 0x01 with FN; OP 0x02 to 0x09 with IMM13 5; OP 0x3F with XFN. -/
def scalarWords : List Nat :=
  (List.range 15).map (fun fn => 0x040C2200 + fn) ++ [0x040C2210, 0x040C2211, 0x040C2212, 0x040C2213, 0x040C2014,
    0x040C2015, 0x040C2218, 0x040C2219, 0x040C221A, 0x040C221B, 0x040C2020, 0x040C2021] ++
  (List.range 8).map (fun k => 0x080C2005 + 0x4000000 * k) ++ [0xFC6000A7, 0xFC6000A8, 0xFC60000A]

theorem witness_ScalarResults : scalarWords.all (fun w =>
    issuesB (scalarAt 0xFFFFFFFF 0x21 w) 63 .corrected (slotOf w, ⟨.nop, 0⟩)) = true := by decide +kernel

/-- s3 after a scalar bundle; its program counter has wrapped. -/
def s3After (row : FrondRow) (a b w v : Nat) : Bool :=
  nextIs (exec (row 63 .sound .sound false .alone) (scalarAt a b w)) (fun t =>
    (t.frond 63).getS 3 == BitVec.ofNat 32 v && (t.frond 63).pc == 0)

theorem test_add_wraps : s3After .add 0xFFFFFFFF 2 0x040C2200 1 = true := by decide +kernel

theorem test_sub_wraps : s3After .sub 1 2 0x040C2201 0xFFFFFFFF = true := by decide +kernel

theorem test_sra_fills : s3After .sra 0x80000000 0x21 0x040C2207 0xC0000000 = true := by decide +kernel

theorem test_srl_zeros : s3After .srl 0x80000000 0x21 0x040C2206 0x40000000 = true := by decide +kernel

theorem test_mulhs : s3After .mulhs 0xFFFFFFFF 2 0x040C2209 0xFFFFFFFF = true := by decide +kernel

theorem test_mulhu : s3After .mulhu 0xFFFFFFFF 2 0x040C220A 1 = true := by decide +kernel

theorem test_min_signed : s3After .min 0x80000000 1 0x040C220B 0x80000000 = true := by decide +kernel

theorem test_minu : s3After .minu 0x80000000 1 0x040C220D 1 = true := by decide +kernel

theorem test_clz_zero : s3After .clz 0 0 0x040C2014 32 = true := by decide +kernel

theorem test_addi_negative : s3After .addi 1 0 0x080C3FFF 0 = true := by decide +kernel

/-- The words of the worked example of 12 decode to its instructions. -/
theorem test_worked_example_words :
    decodeBundle 0x48082000 0xC000002C = some (⟨.mem .vld 2 1 false 0 false 0, 0⟩, ⟨.vaclr 0, 0⟩) ∧
    decodeBundle 0x08042040 0 = some (⟨.alu .addi 1 1 (.imm 64), 0⟩, ⟨.nop, 0⟩) ∧
    decodeBundle 0x080C7FFF 0 = some (⟨.alu .addi 3 3 (.imm 0xFFFFFFFF), 0⟩, ⟨.nop, 0⟩) ∧
    decodeBundle 0x24106000 0 = some (⟨.cmp .eq 1 3 (.imm 0), 0⟩, ⟨.nop, 0⟩) ∧
    decodeBundle 0x08084040 0xC0004129 = some (⟨.alu .addi 2 2 (.imm 64), 0⟩, ⟨.vmac .uu 0 2 1, 0⟩) ∧
    decodeBundle 0 0xC00C0E2E = some (⟨.nop, 0⟩, ⟨.vacrd true 3 0 14, 0⟩) ∧
    decodeBundle 0x4C0C41FF 0 = some (⟨.mem .vst 3 2 false 0 false (-1), 0⟩, ⟨.nop, 0⟩) ∧
    decodeBundle 0x80C07FF9 0 = some (⟨.branch true false (-7), 1⟩, ⟨.nop, 0⟩) ∧
    decodeBundle 0xFC8A0007 0xC4040421 = some (⟨.lil 4 0x5000, 0⟩, ⟨.vbcast false 1 4, 0⟩) := by decide +kernel

/-! ### SystemInstructions -/

/-- Words of the X format, with R 30 where a register or a pair is named. -/
def systemWords : List Nat :=
  [0, 0xFC000001, 0xFC000002, 0xFFC00003, 0xFFC00004, 0xFFC00005, 0xFC000006, 0xFFC00009, 0xFFC000EB]

theorem witness_SystemInstructions : systemWords.all (fun w =>
    issuesB (scalarAt 1 2 w) 63 .sound (slotOf w, ⟨.nop, 0⟩)) = true := by decide +kernel

def fenceState : State :=
  frondAt 63 { pc := 0, accesses := [⟨.load 2 false, 0, 4, 0, false⟩] } [(0, 0xFC000002)]

theorem witness_SystemInstructions_fence : fenceState.working = true ∧ frondIssues fenceState 63 = true ∧
    underMarch fenceState 63 = false ∧
    (fenceState.frond 63).accesses ≠ [] ∧ decodeBundle (fetchWords fenceState 63 (fenceState.frond 63).pc).1
      (fetchWords fenceState 63 (fenceState.frond 63).pc).2 = some (⟨.fence, 0⟩, ⟨.nop, 0⟩) := by decide +kernel

theorem test_halt : nextIs (exec (.halt 63 .sound .sound false .alone) (scalarAt 1 2 0xFC000001)) (fun t =>
    frondState t 63 == 0 && t.fld (R.FRD_STATUS 63) F.FRD_STATUS_CAUSE == 2) = true := by decide +kernel

/-! ### Branches -/

/-- Words of format B: KIND in bits 21:20, RA 1 for the indirect kinds, OFS15 -1 for the others. -/
def branchWords : List Nat := [0x80007FFF, 0x80107FFF, 0x80208000, 0x80308000]

theorem witness_Branches : branchWords.all (fun w =>
    issuesB (scalarAt 0x12340008 2 w) 63 .sound (slotOf w, ⟨.nop, 0⟩)) = true := by decide +kernel

theorem test_branch_indirect_link :
    nextIs (exec (.branchIndirectLink 63 .sound .sound false .alone) (scalarAt 0x12340008 2 0x80308000))
    (fun t => (t.frond 63).pc == 8 && (t.frond 63).getS 31 == 0x10000) = true := by decide +kernel

theorem test_branch_back : nextIs (exec (.branch 63 .sound .sound false .alone) (scalarAt 0 2 0x80007FFF))
    (fun t => (t.frond 63).pc == 0xFFF0 && (t.frond 63).getS 31 == 0) = true := by decide +kernel

/-! ### MemoryInstructions -/

/-- Frond 63 with a window on the commons that grants everything; s1 is `a`, the pair s4 the base of the commons. -/
def memoryAt (a w : Nat) : State :=
  let s := frondAt 63 { pc := 8, sregs := [(1, BitVec.ofNat 32 a), (2, 7), (3, 9), (5, 0x40)], vregs := [(2, 0xABCD)],
                        preds := [(1, 1), (2, 2)] } [(8, w), (0x4FFFC, 0xFFFFFF80)]
  (((s.setReg (R.FRD_WIN_BASE_LO 63 0) 7).setReg (R.FRD_WIN_BASE_HI 63 0) 0x40).setReg (R.FRD_WIN_LIMIT_LO 63 0)
    0xFFFFF000).setReg (R.FRD_WIN_LIMIT_HI 63 0) 0x40

/-- Local accesses at s1, with every size: LD of 8 bits to 64, ST, VLD, VST, their guards off, and accesses to the
commons. -/
def memoryWords : List (Nat × Nat) :=
  [(0x4FFFF, 0x40082000), (0x4FFFE, 0x40082600), (0x4FFFC, 0x40082800), (0x4FFF8, 0x40082C00), (0x4FFF8, 0x44082C00),
   (0x4FFC0, 0x48082000), (0x4FFC0, 0x4C882000), (0, 0x41082C00), (3, 0x45082C00), (5, 0x49082000), (1, 0x51082C00), (1, 0x55082800),
   (0, 0x40089800), (0, 0x44089C00), (0, 0x48089000), (0, 0x4C889000), (0, 0x50089800), (0, 0x54089C00)]

theorem witness_MemoryInstructions : memoryWords.all (fun p =>
    issuesB (memoryAt p.1 p.2) 63 .sound (slotOf p.2, ⟨.nop, 0⟩)) = true := by decide +kernel

theorem test_ld_signed : nextIs (exec (.ld 63 .sound .sound false .alone) (memoryAt 0x4FFFC 0x40082000))
    (fun t => (t.frond 63).getS 2 == 0xFFFFFF80) = true := by decide +kernel

theorem test_vst_lanes : nextIs (exec (.vst 63 .sound .sound false .alone) (memoryAt 0x4FFC0 0x4C882000))
    (fun t => t.readNat (frondKey 63 0x4FFC0) 4 == 0xABCD && t.readNat (frondKey 63 0x4FFFC) 4 == 0xFFFFFF80) = true := by
  decide +kernel

/-! ### QueueInstructions -/

/-- Frond 63 with queue 7 bound to DMA, in a direction, holding some entries, and a word at its program counter. -/
def queueAt (out : Bool) (l : List QEntry) (w : Nat) : State :=
  let s := frondAt 63 { pc := 8, vregs := [(2, 0xABCD)], preds := [(1, 2)] } [(8, w)]
  { s.setReg (R.FRD_Q_CFG 63 7) (if out then 0xA else 2) with queues := [(511, l)] }

/-- QGET, QPUT, QTGET and QTPUT of queue 7 with v2, predicate p3 for the try forms. -/
theorem witness_QueueInstructions :
    (issuesB (queueAt false [bytesLE 64 5] 0x5808E000) 63 .sound (⟨.queue .get 2 7 0, 0⟩, ⟨.nop, 0⟩) &&
    issuesB (queueAt true (List.replicate 15 []) 0x5C08E000) 63 .sound (⟨.queue .put 2 7 0, 0⟩, ⟨.nop, 0⟩) &&
    issuesB (queueAt false [] 0x6008E003) 63 .sound (⟨.queue .tryGet 2 7 3, 0⟩, ⟨.nop, 0⟩) &&
    issuesB (queueAt true (List.replicate 16 []) 0x6408E003) 63 .sound (⟨.queue .tryPut 2 7 3, 0⟩, ⟨.nop, 0⟩) &&
    issuesB (queueAt true [] 0x5888E000) 63 .sound (⟨.queue .get 2 7 0, 1⟩, ⟨.nop, 0⟩) &&
    issuesB (queueAt false [] 0x5C88E000) 63 .sound (⟨.queue .put 2 7 0, 1⟩, ⟨.nop, 0⟩) &&
    issuesB (queueAt false [[]] 0x6088E003) 63 .sound (⟨.queue .tryGet 2 7 3, 1⟩, ⟨.nop, 0⟩) &&
    issuesB (queueAt true [] 0x6488E003) 63 .sound (⟨.queue .tryPut 2 7 3, 1⟩, ⟨.nop, 0⟩) &&
    queueMoves (queueAt false [[]] 0) 63 7 false && queueMoves (queueAt true [] 0) 63 7 true &&
    !queueMoves (queueAt false [] 0) 63 7 false && !queueMoves (queueAt true (List.replicate 16 []) 0) 63 7 true) = true := by
  decide +kernel

theorem test_qget : nextIs (exec (.qget 63 .sound .sound false .alone) (queueAt false [bytesLE 64 5] 0x5808E000))
    (fun t => (t.frond 63).getV 2 == 5 && t.queue 63 7 == []) = true := by decide +kernel

theorem test_qtput_full :
    nextIs (exec (.qtput 63 .sound .sound false .alone) (queueAt true (List.replicate 16 []) 0x6408E003))
    (fun t => (t.frond 63).getP 3 == 0 && (t.queue 63 7).length == 16) = true := by decide +kernel

/-! ### VectorLanes -/

/-- Frond 0 with v1 and v2, s2 and p1 given, and a bundle whose vector slot is `w`. -/
def vectorAt (a b w : Nat) : State :=
  frondAt 0 { vregs := [(1, BitVec.ofNat 512 a), (2, BitVec.ofNat 512 b), (3, 0x7777)], sregs := [(2, BitVec.ofNat 32 b)],
              preds := [(1, 1)], accs := [(0, 5)] } [(4, w)]

/-- The slot that a word holds. -/
def slot1Of (w : Nat) : Slot := (decodeSlot1 (BitVec.ofNat 32 w)).getD ⟨.halt, 0⟩

/-- Words of the formats V3 and VS with PG 1, VD 3, VA 1, VB or SB 2: every lane operation with W 0 and W 1, the
compares, VSEL, VBCAST and VROT (12 R393, R406). -/
def vectorWords : List Nat :=
  (List.range 20).map (fun fn => 0xC08C2200 + fn) ++ (List.range 20).map (fun fn => 0xC48C2280 + fn) ++
  (List.range 4).map (fun fn => 0xC08C2218 + fn) ++ (List.range 4).map (fun fn => 0xC48C2298 + fn) ++
  [0xC08C2220, 0xC08C22A0, 0xC48C0221, 0xC48C02A1, 0xC48C2230, 0xC48C22B0]

theorem witness_VectorLanes : vectorWords.all (fun w =>
    issuesB (vectorAt 0xFFFF8000 2 w) 0 .sound (⟨.nop, 0⟩, slot1Of w)) = true := by decide +kernel

/-- v3 after a vector bundle. -/
def v3After (row : FrondRow) (a b w v : Nat) : Bool :=
  nextIs (exec (row 0 .sound .sound false .alone) (vectorAt a b w)) (fun t => (t.frond 0).getV 3 == BitVec.ofNat 512 v)

theorem test_vadds_saturates : v3After .vadds 0x7FFF 2 0xC08C2202 0x7FFF = true := by decide +kernel

theorem test_vaddus_saturates : v3After .vaddus 0xFFFF 2 0xC08C2203 0xFFFF = true := by decide +kernel

theorem test_vsubus_floor : v3After .vsubus 1 2 0xC08C2205 0 = true := by decide +kernel

theorem test_vsra_wide : v3After .vsra 0x80000000 40 0xC08C228F 0xFFFFFFFF = true := by decide +kernel

theorem test_vmulhs : v3After .vmulhs 0xFFFF 2 0xC08C2211 0xFFFF = true := by decide +kernel

theorem test_vbcast_narrow : v3After .vbcast 0 0x12345 0xC48C0221 0x2345 = true := by decide +kernel

theorem test_vrot : v3After .vrot 0x00050000 1 0xC48C2230 5 = true := by decide +kernel

/-! ### Accumulators -/

/-- Words of the accumulator instructions: VMAC, VMACU, VMACSU, VMSU, VACLR of a0 and VACRD, VACRDU into v3 by 14 (12
R407). -/
def accWords : List Nat := [0xC0802228, 0xC0802229, 0xC080222A, 0xC080222B, 0xC080002C, 0xC08C0E2D, 0xC08C0E2E]

theorem witness_Accumulators : accWords.all (fun w =>
    issuesB (vectorAt 0xFFFF8000 2 w) 0 .sound (⟨.nop, 0⟩, slot1Of w)) = true := by decide +kernel

/-- Lane 0 of a0 after an accumulator bundle: it held 5. -/
def a0After (row : FrondRow) (a b w v : Nat) : Bool :=
  nextIs (exec (row 0 .sound .sound false .alone) (vectorAt a b w)) (fun t => accLane ((t.frond 0).getA 0) 0 == v)

theorem test_vmac_wraps : a0After .vmac 0xFFFF 6 0xC0802228 0xFFFFFFFFFFFF = true := by decide +kernel

theorem test_vmacsu : a0After .vmacsu 0xFFFF 0xFFFF 0xC080222A 0xFFFFFFFF0006 = true := by decide +kernel

/-- The second lane of the worked example of 12: 60,000 x 20,480 saturates to 65,535. -/
theorem test_vacrdu_saturates :
    nextIs (exec (.vacrdu 0 .sound .sound false .alone) ((vectorAt 0 0 0xC08C0E2E).setFrond 0
      { preds := [(1, 1)], accs := [(0, 1228800000)] })) (fun t => (t.frond 0).getV 3 == 65535) = true := by decide +kernel

theorem test_vacrd_rounds :
    nextIs (exec (.vacrd 0 .sound .sound false .alone) ((vectorAt 0 0 0xC08C0E2D).setFrond 0
      { preds := [(1, 1)], accs := [(0, 20480000)] })) (fun t => (t.frond 0).getV 3 == 1250) = true := by decide +kernel

/-! ### FrondFaults -/

theorem witness_FrondFaults_undefined : (scalarAt 0 0 0x040C22FF).working = true ∧
    frondIssues (scalarAt 0 0 0x040C22FF) 63 = true ∧ frondCritical (scalarAt 0 0 0x040C22FF) 63 = false ∧
    underMarch (scalarAt 0 0 0x040C22FF) 63 = false ∧
    decodeBundle (fetchWords (scalarAt 0 0 0x040C22FF) 63 0xFFF8).1 (fetchWords (scalarAt 0 0 0x040C22FF) 63 0xFFF8).2 = none := by
  decide +kernel

/-- The cause of the fault that an access at s1 meets. -/
def faultAt (a w : Nat) : Option Nat := (slotFault (memoryAt a w) 63 (slotOf w)).map (·.1)

theorem witness_FrondFaults_access : faultAt 0x50001 0x40082400 = some 4 ∧ faultAt 0xFFFC 0x44082800 = some 5 ∧
    faultAt 0x50000 0x40082800 = some 5 ∧ faultAt 0x4FFFC 0x50082800 = some 5 ∧ faultAt 0x10000 0x44082800 = none ∧
    accesses ((memoryAt 1 0).frond 63) .vst 0 = true ∧ underMarch (memoryAt 1 0) 63 = false ∧
    bundleStalls (memoryAt 0x50001 0x40082400) 63 (slotOf 0x40082400, ⟨.nop, 0⟩) = false ∧ frondCritical (memoryAt 1 0) 63 = false := by decide +kernel

/-- An atomic on local memory that a window with ATOMIC covers. -/
def atomicLocal : State :=
  (((memoryAt 0x4FFF8 0x50082800).setReg (R.FRD_WIN_BASE_LO 63 1) 7).setReg (R.FRD_WIN_LIMIT_LO 63 1) 0xFFFFF000)

theorem test_atomic_local : nextIs (exec (.aadd 63 .sound .sound false .alone) atomicLocal) (fun t =>
    frondState t 63 == 3 && t.fld (R.FRD_STATUS 63) F.FRD_STATUS_CAUSE == 8 &&
    t.reg (R.FRD_FAULT_ADDR_LO 63) == 0x4FFF8) = true := by decide +kernel

/-! ### FrondControl -/

/-- Frond 63 running or waiting with a report, an access in flight and a watchdog. -/
def controlState (st : Nat) : State :=
  (((setFrondState run 63 st).setReg (R.FRD_WDOG 63) 50).setReg (R.FRD_EVT_PEND_HI 63) 0x80000000).setFrond 63
    { pc := 8, waitMask := 2 ^ 63, reports := [0x1234], accesses := [⟨.load 2 false, 0, 4, 0, false⟩] }

theorem witness_FrondControl : (controlState 2).working = true ∧ frondStopped (controlState 2) 63 = false ∧
    frondStopped (controlState 3) 63 = true ∧ tuftParked run 7 = false ∧ frondCritical (controlState 1) 63 = false ∧
    frondState (controlState 2) 63 = 2 ∧ frondState (controlState 1) 63 ≠ 2 ∧
    ((controlState 2).frond 63).waitMask &&& (controlState 2).reg64 (R.FRD_EVT_PEND_LO 63) ≠ 0 ∧
    (controlState 2).fld (R.FRD_WDOG 63) F.FRD_WDOG_TIMEOUT = 50 := by decide +kernel

theorem test_wake : nextIs (exec (.waitWake 63) (controlState 2)) (fun t => frondState t 63 == 1) = true := by decide +kernel

theorem test_access_fault : nextIs (exec (.accessFault 63) (controlState 1)) (fun t => t.reg (R.FRD_ACC_ADDR_LO 63) == 0x1234 &&
    t.lineUp 63 55 && (t.frond 63).reports == []) = true := by decide +kernel

/-! ### FrondsMeetTheRest -/

/-- Frond 0 with a load from and a store to the commons; tuft 7 switching; tuft 6 parked with a commit waiting. -/
def meetState : State :=
  let s := (run.setBit (R.TUFT_STATUS 7) F.TUFT_STATUS_SWITCHING true).setBit (R.TUFT_STATUS 6) F.TUFT_STATUS_PARKED true
  (s.setBit (R.TUFT_CTRL 6) F.TUFT_CTRL_COMMIT_PENDING true).setFrond 0
    { accesses := [⟨.load 2 false, 0x4000000000, 4, 8, false⟩, ⟨.store [1] [true], 0x4010000000, 5, 16, false⟩] }

theorem witness_FrondsMeetTheRest : meetState.working = true ∧
    marchStalls meetState 0x4000000000 = false ∧ marchStalls meetState 0x4010000000 = false ∧
    accessFirst (meetState.frond 0) 0 = some ⟨.load 2 false, 0x4000000000, 4, 8, false⟩ ∧
    accessFirst (meetState.frond 0) 1 = some ⟨.store [1] [true], 0x4010000000, 5, 16, false⟩ ∧
    tuftSwitching meetState 7 = true ∧ tuftDrained meetState 7 = true ∧ tuftDrained meetState 0 = false ∧ tuftDrained run 0 = true ∧
    tuftParked meetState 6 = true ∧ meetState.bit (R.TUFT_CTRL 6) F.TUFT_CTRL_COMMIT_PENDING = true ∧
    meetState.bit (R.TUFT_CTRL 0) F.TUFT_CTRL_COMMIT_PENDING = false ∧ (tuftFronds 0).all (frondStopped meetState) = true ∧
    ((run.setReg (R.TUFT_OP 0) 0x100).reg (R.TUFT_OP 0)).get F.TUFT_OP_PARK = 1 ∧
    (tuftFronds 0).all (frondStopped (setFrondState run 7 1)) = false ∧ tuftSwitching run 7 = false := by decide +kernel

theorem test_store_accepted : nextIs (exec (.storeAccept 0 1 false) meetState) (fun t => t.byte 0x4010000000 == 1 &&
    (t.frond 0).accesses.length == 1) = true := by decide +kernel

theorem test_park : nextIs (exec (.tuftCommit 0 false) (run.setReg (R.TUFT_OP 0) 0x100)) (fun t => tuftParked t 0) = true := by
  decide +kernel

/-! ### IntakeAndSeal -/

/-- Stream 15 in a run with a spool of 1 MiB, source 13 mapped to it with a record waiting, keys and a chunk to be
sealed. -/
def intakeState (full : Bool) : State :=
  let s := (run.setFld (R.HOST_SRC_MAP 13) F.HOST_SRC_MAP_STREAM 15).setBit (R.HOST_SRC_MAP 13) F.HOST_SRC_MAP_EN true
  let s := (s.setFld (R.SPOOL_SIZE 15) F.SPOOL_SIZE_SIZE (if full then 0 else 1)).setQueue 0x13 [{ typ := 2, src := 0x13 }]
  let c : Chunk := ⟨0, 0, [], ⟨64, 128, 1, 1, 0xF0, 0x20, false, false, false⟩, 0, false, false, 0, true⟩
  { s with root := { s.root with keys := some ⟨[], []⟩ } }.setStream 15
    { enabled := true, inRun := true, closed := [c], open_ := [⟨0, 64, 0, 1, 2, 0x13, false, false, false⟩] }

theorem witness_IntakeAndSeal : (intakeState false).working = true ∧ (intakeState false).queueOf 0x13 = [{ typ := 2, src := 0x13 }] ∧
    sourceStream (intakeState false) 13 = some 15 ∧ takesRecords (intakeState false) 15 = true ∧
    isStaged (intakeState false) 15 = false ∧ roomFor (intakeState false) 15 [64] (keepFree false) = true ∧
    roomFor (intakeState true) 15 [64] (keepFree false) = false ∧ intakeAt (intakeState false) 15 = 0 ∧
    busErrorIn (intakeState false) (spoolBase (intakeState false) 15) 64 = false ∧ 0 < spoolSize (intakeState false) 15 ∧
    ((intakeState false).stream 15).open_ ≠ [] ∧ busErrorIn (intakeState false) (spoolBase (intakeState false) 15 + 64) 128 = false ∧
    streamBusy (intakeState false) 15 = true := by decide +kernel

theorem test_intake : nextIs (exec (.recordIntake 13) (intakeState false)) (fun t =>
    (t.stream 15).nextSeq == 1 && (t.stream 15).open_.length == 2 && t.readNat (spoolBase t 15) 4 == 0x00130002) = true := by
  decide +kernel

theorem test_intake_full : nextIs (exec (.recordIntake 13) (intakeState true)) (fun t =>
    (t.stream 15).open_.length == 1 && (t.stream 15).spans.length == 1) = true := by decide +kernel

/-- Queue 0 of frond 5 the stage input of stream 3, 4 KiB at 0x1000 of the DRAM, 256 bytes given. -/
def stageState : State :=
  let s := ((((run.setFld (R.FRD_Q_CFG 5 0) F.FRD_Q_CFG_KIND 4).setFld (R.FRD_Q_CFG 5 0) F.FRD_Q_CFG_PEER 3).setReg
    (R.FRD_Q_SIZE 5 0) 0x1000).setReg64 (R.FRD_Q_BASE_LO 5 0) 0x1000).setStage 3
    { wr := 256, used := 256, given := 256, stopAt := some 7 }
  (s.setReg (R.FRD_Q_CFG 5 1) 0x3D).setStream 3 { inRun := true, stopping := true }

theorem witness_IntakeAndSeal_stage : stageState.working = true ∧ queueKind stageState 5 0 = 4 ∧
    queueBound stageState 5 0 = true ∧ queuePeer stageState 5 0 = 3 ∧ stageSize stageState 3 = 0x1000 ∧
    stageBase stageState 3 = 0x1000 ∧ (stageState.stage 3).stopAt = some 7 ∧ isStaged stageState 3 = true ∧
    (stageState.stream 3).stopping = true ∧ stageQueue stageState 5 3 = some (5, 1) ∧ queueKind stageState 5 1 = 5 ∧
    marchStalls stageState 0x1000 = false := by decide +kernel

/-! ### DmaChannels -/

/-- Channel 63 in a state, with a descriptor of 4 KiB at the end of the DRAM whose trigger is timer 5. -/
def dmaDesc : Desc :=
  ⟨0x1FFFFFFFC0, bytesLE 8 0 ++ bytesLE 8 0x4000000000 ++ bytesLE 8 0x1000 ++ bytesLE 4 64 ++ bytesLE 4 0x9000 ++
    bytesLE 8 0 ++ bytesLE 4 0x501 ++ bytesLE 4 0 ++ bytesLE 16 0⟩

def dmaState (st pend : Nat) (c : Chan) : State :=
  ((setChanState run 63 st).setFld (R.CH_STATUS 63) F.CH_STATUS_TRIG_PEND pend).setChan 63 c

/-- The descriptor held and waiting. -/
def dmaHeld (st pend : Nat) : State := dmaState st pend { cur := some dmaDesc, source := some (1, 5), released := st == 3 }

theorem witness_DmaChannels : run.working = true ∧ chanState (dmaHeld 2 15) 63 = 2 ∧ trigPend (dmaHeld 2 15) 63 = 15 ∧
    trigPend (dmaHeld 3 14) 63 = 14 ∧ (dTrigger dmaDesc).1 ≠ 0 ∧ chanBusy (dmaHeld 2 0) 63 = false ∧
    chanState (dmaState 1 0 {}) 63 = 1 ∧ (dmaState 1 0 {}).reg64 (R.CH_HEAD_LO 63) % 64 = 0 ∧
    ((dmaState 4 0 {}).setReg (R.CH_HEAD_LO 63) 1).reg64 (R.CH_HEAD_LO 63) % 64 ≠ 0 ∧
    plainOk run 0x1FFFFFFFC0 64 = true ∧ plainOk run 0x2000000000 64 = false ∧ (dmaHeld 3 0).mode = .run ∧
    marchState.mode = .maint ∧ dBit dmaDesc 15 = true ∧ dBit ⟨0, []⟩ 15 = false ∧
    ((dmaHeld 3 0).reg (R.CH_HOPS 63)).toNat < hopMax (dmaHeld 3 0) 63 ∧
    hopMax (run.setReg (R.CH_HOPS 63) 0x10000) 63 ≤ ((run.setReg (R.CH_HOPS 63) 0x10000).reg (R.CH_HOPS 63)).toNat := by
  decide +kernel

/-- The held descriptor with a trigger of timer 5 on its way. -/
def dmaSent : State := dmaSend 1 5 (dmaHeld 2 0)

theorem witness_DmaChannels_sent : (63, 1, 5) ∈ dmaSent.dma.sent ∧ (62, 1, 5) ∉ dmaSent.dma.sent ∧
    marchStalls (dmaHeld 2 0) 0x1000 = false := by decide +kernel

theorem test_dma_trigger : nextIs (exec (.dmaTriggerArrival 63 1 5 false) dmaSent) (fun t =>
    chanState t 63 == 3 && trigPend t 63 == 0 && t.dma.sent == []) = true := by decide +kernel

theorem test_dma_overrun : nextIs (exec (.chTrigger 63 false) (dmaHeld 2 15)) (fun t =>
    trigPend t 63 == 15 && t.fld (R.CH_TRIG_COUNT 63) F.CH_TRIG_COUNT_OVERRUNS == 1) = true := by decide +kernel

theorem test_dma_status : nextIs (exec (.descriptorStatusAccepted 63)
    (dmaState 3 0 { cur := some dmaDesc, ending := some (2, 0x40) })) (fun t =>
    chanState t 63 == 4 && t.readNat 0x1FFFFFFFE0 5 == 0x200000040) = true := by decide +kernel

/-! ### DmaMoves -/

/-- Channel 63 moves its only burst, or awaits a read of the host. -/
def dmaBusy (reads : List HostRead) : State :=
  let s := (dmaHeld 3 0).write 0x4000000000 [1, 2, 3]
  { s with dma := { s.dma with busy := if reads = [] then some 63 else none, burst := (0, 64) }, hostReads := reads }

def dmaRead (flush : Bool) : HostRead :=
  { tag := 16383, channel := some 63, stream := none, addr := 0x1000, len := 64, dst := 0x4000000000, issued := 7, flush := flush }

theorem witness_DmaMoves : (dmaBusy []).working = true ∧ ((dmaBusy []).chan 63).cur = some dmaDesc ∧ dBit dmaDesc 0 = false ∧
    dBit dmaDesc 1 = false ∧ ((dmaBusy []).chan 63).ending = none ∧ plainOk (dmaBusy []) (dmaDesc.at 8 8) 64 = true ∧
    plainOk (dmaBusy []) (dmaDesc.at 0x10 8) 64 = true ∧ regionOf (dmaDesc.at 8 8) = .commons ∧
    plainOk run 0x1FFFFFFFC0 128 = false ∧ isDram 0x1FFFFFFFC0 = true ∧
    (dmaBusy [dmaRead false]).hostReads.find? (fun r => r.tag == 16383) = some (dmaRead false) ∧
    (dmaBusy [dmaRead true]).dma.busy ≠ some 63 ∧ requesters (dmaHeld 3 0) ≠ [] ∧ (dmaHeld 3 0).dma.busy = none ∧
    requesters run = [] ∧ run.dma.busy = none ∧ (List.range 64).find? (flushWaits (dmaBusy [dmaRead false])) = none ∧
    (List.range 64).find? (flushWaits (dmaBusy [])) = none ∧ (dmaBusy [dmaRead true]).hostReads.any (isFlush 63) = true ∧ ((dmaState 3 0 { cur := some dmaDesc, flushing := true }).chan 63).flushing = true := by
  decide +kernel

theorem test_dma_burst : nextIs (exec (.dmaBurstEnd {} false) (dmaBusy [])) (fun t =>
    t.readNat 0x1000 4 == 0x30201 && (t.chan 63).moved == 64) = true := by decide +kernel

theorem test_dma_timeout : nextIs (exec (.hostReadTimeout 16383 false) (dmaBusy [dmaRead false])) (fun t =>
    (t.chan 63).ending == some (4, 64) && t.now == 50000007) = true := by decide +kernel

/-! ### HostFunction -/

/-- RUN with the function ready on a link that is up, one vector pending. -/
def pcieState : State :=
  let s := setArrayBit (run.setReg (R.EVT_ROUTE 453) 1) R.MSIX_PBA 2047 true
  { s with pcie := { ready := true, linkUp := true, busMaster := true, ptmEnable := true },
           tm := { s.tm with ptmBad := 2, ptmGood := 1 } }

theorem witness_HostFunction : pcieState.pcie.linkUp = true ∧ pcieState.mode ≠ .off ∧ pcieState.pcie.ready = true ∧
    run.pcie.linkUp = false ∧ pcieState.serving = true ∧ hostOpen pcieState = true ∧ pcieState.pcie.ptmEnable = true ∧
    arrayBit pcieState R.MSIX_PBA 2047 = true ∧ hostReaches marchState = true ∧ hostReaches run = false ∧
    pcieState.reg (R.EVT_ROUTE 453) ≠ 0 ∧ 2 ≤ pcieState.tm.ptmBad ∧ 1 ≤ pcieState.tm.ptmGood ∧ run.tm.ptmBad < 2 ∧
    pcieState.pcie.d3 ≠ true := by decide +kernel

theorem test_identity : nextIs (exec (.configRequest (.read 0)) pcieState) (fun t =>
    t.out.getLast? == some (.config (some 0x64001FC7))) = true := by decide +kernel

theorem test_ptm_bad : nextIs (exec (.ptmDialogue none) pcieState) (fun t => t.tm.ptmBad == 3 && !srcValid t 2) = true := by
  decide +kernel

/-! ### HostRequests -/

/-- RUN with an image that permits requests and holds them off 7 ms; a request register held off, or none; a shutter. -/
def askState (perms : Nat) (held : List (Nat × Nat)) : State :=
  let s := (run.setBit (R.TP_IF_CFG 3) F.TP_IF_CFG_ENABLE true).setFld (R.TP_SHUT_CFG 3) F.TP_SHUT_CFG_MODE 1
  { s with boot := { s.boot with spore := some { sporeOfScripts [] with permissions := perms, hostReqMin := 7 }, holdoff := held },
           pcie := { s.pcie with ready := true, memEnable := true } }

theorem witness_HostRequests : (askState 0x7F []).working = true ∧ hostReaches (askState 0x7F []) = true ∧
    [0, 1, 4, 5, 6].all (permits (askState 0x7F [])) = true ∧ permits (askState 0x3F []) 6 = false ∧
    (Sparse.find (askState 0x7F [(4, 1)]).boot.holdoff 4).any (fun t => decide ((askState 0x7F [(4, 1)]).now < t)) = true ∧
    Sparse.find (askState 0x7F []).boot.holdoff 4 = none ∧ shutMode (askState 0x7F []) 3 = 1 ∧
    (askState 0x7F []).runActive = false ∧ (askState 0x7F []).mode = .run ∧ runEnding (askState 0x7F []) = false ∧
    (askState 0x7F []).bit R.RUN_STATUS F.RUN_STATUS_RECOVERING = false ∧ busyState.runActive = true := by decide +kernel

theorem test_req_denied : nextIs (exec (.reqMaintEnter .alone) (askState 0x3F [])) (fun t =>
    t.mode == .run && t.reg R.REQ_STATUS == 0x10405) = true := by decide +kernel

theorem test_req_maint : nextIs (exec (.reqMaintEnter .alone) (askState 0x7F [])) (fun t =>
    t.mode == .maint && t.reg R.REQ_STATUS == 0x401 && t.boot.holdoff == [(4, 7000000)]) = true := by decide +kernel

theorem test_req_shutter : nextIs (exec (.reqShutter 0x9) (askState 2 [])) (fun t =>
    (t.tp 3).hostReq && !(t.tp 0).hostReq && t.fld R.REQ_STATUS F.REQ_STATUS_RESULT == 1) = true := by decide +kernel

/-! ### Delivery -/

/-- Stream 15 with a ring of 16 and 16 entries that runs, the host reachable. -/
def ringState (x : Stream) : State :=
  let s := (run.setReg (R.RING_SIZE 15) 0x404).setBit (R.RING_CTRL 15) F.RING_CTRL_ENABLE true
  let s := (s.setBit (R.RING_CTRL 15) F.RING_CTRL_ACTIVE true).setFld (R.GR_TAIL 15) ⟨0, 16⟩ 3
  { s with pcie := { s.pcie with ready := true, memEnable := true, busMaster := true, linkUp := true } }.setStream 15 x

/-- One grant-ring read in flight, of the entry at GR_HEAD. -/
def ringReading : State :=
  { ringState { reading := 1 } with
    hostReads := [{ tag := 0, channel := none, stream := some 15, addr := 0, len := 16, dst := 0, issued := 0 }] }

theorem witness_Delivery : (ringState {}).working = true ∧ hostReaches (ringState {}) = true ∧ grLen (ringState {}) 15 = 16 ∧
    ringRuns (ringState {}) 15 = true ∧ hostOpen (ringState {}) = true ∧ ringFull (ringState {}) 15 = false ∧
    32 ≤ (ringState {}).pcie.maxPayload ∧ ringRuns run 15 = false ∧ hostOpen run = false ∧
    (ringState {}).bit (R.RING_CTRL 15) F.RING_CTRL_ENABLE = true ∧ marchState.bit (R.RING_CTRL 15) F.RING_CTRL_ENABLE = false ∧
    (ringState {}).dma.busy ≠ some 79 ∧ ringReading.hostReads.find? (readOfStream 15) ≠ none ∧ ringReading.fld (R.GR_HEAD 15) ⟨0, 16⟩ = 0 ∧
    (intakeState false).bit (R.HOST_SRC_MAP 14) F.HOST_SRC_MAP_EN = false ∧
    ((intakeState false).setBit (R.HOST_SRC_MAP 14) F.HOST_SRC_MAP_EN true).bit (R.HOST_SRC_MAP 14) F.HOST_SRC_MAP_EN = true ∧
    takesRecords (intakeState false) 15 = true ∧ ((intakeState false).stream 15).waiting = [] ∧
    roomFor (intakeState false) 15 [64] (keepFree false) = true ∧ takesRecords run 15 = false := by decide +kernel

theorem test_tail_check : nextIs (exec (.grantTailCheck 15) (ringState {})) (fun t => (t.stream 15).reading == 3 &&
    t.hostReads.map (·.addr) == [0, 16, 32]) = true := by decide +kernel

theorem test_tail_over : nextIs (exec (.grTailWrite 15 16 false) (ringState {})) (fun t =>
    t.bit (R.RING_CTRL 15) F.RING_CTRL_RING_ERR && !t.bit (R.RING_CTRL 15) F.RING_CTRL_ACTIVE) = true := by decide +kernel

theorem test_grant_refused : nextIs (exec (.grantReadDone 15 0x1001 0x10000 9 true) ringReading) (fun t =>
    (t.stream 15).completions == [⟨9, 0, 0, 0, 0, 0x102, 0, false⟩]) = true := by decide +kernel

/-! ### RunnerLinks -/

/-- RUN with both links up, flits held, and device 7 at one hop out RUN_B. -/
def ringUp : State :=
  let s := (run.setBit R.RUN_CFG F.RUN_CFG_ENABLE true).setFld R.RUN_RING F.RUN_RING_PRESENT 0x81
  let held : List HeldFlit := [⟨0, 7, 0, 1, .time 1⟩, ⟨1, 7, 0, 1, .time 2⟩]
  let s := (s.setLink 0 { up := true, replays := 16 }).setLink 1 { up := true, nextSeq := 2, held := held }
  { s with runner := { s.runner with heard := [⟨7, true, true, none, some 1⟩] }, tm := { s.tm with runnerGood := 1 } }

/-- A flit of device 7 in order on RUN_B. -/
def flitHead (dest : Fin 8) : FlitHead := ⟨1, 0, 0, dest, 7, 7⟩

theorem witness_RunnerLinks : (ringUp.link 1).up = true ∧ (flitHead 0).seq.val = ((ringUp.link 1).got + 1) % 64 ∧
    (run.link 1).up = false ∧ run.serving = true ∧ (ringUp.link 1).waiting = [] ∧ ringUp.devid = 0 ∧ ringServes ringUp = true ∧
    isMaster ringUp = true ∧ isMaster run = false ∧ ringServes run = true ∧ 1 ≤ ringUp.tm.runnerGood ∧ presentCount ringUp = 2 ∧
    ringUp.bit R.RUN_RING F.RUN_RING_CLOSED = false ∧ run.bit R.RUN_CFG F.RUN_CFG_ENABLE = true ∧
    16 ≤ (ringUp.link 0).replays := by decide +kernel

theorem witness_RunnerLinks_news : ((∀ x, x ∈ ringUp.runner.heard → x.id = (flitHead 0).src.val → x.aUp ≠ false ∨ x.bUp ≠ true)) ∧
    ((run.setLink 0 { nb := some 3 }).link 0).nb = some 3 := by decide +kernel

theorem test_ack : nextIs (exec (.idleFlit 1 0) ringUp) (fun t => (t.link 1).held.map (·.seq) == [1]) = true := by
  decide +kernel

theorem test_announce : nextIs (exec (.ringAnnounce ⟨1, 0, 63, 5, 5, 6⟩ 9 true true) ringUp) (fun t =>
    t.runner.heard.any (fun x => x.id == 5 && x.b == some 2)) = true := by decide +kernel

/-! ### RunnerServices -/

/-- The ring with a shared interface both ways, a pending access, a trigger, and stream 15 forwarded to or from device
7. -/
def serviceState (out : Bool) : State :=
  let s := (ringUp.setReg (R.RUN_FWD 15) 0).setFld (R.RUN_FWD 15) F.RUN_FWD_DEVICE 7
  let s := (s.setBit (R.RUN_FWD 15) (if out then F.RUN_FWD_OUT_EN else F.RUN_FWD_IN_EN) true).setFld (R.SPOOL_SIZE 15) F.SPOOL_SIZE_SIZE 1
  let s := (s.setFld (R.RUN_POS_IN 1) F.RUN_POS_IN_SRC_DEV 7).setBit (R.RUN_POS_IN 1) F.RUN_POS_IN_EN true
  let s := (s.setBit R.RUN_CFG F.RUN_CFG_RMT_EN true).setFld R.RUN_RMT_WIN F.RUN_RMT_WIN_LIMIT 0xFFF
  let e : Ent := ⟨0, 64, 0, 1, 0x20, 0x20, false, false, false⟩
  let s := (s.setBit R.RUN_POS_OUT F.RUN_POS_OUT_EN true).setStream 15
    { enabled := true, fwdSpace := 64, fwdBuf := bytesLE 64 0xF0, ents := [e] }
  { s with runner := { s.runner with trigs := [⟨15, 9⟩, ⟨0, 8⟩], rmt := some ⟨1, false, 8, 5, [], 7⟩ } }

theorem witness_RunnerServices : (serviceState true).working = true ∧ ringServes (serviceState true) = true ∧
    routeTo (serviceState true) 7 = some (1, 1) ∧ routeTo (serviceState true) 6 = none ∧
    posLocal (serviceState true) 1 = some 0 ∧ posLocal (serviceState true) 0 = none ∧
    (serviceState true).fld (R.RUN_POS_IN 1) F.RUN_POS_IN_SRC_DEV = (flitHead 0).src.val ∧
    (serviceState true).fld (R.RUN_POS_IN 0) F.RUN_POS_IN_SRC_DEV ≠ (flitHead 0).src.val ∧
    (serviceState true).runner.rmt.any (fun x => x.dev == (flitHead 0).src.val) = true ∧ ringUp.runner.rmt = none ∧ run.runner.trigs = [] ∧
    (serviceState true).bit (R.RUN_FWD 15) F.RUN_FWD_OUT_EN = true ∧
    entAt ((serviceState true).stream 15).ents 0 = some (⟨0, 64, 0, 1, 0x20, 0x20, false, false, false⟩, 0, true) ∧
    fwdIn (serviceState false) 15 = true ∧ busErrorIn (serviceState false) (spoolBase (serviceState false) 15) 64 = false ∧ (serviceState false).fld (R.RUN_FWD 15) F.RUN_FWD_DEVICE = 7 ∧
    ((serviceState false).stream 15).fwdBuf.length = 64 + natAt 4 4 ((serviceState false).stream 15).fwdBuf ∧
    Sparse.find ((serviceState false).stream 15).fwdGot 0 = none ∧
    (serviceState true).bit R.RUN_RMT_STATUS F.RUN_RMT_STATUS_PENDING = false := by decide +kernel

theorem test_rmt_late : nextIs (exec (.rmtRsp (flitHead 0) 1 [] { former := true }) (serviceState true)) (fun t =>
    t.runner.rmt.isSome && t.fld R.RUN_RMT_STATUS F.RUN_RMT_STATUS_LATE_RSP == 1) = true := by decide +kernel

theorem test_trigger_due : nextIs (exec .triggerDue (serviceState true)) (fun t => t.runner.trigs == [⟨15, 9⟩] && t.now == 8) = true := by
  decide +kernel

theorem test_rmt_write : nextIs (exec (.rmtReq (flitHead 0) true 0 0x3FFF8 [1, 2, 3, 4, 5, 6, 7, 8] {}) (serviceState true)) (fun t =>
    t.readNat 0x402003FFF8 8 == 0x0807060504030201) = true := by decide +kernel

theorem test_forwarded : nextIs (exec (.fwdFlit (flitHead 0) 15 (.data []) false) (serviceState false)) (fun t =>
    (t.stream 15).ents.length == 2 && (t.stream 15).fwdBuf == [] && t.reg (R.SPOOL_SEAL 15) == 1) = true := by decide +kernel

/-! ### TrustRequests -/

/-- SAFE, over a link that is up, with a nonce of zeros, its serial number 7, and perhaps a session. -/
def trustState (in_ : Bool) : State :=
  { run with mode := .safe, pcie := { run.pcie with ready := true, linkUp := true },
             root := { run.root with serial := 7, nonce := some (List.replicate 32 0) },
             spdm := { run.spdm with session := in_, established := in_ }, peat := { run.peat with nextSeq := 3 } }

/-- A first enrolment into slot 3, as 16 R489 lays it out. -/
def enrolCommand : List Byte :=
  [0x47, 0x4F, 0x57, 0x4E, 1, 0xFF, 3, 0] ++ bytesLE 8 7 ++ List.replicate 32 0 ++ List.replicate 48 0xAB ++ List.replicate 32 0

theorem witness_TrustRequests : (trustState true).serving = true ∧ (trustState true).pcie.ready = true ∧
    (trustState true).pcie.linkUp = true ∧ (trustState true).spdm.established = true ∧ (trustState false).spdm.session = false ∧
    ownerCheck (trustState false) enrolCommand = 1 ∧ byteAt 4 enrolCommand = 1 ∧ ownerCheck run enrolCommand = 4 ∧
    ownerCheck { trustState false with root := { run.root with serial := 7 } } enrolCommand = 3 ∧
    ownerCheck (trustState false) [] = 7 := by decide +kernel

theorem test_enrol : nextIs (exec (.ownerEnrol enrolCommand .burnt false) (trustState false)) (fun t =>
    (ownerSlot t 3).active && (ownerSlot t 3).hash == List.replicate 48 0xAB && !(ownerSlot t 2).valid &&
    t.root.nonce == none) = true := by decide +kernel

theorem test_peat_read : nextIs (exec (.peatRead 1 64 false) (trustState true)) (fun t =>
    t.out.getLast? == some (.spdm (.peat 2 (List.replicate 128 0)))) = true := by decide +kernel


theorem test_enrol_cut : nextIs (exec (.ownerEnrol enrolCommand .cut false) (trustState false)) (fun t =>
    t.mode == .off && t.root.nonce == none) = true := by decide +kernel

/-! ### RegisterAccess -/

/-- RUN, the host over a link with memory access enabled, encoder 0's set waiting for its boundary. -/
def regState : State :=
  ({ run with pcie := { run.pcie with ready := true, linkUp := true, memEnable := true } }).setBit (R.ENC_CTRL 0)
    F.ENC_CTRL_COMMIT_PENDING true

theorem witness_RegisterAccess : regState.working = true ∧ hostReaches regState = true ∧ peatOpen regState = false ∧
    (encUnit 0).waits regState = true ∧ R.ENC_CFG 0 ∈ (encUnit 0).regs ∧ (cmpUnit 1).waits regState = false ∧
    (descOf R.GPIO_OUT).isSome = true ∧ isPairLow (R.ENC_POS_LO 7) = true ∧ isPairLow (R.FRD_ACC_ADDR_LO 63) = true := by
  decide +kernel

theorem test_register_refused : nextIs (exec (.registerWrite .dma ⟨R.ENC_CFG 0, by decide⟩ 0xFFFFFFFF 0 0) regState)
    (fun t => t.reg (R.ENC_CFG 0) == regState.reg (R.ENC_CFG 0) && t.refusals == [(R.ENC_CTRL 0, 1)]) = true := by
  decide +kernel

theorem test_gpio_out : nextIs (exec (.registerWrite .root ⟨R.GPIO_OUT, by decide⟩ 0x80000001 0 0) run)
    (fun t => t.reg R.GPIO_OUT == 0x80000001#32) = true := by decide +kernel

theorem test_pair_low : nextIs (exec (.pairLoRead .dma ⟨⟨R.ENC_POS_LO 0, by decide⟩, 4⟩) (run.setReg (R.ENC_POS_LO 0 + 4) 9))
    (fun t => (readReg .dma (R.ENC_POS_LO 0 + 4) (t.setReg (R.ENC_POS_LO 0 + 4) 8)).1 == 9#32) = true := by decide +kernel

theorem test_tap : nextIs (exec (.tapInstruction .extest) run) (fun t => t.out == [.tap .bypass none]) = true := by
  decide +kernel

end Sys2Proof.Tests
end

/-!
The proofs of the family 00_scope: the canonical form along every step, the state after reset, and what register
accesses do.
-/

namespace Sys2Proof.Machine

/-! ### Every step keeps the canonical form -/

/-- One arm per command: each row's Keep lemma, with memory and operating state kept where Safety's two lists say so. -/
theorem exec_keep (s : State) : ∀ i, i ≠ .aonLatchClear → OutKeep (!mayStore i) (!mayChangeMode i) s (exec i s)
  | .porRelease .., _ => execPorRelease_keep (.refl ..)
  | .porAssert, _ => execPorAssert_keep (.refl ..)
  | .powerLoss, _ => execPowerLoss_keep (.refl ..)
  | .laneBringupDone .., _ => execLaneBringupDone_keep (.refl ..)
  | .autorunStart, _ => execAutorunStart_keep (.refl ..)
  | .arbFuseAdvance, _ => execArbFuseAdvance_keep (.refl ..)
  | .perstNAssert .., _ => execPerstNAssert_keep (.refl ..)
  | .perstNRelease, _ => execPerstNRelease_keep (.refl ..)
  | .functionLevelReset .., _ => execFunctionLevelReset_keep (.refl ..)
  | .mbxErase, _ => execMbxErase_keep (.refl ..)
  | .mbxWrite, _ => execMbxWrite_keep (.refl ..)
  | .mbxVerify, _ => execMbxVerify_keep (.refl ..)
  | .mbxActivate, _ => execMbxActivate_keep (.refl ..)
  | .mbxAbort, _ => execMbxAbort_keep (.refl ..)
  | .mbxReboot, _ => execMbxReboot_keep (.refl ..)
  | .mbxCmdInvalid, _ => execMbxCmdInvalid_keep (.refl ..)
  | .mbxEraseDone .., _ => execMbxEraseDone_keep (.refl ..)
  | .mbxWriteDone .., _ => execMbxWriteDone_keep (.refl ..)
  | .mbxVerifyDone, _ => execMbxVerifyDone_keep (.refl ..)
  | .eventDelivery .., _ => execEventDelivery_keep (.refl ..)
  | .evtAck .., _ => execEvtAck_keep (.refl ..)
  | .quadCount .., _ => execQuadCount_keep (.refl ..)
  | .hallStateChange .., _ => execHallStateChange_keep (.refl ..)
  | .sincosConversion .., _ => execSincosConversion_keep (.refl ..)
  | .heartbeatSample .., _ => execHeartbeatSample_keep (.refl ..)
  | .indexLatch .., _ => execIndexLatch_keep (.refl ..)
  | .speedWindowEnd .., _ => execSpeedWindowEnd_keep (.refl ..)
  | .comparePulseEnd .., _ => execComparePulseEnd_keep (.refl ..)
  | .ptSynthEdge .., _ => execPtSynthEdge_keep (.refl ..)
  | .encCommit .., _ => execEncCommit_keep (.refl ..)
  | .cmpCommit .., _ => execCmpCommit_keep (.refl ..)
  | .ptCommit .., _ => execPtCommit_keep (.refl ..)
  | .posSampleArrival .., _ => execPosSampleArrival_keep (.refl ..)
  | .laneLockLoss .., _ => execLaneLockLoss_keep (.refl ..)
  | .rxReadapt .., _ => execRxReadapt_keep (.refl ..)
  | .linePacket .., _ => execLinePacket_keep (.refl ..)
  | .lineDataTimeout .., _ => execLineDataTimeout_keep (.refl ..)
  | .triggerFire .., _ => execTriggerFire_keep (.refl ..)
  | .lineMinEnd .., _ => execLineMinEnd_keep (.refl ..)
  | .generatorArm .., _ => execGeneratorArm_keep (.refl ..)
  | .imgCommit .., _ => execImgCommit_keep (.refl ..)
  | .imgScriptRun .., _ => execImgScriptRun_keep (.refl ..)
  | .scriptPhaseRunStop .., _ => execScriptPhaseRunStop_keep (.refl ..)
  | .scriptWrite .., _ => execScriptWrite_keep (.refl ..)
  | .scriptCheck .., _ => execScriptCheck_keep (.refl ..)
  | .scriptPoll .., _ => execScriptPoll_keep (.refl ..)
  | .scriptWait .., _ => execScriptWait_keep (.refl ..)
  | .scriptEnd .., _ => execScriptEnd_keep (.refl ..)
  | .scriptTransferDone .., _ => execScriptTransferDone_keep (.refl ..)
  | .scriptPollRetry .., _ => execScriptPollRetry_keep (.refl ..)
  | .scriptWaitEnd .., _ => execScriptWaitEnd_keep (.refl ..)
  | .shadingLoad .., _ => execShadingLoad_keep (.refl ..)
  | .shadingLoadDone .., _ => execShadingLoadDone_keep (.refl ..)
  | .lineRecordComplete .., _ => execLineRecordComplete_keep (.refl ..)
  | .swathEnd .., _ => execSwathEnd_keep (.refl ..)
  | .imgCorCommit .., _ => execImgCorCommit_keep (.refl ..)
  | .lampShiftEnd .., _ => execLampShiftEnd_keep (.refl ..)
  | .lampBlankPeriod .., _ => execLampBlankPeriod_keep (.refl ..)
  | .exposureWindowArrival .., _ => execExposureWindowArrival_keep (.refl ..)
  | .exposureWindowEnd .., _ => execExposureWindowEnd_keep (.refl ..)
  | .matrixRowSlot .., _ => execMatrixRowSlot_keep (.refl ..)
  | .lcCommit .., _ => execLcCommit_keep (.refl ..)
  | .driveWordComputeDone .., _ => execDriveWordComputeDone_keep (.refl ..)
  | .lcnTempWrite .., _ => execLcnTempWrite_keep (.refl ..)
  | .lampTempStale .., _ => execLampTempStale_keep (.refl ..)
  | .groupRestore .., _ => execGroupRestore_keep (.refl ..)
  | .lcScriptRun .., _ => execLcScriptRun_keep (.refl ..)
  | .lampChainEnable .., _ => execLampChainEnable_keep (.refl ..)
  | .tpEnable .., _ => execTpEnable_keep (.refl ..)
  | .tpDisable .., _ => execTpDisable_keep (.refl ..)
  | .tpEnDelayEnd .., _ => execTpEnDelayEnd_keep (.refl ..)
  | .frameBoundary .., _ => execFrameBoundary_keep (.refl ..)
  | .coefRowsArrive .., _ => execCoefRowsArrive_keep (.refl ..)
  | .coefResidentFetchDone .., _ => execCoefResidentFetchDone_keep (.refl ..)
  | .fpaRow .., _ => execFpaRow_keep (.refl ..)
  | .thermalSampleComplete .., _ => execThermalSampleComplete_keep (.refl ..)
  | .fpaSlotWriteDone .., _ => execFpaSlotWriteDone_keep (.refl ..)
  | .defEditAdd .., _ => execDefEditAdd_keep (.refl ..)
  | .defEditDelete .., _ => execDefEditDelete_keep (.refl ..)
  | .tpCommit .., _ => execTpCommit_keep (.refl ..)
  | .tpScriptRun .., _ => execTpScriptRun_keep (.refl ..)
  | .shutterRequest .., _ => execShutterRequest_keep (.refl ..)
  | .shutterAbort .., _ => execShutterAbort_keep (.refl ..)
  | .shutterPostpassDone .., _ => execShutterPostpassDone_keep (.refl ..)
  | .measTrigger .., _ => execMeasTrigger_keep (.refl ..)
  | .measUrgent .., _ => execMeasUrgent_keep (.refl ..)
  | .measCommit .., _ => execMeasCommit_keep (.refl ..)
  | .calStart, _ => execCalStart_keep (.refl ..)
  | .calGainDone .., _ => execCalGainDone_keep (.refl ..)
  | .triggerDelayEnd .., _ => execTriggerDelayEnd_keep (.refl ..)
  | .conversionStart .., _ => execConversionStart_keep (.refl ..)
  | .excSettleEnd .., _ => execExcSettleEnd_keep (.refl ..)
  | .modulatorSample .., _ => execModulatorSample_keep (.refl ..)
  | .resultPublish .., _ => execResultPublish_keep (.refl ..)
  | .impTestDue .., _ => execImpTestDue_keep (.refl ..)
  | .impTestDone .., _ => execImpTestDone_keep (.refl ..)
  | .refSettled .., _ => execRefSettled_keep (.refl ..)
  | .loopTick .., _ => execLoopTick_keep (.refl ..)
  | .loopCommit .., _ => execLoopCommit_keep (.refl ..)
  | .loopValueWrite .., _ => execLoopValueWrite_keep (.refl ..)
  | .updateTick .., _ => execUpdateTick_keep (.refl ..)
  | .axisMove .., _ => execAxisMove_keep (.refl ..)
  | .axisTable .., _ => execAxisTable_keep (.refl ..)
  | .axisHome .., _ => execAxisHome_keep (.refl ..)
  | .axisStop .., _ => execAxisStop_keep (.refl ..)
  | .axisQuickstop .., _ => execAxisQuickstop_keep (.refl ..)
  | .axisAbort .., _ => execAxisAbort_keep (.refl ..)
  | .axisResume .., _ => execAxisResume_keep (.refl ..)
  | .axisCmdInvalid .., _ => execAxisCmdInvalid_keep (.refl ..)
  | .axisCommit .., _ => execAxisCommit_keep (.refl ..)
  | .phaseFault .., _ => execPhaseFault_keep (.refl ..)
  | .frdStart .., _ => execFrdStart_keep (.refl ..)
  | .frdHalt .., _ => execFrdHalt_keep (.refl ..)
  | .frdKick .., _ => execFrdKick_keep (.refl ..)
  | .frdWdogWrite .., _ => execFrdWdogWrite_keep (.refl ..)
  | .frondWdogExpiry .., _ => execFrondWdogExpiry_keep (.refl ..)
  | .frdEvtRaise .., _ => execFrdEvtRaise_keep (.refl ..)
  | .frdSwevt .., _ => execFrdSwevt_keep (.refl ..)
  | .waitWake .., _ => execWaitWake_keep (.refl ..)
  | .loadReturn .., _ => execLoadReturn_keep (.refl ..)
  | .storeAccept .., _ => execStoreAccept_keep (.refl ..)
  | .accessFault .., _ => execAccessFault_keep (.refl ..)
  | .stageRelease .., _ => execStageRelease_keep (.refl ..)
  | .stageCopyDone .., _ => execStageCopyDone_keep (.refl ..)
  | .stageDrainTimeout .., _ => execStageDrainTimeout_keep (.refl ..)
  | .tuftCommit .., _ => execTuftCommit_keep (.refl ..)
  | .tuftSwitchDone .., _ => execTuftSwitchDone_keep (.refl ..)
  | .tuftWake .., _ => execTuftWake_keep (.refl ..)
  | .nop .., _ => execNop_keep (.refl ..)
  | .add .., _ => execAdd_keep (.refl ..)
  | .sub .., _ => execSub_keep (.refl ..)
  | .and .., _ => execAnd_keep (.refl ..)
  | .or .., _ => execOr_keep (.refl ..)
  | .xor .., _ => execXor_keep (.refl ..)
  | .sll .., _ => execSll_keep (.refl ..)
  | .srl .., _ => execSrl_keep (.refl ..)
  | .sra .., _ => execSra_keep (.refl ..)
  | .mul .., _ => execMul_keep (.refl ..)
  | .mulhs .., _ => execMulhs_keep (.refl ..)
  | .mulhu .., _ => execMulhu_keep (.refl ..)
  | .min .., _ => execMin_keep (.refl ..)
  | .max .., _ => execMax_keep (.refl ..)
  | .minu .., _ => execMinu_keep (.refl ..)
  | .maxu .., _ => execMaxu_keep (.refl ..)
  | .cmpeq .., _ => execCmpeq_keep (.refl ..)
  | .cmplt .., _ => execCmplt_keep (.refl ..)
  | .cmpltu .., _ => execCmpltu_keep (.refl ..)
  | .cmpge .., _ => execCmpge_keep (.refl ..)
  | .clz .., _ => execClz_keep (.refl ..)
  | .popc .., _ => execPopc_keep (.refl ..)
  | .pand .., _ => execPand_keep (.refl ..)
  | .por .., _ => execPor_keep (.refl ..)
  | .pxor .., _ => execPxor_keep (.refl ..)
  | .pandn .., _ => execPandn_keep (.refl ..)
  | .mfp .., _ => execMfp_keep (.refl ..)
  | .mtp .., _ => execMtp_keep (.refl ..)
  | .addi .., _ => execAddi_keep (.refl ..)
  | .andi .., _ => execAndi_keep (.refl ..)
  | .ori .., _ => execOri_keep (.refl ..)
  | .xori .., _ => execXori_keep (.refl ..)
  | .slli .., _ => execSlli_keep (.refl ..)
  | .srli .., _ => execSrli_keep (.refl ..)
  | .srai .., _ => execSrai_keep (.refl ..)
  | .cmpi .., _ => execCmpi_keep (.refl ..)
  | .halt .., _ => execHalt_keep (.refl ..)
  | .fence .., _ => execFence_keep (.refl ..)
  | .wait .., _ => execWait_keep (.refl ..)
  | .evclr .., _ => execEvclr_keep (.refl ..)
  | .evrd .., _ => execEvrd_keep (.refl ..)
  | .swevt .., _ => execSwevt_keep (.refl ..)
  | .lil .., _ => execLil_keep (.refl ..)
  | .lih .., _ => execLih_keep (.refl ..)
  | .timel .., _ => execTimel_keep (.refl ..)
  | .timeh .., _ => execTimeh_keep (.refl ..)
  | .qcnt .., _ => execQcnt_keep (.refl ..)
  | .branch .., _ => execBranch_keep (.refl ..)
  | .branchLink .., _ => execBranchLink_keep (.refl ..)
  | .branchIndirect .., _ => execBranchIndirect_keep (.refl ..)
  | .branchIndirectLink .., _ => execBranchIndirectLink_keep (.refl ..)
  | .ld .., _ => execLd_keep (.refl ..)
  | .st .., _ => execSt_keep (.refl ..)
  | .vld .., _ => execVld_keep (.refl ..)
  | .vst .., _ => execVst_keep (.refl ..)
  | .aadd .., _ => execAadd_keep (.refl ..)
  | .aswp .., _ => execAswp_keep (.refl ..)
  | .qget .., _ => execQget_keep (.refl ..)
  | .qput .., _ => execQput_keep (.refl ..)
  | .qtget .., _ => execQtget_keep (.refl ..)
  | .qtput .., _ => execQtput_keep (.refl ..)
  | .vadd .., _ => execVadd_keep (.refl ..)
  | .vsub .., _ => execVsub_keep (.refl ..)
  | .vadds .., _ => execVadds_keep (.refl ..)
  | .vaddus .., _ => execVaddus_keep (.refl ..)
  | .vsubs .., _ => execVsubs_keep (.refl ..)
  | .vsubus .., _ => execVsubus_keep (.refl ..)
  | .vmin .., _ => execVmin_keep (.refl ..)
  | .vmax .., _ => execVmax_keep (.refl ..)
  | .vminu .., _ => execVminu_keep (.refl ..)
  | .vmaxu .., _ => execVmaxu_keep (.refl ..)
  | .vand .., _ => execVand_keep (.refl ..)
  | .vor .., _ => execVor_keep (.refl ..)
  | .vxor .., _ => execVxor_keep (.refl ..)
  | .vsll .., _ => execVsll_keep (.refl ..)
  | .vsrl .., _ => execVsrl_keep (.refl ..)
  | .vsra .., _ => execVsra_keep (.refl ..)
  | .vmul .., _ => execVmul_keep (.refl ..)
  | .vmulhs .., _ => execVmulhs_keep (.refl ..)
  | .vmulhu .., _ => execVmulhu_keep (.refl ..)
  | .vabsd .., _ => execVabsd_keep (.refl ..)
  | .vcmpeq .., _ => execVcmpeq_keep (.refl ..)
  | .vcmplt .., _ => execVcmplt_keep (.refl ..)
  | .vcmpltu .., _ => execVcmpltu_keep (.refl ..)
  | .vcmpge .., _ => execVcmpge_keep (.refl ..)
  | .vsel .., _ => execVsel_keep (.refl ..)
  | .vbcast .., _ => execVbcast_keep (.refl ..)
  | .vmac .., _ => execVmac_keep (.refl ..)
  | .vmacu .., _ => execVmacu_keep (.refl ..)
  | .vmacsu .., _ => execVmacsu_keep (.refl ..)
  | .vmsu .., _ => execVmsu_keep (.refl ..)
  | .vaclr .., _ => execVaclr_keep (.refl ..)
  | .vacrd .., _ => execVacrd_keep (.refl ..)
  | .vacrdu .., _ => execVacrdu_keep (.refl ..)
  | .vrot .., _ => execVrot_keep (.refl ..)
  | .scrubWord .., _ => execScrubWord_keep (.refl ..)
  | .eccWriteback, _ => execEccWriteback_keep (.refl ..)
  | .marchStart .., _ => execMarchStart_keep (.refl ..)
  | .marchDone .., _ => execMarchDone_keep (.refl ..)
  | .hostExchAccess .., _ => execHostExchAccess_keep (.refl ..)
  | .vaultCommit .., _ => execVaultCommit_keep (.refl ..)
  | .vaultDelete .., _ => execVaultDelete_keep (.refl ..)
  | .vaultCmdInvalid, _ => execVaultCmdInvalid_keep (.refl ..)
  | .vaultCommitDone .., _ => execVaultCommitDone_keep (.refl ..)
  | .vaultDeleteDone, _ => execVaultDeleteDone_keep (.refl ..)
  | .recordIntake .., _ => execRecordIntake_keep (.refl ..)
  | .chunkAgeExpiry .., _ => execChunkAgeExpiry_keep (.refl ..)
  | .chunkSealStart .., _ => execChunkSealStart_keep (.refl ..)
  | .chunkSealComplete .., _ => execChunkSealComplete_keep (.refl ..)
  | .runKeysDerived, _ => execRunKeysDerived_keep (.refl ..)
  | .chStart .., _ => execChStart_keep (.refl ..)
  | .chAbort .., _ => execChAbort_keep (.refl ..)
  | .chTrigger .., _ => execChTrigger_keep (.refl ..)
  | .chCommit .., _ => execChCommit_keep (.refl ..)
  | .chEnableWrite .., _ => execChEnableWrite_keep (.refl ..)
  | .descriptorFetchDone .., _ => execDescriptorFetchDone_keep (.refl ..)
  | .dmaTriggerArrival .., _ => execDmaTriggerArrival_keep (.refl ..)
  | .dmaBurstEnd .., _ => execDmaBurstEnd_keep (.refl ..)
  | .flushReadReturn .., _ => execFlushReadReturn_keep (.refl ..)
  | .hostReadCompletion .., _ => execHostReadCompletion_keep (.refl ..)
  | .hostReadTimeout .., _ => execHostReadTimeout_keep (.refl ..)
  | .descriptorStatusAccepted .., _ => execDescriptorStatusAccepted_keep (.refl ..)
  | .configRequest .., _ => execConfigRequest_keep (.refl ..)
  | .hostLinkReady, _ => execHostLinkReady_keep (.refl ..)
  | .pcieLinkChange .., _ => execPcieLinkChange_keep (.refl ..)
  | .powerStateChange .., _ => execPowerStateChange_keep (.refl ..)
  | .ideIntegrityFail .., _ => execIdeIntegrityFail_keep (.refl ..)
  | .badWrite, _ => execBadWrite_keep (.refl ..)
  | .peatWindowRead .., _ => execPeatWindowRead_keep (.refl ..)
  | .reqRunStart .., _ => execReqRunStart_keep (.refl ..)
  | .reqRunStop .., _ => execReqRunStop_keep (.refl ..)
  | .reqShutter .., _ => execReqShutter_keep (.refl ..)
  | .reqPacking .., _ => execReqPacking_keep (.refl ..)
  | .reqCal .., _ => execReqCal_keep (.refl ..)
  | .reqMaintEnter .., _ => execReqMaintEnter_keep (.refl ..)
  | .reqMaintExit .., _ => execReqMaintExit_keep (.refl ..)
  | .hostReqHoldoffEnd .., _ => execHostReqHoldoffEnd_keep (.refl ..)
  | .grTailWrite .., _ => execGrTailWrite_keep (.refl ..)
  | .grantTailCheck .., _ => execGrantTailCheck_keep (.refl ..)
  | .grantReadDone .., _ => execGrantReadDone_keep (.refl ..)
  | .crHeadWrite .., _ => execCrHeadWrite_keep (.refl ..)
  | .ringEnable .., _ => execRingEnable_keep (.refl ..)
  | .ringDisable .., _ => execRingDisable_keep (.refl ..)
  | .ringConfigWrite .., _ => execRingConfigWrite_keep (.refl ..)
  | .completionEntryIssue .., _ => execCompletionEntryIssue_keep (.refl ..)
  | .completionRingCheck .., _ => execCompletionRingCheck_keep (.refl ..)
  | .eventRecordEmit .., _ => execEventRecordEmit_keep (.refl ..)
  | .ptmDialogue .., _ => execPtmDialogue_keep (.refl ..)
  | .runStart .., _ => execRunStart_keep (.refl ..)
  | .runStop .., _ => execRunStop_keep (.refl ..)
  | .maintEnter .., _ => execMaintEnter_keep (.refl ..)
  | .maintExit .., _ => execMaintExit_keep (.refl ..)
  | .abandon, _ => execAbandon_keep (.refl ..)
  | .runWdogWrite .., _ => execRunWdogWrite_keep (.refl ..)
  | .runKick .., _ => execRunKick_keep (.refl ..)
  | .runWdogExpiry .., _ => execRunWdogExpiry_keep (.refl ..)
  | .getVersion .., _ => execGetVersion_keep (.refl ..)
  | .getCapabilities .., _ => execGetCapabilities_keep (.refl ..)
  | .negotiateAlgorithms .., _ => execNegotiateAlgorithms_keep (.refl ..)
  | .getDigests .., _ => execGetDigests_keep (.refl ..)
  | .getCertificate .., _ => execGetCertificate_keep (.refl ..)
  | .challenge .., _ => execChallenge_keep (.refl ..)
  | .getMeasurements .., _ => execGetMeasurements_keep (.refl ..)
  | .keyExchange .., _ => execKeyExchange_keep (.refl ..)
  | .finish .., _ => execFinish_keep (.refl ..)
  | .heartbeat .., _ => execHeartbeat_keep (.refl ..)
  | .keyUpdate .., _ => execKeyUpdate_keep (.refl ..)
  | .endSession .., _ => execEndSession_keep (.refl ..)
  | .chunkSend .., _ => execChunkSend_keep (.refl ..)
  | .chunkGet .., _ => execChunkGet_keep (.refl ..)
  | .getOwnerNonce .., _ => execGetOwnerNonce_keep (.refl ..)
  | .ownerEnrol .., _ => execOwnerEnrol_keep (.refl ..)
  | .ownerRevoke .., _ => execOwnerRevoke_keep (.refl ..)
  | .ownerUnlock .., _ => execOwnerUnlock_keep (.refl ..)
  | .peatRead .., _ => execPeatRead_keep (.refl ..)
  | .vendorRequestUnsupported .., _ => execVendorRequestUnsupported_keep (.refl ..)
  | .runnerLinkUp .., _ => execRunnerLinkUp_keep (.refl ..)
  | .runnerLinkDown .., _ => execRunnerLinkDown_keep (.refl ..)
  | .flitNak .., _ => execFlitNak_keep (.refl ..)
  | .ringAnnounce .., _ => execRingAnnounce_keep (.refl ..)
  | .timeFlit .., _ => execTimeFlit_keep (.refl ..)
  | .timeFlitSend, _ => execTimeFlitSend_keep (.refl ..)
  | .runTrigSend .., _ => execRunTrigSend_keep (.refl ..)
  | .trigFlit .., _ => execTrigFlit_keep (.refl ..)
  | .triggerDue, _ => execTriggerDue_keep (.refl ..)
  | .posShareSend, _ => execPosShareSend_keep (.refl ..)
  | .posFlit .., _ => execPosFlit_keep (.refl ..)
  | .sharedPosTimeout .., _ => execSharedPosTimeout_keep (.refl ..)
  | .rmtRead .., _ => execRmtRead_keep (.refl ..)
  | .rmtWrite .., _ => execRmtWrite_keep (.refl ..)
  | .rmtReq .., _ => execRmtReq_keep (.refl ..)
  | .rmtRsp .., _ => execRmtRsp_keep (.refl ..)
  | .rmtTimeout .., _ => execRmtTimeout_keep (.refl ..)
  | .recordForwardSend .., _ => execRecordForwardSend_keep (.refl ..)
  | .fwdFlit .., _ => execFwdFlit_keep (.refl ..)
  | .dcoMonitor .., _ => execDcoMonitor_keep (.refl ..)
  | .refLost, _ => execRefLost_keep (.refl ..)
  | .refRestored, _ => execRefRestored_keep (.refl ..)
  | .timeBeacon, _ => execTimeBeacon_keep (.refl ..)
  | .tsyncEdge .., _ => execTsyncEdge_keep (.refl ..)
  | .tsyncTimeout, _ => execTsyncTimeout_keep (.refl ..)
  | .tsyncOutput, _ => execTsyncOutput_keep (.refl ..)
  | .runnerSourceTimeout, _ => execRunnerSourceTimeout_keep (.refl ..)
  | .timeSetApply .., _ => execTimeSetApply_keep (.refl ..)
  | .trimStart .., _ => execTrimStart_keep (.refl ..)
  | .trimVaultWritten, _ => execTrimVaultWritten_keep (.refl ..)
  | .trimApply, _ => execTrimApply_keep (.refl ..)
  | .timerExpiry .., _ => execTimerExpiry_keep (.refl ..)
  | .pwmHighEnd .., _ => execPwmHighEnd_keep (.refl ..)
  | .tmrCommit .., _ => execTmrCommit_keep (.refl ..)
  | .gpioOutWrite .., _ => execGpioOutWrite_keep (.refl ..)
  | .tempConversion .., _ => execTempConversion_keep (.refl ..)
  | .throttleEvaluation .., _ => execThrottleEvaluation_keep (.refl ..)
  | .vaonALoss, _ => execVaonALoss_keep (.refl ..)
  | .vaonAReturn, _ => execVaonAReturn_keep (.refl ..)
  | .aonBrownout, _ => execAonBrownout_keep (.refl ..)
  | .aonLatchClear, h => absurd rfl h
  | .avsReadback .., _ => execAvsReadback_keep (.refl ..)
  | .tempLogSample, _ => execTempLogSample_keep (.refl ..)
  | .pwrThreshWrite .., _ => execPwrThreshWrite_keep (.refl ..)
  | .peatRecordCommit .., _ => execPeatRecordCommit_keep (.refl ..)
  | .peatFwCmd .., _ => execPeatFwCmd_keep (.refl ..)
  | .peatWinSeqWrite .., _ => execPeatWinSeqWrite_keep (.refl ..)
  | .registerWrite .., _ => execRegisterWrite_keep (.refl ..)
  | .pairLoRead .., _ => execPairLoRead_keep (.refl ..)
  | .mbxActivateDone, _ => execMbxActivateDone_keep (.refl ..)
  | .flitReceiveError .., _ => execFlitReceiveError_keep (.refl ..)
  | .badFlitType .., _ => execBadFlitType_keep (.refl ..)
  | .idleFlit .., _ => execIdleFlit_keep (.refl ..)
  | .vaonBLoss, _ => execVaonBLoss_keep (.refl ..)
  | .vaonBReturn, _ => execVaonBReturn_keep (.refl ..)
  | .tapInstruction .., _ => execTapInstruction_keep (.refl ..)
  | .aerError .., _ => execAerError_keep (.refl ..)
  | .dramRefresh .., _ => execDramRefresh_keep (.refl ..)

/-- No command faults or is refused: each arm of the dispatch is a next state. -/
theorem exec_answers (i : Instr) (s : State) : ∃ t, exec i s = .next t := by
  cases i <;> exact ⟨_, rfl⟩

theorem exec_canon (i : Instr) {s : State} (h : s.Canon) : ∃ t, exec i s = .next t ∧ t.Canon := by
  obtain ⟨t, e⟩ := exec_answers i s
  refine ⟨t, e, ?_⟩
  by_cases c : i = .aonLatchClear
  · subst c
    exact (execAonLatchClear_keep (.refl false false _) t e).canon { h with }
  · exact (exec_keep s i c t e).canon h

/-- Settles O3: an idle nanosecond keeps the tables canonical by `idle_keep`, a command by `exec_canon`. -/
theorem stepKeepsCanon : Obligations.StepKeepsCanon := by
  intro s h
  unfold step
  cases s.pending with
  | nil => exact ⟨idle s, rfl, (idle_keep (.refl false false s)).canon h⟩
  | cons c rest => exact exec_canon c { h with }

/-! ### The state after reset -/

theorem resetOf_of_no_register {a : Nat} (h : descOf a = none) : resetOf a = 0 := by simp [resetOf, h]

/-- The commons lie above DRAM, below the trim vault and below the flash, so an unlisted byte of theirs is 0 (13 R420). -/
theorem unlisted_commons {a : Nat} (l : 0x4000000000 ≤ a) (u : a < 0x4000800000) : unlisted a = some 0 := by
  have d : isDram a = false := decide_eq_false (by omega)
  rw [unlisted, d, if_neg Bool.false_ne_true, if_neg (by omega), if_pos (by omega)]

theorem State.reset_byte_commons {a : Nat} (l : 0x4000000000 ≤ a) (u : a < 0x4000800000) : State.reset.byte a = 0 := by
  have m : Sparse.find State.reset.mem a = none := rfl
  simp [State.byte, m, unlisted_commons l u]

theorem State.reset_canon : State.reset.Canon := by constructor <;> rfl

/-- Settles O2: nothing is listed after reset, so registers and bytes read what unlisted keys read. -/
theorem resetState : Obligations.ResetState := by
  refine ⟨rfl, rfl, rfl, fun _ => ⟨rfl, rfl⟩, fun _ => resetOf_of_no_register, ?_, ?_, ?_, ?_, ?_, ?_, ?_, ?_, ?_, ?_, ?_,
    fun _ => State.reset_byte_commons, State.reset_canon⟩ <;> decide +kernel

/-! ### What a requester inside the device does to registers -/

/-- A requester inside reaches the register blocks, while all blocks work (R11; log entry 19). -/
theorem exec_registerWrite_inside {q : Requester} (hq : q ≠ .host) (a : Fin 562949953421312) (v sw cw : BitVec 32)
    (s : State) : exec (.registerWrite q a v sw cw) s =
      .next (if winBase ≤ a.val then s else s.whenWorking (writeReg q a v sw cw)) := by
  cases q with
  | host => exact absurd rfl hq
  | frond f => rfl
  | dma => rfl
  | root => rfl

theorem exec_registerWrite_working {q : Requester} (hq : q ≠ .host) {a : Fin 562949953421312} {s : State}
    (ha : a.val < winBase) (hw : s.working = true) (v sw cw : BitVec 32) :
    exec (.registerWrite q a v sw cw) s = .next (writeReg q a v sw cw s) := by
  rw [exec_registerWrite_inside hq, if_neg (Nat.not_le.mpr ha), State.whenWorking_true hw]

theorem writeReg_of_no_register {q : Requester} {a : Nat} {v sw cw : Word} {s : State} (h : descOf (canonReg a) = none) :
    writeReg q a v sw cw s = s := by simp [writeReg, h]

theorem exec_registerWrite_nothing {q : Requester} {a : Fin 562949953421312} {v sw cw : BitVec 32} {s : State}
    (hq : q ≠ .host) (h : winBase ≤ a.val ∨ s.working = false ∨ descOf (canonReg a.val) = none) :
    exec (.registerWrite q a v sw cw) s = .next s := by
  rw [exec_registerWrite_inside hq]
  by_cases ha : winBase ≤ a.val
  · rw [if_pos ha]
  · rw [if_neg ha]
    obtain h | h | h := h
    · exact absurd h ha
    · rw [State.whenWorking_false h]
    · unfold State.whenWorking
      rw [writeReg_of_no_register h, ite_self]

/-! #### The places of the registers -/

/-- The offsets that a register's strides and counts reach from its own. -/
def RegDesc.places : List (Nat × Nat) → List Nat
  | [] => [0]
  | (st, n) :: r => (List.range (n - 1 + 1)).flatMap (fun i => (RegDesc.places r).map (fun p => i * st + p))

theorem RegDesc.mem_places_of_hits {l : List (Nat × Nat)} {o : Nat} (h : RegDesc.hits l o = true) :
    o ∈ RegDesc.places l := by
  induction l generalizing o with
  | nil => simpa [RegDesc.hits, RegDesc.places] using h
  | cons e r ih =>
    obtain ⟨st, n⟩ := e
    have place : ∀ i, i < n - 1 + 1 → i * st ≤ o → RegDesc.hits r (o - i * st) = true →
        o ∈ RegDesc.places ((st, n) :: r) := fun i hi hle hr =>
      List.mem_flatMap.mpr ⟨i, List.mem_range.mpr hi, List.mem_map.mpr ⟨_, ih hr, by omega⟩⟩
    have hle : ∀ i, i ≤ o / st → i * st ≤ o := fun i hi =>
      (Nat.mul_le_mul_right st hi).trans (Nat.div_mul_le_self o st)
    simp only [RegDesc.hits] at h
    split at h
    · exact place (o / st) (by omega) (hle _ le_rfl) h
    · exact place (n - 1) (by omega) (hle _ (by omega)) h

theorem RegDesc.lookup_some {l : List RegDesc} {o : Nat} {d : RegDesc} (h : RegDesc.lookup l o = some d) :
    d ∈ l ∧ ∃ p ∈ RegDesc.places d.strides, o = d.off + p := by
  induction l with
  | nil => cases h
  | cons e l ih =>
    unfold RegDesc.lookup at h
    split at h
    · next hd =>
      cases h
      exact ⟨List.mem_cons_self .., _, RegDesc.mem_places_of_hits hd.2, by omega⟩
    · obtain ⟨hm, hp⟩ := ih h
      exact ⟨List.mem_cons_of_mem _ hm, hp⟩

theorem descOf_some {a : Nat} {d : RegDesc} (ha : a < winBase) (h : descOf a = some d) :
    0x5000000000 ≤ a ∧ a < 0x5008000000 ∧ ∃ l, regsOfBlock ((a - 0x5000000000) / 0x100000) = some l ∧ d ∈ l ∧
      ∃ p ∈ RegDesc.places d.strides, a = 0x5000000000 + 0x100000 * ((a - 0x5000000000) / 0x100000) + d.off + p := by
  unfold descOf at h
  rw [if_neg (Nat.not_le.mpr ha)] at h
  split at h
  · next hr =>
    split at h
    · next l hl =>
      obtain ⟨hm, p, hp, ho⟩ := RegDesc.lookup_some h
      refine ⟨hr.1, hr.2, l, hl, hm, p, hp, ?_⟩
      omega
    · cases h
  · cases h

/-! #### The shadows and the units that they belong to -/

/-- Every commit unit whose set a boundary of its own takes; the tufts' registers are no shadows of these (R526). -/
def commitUnits : List CommitUnit :=
  (List.range 8).map encUnit ++ (List.range 16).map cmpUnit ++ (List.range 2).map ptUnit ++
    (List.range 10).map capUnit ++ (List.range 10).map corUnit ++ (List.range 4).map lampUnit ++ (List.range 4).map tpUnit ++
    (List.range 16).map measUnit ++ (List.range 2).map loopUnit ++ (List.range 8).map axUnit ++ (List.range 64).map tmrUnit ++
    (List.range 64).map chanUnit

/-- A register of a unit's set: it has one home, shadow bits, and the unit's COMMIT_PENDING refuses its write (R14). -/
def IsShadowOf (u : CommitUnit) (a : Nat) : Prop :=
  a < winBase ∧ canonReg a = a ∧ pendingOf a = some (u.ctrl, u.pend) ∧ (descOf a).any (fun d => d.rws != 0) = true

theorem isShadowOf_of_mem : ∀ u ∈ commitUnits, ∀ a ∈ u.regs, IsShadowOf u a := by
  unfold IsShadowOf
  decide +kernel

/-- The blocks of `RegisterAccess`'s quiet registers. -/
def quietBlocks : List Nat := [0, 1, 5, 6, 8, 9, 0xB, 0x29] ++ (List.range 10).map (0x10 + ·)

/-- The registers that the commit units with their CTRL in a block have there. -/
def shadowsOfBlock (b : Nat) : List Nat :=
  (commitUnits.filter (fun u => (u.ctrl - 0x5000000000) / 0x100000 == b)).flatMap (·.regs)

/-- The map's registers with shadow bits are the units' (R10, R526). -/
theorem mem_shadowsOfBlock : ∀ b ∈ quietBlocks, ∀ d ∈ (regsOfBlock b).getD [], d.rws ≠ 0 →
    ∀ p ∈ RegDesc.places d.strides,
      (shadowsOfBlock b).contains (0x5000000000 + 0x100000 * b + d.off + p) = true := by
  decide +kernel

theorem refusedBy_of_waits {s : State} {u : CommitUnit} {a : Nat} (hu : u ∈ commitUnits) (ha : a ∈ u.regs)
    (hw : u.waits s = true) : refusedBy s a = some u.ctrl := by
  obtain ⟨-, -, hp, -⟩ := isShadowOf_of_mem u hu a ha
  have hb : s.bit u.ctrl u.pend = true := hw
  simp [refusedBy, hp, hb]

theorem refusedBy_of_not_waits {s : State} {u : CommitUnit} {a : Nat} (hu : u ∈ commitUnits) (ha : a ∈ u.regs)
    (hw : u.waits s = false) : refusedBy s a = none := by
  obtain ⟨-, -, hp, -⟩ := isShadowOf_of_mem u hu a ha
  have hb : s.bit u.ctrl u.pend = false := hw
  simp [refusedBy, hp, hb]

/-! #### A refused write (R14) -/

theorem writeReg_refused {q : Requester} {a c : Nat} {v sw cw : Word} {s : State} {d : RegDesc}
    (hd : descOf (canonReg a) = some d) (hs : d.rws ≠ 0) (hr : refusedBy s (canonReg a) = some c) :
    writeReg q a v sw cw s = refuseShadow q a c s := by simp [writeReg, hd, hs, hr]

theorem refuseShadow_mem (q : Requester) (a c : Nat) (s : State) : (refuseShadow q a c s).mem = s.mem := by
  cases q <;> rfl

theorem refuseShadow_dramEpoch (q : Requester) (a c : Nat) (s : State) :
    (refuseShadow q a c s).dramEpoch = s.dramEpoch := by cases q <;> rfl

theorem refuseShadow_regs (q : Requester) (a c : Nat) (s : State) : (refuseShadow q a c s).regs = s.regs := by
  cases q <;> rfl

theorem refuseShadow_act (q : Requester) (a c : Nat) (s : State) : (refuseShadow q a c s).act = s.act := by
  cases q <;> rfl

theorem refuseShadow_refusals (q : Requester) (a c : Nat) (s : State) : (refuseShadow q a c s).refusals =
    Sparse.put (fun _ => some 0) s.refusals c (Sparse.get (fun _ => 0) s.refusals c + 1) := by cases q <;> rfl

theorem refuseShadow_reports (f : Fin 64) (a c : Nat) (s : State) :
    ((refuseShadow (.frond f) a c s).frond f).reports = (s.frond f).reports ++ [a] :=
  congrArg FrondSt.reports (State.frond_setFrond_self _ _ _)

theorem exec_registerWrite_refused {q : Requester} {a : Fin 562949953421312} {s : State} {u : CommitUnit}
    (hq : q ≠ .host) (hw : s.working = true) (hu : u ∈ commitUnits) (ha : a.val ∈ u.regs) (hp : u.waits s = true)
    (v sw cw : BitVec 32) : exec (.registerWrite q a v sw cw) s = .next (refuseShadow q a.val u.ctrl s) := by
  obtain ⟨hlt, hc, -, hd⟩ := isShadowOf_of_mem u hu a.val ha
  obtain ⟨d, hd, hs⟩ := (Option.any_eq_true _ _).mp hd
  rw [exec_registerWrite_working hq hlt hw,
    writeReg_refused (hc.symm ▸ hd) (by simpa using hs) (hc.symm ▸ refusedBy_of_waits hu ha hp)]

/-! #### A write that is stored (R11, R13) -/

/-- The W1C bits of a word written that hardware sets or the write clears in the same cycle: the races it meets (R13). -/
def racesMet (d : RegDesc) (v sw cw : Word) : Nat := popCount ((sw ||| cw) &&& v &&& BitVec.ofNat 32 d.w1c)

/-- The state with a register's bits stored and the losers counted, before what else the write starts. -/
def State.stored (s : State) (b : Nat) (d : RegDesc) (v sw cw : Word) : State :=
  (s.setReg b (storedWord d (s.reg b) v sw)).cond (0 < racesMet d v sw cw) (fun s => s.race b (racesMet d v sw cw))

theorem writeReg_stored {q : Requester} {a : Nat} {s : State} {d : RegDesc} (hd : descOf (canonReg a) = some d)
    (hr : d.rws ≠ 0 → refusedBy s (canonReg a) = none) (v sw cw : Word) :
    writeReg q a v sw cw s = afterWrite q (canonReg a) (v &&& ~~~(sw &&& BitVec.ofNat 32 d.w1c)) (s.reg (canonReg a))
      (s.stored (canonReg a) d v sw cw) := by
  have hn : (if d.rws = 0 then none else refusedBy s (canonReg a)) = none := by
    by_cases h : d.rws = 0
    · rw [if_pos h]
    · rw [if_neg h, hr h]
  unfold writeReg
  simp only [hd, hn]
  rfl

theorem State.race_some {s : State} {a r : Nat} {f : Fld} (h : raceOf s a = some (r, f)) (n : Nat) :
    s.race a n = s.satInc r f n := by simp [State.race, h]

theorem State.race_none {s : State} {a : Nat} (h : raceOf s a = none) (n : Nat) : s.race a n = s := by
  simp [State.race, h]

/-- What holds of a state is kept by counting a race if the race register's count keeps it. -/
theorem State.race_induct {p : State → Prop} {s : State} (a n : Nat) (h : p s)
    (hc : ∀ r f, raceOf s a = some (r, f) → p (s.satInc r f n)) : p (s.race a n) := by
  cases hr : raceOf s a with
  | none => rwa [State.race_none hr]
  | some x => rw [State.race_some hr]; exact hc _ _ hr

/-- What the stored word leaves so, and counting its race too, holds of the state after the write. -/
theorem State.stored_induct {p : State → Prop} {s : State} {b : Nat} {d : RegDesc} {v sw cw : Word}
    (h : p (s.setReg b (storedWord d (s.reg b) v sw))) (hc : ∀ t r f, p t → raceOf s b = some (r, f) →
      p (t.satInc r f (racesMet d v sw cw))) : p (s.stored b d v sw cw) := by
  unfold State.stored State.cond
  split
  · exact State.race_induct b _ h fun r f e => hc _ r f h e
  · exact h

theorem State.stored_mem (s : State) (b : Nat) (d : RegDesc) (v sw cw : Word) :
    (s.stored b d v sw cw).mem = s.mem ∧ (s.stored b d v sw cw).dramEpoch = s.dramEpoch :=
  State.stored_induct (p := fun t => t.mem = s.mem ∧ t.dramEpoch = s.dramEpoch) ⟨rfl, rfl⟩ fun _ _ _ h _ => h

theorem State.stored_inForce (s : State) (b : Nat) (d : RegDesc) (v sw cw : Word) (x : Nat) :
    (s.stored b d v sw cw).inForce x = s.inForce x :=
  State.stored_induct (p := fun t => t.inForce x = s.inForce x) rfl fun _ _ _ h _ => h

theorem State.stored_sameRegs (s : State) (b : Nat) (d : RegDesc) (v sw cw : Word) :
    SameRegs s (s.stored b d v sw cw) (fun x => x = b ∨ ∃ f, raceOf s b = some (x, f)) :=
  State.stored_induct (p := fun t => SameRegs s t _) ((SameRegs.refl s _).setReg (.inl rfl))
    fun _ _ f h e => h.satInc (.inr ⟨f, e⟩)

/-- A register that counts no race of its own holds the stored word. -/
theorem State.stored_reg_self {s : State} {b : Nat} (h : ∀ f, raceOf s b ≠ some (b, f)) (d : RegDesc) (v sw cw : Word) :
    (s.stored b d v sw cw).reg b = storedWord d (s.reg b) v sw :=
  State.stored_induct (p := fun t => t.reg b = storedWord d (s.reg b) v sw) (State.reg_setReg_self ..)
    fun t r f ht e => (t.reg_satInc_ne f _ fun (hb : b = r) => h f (hb ▸ e)).trans ht

/-- One bit of a write: `c` its W1C code, `m` its RW or RW-S code, `x` the bit written, `w` a set that won, `y` the bit
before. -/
theorem storedBit_eq : ∀ c m x w y : Bool, ((y && !m || x && m) && !(x && c && !w)) =
    if c && x && !w then false else if m then x else y := by decide

/-- The bits of the word stored, by access code. -/
theorem storedWord_getLsbD (d : RegDesc) (old v sw : Word) {k : Nat} (hk : k < 32) :
    (storedWord d old v sw).getLsbD k =
      if d.w1c.testBit k && v.getLsbD k && !sw.getLsbD k then false
      else if d.rw.testBit k || d.rws.testBit k then v.getLsbD k else old.getLsbD k := by
  simp only [storedWord, BitVec.getLsbD_and, BitVec.getLsbD_or, BitVec.getLsbD_not, BitVec.getLsbD_ofNat, hk,
    Nat.testBit_or, decide_true, Bool.true_and]
  exact storedBit_eq _ _ _ _ _

theorem racesMet_eq (d : RegDesc) (v sw cw : Word) : racesMet d v sw cw = ((List.range 32).filter
    (fun k => (sw.getLsbD k || cw.getLsbD k) && v.getLsbD k && d.w1c.testBit k)).length := by
  unfold racesMet popCount
  congr 1
  refine List.filter_congr fun k hk => ?_
  simp only [BitVec.getLsbD_and, BitVec.getLsbD_or, BitVec.getLsbD_ofNat, List.mem_range.mp hk, decide_true, Bool.true_and]

/-! #### The count of a race -/

theorem Word.get_lt (w : Word) (f : Fld) : w.get f < 2 ^ f.width := Nat.mod_lt _ (by positivity)

theorem satAdd_zero {w x : Nat} (h : x < 2 ^ w) : satAdd (2 ^ w - 1) x 0 = x := by unfold satAdd; omega

theorem State.fld_satInc_self (s : State) (a : Nat) (f : Fld) (n : Nat) (h : f.lo + f.width ≤ 32) :
    (s.satInc a f n).fld a f = satAdd (2 ^ f.width - 1) (s.fld a f) n := by
  have hp : 0 < 2 ^ f.width := by positivity
  have hlt : satAdd (2 ^ f.width - 1) (s.fld a f) n < 2 ^ f.width := by unfold satAdd; omega
  rw [State.satInc, State.fld_setFld_self _ _ _ _ h, Nat.mod_eq_of_lt hlt]

/-- A race count, where there is one, is a field inside its register. -/
def CountFits (o : Option (Nat × Fld)) : Prop := ∀ r f, o = some (r, f) → f.lo + f.width ≤ 32

theorem CountFits.ite {c : Prop} [Decidable c] {x y : Option (Nat × Fld)} (h : CountFits x) (k : CountFits y) :
    CountFits (if c then x else y) := by split <;> assumption

theorem CountFits.some {r : Nat} {f : Fld} (h : f.lo + f.width ≤ 32) : CountFits (some (r, f)) := by
  intro _ _ e
  cases e
  exact h

/-- Every race count is a field of 16 bits or CMP_STATUS's (R13). -/
theorem raceOf_fits (s : State) (a : Nat) : CountFits (raceOf s a) := by
  unfold raceOf
  dsimp only
  repeat' apply CountFits.ite
  any_goals exact CountFits.some (by decide)
  exact nofun

/-- The race register of the register written counts each loser once (R13). -/
theorem State.stored_fld_race {s : State} {b x : Nat} {f : Fld} (h : raceOf s b = some (x, f)) (hx : x ≠ b)
    (d : RegDesc) (v sw cw : Word) : (s.stored b d v sw cw).fld x f =
      satAdd (2 ^ f.width - 1) (s.fld x f) (racesMet d v sw cw) := by
  have hset : (s.setReg b (storedWord d (s.reg b) v sw)).fld x f = s.fld x f := by
    unfold State.fld
    rw [State.reg_setReg_ne _ _ hx]
  unfold State.stored
  by_cases hm : 0 < racesMet d v sw cw
  · have hr : raceOf (s.setReg b (storedWord d (s.reg b) v sw)) b = some (x, f) := h
    rw [decide_eq_true hm, State.cond_true, State.race_some hr, State.fld_satInc_self _ _ _ _ (raceOf_fits s b _ _ h), hset]
  · rw [decide_eq_false hm, State.cond_false, hset, Nat.eq_zero_of_not_pos hm]
    exact (satAdd_zero (Word.get_lt _ f)).symm

/-! #### Registers whose write starts nothing -/

/-- The block of a register's address, and its offset there (R33). -/
def blockOf (a : Nat) : Nat := (a - 0x5000000000) / 0x100000

/-- The registers of `RegisterAccess` whose write starts nothing beside the bits that it stores: by block, what is left when
the CTRL and command registers are out; those of an imaging port while no run is active. -/
def StartsNothing (s : State) (a : Nat) : Prop :=
  0x5000000000 ≤ a ∧ a < 0x5008000000 ∧ (blockOf a ∈ [0, 1, 5] ∨
    (blockOf a = 6 ∧ (a % 0x100000 < 0x100 ∨ (0x100 ≤ a % 0x100000 ∧ a % 0x100000 < 0x2000 ∧ a % 0x100000 % 32 ≠ 0) ∨
      0x2080 ≤ a % 0x100000)) ∨
    (blockOf a = 8 ∧ a % 0x100000 % 32 ≠ 4) ∨
    (blockOf a = 9 ∧ a % 0x100000 < 0x1000 ∧ a % 0x100000 % 512 ≠ 0 ∧ a % 0x100000 % 512 ≠ 4) ∨
    (blockOf a = 0xB ∧ 0x4000 ≤ a % 0x100000) ∨ (blockOf a = 0x29 ∧ a % 0x100000 < 0x1000) ∨
    (0x10 ≤ blockOf a ∧ blockOf a < 0x1A ∧ s.runActive = false ∧
      a % 0x100000 ∉ [0, 4, 0x10, 0x18, 0x20, 0x1000, 0x1008]))

theorem StartsNothing.mem_quietBlocks {s : State} {a : Nat} (h : StartsNothing s a) : blockOf a ∈ quietBlocks := by
  obtain ⟨-, -, h⟩ := h
  generalize blockOf a = b at h
  have hb : b ∈ [0, 1, 5] ∨ b = 6 ∨ b = 8 ∨ b = 9 ∨ b = 0xB ∨ b = 0x29 ∨ 0x10 ≤ b ∧ b < 0x1A := by tauto
  simp only [List.mem_cons, List.not_mem_nil, or_false] at hb
  simp only [quietBlocks, List.mem_append, List.mem_cons, List.not_mem_nil, or_false, List.mem_map, List.mem_range]
  by_cases hi : 0x10 ≤ b ∧ b < 0x1A
  · exact .inr ⟨b - 0x10, by omega, by omega⟩
  · exact .inl (by omega)

theorem posWritten_quiet {o : Nat} (h : o % 32 ≠ 4) (v : Word) (s : State) : posWritten o v s = s := by
  unfold posWritten
  have h1 : o % 0x100 ≠ 4 := by omega
  simp [h1, h]

theorem motWritten_quiet {o : Nat} (h : o < 0x1000) (h0 : o % 512 ≠ 0) (h4 : o % 512 ≠ 4) (a : Nat) (v old : Word)
    (s : State) : motWritten a o v old s = s := by
  unfold motWritten
  have h1 : ¬ 0x10000 ≤ o := by omega
  simp [h1, h, h0, h4]

theorem lampWritten_quiet {o : Nat} (h : 0x4000 ≤ o) (a : Nat) (v old : Word) (s : State) :
    lampWritten a o v old s = s := by simp [lampWritten, h]

theorem dmaWritten_quiet {o : Nat} (h : o < 0x1000) (a : Nat) (v old : Word) (s : State) :
    dmaWritten a o v old s = s := by simp [dmaWritten, h]

theorem tmrWritten_quiet {o : Nat} (h : o < 0x100 ∨ (0x100 ≤ o ∧ o < 0x2000 ∧ o % 32 ≠ 0) ∨ 0x2080 ≤ o) (a : Nat)
    (v old : Word) (s : State) : tmrWritten a o v old s = s := by
  unfold tmrWritten
  split
  · next hr => exact if_neg (by omega)
  · exact if_neg (by omega)

theorem imgWritten_quiet {o : Nat} (h : o ∉ [0, 4, 0x10, 0x18, 0x20, 0x1000, 0x1008]) {s : State}
    (hr : s.runActive = false) (n a : Nat) (v old : Word) : imgWritten n a o v old s = s := by
  simp only [List.mem_cons, List.not_mem_nil, or_false, not_or] at h
  obtain ⟨h0, h4, h10, h18, h20, h1000, h1008⟩ := h
  simp [imgWritten, hr, h0, h4, h10, h18, h20, h1000, h1008]

theorem regionOf_registers {a : Nat} (l : 0x5000000000 ≤ a) (u : a < 0x5008000000) :
    regionOf a = .block (blockOf a) ∨ regionOf a = .hole := by
  unfold regionOf
  rw [if_neg (by omega), if_neg (by omega), if_neg (by omega), if_neg (by omega), if_neg (by omega), if_pos ⟨l, u⟩]
  cases regsOfBlock ((a - 0x5000000000) / 0x100000) with
  | none => exact .inr rfl
  | some l => exact .inl rfl

/-- A write of such a register starts nothing, in whatever state its stored bits leave. -/
theorem afterWrite_quiet {s t : State} {a : Nat} (h : StartsNothing s a)
    (hr : 0x10 ≤ blockOf a → blockOf a < 0x1A → t.runActive = s.runActive) (q : Requester) (v old : Word) :
    afterWrite q a v old t = t := by
  obtain ⟨l, u, h⟩ := h
  unfold afterWrite
  rcases regionOf_registers l u with e | e
  · rw [e]
    generalize blockOf a = b at h hr
    simp only
    rcases h with h | ⟨rfl, h⟩ | ⟨rfl, h⟩ | ⟨rfl, h, h0, h4⟩ | ⟨rfl, h⟩ | ⟨rfl, h⟩ | ⟨lo, hi, run, h⟩
    · simp only [List.mem_cons, List.not_mem_nil, or_false] at h
      rcases h with rfl | rfl | rfl <;> rfl
    · exact tmrWritten_quiet h ..
    · exact posWritten_quiet h ..
    · exact motWritten_quiet h h0 h4 ..
    · exact lampWritten_quiet h ..
    · exact dmaWritten_quiet h ..
    · rw [if_neg (by omega), if_neg (by omega), if_neg (by omega), if_neg (by omega), if_pos ⟨lo, hi⟩]
      exact imgWritten_quiet h ((hr lo hi).trans run) ..
  · rw [e]

/-- In an imaging port's block a write leaves SYS_STATE, whatever race it meets. -/
theorem State.stored_runActive {s : State} {b : Nat} (u : b < 0x5008000000) (lo : 0x10 ≤ blockOf b)
    (hi : blockOf b < 0x1A) (d : RegDesc) (v sw cw : Word) : (s.stored b d v sw cw).runActive = s.runActive := by
  unfold blockOf at lo hi
  have hr : raceOf s b = some (R.IMG_RACE ((b - 0x5001000000) / 0x100000), ⟨0, 16⟩) := by
    unfold raceOf
    rw [if_neg (by omega), if_neg (by omega), if_neg (by omega), if_pos (by omega)]
  have hn : ¬ (R.SYS_STATE = b ∨ ∃ f, raceOf s b = some (R.SYS_STATE, f)) := by
    rintro (h | ⟨f, h⟩)
    · simp only [R.SYS_STATE] at h
      omega
    · rw [hr] at h
      have e := congrArg Prod.fst (Option.some.inj h)
      simp only [R.SYS_STATE, R.IMG_RACE] at e
      omega
  unfold State.runActive State.bit State.fld
  rw [(State.stored_sameRegs s b d v sw cw _ hn).1]

/-- A register with shadow bits among these belongs to a commit unit (R10, R526). -/
theorem StartsNothing.shadow {s : State} {b : Nat} {d : RegDesc} (h : StartsNothing s b) (hb : b < winBase)
    (hd : descOf b = some d) (hs : d.rws ≠ 0) : ∃ u ∈ commitUnits, b ∈ u.regs := by
  obtain ⟨-, -, l, hl, hm, p, hp, e⟩ := descOf_some hb hd
  have hc := mem_shadowsOfBlock _ h.mem_quietBlocks d (by rw [blockOf, hl]; exact hm) hs p hp
  rw [blockOf, ← e, List.contains_iff_mem] at hc
  obtain ⟨u, hu, hbu⟩ := List.mem_flatMap.mp hc
  exact ⟨u, (List.mem_filter.mp hu).1, hbu⟩

theorem exec_registerWrite_stored {q : Requester} {a : Fin 562949953421312} {s : State} {d : RegDesc} (hq : q ≠ .host)
    (hw : s.working = true) (ha : a.val < winBase) (h : StartsNothing s (canonReg a.val))
    (hd : descOf (canonReg a.val) = some d)
    (hu : ∀ u, u ∈ commitUnits → canonReg a.val ∈ u.regs → u.waits s = false) (v sw cw : BitVec 32) :
    exec (.registerWrite q a v sw cw) s = .next (s.stored (canonReg a.val) d v sw cw) := by
  have hb : canonReg a.val < winBase := h.2.1.trans (by decide)
  have hr : d.rws ≠ 0 → refusedBy s (canonReg a.val) = none := fun hs => by
    obtain ⟨u, hm, hbu⟩ := h.shadow hb hd hs
    exact refusedBy_of_not_waits hm hbu (hu u hm hbu)
  rw [exec_registerWrite_working hq ha hw, writeReg_stored hd hr,
    afterWrite_quiet h fun lo hi => State.stored_runActive h.2.1 lo hi d v sw cw]

/-! ### Reads of register pairs (R117) -/

theorem exec_pairLoRead_inside {q : Requester} (hq : q ≠ .host) (x : ReadSpan) (s : State) :
    exec (.pairLoRead q x) s = .next (if winBase ≤ x.addr.val then s
      else s.whenWorking (fun s => (readRegs q x.addr.val (x.len / 4) s).2)) := by
  cases q with
  | host => exact absurd rfl hq
  | frond f => rfl
  | dma => rfl
  | root => rfl

theorem exec_pairLoRead_nothing {q : Requester} {x : ReadSpan} {s : State} (hq : q ≠ .host)
    (h : winBase ≤ x.addr.val ∨ s.working = false) : exec (.pairLoRead q x) s = .next s := by
  rw [exec_pairLoRead_inside hq]
  by_cases ha : winBase ≤ x.addr.val
  · rw [if_pos ha]
  · rw [if_neg ha, State.whenWorking_false (h.resolve_left ha)]

theorem readRegs_word (q : Requester) (a : Nat) (s : State) : (readRegs q a (4 / 4) s).2 = (readReg q a s).2 := rfl

/-- A read of one word leaves the state that `readReg` answers. -/
theorem exec_pairLoRead_word {q : Requester} {a : Fin 562949953421312} {s : State} (hq : q ≠ .host)
    (ha : a.val < winBase) (hw : s.working = true) :
    exec (.pairLoRead q ⟨a, 4⟩) s = .next (readReg q a.val s).2 := by
  rw [exec_pairLoRead_inside hq, if_neg (Nat.not_le.mpr ha), State.whenWorking_true hw, readRegs_word]

/-- A read that captures nothing leaves the state: of no low half, or by a requester without snapshots. -/
theorem readReg_state {q : Requester} {a : Nat} (h : isPairLow (canonReg a) = false ∨ q = .root) (s : State) :
    (readReg q a s).2 = s := by
  unfold readReg
  by_cases hl : isPairLow (canonReg a) = true
  · obtain rfl : q = .root := h.resolve_left (by simp [hl])
    simp [hl, snapKey]
  · simp only [if_neg hl]
    split
    · split <;> rfl
    · rfl

theorem exec_pairLoRead_word_nothing {q : Requester} {a : Fin 562949953421312} {s : State} (hq : q ≠ .host)
    (h : isPairLow (canonReg a.val) = false ∨ q = .root) : exec (.pairLoRead q ⟨a, 4⟩) s = .next s := by
  by_cases hn : winBase ≤ a.val ∨ s.working = false
  · exact exec_pairLoRead_nothing hq hn
  · rw [not_or] at hn
    rw [exec_pairLoRead_word hq (Nat.lt_of_not_le hn.1) (by simpa using hn.2), readReg_state h]

/-! #### The places of the pairs -/

theorem isPairLow_mem {a : Nat} (h : isPairLow a = true) :
    ∃ e ∈ pairLows, ∃ p ∈ RegDesc.places e.2, a = e.1 + p := by
  obtain ⟨e, he, h⟩ := List.any_eq_true.mp h
  simp only [Bool.and_eq_true, decide_eq_true_eq] at h
  exact ⟨e, he, _, RegDesc.mem_places_of_hits h.2, by omega⟩

/-- How far a register's places lie apart, but for the strides that a modulus divides. -/
def RegDesc.spanMod (m : Nat) : List (Nat × Nat) → Nat
  | [] => 0
  | (st, n) :: r => (if m ∣ st then 0 else (n - 1) * st) + RegDesc.spanMod m r

theorem RegDesc.places_modEq (m : Nat) {l : List (Nat × Nat)} {p : Nat} (h : p ∈ RegDesc.places l) :
    ∃ q ≤ RegDesc.spanMod m l, p ≡ q [MOD m] := by
  induction l generalizing p with
  | nil => exact ⟨p, by simpa [RegDesc.places, RegDesc.spanMod] using h, rfl⟩
  | cons e r ih =>
    obtain ⟨st, n⟩ := e
    obtain ⟨i, hi, h⟩ := List.mem_flatMap.mp h
    obtain ⟨p', hp', rfl⟩ := List.mem_map.mp h
    obtain ⟨q, hq, hm⟩ := ih hp'
    unfold RegDesc.spanMod
    split
    · next hd =>
      refine ⟨q, by omega, ?_⟩
      simpa using (Nat.modEq_zero_iff_dvd.mpr (Dvd.dvd.mul_left hd i)).add hm
    · have hs : i * st ≤ (n - 1) * st := Nat.mul_le_mul_right st (by have := List.mem_range.mp hi; omega)
      exact ⟨i * st + q, by omega, hm.add_left _⟩

/-- Modulo `m`, the word above each low half that one entry names lies clear of the low halves that another names. -/
def ApartMod (e e' : Nat × List (Nat × Nat)) (m : Nat) : Prop :=
  let r := (e.1 + 4) % m + RegDesc.spanMod m e.2
  let r' := e'.1 % m + RegDesc.spanMod m e'.2
  (m = 0 ∨ r < m ∧ r' < m) ∧ (r < e'.1 % m ∨ r' < (e.1 + 4) % m)

theorem ApartMod.ne {e e' : Nat × List (Nat × Nat)} {m p p' : Nat} (h : ApartMod e e' m)
    (hp : p ∈ RegDesc.places e.2) (hp' : p' ∈ RegDesc.places e'.2) : e.1 + p + 4 ≠ e'.1 + p' := by
  intro heq
  obtain ⟨hm, hd⟩ := h
  obtain ⟨q, hq, hpq⟩ := RegDesc.places_modEq m hp
  obtain ⟨q', hq', hpq'⟩ := RegDesc.places_modEq m hp'
  have hmod : (e.1 + 4) % m + q ≡ e'.1 % m + q' [MOD m] := calc
    (e.1 + 4) % m + q ≡ (e.1 + 4) + p [MOD m] := (Nat.mod_modEq _ _).add hpq.symm
    _ = e'.1 + p' := by omega
    _ ≡ e'.1 % m + q' [MOD m] := (Nat.mod_modEq _ _).symm.add hpq'
  have : (e.1 + 4) % m + q = e'.1 % m + q' := by
    rcases hm with rfl | ⟨hr, hr'⟩
    · simpa [Nat.ModEq] using hmod
    · exact hmod.eq_of_lt_of_lt (by omega) (by omega)
  omega

/-- No entry's low halves are where another's high halves are: apart as whole ranges, or modulo a stride. -/
theorem pairLows_apart : ∀ e ∈ pairLows, ∀ e' ∈ pairLows, ∃ m ∈ [0, 8, 32, 64, 512, 0x100000], ApartMod e e' m := by
  unfold ApartMod
  decide +kernel

/-- The high half of a pair is no low half. -/
theorem isPairLow_high {a : Nat} (h : isPairLow a = true) : isPairLow (a + 4) = false := by
  obtain ⟨e, he, p, hp, rfl⟩ := isPairLow_mem h
  by_contra hl
  obtain ⟨e', he', p', hp', heq⟩ := isPairLow_mem (Bool.of_not_eq_false hl)
  obtain ⟨m, -, hm⟩ := pairLows_apart e he e' he'
  exact hm.ne hp hp' heq

theorem pairLows_canonReg : ∀ e ∈ pairLows, ∀ p ∈ RegDesc.places e.2,
    e.1 + p + 4 < winBase ∧ canonReg (e.1 + p + 4) = e.1 + p + 4 := by decide +kernel

/-- The high half of a pair is a register block's, in its one home. -/
theorem canonReg_high {a : Nat} (h : isPairLow a = true) : a + 4 < winBase ∧ canonReg (a + 4) = a + 4 := by
  obtain ⟨e, he, p, hp, rfl⟩ := isPairLow_mem h
  exact pairLows_canonReg e he p hp

theorem canonReg_lt {a : Nat} (h : a < winBase) : canonReg a < winBase := by
  unfold canonReg
  simp only [winBase] at h ⊢
  repeat' split
  all_goals omega

/-! #### Snapshots -/

/-- Each requester that has snapshots has a key of its own for each register. -/
theorem snapKey_inj {q r : Requester} {a b k : Nat} (ha : a < winBase) (hb : b < winBase) (hq : snapKey q a = some k)
    (hr : snapKey r b = some k) : q = r := by
  simp only [winBase] at ha hb
  cases q with
  | host => cases hq
  | root => cases hq
  | frond f =>
    cases r with
    | host => cases hr
    | root => cases hr
    | frond g =>
      cases hq
      simp only [snapKey, Option.some.injEq] at hr
      exact congrArg _ (Fin.ext (by omega))
    | dma =>
      cases hq
      simp only [snapKey, Option.some.injEq] at hr
      omega
  | dma =>
    cases r with
    | host => cases hr
    | root => cases hr
    | frond g =>
      cases hq
      simp only [snapKey, Option.some.injEq] at hr
      omega
    | dma => rfl

theorem State.shown_snap (s : State) (a : Nat) (x : List (Nat × Word)) : { s with snap := x }.shown a = s.shown a := rfl

/-- The state after a requester has captured a word under a key. -/
def State.capture (s : State) (k : Nat) (w : Word) : State := { s with snap := Sparse.put (fun _ => none) s.snap k w }

theorem readReg_low {q : Requester} {a k : Nat} (hl : isPairLow (canonReg a) = true)
    (hk : snapKey q (canonReg a + 4) = some k) (s : State) :
    readReg q a s = (s.shown (canonReg a), s.capture k (s.shown (canonReg a + 4))) := by
  unfold readReg
  simp only [hl, hk]
  rfl

theorem readReg_high {q : Requester} {a k : Nat} (hl : isPairLow a = true) (hk : snapKey q (a + 4) = some k) {u : State}
    {w : Word} (hs : Sparse.find u.snap k = some w) : readReg q (a + 4) u = (w, u) := by
  unfold readReg
  simp [(canonReg_high hl).2, isPairLow_high hl, hl, hk, hs]

/-- What a requester reads depends on the captures under its own keys alone. -/
theorem readReg_word_congr {r : Requester} {x k : Nat} (h : snapKey r (canonReg x) ≠ some k) (s : State) (w : Word) :
    (readReg r x (s.capture k w)).1 = (readReg r x s).1 := by
  have hs : ∀ a, (s.capture k w).shown a = s.shown a := fun a => s.shown_snap a _
  unfold readReg
  by_cases hl : isPairLow (canonReg x) = true
  · simp only [hl, hs]
    cases snapKey r (canonReg x + 4) <;> rfl
  · simp only [if_neg hl, hs]
    split
    · cases hk : snapKey r (canonReg x) with
      | none => rfl
      | some j =>
        have hj : j ≠ k := fun e => h (by rw [hk, e])
        simp [State.capture, Sparse.find_put_ne _ _ _ hj]
    · rfl

/-- A requester with snapshots reads a low half: it captures the high half, which it then reads whatever becomes of the
register, and no other requester reads otherwise than before. -/
theorem exec_pairLoRead_captures {q : Requester} {a : Fin 562949953421312} {s : State}
    (hq : q = .dma ∨ ∃ f, q = .frond f) (hw : s.working = true) (ha : a.val < winBase)
    (hl : isPairLow (canonReg a.val) = true) : Completes (.pairLoRead q ⟨a, 4⟩) s fun t =>
      { t with snap := s.snap } = s ∧ readReg q a.val s = (s.shown (canonReg a.val), t) ∧
      (∀ u : State, u.snap = t.snap → readReg q (canonReg a.val + 4) u = (s.shown (canonReg a.val + 4), u)) ∧
      ∀ (r : Requester) (x : Nat), r ≠ q → x < winBase → (readReg r x t).1 = (readReg r x s).1 := by
  obtain ⟨k, hk⟩ : ∃ k, snapKey q (canonReg a.val + 4) = some k := by
    rcases hq with rfl | ⟨f, rfl⟩ <;> exact ⟨_, rfl⟩
  have hn : q ≠ .host := by rcases hq with rfl | ⟨f, rfl⟩ <;> exact nofun
  have hread := readReg_low hl hk s
  refine ⟨s.capture k (s.shown (canonReg a.val + 4)), ?_, rfl, hread, fun u hu => ?_, fun r x hr hx => ?_⟩
  · rw [exec_pairLoRead_word hn ha hw, hread]
  · refine readReg_high hl hk ?_
    rw [hu, State.capture, Sparse.find_put_self, if_neg (by simp)]
  · exact readReg_word_congr (fun e => hr (snapKey_inj (canonReg_lt hx) (canonReg_high hl).1 e hk)) s _

/-! ### The host's windows (R460 to R462) -/

/-! #### The bytes of a span of words -/

theorem bytesLE_length (n v : Nat) : (bytesLE n v).length = n := by
  induction n generalizing v with
  | zero => rfl
  | succ n ih => simp [bytesLE, ih]

theorem bytesLE_getD {n j : Nat} (h : j < n) (v : Nat) : (bytesLE n v).getD j 0 = BitVec.ofNat 8 (v / 2 ^ (8 * j)) := by
  induction n generalizing v j with
  | zero => omega
  | succ n ih =>
    cases j with
    | zero => simp [bytesLE]
    | succ j =>
      have e : 2 ^ (8 * (j + 1)) = 256 * 2 ^ (8 * j) := by rw [Nat.mul_succ, pow_add]; ring
      rw [bytesLE, List.getD_cons_succ, ih (by omega), Nat.div_div_eq_div_mul, e]

section
variable {α : Type} {f : Nat → List α} {m : Nat}

theorem length_flatMap_range (hf : ∀ i, (f i).length = m) (n : Nat) :
    ((List.range n).flatMap f).length = n * m := by simp [List.length_flatMap, hf]

/-- In pieces of one length, the element at `m i + j` is element `j` of piece `i`. -/
theorem getD_flatMap_range (hf : ∀ i, (f i).length = m) (d : α) {n i j : Nat} (hi : i < n) (hj : j < m) :
    ((List.range n).flatMap f).getD (m * i + j) d = (f i).getD j d := by
  induction n with
  | zero => omega
  | succ n ih =>
    rw [List.range_succ, List.flatMap_append, List.flatMap_singleton]
    have hl := length_flatMap_range hf n
    by_cases h : i < n
    · have hm : m * (i + 1) ≤ n * m := Nat.mul_comm n m ▸ Nat.mul_le_mul_left m h
      have hlt : m * i + j < n * m := by rw [Nat.mul_succ] at hm; omega
      rw [List.getD_append _ _ _ _ (by omega), ih h]
    · obtain rfl : i = n := by omega
      rw [List.getD_append_right _ _ _ _ (by rw [hl, Nat.mul_comm]; omega), hl, Nat.mul_comm i m, Nat.add_sub_cancel_left]
end

/-- The bytes that the host reads from an offset of its window on: of each the DWORD's that holds it (R461). -/
def windowBytes (o len : Nat) (s : State) : List Byte :=
  slice (o % 4) len ((List.range ((o + len + 3) / 4 - o / 4)).flatMap
    (fun i => bytesLE 4 (windowRead (4 * (o / 4 + i)) s).toNat))

theorem windowBytes_length (o len : Nat) (s : State) : (windowBytes o len s).length = len := by
  rw [windowBytes, slice, List.length_take, List.length_drop, length_flatMap_range (fun _ => bytesLE_length 4 _)]
  omega

theorem windowBytes_getD {o len i : Nat} (h : i < len) (s : State) : (windowBytes o len s).getD i 0 =
    BitVec.ofNat 8 ((windowRead (4 * ((o + i) / 4)) s).toNat / 2 ^ (8 * ((o + i) % 4))) := by
  have hi : o % 4 + i = 4 * ((o + i) / 4 - o / 4) + (o + i) % 4 := by omega
  rw [windowBytes, slice, List.getD_eq_getElem?_getD, List.getElem?_take_of_lt h, List.getElem?_drop,
    ← List.getD_eq_getElem?_getD, hi, getD_flatMap_range (fun _ => bytesLE_length 4 _) 0 (by omega) (by omega),
    bytesLE_getD (by omega), Nat.add_sub_cancel' (by omega)]

/-- A host read of the peat log without permission touches one of its words. -/
def DeniedRead (s : State) (o len : Nat) : Prop := s.serving = true ∧ peatOpen s = false ∧
  ∃ k, o / 4 ≤ k ∧ k < (o + len + 3) / 4 ∧ 0x10000 ≤ k ∧ k < 0x18000

/-- Whether one of the words that a read touches is denied to the host. -/
def touchesDenied (o len : Nat) (s : State) : Bool :=
  (List.range ((o + len + 3) / 4 - o / 4)).any (fun i => windowDenies (4 * (o / 4 + i)) s)

theorem windowSpan_eq (o len : Nat) (s : State) : windowSpan o len s =
    (s.cond (touchesDenied o len s) countDenied).emit (.windowRead (windowBytes o len s)) := rfl

theorem touchesDenied_iff (s : State) (o len : Nat) : touchesDenied o len s = true ↔ DeniedRead s o len := by
  unfold touchesDenied
  unfold DeniedRead
  simp only [List.any_eq_true, List.mem_range, windowDenies, Bool.and_eq_true, decide_eq_true_eq, Bool.not_eq_true']
  constructor
  · rintro ⟨i, hi, ⟨hp, hs⟩, ho⟩
    exact ⟨hs, ho, o / 4 + i, by omega, by omega, by omega, by omega⟩
  · rintro ⟨hs, ho, k, hl, hu, hp⟩
    exact ⟨k - o / 4, by omega, ⟨by omega, hs⟩, ho⟩

theorem exec_hostRead_unreached {x : ReadSpan} {s : State} (h : x.addr.val < winBase ∨ hostReaches s = false) :
    exec (.pairLoRead .host x) s = .next s := by
  have hn : ¬ (winBase ≤ x.addr.val ∧ hostReaches s = true) := by
    rintro ⟨hw, hr⟩
    rcases h with h | h
    · omega
    · simp [h] at hr
  exact congrArg _ (if_neg hn)

theorem exec_hostRead {x : ReadSpan} {s : State} (ha : winBase ≤ x.addr.val) (hr : hostReaches s = true) :
    exec (.pairLoRead .host x) s = .next (windowSpan (x.addr.val - winBase) x.len s) :=
  congrArg _ (if_pos ⟨ha, hr⟩)

theorem windowSpan_answered {s : State} {o len : Nat} (h : ¬ DeniedRead s o len) :
    windowSpan o len s = s.emit (.windowRead (windowBytes o len s)) := by
  rw [← touchesDenied_iff, Bool.not_eq_true] at h
  rw [windowSpan_eq, h, State.cond_false]

theorem windowSpan_denied {s : State} {o len : Nat} (h : DeniedRead s o len) :
    windowSpan o len s = (countDenied s).emit (.windowRead (windowBytes o len s)) := by
  rw [← touchesDenied_iff] at h
  rw [windowSpan_eq, h, State.cond_true]

/-! #### A denied read is counted -/

theorem State.mem_evPend_raise {s : State} {e : Nat} (hl : 192 ≤ e) (hu : e < 1024) (h : s.reg (R.EVT_ROUTE e) ≠ 0) :
    e ∈ (s.raise e).evPend := by
  have hr : ¬ ((188 ≤ e ∧ e ≤ 191) ∨ 1024 ≤ e ∨ s.reg (R.EVT_ROUTE e) = 0) := by
    rintro (⟨-, hv⟩ | hv | hv)
    · omega
    · omega
    · exact h hv
  unfold State.raise
  rw [if_neg hr]
  split
  · next hm => rwa [State.setFld_evPend, State.satInc_evPend]
  · exact NatSet.mem_insert.mpr (.inl rfl)

theorem countDenied_mem (s : State) : (countDenied s).mem = s.mem := by
  rw [countDenied, State.raise_mem, State.satInc_mem]

theorem countDenied_dramEpoch (s : State) : (countDenied s).dramEpoch = s.dramEpoch := by
  rw [countDenied, State.raise_dramEpoch, State.satInc_dramEpoch]

theorem countDenied_out (s : State) : (countDenied s).out = s.out := by
  rw [countDenied, State.raise_out, State.satInc_out]

/-- The denied read reaches the event unit. -/
theorem countDenied_evPend {s : State} (h : s.reg (R.EVT_ROUTE 451) ≠ 0) : 451 ∈ (countDenied s).evPend :=
  State.mem_evPend_raise (by decide) (by decide) (by rwa [State.reg_satInc_ne _ _ _ (by decide)])

theorem countDenied_reg (s : State) : (countDenied s).reg R.REQ_STATUS =
    (s.satInc R.REQ_STATUS F.REQ_STATUS_DENIED).reg R.REQ_STATUS :=
  State.reg_raise _ _ (by decide)

theorem countDenied_denied (s : State) : (countDenied s).fld R.REQ_STATUS F.REQ_STATUS_DENIED =
    satAdd (2 ^ F.REQ_STATUS_DENIED.width - 1) (s.fld R.REQ_STATUS F.REQ_STATUS_DENIED) 1 := by
  rw [State.fld, countDenied_reg]
  exact State.fld_satInc_self s _ _ 1 (by decide)

theorem countDenied_fld_apart {s : State} {g : Fld} (h : g.lo + g.width ≤ 16) :
    (countDenied s).fld R.REQ_STATUS g = s.fld R.REQ_STATUS g := by
  rw [State.fld, countDenied_reg]
  exact State.fld_setFld_apart s _ _ g _ (by decide) (.inl h)

/-! #### What the window's pages answer, and where they are not served -/

theorem windowRead_peat_closed {o : Nat} {s : State} (h : 0x40000 ≤ o ∧ o < 0x60000)
    (hc : s.serving = false ∨ peatOpen s = false) : windowRead o s = 0 := by
  have hs : (s.serving && peatOpen s) = false := by rcases hc with h | h <;> simp [h]
  unfold windowRead
  rw [if_neg (by omega), if_neg (by omega), if_neg (by omega), if_neg (by omega), if_pos h, hs]
  rfl

theorem windowRead_boot {o : Nat} {s : State} (h : o < 0x10000) (hm : s.mode = .boot) :
    windowRead o s = if o = 4 then s.reg R.SYS_STATE else 0 := by
  unfold windowRead
  rw [if_neg (by omega), if_pos h, if_pos hm]

theorem windowRead_not_working {o : Nat} {s : State} (h : 0x10000 ≤ o ∧ o < 0x20000 ∨ 0x30000 ≤ o ∧ o < 0x40000)
    (hw : s.working = false) : windowRead o s = 0 := by
  unfold windowRead
  rw [if_neg (by omega), if_neg (by omega), hw]
  rcases h with h | h
  · rw [if_pos h.2]
    rfl
  · rw [if_neg (by omega), if_pos h]
    rfl

theorem windowRead_not_serving {o : Nat} {s : State} (h : 0x20000 ≤ o ∧ o < 0x30000 ∨ 0x200000 ≤ o)
    (hs : s.serving = false) : windowRead o s = 0 := by
  unfold windowRead
  rw [if_neg (by omega), if_neg (by omega), if_neg (by omega), if_neg (by omega), if_neg (by omega), hs]
  rfl

/-! #### The host's writes -/

theorem exec_hostWrite {a : Fin 562949953421312} {s : State} (ha : winBase ≤ a.val) (v sw cw : BitVec 32) :
    exec (.registerWrite .host a v sw cw) s = .next (windowWrite (a.val - winBase) v sw cw s) :=
  congrArg _ (if_pos ha)

theorem exec_hostWrite_below {a : Fin 562949953421312} {s : State} (ha : a.val < winBase) (v sw cw : BitVec 32) :
    exec (.registerWrite .host a v sw cw) s = .next s := congrArg _ (if_neg (Nat.not_le.mpr ha))

theorem windowWrite_unreached {o : Nat} {s : State} (h : hostReaches s = false) (v sw cw : Word) :
    windowWrite o v sw cw s = s := by simp [windowWrite, h]

theorem windowWrite_unaligned {o : Nat} {s : State} (hr : hostReaches s = true) (h : o % 4 ≠ 0) (v sw cw : Word) :
    windowWrite o v sw cw s = if pageServed o s = true then badWrite s else s := by
  simp [windowWrite, hr, h, State.cond]

theorem pageServed_iff (o : Nat) (s : State) : pageServed o s = true ↔
    (o < 0x10000 ∨ 0x100000 ≤ o ∧ o < 0x109000) ∧ s.mode ≠ .off ∨
      (0x10000 ≤ o ∧ o < 0x20000 ∨ 0x30000 ≤ o ∧ o < 0x40000) ∧ s.working ∨
      (0x20000 ≤ o ∧ o < 0x30000 ∨ 0x40000 ≤ o ∧ o < 0x100000 ∨ 0x109000 ≤ o) ∧ s.serving := by
  unfold pageServed
  by_cases hb : 0x100000 ≤ o ∧ o < 0x109000 ∨ o < 0x10000
  · have h1 : ¬ (0x10000 ≤ o ∧ o < 0x20000 ∨ 0x30000 ≤ o ∧ o < 0x40000) := by omega
    have h2 : ¬ (0x20000 ≤ o ∧ o < 0x30000 ∨ 0x40000 ≤ o ∧ o < 0x100000 ∨ 0x109000 ≤ o) := by omega
    rw [if_pos hb]
    simp [hb.symm, h1, h2]
  · rw [if_neg hb]
    by_cases hk : 0x10000 ≤ o ∧ o < 0x20000 ∨ 0x30000 ≤ o ∧ o < 0x40000
    · have h0 : ¬ (o < 0x10000 ∨ 0x100000 ≤ o ∧ o < 0x109000) := by omega
      have h2 : ¬ (0x20000 ≤ o ∧ o < 0x30000 ∨ 0x40000 ≤ o ∧ o < 0x100000 ∨ 0x109000 ≤ o) := by omega
      rw [if_pos (by omega)]
      simp [h0, hk, h2]
    · have h0 : ¬ (o < 0x10000 ∨ 0x100000 ≤ o ∧ o < 0x109000) := by omega
      have h2 : 0x20000 ≤ o ∧ o < 0x30000 ∨ 0x40000 ≤ o ∧ o < 0x100000 ∨ 0x109000 ≤ o := by omega
      rw [if_neg (by omega)]
      simp [h0, hk, h2]

/-- The aligned offsets of the control window at which a write takes nothing: none to write, or their page not served. -/
def WriteDiscarded (s : State) (o : Nat) : Prop :=
  (o < 0x10000 ∧ o ≠ 0x18) ∨
    ((0x10000 ≤ o ∧ o < 0x20000 ∨ 0x30000 ≤ o ∧ o < 0x40000) ∧ s.working = false) ∨
    ((0x20000 ≤ o ∧ o < 0x30000 ∨ 0x40000 ≤ o ∧ o < 0x60000 ∨ 0x200000 ≤ o) ∧ s.serving = false) ∨
    (0x60000 ≤ o ∧ o < 0x100000) ∨ (0x108000 ≤ o ∧ o < 0x200000) ∨ 0x220000 ≤ o

theorem WriteDiscarded.not_working {s : State} {o : Nat} (h : WriteDiscarded s o)
    (ho : 0x10000 ≤ o ∧ o < 0x20000 ∨ 0x30000 ≤ o ∧ o < 0x40000) : s.working = false := by
  rcases h with h | ⟨-, h⟩ | ⟨h, -⟩ | h | h | h
  · omega
  · exact h
  all_goals omega

theorem WriteDiscarded.not_serving {s : State} {o : Nat} (h : WriteDiscarded s o)
    (ho : 0x20000 ≤ o ∧ o < 0x30000 ∨ 0x40000 ≤ o ∧ o < 0x60000 ∨ 0x200000 ≤ o ∧ o < 0x220000) : s.serving = false := by
  rcases h with h | ⟨h, -⟩ | ⟨-, h⟩ | h | h | h
  · omega
  · omega
  · exact h
  all_goals omega

/-- Such an offset is no vector's and not the exchange status'. -/
theorem WriteDiscarded.ne {s : State} {o : Nat} (h : WriteDiscarded s o) :
    ¬ (0x100000 ≤ o ∧ o < 0x108000) ∧ o ≠ 0x18 := by
  unfold WriteDiscarded at h
  omega

theorem windowWrite_discarded {s : State} {o : Nat} (h : WriteDiscarded s o) (ha : o % 4 = 0) (v sw cw : Word) :
    windowWrite o v sw cw s = s := by
  by_cases hr : hostReaches s = false
  · exact windowWrite_unreached hr ..
  · unfold windowWrite
    rw [Bool.of_not_eq_false hr, if_neg (by decide), if_neg (not_not.mpr ha), if_neg h.ne.1, if_neg h.ne.2]
    by_cases ring : 0x10000 ≤ o ∧ o < 0x20000
    · rw [if_pos ring, h.not_working (.inl ring)]
      rfl
    rw [if_neg ring]
    by_cases ack : o = 0x20000
    · rw [if_pos ack, h.not_serving (by omega)]
      rfl
    rw [if_neg ack]
    by_cases request : 0x30000 ≤ o ∧ o < 0x40000
    · rw [if_pos request, h.not_working (.inr request)]
      rfl
    rw [if_neg request]
    by_cases peat : o = 0x40010 ∨ o = 0x40014
    · rw [if_pos peat, h.not_serving (by omega)]
      rfl
    rw [if_neg peat]
    by_cases mailbox : 0x200000 ≤ o ∧ o < 0x220000
    · rw [if_pos mailbox, h.not_serving (.inr (.inr mailbox))]
      rfl
    rw [if_neg mailbox]

theorem windowWrite_mailbox {s : State} {o : Nat} (hr : hostReaches s = true) (hs : s.serving = true)
    (h : o = 0x200008 ∨ o = 0x20000C) (v sw cw : Word) : windowWrite o v sw cw s = s.setReg (winBase + o) v := by
  unfold windowWrite
  rw [hr, if_neg (by decide), if_neg (by omega), if_neg (by omega), if_neg (by omega), if_neg (by omega),
    if_neg (by omega), if_neg (by omega), if_neg (by omega), if_pos (by omega), hs]
  rcases h with rfl | rfl <;> rfl

/-! ### The boundary-scan TAP (R608) -/

/-- What a TAP instruction executes: BYPASS in place of one that the state or the lock forbids. -/
theorem tapExecutes_eq (i : TapInstr) (s : State) : tapExecutes { s with tap := i } =
    if (i = .extest ∨ i = .clamp ∨ i = .highz) ∧ ¬ (s.mode = .safe ∨ s.mode = .maint ∨ s.mode = .off) ∨
      (i = .frondDebug ∧ s.root.debug = false) then TapInstr.bypass else i := by
  cases i with
  | frondDebug => cases h : s.root.debug <;> simp [tapExecutes, h]
  | extest => by_cases h : s.mode = .safe ∨ s.mode = .maint ∨ s.mode = .off <;> simp [tapExecutes, h]
  | clamp => by_cases h : s.mode = .safe ∨ s.mode = .maint ∨ s.mode = .off <;> simp [tapExecutes, h]
  | highz => by_cases h : s.mode = .safe ∨ s.mode = .maint ∨ s.mode = .off <;> simp [tapExecutes, h]
  | bypass => simp [tapExecutes]
  | idcode => simp [tapExecutes]
  | samplePreload => simp [tapExecutes]

/-! ### RegisterAccess, part by part -/

theorem hostWrite_discarded {a : Fin 562949953421312} {s : State}
    (h : a.val < winBase ∨ hostReaches s = false ∨ a.val % 4 = 0 ∧ WriteDiscarded s (a.val - winBase))
    (v sw cw : BitVec 32) : exec (.registerWrite .host a v sw cw) s = .next s := by
  by_cases ha : a.val < winBase
  · exact exec_hostWrite_below ha v sw cw
  · rw [exec_hostWrite (Nat.le_of_not_lt ha)]
    rcases h with h | h | ⟨h4, h⟩
    · exact absurd h ha
    · rw [windowWrite_unreached h]
    · rw [windowWrite_discarded h (by simp only [winBase] at *; omega)]

theorem hostWrite_unaligned {a : Fin 562949953421312} {s : State} (ha : winBase ≤ a.val) (hr : hostReaches s = true)
    (h : a.val % 4 ≠ 0) (v sw cw : BitVec 32) : exec (.registerWrite .host a v sw cw) s =
      .next (if pageServed (a.val - winBase) s = true then badWrite s else s) := by
  rw [exec_hostWrite ha, windowWrite_unaligned hr (by simp only [winBase] at *; omega)]

theorem hostWrite_mailbox {a : Fin 562949953421312} {s : State} (ha : winBase ≤ a.val) (hr : hostReaches s = true)
    (hs : s.serving = true) (h : a.val - winBase = 0x200008 ∨ a.val - winBase = 0x20000C) (v sw cw : BitVec 32) :
    exec (.registerWrite .host a v sw cw) s = .next (s.setReg a.val v) := by
  rw [exec_hostWrite ha, windowWrite_mailbox hr hs h, Nat.add_sub_cancel' ha]

theorem hostRead_answered {x : ReadSpan} {s : State} (ha : winBase ≤ x.addr.val) (hr : hostReaches s = true)
    (h : ¬ DeniedRead s (x.addr.val - winBase) x.len) : exec (.pairLoRead .host x) s =
      .next (s.emit (.windowRead (windowBytes (x.addr.val - winBase) x.len s))) := by
  rw [exec_hostRead ha hr, windowSpan_answered h]

theorem State.emit_out (s : State) (o : Out) : (s.emit o).out = s.out ++ [o] := rfl

theorem State.fld_emit (s : State) (o : Out) (a : Nat) (f : Fld) : (s.emit o).fld a f = s.fld a f := rfl

/-- A denied read is answered, counted and raised, and leaves what the request page shows of requests. -/
theorem hostRead_denied {x : ReadSpan} {s : State} (ha : winBase ≤ x.addr.val) (hr : hostReaches s = true)
    (h : DeniedRead s (x.addr.val - winBase) x.len) : Completes (.pairLoRead .host x) s fun t =>
      SameMem s t ∧ (s.reg (R.EVT_ROUTE 451) ≠ 0 → 451 ∈ t.evPend) ∧
      t.out = s.out ++ [.windowRead (windowBytes (x.addr.val - winBase) x.len s)] ∧
      t.fld R.REQ_STATUS F.REQ_STATUS_DENIED =
        satAdd (2 ^ F.REQ_STATUS_DENIED.width - 1) (s.fld R.REQ_STATUS F.REQ_STATUS_DENIED) 1 ∧
      t.fld R.REQ_STATUS F.REQ_STATUS_RESULT = s.fld R.REQ_STATUS F.REQ_STATUS_RESULT ∧
      t.fld R.REQ_STATUS F.REQ_STATUS_LAST = s.fld R.REQ_STATUS F.REQ_STATUS_LAST := by
  refine ⟨_, by rw [exec_hostRead ha hr, windowSpan_denied h], ?_, ?_, ?_, ?_, ?_, ?_⟩
  · exact SameMem.of_eq (by rw [State.emit_mem, countDenied_mem]) (by rw [State.emit_dramEpoch, countDenied_dramEpoch])
  · rw [State.emit_evPend]
    exact countDenied_evPend
  · rw [State.emit_out, countDenied_out]
  · rw [State.fld_emit, countDenied_denied]
  · rw [State.fld_emit, countDenied_fld_apart (by decide)]
  · rw [State.fld_emit, countDenied_fld_apart (by decide)]

theorem registerWrite_refused {q : Requester} {a : Fin 562949953421312} {s : State} {u : CommitUnit} (hq : q ≠ .host)
    (hw : s.working = true) (hu : u ∈ commitUnits) (ha : a.val ∈ u.regs) (hp : u.waits s = true) (v sw cw : BitVec 32) :
    Completes (.registerWrite q a v sw cw) s fun t => SameMem s t ∧ SameRegs s t (fun _ => False) ∧
      Sparse.get (fun _ => 0) t.refusals u.ctrl = Sparse.get (fun _ => 0) s.refusals u.ctrl + 1 ∧
      (∀ c, c ≠ u.ctrl → Sparse.get (fun _ => 0) t.refusals c = Sparse.get (fun _ => 0) s.refusals c) ∧
      ∀ f : Fin 64, q = .frond f → (t.frond f.val).reports = (s.frond f.val).reports ++ [a.val] := by
  refine ⟨_, exec_registerWrite_refused hq hw hu ha hp v sw cw, SameMem.of_eq (refuseShadow_mem ..)
    (refuseShadow_dramEpoch ..), SameRegs.of_eq (refuseShadow_regs ..) (refuseShadow_act ..), ?_, fun c hc => ?_, ?_⟩
  · rw [refuseShadow_refusals, Sparse.get_put_self]
  · rw [refuseShadow_refusals, Sparse.get_put_ne _ _ _ hc]
  · rintro f rfl
    exact refuseShadow_reports f a.val u.ctrl s

theorem registerWrite_stored {q : Requester} {a : Fin 562949953421312} {s : State} {d : RegDesc} (hq : q ≠ .host)
    (hw : s.working = true) (ha : a.val < winBase) (h : StartsNothing s (canonReg a.val))
    (hd : descOf (canonReg a.val) = some d)
    (hu : ∀ u, u ∈ commitUnits → canonReg a.val ∈ u.regs → u.waits s = false) (v sw cw : BitVec 32) :
    Completes (.registerWrite q a v sw cw) s fun t => SameMem s t ∧
      SameRegs s t (fun x => x = canonReg a.val ∨ ∃ f, raceOf s (canonReg a.val) = some (x, f)) ∧
      (∀ x, t.inForce x = s.inForce x) ∧
      (∀ x f, raceOf s (canonReg a.val) = some (x, f) → x ≠ canonReg a.val →
        t.fld x f = satAdd (2 ^ f.width - 1) (s.fld x f) (racesMet d v sw cw)) ∧
      ((∀ f, raceOf s (canonReg a.val) ≠ some (canonReg a.val, f)) → ∀ k, k < 32 → (t.reg (canonReg a.val)).getLsbD k =
        if d.w1c.testBit k && v.getLsbD k && !sw.getLsbD k then false
        else if d.rw.testBit k || d.rws.testBit k then v.getLsbD k else (s.reg (canonReg a.val)).getLsbD k) := by
  obtain ⟨hm, he⟩ := s.stored_mem (canonReg a.val) d v sw cw
  refine ⟨_, exec_registerWrite_stored hq hw ha h hd hu v sw cw, SameMem.of_eq hm he,
    State.stored_sameRegs s _ d v sw cw, State.stored_inForce s _ d v sw cw,
    fun x f hr hx => State.stored_fld_race hr hx d v sw cw, fun hr k hk => ?_⟩
  rw [State.stored_reg_self hr, storedWord_getLsbD d _ v sw hk]

/-- Settles O60, part by part: writes that find nothing, are refused, are stored; pairs; the host's reads and writes; the
TAP. -/
theorem registerAccess : Obligations.RegisterAccess := by
  intro s
  refine ⟨fun q a v sw cw => exec_registerWrite_nothing, ?_, ?_, fun q a => ⟨?_, ?_, ?_⟩, fun x => ⟨?_, ?_, ?_, ?_, ?_, ?_⟩,
    fun a v sw cw => ⟨?_, ?_, ?_⟩, fun i => ?_⟩
  · exact fun q a v sw cw u hq hw hu ha hp => registerWrite_refused hq hw hu ha hp v sw cw
  · intro q a v sw cw d b losers hq hw ha h hd hu
    have e := registerWrite_stored hq hw ha h hd hu v sw cw
    rwa [racesMet_eq] at e
  · exact fun hq h len => exec_pairLoRead_nothing hq h
  · exact fun hq h => exec_pairLoRead_word_nothing hq h
  · exact fun hq hw ha hl => exec_pairLoRead_captures hq hw ha hl
  · exact exec_hostRead_unreached
  · have answers := And.intro (windowBytes_length (x.addr.val - winBase) x.len s)
      fun i (hi : i < x.len) => windowBytes_getD (o := x.addr.val - winBase) hi s
    refine fun ha hr => ⟨fun h => ⟨_, answers, hostRead_answered ha hr h⟩, fun h => ?_⟩
    obtain ⟨t, ht, hmem, htold, hout, hcount, hresult, hlast⟩ := hostRead_denied ha hr h
    exact ⟨t, ht, hmem, htold, ⟨_, answers, hout⟩, hcount, hresult, hlast⟩
  · exact fun ⟨hp, hc⟩ => windowRead_peat_closed hp hc
  · exact windowRead_boot
  · exact windowRead_not_working
  · exact windowRead_not_serving
  · intro ha hr h
    rw [hostWrite_unaligned ha hr h]
    exact congrArg _ (if_congr (pageServed_iff _ s) rfl rfl)
  · exact fun h => hostWrite_discarded h v sw cw
  · exact fun ha hr hs h => hostWrite_mailbox ha hr hs h v sw cw
  · intro allowed does
    have e : tapExecutes { s with tap := i } = does := tapExecutes_eq i s
    rw [← e]
    rfl

end Sys2Proof.Machine

/-!
The proofs of the family 01_architecture: what commands keep, records of lines and frames, events and the peat log, runs
and MAINT, host requests, starts and warm recovery.
-/

namespace Sys2Proof.Machine

/-- Settles O6, by `exec_keep`: AON_LATCH_CLEAR, which it leaves out, is on both of Safety's lists. -/
theorem commandsKeepMemoryAndMode : Obligations.CommandsKeepMemoryAndMode := by
  intro i s
  obtain ⟨t, e⟩ := exec_answers i s
  refine ⟨fun h => ⟨t, e, ?_⟩, fun h => ⟨t, e, ?_⟩⟩
  · have k := exec_keep s i (by rintro rfl; cases h) t e
    obtain ⟨hmem, hepoch⟩ := k.mem (by rw [h]; rfl)
    exact SameMem.of_eq hmem hepoch
  · have k := exec_keep s i (by rintro rfl; cases h) t e
    exact k.mode (by rw [h]; rfl)

/-! ### Shared facts: applied conditions, frames, fields and bit arrays -/

/-- What holds before a condition is applied, and after its effect, holds after it. -/
theorem State.cond_induct {p : State → Prop} {s : State} {c : Bool} {f : State → State} (h : p s)
    (hf : c = true → p (f s)) : p (s.cond c f) := by
  cases c
  · exact h
  · exact hf rfl

theorem next_eq {s t : State} (h : s = t) : (.next s : Result) = .next t := congrArg _ h

theorem SameRegs.lost {s t : State} {p : Nat → Prop} {b : Bool} {a : Nat} (h : SameRegs s t p) (k : p a) :
    SameRegs s (t.lost b a) p := by
  cases b
  · exact h
  · exact h.satInc k

theorem State.fld_of_reg {s t : State} {a : Nat} (h : t.reg a = s.reg a) (f : Fld) : t.fld a f = s.fld a f :=
  congrArg (Word.get · f) h

theorem State.bit_of_reg {s t : State} {a : Nat} (h : t.reg a = s.reg a) (f : Fld) : t.bit a f = s.bit a f := by
  unfold State.bit
  rw [State.fld_of_reg h]

theorem arrayBit_eq_bit (s : State) (r : Nat → Nat) (i : Nat) : arrayBit s r i = s.bit (r (i / 32)) ⟨i % 32, 1⟩ := by
  unfold arrayBit State.bit State.fld Word.get
  rw [BitVec.getLsbD, Nat.testBit_eq_decide_div_mod_eq]
  rfl

theorem arrayBit_setArrayBit_self (s : State) (r : Nat → Nat) (i : Nat) (b : Bool) :
    arrayBit (setArrayBit s r i b) r i = b := by
  rw [arrayBit_eq_bit]
  exact State.bit_setBit_self s _ _ b (Nat.mod_lt _ (by decide))

theorem arrayBit_setArrayBit_ne {r q : Nat → Nat} {i j : Nat} (h : q (j / 32) ≠ r (i / 32)) (s : State) (b : Bool) :
    arrayBit (setArrayBit s r i b) q j = arrayBit s q j := by
  unfold arrayBit setArrayBit
  rw [State.reg_setBit_ne s _ _ h]

theorem arrayBit_of_reg {s t : State} {r : Nat → Nat} {i : Nat} (h : t.reg (r (i / 32)) = s.reg (r (i / 32))) :
    arrayBit t r i = arrayBit s r i := by
  unfold arrayBit
  rw [h]

/-! ### Events: HOST_PEND, HOST_MERGED and the vectors (15 R482) -/

/-- One state comes from another by writes of registers, pending marks and the peat log's queue, and by what is sent: every other
part of it stays. -/
def Bookkeeps (s t : State) : Prop :=
  t = { s with regs := t.regs, evPend := t.evPend, out := t.out, peat := t.peat }

theorem Bookkeeps.refl (s : State) : Bookkeeps s s := rfl

theorem Bookkeeps.trans {s t u : State} (h : Bookkeeps s t) (k : Bookkeeps t u) : Bookkeeps s u := by
  unfold Bookkeeps at *
  rw [k, h]

theorem Bookkeeps.mode {s t : State} (h : Bookkeeps s t) : t.mode = s.mode := (congrArg State.mode h).trans rfl

theorem Bookkeeps.tm {s t : State} (h : Bookkeeps s t) : t.tm = s.tm := (congrArg State.tm h).trans rfl

theorem Bookkeeps.pcie {s t : State} (h : Bookkeeps s t) : t.pcie = s.pcie := (congrArg State.pcie h).trans rfl

theorem Bookkeeps.sameMem {s t : State} (h : Bookkeeps s t) : SameMem s t :=
  SameMem.of_eq ((congrArg State.mem h).trans rfl) ((congrArg State.dramEpoch h).trans rfl)

theorem Bookkeeps.setFld {s t : State} (h : Bookkeeps s t) (a : Nat) (f : Fld) (v : Nat) :
    Bookkeeps s (t.setFld a f v) := h.trans rfl

theorem Bookkeeps.raise {s t : State} (h : Bookkeeps s t) (e : Nat) : Bookkeeps s (t.raise e) :=
  h.trans (by unfold Bookkeeps; rw [State.raise_out, State.raise_peat]; exact t.raise_eq e)

theorem Bookkeeps.satInc {s t : State} (h : Bookkeeps s t) (a : Nat) (f : Fld) (v : Nat) :
    Bookkeeps s (t.satInc a f v) := h.setFld a f _

theorem Bookkeeps.lost {s t : State} (h : Bookkeeps s t) (b : Bool) (a : Nat) : Bookkeeps s (t.lost b a) := by
  cases b
  · exact h
  · exact h.satInc a _ _

theorem peatPush_bookkeeps (s : State) (typ origin : Nat) (data : List Byte) :
    Bookkeeps s (s.peatPush typ origin data) := by
  unfold State.peatPush
  split
  · exact Bookkeeps.trans (t := { s with peat := { s.peat with queue := _ } }) rfl ((Bookkeeps.refl _).setFld ..)
  · exact (Bookkeeps.refl s).satInc ..

theorem setLine_bookkeeps (s : State) (f l : Nat) : Bookkeeps s (s.setLine f l) := by unfold State.setLine; split <;> rfl

theorem vectorIssue_bookkeeps (v : Nat) (s : State) : Bookkeeps s (vectorIssue v s) := by
  unfold vectorIssue
  split <;> rfl

theorem hostNotice_bookkeeps (src v : Nat) (s : State) : Bookkeeps s (hostNotice src v s) := by
  unfold hostNotice
  split
  · rfl
  · exact ((Bookkeeps.refl s).setFld _ _ _).trans (vectorIssue_bookkeeps v _)

theorem SameRegs.setArrayBit {s t : State} {p : Nat → Prop} {r : Nat → Nat} {i : Nat} {b : Bool} (h : SameRegs s t p)
    (k : p (r (i / 32))) : SameRegs s (setArrayBit t r i b) p := h.setBit k

theorem vectorIssue_regs {s t : State} {p : Nat → Prop} {v : Nat} (h : SameRegs s t p) (k : p (R.MSIX_PBA (v / 32))) :
    SameRegs s (vectorIssue v t) p := by
  unfold vectorIssue
  split
  · exact h.trans (SameRegs.of_eq rfl rfl)
  · exact h.setArrayBit k

theorem hostNotice_regs {s t : State} {p : Nat → Prop} {src v : Nat} (h : SameRegs s t p)
    (hp : p (R.HOST_PEND (src / 32))) (hm : p (R.HOST_MERGED (src / 32))) (hv : p (R.MSIX_PBA (v / 32))) :
    SameRegs s (hostNotice src v t) p := by
  unfold hostNotice
  split
  · exact h.setArrayBit hm
  · exact vectorIssue_regs (h.setArrayBit hp) hv

theorem peatPush_regs {s t : State} {p : Nat → Prop} {typ origin : Nat} {data : List Byte} (h : SameRegs s t p)
    (k : p R.PEAT_STATUS) : SameRegs s (t.peatPush typ origin data) p := by
  unfold State.peatPush
  split
  · exact (h.trans (SameRegs.of_eq rfl rfl)).setFld k
  · exact h.satInc k

/-- The bit arrays of the event unit and that of the pending vectors do not overlap (15 R456, R482). -/
theorem hostPend_apart {i : Nat} (h : i < 32) (j k : Nat) :
    R.HOST_PEND i ≠ R.HOST_MERGED j ∧ R.HOST_PEND i ≠ R.MSIX_PBA k := by
  simp only [R.HOST_PEND, R.HOST_MERGED, R.MSIX_PBA]
  omega

theorem hostMerged_ne_msixPba {i : Nat} (h : i < 32) (j : Nat) : R.HOST_MERGED i ≠ R.MSIX_PBA j := by
  simp only [R.MSIX_PBA, R.HOST_MERGED]
  omega

theorem arrayBit_vectorIssue {r : Nat → Nat} {i v : Nat} (h : r (i / 32) ≠ R.MSIX_PBA (v / 32)) (s : State) :
    arrayBit (vectorIssue v s) r i = arrayBit s r i :=
  arrayBit_of_reg (vectorIssue_regs (p := (· = R.MSIX_PBA (v / 32))) (SameRegs.refl s _) rfl _ h).1

/-- After a notice the source's HOST_PEND stands (15 R482). -/
theorem arrayBit_hostPend_hostNotice {src : Nat} (h : src < 1024) (v : Nat) (s : State) :
    arrayBit (hostNotice src v s) R.HOST_PEND src = true := by
  have apart := fun k => hostPend_apart (i := src / 32) (by omega) (src / 32) k
  unfold hostNotice
  split
  · next hp => exact (arrayBit_setArrayBit_ne (apart 0).1 ..).trans hp
  · rw [arrayBit_vectorIssue (apart _).2, arrayBit_setArrayBit_self]

theorem hostNotice_merges {src : Nat} {s : State} (h : arrayBit s R.HOST_PEND src = true) (v : Nat) :
    arrayBit (hostNotice src v s) R.HOST_MERGED src = true ∧ (hostNotice src v s).out = s.out := by
  rw [hostNotice, if_pos h]
  exact ⟨arrayBit_setArrayBit_self .., rfl⟩

/-- Whether a vector is free depends on the function and on the vector's mask bit (15 R456, R459). -/
theorem vectorFree_congr {s t : State} {v : Nat} (h : t.pcie = s.pcie)
    (k : t.reg (R.MSIX_TABLE (4 * v + 3)) = s.reg (R.MSIX_TABLE (4 * v + 3))) : vectorFree t v = vectorFree s v := by
  unfold vectorFree hostOpen linkInsecure
  rw [h, k]

theorem hostNotice_sends {src v : Nat} {s : State} (hs : src < 1024) (h : arrayBit s R.HOST_PEND src = false)
    (hv : vectorFree s v = true) : (hostNotice src v s).out = s.out ++ [.msix v] := by
  have hn : R.MSIX_TABLE (4 * v + 3) ≠ R.HOST_PEND (src / 32) := by
    simp only [R.MSIX_TABLE, R.HOST_PEND]
    omega
  have hf : vectorFree (setArrayBit s R.HOST_PEND src true) v = true :=
    (vectorFree_congr (s := s) (t := setArrayBit s R.HOST_PEND src true) rfl (State.reg_setBit_ne s _ _ hn)).trans hv
  rw [hostNotice, h, if_neg Bool.false_ne_true, vectorIssue, if_pos hf]
  rfl

/-! ### Deliveries (01 R39) -/

/-- The first destination that a route word may enable: a frond's event line (01 R39, 11 R368). -/
def notifyFrond (w : Word) (s : State) : State :=
  s.cond (w.get F.EVT_ROUTE_FROND_EN == 1) (fun s => s.setLine (w.get F.EVT_ROUTE_FROND) (w.get F.EVT_ROUTE_LINE))

/-- The second one: HOST_PEND and a vector (15 R482). -/
def notifyHost (src : Nat) (w : Word) (s : State) : State :=
  s.cond (w.get F.EVT_ROUTE_MSIX_EN == 1) (hostNotice src (w.get F.EVT_ROUTE_VECTOR))

/-- The third one: an EVENT record of the peat log (20 R584). -/
def notifyPeat (src : Nat) (w : Word) (s : State) : State :=
  s.cond (w.get F.EVT_ROUTE_PEAT_EN == 1) (fun s => s.peatPush 4 (originOf src) (bytesLE 2 src))

theorem eventDeliver_pending {src : Nat} {s : State} (h : src ∈ s.evPend) : eventDeliver src s =
    notifyPeat src (s.reg (R.EVT_ROUTE src)) (notifyHost src (s.reg (R.EVT_ROUTE src))
      (notifyFrond (s.reg (R.EVT_ROUTE src)) { s with evPend := NatSet.erase s.evPend src })) := if_pos h

theorem eventDeliver_idle {src : Nat} {s : State} (h : src ∉ s.evPend) : eventDeliver src s = s := if_neg h

theorem notifyFrond_bookkeeps (w : Word) (s : State) : Bookkeeps s (notifyFrond w s) :=
  State.cond_induct (p := Bookkeeps s) (.refl s) fun _ => setLine_bookkeeps ..

theorem notifyHost_bookkeeps (src : Nat) (w : Word) (s : State) : Bookkeeps s (notifyHost src w s) :=
  State.cond_induct (p := Bookkeeps s) (.refl s) fun _ => hostNotice_bookkeeps ..

theorem notifyPeat_bookkeeps (src : Nat) (w : Word) (s : State) : Bookkeeps s (notifyPeat src w s) :=
  State.cond_induct (p := Bookkeeps s) (.refl s) fun _ => peatPush_bookkeeps ..

theorem State.setLine_evPend (s : State) (f l : Nat) : (s.setLine f l).evPend = s.evPend := by
  unfold State.setLine
  split <;> rfl

theorem State.setLine_out (s : State) (f l : Nat) : (s.setLine f l).out = s.out := by
  unfold State.setLine
  split <;> rfl

theorem State.setLine_peat (s : State) (f l : Nat) : (s.setLine f l).peat = s.peat := by
  unfold State.setLine
  split <;> rfl

theorem State.setLine_regs {s t : State} {p : Nat → Prop} {f l : Nat} (h : SameRegs s t p)
    (lo : p (R.FRD_EVT_PEND_LO f)) (hi : p (R.FRD_EVT_PEND_HI f)) : SameRegs s (t.setLine f l) p := by
  unfold State.setLine
  split
  · exact h.setBit lo
  · exact h.setBit hi

/-- A line set is up (11 R368). -/
theorem State.lineUp_setLine (s : State) (f : Nat) {l : Nat} (h : l < 64) : (s.setLine f l).lineUp f l = true := by
  unfold State.setLine State.lineUp
  split
  · exact State.bit_setBit_self _ _ _ _ (by omega)
  · exact State.bit_setBit_self _ _ _ _ (by omega)

theorem State.lineUp_of_sameRegs {s t : State} {p : Nat → Prop} (h : SameRegs s t p) {f : Nat}
    (lo : ¬ p (R.FRD_EVT_PEND_LO f)) (hi : ¬ p (R.FRD_EVT_PEND_HI f)) (l : Nat) : t.lineUp f l = s.lineUp f l := by
  unfold State.lineUp
  rw [State.bit_of_reg (h _ lo).1, State.bit_of_reg (h _ hi).1]

theorem hostNotice_evPend (src v : Nat) (s : State) : (hostNotice src v s).evPend = s.evPend := by
  unfold hostNotice vectorIssue
  repeat' split
  all_goals rfl

theorem hostNotice_peat (src v : Nat) (s : State) : (hostNotice src v s).peat = s.peat := by
  unfold hostNotice vectorIssue
  repeat' split
  all_goals rfl

theorem State.peatPush_evPend (s : State) (typ origin : Nat) (data : List Byte) :
    (s.peatPush typ origin data).evPend = s.evPend := by
  unfold State.peatPush
  split
  · exact State.setFld_evPend ..
  · exact State.satInc_evPend ..

theorem State.peatPush_out (s : State) (typ origin : Nat) (data : List Byte) :
    (s.peatPush typ origin data).out = s.out := by
  unfold State.peatPush
  split
  · exact State.setFld_out ..
  · exact State.satInc_out ..

/-- A record that finds room is queued behind the others (20 R585). -/
theorem State.peatPush_queue {s : State} (h : s.peat.queue.length < 64) (typ origin : Nat) (data : List Byte) :
    (s.peatPush typ origin data).peat.queue = s.peat.queue ++ [⟨s.now, typ, origin, data⟩] := by
  rw [State.peatPush, if_pos h]
  rfl

/-- Every word of the registers of fronds lies below the control window. -/
theorem frondLine_lt {f : Nat} (h : f < 64) : R.FRD_EVT_PEND_LO f < winBase ∧ R.FRD_EVT_PEND_HI f < winBase := by
  simp only [R.FRD_EVT_PEND_LO, R.FRD_EVT_PEND_HI, winBase]
  omega

theorem notifyFrond_regs {s : State} (w : Word) : SameRegs s (notifyFrond w s) (· < winBase) := by
  have hf : w.get F.EVT_ROUTE_FROND < 64 := Word.get_lt w _
  exact State.cond_induct (p := (SameRegs s · _)) (SameRegs.refl s _) fun _ =>
    State.setLine_regs (SameRegs.refl s _) (frondLine_lt hf).1 (frondLine_lt hf).2

theorem notifyHost_regs {s : State} (src : Nat) (w : Word) : SameRegs s (notifyHost src w s) (winBase ≤ ·) :=
  State.cond_induct (p := (SameRegs s · _)) (SameRegs.refl s _) fun _ => hostNotice_regs (SameRegs.refl s _)
    (by simp only [R.HOST_PEND, winBase]; omega) (by simp only [R.HOST_MERGED, winBase]; omega)
    (by simp only [R.MSIX_PBA, winBase]; omega)

theorem notifyPeat_regs {s : State} (src : Nat) (w : Word) : SameRegs s (notifyPeat src w s) (· = R.PEAT_STATUS) :=
  State.cond_induct (p := (SameRegs s · _)) (SameRegs.refl s _) fun _ => peatPush_regs (SameRegs.refl s _) rfl

theorem notifyFrond_evPend (w : Word) (s : State) : (notifyFrond w s).evPend = s.evPend :=
  State.cond_induct (p := (State.evPend · = s.evPend)) rfl fun _ => State.setLine_evPend ..

theorem notifyFrond_out (w : Word) (s : State) : (notifyFrond w s).out = s.out :=
  State.cond_induct (p := (State.out · = s.out)) rfl fun _ => State.setLine_out ..

theorem notifyFrond_peat (w : Word) (s : State) : (notifyFrond w s).peat = s.peat :=
  State.cond_induct (p := (State.peat · = s.peat)) rfl fun _ => State.setLine_peat ..

theorem notifyHost_evPend (src : Nat) (w : Word) (s : State) : (notifyHost src w s).evPend = s.evPend :=
  State.cond_induct (p := (State.evPend · = s.evPend)) rfl fun _ => hostNotice_evPend ..

theorem notifyHost_peat (src : Nat) (w : Word) (s : State) : (notifyHost src w s).peat = s.peat :=
  State.cond_induct (p := (State.peat · = s.peat)) rfl fun _ => hostNotice_peat ..

theorem notifyPeat_evPend (src : Nat) (w : Word) (s : State) : (notifyPeat src w s).evPend = s.evPend :=
  State.cond_induct (p := (State.evPend · = s.evPend)) rfl fun _ => State.peatPush_evPend ..

theorem notifyPeat_out (src : Nat) (w : Word) (s : State) : (notifyPeat src w s).out = s.out :=
  State.cond_induct (p := (State.out · = s.out)) rfl fun _ => State.peatPush_out ..

theorem notifyFrond_enabled {w : Word} (h : w.get F.EVT_ROUTE_FROND_EN = 1) (s : State) :
    notifyFrond w s = s.setLine (w.get F.EVT_ROUTE_FROND) (w.get F.EVT_ROUTE_LINE) := by
  rw [notifyFrond, h, beq_self_eq_true, State.cond_true]

theorem notifyHost_enabled {w : Word} (h : w.get F.EVT_ROUTE_MSIX_EN = 1) (src : Nat) (s : State) :
    notifyHost src w s = hostNotice src (w.get F.EVT_ROUTE_VECTOR) s := by
  rw [notifyHost, h, beq_self_eq_true, State.cond_true]

theorem notifyPeat_enabled {w : Word} (h : w.get F.EVT_ROUTE_PEAT_EN = 1) (src : Nat) (s : State) :
    notifyPeat src w s = s.peatPush 4 (originOf src) (bytesLE 2 src) := by
  rw [notifyPeat, h, beq_self_eq_true, State.cond_true]

/-- The host's notices stand in the control window, the frond's in the register blocks, the log's count in PEAT_STATUS: none
of the three touches another's registers. -/
theorem notify_window {src : Nat} (w : Word) (s : State) {a : Nat} (h : winBase ≤ a) :
    (notifyPeat src w (notifyHost src w (notifyFrond w s))).reg a = (notifyHost src w (notifyFrond w s)).reg a ∧
      (notifyFrond w s).reg a = s.reg a :=
  ⟨(notifyPeat_regs src w a (by rintro rfl; revert h; decide)).1, (notifyFrond_regs w a (by omega)).1⟩

/-- A delivered source's frond line is up, where its route enables one (11 R368). -/
theorem eventDeliver_line {src : Nat} {s : State} (h : src ∈ s.evPend)
    (en : (s.reg (R.EVT_ROUTE src)).get F.EVT_ROUTE_FROND_EN = 1) :
    (eventDeliver src s).lineUp ((s.reg (R.EVT_ROUTE src)).get F.EVT_ROUTE_FROND)
      ((s.reg (R.EVT_ROUTE src)).get F.EVT_ROUTE_LINE) = true := by
  have hf : (s.reg (R.EVT_ROUTE src)).get F.EVT_ROUTE_FROND < 64 := Word.get_lt _ _
  obtain ⟨lo, hi⟩ := frondLine_lt hf
  rw [eventDeliver_pending h, State.lineUp_of_sameRegs (notifyPeat_regs src _), State.lineUp_of_sameRegs (notifyHost_regs src _)
    (by omega) (by omega), notifyFrond_enabled en]
  · exact State.lineUp_setLine _ _ (Word.get_lt _ _)
  · simp only [R.FRD_EVT_PEND_LO, R.PEAT_STATUS]; omega
  · simp only [R.FRD_EVT_PEND_HI, R.PEAT_STATUS]; omega

/-- The host's part of a delivery: HOST_PEND stands; a second occurrence merges and sends nothing, a first one sends its
vector where that is free (15 R482). -/
theorem eventDeliver_host {src : Nat} {s : State} (hs : src < 1024) (h : src ∈ s.evPend)
    (en : (s.reg (R.EVT_ROUTE src)).get F.EVT_ROUTE_MSIX_EN = 1) :
    arrayBit (eventDeliver src s) R.HOST_PEND src = true ∧
      (arrayBit s R.HOST_PEND src = true →
        arrayBit (eventDeliver src s) R.HOST_MERGED src = true ∧ (eventDeliver src s).out = s.out) ∧
      (arrayBit s R.HOST_PEND src = false → vectorFree s ((s.reg (R.EVT_ROUTE src)).get F.EVT_ROUTE_VECTOR) = true →
        (eventDeliver src s).out = s.out ++ [.msix ((s.reg (R.EVT_ROUTE src)).get F.EVT_ROUTE_VECTOR)]) := by
  rw [eventDeliver_pending h]
  generalize s.reg (R.EVT_ROUTE src) = w at en
  have frame := fun a => notify_window (src := src) w { s with evPend := NatSet.erase s.evPend src } (a := a)
  have out := notifyFrond_out w { s with evPend := NatSet.erase s.evPend src }
  have pcie := (notifyFrond_bookkeeps w { s with evPend := NatSet.erase s.evPend src }).pcie
  rw [notifyPeat_out, arrayBit_of_reg (frame _ (by simp only [R.HOST_PEND, winBase]; omega)).1,
    arrayBit_of_reg (frame _ (by simp only [R.HOST_MERGED, winBase]; omega)).1, notifyHost_enabled en]
  generalize notifyFrond w { s with evPend := NatSet.erase s.evPend src } = u at frame out pcie
  have before : arrayBit u R.HOST_PEND src = arrayBit s R.HOST_PEND src :=
    arrayBit_of_reg (frame _ (by simp only [R.HOST_PEND, winBase]; omega)).2
  refine ⟨arrayBit_hostPend_hostNotice hs _ _, fun hp => ?_, fun hp hv => ?_⟩
  · obtain ⟨merged, sent⟩ := hostNotice_merges (before.trans hp) (w.get F.EVT_ROUTE_VECTOR)
    exact ⟨merged, sent.trans out⟩
  · have free : vectorFree u (w.get F.EVT_ROUTE_VECTOR) = true :=
      (vectorFree_congr (s := s) pcie (frame _ (by simp only [R.MSIX_TABLE, winBase]; omega)).2).trans hv
    rw [hostNotice_sends hs (before.trans hp) free, out]

/-- The peat log's part of a delivery: an EVENT record behind those queued, while there is room (20 R584, R585). -/
theorem eventDeliver_peat {src : Nat} {s : State} (h : src ∈ s.evPend)
    (en : (s.reg (R.EVT_ROUTE src)).get F.EVT_ROUTE_PEAT_EN = 1) (room : s.peat.queue.length < 64) :
    (eventDeliver src s).peat.queue = s.peat.queue ++ [⟨s.now, 4, originOf src, bytesLE 2 src⟩] := by
  rw [eventDeliver_pending h]
  generalize s.reg (R.EVT_ROUTE src) = w at en
  have marked : Bookkeeps s { s with evPend := NatSet.erase s.evPend src } := rfl
  have time := ((marked.trans (notifyFrond_bookkeeps w _)).trans (notifyHost_bookkeeps src w _)).tm
  have peat := (notifyHost_peat src w _).trans (notifyFrond_peat w { s with evPend := NatSet.erase s.evPend src })
  rw [notifyPeat_enabled en, State.peatPush_queue (by rw [peat]; exact room), peat, State.now, time, State.now]

theorem eventDeliver_evPend {src : Nat} {s : State} (h : src ∈ s.evPend) :
    (eventDeliver src s).evPend = NatSet.erase s.evPend src := by
  rw [eventDeliver_pending h, notifyPeat_evPend, notifyHost_evPend, notifyFrond_evPend]

theorem eventDeliver_bookkeeps (src : Nat) (s : State) : Bookkeeps s (eventDeliver src s) := by
  by_cases h : src ∈ s.evPend
  · rw [eventDeliver_pending h]
    exact ((Bookkeeps.trans (t := { s with evPend := NatSet.erase s.evPend src }) rfl (notifyFrond_bookkeeps _ _)).trans
      (notifyHost_bookkeeps ..)).trans (notifyPeat_bookkeeps ..)
  · rw [eventDeliver_idle h]
    exact .refl s

/-! ### EVT_ACK (15 R482) -/

theorem eventAck_bookkeeps (src : Nat) (s : State) : Bookkeeps s (eventAck src s) := by
  unfold eventAck
  split
  · exact (((Bookkeeps.refl s).setFld _ _ _).setFld _ _ _).trans (vectorIssue_bookkeeps ..)
  · exact (Bookkeeps.refl s).setFld _ _ _

/-- An acknowledged source is pending again where an occurrence was merged, which the vector issued anew stands for. -/
theorem eventAck_pend {src : Nat} (hs : src < 1024) (s : State) :
    arrayBit (eventAck src s) R.HOST_PEND src = arrayBit s R.HOST_MERGED src ∧
      arrayBit (eventAck src s) R.HOST_MERGED src = false ∧
      (arrayBit s R.HOST_MERGED src = false → (eventAck src s).out = s.out) := by
  have apart := fun k => hostPend_apart (i := src / 32) (by omega) (src / 32) k
  have merged := fun k => hostMerged_ne_msixPba (i := src / 32) (by omega) k
  unfold eventAck
  by_cases hm : arrayBit s R.HOST_MERGED src = true
  · rw [if_pos hm, hm]
    refine ⟨?_, ?_, nofun⟩
    · rw [arrayBit_vectorIssue (apart _).2, arrayBit_setArrayBit_self]
    · rw [arrayBit_vectorIssue (merged _), arrayBit_setArrayBit_ne (apart 0).1.symm,
        arrayBit_setArrayBit_self]
  · rw [if_neg hm, Bool.of_not_eq_true hm]
    exact ⟨arrayBit_setArrayBit_self .., (arrayBit_setArrayBit_ne (apart 0).1.symm ..).trans
      (Bool.of_not_eq_true hm), fun _ => rfl⟩

/-! ### The peat log (20 R583 to R588) -/

theorem padTo_length (n : Nat) (bs : List Byte) : (padTo n bs).length = n := by
  rw [padTo, List.length_take, List.length_append, List.length_replicate]
  omega

theorem peatBytes_length (k : Nat) (r : PeatRec) : (peatBytes k r).length = 64 := by
  simp [peatBytes, bytesLE_length, padTo_length]

/-- The state with the oldest record in its slot and out of the queue, before the registers show it. -/
def peatStored (s : State) (r : PeatRec) (q : List PeatRec) : State :=
  let t := s.write (peatSlot s.peat.nextSeq) (peatBytes s.peat.nextSeq r)
  { t with peat := { t.peat with queue := q, nextSeq := s.peat.nextSeq + 1 },
           pwr := { t.pwr with pulseBand := t.fld R.PWR_STATUS F.PWR_STATUS_BAND } }

theorem peatShow_eq {s : State} (h : s.peat.nextSeq ≠ 0) : peatShow s =
    (s.setReg64 R.PEAT_NEWEST_LO (s.peat.nextSeq - 1)).setReg64 R.PEAT_OLDEST_LO (s.peat.nextSeq - 262144) := if_neg h

/-- The state in which the registers show the log so. -/
def peatShown (s : State) (r : PeatRec) (q : List PeatRec) : State :=
  peatShow ((peatStored s r q).setFld R.PEAT_STATUS F.PEAT_STATUS_QUEUED q.length)

theorem peatShown_eq (s : State) (r : PeatRec) (q : List PeatRec) : ∃ old, peatShown s r q =
    (((peatStored s r q).setFld R.PEAT_STATUS F.PEAT_STATUS_QUEUED q.length).setReg64 R.PEAT_NEWEST_LO
      s.peat.nextSeq).setReg64 R.PEAT_OLDEST_LO old := by
  have seq : ((peatStored s r q).setFld R.PEAT_STATUS F.PEAT_STATUS_QUEUED q.length).peat.nextSeq =
      s.peat.nextSeq + 1 := by
    rw [State.setFld_peat]
    rfl
  have last : ((peatStored s r q).setFld R.PEAT_STATUS F.PEAT_STATUS_QUEUED q.length).peat.nextSeq - 1 =
      s.peat.nextSeq := by rw [seq, Nat.add_sub_cancel]
  rw [peatShown, peatShow_eq (by rw [seq]; exact Nat.succ_ne_zero _), last]
  exact ⟨_, rfl⟩

theorem peatCommit_cons {s : State} {r : PeatRec} {q : List PeatRec} (h : s.peat.queue = r :: q) : peatCommit s =
    if (peatShown s r q).fld R.PEAT_STATUS F.PEAT_STATUS_LOST = 0 then peatShown s r q
    else ((peatShown s r q).setFld R.PEAT_STATUS F.PEAT_STATUS_LOST 0).peatPush 0xB 0xFFFF
      (bytesLE 4 ((peatShown s r q).fld R.PEAT_STATUS F.PEAT_STATUS_LOST)) := by
  unfold peatCommit
  rw [h]
  rfl

theorem peatStored_regs (s : State) (r : PeatRec) (q : List PeatRec) : (peatStored s r q).regs = s.regs := by
  simp only [peatStored, State.write_regs]

theorem peatShown_byte (s : State) (r : PeatRec) (q : List PeatRec) (a : Nat) :
    (peatShown s r q).byte a = (s.write (peatSlot s.peat.nextSeq) (peatBytes s.peat.nextSeq r)).byte a := by
  obtain ⟨old, e⟩ := peatShown_eq s r q
  rw [e]
  apply State.byte_congr
  · simp only [State.setReg64_mem, State.setFld_mem, peatStored]
  · simp only [State.setReg64_dramEpoch, State.setFld_dramEpoch, peatStored]
  · simp only [State.setReg64_freeCtr, State.setFld_freeCtr, peatStored]

theorem peatShown_peat (s : State) (r : PeatRec) (q : List PeatRec) : (peatShown s r q).peat.queue = q ∧
    (peatShown s r q).peat.nextSeq = s.peat.nextSeq + 1 := by
  obtain ⟨old, e⟩ := peatShown_eq s r q
  rw [e, State.setReg64_peat, State.setReg64_peat, State.setFld_peat]
  exact ⟨rfl, rfl⟩

theorem peatShown_newest (s : State) (r : PeatRec) (q : List PeatRec) :
    (peatShown s r q).reg64 R.PEAT_NEWEST_LO = s.peat.nextSeq % 2 ^ 64 := by
  obtain ⟨old, e⟩ := peatShown_eq s r q
  rw [e, State.reg64_congr (State.reg_setReg64_ne _ _ (by decide) (by decide))
    (State.reg_setReg64_ne _ _ (by decide) (by decide)), State.reg64_setReg64]

theorem peatShown_lost (s : State) (r : PeatRec) (q : List PeatRec) :
    (peatShown s r q).fld R.PEAT_STATUS F.PEAT_STATUS_LOST = s.fld R.PEAT_STATUS F.PEAT_STATUS_LOST := by
  obtain ⟨old, e⟩ := peatShown_eq s r q
  rw [e, State.fld_of_reg (State.reg_setReg64_ne _ _ (by decide) (by decide)),
    State.fld_of_reg (State.reg_setReg64_ne _ _ (by decide) (by decide)),
    State.fld_setFld_apart _ _ _ _ _ (by decide) (by decide), State.fld_of_reg (State.reg_of_regs (peatStored_regs s r q) _)]

/-- What holds of the log as shown, and stays through a LOST record, holds after PEAT_RECORD_COMMIT. -/
theorem peatCommit_induct {p : State → Prop} {s : State} {r : PeatRec} {q : List PeatRec} (h : s.peat.queue = r :: q)
    (hp : p (peatShown s r q)) (hl : ∀ u v, p u → p ((u.setFld R.PEAT_STATUS F.PEAT_STATUS_LOST 0).peatPush 0xB 0xFFFF v)) :
    p (peatCommit s) := by
  rw [peatCommit_cons h]
  split
  · exact hp
  · exact hl _ _ hp

theorem State.byte_of_bookkeeps {s t : State} (h : Bookkeeps s t) (a : Nat) : t.byte a = s.byte a :=
  State.byte_congr ((congrArg State.mem h).trans rfl) ((congrArg State.dramEpoch h).trans rfl)
    ((congrArg State.freeCtr h).trans rfl) a

theorem State.read_congr {s t : State} (h : ∀ a, t.byte a = s.byte a) (n : Nat) :
    ∀ a, t.read a n = s.read a n := by
  induction n with
  | zero => exact fun _ => rfl
  | succ n ih =>
    intro a
    rw [State.read, State.read, h, ih]

theorem peatPush_nextSeq (s : State) (typ origin : Nat) (data : List Byte) :
    (s.peatPush typ origin data).peat.nextSeq = s.peat.nextSeq := by
  unfold State.peatPush
  split
  · rw [State.setFld_peat]
  · rw [State.satInc_peat]

/-- A record committed: its bytes in its slot and no byte else, its SEQ in NEWEST, the next SEQ one up (20 R583, R585). -/
theorem peatCommit_writes {s : State} {r : PeatRec} {q : List PeatRec} (h : s.peat.queue = r :: q) :
    (∀ a, (peatCommit s).byte a = (s.write (peatSlot s.peat.nextSeq) (peatBytes s.peat.nextSeq r)).byte a) ∧
      (peatCommit s).peat.nextSeq = s.peat.nextSeq + 1 ∧
      (peatCommit s).reg64 R.PEAT_NEWEST_LO = s.peat.nextSeq % 2 ^ 64 ∧
      (s.fld R.PEAT_STATUS F.PEAT_STATUS_LOST = 0 → (peatCommit s).peat.queue = q) := by
  refine ⟨fun a => ?_, ?_, ?_, fun hl => ?_⟩
  · exact peatCommit_induct (p := fun t => t.byte a =
        (s.write (peatSlot s.peat.nextSeq) (peatBytes s.peat.nextSeq r)).byte a) h (peatShown_byte s r q a) fun u v hu =>
      (State.byte_of_bookkeeps (((Bookkeeps.refl u).setFld _ _ _).trans (peatPush_bookkeeps ..)) a).trans hu
  · exact peatCommit_induct (p := fun t => t.peat.nextSeq = s.peat.nextSeq + 1) h (peatShown_peat s r q).2 fun u v hu => by
      rw [peatPush_nextSeq, State.setFld_peat, hu]
  · refine peatCommit_induct (p := fun t => t.reg64 R.PEAT_NEWEST_LO = s.peat.nextSeq % 2 ^ 64) h
      (peatShown_newest s r q) fun u v hu => ?_
    have k := peatPush_regs (typ := 0xB) (origin := 0xFFFF) (data := v)
      ((SameRegs.refl u (· = R.PEAT_STATUS)).setFld (f := F.PEAT_STATUS_LOST) (v := 0) rfl) rfl
    rw [State.reg64_congr (k _ (by decide)).1 (k _ (by decide)).1, hu]
  · rw [peatCommit_cons h, if_pos ((peatShown_lost s r q).trans hl)]
    exact (peatShown_peat s r q).1

/-! ### EventsAndLog, part by part -/

theorem State.lost_bookkeeps (s : State) (b : Bool) (a : Nat) : Bookkeeps s (s.lost b a) := (Bookkeeps.refl s).lost b a

theorem eventDelivery_delivers {src : Fin 1024} {s : State} (hs : s.serving = true) (h : src.val ∈ s.evPend) (lost : Bool) :
    let w := s.reg (R.EVT_ROUTE src.val)
    Completes (.eventDelivery src lost) s fun t =>
      t.evPend = NatSet.erase s.evPend src.val ∧
      (w.get F.EVT_ROUTE_FROND_EN = 1 → t.lineUp (w.get F.EVT_ROUTE_FROND) (w.get F.EVT_ROUTE_LINE) = true) ∧
      (w.get F.EVT_ROUTE_MSIX_EN = 1 → arrayBit t R.HOST_PEND src.val = true ∧
        (arrayBit s R.HOST_PEND src.val = true → arrayBit t R.HOST_MERGED src.val = true ∧ t.out = s.out) ∧
        (arrayBit s R.HOST_PEND src.val = false → vectorFree s (w.get F.EVT_ROUTE_VECTOR) = true →
          t.out = s.out ++ [.msix (w.get F.EVT_ROUTE_VECTOR)])) ∧
      (w.get F.EVT_ROUTE_PEAT_EN = 1 → s.peat.queue.length < 64 →
        t.peat.queue = s.peat.queue ++ [⟨s.now, 4, originOf src.val, bytesLE 2 src.val⟩]) ∧ SameMem s t := by
  intro w
  have counted := SameRegs.lost (b := lost) (a := R.EVT_RACE) (SameRegs.refl (eventDeliver src s) (· = R.EVT_RACE)) rfl
  have hw : w.get F.EVT_ROUTE_FROND < 64 := Word.get_lt _ _
  have bit : ∀ r : Nat → Nat, r (src.val / 32) ≠ R.EVT_RACE →
      arrayBit ((eventDeliver src s).lost lost R.EVT_RACE) r src.val = arrayBit (eventDeliver src s) r src.val :=
    fun r hr => arrayBit_of_reg (counted _ hr).1
  refine ⟨_, next_eq (State.whenServing_true hs _), ?_, fun en => ?_, fun en => ?_, fun en room => ?_, ?_⟩
  · rw [State.lost_evPend, eventDeliver_evPend h]
  · rw [State.lineUp_of_sameRegs counted]
    · exact eventDeliver_line h en
    · simp only [R.FRD_EVT_PEND_LO, R.EVT_RACE]; omega
    · simp only [R.FRD_EVT_PEND_HI, R.EVT_RACE]; omega
  · rw [bit R.HOST_PEND (by simp only [R.HOST_PEND, R.EVT_RACE]; omega),
      bit R.HOST_MERGED (by simp only [R.HOST_MERGED, R.EVT_RACE]; omega), State.lost_out]
    exact eventDeliver_host src.isLt h en
  · rw [State.lost_peat, eventDeliver_peat h en room]
  · exact ((eventDeliver_bookkeeps ..).lost _ _).sameMem

theorem evtAck_acknowledges {src : Fin 1024} {s : State} (hs : s.serving = true) (hr : hostReaches s = true)
    (lost : Bool) : Completes (.evtAck src lost) s fun t =>
      arrayBit t R.HOST_PEND src.val = arrayBit s R.HOST_MERGED src.val ∧ arrayBit t R.HOST_MERGED src.val = false ∧
        (arrayBit s R.HOST_MERGED src.val = false → t.out = s.out) ∧ SameMem s t := by
  have e : exec (.evtAck src lost) s = .next ((eventAck src s).lost lost R.HOST_RACE) :=
    next_eq ((State.whenServing_true hs _).trans (if_pos hr))
  have counted := SameRegs.lost (b := lost) (a := R.HOST_RACE) (SameRegs.refl (eventAck src s) (· = R.HOST_RACE)) rfl
  obtain ⟨pend, merged, sent⟩ := eventAck_pend src.isLt s
  refine ⟨_, e, (arrayBit_of_reg (counted _ ?_).1).trans pend, (arrayBit_of_reg (counted _ ?_).1).trans merged, fun h => ?_,
    ((eventAck_bookkeeps ..).lost _ _).sameMem⟩
  · simp only [R.HOST_PEND, R.HOST_RACE]; omega
  · simp only [R.HOST_MERGED, R.HOST_RACE]; omega
  · rw [State.lost_out, sent h]

theorem peatRecordCommit_writes {s : State} {r : PeatRec} {q : List PeatRec} (hs : s.serving = true)
    (h : s.peat.queue = r :: q) (lost : Bool) : Completes (.peatRecordCommit lost) s fun t =>
      t.peat.nextSeq = s.peat.nextSeq + 1 ∧ t.read (peatSlot s.peat.nextSeq) 64 = peatBytes s.peat.nextSeq r ∧
        (∀ a, a < peatSlot s.peat.nextSeq ∨ peatSlot s.peat.nextSeq + 64 ≤ a → t.byte a = s.byte a) ∧
        t.reg64 R.PEAT_NEWEST_LO = s.peat.nextSeq % 2 ^ 64 ∧
        (s.fld R.PEAT_STATUS F.PEAT_STATUS_LOST = 0 → t.peat.queue = q) := by
  obtain ⟨bytes, seq, newest, queue⟩ := peatCommit_writes h
  have counted := State.lost_bookkeeps (peatCommit s) lost R.PWR_RACE
  have same : ∀ a, ((peatCommit s).lost lost R.PWR_RACE).byte a = _ :=
    fun a => (State.byte_of_bookkeeps counted a).trans (bytes a)
  have len := peatBytes_length s.peat.nextSeq r
  refine ⟨_, next_eq (State.whenServing_true hs _), ?_, ?_, fun a ha => ?_, ?_, fun hl => ?_⟩
  · rw [State.lost_peat, seq]
  · rw [State.read_congr same, ← len, State.read_write_self]
  · rw [same, State.byte_write_outside _ _ _ _ (by rw [len]; exact ha)]
  · rw [State.reg64_congr (State.reg_lost _ _ (by decide)) (State.reg_lost _ _ (by decide)), newest]
  · rw [State.lost_peat, queue hl]

theorem peatFwCmd_queues {s : State} (hw : s.working = true) (f : Fin 64) {typ : BitVec 16} (h : 0x8000 ≤ typ.toNat)
    (room : s.peat.queue.length < 64) : Completes (.peatFwCmd f typ) s fun t =>
      t.peat.queue = s.peat.queue ++
        [⟨s.now, typ.toNat, f.val, (List.range 10).flatMap (fun k => bytesLE 4 (s.reg (R.PEAT_FW_DATA k)).toNat)⟩] ∧
      SameMem s t := by
  have e : exec (.peatFwCmd f typ) s = .next (s.peatPush typ.toNat f.val
      ((List.range 10).flatMap (fun k => bytesLE 4 (s.reg (R.PEAT_FW_DATA k)).toNat))) :=
    next_eq ((State.whenWorking_true hw _).trans (if_neg (Nat.not_lt.mpr h)))
  exact ⟨_, e, State.peatPush_queue room .., (peatPush_bookkeeps ..).sameMem⟩

theorem State.whenMailbox_true {s : State} (hs : s.serving = true) (hr : hostReaches s = true) (f : State → State) :
    s.whenMailbox f = f s := by simp [State.whenMailbox, hs, hr]

/-- What the peat window's two commands do for a host that may read the log (20 R588). -/
theorem peatWindow_open {s : State} (hs : s.serving = true) (hr : hostReaches s = true) (ho : peatOpen s = true)
    (o : Fin 32768) (v : BitVec 32) :
    exec (.peatWindowRead o) s = .next (s.emit (.windowRead (bytesLE 4 (peatWindow (4 * o.val) s).toNat))) ∧
      Completes (.peatWinSeqWrite v) s fun t => t.peat.winSeq = (s.reg R.WIN_SEQ_LO).toNat + 2 ^ 32 * v.toNat ∧
        t = { s.setReg R.WIN_SEQ_HI v with peat := t.peat } ∧ t.peat = { s.peat with winSeq := t.peat.winSeq } := by
  refine ⟨next_eq ((State.whenMailbox_true hs hr _).trans (if_pos ho)), _,
    next_eq ((State.whenMailbox_true hs hr _).trans (if_pos ho)), ?_, rfl, rfl⟩
  have lo : (s.setReg R.WIN_SEQ_HI v).reg R.WIN_SEQ_LO = s.reg R.WIN_SEQ_LO := State.reg_setReg_ne s v (by decide)
  have hi : (s.setReg R.WIN_SEQ_HI v).reg (R.WIN_SEQ_LO + 4) = v := State.reg_setReg_self s R.WIN_SEQ_HI v
  show (s.setReg R.WIN_SEQ_HI v).reg64 R.WIN_SEQ_LO = _
  rw [State.reg64, lo, hi]

theorem peatWindow_closed {s : State} (hs : s.serving = true) (hr : hostReaches s = true) (hc : peatOpen s = false)
    (o : Fin 32768) (v : BitVec 32) :
    exec (.peatWindowRead o) s = .next (countDenied (s.emit (.windowRead [0, 0, 0, 0]))) ∧
      exec (.peatWinSeqWrite v) s = .next (countDenied (s.setFld R.REQ_STATUS F.REQ_STATUS_RESULT 5)) := by
  have h : ¬ peatOpen s = true := by rw [hc]; exact Bool.false_ne_true
  exact ⟨next_eq ((State.whenMailbox_true hs hr _).trans (if_neg h)),
    next_eq ((State.whenMailbox_true hs hr _).trans (if_neg h))⟩

/-- Settles O33, part by part: deliveries, acknowledgements, the log's writes, firmware's records and the window. -/
theorem eventsAndLog : Obligations.EventsAndLog := by
  intro s lost hs
  refine ⟨fun src => ⟨fun h => ?_, fun h => eventDelivery_delivers hs h lost⟩, fun src => ⟨fun h => ?_, fun h => ?_⟩,
    fun r q h => peatRecordCommit_writes hs h lost, fun hw f typ => ⟨fun h => ?_, fun h room => ?_⟩, fun hr o v => ⟨?_, ?_⟩⟩
  · exact next_eq ((State.whenServing_true hs _).trans (congrArg (State.lost · lost R.EVT_RACE) (eventDeliver_idle h)))
  · exact next_eq ((State.whenServing_true hs _).trans (if_neg (by rw [h]; exact Bool.false_ne_true)))
  · exact evtAck_acknowledges hs h lost
  · exact next_eq ((State.whenWorking_true hw _).trans (if_pos h))
  · exact peatFwCmd_queues hw f h room
  · exact fun ho => peatWindow_open hs hr ho o v
  · exact fun hc => peatWindow_closed hs hr hc o v

/-! ### Requests of fronds and of the host (01 R29, 15 R464) -/

theorem reqShow_last (k r : Nat) (s : State) (h : k < 256) : (reqShow k r s).fld R.REQ_STATUS F.REQ_STATUS_LAST = k := by
  rw [reqShow, State.fld_setFld_apart _ _ _ _ _ (by decide) (by decide), State.fld_setFld_self _ _ _ _ (by decide)]
  exact Nat.mod_eq_of_lt h

theorem reqShow_result (k r : Nat) (s : State) (h : r < 16) : (reqShow k r s).fld R.REQ_STATUS F.REQ_STATUS_RESULT = r := by
  rw [reqShow, State.fld_setFld_self _ _ _ _ (by decide)]
  exact Nat.mod_eq_of_lt h

theorem reqShow_denied (k r : Nat) (s : State) :
    (reqShow k r s).fld R.REQ_STATUS F.REQ_STATUS_DENIED = s.fld R.REQ_STATUS F.REQ_STATUS_DENIED := by
  rw [reqShow, State.fld_setFld_apart _ _ _ _ _ (by decide) (by decide),
    State.fld_setFld_apart _ _ _ _ _ (by decide) (by decide)]

theorem reqShow_regs {s t : State} {p : Nat → Prop} {k r : Nat} (h : SameRegs s t p) (hp : p R.REQ_STATUS) :
    SameRegs s (reqShow k r t) p := (h.setFld hp).setFld hp

theorem countDenied_regs {s t : State} {p : Nat → Prop} (h : SameRegs s t p) (hp : p R.REQ_STATUS) (hl : p R.EVT_LOST) :
    SameRegs s (countDenied t) p := (h.satInc hp).raise hl

theorem reqShow_bookkeeps (k r : Nat) (s : State) : Bookkeeps s (reqShow k r s) := ((Bookkeeps.refl s).setFld ..).setFld ..

theorem countDenied_bookkeeps (s : State) : Bookkeeps s (countDenied s) := ((Bookkeeps.refl s).satInc ..).raise _

/-- The hold-off of request register k begins, where the booted spore sets one (02 R57). -/
def holdOff (k : Nat) (s : State) : State :=
  let ms := (s.boot.spore.map (fun (w : Spore) => w.hostReqMin)).getD 0
  let h := if ms = 0 then s.boot.holdoff else Sparse.put (fun _ => none) s.boot.holdoff k (s.now + ms * 1000000)
  { s with boot := { s.boot with holdoff := h } }

/-- Whether request register k is held off. -/
def heldOff (s : State) (k : Nat) : Bool := (Sparse.find s.boot.holdoff k).any (fun t => decide (s.now < t))

theorem hostRequest_denied {s : State} {perm : Nat} (h : permits s perm = false) (k : Nat) (f : State → State × Nat) :
    hostRequest k perm f s = countDenied (reqShow k 5 s) := by
  rw [hostRequest, h]
  exact if_pos rfl

theorem hostRequest_heldOff {s : State} {k perm : Nat} (h : permits s perm = true) (ho : heldOff s k = true)
    (f : State → State × Nat) : hostRequest k perm f s = reqShow k 6 s := by
  rw [hostRequest, h, if_neg (by decide)]
  exact if_pos ho

theorem hostRequest_taken {s : State} {k perm : Nat} (h : permits s perm = true) (ho : heldOff s k = false)
    (f : State → State × Nat) : hostRequest k perm f s = reqShow k (f s).2 (holdOff k (f s).1) := by
  rw [hostRequest, h, if_neg (by decide)]
  exact if_neg (by rw [← heldOff, ho]; exact Bool.false_ne_true)

/-- A host request is denied, held off, or taken and its hold-off begun. -/
theorem hostRequest_cases (k perm : Nat) (f : State → State × Nat) (s : State) :
    hostRequest k perm f s = countDenied (reqShow k 5 s) ∨ hostRequest k perm f s = reqShow k 6 s ∨
      hostRequest k perm f s = reqShow k (f s).2 (holdOff k (f s).1) := by
  cases h : permits s perm
  · exact .inl (hostRequest_denied h k f)
  · cases ho : heldOff s k
    · exact .inr (.inr (hostRequest_taken h ho f))
    · exact .inr (.inl (hostRequest_heldOff h ho f))

theorem State.whenWindow_true {s : State} (hw : s.working = true) (hr : hostReaches s = true) (f : State → State) :
    s.whenWindow f = f s := by simp [State.whenWindow, hw, hr]

/-! #### MAINT requests while a run is active -/

/-- What a MAINT request answers in a run, whoever makes it: nothing changes, and the code refuses (01 R29). -/
def RefusedAsk (s : State) (p : State × Nat) : Prop := p.1 = s ∧ (p.2 = 3 ∨ p.2 = 4)

theorem askMaintEnter_refused {s : State} (h : s.runActive = true) : RefusedAsk s (askMaintEnter s) := by
  unfold askMaintEnter
  split
  · exact ⟨rfl, .inl rfl⟩
  · exact ⟨rfl, .inr rfl⟩

theorem askMaintExit_refused {s : State} (h : s.runActive = true) : RefusedAsk s (askMaintExit s) := by
  unfold askMaintExit
  split
  · exact ⟨rfl, .inl rfl⟩
  · exact ⟨rfl, .inr rfl⟩

/-- The state as before but for registers that `p` names, the pending marks and the host's hold-offs. -/
structure RunUntouched (p : Nat → Prop) (s t : State) : Prop where
  mode : t.mode = s.mode
  mem : SameMem s t
  streams : t.streams = s.streams
  root : t.root = s.root
  regs : SameRegs s t p

theorem RunUntouched.refl (p : Nat → Prop) (s : State) : RunUntouched p s s :=
  ⟨rfl, .refl s, rfl, rfl, .refl s p⟩

theorem RunUntouched.trans {p : Nat → Prop} {s t u : State} (h : RunUntouched p s t) (k : RunUntouched p t u) :
    RunUntouched p s u :=
  ⟨k.mode.trans h.mode, h.mem.trans k.mem, k.streams.trans h.streams, k.root.trans h.root, h.regs.trans k.regs⟩

theorem RunUntouched.of_bookkeeps {p : Nat → Prop} {s t : State} (h : Bookkeeps s t) (r : SameRegs s t p) :
    RunUntouched p s t :=
  ⟨h.mode, h.sameMem, (congrArg State.streams h).trans rfl, (congrArg State.root h).trans rfl, r⟩

theorem RunUntouched.runActive {p : Nat → Prop} {s t : State} (h : RunUntouched p s t) (hp : ¬ p R.SYS_STATE) :
    t.runActive = s.runActive := State.bit_of_reg (h.regs _ hp).1 _

theorem RunUntouched.lost {p : Nat → Prop} {s t : State} {b : Bool} {a : Nat} (h : RunUntouched p s t) (hp : p a) :
    RunUntouched p s (t.lost b a) :=
  h.trans (.of_bookkeeps (t.lost_bookkeeps b a) ((SameRegs.refl t p).lost hp))

theorem holdOff_untouched (p : Nat → Prop) (k : Nat) (s : State) : RunUntouched p s (holdOff k s) :=
  ⟨rfl, SameMem.of_eq rfl rfl, rfl, rfl, SameRegs.of_eq rfl rfl⟩

/-- A refused request of the host leaves the run untouched, and REQ_STATUS refuses it (15 R464). -/
theorem hostRequest_refused {p : Nat → Prop} {s : State} {f : State → State × Nat} (hf : RefusedAsk s (f s))
    (hq : p R.REQ_STATUS) (hl : p R.EVT_LOST) (perm : Nat) {k : Nat} (hk : k < 256) :
    RunUntouched p s (hostRequest k perm f s) ∧
      3 ≤ (hostRequest k perm f s).fld R.REQ_STATUS F.REQ_STATUS_RESULT ∧
      (hostRequest k perm f s).fld R.REQ_STATUS F.REQ_STATUS_RESULT ≤ 6 ∧
      (hostRequest k perm f s).fld R.REQ_STATUS F.REQ_STATUS_LAST = k := by
  obtain ⟨same, code⟩ := hf
  have shown : ∀ r t, RunUntouched p t (reqShow k r t) := fun r t =>
    .of_bookkeeps (reqShow_bookkeeps ..) (reqShow_regs (SameRegs.refl t p) hq)
  rcases hostRequest_cases k perm f s with e | e | e
  · rw [e, countDenied_fld_apart (by decide), countDenied_fld_apart (by decide), reqShow_result _ _ _ (by decide),
      reqShow_last _ _ _ hk]
    exact ⟨(shown 5 s).trans (.of_bookkeeps (countDenied_bookkeeps _) (countDenied_regs (SameRegs.refl _ p) hq hl)),
      by decide, by decide, rfl⟩
  · rw [e, reqShow_result _ _ _ (by decide), reqShow_last _ _ _ hk]
    exact ⟨shown 6 s, by decide, by decide, rfl⟩
  · rw [e, same, reqShow_result _ _ _ (by omega), reqShow_last _ _ _ hk]
    exact ⟨(holdOff_untouched p k s).trans (shown _ _), by omega, by omega, rfl⟩

/-- A refused request of a frond leaves the run untouched, and RUN_STATUS refuses it. -/
theorem frondAsk_refused {p : Nat → Prop} {s : State} {f : State → State × Nat} (hf : RefusedAsk s (f s))
    (hp : p R.RUN_STATUS) : RunUntouched p s (frondAsk f s) ∧
      ((frondAsk f s).fld R.RUN_STATUS F.RUN_STATUS_RESULT = 3 ∨
        (frondAsk f s).fld R.RUN_STATUS F.RUN_STATUS_RESULT = 4) := by
  obtain ⟨same, code⟩ := hf
  have e : frondAsk f s = s.setFld R.RUN_STATUS F.RUN_STATUS_RESULT (f s).2 := by rw [frondAsk, same]
  rw [e, State.fld_setFld_self _ _ _ _ (by decide)]
  refine ⟨.of_bookkeeps ((Bookkeeps.refl s).setFld ..) ((SameRegs.refl s p).setFld hp), ?_⟩
  rcases code with h | h
  · exact .inl (by rw [h]; rfl)
  · exact .inr (by rw [h]; rfl)

/-- A MAINT request that leaves the operating state meets no start: the start goes on (01 R32). -/
theorem maintOver_refused {m : StartMeet} {ask : State → State} {s : State} (h : (ask s).mode = s.mode) :
    maintOver m ask s = ask s := by
  unfold maintOver
  rw [h]
  cases s.mode <;> rfl

/-- RUN_CTRL's place in the register map: nothing is stored there (20 R590). -/
def runCtrlDesc : RegDesc := ⟨0x0, [], 0x0, 0x0, 0x0, 0x0, 0x1f⟩

theorem descOf_runCtrl : descOf (canonReg R.RUN_CTRL) = some runCtrlDesc := by decide +kernel

theorem regionOf_runCtrl : regionOf R.RUN_CTRL = .block 0x30 := by decide +kernel

theorem runCtrl_stored (s : State) (v : Word) :
    s.stored R.RUN_CTRL runCtrlDesc v 0 0 = s.setReg R.RUN_CTRL (s.reg R.RUN_CTRL) := by
  have races : racesMet runCtrlDesc v 0 0 = 0 := by simp [racesMet, popCount]
  have word : storedWord runCtrlDesc (s.reg R.RUN_CTRL) v 0 = s.reg R.RUN_CTRL := by
    have none : BitVec.ofNat 32 (runCtrlDesc.rw ||| runCtrlDesc.rws) = 0#32 := rfl
    have clears : BitVec.ofNat 32 runCtrlDesc.w1c = 0#32 := rfl
    simp only [storedWord, none, clears, BitVec.and_zero, BitVec.zero_and, BitVec.not_zero, BitVec.and_allOnes,
      BitVec.or_zero]
  rw [State.stored, races, word]
  rfl

/-- A write of RUN_CTRL by a frond stores nothing and asks (20, RUN_CTRL). -/
theorem exec_runCtrl {s : State} (hw : s.working = true) (f : Fin 64) {a : Fin 562949953421312} (ha : a.val = R.RUN_CTRL)
    (v : Word) : exec (.registerWrite (.frond f) a v 0 0) s =
      .next (runWritten R.RUN_CTRL 0 v (s.reg R.RUN_CTRL) (s.setReg R.RUN_CTRL (s.reg R.RUN_CTRL))) := by
  have canon : canonReg R.RUN_CTRL = R.RUN_CTRL := by decide
  have mask : v &&& ~~~((0 : Word) &&& BitVec.ofNat 32 runCtrlDesc.w1c) = v := by
    show v &&& ~~~(0#32 &&& _) = v
    simp only [BitVec.zero_and, BitVec.not_zero, BitVec.and_allOnes]
  rw [exec_registerWrite_working (q := .frond f) nofun (by rw [ha]; decide) hw, ha,
    writeReg_stored descOf_runCtrl (fun h => absurd rfl h), canon, runCtrl_stored, mask, afterWrite, regionOf_runCtrl]
  rfl

theorem setReg_reg_untouched (p : Nat → Prop) (s : State) (a : Nat) : RunUntouched p s (s.setReg a (s.reg a)) :=
  .of_bookkeeps rfl fun b _ => ⟨by rw [State.reg_setReg]; split <;> simp_all, rfl⟩

/-- A MAINT request that a frond writes to RUN_CTRL in a run. -/
theorem runCtrl_refused {s : State} (hw : s.working = true) (ha : s.runActive = true) (f : Fin 64)
    {a : Fin 562949953421312} (h : a.val = R.RUN_CTRL) {v : Word} (hv : v = 8 ∨ v = 16) {p : Nat → Prop}
    (hp : p R.RUN_STATUS) (hs : ¬ p R.SYS_STATE) : Completes (.registerWrite (.frond f) a v 0 0) s fun t =>
      RunUntouched p s t ∧ (t.fld R.RUN_STATUS F.RUN_STATUS_RESULT = 3 ∨ t.fld R.RUN_STATUS F.RUN_STATUS_RESULT = 4) := by
  have stored := setReg_reg_untouched p s R.RUN_CTRL
  have active := (stored.runActive hs).trans ha
  refine ⟨_, exec_runCtrl hw f h v, ?_⟩
  rcases hv with rfl | rfl
  · obtain ⟨same, told⟩ := frondAsk_refused (askMaintEnter_refused active) hp
    exact ⟨stored.trans same, told⟩
  · obtain ⟨same, told⟩ := frondAsk_refused (askMaintExit_refused active) hp
    exact ⟨stored.trans same, told⟩

theorem reqMaint_refused {s : State} (ha : s.runActive = true) (enter exit : Bool) :
    RefusedAsk s (reqMaint enter exit s) := by
  unfold reqMaint
  split
  · exact ⟨rfl, .inl rfl⟩
  · split
    · exact askMaintEnter_refused ha
    · exact askMaintExit_refused ha

/-- Settles O38: each of the five requests is refused, which leaves the run untouched. -/
theorem maintRefusedInRun : Obligations.MaintRefusedInRun := by
  intro s lost hw ha stays told asked hostAsked
  have inRun : ∀ {p : Nat → Prop} {t : State}, ¬ p R.SYS_STATE → RunUntouched p s t → stays t p := fun hp h =>
    ⟨h.mode, (h.runActive hp).trans ha, h.mem, h.streams, h.root, h.regs⟩
  have frond := fun {f : State → State × Nat} (hf : RefusedAsk s (f s)) =>
    frondAsk_refused (p := fun a => a = R.RUN_STATUS ∨ a = R.SYS_RACE) hf (.inl rfl)
  have host := fun {f : State → State × Nat} (hf : RefusedAsk s (f s)) =>
    hostRequest_refused (p := fun a => a = R.REQ_STATUS ∨ a = R.EVT_LOST ∨ a = R.SYS_RACE) hf (.inl rfl) (.inr (.inl rfl)) 6
      (k := 4) (by decide)
  refine ⟨fun m => ?_, ?_, fun f a v h hv => ?_, fun hr => ⟨fun m => ?_, ?_⟩⟩
  · obtain ⟨same, code⟩ := frond (askMaintEnter_refused ha)
    refine ⟨_, next_eq ((State.whenWorking_true hw _).trans (maintOver_refused same.mode)), inRun (by decide) same, code⟩
  · obtain ⟨same, code⟩ := frond (askMaintExit_refused ha)
    refine ⟨_, next_eq (State.whenWorking_true hw _), inRun (by decide) (same.lost (.inr rfl)), ?_⟩
    exact code.imp (State.fld_of_reg (State.reg_lost _ _ (by decide)) _).trans
      (State.fld_of_reg (State.reg_lost _ _ (by decide)) _).trans
  · obtain ⟨t, e, same, code⟩ := runCtrl_refused hw ha f h hv (p := fun a => a = R.RUN_STATUS ∨ a = R.SYS_RACE) (.inl rfl)
      (by decide)
    exact ⟨t, e, inRun (by decide) same, code⟩
  · obtain ⟨same, shown⟩ := host (reqMaint_refused ha true false)
    exact ⟨_, next_eq ((State.whenWindow_true hw hr _).trans (maintOver_refused same.mode)), inRun (by decide) same, shown⟩
  · obtain ⟨same, shown⟩ := host (reqMaint_refused ha false true)
    refine ⟨_, next_eq (State.whenWindow_true hw hr _), inRun (by decide) (same.lost (.inr (.inr rfl))), ?_⟩
    rw [State.fld_of_reg (State.reg_lost _ _ (by decide)), State.fld_of_reg (State.reg_lost _ _ (by decide))]
    exact shown

/-! ### No function of the model but a start writes the board

A start takes the events that befall it from `bench.during`, one for each time it begins; nothing else of the model changes
`bench`. One lemma per function on the way from a start to its end, in the order of the model. -/

@[simp] theorem foldl_bench {α : Type} {f : State → α → State} (l : List α) (s : State)
    (h : ∀ t x, (f t x).bench = t.bench) : (l.foldl f s).bench = s.bench := by
  induction l generalizing s with
  | nil => rfl
  | cons x l ih => exact (ih _).trans (h s x)

@[simp] theorem ite_bench (c : Prop) [Decidable c] (s t : State) :
    (if c then s else t).bench = if c then s.bench else t.bench := apply_ite State.bench c s t


@[simp] theorem State.islandWrite_bench (s : State) (a : Nat) (l : List Byte) : (s.islandWrite a l).bench = s.bench := by
  induction l generalizing s a with
  | nil => rfl
  | cons b l ih => exact (ih _ _).trans (by split <;> rfl)
@[simp] theorem State.forget_bench (s : State) (lo hi : Nat) : (State.forget s lo hi).bench = s.bench := by
  simp -implicitDefEqProofs [State.forget]
@[simp] theorem State.flagEvent_bench (s : State) (a : Nat) (f : Fld) (src : Nat) :
    (State.flagEvent s a f src).bench = s.bench := by
  simp -implicitDefEqProofs [State.flagEvent]
@[simp] theorem State.cond_bench (s : State) (c : Bool) (f : State → State) (h : ∀ t, (f t).bench = t.bench) :
    (s.cond c f).bench = s.bench := by
  unfold State.cond
  split
  · exact h s
  · rfl
@[simp] theorem State.peatPush_bench (s : State) (typ origin : Nat) (data : List Byte) :
    (State.peatPush s typ origin data).bench = s.bench := by
  simp -implicitDefEqProofs [State.peatPush]
@[simp] theorem State.setStream_bench (s : State) (n : Nat) (x : Stream) : (State.setStream s n x).bench = s.bench := by
  simp -implicitDefEqProofs [State.setStream]
@[simp] theorem State.setQueue_bench (s : State) (src : Nat) (l : List Rec) :
    (State.setQueue s src l).bench = s.bench := by
  simp -implicitDefEqProofs [State.setQueue]
@[simp] theorem State.pushRec_bench (s : State) (r : Rec) : (State.pushRec s r).bench = s.bench := by
  simp -implicitDefEqProofs [State.pushRec]
@[simp] theorem eccBad_bench (dram : Bool) (addr : Nat) (s : State) : (eccBad dram addr s).bench = s.bench := by
  simp -implicitDefEqProofs [eccBad]
@[simp] theorem State.whenWorking_bench (s : State) (f : State → State) (h : ∀ t, (f t).bench = t.bench) :
    (s.whenWorking f).bench = s.bench := by
  unfold State.whenWorking
  split
  · exact h s
  · rfl
@[simp] theorem CommitUnit.commit_bench (u : CommitUnit) (s : State) : (u.commit s).bench = s.bench := by
  simp -implicitDefEqProofs [CommitUnit.commit]
@[simp] theorem State.takeShadows_bench (s : State) (l : List Nat) : (s.takeShadows l).bench = s.bench := by
  induction l generalizing s with
  | nil => rfl
  | cons a l ih => exact ih _
@[simp] theorem CommitUnit.take_bench (u : CommitUnit) (s : State) : (u.take s).bench = s.bench := by
  unfold CommitUnit.take
  simp only []
  (repeat' split) <;> simp -implicitDefEqProofs

@[simp] theorem State.setSreg64_bench (s : State) (lo : Nat) (v : Int) : (State.setSreg64 s lo v).bench = s.bench := by
  simp -implicitDefEqProofs [State.setSreg64]
@[simp] theorem State.setSfld_bench (s : State) (a : Nat) (f : Fld) (v : Int) :
    (State.setSfld s a f v).bench = s.bench := by
  simp -implicitDefEqProofs [State.setSfld]
@[simp] theorem State.race_bench (s : State) (a n : Nat) : (s.race a n).bench = s.bench := by
  unfold State.race
  split <;> simp -implicitDefEqProofs

@[simp] theorem State.setImg_bench (s : State) (n : Nat) (x : ImgSt) : (State.setImg s n x).bench = s.bench := by
  simp -implicitDefEqProofs [State.setImg]
@[simp] theorem State.setTp_bench (s : State) (n : Nat) (x : TpSt) : (State.setTp s n x).bench = s.bench := by
  simp -implicitDefEqProofs [State.setTp]
@[simp] theorem State.setEnc_bench (s : State) (n : Nat) (x : EncSt) : (State.setEnc s n x).bench = s.bench := by
  simp -implicitDefEqProofs [State.setEnc]
@[simp] theorem State.setPt_bench (s : State) (t : Nat) (x : PtSt) : (State.setPt s t x).bench = s.bench := by
  simp -implicitDefEqProofs [State.setPt]
@[simp] theorem State.setPosItems_bench (s : State) (c : Nat) (l : List PosItem) :
    (State.setPosItems s c l).bench = s.bench := by
  simp -implicitDefEqProofs [State.setPosItems]
@[simp] theorem encFault_bench (s : State) (n : Nat) (f : Fld) : (encFault s n f).bench = s.bench := by
  simp -implicitDefEqProofs [encFault]
@[simp] theorem cmpNote_bench (s : State) (m : Nat) : (cmpNote s m).bench = s.bench := by
  simp -implicitDefEqProofs [cmpNote]
@[simp] theorem cmpArm_bench (s : State) (m : Nat) : (cmpArm s m).bench = s.bench := by simp -implicitDefEqProofs [cmpArm]
@[simp] theorem cmpTake_bench (s : State) (m : Nat) : (cmpTake s m).bench = s.bench := by
  simp -implicitDefEqProofs [cmpTake]
@[simp] theorem cmpRejudge_bench (n : Nat) (s : State) (m : Nat) : (cmpRejudge n s m).bench = s.bench := by
  simp -implicitDefEqProofs [cmpRejudge]
@[simp] theorem cmpRenote_bench (n : Nat) (s : State) (m : Nat) : (cmpRenote n s m).bench = s.bench := by
  simp -implicitDefEqProofs [cmpRenote]
@[simp] theorem ptFollow_bench (n : Nat) (s : State) (t : Nat) : (ptFollow n s t).bench = s.bench := by
  simp -implicitDefEqProofs [ptFollow]
@[simp] theorem ptTake_bench (s : State) (t : Nat) : (ptTake s t).bench = s.bench := by simp -implicitDefEqProofs [ptTake]
@[simp] theorem ptRebase_bench (n : Nat) (s : State) (t : Nat) : (ptRebase n s t).bench = s.bench := by
  simp -implicitDefEqProofs [ptRebase]
@[simp] theorem sendItem_bench (s : State) (n : Nat) (i : PosItem) : (sendItem s n i).bench = s.bench := by
  simp -implicitDefEqProofs [sendItem]
@[simp] theorem windowStart_bench (s : State) (n : Nat) : (windowStart s n).bench = s.bench := by
  simp -implicitDefEqProofs [windowStart]
@[simp] theorem noteSpeed_bench (s : State) (n : Nat) : (noteSpeed s n).bench = s.bench := by
  simp -implicitDefEqProofs [noteSpeed]
@[simp] theorem windowClose_bench (s : State) (n : Nat) : (windowClose s n).bench = s.bench := by
  simp -implicitDefEqProofs [windowClose]
@[simp] theorem encLoad_bench (s : State) (n : Nat) (p : Int) : (encLoad s n p).bench = s.bench := by
  simp -implicitDefEqProofs [encLoad]
@[simp] theorem encWithhold_bench (s : State) (n : Nat) : (encWithhold s n).bench = s.bench := by
  simp -implicitDefEqProofs [encWithhold]
@[simp] theorem takeWatchers_bench (n : Nat) (s : State) : (takeWatchers n s).bench = s.bench := by
  simp -implicitDefEqProofs [takeWatchers]
@[simp] theorem encTake_bench (s : State) (n : Nat) : (encTake s n).bench = s.bench := by
  simp -implicitDefEqProofs [encTake]
@[simp] theorem encCommit_bench (n : Nat) (s : State) : (encCommit n s).bench = s.bench := by
  simp -implicitDefEqProofs [encCommit]
@[simp] theorem cmpCommit_bench (m : Nat) (s : State) : (cmpCommit m s).bench = s.bench := by
  simp -implicitDefEqProofs [cmpCommit]
@[simp] theorem ptCommit_bench (t : Nat) (s : State) : (ptCommit t s).bench = s.bench := by
  simp -implicitDefEqProofs [ptCommit]

@[simp] theorem State.setEngine_bench (s : State) (t : Nat) (e : Engine) : (State.setEngine s t e).bench = s.bench := by
  simp -implicitDefEqProofs [State.setEngine]
@[simp] theorem engineNext_bench (s : State) (t : Nat) : (engineNext s t).bench = s.bench := by
  unfold engineNext
  simp only []
  (repeat' split) <;> simp -implicitDefEqProofs
@[simp] theorem scriptBegin_bench (s : State) (t phase : Nat) : (scriptBegin s t phase).bench = s.bench := by
  unfold scriptBegin
  split <;> simp -implicitDefEqProofs
@[simp] theorem scriptRun_bench (t : Nat) (s : State) : (scriptRun t s).bench = s.bench := by
  unfold scriptRun
  simp only []
  (repeat' split) <;> simp -implicitDefEqProofs
@[simp] theorem readyCheck_bench (s : State) : (readyCheck s).bench = s.bench := by
  unfold readyCheck
  split <;> simp -implicitDefEqProofs

@[simp] theorem State.setLine_bench (s : State) (f l : Nat) : (State.setLine s f l).bench = s.bench := by
  simp -implicitDefEqProofs [State.setLine]
@[simp] theorem State.setChan_bench (s : State) (n : Nat) (c : Chan) : (State.setChan s n c).bench = s.bench := by
  simp -implicitDefEqProofs [State.setChan]
@[simp] theorem dmaSend_bench (kind index : Nat) (s : State) : (dmaSend kind index s).bench = s.bench := by
  simp -implicitDefEqProofs [dmaSend]
@[simp] theorem State.setQueueEntries_bench (s : State) (f k : Nat) (l : List QEntry) :
    (State.setQueueEntries s f k l).bench = s.bench := by
  simp -implicitDefEqProofs [State.setQueueEntries]
@[simp] theorem refreshBound_bench (s : State) (f : Nat) : (refreshBound s f).bench = s.bench := by
  simp -implicitDefEqProofs [refreshBound]
@[simp] theorem queueFlow_bench (s : State) (f k : Nat) : (queueFlow s f k).bench = s.bench := by
  simp -implicitDefEqProofs [queueFlow]
@[simp] theorem queueAdd_bench (s : State) (f k : Nat) (e : QEntry) : (queueAdd s f k e).bench = s.bench := by
  simp -implicitDefEqProofs [queueAdd]
@[simp] theorem tapTo_bench (src : Nat) (h : List Byte) (s : State) (q : Nat × Nat) :
    (tapTo src h s q).bench = s.bench := by
  simp -implicitDefEqProofs [tapTo]
@[simp] theorem State.portEmit_bench (s : State) (r : Rec) : (State.portEmit s r).bench = s.bench := by
  simp -implicitDefEqProofs [State.portEmit]

@[simp] theorem emitGap_bench (s : State) (n : Nat) (w : Swath) : (emitGap s n w).bench = s.bench := by
  unfold emitGap
  split <;> simp -implicitDefEqProofs
@[simp] theorem setFrontSwath_bench (s : State) (n : Nat) (w : Swath) : (setFrontSwath s n w).bench = s.bench := by
  simp -implicitDefEqProofs [setFrontSwath]
@[simp] theorem accountTap_bench (s : State) (n : Nat) (w : Swath) (t : Tap) (reason : Nat) :
    (accountTap s n w t reason).1.bench = s.bench := by
  unfold accountTap
  (repeat' split) <;> simp -implicitDefEqProofs
@[simp] theorem decideOn_bench (n k : Nat) (s : State) : (decideOn n k s).bench = s.bench := by
  induction k generalizing s with
  | zero => rfl
  | succ k ih =>
    unfold decideOn
    simp only []
    (repeat' split) <;> simp -implicitDefEqProofs [ih]
@[simp] theorem decide_bench (s : State) (n : Nat) : (decide_ s n).bench = s.bench := by
  simp -implicitDefEqProofs [decide_]
@[simp] theorem endSwath_bench (s : State) (n : Nat) (reason : Nat) (point : Int) :
    (endSwath s n reason point).bench = s.bench := by
  unfold endSwath
  simp only []
  split <;> simp -implicitDefEqProofs

@[simp] theorem imgFault_bench (s : State) (n : Nat) (f : Fld) : (imgFault s n f).bench = s.bench := by
  simp -implicitDefEqProofs [imgFault]
@[simp] theorem imgShow_bench (s : State) (n : Nat) : (imgShow s n).bench = s.bench := by
  simp -implicitDefEqProofs [imgShow]
@[simp] theorem imgReady_bench (s : State) (n : Nat) : (imgReady s n).bench = s.bench := by
  simp -implicitDefEqProofs [imgReady]
@[simp] theorem portYield_bench (s : State) (n : Nat) : (portYield s n).bench = s.bench := by
  simp -implicitDefEqProofs [portYield]
@[simp] theorem capTake_bench (s : State) (n : Nat) : (capTake s n).bench = s.bench := by
  simp -implicitDefEqProofs [capTake]
@[simp] theorem swapHalves_bench (s : State) (n : Nat) (old : Nat) : (swapHalves s n old).bench = s.bench := by
  simp -implicitDefEqProofs [swapHalves]
@[simp] theorem corTake_bench (s : State) (n : Nat) (meets : Bool) : (corTake s n meets).bench = s.bench := by
  simp -implicitDefEqProofs [corTake]
@[simp] theorem heldSwap_bench (s : State) (n : Nat) : (heldSwap s n).bench = s.bench := by
  unfold heldSwap
  split <;> simp -implicitDefEqProofs
@[simp] theorem imgCommit_bench (n : Nat) (s : State) : (imgCommit n s).bench = s.bench := by
  simp -implicitDefEqProofs [imgCommit]
@[simp] theorem imgCorCommit_bench (n : Nat) (meets : Bool) (s : State) : (imgCorCommit n meets s).bench = s.bench := by
  simp -implicitDefEqProofs [imgCorCommit]
@[simp] theorem holdEnd_bench (s : State) (n : Nat) : (holdEnd s n).bench = s.bench := by
  simp -implicitDefEqProofs [holdEnd]
@[simp] theorem showDual_bench (s : State) (n : Nat) : (showDual s n).bench = s.bench := by
  simp -implicitDefEqProofs [showDual]
@[simp] theorem loadBegin_bench (s : State) (n set : Nat) (runStart : Bool) :
    (loadBegin s n set runStart).bench = s.bench := by
  simp -implicitDefEqProofs [loadBegin]
@[simp] theorem loadErr_bench (s : State) (n : Nat) : (loadErr s n).bench = s.bench := by
  simp -implicitDefEqProofs [loadErr]
@[simp] theorem shadingLoad_bench (n : Nat) (s : State) : (shadingLoad n s).bench = s.bench := by
  simp -implicitDefEqProofs [shadingLoad]
@[simp] theorem imgRunStart_bench (s : State) (n : Nat) : (imgRunStart s n).bench = s.bench := by
  simp -implicitDefEqProofs [imgRunStart]
@[simp] theorem imgRunStop_bench (s : State) (n : Nat) : (imgRunStop s n).bench = s.bench := by
  simp -implicitDefEqProofs [imgRunStop]
@[simp] theorem laneRewidth_bench (n : Nat) (s : State) : (laneRewidth n s).bench = s.bench := by
  simp -implicitDefEqProofs [laneRewidth]

@[simp] theorem State.setMod_bench (s : State) (m : Nat) (x : ModSt) : (State.setMod s m x).bench = s.bench := by
  simp -implicitDefEqProofs [State.setMod]
@[simp] theorem State.setMeas_bench (s : State) (k : Nat) (x : MeasSt) : (State.setMeas s k x).bench = s.bench := by
  simp -implicitDefEqProofs [State.setMeas]
@[simp] theorem State.setLoop_bench (s : State) (n : Nat) (x : LoopSt) : (State.setLoop s n x).bench = s.bench := by
  simp -implicitDefEqProofs [State.setLoop]
@[simp] theorem State.setStat_bench (s : State) (i : Nat) (x : StatSt) : (State.setStat s i x).bench = s.bench := by
  simp -implicitDefEqProofs [State.setStat]
@[simp] theorem precRefused_bench (s : State) : (precRefused s).bench = s.bench := by
  simp -implicitDefEqProofs [precRefused]
@[simp] theorem measTake_bench (s : State) (k : Nat) : (measTake s k).bench = s.bench := by
  simp -implicitDefEqProofs [measTake]
@[simp] theorem showPending_bench (s : State) (k : Nat) : (showPending s k).bench = s.bench := by
  simp -implicitDefEqProofs [showPending]
@[simp] theorem setPrecQueue_bench (s : State) (q : List PrecReq) : (setPrecQueue s q).bench = s.bench := by
  simp -implicitDefEqProofs [setPrecQueue]
@[simp] theorem overrun_bench (k : Nat) (s : State) : (overrun k s).bench = s.bench := by
  simp -implicitDefEqProofs [overrun]
@[simp] theorem measTrigger_bench (k : Nat) (s : State) : (measTrigger k s).bench = s.bench := by
  simp -implicitDefEqProofs [measTrigger]
@[simp] theorem precTrigger_bench (src index : Nat) (s : State) : (precTrigger src index s).bench = s.bench := by
  simp -implicitDefEqProofs [precTrigger]
@[simp] theorem measUrgent_bench (k : Nat) (s : State) : (measUrgent k s).bench = s.bench := by
  simp -implicitDefEqProofs [measUrgent]
@[simp] theorem setBusy_bench (s : State) (k : Nat) (b : Bool) : (setBusy s k b).bench = s.bench := by
  simp -implicitDefEqProofs [setBusy]
@[simp] theorem precResult_bench (s : State) (m k : Nat) (x : ModSt) (raw : Option Int) :
    (precResult s m k x raw).bench = s.bench := by
  simp -implicitDefEqProofs [precResult]
@[simp] theorem measCommit_bench (k : Nat) (s : State) : (measCommit k s).bench = s.bench := by
  unfold measCommit
  simp only []
  (repeat' split) <;> simp -implicitDefEqProofs
@[simp] theorem suppress_bench (s : State) (m : Nat) : (suppress s m).bench = s.bench := by
  simp -implicitDefEqProofs [suppress]
@[simp] theorem calEnd_bench (s : State) : (calEnd s).bench = s.bench := by simp -implicitDefEqProofs [calEnd]
@[simp] theorem calStart_bench (s : State) : (calStart s).bench = s.bench := by simp -implicitDefEqProofs [calStart]
@[simp] theorem precRefWritten_bench (a : Nat) (old : Word) (s : State) : (precRefWritten a old s).bench = s.bench := by
  simp -implicitDefEqProofs [precRefWritten]
@[simp] theorem loopTake_bench (s : State) (n : Nat) : (loopTake s n).bench = s.bench := by
  simp -implicitDefEqProofs [loopTake]
@[simp] theorem loopCommit_bench (n : Nat) (s : State) : (loopCommit n s).bench = s.bench := by
  simp -implicitDefEqProofs [loopCommit]
@[simp] theorem loopRefresh_bench (n : Nat) (s : State) : (loopRefresh n s).bench = s.bench := by
  simp -implicitDefEqProofs [loopRefresh]

@[simp] theorem State.setLamp_bench (s : State) (n : Nat) (x : LampSt) : (State.setLamp s n x).bench = s.bench := by
  simp -implicitDefEqProofs [State.setLamp]
@[simp] theorem lampCfgFlag_bench (s : State) (n : Nat) (f : Fld) : (lampCfgFlag s n f).bench = s.bench := by
  simp -implicitDefEqProofs [lampCfgFlag]
@[simp] theorem computeWords_bench (s : State) (n : Nat) : (computeWords s n).bench = s.bench := by
  simp -implicitDefEqProofs [computeWords]
@[simp] theorem lampTemp_bench (s : State) (n : Nat) : (lampTemp s n).bench = s.bench := by
  simp -implicitDefEqProofs [lampTemp]
@[simp] theorem frameStart_bench (s : State) (n : Nat) : (frameStart s n).bench = s.bench := by
  simp -implicitDefEqProofs [frameStart]
@[simp] theorem groupsShow_bench (s : State) (n : Nat) : (groupsShow s n).bench = s.bench := by
  simp -implicitDefEqProofs [groupsShow]
@[simp] theorem blkAssert_bench (s : State) (n : Nat) : (blkAssert s n).bench = s.bench := by
  simp -implicitDefEqProofs [blkAssert]
@[simp] theorem scriptTakes_bench (s : State) (n : Nat) : (scriptTakes s n).bench = s.bench := by
  simp -implicitDefEqProofs [scriptTakes]
@[simp] theorem lampLatch_bench (s : State) (n : Nat) : (lampLatch s n).bench = s.bench := by
  unfold lampLatch
  simp only []
  split <;> simp -implicitDefEqProofs
@[simp] theorem lampCommit_bench (n : Nat) (s : State) : (lampCommit n s).bench = s.bench := by
  simp -implicitDefEqProofs [lampCommit]
@[simp] theorem strobeSettle_bench (s : State) (n : Nat) : (strobeSettle s n).bench = s.bench := by
  simp -implicitDefEqProofs [strobeSettle]
@[simp] theorem groupRestore_bench (n g : Nat) (s : State) : (groupRestore n g s).bench = s.bench := by
  simp -implicitDefEqProofs [groupRestore]
@[simp] theorem lampStop_bench (s : State) (n : Nat) : (lampStop s n).bench = s.bench := by
  simp -implicitDefEqProofs [lampStop]
@[simp] theorem lampTurn_bench (s : State) (n : Nat) : (lampTurn s n).bench = s.bench := by
  simp -implicitDefEqProofs [lampTurn]
@[simp] theorem lampEnable_bench (n : Nat) (s : State) : (lampEnable n s).bench = s.bench := by
  simp -implicitDefEqProofs [lampEnable]
@[simp] theorem lampCfgWritten_bench (n a : Nat) (old : Word) (s : State) :
    (lampCfgWritten n a old s).bench = s.bench := by
  simp -implicitDefEqProofs [lampCfgWritten]
@[simp] theorem lampScriptFrame_bench (s : State) (n : Nat) : (lampScriptFrame s n).bench = s.bench := by
  simp -implicitDefEqProofs [lampScriptFrame]
@[simp] theorem lampScriptSettle_bench (s : State) (n : Nat) : (lampScriptSettle s n).bench = s.bench := by
  simp -implicitDefEqProofs [lampScriptSettle]
@[simp] theorem lampScriptRun_bench (n : Nat) (s : State) : (lampScriptRun n s).bench = s.bench := by
  simp -implicitDefEqProofs [lampScriptRun]
@[simp] theorem lampRunStart_bench (s : State) (n : Nat) : (lampRunStart s n).bench = s.bench := by
  simp -implicitDefEqProofs [lampRunStart]
@[simp] theorem lampRunStop_bench (s : State) (n : Nat) : (lampRunStop s n).bench = s.bench := by
  simp -implicitDefEqProofs [lampRunStop]
@[simp] theorem tempWritten_bench (n : Nat) (s : State) : (tempWritten n s).bench = s.bench := by
  simp -implicitDefEqProofs [tempWritten]

@[simp] theorem blockApply_bench (s0 : State) (b : Nat) (s : State) (e : Nat) :
    (blockApply s0 b s e).bench = s.bench := by
  unfold blockApply
  simp only []
  split <;> simp -implicitDefEqProofs
@[simp] theorem blocksApply_bench (s0 : State) (b : Nat) (s : State) : (blocksApply s0 b s).bench = s.bench := by
  simp -implicitDefEqProofs [blocksApply]

@[simp] theorem tpFault_bench (s : State) (n : Nat) (f : Fld) : (tpFault s n f).bench = s.bench := by
  simp -implicitDefEqProofs [tpFault]
@[simp] theorem State.portWrite_bench (s : State) (a : Nat) (bs : List Byte) :
    (State.portWrite s a bs).bench = s.bench := by
  simp -implicitDefEqProofs [State.portWrite]

@[simp] theorem emitTGap_bench (s : State) (n : Nat) (g : TGap) (aborted : Bool) :
    (emitTGap s n g aborted).bench = s.bench := by
  simp -implicitDefEqProofs [emitTGap]
@[simp] theorem closeTGap_bench (s : State) (n : Nat) : (closeTGap s n).bench = s.bench := by
  unfold closeTGap
  split <;> simp -implicitDefEqProofs
@[simp] theorem closeShutGap_bench (s : State) (n : Nat) : (closeShutGap s n).bench = s.bench := by
  unfold closeShutGap
  split <;> simp -implicitDefEqProofs
@[simp] theorem writeStats_bench (s : State) (n : Nat) (f : TFrame) (out : List (Nat × List Nat)) (stale : Bool) :
    (writeStats s n f out stale).bench = s.bench := by
  refine foldl_bench _ s fun t r => ?_
  split <;> simp -implicitDefEqProofs
@[simp] theorem emitStat_bench (s : State) (n : Nat) (f : TFrame) (out : List (Nat × List Nat))
    (time : Nat) (no : Option Nat) :
    (emitStat s n f out time no).bench = s.bench := by
  simp -implicitDefEqProofs [emitStat]
@[simp] theorem setTLine_bench (s : State) (n : Nat) (l : TLineSt) : (setTLine s n l).bench = s.bench := by
  simp -implicitDefEqProofs [setTLine]
@[simp] theorem showLine_bench (s : State) (n : Nat) : (showLine s n).bench = s.bench := by
  simp -implicitDefEqProofs [showLine]
@[simp] theorem closeLineGap_bench (s : State) (n : Nat) : (closeLineGap s n).bench = s.bench := by
  unfold closeLineGap
  simp only []
  split <;> simp -implicitDefEqProofs
@[simp] theorem lineConsume_bench (s : State) (n : Nat) (x : Int) : (lineConsume s n x).bench = s.bench := by
  simp -implicitDefEqProofs [lineConsume]
@[simp] theorem lineAccount_bench (s : State) (n : Nat) (x : Int) (reason : Nat) :
    (lineAccount s n x reason).bench = s.bench := by
  unfold lineAccount
  simp only []
  split <;> simp -implicitDefEqProofs
@[simp] theorem emitTLine_bench (s : State) (n : Nat) (f : TFrame) (t : TTarget) :
    (emitTLine s n f t).bench = s.bench := by
  simp -implicitDefEqProofs [emitTLine]
@[simp] theorem lineDone_bench (s : State) (n : Nat) (f : TFrame) (k : Int) : (lineDone s n f k).bench = s.bench := by
  unfold lineDone
  simp only []
  split <;> simp -implicitDefEqProofs
@[simp] theorem lineBegin_bench (s : State) (n : Nat) (back : Bool) : (lineBegin s n back).bench = s.bench := by
  simp -implicitDefEqProofs [lineBegin]
@[simp] theorem lineEnd_bench (s : State) (n : Nat) (f : TFrame) (reason : Nat) (point : Int) (at_ : Nat) :
    (lineEnd s n f reason point at_).bench = s.bench := by
  simp -implicitDefEqProofs [lineEnd]
@[simp] theorem lineTurns_bench (n : Nat) (f : TFrame) (h : Int) (k : Nat) (s : State) :
    (lineTurns n f h k s).bench = s.bench := by
  induction k generalizing s with
  | zero => rfl
  | succ k ih =>
    unfold lineTurns
    simp only []
    (repeat' split) <;> simp -implicitDefEqProofs [ih]
@[simp] theorem tpAfterStop_bench (s : State) (n : Nat) : (tpAfterStop s n).bench = s.bench := by
  simp -implicitDefEqProofs [tpAfterStop]

@[simp] theorem shutMove_bench (s : State) (n : Nat) (cfg target : Word) (close : Bool) :
    (shutMove s n cfg target close).bench = s.bench := by
  simp -implicitDefEqProofs [shutMove]
@[simp] theorem shutShow_bench (s : State) (n : Nat) : (shutShow s n).bench = s.bench := by
  unfold shutShow
  split <;> simp -implicitDefEqProofs
@[simp] theorem shutEvent_bench (s : State) (n : Nat) : (shutEvent s n).bench = s.bench := by
  simp -implicitDefEqProofs [shutEvent]
@[simp] theorem shutAbort_bench (why : Nat) (s : State) (n : Nat) : (shutAbort why s n).bench = s.bench := by
  unfold shutAbort
  simp only []
  split <;> simp -implicitDefEqProofs
@[simp] theorem shutRequest_bench (host : Bool) (n : Nat) (s : State) : (shutRequest host n s).bench = s.bench := by
  unfold shutRequest
  simp only []
  split <;> simp -implicitDefEqProofs
@[simp] theorem shutAbortRequest_bench (n : Nat) (s : State) : (shutAbortRequest n s).bench = s.bench := by
  unfold shutAbortRequest
  split <;> simp -implicitDefEqProofs

@[simp] theorem tpReady_bench (s : State) (n : Nat) : (tpReady s n).bench = s.bench := by
  simp -implicitDefEqProofs [tpReady]
@[simp] theorem tpEnable_bench (n : Nat) (s : State) : (tpEnable n s).bench = s.bench := by
  simp -implicitDefEqProofs [tpEnable]
@[simp] theorem tpDisable_bench (n : Nat) (s : State) : (tpDisable n s).bench = s.bench := by
  simp -implicitDefEqProofs [tpDisable]
@[simp] theorem tpCfgWritten_bench (n a : Nat) (old : Word) (s : State) : (tpCfgWritten n a old s).bench = s.bench := by
  simp -implicitDefEqProofs [tpCfgWritten]
@[simp] theorem tpDriftWritten_bench (n set a : Nat) (old : Word) (s : State) :
    (tpDriftWritten n set a old s).bench = s.bench := by
  simp -implicitDefEqProofs [tpDriftWritten]
@[simp] theorem showDefs_bench (s : State) (n : Nat) (old : List Word) : (showDefs s n old).bench = s.bench := by
  simp -implicitDefEqProofs [showDefs]
@[simp] theorem defEdit_bench (n : Nat) (e : Word) (s : State) : (defEdit n e s).bench = s.bench := by
  simp -implicitDefEqProofs [defEdit]
@[simp] theorem coefFetch_bench (s : State) (n : Nat) : (coefFetch s n).bench = s.bench := by
  simp -implicitDefEqProofs [coefFetch]
@[simp] theorem tpRunStart_bench (s : State) (n : Nat) : (tpRunStart s n).bench = s.bench := by
  simp -implicitDefEqProofs [tpRunStart]
@[simp] theorem tpRunStop_bench (s : State) (n : Nat) : (tpRunStop s n).bench = s.bench := by
  simp -implicitDefEqProofs [tpRunStop]

@[simp] theorem marchStart_bench (u : Nat) (destructive : Bool) (s : State) :
    (marchStart u destructive s).bench = s.bench := by
  simp -implicitDefEqProofs [marchStart]
@[simp] theorem vaultShowFree_bench (s : State) : (vaultShowFree s).bench = s.bench := by
  simp -implicitDefEqProofs [vaultShowFree]
@[simp] theorem zeroSlots_bench (s : State) (l : List VaultEnt) : (zeroSlots s l).bench = s.bench := by
  simp -implicitDefEqProofs [zeroSlots]
@[simp] theorem vaultAsk_bench (isDelete : Bool) (kind : Nat) (lost : Bool) (s : State) :
    (vaultAsk isDelete kind lost s).bench = s.bench := by
  simp -implicitDefEqProofs [vaultAsk]
@[simp] theorem vaultTidy_bench (s : State) : (vaultTidy s).bench = s.bench := by simp -implicitDefEqProofs [vaultTidy]

@[simp] theorem showFill_bench (s : State) (n : Nat) : (showFill s n).bench = s.bench := by
  simp -implicitDefEqProofs [showFill]
@[simp] theorem setPtr_bench (s : State) (n reg at_ : Nat) : (setPtr s n reg at_).bench = s.bench := by
  simp -implicitDefEqProofs [setPtr]
@[simp] theorem State.setStage_bench (s : State) (n : Nat) (x : StageSt) : (State.setStage s n x).bench = s.bench := by
  simp -implicitDefEqProofs [State.setStage]

@[simp] theorem State.setFrond_bench (s : State) (f : Nat) (x : FrondSt) : (State.setFrond s f x).bench = s.bench := by
  simp -implicitDefEqProofs [State.setFrond]
@[simp] theorem setFrondState_bench (s : State) (f st : Nat) : (setFrondState s f st).bench = s.bench := by
  simp -implicitDefEqProofs [setFrondState]
@[simp] theorem frondIgnored_bench (f : Nat) (s : State) : (frondIgnored f s).bench = s.bench := by
  simp -implicitDefEqProofs [frondIgnored]
@[simp] theorem frondCfgRefused_bench (f : Nat) (s : State) : (frondCfgRefused f s).bench = s.bench := by
  simp -implicitDefEqProofs [frondCfgRefused]
@[simp] theorem wdogLoad_bench (f us : Nat) (s : State) : (wdogLoad f us s).bench = s.bench := by
  simp -implicitDefEqProofs [wdogLoad]
@[simp] theorem wdogKick_bench (f : Nat) (s : State) : (wdogKick f s).bench = s.bench := by
  simp -implicitDefEqProofs [wdogKick]
@[simp] theorem wdogWrite_bench (f us : Nat) (s : State) : (wdogWrite f us s).bench = s.bench := by
  simp -implicitDefEqProofs [wdogWrite]
@[simp] theorem frondWakeBy_bench (f lines : Nat) (s : State) : (frondWakeBy f lines s).bench = s.bench := by
  simp -implicitDefEqProofs [frondWakeBy]
@[simp] theorem frondEvent_bench (f : Nat) (s : State) : (frondEvent f s).bench = s.bench := by
  simp -implicitDefEqProofs [frondEvent]
@[simp] theorem frondStart_bench (f : Nat) (s : State) : (frondStart f s).bench = s.bench := by
  simp -implicitDefEqProofs [frondStart]
@[simp] theorem frondStop_bench (f st cause : Nat) (s : State) : (frondStop f st cause s).bench = s.bench := by
  simp -implicitDefEqProofs [frondStop]
@[simp] theorem frondHalt_bench (f cause : Nat) (s : State) : (frondHalt f cause s).bench = s.bench := by
  simp -implicitDefEqProofs [frondHalt]
@[simp] theorem tuftRun_bench (t op : Nat) (s : State) : (tuftRun t op s).bench = s.bench := by
  simp -implicitDefEqProofs [tuftRun]
@[simp] theorem tuftTaken_bench (t : Nat) (s : State) : (tuftTaken t s).bench = s.bench := by
  simp -implicitDefEqProofs [tuftTaken]
@[simp] theorem tuftPark_bench (t : Nat) (s : State) : (tuftPark t s).bench = s.bench := by
  simp -implicitDefEqProofs [tuftPark]
@[simp] theorem tuftCommit_bench (t : Nat) (s : State) : (tuftCommit t s).bench = s.bench := by
  simp -implicitDefEqProofs [tuftCommit]
@[simp] theorem accessRefused_bench (f addr : Nat) (s : State) : (accessRefused f addr s).bench = s.bench := by
  simp -implicitDefEqProofs [accessRefused]

@[simp] theorem sourceBusError_bench (s : State) (src : Nat) : (sourceBusError s src).bench = s.bench := by
  simp -implicitDefEqProofs [sourceBusError]
@[simp] theorem sourceWrite_bench (src a : Nat) (bs : List Byte) (s : State) :
    (sourceWrite src a bs s).bench = s.bench := by
  simp -implicitDefEqProofs [sourceWrite]
@[simp] theorem closeChunk_bench (n : Nat) (final : Bool) (s : State) : (closeChunk n final s).bench = s.bench := by
  simp -implicitDefEqProofs [closeChunk]
@[simp] theorem enterRecord_bench (n : Nat) (r : Rec) (s : State) : (enterRecord n r s).bench = s.bench := by
  simp -implicitDefEqProofs [enterRecord]
@[simp] theorem dropRecord_bench (n : Nat) (r : Rec) (s : State) : (dropRecord n r s).bench = s.bench := by
  unfold dropRecord
  simp only []
  split <;> simp -implicitDefEqProofs
@[simp] theorem closeSpan_bench (n : Nat) (p : Span) (s : State) : (closeSpan n p s).bench = s.bench := by
  simp -implicitDefEqProofs [closeSpan]
@[simp] theorem offerRecord_bench (n : Nat) (r : Rec) (s : State) : (offerRecord n r s).bench = s.bench := by
  unfold offerRecord
  simp only []
  (repeat' split) <;> simp -implicitDefEqProofs
@[simp] theorem enterWaiting_bench (n : Nat) (k : Nat) (s : State) : (enterWaiting n k s).bench = s.bench := by
  induction k generalizing s with
  | zero => rfl
  | succ k ih =>
    unfold enterWaiting
    simp only []
    (repeat' split) <;> simp -implicitDefEqProofs [ih]
@[simp] theorem enterAll_bench (n : Nat) (s : State) : (enterAll n s).bench = s.bench := by
  simp -implicitDefEqProofs [enterAll]
@[simp] theorem stageErr_bench (f k : Nat) (s : State) : (stageErr f k s).bench = s.bench := by
  simp -implicitDefEqProofs [stageErr]
@[simp] theorem stageClear_bench (n : Nat) (s : State) : (stageClear n s).bench = s.bench := by
  unfold stageClear
  split <;> simp -implicitDefEqProofs
@[simp] theorem streamBegin_bench (v : Option Recovery) (n : Nat) (s : State) :
    (streamBegin v n s).bench = s.bench := by
  simp -implicitDefEqProofs [streamBegin]
@[simp] theorem streamFinish_bench (n : Nat) (s : State) : (streamFinish n s).bench = s.bench := by
  simp -implicitDefEqProofs [streamFinish]
@[simp] theorem streamProgress_bench (s : State) (n : Nat) : (streamProgress s n).bench = s.bench := by
  simp -implicitDefEqProofs [streamProgress]
@[simp] theorem streamsProgress_bench (s : State) : (streamsProgress s).bench = s.bench := by
  simp -implicitDefEqProofs [streamsProgress]
@[simp] theorem showStage_bench (n : Nat) (g : StageSt) (s : State) : (showStage n g s).bench = s.bench := by
  unfold showStage
  split <;> simp -implicitDefEqProofs
@[simp] theorem stageRelease_bench (f k addr : Nat) (s : State) : (stageRelease f k addr s).bench = s.bench := by
  simp -implicitDefEqProofs [stageRelease]
@[simp] theorem eventRecord_bench (n code : Nat) (s : State) : (eventRecord n code s).bench = s.bench := by
  simp -implicitDefEqProofs [eventRecord]

@[simp] theorem snapWrite_bench (e : Nat) (body : List Byte) (s : State) : (snapWrite e body s).bench = s.bench := by
  simp -implicitDefEqProofs [snapWrite]
@[simp] theorem snapStream_bench (n : Nat) (s : State) : (snapStream n s).bench = s.bench := by
  simp -implicitDefEqProofs [snapStream]
@[simp] theorem snapDevice_bench (active : Bool) (s : State) : (snapDevice active s).bench = s.bench := by
  simp -implicitDefEqProofs [snapDevice]
@[simp] theorem eraseKeys_bench (s : State) : (eraseKeys s).bench = s.bench := by simp -implicitDefEqProofs [eraseKeys]
@[simp] theorem peatSealed_bench (n : Nat) (fault : Bool) (s : State) : (peatSealed n fault s).bench = s.bench := by
  simp -implicitDefEqProofs [peatSealed]

@[simp] theorem State.setLink_bench (s : State) (n : Nat) (x : LinkSt) : (State.setLink s n x).bench = s.bench := by
  simp -implicitDefEqProofs [State.setLink]
@[simp] theorem flitOut_bench (n : Nat) (f : HeldFlit) (s : State) : (flitOut n f s).bench = s.bench := by
  simp -implicitDefEqProofs [flitOut]
@[simp] theorem linkDrain_bench (n : Nat) (k : Nat) (s : State) : (linkDrain n k s).bench = s.bench := by
  induction k generalizing s with
  | zero => rfl
  | succ k ih =>
    unfold linkDrain
    simp only []
    (repeat' split) <;> simp -implicitDefEqProofs [ih]
@[simp] theorem linkSend_bench (n dest src hops : Nat) (b : FlitBody) (s : State) :
    (linkSend n dest src hops b s).bench = s.bench := by
  simp -implicitDefEqProofs [linkSend]
@[simp] theorem unicast_bench (dev : Nat) (b : FlitBody) (s : State) : (unicast dev b s).bench = s.bench := by
  unfold unicast
  split <;> simp -implicitDefEqProofs
@[simp] theorem linkTrain_bench (s : State) (n : Nat) : (linkTrain s n).bench = s.bench := by
  simp -implicitDefEqProofs [linkTrain]
@[simp] theorem linksTrain_bench (s : State) : (linksTrain s).bench = s.bench := by simp -implicitDefEqProofs [linksTrain]

@[simp] theorem showInflight_bench (s : State) : (showInflight s).bench = s.bench := by
  simp -implicitDefEqProofs [showInflight]
@[simp] theorem abandonReads_bench (p : HostRead → Bool) (s : State) : (abandonReads p s).bench = s.bench := by
  simp -implicitDefEqProofs [abandonReads]
@[simp] theorem hostAsk_bench (s : State) (r : HostRead) : (hostAsk s r).bench = s.bench := by
  simp -implicitDefEqProofs [hostAsk]
@[simp] theorem showStarved_bench (n : Nat) (s : State) : (showStarved n s).bench = s.bench := by
  simp -implicitDefEqProofs [showStarved]
@[simp] theorem completeBuffer_bench (n : Nat) (short : Bool) (s : State) :
    (completeBuffer n short s).bench = s.bench := by
  unfold completeBuffer
  simp only []
  split <;> simp -implicitDefEqProofs

@[simp] theorem setChanState_bench (s : State) (n st : Nat) : (setChanState s n st).bench = s.bench := by
  simp -implicitDefEqProofs [setChanState]
@[simp] theorem chanEvent_bench (n : Nat) (f : Fld) (s : State) : (chanEvent n f s).bench = s.bench := by
  simp -implicitDefEqProofs [chanEvent]
@[simp] theorem chanHalt_bench (n why : Nat) (s : State) : (chanHalt n why s).bench = s.bench := by
  simp -implicitDefEqProofs [chanHalt]
@[simp] theorem chanFetch_bench (n addr : Nat) (s : State) : (chanFetch n addr s).bench = s.bench := by
  simp -implicitDefEqProofs [chanFetch]
@[simp] theorem chanRelease_bench (n : Nat) (s : State) : (chanRelease n s).bench = s.bench := by
  unfold chanRelease
  simp only []
  split <;> simp -implicitDefEqProofs
@[simp] theorem chanPromote_bench (n : Nat) (s : State) : (chanPromote n s).bench = s.bench := by
  unfold chanPromote
  simp only []
  split <;> simp -implicitDefEqProofs
@[simp] theorem chanStart_bench (n : Nat) (s : State) : (chanStart n s).bench = s.bench := by
  unfold chanStart
  simp only []
  (repeat' split) <;> simp -implicitDefEqProofs
@[simp] theorem chanTrigger_bench (n : Nat) (s : State) : (chanTrigger n s).bench = s.bench := by
  simp -implicitDefEqProofs [chanTrigger]
@[simp] theorem chanTriggerFrom_bench (n : Nat) (src : Option (Nat × Nat)) (late : Bool) (s : State) :
    (chanTriggerFrom n src late s).bench = s.bench := by
  simp -implicitDefEqProofs [chanTriggerFrom]
@[simp] theorem askFlush_bench (n : Nat) (d : Desc) (s : State) : (askFlush n d s).bench = s.bench := by
  simp -implicitDefEqProofs [askFlush]
@[simp] theorem chanEnds_bench (n : Nat) (s : State) : (chanEnds n s).bench = s.bench := by
  unfold chanEnds
  simp only []
  (repeat' split) <;> simp -implicitDefEqProofs
@[simp] theorem chanAbort_bench (n : Nat) (s : State) : (chanAbort n s).bench = s.bench := by
  unfold chanAbort
  simp only []
  (repeat' split) <;> simp -implicitDefEqProofs
@[simp] theorem chanOff_bench (n : Nat) (s : State) : (chanOff n s).bench = s.bench := by
  unfold chanOff
  simp only []
  split <;> simp -implicitDefEqProofs
@[simp] theorem chanEnable_bench (n : Nat) (on : Bool) (s : State) : (chanEnable n on s).bench = s.bench := by
  simp -implicitDefEqProofs [chanEnable]
@[simp] theorem chanCommit_bench (n : Nat) (s : State) : (chanCommit n s).bench = s.bench := by
  simp -implicitDefEqProofs [chanCommit]

@[simp] theorem setArrayBit_bench (s : State) (r : Nat → Nat) (i : Nat) (b : Bool) :
    (setArrayBit s r i b).bench = s.bench := by
  simp -implicitDefEqProofs [setArrayBit]
@[simp] theorem vectorIssue_bench (v : Nat) (s : State) : (vectorIssue v s).bench = s.bench := by
  simp -implicitDefEqProofs [vectorIssue]
@[simp] theorem hostNotice_bench (src v : Nat) (s : State) : (hostNotice src v s).bench = s.bench := by
  simp -implicitDefEqProofs [hostNotice]
@[simp] theorem eventDeliver_bench (src : Nat) (s : State) : (eventDeliver src s).bench = s.bench := by
  simp -implicitDefEqProofs [eventDeliver]

@[simp] theorem peatShow_bench (s : State) : (peatShow s).bench = s.bench := by simp -implicitDefEqProofs [peatShow]
@[simp] theorem peatCommit_bench (s : State) : (peatCommit s).bench = s.bench := by
  unfold peatCommit
  split <;> simp -implicitDefEqProofs
@[simp] theorem peatFlush_bench (s : State) : (peatFlush s).bench = s.bench := by simp -implicitDefEqProofs [peatFlush]
@[simp] theorem peatFind_bench (s : State) : (peatFind s).bench = s.bench := by simp -implicitDefEqProofs [peatFind]
@[simp] theorem peatFirmware_bench (f typ : Nat) (s : State) : (peatFirmware f typ s).bench = s.bench := by
  simp -implicitDefEqProofs [peatFirmware]

@[simp] theorem State.setAxis_bench (s : State) (n : Nat) (x : AxisSt) : (State.setAxis s n x).bench = s.bench := by
  simp -implicitDefEqProofs [State.setAxis]
@[simp] theorem setAxBit_bench (s : State) (n : Nat) (f : Fld) (b : Bool) : (setAxBit s n f b).bench = s.bench := by
  simp -implicitDefEqProofs [setAxBit]
@[simp] theorem setAxState_bench (s : State) (n st : Nat) : (setAxState s n st).bench = s.bench := by
  simp -implicitDefEqProofs [setAxState]
@[simp] theorem axFlag_bench (s : State) (n : Nat) (f : Fld) (k : Nat) : (axFlag s n f k).bench = s.bench := by
  simp -implicitDefEqProofs [axFlag]
@[simp] theorem axShow_bench (s : State) (n : Nat) : (axShow s n).bench = s.bench := by simp -implicitDefEqProofs [axShow]
@[simp] theorem setRemain_bench (s : State) (n : Nat) (keep : Bool) : (setRemain s n keep).bench = s.bench := by
  simp -implicitDefEqProofs [setRemain]
@[simp] theorem enterIdle_bench (s : State) (n : Nat) : (enterIdle s n).bench = s.bench := by
  simp -implicitDefEqProofs [enterIdle]
@[simp] theorem tellPort_bench (s : State) (n : Nat) : (tellPort s n).bench = s.bench := by
  unfold tellPort
  split <;> simp -implicitDefEqProofs
@[simp] theorem cmdRefused_bench (s : State) (n : Nat) : (cmdRefused s n).bench = s.bench := by
  simp -implicitDefEqProofs [cmdRefused]
@[simp] theorem dropShadows_bench (s : State) (l : List Nat) : (dropShadows s l).bench = s.bench := by
  simp -implicitDefEqProofs [dropShadows]
@[simp] theorem axTake_bench (s : State) (n : Nat) : (axTake s n).bench = s.bench := by simp -implicitDefEqProofs [axTake]
@[simp] theorem axEnable_bench (s : State) (n : Nat) : (axEnable s n).bench = s.bench := by
  simp -implicitDefEqProofs [axEnable]
@[simp] theorem axCommand_bench (s : State) (n c : Nat) : (axCommand s n c).bench = s.bench := by
  simp -implicitDefEqProofs [axCommand]
@[simp] theorem phaseFrame_bench (last : Bool) (s : State) (p : Nat) : (phaseFrame last s p).bench = s.bench := by
  simp -implicitDefEqProofs [phaseFrame]
@[simp] theorem lastFrames_bench (s : State) : (lastFrames s).bench = s.bench := by simp -implicitDefEqProofs [lastFrames]

@[simp] theorem instantsMoved_bench (d : Int) (s : State) : (instantsMoved d s).bench = s.bench := by
  simp -implicitDefEqProofs [instantsMoved]

@[simp] theorem State.setTimer_bench (s : State) (n : Nat) (x : TimerSt) : (State.setTimer s n x).bench = s.bench := by
  simp -implicitDefEqProofs [State.setTimer]
@[simp] theorem tmrShow_bench (s : State) (n : Nat) : (tmrShow s n).bench = s.bench := by
  simp -implicitDefEqProofs [tmrShow]
@[simp] theorem tmrOutput_bench (s : State) (n : Nat) (high : Bool) : (tmrOutput s n high).bench = s.bench := by
  simp -implicitDefEqProofs [tmrOutput]
@[simp] theorem tmrBegin_bench (s : State) (n t : Nat) : (tmrBegin s n t).bench = s.bench := by
  simp -implicitDefEqProofs [tmrBegin]
@[simp] theorem tmrCommit_bench (n : Nat) (s : State) : (tmrCommit n s).bench = s.bench := by
  simp -implicitDefEqProofs [tmrCommit]
@[simp] theorem timersBegin_bench (s : State) : (timersBegin s).bench = s.bench := by
  simp -implicitDefEqProofs [timersBegin]
@[simp] theorem tmrStepped_bench (d : Int) (s : State) (n : Nat) : (tmrStepped d s n).bench = s.bench := by
  unfold tmrStepped
  simp only []
  split <;> simp -implicitDefEqProofs
@[simp] theorem gpioCfgWritten_bench (k : Nat) (v : Word) (s : State) : (gpioCfgWritten k v s).bench = s.bench := by
  simp -implicitDefEqProofs [gpioCfgWritten]

@[simp] theorem runFree_bench (s : State) : (runFree s).bench = s.bench := by simp -implicitDefEqProofs [runFree]
@[simp] theorem timeHold_bench (s : State) : (timeHold s).bench = s.bench := by simp -implicitDefEqProofs [timeHold]
@[simp] theorem stepTime_bench (d : Int) (s : State) : (stepTime d s).bench = s.bench := by
  simp -implicitDefEqProofs [stepTime]
@[simp] theorem timeSetApply_bench (s : State) : (timeSetApply s).bench = s.bench := by
  simp -implicitDefEqProofs [timeSetApply]
@[simp] theorem tick_bench (s : State) : (tick s).bench = s.bench := by simp -implicitDefEqProofs [tick]

@[simp] theorem trimLoad_bench (s : State) (i : Nat) : (trimLoad s i).bench = s.bench := by
  simp -implicitDefEqProofs [trimLoad]
@[simp] theorem trimStart_bench (found : List (Option (Int × Bool))) (s : State) :
    (trimStart found s).bench = s.bench := by
  simp -implicitDefEqProofs [trimStart]

@[simp] theorem peatState_bench (old : Mode) (s : State) : (peatState old s).bench = s.bench := by
  simp -implicitDefEqProofs [peatState]
@[simp] theorem setMode_bench (m : Mode) (s : State) : (setMode m s).bench = s.bench := by
  simp -implicitDefEqProofs [setMode]
@[simp] theorem showRunActive_bench (b : Bool) (s : State) : (showRunActive b s).bench = s.bench := by
  simp -implicitDefEqProofs [showRunActive]
@[simp] theorem beginRun_bench (s : State) : (beginRun s).bench = s.bench := by simp -implicitDefEqProofs [beginRun]
@[simp] theorem endRun_bench (s : State) : (endRun s).bench = s.bench := by simp -implicitDefEqProofs [endRun]
@[simp] theorem askStart_bench (s : State) : (askStart s).1.bench = s.bench := by
  unfold askStart
  (repeat' split) <;> simp -implicitDefEqProofs
@[simp] theorem askStop_bench (s : State) : (askStop s).1.bench = s.bench := by
  unfold askStop
  split <;> simp -implicitDefEqProofs
@[simp] theorem askMaintEnter_bench (s : State) : (askMaintEnter s).1.bench = s.bench := by
  unfold askMaintEnter
  (repeat' split) <;> simp -implicitDefEqProofs
@[simp] theorem askMaintExit_bench (s : State) : (askMaintExit s).1.bench = s.bench := by
  unfold askMaintExit
  (repeat' split) <;> simp -implicitDefEqProofs
@[simp] theorem askAbandon_bench (s : State) : (askAbandon s).1.bench = s.bench := by
  unfold askAbandon
  split <;> simp -implicitDefEqProofs
@[simp] theorem frondAsk_bench (f : State → State × Nat) (s : State) (h : ∀ t, (f t).1.bench = t.bench) :
    (frondAsk f s).bench = s.bench := by
  simp -implicitDefEqProofs [frondAsk, h]
@[simp] theorem devWdogLoad_bench (s : State) : (devWdogLoad s).bench = s.bench := by
  simp -implicitDefEqProofs [devWdogLoad]
@[simp] theorem devWdogWrite_bench (ms : Nat) (s : State) : (devWdogWrite ms s).bench = s.bench := by
  simp -implicitDefEqProofs [devWdogWrite]

@[simp] theorem avsWrite_bench (s : State) : (avsWrite s).bench = s.bench := by simp -implicitDefEqProofs [avsWrite]
@[simp] theorem runsFault_bench (s : State) : (runsFault s).bench = s.bench := by simp -implicitDefEqProofs [runsFault]
@[simp] theorem loopShut_bench (s : State) (n : Nat) : (loopShut s n).bench = s.bench := by
  simp -implicitDefEqProofs [loopShut]
@[simp] theorem dramLose_bench (s : State) : (dramLose s).bench = s.bench := by simp -implicitDefEqProofs [dramLose]
@[simp] theorem thermalShutdown_bench (k : Nat) (t : Int) (s : State) : (thermalShutdown k t s).bench = s.bench := by
  simp -implicitDefEqProofs [thermalShutdown]
@[simp] theorem threshWrite_bench (v : Word) (s : State) : (threshWrite v s).bench = s.bench := by
  simp -implicitDefEqProofs [threshWrite]
@[simp] theorem aonShow_bench (s : State) : (aonShow s).bench = s.bench := by simp -implicitDefEqProofs [aonShow]
@[simp] theorem aonSwitch_bench (toB : Bool) (s : State) : (aonSwitch toB s).bench = s.bench := by
  simp -implicitDefEqProofs [aonSwitch]
@[simp] theorem vaonA_bench (up : Bool) (s : State) : (vaonA up s).bench = s.bench := by simp -implicitDefEqProofs [vaonA]
@[simp] theorem vaonB_bench (up : Bool) (s : State) : (vaonB up s).bench = s.bench := by simp -implicitDefEqProofs [vaonB]

@[simp] theorem calShade_bench (n : Nat) (s : State) (set : Nat) : (calShade n s set).bench = s.bench := by
  unfold calShade
  extract_lets k b d
  split
  simp -implicitDefEqProofs
@[simp] theorem calImg_bench (s : State) (n : Nat) : (calImg s n).bench = s.bench := by simp -implicitDefEqProofs [calImg]
@[simp] theorem calEvent_bench (n : Nat) (s : State) : (calEvent n s).bench = s.bench := by
  simp -implicitDefEqProofs [calEvent]
@[simp] theorem calIdent_bench (n set : Nat) (s : State) : (calIdent n set s).bench = s.bench := by
  simp -implicitDefEqProofs [calIdent]
@[simp] theorem calNuc_bench (n : Nat) (s : State) (set : Nat) : (calNuc n s set).bench = s.bench := by
  simp -implicitDefEqProofs [calNuc]
@[simp] theorem calDrift_bench (n : Nat) (s : State) (set : Nat) : (calDrift n s set).bench = s.bench := by
  simp -implicitDefEqProofs [calDrift]
@[simp] theorem calDefects_bench (s : State) (n : Nat) : (calDefects s n).bench = s.bench := by
  unfold calDefects
  simp only []
  (repeat' split) <;> simp -implicitDefEqProofs
@[simp] theorem calRadio_bench (n : Nat) (s : State) (set : Nat) : (calRadio n s set).bench = s.bench := by
  unfold calRadio
  split <;> simp -implicitDefEqProofs
@[simp] theorem calPlane_bench (s : State) (n : Nat) : (calPlane s n).bench = s.bench := by
  unfold calPlane
  simp only []
  split <;> simp -implicitDefEqProofs
@[simp] theorem calTp_bench (s : State) (n : Nat) : (calTp s n).bench = s.bench := by simp -implicitDefEqProofs [calTp]
@[simp] theorem calLoad_bench (s : State) : (calLoad s).bench = s.bench := by simp -implicitDefEqProofs [calLoad]

@[simp] theorem State.onRunner_bench (s : State) (f : RunnerSt → RunnerSt) : (s.onRunner f).bench = s.bench := by
  simp -implicitDefEqProofs [State.onRunner]
@[simp] theorem ringShow_bench (s : State) : (ringShow s).bench = s.bench := by simp -implicitDefEqProofs [ringShow]
@[simp] theorem heardTidy_bench (s : State) : (heardTidy s).bench = s.bench := by simp -implicitDefEqProofs [heardTidy]
@[simp] theorem announce_bench (s : State) : (announce s).bench = s.bench := by simp -implicitDefEqProofs [announce]
@[simp] theorem duplicate_bench (n : Nat) (s : State) : (duplicate n s).bench = s.bench := by
  simp -implicitDefEqProofs [duplicate]
@[simp] theorem linkUp_bench (n id serial : Nat) (s : State) : (linkUp n id serial s).bench = s.bench := by
  simp -implicitDefEqProofs [linkUp]
@[simp] theorem fwdAgain_bench (s : State) : (fwdAgain s).bench = s.bench := by simp -implicitDefEqProofs [fwdAgain]
@[simp] theorem linkDown_bench (n : Nat) (fail : Bool) (s : State) : (linkDown n fail s).bench = s.bench := by
  simp -implicitDefEqProofs [linkDown]
@[simp] theorem runCfgWritten_bench (s : State) : (runCfgWritten s).bench = s.bench := by
  simp -implicitDefEqProofs [runCfgWritten]
@[simp] theorem trigSend_bench (dest c : Nat) (s : State) : (trigSend dest c s).bench = s.bench := by
  simp -implicitDefEqProofs [trigSend]
@[simp] theorem rmtEnd_bench (n result : Nat) (s : State) : (rmtEnd n result s).bench = s.bench := by
  simp -implicitDefEqProofs [rmtEnd]
@[simp] theorem rmtGo_bench (write : Bool) (dev size : Nat) (s : State) : (rmtGo write dev size s).bench = s.bench := by
  unfold rmtGo
  simp only []
  (repeat' split) <;> simp -implicitDefEqProofs

@[simp] theorem scriptSettle_bench (t : ScriptTarget) (s : State) : (scriptSettle t s).bench = s.bench := by
  unfold scriptSettle
  split <;> simp -implicitDefEqProofs
@[simp] theorem scriptStep_bench (t : ScriptTarget) (f : Nat → State → State) (s : State)
    (h : ∀ n t, (f n t).bench = t.bench) :
    (scriptStep t f s).bench = s.bench := by
  simp -implicitDefEqProofs [scriptStep, h]
@[simp] theorem scriptOpen_bench (t : ScriptTarget) (f : Nat → State → State) (s : State)
    (h : ∀ n t, (f n t).bench = t.bench) :
    (scriptOpen t f s).bench = s.bench := by
  simp -implicitDefEqProofs [scriptOpen, h]

@[simp] theorem refuseShadow_bench (q : Requester) (a ctrl : Nat) (s : State) :
    (refuseShadow q a ctrl s).bench = s.bench := by
  unfold refuseShadow
  split <;> simp -implicitDefEqProofs
@[simp] theorem State.restore_bench (s : State) (a : Nat) (old : Word) : (State.restore s a old).bench = s.bench := by
  simp -implicitDefEqProofs [State.restore]
@[simp] theorem onBit_bench (v : Word) (k : Nat) (f : State → State) (s : State) (h : ∀ t, (f t).bench = t.bench) :
    (onBit v k f s).bench = s.bench := by
  simp -implicitDefEqProofs [onBit, h]
@[simp] theorem posWritten_bench (o : Nat) (v : Word) (s : State) : (posWritten o v s).bench = s.bench := by
  simp -implicitDefEqProofs [posWritten]
@[simp] theorem motWritten_bench (a o : Nat) (v old : Word) (s : State) : (motWritten a o v old s).bench = s.bench := by
  simp -implicitDefEqProofs [motWritten]
@[simp] theorem precWritten_bench (a o : Nat) (v old : Word) (s : State) :
    (precWritten a o v old s).bench = s.bench := by
  simp -implicitDefEqProofs [precWritten]
@[simp] theorem lampWritten_bench (a o : Nat) (v old : Word) (s : State) :
    (lampWritten a o v old s).bench = s.bench := by
  simp -implicitDefEqProofs [lampWritten]
@[simp] theorem imgWritten_bench (n a o : Nat) (v old : Word) (s : State) :
    (imgWritten n a o v old s).bench = s.bench := by
  simp -implicitDefEqProofs [imgWritten]
@[simp] theorem tpWritten_bench (n a o : Nat) (v old : Word) (s : State) :
    (tpWritten n a o v old s).bench = s.bench := by
  simp -implicitDefEqProofs [tpWritten]
@[simp] theorem tmrWritten_bench (a o : Nat) (v old : Word) (s : State) : (tmrWritten a o v old s).bench = s.bench := by
  simp -implicitDefEqProofs [tmrWritten]
@[simp] theorem memWritten_bench (a o : Nat) (v old : Word) (s : State) : (memWritten a o v old s).bench = s.bench := by
  simp -implicitDefEqProofs [memWritten]
@[simp] theorem dmaWritten_bench (a o : Nat) (v old : Word) (s : State) : (dmaWritten a o v old s).bench = s.bench := by
  simp -implicitDefEqProofs [dmaWritten]
@[simp] theorem hostBlockWritten_bench (a o : Nat) (v old : Word) (s : State) :
    (hostBlockWritten a o v old s).bench = s.bench := by
  simp -implicitDefEqProofs [hostBlockWritten]
@[simp] theorem queueWritten_bench (f k a p : Nat) (old : Word) (s : State) :
    (queueWritten f k a p old s).bench = s.bench := by
  simp -implicitDefEqProofs [queueWritten]
@[simp] theorem frondWritten_bench (q : Requester) (f a o : Nat) (v old : Word) (s : State) :
    (frondWritten q f a o v old s).bench = s.bench := by
  simp -implicitDefEqProofs [frondWritten]
@[simp] theorem runWritten_bench (a o : Nat) (v old : Word) (s : State) : (runWritten a o v old s).bench = s.bench := by
  simp -implicitDefEqProofs [runWritten]
@[simp] theorem afterWrite_bench (q : Requester) (a : Nat) (v old : Word) (s : State) :
    (afterWrite q a v old s).bench = s.bench := by
  unfold afterWrite
  split <;> simp -implicitDefEqProofs
@[simp] theorem writeReg_bench (q : Requester) (a0 : Nat) (v setWon clearWon : Word) (s : State) :
    (writeReg q a0 v setWon clearWon s).bench = s.bench := by
  unfold writeReg
  simp only []
  (repeat' split) <;> simp -implicitDefEqProofs

@[simp] theorem flashFree_bench (a n : Nat) (s : State) : (flashFree a n s).bench = s.bench := by
  simp -implicitDefEqProofs [flashFree]
@[simp] theorem flashSpoil_bench (a n : Nat) (s : State) : (flashSpoil a n s).bench = s.bench := by
  simp -implicitDefEqProofs [flashSpoil]
@[simp] theorem jobAbandon_bench (s : State) : (jobAbandon s).bench = s.bench := by
  unfold jobAbandon
  split <;> simp -implicitDefEqProofs
@[simp] theorem freshBase_bench (warm : Bool) (s : State) : (freshBase warm s).bench = s.bench := by
  simp -implicitDefEqProofs [freshBase]
@[simp] theorem freshState_bench (warm keepPcie : Bool) (s : State) : (freshState warm keepPcie s).bench = s.bench := by
  simp -implicitDefEqProofs [freshState]
@[simp] theorem trustShow_bench (s : State) : (trustShow s).bench = s.bench := by simp -implicitDefEqProofs [trustShow]
@[simp] theorem issueAlias_bench (s : State) : (issueAlias s).bench = s.bench := by simp -implicitDefEqProofs [issueAlias]
@[simp] theorem layerOne_bench (header : List Byte) (s : State) : (layerOne header s).bench = s.bench := by
  simp -implicitDefEqProofs [layerOne]
@[simp] theorem layerFree_bench (s : State) : (layerFree s).bench = s.bench := by simp -implicitDefEqProofs [layerFree]
@[simp] theorem loadTufts_bench (s0 : State) (b : Nat) (s : State) : (loadTufts s0 b s).bench = s.bench := by
  unfold loadTufts
  split <;> simp -implicitDefEqProofs
@[simp] theorem startTuft_bench (s : State) (t : Nat) : (startTuft s t).bench = s.bench := by
  simp -implicitDefEqProofs [startTuft]
@[simp] theorem loadFrond_bench (s0 : State) (b off : Nat) (s : State) (e : Nat) :
    (loadFrond s0 b off s e).bench = s.bench := by
  simp -implicitDefEqProofs [loadFrond]
@[simp] theorem loadMotion_bench (s0 : State) (b : Nat) (s : State) : (loadMotion s0 b s).bench = s.bench := by
  unfold loadMotion
  split <;> simp -implicitDefEqProofs
@[simp] theorem takeNow_bench (s : State) (u : CommitUnit) : (takeNow s u).bench = s.bench := by
  simp -implicitDefEqProofs [takeNow]
@[simp] theorem State.each_bench (k : Nat) (f : State → Nat → State) (s : State) (h : ∀ t n, (f t n).bench = t.bench) :
    (s.each k f).bench = s.bench := by
  simp -implicitDefEqProofs [State.each, h]
@[simp] theorem commitAll_bench (s : State) : (commitAll s).bench = s.bench := by simp -implicitDefEqProofs [commitAll]
@[simp] theorem loadStreams_bench (p : Spore) (s : State) : (loadStreams p s).bench = s.bench := by
  simp -implicitDefEqProofs [loadStreams]
@[simp] theorem blockWrite_bench (s0 : State) (b : Nat) (s : State) (e : Nat) :
    (blockWrite s0 b s e).bench = s.bench := by
  simp -implicitDefEqProofs [blockWrite]
@[simp] theorem blocksWrite_bench (s0 : State) (b : Nat) (s : State) : (blocksWrite s0 b s).bench = s.bench := by
  simp -implicitDefEqProofs [blocksWrite]
@[simp] theorem applyImage_bench (slot : Nat) (s : State) : (applyImage slot s).bench = s.bench := by
  simp -implicitDefEqProofs [applyImage]
@[simp] theorem beginImage_bench (slot : Nat) (s : State) : (beginImage slot s).bench = s.bench := by
  simp -implicitDefEqProofs [beginImage]
@[simp] theorem enterSafe_bench (code : Nat) (s : State) : (enterSafe code s).bench = s.bench := by
  simp -implicitDefEqProofs [enterSafe]
@[simp] theorem slotVerdict_bench (slot code : Nat) (c : Option Conflict) (s : State) :
    (slotVerdict slot code c s).bench = s.bench := by
  unfold slotVerdict
  cases c <;> simp -implicitDefEqProofs
@[simp] theorem bootRecord_bench (s : State) : (bootRecord s).bench = s.bench := by simp -implicitDefEqProofs [bootRecord]
@[simp] theorem stagedCheck_bench (k : Nat) (s : State) : (stagedCheck k s).1.bench = s.bench := by
  unfold stagedCheck
  (repeat' split) <;> simp -implicitDefEqProofs
@[simp] theorem trySlots_bench (k : Nat) (l : List Nat) (s : State) : (trySlots k l s).1.bench = s.bench := by
  induction l generalizing s with
  | nil => exact enterSafe_bench _ _
  | cons k l ih =>
    unfold trySlots
    simp only []
    split <;> simp -implicitDefEqProofs [ih]
@[simp] theorem recoverStreams_bench (s : State) : (recoverStreams s).bench = s.bench := by
  simp -implicitDefEqProofs [recoverStreams]
@[simp] theorem coldSnapshots_bench (s : State) : (coldSnapshots s).bench = s.bench := by
  unfold coldSnapshots
  extract_lets t
  have ht : t.bench = s.bench := foldl_bench _ s fun t n => by split <;> simp -implicitDefEqProofs
  split <;> simp -implicitDefEqProofs [ht]
@[simp] theorem runIdLoad_bench (s : State) : (runIdLoad s).bench = s.bench := by
  unfold runIdLoad
  split <;> simp -implicitDefEqProofs
@[simp] theorem mbxShow_bench (s : State) : (mbxShow s).bench = s.bench := by simp -implicitDefEqProofs [mbxShow]
@[simp] theorem startBegin_bench (warm : Bool) (cause : Nat) (s : State) :
    (startBegin warm cause s).bench = s.bench := by
  simp -implicitDefEqProofs [startBegin]
@[simp] theorem bootStep_bench (k : Nat) (s : State) : (bootStep k s).bench = s.bench := by
  simp -implicitDefEqProofs [bootStep]
@[simp] theorem bootLatch_bench (s : State) : (bootLatch s).1.bench = s.bench := by
  unfold bootLatch
  split <;> simp -implicitDefEqProofs
@[simp] theorem bootRoot_bench (s : State) : (bootRoot s).1.bench = s.bench := by simp -implicitDefEqProofs [bootRoot]
@[simp] theorem bootHeads_bench (s : State) : (bootHeads s).1.bench = s.bench := by
  unfold bootHeads
  simp only []
  (repeat' split) <;> simp -implicitDefEqProofs
@[simp] theorem bootTrims_bench (s : State) : (bootTrims s).1.bench = s.bench := by
  unfold bootTrims
  split <;> simp -implicitDefEqProofs
@[simp] theorem bootMarch_bench (s : State) : (bootMarch s).1.bench = s.bench := by
  unfold bootMarch
  split <;> simp -implicitDefEqProofs
@[simp] theorem bootDram_bench (s : State) : (bootDram s).1.bench = s.bench := by
  unfold bootDram
  split <;> simp -implicitDefEqProofs
@[simp] theorem bootCheck_bench (s : State) : (bootCheck s).1.bench = s.bench := by simp -implicitDefEqProofs [bootCheck]
@[simp] theorem bootApply_bench (s : State) : (bootApply s).1.bench = s.bench := applyImage_bench _ _
@[simp] theorem bootRun_bench (s : State) : (bootRun s).1.bench = s.bench := by simp -implicitDefEqProofs [bootRun]
@[simp] theorem endByFault_bench (cause : Nat) (s : State) : (endByFault cause s).bench = s.bench := by
  simp -implicitDefEqProofs [endByFault]
@[simp] theorem causeRecords_bench (cause : Nat) (s : State) : (causeRecords cause s).bench = s.bench := by
  simp -implicitDefEqProofs [causeRecords]
@[simp] theorem pcieReset_bench (cause : Nat) (s : State) : (pcieReset cause s).bench = s.bench := by
  simp -implicitDefEqProofs [pcieReset]
@[simp] theorem eventNow_bench (src : Nat) (s : State) : (eventNow src s).bench = s.bench := by
  simp -implicitDefEqProofs [eventNow]
@[simp] theorem warmBegin_bench (cause : Nat) (s : State) : (warmBegin cause s).bench = s.bench := by
  simp -implicitDefEqProofs [warmBegin]

/-! ### A start leaves BOOT, and with the thermal latch set it ends in HALT (01 R27, R28, R31) -/

/-- BOOT is over, and the device neither off nor in MAINT: where every start ends. -/
def BootOver (t : State) : Prop := t.mode = .run ∨ t.mode = .safe ∨ t.mode = .halt

theorem BootOver.of_mode {s t : State} (h : BootOver s) (e : t.mode = s.mode) : BootOver t := by
  unfold BootOver
  rw [e]
  exact h

theorem Keep.same_mode {q : Bool} {s t : State} (h : Keep q true s t) : t.mode = s.mode := (h.mode rfl).1

theorem Keep.same_latch {q : Bool} {s t : State} (h : Keep q true s t) : t.pwr.latch = s.pwr.latch := (h.mode rfl).2

theorem setMode_rest_keep (m : Mode) (s : State) : Keep true true { s with mode := m } (setMode m s) := by
  unfold setMode
  extract_lets old t
  have shown : Keep true true { s with mode := m } t := State.setFld_keep (.refl ..)
  exact readyCheck_keep (.ite shown (peatState_keep shown))

theorem setMode_mode (m : Mode) (s : State) : (setMode m s).mode = m := (setMode_rest_keep m s).same_mode

theorem setMode_latch (m : Mode) (s : State) : (setMode m s).pwr.latch = s.pwr.latch := (setMode_rest_keep m s).same_latch

theorem enterSafe_mode (code : Nat) (s : State) : (enterSafe code s).mode = .safe := setMode_mode ..

theorem peatFlush_mode (s : State) : (peatFlush s).mode = s.mode := (peatFlush_keep (.refl ..)).same_mode

theorem thermalShutdown_mode (k : Nat) (t : Int) (s : State) : (thermalShutdown k t s).mode = .halt :=
  (peatFlush_mode _).trans (setMode_mode ..)

/-! #### The steps of BOOT -/

/-- What a step of BOOT can do: an event of the board comes before it, it ends BOOT, or the next step follows. -/
theorem runSteps_cons (ev : Option BootEvent) (f : State → State × Bool) (fs : List (State → State × Bool)) (k : Nat)
    (s : State) :
    (∃ e, ev = some e ∧ runSteps ev (f :: fs) k s = (s, some e.what)) ∨
    ((f s).2 = true ∧ runSteps ev (f :: fs) k s = ((f s).1, none)) ∨
    ((f s).2 = false ∧ runSteps ev (f :: fs) k s = runSteps ev fs (k + 1) (f s).1) := by
  cases ev with
  | none => cases h : (f s).2 <;> simp [runSteps, h]
  | some e =>
    by_cases hk : e.step.val = k
    · exact .inl ⟨e, rfl, by simp [runSteps, hk]⟩
    · cases h : (f s).2 <;> simp [runSteps, h, hk]

theorem runSteps_bench {ev : Option BootEvent} {fs : List (State → State × Bool)}
    (hf : ∀ f ∈ fs, ∀ s, (f s).1.bench = s.bench) (k : Nat) (s : State) : (runSteps ev fs k s).1.bench = s.bench := by
  induction fs generalizing k s with
  | nil => rfl
  | cons f fs ih =>
    have hs : (f s).1.bench = s.bench := hf f List.mem_cons_self s
    obtain ⟨e, -, h⟩ | ⟨-, h⟩ | ⟨-, h⟩ := runSteps_cons ev f fs k s
    · rw [h]
    · rw [h, hs]
    · rw [h, ih (fun g hg => hf g (List.mem_cons_of_mem _ hg)), hs]

/-- Steps of which each ends BOOT where it says so, and the last always says so. -/
theorem runSteps_over {ev : Option BootEvent} {p : State → Prop} {last : State → State × Bool} (hl : ∀ s, (last s).2 = true)
    {fs : List (State → State × Bool)} (hf : ∀ f ∈ fs ++ [last], ∀ s, (f s).2 = true → p (f s).1) (k : Nat) (s : State)
    (h : (runSteps ev (fs ++ [last]) k s).2 = none) : p (runSteps ev (fs ++ [last]) k s).1 := by
  induction fs generalizing k s with
  | nil =>
    obtain ⟨e, -, r⟩ | ⟨hs, r⟩ | ⟨hs, -⟩ := runSteps_cons ev last [] k s
    · exact nomatch (congrArg Prod.snd r).symm.trans h
    · rw [List.nil_append, r]
      exact hf last List.mem_cons_self s hs
    · exact absurd (hl s) (Bool.eq_false_iff.mp hs)
  | cons f fs ih =>
    obtain ⟨e, -, r⟩ | ⟨hs, r⟩ | ⟨-, r⟩ := runSteps_cons ev f (fs ++ [last]) k s
    · exact nomatch (congrArg Prod.snd r).symm.trans h
    · rw [List.cons_append, r]
      exact hf f List.mem_cons_self s hs
    · rw [List.cons_append, r] at h ⊢
      exact ih (fun g hg => hf g (List.mem_cons_of_mem _ hg)) _ _ h

theorem runSteps_none (fs : List (State → State × Bool)) (k : Nat) (s : State) : (runSteps none fs k s).2 = none := by
  induction fs generalizing k s with
  | nil => rfl
  | cons f fs ih =>
    obtain ⟨e, h, -⟩ | ⟨-, h⟩ | ⟨-, h⟩ := runSteps_cons none f fs k s
    · cases h
    · rw [h]
    · rw [h]
      exact ih ..

theorem bootSteps_bench : ∀ f ∈ bootSteps, ∀ s, (f s).1.bench = s.bench := by
  simp only [bootSteps, List.forall_mem_cons]
  exact ⟨bootLatch_bench, bootRoot_bench, bootHeads_bench, bootTrims_bench, bootMarch_bench, bootDram_bench, bootCheck_bench,
    bootApply_bench, bootRun_bench, nofun⟩

theorem bootLatch_over (s : State) (h : (bootLatch s).2 = true) : BootOver (bootLatch s).1 := by
  unfold bootLatch at *
  split at h
  · rw [if_pos ‹_›]
    exact .inr (.inr (setMode_mode ..))
  · cases h

theorem bootHeads_over (s : State) (h : (bootHeads s).2 = true) : BootOver (bootHeads s).1 := by
  unfold bootHeads at *
  extract_lets at *
  split
  · simp_all
  · split
    · simp_all
    · exact .inr (.inl (enterSafe_mode ..))

theorem bootTrims_over (s : State) (h : (bootTrims s).2 = true) : BootOver (bootTrims s).1 := by
  unfold bootTrims at *
  split
  · exact .inr (.inl (enterSafe_mode ..))
  · simp_all

theorem bootMarch_over (s : State) (h : (bootMarch s).2 = true) : BootOver (bootMarch s).1 := by
  unfold bootMarch at *
  split
  · exact .inr (.inl (enterSafe_mode ..))
  · simp_all

theorem bootDram_over (s : State) (h : (bootDram s).2 = true) : BootOver (bootDram s).1 := by
  unfold bootDram at *
  split
  · simp_all
  · exact .inr (.inl (enterSafe_mode ..))

theorem trySlots_over (active : Nat) (l : List Nat) (s : State) (h : (trySlots active l s).2 = true) :
    BootOver (trySlots active l s).1 := by
  induction l generalizing s with
  | nil => exact .inr (.inl (enterSafe_mode ..))
  | cons k l ih =>
    simp only [trySlots] at h ⊢
    split at h
    · cases h
    · rw [if_neg ‹_›]
      exact ih _ h

theorem beginImage_mode (slot : Nat) (s : State) : (beginImage slot s).mode = .run := by
  unfold beginImage
  extract_lets b p u v marked begun watched up lit adv
  have hv : v.mode = .run := setMode_mode ..
  have h1 : Keep true true v begun := Keep.foldl (.refl ..) fun _ k _ => frondStart_keep k
  have h2 : Keep true true v up := Keep.foldl (devWdogWrite_keep h1) fun _ k _ => State.cond_keep k fun _ k => tpEnable_keep k
  have h3 : Keep true true v lit := Keep.foldl h2 fun _ k _ => lampEnable_keep k
  exact (readyCheck_keep (Keep.set_boot h3)).same_mode.trans hv

theorem bootRun_over (s : State) : BootOver (bootRun s).1 :=
  .inl ((State.cond_keep (.refl ..) fun _ k => bootRecord_keep k : Keep true true _ _).same_mode.trans (beginImage_mode ..))

theorem bootSteps_over : ∀ f ∈ bootSteps, ∀ s, (f s).2 = true → BootOver (f s).1 := by
  simp only [bootSteps, List.forall_mem_cons]
  exact ⟨bootLatch_over, fun s h => (Bool.false_ne_true h).elim, bootHeads_over, bootTrims_over, bootMarch_over, bootDram_over,
    fun s => trySlots_over _ _ s, fun s h => (Bool.false_ne_true h).elim, fun s _ => bootRun_over s, nofun⟩

/-! #### One start, and the starts that follow it -/

/-- The event that the board brings to the next start. -/
def nextEvent (s : State) : Option BootEvent := s.bench.during.head?.join

/-- The board's list without the event that a start has taken. -/
def eventTaken (s : State) : State := { s with bench := { s.bench with during := s.bench.during.drop 1 } }

/-- The state in which the steps of a start begin. -/
def stepsBegin (warm : Bool) (cause : Nat) (s : State) : State := eventTaken (startBegin warm cause s)

theorem eventTaken_bench (s : State) : (eventTaken s).bench = { s.bench with during := s.bench.during.drop 1 } := rfl

theorem eventTaken_latch (s : State) : (eventTaken s).pwr.latch = s.pwr.latch := rfl

theorem stepsBegin_bench (warm : Bool) (cause : Nat) (s : State) :
    (stepsBegin warm cause s).bench = { s.bench with during := s.bench.during.drop 1 } := by
  unfold stepsBegin
  rw [eventTaken_bench, startBegin_bench]

theorem startOnce_eq (warm : Bool) (cause : Nat) (s : State) :
    startOnce warm cause s = runSteps (nextEvent s) bootSteps 0 (stepsBegin warm cause s) := by
  have e : (startBegin warm cause s).bench.during.head?.join = nextEvent s :=
    congrArg (fun b : Bench => b.during.head?.join) (startBegin_bench ..)
  rw [← e]
  rfl

theorem startOnce_bench (warm : Bool) (cause : Nat) (s : State) :
    (startOnce warm cause s).1.bench.during = s.bench.during.drop 1 := by
  rw [startOnce_eq, runSteps_bench bootSteps_bench, stepsBegin_bench]

theorem startOnce_over {warm : Bool} {cause : Nat} {s : State} (h : (startOnce warm cause s).2 = none) :
    BootOver (startOnce warm cause s).1 :=
  runSteps_over (fs := bootSteps.dropLast) (fun _ => rfl) bootSteps_over 0 _ h

theorem nextEvent_none {s : State} (h : s.bench.during = []) : nextEvent s = none := by
  unfold nextEvent
  rw [h]
  rfl

theorem startOnce_none {warm : Bool} {cause : Nat} {s : State} (h : s.bench.during = []) : (startOnce warm cause s).2 = none := by
  rw [startOnce_eq, nextEvent_none h]
  exact runSteps_none ..

theorem stepsBegin_latch (warm : Bool) (cause : Nat) (s : State) : (stepsBegin warm cause s).pwr.latch = s.pwr.latch := by
  unfold stepsBegin
  rw [eventTaken_latch]
  unfold startBegin
  extract_lets keep fresh u1 u2 u3 u4 u5 u6
  have h : Keep false true s u6 := State.setFld_keep (State.setReg64_keep (State.setBit_keep (aonShow_keep (peatFind_keep
    (State.setFld_keep (State.setFld_keep (State.setFld_keep (State.setBit_keep (freshState_keep (.refl ..))))))))))
  have ready : Keep false true s (if warm then u6 else coldSnapshots u6) := .ite h (coldSnapshots_keep h)
  exact (Keep.same_latch (runIdLoad_keep (.refl false true _))).trans ((setMode_latch ..).trans ready.same_latch)

/-- With the latch set, a start that no event cuts short ends in its first step. -/
theorem startOnce_latched {warm : Bool} {cause : Nat} {s : State} (hl : s.pwr.latch = true)
    (h : (startOnce warm cause s).2 = none) : (startOnce warm cause s).1.mode = .halt := by
  rw [startOnce_eq] at *
  have first : bootLatch (stepsBegin warm cause s) = (setMode .halt (stepsBegin warm cause s), true) :=
    if_pos ((stepsBegin_latch ..).trans hl)
  obtain ⟨e, -, r⟩ | ⟨-, r⟩ | ⟨hs, -⟩ := runSteps_cons (nextEvent s) bootLatch bootSteps.tail 0 (stepsBegin warm cause s)
  · exact nomatch (congrArg Prod.snd r).symm.trans h
  · refine (congrArg (·.1.mode) r).trans ?_
    rw [first]
    exact setMode_mode ..
  · rw [first] at hs
    cases hs

/-- The starts that follow one another, as long as the board has events, end outside BOOT; with the latch set, in HALT. -/
theorem startLoop_over (n : Nat) (warm : Bool) (cause : Nat) (s : State) (h : s.bench.during.length ≤ n) :
    BootOver (startLoop n warm cause s) ∧ (s.pwr.latch = true → (startLoop n warm cause s).mode = .halt) := by
  induction n generalizing warm cause s with
  | zero =>
    have none := startOnce_none (warm := warm) (cause := cause) (List.eq_nil_of_length_eq_zero (Nat.le_zero.mp h))
    unfold startLoop
    exact ⟨startOnce_over none, (startOnce_latched · none)⟩
  | succ n ih =>
    have left := startOnce_bench warm cause s
    have latch := (startOnce_keep (.refl false false s) : Keep false false s (startOnce warm cause s).1).latch
    unfold startLoop
    split
    · rename_i t ht
      have none : (startOnce warm cause s).2 = none := congrArg Prod.snd ht
      have same : t = (startOnce warm cause s).1 := congrArg Prod.fst ht.symm
      rw [same]
      exact ⟨startOnce_over none, (startOnce_latched · none)⟩
    · rename_i t c ht
      rw [ht] at left latch
      have left : t.bench.during = s.bench.during.drop 1 := left
      have again := ih true c (warmBegin c (pcieReset c t)) (by
        rw [warmBegin_bench, pcieReset_bench, left, List.length_drop]
        omega)
      exact ⟨again.1, fun hl => again.2 ((warmBegin_keep (q := true) (m := true) (pcieReset_keep (.refl ..))).latch (latch hl))⟩
    · have halt := thermalShutdown_mode
      exact ⟨.inr (.inr (halt ..)), fun _ => halt ..⟩

theorem start_rest_keep (u : State) : Keep true true u (linksTrain (mbxShow (layerFree u))) :=
  linksTrain_keep (mbxShow_keep (layerFree_keep (.refl ..)))

/-- A start ends in RUN, SAFE or HALT. -/
theorem start_over (warm : Bool) (cause : Nat) (s : State) : BootOver (start warm cause s) :=
  (startLoop_over _ warm cause s le_rfl).1.of_mode (start_rest_keep _).same_mode

theorem start_latched {warm : Bool} {cause : Nat} {s : State} (h : s.pwr.latch = true) : (start warm cause s).mode = .halt :=
  (start_rest_keep _).same_mode.trans ((startLoop_over _ warm cause s le_rfl).2 h)

theorem start_pending (warm : Bool) (cause : Nat) (s : State) : (start warm cause s).pending = s.pending :=
  (start_keep (.refl false false s)).pending

/-! ### WarmRecovery: the causes 2, 3 and 4, and the fuse steps (01 R32, 02 R65) -/

theorem warmStart_over (cause : Nat) (s : State) : BootOver (warmStart cause s) := start_over ..

theorem warmStart_pending (cause : Nat) (s : State) : (warmStart cause s).pending = s.pending :=
  (warmStart_keep (.refl false false s)).pending

theorem warmStart_latched {cause : Nat} {s : State} (h : s.pwr.latch = true) :
    (warmStart cause s).mode = .halt ∧ (warmStart cause s).pwr.latch = true :=
  ⟨start_latched ((warmBegin_keep (.refl true true s)).latch h), (warmStart_keep (.refl false false s)).latch h⟩

theorem warmCause_idle {s : State} (h : s.serving = false) (cause : Nat) (m : Meet) : warmCause cause m s = s := by
  unfold warmCause
  rw [h]
  rfl

/-- What thermal shutdown leaves to the start that beats it: the latch (01 R31). -/
def latchSet (s : State) : State := { s with pwr := { s.pwr with latch := true } }

theorem warmCause_serving {s : State} (h : s.serving = true) (cause : Nat) :
    warmCause cause .alone s = warmStart cause s ∧
    warmCause cause .afterStop s = warmStart cause (settleRun (s.satInc R.SYS_RACE F.SYS_RACE_RACE)) ∧
    warmCause cause .afterCause s = secondCause cause (s.satInc R.SYS_RACE F.SYS_RACE_RACE) ∧
    warmCause cause .beforeSeal s = warmStart cause (s.satInc R.SEAL_RACE F.SEAL_RACE_RACE) ∧
    warmCause cause .beforeShutdown s = warmStart cause (latchSet (s.satInc R.SYS_RACE F.SYS_RACE_RACE)) := by
  simp only [warmCause, h, Bool.not_true, Bool.false_eq_true, if_false, latchSet, and_self]

/-- The losing cause is noted in the peat log alone. -/
theorem secondCause_bookkeeps (cause : Nat) (s : State) : Bookkeeps s (secondCause cause s) := by
  unfold secondCause
  extract_lets isCause q
  split
  · rfl
  · exact (Bookkeeps.refl s).trans (peatPush_bookkeeps ..)

theorem secondCause_regs (cause : Nat) (s : State) : SameRegs s (secondCause cause s) (· = R.PEAT_STATUS) := by
  unfold secondCause
  extract_lets isCause q
  split
  · exact .of_eq rfl rfl
  · exact peatPush_regs (.refl s _) rfl

/-- A warm recovery cause in a serving state, with what it meets. -/
theorem warmCause_recovers {s : State} (h : s.serving = true) (cause : Nat) :
    (∀ m, m = .alone ∨ m = .afterStop ∨ m = .beforeSeal →
      BootOver (warmCause cause m s) ∧ (warmCause cause m s).pending = s.pending) ∧
    (let t := warmCause cause .afterCause s
     t.mode = s.mode ∧ SameMem s t ∧
      t.fld R.SYS_RACE F.SYS_RACE_RACE = satAdd (2 ^ F.SYS_RACE_RACE.width - 1) (s.fld R.SYS_RACE F.SYS_RACE_RACE) 1) ∧
    (warmCause cause .beforeShutdown s).mode = .halt ∧ (warmCause cause .beforeShutdown s).pwr.latch = true := by
  obtain ⟨alone, stop, after, sealed, shut⟩ := warmCause_serving h cause
  rw [shut]
  refine ⟨?_, ?_, warmStart_latched rfl⟩
  · rintro m (rfl | rfl | rfl)
    · rw [alone]
      exact ⟨warmStart_over .., warmStart_pending ..⟩
    · rw [stop]
      exact ⟨warmStart_over .., (warmStart_pending ..).trans
        (settleRun_keep (State.satInc_keep (.refl false false s))).pending⟩
    · rw [sealed]
      exact ⟨warmStart_over .., (warmStart_pending ..).trans (State.satInc_keep (.refl true true s)).pending⟩
  · rw [after]
    have noted := secondCause_bookkeeps cause (s.satInc R.SYS_RACE F.SYS_RACE_RACE)
    refine ⟨noted.mode, ((Bookkeeps.refl s).satInc ..).sameMem.trans noted.sameMem, ?_⟩
    refine (State.fld_of_reg (secondCause_regs cause _ R.SYS_RACE (by decide)).1 _).trans ?_
    exact State.fld_satInc_self _ _ _ _ (by decide)

/-- The register file without the MSI-X table reads as before elsewhere. -/
theorem Sparse.find_filter {α : Type} (p : Nat → Bool) (m : List (Nat × α)) {k : Nat} (h : p k = true) :
    Sparse.find (m.filter fun e => p e.1) k = Sparse.find m k := by
  induction m with
  | nil => rfl
  | cons e m ih =>
    obtain ⟨a, v⟩ := e
    by_cases hk : k = a
    · subst hk
      simp [Sparse.find, h]
    · cases hp : p a <;> simp [Sparse.find, hp, hk, ih]

theorem pcieReset_reg (cause : Nat) (s : State) {a : Nat} (h : isMsix a = false) : (pcieReset cause s).reg a = s.reg a := by
  have kept : (Sparse.find (s.regs.filter fun e => !isMsix e.1) a).getD (resetOf a) = s.reg a := by
    rw [Sparse.find_filter (fun a => !isMsix a) _ (by rw [h]; rfl)]
    rfl
  unfold pcieReset
  split
  · exact kept
  · split
    · exact kept
    · rfl

theorem pcieReset_keep_self (cause : Nat) (s : State) : Keep true true s (pcieReset cause s) := pcieReset_keep (.refl ..)

theorem pcieReset_serving (cause : Nat) (s : State) : (pcieReset cause s).serving = s.serving := by
  unfold State.serving
  rw [(pcieReset_keep_self cause s).same_mode]

/-- What a command does in `s` that raises a warm recovery cause in `u`, for each meeting in the root's arbiter. -/
def Recovers (row : Meet → Instr) (cause : Nat) (s u : State) : Prop :=
  exec (row .alone) s = .next (start true cause (warmBegin cause u)) ∧
  Completes (row .alone) s (fun t => BootOver t ∧ t.pending = s.pending) ∧
  (∀ m, m = Meet.afterStop ∨ m = Meet.beforeSeal → Completes (row m) s (fun t => BootOver t ∧ t.pending = s.pending)) ∧
  Completes (row .afterCause) s (fun t => t.mode = s.mode ∧ SameMem s t ∧ t.fld R.SYS_RACE F.SYS_RACE_RACE =
    satAdd (2 ^ F.SYS_RACE_RACE.width - 1) (s.fld R.SYS_RACE F.SYS_RACE_RACE) 1) ∧
  Completes (row .beforeShutdown) s (fun t => t.mode = .halt ∧ t.pwr.latch = true)

/-- A cause recovers where it is raised in a state that still serves and differs from the one before the command in neither
operating state, memory, race counter nor waiting commands. -/
theorem recovers_of_row {row : Meet → Instr} {cause : Nat} {s u : State}
    (hrow : ∀ m, exec (row m) s = .next (warmCause cause m u)) (serves : u.serving = true) (mode : u.mode = s.mode)
    (pending : u.pending = s.pending) (mem : SameMem s u) (race : u.reg R.SYS_RACE = s.reg R.SYS_RACE) :
    Recovers row cause s u := by
  obtain ⟨starts, ⟨after, same, count⟩, halts⟩ := warmCause_recovers serves cause
  have ends : ∀ m, m = .alone ∨ m = .afterStop ∨ m = .beforeSeal →
      Completes (row m) s (fun t => BootOver t ∧ t.pending = s.pending) := fun m hm =>
    ⟨_, hrow m, (starts m hm).1, (starts m hm).2.trans pending⟩
  refine ⟨(hrow .alone).trans (next_eq (warmCause_serving serves cause).1), ends _ (.inl rfl), fun m hm => ends m (.inr hm),
    ⟨_, hrow _, after.trans mode, mem.trans same, count.trans ?_⟩, ⟨_, hrow _, halts⟩⟩
  rw [State.fld_of_reg race]

theorem pcieReset_recovers {row : Meet → Instr} {cause : Nat} {s : State} (h : s.serving = true)
    (hrow : ∀ m, exec (row m) s = .next (warmCause cause m (pcieReset cause s))) :
    Recovers row cause s (pcieReset cause s) :=
  have k := pcieReset_keep_self cause s
  recovers_of_row hrow ((pcieReset_serving cause s).trans h) k.same_mode k.pending
    (SameMem.of_eq (k.mem rfl).1 (k.mem rfl).2) (pcieReset_reg cause s (by decide))

/-- An island's DCO that loses lock in a serving state (18 R522). -/
def lockLost (i : Nat) (s : State) : State := (s.setBit (R.TIME_ISL_LOCK (i / 32)) ⟨i % 32, 1⟩ false).raise 571

theorem lockLost_recovers {i : Fin 96} {s : State} (h : s.serving = true) (hi : i.val ≠ 95)
    (hb : s.bit (R.TIME_ISL_LOCK (i.val / 32)) ⟨i.val % 32, 1⟩ = true) :
    Recovers (fun m => .dcoMonitor i false m) 2 s (lockLost i s) := by
  have k : Keep true true s (lockLost i s) := State.raise_keep (State.setBit_keep (.refl ..))
  have apart : R.SYS_RACE ≠ R.TIME_ISL_LOCK (i.val / 32) := by
    simp only [R.SYS_RACE, R.TIME_ISL_LOCK]
    omega
  refine recovers_of_row (fun m => next_eq ((State.whenServing_true h _).trans (if_neg ?_))) ?_ k.same_mode k.pending
    (SameMem.of_eq (k.mem rfl).1 (k.mem rfl).2) ?_
  · simp [hi, hb]
  · unfold State.serving at *
    rw [k.same_mode]
    exact h
  · unfold lockLost
    rw [State.reg_raise _ _ (by decide)]
    exact State.reg_setBit_ne _ _ _ apart

theorem execDcoMonitor_holds {i : Fin 96} {locked : Bool} {m : Meet} {s : State} (h : s.serving = false ∨ locked = true ∨
    i.val = 95 ∨ s.bit (R.TIME_ISL_LOCK (i.val / 32)) ⟨i.val % 32, 1⟩ = false) : exec (.dcoMonitor i locked m) s = .next s := by
  refine next_eq ?_
  cases hs : s.serving
  · exact State.whenServing_false hs _
  · refine (State.whenServing_true hs _).trans (if_pos ?_)
    simpa [hs] using h

theorem Bookkeeps.root {s t : State} (h : Bookkeeps s t) : t.root = s.root := (congrArg State.root h).trans rfl

theorem Bookkeeps.boot {s t : State} (h : Bookkeeps s t) : t.boot = s.boot := (congrArg State.boot h).trans rfl

theorem Bookkeeps.flag {s t : State} (h : Bookkeeps s t) (a : Nat) (f : Fld) : Bookkeeps s (t.flag a f) := h.setFld a f _

theorem bootRecord_bookkeeps (s : State) : Bookkeeps s (bootRecord s) := peatPush_bookkeeps ..

theorem bootRecord_regs (s : State) : SameRegs s (bootRecord s) (· = R.PEAT_STATUS) := peatPush_regs (.refl s _) rfl

/-- One more fuse step blown, and what is left of them. -/
def fuseBlown (q : Spore) (s : State) : State :=
  { s with root := { s.root with arbFused := s.root.arbFused + 1 },
           boot := { s.boot with arbPending := decide (s.root.arbFused + 1 < q.arb) } }

/-- BOOT_SPORE shows the fuse step. -/
def fuseShown (q : Spore) (s : State) : State :=
  (fuseBlown q s).setFld R.BOOT_SPORE F.BOOT_SPORE_ARB_FUSED (s.root.arbFused + 1)

theorem execArbFuseAdvance_eq {s : State} (hw : s.working = true) {q : Spore} (hq : s.boot.spore = some q)
    (ha : s.boot.arbPending = true) : exec .arbFuseAdvance s = .next (if s.root.arbFused + 1 < q.arb then fuseShown q s
      else bootRecord (((fuseShown q s).flag R.BOOT_STATUS F.BOOT_STATUS_ARB_ADVANCED).raise 483)) := by
  refine next_eq ((State.whenWorking_true hw _).trans ?_)
  simp only [hq, ha, Bool.not_true, Bool.false_eq_true, if_false, fuseShown, fuseBlown]

theorem execArbFuseAdvance_advances {s : State} (hw : s.working = true) {q : Spore} (hq : s.boot.spore = some q)
    (ha : s.boot.arbPending = true) : Completes .arbFuseAdvance s fun t => t.root.arbFused = s.root.arbFused + 1 ∧
      t.boot.arbPending = decide (s.root.arbFused + 1 < q.arb) ∧ SameMem s t ∧ t.mode = s.mode ∧
      (q.arb ≤ s.root.arbFused + 1 → t.bit R.BOOT_STATUS F.BOOT_STATUS_ARB_ADVANCED = true) := by
  refine ⟨_, execArbFuseAdvance_eq hw hq ha, ?_⟩
  have blown : SameMem s (fuseBlown q s) := SameMem.of_eq rfl rfl
  have shown : Bookkeeps (fuseBlown q s) (fuseShown q s) := (Bookkeeps.refl _).setFld ..
  have told : ∀ t, Bookkeeps (fuseBlown q s) t → t.root.arbFused = s.root.arbFused + 1 ∧
      t.boot.arbPending = decide (s.root.arbFused + 1 < q.arb) ∧ SameMem s t ∧ t.mode = s.mode := by
    intro t h
    rw [h.root, h.boot, h.mode]
    exact ⟨rfl, rfl, blown.trans h.sameMem, rfl⟩
  split
  · obtain ⟨fused, pending, mem, mode⟩ := told _ shown
    exact ⟨fused, pending, mem, mode, fun h => absurd ‹_› (Nat.not_lt.mpr h)⟩
  · obtain ⟨fused, pending, mem, mode⟩ := told _
      (((shown.flag R.BOOT_STATUS F.BOOT_STATUS_ARB_ADVANCED).raise 483).trans (bootRecord_bookkeeps _))
    refine ⟨fused, pending, mem, mode, fun _ => ?_⟩
    refine (State.bit_of_reg (bootRecord_regs _ R.BOOT_STATUS (by decide)).1 _).trans ?_
    refine (State.bit_of_reg (State.reg_raise _ _ (by decide)) _).trans ?_
    exact State.bit_setBit_self _ _ _ true (by decide)

/-- Settles O40: each cause is `warmCause` in a state that serves, and each start leaves BOOT. -/
theorem warmRecovery : Obligations.WarmRecovery := by
  unfold Obligations.WarmRecovery
  intro s
  refine ⟨fun serves => ⟨pcieReset_recovers (row := .perstNAssert) (cause := 3) serves fun _ => rfl,
    pcieReset_recovers (row := .functionLevelReset) (cause := 4) serves fun _ => rfl⟩, ?resets, rfl,
    ?monitored, fun hw q hq ha => execArbFuseAdvance_advances hw hq ha⟩
  case resets =>
    intro m idle
    exact ⟨next_eq (warmCause_idle ((pcieReset_serving 3 s).trans idle) ..),
      next_eq (warmCause_idle ((pcieReset_serving 4 s).trans idle) ..)⟩
  case monitored =>
    exact fun i m => ⟨execDcoMonitor_holds (.inr (.inl rfl)), fun h => execDcoMonitor_holds (h.imp_right .inr),
      fun serves hi hb => lockLost_recovers serves hi hb⟩

/-! ### ColdStartAndOff: POR_RELEASE, and what the loss of power keeps (02 R69, R70, 19 R558, 21 R593) -/

/-! #### The registers that a change of the operating state writes -/

/-- SYS_STATE, the peat log's and the start's registers. -/
def StateRegs (a : Nat) : Prop := a = R.SYS_STATE ∨ a = R.PEAT_STATUS ∨ a = R.BOOT_READY_TIME ∨ a = R.BOOT_STATUS

theorem readyCheck_regs (s : State) : SameRegs s (readyCheck s) StateRegs := by
  unfold readyCheck
  split
  · exact .of_eq rfl rfl
  · extract_lets up first boot
    exact SameRegs.cond (.of_eq rfl rfl) fun w h => (h.setReg (.inr (.inr (.inl rfl)))).setFld (.inr (.inr (.inr rfl)))

theorem setMode_regs (m : Mode) (s : State) : SameRegs s (setMode m s) StateRegs := by
  unfold setMode
  extract_lets old u
  have shown : SameRegs s u StateRegs := SameRegs.setFld (.of_eq rfl rfl) (.inl rfl)
  refine SameRegs.trans ?_ (readyCheck_regs _)
  split
  · exact shown
  · exact peatPush_regs shown (.inr (.inl rfl))

theorem enterSafe_code {code : Nat} (s : State) (h : code < 256) :
    (enterSafe code s).fld R.SYS_CAUSE F.SYS_CAUSE_SAFE_CODE = code := by
  unfold enterSafe
  rw [State.fld_of_reg (setMode_regs _ _ R.SYS_CAUSE (by unfold StateRegs; decide)).1, State.fld_setFld_self _ _ _ _ (by decide)]
  exact Nat.mod_eq_of_lt h

theorem layerOne_regs (header : List Byte) (s : State) : (layerOne header s).regs = s.regs := rfl

/-- Of the registers, the end of a start writes those of the mailbox and of the links. -/
theorem start_rest_cause (u : State) : (linksTrain (mbxShow (layerFree u))).reg R.SYS_CAUSE = u.reg R.SYS_CAUSE := by
  have layer : (layerFree u).regs = u.regs := by
    unfold layerFree
    split
    · exact layerOne_regs ..
    · rfl
  have mailbox : (mbxShow (layerFree u)).reg R.SYS_CAUSE = u.reg R.SYS_CAUSE := by
    unfold mbxShow
    rw [State.reg_setFld_ne _ _ _ (by decide), State.reg_setFld_ne _ _ _ (by decide)]
    unfold State.reg
    rw [layer]
  have link : ∀ v n, (linkTrain v n).reg R.SYS_CAUSE = v.reg R.SYS_CAUSE := by
    intro v n
    unfold linkTrain
    split
    · rfl
    · refine State.reg_setFld_ne _ _ _ ?_
      simp only [R.SYS_CAUSE, R.RLINK_STATUS]
      omega
  unfold linksTrain
  split
  · exact ((link _ 1).trans (link _ 0)).trans mailbox
  · exact mailbox

/-! #### A flash without an SFDP table (02 R70) -/

theorem slotHead_noSfdp {s : State} (h : s.bench.sfdp = false) (k : Nat) : slotHead s k = 4 := by
  unfold slotHead
  rw [h]
  rfl

theorem bootHeads_noSfdp {s : State} (h : s.bench.sfdp = false) : ∃ w, bootHeads s = (enterSafe 4 w, true) := by
  unfold bootHeads
  extract_lets u active ha v hb
  have hu : u.bench = s.bench := rfl
  have first : ha = 4 := slotHead_noSfdp (by rw [hu, h]) _
  have second : hb = 4 := slotHead_noSfdp (by rw [slotVerdict_bench, hu, h]) _
  rw [first, second, if_neg (by decide), if_neg (by decide)]
  exact ⟨_, rfl⟩

/-- A start that no event befalls, with the latch clear and no SFDP table in the flash, ends in its third step. -/
theorem startOnce_noSfdp {warm : Bool} {cause : Nat} {s : State} (latch : s.pwr.latch = false) (during : s.bench.during = [])
    (sfdp : s.bench.sfdp = false) : ∃ w, startOnce warm cause s = (enterSafe 4 w, none) := by
  rw [startOnce_eq, nextEvent_none during]
  have first : (bootLatch (stepsBegin warm cause s)).2 = false := by
    unfold bootLatch
    rw [stepsBegin_latch, latch]
    rfl
  obtain ⟨w, hw⟩ := bootHeads_noSfdp (s := (bootRoot (bootLatch (stepsBegin warm cause s)).1).1)
    (by rw [bootRoot_bench, bootLatch_bench, stepsBegin_bench]; exact sfdp)
  refine ⟨w, ?_⟩
  simp only [bootSteps, runSteps, first, Bool.false_eq_true, if_false]
  have second : (bootRoot (bootLatch (stepsBegin warm cause s)).1).2 = false := rfl
  simp only [second, Bool.false_eq_true, if_false, hw, if_true]

theorem start_noSfdp {warm : Bool} {cause : Nat} {s : State} (latch : s.pwr.latch = false) (during : s.bench.during = [])
    (sfdp : s.bench.sfdp = false) :
    (start warm cause s).mode = .safe ∧ (start warm cause s).fld R.SYS_CAUSE F.SYS_CAUSE_SAFE_CODE = 4 := by
  obtain ⟨w, hw⟩ := startOnce_noSfdp (warm := warm) (cause := cause) latch during sfdp
  have loop : startLoop s.bench.during.length warm cause s = enterSafe 4 w := by
    rw [during]
    exact congrArg Prod.fst hw
  unfold start
  rw [loop]
  exact ⟨(start_rest_keep _).same_mode.trans (enterSafe_mode ..),
    (State.fld_of_reg (start_rest_cause _) _).trans (enterSafe_code w (by decide))⟩

/-! #### Off (02 R78, 19 R555, R558) -/

/-- A mailbox command abandoned touches memory, the mailbox's own state and the count of free values. -/
theorem jobAbandon_eq (s : State) : jobAbandon s =
    { s with mem := (jobAbandon s).mem, boot := (jobAbandon s).boot, freeCtr := (jobAbandon s).freeCtr } := by
  have free : ∀ a n, flashFree a n s =
      { s with mem := (flashFree a n s).mem, freeCtr := (flashFree a n s).freeCtr } := by
    intro a n
    unfold flashFree
    extract_lets t
    have h : t = { s with mem := t.mem } := State.write_eq ..
    rw [h]
  have spoil : ∀ a n, flashSpoil a n s = { s with
      mem := (flashSpoil a n s).mem, freeCtr := (flashSpoil a n s).freeCtr, boot := (flashSpoil a n s).boot } := by
    intro a n
    unfold flashSpoil
    extract_lets t
    have h : t = { s with mem := t.mem, freeCtr := t.freeCtr } := free a n
    rw [h]
  unfold jobAbandon
  extract_lets b u
  suffices h : u = { s with mem := u.mem, boot := u.boot, freeCtr := u.freeCtr } by rw [h]
  unfold u
  split
  · rw [free]
  · split
    · rw [spoil]
    · rw [free]
  · rfl

/-- What the loss of power leaves, whatever it was that took it (02 R69). -/
structure PowerKept (s t : State) : Prop where
  mode : t.mode = .off
  reg : ∀ a, t.reg a = State.reset.reg a
  slots : t.root.slots = s.root.slots
  fused : t.root.arbFused = s.root.arbFused
  keys : t.root.keys = none
  streams : t.streams = []
  pending : t.pending = s.pending
  byte : s.boot.job = none → ∀ a, survives false a = true → t.byte a = s.byte a

theorem powerOff_eq (s : State) : powerOff s = { freshBase false (jobAbandon s) with mode := .off } := rfl

/-- DRAM apart, a byte of the device that survives has a content of its own before anything is written. -/
theorem unlisted_of_survives {a : Nat} (h : survives false a = true) (n : a < 0x10000000000000000) :
    ∃ b, unlisted a = some b := by
  unfold survives at h
  unfold unlisted
  split
  · simp_all
  · (repeat' split) <;> exact ⟨_, rfl⟩

theorem byte_of_survives {s t : State} (mem : t.mem = s.mem.filter fun e => survives false e.1) (free : t.freeCtr = s.freeCtr)
    {a : Nat} (h : survives false a = true) : t.byte a = s.byte a := by
  have find : Sparse.find t.mem a = Sparse.find s.mem a := by rw [mem, Sparse.find_filter _ _ h]
  unfold State.byte
  rw [find, free]
  split
  · rfl
  · by_cases n : a < 0x10000000000000000
    · obtain ⟨b, hb⟩ := unlisted_of_survives h n
      rw [hb]
    · rw [if_neg n, if_neg n]

theorem powerOff_kept (s : State) : PowerKept s (powerOff s) := by
  have root : (jobAbandon s).root = s.root := (congrArg State.root (jobAbandon_eq s)).trans rfl
  have pending : (jobAbandon s).pending = s.pending := (congrArg State.pending (jobAbandon_eq s)).trans rfl
  have idle (job : s.boot.job = none) : (jobAbandon s).mem = s.mem ∧ (jobAbandon s).freeCtr = s.freeCtr := by
    unfold jobAbandon
    rw [job]
    exact ⟨rfl, rfl⟩
  have mem (job : s.boot.job = none) : (powerOff s).mem = s.mem.filter fun e => survives false e.1 :=
    congrArg (List.filter fun e : Nat × Byte => survives false e.1) (idle job).1
  exact ⟨rfl, fun _ => rfl, congrArg (·.slots) root, congrArg (·.arbFused) root, rfl, rfl, pending,
    fun job a h => byte_of_survives (mem job) (idle job).2 h⟩

/-- The AON island's time and supplies, the thermal latch and VDDIO18 stand as they stood. -/
theorem powerOff_aon (s : State) : (powerOff s).tm.now = s.tm.now ∧ (powerOff s).tm.oscillator = s.tm.oscillator ∧
    (powerOff s).pwr.latch = s.pwr.latch ∧ (powerOff s).pwr.vddio18 = s.pwr.vddio18 ∧
    (powerOff s).pwr.vaonA = s.pwr.vaonA ∧ (powerOff s).pwr.vaonB = s.pwr.vaonB ∧ (powerOff s).pwr.onB = s.pwr.onB := by
  have tm : (jobAbandon s).tm = s.tm := (congrArg State.tm (jobAbandon_eq s)).trans rfl
  have pwr : (jobAbandon s).pwr = s.pwr := (congrArg State.pwr (jobAbandon_eq s)).trans rfl
  rw [powerOff_eq, ← tm, ← pwr]
  exact ⟨rfl, rfl, rfl, rfl, rfl, rfl, rfl⟩

theorem faultN_off {s : State} (h : s.mode = .off) : faultN s = if s.pwr.vddio18 then .low else .undriven := by
  unfold faultN
  rw [h]

theorem execPor_off {row : Instr} {s u : State} {f : FaultN} (hrow : exec row s = .next (powerOff u))
    (same : PowerKept s (powerOff u)) (tm : u.tm = s.tm) (latch : u.pwr.latch = s.pwr.latch) (low : thermLow u = thermLow s)
    (hf : (if u.pwr.vddio18 then FaultN.low else .undriven) = f) :
    Completes row s fun t => (t.mode = .off ∧ (∀ a, t.reg a = State.reset.reg a) ∧ t.root.slots = s.root.slots ∧
      t.root.arbFused = s.root.arbFused ∧ t.root.keys = none ∧ t.streams = [] ∧ t.pending = s.pending ∧
      (s.boot.job = none → ∀ a, survives false a = true → t.byte a = s.byte a)) ∧ t.tm.now = s.tm.now ∧
      t.tm.oscillator = s.tm.oscillator ∧ t.pwr.latch = s.pwr.latch ∧ faultN t = f ∧ thermLow t = thermLow s := by
  obtain ⟨mode, reg, slots, fused, keys, streams, pending, byte⟩ := same
  obtain ⟨now, osc, l, v, a, b, onB⟩ := powerOff_aon u
  refine ⟨_, hrow, ⟨mode, reg, slots, fused, keys, streams, pending, byte⟩, now.trans (by rw [tm]), osc.trans (by rw [tm]),
    l.trans latch, ?_, ?_⟩
  · rw [faultN_off mode, v, hf]
  · rw [← low]
    unfold thermLow
    rw [l, onB, a, b]

theorem aonDown_kept (s : State) : PowerKept s (aonDown s) :=
  have h := powerOff_kept s
  { h with keys := rfl }

/-- The island with the supply that it ran on gone. -/
def supplyLost (s : State) : State :=
  { s with pwr := if s.pwr.onB then { s.pwr with vaonB := false } else { s.pwr with vaonA := false } }

theorem supplyLost_latch (s : State) : (supplyLost s).pwr.latch = s.pwr.latch := by
  unfold supplyLost
  cases s.pwr.onB <;> rfl

theorem supplyLost_none {s : State} (h : (if s.pwr.onB then s.pwr.vaonA else s.pwr.vaonB) = false) :
    (supplyLost s).pwr.vaonA = false ∧ (supplyLost s).pwr.vaonB = false := by
  unfold supplyLost
  cases hb : s.pwr.onB <;> rw [hb] at h
  · exact ⟨rfl, h⟩
  · exact ⟨h, rfl⟩

theorem thermLow_unsupplied {s : State} (ha : s.pwr.vaonA = false) (hb : s.pwr.vaonB = false) : thermLow s = false := by
  unfold thermLow
  rw [ha, hb, ite_self, Bool.and_false]

theorem execAonBrownout_off {s : State} (h : (if s.pwr.onB then s.pwr.vaonA else s.pwr.vaonB) = false) :
    exec .aonBrownout s = .next (aonDown (supplyLost s)) := next_eq (if_neg (by rw [h]; decide))

/-- The state in which POR_RELEASE starts the device: on its board, with VDDIO18 and the oscillator. -/
def supplied (b : Bench) (s : State) : State :=
  { s with bench := b, pwr := { s.pwr with vddio18 := true }, tm := { s.tm with oscillator := true } }

theorem execPorRelease_starts {s : State} (off : s.mode = .off) (supply : (s.pwr.vaonA || s.pwr.vaonB) = true) (b : Bench) :
    exec (.porRelease b) s = .next (start false 0 (supplied b s)) :=
  next_eq (if_neg (by rw [off, supply]; decide))

/-- Settles O39: a start leaves BOOT, and the loss of power keeps what `PowerKept` names. -/
theorem coldStartAndOff : Obligations.ColdStartAndOff := by
  unfold Obligations.ColdStartAndOff
  intro s
  refine ⟨?starts, ?assert, ?loss, ?brownout⟩
  case starts =>
    exact fun b => ⟨fun off supply => ⟨_, execPorRelease_starts off supply b, start_over .., start_pending ..,
      fun h => start_latched (s := supplied b s) h, fun h => start_noSfdp (s := supplied b s) h⟩,
      fun h => next_eq (if_pos (by simpa using h))⟩
  case assert =>
    exact execPor_off (u := s) rfl (powerOff_kept s) rfl rfl rfl rfl
  case loss =>
    have kept := powerOff_kept { s with pwr := { s.pwr with vddio18 := false } }
    exact execPor_off (u := { s with pwr := { s.pwr with vddio18 := false } }) rfl { kept with } rfl rfl rfl rfl
  case brownout =>
    refine ⟨fun other => next_eq (if_pos other), fun other => ⟨_, execAonBrownout_off other, ?_⟩⟩
    obtain ⟨mode, reg, slots, fused, keys, streams, pending, byte⟩ := aonDown_kept (supplyLost s)
    obtain ⟨-, -, latch, -, a, b, onB⟩ := powerOff_aon (supplyLost s)
    obtain ⟨noA, noB⟩ := supplyLost_none other
    exact ⟨⟨mode, reg, slots, fused, keys, streams, pending, byte⟩, rfl, rfl, rfl, latch.trans (supplyLost_latch s), a.trans noA,
      b.trans noB, thermLow_unsupplied (a.trans noA) (b.trans noB)⟩

/-! ### What the start and the end of a run leave as it is

One lemma per function on their way, in the order of the model: none of them writes a register that shows the operating
state or the run, but those that do so by name. -/

/-- What the start and the end of a run leave as it is once their own registers are written: the registers that show the
operating state, the run and the route of event 448, the time, the image and its autorun, the session keys. -/
structure RunFacts where
  state : Word
  status : Word
  route : Word
  tm : TimeSt
  spore : Option Spore
  autorunWaits : Bool
  root : RootSt

def State.facts (s : State) : RunFacts :=
  ⟨s.reg R.SYS_STATE, s.reg R.RUN_STATUS, s.reg (R.EVT_ROUTE 448), s.tm, s.boot.spore, s.boot.autorunWaits, s.root⟩

/-- A register that no part of `RunFacts` is. -/
def Unwatched (a : Nat) : Prop := a ≠ R.SYS_STATE ∧ a ≠ R.RUN_STATUS ∧ a ≠ R.EVT_ROUTE 448

@[simp] theorem State.setReg_facts {s : State} {a : Nat} {v : Word} (h : Unwatched a) : (s.setReg a v).facts = s.facts := by
  obtain ⟨state, status, route⟩ := h
  unfold State.facts
  rw [s.reg_setReg_ne v state.symm, s.reg_setReg_ne v status.symm, s.reg_setReg_ne v route.symm]
  rfl

@[simp] theorem State.setFld_facts (s : State) (a : Nat) (f : Fld) (v : Nat) (h : Unwatched a) :
    (s.setFld a f v).facts = s.facts := State.setReg_facts h

@[simp] theorem State.setBit_facts (s : State) (a : Nat) (f : Fld) (v : Bool) (h : Unwatched a) :
    (s.setBit a f v).facts = s.facts := State.setReg_facts h

@[simp] theorem State.satInc_facts (s : State) (a : Nat) (f : Fld) (v : Nat) (h : Unwatched a) :
    (s.satInc a f v).facts = s.facts := State.setReg_facts h

@[simp] theorem State.wrapInc_facts (s : State) (a : Nat) (f : Fld) (v : Nat) (h : Unwatched a) :
    (s.wrapInc a f v).facts = s.facts := State.setReg_facts h

@[simp] theorem State.flag_facts (s : State) (a : Nat) (f : Fld) (h : Unwatched a) :
    (s.flag a f).facts = s.facts := State.setReg_facts h

@[simp] theorem State.setReg64_facts (s : State) (a v : Nat) (h : Unwatched a) (k : Unwatched (a + 4)) :
    (s.setReg64 a v).facts = s.facts := (State.setReg_facts k).trans (State.setReg_facts h)

@[simp] theorem State.setInForce_facts (s : State) (a : Nat) (v : Word) : (s.setInForce a v).facts = s.facts := rfl

@[simp] theorem State.setByte_facts (s : State) (a : Nat) (b : Byte) : (s.setByte a b).facts = s.facts := rfl

@[simp] theorem State.emit_facts (s : State) (o : Out) : (s.emit o).facts = s.facts := rfl

@[simp] theorem State.write_facts (s : State) (a : Nat) (l : List Byte) : (s.write a l).facts = s.facts := by
  rw [State.write_eq]
  rfl

theorem foldl_facts_mem {α : Type} {f : State → α → State} {l : List α} (h : ∀ t, ∀ x ∈ l, (f t x).facts = t.facts)
    (s : State) : (l.foldl f s).facts = s.facts := by
  induction l generalizing s with
  | nil => rfl
  | cons x l ih => exact (ih (fun t y hy => h t y (List.mem_cons_of_mem _ hy)) _).trans (h s x List.mem_cons_self)

@[simp] theorem foldl_facts {α : Type} {f : State → α → State} (l : List α) (s : State)
    (h : ∀ t x, (f t x).facts = t.facts) : (l.foldl f s).facts = s.facts := foldl_facts_mem (fun t x _ => h t x) s

@[simp] theorem ite_facts (c : Prop) [Decidable c] (s t : State) :
    (if c then s else t).facts = if c then s.facts else t.facts := apply_ite State.facts c s t

theorem unwatched_of {a : Nat} (h : a ≠ 0x5000000004 ∧ a ≠ 0x5003000004 ∧ a ≠ 0x5000500700) : Unwatched a := h

@[simp] theorem unwatched_EVT_LOST : Unwatched (R.EVT_LOST) :=
  unwatched_of (by unfold R.EVT_LOST; omega)
@[simp] theorem unwatched_FRD_EVT_PEND_HI (n : Nat) : Unwatched (R.FRD_EVT_PEND_HI n) :=
  unwatched_of (by unfold R.FRD_EVT_PEND_HI; omega)
@[simp] theorem unwatched_FRD_EVT_PEND_LO (n : Nat) : Unwatched (R.FRD_EVT_PEND_LO n) :=
  unwatched_of (by unfold R.FRD_EVT_PEND_LO; omega)
@[simp] theorem unwatched_FRD_Q_STATUS (n i : Nat) : Unwatched (R.FRD_Q_STATUS n i) :=
  unwatched_of (by unfold R.FRD_Q_STATUS; omega)
@[simp] theorem unwatched_IMG_COMMIT_TAKEN_LO (n : Nat) : Unwatched (R.IMG_COMMIT_TAKEN_LO n) :=
  unwatched_of (by unfold R.IMG_COMMIT_TAKEN_LO; omega)
@[simp] theorem unwatched_IMG_COR_CFG (n : Nat) : Unwatched (R.IMG_COR_CFG n) :=
  unwatched_of (by unfold R.IMG_COR_CFG; omega)
@[simp] theorem unwatched_IMG_COR_COUNT (n : Nat) : Unwatched (R.IMG_COR_COUNT n) :=
  unwatched_of (by unfold R.IMG_COR_COUNT; omega)
@[simp] theorem unwatched_IMG_COR_CTRL (n : Nat) : Unwatched (R.IMG_COR_CTRL n) :=
  unwatched_of (by unfold R.IMG_COR_CTRL; omega)
@[simp] theorem unwatched_IMG_COR_STATUS (n : Nat) : Unwatched (R.IMG_COR_STATUS n) :=
  unwatched_of (by unfold R.IMG_COR_STATUS; omega)
@[simp] theorem unwatched_IMG_CTRL (n : Nat) : Unwatched (R.IMG_CTRL n) :=
  unwatched_of (by unfold R.IMG_CTRL; omega)
@[simp] theorem unwatched_IMG_INTERP (n : Nat) : Unwatched (R.IMG_INTERP n) :=
  unwatched_of (by unfold R.IMG_INTERP; omega)
@[simp] theorem unwatched_IMG_LINES (n : Nat) : Unwatched (R.IMG_LINES n) :=
  unwatched_of (by unfold R.IMG_LINES; omega)
@[simp] theorem unwatched_IMG_NEXT_LO (n : Nat) : Unwatched (R.IMG_NEXT_LO n) :=
  unwatched_of (by unfold R.IMG_NEXT_LO; omega)
@[simp] theorem unwatched_IMG_SCRIPT (n : Nat) : Unwatched (R.IMG_SCRIPT n) :=
  unwatched_of (by unfold R.IMG_SCRIPT; omega)
@[simp] theorem unwatched_IMG_SKIPS (n : Nat) : Unwatched (R.IMG_SKIPS n) :=
  unwatched_of (by unfold R.IMG_SKIPS; omega)
@[simp] theorem unwatched_IMG_STATUS (n : Nat) : Unwatched (R.IMG_STATUS n) :=
  unwatched_of (by unfold R.IMG_STATUS; omega)
@[simp] theorem unwatched_IMG_TRIG_CFG (n : Nat) : Unwatched (R.IMG_TRIG_CFG n) :=
  unwatched_of (by unfold R.IMG_TRIG_CFG; omega)
@[simp] theorem unwatched_IMG_WITHHELD (n : Nat) : Unwatched (R.IMG_WITHHELD n) :=
  unwatched_of (by unfold R.IMG_WITHHELD; omega)
@[simp] theorem unwatched_IMG_PITCH_LO (n : Nat) : Unwatched (R.IMG_PITCH_LO n) :=
  unwatched_of (by unfold R.IMG_PITCH_LO; omega)
@[simp] theorem unwatched_IMG_PITCH_HI (n : Nat) : Unwatched (R.IMG_PITCH_HI n) :=
  unwatched_of (by unfold R.IMG_PITCH_HI; omega)
@[simp] theorem unwatched_IMG_ORIGIN_LO (n : Nat) : Unwatched (R.IMG_ORIGIN_LO n) :=
  unwatched_of (by unfold R.IMG_ORIGIN_LO; omega)
@[simp] theorem unwatched_IMG_ORIGIN_HI (n : Nat) : Unwatched (R.IMG_ORIGIN_HI n) :=
  unwatched_of (by unfold R.IMG_ORIGIN_HI; omega)
@[simp] theorem unwatched_LCG_STATE (n i : Nat) : Unwatched (R.LCG_STATE n i) :=
  unwatched_of (by unfold R.LCG_STATE; omega)
@[simp] theorem unwatched_LC_COMMIT_TAKEN_LO (n : Nat) : Unwatched (R.LC_COMMIT_TAKEN_LO n) :=
  unwatched_of (by unfold R.LC_COMMIT_TAKEN_LO; omega)
@[simp] theorem unwatched_LC_CTRL (n : Nat) : Unwatched (R.LC_CTRL n) :=
  unwatched_of (by unfold R.LC_CTRL; omega)
@[simp] theorem unwatched_LC_FRAMES (n : Nat) : Unwatched (R.LC_FRAMES n) :=
  unwatched_of (by unfold R.LC_FRAMES; omega)
@[simp] theorem unwatched_LC_SCRIPT (n : Nat) : Unwatched (R.LC_SCRIPT n) :=
  unwatched_of (by unfold R.LC_SCRIPT; omega)
@[simp] theorem unwatched_LC_STATE (n : Nat) : Unwatched (R.LC_STATE n) :=
  unwatched_of (by unfold R.LC_STATE; omega)
@[simp] theorem unwatched_M_CTRL (n : Nat) : Unwatched (R.M_CTRL n) :=
  unwatched_of (by unfold R.M_CTRL; omega)
@[simp] theorem unwatched_M_STATUS (n : Nat) : Unwatched (R.M_STATUS n) :=
  unwatched_of (by unfold R.M_STATUS; omega)
@[simp] theorem unwatched_SEALS_CHUNK (n : Nat) : Unwatched (R.SEALS_CHUNK n) :=
  unwatched_of (by unfold R.SEALS_CHUNK; omega)
@[simp] theorem unwatched_SPOOL_FILL (n : Nat) : Unwatched (R.SPOOL_FILL n) :=
  unwatched_of (by unfold R.SPOOL_FILL; omega)
@[simp] theorem unwatched_SPOOL_INTAKE (n : Nat) : Unwatched (R.SPOOL_INTAKE n) :=
  unwatched_of (by unfold R.SPOOL_INTAKE; omega)
@[simp] theorem unwatched_TP_DROPPED (n : Nat) : Unwatched (R.TP_DROPPED n) :=
  unwatched_of (by unfold R.TP_DROPPED; omega)
@[simp] theorem unwatched_TP_LINE_CFG (n : Nat) : Unwatched (R.TP_LINE_CFG n) :=
  unwatched_of (by unfold R.TP_LINE_CFG; omega)
@[simp] theorem unwatched_TP_LINE_STATUS (n : Nat) : Unwatched (R.TP_LINE_STATUS n) :=
  unwatched_of (by unfold R.TP_LINE_STATUS; omega)
@[simp] theorem unwatched_TP_ROI_MEAN (n i : Nat) : Unwatched (R.TP_ROI_MEAN n i) :=
  unwatched_of (by unfold R.TP_ROI_MEAN; omega)
@[simp] theorem unwatched_TP_ROI_RANGE (n i : Nat) : Unwatched (R.TP_ROI_RANGE n i) :=
  unwatched_of (by unfold R.TP_ROI_RANGE; omega)
@[simp] theorem unwatched_TP_SCRIPT (n : Nat) : Unwatched (R.TP_SCRIPT n) :=
  unwatched_of (by unfold R.TP_SCRIPT; omega)
@[simp] theorem unwatched_TP_STATUS (n : Nat) : Unwatched (R.TP_STATUS n) :=
  unwatched_of (by unfold R.TP_STATUS; omega)
@[simp] theorem unwatched_IMG_NEXT_LO_hi (n : Nat) : Unwatched (R.IMG_NEXT_LO n + 4) :=
  unwatched_of (by unfold R.IMG_NEXT_LO; omega)
@[simp] theorem unwatched_IMG_COMMIT_TAKEN_LO_hi (n : Nat) : Unwatched (R.IMG_COMMIT_TAKEN_LO n + 4) :=
  unwatched_of (by unfold R.IMG_COMMIT_TAKEN_LO; omega)
@[simp] theorem unwatched_LC_COMMIT_TAKEN_LO_hi (n : Nat) : Unwatched (R.LC_COMMIT_TAKEN_LO n + 4) :=
  unwatched_of (by unfold R.LC_COMMIT_TAKEN_LO; omega)
theorem unwatched_IMG_DEFECT (n : Nat) {i : Nat} (h : i < 256) : Unwatched (R.IMG_DEFECT n i) :=
  unwatched_of (by unfold R.IMG_DEFECT; omega)
theorem unwatched_IMG_NORM_FACTOR (n : Nat) {i : Nat} (h : i < 3) : Unwatched (R.IMG_NORM_FACTOR n i) :=
  unwatched_of (by unfold R.IMG_NORM_FACTOR; omega)
theorem unwatched_SEALS_EPOCH {n : Nat} (h : n < 16) : Unwatched (R.SEALS_EPOCH n) :=
  unwatched_of (by unfold R.SEALS_EPOCH; omega)

@[simp] theorem unwatched_scriptReg (t : Nat) : Unwatched (scriptReg t) := by
  unfold scriptReg
  (repeat' split) <;> simp

@[simp] theorem State.raise_facts (s : State) (e : Nat) : (s.raise e).facts = s.facts := by
  unfold State.raise
  split
  · rfl
  · split
    · simp -implicitDefEqProofs
    · rfl

@[simp] theorem queues_facts (s : State) (x : List (Nat × List QEntry)) : { s with queues := x }.facts = s.facts := rfl

@[simp] theorem stopScripts_facts (s : State) (x : List Nat) : { s with stopScripts := x }.facts = s.facts := rfl

@[simp] theorem setFactors_facts (s : State) (n v : Nat) : ((List.range 3).foldl (fun s c =>
    s.setFld (R.IMG_NORM_FACTOR n c) F.IMG_NORM_FACTOR_FACTOR v) s).facts = s.facts :=
  foldl_facts_mem (fun _ _ h => State.setReg_facts (unwatched_IMG_NORM_FACTOR n (List.mem_range.mp h))) s

@[simp] theorem State.islandWrite_facts (s : State) (a : Nat) (l : List Byte) :
    (State.islandWrite s a l).facts = s.facts := by
  induction l generalizing s a with
  | nil => rfl
  | cons b l ih => exact (ih _ _).trans (by split <;> rfl)
@[simp] theorem State.flagEvent_facts (s : State) (a : Nat) (f : Fld) (src : Nat) (h : Unwatched a) :
    (State.flagEvent s a f src).facts = s.facts := by
  simp -implicitDefEqProofs [State.flagEvent, h]
@[simp] theorem State.cond_facts (s : State) (c : Bool) (f : State → State) (h : ∀ t, (f t).facts = t.facts) :
    (s.cond c f).facts = s.facts := by
  unfold State.cond
  split
  · exact h s
  · rfl
@[simp] theorem State.setStream_facts (s : State) (n : Nat) (x : Stream) : (State.setStream s n x).facts = s.facts := rfl
@[simp] theorem State.setQueue_facts (s : State) (src : Nat) (l : List Rec) : (State.setQueue s src l).facts = s.facts :=
  rfl
@[simp] theorem State.pushRec_facts (s : State) (r : Rec) : (State.pushRec s r).facts = s.facts := rfl
@[simp] theorem State.takeShadows_facts (s : State) (l : List Nat) : (State.takeShadows s l).facts = s.facts := by
  induction l generalizing s with
  | nil => rfl
  | cons a l ih => exact ih _
@[simp] theorem CommitUnit.take_facts (u : CommitUnit) (s : State) (h : Unwatched u.ctrl)
    (hr : ∀ lo, u.taken = some lo → Unwatched lo ∧ Unwatched (lo + 4)) : (CommitUnit.take u s).facts = s.facts := by
  unfold CommitUnit.take
  split
  · extract_lets t
    have ht : t.facts = s.facts := by simp -implicitDefEqProofs [t, h]
    split
    · rw [State.setReg64_facts _ _ _ (hr _ ‹_›).1 (hr _ ‹_›).2, ht]
    · exact ht
  · rfl

@[simp] theorem capUnit_take_facts (n : Nat) (s : State) : ((capUnit n).take s).facts = s.facts :=
  CommitUnit.take_facts _ s (unwatched_IMG_CTRL n) fun _ h => Option.some.inj h ▸ ⟨by simp, by simp⟩

@[simp] theorem corUnit_take_facts (n : Nat) (s : State) : ((corUnit n).take s).facts = s.facts :=
  CommitUnit.take_facts _ s (unwatched_IMG_COR_CTRL n) fun _ h => Option.some.inj h ▸ ⟨by simp, by simp⟩

@[simp] theorem lampUnit_take_facts (n : Nat) (s : State) : ((lampUnit n).take s).facts = s.facts :=
  CommitUnit.take_facts _ s (unwatched_LC_CTRL n) fun _ h => Option.some.inj h ▸ ⟨by simp, by simp⟩

@[simp] theorem State.setSreg64_facts (s : State) (lo : Nat) (v : Int) (h : Unwatched lo) (hr : Unwatched (lo + 4)) :
    (State.setSreg64 s lo v).facts = s.facts := by
  simp -implicitDefEqProofs [State.setSreg64, h, hr]

@[simp] theorem State.setImg_facts (s : State) (n : Nat) (x : ImgSt) : (State.setImg s n x).facts = s.facts := rfl
@[simp] theorem State.setTp_facts (s : State) (n : Nat) (x : TpSt) : (State.setTp s n x).facts = s.facts := rfl

@[simp] theorem State.setEngine_facts (s : State) (t : Nat) (e : Engine) : (State.setEngine s t e).facts = s.facts := rfl
@[simp] theorem engineNext_facts (s : State) (t : Nat) : (engineNext s t).facts = s.facts := by
  unfold engineNext
  simp only []
  (repeat' split) <;> simp -implicitDefEqProofs
@[simp] theorem scriptBegin_facts (s : State) (t phase : Nat) : (scriptBegin s t phase).facts = s.facts := by
  unfold scriptBegin
  split <;> simp -implicitDefEqProofs

@[simp] theorem State.setLine_facts (s : State) (f l : Nat) : (State.setLine s f l).facts = s.facts := by
  simp -implicitDefEqProofs [State.setLine]
@[simp] theorem State.setQueueEntries_facts (s : State) (f k : Nat) (l : List QEntry) :
    (State.setQueueEntries s f k l).facts = s.facts := by
  simp -implicitDefEqProofs [State.setQueueEntries]
@[simp] theorem queueFlow_facts (s : State) (f k : Nat) : (queueFlow s f k).facts = s.facts := by
  simp -implicitDefEqProofs [queueFlow]
@[simp] theorem queueAdd_facts (s : State) (f k : Nat) (e : QEntry) : (queueAdd s f k e).facts = s.facts := by
  simp -implicitDefEqProofs [queueAdd]
@[simp] theorem tapTo_facts (src : Nat) (h : List Byte) (s : State) (q : Nat × Nat) :
    (tapTo src h s q).facts = s.facts := by
  simp -implicitDefEqProofs [tapTo]
@[simp] theorem State.portEmit_facts (s : State) (r : Rec) : (State.portEmit s r).facts = s.facts := by
  simp -implicitDefEqProofs [State.portEmit]

@[simp] theorem emitGap_facts (s : State) (n : Nat) (w : Swath) : (emitGap s n w).facts = s.facts := by
  unfold emitGap
  split <;> simp -implicitDefEqProofs
@[simp] theorem setFrontSwath_facts (s : State) (n : Nat) (w : Swath) : (setFrontSwath s n w).facts = s.facts := rfl
@[simp] theorem accountTap_facts (s : State) (n : Nat) (w : Swath) (t : Tap) (reason : Nat) :
    (accountTap s n w t reason).1.facts = s.facts := by
  unfold accountTap
  (repeat' split) <;> simp -implicitDefEqProofs
@[simp] theorem decideOn_facts (n : Nat) (k : Nat) (s : State) : (decideOn n k s).facts = s.facts := by
  induction k generalizing s with
  | zero => rfl
  | succ k ih =>
    unfold decideOn
    simp only []
    (repeat' split) <;> simp -implicitDefEqProofs [ih]
@[simp] theorem decide_facts (s : State) (n : Nat) : (decide_ s n).facts = s.facts := by
  simp -implicitDefEqProofs [decide_]
@[simp] theorem endSwath_facts (s : State) (n : Nat) (reason : Nat) (point : Int) :
    (endSwath s n reason point).facts = s.facts := by
  unfold endSwath
  simp only []
  split <;> simp -implicitDefEqProofs

@[simp] theorem imgFault_facts (s : State) (n : Nat) (f : Fld) : (imgFault s n f).facts = s.facts := by
  simp -implicitDefEqProofs [imgFault]
@[simp] theorem imgShow_facts (s : State) (n : Nat) : (imgShow s n).facts = s.facts := by
  simp -implicitDefEqProofs [imgShow]
@[simp] theorem capTake_facts (s : State) (n : Nat) : (capTake s n).facts = s.facts := by
  simp -implicitDefEqProofs [capTake]
@[simp] theorem swapHalves_facts (s : State) (n : Nat) (old : Nat) : (swapHalves s n old).facts = s.facts := by
  unfold swapHalves
  extract_lets st defs t u
  rw [foldl_facts_mem fun t k hk => State.setReg_facts (unwatched_IMG_DEFECT n (List.mem_range.mp hk))]
  simp -implicitDefEqProofs [u, t]
@[simp] theorem corTake_facts (s : State) (n : Nat) (meets : Bool) : (corTake s n meets).facts = s.facts := by
  simp -implicitDefEqProofs [corTake]
@[simp] theorem heldSwap_facts (s : State) (n : Nat) : (heldSwap s n).facts = s.facts := by
  unfold heldSwap
  split <;> simp -implicitDefEqProofs
@[simp] theorem holdEnd_facts (s : State) (n : Nat) : (holdEnd s n).facts = s.facts := by
  simp -implicitDefEqProofs [holdEnd]
@[simp] theorem showDual_facts (s : State) (n : Nat) : (showDual s n).facts = s.facts := by
  simp -implicitDefEqProofs [showDual]
@[simp] theorem loadBegin_facts (s : State) (n set : Nat) (runStart : Bool) :
    (loadBegin s n set runStart).facts = s.facts := by
  simp -implicitDefEqProofs [loadBegin]
@[simp] theorem imgRunStart_facts (s : State) (n : Nat) : (imgRunStart s n).facts = s.facts := by
  simp -implicitDefEqProofs [imgRunStart]
@[simp] theorem imgRunStop_facts (s : State) (n : Nat) : (imgRunStop s n).facts = s.facts := by
  unfold imgRunStop
  extract_lets st armed t0 t1 t2 old t3 t4
  split
  · rfl
  · rw [imgShow_facts, stopScripts_facts]
    simp -implicitDefEqProofs [t4, t3, t2, t1, t0]

@[simp] theorem State.setMeas_facts (s : State) (k : Nat) (x : MeasSt) : (State.setMeas s k x).facts = s.facts := rfl
@[simp] theorem State.setStat_facts (s : State) (i : Nat) (x : StatSt) : (State.setStat s i x).facts = s.facts := rfl
@[simp] theorem showPending_facts (s : State) (k : Nat) : (showPending s k).facts = s.facts := by
  simp -implicitDefEqProofs [showPending]
@[simp] theorem overrun_facts (k : Nat) (s : State) : (overrun k s).facts = s.facts := by
  simp -implicitDefEqProofs [overrun]
@[simp] theorem measTrigger_facts (k : Nat) (s : State) : (measTrigger k s).facts = s.facts := by
  simp -implicitDefEqProofs [measTrigger]
@[simp] theorem precTrigger_facts (src index : Nat) (s : State) : (precTrigger src index s).facts = s.facts := by
  simp -implicitDefEqProofs [precTrigger]

@[simp] theorem State.setLamp_facts (s : State) (n : Nat) (x : LampSt) : (State.setLamp s n x).facts = s.facts := rfl
@[simp] theorem frameStart_facts (s : State) (n : Nat) : (frameStart s n).facts = s.facts := by
  simp -implicitDefEqProofs [frameStart]
@[simp] theorem groupsShow_facts (s : State) (n : Nat) : (groupsShow s n).facts = s.facts := by
  simp -implicitDefEqProofs [groupsShow]
@[simp] theorem blkAssert_facts (s : State) (n : Nat) : (blkAssert s n).facts = s.facts := by
  simp -implicitDefEqProofs [blkAssert]
@[simp] theorem scriptTakes_facts (s : State) (n : Nat) : (scriptTakes s n).facts = s.facts := by
  simp -implicitDefEqProofs [scriptTakes]
@[simp] theorem lampLatch_facts (s : State) (n : Nat) : (lampLatch s n).facts = s.facts := by
  unfold lampLatch
  simp only []
  split <;> simp -implicitDefEqProofs
@[simp] theorem strobeSettle_facts (s : State) (n : Nat) : (strobeSettle s n).facts = s.facts := by
  simp -implicitDefEqProofs [strobeSettle]
@[simp] theorem lampRunStart_facts (s : State) (n : Nat) : (lampRunStart s n).facts = s.facts := by
  simp -implicitDefEqProofs [lampRunStart]
@[simp] theorem lampRunStop_facts (s : State) (n : Nat) : (lampRunStop s n).facts = s.facts := by
  simp -implicitDefEqProofs [lampRunStop]

@[simp] theorem tpFault_facts (s : State) (n : Nat) (f : Fld) : (tpFault s n f).facts = s.facts := by
  simp -implicitDefEqProofs [tpFault]

@[simp] theorem emitTGap_facts (s : State) (n : Nat) (g : TGap) (aborted : Bool) :
    (emitTGap s n g aborted).facts = s.facts := by
  simp -implicitDefEqProofs [emitTGap]
@[simp] theorem closeTGap_facts (s : State) (n : Nat) : (closeTGap s n).facts = s.facts := by
  unfold closeTGap
  split <;> simp -implicitDefEqProofs
@[simp] theorem closeShutGap_facts (s : State) (n : Nat) : (closeShutGap s n).facts = s.facts := by
  unfold closeShutGap
  split <;> simp -implicitDefEqProofs
@[simp] theorem writeStats_facts (s : State) (n : Nat) (f : TFrame) (out : List (Nat × List Nat)) (stale : Bool) :
    (writeStats s n f out stale).facts = s.facts := by
  refine foldl_facts_mem (fun t r _ => ?_) s
  split <;> simp -implicitDefEqProofs
@[simp] theorem emitStat_facts (s : State) (n : Nat) (f : TFrame) (out : List (Nat × List Nat)) (time : Nat)
    (no : Option Nat) : (emitStat s n f out time no).facts = s.facts := by
  simp -implicitDefEqProofs [emitStat]
@[simp] theorem setTLine_facts (s : State) (n : Nat) (l : TLineSt) : (setTLine s n l).facts = s.facts := rfl
@[simp] theorem showLine_facts (s : State) (n : Nat) : (showLine s n).facts = s.facts := by
  simp -implicitDefEqProofs [showLine]
@[simp] theorem closeLineGap_facts (s : State) (n : Nat) : (closeLineGap s n).facts = s.facts := by
  unfold closeLineGap
  simp only []
  split <;> simp -implicitDefEqProofs
@[simp] theorem lineConsume_facts (s : State) (n : Nat) (x : Int) : (lineConsume s n x).facts = s.facts := rfl
@[simp] theorem lineAccount_facts (s : State) (n : Nat) (x : Int) (reason : Nat) :
    (lineAccount s n x reason).facts = s.facts := by
  unfold lineAccount
  simp only []
  split <;> simp -implicitDefEqProofs
@[simp] theorem emitTLine_facts (s : State) (n : Nat) (f : TFrame) (t : TTarget) :
    (emitTLine s n f t).facts = s.facts := by
  simp -implicitDefEqProofs [emitTLine]
@[simp] theorem lineDone_facts (s : State) (n : Nat) (f : TFrame) (k : Int) : (lineDone s n f k).facts = s.facts := by
  unfold lineDone
  simp only []
  split <;> simp -implicitDefEqProofs
@[simp] theorem lineBegin_facts (s : State) (n : Nat) (back : Bool) : (lineBegin s n back).facts = s.facts := by
  simp -implicitDefEqProofs [lineBegin]
@[simp] theorem lineEnd_facts (s : State) (n : Nat) (f : TFrame) (reason : Nat) (point : Int) (at_ : Nat) :
    (lineEnd s n f reason point at_).facts = s.facts := by
  simp -implicitDefEqProofs [lineEnd]
@[simp] theorem lineTurns_facts (n : Nat) (f : TFrame) (h : Int) (k : Nat) (s : State) :
    (lineTurns n f h k s).facts = s.facts := by
  induction k generalizing s with
  | zero => rfl
  | succ k ih =>
    unfold lineTurns
    simp only []
    (repeat' split) <;> simp -implicitDefEqProofs [ih]
@[simp] theorem tpAfterStop_facts (s : State) (n : Nat) : (tpAfterStop s n).facts = s.facts := by
  simp -implicitDefEqProofs [tpAfterStop]

@[simp] theorem coefFetch_facts (s : State) (n : Nat) : (coefFetch s n).facts = s.facts := by
  simp -implicitDefEqProofs [coefFetch]
@[simp] theorem tpRunStart_facts (s : State) (n : Nat) : (tpRunStart s n).facts = s.facts := by
  simp -implicitDefEqProofs [tpRunStart]
@[simp] theorem tpRunStop_facts (s : State) (n : Nat) : (tpRunStop s n).facts = s.facts := by
  unfold tpRunStop
  extract_lets old line t
  split
  · rfl
  · rw [tpAfterStop_facts, stopScripts_facts]
    simp -implicitDefEqProofs [t]

@[simp] theorem showFill_facts (s : State) (n : Nat) : (showFill s n).facts = s.facts := by
  simp -implicitDefEqProofs [showFill]
@[simp] theorem setPtr_facts (s : State) (n reg at_ : Nat) (h : Unwatched reg) :
    (setPtr s n reg at_).facts = s.facts := by
  simp -implicitDefEqProofs [setPtr, h]
@[simp] theorem State.setStage_facts (s : State) (n : Nat) (x : StageSt) : (State.setStage s n x).facts = s.facts := rfl

@[simp] theorem sourceBusError_facts (s : State) (src : Nat) : (sourceBusError s src).facts = s.facts := by
  simp -implicitDefEqProofs [sourceBusError]
@[simp] theorem sourceWrite_facts (src a : Nat) (bs : List Byte) (s : State) :
    (sourceWrite src a bs s).facts = s.facts := by
  simp -implicitDefEqProofs [sourceWrite]
@[simp] theorem closeChunk_facts (n : Nat) (final : Bool) (s : State) (hn : n < 16) :
    (closeChunk n final s).facts = s.facts := by
  simp -implicitDefEqProofs [closeChunk, unwatched_SEALS_EPOCH hn]
@[simp] theorem enterRecord_facts (n : Nat) (r : Rec) (s : State) (hn : n < 16) :
    (enterRecord n r s).facts = s.facts := by
  simp -implicitDefEqProofs [enterRecord, hn]
@[simp] theorem closeSpan_facts (n : Nat) (p : Span) (s : State) (hn : n < 16) : (closeSpan n p s).facts = s.facts := by
  simp -implicitDefEqProofs [closeSpan, hn]
@[simp] theorem enterWaiting_facts (n : Nat) (k : Nat) (s : State) (hn : n < 16) :
    (enterWaiting n k s).facts = s.facts := by
  induction k generalizing s with
  | zero => rfl
  | succ k ih =>
    unfold enterWaiting
    simp only []
    (repeat' split) <;> simp -implicitDefEqProofs [ih, hn]
@[simp] theorem enterAll_facts (n : Nat) (s : State) (hn : n < 16) : (enterAll n s).facts = s.facts := by
  simp -implicitDefEqProofs [enterAll, hn]
@[simp] theorem stageErr_facts (f k : Nat) (s : State) : (stageErr f k s).facts = s.facts := by
  simp -implicitDefEqProofs [stageErr]
@[simp] theorem stageClear_facts (n : Nat) (s : State) : (stageClear n s).facts = s.facts := by
  unfold stageClear
  split <;> simp -implicitDefEqProofs
@[simp] theorem streamBegin_facts (v : Option Recovery) (n : Nat) (s : State) (hn : n < 16) :
    (streamBegin v n s).facts = s.facts := by
  simp -implicitDefEqProofs [streamBegin, hn, unwatched_SEALS_EPOCH hn]
@[simp] theorem streamFinish_facts (n : Nat) (s : State) (hn : n < 16) : (streamFinish n s).facts = s.facts := by
  simp -implicitDefEqProofs [streamFinish, hn]
@[simp] theorem streamProgress_facts (s : State) (n : Nat) (hn : n < 16) : (streamProgress s n).facts = s.facts := by
  simp -implicitDefEqProofs [streamProgress, hn]

@[simp] theorem snapWrite_facts (e : Nat) (body : List Byte) (s : State) : (snapWrite e body s).facts = s.facts := by
  simp -implicitDefEqProofs [snapWrite]
@[simp] theorem snapStream_facts (n : Nat) (s : State) : (snapStream n s).facts = s.facts := by
  simp -implicitDefEqProofs [snapStream]
@[simp] theorem snapDevice_facts (active : Bool) (s : State) : (snapDevice active s).facts = s.facts := by
  simp -implicitDefEqProofs [snapDevice]

theorem streamsProgress_facts (s : State) : (streamsProgress s).facts = s.facts :=
  foldl_facts_mem (fun t n h => streamProgress_facts t n (List.mem_range.mp h)) s

/-- The number of the run that a start begins. -/
def nextRun (s : State) : Nat := (s.fld R.RUN_STATUS F.RUN_STATUS_RUN_ID + 1) % 65536

/-- What the start of a run writes first: its number, RUN_ACTIVE, and the keys of the last one (16 R492). -/
def runShown (s : State) : State :=
  eraseKeys (showRunActive true
    ((s.setFld R.SYS_STATE F.SYS_STATE_RUN_ID (nextRun s)).setFld R.RUN_STATUS F.RUN_STATUS_RUN_ID (nextRun s)))

theorem recovery_facts (s : State) (v : Option Recovery) : { s with boot := { s.boot with recovery := v } }.facts =
    s.facts := rfl

theorem beginRun_facts (s : State) : (beginRun s).facts = (runShown s).facts := by
  unfold beginRun
  extract_lets id s1 s2 v boot s3 s4 s5 s6 s7
  have streams : s4.facts = (runShown s).facts := by
    refine (foldl_facts_mem (fun t n h => ?_) s3).trans (recovery_facts _ none)
    have hn := List.mem_range.mp h
    simp -implicitDefEqProofs [streamBegin_facts _ _ _ hn]
  rw [foldl_facts_mem fun t n _ => tpRunStart_facts t n, foldl_facts_mem fun t n _ => lampRunStart_facts t n,
    foldl_facts_mem fun t n _ => imgRunStart_facts t n, snapDevice_facts, streams]

theorem endRun_facts (s : State) : (endRun s).facts = (showRunActive false s).facts := by
  unfold endRun
  extract_lets s1 s2 s3 s4 s5 s6 s7
  have streams : s2.facts = s1.facts := foldl_facts _ _ fun t n => by simp -implicitDefEqProofs
  have snaps : s7.facts = s6.facts := foldl_facts _ _ fun t n => by simp -implicitDefEqProofs
  rw [snapDevice_facts, snaps, streamsProgress_facts, foldl_facts_mem fun t n _ => tpRunStop_facts t n,
    foldl_facts_mem fun t n _ => lampRunStop_facts t n, foldl_facts_mem fun t n _ => imgRunStop_facts t n, streams]

/-! ### RunRequests: the requests of a run, of MAINT and of ABANDON, and the device watchdog (01 R27, R29, 20 R576, R580) -/

/-- The run that is active or still ends, and that a start would meet. -/
def runBusy (s : State) : Bool := s.runActive || runEnding s

/-- Recovered records wait, which keeps a run from starting (20 R580). -/
def recovering (s : State) : Bool := s.bit R.RUN_STATUS F.RUN_STATUS_RECOVERING

theorem askStart_recovering {s : State} (h : recovering s = true) : askStart s = (s, 3) := by
  unfold recovering at h
  simp only [askStart, h, Bool.or_true, if_true]

theorem askStart_busy {s : State} (hw : s.working = true) (hr : recovering s = false) (hb : runBusy s = true) :
    askStart s = (s, 4) := by
  unfold recovering at hr
  unfold runBusy at hb
  simp only [askStart, hw, hr, hb, Bool.not_true, Bool.or_self, Bool.false_eq_true, if_false, if_true]

theorem askStart_begins {s : State} (hw : s.working = true) (hr : recovering s = false) (hb : runBusy s = false) :
    askStart s = (beginRun s, 1) := by
  unfold recovering at hr
  unfold runBusy at hb
  simp only [askStart, hw, hr, hb, Bool.not_true, Bool.or_self, Bool.false_eq_true, if_false]

theorem askStop_idle {s : State} (h : s.runActive = false) : askStop s = (s, 3) := by
  simp only [askStop, h, Bool.and_false, Bool.false_eq_true, if_false]

theorem askStop_ends {s : State} (hw : s.working = true) (h : s.runActive = true) : askStop s = (endRun s, 1) := by
  simp only [askStop, hw, h, Bool.and_self, if_true]

/-- The requests to enter and to leave MAINT as one: from a state without a run to another (01 R27, R29). -/
def askMode (a b : Mode) (s : State) : State × Nat :=
  if s.mode ≠ a then (s, 3) else if s.runActive then (s, 4) else (setMode b s, 1)

theorem askMaintEnter_eq : askMaintEnter = askMode .run .maint := rfl

theorem askMaintExit_eq : askMaintExit = askMode .maint .run := rfl

theorem askMode_elsewhere {a b : Mode} {s : State} (h : s.mode ≠ a) : askMode a b s = (s, 3) := if_pos h

theorem askMode_inRun {a b : Mode} {s : State} (h : s.mode = a) (hr : s.runActive = true) : askMode a b s = (s, 4) := by
  rw [askMode, if_neg (not_not.mpr h), if_pos hr]

theorem askMode_moves {a b : Mode} {s : State} (h : s.mode = a) (hr : s.runActive = false) :
    askMode a b s = (setMode b s, 1) := by
  rw [askMode, if_neg (not_not.mpr h), if_neg (by rw [hr]; decide)]

/-! #### RESULT of RUN_STATUS -/

theorem frondAsk_eq {f : State → State × Nat} {s t : State} {k : Nat} (h : f s = (t, k)) :
    frondAsk f s = t.setFld R.RUN_STATUS F.RUN_STATUS_RESULT k := by rw [frondAsk, h]

theorem result_told (t : State) {k : Nat} (h : k < 16) :
    (t.setFld R.RUN_STATUS F.RUN_STATUS_RESULT k).fld R.RUN_STATUS F.RUN_STATUS_RESULT = k := by
  rw [State.fld_setFld_self _ _ _ _ (by decide)]
  exact Nat.mod_eq_of_lt h

theorem State.same_of_facts {s t : State} (h : t.facts = s.facts) : t.reg R.SYS_STATE = s.reg R.SYS_STATE ∧
    t.reg R.RUN_STATUS = s.reg R.RUN_STATUS ∧ t.reg (R.EVT_ROUTE 448) = s.reg (R.EVT_ROUTE 448) ∧ t.tm = s.tm ∧
    t.boot.spore = s.boot.spore ∧ t.boot.autorunWaits = s.boot.autorunWaits ∧ t.root = s.root :=
  ⟨congrArg RunFacts.state h, congrArg RunFacts.status h, congrArg RunFacts.route h, congrArg RunFacts.tm h,
    congrArg RunFacts.spore h, congrArg RunFacts.autorunWaits h, congrArg RunFacts.root h⟩

/-! #### A run that has begun, a run that has ended -/

/-- What the start of a run leaves: the run is active, with the next number and without keys. -/
structure RunBegun (s t : State) : Prop where
  active : t.runActive = true
  mode : t.mode = s.mode
  keys : t.root.keys = none
  id : t.fld R.RUN_STATUS F.RUN_STATUS_RUN_ID = nextRun s
  now : t.now = s.now
  spore : t.boot.spore = s.boot.spore
  autorun : t.boot.autorunWaits = s.boot.autorunWaits
  route : t.reg (R.EVT_ROUTE 448) = s.reg (R.EVT_ROUTE 448)

theorem eraseKeys_reg (s : State) (a : Nat) : (eraseKeys s).reg a = s.reg a := rfl

theorem showRunActive_active (b : Bool) (s : State) :
    (showRunActive b s).bit R.SYS_STATE F.SYS_STATE_RUN_ACTIVE = b := by
  unfold showRunActive
  rw [State.bit_setBit_ne _ _ _ _ (by decide)]
  exact State.bit_setBit_self _ _ _ b (by decide)

theorem showRunActive_reg (b : Bool) (s : State) {a : Nat} (h : a ≠ R.SYS_STATE) (k : a ≠ R.RUN_STATUS) :
    (showRunActive b s).reg a = s.reg a := by
  unfold showRunActive
  rw [State.reg_setBit_ne _ _ _ k, State.reg_setBit_ne _ _ _ h]

theorem showRunActive_id (b : Bool) (s : State) :
    (showRunActive b s).fld R.RUN_STATUS F.RUN_STATUS_RUN_ID = s.fld R.RUN_STATUS F.RUN_STATUS_RUN_ID := by
  unfold showRunActive State.setBit
  rw [State.fld_setFld_apart _ _ _ _ _ (by decide) (by decide), State.fld_setFld_ne _ _ _ _ (by decide)]

theorem runShown_active (s : State) : (runShown s).bit R.SYS_STATE F.SYS_STATE_RUN_ACTIVE = true := by
  unfold runShown
  rw [State.bit_of_reg (eraseKeys_reg ..), showRunActive_active]

theorem runShown_id (s : State) : (runShown s).fld R.RUN_STATUS F.RUN_STATUS_RUN_ID = nextRun s := by
  unfold runShown
  rw [State.fld_of_reg (eraseKeys_reg ..), showRunActive_id, State.fld_setFld_self _ _ _ _ (by decide)]
  exact Nat.mod_eq_of_lt (Nat.mod_lt _ (by decide))

theorem runShown_route (s : State) : (runShown s).reg (R.EVT_ROUTE 448) = s.reg (R.EVT_ROUTE 448) := by
  unfold runShown
  rw [eraseKeys_reg, showRunActive_reg _ _ (by decide) (by decide), State.reg_setFld_ne _ _ _ (by decide),
    State.reg_setFld_ne _ _ _ (by decide)]

theorem eraseKeys_keys (s : State) : (eraseKeys s).root.keys = none := rfl

theorem runShown_rest (s : State) : (runShown s).tm = s.tm ∧ (runShown s).boot = s.boot := by
  simp -implicitDefEqProofs [runShown, eraseKeys, showRunActive]

theorem beginRun_begun (s : State) : RunBegun s (beginRun s) := by
  obtain ⟨state, status, route, tm, spore, autorun, root⟩ := State.same_of_facts (beginRun_facts s)
  obtain ⟨tm', boot'⟩ := runShown_rest s
  refine ⟨(State.bit_of_reg state _).trans (runShown_active s), (beginRun_keep (.refl false true s)).same_mode,
    (congrArg RootSt.keys root).trans (eraseKeys_keys _), (State.fld_of_reg status _).trans (runShown_id s),
    congrArg TimeSt.now (tm.trans tm'), spore.trans (congrArg BootSt.spore boot'),
    autorun.trans (congrArg BootSt.autorunWaits boot'), route.trans (runShown_route s)⟩

theorem endRun_inactive (s : State) : (endRun s).runActive = false :=
  (State.bit_of_reg (State.same_of_facts (endRun_facts s)).1 _).trans (showRunActive_active false s)

theorem endRun_mode (s : State) : (endRun s).mode = s.mode := (endRun_keep (.refl false true s)).same_mode

/-! #### A change of the operating state -/

theorem readyCheck_rest (s : State) : (readyCheck s).tm = s.tm ∧ (readyCheck s).boot.spore = s.boot.spore ∧
    (readyCheck s).boot.holdoff = s.boot.holdoff := by
  unfold readyCheck
  split
  · exact ⟨rfl, rfl, rfl⟩
  · extract_lets up first boot v
    have shown : v.tm = s.tm ∧ v.boot.spore = s.boot.spore ∧ v.boot.holdoff = s.boot.holdoff := ⟨rfl, rfl, rfl⟩
    refine State.cond_induct (p := fun t => t.tm = s.tm ∧ t.boot.spore = s.boot.spore ∧ t.boot.holdoff = s.boot.holdoff)
      shown fun _ => ?_
    simpa -implicitDefEqProofs using shown

/-- A change of the operating state leaves time, image and hold-offs. -/
theorem setMode_rest (m : Mode) (s : State) : (setMode m s).tm = s.tm ∧ (setMode m s).boot.spore = s.boot.spore ∧
    (setMode m s).boot.holdoff = s.boot.holdoff := by
  unfold setMode
  extract_lets old u
  have noted : Bookkeeps u (if old = m then u else peatState old u) := by
    split
    · exact .refl u
    · exact peatPush_bookkeeps ..
  obtain ⟨tm, spore, hold⟩ := readyCheck_rest (if old = m then u else peatState old u)
  rw [tm, spore, hold, noted.tm, noted.boot]
  simp -implicitDefEqProofs [u]

/-- Of SYS_STATE, a change of the operating state writes STATE alone. -/
theorem setMode_sysState (m : Mode) (s : State) :
    (setMode m s).reg R.SYS_STATE = (s.setFld R.SYS_STATE F.SYS_STATE_STATE m.code).reg R.SYS_STATE := by
  unfold setMode
  extract_lets old u
  have ready : ∀ v, (readyCheck v).reg R.SYS_STATE = v.reg R.SYS_STATE := by
    intro v
    unfold readyCheck
    split
    · rfl
    · extract_lets up first boot
      refine State.cond_induct (p := fun t => t.reg R.SYS_STATE = v.reg R.SYS_STATE) rfl fun _ => ?_
      rw [State.reg_setFld_ne _ _ _ (by decide), State.reg_setReg_ne _ _ (by decide)]
      rfl
  have shown : u.reg R.SYS_STATE = (s.setFld R.SYS_STATE F.SYS_STATE_STATE m.code).reg R.SYS_STATE := rfl
  rw [ready]
  split
  · exact shown
  · exact (peatPush_regs (.refl u (· = R.PEAT_STATUS)) rfl R.SYS_STATE (by decide)).1.trans shown

theorem setMode_runActive (m : Mode) (s : State) : (setMode m s).runActive = s.runActive := by
  refine (State.bit_of_reg (setMode_sysState m s) _).trans ?_
  unfold State.runActive State.bit
  rw [State.fld_setFld_apart _ _ _ _ _ (by decide) (by decide)]

theorem setMode_state (m : Mode) (s : State) : (setMode m s).fld R.SYS_STATE F.SYS_STATE_STATE = m.code := by
  rw [State.fld_of_reg (setMode_sysState m s), State.fld_setFld_self _ _ _ _ (by decide)]
  cases m <;> rfl

theorem setMode_sameMem (m : Mode) (s : State) : SameMem s (setMode m s) :=
  have h := (setMode_keep (.refl true false s) : Keep true false s (setMode m s)).mem rfl
  .of_eq h.1 h.2

/-- The three answers to a request to enter or to leave MAINT, as RUN_STATUS tells them (01 R29). -/
theorem askMode_answers {row : Instr} {a b : Mode} {c : Bool} {s : State}
    (hrow : exec row s = .next ((frondAsk (askMode a b) s).lost c R.SYS_RACE)) :
    (s.mode ≠ a → exec row s = .next ((s.setFld R.RUN_STATUS F.RUN_STATUS_RESULT 3).lost c R.SYS_RACE)) ∧
    (s.mode = a → s.runActive = true →
      exec row s = .next ((s.setFld R.RUN_STATUS F.RUN_STATUS_RESULT 4).lost c R.SYS_RACE)) ∧
    (s.mode = a → s.runActive = false → Completes row s fun t => t.mode = b ∧
      t.fld R.RUN_STATUS F.RUN_STATUS_RESULT = 1 ∧ t.fld R.SYS_STATE F.SYS_STATE_STATE = b.code ∧ SameMem s t) := by
  refine ⟨fun h => ?_, fun h hr => ?_, fun h hr => ⟨_, hrow, ?_⟩⟩
  · rw [hrow, frondAsk_eq (askMode_elsewhere h)]
  · rw [hrow, frondAsk_eq (askMode_inRun h hr)]
  · rw [frondAsk_eq (askMode_moves h hr)]
    have told := ((Bookkeeps.refl (setMode b s)).setFld R.RUN_STATUS F.RUN_STATUS_RESULT 1).lost c R.SYS_RACE
    refine ⟨told.mode.trans (setMode_mode b s), ?_, ?_, (setMode_sameMem b s).trans told.sameMem⟩
    · rw [State.fld_of_reg (State.reg_lost _ _ (by decide)), result_told _ (by decide)]
    · rw [State.fld_of_reg (State.reg_lost _ _ (by decide)), State.fld_setFld_ne _ _ _ _ (by decide), setMode_state]

theorem maintOver_alone (ask : State → State) (s : State) : maintOver .alone ask s = ask s := by
  unfold maintOver
  exact State.cond_induct (p := (· = ask s)) rfl fun _ => rfl

/-! #### The device watchdog (20 R576) -/

/-- The watchdog reloaded from TIMEOUT, as a kick does where it is on. -/
theorem execRunKick_eq {s : State} (hw : s.working = true) (lost : Bool) :
    exec (.runKick lost) s = .next ((if s.fld R.RUN_WDOG F.RUN_WDOG_TIMEOUT = 0 then s else
      { s with root := { s.root with wdogLeft := s.fld R.RUN_WDOG F.RUN_WDOG_TIMEOUT * 1000000, wdogAt := s.now } }).lost lost
        R.SYS_RACE) := by
  refine next_eq ((State.whenWorking_true hw _).trans (congrArg (State.lost · lost R.SYS_RACE) ?_))
  unfold State.cond
  by_cases h : s.fld R.RUN_WDOG F.RUN_WDOG_TIMEOUT = 0
  · rw [if_pos h, if_neg (by simp [h])]
  · rw [if_neg h, if_pos (by simp [h])]
    rfl

theorem execRunWdogExpiry_eq {s : State} (hw : s.working = true) (m : Meet) :
    exec (.runWdogExpiry m) s = .next (if s.fld R.RUN_WDOG F.RUN_WDOG_TIMEOUT = 0 then s
      else warmCause 1 m (s.reach (s.root.wdogAt + s.root.wdogLeft))) := next_eq (State.whenWorking_true hw _)

/-- TIMEOUT as written, with LOCK at its first value that is not 0. -/
def wdogShown (ms : Nat) (s : State) : State :=
  let u := s.setFld R.RUN_WDOG F.RUN_WDOG_TIMEOUT ms
  if ms = 0 then u else u.setBit R.RUN_WDOG F.RUN_WDOG_LOCK true

theorem devWdogWrite_locked {s : State} (h : s.bit R.RUN_WDOG F.RUN_WDOG_LOCK = true) (ms : Nat) : devWdogWrite ms s = s :=
  if_pos h

theorem devWdogWrite_open {s : State} (h : s.bit R.RUN_WDOG F.RUN_WDOG_LOCK = false) (ms : Nat) :
    devWdogWrite ms s = devWdogLoad (wdogShown ms s) := by
  unfold devWdogWrite
  rw [if_neg (by rw [h]; decide)]
  rfl

theorem wdogShown_timeout (s : State) {ms : Nat} (h : ms < 16777216) :
    (wdogShown ms s).fld R.RUN_WDOG F.RUN_WDOG_TIMEOUT = ms := by
  have told : (s.setFld R.RUN_WDOG F.RUN_WDOG_TIMEOUT ms).fld R.RUN_WDOG F.RUN_WDOG_TIMEOUT = ms := by
    rw [State.fld_setFld_self _ _ _ _ (by decide)]
    exact Nat.mod_eq_of_lt h
  unfold wdogShown
  extract_lets u
  split
  · exact told
  · exact (State.fld_setFld_apart _ _ _ _ _ (by decide) (by decide)).trans told

theorem wdogShown_lock {s : State} (h : s.bit R.RUN_WDOG F.RUN_WDOG_LOCK = false) (ms : Nat) :
    (wdogShown ms s).bit R.RUN_WDOG F.RUN_WDOG_LOCK = decide (ms ≠ 0) := by
  unfold wdogShown
  extract_lets u
  split
  · next hm =>
    unfold u State.bit
    rw [State.fld_setFld_apart _ _ _ _ _ (by decide) (by decide), hm]
    exact h
  · next hm => exact (State.bit_setBit_self u _ _ true (by decide)).trans (decide_eq_true hm).symm

theorem wdogShown_rest (ms : Nat) (s : State) : Bookkeeps s (wdogShown ms s) ∧ SameRegs s (wdogShown ms s) (· = R.RUN_WDOG) := by
  unfold wdogShown
  extract_lets u
  have kept : Bookkeeps s u := (Bookkeeps.refl s).setFld ..
  have regs : SameRegs s u (· = R.RUN_WDOG) := (SameRegs.refl s _).setFld rfl
  split
  · exact ⟨kept, regs⟩
  · exact ⟨kept.setFld .., regs.setBit rfl⟩

theorem execRunWdogWrite_open {s : State} (hw : s.working = true) (h : s.bit R.RUN_WDOG F.RUN_WDOG_LOCK = false)
    (ms : Fin 16777216) : Completes (.runWdogWrite ms) s fun t =>
      t.fld R.RUN_WDOG F.RUN_WDOG_TIMEOUT = ms.val ∧ t.bit R.RUN_WDOG F.RUN_WDOG_LOCK = decide (ms.val ≠ 0) ∧
      t.root.wdogLeft = ms.val * 1000000 ∧ t.root.wdogAt = s.now ∧ SameMem s t ∧ SameRegs s t (fun a => a = R.RUN_WDOG) := by
  refine ⟨_, next_eq ((State.whenWorking_true hw _).trans (devWdogWrite_open h _)), ?_⟩
  obtain ⟨kept, regs⟩ := wdogShown_rest ms s
  have timeout := wdogShown_timeout s ms.isLt
  refine ⟨timeout, wdogShown_lock h ms, ?_, congrArg TimeSt.now kept.tm, kept.sameMem.trans (.of_eq rfl rfl),
    regs.trans (.of_eq rfl rfl)⟩
  exact congrArg (· * 1000000) timeout

/-! #### The rows of the table -/

theorem RunBegun.told {s t : State} (h : RunBegun s t) (k : Nat) :
    RunBegun s (t.setFld R.RUN_STATUS F.RUN_STATUS_RESULT k) := by
  have same := (Bookkeeps.refl t).setFld R.RUN_STATUS F.RUN_STATUS_RESULT k
  have others : ∀ a, a ≠ R.RUN_STATUS → (t.setFld R.RUN_STATUS F.RUN_STATUS_RESULT k).reg a = t.reg a :=
    fun a ha => State.reg_setFld_ne _ _ _ ha
  refine ⟨(State.bit_of_reg (others _ (by decide)) _).trans h.active, same.mode.trans h.mode,
    (congrArg RootSt.keys same.root).trans h.keys, ?_, (congrArg TimeSt.now same.tm).trans h.now,
    (congrArg BootSt.spore same.boot).trans h.spore, (congrArg BootSt.autorunWaits same.boot).trans h.autorun,
    (others _ (by decide)).trans h.route⟩
  rw [State.fld_setFld_apart _ _ _ _ _ (by decide) (by decide)]
  exact h.id

theorem RunBegun.lost {s t : State} (h : RunBegun s t) (b : Bool) : RunBegun s (t.lost b R.SYS_RACE) := by
  have same := t.lost_bookkeeps b R.SYS_RACE
  have others : ∀ a, a ≠ R.SYS_RACE → (t.lost b R.SYS_RACE).reg a = t.reg a := fun a ha => State.reg_lost t b ha
  exact ⟨(State.bit_of_reg (others _ (by decide)) _).trans h.active, same.mode.trans h.mode,
    (congrArg RootSt.keys same.root).trans h.keys, (State.fld_of_reg (others _ (by decide)) _).trans h.id,
    (congrArg TimeSt.now same.tm).trans h.now, (congrArg BootSt.spore same.boot).trans h.spore,
    (congrArg BootSt.autorunWaits same.boot).trans h.autorun, (others _ (by decide)).trans h.route⟩

/-- A start that a frond asks for and nothing hinders: the run has begun, and RESULT is 1. -/
theorem frondAsk_starts {s : State} (hw : s.working = true) (hr : recovering s = false) (hb : runBusy s = false) :
    RunBegun s (frondAsk askStart s) ∧ (frondAsk askStart s).fld R.RUN_STATUS F.RUN_STATUS_RESULT = 1 := by
  rw [frondAsk_eq (askStart_begins hw hr hb)]
  exact ⟨(beginRun_begun s).told 1, result_told _ (by decide)⟩

theorem execRunStart_eq {s : State} (hw : s.working = true) (lost : Bool) :
    exec (.runStart lost) s = .next ((frondAsk askStart s).lost lost R.SYS_RACE) := next_eq (State.whenWorking_true hw _)

theorem execRunStop_eq {s : State} (hw : s.working = true) (lost : Bool) :
    exec (.runStop lost) s = .next ((frondAsk askStop s).lost lost R.SYS_RACE) := next_eq (State.whenWorking_true hw _)

theorem execRunStop_ends {s : State} (hw : s.working = true) (ha : s.runActive = true) (lost : Bool) :
    Completes (.runStop lost) s fun t => t.runActive = false ∧ t.mode = s.mode ∧
      t.fld R.RUN_STATUS F.RUN_STATUS_RESULT = 1 := by
  refine ⟨_, execRunStop_eq hw lost, ?_⟩
  rw [frondAsk_eq (askStop_ends hw ha)]
  have told := ((Bookkeeps.refl (endRun s)).setFld R.RUN_STATUS F.RUN_STATUS_RESULT 1).lost lost R.SYS_RACE
  refine ⟨?_, told.mode.trans (endRun_mode s), ?_⟩
  · refine (State.bit_of_reg (State.reg_lost _ _ (by decide)) _).trans ?_
    exact (State.bit_of_reg (State.reg_setFld_ne _ _ _ (by decide)) _).trans (endRun_inactive s)
  · rw [State.fld_of_reg (State.reg_lost _ _ (by decide)), result_told _ (by decide)]

/-- The state in which an autorun asks for its start (02 R72). -/
def autorunAsks (until_ : Nat) (s : State) : State :=
  { s.reach until_ with boot := { (s.reach until_).boot with autorunWaits := false } }

theorem execAutorunStart_eq {s : State} (hw : s.working = true) {p : Spore} {at_ : Nat} (hp : s.boot.spore = some p)
    (ht : s.boot.readyRose = some at_) (ha : p.autorun = true) (hq : s.boot.autorunWaits = true)
    (hr : recovering s = false) :
    exec .autorunStart s = .next (frondAsk askStart (autorunAsks (at_ + p.autorunDelay * 1000000) s)) := by
  refine next_eq ((State.whenWorking_true hw _).trans ?_)
  unfold recovering at hr
  rw [hp, ht]
  exact if_pos (by rw [ha, hq, hr]; rfl)

theorem autorunAsks_begins {s : State} (hw : s.working = true) (hr : recovering s = false) (hb : runBusy s = false)
    (until_ : Nat) : RunBegun (autorunAsks until_ s) (frondAsk askStart (autorunAsks until_ s)) ∧
      (frondAsk askStart (autorunAsks until_ s)).fld R.RUN_STATUS F.RUN_STATUS_RESULT = 1 :=
  frondAsk_starts hw hr hb

/-! #### A start that a MAINT request wins over (01 R32) -/

/-- What a start that loses leaves of the state, and the race it counts. -/
theorem startLoses_counts {m : StartMeet} (hm : m ≠ .alone) (s : State) :
    ∃ u, startLoses m s = u.lost true R.SYS_RACE ∧
      RunUntouched (fun a => a = R.RUN_STATUS ∨ a = R.REQ_STATUS ∨ a = R.EVT_LOST) s u ∧
      u.fld R.RUN_STATUS F.RUN_STATUS_RESULT =
        if m = .frond then 3 else s.fld R.RUN_STATUS F.RUN_STATUS_RESULT := by
  cases m with
  | alone => exact absurd rfl hm
  | frond =>
    refine ⟨_, rfl, .of_bookkeeps ((Bookkeeps.refl s).setFld ..) ((SameRegs.refl s _).setFld (.inl rfl)), ?_⟩
    exact result_told s (by decide)
  | host =>
    refine ⟨_, rfl, (hostRequest_refused ⟨rfl, .inl rfl⟩ (.inr (.inl rfl)) (.inr (.inr rfl)) 0 (by decide)).1, ?_⟩
    have apart := (hostRequest_refused (p := fun a => a = R.REQ_STATUS ∨ a = R.EVT_LOST) (s := s) (f := fun s => (s, 3))
      ⟨rfl, .inl rfl⟩ (.inl rfl) (.inr rfl) 0 (k := 0) (by decide)).1
    exact State.fld_of_reg (apart.regs _ (by decide)).1 _

theorem setMode_race (m : Mode) (s : State) : (setMode m s).reg R.SYS_RACE = s.reg R.SYS_RACE :=
  (setMode_regs m s R.SYS_RACE (by unfold StateRegs; decide)).1

theorem execMaintEnter_eq {s : State} (hw : s.working = true) (m : StartMeet) :
    exec (.maintEnter m) s = .next (maintOver m (frondAsk askMaintEnter) s) := next_eq (State.whenWorking_true hw _)

theorem frondAsk_maintEnter {s : State} (hm : s.mode = .run) (hr : s.runActive = false) :
    frondAsk askMaintEnter s = (setMode .maint s).setFld R.RUN_STATUS F.RUN_STATUS_RESULT 1 :=
  frondAsk_eq (askMode_moves hm hr)

theorem execMaintEnter_beats {s : State} (hw : s.working = true) {m : StartMeet} (hm : m ≠ .alone) (hs : s.mode = .run)
    (hr : s.runActive = false) : Completes (.maintEnter m) s fun t => t.mode = .maint ∧ t.runActive = false ∧
      t.fld R.RUN_STATUS F.RUN_STATUS_RESULT = (if m = .frond then 3 else 1) ∧
      t.fld R.SYS_RACE F.SYS_RACE_RACE = satAdd 65535 (s.fld R.SYS_RACE F.SYS_RACE_RACE) 1 := by
  have asked := frondAsk_maintEnter hs hr
  have told := (Bookkeeps.refl (setMode .maint s)).setFld R.RUN_STATUS F.RUN_STATUS_RESULT 1
  have others : ∀ a, a ≠ R.RUN_STATUS →
      ((setMode .maint s).setFld R.RUN_STATUS F.RUN_STATUS_RESULT 1).reg a = (setMode .maint s).reg a :=
    fun a ha => State.reg_setFld_ne _ _ _ ha
  rw [← asked] at told others
  have mode : (frondAsk askMaintEnter s).mode = .maint := told.mode.trans (setMode_mode .maint s)
  obtain ⟨u, lose, kept, result⟩ := startLoses_counts hm (frondAsk askMaintEnter s)
  have moved : exec (.maintEnter m) s = .next (u.lost true R.SYS_RACE) := by
    rw [execMaintEnter_eq hw, maintOver, hs, mode, ← lose]
    rfl
  have active : (frondAsk askMaintEnter s).runActive = false :=
    (State.bit_of_reg (others _ (by decide)) _).trans ((setMode_runActive .maint s).trans hr)
  refine ⟨_, moved, ((u.lost_bookkeeps true _).mode.trans kept.mode).trans mode, ?_, ?_, ?_⟩
  · exact (State.bit_of_reg (State.reg_lost u true (by decide)) _).trans ((kept.runActive (by decide)).trans active)
  · rw [State.fld_of_reg (State.reg_lost u true (by decide)), result, asked, result_told _ (by decide)]
  · have race : u.reg R.SYS_RACE = s.reg R.SYS_RACE :=
      (kept.regs _ (by decide)).1.trans ((others _ (by decide)).trans (setMode_race .maint s))
    rw [← State.fld_of_reg race]
    exact State.fld_satInc_self u _ _ 1 (by decide)

/-! #### ABANDON (20 R580) -/

/-- What ABANDON does to one stream. -/
def abandonStream (n : Nat) (s : State) : State :=
  let s := completeBuffer n true s
  let x := s.stream n
  let s := s.setStream n { x with ents := [], cut := 0, sent := 0,
                                  completions := x.completions.map (fun (c : Completion) => { c with drain := 0 }) }
  snapStream n (showStarved n (setPtr s n (R.SPOOL_DRAIN n) (sealAt s n)))

/-- A stream without undelivered records: its drain pointer is at its seal pointer. -/
def Drained (n : Nat) (s : State) : Prop :=
  (s.stream n).ents = [] ∧ s.reg (R.SPOOL_DRAIN n) = s.reg (R.SPOOL_SEAL n)

theorem completeBuffer_regs (n : Nat) (short : Bool) (s : State) : (completeBuffer n short s).regs = s.regs := by
  unfold completeBuffer
  dsimp only
  split <;> rfl

theorem completeBuffer_stream (n : Nat) (short : Bool) (s : State) {k : Nat} (h : k ≠ n) :
    (completeBuffer n short s).stream k = s.stream k := by
  unfold completeBuffer
  dsimp only
  split
  · rfl
  · rw [State.stream_setStream, if_neg h]

theorem showFill_streams (s : State) (n : Nat) : (showFill s n).streams = s.streams := by
  unfold showFill
  extract_lets old new u
  have told : u.streams = s.streams := State.setFld_streams ..
  exact State.cond_induct (p := fun t => t.streams = s.streams) told fun _ => (State.raise_streams u _).trans told

theorem showStarved_streams (n : Nat) (s : State) : (showStarved n s).streams = s.streams := by
  unfold showStarved State.flagEvent
  extract_lets x held starved
  split
  · split <;> simp -implicitDefEqProofs
  · simp -implicitDefEqProofs

theorem snapStream_streams (n : Nat) (s : State) : (snapStream n s).streams = s.streams := by
  simp -implicitDefEqProofs [snapStream, snapWrite]

theorem snapStream_regs (n : Nat) (s : State) : (snapStream n s).regs = s.regs := by
  simp -implicitDefEqProofs [snapStream, snapWrite]

theorem showFill_reg (s : State) (n : Nat) {a : Nat} (h : a ≠ R.SPOOL_FILL n) (k : a ≠ R.EVT_LOST) :
    (showFill s n).reg a = s.reg a := by
  unfold showFill
  extract_lets old new u
  have told : u.reg a = s.reg a := State.reg_setFld_ne _ _ _ h
  exact State.cond_induct (p := fun t => t.reg a = s.reg a) told fun _ => (State.reg_raise u _ k).trans told

theorem showStarved_reg (n : Nat) (s : State) {a : Nat} (h : a ≠ R.RING_CTRL n) (k : a ≠ R.EVT_LOST) :
    (showStarved n s).reg a = s.reg a := by
  unfold showStarved
  extract_lets x held starved
  split
  · exact State.reg_flagEvent _ _ _ _ k h
  · exact State.reg_setBit_ne _ _ _ h

theorem abandonStream_ents (n : Nat) (s : State) : ((abandonStream n s).stream n).ents = [] := by
  unfold abandonStream
  extract_lets a x b
  have streams : (snapStream n (showStarved n (setPtr b n (R.SPOOL_DRAIN n) (sealAt b n)))).streams = b.streams := by
    rw [snapStream_streams, showStarved_streams, setPtr, showFill_streams, State.setReg_streams]
  refine (congrArg (fun l => (Sparse.get (fun _ => ({} : Stream)) l n).ents) streams).trans ?_
  exact congrArg Stream.ents (State.stream_setStream_self a n _)

theorem abandonStream_stream (n : Nat) (s : State) {k : Nat} (h : k ≠ n) : (abandonStream n s).stream k = s.stream k := by
  unfold abandonStream
  extract_lets a x b
  have streams : (snapStream n (showStarved n (setPtr b n (R.SPOOL_DRAIN n) (sealAt b n)))).streams = b.streams := by
    rw [snapStream_streams, showStarved_streams, setPtr, showFill_streams, State.setReg_streams]
  refine (congrArg (fun l => Sparse.get (fun _ => ({} : Stream)) l k) streams).trans ?_
  exact (State.stream_setStream ..).trans ((if_neg h).trans (completeBuffer_stream n true s h))

/-- An address that ABANDON of stream `n` writes beside its drain pointer. -/
def StarvedRegs (n a : Nat) : Prop := a = R.SPOOL_FILL n ∨ a = R.RING_CTRL n ∨ a = R.EVT_LOST

theorem abandonStream_pointers (n : Nat) (s : State) {a : Nat} (h : ¬ StarvedRegs n a) : (abandonStream n s).reg a =
    (s.setReg (R.SPOOL_DRAIN n) (BitVec.ofNat 32 (sealAt s n / 64))).reg a := by
  obtain ⟨fill, ring, lost⟩ : a ≠ R.SPOOL_FILL n ∧ a ≠ R.RING_CTRL n ∧ a ≠ R.EVT_LOST := by
    unfold StarvedRegs at h
    tauto
  unfold abandonStream
  extract_lets b x c
  have regs : c.regs = s.regs := completeBuffer_regs ..
  have same : ∀ q, c.reg q = s.reg q := State.reg_of_regs regs
  rw [State.reg_of_regs (snapStream_regs ..), showStarved_reg _ _ ring lost, setPtr, showFill_reg _ _ fill lost,
    State.reg_setReg, State.reg_setReg, same, sealAt, sealAt, same]

theorem spoolSeal_unstarved {k : Nat} (h : k < 16) (n : Nat) : ¬ StarvedRegs n (R.SPOOL_SEAL k) := by
  simp only [StarvedRegs, R.SPOOL_SEAL, R.SPOOL_FILL, R.RING_CTRL, R.EVT_LOST]
  omega

theorem spoolDrain_unstarved {k : Nat} (h : k < 16) (n : Nat) : ¬ StarvedRegs n (R.SPOOL_DRAIN k) := by
  simp only [StarvedRegs, R.SPOOL_DRAIN, R.SPOOL_FILL, R.RING_CTRL, R.EVT_LOST]
  omega

theorem spoolSeal_ne_drain (k n : Nat) : R.SPOOL_SEAL k ≠ R.SPOOL_DRAIN n := by
  simp only [R.SPOOL_SEAL, R.SPOOL_DRAIN]
  omega

theorem abandonStream_seal (n : Nat) (s : State) {k : Nat} (h : k < 16) :
    (abandonStream n s).reg (R.SPOOL_SEAL k) = s.reg (R.SPOOL_SEAL k) := by
  rw [abandonStream_pointers n s (spoolSeal_unstarved h n), State.reg_setReg, if_neg (spoolSeal_ne_drain k n)]

theorem sealAt_words (s : State) (n : Nat) : BitVec.ofNat 32 (sealAt s n / 64) = s.reg (R.SPOOL_SEAL n) := by
  rw [sealAt, Nat.mul_div_cancel_left _ (by decide)]
  exact BitVec.ofNat_toNat ..

theorem abandonStream_drains {n : Nat} (h : n < 16) (s : State) : Drained n (abandonStream n s) := by
  refine ⟨abandonStream_ents n s, ?_⟩
  rw [abandonStream_seal n s h, abandonStream_pointers n s (spoolDrain_unstarved h n), State.reg_setReg, if_pos rfl,
    sealAt_words]

theorem abandonStream_drained {n k : Nat} (h : k < 16) (hk : k ≠ n) {s : State} (d : Drained k s) :
    Drained k (abandonStream n s) := by
  obtain ⟨ents, drain⟩ := d
  have apart : R.SPOOL_DRAIN k ≠ R.SPOOL_DRAIN n := by
    simp only [R.SPOOL_DRAIN]
    omega
  refine ⟨(congrArg Stream.ents (abandonStream_stream n s hk)).trans ents, ?_⟩
  rw [abandonStream_seal n s h, abandonStream_pointers n s (spoolDrain_unstarved h n), State.reg_setReg, if_neg apart, drain]

theorem abandonStreams_drained {k : Nat} (h : k < 16) (l : List Nat) :
    ∀ s : State, k ∈ l ∨ Drained k s → Drained k (l.foldl (fun s n => abandonStream n s) s) := by
  induction l with
  | nil => exact fun s d => d.resolve_left (List.not_mem_nil)
  | cons n l ih =>
    intro s d
    refine ih _ ?_
    by_cases hn : k = n
    · subst hn
      exact .inr (abandonStream_drains h s)
    · rcases d with d | d
      · exact .inl ((List.mem_cons.mp d).resolve_left hn)
      · exact .inr (abandonStream_drained h hn d)

theorem abandonStreams_seal {k : Nat} (h : k < 16) (l : List Nat) (s : State) :
    (l.foldl (fun s n => abandonStream n s) s).reg (R.SPOOL_SEAL k) = s.reg (R.SPOOL_SEAL k) := by
  induction l generalizing s with
  | nil => rfl
  | cons n l ih => exact (ih _).trans (abandonStream_seal n s h)

/-- Every stream abandoned. -/
def abandonAll (s : State) : State := (List.range 16).foldl (fun s n => abandonStream n s) s

/-- The recovery abandoned. -/
def recoveryOver (s : State) : State :=
  { s with boot := { s.boot with recovery := s.boot.recovery.map fun (w : Recovery) => { w with abandoned := true } } }

theorem recoveryOver_drained {n : Nat} {s : State} (d : Drained n s) : Drained n (recoveryOver s) := d

theorem recoveryOver_reg (s : State) (a : Nat) : (recoveryOver s).reg a = s.reg a := rfl

theorem askAbandon_elsewhere {s : State} (h : s.mode ≠ .maint) : askAbandon s = (s, 3) := by
  rw [askAbandon, if_pos h]

theorem askAbandon_maint {s : State} (h : s.mode = .maint) :
    askAbandon s = ((recoveryOver (abandonAll s)).setBit R.RUN_STATUS F.RUN_STATUS_RECOVERING false, 1) := by
  rw [askAbandon, if_neg (not_not.mpr h)]
  unfold recoveryOver abandonAll abandonStream
  with_reducible rfl

theorem abandonAll_pointers (s : State) {n : Nat} (h : n < 16) :
    Drained n (abandonAll s) ∧ (abandonAll s).reg (R.SPOOL_SEAL n) = s.reg (R.SPOOL_SEAL n) := by
  unfold abandonAll
  exact ⟨abandonStreams_drained h _ s (.inl (List.mem_range.mpr h)), abandonStreams_seal h _ s⟩

/-- ABANDON's answer in RUN_STATUS moves no pointer. -/
theorem abandonTold_drained {n : Nat} (h : n < 16) {u : State} (d : Drained n u) :
    let t := (u.setBit R.RUN_STATUS F.RUN_STATUS_RECOVERING false).setFld R.RUN_STATUS F.RUN_STATUS_RESULT 1
    Drained n t ∧ t.reg (R.SPOOL_SEAL n) = u.reg (R.SPOOL_SEAL n) := by
  intro t
  obtain ⟨ents, drain⟩ := d
  have others : ∀ a, a ≠ R.RUN_STATUS → t.reg a = u.reg a := fun a ha =>
    (State.reg_setFld_ne _ _ _ ha).trans (State.reg_setBit_ne _ _ _ ha)
  have drainReg := others (R.SPOOL_DRAIN n) (by simp only [R.SPOOL_DRAIN, R.RUN_STATUS]; omega)
  have sealReg := others (R.SPOOL_SEAL n) (by simp only [R.SPOOL_SEAL, R.RUN_STATUS]; omega)
  exact ⟨⟨ents, drainReg.trans (drain.trans sealReg.symm)⟩, sealReg⟩

theorem abandonTold_status (u : State) :
    let t := (u.setBit R.RUN_STATUS F.RUN_STATUS_RECOVERING false).setFld R.RUN_STATUS F.RUN_STATUS_RESULT 1
    t.fld R.RUN_STATUS F.RUN_STATUS_RESULT = 1 ∧ t.bit R.RUN_STATUS F.RUN_STATUS_RECOVERING = false := by
  refine ⟨result_told _ (by decide), ?_⟩
  unfold State.bit
  rw [State.fld_setFld_apart _ _ _ _ _ (by decide) (by decide)]
  exact State.bit_setBit_self u _ _ false (by decide)

theorem execAbandon_eq {s : State} (hw : s.working = true) : exec .abandon s = .next (frondAsk askAbandon s) :=
  next_eq (State.whenWorking_true hw _)

theorem execAbandon_drains {s : State} (hw : s.working = true) (h : s.mode = .maint) : Completes .abandon s fun t =>
    t.fld R.RUN_STATUS F.RUN_STATUS_RESULT = 1 ∧ t.bit R.RUN_STATUS F.RUN_STATUS_RECOVERING = false ∧
    ∀ n, n < 16 → (t.stream n).ents = [] ∧ t.reg (R.SPOOL_DRAIN n) = t.reg (R.SPOOL_SEAL n) ∧
      t.reg (R.SPOOL_SEAL n) = s.reg (R.SPOOL_SEAL n) := by
  refine ⟨_, execAbandon_eq hw, ?_⟩
  rw [frondAsk_eq (askAbandon_maint h)]
  obtain ⟨result, recovered⟩ := abandonTold_status (recoveryOver (abandonAll s))
  refine ⟨result, recovered, fun n hn => ?_⟩
  obtain ⟨drained, sealed⟩ := abandonAll_pointers s hn
  obtain ⟨⟨ents, drain⟩, kept⟩ := abandonTold_drained hn (recoveryOver_drained drained)
  exact ⟨ents, drain, kept.trans ((recoveryOver_reg _ _).trans sealed)⟩

/-- Settles O37: a request of a run, of MAINT and of ABANDON answers as its state says; the watchdog's lemmas are above. -/
theorem runRequests : Obligations.RunRequests := by
  intro s lost hw result rec busy refusedAnd refused begun starts stops maint abandon autorun watchdog beaten
  refine ⟨⟨fun hr => ?_, fun hr hb => ?_, fun hr hb => ⟨_, execRunStart_eq hw lost, ?_⟩⟩,
    ⟨fun ha => ?_, fun ha => execRunStop_ends hw ha lost⟩,
    askMode_answers (next_eq ((State.whenWorking_true hw _).trans (maintOver_alone _ s))),
    askMode_answers (next_eq (State.whenWorking_true hw _)), fun m hm hs hr => execMaintEnter_beats hw hm hs hr,
    ⟨fun h => ?_, execAbandon_drains hw⟩, fun p at_ hp ht ha hq hr hb => ⟨_, execAutorunStart_eq hw hp ht ha hq hr, ?_⟩,
    fun ms m => ⟨fun h => ?_, fun h => execRunWdogWrite_open hw h ms, execRunKick_eq hw lost, execRunWdogExpiry_eq hw m⟩⟩
  · exact (execRunStart_eq hw lost).trans (by rw [frondAsk_eq (askStart_recovering hr)])
  · exact (execRunStart_eq hw lost).trans (by rw [frondAsk_eq (askStart_busy hw hr hb)])
  · obtain ⟨run, told⟩ := frondAsk_starts hw hr hb
    obtain ⟨active, mode, keys, id, _⟩ := run.lost lost
    exact ⟨active, mode, (State.fld_of_reg (State.reg_lost _ lost (by decide)) _).trans told, keys, id⟩
  · exact (execRunStop_eq hw lost).trans (by rw [frondAsk_eq (askStop_idle ha)])
  · exact (execAbandon_eq hw).trans (by rw [frondAsk_eq (askAbandon_elsewhere h)])
  · obtain ⟨run, told⟩ := autorunAsks_begins hw hr hb (at_ + p.autorunDelay * 1000000)
    obtain ⟨active, mode, keys, id, now, _, waits, _⟩ := run
    exact ⟨⟨active, mode, told, keys, id⟩, waits, now⟩
  · exact next_eq ((State.whenWorking_true hw _).trans (devWdogWrite_locked h _))

/-! ### HostRequests: the request page (02 R57, 15 R462, R464) -/

/-- What a request that is denied or held off leaves as it is. -/
def RequestStill (s t : State) : Prop :=
  SameMem s t ∧ t.mode = s.mode ∧ t.runActive = s.runActive ∧ t.boot = s.boot ∧
    SameRegs s t (fun a => a = R.REQ_STATUS ∨ a = R.EVT_LOST ∨ a = R.SYS_RACE)

/-- LAST and RESULT of REQ_STATUS. -/
def RequestShows (t : State) (k r : Nat) : Prop :=
  t.fld R.REQ_STATUS F.REQ_STATUS_LAST = k ∧ t.fld R.REQ_STATUS F.REQ_STATUS_RESULT = r

/-- An event that its route sends anywhere is pending. -/
def RequestTold (s : State) (src : Nat) (t : State) : Prop := s.reg (R.EVT_ROUTE src) ≠ 0 → src ∈ t.evPend

/-- A request without its permission and one during its hold-off. -/
def HostGate (row : Instr) (k perm : Nat) (s : State) : Prop :=
  (permits s perm = false → Completes row s fun t => RequestStill s t ∧ RequestShows t k 5 ∧ RequestTold s 451 t ∧
    t.fld R.REQ_STATUS F.REQ_STATUS_DENIED =
      satAdd (2 ^ F.REQ_STATUS_DENIED.width - 1) (s.fld R.REQ_STATUS F.REQ_STATUS_DENIED) 1) ∧
  (permits s perm = true → heldOff s k = true → Completes row s fun t => RequestStill s t ∧ RequestShows t k 6)

/-- A request that is taken: it shows in LAST, and its hold-off begins. -/
def HostTaken (row : Instr) (k perm : Nat) (s : State) (pre : Prop) (post : State → Nat → Prop) : Prop :=
  permits s perm = true → heldOff s k = false → pre → Completes row s fun t => t.fld R.REQ_STATUS F.REQ_STATUS_LAST = k ∧
    post t (t.fld R.REQ_STATUS F.REQ_STATUS_RESULT) ∧ ∀ w, s.boot.spore = some w → w.hostReqMin ≠ 0 →
      Sparse.find t.boot.holdoff k = some (t.now + w.hostReqMin * 1000000)

theorem RequestStill.of_bookkeeps {s t : State} (h : Bookkeeps s t)
    (r : SameRegs s t (fun a => a = R.REQ_STATUS ∨ a = R.EVT_LOST ∨ a = R.SYS_RACE)) : RequestStill s t :=
  ⟨h.sameMem, h.mode, State.bit_of_reg (r _ (by decide)).1 _, h.boot, r⟩

theorem State.lost_shows {t : State} {k r : Nat} (h : RequestShows t k r) (b : Bool) : RequestShows (t.lost b R.SYS_RACE) k r :=
  ⟨(State.fld_of_reg (State.reg_lost t b (by decide)) _).trans h.1,
    (State.fld_of_reg (State.reg_lost t b (by decide)) _).trans h.2⟩

theorem reqShow_shows {k r : Nat} (hk : k < 256) (hr : r < 16) (s : State) : RequestShows (reqShow k r s) k r :=
  ⟨reqShow_last k r s hk, reqShow_result k r s hr⟩

theorem countDenied_shows {t : State} {k r : Nat} (h : RequestShows t k r) : RequestShows (countDenied t) k r :=
  ⟨(countDenied_fld_apart (by decide)).trans h.1, (countDenied_fld_apart (by decide)).trans h.2⟩

/-- Both refusals, for a row that asks `f` at least while the operating state stays. -/
theorem hostGate_of_row {row : Instr} {k perm : Nat} {f : State → State × Nat} {s : State} {lost : Bool} (hk : k < 256)
    (hrow : (hostRequest k perm f s).mode = s.mode → exec row s = .next ((hostRequest k perm f s).lost lost R.SYS_RACE)) :
    HostGate row k perm s := by
  have shown : ∀ r, Bookkeeps s (reqShow k r s) := fun r => reqShow_bookkeeps k r s
  have regs : ∀ r, SameRegs s (reqShow k r s) (fun a => a = R.REQ_STATUS ∨ a = R.EVT_LOST ∨ a = R.SYS_RACE) := fun r =>
    reqShow_regs (.refl s _) (.inl rfl)
  refine ⟨fun denied => ?_, fun permit held => ?_⟩
  · rw [hostRequest_denied denied] at hrow
    have kept := (shown 5).trans (countDenied_bookkeeps _)
    refine ⟨_, hrow kept.mode, .of_bookkeeps (kept.lost ..)
      ((countDenied_regs (regs 5) (.inl rfl) (.inr (.inl rfl))).lost (.inr (.inr rfl))),
      State.lost_shows (countDenied_shows (reqShow_shows hk (by decide) s)) lost, fun route => ?_, ?_⟩
    · rw [State.lost_evPend]
      exact countDenied_evPend (by rwa [(regs 5 _ (by decide)).1])
    · rw [State.fld_of_reg (State.reg_lost _ _ (by decide)), countDenied_denied, reqShow_denied]
  · rw [hostRequest_heldOff permit held] at hrow
    exact ⟨_, hrow (shown 6).mode, .of_bookkeeps ((shown 6).lost ..) ((regs 6).lost (.inr (.inr rfl))),
      State.lost_shows (reqShow_shows hk (by decide) s) lost⟩

/-- What showing a request leaves as the request made it. -/
structure ReqShown (u t : State) : Prop where
  mem : SameMem u t
  mode : t.mode = u.mode
  tps : t.tps = u.tps
  evPend : t.evPend = u.evPend
  regs : SameRegs u t (fun a => a = R.REQ_STATUS ∨ a = R.SYS_RACE)

/-- A request that is taken and answered, with the race that it counts. -/
def reqAnswered (k r : Nat) (lost : Bool) (u : State) : State := (reqShow k r (holdOff k u)).lost lost R.SYS_RACE

theorem reqAnswered_bookkeeps (k r : Nat) (lost : Bool) (u : State) : Bookkeeps (holdOff k u) (reqAnswered k r lost u) :=
  (reqShow_bookkeeps k r _).lost ..

theorem reqAnswered_shown (k r : Nat) (lost : Bool) (u : State) : ReqShown u (reqAnswered k r lost u) := by
  have kept := reqAnswered_bookkeeps k r lost u
  have begun := holdOff_untouched (fun a => a = R.REQ_STATUS ∨ a = R.SYS_RACE) k u
  refine ⟨begun.mem.trans kept.sameMem, kept.mode.trans begun.mode, (congrArg State.tps kept).trans rfl, ?_,
    begun.regs.trans ((reqShow_regs (.refl _ _) (.inl rfl)).lost (.inr rfl))⟩
  unfold reqAnswered reqShow
  rw [State.lost_evPend, State.setFld_evPend, State.setFld_evPend]
  rfl

theorem reqAnswered_now (k r : Nat) (lost : Bool) (u : State) : (reqAnswered k r lost u).now = u.now :=
  (congrArg TimeSt.now (reqAnswered_bookkeeps k r lost u).tm).trans rfl

theorem holdOff_begins {u : State} {w : Spore} (hs : u.boot.spore = some w) (hm : w.hostReqMin ≠ 0) (k : Nat) :
    Sparse.find (holdOff k u).boot.holdoff k = some (u.now + w.hostReqMin * 1000000) := by
  unfold holdOff
  simp only [hs, Option.map_some, Option.getD_some, if_neg hm]
  exact (Sparse.find_put_self ..).trans (if_neg nofun)

/-- A request that is taken, from its row and its answer. -/
theorem hostTaken_of_answer {row : Instr} {k perm : Nat} {f : State → State × Nat} {s : State} {lost : Bool} {pre : Prop}
    {post : State → Nat → Prop} (hk : k < 256)
    (hrow : exec row s = .next ((hostRequest k perm f s).lost lost R.SYS_RACE))
    (answer : pre → ∃ u r, f s = (u, r) ∧ r < 16 ∧ u.boot.spore = s.boot.spore ∧ ∀ t, ReqShown u t → post t r) :
    HostTaken row k perm s pre post := by
  intro permit free hp
  obtain ⟨u, r, ask, hr, spore, holds⟩ := answer hp
  have row_eq : exec row s = .next (reqAnswered k r lost u) := by
    rw [hrow, hostRequest_taken permit free, ask]
    rfl
  obtain ⟨last, result⟩ := State.lost_shows (reqShow_shows hk hr (holdOff k u)) lost
  refine ⟨_, row_eq, last, ?_, fun w hs hm => ?_⟩
  · exact (show (reqAnswered k r lost u).fld R.REQ_STATUS F.REQ_STATUS_RESULT = r from result).symm ▸
      holds _ (reqAnswered_shown k r lost u)
  · rw [(reqAnswered_bookkeeps k r lost u).boot, reqAnswered_now]
    exact holdOff_begins (spore.trans hs) hm k

/-! #### The rows of the request page -/

theorem execReqRunStart_eq {s : State} (hw : s.working = true) (hr : hostReaches s = true) (lost : Bool) :
    exec (.reqRunStart lost) s = .next ((hostRequest 0 0 (reqRun true false) s).lost lost R.SYS_RACE) :=
  next_eq (State.whenWindow_true hw hr _)

theorem execReqRunStop_eq {s : State} (hw : s.working = true) (hr : hostReaches s = true) (lost : Bool) :
    exec (.reqRunStop lost) s = .next ((hostRequest 0 0 (reqRun false true) s).lost lost R.SYS_RACE) :=
  next_eq (State.whenWindow_true hw hr _)

theorem execReqShutter_eq {s : State} (hw : s.working = true) (hr : hostReaches s = true) (ports : BitVec 4) :
    exec (.reqShutter ports) s = .next ((hostRequest 1 1 (reqShutter ports.toNat) s).lost false R.SYS_RACE) :=
  next_eq (State.whenWindow_true hw hr _)

theorem execReqPacking_eq {s : State} (hw : s.working = true) (hr : hostReaches s = true) (stream : Fin 16) (v : BitVec 8) :
    exec (.reqPacking stream v) s = .next ((hostRequest 2 4 (reqPacking stream v.toNat) s).lost false R.SYS_RACE) :=
  next_eq (State.whenWindow_true hw hr _)

theorem execReqCal_eq {s : State} (hw : s.working = true) (hr : hostReaches s = true) (code : BitVec 16) :
    exec (.reqCal code) s = .next ((hostRequest 3 5 (reqCal code.toNat) s).lost false R.SYS_RACE) :=
  next_eq (State.whenWindow_true hw hr _)

theorem execReqMaintEnter_eq {s : State} (hw : s.working = true) (hr : hostReaches s = true) (m : StartMeet) :
    exec (.reqMaintEnter m) s = .next (maintOver m (hostRequest 4 6 (reqMaint true false)) s) :=
  next_eq (State.whenWindow_true hw hr _)

/-- A MAINT request that meets no start, or that leaves the operating state. -/
theorem execReqMaintEnter_still {s : State} (hw : s.working = true) (hr : hostReaches s = true) {m : StartMeet}
    (h : m = .alone ∨ (hostRequest 4 6 (reqMaint true false) s).mode = s.mode) :
    exec (.reqMaintEnter m) s = .next ((hostRequest 4 6 (reqMaint true false) s).lost false R.SYS_RACE) := by
  rw [execReqMaintEnter_eq hw hr]
  rcases h with rfl | h
  · rw [maintOver_alone, State.lost_false]
  · rw [maintOver_refused h, State.lost_false]

theorem execReqMaintExit_eq {s : State} (hw : s.working = true) (hr : hostReaches s = true) (lost : Bool) :
    exec (.reqMaintExit lost) s = .next ((hostRequest 4 6 (reqMaint false true) s).lost lost R.SYS_RACE) :=
  next_eq (State.whenWindow_true hw hr _)

/-! #### Runs -/

theorem reqRun_start (s : State) : reqRun true false s = acceptedRaise 448 (askStart s) := rfl

theorem reqRun_stop (s : State) : reqRun false true s = acceptedRaise 448 (askStop s) := rfl

theorem acceptedRaise_refused (src : Nat) (s : State) {r : Nat} (h : r ≠ 1) : acceptedRaise src (s, r) = (s, r) := if_neg h

theorem acceptedRaise_taken (src : Nat) (s : State) : acceptedRaise src (s, 1) = (s.raise src, 1) := rfl

theorem ReqShown.runActive {u t : State} (h : ReqShown u t) : t.runActive = u.runActive :=
  State.bit_of_reg (h.regs _ (by decide)).1 _

theorem ReqShown.told {s u t : State} {e : Nat} (h : ReqShown (u.raise e) t) (hl : 192 ≤ e) (hu : e < 1024)
    (route : u.reg (R.EVT_ROUTE e) = s.reg (R.EVT_ROUTE e)) : RequestTold s e t := fun hr => by
  rw [h.evPend]
  exact State.mem_evPend_raise hl hu (by rwa [route])

theorem State.raise_runActive (s : State) (e : Nat) : (s.raise e).runActive = s.runActive :=
  State.bit_of_reg (State.reg_raise s e (by decide)) _

theorem State.raise_spore (s : State) (e : Nat) : (s.raise e).boot.spore = s.boot.spore :=
  congrArg BootSt.spore ((Bookkeeps.refl s).raise e).boot

theorem endRun_rest (s : State) : (endRun s).boot.spore = s.boot.spore ∧
    (endRun s).reg (R.EVT_ROUTE 448) = s.reg (R.EVT_ROUTE 448) := by
  obtain ⟨-, -, route, -, spore, -, -⟩ := State.same_of_facts (endRun_facts s)
  refine ⟨spore.trans ?_, route.trans (showRunActive_reg false s (by decide) (by decide))⟩
  simp -implicitDefEqProofs [showRunActive]

/-- What a refused request leaves. -/
theorem ReqShown.refused {s t : State} (h : ReqShown s t) {r k : Nat} (hr : r = k) {b : Bool} (hb : s.runActive = b) :
    r = k ∧ t.runActive = b ∧ SameMem s t := ⟨hr, h.runActive.trans hb, h.mem⟩

theorem reqRunStart_taken {s : State} (hw : s.working = true) (hr : hostReaches s = true) (lost : Bool) :
    HostTaken (.reqRunStart lost) 0 0 s (recovering s = true) (fun t r => r = 3 ∧ t.runActive = s.runActive ∧ SameMem s t) ∧
    HostTaken (.reqRunStart lost) 0 0 s (recovering s = false ∧ runBusy s = true)
      (fun t r => r = 4 ∧ t.runActive = s.runActive ∧ SameMem s t) ∧
    HostTaken (.reqRunStart lost) 0 0 s (recovering s = false ∧ runBusy s = false)
      (fun t r => r = 1 ∧ t.runActive = true ∧ RequestTold s 448 t ∧ t.fld R.RUN_STATUS F.RUN_STATUS_RUN_ID = nextRun s) := by
  have row := execReqRunStart_eq hw hr lost
  refine ⟨hostTaken_of_answer (by decide) row fun h => ⟨s, 3, ?_, by decide, rfl, fun t ht => ht.refused rfl rfl⟩,
    hostTaken_of_answer (by decide) row fun ⟨h, hb⟩ => ⟨s, 4, ?_, by decide, rfl, fun t ht => ht.refused rfl rfl⟩,
    hostTaken_of_answer (by decide) row fun ⟨h, hb⟩ => ⟨(beginRun s).raise 448, 1, ?_, by decide, ?_, fun t ht => ?_⟩⟩
  · rw [reqRun_start, askStart_recovering h, acceptedRaise_refused _ _ (by decide)]
  · rw [reqRun_start, askStart_busy hw h hb, acceptedRaise_refused _ _ (by decide)]
  · rw [reqRun_start, askStart_begins hw h hb, acceptedRaise_taken]
  · exact (State.raise_spore ..).trans (beginRun_begun s).spore
  · have run := beginRun_begun s
    refine ⟨rfl, ht.runActive.trans ((State.raise_runActive ..).trans run.active), ht.told (by decide) (by decide) run.route, ?_⟩
    rw [State.fld_of_reg (ht.regs _ (by decide)).1, State.fld_of_reg (State.reg_raise _ _ (by decide)), run.id]

theorem reqRunStop_taken {s : State} (hw : s.working = true) (hr : hostReaches s = true) (lost : Bool) :
    HostTaken (.reqRunStop lost) 0 0 s (s.runActive = false) (fun t r => r = 3 ∧ t.runActive = false ∧ SameMem s t) ∧
    HostTaken (.reqRunStop lost) 0 0 s (s.runActive = true) (fun t r => r = 1 ∧ t.runActive = false ∧ RequestTold s 448 t) := by
  have row := execReqRunStop_eq hw hr lost
  refine ⟨hostTaken_of_answer (by decide) row fun h => ⟨s, 3, ?_, by decide, rfl, fun t ht => ht.refused rfl h⟩,
    hostTaken_of_answer (by decide) row fun h => ⟨(endRun s).raise 448, 1, ?_, by decide, ?_, fun t ht => ?_⟩⟩
  · rw [reqRun_stop, askStop_idle h, acceptedRaise_refused _ _ (by decide)]
  · rw [reqRun_stop, askStop_ends hw h, acceptedRaise_taken]
  · exact (State.raise_spore ..).trans (endRun_rest s).1
  · exact ⟨rfl, ht.runActive.trans ((State.raise_runActive ..).trans (endRun_inactive s)),
      ht.told (by decide) (by decide) (endRun_rest s).2⟩

/-! #### MAINT -/

theorem reqMaint_enter (s : State) : reqMaint true false s = askMode .run .maint s := rfl

theorem reqMaint_exit (s : State) : reqMaint false true s = askMode .maint .run s := rfl

theorem reqMode_taken {row : Instr} {f : State → State × Nat} {a b : Mode} {s : State} {lost : Bool}
    (hrow : exec row s = .next ((hostRequest 4 6 f s).lost lost R.SYS_RACE)) (hf : f s = askMode a b s) :
    HostTaken row 4 6 s (s.mode ≠ a) (fun t r => r = 3 ∧ t.mode = s.mode) ∧
    HostTaken row 4 6 s (s.mode = a ∧ s.runActive = true) (fun t r => r = 4 ∧ t.mode = s.mode) ∧
    HostTaken row 4 6 s (s.mode = a ∧ s.runActive = false) (fun t r => r = 1 ∧ t.mode = b ∧ SameMem s t) := by
  refine ⟨hostTaken_of_answer (by decide) hrow fun h =>
      ⟨s, 3, hf.trans (askMode_elsewhere h), by decide, rfl, fun t ht => ⟨rfl, ht.mode⟩⟩,
    hostTaken_of_answer (by decide) hrow fun ⟨h, hr⟩ =>
      ⟨s, 4, hf.trans (askMode_inRun h hr), by decide, rfl, fun t ht => ⟨rfl, ht.mode⟩⟩,
    hostTaken_of_answer (by decide) hrow fun ⟨h, hr⟩ =>
      ⟨setMode b s, 1, hf.trans (askMode_moves h hr), by decide, (setMode_rest b s).2.1, fun t ht =>
        ⟨rfl, ht.mode.trans (setMode_mode b s), (setMode_sameMem b s).trans ht.mem⟩⟩⟩

/-- MAINT entered at a host's request, as the request page shows it. -/
def maintEntered (s : State) : State := reqShow 4 1 (holdOff 4 (setMode .maint s))

theorem hostRequest_maintEnter {s : State} (permit : permits s 6 = true) (free : heldOff s 4 = false) (hs : s.mode = .run)
    (hr : s.runActive = false) : hostRequest 4 6 (reqMaint true false) s = maintEntered s := by
  rw [hostRequest_taken permit free, reqMaint_enter, askMode_moves hs hr]
  rfl

theorem maintEntered_kept (s : State) : RunUntouched (· = R.REQ_STATUS) (setMode .maint s) (maintEntered s) :=
  (holdOff_untouched _ 4 _).trans (.of_bookkeeps (reqShow_bookkeeps ..) (reqShow_regs (.refl _ _) rfl))

theorem maintEntered_mode (s : State) : (maintEntered s).mode = .maint :=
  (maintEntered_kept s).mode.trans (setMode_mode .maint s)

/-- A hold-off of one request register holds no other off. -/
theorem holdOff_others (s : State) {k j : Nat} (h : j ≠ k) :
    Sparse.find (holdOff k s).boot.holdoff j = Sparse.find s.boot.holdoff j := by
  unfold holdOff
  extract_lets ms held
  show Sparse.find held j = _
  unfold held
  split
  · rfl
  · exact Sparse.find_put_ne _ _ _ h

theorem maintEntered_rest (s : State) : (maintEntered s).now = s.now ∧ (maintEntered s).boot.spore = s.boot.spore ∧
    ∀ j, j ≠ 4 → Sparse.find (maintEntered s).boot.holdoff j = Sparse.find s.boot.holdoff j := by
  obtain ⟨tm, spore, holdoff⟩ := setMode_rest .maint s
  have shown := reqShow_bookkeeps 4 1 (holdOff 4 (setMode .maint s))
  refine ⟨(congrArg TimeSt.now shown.tm).trans (congrArg TimeSt.now tm), (congrArg BootSt.spore shown.boot).trans spore,
    fun j hj => ?_⟩
  refine (congrArg (fun b : BootSt => Sparse.find b.holdoff j) shown.boot).trans ((holdOff_others _ hj).trans ?_)
  rw [holdoff]

theorem permits_of_spore {s t : State} (h : t.boot.spore = s.boot.spore) (k : Nat) : permits t k = permits s k := by
  rw [permits, permits, h]

theorem heldOff_of_rest {s t : State} {k : Nat} (hold : Sparse.find t.boot.holdoff k = Sparse.find s.boot.holdoff k)
    (now : t.now = s.now) : heldOff t k = heldOff s k := by
  rw [heldOff, heldOff, hold, now]

/-- A start that a frond made and that loses leaves the request page as it was. -/
theorem startLoses_frond {k r : Nat} {s : State} (h : RequestShows s k r) : RequestShows (startLoses .frond s) k r ∧
    (startLoses .frond s).fld R.RUN_STATUS F.RUN_STATUS_RESULT = 3 := by
  have others : (s.setFld R.RUN_STATUS F.RUN_STATUS_RESULT 3).reg R.REQ_STATUS = s.reg R.REQ_STATUS :=
    State.reg_setFld_ne _ _ _ (by decide)
  unfold startLoses
  refine ⟨State.lost_shows ⟨(State.fld_of_reg others _).trans h.1, (State.fld_of_reg others _).trans h.2⟩ true, ?_⟩
  rw [State.fld_of_reg (State.reg_lost _ _ (by decide)), result_told _ (by decide)]

/-- A start that the host made and that loses shows RESULT 3. -/
theorem startLoses_host {s : State} (permit : permits s 0 = true) (free : heldOff s 0 = false) :
    RequestShows (startLoses .host s) 0 3 := by
  unfold startLoses
  refine State.lost_shows ?_ true
  rw [hostRequest_taken permit free]
  exact reqShow_shows (by decide) (show 3 < 16 by decide) _

theorem reqMaintEnter_beats {s : State} (hw : s.working = true) (hr : hostReaches s = true) (permit : permits s 6 = true)
    (free : heldOff s 4 = false) (hs : s.mode = .run) (ha : s.runActive = false) {m : StartMeet} (hm : m ≠ .alone) :
    Completes (.reqMaintEnter m) s fun t => t.mode = .maint ∧ t.runActive = false ∧
      t.fld R.SYS_RACE F.SYS_RACE_RACE = satAdd 65535 (s.fld R.SYS_RACE F.SYS_RACE_RACE) 1 ∧
      (m = .frond → RequestShows t 4 1 ∧ t.fld R.RUN_STATUS F.RUN_STATUS_RESULT = 3) ∧
      (m = .host → permits s 0 = true → heldOff s 0 = false → RequestShows t 0 3) := by
  have kept := maintEntered_kept s
  have mode := maintEntered_mode s
  have moved : exec (.reqMaintEnter m) s = .next (startLoses m (maintEntered s)) := by
    rw [execReqMaintEnter_eq hw hr, maintOver, hostRequest_maintEnter permit free hs ha, hs, mode]
    rfl
  refine ⟨_, moved, ?_⟩
  obtain ⟨u, lose, same, -⟩ := startLoses_counts hm (maintEntered s)
  refine ⟨?_, ?_, ?_, ?_, ?_⟩
  · rw [lose]
    exact ((u.lost_bookkeeps true _).mode.trans same.mode).trans mode
  · rw [lose]
    refine (State.bit_of_reg (State.reg_lost u true (by decide)) _).trans ?_
    rw [← ha, ← setMode_runActive .maint s, ← kept.runActive (by decide), ← same.runActive (by decide)]
    rfl
  · have race : u.reg R.SYS_RACE = s.reg R.SYS_RACE :=
      (same.regs _ (by decide)).1.trans ((kept.regs _ (by decide)).1.trans (setMode_race .maint s))
    rw [lose, ← State.fld_of_reg race]
    exact State.fld_satInc_self u _ _ 1 (by decide)
  · rintro rfl
    exact startLoses_frond (reqShow_shows (by decide) (by decide) _)
  · rintro rfl permit0 free0
    obtain ⟨now, spore, hold⟩ := maintEntered_rest s
    exact startLoses_host ((permits_of_spore spore 0).trans permit0)
      ((heldOff_of_rest (hold 0 (by decide)) now).trans free0)

/-! #### The shutter (08 R260, R262) -/

/-- A port whose shutter a host request of `ports` asks for. -/
def ShutterNamed (ports : BitVec 4) (s : State) (n : Nat) : Prop :=
  n < 4 ∧ ports.getLsbD n = true ∧ s.bit (R.TP_IF_CFG n) F.TP_IF_CFG_ENABLE = true ∧ shutMode s n ≠ 0

/-- The ports that a host request asks for. -/
def shutterPorts (mask : Nat) (s : State) : List Nat :=
  (List.range 4).filter fun n => mask / 2 ^ n % 2 == 1 && s.bit (R.TP_IF_CFG n) F.TP_IF_CFG_ENABLE && shutMode s n != 0

theorem mem_shutterPorts (ports : BitVec 4) (s : State) (n : Nat) :
    n ∈ shutterPorts ports.toNat s ↔ ShutterNamed ports s n := by
  have bit : (ports.toNat / 2 ^ n % 2 == 1) = ports.getLsbD n := by
    rw [BitVec.getLsbD, Nat.testBit_eq_decide_div_mod_eq, beq_eq_decide]
  simp only [shutterPorts, ShutterNamed, List.mem_filter, List.mem_range, bit, Bool.and_eq_true, bne_iff_ne, and_assoc]

theorem shutterPorts_nodup (mask : Nat) (s : State) : (shutterPorts mask s).Nodup := List.nodup_range.filter _

/-- Every port of a list has its shutter asked for. -/
def shutRequests (l : List Nat) (s : State) : State := l.foldl (fun s n => shutRequest true n s) s

theorem reqShutter_none {mask : Nat} {s : State} (h : shutterPorts mask s = []) : reqShutter mask s = (s, 3) := if_pos h

theorem reqShutter_some {mask : Nat} {s : State} (h : shutterPorts mask s ≠ []) :
    reqShutter mask s = (shutRequests (shutterPorts mask s) s, 1) := if_neg h

/-- What a shutter request can touch of a port: its hidden state and its count of merged requests. -/
def shutView (n : Nat) (s : State) : TpSt × Nat := (s.tp n, s.fld (R.TP_SHUT_COUNT n) F.TP_SHUT_COUNT_MERGED)

/-- A port that has a host request pending. -/
def shutAsked (x : TpSt) : TpSt := { x with hostReq := true }

/-- A host request taken in by a port (08 R262). -/
def shutTaken (v : TpSt × Nat) : TpSt × Nat :=
  match v.1.ev with
  | some e => if e.phase = 5 then (shutAsked v.1, v.2) else (v.1, satAdd (2 ^ F.TP_SHUT_COUNT_MERGED.width - 1) v.2 1)
  | none => (shutAsked v.1, v.2)

theorem shutRequest_pending {n : Nat} {s : State} (h : ∀ e, (s.tp n).ev = some e → e.phase = 5) :
    shutRequest true n s = s.setTp n (shutAsked (s.tp n)) := by
  have asked : { s.tp n with hostReq := (s.tp n).hostReq || true, frondReq := (s.tp n).frondReq || !true } =
      shutAsked (s.tp n) := by
    rw [Bool.or_true, Bool.not_true, Bool.or_false]
    rfl
  unfold shutRequest
  dsimp only
  split
  · next e he => rw [if_pos (h e he), asked]
  · rw [asked]

theorem shutRequest_merged {n : Nat} {s : State} {e : ShutEv} (h : (s.tp n).ev = some e) (h5 : e.phase ≠ 5) :
    shutRequest true n s = s.satInc (R.TP_SHUT_COUNT n) F.TP_SHUT_COUNT_MERGED := by
  unfold shutRequest
  simp only [h, if_neg h5]

theorem shutTaken_pending {v : TpSt × Nat} (h : ∀ e, v.1.ev = some e → e.phase = 5) : shutTaken v = (shutAsked v.1, v.2) := by
  unfold shutTaken
  split
  · next e he => exact if_pos (h e he)
  · rfl

theorem shutTaken_merged {v : TpSt × Nat} {e : ShutEv} (h : v.1.ev = some e) (h5 : e.phase ≠ 5) :
    shutTaken v = (v.1, satAdd (2 ^ F.TP_SHUT_COUNT_MERGED.width - 1) v.2 1) := by
  unfold shutTaken
  simp only [h, if_neg h5]

/-- A shutter request becomes pending or is merged. -/
theorem shutRequest_cases (n : Nat) (s : State) : (∀ e, (s.tp n).ev = some e → e.phase = 5) ∨
    ∃ e, (s.tp n).ev = some e ∧ e.phase ≠ 5 := by
  by_cases h : ∀ e, (s.tp n).ev = some e → e.phase = 5
  · exact .inl h
  · push Not at h
    exact .inr h

theorem tp_satInc (s : State) (a : Nat) (f : Fld) (n : Nat) : (s.satInc a f).tp n = s.tp n := by
  rw [State.tp, State.satInc_tps]
  rfl

theorem tpShutCount_inj {n k : Nat} (h : k ≠ n) : R.TP_SHUT_COUNT k ≠ R.TP_SHUT_COUNT n := by
  simp only [R.TP_SHUT_COUNT]
  omega

theorem shutView_setTp (s : State) (n : Nat) (x : TpSt) : shutView n (s.setTp n x) = (x, (shutView n s).2) := by
  rw [shutView, State.tp_setTp_self]
  rfl

theorem shutView_setTp_ne (s : State) {n k : Nat} (x : TpSt) (h : k ≠ n) : shutView k (s.setTp n x) = shutView k s := by
  rw [shutView, State.tp_setTp, if_neg h]
  rfl

theorem shutRequest_view (n : Nat) (s : State) : shutView n (shutRequest true n s) = shutTaken (shutView n s) := by
  rcases shutRequest_cases n s with h | ⟨e, he, h5⟩
  · rw [shutRequest_pending h, shutTaken_pending (v := shutView n s) h]
    exact shutView_setTp ..
  · rw [shutRequest_merged he h5, shutTaken_merged (v := shutView n s) he h5]
    exact Prod.ext (tp_satInc ..) (State.fld_satInc_self _ _ _ _ (by decide))

theorem shutRequest_view_ne (s : State) {n k : Nat} (h : k ≠ n) : shutView k (shutRequest true n s) = shutView k s := by
  rcases shutRequest_cases n s with hp | ⟨e, he, h5⟩
  · rw [shutRequest_pending hp]
    exact shutView_setTp_ne _ _ h
  · rw [shutRequest_merged he h5]
    exact Prod.ext (tp_satInc ..) (State.fld_of_reg (State.reg_satInc_ne _ _ _ (tpShutCount_inj h)) _)

theorem shutRequests_view_apart {n : Nat} {l : List Nat} (h : n ∉ l) (s : State) :
    shutView n (shutRequests l s) = shutView n s := by
  unfold shutRequests
  induction l generalizing s with
  | nil => rfl
  | cons k l ih =>
    obtain ⟨hk, hl⟩ := not_or.mp (mt List.mem_cons.mpr h)
    exact (ih hl _).trans (shutRequest_view_ne s hk)

theorem shutRequests_view_mem {n : Nat} {l : List Nat} (d : l.Nodup) (h : n ∈ l) (s : State) :
    shutView n (shutRequests l s) = shutTaken (shutView n s) := by
  induction l generalizing s with
  | nil => exact absurd h List.not_mem_nil
  | cons k l ih =>
    obtain ⟨hk, hl⟩ := List.nodup_cons.mp d
    rcases List.mem_cons.mp h with rfl | hn
    · exact (shutRequests_view_apart hk _).trans (shutRequest_view n s)
    · have apart : n ≠ k := fun e => hk (e ▸ hn)
      exact (ih hl hn _).trans (congrArg shutTaken (shutRequest_view_ne s apart))

theorem shutRequest_rest (n : Nat) (s : State) :
    SameMem s (shutRequest true n s) ∧ (shutRequest true n s).boot.spore = s.boot.spore := by
  rcases shutRequest_cases n s with h | ⟨e, he, h5⟩
  · rw [shutRequest_pending h]
    exact ⟨.of_eq rfl rfl, rfl⟩
  · rw [shutRequest_merged he h5]
    have kept := (Bookkeeps.refl s).satInc (R.TP_SHUT_COUNT n) F.TP_SHUT_COUNT_MERGED 1
    exact ⟨kept.sameMem, congrArg BootSt.spore kept.boot⟩

theorem shutRequests_rest (l : List Nat) (s : State) :
    SameMem s (shutRequests l s) ∧ (shutRequests l s).boot.spore = s.boot.spore := by
  unfold shutRequests
  induction l generalizing s with
  | nil => exact ⟨.refl s, rfl⟩
  | cons n l ih =>
    obtain ⟨mem, spore⟩ := shutRequest_rest n s
    obtain ⟨mem', spore'⟩ := ih (shutRequest true n s)
    exact ⟨mem.trans mem', spore'.trans spore⟩

theorem ReqShown.shutView {u t : State} (h : ReqShown u t) {n : Nat} (hn : n < 4) : shutView n t = shutView n u := by
  have count : t.reg (R.TP_SHUT_COUNT n) = u.reg (R.TP_SHUT_COUNT n) :=
    (h.regs _ (by simp only [R.TP_SHUT_COUNT, R.REQ_STATUS, R.SYS_RACE]; omega)).1
  exact Prod.ext (congrArg (Sparse.get (fun _ => ({} : TpSt)) · n) h.tps) (State.fld_of_reg count _)

/-- What a shutter request leaves of the ports, whether it names them or not. -/
def ShuttersAsked (ports : BitVec 4) (s t : State) : Prop := ∀ n, n < 4 →
  (¬ ShutterNamed ports s n → t.tp n = s.tp n) ∧
  (ShutterNamed ports s n → (s.tp n).ev = none → t.tp n = { s.tp n with hostReq := true }) ∧
  ∀ e, ShutterNamed ports s n → (s.tp n).ev = some e → e.phase ≠ 5 → t.tp n = s.tp n ∧
    t.fld (R.TP_SHUT_COUNT n) F.TP_SHUT_COUNT_MERGED = satAdd (2 ^ F.TP_SHUT_COUNT_MERGED.width - 1)
      (s.fld (R.TP_SHUT_COUNT n) F.TP_SHUT_COUNT_MERGED) 1

theorem shuttersAsked_of_shown {ports : BitVec 4} {s t : State}
    (h : ReqShown (shutRequests (shutterPorts ports.toNat s) s) t) : ShuttersAsked ports s t := by
  intro n hn
  have named : ShutterNamed ports s n → shutView n t = shutTaken (shutView n s) := fun hp =>
    (h.shutView hn).trans (shutRequests_view_mem (shutterPorts_nodup ..) ((mem_shutterPorts ..).mpr hp) s)
  refine ⟨fun hp => ?_, fun hp he => ?_, fun e hp he h5 => ?_⟩
  · exact congrArg Prod.fst ((h.shutView hn).trans (shutRequests_view_apart (fun hm => hp ((mem_shutterPorts ..).mp hm)) s))
  · have idle : ∀ e, (shutView n s).1.ev = some e → e.phase = 5 := fun e h => nomatch he.symm.trans h
    exact congrArg Prod.fst ((named hp).trans (shutTaken_pending idle))
  · exact Prod.mk.inj ((named hp).trans (shutTaken_merged (v := shutView n s) he h5))

theorem reqShutter_taken {s : State} (hw : s.working = true) (hr : hostReaches s = true) (ports : BitVec 4) :
    HostTaken (.reqShutter ports) 1 1 s (∀ n, ¬ ShutterNamed ports s n) (fun t r => r = 3 ∧ t.tps = s.tps ∧ SameMem s t) ∧
    HostTaken (.reqShutter ports) 1 1 s (∃ n, ShutterNamed ports s n)
      (fun t r => r = 1 ∧ SameMem s t ∧ ShuttersAsked ports s t) := by
  have row := execReqShutter_eq hw hr ports
  obtain ⟨mem, spore⟩ := shutRequests_rest (shutterPorts ports.toNat s) s
  refine ⟨hostTaken_of_answer (by decide) row fun h =>
      ⟨s, 3, reqShutter_none ?_, by decide, rfl, fun t ht => ⟨rfl, ht.tps, ht.mem⟩⟩,
    hostTaken_of_answer (by decide) row fun ⟨n, hn⟩ =>
      ⟨_, 1, reqShutter_some ?_, by decide, spore, fun t ht => ⟨rfl, mem.trans ht.mem, shuttersAsked_of_shown ht⟩⟩⟩
  · exact List.eq_nil_iff_forall_not_mem.mpr fun n hm => h n ((mem_shutterPorts ..).mp hm)
  · exact List.ne_nil_of_mem ((mem_shutterPorts ..).mpr hn)

/-! #### Requests that firmware answers -/

theorem ReqShown.fwReq {u t : State} (h : ReqShown u t) (f : Fld) : t.fld R.HOST_FW_REQ f = u.fld R.HOST_FW_REQ f :=
  State.fld_of_reg (h.regs _ (by decide)).1 f

theorem fld_raise_fwReq (s : State) (e : Nat) (f : Fld) : (s.raise e).fld R.HOST_FW_REQ f = s.fld R.HOST_FW_REQ f :=
  State.fld_of_reg (State.reg_raise s e (by decide)) f

theorem reqPacking_taken {s : State} (hw : s.working = true) (hr : hostReaches s = true) (stream : Fin 16) (v : BitVec 8) :
    HostTaken (.reqPacking stream v) 2 4 s True (fun t r => r = 2 ∧ RequestTold s 450 t ∧ SameMem s t ∧
      t.fld R.HOST_FW_REQ F.HOST_FW_REQ_PACK_STREAM = stream.val ∧ t.fld R.HOST_FW_REQ F.HOST_FW_REQ_PACK_VALUE = v.toNat ∧
      t.fld R.HOST_FW_REQ F.HOST_FW_REQ_CAL_CODE = s.fld R.HOST_FW_REQ F.HOST_FW_REQ_CAL_CODE) := by
  refine hostTaken_of_answer (by decide) (execReqPacking_eq hw hr stream v) fun _ => ⟨_, 2, rfl, by decide, ?_, fun t ht => ?_⟩
  · exact (State.raise_spore ..).trans rfl
  · have kept := (((Bookkeeps.refl s).setFld R.HOST_FW_REQ F.HOST_FW_REQ_PACK_STREAM stream).setFld R.HOST_FW_REQ
      F.HOST_FW_REQ_PACK_VALUE v.toNat).raise 450
    refine ⟨rfl, ht.told (by decide) (by decide) ?_, kept.sameMem.trans ht.mem, ?_, ?_, ?_⟩
    · rw [State.reg_setFld_ne _ _ _ (by decide), State.reg_setFld_ne _ _ _ (by decide)]
    · rw [ht.fwReq, fld_raise_fwReq, State.fld_setFld_apart _ _ _ _ _ (by decide) (by decide),
        State.fld_setFld_self _ _ _ _ (by decide)]
      exact Nat.mod_eq_of_lt stream.isLt
    · rw [ht.fwReq, fld_raise_fwReq, State.fld_setFld_self _ _ _ _ (by decide)]
      exact Nat.mod_eq_of_lt v.isLt
    · rw [ht.fwReq, fld_raise_fwReq, State.fld_setFld_apart _ _ _ _ _ (by decide) (by decide),
        State.fld_setFld_apart _ _ _ _ _ (by decide) (by decide)]

theorem reqCal_taken {s : State} (hw : s.working = true) (hr : hostReaches s = true) (code : BitVec 16) :
    HostTaken (.reqCal code) 3 5 s True (fun t r => r = 2 ∧ RequestTold s 449 t ∧ SameMem s t ∧
      t.fld R.HOST_FW_REQ F.HOST_FW_REQ_CAL_CODE = code.toNat ∧
      t.fld R.HOST_FW_REQ F.HOST_FW_REQ_PACK_STREAM = s.fld R.HOST_FW_REQ F.HOST_FW_REQ_PACK_STREAM) := by
  refine hostTaken_of_answer (by decide) (execReqCal_eq hw hr code) fun _ => ⟨_, 2, rfl, by decide, ?_, fun t ht => ?_⟩
  · exact (State.raise_spore ..).trans rfl
  · have kept := ((Bookkeeps.refl s).setFld R.HOST_FW_REQ F.HOST_FW_REQ_CAL_CODE code.toNat).raise 449
    refine ⟨rfl, ht.told (by decide) (by decide) ?_, kept.sameMem.trans ht.mem, ?_, ?_⟩
    · rw [State.reg_setFld_ne _ _ _ (by decide)]
    · rw [ht.fwReq, fld_raise_fwReq, State.fld_setFld_self _ _ _ _ (by decide)]
      exact Nat.mod_eq_of_lt code.isLt
    · rw [ht.fwReq, fld_raise_fwReq, State.fld_setFld_apart _ _ _ _ _ (by decide) (by decide)]

/-! #### The end of a hold-off (02 R57) -/

theorem hostReqHoldoffEnd_none {s : State} (hw : s.working = true) {k : Fin 5}
    (h : Sparse.find s.boot.holdoff k.val = none) : exec (.hostReqHoldoffEnd k) s = .next s := by
  refine next_eq ((State.whenWorking_true hw _).trans ?_)
  rw [h]

theorem hostReqHoldoffEnd_ends {s : State} (hw : s.working = true) {k : Fin 5} {t0 : Nat}
    (h : Sparse.find s.boot.holdoff k.val = some t0) : Completes (.hostReqHoldoffEnd k) s fun t =>
      t.now = max s.now t0 ∧ Sparse.find t.boot.holdoff k.val = none ∧ SameMem s t ∧
      ∀ j, j ≠ k.val → Sparse.find t.boot.holdoff j = Sparse.find s.boot.holdoff j := by
  have row : exec (.hostReqHoldoffEnd k) s =
      .next { s.reach t0 with boot := { (s.reach t0).boot with holdoff := Sparse.erase s.boot.holdoff k.val } } := by
    refine next_eq ((State.whenWorking_true hw _).trans ?_)
    rw [h]
    rfl
  exact ⟨_, row, rfl, Sparse.find_erase_self .., .of_eq rfl rfl, fun j hj => Sparse.find_erase_ne _ hj⟩

theorem hostGates {s : State} (hw : s.working = true) (hr : hostReaches s = true) (lost : Bool) (ports : BitVec 4)
    (stream : Fin 16) (v : BitVec 8) (code : BitVec 16) :
    HostGate (.reqRunStart lost) 0 0 s ∧ HostGate (.reqRunStop lost) 0 0 s ∧ HostGate (.reqShutter ports) 1 1 s ∧
      HostGate (.reqPacking stream v) 2 4 s ∧ HostGate (.reqCal code) 3 5 s ∧
      (∀ m, HostGate (.reqMaintEnter m) 4 6 s) ∧ HostGate (.reqMaintExit lost) 4 6 s :=
  ⟨hostGate_of_row (by decide) fun _ => execReqRunStart_eq hw hr lost,
    hostGate_of_row (by decide) fun _ => execReqRunStop_eq hw hr lost,
    hostGate_of_row (by decide) fun _ => execReqShutter_eq hw hr ports,
    hostGate_of_row (by decide) fun _ => execReqPacking_eq hw hr stream v,
    hostGate_of_row (by decide) fun _ => execReqCal_eq hw hr code,
    fun _ => hostGate_of_row (by decide) fun h => execReqMaintEnter_still hw hr (.inr h),
    hostGate_of_row (by decide) fun _ => execReqMaintExit_eq hw hr lost⟩

/-- Settles O55: every row of the request page asks `hostRequest`, which denies, holds off or takes it. -/
theorem hostRequests : Obligations.HostRequests := by
  intro s hw q told shows still off gate taken rec busy gates runs maint shutters firmware ends
  refine ⟨fun hr => ⟨hostGates hw hr, fun lost => ?_, fun lost => ⟨?_, ?_, ?_⟩, reqShutter_taken hw hr, fun stream v code =>
    ⟨reqPacking_taken hw hr stream v, reqCal_taken hw hr code⟩⟩, fun k => ⟨hostReqHoldoffEnd_none hw, fun t0 h => ?_⟩⟩
  · obtain ⟨recovers, isBusy, begins⟩ := reqRunStart_taken hw hr lost
    obtain ⟨idle, stops⟩ := reqRunStop_taken hw hr lost
    exact ⟨recovers, isBusy, begins, idle, stops⟩
  · exact reqMode_taken (execReqMaintEnter_still hw hr (.inl rfl)) (reqMaint_enter s)
  · exact reqMode_taken (execReqMaintExit_eq hw hr lost) (reqMaint_exit s)
  · exact fun permit free hs ha m hm => reqMaintEnter_beats hw hr permit free hs ha hm
  · exact hostReqHoldoffEnd_ends hw h

/-! ### Records on their way: the queue of a source and the frond taps (01 R23, 11 R371, R373) -/

/-- The address of a frond's register. -/
def FrondReg (a : Nat) : Prop := 0x5004000000 ≤ a ∧ a < 0x5008000000

/-- What copying headers to frond queues touches: the queues, and registers of the fronds. -/
structure TapsFed (s t : State) : Prop where
  rest : t = { s with regs := t.regs, queues := t.queues }
  regs : SameRegs s t FrondReg

theorem TapsFed.refl (s : State) : TapsFed s s := ⟨rfl, .refl s _⟩

theorem TapsFed.trans {s t u : State} (h : TapsFed s t) (k : TapsFed t u) : TapsFed s u := by
  refine ⟨?_, h.regs.trans k.regs⟩
  rw [k.rest, h.rest]

theorem TapsFed.setFld {s t : State} (h : TapsFed s t) {a : Nat} (f : Fld) (v : Nat) (ha : FrondReg a) :
    TapsFed s (t.setFld a f v) := h.trans ⟨rfl, (SameRegs.refl t _).setFld ha⟩

theorem TapsFed.setBit {s t : State} (h : TapsFed s t) {a : Nat} (f : Fld) (v : Bool) (ha : FrondReg a) :
    TapsFed s (t.setBit a f v) := h.trans ⟨rfl, (SameRegs.refl t _).setBit ha⟩

theorem frondReg_line {f : Nat} (h : f < 64) : FrondReg (R.FRD_EVT_PEND_LO f) ∧ FrondReg (R.FRD_EVT_PEND_HI f) := by
  simp only [FrondReg, R.FRD_EVT_PEND_LO, R.FRD_EVT_PEND_HI]
  omega

theorem frondReg_queue {f k : Nat} (h : f < 64) (hk : k < 8) : FrondReg (R.FRD_Q_STATUS f k) := by
  simp only [FrondReg, R.FRD_Q_STATUS]
  omega

theorem State.setLine_taps {f : Nat} (h : f < 64) (l : Nat) (s : State) : TapsFed s (s.setLine f l) := by
  unfold State.setLine
  split
  · exact (TapsFed.refl s).setBit _ _ (frondReg_line h).1
  · exact (TapsFed.refl s).setBit _ _ (frondReg_line h).2

theorem State.setQueueEntries_taps {f k : Nat} (h : f < 64) (hk : k < 8) (l : List QEntry) (s : State) :
    TapsFed s (s.setQueueEntries f k l) := by
  unfold State.setQueueEntries
  extract_lets old a b out
  have stored : TapsFed s a := ⟨rfl, .of_eq rfl rfl⟩
  have counted : TapsFed s b := stored.setFld _ _ (frondReg_queue h hk)
  exact State.cond_induct (p := TapsFed s) counted fun _ => counted.trans (State.setLine_taps h _ b)

theorem queuePeer_lt (s : State) (f k : Nat) : queuePeer s f k < 64 := Word.get_lt _ _

theorem queuePeerQ_lt (s : State) (f k : Nat) : queuePeerQ s f k < 8 := Word.get_lt _ _

theorem queueFlow_taps {f k : Nat} (h : f < 64) (hk : k < 8) (s : State) : TapsFed s (queueFlow s f k) := by
  unfold queueFlow
  split
  · extract_lets p q room src
    split
    · exact .refl s
    · exact (State.setQueueEntries_taps (queuePeer_lt s f k) (queuePeerQ_lt s f k) _ s).trans
        (State.setQueueEntries_taps h hk _ _)
  · exact .refl s

theorem tapTo_taps (src : Nat) (header : List Byte) (s : State) {q : Nat × Nat} (h : q.1 < 64) (hk : q.2 < 8) :
    TapsFed s (tapTo src header s q) := by
  unfold tapTo
  split
  · split
    · exact (State.setQueueEntries_taps h hk _ s).trans (queueFlow_taps h hk _)
    · exact (TapsFed.refl s).setFld _ _ (frondReg_queue h hk)
  · exact .refl s

theorem allQueues_lt {q : Nat × Nat} (h : q ∈ allQueues) : q.1 < 64 ∧ q.2 < 8 := by
  simp only [allQueues, List.mem_flatMap, List.mem_map, List.mem_range] at h
  obtain ⟨f, hf, k, hk, rfl⟩ := h
  exact ⟨hf, hk⟩

theorem taps_foldl (src : Nat) (header : List Byte) {l : List (Nat × Nat)} (h : ∀ q ∈ l, q.1 < 64 ∧ q.2 < 8) (s : State) :
    TapsFed s (l.foldl (tapTo src header) s) := by
  induction l generalizing s with
  | nil => exact .refl s
  | cons q l ih =>
    obtain ⟨hf, hk⟩ := h q (List.mem_cons_self ..)
    exact (tapTo_taps src header s hf hk).trans (ih (fun q hq => h q (List.mem_cons_of_mem _ hq)) _)

/-- A record that a port emits joins the queue of its source, and else feeds only the taps. -/
theorem State.portEmit_taps (s : State) (r : Rec) : TapsFed (s.pushRec r) (s.portEmit r) :=
  taps_foldl r.src _ (fun _ => allQueues_lt) _

theorem TapsFed.queueOf {s t : State} (h : TapsFed s t) (n : Nat) : t.queueOf n = s.queueOf n :=
  (congrArg (fun u : State => u.queueOf n) h.rest).trans rfl

theorem TapsFed.imgSt {s t : State} (h : TapsFed s t) (n : Nat) : t.imgSt n = s.imgSt n :=
  (congrArg (fun u : State => u.imgSt n) h.rest).trans rfl

theorem TapsFed.evPend {s t : State} (h : TapsFed s t) : t.evPend = s.evPend := (congrArg State.evPend h.rest).trans rfl

theorem State.portEmit_queueOf (s : State) (r : Rec) : (s.portEmit r).queueOf r.src = s.queueOf r.src ++ [r] :=
  ((State.portEmit_taps s r).queueOf r.src).trans (State.queueOf_setQueue_self ..)

theorem State.portEmit_imgSt (s : State) (r : Rec) (n : Nat) : (s.portEmit r).imgSt n = s.imgSt n :=
  (State.portEmit_taps s r).imgSt n

theorem State.portEmit_reg (s : State) (r : Rec) {a : Nat} (h : ¬ FrondReg a) : (s.portEmit r).reg a = s.reg a :=
  ((State.portEmit_taps s r).regs a h).1

/-- An event that its route sends anywhere is pending once it is raised, whatever its source. -/
theorem State.mem_evPend_raise_route {s : State} {e : Nat} (hu : e < 188) (h : s.reg (R.EVT_ROUTE e) ≠ 0) :
    e ∈ (s.raise e).evPend := by
  have hr : ¬ ((188 ≤ e ∧ e ≤ 191) ∨ 1024 ≤ e ∨ s.reg (R.EVT_ROUTE e) = 0) := by
    rintro (⟨hv, -⟩ | hv | hv)
    · omega
    · omega
    · exact h hv
  unfold State.raise
  rw [if_neg hr]
  split
  · next hm => rwa [State.setFld_evPend, State.satInc_evPend]
  · exact NatSet.mem_insert.mpr (.inl rfl)

/-! ### CaptureRecords: LINE and SWATH records (04 R154, 05 R178, R180, R186) -/

/-! #### Decisions that wait -/

theorem decideOn_empty {n : Nat} {s : State} (h : (s.imgSt n).swaths = []) (m : Nat) : decideOn n m s = s := by
  cases m with
  | zero => rfl
  | succ m => simp only [decideOn, h]

/-- Nothing is decided where no consumed target is left. -/
theorem decideOn_none {n : Nat} {s : State} {w : Swath} {ws : List Swath} (h : (s.imgSt n).swaths = w :: ws)
    (ht : w.taps[w.decided]? = none) (m : Nat) : decideOn n m s = s := by
  cases m with
  | zero => rfl
  | succ m => simp only [decideOn, h, ht]

/-- Nothing is decided past an output that waits for its LINE record. -/
theorem decideOn_output {n : Nat} {s : State} {w : Swath} {ws : List Swath} {x : Tap} {o : List (List Nat) × Nat × Bool}
    (h : (s.imgSt n).swaths = w :: ws) (ht : w.taps[w.decided]? = some x) (hx : x.status = .filled)
    (ho : outputOf s n w x = some (some o)) (m : Nat) : decideOn n m s = s := by
  cases m with
  | zero => rfl
  | succ m => simp only [decideOn, h, ht, hx, ho]

/-- The only consumed target passed, none is left. -/
theorem Swath.pass_none {w : Swath} (h : w.taps.length = w.decided + 1) : w.pass.taps[w.pass.decided]? = none := by
  unfold Swath.pass
  split
  · exact List.getElem?_eq_none (show (w.taps.drop 1).length ≤ w.decided by rw [List.length_drop]; omega)
  · exact List.getElem?_eq_none (show w.taps.length ≤ w.decided + 1 by omega)

theorem setFrontSwath_swaths {s : State} {n : Nat} {w : Swath} (h : (s.imgSt n).swaths = [w]) (v : Swath) :
    ((setFrontSwath s n v).imgSt n).swaths = [v] := by
  unfold setFrontSwath
  rw [State.imgSt_setImg_self, h]
  rfl

theorem setFrontSwath_queueOf (s : State) (n : Nat) (v : Swath) (k : Nat) :
    (setFrontSwath s n v).queueOf k = s.queueOf k := rfl

theorem setFrontSwath_reg (s : State) (n : Nat) (v : Swath) (a : Nat) : (setFrontSwath s n v).reg a = s.reg a := rfl

/-! #### The records -/

/-- An open gap leaves as one record, and touches nothing else of its port. -/
theorem emitGap_leaves (s : State) (n : Nat) (w : Swath) :
    (∃ pre, (emitGap s n w).queueOf n = s.queueOf n ++ pre ∧ pre.length = if w.gap.isSome then 1 else 0) ∧
    (emitGap s n w).imgSt n = s.imgSt n ∧ ∀ a, ¬ FrondReg a → (emitGap s n w).reg a = s.reg a := by
  unfold emitGap
  cases w.gap with
  | none => exact ⟨⟨[], (List.append_nil _).symm, rfl⟩, rfl, fun _ _ => rfl⟩
  | some g => exact ⟨⟨[_], State.portEmit_queueOf s _, rfl⟩, State.portEmit_imgSt s _ n, fun a ha => State.portEmit_reg s _ ha⟩

/-- What the flags and counts of a line leave: the records that wait, and the port's swaths. -/
structure LineCounted (n : Nat) (s t : State) : Prop where
  recQ : t.recQ = s.recQ
  swaths : (t.imgSt n).swaths = (s.imgSt n).swaths

theorem LineCounted.satInc {n : Nat} {s t : State} (h : LineCounted n s t) (a : Nat) (f : Fld) :
    LineCounted n s (t.satInc a f) := ⟨h.recQ, h.swaths⟩

theorem LineCounted.flag {n : Nat} {s t : State} (h : LineCounted n s t) (a : Nat) (f : Fld) :
    LineCounted n s (t.flag a f) := ⟨h.recQ, h.swaths⟩

theorem LineCounted.setImg {n : Nat} {s t : State} (h : LineCounted n s t) {x : ImgSt}
    (hx : x.swaths = (t.imgSt n).swaths) : LineCounted n s (t.setImg n x) :=
  ⟨h.recQ, by rw [State.imgSt_setImg_self, hx, h.swaths]⟩

theorem LineCounted.raise {n : Nat} {s t : State} (h : LineCounted n s t) (e : Nat) : LineCounted n s (t.raise e) := by
  have kept := (Bookkeeps.refl t).raise e
  exact ⟨(congrArg State.recQ kept).trans h.recQ,
    (congrArg (fun u : State => (u.imgSt n).swaths) kept).trans h.swaths⟩

theorem hasFlag_setFlag_self (w b : Nat) : hasFlag (setFlag w b true) b = true := by
  have bit : (w ||| 2 ^ b).testBit b = true := by rw [Nat.testBit_or, Nat.testBit_two_pow_self, Bool.or_true]
  rw [Nat.testBit_eq_decide_div_mod_eq, decide_eq_true_eq] at bit
  rw [hasFlag, setFlag, if_pos rfl, bit]
  rfl

theorem hasFlag_setFlag_mono {w b : Nat} (h : hasFlag w b = true) (k : Nat) (c : Bool) : hasFlag (setFlag w k c) b = true := by
  cases c
  · exact h
  · have bit : w.testBit b = true := by
      rw [Nat.testBit_eq_decide_div_mod_eq, decide_eq_true_eq]
      exact eq_of_beq h
    have both : (w ||| 2 ^ k).testBit b = true := by rw [Nat.testBit_or, bit, Bool.true_or]
    rw [Nat.testBit_eq_decide_div_mod_eq, decide_eq_true_eq] at both
    rw [hasFlag, setFlag, if_pos rfl, both]
    rfl

/-- The LINE record of a decided output (04 R154). -/
structure LineRec (n : Nat) (w : Swath) (x : Tap) (ln : Line) (pix : List (List Nat)) (r : Rec) : Prop where
  typ : r.typ = 1
  src : r.src = n
  pos : r.pos = x.x
  time : r.time = ln.time
  speed : r.speed = ln.speed
  missed : r.missed = ln.missed
  first : w.lines = 0 → hasFlag r.flags 14 = true
  payload : r.payload = pix.flatten.flatMap (bytesLE 2)

/-- Where the FIFO has room, a decided output leaves its LINE record behind the GAP record. -/
theorem emitLine_leaves {s : State} {n : Nat} {w : Swath} (h : (s.imgSt n).swaths = [w]) (x : Tap) (ln : Line)
    {pix : List (List Nat)} (fl : Nat) (br : Bool) (room : fifoRoom s n (2 * (pix.map (·.length)).sum) = true) :
    ∃ r, LineRec n w x ln pix r ∧ (emitLine s n w x ln pix fl br).queueOf n = (emitGap s n w).queueOf n ++ [r] ∧
      ((emitLine s n w x ln pix fl br).imgSt n).swaths = [({ w with gap := none, lines := w.lines + 1 } : Swath).pass] := by
  unfold emitLine
  extract_lets len a g st changed s1 f s2 s3 s4 tail s5
  rw [if_neg (by rw [room]; decide)]
  have c1 : LineCounted n g s1 := LineCounted.setImg (s := g) ⟨rfl, rfl⟩ rfl
  have c2 : LineCounted n g s2 := State.cond_induct (p := LineCounted n g) c1 fun _ => c1.satInc ..
  have c3 : LineCounted n g s3 := State.cond_induct (p := LineCounted n g) c2 fun _ => by
    dsimp only
    split
    · exact (c2.flag ..).satInc ..
    · refine (LineCounted.setImg ((c2.flag ..).satInc ..) ?_).raise _
      rfl
  have c4 : LineCounted n g s4 := State.cond_induct (p := LineCounted n g) c3 fun _ => (c3.flag ..).satInc ..
  have gap := (emitGap_leaves s n w).2.1
  have front : (s5.imgSt n).swaths = [w] := by
    rw [State.portEmit_imgSt, c4.swaths, gap, h]
  have queue : s4.queueOf n = g.queueOf n := congrArg (Sparse.get (fun _ => ([] : List Rec)) · n) c4.recQ
  refine ⟨{ typ := 1, src := n, pos := x.x, time := ln.time, flags := f, speed := ln.speed, missed := ln.missed, tail := tail,
            payload := pix.flatten.flatMap (bytesLE 2) }, ⟨rfl, rfl, rfl, rfl, rfl, rfl, fun first => ?_, rfl⟩,
    (setFrontSwath_queueOf ..).trans ((State.portEmit_queueOf s4 _).trans (by rw [queue])), setFrontSwath_swaths front _⟩
  refine hasFlag_setFlag_mono ?_ 6 changed
  rw [show (w.lines == 0) = true by rw [first]; rfl]
  exact hasFlag_setFlag_self ..

/-- A line dropped where the FIFO is full: it opens a gap. -/
def lineLost (n : Nat) (w : Swath) (x : Tap) (s : State) : State :=
  setFrontSwath (s.flagEvent (R.IMG_STATUS n) F.IMG_STATUS_FIFO_OVF (Ev.img n 5)) n
    ({ w with gap := some ⟨6, x.x, x.time, x.x, 1⟩ } : Swath).pass

/-- Where the FIFO has no room, a decided output leaves no record, and FIFO_OVF is set. -/
theorem emitLine_drops {s : State} {n : Nat} {w : Swath} (hg : w.gap = none) (x : Tap)
    (ln : Line) {pix : List (List Nat)} (fl : Nat) (br : Bool) (room : fifoRoom s n (2 * (pix.map (·.length)).sum) = false) :
    emitLine s n w x ln pix fl br = lineLost n w x s := by
  unfold emitLine accountTap
  simp only [room, hg, Bool.not_false, if_true]
  rfl

theorem State.flagEvent_bookkeeps (s : State) (a : Nat) (f : Fld) (e : Nat) : Bookkeeps s (s.flagEvent a f e) := by
  unfold State.flagEvent
  split
  · exact .refl s
  · exact ((Bookkeeps.refl s).setFld ..).raise e

theorem Bookkeeps.imgSt {s t : State} (h : Bookkeeps s t) (n : Nat) : t.imgSt n = s.imgSt n :=
  (congrArg (fun u : State => u.imgSt n) h).trans rfl

theorem Bookkeeps.queueOf {s t : State} (h : Bookkeeps s t) (n : Nat) : t.queueOf n = s.queueOf n :=
  (congrArg (fun u : State => u.queueOf n) h).trans rfl

/-- A flag that raises its event is set then, whether or not it was before. -/
theorem State.bit_flagEvent (s : State) {a : Nat} {f : Fld} (e : Nat) (hf : f.width = 1) (hl : f.lo < 32)
    (h : a ≠ R.EVT_LOST) : (s.flagEvent a f e).bit a f = true := by
  obtain ⟨lo, width⟩ := f
  cases hf
  unfold State.flagEvent
  split
  · next hb => exact hb
  · exact (State.bit_of_reg (State.reg_raise _ e h) _).trans (State.bit_setBit_self s a lo true hl)

/-! #### The commands -/

/-- The only target of a port's only swath that is not decided, filled and in its place, with its output. -/
structure OutputNext (s : State) (n : Nat) (w : Swath) (x : Tap) (ln : Line) (pix : List (List Nat)) (fl : Nat)
    (br : Bool) : Prop where
  swaths : (s.imgSt n).swaths = [w]
  next : w.taps[w.decided]? = some x
  last : w.taps.length = w.decided + 1
  filled : x.status = .filled
  line : x.line = some ln
  place : ln.place.isSome = true
  output : outputOf s n w x = some (some (pix, fl, br))

theorem lineComplete_eq {s : State} {n : Nat} {w : Swath} {x : Tap} {ln : Line} {pix : List (List Nat)} {fl : Nat} {br : Bool}
    (h : OutputNext s n w x ln pix fl br) : lineComplete n s = decide_ (emitLine s n w x ln pix fl br) n := by
  have decided : decide_ s n = s := decideOn_output h.swaths h.next h.filled h.output _
  have placed : ln.place.isNone = false := by
    rw [← Option.not_isSome, h.place]
    rfl
  unfold lineComplete
  simp only [decided, h.swaths, h.next, h.filled, h.line, placed, h.output, Bool.false_eq_true, if_false]

/-- The last target passed, a swath has no decision left. -/
theorem decide_passed {s : State} {n : Nat} {v : Swath} (h : (s.imgSt n).swaths = [v.pass])
    (hv : v.taps.length = v.decided + 1) : decide_ s n = s := decideOn_none h (Swath.pass_none hv) _

/-- A record behind the GAP record of an open gap, and those before. -/
def RecordBehind (n : Nat) (w : Swath) (s t : State) (r : Rec) : Prop :=
  ∃ pre, t.queueOf n = s.queueOf n ++ pre ++ [r] ∧ pre.length = (if w.gap.isSome then 1 else 0)

theorem RecordBehind.of_gap {n : Nat} {w : Swath} {s t : State} {r : Rec}
    (h : t.queueOf n = (emitGap s n w).queueOf n ++ [r]) : RecordBehind n w s t r := by
  obtain ⟨pre, queue, len⟩ := (emitGap_leaves s n w).1
  exact ⟨pre, by rw [h, queue], len⟩

theorem lineRecordComplete_leaves {s : State} (hw : s.working = true) {n : Fin 10} {w : Swath} {x : Tap} {ln : Line}
    {pix : List (List Nat)} {fl : Nat} {br : Bool} (h : OutputNext s n w x ln pix fl br)
    (room : fifoRoom s n (2 * (pix.map (·.length)).sum) = true) :
    Completes (.lineRecordComplete n) s fun t => ∃ r, RecordBehind n w s t r ∧ LineRec n w x ln pix r := by
  obtain ⟨r, record, queue, swaths⟩ := emitLine_leaves h.swaths x ln fl br room
  refine ⟨_, next_eq ((State.whenWorking_true hw _).trans ((lineComplete_eq h).trans ?_)), r, .of_gap queue, record⟩
  exact decide_passed swaths h.last

theorem lineRecordComplete_drops {s : State} (hw : s.working = true) {n : Fin 10} {w : Swath} {x : Tap} {ln : Line}
    {pix : List (List Nat)} {fl : Nat} {br : Bool} (h : OutputNext s n w x ln pix fl br)
    (room : fifoRoom s n (2 * (pix.map (·.length)).sum) = false) (hg : w.gap = none) :
    Completes (.lineRecordComplete n) s fun t =>
      t.queueOf n = s.queueOf n ∧ t.bit (R.IMG_STATUS n) F.IMG_STATUS_FIFO_OVF = true := by
  have kept := s.flagEvent_bookkeeps (R.IMG_STATUS n) F.IMG_STATUS_FIFO_OVF (Ev.img n 5)
  have apart : R.IMG_STATUS n ≠ R.EVT_LOST := by
    have := n.isLt
    simp only [R.IMG_STATUS, R.EVT_LOST]
    omega
  have front := setFrontSwath_swaths ((congrArg ImgSt.swaths (kept.imgSt n)).trans h.swaths)
    ({ w with gap := some ⟨6, x.x, x.time, x.x, 1⟩ } : Swath).pass
  have row : exec (.lineRecordComplete n) s = .next (lineLost n w x s) := by
    refine next_eq ((State.whenWorking_true hw _).trans ((lineComplete_eq h).trans ?_))
    rw [emitLine_drops hg x ln fl br room]
    exact decide_passed front h.last
  exact ⟨_, row, (setFrontSwath_queueOf ..).trans (kept.queueOf n),
    (State.bit_of_reg (setFrontSwath_reg ..) _).trans (State.bit_flagEvent s _ rfl (by decide) apart)⟩

/-! #### The end of a swath -/

theorem linesComplete_none {n : Nat} {s : State} {w : Swath} (h : (s.imgSt n).swaths = [w])
    (ht : w.taps[w.decided]? = none) (m : Nat) : linesComplete n m s = s := by
  have once : lineComplete n s = s := by
    have decided : decide_ s n = s := decideOn_none h ht _
    unfold lineComplete
    simp only [decided, h, ht]
  induction m with
  | zero => rfl
  | succ m ih =>
    rw [linesComplete, once]
    exact ih

/-- The SWATH record of a swath that ended (05 R186). -/
def swathRec (n : Nat) (w : Swath) (reason : Nat) (p : Int) (tm : Nat) : Rec :=
  { typ := 0x11, src := n, pos := p, time := tm,
    tail := bytesLE 8 (ofSigned 64 w.first) ++ bytesLE 2 w.id ++ bytesLE 1 reason ++
      bytesLE 1 (if w.back then 1 else 0) ++ bytesLE 4 w.lines }

theorem setImg_queueOf (s : State) (n : Nat) (x : ImgSt) (k : Nat) : (s.setImg n x).queueOf k = s.queueOf k := rfl

/-- What the end of a swath leaves: its records, the port without it, its event. -/
def swathLeft (n : Nat) (w : Swath) (reason : Nat) (p : Int) (tm : Nat) (s : State) : State :=
  let u := (emitGap s n w).portEmit (swathRec n w reason p tm)
  (u.setImg n { u.imgSt n with swaths := [] }).raise (Ev.img n 3)

theorem swathLeft_swaths (n : Nat) (w : Swath) (reason : Nat) (p : Int) (tm : Nat) (s : State) :
    ((swathLeft n w reason p tm s).imgSt n).swaths = [] := by
  unfold swathLeft
  extract_lets u
  rw [((Bookkeeps.refl _).raise _).imgSt, State.imgSt_setImg_self]

theorem swathLeft_queueOf (n : Nat) (w : Swath) (reason : Nat) (p : Int) (tm : Nat) (s : State) :
    (swathLeft n w reason p tm s).queueOf n = (emitGap s n w).queueOf n ++ [swathRec n w reason p tm] := by
  unfold swathLeft
  extract_lets u
  rw [((Bookkeeps.refl _).raise _).queueOf, setImg_queueOf]
  exact State.portEmit_queueOf (emitGap s n w) (swathRec n w reason p tm)

theorem swathLeft_told {n : Nat} (hn : n < 10) (w : Swath) (reason : Nat) (p : Int) (tm : Nat) {s : State}
    (h : s.reg (R.EVT_ROUTE (Ev.img n 3)) ≠ 0) : Ev.img n 3 ∈ (swathLeft n w reason p tm s).evPend := by
  have apart : ¬ FrondReg (R.EVT_ROUTE (Ev.img n 3)) := by
    simp only [FrondReg, R.EVT_ROUTE, Ev.img]
    omega
  unfold swathLeft
  extract_lets u
  refine State.mem_evPend_raise_route (by simp only [Ev.img]; omega) ?_
  rw [State.reg_setImg, State.portEmit_reg _ _ apart, (emitGap_leaves s n w).2.2 _ apart]
  exact h

theorem swathEnd_eq {n : Nat} {s : State} {w : Swath} {reason : Nat} {p : Int} {tm : Nat} (h : (s.imgSt n).swaths = [w])
    (he : w.ended = some (reason, p, tm)) (filled : w.taps.all (fun x => x.status != .waits) = true)
    (passed : w.taps.length ≤ w.decided) : swathEnd n s = swathLeft n w reason p tm s := by
  have ht : w.taps[w.decided]? = none := List.getElem?_eq_none passed
  have decided : decide_ s n = s := decideOn_none h ht _
  have closing : w.closing = true := by
    rw [Swath.closing, he, filled]
    rfl
  have settled : decide_ (swathLeft n w reason p tm s) n = swathLeft n w reason p tm s :=
    decideOn_empty (swathLeft_swaths n w reason p tm s) _
  unfold swathEnd
  simp only [decided, h, he, closing, linesComplete_none h ht, Nat.not_lt.mpr passed, Bool.not_true, Bool.false_eq_true,
    if_false]
  exact settled

/-- Settles O12: the decided output in front leaves its LINE record or is dropped, and the swath's end its SWATH record. -/
theorem captureRecords : Obligations.CaptureRecords := by
  intro s n w hw swaths output room behind lineLeaves lineDropped swathEnds
  have next : ∀ {x ln pix}, output x ln pix → ∃ fl br, OutputNext s n w x ln pix fl br := by
    rintro x ln pix ⟨next, last, filled, line, place, fl, br, out⟩
    exact ⟨fl, br, swaths, next, last, filled, line, place, out⟩
  refine ⟨fun x ln pix ho hr => ?_, fun x ln pix ho hr hg => ?_, fun reason p tm he filled passed => ?_⟩
  · obtain ⟨fl, br, h⟩ := next ho
    obtain ⟨t, e, r, behind, typ, src, pos, time, speed, missed, first, payload⟩ := lineRecordComplete_leaves hw h hr
    exact ⟨t, e, r, behind, typ, src, pos, time, speed, missed, first, payload⟩
  · obtain ⟨fl, br, h⟩ := next ho
    exact lineRecordComplete_drops hw h hr hg
  · refine ⟨_, next_eq ((State.whenWorking_true hw _).trans (swathEnd_eq swaths he filled passed)), swathLeft_swaths ..,
      swathLeft_told n.isLt w reason p tm, swathRec n w reason p tm, RecordBehind.of_gap (swathLeft_queueOf ..),
        rfl, rfl, rfl, rfl, rfl⟩

/-! ### What the output of a thermal port leaves as it is (07 R253, R254; 08 R269, R281 to R285)

`TpBound` says what a boundary's commands keep of a port once its own settings are taken, `TpOut` what the records of a
port keep besides. Each function on their way has one lemma, in the order of the model. -/

/-- An address outside the port's control, interface, link, status and frame number registers. -/
def TpQuiet (n a : Nat) : Prop := a < 0x5002000000 + 0x100000 * n ∨ 0x5002000084 + 0x100000 * n < a

/-- A flag of TP_n_STATUS beside RUNNING and ROW_ERR. -/
def StatusApart (f : Fld) : Prop := (1 ≤ f.lo ∧ f.lo + f.width ≤ 9) ∨ (10 ≤ f.lo ∧ f.lo + f.width ≤ 32)

/-- What a boundary sets of a port and nothing after it changes: stage, number and instant of the boundary, MCLK, the
settings taken. -/
def tpCore (x : TpSt) : Nat × Nat × Option Nat × Nat × List Word := (x.stage, x.count, x.boundary, x.mclk, x.geo)

structure TpRuns (n : Nat) (s t : State) : Prop where
  tm : t.tm = s.tm
  port : tpCore (t.tp n) = tpCore (s.tp n)
  out : s.out <+: t.out
  running : t.bit (R.TP_STATUS n) F.TP_STATUS_RUNNING = s.bit (R.TP_STATUS n) F.TP_STATUS_RUNNING
  iface : t.reg (R.TP_IF_CFG n) = s.reg (R.TP_IF_CFG n)

structure TpBound (n : Nat) (s t : State) : Prop extends TpRuns n s t where
  ctrl : t.reg (R.TP_CTRL n) = s.reg (R.TP_CTRL n)
  act : t.act = s.act

structure TpOut (n : Nat) (s t : State) : Prop extends TpBound n s t where
  frames : (t.tp n).frames = (s.tp n).frames
  link : t.reg (R.TP_LINK n) = s.reg (R.TP_LINK n)
  rowErr : t.bit (R.TP_STATUS n) F.TP_STATUS_ROW_ERR = s.bit (R.TP_STATUS n) F.TP_STATUS_ROW_ERR
  frameNo : t.reg (R.TP_FRAME_NO n) = s.reg (R.TP_FRAME_NO n)
  queue : s.queueOf (0x10 + n) <+: t.queueOf (0x10 + n)

theorem TpRuns.refl (n : Nat) (s : State) : TpRuns n s s := ⟨rfl, rfl, List.prefix_refl _, rfl, rfl⟩

theorem TpRuns.trans {n : Nat} {s t u : State} (h : TpRuns n s t) (k : TpRuns n t u) : TpRuns n s u :=
  ⟨k.tm.trans h.tm, k.port.trans h.port, h.out.trans k.out, k.running.trans h.running, k.iface.trans h.iface⟩

theorem TpBound.refl (n : Nat) (s : State) : TpBound n s s := ⟨.refl n s, rfl, rfl⟩

theorem TpBound.trans {n : Nat} {s t u : State} (h : TpBound n s t) (k : TpBound n t u) : TpBound n s u :=
  ⟨h.toTpRuns.trans k.toTpRuns, k.ctrl.trans h.ctrl, k.act.trans h.act⟩

theorem TpOut.refl (n : Nat) (s : State) : TpOut n s s := ⟨.refl n s, rfl, rfl, rfl, rfl, List.prefix_refl _⟩

theorem TpOut.trans {n : Nat} {s t u : State} (h : TpOut n s t) (k : TpOut n t u) : TpOut n s u :=
  ⟨h.toTpBound.trans k.toTpBound, k.frames.trans h.frames, k.link.trans h.link, k.rowErr.trans h.rowErr,
    k.frameNo.trans h.frameNo, h.queue.trans k.queue⟩

/-! #### The operations of the state -/

theorem tpQuiet_ne {n a : Nat} (h : TpQuiet n a) : R.TP_STATUS n ≠ a ∧ R.TP_IF_CFG n ≠ a ∧ R.TP_CTRL n ≠ a ∧
    R.TP_LINK n ≠ a ∧ R.TP_FRAME_NO n ≠ a := by
  simp only [TpQuiet, R.TP_STATUS, R.TP_IF_CFG, R.TP_CTRL, R.TP_LINK, R.TP_FRAME_NO] at *
  omega

/-- A change outside the ports and the registers. -/
theorem TpOut.of_eq {n : Nat} {s t : State} (tm : t.tm = s.tm) (tps : t.tps = s.tps) (out : t.out = s.out)
    (regs : t.regs = s.regs) (act : t.act = s.act) (recQ : t.recQ = s.recQ) : TpOut n s t := by
  have tp : t.tp n = s.tp n := congrArg (Sparse.get (fun _ => ({} : TpSt)) · n) tps
  have queue : t.queueOf (0x10 + n) = s.queueOf (0x10 + n) :=
    congrArg (Sparse.get (fun _ => ([] : List Rec)) · (0x10 + n)) recQ
  have reg := State.reg_of_regs regs
  exact ⟨⟨⟨tm, congrArg tpCore tp, out ▸ List.prefix_refl _, State.bit_of_reg (reg _) _, reg _⟩, reg _, act⟩,
    congrArg TpSt.frames tp, reg _, State.bit_of_reg (reg _) _, reg _, queue ▸ List.prefix_refl _⟩

theorem TpOut.setReg {n : Nat} {s t : State} (h : TpOut n s t) {a : Nat} (v : Word) (ha : TpQuiet n a) :
    TpOut n s (t.setReg a v) := by
  obtain ⟨status, iface, ctrl, link, no⟩ := tpQuiet_ne ha
  exact h.trans ⟨⟨⟨rfl, rfl, List.prefix_refl _, State.bit_of_reg (t.reg_setReg_ne v status) _, t.reg_setReg_ne v iface⟩,
    t.reg_setReg_ne v ctrl, rfl⟩, rfl, t.reg_setReg_ne v link, State.bit_of_reg (t.reg_setReg_ne v status) _,
    t.reg_setReg_ne v no, List.prefix_refl _⟩

theorem TpOut.setFld {n : Nat} {s t : State} (h : TpOut n s t) {a : Nat} (f : Fld) (v : Nat) (ha : TpQuiet n a) :
    TpOut n s (t.setFld a f v) := h.setReg _ ha

theorem TpOut.setBit {n : Nat} {s t : State} (h : TpOut n s t) {a : Nat} (f : Fld) (v : Bool) (ha : TpQuiet n a) :
    TpOut n s (t.setBit a f v) := h.setReg _ ha

theorem TpOut.satInc {n : Nat} {s t : State} (h : TpOut n s t) {a : Nat} (f : Fld) (ha : TpQuiet n a) :
    TpOut n s (t.satInc a f) := h.setReg _ ha

/-- A flag of TP_n_STATUS that is none of the two. -/
theorem TpOut.status {n : Nat} {s t : State} (h : TpOut n s t) {f : Fld} (v : Nat) (hf : StatusApart f) :
    TpOut n s (t.setFld (R.TP_STATUS n) f v) := by
  have width : f.lo + f.width ≤ 32 := by
    unfold StatusApart at hf
    omega
  have others : ∀ a, a ≠ R.TP_STATUS n → (t.setFld (R.TP_STATUS n) f v).reg a = t.reg a := fun _ ha =>
    State.reg_setFld_ne _ _ _ ha
  have bits : ∀ g : Fld, g = F.TP_STATUS_RUNNING ∨ g = F.TP_STATUS_ROW_ERR →
      (t.setFld (R.TP_STATUS n) f v).bit (R.TP_STATUS n) g = t.bit (R.TP_STATUS n) g := by
    intro g hg
    have apart : g.lo + g.width ≤ f.lo ∨ f.lo + f.width ≤ g.lo := by
      unfold StatusApart at hf
      rcases hg with rfl | rfl <;> simp only [F.TP_STATUS_RUNNING, F.TP_STATUS_ROW_ERR] <;> omega
    rw [State.bit, State.bit, State.fld_setFld_apart _ _ _ _ _ width apart]
  refine h.trans ⟨⟨⟨rfl, rfl, List.prefix_refl _, bits _ (.inl rfl), others _ ?_⟩, others _ ?_, rfl⟩, rfl, others _ ?_,
    bits _ (.inr rfl), others _ ?_, List.prefix_refl _⟩ <;>
  simp only [R.TP_STATUS, R.TP_IF_CFG, R.TP_CTRL, R.TP_LINK, R.TP_FRAME_NO, ne_eq] <;> omega

theorem TpOut.setTp {n : Nat} {s t : State} (h : TpOut n s t) {x : TpSt}
    (hx : tpCore x = tpCore (t.tp n) := by unfold tpCore; rfl) (hf : x.frames = (t.tp n).frames := by rfl) :
    TpOut n s (t.setTp n x) :=
  h.trans ⟨⟨⟨rfl, (congrArg tpCore (State.tp_setTp_self ..)).trans hx, List.prefix_refl _, rfl, rfl⟩, rfl, rfl⟩,
    (congrArg TpSt.frames (State.tp_setTp_self ..)).trans hf, rfl, rfl, rfl, List.prefix_refl _⟩

section Ports

variable {n : Nat} (hn : n < 4)

include hn

theorem tpQuiet_evtLost : TpQuiet n R.EVT_LOST := by
  simp only [TpQuiet, R.EVT_LOST]
  omega

theorem tpQuiet_frond {a : Nat} (h : FrondReg a) : TpQuiet n a := by
  simp only [TpQuiet, FrondReg] at *
  omega

theorem TpOut.raise {s t : State} (h : TpOut n s t) (e : Nat) : TpOut n s (t.raise e) := by
  unfold State.raise
  split
  · exact h
  · split
    · exact (h.satInc _ (tpQuiet_evtLost hn)).setFld _ _ (tpQuiet_evtLost hn)
    · exact h.trans (.of_eq rfl rfl rfl rfl rfl rfl)

theorem flagEvent_out {s t : State} (h : TpOut n s t) {f : Fld} (hf : StatusApart f) (src : Nat) :
    TpOut n s (t.flagEvent (R.TP_STATUS n) f src) := by
  unfold State.flagEvent
  split
  · exact h
  · exact (h.status _ hf).raise hn _

theorem tpFault_out {s t : State} (h : TpOut n s t) {f : Fld} (hf : StatusApart f) : TpOut n s (tpFault t n f) :=
  flagEvent_out hn h hf _

theorem TapsFed.tpOut {s t : State} (h : TapsFed s t) : TpOut n s t := by
  have reg : ∀ a, ¬ TpQuiet n a → t.reg a = s.reg a := fun a ha => (h.regs a fun hf => ha (tpQuiet_frond hn hf)).1
  have tp : t.tp n = s.tp n := (congrArg (fun u : State => u.tp n) h.rest).trans rfl
  have out : t.out = s.out := (congrArg State.out h.rest).trans rfl
  have status : t.reg (R.TP_STATUS n) = s.reg (R.TP_STATUS n) := reg _ (by simp only [TpQuiet, R.TP_STATUS]; omega)
  exact ⟨⟨⟨(congrArg State.tm h.rest).trans rfl, congrArg tpCore tp, out ▸ List.prefix_refl _, State.bit_of_reg status _,
    reg _ (by simp only [TpQuiet, R.TP_IF_CFG]; omega)⟩, reg _ (by simp only [TpQuiet, R.TP_CTRL]; omega),
    (congrArg State.act h.rest).trans rfl⟩, congrArg TpSt.frames tp, reg _ (by simp only [TpQuiet, R.TP_LINK]; omega),
    State.bit_of_reg status _, reg _ (by simp only [TpQuiet, R.TP_FRAME_NO]; omega), h.queueOf (0x10 + n) ▸ List.prefix_refl _⟩

omit hn in
theorem State.pushRec_out (s : State) {r : Rec} (hr : r.src = 0x10 + n) : TpOut n s (s.pushRec r) := by
  refine ⟨⟨⟨rfl, rfl, List.prefix_refl _, rfl, rfl⟩, rfl, rfl⟩, rfl, rfl, rfl, rfl, ?_⟩
  rw [← hr, State.pushRec, State.queueOf_setQueue_self]
  exact List.prefix_append _ _

theorem State.portEmit_out {s t : State} (h : TpOut n s t) {r : Rec} (hr : r.src = 0x10 + n := by rfl) :
    TpOut n s (t.portEmit r) :=
  (h.trans (State.pushRec_out t hr)).trans (TapsFed.tpOut hn (State.portEmit_taps t r))

omit hn in
theorem TpOut.foldl {α : Type} {s t : State} {f : State → α → State} (h : TpOut n s t)
    (k : ∀ u a, TpOut n s u → TpOut n s (f u a)) (l : List α) : TpOut n s (l.foldl f t) := by
  induction l generalizing t with
  | nil => exact h
  | cons a l ih => exact ih (k t a h)

/-! #### GAP records -/

theorem emitTGap_out {s t : State} (h : TpOut n s t) (g : TGap) (aborted : Bool) : TpOut n s (emitTGap t n g aborted) :=
  State.portEmit_out hn h

theorem closeTGap_out {s t : State} (h : TpOut n s t) : TpOut n s (closeTGap t n) := by
  unfold closeTGap
  split
  · exact emitTGap_out hn (h.setTp) _ _
  · exact h

theorem closeShutGap_out {s t : State} (h : TpOut n s t) : TpOut n s (closeShutGap t n) := by
  unfold closeShutGap
  split
  · exact emitTGap_out hn (h.setTp) _ _
  · exact h

theorem accountShut_out {s t : State} (h : TpOut n s t) (f : TFrame) (no : Nat) : TpOut n s (accountShut t n f no) := by
  unfold accountShut
  extract_lets u v x g
  have closed : TpOut n s u := closeTGap_out hn h
  have shut : TpOut n s v := State.cond_induct (p := TpOut n s) closed fun _ => closeShutGap_out hn closed
  exact shut.setTp

omit hn in
theorem tpQuiet_dropped : TpQuiet n (R.TP_DROPPED n) := by
  simp only [TpQuiet, R.TP_DROPPED]
  omega

theorem accountLost_out {s t : State} (h : TpOut n s t) (f : TFrame) (no reason : Nat) :
    TpOut n s (accountLost t n f no reason) := by
  unfold accountLost
  extract_lets u v x
  have counted : TpOut n s u := (closeShutGap_out hn h).satInc _ (tpQuiet_dropped)
  have closed : TpOut n s v := by
    unfold v
    split
    · split
      · exact counted
      · exact closeTGap_out hn counted
    · exact counted
  exact closed.setTp

/-! #### Statistics -/

omit hn in
theorem setStat_out {s t : State} (h : TpOut n s t) (i : Nat) (x : StatSt) : TpOut n s (t.setStat i x) :=
  h.trans (.of_eq rfl rfl rfl rfl rfl rfl)

omit hn in
theorem tpQuiet_roi (r : Nat) : TpQuiet n (R.TP_ROI_RANGE n r) ∧ TpQuiet n (R.TP_ROI_MEAN n r) := by
  simp only [TpQuiet, R.TP_ROI_RANGE, R.TP_ROI_MEAN]
  omega

omit hn in
theorem writeStats_out {s t : State} (h : TpOut n s t) (f : TFrame) (out : List (Nat × List Nat)) (stale : Bool) :
    TpOut n s (writeStats t n f out stale) := by
  unfold writeStats
  refine h.foldl (fun u r hu => ?_) _
  dsimp only
  obtain ⟨range, mean⟩ := tpQuiet_roi r
  split
  · exact hu
  · exact setStat_out (setStat_out ((hu.setReg _ range).setReg _ mean) _ _) _ _

theorem emitStat_out {s t : State} (h : TpOut n s t) (f : TFrame) (out : List (Nat × List Nat)) (time : Nat)
    (no : Option Nat) : TpOut n s (emitStat t n f out time no) := by
  unfold emitStat
  extract_lets every x c u hot rs on ent
  have counted : TpOut n s u := h.setTp
  split
  · exact counted
  · exact State.portEmit_out hn counted

/-! #### Line mode -/

omit hn in
theorem setTLine_out {s t : State} (h : TpOut n s t) (l : TLineSt) : TpOut n s (setTLine t n l) := h.setTp

omit hn in
theorem tpQuiet_lineStatus : TpQuiet n (R.TP_LINE_STATUS n) := by
  simp only [TpQuiet, R.TP_LINE_STATUS]
  omega

omit hn in
theorem showLine_out {s t : State} (h : TpOut n s t) : TpOut n s (showLine t n) := by
  have quiet : TpQuiet n (R.TP_LINE_STATUS n) := tpQuiet_lineStatus
  exact (((h.setFld _ _ quiet).setFld _ _ quiet).setBit _ _ quiet).setBit _ _ quiet

theorem closeLineGap_out {s t : State} (h : TpOut n s t) : TpOut n s (closeLineGap t n) := by
  unfold closeLineGap
  extract_lets l
  split
  · exact h
  · exact State.portEmit_out hn (setTLine_out h _)

omit hn in
theorem lineConsume_out {s t : State} (h : TpOut n s t) (x : Int) : TpOut n s (lineConsume t n x) := setTLine_out h _

theorem lineAccount_out {s t : State} (h : TpOut n s t) (x : Int) (reason : Nat) : TpOut n s (lineAccount t n x reason) := by
  unfold lineAccount
  extract_lets u v l g
  have consumed : TpOut n s u := lineConsume_out h x
  have closed : TpOut n s v := by
    unfold v
    split
    · split
      · exact consumed
      · exact closeLineGap_out hn consumed
    · exact consumed
  exact setTLine_out closed _

theorem emitTLine_out {s t : State} (h : TpOut n s t) (f : TFrame) (g : TTarget) : TpOut n s (emitTLine t n f g) := by
  unfold emitTLine
  extract_lets x cols len set mean k u l fl off v
  split
  · exact lineAccount_out hn (tpFault_out hn h (by unfold StatusApart; decide)) x 6
  · split
    extract_lets out fl' w l' z z'
    have closed : TpOut n s v := closeLineGap_out hn (lineConsume_out h x)
    have emitted : TpOut n s w := State.portEmit_out hn closed
    exact emitStat_out hn (writeStats_out ((setTLine_out emitted _).raise hn _) ..) ..

theorem lineDone_out {s t : State} (h : TpOut n s t) (f : TFrame) (k : Int) : TpOut n s (lineDone t n f k) := by
  unfold lineDone
  extract_lets l g u
  have gone : TpOut n s u := setTLine_out h _
  cases g with
  | none => exact lineAccount_out hn gone ..
  | some g =>
    dsimp only
    split
    · exact emitTLine_out hn gone ..
    · exact lineAccount_out hn gone ..

theorem lineCross_out {s t : State} (h : TpOut n s t) (f : TFrame) (lo hi : Int) : TpOut n s (lineCross t n f lo hi) := by
  unfold lineCross
  extract_lets l q o d last
  split
  · exact setTLine_out h _
  · extract_lets m u
    exact setTLine_out (h.foldl (fun _ _ hu => lineDone_out hn hu ..) _) _

omit hn in
theorem lineBegin_out {s t : State} (h : TpOut n s t) (back : Bool) : TpOut n s (lineBegin t n back) :=
  showLine_out (setTLine_out h _)

theorem lineEnd_out {s t : State} (h : TpOut n s t) (f : TFrame) (reason : Nat) (point : Int) (at_ : Nat) :
    TpOut n s (lineEnd t n f reason point at_) := by
  unfold lineEnd
  extract_lets l ks u l' v
  have closed : TpOut n s u := closeLineGap_out hn (h.foldl (fun _ _ hu => lineDone_out hn hu ..) _)
  have shut : TpOut n s v := setTLine_out closed _
  split
  · exact shut
  · exact State.portEmit_out hn shut

theorem lineTurns_out {s : State} (f : TFrame) (i : Int) (m : Nat) : ∀ {t : State}, TpOut n s t →
    TpOut n s (lineTurns n f i m t) := by
  induction m with
  | zero => exact id
  | succ m ih =>
    intro t h
    unfold lineTurns
    dsimp only
    split
    · split
      · exact h
      · exact ih (lineBegin_out (lineEnd_out hn (setTLine_out h _) ..) _)
    · exact h

omit hn in
theorem touchTarget_out {s t : State} (h : TpOut n s t) (f : TFrame) (k : Int) (row : Option (List Nat))
    (loss : Option Nat) : TpOut n s (touchTarget t n f k row loss) := by
  unfold touchTarget
  extract_lets l behind fresh g g'
  split
  · exact h
  · exact setTLine_out h _

theorem lineSample_out {s t : State} (h : TpOut n s t) (f : TFrame) (x6 : Option (List (List Nat))) (loss : Option Nat) :
    TpOut n s (lineSample t n f x6 loss) := by
  unfold lineSample
  extract_lets u l kk rp
  have turned : TpOut n s u := lineTurns_out hn f _ _ h
  split
  · exact turned
  · split
    · exact turned
    · extract_lets far v moved adds at_ k w
      have crossed : TpOut n s v := lineCross_out hn turned ..
      split
      · exact showLine_out crossed
      · have touched : TpOut n s w := by
          unfold w
          split
          · exact crossed.foldl (fun _ _ hu => touchTarget_out hu ..) _
          · exact crossed.foldl (fun _ _ hu => touchTarget_out hu ..) _
        refine showLine_out ?_
        split
        · exact setTLine_out touched _
        · exact touched

/-! #### Frames in order -/

theorem leaveLost_out {s t : State} (h : TpOut n s t) (f : TFrame) (r : Nat) : TpOut n s (leaveLost t n f r) := by
  unfold leaveLost
  extract_lets x u
  have holed : TpOut n s u := h.setTp
  split
  · exact holed
  · split
    · exact lineSample_out hn (holed.satInc _ (tpQuiet_dropped)) ..
    · split
      · exact accountShut_out hn holed ..
      · exact accountLost_out hn holed ..

/-- The frames of a stopped run have left: what follows leaves the frames that there are. -/
theorem tpAfterStop_out (s : State) : TpOut n s (tpAfterStop s n) := by
  unfold tpAfterStop
  split
  · exact .refl n s
  · extract_lets f at_ u v
    have turned : TpOut n s u := lineTurns_out hn f _ _ (.refl n s)
    have ended : TpOut n s v := by
      unfold v
      split
      · exact lineEnd_out hn turned ..
      · exact turned
    exact closeTGap_out hn (closeShutGap_out hn ended)

end Ports

/-! ### ThermalFrames: rows, coefficients and frames of a thermal port (07 R226 to R232) -/

/-! #### Frames that leave or are lost -/

/-- What letting lost frames go leaves: the boundary's settings, the link, ROW_ERR. -/
structure TpSettled (n : Nat) (s t : State) : Prop extends TpBound n s t where
  link : t.reg (R.TP_LINK n) = s.reg (R.TP_LINK n)
  rowErr : t.bit (R.TP_STATUS n) F.TP_STATUS_ROW_ERR = s.bit (R.TP_STATUS n) F.TP_STATUS_ROW_ERR

theorem TpSettled.refl (n : Nat) (s : State) : TpSettled n s s := ⟨.refl n s, rfl, rfl⟩

theorem TpSettled.trans {n : Nat} {s t u : State} (h : TpSettled n s t) (k : TpSettled n t u) : TpSettled n s u :=
  ⟨h.toTpBound.trans k.toTpBound, k.link.trans h.link, k.rowErr.trans h.rowErr⟩

theorem TpOut.settled {n : Nat} {s t : State} (h : TpOut n s t) : TpSettled n s t := ⟨h.toTpBound, h.link, h.rowErr⟩

theorem TpSettled.setTp {n : Nat} {s t : State} (h : TpSettled n s t) {x : TpSt}
    (hx : tpCore x = tpCore (t.tp n) := by unfold tpCore; rfl) : TpSettled n s (t.setTp n x) :=
  h.trans ⟨⟨⟨rfl, (congrArg tpCore (State.tp_setTp_self ..)).trans hx, List.prefix_refl _, rfl, rfl⟩, rfl, rfl⟩, rfl, rfl⟩

theorem State.frames_setTp (s : State) (n : Nat) (x : TpSt) : ((s.setTp n x).tp n).frames = x.frames :=
  congrArg TpSt.frames (State.tp_setTp_self ..)

section Ports

variable {n : Nat} (hn : n < 4)

include hn

theorem leaveLosts_settled (m : Nat) : ∀ s : State, TpSettled n s (leaveLosts n m s) ∧
    ((leaveLosts n m s).tp n).frames <:+ (s.tp n).frames := by
  induction m with
  | zero => exact fun s => ⟨.refl n s, List.suffix_refl _⟩
  | succ m ih =>
    intro s
    unfold leaveLosts
    split
    · next f r hf =>
      split
      · next why _ =>
        split
        · exact ⟨.refl n s, List.suffix_refl _⟩
        · have left := leaveLost_out hn (.refl n (s.setTp n { s.tp n with frames := r })) (placedFrame s n f) why
          obtain ⟨settled, frames⟩ := ih (leaveLost (s.setTp n { s.tp n with frames := r }) n (placedFrame s n f) why)
          refine ⟨((TpSettled.refl n s).setTp.trans left.settled).trans settled, ?_⟩
          rw [left.frames, State.frames_setTp] at frames
          exact frames.trans (hf ▸ List.suffix_cons f r)
      · exact ⟨.refl n s, List.suffix_refl _⟩
    · exact ⟨.refl n s, List.suffix_refl _⟩

theorem tpSettle_settled (s : State) : TpSettled n s (tpSettle s n) := (leaveLosts_settled hn _ s).1

theorem tpSettle_frames (s : State) : ((tpSettle s n).tp n).frames <:+ (s.tp n).frames := (leaveLosts_settled hn _ s).2

omit hn in
theorem putFrame_frames (s : State) (f : TFrame) :
    ((putFrame s n f).tp n).frames = (s.tp n).frames.map fun g => if g.id = f.id then f else g := State.frames_setTp ..

theorem loseFrame_settled (s : State) (f : TFrame) (reason : Nat) : TpSettled n s (loseFrame s n f reason) := by
  have put : TpSettled n s (putFrame s n { f with lost := some reason, rows := [] }) := (TpSettled.refl n s).setTp
  exact put.setTp.trans (tpSettle_settled hn _)

/-- A frame that is lost stays in the port as lost, if it stays. -/
theorem loseFrame_lost (s : State) (f : TFrame) (reason : Nat) :
    ∀ g ∈ ((loseFrame s n f reason).tp n).frames, g.id = f.id → g.lost.isSome = true := by
  intro g hg hid
  have kept := (tpSettle_frames hn _).subset hg
  rw [State.frames_setTp, putFrame_frames] at kept
  obtain ⟨e, -, rfl⟩ := List.mem_map.mp kept
  by_cases he : e.id = f.id
  · rw [if_pos he]
    rfl
  · rw [if_neg he] at hid
    exact absurd hid he

/-! #### The link -/

/-- What counting a row's sync words leaves of a port: its frames, and whether it passes rows over. -/
def tpRow (x : TpSt) : List TFrame × Bool × Option (List (List Nat)) := (x.frames, x.skip, x.coefs)

omit hn in
theorem readyCheck_tps (s : State) : (readyCheck s).tps = s.tps := by
  unfold readyCheck
  split
  · rfl
  · extract_lets up first boot u
    exact State.cond_induct (p := fun t => t.tps = s.tps) rfl fun _ => rfl

theorem tpQuiet_boot : TpQuiet n R.BOOT_READY_TIME ∧ TpQuiet n R.BOOT_STATUS := by
  simp only [TpQuiet, R.BOOT_READY_TIME, R.BOOT_STATUS]
  omega

theorem readyCheck_out {s t : State} (h : TpOut n s t) : TpOut n s (readyCheck t) := by
  obtain ⟨time, step⟩ := tpQuiet_boot hn
  unfold readyCheck
  split
  · exact h.trans (.of_eq rfl rfl rfl rfl rfl rfl)
  · extract_lets up first boot u
    have shown : TpOut n s u := h.trans (.of_eq rfl rfl rfl rfl rfl rfl)
    exact State.cond_induct (p := TpOut n s) shown fun _ => (shown.setReg _ time).setFld _ _ step

theorem tpReady_out (s : State) :
    ∃ r, TpOut n (s.setBit (R.TP_LINK n) F.TP_LINK_PORT_READY r) (tpReady s n) := by
  unfold tpReady
  extract_lets r u x
  have shown : TpOut n (s.setBit (R.TP_LINK n) F.TP_LINK_PORT_READY r) u :=
    (TpOut.refl n _).status _ (.inl (by decide))
  refine ⟨r, readyCheck_out hn ?_⟩
  split
  · exact shown.setTp
  · exact shown

omit hn in
theorem tpReady_row (s : State) : tpRow ((tpReady s n).tp n) = tpRow (s.tp n) := by
  unfold tpReady
  extract_lets r u x
  refine (congrArg (fun l => tpRow (Sparse.get (fun _ => ({} : TpSt)) l n)) (readyCheck_tps _)).trans ?_
  show tpRow (State.tp _ n) = _
  split
  · rw [State.tp_setTp_self]
    rfl
  · rfl

/-- The link as counting a row's sync words shows it, but for PORT_READY. -/
def lockShown (n lanes : Nat) (locked : Bool) (s : State) : State :=
  (s.setFld (R.TP_LINK n) F.TP_LINK_LANE_LOCK lanes).setBit (R.TP_LINK n) F.TP_LINK_LOCKED locked

omit hn in
/-- The same field of the link written in two states that agree. -/
theorem TpOut.setLink {s t : State} (h : TpOut n s t) (f : Fld) (v : Nat) :
    TpOut n (s.setFld (R.TP_LINK n) f v) (t.setFld (R.TP_LINK n) f v) := by
  have others : ∀ (u : State) (a : Nat), a ≠ R.TP_LINK n → (u.setFld (R.TP_LINK n) f v).reg a = u.reg a := fun u a ha =>
    u.reg_setFld_ne _ _ ha
  have kept : ∀ a, a ≠ R.TP_LINK n → t.reg a = s.reg a →
      (t.setFld (R.TP_LINK n) f v).reg a = (s.setFld (R.TP_LINK n) f v).reg a := fun a ha e => by
    rw [others t a ha, others s a ha, e]
  have status : R.TP_STATUS n ≠ R.TP_LINK n := by simp only [R.TP_STATUS, R.TP_LINK, ne_eq]; omega
  have bits : ∀ g, t.bit (R.TP_STATUS n) g = s.bit (R.TP_STATUS n) g →
      (t.setFld (R.TP_LINK n) f v).bit (R.TP_STATUS n) g = (s.setFld (R.TP_LINK n) f v).bit (R.TP_STATUS n) g := fun g e => by
    rw [State.bit_of_reg (others t _ status), State.bit_of_reg (others s _ status), e]
  refine ⟨⟨⟨h.tm, h.port, h.out, bits _ h.running, kept _ ?_ h.iface⟩, kept _ ?_ h.ctrl, h.act⟩, h.frames, ?_,
    bits _ h.rowErr, kept _ ?_ h.frameNo, h.queue⟩
  · simp only [R.TP_IF_CFG, R.TP_LINK, ne_eq]
    omega
  · simp only [R.TP_CTRL, R.TP_LINK, ne_eq]
    omega
  · rw [State.reg_setFld_self, State.reg_setFld_self, h.link]
  · simp only [R.TP_FRAME_NO, R.TP_LINK, ne_eq]
    omega

theorem showLock_out (s : State) : ∃ lanes r, TpOut n ((lockShown n lanes
    ((List.range (lanesOf (ifWord s n))).all fun i => decide (4 ≤ (s.tp n).hits.getD i 0)) s).setBit (R.TP_LINK n)
      F.TP_LINK_PORT_READY r) (showLock s n) := by
  unfold showLock
  extract_lets a x k aligned was locked u v
  have raised : TpOut n v (v.cond (was != locked) fun s => s.raise (Ev.tp n 1)) :=
    State.cond_induct (p := TpOut n v) (.refl n v) fun _ => (TpOut.refl n v).raise hn _
  obtain ⟨r, ready⟩ := tpReady_out hn (v.cond (was != locked) fun s => s.raise (Ev.tp n 1))
  exact ⟨_, r, (raised.setLink ..).trans ready⟩

omit hn in
theorem showLock_row (s : State) : tpRow ((showLock s n).tp n) = tpRow (s.tp n) := by
  unfold showLock
  extract_lets a x k aligned was locked u v
  refine (tpReady_row _).trans ?_
  exact State.cond_induct (p := fun t => tpRow (t.tp n) = tpRow (s.tp n)) rfl fun _ =>
    (congrArg (fun w : State => tpRow (w.tp n)) ((Bookkeeps.refl v).raise _)).trans rfl

omit hn in
theorem lockShown_locked (lanes : Nat) (locked r : Bool) (s : State) :
    ((lockShown n lanes locked s).setBit (R.TP_LINK n) F.TP_LINK_PORT_READY r).bit (R.TP_LINK n) F.TP_LINK_LOCKED =
      locked := by
  unfold lockShown State.bit
  rw [State.setBit, State.fld_setFld_apart _ _ _ _ _ (by decide) (by decide)]
  exact State.bit_setBit_self _ _ 4 locked (by decide)

omit hn in
theorem lockShown_rowErrs (lanes : Nat) (locked r : Bool) (s : State) :
    ((lockShown n lanes locked s).setBit (R.TP_LINK n) F.TP_LINK_PORT_READY r).fld (R.TP_LINK n) F.TP_LINK_ROW_ERRS =
      s.fld (R.TP_LINK n) F.TP_LINK_ROW_ERRS := by
  unfold lockShown State.setBit
  rw [State.fld_setFld_apart _ _ _ _ _ (by decide) (by decide), State.fld_setFld_apart _ _ _ _ _ (by decide) (by decide),
    State.fld_setFld_apart _ _ _ _ _ (by decide) (by decide)]

/-- The counts of sync words of a port as a row leaves them. -/
def syncCounted (n : Nat) (hits misses : List Nat) (s : State) : State :=
  s.setTp n { s.tp n with hits := hits, misses := misses }

omit hn in
theorem syncCounted_tp (hits misses : List Nat) (s : State) :
    (syncCounted n hits misses s).tp n = { s.tp n with hits := hits, misses := misses } := State.tp_setTp_self ..

omit hn in
theorem syncCounted_row (hits misses : List Nat) (s : State) :
    tpRow ((syncCounted n hits misses s).tp n) = tpRow (s.tp n) := by
  rw [syncCounted_tp]
  rfl

omit hn in
theorem syncCounted_lanes (hits misses : List Nat) (s : State) :
    lanesOf (ifWord (syncCounted n hits misses s) n) = lanesOf (ifWord s n) := by
  rw [ifWord, tpTaken, syncCounted_tp]
  rfl

/-- The lanes of a row that a locked port reads: each was aligned and carries the row's sync word (07 R226). -/
def RowAligned (n : Nat) (s : State) (lanes : List FpaLane) : Prop :=
  (s.tp n).stage = 3 ∧ s.bit (R.TP_LINK n) F.TP_LINK_LOCKED = true ∧
    ∀ i, i < lanesOf (ifWord s n) → (s.tp n).hits.getD i 0 = 4 ∧ (lanes[i]?).map (·.sync.toNat) =
      some ((tpTaken s n 1 (R.TP_SYNC_CODE n)).get F.TP_SYNC_CODE_SYNC_ROW)

omit hn in
theorem lanesOf_le (w : Word) : lanesOf w ≤ 4 := by
  unfold lanesOf
  dsimp only
  split
  · decide
  · split <;> decide

theorem countSync_locked {s : State} {lanes : List FpaLane} (h : RowAligned n s lanes) :
    (countSync s n lanes).bit (R.TP_LINK n) F.TP_LINK_LOCKED = true ∧
    (countSync s n lanes).fld (R.TP_LINK n) F.TP_LINK_ROW_ERRS = s.fld (R.TP_LINK n) F.TP_LINK_ROW_ERRS ∧
    tpRow ((countSync s n lanes).tp n) = tpRow (s.tp n) := by
  obtain ⟨-, -, lane⟩ := h
  unfold countSync
  extract_lets x code syncs miss hit
  have hits : ∀ i, i < lanesOf (ifWord s n) → ((List.range 4).map hit).getD i 0 = 4 := by
    intro i hi
    have h4 : i < 4 := lt_of_lt_of_le hi (lanesOf_le _)
    obtain ⟨held, sync⟩ := lane i hi
    have synced : syncs i = true := by
      obtain ⟨l, hl, hw⟩ := Option.map_eq_some_iff.mp sync
      simp only [syncs, hl, Option.map_some, Option.getD_some, hw, code, beq_self_eq_true]
    have hit4 : hit i = 4 := by
      simp only [hit, synced, if_true, x, held]
      rfl
    rw [List.getD_eq_getElem?_getD, List.getElem?_map, List.getElem?_range h4]
    exact hit4
  have locked : ((List.range (lanesOf (ifWord s n))).all fun i => decide (4 ≤ ((List.range 4).map hit).getD i 0)) = true := by
    refine List.all_eq_true.mpr fun i hi => decide_eq_true ?_
    rw [hits i (List.mem_range.mp hi)]
  obtain ⟨v, r, out⟩ := showLock_out hn (syncCounted n ((List.range 4).map hit) ((List.range 4).map miss) s)
  rw [syncCounted_lanes, syncCounted_tp, locked] at out
  exact ⟨(State.bit_of_reg out.link _).trans (lockShown_locked ..), (State.fld_of_reg out.link _).trans (lockShown_rowErrs ..),
    (showLock_row _).trans (syncCounted_row ..)⟩

/-! #### Rows -/

/-- A row that is in its place in a frame: its number, the first row's mark, its length on every lane. -/
def RowInPlace (n : Nat) (f : TFrame) (lanes : List FpaLane) : Prop :=
  let hdr := ((lanes.head?).map (·.hdr.toNat)).getD 0
  let k := lanesOf (f.reg (R.TP_IF_CFG n))
  hdr % 2048 = f.next ∧ (32768 ≤ hdr ↔ f.next = 0) ∧
    ∀ i, i < k → ((lanes[i]?).map (·.words.length)).getD 0 = (f.cols n + (f.blind n).2 + k - 1) / k

omit hn in
theorem awaiting_of_frames {s t : State} (h : (t.tp n).frames = (s.tp n).frames) : awaiting t n = awaiting s n := by
  rw [awaiting, awaiting, h]

omit hn in
theorem coefLate_of_coefs {s t : State} (h : (t.tp n).coefs = (s.tp n).coefs) (f : TFrame) :
    coefLate t n f = coefLate s n f := by
  rw [coefLate, coefLate, h]

omit hn in
theorem awaiting_mem {s : State} {f : TFrame} (h : awaiting s n = some f) : f ∈ (s.tp n).frames := List.mem_of_find?_eq_some h

omit hn in
/-- A frame put back in place of the one of its number. -/
theorem putFrame_mem {s : State} {f g : TFrame} (hf : f ∈ (s.tp n).frames) (hg : g.id = f.id) :
    g ∈ ((putFrame s n g).tp n).frames := by
  rw [putFrame_frames]
  exact List.mem_map.mpr ⟨f, hf, if_pos hg.symm⟩

omit hn in
theorem portWrite_out {s t : State} (h : TpOut n s t) (a : Nat) (bs : List Byte) : TpOut n s (t.portWrite a bs) := by
  unfold State.portWrite
  split
  · exact h.trans (.of_eq (State.write_tm ..) (State.write_tps ..) (State.write_out ..) (State.write_regs ..)
      (State.write_act ..) (State.write_recQ ..))
  · exact h

omit hn in
theorem tpQuiet_shutStatus : TpQuiet n (R.TP_SHUT_STATUS n) := by
  simp only [TpQuiet, R.TP_SHUT_STATUS]
  omega

omit hn in
theorem shutShow_out {s t : State} (h : TpOut n s t) : TpOut n s (shutShow t n) := by
  have quiet : TpQuiet n (R.TP_SHUT_STATUS n) := tpQuiet_shutStatus
  unfold shutShow
  dsimp only
  split
  · split
    · exact (h.setFld _ _ quiet).setFld _ _ quiet
    · exact (h.setFld _ _ quiet).setFld _ _ quiet
  · exact (h.setFld _ _ quiet).setFld _ _ quiet

omit hn in
theorem shutMove_out {s t : State} (h : TpOut n s t) (cfg target : Word) (close : Bool) :
    TpOut n s (shutMove t n cfg target close) := by
  unfold shutMove
  split
  · exact h.setTp
  · exact h.setTp

theorem shutAverage_out {s t : State} (h : TpOut n s t) (f : TFrame) : TpOut n s (shutAverage t n f) := by
  unfold shutAverage
  extract_lets x base hole u xs
  split
  · next e _ =>
    split
    · exact h
    · extract_lets bytes v e' y w
      have met : TpOut n s u :=
        State.cond_induct (p := TpOut n s) h fun _ => tpFault_out hn h (by unfold StatusApart; decide)
      have added : TpOut n s v := portWrite_out met ..
      split
      · exact added.setTp
      · exact shutShow_out (shutMove_out added.setTp ..)
  · exact h

omit hn in
/-- Correcting an active row leaves its frame's number and place, and the port's frames. -/
theorem rowActive_frame (s : State) (f : TFrame) (px : List Nat) : (rowActive s n f px).2.id = f.id ∧
    (rowActive s n f px).2.next = f.next ∧ ((rowActive s n f px).1.tp n).frames = (s.tp n).frames := by
  unfold rowActive
  dsimp only
  refine ⟨rfl, rfl, ?_⟩
  split
  · rfl
  · exact State.cond_induct (p := fun t => (t.tp n).frames = (s.tp n).frames) (State.frames_setTp s n _) fun _ =>
      State.frames_setTp s n _

/-- A good row advances its frame by one. -/
theorem rowGood_advances {s : State} {f : TFrame} (hf : f ∈ (s.tp n).frames) (lanes : List FpaLane) :
    ∃ g ∈ ((rowGood s n f lanes).tp n).frames, g.id = f.id ∧ g.next = f.next + 1 := by
  unfold rowGood
  extract_lets px brows count p y g g' u
  obtain ⟨id, next, frames⟩ : p.2.id = f.id ∧ p.2.next = f.next ∧ (p.1.tp n).frames = (s.tp n).frames := by
    unfold p
    split
    · exact ⟨rfl, rfl, rfl⟩
    · exact rowActive_frame s f px
  have placed : g' ∈ (u.tp n).frames := putFrame_mem (frames.symm ▸ hf) id
  have kept : ((u.cond g'.done fun s => shutAverage s n g').tp n).frames = (u.tp n).frames :=
    State.cond_induct (p := fun t => (t.tp n).frames = (u.tp n).frames) rfl fun _ => (shutAverage_out hn (.refl n u) g').frames
  exact ⟨g', kept.symm ▸ placed, id, congrArg (· + 1) next⟩

omit hn in
theorem rowPlace_good {s : State} {f : TFrame} {lanes : List FpaLane} (h : RowInPlace n f lanes)
    (coef : coefLate s n f = false) : rowPlace s n f lanes false false = rowGood s n f lanes := by
  obtain ⟨number, first, length⟩ := h
  unfold rowPlace
  extract_lets hdr k w lenOk
  have lens : lenOk = true := List.all_eq_true.mpr fun i hi => beq_iff_eq.mpr (length i (List.mem_range.mp hi))
  have marked : decide (32768 ≤ hdr) = decide (f.next = 0) := decide_eq_decide.mpr first
  rw [if_neg, if_neg, if_neg Bool.false_ne_true, if_neg Bool.false_ne_true]
  · rw [coef]
    exact Bool.false_ne_true
  · rw [marked, lens]
    simp only [bne_self_eq_false, Bool.not_true, Bool.false_eq_true, or_false]
    exact not_not.mpr number

omit hn in
theorem rowPlace_misplaced {s : State} {f : TFrame} {lanes : List FpaLane}
    (h : ((lanes.head?).map (·.hdr.toNat)).getD 0 % 2048 ≠ f.next) (full ue : Bool) :
    rowPlace s n f lanes full ue = rowError s n f := if_pos (.inl h)

/-- A row out of its place: ROW_ERR, its count, its frame lost. -/
theorem rowError_loses (s : State) (f : TFrame) :
    (rowError s n f).bit (R.TP_STATUS n) F.TP_STATUS_ROW_ERR = true ∧
    (rowError s n f).fld (R.TP_LINK n) F.TP_LINK_ROW_ERRS =
      satAdd (2 ^ F.TP_LINK_ROW_ERRS.width - 1) (s.fld (R.TP_LINK n) F.TP_LINK_ROW_ERRS) 1 ∧
    ∀ g ∈ ((rowError s n f).tp n).frames, g.id = f.id → g.lost.isSome = true := by
  unfold rowError tpFault
  have lost := loseFrame_settled hn ((s.satInc (R.TP_LINK n) F.TP_LINK_ROW_ERRS).flagEvent (R.TP_STATUS n)
    F.TP_STATUS_ROW_ERR (Ev.tp n 7)) f 7
  refine ⟨lost.rowErr.trans (State.bit_flagEvent _ _ rfl (by decide) ?_), ?_, loseFrame_lost hn _ f 7⟩
  · simp only [R.TP_STATUS, R.EVT_LOST, ne_eq]
    omega
  · rw [State.fld_of_reg lost.link, State.fld_of_reg (State.reg_flagEvent _ _ _ _ ?_ ?_),
      State.fld_satInc_self _ _ _ _ (by decide)]
    · simp only [R.TP_LINK, R.EVT_LOST, ne_eq]
      omega
    · simp only [R.TP_LINK, R.TP_STATUS, ne_eq]
      omega

/-- A port that passes no rows over any more. -/
def rowsTaken (n : Nat) (s : State) : State := s.setTp n { s.tp n with skip := false }

omit hn in
theorem rowsTaken_tp (n : Nat) (s : State) : (rowsTaken n s).tp n = { s.tp n with skip := false } := State.tp_setTp_self ..

/-- A row of a locked port is placed in the frame that awaits rows, unless it starts a frame out of turn or the port
passes rows over (07 R226, R228). -/
theorem fpaRow_placed {s : State} {f : TFrame} {lanes : List FpaLane} (ha : awaiting s n = some f)
    (hl : RowAligned n s lanes) (first : 32768 ≤ ((lanes.head?).map (·.hdr.toNat)).getD 0 → f.next = 0)
    (skip : ((lanes.head?).map (·.hdr.toNat)).getD 0 < 32768 → (s.tp n).skip = false) (full ue : Bool) :
    ∃ u, fpaRow n lanes full ue s = rowPlace u n f lanes full ue ∧ f ∈ (u.tp n).frames ∧
      coefLate u n f = coefLate s n f ∧ u.fld (R.TP_LINK n) F.TP_LINK_ROW_ERRS = s.fld (R.TP_LINK n) F.TP_LINK_ROW_ERRS := by
  obtain ⟨locked, errs, row⟩ := countSync_locked hn hl
  obtain ⟨frames, skips, coefs⟩ : ((countSync s n lanes).tp n).frames = (s.tp n).frames ∧
      ((countSync s n lanes).tp n).skip = (s.tp n).skip ∧ ((countSync s n lanes).tp n).coefs = (s.tp n).coefs :=
    ⟨congrArg (·.1) row, congrArg (·.2.1) row, congrArg (·.2.2) row⟩
  have waits : awaiting (countSync s n lanes) n = some f := (awaiting_of_frames frames).trans ha
  have kept := rowsTaken_tp n (countSync s n lanes)
  refine ⟨rowsTaken n (countSync s n lanes), ?_, ?_, ?_, errs⟩
  · unfold fpaRow
    rw [if_neg (not_not.mpr hl.1)]
    extract_lets was c now starts count
    have passes : (!starts && (c.tp n).skip) = false := by
      rw [skips]
      by_cases hs : 32768 ≤ ((lanes.head?).map (·.hdr.toNat)).getD 0
      · rw [show starts = true from decide_eq_true hs]
        rfl
      · rw [skip (by omega), Bool.and_false]
    have turn : (starts && decide (0 < f.next)) = false := by
      by_cases hs : 32768 ≤ ((lanes.head?).map (·.hdr.toNat)).getD 0
      · rw [first hs]
        exact Bool.and_false _
      · rw [show starts = false from decide_eq_false hs]
        rfl
    have holds : now = true := locked
    have await : awaiting c n = some f := waits
    simp only [holds, await, passes, turn, Bool.not_true, Bool.false_eq_true, if_false]
    rfl
  · rw [kept]
    exact frames.symm ▸ awaiting_mem ha
  · exact coefLate_of_coefs ((congrArg TpSt.coefs kept).trans coefs) f

/-! #### FPA_ROW and COEF_ROWS_ARRIVE -/

omit hn in
theorem lost_tp (s : State) (lost : Bool) (a : Nat) : (s.lost lost a).tp n = s.tp n :=
  (congrArg (fun u : State => u.tp n) (s.lost_bookkeeps lost a)).trans rfl

omit hn in
theorem tpTaken_lost (s : State) (lost : Bool) (k : Nat) {a : Nat} (ha : a ≠ R.TP_RACE n) :
    tpTaken (s.lost lost (R.TP_RACE n)) n k a = tpTaken s n k a := by
  rw [tpTaken, tpTaken, lost_tp, State.reg_lost _ _ ha]

omit hn in
theorem tpRace_apart : R.TP_IF_CFG n ≠ R.TP_RACE n ∧ R.TP_SYNC_CODE n ≠ R.TP_RACE n ∧ R.TP_LINK n ≠ R.TP_RACE n := by
  simp only [R.TP_IF_CFG, R.TP_SYNC_CODE, R.TP_LINK, R.TP_RACE]
  omega

omit hn in
theorem RowAligned.of_lost {s : State} {lanes : List FpaLane} (h : RowAligned n s lanes) (lost : Bool) :
    RowAligned n (s.lost lost (R.TP_RACE n)) lanes := by
  obtain ⟨iface, code, link⟩ := tpRace_apart (n := n)
  unfold RowAligned ifWord at *
  rwa [lost_tp, State.bit_of_reg (State.reg_lost _ _ link), tpTaken_lost _ _ _ iface, tpTaken_lost _ _ _ code]

end Ports

theorem execFpaRow_eq {s : State} (hw : s.working = true) (n : Fin 4) (lanes : List FpaLane) (lost : Bool) :
    exec (.fpaRow n lanes {} lost) s =
      .next (tpAfterStop (fpaRow n lanes false false (s.lost lost (R.TP_RACE n))) n) :=
  next_eq (State.whenWorking_true hw _)

theorem execFpaRow_good {s : State} (hw : s.working = true) {n : Fin 4} {f : TFrame} {lanes : List FpaLane}
    (ha : awaiting s n = some f) (hl : RowAligned n s lanes) (hp : RowInPlace n f lanes)
    (skip : f.next ≠ 0 → (s.tp n).skip = false) (coef : coefLate s n f = false) (lost : Bool) :
    Completes (.fpaRow n lanes {} lost) s fun t => ∃ g ∈ (t.tp n).frames, g.id = f.id ∧ g.next = f.next + 1 := by
  have hn := n.isLt
  have tp := lost_tp (n := n) s lost (R.TP_RACE n)
  obtain ⟨number, first, -⟩ := id hp
  obtain ⟨u, placed, mem, late, -⟩ := fpaRow_placed hn ((awaiting_of_frames (congrArg TpSt.frames tp)).trans ha)
    (hl.of_lost lost) first.mp (fun h => (congrArg TpSt.skip tp).trans (skip fun z => absurd (first.mpr z) (by omega)))
    false false
  have coef' : coefLate u n f = false := late.trans ((coefLate_of_coefs (congrArg TpSt.coefs tp) f).trans coef)
  have row : exec (.fpaRow n lanes {} lost) s = .next (tpAfterStop (rowGood u n f lanes) n) := by
    rw [execFpaRow_eq hw, placed, rowPlace_good hp coef']
  refine ⟨_, row, ?_⟩
  beta_reduce
  rw [(tpAfterStop_out hn _).frames]
  exact rowGood_advances hn mem lanes

theorem execFpaRow_misplaced {s : State} (hw : s.working = true) {n : Fin 4} {f : TFrame} {lanes : List FpaLane}
    (ha : awaiting s n = some f) (hl : RowAligned n s lanes) (skip : (s.tp n).skip = false)
    (later : ((lanes.head?).map (·.hdr.toNat)).getD 0 < 32768)
    (wrong : ((lanes.head?).map (·.hdr.toNat)).getD 0 % 2048 ≠ f.next) (lost : Bool) :
    Completes (.fpaRow n lanes {} lost) s fun t => t.bit (R.TP_STATUS n) F.TP_STATUS_ROW_ERR = true ∧
      t.fld (R.TP_LINK n) F.TP_LINK_ROW_ERRS =
        satAdd (2 ^ F.TP_LINK_ROW_ERRS.width - 1) (s.fld (R.TP_LINK n) F.TP_LINK_ROW_ERRS) 1 ∧
      ∀ g ∈ (t.tp n).frames, g.id = f.id → g.lost.isSome = true := by
  have hn := n.isLt
  have tp := lost_tp (n := n) s lost (R.TP_RACE n)
  obtain ⟨u, placed, -, -, errs⟩ := fpaRow_placed hn ((awaiting_of_frames (congrArg TpSt.frames tp)).trans ha)
    (hl.of_lost lost) (fun h => absurd later (by omega)) (fun _ => (congrArg TpSt.skip tp).trans skip) false false
  obtain ⟨flag, count, gone⟩ := rowError_loses hn u f
  have kept := tpAfterStop_out hn (rowError u n f)
  have row : exec (.fpaRow n lanes {} lost) s = .next (tpAfterStop (rowError u n f) n) := by
    rw [execFpaRow_eq hw, placed, rowPlace_misplaced wrong]
  refine ⟨_, row, ?_⟩
  beta_reduce
  rw [kept.rowErr, State.fld_of_reg kept.link, kept.frames, count, errs,
    State.fld_of_reg (State.reg_lost _ _ tpRace_apart.2.2)]
  exact ⟨flag, rfl, gone⟩

/-! #### Coefficients (01 R24, 07 R232, R235; 08 R278) -/

/-- The DRAM address of a frame's coefficients. -/
def nucBase (n : Nat) (f : TFrame) : Nat :=
  (f.reg (R.TP_NUC_BASE_LO n)).toNat + 2 ^ 32 * (f.reg (R.TP_NUC_BASE_HI n)).toNat

/-- How many window rows have their coefficients fetched. -/
def coefsThere (n : Nat) (f : TFrame) : Nat := f.next - (f.blind n).1 + f.ring.length

/-- How many of `k` rows of coefficients the ring takes. -/
def coefsMore (n : Nat) (f : TFrame) (k : Nat) : Nat :=
  min (ringRows f n - f.ring.length) (min k ((f.window n).2 - coefsThere n f))

/-- The coefficients of a window row, as DRAM holds them. -/
def coefRow (s : State) (n : Nat) (f : TFrame) (i : Nat) : List Nat :=
  (List.range (f.cols n)).map fun c => nucEntry s (nucBase n f) (f.cfg n F.TP_FRAME_CFG_NUC_SET) (f.cols n)
    ((f.window n).1 + coefsThere n f + i) c

/-- A frame with further rows of coefficients. -/
def coefsFetched (s : State) (n : Nat) (f : TFrame) (k : Nat) : TFrame :=
  { f with ring := f.ring ++ (List.range (coefsMore n f k)).map (coefRow s n f) }

theorem coefRowsArrive_sound {s : State} {n k : Nat} {f : TFrame} (ha : awaiting s n = some f)
    (hb : nucInDram s (nucBase n f) = true) : coefRowsArrive n k {} s = putFrame s n (coefsFetched s n f k) := by
  unfold nucBase at hb
  unfold coefRowsArrive
  simp only [ha, hb, Bool.not_true, Bool.false_and, State.cond_false, Bool.true_and]
  cases decide (0 < min (ringRows f n - f.ring.length) _) <;> rfl

theorem coefRowsArrive_bad {s : State} {n k : Nat} {f : TFrame} (ha : awaiting s n = some f)
    (hb : nucInDram s (nucBase n f) = true) (hm : 0 < coefsMore n f k) (off : Nat) :
    coefRowsArrive n k ⟨.bad, off⟩ s = loseFrame (eccBad true (nucBase n f + off) s) n f 7 := by
  unfold nucBase at hb
  unfold coefsMore coefsThere at hm
  unfold coefRowsArrive
  simp only [ha, hb, decide_eq_true hm, Bool.not_true, Bool.false_and, State.cond_false, Bool.true_and, State.cond_true]
  rw [if_pos (by decide), nucBase, eccNote]

theorem State.dramOpen_of_bookkeeps {s t : State} (h : Bookkeeps s t) (a n : Nat) : t.dramOpen a n = s.dramOpen a n :=
  (congrArg (fun u : State => u.dramOpen a n) h).trans rfl

theorem State.portByte_of_bookkeeps {s t : State} (h : Bookkeeps s t) (a : Nat) : t.portByte a = s.portByte a := by
  rw [State.portByte, State.portByte, State.dramOpen_of_bookkeeps h, State.byte_of_bookkeeps h,
    show t.dramEpoch = s.dramEpoch from (congrArg State.dramEpoch h).trans rfl]

theorem nucEntry_of_bookkeeps {s t : State} (h : Bookkeeps s t) (base set cols r c : Nat) :
    nucEntry t base set cols r c = nucEntry s base set cols r c := by
  simp only [nucEntry, State.portNat, State.portByte_of_bookkeeps h]

theorem coefsFetched_of_bookkeeps {s t : State} (h : Bookkeeps s t) (n : Nat) (f : TFrame) (k : Nat) :
    coefsFetched t n f k = coefsFetched s n f k := by
  have row : coefRow t n f = coefRow s n f := funext fun i => by simp only [coefRow, nucEntry_of_bookkeeps h]
  rw [coefsFetched, coefsFetched, row]

theorem execCoefRowsArrive_sound {s : State} (hw : s.working = true) {n : Fin 4} {f : TFrame} (k : Fin 33)
    (ha : awaiting s n = some f) (hb : nucInDram s (nucBase n f) = true) (lost : Bool) :
    Completes (.coefRowsArrive n ⟨k, {}⟩ lost) s fun t => coefsFetched s n f k ∈ (t.tp n).frames := by
  have kept := s.lost_bookkeeps lost (R.TP_RACE n)
  have await := (awaiting_of_frames (congrArg TpSt.frames (lost_tp (n := n) s lost (R.TP_RACE n)))).trans ha
  have here := coefRowsArrive_sound (k := k) await ((State.dramOpen_of_bookkeeps kept ..).trans hb)
  refine ⟨_, next_eq (State.whenWorking_true hw _), ?_⟩
  beta_reduce
  rw [(tpAfterStop_out n.isLt _).frames, here, coefsFetched_of_bookkeeps kept]
  exact putFrame_mem (awaiting_mem await) rfl

theorem execCoefRowsArrive_bad {s : State} (hw : s.working = true) {n : Fin 4} {f : TFrame} (k : Fin 33)
    (ha : awaiting s n = some f) (hb : nucInDram s (nucBase n f) = true) (hm : 0 < coefsMore n f k) (off : Nat) (lost : Bool) :
    Completes (.coefRowsArrive n ⟨k, ⟨.bad, off⟩⟩ lost) s fun t =>
      ∀ g ∈ (t.tp n).frames, g.id = f.id → g.lost.isSome = true := by
  have kept := s.lost_bookkeeps lost (R.TP_RACE n)
  have await := (awaiting_of_frames (congrArg TpSt.frames (lost_tp (n := n) s lost (R.TP_RACE n)))).trans ha
  have here := coefRowsArrive_bad await ((State.dramOpen_of_bookkeeps kept ..).trans hb) hm off
  refine ⟨_, next_eq (State.whenWorking_true hw _), ?_⟩
  beta_reduce
  rw [(tpAfterStop_out n.isLt _).frames, here]
  exact loseFrame_lost n.isLt _ f 7

/-! #### Frames that leave (07 R253, R254; log entry 99) -/

/-- What of a port and of its records the stages 5 to 7 of a frame leave as it is. -/
def leaveView (n : Nat) (s : State) :
    List (Nat × Engine) × List (Nat × List Rec) × List TFrame × Option TGap × Option TGap :=
  (s.engines, s.recQ, (s.tp n).frames, (s.tp n).gap, (s.tp n).shutGap)

theorem leaveView_setTp {n : Nat} (s : State) {x : TpSt} (frames : x.frames = (s.tp n).frames := by rfl)
    (gap : x.gap = (s.tp n).gap := by rfl) (shut : x.shutGap = (s.tp n).shutGap := by rfl) :
    leaveView n (s.setTp n x) = leaveView n s := by
  rw [leaveView, State.tp_setTp_self, frames, gap, shut]
  rfl

theorem leaveView_raise (n : Nat) (s : State) (e : Nat) : leaveView n (s.raise e) = leaveView n s :=
  (congrArg (leaveView n) ((Bookkeeps.refl s).raise e)).trans rfl

theorem leaveView_tpFault (n : Nat) (s : State) (f : Fld) : leaveView n (tpFault s n f) = leaveView n s := by
  unfold tpFault State.flagEvent
  split
  · rfl
  · exact (leaveView_raise n _ _).trans rfl

theorem leaveView_portWrite (n : Nat) (s : State) (a : Nat) (bs : List Byte) :
    leaveView n (s.portWrite a bs) = leaveView n s := by
  unfold State.portWrite
  split
  · simp only [leaveView, State.tp, State.write_engines, State.write_recQ, State.write_tps]
  · rfl

theorem State.setReg_tp (s : State) (a : Nat) (v : Word) (n : Nat) : (s.setReg a v).tp n = s.tp n := rfl

/-- A FRAME record of a port without open gaps. -/
theorem emitFrame_record {n : Nat} (hn : n < 4) {s : State} (gap : (s.tp n).gap = none) (shut : (s.tp n).shutGap = none)
    (f : TFrame) (no : Nat) (out : List (List Nat)) : ∃ r : Rec,
      TpOut n ((s.portEmit r).setReg (R.TP_FRAME_NO n) (BitVec.ofNat 32 no)) (emitFrame s n f no out) ∧
        r.typ = 2 ∧ r.src = 0x10 + n ∧ r.pos = f.posWord n ∧ r.time = (f.recTime n).toNat := by
  have open_ : closeShutGap s n = s := by rw [closeShutGap, shut]
  have closed : closeTGap s n = s := by rw [closeTGap, gap]
  unfold emitFrame
  rw [open_, closed]
  dsimp only
  exact ⟨_, emitStat_out hn (writeStats_out (.refl n _) ..) .., rfl, rfl, rfl, rfl⟩

/-- A frame with its position and its flags. -/
def TFrame.marked (f : TFrame) (pos : Option (Int × Bool × Bool)) (flags : Nat) : TFrame :=
  { f with pos := pos, flags := flags }

/-- A complete frame of the run leaves as its FRAME record. -/
theorem leaveDone_record {n : Nat} (s : State) {f : TFrame} {no : Nat} (line : f.lineMode n = false)
    (number : frameNoOf s n f = some no) (held : f.withheld = false) : ∃ u fl out,
      leaveDone s n f = emitFrame u n (f.marked f.pos fl) no out ∧ leaveView n u = leaveView n s := by
  unfold leaveDone
  extract_lets cols rows lagOn key
  rcases stage5 rows f.defs cols (f.cfg n F.TP_FRAME_CFG_DEFECT_EN == 1) with ⟨x5, zeros⟩
  dsimp -zeta only
  extract_lets s1 base inDram prev raw6 g x6 s2 s3 x s4 o7 off h out s5
  have kept2 : leaveView n s2 = leaveView n s :=
    State.cond_induct (p := fun t => leaveView n t = leaveView n s) rfl fun _ => (leaveView_tpFault n s1 _).trans rfl
  have kept3 : leaveView n s3 = leaveView n s := by
    unfold s3
    split
    · exact (leaveView_portWrite n s2 _ _).trans kept2
    · exact kept2
  have kept : leaveView n s5 = leaveView n s :=
    (leaveView_raise n s4 _).trans ((leaveView_setTp s3).trans kept3)
  have engines : s5.engines = s.engines := congrArg (·.1) kept
  have numbered : frameNoOf s5 n h = some no := by
    rw [← number, frameNoOf, frameNoOf, State.engine, State.engine, engines]
  have noLine : g.lineMode n = false := line
  have shown : h.withheld = false := held
  refine ⟨s5, h.flags, out, ?_, kept⟩
  rw [noLine, numbered, if_neg Bool.false_ne_true]
  dsimp only
  exact if_neg fun e => absurd (shown.symm.trans e) Bool.false_ne_true

theorem tpSettle_of_front {n : Nat} {s : State} (h : ∀ f ∈ (s.tp n).frames.head?, f.lost = none) : tpSettle s n = s := by
  unfold tpSettle
  rcases hf : (s.tp n).frames with _ | ⟨f, r⟩
  · rfl
  · have front : f.lost = none := h f (by rw [hf]; rfl)
    simp only [List.length_cons, leaveLosts, hf, front]

/-- A port whose frames have left. -/
def framesGone (n : Nat) (s : State) : State := s.setTp n { s.tp n with frames := [] }

theorem framesGone_tp (n : Nat) (s : State) : (framesGone n s).tp n = { s.tp n with frames := [] } := State.tp_setTp_self ..

theorem leaveView_framesGone (n : Nat) (s : State) :
    leaveView n (framesGone n s) = (s.engines, s.recQ, [], (s.tp n).gap, (s.tp n).shutGap) := by
  rw [leaveView, framesGone_tp]
  rfl

theorem placedFrame_marked (s : State) (n : Nat) (f : TFrame) (fl : Nat) :
    ∃ p, { placedFrame s n f with flags := fl } = f.marked p fl := by
  unfold placedFrame
  split
  · exact ⟨f.pos, rfl⟩
  · exact ⟨_, rfl⟩

/-- The only frame of a port, complete and not lost, goes through stages 5 to 7. -/
theorem sampleComplete_single {n : Nat} {s : State} {f : TFrame} (one : (s.tp n).frames = [f]) (done : f.done = true)
    (kept : f.lost = none) (line : f.lineMode n = false) (pos : f.cfg n F.TP_FRAME_CFG_POS_EN = 0) : ∃ p fl,
      sampleComplete n {} s = tpSettle (leaveDone (framesGone n s) n (f.marked p fl)) n := by
  have waits : frameWaits s n f = false := by
    rw [frameWaits, line, pos]
    rfl
  have settled : tpSettle s n = s := tpSettle_of_front (by
    rw [one]
    intro g hg
    exact Option.some.inj hg ▸ kept)
  unfold sampleComplete
  extract_lets u
  have stays : u = s := settled
  clear_value u
  subst stays
  split
  · next g r front =>
    obtain ⟨rfl, rfl⟩ := List.cons.inj (one.symm.trans front)
    rw [if_neg (by rw [done, waits]; decide)]
    extract_lets g suspect g' x
    obtain ⟨p, marked⟩ : ∃ p, g' = f.marked p g'.flags := placedFrame_marked u n f _
    refine ⟨p, g'.flags, ?_⟩
    rw [← marked]
    split
    · rfl
    · rfl
  · next front => exact absurd (one.symm.trans front) (List.cons_ne_nil _ _)

/-- THERMAL_SAMPLE_COMPLETE with one complete frame in a port (07 R230, R253; log entry 99). -/
theorem execThermalSampleComplete_leaves {s : State} (hw : s.working = true) {n : Fin 4} {f : TFrame} {no : Nat}
    (one : (s.tp n).frames = [f]) (done : f.done = true) (kept : f.lost = none) (number : f.no = some no)
    (held : f.withheld = false) (script : (s.engine (0x10 + n)).startFailed = false) (line : f.lineMode n = false)
    (pos : f.cfg n F.TP_FRAME_CFG_POS_EN = 0) (gap : (s.tp n).gap = none) (shut : (s.tp n).shutGap = none) :
    Completes (.thermalSampleComplete ⟨n, {}⟩) s fun t => (t.tp n).frames = [] ∧
      t.reg (R.TP_FRAME_NO n) = BitVec.ofNat 32 no ∧
      ∃ r more, t.queueOf (0x10 + n) = s.queueOf (0x10 + n) ++ [r] ++ more ∧ r.typ = 2 ∧ r.src = 0x10 + n.val ∧
        r.pos = 0 ∧ r.time = (f.recTime n).toNat := by
  have hn := n.isLt
  obtain ⟨p, fl, completes⟩ := sampleComplete_single one done kept line pos
  have numbered : frameNoOf (framesGone n s) n (f.marked p fl) = some no := by
    unfold frameNoOf
    rw [if_neg]
    · exact number
    · exact fun e => absurd (script.symm.trans e) Bool.false_ne_true
  obtain ⟨u, fl', out, leaves, view⟩ := leaveDone_record (framesGone n s) (f := f.marked p fl) line numbered held
  rw [leaveView_framesGone] at view
  simp only [leaveView, Prod.mk.injEq] at view
  obtain ⟨-, queue, frames, gap', shut'⟩ := view
  have queued : u.queueOf (0x10 + n) = s.queueOf (0x10 + n) := by rw [State.queueOf, State.queueOf, queue]
  obtain ⟨r, emitted, typ, src, at0, time⟩ := emitFrame_record hn (gap'.trans gap) (shut'.trans shut)
    ((f.marked p fl).marked p fl') no out
  have position : r.pos = 0 := at0.trans (if_neg (by
    show ¬ (f.cfg n F.TP_FRAME_CFG_POS_EN = 1 ∨ f.lineMode n = true)
    rw [pos, line]
    decide))
  have left : ((emitFrame u n ((f.marked p fl).marked p fl') no out).tp n).frames = [] :=
    emitted.frames.trans (Eq.trans (congrArg TpSt.frames (State.setReg_tp ..))
      ((State.portEmit_out hn (.refl n u) src).frames.trans frames))
  have settled : sampleComplete n {} s = emitFrame u n ((f.marked p fl).marked p fl') no out := by
    rw [completes, leaves]
    exact tpSettle_of_front (fun g hg => nomatch (congrArg List.head? left) ▸ hg)
  have whole := emitted.trans (tpAfterStop_out hn _)
  obtain ⟨more, further⟩ := whole.queue
  refine ⟨_, next_eq (State.whenWorking_true hw _), ?_⟩
  beta_reduce
  rw [settled]
  refine ⟨(tpAfterStop_out hn _).frames.trans left, whole.frameNo.trans (State.reg_setReg_self ..), r, more, ?_, typ, src,
    position, time⟩
  rw [← further, ← queued, ← src, State.queueOf, State.setReg_recQ, ← State.queueOf, State.portEmit_queueOf]

/-! #### What the commands of a boundary leave of it (07 R225, R240, R244, R251; 08 R258, R264) -/

section Ports

variable {n : Nat} (hn : n < 4)

include hn

/-! ##### References, drift and the defect table -/

theorem latchRefs_out {s t : State} (h : TpOut n s t) : TpOut n s (latchRefs t n) := by
  have quiet : ∀ k, TpQuiet n (R.TP_REF_T n k) := fun k => by
    simp only [TpQuiet, R.TP_REF_T]
    omega
  have temp : TpQuiet n (R.TP_TEMP n) ∧ TpQuiet n (R.TP_REF_STATUS n) := by
    simp only [TpQuiet, R.TP_TEMP, R.TP_REF_STATUS]
    omega
  unfold latchRefs
  extract_lets w x val stale bits old r u v z
  have latched : TpOut n s z :=
    ((((h.setReg _ temp.1).setReg _ (quiet 0)).setReg _ (quiet 1)).setReg _ (quiet 2)).setReg _ temp.2
  exact State.cond_induct (p := TpOut n s) latched fun _ => latched.raise hn _

omit hn in
theorem tpQuiet_defs : TpQuiet n (R.TP_DEF_STATUS n) ∧ TpQuiet n (R.TP_DEF_OVERFLOWS n) ∧
    ∀ k, TpQuiet n (R.TP_DEF n k) := by
  simp only [TpQuiet, R.TP_DEF_STATUS, R.TP_DEF_OVERFLOWS, R.TP_DEF]
  exact ⟨by omega, by omega, fun k => by omega⟩

omit hn in
theorem showDefs_out {s t : State} (h : TpOut n s t) (old : List Word) : TpOut n s (showDefs t n old) := by
  obtain ⟨status, -, entry⟩ := tpQuiet_defs (n := n)
  unfold showDefs
  extract_lets new u
  refine TpOut.setFld (h.foldl (fun u k hu => ?_) _) _ _ status
  dsimp only
  split
  · exact hu
  · exact hu.setReg _ (entry k)

theorem applyEdit_out {s t : State} (h : TpOut n s t) (e : Word) : TpOut n s (applyEdit n t e) := by
  unfold applyEdit
  extract_lets x w
  split
  · exact h.setTp
  · split
    · exact h.setTp
    · exact ((h.satInc _ tpQuiet_defs.2.1).status _ (by unfold StatusApart; decide)).raise hn _

theorem applyEdits_out {s t : State} (h : TpOut n s t) : TpOut n s (applyEdits t n) := by
  unfold applyEdits
  extract_lets x u
  split
  · exact h
  · have edited : TpOut n s u := TpOut.foldl h.setTp (fun _ e hu => applyEdit_out hn hu e) _
    exact showDefs_out (edited.setFld _ _ tpQuiet_defs.1) _

/-! ##### The shutter -/

omit hn in
theorem tpQuiet_shut : TpQuiet n (R.TP_SHUT_COUNT n) ∧ TpQuiet n (R.TP_SHUT_LAST_LO n) ∧
    TpQuiet n (R.TP_SHUT_LAST_LO n + 4) ∧ TpQuiet n (R.TP_RAD_CFG n) ∧ TpQuiet n (R.TP_ANCHOR n) ∧
      TpQuiet n (R.TP_ANCHOR_TH n) ∧ TpQuiet n (R.TP_ANCHOR_TL n) := by
  simp only [TpQuiet, R.TP_SHUT_COUNT, R.TP_SHUT_LAST_LO, R.TP_RAD_CFG, R.TP_ANCHOR, R.TP_ANCHOR_TH, R.TP_ANCHOR_TL]
  omega

theorem shutAbort_out {s t : State} (h : TpOut n s t) (why : Nat) : TpOut n s (shutAbort why t n) := by
  have quiet : TpQuiet n (R.TP_SHUT_STATUS n) := tpQuiet_shutStatus
  unfold shutAbort
  extract_lets x a
  split
  · exact h
  · next e _ =>
    split
    · exact h
    · extract_lets u v w z
      have opened : TpOut n s v := shutMove_out h.setTp ..
      have flagged : TpOut n s z :=
        (((opened.setBit _ _ quiet).satInc _ tpQuiet_shut.1).setFld _ _ quiet).setFld _ _ quiet
      exact (shutShow_out flagged).raise hn _

theorem shutStart_out {s t : State} (h : TpOut n s t) : TpOut n s (shutStart t n) := by
  unfold shutStart
  extract_lets x cfg
  split
  · exact h.setTp
  · split
    · exact h.setTp
    · extract_lets ev u
      have started : TpOut n s u := h.setTp
      exact (shutShow_out (shutMove_out started ..)).raise hn _

omit hn in
theorem persist_out {s t : State} (h : TpOut n s t) : TpOut n s (persist t n) := by
  have quiet : TpQuiet n (R.TP_SHUT_STATUS n) := tpQuiet_shutStatus
  unfold persist
  extract_lets a q ms geom len src crc
  split
  · have queued : TpOut n s { t with ms := { ms with vault := q } } := h.trans (.of_eq rfl rfl rfl rfl rfl rfl)
    exact (queued.setBit _ _ quiet).setBit _ _ quiet
  · extract_lets req u
    have queued : TpOut n s u := h.trans (.of_eq rfl rfl rfl rfl rfl rfl)
    exact queued.setBit _ _ quiet

theorem shutEffect_out {s t : State} (h : TpOut n s t) (e : ShutEv) : TpOut n s (shutEffect t n e) := by
  obtain ⟨count, lo, hi, rad, anchor, th, tl⟩ := tpQuiet_shut (n := n)
  unfold shutEffect
  extract_lets x u v w z y
  have begun : TpOut n s u := h.setTp
  have anchored : TpOut n s v := by
    unfold v
    split
    · exact (((begun.setReg _ anchor).setReg _ th).setReg _ tl).setBit _ _ rad
    · exact begun
  have shown : TpOut n s y :=
    ((((anchored.status _ (by unfold StatusApart; decide)).setReg _ lo).setReg _ hi).setReg _ count).setFld _ _
      tpQuiet_shutStatus
  exact (persist_out (shutShow_out shown)).raise hn _

omit hn in
theorem TpOut.ite_fst {α : Type} {s : State} {c : Prop} [Decidable c] {x y : State × α} (hx : TpOut n s x.1)
    (hy : TpOut n s y.1) : TpOut n s (if c then x else y).1 := by
  split
  · exact hx
  · exact hy

theorem shutBoundary_out {s t : State} (h : TpOut n s t) (changed : Bool) :
    TpOut n s (shutBoundary t n changed).1 := by
  unfold shutBoundary
  extract_lets setEv begun
  have setEv_out : ∀ u e, TpOut n s u → TpOut n s (setEv u e) := fun u e hu => shutShow_out hu.setTp
  have begun_out : ∀ u, TpOut n s u → TpOut n s (begun u).1 := fun u hu => shutStart_out hn hu
  split
  · exact begun_out _ h
  · next e _ =>
    extract_lets sense closed averaged
    have averaged_out : ∀ e, TpOut n s (averaged t e).1 := fun e =>
      .ite_fst (shutAbort_out hn h _) (.ite_fst (shutAbort_out hn h _) (setEv_out _ _ h))
    exact .ite_fst (.ite_fst (begun_out _ h.setTp) h.setTp)
      (.ite_fst (shutAbort_out hn h _) (.ite_fst (shutAbort_out hn h _)
        (.ite_fst (.ite_fst (averaged_out _) (setEv_out _ _ h)) (.ite_fst (averaged_out e) (.ite_fst h
          (.ite_fst (setEv_out _ _ h) (.ite_fst (shutAbort_out hn h _) (shutEffect_out hn h e))))))))

/-! ##### The set taken, the lock and the frames that expire -/

omit hn in
theorem tpQuiet_take : R.TP_STATUS n ≠ R.TP_CTRL n ∧ R.TP_IF_CFG n ≠ R.TP_CTRL n ∧ TpQuiet n (R.TP_COMMIT_TAKEN_LO n) ∧
    TpQuiet n (R.TP_COMMIT_TAKEN_LO n + 4) ∧ TpQuiet n (R.TP_LINE_CFG n) := by
  simp only [TpQuiet, R.TP_STATUS, R.TP_CTRL, R.TP_IF_CFG, R.TP_COMMIT_TAKEN_LO, R.TP_LINE_CFG]
  omega

omit hn in
theorem takeShadows_runs (l : List Nat) : ∀ s : State, TpRuns n s (s.takeShadows l) := by
  induction l with
  | nil => exact .refl n
  | cons a l ih =>
    intro s
    have first : TpRuns n s (s.setInForce a (s.reg a)) := ⟨rfl, rfl, List.prefix_refl _, rfl, rfl⟩
    exact first.trans (ih _)

omit hn in
theorem TpRuns.setCtrl {s t : State} (h : TpRuns n s t) (f : Fld) (v : Bool) :
    TpRuns n s (t.setBit (R.TP_CTRL n) f v) := by
  obtain ⟨status, iface, -, -, -⟩ := tpQuiet_take (n := n)
  exact h.trans ⟨rfl, rfl, List.prefix_refl _, State.bit_of_reg (State.reg_setBit_ne _ _ _ status) _,
    State.reg_setBit_ne _ _ _ iface⟩

omit hn in
theorem tpUnit_take_runs (s : State) : TpRuns n s ((tpUnit n).take s) := by
  obtain ⟨-, -, lo, hi, -⟩ := tpQuiet_take (n := n)
  unfold CommitUnit.take
  split
  · extract_lets u
    have cleared : TpRuns n s u := (takeShadows_runs (tpUnit n).regs s).setCtrl F.TP_CTRL_COMMIT_PENDING false
    exact cleared.trans (((TpOut.refl n u).setReg _ lo).setReg _ hi).toTpRuns
  · exact .refl n s

omit hn in
theorem coefFetch_out {s t : State} (h : TpOut n s t) : TpOut n s (coefFetch t n) :=
  TpOut.setBit h.setTp _ _ tpQuiet_take.2.2.2.2

theorem tpTakeSet_runs (s : State) : TpRuns n s (tpTakeSet s n).1 := by
  unfold tpTakeSet
  split
  · exact .refl n s
  · extract_lets old u changed v w z
    have taken : TpRuns n s u := tpUnit_take_runs s
    have renewed : TpRuns n u w := ((TpOut.refl n u).setTp.status _ (by unfold StatusApart; decide)).toTpRuns
    have fetched : TpOut n w (coefFetch (w.raise (Ev.tp n 3)) n) := coefFetch_out ((TpOut.refl n w).raise hn _)
    show TpRuns n s z
    unfold z
    split
    · exact (taken.trans renewed).trans fetched.toTpRuns
    · exact taken

omit hn in
theorem tpTakeSet_idle {s : State} (h : (tpUnit n).waits s = false) : tpTakeSet s n = (s, false) :=
  if_pos (.inl (by rw [h]; rfl))
omit hn in
/-- A fault flag of TP_n_STATUS beside RUNNING. -/
theorem TpBound.status {s t : State} (h : TpBound n s t) {f : Fld} (v : Nat) (lo : 1 ≤ f.lo) (hi : f.lo + f.width ≤ 32) :
    TpBound n s (t.setFld (R.TP_STATUS n) f v) := by
  have others : ∀ a, a ≠ R.TP_STATUS n → (t.setFld (R.TP_STATUS n) f v).reg a = t.reg a := fun _ ha =>
    State.reg_setFld_ne _ _ _ ha
  have running : (t.setFld (R.TP_STATUS n) f v).bit (R.TP_STATUS n) F.TP_STATUS_RUNNING =
      t.bit (R.TP_STATUS n) F.TP_STATUS_RUNNING := by
    rw [State.bit, State.bit, State.fld_setFld_apart (g := F.TP_STATUS_RUNNING) _ _ _ _ hi (.inl lo)]
  refine h.trans ⟨⟨rfl, rfl, List.prefix_refl _, running, others _ ?_⟩, others _ ?_, rfl⟩ <;>
  simp only [R.TP_STATUS, R.TP_IF_CFG, R.TP_CTRL, ne_eq] <;> omega

omit hn in
theorem TpBound.link {s t : State} (h : TpBound n s t) (f : Fld) (v : Nat) :
    TpBound n s (t.setFld (R.TP_LINK n) f v) := by
  have others : ∀ a, a ≠ R.TP_LINK n → (t.setFld (R.TP_LINK n) f v).reg a = t.reg a := fun _ ha =>
    State.reg_setFld_ne _ _ _ ha
  refine h.trans ⟨⟨rfl, rfl, List.prefix_refl _, State.bit_of_reg (others _ ?_) _, others _ ?_⟩, others _ ?_, rfl⟩ <;>
  simp only [R.TP_STATUS, R.TP_IF_CFG, R.TP_CTRL, R.TP_LINK, ne_eq] <;> omega

theorem tpFault_bound {s t : State} (h : TpBound n s t) {f : Fld} (lo : 1 ≤ f.lo) (hi : f.lo + f.width ≤ 32) :
    TpBound n s (tpFault t n f) := by
  unfold tpFault State.flagEvent
  split
  · exact h
  · have flagged := h.status (f := f) 1 lo hi
    exact flagged.trans ((TpOut.refl n _).raise hn _).toTpBound

theorem expireFrames_bound (s : State) : TpBound n s (expireFrames s n) := by
  unfold expireFrames
  refine List.foldlRecOn _ _ (TpBound.refl n s) fun u hu f _ => ?_
  split
  · exact (tpFault_bound hn hu (by decide) (by decide)).trans (loseFrame_settled hn _ f 7).toTpBound
  · exact hu

theorem showLock_bound {s t : State} (h : TpBound n s t) : TpBound n s (showLock t n) := by
  obtain ⟨lanes, r, shown⟩ := showLock_out hn t
  have link : TpBound n t (((lockShown n lanes ((List.range (lanesOf (ifWord t n))).all fun i =>
      decide (4 ≤ (t.tp n).hits.getD i 0)) t)).setBit (R.TP_LINK n) F.TP_LINK_PORT_READY r) :=
    (((TpBound.refl n t).link _ _).link _ _).link _ _
  exact h.trans (link.trans shown.toTpBound)

/-- The settings that a boundary takes, and the divider of MCLK. -/
def geoTaken (n : Nat) (s : State) : State :=
  s.setTp n { s.tp n with geo := tpSettings s n, mclk := mclkDiv (s.reg (R.TP_IF_CFG n)) }

omit hn in
theorem geoTaken_tp (n : Nat) (s : State) :
    (geoTaken n s).tp n = { s.tp n with geo := tpSettings s n, mclk := mclkDiv (s.reg (R.TP_IF_CFG n)) } :=
  State.tp_setTp_self ..

omit hn in
theorem TpBound.setTp {s t : State} (h : TpBound n s t) {x : TpSt}
    (hx : tpCore x = tpCore (t.tp n) := by unfold tpCore; rfl) : TpBound n s (t.setTp n x) :=
  h.trans ⟨⟨rfl, (congrArg tpCore (State.tp_setTp_self ..)).trans hx, List.prefix_refl _, rfl, rfl⟩, rfl, rfl⟩

theorem takeGeo_bound (s : State) : TpBound n (geoTaken n s) (takeGeo s n) := by
  unfold takeGeo
  extract_lets x u
  have taken : TpBound n (geoTaken n s) u := .refl n _
  split
  · extract_lets same relock moved v
    have cleared : TpBound n (geoTaken n s) v := taken.setTp
    split
    · exact showLock_bound hn cleared.setTp
    · exact cleared
  · exact taken

omit hn in
theorem startSlots_runs (s : State) (taken : Bool) : TpRuns n s (startSlots s n taken) := by
  unfold startSlots
  split
  · have begun : TpOut n s ((s.setTp n { s.tp n with slot := 0 }).setBit (R.TP_STATUS n) F.TP_STATUS_FPA_WRITING true) :=
      (TpOut.refl n s).setTp.status _ (by unfold StatusApart; decide)
    exact begun.toTpRuns.trans ⟨rfl, rfl, List.prefix_append _ _, rfl, rfl⟩
  · exact .refl n s
/-! ##### The boundary -/

/-- The instant that a boundary of a port's own timer brings device time to. -/
def boundaryReached (n : Nat) (s : State) : State :=
  match (s.tp n).boundary.map (· + framePeriod s n) with
  | some t => s.reach t
  | none => s

/-- A port as its boundary first sets it. -/
def boundarySet (n : Nat) (s : State) : State :=
  let u := boundaryReached n s
  let spacing := match (s.tp n).boundary with
    | some b => u.now - b
    | none => framePeriod u n
  (u.setTp n { s.tp n with stage := 3, boundary := some u.now, spacing := spacing, count := (s.tp n).count + 1,
                           due := none }).setBit (R.TP_STATUS n) F.TP_STATUS_RUNNING true

/-- The port's state when the settings of a boundary are taken. -/
def boundaryGeo (n : Nat) (s : State) : State := takeGeo (expireFrames (boundarySet n s) n) n

/-- The pulse of a boundary. -/
def boundarySync (n : Nat) (s : State) : Out :=
  .frameSync n s.now (max 1 ((s.inForce (R.TP_FRAME_CFG n)).get F.TP_FRAME_CFG_SYNC_W)) (s.tp n).mclk
    ((ifWord s n).get F.TP_IF_CFG_SYNC_INV == 1)

omit hn in
theorem TpRuns.mclk {s t : State} (h : TpRuns n s t) : (t.tp n).mclk = (s.tp n).mclk := congrArg (·.2.2.2.1) h.port

omit hn in
theorem TpRuns.now {s t : State} (h : TpRuns n s t) : t.now = s.now := by rw [State.now, h.tm, State.now]

omit hn in
theorem TpRuns.ifWord {s t : State} (h : TpRuns n s t) : ifWord t n = ifWord s n := by
  have geo : (t.tp n).geo = (s.tp n).geo := congrArg (·.2.2.2.2) h.port
  rw [Machine.ifWord, tpTaken, geo, h.iface]
  rfl

omit hn in
theorem boundarySync_of_bound {s t : State} (h : TpBound n s t) : boundarySync n t = boundarySync n s := by
  rw [boundarySync, h.toTpRuns.ifWord, h.toTpRuns.mclk, State.now, h.tm, State.inForce, h.act]
  rfl

omit hn in
theorem tpQuiet_drift : TpQuiet n (R.TP_DRIFT_DT n) ∧ TpQuiet n (R.TP_RATE n) := by
  simp only [TpQuiet, R.TP_DRIFT_DT, R.TP_RATE]
  omega

omit hn in
theorem waits_of_bound {s t : State} (h : TpBound n s t) : (tpUnit n).waits t = (tpUnit n).waits s :=
  State.bit_of_reg h.ctrl _

/-- A boundary of a port's own timer sends its pulse, and what follows leaves it. -/
theorem frameBoundary_sends {s : State} (stage : 2 ≤ (s.tp n).stage) (up : (s.engine (0x10 + n)).upOk = true)
    (own : s.actBit (R.TP_FRAME_CFG n) F.TP_FRAME_CFG_SYNC_SRC = false) : ∃ z, TpRuns n (boundaryGeo n s) z ∧
      ((tpUnit n).waits (boundaryGeo n s) = false → z.act = (boundaryGeo n s).act) ∧
      TpRuns n (z.emit (boundarySync n z)) (frameBoundary n s) := by
  unfold frameBoundary
  extract_lets x e timer u sp v r g fpa y h waited
  have noTimer : timer = false := own
  rw [if_neg (by
    rw [noTimer, show e.upOk = true from up]
    simp only [Bool.true_or, Bool.not_true, Bool.false_and, Bool.false_eq_true, or_false, not_lt]
    exact stage)]
  have reached : u = boundaryReached n s := by
    unfold u
    rw [noTimer]
    rfl
  have geo : g = boundaryGeo n s := by
    simp only [g, r, v, sp, reached]
    rfl
  have begun : TpBound n g h := (TpBound.refl n g).setTp
  have idle : (tpUnit n).waits g = false → tpTakeSet h n = (h, false) := fun w =>
    tpTakeSet_idle ((waits_of_bound begun).trans w)
  have runs := tpTakeSet_runs hn h
  dsimp -zeta only
  extract_lets taken b c d no w high low live f1 f2 late f3 k p z
  have edited : TpOut n (tpTakeSet h n).1 b := applyEdits_out hn (latchRefs_out hn (.refl n _))
  have drifted : TpOut n (tpTakeSet h n).1 c := (edited.setFld _ _ tpQuiet_drift.1).setFld _ _ tpQuiet_drift.2
  have ranged : TpOut n (tpTakeSet h n).1 d := State.cond_induct (p := TpOut n _) drifted fun _ =>
    flagEvent_out hn drifted (by unfold StatusApart; decide) _
  have shut := shutBoundary_out hn ranged (tpTakeSet h n).2
  have fetched : TpOut n (shutBoundary d n (tpTakeSet h n).2).1 k := State.cond_induct (p := TpOut n _) (.refl n _) fun _ =>
    tpFault_out hn (.refl n _) (by unfold StatusApart; decide)
  have framed : TpBound n (shutBoundary d n (tpTakeSet h n).2).1 z := fetched.toTpBound.trans (TpBound.refl n k).setTp
  have shown : TpBound n (tpTakeSet h n).1 z := shut.toTpBound.trans framed
  have after : TpRuns n (z.emit (boundarySync n z)) (startSlots (tpSettle (z.emit (boundarySync n z)) n) n taken) :=
    (tpSettle_settled hn _).toTpRuns.trans (startSlots_runs _ taken)
  have pulse : boundarySync n z = .frameSync n z.now high (z.tp n).mclk low := by
    rw [boundarySync_of_bound framed, framed.toTpRuns.mclk, framed.toTpRuns.now]
    rfl
  rw [pulse] at after
  rw [← geo]
  refine ⟨z, (begun.toTpRuns.trans runs).trans shown.toTpRuns, fun w => ?_, pulse.symm ▸ after⟩
  rw [shown.act, idle w]
  exact begun.act

end Ports

/-! #### FRAME_BOUNDARY (07 R225, R244, R246) -/

section Ports

variable {n : Nat} (hn : n < 4)

theorem boundaryReached_regs (s : State) : (boundaryReached n s).regs = s.regs ∧ (boundaryReached n s).act = s.act := by
  unfold boundaryReached
  split <;> exact ⟨rfl, rfl⟩

theorem boundaryReached_now (s : State) : (boundaryReached n s).now =
    ((s.tp n).boundary.map (fun b => max s.now (b + framePeriod s n))).getD s.now := by
  unfold boundaryReached
  cases (s.tp n).boundary <;> rfl

/-- What a boundary has set of its port, and what it has kept, when its settings are taken. -/
structure BoundaryAt (n : Nat) (s t : State) : Prop where
  stage : (t.tp n).stage = 3
  count : (t.tp n).count = (s.tp n).count + 1
  boundary : (t.tp n).boundary = some t.now
  mclk : (t.tp n).mclk = mclkDiv (s.reg (R.TP_IF_CFG n))
  iface : ifWord t n = s.reg (R.TP_IF_CFG n)
  now : t.now = (boundaryReached n s).now
  running : t.bit (R.TP_STATUS n) F.TP_STATUS_RUNNING = true

theorem TpRuns.boundaryAt {s t u : State} (h : TpRuns n t u) (k : BoundaryAt n s t) : BoundaryAt n s u := by
  have port := h.port
  simp only [tpCore, Prod.mk.injEq] at port
  obtain ⟨stage, count, boundary, mclk, -⟩ := port
  exact ⟨stage.trans k.stage, count.trans k.count, boundary.trans (k.boundary.trans (congrArg some h.now.symm)),
    mclk.trans k.mclk, h.ifWord.trans k.iface, h.now.trans k.now, h.running.trans k.running⟩

theorem boundarySet_iface (s : State) : (boundarySet n s).reg (R.TP_IF_CFG n) = s.reg (R.TP_IF_CFG n) := by
  have apart : R.TP_IF_CFG n ≠ R.TP_STATUS n := by
    simp only [R.TP_IF_CFG, R.TP_STATUS]
    omega
  unfold boundarySet
  rw [State.reg_setBit_ne _ _ _ apart]
  exact State.reg_of_regs (boundaryReached_regs s).1 _

theorem boundarySet_ctrl (s : State) : (boundarySet n s).reg (R.TP_CTRL n) = s.reg (R.TP_CTRL n) := by
  have apart : R.TP_CTRL n ≠ R.TP_STATUS n := by
    simp only [R.TP_CTRL, R.TP_STATUS]
    omega
  unfold boundarySet
  rw [State.reg_setBit_ne _ _ _ apart]
  exact State.reg_of_regs (boundaryReached_regs s).1 _

theorem boundarySet_core (s : State) : ∃ m w, tpCore ((boundarySet n s).tp n) =
    (3, (s.tp n).count + 1, some (boundaryReached n s).now, m, w) := by
  unfold boundarySet
  rw [State.setBit, State.setFld, State.setReg_tp, State.tp_setTp_self]
  exact ⟨_, _, rfl⟩

include hn

theorem boundaryGeo_at (s : State) : BoundaryAt n s (boundaryGeo n s) := by
  have expired := expireFrames_bound hn (boundarySet n s)
  obtain ⟨m, w, core⟩ := boundarySet_core (n := n) s
  have iface := expired.iface.trans (boundarySet_iface s)
  have port := expired.port.trans core
  simp only [tpCore, Prod.mk.injEq] at port
  obtain ⟨stage, count, boundary, -, -⟩ := port
  have now : (expireFrames (boundarySet n s) n).now = (boundaryReached n s).now := expired.toTpRuns.now
  have taken := geoTaken_tp n (expireFrames (boundarySet n s) n)
  refine (takeGeo_bound hn _).toTpRuns.boundaryAt ⟨?_, ?_, ?_, ?_, ?_, now, ?_⟩
  · rw [taken]
    exact stage
  · rw [taken]
    exact count
  · rw [taken]
    exact boundary.trans (congrArg some now.symm)
  · rw [taken]
    exact congrArg mclkDiv iface
  · rw [ifWord, tpTaken, taken]
    exact iface
  · exact expired.running.trans (State.bit_setBit_self _ _ 0 true (by decide))

theorem boundaryGeo_kept (s : State) : (boundaryGeo n s).act = s.act ∧
    (tpUnit n).waits (boundaryGeo n s) = (tpUnit n).waits s := by
  have expired := expireFrames_bound hn (boundarySet n s)
  have taken := takeGeo_bound hn (expireFrames (boundarySet n s) n)
  refine ⟨taken.act.trans (expired.act.trans (boundaryReached_regs s).2), ?_⟩
  exact State.bit_of_reg (taken.ctrl.trans (expired.ctrl.trans (boundarySet_ctrl s))) _

end Ports

theorem framePeriod_lost (s : State) (lost : Bool) (a n : Nat) : framePeriod (s.lost lost a) n = framePeriod s n :=
  (congrArg (framePeriod · n) (s.lost_bookkeeps lost a)).trans rfl

theorem State.inForce_of_act {s t : State} (h : t.act = s.act) (a : Nat) : t.inForce a = s.inForce a := by
  rw [State.inForce, State.inForce, h]

theorem tpRace_ctrl {n : Nat} : R.TP_CTRL n ≠ R.TP_RACE n := by
  simp only [R.TP_CTRL, R.TP_RACE]
  omega

/-- FRAME_BOUNDARY of a port that was brought up, under its own timer. -/
theorem execFrameBoundary_starts {s : State} (hw : s.working = true) {n : Fin 4} (stage : 2 ≤ (s.tp n).stage)
    (up : (s.engine (0x10 + n)).upOk = true) (own : s.actBit (R.TP_FRAME_CFG n) F.TP_FRAME_CFG_SYNC_SRC = false)
    (lost : Bool) :
    Completes (.frameBoundary n lost) s fun t => (t.tp n).stage = 3 ∧ (t.tp n).count = (s.tp n).count + 1 ∧
      (t.tp n).boundary = some t.now ∧ t.bit (R.TP_STATUS n) F.TP_STATUS_RUNNING = true ∧
      t.now = ((s.tp n).boundary.map (fun b => max s.now (b + framePeriod s n))).getD s.now ∧
      ∃ w low, .frameSync n t.now w (mclkDiv (s.reg (R.TP_IF_CFG n))) low ∈ t.out ∧ ((tpUnit n).waits s = false →
        w = max 1 (s.actFld (R.TP_FRAME_CFG n) F.TP_FRAME_CFG_SYNC_W) ∧
        low = ((s.reg (R.TP_IF_CFG n)).get F.TP_IF_CFG_SYNC_INV == 1)) := by
  have hn := n.isLt
  have kept := s.lost_bookkeeps lost (R.TP_RACE n)
  have tp : (s.lost lost (R.TP_RACE n)).tp n = s.tp n := lost_tp s lost _
  have act : (s.lost lost (R.TP_RACE n)).act = s.act := (congrArg State.act kept).trans rfl
  have ctrl : (s.lost lost (R.TP_RACE n)).reg (R.TP_CTRL n) = s.reg (R.TP_CTRL n) := State.reg_lost _ _ tpRace_ctrl
  have iface : (s.lost lost (R.TP_RACE n)).reg (R.TP_IF_CFG n) = s.reg (R.TP_IF_CFG n) := State.reg_lost _ _ tpRace_apart.1
  have up' : ((s.lost lost (R.TP_RACE n)).engine (0x10 + n)).upOk = true :=
    ((congrArg (fun u : State => (u.engine (0x10 + n)).upOk) kept).trans rfl).trans up
  obtain ⟨z, geo, idle, sent⟩ := frameBoundary_sends hn (s := s.lost lost (R.TP_RACE n)) (tp ▸ stage) up'
    (by rw [State.actBit, State.actFld, State.inForce_of_act act]; exact own)
  have started := boundaryGeo_at hn (s.lost lost (R.TP_RACE n))
  obtain ⟨geoAct, geoWaits⟩ := boundaryGeo_kept hn (s.lost lost (R.TP_RACE n))
  have pulse := geo.boundaryAt started
  have emitted : TpRuns n z (z.emit (boundarySync n z)) := ⟨rfl, rfl, List.prefix_append _ _, rfl, rfl⟩
  have ends := sent.trans (tpAfterStop_out hn _).toTpRuns
  obtain ⟨stage', count, boundary, -, -, now, running⟩ := (emitted.trans ends).boundaryAt pulse
  have sync : boundarySync n z ∈ (tpAfterStop (frameBoundary n (s.lost lost (R.TP_RACE n))) n).out :=
    ends.out.subset (List.mem_append_right _ (List.mem_singleton_self _))
  rw [boundarySync, pulse.mclk, pulse.iface, iface, ← (emitted.trans ends).now] at sync
  refine ⟨_, next_eq (State.whenWorking_true hw _), stage', count.trans (by rw [tp]), boundary, running, ?_, _, _, sync,
    fun w => ⟨?_, rfl⟩⟩
  · rw [now, boundaryReached_now, tp, framePeriod_lost]
    exact congrArg (fun a => Option.getD (Option.map (fun b => max a (b + framePeriod s n)) (s.tp n).boundary) a)
      ((congrArg State.now kept).trans rfl)
  · rw [State.inForce_of_act ((idle (geoWaits.trans ((State.bit_of_reg ctrl _).trans w))).trans (geoAct.trans act))]
    rfl

/-- Settles O19: the rules of a boundary, of a row in and out of its place, of the coefficients and of a frame that
leaves. -/
theorem thermalFrames : Obligations.ThermalFrames := by
  intro s n hw
  refine ⟨fun stage up own lost => execFrameBoundary_starts hw stage up own lost, ?_, ?_, ?_, ?_, ?_⟩
  · intro f lanes await aligned place coef lost
    obtain ⟨number, first, skip, length⟩ := place
    exact execFpaRow_good hw await aligned ⟨number, first, length⟩ skip coef lost
  · intro f lanes await aligned skip later wrong lost
    exact execFpaRow_misplaced hw await aligned skip later wrong lost
  · intro f k base await isBase dram there_ more lost
    subst isBase
    obtain ⟨t, run, fetched⟩ := execCoefRowsArrive_sound hw k await dram lost
    exact ⟨t, run, coefsFetched s n f k, fetched, rfl, rfl, rfl, rfl⟩
  · intro f k off await rows window ring dram lost
    refine execCoefRowsArrive_bad hw k await dram ?_ off lost
    unfold coefsMore coefsThere
    omega
  · intro f no one done kept number held script line pos gap shut
    exact execThermalSampleComplete_leaves hw one done kept number held script line pos gap shut

end Sys2Proof.Machine

/-!
The proofs of the family 02_spore_and_startup: what no command undoes, the operations of the scripts, and
the mailbox.
-/

namespace Sys2Proof.Machine

/-! ### What no command undoes (02 R65, 19 R558, R571) -/

/-- The queue, what was sent and the fuses, whatever the command: AON_LATCH_CLEAR keeps them of the state whose latch it
has just cleared. -/
theorem exec_takesNothingBack {i : Instr} {s t : State} (e : exec i s = .next t) :
    t.pending = s.pending ∧ (∃ more, t.out = s.out ++ more) ∧ s.root.arbFused ≤ t.root.arbFused := by
  by_cases c : i = .aonLatchClear
  · subst c
    have kept := execAonLatchClear_keep (.refl false false _) t e
    exact ⟨kept.pending, kept.out, kept.arb⟩
  · have kept := exec_keep s i c t e
    exact ⟨kept.pending, kept.out, kept.arb⟩

theorem aonDown_latch (s : State) : (aonDown s).pwr.latch = s.pwr.latch := (powerOff_aon s).2.2.1

/-- Settles O4: every command but AON_LATCH_CLEAR keeps a set latch by `exec_keep`; that one clears it first. -/
theorem nothingGoesBack : Obligations.NothingGoesBack := by
  intro i s
  obtain ⟨t, e⟩ := exec_answers i s
  obtain ⟨pending, out, fused⟩ := exec_takesNothingBack e
  exact ⟨⟨t, e, pending, out, fused, fun c latch => (exec_keep s i c t e).latch latch⟩,
    _, rfl, aonDown_latch _, rfl⟩

/-! ### ScriptOperations: the operations of a script (02 R58, R59, 04 R134, 06 R204 to R206, 07 R224) -/

/-! #### What follows a step of an engine leaves of it -/

/-- What a script's own step has set, as the port or the chain then leaves it: the engines, the time, the registers that
show the script, and what was sent. -/
structure ScriptKept (k : Nat) (s t : State) : Prop where
  engines : t.engines = s.engines
  tm : t.tm = s.tm
  script : t.reg (scriptReg k) = s.reg (scriptReg k)
  value : t.reg (scriptReadReg k) = s.reg (scriptReadReg k)
  fail : t.bit (scriptFailFlag k).1 (scriptFailFlag k).2 = s.bit (scriptFailFlag k).1 (scriptFailFlag k).2
  out : s.out <+: t.out

theorem ScriptKept.refl (k : Nat) (s : State) : ScriptKept k s s := ⟨rfl, rfl, rfl, rfl, rfl, List.prefix_refl _⟩

theorem ScriptKept.trans {k : Nat} {s t u : State} (h : ScriptKept k s t) (j : ScriptKept k t u) : ScriptKept k s u :=
  ⟨j.engines.trans h.engines, j.tm.trans h.tm, j.script.trans h.script, j.value.trans h.value, j.fail.trans h.fail,
    h.out.trans j.out⟩

theorem ScriptKept.engine {k : Nat} {s t : State} (h : ScriptKept k s t) (j : Nat) : t.engine j = s.engine j :=
  congrArg (Sparse.get (fun _ => ({} : Engine)) · j) h.engines

theorem ScriptKept.now {k : Nat} {s t : State} (h : ScriptKept k s t) : t.now = s.now := congrArg TimeSt.now h.tm

/-- A register that shows nothing of a target's script. -/
def ScriptApart (k a : Nat) : Prop := scriptReg k ≠ a ∧ scriptReadReg k ≠ a ∧ (scriptFailFlag k).1 ≠ a

/-- A change of a script's registers beside those that show it, and of units that are no engine. -/
theorem ScriptKept.of_regs {k : Nat} {s t : State} (engines : t.engines = s.engines) (tm : t.tm = s.tm)
    (out : s.out <+: t.out) (regs : ∀ a, ¬ ScriptApart k a → t.reg a = s.reg a) : ScriptKept k s t :=
  ⟨engines, tm, regs _ fun h => h.1 rfl, regs _ fun h => h.2.1 rfl, State.bit_of_reg (regs _ fun h => h.2.2 rfl) _, out⟩

theorem ScriptKept.setReg {k : Nat} {s t : State} (h : ScriptKept k s t) {a : Nat} (v : Word) (ha : ScriptApart k a) :
    ScriptKept k s (t.setReg a v) :=
  h.trans (.of_regs rfl rfl (List.prefix_refl _) fun _ hb => t.reg_setReg_ne v fun e => hb (e ▸ ha))

/-- A flag beside SCRIPT_FAIL in the register that holds it. -/
theorem ScriptKept.setBit_beside {k : Nat} {s t : State} (h : ScriptKept k s t) {a : Nat} {f x : Fld} (v : Bool)
    (place : scriptFailFlag k = (a, x)) (script : scriptReg k ≠ a) (value : scriptReadReg k ≠ a) (fits : f.lo + f.width ≤ 32)
    (apart : x.lo + x.width ≤ f.lo ∨ f.lo + f.width ≤ x.lo) : ScriptKept k s (t.setBit a f v) := by
  refine h.trans ⟨rfl, rfl, t.reg_setBit_ne f v script, t.reg_setBit_ne f v value, ?_, List.prefix_refl _⟩
  rw [place, State.bit, State.bit, State.setBit, State.fld_setFld_apart _ _ _ _ _ fits apart]

/-! #### The places of the registers -/

theorem script_img (n : Fin 10) : scriptReg (targetCode (.img n)) = R.IMG_SCRIPT n ∧
    scriptReadReg (targetCode (.img n)) = R.IMG_SCRIPT_READ n ∧
    scriptFailFlag (targetCode (.img n)) = (R.IMG_STATUS n, F.IMG_STATUS_SCRIPT_FAIL) := by
  have small : (n : Nat) < 0x10 := by omega
  exact ⟨if_pos small, if_pos small, if_pos small⟩

theorem script_tp (n : Fin 4) : scriptReg (targetCode (.tp n)) = R.TP_SCRIPT n ∧
    scriptReadReg (targetCode (.tp n)) = R.TP_SCRIPT_READ n ∧
    scriptFailFlag (targetCode (.tp n)) = (R.TP_STATUS n, F.TP_STATUS_SCRIPT_FAIL) := by
  have least : ¬ 0x10 + (n : Nat) < 0x10 := by omega
  have small : 0x10 + (n : Nat) < 0x20 := by omega
  simp only [scriptReg, scriptReadReg, scriptFailFlag, targetCode, if_neg least, if_pos small, Nat.add_sub_cancel_left, and_self]

theorem script_lamp (n : Fin 4) : scriptReg (targetCode (.lamp n)) = R.LC_SCRIPT n ∧
    scriptReadReg (targetCode (.lamp n)) = R.LC_SCRIPT_READ n ∧
    scriptFailFlag (targetCode (.lamp n)) = (R.LC_STATE n, F.LC_STATE_SCRIPT_FAIL) := by
  have least : ¬ 0x20 + (n : Nat) < 0x10 := by omega
  have next : ¬ 0x20 + (n : Nat) < 0x20 := by omega
  simp only [scriptReg, scriptReadReg, scriptFailFlag, targetCode, if_neg least, if_neg next, Nat.add_sub_cancel_left, and_self]

/-- The registers of the targets lie above the blocks of BOOT, EVENT and the precision measurements. -/
theorem scriptApart_of {g : ScriptTarget} {a : Nat} (h : a < 0x5000b00000) : ScriptApart (targetCode g) a := by
  unfold ScriptApart
  cases g with
  | img n =>
    obtain ⟨script, value, fail⟩ := script_img n
    rw [script, value, fail]
    simp only [R.IMG_SCRIPT, R.IMG_SCRIPT_READ, R.IMG_STATUS]
    omega
  | tp n =>
    obtain ⟨script, value, fail⟩ := script_tp n
    rw [script, value, fail]
    simp only [R.TP_SCRIPT, R.TP_SCRIPT_READ, R.TP_STATUS]
    omega
  | lamp n =>
    obtain ⟨script, value, fail⟩ := script_lamp n
    rw [script, value, fail]
    simp only [R.LC_SCRIPT, R.LC_SCRIPT_READ, R.LC_STATE]
    omega

/-- SCRIPT and the register of SCRIPT_FAIL lie apart, and so do SCRIPT_READ and this one. -/
theorem scriptRegs_apart (g : ScriptTarget) : scriptReg (targetCode g) ≠ (scriptFailFlag (targetCode g)).1 ∧
    scriptReadReg (targetCode g) ≠ (scriptFailFlag (targetCode g)).1 := by
  cases g with
  | img n =>
    obtain ⟨script, value, fail⟩ := script_img n
    rw [script, value, fail]
    simp only [R.IMG_SCRIPT, R.IMG_SCRIPT_READ, R.IMG_STATUS]
    omega
  | tp n =>
    obtain ⟨script, value, fail⟩ := script_tp n
    rw [script, value, fail]
    simp only [R.TP_SCRIPT, R.TP_SCRIPT_READ, R.TP_STATUS]
    omega
  | lamp n =>
    obtain ⟨script, value, fail⟩ := script_lamp n
    rw [script, value, fail]
    simp only [R.LC_SCRIPT, R.LC_SCRIPT_READ, R.LC_STATE]
    omega

/-! #### Ports and chains -/

section Settles

variable {g : ScriptTarget} {s t : State}

theorem ScriptKept.setReg_below (h : ScriptKept (targetCode g) s t) {a : Nat} (v : Word) (ha : a < 0x5000b00000) :
    ScriptKept (targetCode g) s (t.setReg a v) := h.setReg v (scriptApart_of ha)

theorem ScriptKept.raise (h : ScriptKept (targetCode g) s t) (e : Nat) : ScriptKept (targetCode g) s (t.raise e) :=
  h.trans (.of_regs (t.raise_engines e) (t.raise_tm e) ((t.raise_out e).symm ▸ List.prefix_refl _)
    fun _ hb => t.reg_raise e fun c => hb (c ▸ scriptApart_of (by decide)))

theorem readyCheck_script (h : ScriptKept (targetCode g) s t) : ScriptKept (targetCode g) s (readyCheck t) := by
  unfold readyCheck
  split
  · exact h.trans (.of_regs rfl rfl (List.prefix_refl _) fun _ _ => rfl)
  · extract_lets up first boot u
    have hu : ScriptKept (targetCode g) s u := h.trans (.of_regs rfl rfl (List.prefix_refl _) fun _ _ => rfl)
    exact State.cond_induct hu fun _ => (hu.setReg_below _ (by decide)).setReg_below _ (by decide)

theorem measTrigger_script {k : Nat} (hk : k < 16) (h : ScriptKept (targetCode g) s t) :
    ScriptKept (targetCode g) s (measTrigger k t) := by
  have ctrl : R.M_CTRL k < 0x5000b00000 := by simp only [R.M_CTRL]; omega
  have status : R.M_STATUS k < 0x5000b00000 := by simp only [R.M_STATUS]; omega
  unfold measTrigger
  extract_lets m d
  split_ifs
  · exact h
  · exact ((h.setReg_below _ status).setReg_below _ status).raise _
  · have delayed : ScriptKept (targetCode g) s (t.setMeas k { t.meas k with delay := some (t.now + d) }) :=
      h.trans (.of_regs rfl rfl (List.prefix_refl _) fun _ _ => rfl)
    exact delayed.setReg_below _ ctrl

theorem precTrigger_script (src index : Nat) (h : ScriptKept (targetCode g) s t) :
    ScriptKept (targetCode g) s (precTrigger src index t) := by
  unfold precTrigger
  have hl : ∀ k ∈ List.range 16, k < 16 := fun k hk => List.mem_range.1 hk
  generalize List.range 16 = l at hl
  induction l generalizing t with
  | nil => exact h
  | cons k l ih =>
    refine ih ?_ fun j hj => hl j (List.mem_cons_of_mem _ hj)
    beta_reduce
    split_ifs
    · exact measTrigger_script (hl k List.mem_cons_self) h
    · exact h

theorem ScriptKept.setLamp (h : ScriptKept (targetCode g) s t) (n : Nat) (x : LampSt) :
    ScriptKept (targetCode g) s (t.setLamp n x) := h.trans (.of_regs rfl rfl (List.prefix_refl _) fun _ _ => rfl)

theorem ScriptKept.setTp (h : ScriptKept (targetCode g) s t) (n : Nat) (x : TpSt) :
    ScriptKept (targetCode g) s (t.setTp n x) := h.trans (.of_regs rfl rfl (List.prefix_refl _) fun _ _ => rfl)

theorem scriptTakes_script (n : Nat) (h : ScriptKept (targetCode g) s t) : ScriptKept (targetCode g) s (scriptTakes t n) := by
  unfold scriptTakes blkAssert
  split_ifs
  · exact h.setLamp ..
  · exact precTrigger_script _ _ ((h.setLamp ..).setLamp ..)
  · exact h

end Settles

theorem imgReady_script (n : Fin 10) (s : State) : ScriptKept (targetCode (.img n)) s (imgReady s n) := by
  obtain ⟨-, -, place⟩ := script_img n
  obtain ⟨script, value⟩ := scriptRegs_apart (.img n)
  rw [place] at script value
  exact (ScriptKept.refl ..).setBit_beside _ place script value (by decide) (by decide)

theorem tpReady_script (n : Fin 4) (s : State) : ScriptKept (targetCode (.tp n)) s (tpReady s n) := by
  obtain ⟨reg, read, place⟩ := script_tp n
  obtain ⟨script, value⟩ := scriptRegs_apart (.tp n)
  rw [place] at script value
  have link : ScriptApart (targetCode (.tp n)) (R.TP_LINK n) := by
    rw [ScriptApart, reg, read, place]
    simp only [R.TP_SCRIPT, R.TP_SCRIPT_READ, R.TP_STATUS, R.TP_LINK]
    omega
  unfold tpReady
  extract_lets r u x
  have linked : ScriptKept (targetCode (.tp n)) s (s.setBit (R.TP_LINK n) F.TP_LINK_PORT_READY r) :=
    (ScriptKept.refl ..).setReg _ link
  have shown : ScriptKept (targetCode (.tp n)) s u :=
    linked.setBit_beside r place script value (by decide) (by decide)
  clear_value u
  refine readyCheck_script ?_
  split_ifs
  · exact shown.setTp ..
  · exact shown

theorem frameStart_script (n : Fin 4) {s t : State} (h : ScriptKept (targetCode (.lamp n)) s t) :
    ScriptKept (targetCode (.lamp n)) s (frameStart t n) := by
  obtain ⟨-, -, place⟩ := script_lamp n
  obtain ⟨script, value⟩ := scriptRegs_apart (.lamp n)
  rw [place] at script value
  unfold frameStart
  extract_lets x e rows row carries all per ws f
  split_ifs
  · exact h
  · have flagged := (h.setLamp n { x with frame := some f }).setBit_beside (f := F.LC_STATE_SHIFTING) true place script value
      (by decide) (by decide)
    exact flagged.trans (.of_regs rfl rfl (List.prefix_append _ _) fun _ _ => rfl)

/-- What follows a step of an engine starts no script and writes none of its registers. -/
theorem scriptSettle_script (g : ScriptTarget) (s : State) : ScriptKept (targetCode g) s (scriptSettle g s) := by
  cases g with
  | img n => exact readyCheck_script (imgReady_script n s)
  | tp n => exact tpReady_script n s
  | lamp n =>
    have framed : ScriptKept (targetCode (.lamp n)) s
        (s.cond (s.engine (targetCode (.lamp n))).inTransfer fun s => lampScriptFrame s n) :=
      State.cond_induct (.refl ..) fun _ => (ScriptKept.refl ..).setLamp ..
    simp only [scriptSettle, lampScriptSettle]
    split_ifs
    · exact scriptTakes_script n framed
    · exact frameStart_script n framed

/-! #### One step of an engine -/

section Steps

variable {s : State} {k : Nat} {o : ScriptOp} {rest : List ScriptOp}

theorem Engine.note_running (e : Engine) (phase : Nat) (ok : Bool) : (e.note phase ok).running = e.running := by
  unfold Engine.note
  split_ifs <;> rfl

theorem Engine.note_queue (e : Engine) (phase : Nat) (ok : Bool) : (e.note phase ok).queue = e.queue := by
  unfold Engine.note
  split_ifs <;> rfl

/-- An engine whose last script is over. -/
def Engine.stopped (e : Engine) (ok : Bool) : Engine :=
  ({ e with running := false, ops := [], queue := [], inTransfer := false, polling := false, pollFrom := none,
            waitUntil := none } : Engine).note e.phase ok

/-- RESULT, FAIL_OP and SCRIPT_FAIL of a script that is over. -/
def scriptShown (s : State) (k : Nat) (ok : Bool) : State :=
  ((s.setEngine k ((s.engine k).stopped ok)).setFld (scriptReg k) F.IMG_SCRIPT_RESULT (if ok then 1 else 2)).cond (!ok)
    fun t => (t.setFld (scriptReg k) F.IMG_SCRIPT_FAIL_OP (s.engine k).idx).flag (scriptFailFlag k).1 (scriptFailFlag k).2

theorem scriptShown_engine (s : State) (k : Nat) (ok : Bool) : (scriptShown s k ok).engine k = (s.engine k).stopped ok := by
  cases ok <;> exact State.engine_setEngine_self ..

/-- Without a script that waits, the engine falls idle. -/
theorem scriptOver_idle (queue : (s.engine k).queue = []) (ok : Bool) : scriptOver s k ok =
    ((scriptShown s k ok).raise (scriptEvent k)).setBit (scriptReg k) F.IMG_SCRIPT_BUSY false := by
  have shown : scriptOver s k ok = engineNext ((scriptShown s k ok).raise (scriptEvent k)) k := by
    unfold scriptOver
    simp only [queue, List.filter_nil, ite_self, List.any_nil, Bool.not_false, if_true]
    rfl
  have stopped : ((scriptShown s k ok).raise (scriptEvent k)).engine k = (s.engine k).stopped ok := by
    rw [State.engine, State.raise_engines]
    exact scriptShown_engine s k ok
  have halted : ((s.engine k).stopped ok).running = false := Engine.note_running ..
  have empty : ((s.engine k).stopped ok).queue = [] := Engine.note_queue ..
  rw [shown, engineNext, stopped, halted, empty]
  rfl

theorem scriptOver_engine (queue : (s.engine k).queue = []) (ok : Bool) :
    (scriptOver s k ok).engine k = (s.engine k).stopped ok := by
  rw [scriptOver_idle queue, State.engine, State.setBit, State.setFld_engines, State.raise_engines]
  exact scriptShown_engine s k ok

/-- How a failed script shows itself. -/
def ScriptFailed (k idx : Nat) (t : State) : Prop :=
  t.fld (scriptReg k) F.IMG_SCRIPT_RESULT = 2 ∧ t.fld (scriptReg k) F.IMG_SCRIPT_FAIL_OP = idx % 65536 ∧
    (t.engine k).running = false ∧ t.bit (scriptFailFlag k).1 (scriptFailFlag k).2 = true

/-- How a script that has ended shows itself. -/
def ScriptEnded (k : Nat) (t : State) : Prop :=
  t.fld (scriptReg k) F.IMG_SCRIPT_RESULT = 1 ∧ (t.engine k).running = false ∧
    t.bit (scriptReg k) F.IMG_SCRIPT_BUSY = false

/-- The operation after the present one is next. -/
def ScriptNext (k : Nat) (e : Engine) (rest : List ScriptOp) (t : State) : Prop :=
  (t.engine k).ops = rest ∧ (t.engine k).idx = e.idx + 1 ∧ (t.engine k).running = true

/-- A transfer runs, and what it sends has been sent. -/
def ScriptStarted (k : Nat) (u : State) (sent : List Out) (t : State) : Prop :=
  (t.engine k).inTransfer = true ∧ ∃ more, t.out = u.out ++ sent ++ more

theorem ScriptKept.failed {t u : State} {idx : Nat} (h : ScriptKept k t u) (f : ScriptFailed k idx t) : ScriptFailed k idx u := by
  obtain ⟨result, op, running, flag⟩ := f
  exact ⟨(State.fld_of_reg h.script _).trans result, (State.fld_of_reg h.script _).trans op, h.engine k ▸ running,
    h.fail.trans flag⟩

theorem ScriptKept.ended {t u : State} (h : ScriptKept k t u) (f : ScriptEnded k t) : ScriptEnded k u := by
  obtain ⟨result, running, busy⟩ := f
  exact ⟨(State.fld_of_reg h.script _).trans result, h.engine k ▸ running, (State.bit_of_reg h.script _).trans busy⟩

theorem ScriptKept.next {t u : State} {e : Engine} (h : ScriptKept k t u) (f : ScriptNext k e rest t) :
    ScriptNext k e rest u := by
  unfold ScriptNext
  rw [h.engine k]
  exact f

theorem ScriptKept.started {t u v : State} {sent : List Out} (h : ScriptKept k t u) (f : ScriptStarted k v sent t) :
    ScriptStarted k v sent u := by
  obtain ⟨transfer, more, out⟩ := f
  obtain ⟨after, sent'⟩ := h.out
  exact ⟨h.engine k ▸ transfer, more ++ after, by rw [← sent', out, List.append_assoc]⟩

end Steps

section Targets

variable {g : ScriptTarget} {s : State} {o : ScriptOp} {rest : List ScriptOp}

theorem scriptReg_above (g : ScriptTarget) : scriptReg (targetCode g) ≠ R.EVT_LOST ∧
    (scriptFailFlag (targetCode g)).1 ≠ R.EVT_LOST :=
  have h : ScriptApart (targetCode g) R.EVT_LOST := scriptApart_of (by decide)
  ⟨h.1, h.2.2⟩

theorem scriptFailFlag_bit (g : ScriptTarget) :
    ∃ lo, lo < 32 ∧ (scriptFailFlag (targetCode g)).2 = ⟨lo, 1⟩ := by
  cases g with
  | img n => exact ⟨15, by decide, congrArg Prod.snd (script_img n).2.2⟩
  | tp n => exact ⟨15, by decide, congrArg Prod.snd (script_tp n).2.2⟩
  | lamp n => exact ⟨5, by decide, congrArg Prod.snd (script_lamp n).2.2⟩

/-- A script that fails with none behind it (02 R59, 04 R135, 06 R206). -/
theorem scriptOver_failed (queue : (s.engine (targetCode g)).queue = []) :
    ScriptFailed (targetCode g) (s.engine (targetCode g)).idx (scriptOver s (targetCode g) false) := by
  obtain ⟨scriptEvt, failEvt⟩ := scriptReg_above g
  obtain ⟨apart, -⟩ := scriptRegs_apart g
  obtain ⟨lo, small, flag⟩ := scriptFailFlag_bit g
  have stopped : (scriptOver s (targetCode g) false).engine (targetCode g) = _ := scriptOver_engine queue false
  rw [scriptOver_idle queue] at stopped ⊢
  refine ⟨?_, ?_, ?_, ?_⟩
  · rw [State.setBit, State.fld_setFld_apart _ _ _ _ _ (by decide) (by decide), State.fld_of_reg (State.reg_raise _ _ scriptEvt)]
    exact (State.fld_of_reg (State.reg_setBit_ne _ _ _ apart) _).trans
      ((State.fld_setFld_apart _ _ _ _ _ (by decide) (by decide)).trans (State.fld_setFld_self _ _ _ 2 (by decide)))
  · rw [State.setBit, State.fld_setFld_apart _ _ _ _ _ (by decide) (by decide), State.fld_of_reg (State.reg_raise _ _ scriptEvt)]
    exact (State.fld_of_reg (State.reg_setBit_ne _ _ _ apart) _).trans (State.fld_setFld_self _ _ _ _ (by decide))
  · exact (congrArg Engine.running stopped).trans (Engine.note_running ..)
  · rw [State.bit_setBit_ne _ _ _ _ apart.symm, State.bit_of_reg (State.reg_raise _ _ failEvt), flag]
    unfold scriptShown
    rw [flag]
    exact State.bit_setBit_self _ _ _ true small

/-- A script that ends with none behind it (02 R58). -/
theorem scriptOver_ended (queue : (s.engine (targetCode g)).queue = []) :
    ScriptEnded (targetCode g) (scriptOver s (targetCode g) true) := by
  have stopped : (scriptOver s (targetCode g) true).engine (targetCode g) = _ := scriptOver_engine queue true
  rw [scriptOver_idle queue] at stopped ⊢
  refine ⟨?_, ?_, State.bit_setBit_self _ _ 9 false (by decide)⟩
  · rw [State.setBit, State.fld_setFld_apart _ _ _ _ _ (by decide) (by decide),
      State.fld_of_reg (State.reg_raise _ _ (scriptReg_above g).1)]
    exact State.fld_setFld_self _ _ _ 1 (by decide)
  · exact (congrArg Engine.running stopped).trans (Engine.note_running ..)

theorem scriptOver_tm (queue : (s.engine (targetCode g)).queue = []) (ok : Bool) :
    (scriptOver s (targetCode g) ok).tm = s.tm := by
  rw [scriptOver_idle queue, State.setBit, State.setFld_tm, State.raise_tm]
  cases ok <;> rfl

theorem scriptAdvance_next {k : Nat} {e : Engine} (ops : (s.engine k).ops = o :: rest) (idx : (s.engine k).idx = e.idx)
    (running : (s.engine k).running = true) : ScriptNext k e rest (scriptAdvance s k) := by
  unfold ScriptNext scriptAdvance
  rw [State.engine_setEngine_self]
  exact ⟨by rw [ops]; rfl, by rw [idx], running⟩

theorem foldl_emit_eq (l : List Out) (s : State) : l.foldl State.emit s = { s with out := s.out ++ l } := by
  induction l generalizing s with
  | nil => rw [List.append_nil]; rfl
  | cons x l ih =>
    rw [List.foldl_cons, ih, State.emit_out, List.append_assoc]
    rfl

theorem valueRead_setEngine (s : State) (j : Nat) (e : Engine) (k : Nat) (o : ScriptOp) (got : List Byte) :
    valueRead (s.setEngine j e) k o got = valueRead s k o got := rfl

theorem transferOut_setEngine (s : State) (j : Nat) (e : Engine) (k : Nat) (o : ScriptOp) :
    transferOut (s.setEngine j e) k o = transferOut s k o := rfl

theorem scriptTransfer_started {k : Nat} (device : scriptNoDevice s k o = false) :
    ScriptStarted k s (transferOut s k o) (scriptTransfer s k o) := by
  unfold scriptTransfer
  rw [if_neg (by rw [device]; decide), foldl_emit_eq]
  refine ⟨?_, [], (List.append_nil _).symm⟩
  exact congrArg Engine.inTransfer (State.engine_setEngine_self s k _)

theorem scriptTransfer_failed (device : scriptNoDevice s (targetCode g) o = true)
    (queue : (s.engine (targetCode g)).queue = []) :
    ScriptFailed (targetCode g) (s.engine (targetCode g)).idx (scriptTransfer s (targetCode g) o) := by
  unfold scriptTransfer
  rw [if_pos device]
  exact scriptOver_failed queue

end Targets

/-! #### The commands -/

/-- A running engine that stands before an operation, with no script that waits behind the present one. -/
structure ScriptStands (s : State) (k : Nat) (o : ScriptOp) (rest : List ScriptOp) : Prop where
  ops : (s.engine k).ops = o :: rest
  running : (s.engine k).running = true
  queue : (s.engine k).queue = []

section Commands

variable {g : ScriptTarget} {s : State} {o : ScriptOp} {rest : List ScriptOp}

theorem ScriptStands.ready {k : Nat} (h : ScriptStands s k o rest) (transfer : (s.engine k).inTransfer = false)
    (polling : (s.engine k).polling = false) (waits : (s.engine k).waitUntil = none) : scriptReady s k o.op = some o := by
  unfold scriptReady
  simp [h.running, transfer, polling, waits, h.ops]

theorem scriptStep_settles (hw : s.working = true) (f : Nat → State → State) :
    scriptStep g f s = scriptSettle g (f (targetCode g) s) := State.whenWorking_true hw _

theorem scriptOpen_settles (hw : s.working = true) (may : scriptMay s g = true) (f : Nat → State → State) :
    scriptOpen g f s = scriptSettle g (f (targetCode g) s) := (if_pos may).trans (scriptStep_settles hw f)

/-- What an engine's step has set stands when the port or the chain has followed it. -/
theorem completes_settled {i : Instr} {u : State} {p : State → Prop} (e : exec i s = .next (scriptSettle g u))
    (h : ∀ t, ScriptKept (targetCode g) u t → p t) : Completes i s p := ⟨_, e, h _ (scriptSettle_script g u)⟩

/-- WRITE, CHECK and POLL (02 R58). -/
theorem scriptStart_starts {k : Nat} (ready : scriptReady s k o.op = some o) (device : scriptNoDevice s k o = false) :
    ScriptStarted k s (transferOut s k o) (scriptStart o.op k s) := by
  unfold scriptStart
  rw [ready]
  cases o.op == 3
  · exact scriptTransfer_started device
  · obtain ⟨transfer, sent⟩ := scriptTransfer_started (s := s.setEngine k { s.engine k with pollFrom := some s.now }) device
    rw [transferOut_setEngine] at sent
    exact ⟨transfer, sent⟩

theorem scriptStart_fails (h : ScriptStands s (targetCode g) o rest) (ready : scriptReady s (targetCode g) o.op = some o)
    (device : scriptNoDevice s (targetCode g) o = true) :
    ScriptFailed (targetCode g) (s.engine (targetCode g)).idx (scriptStart o.op (targetCode g) s) := by
  unfold scriptStart
  rw [ready]
  cases o.op == 3
  · exact scriptTransfer_failed device h.queue
  · have failed := scriptTransfer_failed (s := s.setEngine (targetCode g)
      { s.engine (targetCode g) with pollFrom := some s.now }) device (by rw [State.engine_setEngine_self]; exact h.queue)
    rw [State.engine_setEngine_self] at failed
    exact failed

theorem scriptWait_waits {k : Nat} (ready : scriptReady s k 4 = some o) (device : scriptNoDevice s k o = false) :
    ((scriptWait k s).engine k).waitUntil = some (s.now + 1000 * min 1000000 o.data) := by
  unfold scriptWait
  simp only [ready, device, Bool.false_eq_true, if_false, State.engine_setEngine_self]

theorem scriptWait_fails (h : ScriptStands s (targetCode g) o rest) (ready : scriptReady s (targetCode g) 4 = some o)
    (device : scriptNoDevice s (targetCode g) o = true) :
    ScriptFailed (targetCode g) (s.engine (targetCode g)).idx (scriptWait (targetCode g) s) := by
  unfold scriptWait
  simp only [ready, device, if_true]
  exact scriptOver_failed h.queue

theorem scriptWaitEnd_next {k u : Nat} (h : ScriptStands s k o rest) (waits : (s.engine k).waitUntil = some u) :
    ScriptNext k (s.engine k) rest (scriptWaitEnd k s) ∧ (scriptWaitEnd k s).now = max s.now u := by
  unfold scriptWaitEnd
  rw [waits]
  exact ⟨scriptAdvance_next (s := s.reach u) h.ops rfl h.running, rfl⟩

theorem scriptEndOp_ends (h : ScriptStands s (targetCode g) o rest) (ready : scriptReady s (targetCode g) 0 = some o)
    (device : scriptNoDevice s (targetCode g) o = false) : ScriptEnded (targetCode g) (scriptEndOp (targetCode g) s) := by
  unfold scriptEndOp
  simp only [ready, device]
  exact scriptOver_ended h.queue

theorem scriptEndOp_fails (h : ScriptStands s (targetCode g) o rest) (ready : scriptReady s (targetCode g) 0 = some o)
    (device : scriptNoDevice s (targetCode g) o = true) :
    ScriptFailed (targetCode g) (s.engine (targetCode g)).idx (scriptEndOp (targetCode g) s) := by
  unfold scriptEndOp
  simp only [ready, device]
  exact scriptOver_failed h.queue

/-- An engine whose transfer is over. -/
def transferOver (s : State) (k : Nat) : State := s.setEngine k { s.engine k with inTransfer := false }

theorem transferOver_engine (s : State) (k : Nat) :
    (transferOver s k).engine k = { s.engine k with inTransfer := false } := State.engine_setEngine_self ..

/-- The end of a transfer that was acknowledged (02 R58). -/
theorem scriptTransferDone_sound {k : Nat} (h : ScriptStands s k o rest) (transfer : (s.engine k).inTransfer = true)
    (got : List Byte) : scriptTransferDone k got true s =
      if o.op = 1 then scriptAdvance (transferOver s k) k
      else
        let t := (transferOver s k).setReg (scriptReadReg k) (valueRead s k o got)
        if o.accepts (valueRead s k o got) then scriptAdvance t k
        else if o.op = 2 then scriptOver t k false
        else t.setEngine k { t.engine k with polling := true } := by
  unfold scriptTransferDone transferOver
  simp only [transfer, h.ops, Bool.not_true, Bool.false_eq_true, if_false, valueRead_setEngine]

theorem scriptTransferDone_lost {k : Nat} (h : ScriptStands s k o rest) (transfer : (s.engine k).inTransfer = true)
    (got : List Byte) : scriptTransferDone k got false s = scriptOver (transferOver s k) k false := by
  unfold scriptTransferDone transferOver
  simp only [transfer, h.ops, Bool.not_true, Bool.not_false, Bool.false_eq_true, if_false, if_true]

theorem scriptAdvance_after {k : Nat} (h : ScriptStands s k o rest) {u : State}
    (ended : u.engine k = { s.engine k with inTransfer := false }) : ScriptNext k (s.engine k) rest (scriptAdvance u k) :=
  scriptAdvance_next (by rw [ended]; exact h.ops) (by rw [ended]) (by rw [ended]; exact h.running)

theorem scriptOver_after (h : ScriptStands s (targetCode g) o rest) {u : State}
    (ended : u.engine (targetCode g) = { s.engine (targetCode g) with inTransfer := false }) :
    ScriptFailed (targetCode g) (s.engine (targetCode g)).idx (scriptOver u (targetCode g) false) := by
  have failed := scriptOver_failed (s := u) (g := g) (by rw [ended]; exact h.queue)
  rw [ended] at failed
  exact failed

/-- SCRIPT_TRANSFER_DONE (02 R58, 04 R134, 06 R204, 07 R224). -/
theorem execScriptTransferDone_ends (hw : s.working = true) (h : ScriptStands s (targetCode g) o rest)
    (transfer : (s.engine (targetCode g)).inTransfer = true) (got : List Byte) :
    let k := targetCode g
    let v := valueRead s k o got
    (o.op = 1 → Completes (.scriptTransferDone g got true) s (ScriptNext k (s.engine k) rest)) ∧
    (o.op ≠ 1 → o.accepts v = true → Completes (.scriptTransferDone g got true) s fun t =>
      ScriptNext k (s.engine k) rest t ∧ t.reg (scriptReadReg k) = v) ∧
    (o.op = 2 → o.accepts v = false → Completes (.scriptTransferDone g got true) s (ScriptFailed k (s.engine k).idx)) ∧
    (o.op = 3 → o.accepts v = false → Completes (.scriptTransferDone g got true) s fun t =>
      (t.engine k).polling = true ∧ (t.engine k).ops = o :: rest) ∧
    Completes (.scriptTransferDone g got false) s (ScriptFailed k (s.engine k).idx) := by
  intro k v
  have ended : (transferOver s k).engine k = { s.engine k with inTransfer := false } := transferOver_engine s k
  have read : ((transferOver s k).setReg (scriptReadReg k) v).engine k = { s.engine k with inTransfer := false } := ended
  have settles : ∀ ok u, scriptTransferDone k got ok s = u → exec (.scriptTransferDone g got ok) s = .next (scriptSettle g u) :=
    fun ok u e => next_eq ((scriptStep_settles hw _).trans (congrArg (scriptSettle g) e))
  have sound := scriptTransferDone_sound h transfer got
  refine ⟨fun op => ?_, fun op accepts => ?_, fun op accepts => ?_, fun op accepts => ?_, ?_⟩
  · rw [if_pos op] at sound
    exact completes_settled (settles _ _ sound) fun t kept => kept.next (scriptAdvance_after h ended)
  · rw [if_neg op, if_pos accepts] at sound
    exact completes_settled (settles _ _ sound) fun t kept => ⟨kept.next (scriptAdvance_after h read),
      kept.value.trans (State.reg_setReg_self ..)⟩
  · rw [if_neg (by omega), if_neg (by rw [accepts]; decide), if_pos op] at sound
    exact completes_settled (settles _ _ sound) fun t kept => kept.failed (scriptOver_after h read)
  · rw [if_neg (by omega), if_neg (by rw [accepts]; decide), if_neg (by omega)] at sound
    refine completes_settled (settles _ _ sound) fun t kept => ?_
    rw [kept.engine k, State.engine_setEngine_self, read]
    exact ⟨rfl, h.ops⟩
  · exact completes_settled (settles _ _ (scriptTransferDone_lost h transfer got)) fun t kept =>
      kept.failed (scriptOver_after h ended)

/-- SCRIPT_POLL_RETRY at the interval (02 R58). -/
theorem scriptPollRetry_starts {k p : Nat} (h : ScriptStands s k o rest) (from_ : (s.engine k).pollFrom = some p)
    (polling : (s.engine k).polling = true) (device : scriptNoDevice s k o = false) :
    ScriptStarted k s (transferOut (s.reach ((s.engine k).pollLast + 100000)) k o) (scriptPollRetry k false s) := by
  unfold scriptPollRetry
  simp only [from_, h.ops, polling, Bool.false_eq_true, if_false, if_true]
  exact scriptTransfer_started (s := s.reach ((s.engine k).pollLast + 100000)) device

/-- SCRIPT_POLL_RETRY at the limit (02 R58). -/
theorem scriptPollRetry_fails {p : Nat} (h : ScriptStands s (targetCode g) o rest)
    (from_ : (s.engine (targetCode g)).pollFrom = some p) :
    ScriptFailed (targetCode g) (s.engine (targetCode g)).idx (scriptPollRetry (targetCode g) true s) ∧
      (scriptPollRetry (targetCode g) true s).now = max s.now (p + 100000000) := by
  unfold scriptPollRetry
  simp only [from_, h.ops, if_true]
  exact ⟨scriptOver_failed (s := s.reach (p + 100000000)) h.queue,
    congrArg TimeSt.now (scriptOver_tm (s := s.reach (p + 100000000)) h.queue false)⟩

end Commands

/-- Settles O13: what a step of an engine sets, by operation, stands when the port or the chain has followed it. -/
theorem scriptOperations : Obligations.ScriptOperations := by
  intro s g o rest hw k e next failed started ops running queue
  have stands : ScriptStands s k o rest := ⟨ops, running, queue⟩
  refine ⟨?transfers, ?waits, ?waitEnds, ?ends, ?transferEnds, ?pollRepeats⟩
  case transfers =>
    intro i row transfer polling waits may
    have ready := stands.ready transfer polling waits
    have settles : exec i s = .next (scriptSettle g (scriptStart o.op k s)) := by
      rcases row with ⟨op, rfl⟩ | ⟨op, rfl⟩ | ⟨op, rfl⟩ <;> rw [op] <;> exact next_eq (scriptOpen_settles hw may _)
    exact ⟨fun device => completes_settled settles fun t kept => kept.started (scriptStart_starts ready device),
      fun device => completes_settled settles fun t kept => kept.failed (scriptStart_fails stands ready device)⟩
  case waits =>
    intro op transfer polling waits may
    have ready := op ▸ stands.ready transfer polling waits
    have settles : exec (.scriptWait g) s = .next (scriptSettle g (scriptWait k s)) := next_eq (scriptOpen_settles hw may _)
    exact ⟨fun device => completes_settled settles fun t kept =>
        (congrArg Engine.waitUntil (kept.engine k)).trans (scriptWait_waits ready device),
      fun device => completes_settled settles fun t kept => kept.failed (scriptWait_fails stands ready device)⟩
  case waitEnds =>
    intro u waits
    have settles : exec (.scriptWaitEnd g) s = .next (scriptSettle g (scriptWaitEnd k s)) := next_eq (scriptStep_settles hw _)
    obtain ⟨advanced, now⟩ := scriptWaitEnd_next stands waits
    exact completes_settled settles fun t kept => ⟨kept.next advanced, kept.now.trans now⟩
  case ends =>
    intro op transfer polling waits may
    have ready := op ▸ stands.ready transfer polling waits
    have settles : exec (.scriptEnd g) s = .next (scriptSettle g (scriptEndOp k s)) := next_eq (scriptOpen_settles hw may _)
    exact ⟨fun device => completes_settled settles fun t kept => kept.ended (scriptEndOp_ends stands ready device),
      fun device => completes_settled settles fun t kept => kept.failed (scriptEndOp_fails stands ready device)⟩
  case transferEnds => exact fun got transfer => execScriptTransferDone_ends hw stands transfer got
  case pollRepeats =>
    intro p from_
    have settles : ∀ limit, exec (.scriptPollRetry g limit) s = .next (scriptSettle g (scriptPollRetry k limit s)) :=
      fun limit => next_eq (scriptStep_settles hw _)
    obtain ⟨stopped, now⟩ := scriptPollRetry_fails stands from_
    exact ⟨fun polling device => completes_settled (settles false) fun t kept =>
        kept.started (scriptPollRetry_starts stands from_ polling device),
      completes_settled (settles true) fun t kept => ⟨kept.failed stopped, kept.now.trans now⟩⟩

/-! ### MailboxCommands: the spore update (02 R46, R77 to R79)

`MailboxCommands` stays unsettled, for no fault of the mailbox. Its clause for a WRITE whose buffer was written meanwhile
claims that every byte outside the span reads as before, host memory with them. A byte of host memory that the device has
not written reads `Config.hostByte` at the count of free values (log entry 6), and that WRITE moves the count on (log entry
3). `mailboxCommands_iff` proves every other clause and reduces the statement to what it then says of `Config.hostByte`, a
constant without a body, of which nothing can be proved or refuted. -/

/-! #### Bytes of the flash -/

/-- Host memory that the device has not written reads alike at every count of free values. -/
def HostSteady : Prop := ∀ c a, 0x10000000000000000 ≤ a → Config.hostByte (c + 1) a = Config.hostByte c a

theorem HostSteady.add (h : HostSteady) {a : Nat} (ha : 0x10000000000000000 ≤ a) (c n : Nat) :
    Config.hostByte (c + n) a = Config.hostByte c a := by
  induction n with
  | zero => rfl
  | succ n ih => exact (h (c + n) a ha).trans ih

theorem flashSet_byte (a : Nat) (bs : List Byte) (s : State) (x : Nat) :
    (flashSet a bs s).byte x = (s.write (flashKey a) bs).byte x := State.byte_congr rfl rfl rfl x

theorem State.write_recounted (l : List Byte) (f : Nat) :
    ∀ (s : State) (a : Nat), { s.write a l with freeCtr := f } = ({ s with freeCtr := f } : State).write a l := by
  induction l with
  | nil => exact fun _ _ => rfl
  | cons b l ih => exact fun s a => ih (s.setByte a b) (a + 1)

/-- Free values leave the bytes outside their span, but move the count that bytes of host memory are read at. -/
theorem flashFree_byte_outside {a n x : Nat} (s : State) (hx : x < flashKey a ∨ flashKey a + n ≤ x) :
    (flashFree a n s).byte x = ({ s with freeCtr := s.freeCtr + n } : State).byte x := by
  unfold flashFree
  extract_lets t
  have moved : { t with freeCtr := t.freeCtr + n } = ({ s with freeCtr := s.freeCtr + n } : State).write (flashKey a)
      (bytesOf n fun i => (Config.freeWord (s.freeCtr + i)).setWidth 8) := by
    have count : t.freeCtr = s.freeCtr := State.write_freeCtr ..
    rw [count, ← State.write_recounted]
  rw [moved]
  refine State.byte_write_outside _ _ _ _ ?_
  rw [bytesOf, List.length_map, List.length_range]
  exact hx

/-- Host memory apart, no byte depends on the count of free values. -/
theorem HostSteady.byte (h : HostSteady) (s : State) (n x : Nat) :
    ({ s with freeCtr := s.freeCtr + n } : State).byte x = s.byte x := by
  unfold State.byte
  simp only
  split
  · rfl
  · split
    · rfl
    · split_ifs with below
      · rfl
      · exact h.add (Nat.le_of_not_lt below) _ _

/-- A byte of host memory that the device has not written. -/
theorem State.byte_host {s : State} {a : Nat} (ha : 0x10000000000000000 ≤ a) (find : Sparse.find s.mem a = none) :
    s.byte a = Config.hostByte s.freeCtr a := by
  have free : unlisted a = none := by
    have dram : isDram a = false := decide_eq_false (by omega)
    rw [unlisted, dram, if_neg Bool.false_ne_true, if_neg (by omega), if_neg (by omega), if_neg (by omega)]
  unfold State.byte
  simp only [find, free, if_neg (Nat.not_lt.2 ha)]

theorem flashSpoil_byte (a n : Nat) (s : State) (x : Nat) : (flashSpoil a n s).byte x = (flashFree a n s).byte x :=
  State.byte_congr rfl rfl rfl x

theorem flashSpoilt_of_first {t : State} {b n : Nat} {l : List (Nat × Nat)} (spoilt : t.boot.spoilt = (b, n) :: l)
    (hn : 0 < n) : flashSpoilt t b = true := by
  unfold flashSpoilt
  rw [spoilt, List.any_cons, Bool.or_eq_true]
  exact .inl (decide_eq_true (by omega))

/-! #### How a command begins and ends -/

/-- A command over, with its RESULT. -/
def MbxEnded (t : State) (v : Nat) : Prop := t.boot.job = none ∧ t.bit R.MBX_STATUS F.MBX_STATUS_BUSY = false ∧
  t.fld R.MBX_STATUS F.MBX_STATUS_RESULT = v

theorem mbxEnd_ended {v : Nat} (hv : v < 256) (s : State) : MbxEnded (mbxEnd v s) v := by
  refine ⟨rfl, ?_, (State.fld_setFld_self _ _ _ _ (by decide)).trans (Nat.mod_eq_of_lt hv)⟩
  rw [State.bit, mbxEnd, mbxResult, State.fld_setFld_apart _ _ _ _ _ (by decide) (by decide)]
  exact State.bit_setBit_self _ _ 0 false (by decide)

theorem mbxEnd_verified (v : Nat) (s : State) :
    (mbxEnd v s).bit R.MBX_STATUS F.MBX_STATUS_VERIFIED = s.bit R.MBX_STATUS F.MBX_STATUS_VERIFIED := by
  rw [State.bit, mbxEnd, mbxResult, State.fld_setFld_apart _ _ _ _ _ (by decide) (by decide), State.setBit,
    State.fld_setFld_apart _ _ _ _ _ (by decide) (by decide)]
  rfl

theorem mbxEnd_byte (v : Nat) (s : State) (a : Nat) : (mbxEnd v s).byte a = s.byte a := State.byte_congr rfl rfl rfl a

/-- The commands that the gate judges each have an effect of their own behind it. -/
theorem exec_mailboxRow {row : Instr}
    (h : row ∈ [Instr.mbxErase, .mbxWrite, .mbxVerify, .mbxActivate, .mbxReboot, .mbxCmdInvalid]) :
    ∃ f, ∀ s, exec row s = .next (s.whenMailbox (mbxGate f)) := by
  simp only [List.mem_cons, List.not_mem_nil, or_false] at h
  rcases h with rfl | rfl | rfl | rfl | rfl | rfl <;> exact ⟨_, fun _ => rfl⟩

theorem mbxGate_busy {s : State} (job : s.boot.job ≠ none) (f : State → State) :
    mbxGate f s = s.satInc R.MBX_STATUS F.MBX_STATUS_REFUSED :=
  if_pos (Option.isSome_iff_ne_none.2 job)

theorem mbxGate_denied {s : State} (job : s.boot.job = none) (mode : s.mode ≠ .safe) (perm : permits s 3 = false)
    (f : State → State) : mbxGate f s = mbxResult 0x20 (denied s) :=
  (if_neg (by simp [mbxBusy, job])).trans (if_pos ⟨mode, by rw [perm]; rfl⟩)

theorem mbxGate_open {s : State} (job : s.boot.job = none) (may : s.mode = .safe ∨ permits s 3 = true)
    (f : State → State) : mbxGate f s = f s := by
  refine (if_neg (by simp [mbxBusy, job])).trans (if_neg ?_)
  rcases may with h | h <;> simp [h]

/-! #### The slot record (02 R46; log entry 90) -/

/-- The copy that a change of the slot record writes, and its generation. -/
def slotNext (s : State) : Nat × Nat := ((slotCopyInForce s).map fun x => (1 - x.1, x.2.2 + 1)).getD (0, 1)

/-- The slot and the generation of a copy, as they lie in it. -/
def slotImage (k g : Nat) : List Byte := bytesLE 1 k ++ [0, 0, 0] ++ bytesLE 4 g

/-- A copy of the slot record, with its CRC. -/
def slotBytes (k g : Nat) : List Byte := slotImage k g ++ bytesLE 4 (crc32c (slotImage k g))

theorem slotRecordWrite_eq (k : Nat) (s : State) :
    slotRecordWrite k s = s.write (slotCopyAt (slotNext s).1) (slotBytes k (slotNext s).2) := by
  unfold slotRecordWrite slotNext
  cases slotCopyInForce s <;> rfl

theorem slotBytes_length (k g : Nat) : (slotBytes k g).length = 12 := rfl

theorem ofBytesLE_bytesLE (n v : Nat) : ofBytesLE (bytesLE n v) = v % 256 ^ n := by
  induction n generalizing v with
  | zero => simp [bytesLE, ofBytesLE, Nat.mod_one]
  | succ n ih =>
    rw [bytesLE, ofBytesLE, ih, BitVec.toNat_ofNat, pow_succ' 256 n]
    exact Nat.mod_mul.symm

theorem crc32c_lt (bs : List Byte) : crc32c bs < 2 ^ 32 := BitVec.isLt _

theorem State.read_congr_on {s t : State} {a n : Nat} (h : ∀ x, a ≤ x → x < a + n → t.byte x = s.byte x) :
    t.read a n = s.read a n := by
  induction n generalizing a with
  | zero => rfl
  | succ n ih => rw [State.read, State.read, h a (by omega) (by omega), ih fun x l u => h x (by omega) (by omega)]

/-- What a copy holds after it was written. -/
theorem slotCopy_of_read {t : State} {c k g : Nat} (h : t.read (slotCopyAt c) 12 = slotBytes k g) (hk : k < 2)
    (hg : g < 2 ^ 32) : slotCopy t c = some (k, g) := by
  have crc : natAt 8 4 (slotBytes k g) = crc32c ((slotBytes k g).take 8) :=
    (ofBytesLE_bytesLE 4 (crc32c (slotImage k g))).trans (Nat.mod_eq_of_lt (crc32c_lt _))
  have gen : natAt 4 4 (slotBytes k g) = g := (ofBytesLE_bytesLE 4 g).trans (Nat.mod_eq_of_lt hg)
  have slot : byteAt 0 (slotBytes k g) % 2 = k := by
    show (BitVec.ofNat 8 k).toNat % 2 = k
    rw [BitVec.toNat_ofNat]
    omega
  unfold slotCopy
  simp only [h]
  rw [if_pos crc, gen, slot]

/-- The copy with the higher generation is in force. -/
theorem slotCopyInForce_of_newest {t : State} {n k g : Nat} (hn : n < 2) (new : slotCopy t n = some (k, g))
    (older : ∀ l h, slotCopy t (1 - n) = some (l, h) → h < g) : slotCopyInForce t = some (n, k, g) := by
  unfold slotCopyInForce
  obtain rfl | rfl : n = 0 ∨ n = 1 := by omega
  · cases other : slotCopy t 1 with
    | none => simp only [new]
    | some e =>
      have lower : e.2 < g := older e.1 e.2 other
      simp only [new, if_neg (Nat.lt_asymm lower)]
  · cases other : slotCopy t 0 with
    | none => simp only [new]
    | some e =>
      have lower : e.2 < g := older e.1 e.2 other
      simp only [new, if_pos lower]

theorem slotCopyInForce_some {s : State} {c k g : Nat} (h : slotCopyInForce s = some (c, k, g)) :
    c < 2 ∧ slotCopy s c = some (k, g) := by
  unfold slotCopyInForce at h
  split at h
  · next first second =>
    split_ifs at h
    · cases h
      exact ⟨by decide, second⟩
    · cases h
      exact ⟨by decide, first⟩
  · next first _ =>
    cases h
    exact ⟨by decide, first⟩
  · next _ second =>
    cases h
    exact ⟨by decide, second⟩
  · cases h

theorem slotCopyInForce_none {s : State} (h : slotCopyInForce s = none) : slotCopy s 1 = none := by
  unfold slotCopyInForce at h
  split at h
  · split_ifs at h
  · assumption
  · cases h
  · assumption

/-- The copy that is written is not the one in force, and its generation is higher. -/
theorem slotNext_newer (s : State) : (slotNext s).1 < 2 ∧
    ∀ l h, slotCopy s (1 - (slotNext s).1) = some (l, h) → h < (slotNext s).2 := by
  unfold slotNext
  cases force : slotCopyInForce s with
  | none =>
    refine ⟨Nat.zero_lt_two, fun l h same => ?_⟩
    cases (slotCopyInForce_none force).symm.trans same
  | some e =>
    obtain ⟨c, k, g⟩ := e
    obtain ⟨hc, present⟩ := slotCopyInForce_some force
    refine ⟨Nat.lt_of_le_of_lt (Nat.sub_le 1 c) Nat.one_lt_two, fun l h same => ?_⟩
    have same' : slotCopy s (1 - (1 - c)) = some (l, h) := same
    rw [show 1 - (1 - c) = c by omega, present] at same'
    cases same'
    exact Nat.lt_succ_self g

/-- A change of the slot record puts the slot in force (02 R46). -/
theorem slotRecord_written {s t : State} {k : Nat} (hk : k < 2) (hg : (slotNext s).2 < 2 ^ 32)
    (written : t.read (slotCopyAt (slotNext s).1) 12 = slotBytes k (slotNext s).2)
    (rest : ∀ x, x < slotCopyAt (slotNext s).1 ∨ slotCopyAt (slotNext s).1 + 12 ≤ x → t.byte x = s.byte x) :
    slotRecord t = (k, false) := by
  obtain ⟨hn, newer⟩ := slotNext_newer s
  have other : slotCopy t (1 - (slotNext s).1) = slotCopy s (1 - (slotNext s).1) := by
    have same : t.read (slotCopyAt (1 - (slotNext s).1)) 12 = s.read (slotCopyAt (1 - (slotNext s).1)) 12 := by
      refine State.read_congr_on fun x l u => rest x ?_
      unfold slotCopyAt at *
      omega
    unfold slotCopy
    rw [same]
  unfold slotRecord
  rw [slotCopyInForce_of_newest hn (slotCopy_of_read written hk hg) (other ▸ newer)]

/-! #### The commands' ends -/

/-- No slot with spoilt bytes is accepted (02 R79). -/
theorem checkSlot_spoilt {s : State} {k : Nat} (spoilt : flashSpoilt s (slotBase k) = true) : (checkSlot s k).1 ≠ 1 := by
  unfold checkSlot
  extract_lets h
  split_ifs with head
  · unfold slotBody
    simp only [spoilt, Bool.true_or, if_true]
    split_ifs <;> decide
  · exact head

section Ends

variable {s : State} (hs : s.serving = true)

include hs

theorem exec_eraseDone {a k : Nat} (job : s.boot.job = some (.erase a k)) (ok : Bool) : exec (.mbxEraseDone ok) s =
    .next (if ok then mbxEnd 0 (flashSet (slotBase (targetSlot s) + a) (List.replicate k 0xFF) s)
      else mbxEnd 0x23 (flashFree (slotBase (targetSlot s) + a) k s)) := by
  refine next_eq ((State.whenServing_true hs _).trans ?_)
  unfold mbxEraseDone
  rw [job]

theorem exec_writeDone {a k : Nat} {bs : List Byte} (job : s.boot.job = some (.write a k bs)) (ok : Bool) :
    exec (.mbxWriteDone ok) s = .next (mbxEnd (if ok then 0 else 0x23)
      (if s.boot.bufferDirty then flashSpoil (slotBase (targetSlot s) + a) k s
        else if ok then flashSet (slotBase (targetSlot s) + a) bs s
        else flashFree (slotBase (targetSlot s) + a) k s)) := by
  refine next_eq ((State.whenServing_true hs _).trans ?_)
  unfold mbxWriteDone
  rw [job]

/-- ERASE leaves the span reading 0xFF and every other byte as it was. -/
theorem eraseDone_ends {a k : Nat} (job : s.boot.job = some (.erase a k)) : Completes (.mbxEraseDone true) s fun t =>
    MbxEnded t 0 ∧ (∀ i, i < k → t.byte (flashKey (slotBase (targetSlot s) + (a + i))) = 0xFF) ∧
      ∀ x, x < flashKey (slotBase (targetSlot s) + a) ∨ flashKey (slotBase (targetSlot s) + (a + k)) ≤ x →
        t.byte x = s.byte x := by
  refine ⟨_, exec_eraseDone hs job true, mbxEnd_ended (by decide) _, fun i hi => ?_, fun x hx => ?_⟩
  · have inside := State.byte_write_inside (List.replicate k 0xFF) s (flashKey (slotBase (targetSlot s) + a)) i
      (by rw [List.length_replicate]; exact hi)
    rw [List.getElem_replicate] at inside
    have place : flashKey (slotBase (targetSlot s) + (a + i)) = flashKey (slotBase (targetSlot s) + a) + i := by
      unfold flashKey
      omega
    rw [if_pos rfl, mbxEnd_byte, flashSet_byte, place]
    exact inside
  · rw [if_pos rfl, mbxEnd_byte, flashSet_byte]
    refine State.byte_write_outside _ _ _ _ ?_
    rw [List.length_replicate]
    unfold flashKey at *
    omega

/-- WRITE leaves the buffer's bytes in the span and every other byte as it was. -/
theorem writeDone_ends {a k : Nat} {bs : List Byte} (job : s.boot.job = some (.write a k bs))
    (clean : s.boot.bufferDirty = false) : Completes (.mbxWriteDone true) s fun t =>
    MbxEnded t 0 ∧ t.read (flashKey (slotBase (targetSlot s) + a)) bs.length = bs ∧
      ∀ x, x < flashKey (slotBase (targetSlot s) + a) ∨ flashKey (slotBase (targetSlot s) + (a + bs.length)) ≤ x →
        t.byte x = s.byte x := by
  have e := exec_writeDone hs job true
  rw [clean, if_neg Bool.false_ne_true, if_pos rfl, if_pos rfl] at e
  refine ⟨_, e, mbxEnd_ended (by decide) _, ?_, fun x hx => ?_⟩
  · rw [State.read_congr fun x => (mbxEnd_byte 0 _ x).trans (flashSet_byte _ bs s x)]
    exact State.read_write_self ..
  · rw [mbxEnd_byte, flashSet_byte]
    refine State.byte_write_outside _ _ _ _ ?_
    unfold flashKey at *
    omega

/-- A WRITE whose buffer was written meanwhile leaves free bytes in the span; bytes outside it, host memory's too, read as
before where host memory is steady. -/
theorem writeDone_dirty {a k : Nat} {bs : List Byte} (job : s.boot.job = some (.write a k bs))
    (dirty : s.boot.bufferDirty = true) (ok : Bool) (steady : HostSteady) : Completes (.mbxWriteDone ok) s fun t =>
    (∀ x, x < flashKey (slotBase (targetSlot s) + a) ∨ flashKey (slotBase (targetSlot s) + (a + k)) ≤ x →
      t.byte x = s.byte x) ∧ (a = 0 → 0 < k → flashSpoilt t (slotBase (targetSlot s)) = true) := by
  have e := exec_writeDone hs job ok
  rw [dirty, if_pos rfl] at e
  refine ⟨_, e, fun x hx => ?_, fun ha hk => ?_⟩
  · rw [mbxEnd_byte, flashSpoil_byte, flashFree_byte_outside s (by unfold flashKey at *; omega), steady.byte]
  · subst ha
    exact flashSpoilt_of_first rfl hk

theorem exec_verifyDone (job : s.boot.job = some .verify) : exec .mbxVerifyDone s =
    .next (if (checkSlot s (targetSlot s)).1 = 1 then mbxEnd 0 (s.setBit R.MBX_STATUS F.MBX_STATUS_VERIFIED true)
      else mbxEnd (checkSlot s (targetSlot s)).1 s) := by
  refine next_eq ((State.whenServing_true hs _).trans ?_)
  unfold mbxVerifyDone
  rw [job]

/-- VERIFY shows the first check that fails, or VERIFIED (02 R78). -/
theorem verifyDone_ends (job : s.boot.job = some .verify) : Completes .mbxVerifyDone s fun t => SameMem s t ∧
    (flashSpoilt s (slotBase (targetSlot s)) = true → (checkSlot s (targetSlot s)).1 ≠ 1) ∧
    ((checkSlot s (targetSlot s)).1 = 1 → MbxEnded t 0 ∧ t.bit R.MBX_STATUS F.MBX_STATUS_VERIFIED = true) ∧
    ((checkSlot s (targetSlot s)).1 ≠ 1 → (checkSlot s (targetSlot s)).1 < 256 →
      MbxEnded t (checkSlot s (targetSlot s)).1) := by
  have e := exec_verifyDone hs job
  by_cases accepted : (checkSlot s (targetSlot s)).1 = 1
  · rw [if_pos accepted] at e
    refine ⟨_, e, .of_eq rfl rfl, checkSlot_spoilt, fun _ => ⟨mbxEnd_ended (by decide) _, ?_⟩, fun h => absurd accepted h⟩
    rw [mbxEnd_verified]
    exact State.bit_setBit_self _ _ 1 true (by decide)
  · rw [if_neg accepted] at e
    exact ⟨_, e, .of_eq rfl rfl, checkSlot_spoilt, fun h => absurd h accepted, fun _ code => mbxEnd_ended code _⟩

/-- The state in which ACTIVATE has written the slot record. -/
def slotActivated (s : State) : State :=
  let u := slotRecordWrite (targetSlot s) s
  { u with boot := { u.boot with activated := u.boot.activated || u.mode == .safe } }

theorem exec_activateDone (job : s.boot.job = some .activate) :
    exec .mbxActivateDone s = .next (mbxEnd 0 (mbxShow (slotActivated s))) := by
  refine next_eq ((State.whenServing_true hs _).trans ?_)
  unfold mbxActivateDone
  rw [job]
  rfl

omit hs in
theorem setFld_byte (s : State) (a : Nat) (f : Fld) (v x : Nat) : (s.setFld a f v).byte x = s.byte x :=
  State.byte_congr rfl rfl rfl x

omit hs in
theorem mbxShow_byte (s : State) (x : Nat) : (mbxShow s).byte x = s.byte x := (setFld_byte ..).trans (setFld_byte ..)

omit hs in
theorem activateDone_byte (s : State) (x : Nat) : (mbxEnd 0 (mbxShow (slotActivated s))).byte x =
    (s.write (slotCopyAt (slotNext s).1) (slotBytes (targetSlot s) (slotNext s).2)).byte x := by
  rw [← slotRecordWrite_eq, mbxEnd_byte, mbxShow_byte]
  unfold slotActivated
  generalize slotRecordWrite (targetSlot s) s = u
  exact State.byte_congr rfl rfl rfl x

/-- ACTIVATE writes the target slot into the copy that is not in force (02 R46, R78). -/
theorem activateDone_ends (job : s.boot.job = some .activate) : Completes .mbxActivateDone s fun t => MbxEnded t 0 ∧
    t.read (slotCopyAt (slotNext s).1) 12 = slotBytes (targetSlot s) (slotNext s).2 ∧
    (∀ x, x < slotCopyAt (slotNext s).1 ∨ slotCopyAt (slotNext s).1 + 12 ≤ x → t.byte x = s.byte x) ∧
    ((slotNext s).2 < 2 ^ 32 → slotRecord t = (targetSlot s, false)) := by
  refine ⟨_, exec_activateDone hs job, mbxEnd_ended (by decide) _, ?_⟩
  generalize ht : mbxEnd 0 (mbxShow (slotActivated s)) = t
  have bytes : ∀ x, t.byte x = (s.write (slotCopyAt (slotNext s).1) (slotBytes (targetSlot s) (slotNext s).2)).byte x :=
    ht ▸ activateDone_byte s
  have written : t.read (slotCopyAt (slotNext s).1) 12 = slotBytes (targetSlot s) (slotNext s).2 :=
    (State.read_congr bytes _ _).trans (State.read_write_self ..)
  have rest : ∀ x, x < slotCopyAt (slotNext s).1 ∨ slotCopyAt (slotNext s).1 + 12 ≤ x → t.byte x = s.byte x :=
    fun x hx => (bytes x).trans (State.byte_write_outside _ _ _ _ hx)
  exact ⟨written, rest, fun gen => slotRecord_written (by unfold targetSlot; omega) gen written rest⟩

/-- ABORT of what is no ACTIVATE (02 R78). -/
theorem abort_ends (hr : hostReaches s = true) (may : s.mode = .safe ∨ permits s 3 = true) :
    (s.boot.job = some .activate →
      exec .mbxAbort s = .next ((unverify s).setFld R.MBX_STATUS F.MBX_STATUS_RESULT 0x24)) ∧
    (s.boot.job ≠ some .activate → Completes .mbxAbort s fun t => t.boot.job = none ∧
      t.bit R.MBX_STATUS F.MBX_STATUS_BUSY = false ∧ t.bit R.MBX_STATUS F.MBX_STATUS_VERIFIED = false ∧
      t.fld R.MBX_STATUS F.MBX_STATUS_RESULT = 0x24) := by
  have e : exec .mbxAbort s = .next (mbxAbort s) := by
    refine next_eq ((State.whenMailbox_true hs hr _).trans (if_neg ?_))
    rcases may with h | h <;> simp [h]
  refine ⟨fun job => e.trans (next_eq (if_pos job)), fun job => ?_⟩
  have ends : exec .mbxAbort s = .next (mbxEnd 0x24 (unverify (jobAbandon s))) := e.trans (next_eq (if_neg job))
  obtain ⟨none, busy, result⟩ := mbxEnd_ended (by decide : 0x24 < 256) (unverify (jobAbandon s))
  refine ⟨_, ends, none, busy, ?_, result⟩
  rw [mbxEnd_verified]
  exact State.bit_setBit_self _ _ 1 false (by decide)

end Ends

/-- In SAFE, a WRITE of one byte whose buffer was written meanwhile, at a count of free values. -/
def dirtyWrite (c : Nat) : State :=
  { State.reset with mode := .safe, freeCtr := c, boot := { job := some (.write 0 1 [0]), bufferDirty := true } }

/-- Where that WRITE leaves a byte of host memory as it was, the byte reads alike at the next count. -/
theorem hostByte_of_dirtyWrite {c a : Nat} (ha : 0x10000000000000000 ≤ a)
    (same : Completes (.mbxWriteDone true) (dirtyWrite c) fun t => t.byte a = (dirtyWrite c).byte a) :
    Config.hostByte (c + 1) a = Config.hostByte c a := by
  have place : flashKey (slotBase (targetSlot (dirtyWrite c)) + 0) + 1 ≤ a := by
    unfold flashKey slotBase
    split_ifs <;> omega
  obtain ⟨t, e, byte⟩ := same
  cases (exec_writeDone (s := dirtyWrite c) rfl rfl true).symm.trans e
  rw [if_pos (show (dirtyWrite c).boot.bufferDirty = true from rfl), mbxEnd_byte, flashSpoil_byte,
    flashFree_byte_outside _ (.inr place), State.byte_host ha rfl, State.byte_host ha rfl] at byte
  exact byte

theorem hostSteady_of_mailboxCommands (h : Obligations.MailboxCommands) : HostSteady := by
  intro c a ha
  obtain ⟨-, -, -, -, -, failed, -, -⟩ := h (dirtyWrite c) rfl
  obtain ⟨-, -, dirty⟩ := failed 0 1 [0]
  obtain ⟨t, e, bytes, -⟩ := dirty rfl rfl true
  refine hostByte_of_dirtyWrite ha ⟨t, e, bytes a (.inr ?_)⟩
  show flashKey (slotBase (targetSlot (dirtyWrite c)) + (0 + 1)) ≤ a
  unfold flashKey slotBase
  split_ifs <;> omega

theorem mailboxCommands_of_hostSteady (steady : HostSteady) : Obligations.MailboxCommands := by
  intro s hs
  refine ⟨?gate, ?begins, ?aborts, ?erased, ?written, ?failed, ?verified, ?activated⟩
  case gate =>
    intro hr row member
    obtain ⟨f, hf⟩ := exec_mailboxRow member
    have reaches : exec row s = .next (mbxGate f s) := (hf s).trans (next_eq (State.whenMailbox_true hs hr _))
    exact ⟨fun job => reaches.trans (next_eq (mbxGate_busy job f)),
      fun job mode perm => reaches.trans (next_eq (mbxGate_denied job mode perm f))⟩
  case begins =>
    rintro hr ⟨job, may⟩
    have opens : ∀ (row : Instr) (f : State → State), exec row s = .next (s.whenMailbox (mbxGate f)) →
        exec row s = .next (f s) := fun _ _ hf =>
        hf.trans (next_eq ((State.whenMailbox_true hs hr _).trans (mbxGate_open job may _)))
    refine ⟨fun span => ?_, fun span => ?_, fun span => ?_, fun span => ?_, opens _ (mbxBegin .verify) rfl,
      opens _ mbxActivate rfl, opens _ mbxReboot rfl, opens _ (mbxResult 0x22) rfl⟩
    · exact (opens _ mbxErase rfl).trans (next_eq (if_neg (by unfold mbxOffset mbxLength; omega)))
    · exact (opens _ mbxErase rfl).trans (next_eq (if_pos (by unfold mbxOffset mbxLength; omega)))
    · exact (opens _ mbxWrite rfl).trans (next_eq (if_neg (by unfold mbxOffset mbxLength; omega)))
    · exact (opens _ mbxWrite rfl).trans (next_eq (if_pos (by unfold mbxOffset mbxLength; omega)))
  case aborts => exact fun hr may => abort_ends hs hr may
  case erased => exact fun a k job => eraseDone_ends hs job
  case written => exact fun a k bs job clean => writeDone_ends hs job clean
  case failed =>
    intro a k bs
    refine ⟨fun job => ⟨_, exec_eraseDone hs job false, mbxEnd_ended (by decide) _⟩,
      fun job => ⟨_, exec_writeDone hs job false, mbxEnd_ended (by decide) _⟩,
      fun job dirty ok => writeDone_dirty hs job dirty ok steady⟩
  case verified => exact fun job => verifyDone_ends hs job
  case activated => exact fun job => activateDone_ends hs job

/-- All that the statement rests on beside the model is that host memory reads alike at every count of free values. -/
theorem mailboxCommands_iff : Obligations.MailboxCommands ↔ HostSteady :=
  ⟨hostSteady_of_mailboxCommands, mailboxCommands_of_hostSteady⟩

end Sys2Proof.Machine

/-!
The proofs of the family 03_position: the counts of the position interfaces, the commands that hand a set over, and the
window end of an interface that is off.
-/

namespace Sys2Proof.Machine

/-! ### Position interfaces: what an event finds (03 R91, R101, R104) -/

/-- A command that answers a next state and is not on Safety's list of commands that store keeps memory (O6). -/
theorem sameMem_of_exec {i : Instr} {s t : State} (h : mayStore i = false) (e : exec i s = .next t) : SameMem s t := by
  obtain ⟨u, eu, same⟩ := (commandsKeepMemoryAndMode i s).1 h
  rw [e] at eu
  cases eu
  exact same

/-- What an event of interface `n` finds once a lost race is counted: every setting in force, every register but the race
counter and every interface as they were. -/
structure Finds (n : Nat) (s u : State) : Prop where
  act : u.act = s.act
  encs : u.encs = s.encs
  freeCtr : u.freeCtr = s.freeCtr
  reg : ∀ a, a ≠ R.ENC_RACE n → u.reg a = s.reg a

theorem lost_finds (n : Nat) (s : State) (lost : Bool) : Finds n s (s.lost lost (R.ENC_RACE n)) :=
  ⟨State.lost_act .., State.lost_encs .., State.lost_freeCtr .., fun _ h => State.reg_lost s lost h⟩

section Finds

variable {n : Nat} {s u : State} (h : Finds n s u)

include h

theorem Finds.inForce (a : Nat) : u.inForce a = s.inForce a := by
  unfold State.inForce
  rw [h.act]

theorem Finds.actFld (a : Nat) (f : Fld) : u.actFld a f = s.actFld a f := congrArg (Word.get · f) (h.inForce a)

theorem Finds.actBit (a : Nat) (f : Fld) : u.actBit a f = s.actBit a f := congrArg (· == 1) (h.actFld a f)

theorem Finds.mode (k : Nat) : encMode u k = encMode s k := h.actFld _ _

theorem Finds.enc (k : Nat) : u.enc k = s.enc k := congrArg (Sparse.get (fun _ => ({} : EncSt)) · k) h.encs

theorem Finds.waits : (encUnit n).waits u = (encUnit n).waits s :=
  State.bit_of_reg (h.reg _ (by simp only [encUnit, R.ENC_CTRL, R.ENC_RACE]; omega)) _

theorem Finds.reg64 {a : Nat} (ha : a ≠ R.ENC_RACE n) (hb : a + 4 ≠ R.ENC_RACE n) : u.reg64 a = s.reg64 a :=
  State.reg64_congr (h.reg a ha) (h.reg _ hb)

theorem Finds.pos : encPos u n = encPos s n := by
  unfold encPos State.sreg64
  rw [h.reg64 (by simp only [R.ENC_POS_LO, R.ENC_RACE]; omega) (by simp only [R.ENC_POS_LO, R.ENC_RACE]; omega)]

theorem Finds.invertBy (c : Int) : invertBy u n c = invertBy s n c := by
  unfold Machine.invertBy
  rw [h.actBit]

theorem Finds.sameRegs (hn : n < 8) : SameRegs s u (InBlock 8) := fun a ha =>
  ⟨h.reg a fun e => ha (e ▸ InBlock.enc (k := 0x50) hn (by decide)), h.inForce a⟩

end Finds

/-! ### PositionCounts: edges and Hall states (03 R83, R84, R91, R92, R98) -/

/-- The outputs brought in line write their own registers only. -/
theorem ptAll_regs (n k : Nat) (s : State) : SameRegs s (ptAll n s) (PosOut k) :=
  (SameRegs.refl s _).foldl fun _ h _ ht => ptFollow_regs (List.mem_range.mp ht) h

section Counts

variable {s : State} {n : Fin 8} (hs : s.working = true) (held t2 : Nat) (lost : Bool)

include hs

theorem exec_quadCount (a b z : Bool) : exec (.quadCount n a b z ⟨held, t2⟩ lost) s =
    .next (if filterPasses s n held then quadCount n a b z t2 (s.lost lost (R.ENC_RACE n)) else s) :=
  next_eq (State.whenWorking_true hs _)

theorem exec_hallStateChange (v : Fin 8) : exec (.hallStateChange n v ⟨held, t2⟩ lost) s =
    .next (if filterPasses s n held then hallChange n v t2 (s.lost lost (R.ENC_RACE n)) else s) :=
  next_eq (State.whenWorking_true hs _)

end Counts

/-- A sample without a set that waits: the interface is on, so the count is published (03 R84, R86). -/
theorem countAt_on {s : State} {n : Nat} (h : encMode s n ≠ 0) (q dq : Int) (t2 : Nat) (v : Bool) :
    countAt s n q dq t2 v = countBy s n q dq t2 v := if_neg h

/-- A step of the quadrature state is counted from a state that differs in the levels seen and the instant alone. -/
theorem quadCount_counts {s : State} {n : Nat} {a b : Bool} {c : Int} (z : Bool) (t2 : Nat) (mode : encMode s n = 1)
    (idle : (encUnit n).waits s = false) (step : quadStep (s.enc n).a (s.enc n).b a b = some c) (moves : c ≠ 0) :
    ∃ u, u.regs = s.regs ∧ u.act = s.act ∧
      quadCount n a b z t2 s = countBy u n (2 ^ 22) (invertBy s n c * 2 ^ 22) t2 true := by
  unfold quadCount
  extract_lets x u v w
  have on : encMode u n = 1 := mode
  have kept : w = u := encTake_idle idle
  rw [if_neg (not_not_intro on), show quadStep x.a x.b a b = some c from step]
  dsimp only
  rw [if_neg moves, kept, countAt_on (by rw [on]; decide)]
  exact ⟨u, rfl, rfl, rfl⟩

/-- A step to an adjacent Hall state is counted likewise. -/
theorem hallChange_counts {s : State} {n v i j : Nat} (t2 : Nat) (mode : encMode s n = 3)
    (idle : (encUnit n).waits s = false) (new : hallIndex v = some i) (old : hallIndex (s.enc n).hall = some j)
    (adjacent : (i + 6 - j) % 6 = 1 ∨ (i + 6 - j) % 6 = 5) :
    ∃ u, u.regs = s.regs ∧ u.act = s.act ∧ hallChange n v t2 s =
      countBy u n (2 ^ 24) (invertBy s n (if (i + 6 - j) % 6 = 1 then 1 else -1) * 2 ^ 24) t2 true := by
  unfold hallChange
  extract_lets u w0 w x y z
  have on : encMode w n = 3 := mode
  have kept : z = y := encTake_idle idle
  have stood : hallIndex x.hall = some j := by
    show hallIndex ((u.setEnc n _).enc n).hall = some j
    rw [State.enc_setEnc_self]
    exact old
  rw [if_neg (not_not_intro on), new, stood]
  dsimp only
  have counts : encMode y n ≠ 0 := by
    rw [show encMode y n = 3 from mode]
    decide
  rw [if_neg (by omega), if_pos adjacent, kept, countAt_on counts]
  exact ⟨y, rfl, rfl, rfl⟩

/-- A count moves the position word and touches the position block alone. -/
theorem countBy_seen {s u : State} {n : Nat} (hn : n < 8) (regs : u.regs = s.regs) (act : u.act = s.act) (q dq : Int)
    (t2 : Nat) (v : Bool) : encPos (countBy u n q dq t2 v) n = toSigned 64 (ofSigned 64 (encPos s n + dq)) ∧
      SameRegs s (countBy u n q dq t2 v) (InBlock 8) := by
  have pos : encPos u n = encPos s n := encPos_of_posOut hn (.of_eq regs act)
  exact ⟨pos ▸ encPos_countBy u hn q dq t2 v, (SameRegs.of_eq regs act).trans (countBy_regs u hn q dq t2 v)⟩

/-- A fault of an interface: its flag, its count, and the position is suspect (03 R92, R95, R96). -/
def encSuspect (s : State) (n : Nat) (f count : Fld) : State :=
  (encFault (s.flag (R.ENC_STATUS n) F.ENC_STATUS_POS_SUSPECT) n f).satInc (R.ENC_ERRCNT n) count

theorem quadCount_undecidable {s : State} {n : Nat} {a b : Bool} (z : Bool) (t2 : Nat) (mode : encMode s n = 1)
    (step : quadStep (s.enc n).a (s.enc n).b a b = none) :
    ∃ u, u.regs = s.regs ∧ u.act = s.act ∧
      quadCount n a b z t2 s = ptAll n (encSuspect u n F.ENC_STATUS_QUAD_ERROR F.ENC_ERRCNT_ERR_COUNT) := by
  unfold quadCount
  extract_lets x u v
  rw [if_neg (not_not_intro (show encMode u n = 1 from mode)), show quadStep x.a x.b a b = none from step]
  exact ⟨u, rfl, rfl, rfl⟩

/-- The registers of a fault of an interface. -/
def FaultReg (n a : Nat) : Prop := a = R.ENC_STATUS n ∨ a = R.ENC_ERRCNT n ∨ a = R.EVT_LOST

theorem FaultReg.inBlock {n a : Nat} (hn : n < 8) (h : FaultReg n a) : InBlock 8 a := by
  unfold InBlock
  rcases h with rfl | rfl | rfl
  · simp only [R.ENC_STATUS]
    omega
  · simp only [R.ENC_ERRCNT]
    omega
  · exact .inr rfl

theorem encSuspect_regs (s : State) (n : Nat) (f count : Fld) : SameRegs s (encSuspect s n f count) (FaultReg n) :=
  (((SameRegs.refl s _).setBit (.inl rfl)).flagEvent (.inl rfl) (.inr (.inr rfl))).satInc (.inr (.inl rfl))

/-- A flag that is another leaves a field of its register. -/
theorem State.fld_flagEvent_apart (s : State) {a : Nat} {f g : Fld} (e : Nat) (hf : f.lo + f.width ≤ 32)
    (d : g.lo + g.width ≤ f.lo ∨ f.lo + f.width ≤ g.lo) (h : a ≠ R.EVT_LOST) :
    (s.flagEvent a f e).fld a g = s.fld a g := by
  unfold State.flagEvent
  split
  · rfl
  · exact (State.fld_of_reg (State.reg_raise _ e h) g).trans (State.fld_setFld_apart s a f g _ hf d)

theorem encStatus_ne_lost {n : Nat} : R.ENC_STATUS n ≠ R.EVT_LOST := by
  simp only [R.ENC_STATUS, R.EVT_LOST]
  omega

theorem encSuspect_bits (s : State) (n : Nat) {f : Fld} (count : Fld) (hf : f.width = 1) (hl : f.lo < 13) :
    (encSuspect s n f count).bit (R.ENC_STATUS n) f = true ∧
      (encSuspect s n f count).bit (R.ENC_STATUS n) F.ENC_STATUS_POS_SUSPECT = true := by
  have kept (g : Fld) : (encSuspect s n f count).bit (R.ENC_STATUS n) g =
      (encFault (s.flag (R.ENC_STATUS n) F.ENC_STATUS_POS_SUSPECT) n f).bit (R.ENC_STATUS n) g :=
    State.bit_of_reg (State.reg_satInc_ne _ _ _ (by simp only [R.ENC_STATUS, R.ENC_ERRCNT]; omega)) g
  refine ⟨(kept f).trans (State.bit_flagEvent _ _ hf (by omega) encStatus_ne_lost), (kept _).trans ?_⟩
  have apart := State.fld_flagEvent_apart (s.flag (R.ENC_STATUS n) F.ENC_STATUS_POS_SUSPECT) (f := f)
    (g := F.ENC_STATUS_POS_SUSPECT) (Ev.enc n 2) (by omega) (.inr (by rw [hf]; exact hl)) (encStatus_ne_lost (n := n))
  unfold State.bit encFault
  rw [apart]
  exact State.bit_setBit_self s _ 13 true (by decide)

/-- What the outputs and compare units of other interfaces may write is not the status of this one. -/
theorem encStatus_of_posOut {s t : State} {n : Nat} (hn : n < 8) (h : SameRegs s t (PosOut (n + 1))) :
    t.reg (R.ENC_STATUS n) = s.reg (R.ENC_STATUS n) :=
  (h _ (by unfold PosOut; simp only [R.ENC_STATUS, R.EVT_LOST]; omega)).1

/-- A fault leaves the position word, and its flags stand when the outputs have followed. -/
theorem ptAll_encSuspect {s u : State} {n : Nat} (hn : n < 8) (regs : u.regs = s.regs) (act : u.act = s.act) {f : Fld}
    (count : Fld) (hf : f.width = 1) (hl : f.lo < 13) :
    let t := ptAll n (encSuspect u n f count)
    encPos t n = encPos s n ∧ t.bit (R.ENC_STATUS n) f = true ∧
      t.bit (R.ENC_STATUS n) F.ENC_STATUS_POS_SUSPECT = true ∧ SameRegs s t (InBlock 8) := by
  intro t
  have seen : SameRegs s u (FaultReg n) := .of_eq regs act
  have fault := seen.trans (encSuspect_regs u n f count)
  have followed := ptAll_regs n n (encSuspect u n f count)
  have status : t.reg (R.ENC_STATUS n) = (encSuspect u n f count).reg (R.ENC_STATUS n) :=
    encStatus_of_posOut hn (ptAll_regs n (n + 1) _)
  obtain ⟨flag, suspect⟩ := encSuspect_bits u n count hf hl
  have pos : encPos (encSuspect u n f count) n = encPos s n := by
    unfold encPos State.sreg64
    rw [State.reg64_congr (fault _ ?_).1 (fault _ ?_).1] <;>
    simp only [FaultReg, R.ENC_POS_LO, R.ENC_STATUS, R.ENC_ERRCNT, R.EVT_LOST] <;> omega
  exact ⟨(encPos_of_posOut hn followed).trans pos, (State.bit_of_reg status f).trans flag,
    (State.bit_of_reg status _).trans suspect,
    (fault.mono fun _ => FaultReg.inBlock hn).trans (followed.mono fun _ => PosOut.inBlock hn)⟩

/-- Settles O7: an edge that the filter passes is counted by `countBy`, or leaves a fault. -/
theorem positionCounts : Obligations.PositionCounts := by
  intro s n held t2 lost hs same filt
  have found := lost_finds n s lost
  have passes : filterPasses s n held = decide (filt ≤ held) := rfl
  have quad (a b z) (h : filt ≤ held) := (exec_quadCount (n := n) hs held t2 lost a b z).trans
    (next_eq (if_pos (passes.trans (decide_eq_true h))))
  have hall (v) (h : filt ≤ held) := (exec_hallStateChange (n := n) hs held t2 lost v).trans
    (next_eq (if_pos (passes.trans (decide_eq_true h))))
  refine ⟨fun short a b z v => ?filtered, fun long idle => ⟨?counted, ?undecidable, ?adjacent⟩⟩
  case filtered =>
    have blocked : ¬ filterPasses s n held = true := by
      rw [passes, decide_eq_true_eq]
      omega
    exact ⟨(exec_quadCount hs held t2 lost a b z).trans (next_eq (if_neg blocked)),
      (exec_hallStateChange hs held t2 lost v).trans (next_eq (if_neg blocked))⟩
  case counted =>
    intro a b z c mode step moves
    obtain ⟨u, regs, act, e⟩ := quadCount_counts (s := s.lost lost (R.ENC_RACE n)) z t2 ((found.mode n).trans mode)
      (found.waits.trans idle) (by rw [found.enc]; exact step) moves
    rw [found.invertBy] at e
    have ends := (quad a b z long).trans (next_eq e)
    obtain ⟨pos, regs⟩ := countBy_seen n.isLt regs act (2 ^ 22) (invertBy s n c * 2 ^ 22) t2 true
    rw [found.pos] at pos
    exact ⟨_, ends, pos, sameMem_of_exec rfl ends, (found.sameRegs n.isLt).trans regs⟩
  case undecidable =>
    intro a b z mode step
    obtain ⟨u, regs, act, e⟩ := quadCount_undecidable (s := s.lost lost (R.ENC_RACE n)) z t2 ((found.mode n).trans mode)
      (by rw [found.enc]; exact step)
    have ends := (quad a b z long).trans (next_eq e)
    obtain ⟨pos, error, suspect, regs⟩ := ptAll_encSuspect n.isLt regs act (f := F.ENC_STATUS_QUAD_ERROR)
      F.ENC_ERRCNT_ERR_COUNT rfl (by decide)
    exact ⟨_, ends, pos.trans found.pos, error, suspect, sameMem_of_exec rfl ends, (found.sameRegs n.isLt).trans regs⟩
  case adjacent =>
    intro v i j mode new old adjacent
    obtain ⟨u, regs, act, e⟩ := hallChange_counts (s := s.lost lost (R.ENC_RACE n)) t2 ((found.mode n).trans mode)
      (found.waits.trans idle) new (by rw [found.enc]; exact old) adjacent
    rw [found.invertBy] at e
    have ends := (hall v long).trans (next_eq e)
    obtain ⟨pos, regs⟩ := countBy_seen n.isLt regs act (2 ^ 24)
      (invertBy s n (if (i + 6 - j) % 6 = 1 then 1 else -1) * 2 ^ 24) t2 true
    rw [found.pos] at pos
    exact ⟨_, ends, pos, sameMem_of_exec rfl ends, (found.sameRegs n.isLt).trans regs⟩

/-! ### CommitsTakeTheSet: the commit rule of seven units (18 R526 to R528) -/

/-! #### A set that is taken at once -/

/-- The registers of a unit: its CTRL, its set, its COMMIT_TAKEN. -/
def CommitUnit.places (u : CommitUnit) : List Nat :=
  u.ctrl :: (u.regs ++ u.taken.elim [] fun lo => [lo, lo + 4])

/-- Every register of a unit satisfies p. -/
def CommitUnit.Within (u : CommitUnit) (p : Nat → Prop) : Prop := ∀ a ∈ u.places, p a

theorem CommitUnit.Within.ctrl {u : CommitUnit} {p : Nat → Prop} (h : u.Within p) : p u.ctrl := h _ List.mem_cons_self

theorem CommitUnit.Within.regs {u : CommitUnit} {p : Nat → Prop} (h : u.Within p) : ∀ a ∈ u.regs, p a := fun a ha =>
  h a (List.mem_cons_of_mem _ (List.mem_append_left _ ha))

theorem CommitUnit.Within.taken {u : CommitUnit} {p : Nat → Prop} (h : u.Within p) (lo : Nat) (e : u.taken = some lo) :
    p lo ∧ p (lo + 4) := by
  have mem (a : Nat) (ha : a ∈ [lo, lo + 4]) : p a :=
    h a (List.mem_cons_of_mem _ (List.mem_append_right _ (by rw [e]; exact ha)))
  exact ⟨mem _ (by simp), mem _ (by simp)⟩

/-- COMMIT_PENDING is one bit of a register that is neither of the set nor of COMMIT_TAKEN. -/
structure CommitUnit.Apart (u : CommitUnit) : Prop where
  width : u.pend.width = 1
  lo : u.pend.lo < 32
  regs : u.ctrl ∉ u.regs
  taken : ∀ lo, u.taken = some lo → u.ctrl ≠ lo ∧ u.ctrl ≠ lo + 4

/-- The set of a unit, as it stood in one state, is in force in another, and was taken at the time of the first. -/
structure SetTaken (u : CommitUnit) (s t : State) : Prop where
  idle : u.waits t = false
  inForce : ∀ a, a ∈ u.regs → t.inForce a = s.reg a
  time : ∀ lo, u.taken = some lo → t.reg64 lo = s.now % 2 ^ 64

/-- What is written outside the unit's registers leaves a set taken. -/
theorem SetTaken.of_regs {u : CommitUnit} {s t v : State} {p : Nat → Prop} (h : SetTaken u s t) (k : SameRegs t v p)
    (w : u.Within (¬ p ·)) : SetTaken u s v := by
  refine ⟨(State.bit_of_reg (k _ w.ctrl).1 _).trans h.idle, fun a ha => (k a (w.regs a ha)).2.trans (h.inForce a ha),
    fun lo hl => ?_⟩
  obtain ⟨low, high⟩ := w.taken lo hl
  exact (State.reg64_congr (k _ low).1 (k _ high).1).trans (h.time lo hl)

/-- What was written outside the unit's registers before the commit leaves its set. -/
theorem SetTaken.before {u : CommitUnit} {r s t : State} {p : Nat → Prop} (h : SetTaken u s t) (k : SameRegs r s p)
    (now : s.now = r.now) (w : u.Within (¬ p ·)) : SetTaken u r t :=
  ⟨h.idle, fun a ha => (h.inForce a ha).trans (k a (w.regs a ha)).1, fun lo hl => now ▸ h.time lo hl⟩

@[simp] theorem State.takeShadows_tm (s : State) (l : List Nat) : (s.takeShadows l).tm = s.tm := by
  induction l generalizing s with
  | nil => rfl
  | cons a l ih => exact ih _

theorem CommitUnit.take_none {u : CommitUnit} {s : State} (w : u.waits s = true) (e : u.taken = none) :
    u.take s = (s.takeShadows u.regs).setBit u.ctrl u.pend false := by
  unfold CommitUnit.take
  rw [if_pos w, e]

theorem CommitUnit.take_some {u : CommitUnit} {s : State} {lo : Nat} (w : u.waits s = true) (e : u.taken = some lo) :
    u.take s = ((s.takeShadows u.regs).setBit u.ctrl u.pend false).setReg64 lo s.now := by
  unfold CommitUnit.take
  rw [if_pos w, e]
  exact congrArg (State.setReg64 _ lo) (congrArg TimeSt.now (s.takeShadows_tm u.regs))

section Units

variable {u : CommitUnit} (h : u.Apart) (s : State)

include h

theorem CommitUnit.Apart.bit_setBit (b : Bool) : u.waits (s.setBit u.ctrl u.pend b) = b := by
  obtain ⟨ctrl, ⟨lo, width⟩, regs, taken⟩ := u
  cases (show width = 1 from h.width)
  exact State.bit_setBit_self s ctrl lo b h.lo

theorem CommitUnit.Apart.commit_waits : u.waits (u.commit s) = true := h.bit_setBit s true

/-- A boundary that finds the set waiting takes it whole. -/
theorem CommitUnit.Apart.take_taken (w : u.waits s = true) : SetTaken u s (u.take s) := by
  have idle : u.waits ((s.takeShadows u.regs).setBit u.ctrl u.pend false) = false := h.bit_setBit _ false
  have inForce (a : Nat) (ha : a ∈ u.regs) : (s.takeShadows u.regs).inForce a = s.reg a :=
    (State.inForce_takeShadows u.regs s a).trans (if_pos ha)
  cases e : u.taken with
  | none =>
    rw [CommitUnit.take_none w e]
    exact ⟨idle, inForce, fun lo e' => nomatch e.symm.trans e'⟩
  | some lo =>
    obtain ⟨low, high⟩ := h.taken lo e
    rw [CommitUnit.take_some w e]
    refine ⟨(State.bit_of_reg (State.reg_setReg64_ne _ _ low high) _).trans idle, inForce, fun lo' e' => ?_⟩
    cases e.symm.trans e'
    exact State.reg64_setReg64 ..

/-- A commit whose boundary is the commit itself takes the set whole, and writes the unit's registers alone. -/
theorem CommitUnit.Apart.commit_taken {p : Nat → Prop} (w : u.Within p) :
    SetTaken u s (u.take (u.commit s)) ∧ SameRegs s (u.take (u.commit s)) p := by
  have committed : SameRegs s (u.commit s) (· = u.ctrl) := (SameRegs.refl s _).setBit rfl
  obtain ⟨idle, inForce, time⟩ := h.take_taken _ (h.commit_waits s)
  exact ⟨⟨idle, fun a ha => (inForce a ha).trans (committed a fun e => h.regs (e ▸ ha)).1, time⟩,
    ((SameRegs.refl s _).setBit w.ctrl).take w.ctrl w.regs w.taken⟩

end Units

/-- A row that counts its race, commits, and then writes outside the unit's registers takes the set at once. -/
theorem CommitUnit.Apart.taken_at_once {u : CommitUnit} (h : u.Apart) {r s t : State} {d p q : Nat → Prop}
    (before : SameRegs s r d) (now : r.now = s.now) (after : SameRegs (u.take (u.commit r)) t q)
    (wd : u.Within (¬ d ·)) (wq : u.Within (¬ q ·)) (wp : u.Within p) (dp : ∀ a, d a → p a) (qp : ∀ a, q a → p a) :
    SetTaken u s t ∧ SameRegs s t p := by
  obtain ⟨taken, regs⟩ := h.commit_taken r wp
  exact ⟨(taken.of_regs after wq).before before now wd, ((before.mono dp).trans regs).trans (after.mono qp)⟩

theorem State.lost_now (s : State) (b : Bool) (a : Nat) : (s.lost b a).now = s.now :=
  congrArg TimeSt.now (State.lost_tm s b a)

theorem State.lost_regs_of (s : State) (b : Bool) (a : Nat) : SameRegs s (s.lost b a) (· = a) :=
  (SameRegs.refl s _).lost rfl

/-! #### Position interfaces (03 R118) -/

/-- The registers that an interface's set writes where it takes effect while the interface is off. -/
def EncShown (n a : Nat) : Prop := PosOut n a ∨ a = R.ENC_POS_LO n ∨ a = R.ENC_POS_LO n + 4 ∨ a = R.ENC_INDEX_INFO n

theorem encLoad_regs {s u : State} {n : Nat} (p : Int) (h : SameRegs s u (EncShown n)) :
    SameRegs s (encLoad u n p) (EncShown n) := by
  have loaded : SameRegs s ((u.setSreg64 (R.ENC_POS_LO n) p).setBit (R.ENC_STATUS n) F.ENC_STATUS_TDIR false)
      (EncShown n) := (h.setReg64 (.inr (.inl rfl)) (.inr (.inr (.inl rfl)))).setBit (.inl PosOut.status)
  exact loaded.trans (.of_eq rfl rfl)

theorem cmpRejudge_regs {s u : State} {n m : Nat} (hm : m < 16) (h : SameRegs s u (EncShown n)) :
    SameRegs s (cmpRejudge n u m) (EncShown n) := by
  unfold cmpRejudge
  split
  · exact cmpNote_regs (h.setBit (.inl (PosOut.cmp (k := 0x14) hm (by decide))))
  · exact h

theorem cmpRenote_regs {s u : State} {p : Nat → Prop} {n m : Nat} (h : SameRegs s u p) :
    SameRegs s (cmpRenote n u m) p :=
  h.cond fun _ => cmpNote_regs

theorem ptRebase_regs {s u : State} {p : Nat → Prop} {n t : Nat} (h : SameRegs s u p) :
    SameRegs s (ptRebase n u t) p := by
  unfold ptRebase
  split
  · exact h.trans (.of_eq rfl rfl)
  · exact h

/-- A set of an interface that is off: it is in force whole, and what follows shows it elsewhere (03 R85 to R87). -/
theorem encTake_off_regs {s : State} {n : Nat} (off : encMode s n = 0) (granted : encRefused s n = false)
    (waits : (encUnit n).waits s = true) : SameRegs ((encUnit n).take s) (encTake s n) (EncShown n) := by
  unfold encTake
  rw [if_neg (by rw [waits]; decide)]
  extract_lets old refused preset s1 s2 mode p s3 s4 s5 s6 s7 s8 s9
  have h2 : SameRegs ((encUnit n).take s) s2 (EncShown n) := by
    have same : s1 = s := by
      show s.cond refused _ = s
      rw [show refused = false from granted, State.cond_false]
    rw [show s2 = (encUnit n).take s1 from rfl, same]
    exact .refl _ _
  have h3 : SameRegs ((encUnit n).take s) s3 (EncShown n) :=
    h2.cond fun u hu => (hu.setBit (.inl PosOut.status)).trans (.of_eq rfl rfl)
  have h4 : SameRegs ((encUnit n).take s) s4 (EncShown n) := by
    unfold s4
    split
    · exact (encLoad_regs _ h3).foldl fun u hu m hm => cmpRejudge_regs (List.mem_range.mp hm) hu
    · split
      · exact h3
      · exact (encLoad_regs _ h3).foldl fun u hu m _ => cmpRenote_regs hu
  have h5 : SameRegs ((encUnit n).take s) s5 (EncShown n) :=
    h4.cond fun u hu => hu.foldl fun v hv t _ => ptRebase_regs hv
  rw [if_pos off]
  split
  · exact h5
  · exact ((h5.setBit (.inl PosOut.status)).setFld (.inr (.inr (.inr rfl)))).trans (.of_eq rfl rfl)

theorem encUnit_apart (n : Nat) : (encUnit n).Apart := by
  refine ⟨rfl, show 1 < 32 by decide, ?_, fun lo e => nomatch e⟩
  simp only [encUnit, R.ENC_CTRL, R.ENC_CFG, R.ENC_PRESET_LO, R.ENC_PRESET_HI, R.ENC_SPEED_WIN, R.ENC_SC_NOM,
    List.mem_cons, List.not_mem_nil, or_false]
  omega

theorem encUnit_place {n a : Nat} (h : a ∈ (encUnit n).places) :
    a = R.ENC_CTRL n ∨ a = R.ENC_CFG n ∨ a = R.ENC_PRESET_LO n ∨ a = R.ENC_PRESET_HI n ∨ a = R.ENC_SPEED_WIN n ∨
      a = R.ENC_SC_NOM n := by
  simpa [CommitUnit.places, encUnit] using h

/-- The set lies in its block, apart from the race counter and from what shows that it took effect. -/
theorem encUnit_within {n : Nat} (hn : n < 8) : (encUnit n).Within fun a =>
    InBlock 8 a ∧ a ≠ R.ENC_RACE n ∧ ¬ EncShown n a := by
  intro a ha
  have place := encUnit_place ha
  simp only [R.ENC_CTRL, R.ENC_CFG, R.ENC_PRESET_LO, R.ENC_PRESET_HI, R.ENC_SPEED_WIN, R.ENC_SC_NOM] at place
  simp only [InBlock, EncShown, PosOut, R.ENC_RACE, R.ENC_STATUS, R.EVT_LOST, R.ENC_POS_LO, R.ENC_INDEX_INFO]
  omega

theorem EncShown.inBlock {n a : Nat} (hn : n < 8) (h : EncShown n a) : InBlock 8 a := by
  rcases h with h | rfl | rfl | rfl
  · exact h.inBlock hn
  · exact (InBlock.encPos hn).1
  · exact (InBlock.encPos hn).2
  · exact InBlock.enc (k := 0x30) hn (by decide)

/-- Whether a run refuses a set depends on the run and the two copies of ENC_n_CFG (03 R86). -/
theorem encRefused_congr {s t : State} {n : Nat} (run : t.reg R.SYS_STATE = s.reg R.SYS_STATE)
    (cfg : t.reg (R.ENC_CFG n) = s.reg (R.ENC_CFG n)) (act : t.inForce (R.ENC_CFG n) = s.inForce (R.ENC_CFG n)) :
    encRefused t n = encRefused s n := by
  unfold encRefused State.runActive State.actFld State.bit State.fld
  dsimp only
  rw [run, cfg, act]

/-- COMMIT of an interface that is off, where no run refuses the set. -/
theorem encCommit_takes {s : State} {n : Nat} (hn : n < 8) (lost : Bool) (off : encMode s n = 0)
    (granted : encRefused s n = false) :
    SetTaken (encUnit n) s (encCommit n (s.lost lost (R.ENC_RACE n))) ∧
      SameRegs s (encCommit n (s.lost lost (R.ENC_RACE n))) (InBlock 8) := by
  have found := lost_finds n s lost
  have off' := (found.mode n).trans off
  have refused : encRefused ((encUnit n).commit (s.lost lost (R.ENC_RACE n))) n = false := by
    have apart {a : Nat} (ha : a ≠ R.ENC_CTRL n) (hr : a ≠ R.ENC_RACE n) :=
      (State.reg_setBit_ne (s.lost lost (R.ENC_RACE n)) F.ENC_CTRL_COMMIT_PENDING true ha).trans (found.reg a hr)
    refine (encRefused_congr (apart ?_ ?_) (apart ?_ ?_) (found.inForce _)).trans granted <;>
    simp only [R.SYS_STATE, R.ENC_CTRL, R.ENC_RACE, R.ENC_CFG] <;> omega
  have takes : encCommit n (s.lost lost (R.ENC_RACE n)) = encTake ((encUnit n).commit (s.lost lost (R.ENC_RACE n))) n :=
    if_pos off'
  rw [takes]
  refine (encUnit_apart n).taken_at_once (State.lost_regs_of s lost _) (State.lost_now ..)
    (encTake_off_regs off' refused ((encUnit_apart n).commit_waits _)) (fun a ha => (encUnit_within hn a ha).2.1)
    (fun a ha => (encUnit_within hn a ha).2.2) (fun a ha => (encUnit_within hn a ha).1) ?_ (fun _ h => h.inBlock hn)
  rintro a rfl
  exact InBlock.enc (k := 0x50) hn (by decide)

/-! #### Compare units and outputs (03 R109, R114) -/

theorem cmpUnit_apart (m : Nat) : (cmpUnit m).Apart := by
  refine ⟨rfl, show 1 < 32 by decide, ?_, fun lo e => nomatch e⟩
  simp only [cmpUnit, R.CMP_CTRL, R.CMP_CFG, R.CMP_TARGET_LO, R.CMP_TARGET_HI, R.CMP_STEP, List.mem_cons,
    List.not_mem_nil, or_false]
  omega

theorem cmpUnit_place {m a : Nat} (h : a ∈ (cmpUnit m).places) :
    a = R.CMP_CTRL m ∨ a = R.CMP_CFG m ∨ a = R.CMP_TARGET_LO m ∨ a = R.CMP_TARGET_HI m ∨ a = R.CMP_STEP m := by
  simpa [CommitUnit.places, cmpUnit] using h

/-- What judging a compare unit writes. -/
def CmpShown (m a : Nat) : Prop := a = R.CMP_STATUS m ∨ a = R.EVT_LOST

theorem cmpUnit_within {m : Nat} (hm : m < 16) : (cmpUnit m).Within fun a => InBlock 8 a ∧ ¬ CmpShown m a := by
  intro a ha
  have place := cmpUnit_place ha
  simp only [R.CMP_CTRL, R.CMP_CFG, R.CMP_TARGET_LO, R.CMP_TARGET_HI, R.CMP_STEP] at place
  simp only [InBlock, CmpShown, R.CMP_STATUS, R.EVT_LOST]
  omega

theorem CmpShown.inBlock {m a : Nat} (hm : m < 16) (h : CmpShown m a) : InBlock 8 a := by
  simp only [CmpShown, R.CMP_STATUS] at h
  unfold InBlock
  omega

theorem cmpArm_shown (s : State) (m : Nat) : SameRegs s (cmpArm s m) (CmpShown m) := by
  have status : CmpShown m (R.CMP_STATUS m) := .inl rfl
  have same := SameRegs.refl s (CmpShown m)
  unfold cmpArm
  split
  · exact cmpNote_regs (((same.setBit status).setBit status).cond fun _ h => h.raise (.inr rfl))
  · exact same.setBit status

theorem cmpTake_waits {s : State} {m : Nat} (h : (cmpUnit m).waits s = true) :
    cmpTake s m = cmpArm ((cmpUnit m).take s) m :=
  if_pos h

/-- COMMIT of a compare unit whose interface is off. -/
theorem cmpCommit_takes {s : State} {m : Nat} (hm : m < 16) (lost : Bool)
    (off : encMode s (s.actFld (R.CMP_CFG m) F.CMP_CFG_INTERFACE) = 0) :
    let r := s.cond lost fun s => s.satInc (R.CMP_STATUS m) F.CMP_STATUS_RACE
    SetTaken (cmpUnit m) s (cmpCommit m r) ∧ SameRegs s (cmpCommit m r) (InBlock 8) := by
  intro r
  have before : SameRegs s r (CmpShown m) := (SameRegs.refl s _).cond fun _ h => h.satInc (.inl rfl)
  have now : r.now = s.now := by cases lost <;> rfl
  have off' : encMode r (r.actFld (R.CMP_CFG m) F.CMP_CFG_INTERFACE) = 0 := by cases lost <;> exact off
  have takes : cmpCommit m r = cmpArm ((cmpUnit m).take ((cmpUnit m).commit r)) m :=
    (if_pos off').trans (cmpTake_waits ((cmpUnit_apart m).commit_waits r))
  rw [takes]
  exact (cmpUnit_apart m).taken_at_once before now (cmpArm_shown _ m) (fun a ha => (cmpUnit_within hm a ha).2)
    (fun a ha => (cmpUnit_within hm a ha).2) (fun a ha => (cmpUnit_within hm a ha).1) (fun _ h => h.inBlock hm)
    (fun _ h => h.inBlock hm)

theorem ptUnit_apart (k : Nat) : (ptUnit k).Apart := by
  refine ⟨rfl, show 1 < 32 by decide, ?_, fun lo e => nomatch e⟩
  simp only [ptUnit, R.PT_CTRL, R.PT_CFG, List.mem_cons, List.not_mem_nil, or_false]
  omega

theorem ptUnit_within {k : Nat} (hk : k < 2) : (ptUnit k).Within (InBlock 8) := by
  intro a ha
  have place : a = R.PT_CTRL k ∨ a = R.PT_CFG k := by simpa [CommitUnit.places, ptUnit] using ha
  simp only [R.PT_CTRL, R.PT_CFG] at place
  unfold InBlock
  omega

/-- What an output that follows its source writes: PT_LAG, beside COMMIT_PENDING. -/
def PtShown (k a : Nat) : Prop := a = R.PT_CTRL k ∨ a = R.EVT_LOST

theorem PtShown.inBlock {k a : Nat} (hk : k < 2) (h : PtShown k a) : InBlock 8 a := by
  simp only [PtShown, R.PT_CTRL] at h
  unfold InBlock
  omega

theorem ptFollow_shown (n : Nat) (s : State) (k : Nat) :
    SameRegs s (ptFollow n s k) (PtShown k) ∧ (ptUnit k).waits (ptFollow n s k) = (ptUnit k).waits s := by
  have same (x : PtSt) : SameRegs s (s.setPt k x) (PtShown k) := .of_eq rfl rfl
  unfold ptFollow
  dsimp only
  split
  · exact ⟨.refl s _, rfl⟩
  · split
    · exact ⟨same _, rfl⟩
    · split
      · refine State.cond_induct (p := fun v => SameRegs s v (PtShown k) ∧ (ptUnit k).waits v = (ptUnit k).waits s)
          ⟨same _, rfl⟩ fun _ => ⟨(same _).flagEvent (.inl rfl) (.inr rfl), ?_⟩
        refine congrArg (· == 1) (State.fld_flagEvent_apart _ _ (by decide) (.inl (show 1 + 1 ≤ 2 by decide)) ?_)
        simp only [R.PT_CTRL, R.EVT_LOST]
        omega
      · exact ⟨same _, rfl⟩

/-- A set of an output that waits: it is in force whole, and the output follows its source from level with it. -/
theorem ptTake_waits {s : State} {k : Nat} (h : (ptUnit k).waits s = true) : ∃ n x,
    ptTake s k = ptFollow n (((ptUnit k).take s).setPt k x) k := by
  unfold ptTake
  rw [if_pos h]
  exact ⟨_, _, rfl⟩

/-- COMMIT of an output whose source is off. -/
theorem ptCommit_takes {s : State} {k : Nat} (hk : k < 2) (lost : Bool)
    (off : encMode s (s.actFld (R.PT_CFG k) F.PT_CFG_SOURCE) = 0) :
    let r := s.lost lost (R.ENC_RACE (s.actFld (R.PT_CFG k) F.PT_CFG_SOURCE))
    SetTaken (ptUnit k) s (ptCommit k r) ∧ SameRegs s (ptCommit k r) (InBlock 8) := by
  intro r
  have source : s.actFld (R.PT_CFG k) F.PT_CFG_SOURCE < 2 := Word.get_lt _ _
  have found := lost_finds (s.actFld (R.PT_CFG k) F.PT_CFG_SOURCE) s lost
  have off' : encMode r (r.actFld (R.PT_CFG k) F.PT_CFG_SOURCE) = 0 := by
    rw [found.actFld, found.mode]
    exact off
  obtain ⟨n, x, takes⟩ := ptTake_waits ((ptUnit_apart k).commit_waits r)
  obtain ⟨⟨idle, inForce, -⟩, regs⟩ := (ptUnit_apart k).commit_taken r (ptUnit_within hk)
  obtain ⟨shown, waits⟩ := ptFollow_shown n (((ptUnit k).take ((ptUnit k).commit r)).setPt k x) k
  rw [show ptCommit k r = _ from (if_pos off').trans takes]
  refine ⟨⟨waits.trans idle, fun a ha => ?_, fun lo e => nomatch e⟩, ?_⟩
  · have cfg : a = R.PT_CFG k := List.mem_singleton.mp ha
    refine ((shown a ?_).2.trans (inForce a ha)).trans (found.reg a ?_) <;>
    simp only [cfg, PtShown, R.PT_CFG, R.PT_CTRL, R.EVT_LOST, R.ENC_RACE] <;> omega
  · exact ((found.sameRegs (by omega)).trans regs).trans
      ((SameRegs.of_eq rfl rfl).trans (shown.mono fun _ h => h.inBlock hk))

/-! #### Imaging ports (04 R150, 05 R192) -/

theorem capUnit_apart (n : Nat) : (capUnit n).Apart := by
  refine ⟨rfl, show 1 < 32 by decide, ?_, fun lo e => ?_⟩
  · simp only [capUnit, R.IMG_CTRL, R.IMG_TRIG_CFG, R.IMG_PITCH_LO, R.IMG_PITCH_HI, R.IMG_ORIGIN_LO, R.IMG_ORIGIN_HI,
      R.IMG_EXPOSURE, R.IMG_LINE_MIN, R.IMG_TIMING, R.IMG_PRED, R.IMG_DATA_TO, List.mem_cons, List.not_mem_nil,
      or_false]
    omega
  · cases e
    simp only [capUnit, R.IMG_CTRL, R.IMG_COMMIT_TAKEN_LO]
    omega

/-- What shows the state of a port, and its race counter. -/
def ImgShown (n a : Nat) : Prop :=
  a = R.IMG_STATUS n ∨ a = R.IMG_NEXT_LO n ∨ a = R.IMG_NEXT_LO n + 4 ∨ a = R.IMG_RACE n

theorem capUnit_within (n : Nat) : (capUnit n).Within fun a => InBlock (16 + n) a ∧ ¬ ImgShown n a := by
  intro a ha
  have place : a = R.IMG_CTRL n ∨ (R.IMG_TRIG_CFG n ≤ a ∧ a ≤ R.IMG_DATA_TO n) ∨ a = R.IMG_COMMIT_TAKEN_LO n ∨
      a = R.IMG_COMMIT_TAKEN_LO n + 4 := by
    simp only [CommitUnit.places, capUnit, Option.elim, List.cons_append, List.nil_append, List.mem_cons,
      List.not_mem_nil, or_false, R.IMG_TRIG_CFG, R.IMG_PITCH_LO, R.IMG_PITCH_HI, R.IMG_ORIGIN_LO, R.IMG_ORIGIN_HI,
      R.IMG_EXPOSURE, R.IMG_LINE_MIN, R.IMG_TIMING, R.IMG_PRED, R.IMG_DATA_TO] at ha ⊢
    omega
  simp only [R.IMG_CTRL, R.IMG_TRIG_CFG, R.IMG_DATA_TO, R.IMG_COMMIT_TAKEN_LO] at place
  simp only [InBlock, ImgShown, R.IMG_STATUS, R.IMG_NEXT_LO, R.IMG_RACE]
  omega

theorem corUnit_apart (n : Nat) : (corUnit n).Apart := by
  refine ⟨rfl, show 1 < 32 by decide, ?_, fun lo e => ?_⟩
  · simp only [corUnit, R.IMG_COR_CTRL, R.IMG_COR_CFG, R.IMG_REF_COLS, R.IMG_REF_LEVEL, R.IMG_NORM_LIMITS,
      List.mem_cons, List.not_mem_nil, or_false]
    omega
  · cases e
    simp only [corUnit, R.IMG_COR_CTRL, R.IMG_COMMIT_TAKEN_LO]
    omega

theorem corUnit_within (n : Nat) : (corUnit n).Within fun a => InBlock (16 + n) a ∧ ¬ ImgShown n a := by
  intro a ha
  have place : a = R.IMG_COR_CTRL n ∨ a = R.IMG_COR_CFG n ∨ a = R.IMG_REF_COLS n ∨ a = R.IMG_REF_LEVEL n ∨
      a = R.IMG_NORM_LIMITS n ∨ a = R.IMG_COMMIT_TAKEN_LO n ∨ a = R.IMG_COMMIT_TAKEN_LO n + 4 := by
    simpa [CommitUnit.places, corUnit] using ha
  simp only [R.IMG_COR_CTRL, R.IMG_COR_CFG, R.IMG_REF_COLS, R.IMG_REF_LEVEL, R.IMG_NORM_LIMITS,
    R.IMG_COMMIT_TAKEN_LO] at place
  simp only [InBlock, ImgShown, R.IMG_STATUS, R.IMG_NEXT_LO, R.IMG_RACE]
  omega

theorem ImgShown.inBlock {n a : Nat} (h : ImgShown n a) : InBlock (16 + n) a := by
  simp only [ImgShown, R.IMG_STATUS, R.IMG_NEXT_LO, R.IMG_RACE] at h
  unfold InBlock
  omega

theorem imgShow_shown (s : State) (n : Nat) : SameRegs s (imgShow s n) (ImgShown n) := by
  have status : ImgShown n (R.IMG_STATUS n) := .inl rfl
  unfold imgShow
  extract_lets st u v
  have shown : SameRegs s v (ImgShown n) := ((SameRegs.refl s _).setBit status).setFld status
  split
  · exact shown.setReg64 (.inr (.inl rfl)) (.inr (.inr (.inl rfl)))
  · exact shown

theorem lost_imgShown (s : State) (lost : Bool) (n : Nat) : SameRegs s (s.lost lost (R.IMG_RACE n)) (ImgShown n) :=
  (SameRegs.refl s _).lost (.inr (.inr (.inr rfl)))

/-- Without a run, nothing of the capture set is withheld. -/
theorem capTake_still {s : State} {n : Nat} (still : s.runActive = false) (w : (capUnit n).waits s = true) :
    SameRegs ((capUnit n).take s) (capTake s n) (ImgShown n) := by
  unfold capTake
  rw [if_neg (by rw [w]; decide)]
  extract_lets a regs refused changed s1 s2
  have granted : s1 = s := by
    show s.cond refused _ = s
    rw [show refused = false by simp only [refused, still, Bool.false_and], State.cond_false]
  show SameRegs _ (State.cond s2 changed _) _
  rw [show s2 = (capUnit n).take s from congrArg (CommitUnit.take (capUnit n)) granted]
  exact (SameRegs.refl _ _).cond fun _ h => h.trans (.of_eq rfl rfl)

/-- Without a run, nothing of the correction set is withheld, and no halves are swapped. -/
theorem corTake_still {s : State} {n : Nat} (still : s.runActive = false) (w : (corUnit n).waits s = true)
    (meets : Bool) : corTake s n meets = (corUnit n).take s := by
  unfold corTake
  simp only [w, still, Bool.not_true, Bool.false_eq_true, if_false, Bool.false_and, Bool.or_self, State.cond_false]

section Ports

variable {s : State} {n : Nat} (lost : Bool)

/-- A race counted and a commit asked for leave the run and the generator's state. -/
theorem imgIdle_commit {u : CommitUnit} (h : R.IMG_CTRL n = u.ctrl ∨ R.IMG_COR_CTRL n = u.ctrl) :
    let c := u.commit (s.lost lost (R.IMG_RACE n))
    c.runActive = s.runActive ∧ imgIdle c n = (!s.runActive || !imgArmed s n) := by
  intro c
  have kept {a : Nat} (ha : a ≠ u.ctrl) (hr : a ≠ R.IMG_RACE n) : c.reg a = s.reg a :=
    (State.reg_setBit_ne _ _ _ ha).trans (State.reg_lost s lost hr)
  have run : c.runActive = s.runActive := State.bit_of_reg (kept (by
    simp only [R.IMG_CTRL, R.IMG_COR_CTRL] at h
    simp only [R.SYS_STATE]
    omega) (by simp only [R.SYS_STATE, R.IMG_RACE]; omega)) _
  have armed : imgArmed c n = imgArmed s n := State.bit_of_reg (kept (by
    simp only [R.IMG_CTRL, R.IMG_COR_CTRL] at h
    simp only [R.IMG_STATUS]
    omega) (by simp only [R.IMG_STATUS, R.IMG_RACE]; omega)) _
  exact ⟨run, by unfold imgIdle; rw [run, armed]⟩

/-- COMMIT of the capture set without a run. -/
theorem imgCommit_takes (still : s.runActive = false) :
    SetTaken (capUnit n) s (imgCommit n (s.lost lost (R.IMG_RACE n))) ∧
      SameRegs s (imgCommit n (s.lost lost (R.IMG_RACE n))) (InBlock (16 + n)) := by
  obtain ⟨run, idle⟩ := imgIdle_commit (s := s) (n := n) (u := capUnit n) lost (.inl rfl)
  have waits := (capUnit_apart n).commit_waits (s.lost lost (R.IMG_RACE n))
  have takes : imgCommit n (s.lost lost (R.IMG_RACE n)) =
      imgShow (capTake ((capUnit n).commit (s.lost lost (R.IMG_RACE n))) n) n := if_pos (by rw [idle, still]; rfl)
  rw [takes]
  exact (capUnit_apart n).taken_at_once (lost_imgShown s lost n) (State.lost_now ..)
    ((capTake_still (run.trans still) waits).trans (imgShow_shown _ n)) (fun a ha => (capUnit_within n a ha).2)
    (fun a ha => (capUnit_within n a ha).2) (fun a ha => (capUnit_within n a ha).1) (fun _ h => h.inBlock)
    (fun _ h => h.inBlock)

/-- COMMIT of the correction set without a run. -/
theorem imgCorCommit_takes (still : s.runActive = false) (meets : Bool) :
    SetTaken (corUnit n) s (imgCorCommit n meets (s.lost lost (R.IMG_RACE n))) ∧
      SameRegs s (imgCorCommit n meets (s.lost lost (R.IMG_RACE n))) (InBlock (16 + n)) := by
  obtain ⟨run, idle⟩ := imgIdle_commit (s := s) (n := n) (u := corUnit n) lost (.inr rfl)
  have takes : imgCorCommit n meets (s.lost lost (R.IMG_RACE n)) =
      (corUnit n).take ((corUnit n).commit (s.lost lost (R.IMG_RACE n))) :=
    (if_pos (by rw [idle, still]; rfl)).trans (corTake_still (run.trans still) ((corUnit_apart n).commit_waits _) meets)
  rw [takes]
  exact (corUnit_apart n).taken_at_once (lost_imgShown s lost n) (State.lost_now ..) (.refl _ (ImgShown n))
    (fun a ha => (corUnit_within n a ha).2) (fun a ha => (corUnit_within n a ha).2)
    (fun a ha => (corUnit_within n a ha).1) (fun _ h => h.inBlock) (fun _ h => h.inBlock)

end Ports

/-! #### Timers and channels (14 R453, 18 R549) -/

theorem tmrUnit_apart {n : Nat} (hn : n < 64) : (tmrUnit n).Apart := by
  refine ⟨rfl, show 1 < 32 by decide, ?_, fun lo e => ?_⟩
  · simp only [tmrUnit, R.TMRN_CTRL, R.TMRN_CFG, R.TMRN_PERIOD, R.TMRN_PHASE, R.TMRN_HIGH, List.mem_cons,
      List.not_mem_nil, or_false]
    omega
  · cases e
    simp only [tmrUnit, R.TMRN_CTRL, R.TMRN_COMMIT_TAKEN_LO]
    omega

/-- What shows a timer that begins, what its output triggers, and the race counter of the timers. -/
def TmrShown (n a : Nat) : Prop :=
  a = R.TMRN_STATUS n ∨ a = R.TMRN_NEXT_LO n ∨ a = R.TMRN_NEXT_LO n + 4 ∨ a = R.TMR_RACE ∨ InBlock 10 a

theorem tmrUnit_within {n : Nat} (hn : n < 64) : (tmrUnit n).Within fun a => InBlock 6 a ∧ ¬ TmrShown n a := by
  intro a ha
  have place : a = R.TMRN_CTRL n ∨ a = R.TMRN_CFG n ∨ a = R.TMRN_PERIOD n ∨ a = R.TMRN_PHASE n ∨ a = R.TMRN_HIGH n ∨
      a = R.TMRN_COMMIT_TAKEN_LO n ∨ a = R.TMRN_COMMIT_TAKEN_LO n + 4 := by
    simpa [CommitUnit.places, tmrUnit] using ha
  simp only [R.TMRN_CTRL, R.TMRN_CFG, R.TMRN_PERIOD, R.TMRN_PHASE, R.TMRN_HIGH, R.TMRN_COMMIT_TAKEN_LO] at place
  simp only [InBlock, TmrShown, R.TMRN_STATUS, R.TMRN_NEXT_LO, R.TMR_RACE, R.EVT_LOST]
  omega

theorem TmrShown.inBlocks {n a : Nat} (hn : n < 64) (h : TmrShown n a) : InBlock 6 a ∨ InBlock 10 a := by
  rcases h with rfl | rfl | rfl | rfl | h
  · simp only [InBlock, R.TMRN_STATUS]
    omega
  · simp only [InBlock, R.TMRN_NEXT_LO]
    omega
  · simp only [InBlock, R.TMRN_NEXT_LO]
    omega
  · exact .inl (.inl (by decide))
  · exact .inr h

theorem inBlock_meas {k : Nat} (hk : k < 16) : InBlock 10 (R.M_STATUS k) ∧ InBlock 10 (R.M_CTRL k) := by
  simp only [InBlock, R.M_STATUS, R.M_CTRL]
  omega

theorem precTrigger_regs (src index : Nat) (s : State) : SameRegs s (precTrigger src index s) (InBlock 10) := by
  refine (SameRegs.refl s _).foldl fun u h k hk => ?_
  obtain ⟨status, ctrl⟩ := inBlock_meas (List.mem_range.mp hk)
  split
  · unfold measTrigger
    extract_lets m d
    split
    · exact h
    · split
      · exact ((h.setBit status).satInc status).raise (.inr rfl)
      · exact (h.trans (.of_eq rfl rfl)).setBit ctrl
  · exact h

theorem tmrOutput_regs {s u : State} {n : Nat} (h : SameRegs s u (TmrShown n)) (high : Bool) :
    SameRegs s (tmrOutput u n high) (TmrShown n) := by
  unfold tmrOutput
  extract_lets _ v level old w
  have shown : SameRegs s w (TmrShown n) := (h.trans (.of_eq rfl rfl)).setBit (.inl rfl)
  split
  · exact shown
  · exact shown.trans (SameRegs.mono (precTrigger_regs _ _ _) fun _ hb => .inr (.inr (.inr (.inr hb))))

theorem tmrShow_regs {s u : State} {n : Nat} (h : SameRegs s u (TmrShown n)) : SameRegs s (tmrShow u n) (TmrShown n) :=
  (h.setBit (.inl rfl)).setReg64 (.inr (.inl rfl)) (.inr (.inr (.inl rfl)))

theorem setTimer_regs (s : State) (n : Nat) (x : TimerSt) (p : Nat → Prop) : SameRegs s (s.setTimer n x) p :=
  .of_eq rfl rfl

/-- A timer that begins shows it, and may trigger measurements by its output (18 R547, 09 R299). -/
theorem tmrBegin_regs (s : State) (n t : Nat) : SameRegs s (tmrBegin s n t) (TmrShown n) := by
  unfold tmrBegin
  refine tmrShow_regs ?_
  split
  · exact tmrOutput_regs ((setTimer_regs s n _ _).trans (setTimer_regs _ n _ _)) false
  · exact tmrOutput_regs (setTimer_regs s n _ _) _

/-- COMMIT of a timer that is stopped. -/
theorem tmrCommit_takes {s : State} {n : Nat} (hn : n < 64) (lost : Bool) (stopped : (s.timer n).next.isNone = true) :
    SetTaken (tmrUnit n) s ((tmrCommit n s).lost lost R.TMR_RACE) ∧
      SameRegs s ((tmrCommit n s).lost lost R.TMR_RACE) (fun a => InBlock 6 a ∨ InBlock 10 a) := by
  rw [show tmrCommit n s = tmrBegin ((tmrUnit n).take ((tmrUnit n).commit s)) n s.now from if_pos stopped]
  exact (tmrUnit_apart hn).taken_at_once (.refl s (TmrShown n)) rfl
    ((tmrBegin_regs _ n s.now).lost (.inr (.inr (.inr (.inl rfl))))) (fun a ha => (tmrUnit_within hn a ha).2)
    (fun a ha => (tmrUnit_within hn a ha).2) (fun a ha => .inl (tmrUnit_within hn a ha).1) (fun _ h => h.inBlocks hn)
    (fun _ h => h.inBlocks hn)

theorem chanUnit_apart (n : Nat) : (chanUnit n).Apart := by
  refine ⟨rfl, show 6 < 32 by decide, ?_, fun lo e => ?_⟩
  · simp only [chanUnit, R.CH_CTRL, R.CH_CFG, R.CH_HOPMAX, List.mem_cons, List.not_mem_nil, or_false]
    omega
  · cases e
    simp only [chanUnit, R.CH_CTRL, R.CH_COMMIT_TAKEN_LO]
    omega

theorem chanUnit_within {n : Nat} (hn : n < 64) : (chanUnit n).Within fun a => InBlock 0x29 a ∧ ¬ a = R.CH_RACE n := by
  intro a ha
  have place : a = R.CH_CTRL n ∨ a = R.CH_CFG n ∨ a = R.CH_HOPMAX n ∨ a = R.CH_COMMIT_TAKEN_LO n ∨
      a = R.CH_COMMIT_TAKEN_LO n + 4 := by
    simpa [CommitUnit.places, chanUnit] using ha
  simp only [R.CH_CTRL, R.CH_CFG, R.CH_HOPMAX, R.CH_COMMIT_TAKEN_LO] at place
  simp only [InBlock, R.CH_RACE]
  omega

/-- The state of a channel after COMMIT is asked for. -/
theorem chanState_commit (s : State) (n : Nat) : chanState ((chanUnit n).commit s) n = chanState s n :=
  State.fld_of_reg (State.reg_setBit_ne s _ _ (by simp only [chanUnit, R.CH_STATUS, R.CH_CTRL]; omega)) _

/-- COMMIT of a channel that is not RUNNING. -/
theorem chanCommit_takes {s : State} {n : Nat} (hn : n < 64) (lost : Bool) (idle : chanState s n ≠ 3) :
    SetTaken (chanUnit n) s ((chanCommit n s).lost lost (R.CH_RACE n)) ∧
      SameRegs s ((chanCommit n s).lost lost (R.CH_RACE n)) (InBlock 0x29) := by
  rw [show chanCommit n s = (chanUnit n).take ((chanUnit n).commit s) from
    if_neg (by rw [chanState_commit]; exact idle)]
  have race {a : Nat} (h : a = R.CH_RACE n) : InBlock 0x29 a := by
    subst h
    simp only [InBlock, R.CH_RACE]
    omega
  exact (chanUnit_apart n).taken_at_once (.refl s (· = R.CH_RACE n)) rfl (State.lost_regs_of _ lost _)
    (fun a ha => (chanUnit_within hn a ha).2) (fun a ha => (chanUnit_within hn a ha).2)
    (fun a ha => (chanUnit_within hn a ha).1) (fun _ => race) (fun _ => race)

/-! #### The rows -/

/-- A row that takes its set at once completes so. -/
theorem completes_taken {row : Instr} {u : CommitUnit} {s t : State} {p : Nat → Prop} (quiet : mayStore row = false)
    (e : exec row s = .next t) (h : SetTaken u s t ∧ SameRegs s t p) :
    Completes row s fun t => u.waits t = false ∧ (∀ a, a ∈ u.regs → t.inForce a = s.reg a) ∧
      (∀ lo, u.taken = some lo → t.reg64 lo = s.now % 2 ^ 64) ∧ SameMem s t ∧ SameRegs s t p :=
  ⟨t, e, h.1.idle, h.1.inForce, h.1.time, sameMem_of_exec quiet e, h.2⟩

/-- Settles O27, unit by unit: a boundary that lies ahead leaves `commit` alone, one that is there takes the set. -/
theorem commitsTakeTheSet : Obligations.CommitsTakeTheSet := by
  intro s lost hs awaits takes position imaging timers channels
  have works (f : State → State) : (.next (s.whenWorking f) : Result) = .next (f s) :=
    next_eq (State.whenWorking_true hs f)
  refine ⟨?positions, ?ports, ?clocks, ?chans⟩
  case positions =>
    intro n m k cmpSrc ptSrc
    have found := lost_finds n s lost
    have source := lost_finds ptSrc s lost
    refine ⟨fun on => ?_, fun off => ?_, fun on => ?_, fun off => ?_, fun on => ?_, fun off => ?_⟩
    · exact (works _).trans (next_eq (if_neg (show ¬ encMode (s.lost lost (R.ENC_RACE n)) n = 0 by
        rw [found.mode]
        simpa using on)))
    · obtain ⟨mode, granted⟩ : encMode s n = 0 ∧ encRefused s n = false := by simpa using off
      exact completes_taken rfl (works _) (encCommit_takes n.isLt lost mode granted)
    · have watched : cmpSrc ≠ 0 := by simpa using on
      refine (works _).trans (next_eq (if_neg ?_))
      cases lost <;> exact watched
    · exact completes_taken rfl (works _) (cmpCommit_takes m.isLt lost (by simpa using off))
    · refine (works _).trans (next_eq (if_neg (show ¬ encMode (s.lost lost (R.ENC_RACE ptSrc))
        ((s.lost lost (R.ENC_RACE ptSrc)).actFld (R.PT_CFG k) F.PT_CFG_SOURCE) = 0 from ?_)))
      rw [source.actFld, source.mode]
      simpa using on
    · exact completes_taken rfl (works _) (ptCommit_takes k.isLt lost (by simpa using off))
  case ports =>
    intro n m
    refine ⟨fun on => ?_, fun off => ?_, fun on => ?_, fun off => ?_⟩
    · have idle := (imgIdle_commit (u := capUnit n) (s := s) lost (.inl rfl)).2
      exact (works _).trans (next_eq (if_neg (by rw [idle]; simpa using on)))
    · exact completes_taken rfl (works _) (imgCommit_takes lost (by simpa using off))
    · have idle := (imgIdle_commit (u := corUnit n) (s := s) (m == .lost) (.inr rfl)).2
      exact (works _).trans (next_eq (if_neg (by rw [idle]; simpa using on)))
    · exact completes_taken rfl (works _) (imgCorCommit_takes (m == .lost) (by simpa using off) (m == .beats))
  case clocks =>
    intro n
    refine ⟨fun ahead => ?_, fun stopped => ?_⟩
    · have runs : ¬ (s.timer n).next.isNone = true := by
        rw [← Option.not_isSome, ahead]
        decide
      exact (works _).trans (next_eq (congrArg (State.lost · lost R.TMR_RACE) (if_neg runs)))
    · exact completes_taken rfl (works _) (tmrCommit_takes n.isLt lost stopped)
  case chans =>
    intro n
    refine ⟨fun running => ?_, fun idle => ?_⟩
    · refine (works _).trans (next_eq (congrArg (State.lost · lost (R.CH_RACE n)) (if_pos ?_)))
      rw [chanState_commit]
      simpa using running
    · exact completes_taken rfl (works _) (chanCommit_takes n.isLt lost (by simpa using idle))

/-! ### SPEED_WINDOW_END at an interface that is off (03 R103; 17 R513) -/

/-- With POS_OUT.EN set, the last window sent is the last one that the shared interface has completed. -/
theorem speedShare_seq {s : State} (en : s.bit R.RUN_POS_OUT F.RUN_POS_OUT_EN = true) :
    (speedShare s).runner.speedSeq =
      s.fld (R.ENC_SPEED_STAT (s.fld R.RUN_POS_OUT F.RUN_POS_OUT_INTERFACE)) F.ENC_SPEED_STAT_WINDOW_SEQ := by
  unfold speedShare
  extract_lets i st seq one v
  split
  case isTrue sent =>
    have same : seq = s.runner.speedSeq := by simpa [en] using sent
    exact same.symm
  case isFalse => rfl

/-- A window end at an interface that is off closes no window, and a device on the ring shares all the same. -/
theorem speedWindowEnd_of_off {s : State} (n : Fin 8) (hs : s.working = true) (off : encMode s n = 0)
    (serves : ringServes s = true) : exec (.speedWindowEnd n false) s = .next (speedShare s) := by
  refine next_eq ((State.whenWorking_true hs _).trans ?_)
  have closes : windowEnd n s = s := if_pos off
  change (windowEnd n s).cond (ringServes (windowEnd n s)) speedShare = speedShare s
  rw [closes, serves]
  rfl

/-- A device in RUN with interface 0 off, which shares interface 1 (POS_OUT.EN set) and has not yet sent the one window
that interface 1 has completed, as when EN is written between that window's end and the next. -/
def windowUnsent : State :=
  ((({ State.reset with mode := .run } : State).setBit R.RUN_POS_OUT F.RUN_POS_OUT_EN true).setFld R.RUN_POS_OUT
    F.RUN_POS_OUT_INTERFACE 1).setFld (R.ENC_SPEED_STAT 1) F.ENC_SPEED_STAT_WINDOW_SEQ 1

theorem windowUnsent_shows : encMode windowUnsent 0 = 0 ∧ windowUnsent.bit R.RUN_POS_OUT F.RUN_POS_OUT_EN = true ∧
    windowUnsent.fld (R.ENC_SPEED_STAT (windowUnsent.fld R.RUN_POS_OUT F.RUN_POS_OUT_INTERFACE))
      F.ENC_SPEED_STAT_WINDOW_SEQ = 1 := by
  decide

/-- Refutes O8 in the clause that SPEED_WINDOW_END at an interface with MODE off only counts a lost race: the row also
sends the window that the shared interface, here another one, has completed (17 R513). From `windowUnsent` it makes
window 1 the last one sent, where 0 stood. -/
theorem not_positionSamplesAndLatches : ¬ Obligations.PositionSamplesAndLatches := by
  intro holds
  obtain ⟨off, en, one⟩ := windowUnsent_shows
  obtain ⟨-, -, -, -, -, -, -, -, -, offOnlyRaces, -⟩ := holds windowUnsent 0 false rfl
  have sent : speedShare windowUnsent = windowUnsent :=
    Host.Outcome.next.inj ((speedWindowEnd_of_off 0 rfl off rfl).symm.trans (offOnlyRaces off))
  have last : (speedShare windowUnsent).runner.speedSeq = 1 := (speedShare_seq en).trans one
  rw [sent] at last
  exact absurd last (by decide)

end Sys2Proof.Machine

/-!
The proofs of the family 04_line_capture: scripts that a RUN write or the stop of a run starts, the trigger generator and
the shading loads of an imaging port, its lanes and its packets.
-/

namespace Sys2Proof.Machine

/-! ### ScriptPhases: scripts that a RUN write or the stop of a run starts (04 R135, R136, 06 R205, 07 R224) -/

/-! #### An engine takes a script -/

/-- A script of a phase runs on an engine, from its first operation on, and BUSY shows it. -/
def ScriptBegun (k phase : Nat) (ops : List ScriptOp) (t : State) : Prop :=
  (t.engine k).running = true ∧ (t.engine k).phase = phase ∧ (t.engine k).ops = ops ∧
    t.bit (scriptReg k) F.IMG_SCRIPT_BUSY = true

section Begun

variable {s : State} {k phase : Nat} {o : List ScriptOp}

theorem ScriptKept.begun {t u : State} (h : ScriptKept k t u) (f : ScriptBegun k phase o t) : ScriptBegun k phase o u := by
  unfold ScriptBegun
  rw [h.engine k, State.bit_of_reg h.script]
  exact f

/-- An idle engine takes the first script that waits. -/
theorem engineNext_begins {q : List (Nat × List ScriptOp)} (idle : (s.engine k).running = false)
    (queue : (s.engine k).queue = (phase, o) :: q) : ScriptBegun k phase o (engineNext s k) := by
  unfold engineNext
  simp only [idle, queue, Bool.false_eq_true, if_false]
  have taken (e : Engine) : ((s.setEngine k e).setBit (scriptReg k) F.IMG_SCRIPT_BUSY true).engine k = e :=
    State.engine_setEngine_self s k e
  unfold ScriptBegun
  rw [taken]
  exact ⟨rfl, rfl, rfl, State.bit_setBit_self _ _ 9 true (by decide)⟩

/-- The scripts of a phase that falls due at an idle engine begin with the first. -/
theorem scriptBegin_begins {l : List (List ScriptOp)} (idle : (s.engine k).running = false)
    (queue : (s.engine k).queue = []) (due : scriptsFor s k phase = o :: l) :
    ScriptBegun k phase o (scriptBegin s k phase) := by
  unfold scriptBegin
  rw [due]
  refine engineNext_begins (q := l.map fun x => (phase, x)) ?_ ?_ <;> rw [State.engine_setEngine_self]
  · exact idle
  · rw [queue]
    rfl

/-! #### RUN of a SCRIPT register -/

/-- The script that INDEX names (04 R136). -/
def scriptChosen (s : State) (k : Nat) : Option (List ScriptOp) :=
  (scriptsFor s k 4)[s.fld (scriptReg k) F.IMG_SCRIPT_INDEX]?

theorem scriptRun_running (running : (s.engine k).running = true) : scriptRun k s = s := if_pos running

theorem scriptRun_none (idle : (s.engine k).running = false) (none : scriptChosen s k = none) :
    scriptRun k s = s.setFld (scriptReg k) F.IMG_SCRIPT_RESULT 3 := by
  unfold scriptChosen at none
  unfold scriptRun
  rw [if_neg (by rw [idle]; decide), none]

theorem scriptRun_begins (idle : (s.engine k).running = false) (queue : (s.engine k).queue = [])
    (chosen : scriptChosen s k = some o) : ScriptBegun k 4 o (scriptRun k s) := by
  unfold scriptChosen at chosen
  unfold scriptRun
  rw [if_neg (by rw [idle]; decide), chosen]
  refine engineNext_begins (q := []) ?_ ?_ <;> rw [State.engine_setEngine_self]
  · exact idle
  · rw [queue]
    rfl

/-- What a RUN write at a target does, by whether a script runs there and whether INDEX names one (04 R136). -/
structure RunWrites (k : Nat) (i : Instr) (s : State) : Prop where
  ignored : (s.engine k).running = true → exec i s = .next s
  begins : (s.engine k).running = false → (s.engine k).queue = [] → ∀ o, scriptChosen s k = some o →
    Completes i s (ScriptBegun k 4 o)
  names : (s.engine k).running = false → scriptChosen s k = none →
    exec i s = .next (s.setFld (scriptReg k) F.IMG_SCRIPT_RESULT 3)

/-- A port's RUN write runs the script and nothing else. -/
theorem RunWrites.of_scriptRun {i : Instr} (row : exec i s = .next (scriptRun k s)) : RunWrites k i s where
  ignored running := row.trans (next_eq (scriptRun_running running))
  begins idle queue _ chosen := ⟨_, row, scriptRun_begins idle queue chosen⟩
  names idle none := row.trans (next_eq (scriptRun_none idle none))

theorem imgScriptRun_writes (hw : s.working = true) (n : Fin 10) : RunWrites n (.imgScriptRun n) s :=
  .of_scriptRun (next_eq (State.whenWorking_true hw _))

theorem tpScriptRun_writes (hw : s.working = true) (n : Fin 4) : RunWrites (0x10 + n) (.tpScriptRun n) s :=
  .of_scriptRun (next_eq (State.whenWorking_true hw _))

/-- A chain's script that starts takes LCn_BLK besides (06 R205). -/
theorem lcScriptRun_writes (hw : s.working = true) (n : Fin 4) : RunWrites (0x20 + n) (.lcScriptRun n) s := by
  have row : exec (.lcScriptRun n) s = .next (lampScriptRun n s) := next_eq (State.whenWorking_true hw _)
  have runs (idle : (s.engine (0x20 + n)).running = false) : lampScriptRun n s =
      if (scriptRun (0x20 + n) s |>.engine (0x20 + n)).running then scriptTakes (scriptRun (0x20 + n) s) n
      else scriptRun (0x20 + n) s := if_neg (by rw [lampScripting, idle]; decide)
  refine ⟨fun running => row.trans (next_eq (if_pos running)), fun idle queue o chosen => ?_, fun idle none => ?_⟩
  · have begun := scriptRun_begins idle queue chosen
    refine ⟨_, row.trans (next_eq ((runs idle).trans (if_pos begun.1))), ?_⟩
    exact ScriptKept.begun (scriptTakes_script (g := .lamp n) n (.refl ..)) begun
  · have shown := scriptRun_none idle none
    refine row.trans (next_eq ((runs idle).trans ?_))
    rw [shown]
    exact if_neg (by rw [State.engine, State.setFld_engines]; exact Bool.eq_false_iff.1 idle)

end Begun

/-! #### The stop of a run: which targets still owe their run-stop scripts -/

section StopScripts

variable (s : State)

theorem ite_stopScripts (c : Prop) [Decidable c] (s t : State) :
    (if c then s else t).stopScripts = if c then s.stopScripts else t.stopScripts := apply_ite State.stopScripts c s t

theorem engineNext_stopScripts (k : Nat) : (engineNext s k).stopScripts = s.stopScripts := by
  unfold engineNext
  dsimp only
  split
  · rfl
  · split <;> rfl

theorem scriptBegin_stopScripts (k phase : Nat) : (scriptBegin s k phase).stopScripts = s.stopScripts := by
  unfold scriptBegin
  split
  · rfl
  · exact engineNext_stopScripts ..

theorem readyCheck_stopScripts : (readyCheck s).stopScripts = s.stopScripts := by
  unfold readyCheck
  split
  · rfl
  · extract_lets up first boot u
    refine State.cond_induct (p := fun t => t.stopScripts = s.stopScripts) rfl fun _ => ?_
    rw [State.setFld_stopScripts, State.setReg_stopScripts]

theorem tpReady_stopScripts (n : Nat) : (tpReady s n).stopScripts = s.stopScripts := by
  unfold tpReady
  extract_lets r u x
  have shown : u.stopScripts = s.stopScripts := by
    rw [State.setBit_stopScripts, State.setBit_stopScripts]
  clear_value u
  rw [readyCheck_stopScripts]
  split_ifs <;> exact shown

theorem measTrigger_stopScripts (k : Nat) : (measTrigger k s).stopScripts = s.stopScripts := by
  unfold measTrigger
  extract_lets m d
  split_ifs
  · rfl
  · exact State.raise_stopScripts ..
  · rfl

theorem precTrigger_stopScripts (src index : Nat) : (precTrigger src index s).stopScripts = s.stopScripts := by
  unfold precTrigger
  generalize List.range 16 = l
  induction l generalizing s with
  | nil => rfl
  | cons k l ih =>
    refine (ih _).trans ?_
    rw [ite_stopScripts, measTrigger_stopScripts, ite_self]

theorem scriptTakes_stopScripts (n : Nat) : (scriptTakes s n).stopScripts = s.stopScripts := by
  unfold scriptTakes blkAssert
  split_ifs
  · rfl
  · exact precTrigger_stopScripts ..
  · rfl

theorem frameStart_stopScripts (n : Nat) : (frameStart s n).stopScripts = s.stopScripts := by
  unfold frameStart
  extract_lets x e rows row carries all per ws f
  split_ifs <;> rfl

/-- What follows a change of an engine leaves the run-stop scripts that other targets owe. -/
theorem scriptSettle_stopScripts (g : ScriptTarget) : (scriptSettle g s).stopScripts = s.stopScripts := by
  cases g with
  | img n => exact readyCheck_stopScripts (imgReady s n)
  | tp n => exact tpReady_stopScripts s n
  | lamp n =>
    have framed : (s.cond (s.engine (targetCode (.lamp n))).inTransfer fun s => lampScriptFrame s n).stopScripts =
        s.stopScripts := State.cond_induct (p := fun t => t.stopScripts = s.stopScripts) rfl fun _ => rfl
    simp only [scriptSettle, lampScriptSettle]
    split_ifs
    · exact (scriptTakes_stopScripts ..).trans framed
    · exact (frameStart_stopScripts ..).trans framed

end StopScripts

/-- A target whose run-stop scripts fall due (04 R135). -/
structure StopDue (s : State) (g : ScriptTarget) : Prop where
  owed : targetCode g ∈ s.stopScripts
  still : s.runActive = false
  reached : runStopReached s g = true

/-- The target owes its run-stop scripts no more. -/
def stopPaid (s : State) (k : Nat) : State := { s with stopScripts := NatSet.erase s.stopScripts k }

theorem scriptPhaseRunStop_eq {s : State} {g : ScriptTarget} (hw : s.working = true) (due : StopDue s g) :
    exec (.scriptPhaseRunStop g) s = .next (scriptSettle g (scriptBegin (stopPaid s (targetCode g)) (targetCode g) 3)) := by
  refine next_eq ((State.whenWorking_true hw _).trans (if_pos ⟨due.owed, ?_, due.reached⟩))
  rw [due.still]
  rfl

/-- Settles O14: a RUN write by `RunWrites` of each row; a run-stop script by `scriptBegin_begins`, whose effect stands when
the port or the chain has followed it. -/
theorem scriptPhases : Obligations.ScriptPhases := by
  intro s hw starts chosen runWrite runStop
  have writes {k : Nat} {i : Instr} (h : RunWrites k i s) : runWrite k i := ⟨h.ignored, h.begins, h.names⟩
  refine ⟨fun n => writes (imgScriptRun_writes hw n), fun n => writes (lcScriptRun_writes hw n),
    fun n => writes (tpScriptRun_writes hw n), fun g owed still reached idle queue => ?_⟩
  refine ⟨_, scriptPhaseRunStop_eq hw ⟨owed, still, reached⟩, ?_, fun o l due => ?_⟩
  · exact (scriptSettle_stopScripts ..).trans (scriptBegin_stopScripts ..)
  · exact (scriptSettle_script ..).begun (scriptBegin_begins (s := stopPaid s _) idle queue due)

/-! ### CaptureGenerator: the trigger generator and the shading loads of a port (04 R136, R138, R153, 05 R163 to R165) -/

/-! #### Fields of one register -/

/-- A bit of a register beside a field that is written. -/
theorem State.bit_setFld_apart (s : State) (a : Nat) (f g : Fld) (v : Nat) (h : f.lo + f.width ≤ 32)
    (d : g.lo + g.width ≤ f.lo ∨ f.lo + f.width ≤ g.lo) : (s.setFld a f v).bit a g = s.bit a g := by
  rw [State.bit, State.fld_setFld_apart _ _ _ _ _ h d, State.bit]

theorem State.bit_setBit_apart (s : State) (a : Nat) (f g : Fld) (v : Bool) (h : f.lo + f.width ≤ 32)
    (d : g.lo + g.width ≤ f.lo ∨ f.lo + f.width ≤ g.lo) : (s.setBit a f v).bit a g = s.bit a g :=
  State.bit_setFld_apart s a f g _ h d

/-! #### What shows a port's state -/

theorem imgShow_imgs (s : State) (n : Nat) : (imgShow s n).imgs = s.imgs := by
  unfold imgShow
  extract_lets st u v
  split <;> rfl

/-- Of IMG_n_STATUS, PREDICTING and OUTSTANDING alone are brought up to date. -/
theorem imgShow_status (s : State) (n : Nat) {g : Fld} (h : g.lo + g.width ≤ 1 ∨ 8 ≤ g.lo) :
    (imgShow s n).bit (R.IMG_STATUS n) g = s.bit (R.IMG_STATUS n) g := by
  unfold imgShow
  extract_lets st u v
  have shown : v.bit (R.IMG_STATUS n) g = s.bit (R.IMG_STATUS n) g :=
    (State.bit_setFld_apart _ _ F.IMG_STATUS_OUTSTANDING g _ (by decide)
      (by simp only [F.IMG_STATUS_OUTSTANDING]; omega)).trans
    (State.bit_setBit_apart _ _ F.IMG_STATUS_PREDICTING g _ (by decide)
      (by simp only [F.IMG_STATUS_PREDICTING]; omega))
  split
  · refine (State.bit_of_reg (State.reg_setReg64_ne _ _ ?_ ?_) g).trans shown <;>
      simp only [R.IMG_STATUS, R.IMG_NEXT_LO] <;> omega
  · exact shown

theorem State.imgSt_of_imgs {s t : State} (h : t.imgs = s.imgs) (n : Nat) : t.imgSt n = s.imgSt n := by
  unfold State.imgSt
  rw [h]

theorem imgShow_imgSt (s : State) (n k : Nat) : (imgShow s n).imgSt k = s.imgSt k := State.imgSt_of_imgs (imgShow_imgs s n) k

/-! #### The end of LINE_MIN, and arming (04 R138, R153) -/

theorem lineMinEnd_eq {s : State} (hw : s.working = true) {n : Fin 10} {l : Int} (lost : Bool)
    (fired : (s.imgSt n).lastFire2 = some l) : exec (.lineMinEnd n lost) s =
      .next (((s.lost lost (R.IMG_RACE n)).reach ((l / 2).toNat + lineMin s n)).setBit (R.IMG_STATUS n) F.IMG_STATUS_BUSY
        false) := by
  refine next_eq ((State.whenWorking_true hw _).trans ?_)
  simp only [fired]

/-- A port whose generator may arm: its run has started, and its run-start script, those of the chains and its shading load
have ended (04 R138). -/
structure MayArm (s : State) (n : Nat) : Prop where
  run : s.runActive = true
  waits : (s.imgSt n).waitArm = true
  free : (s.imgSt n).blocked = false
  load : (s.imgSt n).load = none
  loaded : (s.imgSt n).loaded = true
  script : (s.engine n).startDone = true
  lamps : ∀ c : Fin 4, (s.engine (0x20 + c)).owes 2 = false

/-- The hidden state of a port as its generator arms. -/
def armedSt (s : State) (n : Nat) : ImgSt :=
  let st := s.imgSt n
  let back := encBack s (imgIface s n)
  { st with waitArm := false, back := back, k := firstBeyond s n (encPos s (imgIface s n)) back, free := [st.serial],
            anchor := none }

theorem generatorArm_eq {s : State} {n : Nat} (h : MayArm s n) : generatorArm n s =
    imgShow (beginSwath ((s.setImg n (armedSt s n)).setBit (R.IMG_STATUS n) F.IMG_STATUS_ARMED true) n
      (encBack s (imgIface s n))) n := by
  have lamps : ((List.range 4).any fun c => (s.engine (0x20 + c)).owes 2) = false := by
    rw [List.any_eq_false]
    exact fun c hc => Bool.eq_false_iff.1 (h.lamps ⟨c, List.mem_range.1 hc⟩)
  refine if_neg ?_
  rw [h.run, h.waits, h.free, h.load, h.loaded, h.script, lamps]
  decide

theorem beginSwath_imgSt (s : State) (n : Nat) (back : Bool) :
    (beginSwath s n back).imgSt n = { s.imgSt n with swaths := (s.imgSt n).swaths ++ [{ back := back }] } :=
  State.imgSt_setImg_self ..

theorem generatorArm_arms {s : State} {n : Nat} (h : MayArm s n) : imgArmed (generatorArm n s) n = true ∧
    (generatorArm n s).imgSt n =
      { armedSt s n with swaths := (s.imgSt n).swaths ++ [{ back := encBack s (imgIface s n) }] } := by
  rw [generatorArm_eq h]
  constructor
  · refine (imgShow_status _ n (by decide)).trans ?_
    have apart : R.IMG_STATUS n ≠ R.IMG_COR_STATUS n := by
      simp only [R.IMG_STATUS, R.IMG_COR_STATUS]
      omega
    unfold beginSwath
    rw [State.bit_setBit_ne _ _ _ _ apart, State.bit_setBit_ne _ _ _ _ apart]
    exact State.bit_setBit_self _ _ 0 true (by decide)
  · rw [imgShow_imgSt, beginSwath_imgSt]
    have armed : ((s.setImg n (armedSt s n)).setBit (R.IMG_STATUS n) F.IMG_STATUS_ARMED true).imgSt n = armedSt s n :=
      State.imgSt_setImg_self ..
    rw [armed]
    rfl

/-! #### LOAD (05 R163 to R165) -/

theorem showDual_imgs (s : State) (n : Nat) : (showDual s n).imgs = s.imgs := by
  unfold showDual
  exact State.cond_induct (p := fun t => t.imgs = s.imgs) rfl fun _ => rfl

/-- Of IMG_n_COR_CTRL, DUAL and RESIDENT_VALID alone are brought up to date. -/
theorem showDual_fld (s : State) (n : Nat) {g : Fld} (h : g.lo + g.width ≤ 10) :
    (showDual s n).fld (R.IMG_COR_CTRL n) g = s.fld (R.IMG_COR_CTRL n) g := by
  have shown (u : State) {f : Fld} (v : Bool) (hf : f.lo + f.width ≤ 32) (hl : 10 ≤ f.lo) :
      (u.setBit (R.IMG_COR_CTRL n) f v).fld (R.IMG_COR_CTRL n) g = u.fld (R.IMG_COR_CTRL n) g :=
    State.fld_setFld_apart _ _ _ _ _ hf (.inl (by omega))
  have dual := shown s (f := F.IMG_COR_CTRL_DUAL) (decide (imgColours s n * imgPixels s n ≤ 26208)) (by decide) (by decide)
  unfold showDual
  exact State.cond_induct (p := fun t => t.fld (R.IMG_COR_CTRL n) g = s.fld (R.IMG_COR_CTRL n) g) dual fun _ =>
    (shown _ (f := F.IMG_COR_CTRL_RESIDENT_VALID) false (by decide) (by decide)).trans dual

theorem showDual_bit (s : State) (n : Nat) {g : Fld} (h : g.lo + g.width ≤ 10) :
    (showDual s n).bit (R.IMG_COR_CTRL n) g = s.bit (R.IMG_COR_CTRL n) g := congrArg (· == 1) (showDual_fld s n h)

theorem shadingLoad_begins {s : State} {n : Nat} (idle : s.bit (R.IMG_COR_CTRL n) F.IMG_COR_CTRL_LOAD_BUSY = false)
    (settled : (corUnit n).waits s = false) :
    shadingLoad n s = loadBegin (showDual s n) n (s.fld (R.IMG_COR_CTRL n) F.IMG_COR_CTRL_LOAD_SET) false := by
  have busy := (showDual_bit s n (g := F.IMG_COR_CTRL_LOAD_BUSY) (by decide)).trans idle
  have waits : (corUnit n).waits (showDual s n) = false :=
    (showDual_bit s n (g := F.IMG_COR_CTRL_COMMIT_PENDING) (by decide)).trans settled
  unfold shadingLoad
  simp only [busy, waits, Bool.false_eq_true, false_and, or_self, if_false]
  rw [showDual_fld s n (by decide)]

theorem shadingLoad_ignored {s : State} {n : Nat} (busy : s.bit (R.IMG_COR_CTRL n) F.IMG_COR_CTRL_LOAD_BUSY = true) :
    shadingLoad n s = loadErr (showDual s n) n :=
  if_pos (.inl ((showDual_bit s n (g := F.IMG_COR_CTRL_LOAD_BUSY) (by decide)).trans busy))

/-- A load that has started shows itself, and no set is resident (05 R163, R164). -/
theorem loadBegin_shows (s : State) (n set : Nat) (runStart : Bool) :
    ((loadBegin s n set runStart).imgSt n).load = some (set, runStart) ∧
    (loadBegin s n set runStart).bit (R.IMG_COR_CTRL n) F.IMG_COR_CTRL_LOAD_BUSY = true ∧
    (loadBegin s n set runStart).bit (R.IMG_COR_CTRL n) F.IMG_COR_CTRL_RESIDENT_VALID = false := by
  refine ⟨congrArg ImgSt.load (State.imgSt_setImg_self s n _), ?_, State.bit_setBit_self _ _ 10 false (by decide)⟩
  exact (State.bit_setBit_apart _ _ F.IMG_COR_CTRL_RESIDENT_VALID _ _ (by decide) (by decide)).trans
    (State.bit_setBit_self _ _ 7 true (by decide))

theorem loadErr_shows (s : State) (n : Nat) :
    (loadErr s n).bit (R.IMG_COR_STATUS n) F.IMG_COR_STATUS_LOAD_ERR = true :=
  State.bit_flagEvent s _ rfl (by decide) (by simp only [R.IMG_COR_STATUS, R.EVT_LOST]; omega)

/-! #### What an error of the memory leaves (13 R412, R417) -/

/-- The registers that count an uncorrectable error. -/
def EccReg (a : Nat) : Prop :=
  a = R.MEM_UE_ADDR_LO ∨ a = R.MEM_UE_ADDR_LO + 4 ∨ a = R.MEM_ECC_DRAM ∨ a = R.MEM_ECC_SRAM ∨ a = R.EVT_LOST

theorem eccBad_regs (dram : Bool) (addr : Nat) (s : State) : SameRegs s (eccBad dram addr s) EccReg := by
  have told : EccReg R.EVT_LOST := .inr (.inr (.inr (.inr rfl)))
  unfold eccBad
  extract_lets a u
  have noted : SameRegs s u EccReg := (SameRegs.refl s _).setReg64 (.inl rfl) (.inr (.inl rfl))
  clear_value u
  split
  · exact (noted.satInc (.inr (.inr (.inl rfl)))).raise told
  · exact (noted.satInc (.inr (.inr (.inr (.inl rfl))))).raise told

theorem eccBad_bookkeeps (dram : Bool) (addr : Nat) (s : State) : Bookkeeps s (eccBad dram addr s) := by
  unfold eccBad
  extract_lets a u
  have noted : Bookkeeps s u := rfl
  clear_value u
  split <;> exact (noted.satInc ..).raise _

theorem eccNote_bad (dram : Bool) (addr : Nat) (s : State) : eccNote dram addr .bad s = eccBad dram addr s := rfl

/-! #### The end of a load (05 R163, R165, R166) -/

/-- A load is over, whatever its end. -/
def loadOver (s : State) (n : Nat) : State :=
  (s.setImg n { s.imgSt n with load := none }).setBit (R.IMG_COR_CTRL n) F.IMG_COR_CTRL_LOAD_BUSY false

theorem loadOver_imgSt (s : State) (n : Nat) : (loadOver s n).imgSt n = { s.imgSt n with load := none } :=
  State.imgSt_setImg_self ..

theorem loadOver_dramOpen (s : State) (n a k : Nat) : (loadOver s n).dramOpen a k = s.dramOpen a k := by
  unfold State.dramOpen
  rw [show (loadOver s n).boot = s.boot from rfl]

/-- What a load that ends badly meets: a region that does not answer, or an uncorrectable error. -/
def loadMeets (s : State) (n set off : Nat) : State :=
  if s.dramOpen (setsBase s n + 0x80000 * set) 0x80000 then eccBad true (setsBase s n + 0x80000 * set + off) (loadOver s n)
  else imgFault (loadOver s n) n F.IMG_STATUS_BUS_ERR

theorem setsBase_loadOver (s : State) (n : Nat) : setsBase (loadOver s n) n = setsBase s n := by
  refine State.reg64_congr (State.reg_setBit_ne _ _ _ ?_) (State.reg_setBit_ne _ _ _ ?_) <;>
    simp only [R.IMG_SETS_LO, R.IMG_COR_CTRL] <;> omega

/-- A load that has ended badly shows it, and bars its run where it was the run's. -/
def loadFailed (n : Nat) (runStart : Bool) (s : State) : State :=
  (loadErr s n).setImg n { (loadErr s n).imgSt n with blocked := ((loadErr s n).imgSt n).blocked || runStart }

theorem loadFailed_reg (n : Nat) (runStart : Bool) (s : State) (a : Nat) :
    (loadFailed n runStart s).reg a = (loadErr s n).reg a := State.reg_setImg ..

theorem shadingLoadDone_bad {s : State} {n set : Nat} {runStart : Bool} {x : SpanRead} (bad : x.ecc = .bad)
    (load : (s.imgSt n).load = some (set, runStart)) :
    shadingLoadDone n x s = loadFailed n runStart (loadMeets s n set x.off) := by
  unfold shadingLoadDone
  extract_lets st
  split
  case h_1 none => exact absurd (none.symm.trans load) nofun
  case h_2 found =>
    cases found.symm.trans load
    extract_lets +onlyGivenNames b hole u met
    have base : b = setsBase s n + 0x80000 * set := congrArg (· + 0x80000 * set) (setsBase_loadOver s n)
    have meets : met = loadMeets s n set x.off := by
      have shut : hole = !s.dramOpen b 0x80000 := congrArg (! ·) (loadOver_dramOpen s n b 0x80000)
      unfold loadMeets
      rw [← base]
      show ((loadOver s n).cond hole fun s => imgFault s n F.IMG_STATUS_BUS_ERR).cond (!hole)
        (eccNote true (b + x.off) x.ecc) = _
      clear_value hole b
      rw [shut, bad]
      cases s.dramOpen b 0x80000 <;>
        simp -implicitDefEqProofs only [Bool.not_true, Bool.not_false, State.cond_true, State.cond_false, if_true,
          Bool.false_eq_true, if_false, eccNote_bad]
    have fails : (decide (x.ecc = .bad) || hole) = true := Bool.or_eq_true_iff.2 (.inl (decide_eq_true bad))
    rw [if_pos fails]
    exact congrArg (loadFailed n runStart) meets

/-- A load of a port with two halves has filled the one that is not in force. -/
def loadResident (n set : Nat) (s : State) : State :=
  let u := loadOver s n
  let st := u.imgSt n
  let sh := readShade u n set
  (((u.setImg n (if !(s.imgSt n).half then { st with shadeB := sh } else { st with shadeA := sh })).setFld (R.IMG_COR_CTRL n)
    F.IMG_COR_CTRL_RESIDENT_SET set).setBit (R.IMG_COR_CTRL n) F.IMG_COR_CTRL_RESIDENT_VALID true).raise (Ev.img n 4)

theorem loadOver_dual (s : State) (n : Nat) :
    (loadOver s n).bit (R.IMG_COR_CTRL n) F.IMG_COR_CTRL_DUAL = s.bit (R.IMG_COR_CTRL n) F.IMG_COR_CTRL_DUAL :=
  State.bit_setBit_apart _ _ F.IMG_COR_CTRL_LOAD_BUSY _ _ (by decide) (by decide)

theorem shadingLoadDone_resident {s : State} {n set : Nat} (load : (s.imgSt n).load = some (set, false))
    (answers : s.dramOpen (setsBase s n + 0x80000 * set) 0x80000 = true)
    (twoHalves : s.bit (R.IMG_COR_CTRL n) F.IMG_COR_CTRL_DUAL = true) :
    shadingLoadDone n {} s = loadResident n set s := by
  unfold shadingLoadDone
  extract_lets st
  split
  case h_1 none => exact absurd (none.symm.trans load) nofun
  case h_2 found =>
    cases found.symm.trans load
    extract_lets +onlyGivenNames b hole u met
    have base : b = setsBase s n + 0x80000 * set := congrArg (· + 0x80000 * set) (setsBase_loadOver s n)
    have open_ : hole = false := by
      show (!(loadOver s n).dramOpen b 0x80000) = false
      rw [loadOver_dramOpen, base, answers]
      rfl
    have sound : met = loadOver s n := by
      show ((loadOver s n).cond hole _).cond (!hole) (eccNote true _ .sound) = _
      rw [open_]
      rfl
    have ends : ¬(decide (SpanRead.ecc {} = .bad) || hole) = true := by
      rw [open_]
      decide
    rw [if_neg ends]
    clear_value met
    subst sound
    extract_lets +onlyGivenNames sh dual half
    have two : dual = true := (loadOver_dual s n).trans twoHalves
    clear_value dual
    subst two
    simp only [show half = st.half from Bool.and_true _, Bool.false_eq_true, if_false, if_true]
    rfl

theorem loadOver_busy (s : State) (n : Nat) : (loadOver s n).bit (R.IMG_COR_CTRL n) F.IMG_COR_CTRL_LOAD_BUSY = false :=
  State.bit_setBit_self _ _ 7 false (by decide)

theorem loadMeets_bookkeeps (s : State) (n set off : Nat) : Bookkeeps (loadOver s n) (loadMeets s n set off) := by
  unfold loadMeets
  split
  · exact eccBad_bookkeeps ..
  · exact State.flagEvent_bookkeeps ..

theorem loadMeets_ctrl (s : State) (n : Fin 10) (set off : Nat) :
    (loadMeets s n set off).reg (R.IMG_COR_CTRL n) = (loadOver s n).reg (R.IMG_COR_CTRL n) := by
  unfold loadMeets
  split
  · refine (eccBad_regs _ _ _ _ ?_).1
    simp only [EccReg, R.IMG_COR_CTRL, R.MEM_UE_ADDR_LO, R.MEM_ECC_DRAM, R.MEM_ECC_SRAM, R.EVT_LOST]
    omega
  · refine State.reg_flagEvent _ _ _ _ ?_ ?_
    · simp only [R.IMG_COR_CTRL, R.EVT_LOST]
      omega
    · simp only [R.IMG_COR_CTRL, R.IMG_STATUS]
      omega

/-- A load that ends badly is over, shows LOAD_ERR, and bars a run whose load it was (05 R163, R165). -/
theorem shadingLoadDone_fails {s : State} {n : Fin 10} {set : Nat} {runStart : Bool} {x : SpanRead} (bad : x.ecc = .bad)
    (load : (s.imgSt n).load = some (set, runStart)) :
    (shadingLoadDone n x s).imgSt n = { s.imgSt n with load := none, blocked := (s.imgSt n).blocked || runStart } ∧
    (shadingLoadDone n x s).bit (R.IMG_COR_CTRL n) F.IMG_COR_CTRL_LOAD_BUSY = false ∧
    (shadingLoadDone n x s).bit (R.IMG_COR_STATUS n) F.IMG_COR_STATUS_LOAD_ERR = true := by
  rw [shadingLoadDone_bad bad load]
  have hidden : (loadErr (loadMeets s n set x.off) n).imgSt n = { s.imgSt n with load := none } :=
    (((loadMeets_bookkeeps s n set x.off).trans (State.flagEvent_bookkeeps ..)).imgSt n).trans (loadOver_imgSt s n)
  have ctrl : (loadErr (loadMeets s n set x.off) n).reg (R.IMG_COR_CTRL n) = (loadOver s n).reg (R.IMG_COR_CTRL n) := by
    refine (State.reg_flagEvent _ _ _ _ ?_ ?_).trans (loadMeets_ctrl s n set x.off)
    · simp only [R.IMG_COR_CTRL, R.EVT_LOST]
      omega
    · simp only [R.IMG_COR_CTRL, R.IMG_COR_STATUS]
      omega
  refine ⟨?_, (State.bit_of_reg ((loadFailed_reg ..).trans ctrl) _).trans (loadOver_busy s n),
    (State.bit_of_reg (loadFailed_reg ..) _).trans (loadErr_shows _ n)⟩
  unfold loadFailed
  rw [State.imgSt_setImg_self, hidden]

/-- A set is read alike where its port's geometry, its place and the memory are the same. -/
theorem readShade_congr {s t : State} {n : Nat} (set : Nat) (base : setsBase t n = setsBase s n)
    (frame : t.reg (R.IMG_FRAME_CFG n) = s.reg (R.IMG_FRAME_CFG n)) (geom : t.reg (R.IMG_GEOM n) = s.reg (R.IMG_GEOM n))
    (bytes : ∀ a, t.byte a = s.byte a) : readShade t n set = readShade s n set := by
  have colours : imgColours t n = imgColours s n := by
    unfold imgColours
    rw [State.bit_of_reg frame]
  have pixels : imgPixels t n = imgPixels s n := State.fld_of_reg geom _
  unfold readShade State.readNat
  simp only [base, colours, pixels, State.read_congr bytes]

theorem readShade_loadOver (s : State) (n set : Nat) : readShade (loadOver s n) n set = readShade s n set := by
  refine readShade_congr set (setsBase_loadOver s n) (State.reg_setBit_ne _ _ _ ?_) (State.reg_setBit_ne _ _ _ ?_)
    fun a => State.byte_congr rfl rfl rfl a
  all_goals simp only [R.IMG_FRAME_CFG, R.IMG_GEOM, R.IMG_COR_CTRL]; omega

/-- A load that ends well leaves its set resident in the half that is not in force (05 R164, R166). -/
theorem loadResident_shows (s : State) (n : Fin 10) {set : Nat} (small : set < 4) :
    ((loadResident n set s).imgSt n).load = none ∧
    (loadResident n set s).bit (R.IMG_COR_CTRL n) F.IMG_COR_CTRL_RESIDENT_VALID = true ∧
    (loadResident n set s).fld (R.IMG_COR_CTRL n) F.IMG_COR_CTRL_RESIDENT_SET = set ∧
    (if (s.imgSt n).half then ((loadResident n set s).imgSt n).shadeA else ((loadResident n set s).imgSt n).shadeB) =
      readShade s n set := by
  have apart : R.IMG_COR_CTRL n ≠ R.EVT_LOST := by
    simp only [R.IMG_COR_CTRL, R.EVT_LOST]
    omega
  unfold loadResident
  extract_lets u st sh
  have kept (v : State) : ((((v.setFld (R.IMG_COR_CTRL n) F.IMG_COR_CTRL_RESIDENT_SET set).setBit (R.IMG_COR_CTRL n)
      F.IMG_COR_CTRL_RESIDENT_VALID true).raise (Ev.img n 4)).imgSt n) = v.imgSt n :=
    ((((Bookkeeps.refl v).setFld ..).setFld ..).raise _).imgSt n
  have gone : st.load = none := congrArg ImgSt.load (loadOver_imgSt s n)
  have read : sh = readShade s n set := readShade_loadOver s n set
  rw [kept, State.imgSt_setImg_self]
  refine ⟨?_, ?_, ?_, ?_⟩
  · rw [apply_ite ImgSt.load]
    exact (ite_self _).trans gone
  · exact (State.bit_of_reg (State.reg_raise _ _ apart) _).trans (State.bit_setBit_self _ _ 10 true (by decide))
  · refine (State.fld_of_reg (State.reg_raise _ _ apart) _).trans ?_
    refine (State.fld_setFld_apart _ _ F.IMG_COR_CTRL_RESIDENT_VALID _ _ (by decide) (by decide)).trans ?_
    exact (State.fld_setFld_self _ _ _ _ (by decide)).trans (Nat.mod_eq_of_lt small)
  · rw [← read]
    cases (s.imgSt n).half <;> rfl

theorem lost_imgSt (s : State) (b : Bool) (a n : Nat) : (s.lost b a).imgSt n = s.imgSt n :=
  State.imgSt_of_imgs (State.lost_imgs s b a) n

/-- A lost race leaves what the end of a load finds. -/
theorem setsBase_lost (s : State) (b : Bool) (n : Nat) : setsBase (s.lost b (R.IMG_RACE n)) n = setsBase s n := by
  refine State.reg64_congr (State.reg_lost _ _ ?_) (State.reg_lost _ _ ?_) <;>
    simp only [R.IMG_SETS_LO, R.IMG_RACE] <;> omega

theorem readShade_lost (s : State) (b : Bool) (n set : Nat) :
    readShade (s.lost b (R.IMG_RACE n)) n set = readShade s n set := by
  refine readShade_congr set (setsBase_lost s b n) (State.reg_lost _ _ ?_) (State.reg_lost _ _ ?_)
    fun a => State.byte_congr (State.lost_mem ..) (State.lost_dramEpoch ..) (State.lost_freeCtr ..) a
  all_goals simp only [R.IMG_FRAME_CFG, R.IMG_GEOM, R.IMG_RACE]; omega

theorem dramOpen_lost (s : State) (b : Bool) (r a k : Nat) : (s.lost b r).dramOpen a k = s.dramOpen a k := by
  unfold State.dramOpen
  rw [State.lost_boot]

/-- Settles O11, command by command: what each leaves is the lemma of its function above. -/
theorem captureGenerator : Obligations.CaptureGenerator := by
  intro s n hw lineMinEnds arms runIgnored runChooses loadStarts loadIgnored loadFails loadEnds
  have run := imgScriptRun_writes hw n
  have named : scriptReg n = R.IMG_SCRIPT n := (script_img n).1
  have load : exec (.shadingLoad n) s = .next (shadingLoad n s) := next_eq (State.whenWorking_true hw _)
  have done (x : SpanRead) (lost : Bool) : exec (.shadingLoadDone n x lost) s =
      .next (shadingLoadDone n x (s.lost lost (R.IMG_RACE n))) := next_eq (State.whenWorking_true hw _)
  refine ⟨fun l lost fired => lineMinEnd_eq hw lost fired, ?arms, run.ignored, ?runs, ?starts, ?ignored, ?fails, ?ends⟩
  case arms =>
    intro active waits free noLoad loaded script lamps
    obtain ⟨armed, hidden⟩ := generatorArm_arms ⟨active, waits, free, noLoad, loaded, script, lamps⟩
    refine ⟨_, next_eq (State.whenWorking_true hw _), armed, ?_⟩
    rw [hidden]
    exact ⟨rfl, rfl, rfl, rfl⟩
  case runs =>
    have begins := run.begins
    have names := run.names
    unfold scriptChosen ScriptBegun at begins
    unfold scriptChosen at names
    rw [named] at begins names
    exact fun idle => ⟨fun o chosen queue => begins idle queue o chosen, names idle⟩
  case starts =>
    intro idle settled
    rw [shadingLoad_begins idle settled] at load
    exact ⟨_, load, loadBegin_shows ..⟩
  case ignored =>
    intro busy
    rw [shadingLoad_ignored busy] at load
    have kept := (showDual s n).flagEvent_bookkeeps (R.IMG_COR_STATUS n) F.IMG_COR_STATUS_LOAD_ERR (Ev.img n 4)
    exact ⟨_, load, ((congrArg State.imgs kept).trans rfl).trans (showDual_imgs s n), loadErr_shows _ n⟩
  case fails =>
    intro set rs off lost loading
    obtain ⟨hidden, idle, error⟩ := shadingLoadDone_fails (s := s.lost lost (R.IMG_RACE n)) (x := ⟨.bad, off⟩) rfl
      ((congrArg ImgSt.load (lost_imgSt ..)).trans loading)
    rw [lost_imgSt] at hidden
    exact ⟨_, done _ lost, congrArg ImgSt.load hidden, idle, error, congrArg ImgSt.blocked hidden⟩
  case ends =>
    intro set lost loading answers twoHalves small
    have ctrl : (s.lost lost (R.IMG_RACE n)).reg (R.IMG_COR_CTRL n) = s.reg (R.IMG_COR_CTRL n) :=
      State.reg_lost _ _ (by simp only [R.IMG_COR_CTRL, R.IMG_RACE]; omega)
    have resident : shadingLoadDone n {} (s.lost lost (R.IMG_RACE n)) = loadResident n set (s.lost lost (R.IMG_RACE n)) :=
      shadingLoadDone_resident ((congrArg ImgSt.load (lost_imgSt ..)).trans loading)
        (by rw [setsBase_lost, dramOpen_lost]; exact answers) ((State.bit_of_reg ctrl _).trans twoHalves)
    obtain ⟨gone, valid, shown, shade⟩ := loadResident_shows (s.lost lost (R.IMG_RACE n)) n small
    rw [lost_imgSt, readShade_lost] at shade
    exact ⟨_, (done {} lost).trans (next_eq resident), gone, valid, shown, shade⟩

/-! ### CaptureLink: the lanes of an imaging port (04 R119, R122 to R125) -/

/-! #### What follows a change of a link leaves of it -/

/-- What a link shows, as readiness and scripts then leave it: its lanes, its status but PORT_READY, its hidden state, and the
events that are pending. -/
structure LinkKept (n : Nat) (s t : State) : Prop where
  lanes : t.reg (R.IMG_LANE_STATUS n) = s.reg (R.IMG_LANE_STATUS n)
  errors : t.reg (R.IMG_LANE_ERR n) = s.reg (R.IMG_LANE_ERR n)
  status : ∀ g : Fld, 4 ≤ g.lo → t.bit (R.IMG_STATUS n) g = s.bit (R.IMG_STATUS n) g
  imgs : t.imgs = s.imgs
  evPend : t.evPend = s.evPend

theorem LinkKept.trans {n : Nat} {s t u : State} (h : LinkKept n s t) (k : LinkKept n t u) : LinkKept n s u :=
  ⟨k.lanes.trans h.lanes, k.errors.trans h.errors, fun g hg => (k.status g hg).trans (h.status g hg),
    k.imgs.trans h.imgs, k.evPend.trans h.evPend⟩

theorem LinkKept.refl (n : Nat) (s : State) : LinkKept n s s := ⟨rfl, rfl, fun _ _ => rfl, rfl, rfl⟩

theorem LinkKept.imgSt {n : Nat} {s t : State} (h : LinkKept n s t) (k : Nat) : t.imgSt k = s.imgSt k :=
  State.imgSt_of_imgs h.imgs k

/-- The registers of a port's link. -/
def LinkReg (n a : Nat) : Prop := a = R.IMG_LANE_STATUS n ∨ a = R.IMG_LANE_ERR n ∨ a = R.IMG_STATUS n

/-- A change of registers beside those of the link. -/
theorem LinkKept.of_regs {n : Nat} {s t : State} (imgs : t.imgs = s.imgs) (evPend : t.evPend = s.evPend)
    (regs : ∀ a, LinkReg n a → t.reg a = s.reg a) : LinkKept n s t :=
  ⟨regs _ (.inl rfl), regs _ (.inr (.inl rfl)), fun g _ => State.bit_of_reg (regs _ (.inr (.inr rfl))) g, imgs, evPend⟩

theorem readyCheck_tables (s : State) : (readyCheck s).imgs = s.imgs ∧ (readyCheck s).evPend = s.evPend := by
  unfold readyCheck
  split
  · exact ⟨rfl, rfl⟩
  · extract_lets up first boot u
    refine State.cond_induct (p := fun t => t.imgs = s.imgs ∧ t.evPend = s.evPend) ⟨rfl, rfl⟩ fun _ => ?_
    rw [State.setFld_imgs, State.setReg_imgs, State.setFld_evPend, State.setReg_evPend]
    exact ⟨rfl, rfl⟩

theorem readyCheck_link (n : Fin 10) (s : State) : LinkKept n s (readyCheck s) := by
  obtain ⟨imgs, evPend⟩ := readyCheck_tables s
  refine .of_regs imgs evPend fun a ha => (readyCheck_regs s a ?_).1
  simp only [LinkReg, R.IMG_LANE_STATUS, R.IMG_LANE_ERR, R.IMG_STATUS] at ha
  simp only [StateRegs, R.SYS_STATE, R.PEAT_STATUS, R.BOOT_READY_TIME, R.BOOT_STATUS]
  omega

theorem imgReady_link (n : Nat) (s : State) : LinkKept n s (imgReady s n) := by
  refine ⟨State.reg_setBit_ne _ _ _ ?_, State.reg_setBit_ne _ _ _ ?_, fun g hg => ?_, rfl, rfl⟩
  · simp only [R.IMG_LANE_STATUS, R.IMG_STATUS]
    omega
  · simp only [R.IMG_LANE_ERR, R.IMG_STATUS]
    omega
  · exact State.bit_setBit_apart _ _ F.IMG_STATUS_PORT_READY g _ (by decide) (.inr hg)

theorem setEngine_link (n k : Nat) (s : State) (e : Engine) : LinkKept n s (s.setEngine k e) :=
  .of_regs rfl rfl fun _ _ => rfl

theorem engineNext_link (n : Fin 10) (s : State) : LinkKept n s (engineNext s n) := by
  have shown (u : State) (b : Bool) : LinkKept n u (u.setBit (scriptReg n) F.IMG_SCRIPT_BUSY b) := by
    refine .of_regs rfl rfl fun a ha => State.reg_setBit_ne _ _ _ ?_
    rw [show scriptReg n = R.IMG_SCRIPT n from (script_img n).1]
    simp only [LinkReg, R.IMG_LANE_STATUS, R.IMG_LANE_ERR, R.IMG_STATUS] at ha
    simp only [R.IMG_SCRIPT]
    omega
  unfold engineNext
  dsimp only
  split
  · exact .refl n s
  · split
    · exact shown s false
    · exact (setEngine_link ..).trans (shown _ true)

theorem scriptBegin_link (n : Fin 10) (s : State) (phase : Nat) : LinkKept n s (scriptBegin s n phase) := by
  unfold scriptBegin
  split
  · exact setEngine_link ..
  · exact (setEngine_link ..).trans (engineNext_link n _)

/-- What a command has set at a link stands when readiness has followed it. -/
theorem completes_ready (n : Fin 10) {row : Instr} {s u : State} {p : State → Prop} (quiet : mayStore row = false)
    (e : exec row s = .next (readyCheck u)) (h : ∀ t, LinkKept n u t → SameMem s t → p t) : Completes row s p :=
  ⟨_, e, h _ (readyCheck_link n u) (sameMem_of_exec quiet e)⟩

/-! #### Bring-up (04 R122) -/

section Bringup

variable {s : State} {n : Nat} {i : Fin 8} (mine : portTaken s n = false)

include mine

theorem laneBringup_cdrLock (hi : i.val < laneWidth s n) (lock : s.bit (R.IMG_LANE_STATUS n) ⟨i, 1⟩ = false) :
    laneBringup n (.cdrLock i) s = ((s.setBit (R.IMG_LANE_STATUS n) ⟨i, 1⟩ true).setBit (R.IMG_LANE_STATUS n)
      F.IMG_LANE_STATUS_ADAPT_RUNNING true).setImg n { s.imgSt n with adaptAt := s.now } := by
  unfold laneBringup
  simp only [mine, lock, Nat.not_le.2 hi, decide_false, Bool.or_self, Bool.false_eq_true, or_self, if_false]
  rfl

theorem laneBringup_adapted (hi : i.val < laneWidth s n) (lock : s.bit (R.IMG_LANE_STATUS n) ⟨i, 1⟩ = true)
    (adapts : (s.imgSt n).adapted / 2 ^ i.val % 2 = 0) :
    let u := s.setImg n { s.imgSt n with adapted := (s.imgSt n).adapted + 2 ^ i.val }
    laneBringup n (.adapted i) s = if allLanes s n ((s.imgSt n).adapted + 2 ^ i.val) then
      (u.setBit (R.IMG_LANE_STATUS n) F.IMG_LANE_STATUS_ADAPT_DONE true).setBit (R.IMG_LANE_STATUS n)
        F.IMG_LANE_STATUS_ADAPT_RUNNING false
      else u := by
  unfold laneBringup
  simp only [mine, lock, adapts, Nat.not_le.2 hi, decide_false, Bool.or_self, Bool.not_true, Bool.false_eq_true,
    zero_ne_one, or_self, if_false]
  cases h : allLanes s n ((s.imgSt n).adapted + 2 ^ i.val)
  · exact if_pos (congrArg (! ·) h)
  · exact if_neg (by rw [show allLanes (s.setImg n _) n _ = true from h]; decide)

/-- The link comes up: what the port shows before the bring-up script follows. -/
def linkRaised (s : State) (n : Nat) : State :=
  let u := (s.setBit (R.IMG_LANE_STATUS n) F.IMG_LANE_STATUS_DESKEWED true).setBit (R.IMG_STATUS n) F.IMG_STATUS_LINK_UP true
  u.setImg n { s.imgSt n with
    brought := true, anchor := none
    free := (s.imgSt n).free.filter (fun u => decide (u < (s.imgSt n).serial)) ++ [(s.imgSt n).serial] }

theorem laneBringup_deskewed (down : s.bit (R.IMG_STATUS n) F.IMG_STATUS_LINK_UP = false)
    (locked : allLanes s n (s.fld (R.IMG_LANE_STATUS n) F.IMG_LANE_STATUS_BLOCK_LOCK) = true) :
    laneBringup n .deskewed s =
      imgReady ((linkRaised s n).cond (!(s.imgSt n).brought) fun s => scriptBegin s n 1) n := by
  unfold laneBringup
  simp only [mine, down, locked, Bool.not_true, Bool.false_eq_true, or_self, if_false]
  rfl

end Bringup

theorem linkRaised_shows (s : State) (n : Nat) : ((linkRaised s n).imgSt n).brought = true ∧
    (linkRaised s n).bit (R.IMG_STATUS n) F.IMG_STATUS_LINK_UP = true ∧
    (linkRaised s n).bit (R.IMG_LANE_STATUS n) F.IMG_LANE_STATUS_DESKEWED = true := by
  unfold linkRaised
  extract_lets u
  have kept (a : Nat) (f : Fld) (x : ImgSt) : (u.setImg n x).bit a f = u.bit a f := State.bit_of_reg (u.reg_setImg n a x) f
  rw [State.imgSt_setImg_self, kept, kept]
  refine ⟨rfl, State.bit_setBit_self _ _ 4 true (by decide), ?_⟩
  exact (State.bit_setBit_ne _ _ _ _ (by simp only [R.IMG_LANE_STATUS, R.IMG_STATUS]; omega)).trans
    (State.bit_setBit_self _ _ 16 true (by decide))

theorem laneBringupDone_eq {s : State} (hw : s.working = true) (n : Fin 10) (stage : LaneStage) :
    exec (.laneBringupDone ⟨n, stage⟩) s = .next (readyCheck (laneBringup n stage s)) :=
  next_eq (State.whenWorking_true hw _)

/-! #### Headers and code groups of a lane (04 R123, R124) -/

/-- Invalid headers or code groups counted. -/
def unitsCounted (s : State) (n : Nat) (l : List CodeUnit) : State :=
  s.satInc (R.IMG_LANE_ERR n) F.IMG_LANE_ERR_CODE_ERR (badUnits l)

theorem unitsCounted_reg (s : State) {n : Nat} (l : List CodeUnit) {a : Nat} (h : a ≠ R.IMG_LANE_ERR n) :
    (unitsCounted s n l).reg a = s.reg a := State.reg_satInc_ne _ _ _ h

theorem enc8_unitsCounted (s : State) (n : Nat) (l : List CodeUnit) : enc8 (unitsCounted s n l) n = enc8 s n :=
  State.bit_of_reg (unitsCounted_reg s l (by simp only [R.IMG_LANE_CFG, R.IMG_LANE_ERR]; omega)) _

theorem lanes_unitsCounted (s : State) (n : Nat) (l : List CodeUnit) :
    (unitsCounted s n l).reg (R.IMG_LANE_STATUS n) = s.reg (R.IMG_LANE_STATUS n) :=
  unitsCounted_reg s l (by simp only [R.IMG_LANE_STATUS, R.IMG_LANE_ERR]; omega)

theorem unitsCounted_errors (s : State) (n : Nat) (l : List CodeUnit) :
    (unitsCounted s n l).fld (R.IMG_LANE_ERR n) F.IMG_LANE_ERR_CODE_ERR =
      min 65535 (s.fld (R.IMG_LANE_ERR n) F.IMG_LANE_ERR_CODE_ERR + badUnits l) :=
  State.fld_satInc_self _ _ _ _ (by decide)

section Take

variable {s : State} {n : Nat} {lane : Fin 8} (mine : portTaken s n = false) (used : lane.val < laneWidth s n)
  (l : List CodeUnit)

include mine used

/-- A locked lane keeps its lock or loses it. -/
theorem laneTake_locked (locked : s.bit (R.IMG_LANE_STATUS n) ⟨8 + lane, 1⟩ = true) :
    let y := loseLock (enc8 s n) l (s.lane n lane)
    laneTake n lane l s = ((unitsCounted s n l).setLane n lane y.1).cond y.2 (laneLost n lane) := by
  have lock := (State.bit_of_reg (lanes_unitsCounted s n l) ⟨8 + lane, 1⟩).trans locked
  have enc := enc8_unitsCounted s n l
  unfold unitsCounted at lock enc
  unfold laneTake
  simp only [mine, Nat.not_le.2 used, lock, enc, Bool.not_true, Bool.false_eq_true, false_and, or_self, if_false, if_true,
    State.cond_false]
  rfl

/-- An adapted lane that is not locked gains its lock or not, and may lose it again by what follows. -/
theorem laneTake_unlocked (free : s.bit (R.IMG_LANE_STATUS n) ⟨8 + lane, 1⟩ = false)
    (adapted : (s.imgSt n).adapted / 2 ^ lane.val % 2 = 1) :
    let g := gainLock (enc8 s n) l (s.lane n lane)
    let y := loseLock (enc8 s n) g.2.2 g.1
    laneTake n lane l s = if g.2.1 then (((unitsCounted s n l).setLane n lane y.1).setBit (R.IMG_LANE_STATUS n)
        ⟨8 + lane, 1⟩ true).cond y.2 (laneLost n lane)
      else (unitsCounted s n l).setLane n lane g.1 := by
  have lock := (State.bit_of_reg (lanes_unitsCounted s n l) ⟨8 + lane, 1⟩).trans free
  have enc := enc8_unitsCounted s n l
  have adapted' : ((unitsCounted s n l).imgSt n).adapted / 2 ^ lane.val % 2 = 1 := adapted
  have same : (unitsCounted s n l).lane n lane = s.lane n lane := rfl
  unfold unitsCounted at lock enc adapted' same
  intro g y
  unfold laneTake
  simp only [mine, Nat.not_le.2 used, lock, enc, adapted', same, Bool.not_false, Bool.false_eq_true, one_ne_zero, and_false,
    or_self, if_false, State.cond_true]
  cases g.2.1
  · exact (if_pos rfl).trans (if_neg Bool.false_ne_true).symm
  · exact (if_neg Bool.false_ne_true).trans (if_pos rfl).symm

end Take

/-! #### A lane that loses its lock (04 R123, R124) -/

/-- A port's lanes without the lock of one of them. -/
def laneLocks (n lane : Nat) (s : State) : State :=
  let a := R.IMG_LANE_STATUS n
  let u := (s.setBit a ⟨8 + lane, 1⟩ false).setBit a ⟨lane, 1⟩ false
  (u.setBit a F.IMG_LANE_STATUS_DESKEWED false).setBit a F.IMG_LANE_STATUS_ADAPT_DONE false

/-- A port's lanes and link without a lane. -/
def laneDown (n lane : Nat) (s : State) : State :=
  let u := laneLocks n lane s
  (u.setImg n { u.imgSt n with
    adapted := (u.imgSt n).adapted - (u.imgSt n).adapted / 2 ^ lane % 2 * 2 ^ lane }).setBit (R.IMG_STATUS n)
    F.IMG_STATUS_LINK_UP false

/-- A link that had been brought up is lost. -/
def linkLost (n : Nat) (s : State) : State :=
  ((s.flag (R.IMG_STATUS n) F.IMG_STATUS_LINK_LOST).satInc (R.IMG_LANE_ERR n) F.IMG_LANE_ERR_LOCK_LOSS).raise (Ev.img n 0)

theorem laneLost_eq (n lane : Nat) (s : State) :
    laneLost n lane s = imgReady ((laneDown n lane s).cond (s.imgSt n).brought (linkLost n)) n := by
  have brought : ((laneLocks n lane s).imgSt n).brought = (s.imgSt n).brought := rfl
  unfold laneLost
  cases h : (s.imgSt n).brought
  · exact if_pos (show (!((laneLocks n lane s).imgSt n).brought) = true by rw [brought, h]; rfl)
  · exact if_neg (show ¬(!((laneLocks n lane s).imgSt n).brought) = true by rw [brought, h]; decide)

theorem laneDown_reg (n lane : Nat) (s : State) {a : Nat} (h : a ≠ R.IMG_LANE_STATUS n) (k : a ≠ R.IMG_STATUS n) :
    (laneDown n lane s).reg a = s.reg a := by
  unfold laneDown laneLocks
  rw [State.reg_setBit_ne _ _ _ k, State.reg_setImg, State.reg_setBit_ne _ _ _ h, State.reg_setBit_ne _ _ _ h, State.reg_setBit_ne _ _ _ h,
    State.reg_setBit_ne _ _ _ h]

theorem laneDown_lock (n : Nat) (lane : Fin 8) (s : State) :
    (laneDown n lane s).bit (R.IMG_LANE_STATUS n) ⟨8 + lane, 1⟩ = false := by
  have beside : R.IMG_LANE_STATUS n ≠ R.IMG_STATUS n := by
    simp only [R.IMG_LANE_STATUS, R.IMG_STATUS]
    omega
  unfold laneDown laneLocks
  rw [State.bit_setBit_ne _ _ _ _ beside, State.bit_of_reg (State.reg_setImg ..)]
  refine (State.bit_setBit_apart _ _ F.IMG_LANE_STATUS_ADAPT_DONE _ _ (by decide) (.inl ?_)).trans <|
    (State.bit_setBit_apart _ _ F.IMG_LANE_STATUS_DESKEWED _ _ (by decide) (.inl ?_)).trans <|
    (State.bit_setBit_apart _ _ ⟨lane, 1⟩ _ _ ?_ (.inr ?_)).trans (State.bit_setBit_self _ _ _ false ?_)
  · simp only [F.IMG_LANE_STATUS_ADAPT_DONE]
    omega
  · simp only [F.IMG_LANE_STATUS_DESKEWED]
    omega
  · exact Nat.le_trans (Nat.add_le_add_right (Nat.le_of_lt lane.isLt) 1) (by decide)
  · exact (by omega : lane.val + 1 ≤ 8 + lane.val)
  · exact (by omega : 8 + lane.val + 1 ≤ 32)

theorem laneDown_link (n lane : Nat) (s : State) : (laneDown n lane s).bit (R.IMG_STATUS n) F.IMG_STATUS_LINK_UP = false :=
  State.bit_setBit_self _ _ 4 false (by decide)

/-- What is left of the link where one of its lanes has lost its lock. -/
structure LaneGone (n lane : Nat) (s t : State) : Prop where
  lock : t.bit (R.IMG_LANE_STATUS n) ⟨8 + lane, 1⟩ = false
  link : t.bit (R.IMG_STATUS n) F.IMG_STATUS_LINK_UP = false
  units : t.fld (R.IMG_LANE_ERR n) F.IMG_LANE_ERR_CODE_ERR = s.fld (R.IMG_LANE_ERR n) F.IMG_LANE_ERR_CODE_ERR

/-- How the loss of a link that had been up shows. -/
structure LinkGone (n : Nat) (s t : State) : Prop where
  shown : t.bit (R.IMG_STATUS n) F.IMG_STATUS_LINK_LOST = true
  counted : t.fld (R.IMG_LANE_ERR n) F.IMG_LANE_ERR_LOCK_LOSS =
    min 65535 (s.fld (R.IMG_LANE_ERR n) F.IMG_LANE_ERR_LOCK_LOSS + 1)
  told : s.reg (R.EVT_ROUTE (Ev.img n 0)) ≠ 0 → Ev.img n 0 ∈ t.evPend

theorem LinkKept.laneGone {n lane : Nat} {s t u : State} (h : LinkKept n t u) (k : LaneGone n lane s t) :
    LaneGone n lane s u :=
  ⟨(State.bit_of_reg h.lanes _).trans k.lock, (h.status _ (by decide)).trans k.link,
    (State.fld_of_reg h.errors _).trans k.units⟩

theorem LinkKept.linkGone {n : Nat} {s t u : State} (h : LinkKept n t u) (k : LinkGone n s t) : LinkGone n s u :=
  ⟨(h.status _ (by decide)).trans k.shown, (State.fld_of_reg h.errors _).trans k.counted,
    fun route => h.evPend ▸ k.told route⟩

section Lost

variable (n : Fin 10) (s : State)

theorem linkReg_above {a : Nat} (h : LinkReg n a) : a ≠ R.EVT_LOST := by
  simp only [LinkReg, R.IMG_LANE_STATUS, R.IMG_LANE_ERR, R.IMG_STATUS] at h
  simp only [R.EVT_LOST]
  omega

/-- Of the registers, the loss of a link writes LINK_LOST, LOCK_LOSS and the count of merged events. -/
theorem linkLost_lanes {lane : Fin 8} (down : s.bit (R.IMG_LANE_STATUS n) ⟨8 + lane, 1⟩ = false)
    (link : s.bit (R.IMG_STATUS n) F.IMG_STATUS_LINK_UP = false) : LaneGone n lane s (linkLost n s) := by
  have raised {a : Nat} (h : LinkReg n a) := State.reg_raise ((s.flag (R.IMG_STATUS n) F.IMG_STATUS_LINK_LOST).satInc
    (R.IMG_LANE_ERR n) F.IMG_LANE_ERR_LOCK_LOSS) (Ev.img n 0) (linkReg_above n h)
  refine ⟨(State.bit_of_reg (raised (.inl rfl)) _).trans ?_, (State.bit_of_reg (raised (.inr (.inr rfl))) _).trans ?_,
    (State.fld_of_reg (raised (.inr (.inl rfl))) _).trans ?_⟩
  · refine (State.bit_of_reg ((State.reg_satInc_ne _ _ _ ?_).trans (State.reg_setBit_ne _ _ _ ?_)) _).trans down <;>
      simp only [R.IMG_LANE_STATUS, R.IMG_LANE_ERR, R.IMG_STATUS] <;> omega
  · refine (State.bit_of_reg (State.reg_satInc_ne _ _ _ ?_) _).trans
      ((State.bit_setBit_apart _ _ F.IMG_STATUS_LINK_LOST _ _ (by decide) (by decide)).trans link)
    simp only [R.IMG_LANE_ERR, R.IMG_STATUS]
    omega
  · refine (State.fld_setFld_apart _ _ F.IMG_LANE_ERR_LOCK_LOSS _ _ (by decide) (by decide)).trans
      (State.fld_of_reg (State.reg_setBit_ne _ _ _ ?_) _)
    simp only [R.IMG_LANE_ERR, R.IMG_STATUS]
    omega

theorem linkLost_shows : LinkGone n s (linkLost n s) := by
  have apart : R.IMG_STATUS n ≠ R.IMG_LANE_ERR n := by
    simp only [R.IMG_STATUS, R.IMG_LANE_ERR]
    omega
  refine ⟨?_, ?_, fun route => State.mem_evPend_raise_route (by simp only [Ev.img]; omega) ?_⟩
  · refine (State.bit_of_reg (State.reg_raise _ _ (linkReg_above n (.inr (.inr rfl)))) _).trans ?_
    exact (State.bit_of_reg (State.reg_satInc_ne _ _ _ apart) _).trans (State.bit_setBit_self _ _ 14 true (by decide))
  · refine (State.fld_of_reg (State.reg_raise _ _ (linkReg_above n (.inr (.inl rfl)))) _).trans ?_
    rw [State.fld_satInc_self _ _ _ _ (by decide), State.flag, State.fld_of_reg (State.reg_setBit_ne _ _ _ apart.symm)]
    rfl
  · rw [State.reg_satInc_ne _ _ _ ?_, State.flag, State.reg_setBit_ne _ _ _ ?_]
    · exact route
    all_goals simp only [R.EVT_ROUTE, Ev.img, R.IMG_STATUS, R.IMG_LANE_ERR]; omega

/-- A lane that loses its lock takes the link down with it. -/
theorem laneLost_gone (lane : Fin 8) : LaneGone n lane s (laneLost n lane s) := by
  rw [laneLost_eq]
  have lock := laneDown_lock n lane s
  have link := laneDown_link n lane s
  have errors : (laneDown n lane s).reg (R.IMG_LANE_ERR n) = s.reg (R.IMG_LANE_ERR n) := by
    refine laneDown_reg n lane s ?_ ?_ <;> simp only [R.IMG_LANE_ERR, R.IMG_LANE_STATUS, R.IMG_STATUS] <;> omega
  have units := State.fld_of_reg errors F.IMG_LANE_ERR_CODE_ERR
  refine (imgReady_link n _).laneGone (State.cond_induct ⟨lock, link, units⟩ fun _ => ?_)
  obtain ⟨lock, link, same⟩ := linkLost_lanes n (laneDown n lane s) lock link
  exact ⟨lock, link, same.trans units⟩

/-- A port that had been brought up shows and tells the loss of its link. -/
theorem laneLost_shows (lane : Fin 8) (brought : (s.imgSt n).brought = true) : LinkGone n s (laneLost n lane s) := by
  rw [laneLost_eq, brought, State.cond_true]
  obtain ⟨shown, counted, told⟩ := linkLost_shows n (laneDown n lane s)
  refine (imgReady_link n _).linkGone ⟨shown, counted.trans ?_, fun route => told ?_⟩
  · rw [State.fld_of_reg (laneDown_reg n lane s ?_ ?_)] <;>
      simp only [R.IMG_LANE_ERR, R.IMG_LANE_STATUS, R.IMG_STATUS] <;> omega
  · rw [laneDown_reg n lane s ?_ ?_]
    · exact route
    all_goals simp only [R.EVT_ROUTE, Ev.img, R.IMG_STATUS, R.IMG_LANE_STATUS]; omega

end Lost

/-! #### Re-adaptation between packets (04 R125) -/

theorem rxReadapt_down {s : State} {n : Nat} (b : Bool) (down : s.bit (R.IMG_STATUS n) F.IMG_STATUS_LINK_UP = false) :
    rxReadapt n b s = s := by
  unfold rxReadapt
  rw [if_pos (by rw [down]; rfl)]

/-- The state once re-adaptation has begun or ended. -/
def readapted (s : State) (n : Nat) (b : Bool) : State :=
  let u := s.cond b fun s =>
    let u := s.reach ((s.imgSt n).adaptAt + readaptInterval s)
    u.setImg n { u.imgSt n with adaptAt := u.now }
  u.setBit (R.IMG_LANE_STATUS n) F.IMG_LANE_STATUS_ADAPT_RUNNING b

theorem rxReadapt_up {s : State} {n : Nat} (b : Bool) (up : s.bit (R.IMG_STATUS n) F.IMG_STATUS_LINK_UP = true) :
    rxReadapt n b s = readapted s n b := by
  unfold rxReadapt
  rw [if_neg (by rw [up]; decide)]
  cases b <;> rfl

theorem readapted_shows (s : State) (n : Nat) (b : Bool) :
    (readapted s n b).bit (R.IMG_LANE_STATUS n) F.IMG_LANE_STATUS_ADAPT_RUNNING = b ∧
    SameRegs s (readapted s n b) (fun r => r = R.IMG_LANE_STATUS n) ∧
    (readapted s n b).now = if b then max s.now ((s.imgSt n).adaptAt + readaptInterval s) else s.now := by
  refine ⟨State.bit_setBit_self _ _ 18 b (by decide), SameRegs.setBit ?_ rfl, ?_⟩
  · exact SameRegs.cond (.refl s _) fun u h => h.trans (.of_eq rfl rfl)
  · cases b <;> rfl

/-! ### CaptureLink: packets (04 R126 to R132) -/

/-! #### SYNC and the lanes' shares (04 R126, R127) -/

section Sync

variable {n : Nat} {bad : Bool} {sync : List LaneSym} {total m : Nat} {s : State}

theorem syncWord_length (s : State) (n : Nat) : (syncWord s n).length = 4 := by
  rw [syncWord, List.length_map, List.length_zipIdx]
  rfl

theorem syncAt_self (h : sync.length = 4) (l : List LaneSym) : syncAt sync (sync ++ l) = some 0 := by
  obtain ⟨x, r, rfl⟩ := List.exists_cons_of_length_pos (show 0 < sync.length by omega)
  exact if_pos (List.isPrefixOf_iff_prefix.2 (List.prefix_append ..))

/-- Lanes that carry nothing more bring nothing more. -/
theorem packetsFrom_spent {lanes : List (List LaneSym)} {from_ : List Nat}
    (h : ∀ x ∈ List.zip lanes from_, x.1.length ≤ x.2) : packetsFrom n bad sync lanes total m from_ s = s := by
  have none : (List.zipWith (fun l k => (syncAt sync (l.drop k)).map (· + k)) lanes from_).filterMap id = [] := by
    rw [← List.map_uncurry_zip_eq_zipWith, List.filterMap_eq_nil_iff]
    intro o ho
    obtain ⟨⟨l, k⟩, hx, rfl⟩ := List.mem_map.1 ho
    have spent : l.drop k = [] := List.drop_eq_nil_of_le (h _ hx)
    simp only [Function.uncurry, spent, id]
    rfl
  cases m with
  | zero => rfl
  | succ m =>
    unfold packetsFrom
    simp only [none]

/-- SYNC on one lane alone is an error, and brings no packet (04 R127). -/
theorem packetsFrom_skew (len : sync.length = 4) (k : Nat) :
    packetsFrom n bad sync (sync :: List.replicate (k + 1) []) total (m + 1) (List.replicate (k + 2) 0) s =
      syncErr s n false := by
  have start : syncAt sync sync = some 0 := by simpa using syncAt_self len []
  have places : List.zipWith (fun l k => (syncAt sync (l.drop k)).map (· + k)) (sync :: List.replicate (k + 1) [])
      (List.replicate (k + 2) 0) = some 0 :: List.replicate (k + 1) none := by
    rw [List.replicate_succ (n := k + 1) (a := 0), List.zipWith_cons_cons, List.zipWith_replicate']
    simp only [List.drop_zero, start]
    rfl
  have first : (some 0 :: List.replicate (k + 1) none).filterMap id = [0] := by simp
  have alone : (!(some 0 :: List.replicate (k + 1) none).all fun q : Option Nat => q.any fun j => decide (j ≤ 0 + 16)) = true := by
    rw [List.replicate_succ]
    rfl
  unfold packetsFrom
  simp only [places, first, List.foldl_nil]
  refine (if_pos alone).trans ?_
  rw [List.replicate_succ (n := k + 1) (a := 0), List.zipWith_cons_cons]
  refine packetsFrom_spent fun x hx => ?_
  rw [List.zip_cons_cons] at hx
  rcases List.mem_cons.1 hx with rfl | later
  · exact Nat.le_of_eq len
  · rw [List.eq_of_mem_replicate (List.of_mem_zip later).1]
    exact Nat.zero_le _

/-- SYNC on every lane and a share behind each: one packet (04 R126). -/
theorem packetsFrom_packet (len : sync.length = 4) {shares : List (List Byte)} (lanes : 0 < shares.length)
    (count : ∀ i, (h : i < shares.length) → shares[i].length = (total + shares.length - 1 - i) / shares.length)
    (whole : ∀ i, (h : i < shares.length) →
      laneShare sync ((total + shares.length - 1 - i) / shares.length) (shares[i].map .data) = some shares[i]) :
    packetsFrom n bad sync (shares.map fun b => sync ++ b.map .data) total (m + 1) (List.replicate shares.length 0) s =
      packetBytes n bad (destripe shares shares.length total) s := by
  have places : List.zipWith (fun l k => (syncAt sync (l.drop k)).map (· + k)) (shares.map fun b => sync ++ b.map .data)
      (List.replicate shares.length 0) = List.replicate shares.length (some 0) := by
    refine List.ext_getElem (by simp) fun i h _ => ?_
    rw [List.getElem_zipWith, List.getElem_map, List.getElem_replicate, List.getElem_replicate, List.drop_zero, syncAt_self len]
    rfl
  obtain ⟨k, hk⟩ := Nat.exists_eq_add_one_of_ne_zero (Nat.ne_of_gt lanes)
  have first : (List.replicate shares.length (some 0)).filterMap id = 0 :: List.replicate k 0 := by
    rw [List.filterMap_replicate_of_some (f := id) (b := 0) rfl, hk, List.replicate_succ]
  have found (j : Nat) : (some 0 : Option Nat).any (fun i => decide (i ≤ j + 16)) = true :=
    decide_eq_true (Nat.zero_le (j + 16))
  have everywhere (j : Nat) : ¬(!(List.replicate shares.length (some 0)).all fun q : Option Nat =>
      q.any fun i => decide (i ≤ j + 16)) = true := by
    rw [List.all_replicate, found]
    simp
  have after (j : Nat) : List.zipWith (fun (q : Option Nat) (k : Nat) =>
      if (q.any fun i => decide (i ≤ j + 16)) = true then q.getD 0 + 4 else k)
      (List.replicate shares.length (some 0)) (List.replicate shares.length 0) = List.replicate shares.length 4 := by
    rw [List.zipWith_replicate', if_pos (found j)]
    rfl
  have taken : ((List.zip (shares.map fun b => sync ++ b.map .data) (List.replicate shares.length 4)).zipIdx.map fun x =>
      laneShare sync ((total + shares.length - 1 - x.2) / shares.length) (x.1.1.drop x.1.2)) = shares.map some := by
    refine List.ext_getElem (by simp) fun i _ h => ?_
    rw [List.length_map] at h
    simp only [List.getElem_map, List.getElem_zipIdx, List.getElem_zip, List.getElem_replicate, Nat.zero_add]
    rw [List.drop_left' len, whole i h]
  unfold packetsFrom
  simp only [places, first, after, List.length_map, taken]
  rw [if_neg (everywhere _), if_neg (by simp), List.filterMap_map,
    show shares.filterMap (id ∘ some) = shares from List.filterMap_some]
  refine packetsFrom_spent fun x hx => ?_
  obtain ⟨i, h, rfl⟩ := List.mem_iff_getElem.1 hx
  have inside : i < shares.length := by simpa using h
  simp only [List.getElem_zip, List.getElem_map, List.getElem_zipIdx, List.getElem_replicate, Nat.zero_add, List.length_append,
    List.length_map, len, count i inside, Nat.le_refl]

end Sync

/-- The length of a packet of a port (04 R128, R129). -/
def packetLen (s : State) (n : Nat) : Nat :=
  let fc := R.IMG_FRAME_CFG n
  min 16 (max 2 (s.fld fc F.IMG_FRAME_CFG_HDR_LEN)) +
    (imgPixels s n * (10 + 2 * s.fld fc F.IMG_FRAME_CFG_PIX_BITS) + 7) / 8

theorem linePacket_down {s : State} {n : Nat} (bad : Bool) (lanes : List (List LaneSym))
    (down : s.bit (R.IMG_STATUS n) F.IMG_STATUS_LINK_UP = false) : linePacket n bad lanes s = s := by
  unfold linePacket
  exact if_pos (by rw [down]; rfl)

theorem linePacket_up {s : State} {n : Nat} (bad : Bool) (lanes : List (List LaneSym))
    (up : s.bit (R.IMG_STATUS n) F.IMG_STATUS_LINK_UP = true) :
    let used := (List.range (laneWidth s n)).map fun i => lanes.getD i []
    linePacket n bad lanes s = packetsFrom n bad (syncWord s n) used (packetLen s n) ((used.map (·.length)).sum + 1)
      (List.replicate (laneWidth s n) 0) s := by
  unfold linePacket
  exact if_neg (by rw [up]; decide)

theorem linePacket_skew {s : State} {n : Nat} (bad : Bool) (up : s.bit (R.IMG_STATUS n) F.IMG_STATUS_LINK_UP = true)
    (several : 2 ≤ laneWidth s n) : linePacket n bad [syncWord s n] s = syncErr s n false := by
  obtain ⟨k, hk⟩ := Nat.exists_eq_add_of_le' several
  have used : ((List.range (laneWidth s n)).map fun i => [syncWord s n].getD i []) =
      syncWord s n :: List.replicate (k + 1) [] := by
    rw [hk, List.range_succ_eq_map, List.map_cons, List.map_map]
    refine congrArg (syncWord s n :: ·) (List.eq_replicate_iff.2 ⟨by simp, fun l hl => ?_⟩)
    obtain ⟨i, -, rfl⟩ := List.mem_map.1 hl
    rfl
  rw [linePacket_up _ _ up, used, hk]
  exact packetsFrom_skew (syncWord_length s n) k

/-- The shares of a packet behind SYNC on the lanes of a port whose link is up bring that packet (04 R126). -/
theorem linePacket_packet {s : State} {n : Nat} (bad : Bool) (up : s.bit (R.IMG_STATUS n) F.IMG_STATUS_LINK_UP = true)
    {shares : List (List Byte)} (lanes : shares.length = laneWidth s n)
    (h : ∀ i, i < laneWidth s n →
      (shares.getD i []).length = (packetLen s n + laneWidth s n - 1 - i) / laneWidth s n ∧
      laneShare (syncWord s n) ((packetLen s n + laneWidth s n - 1 - i) / laneWidth s n) ((shares.getD i []).map .data) =
        some (shares.getD i [])) :
    linePacket n bad (shares.map fun b => syncWord s n ++ b.map .data) s =
      packetBytes n bad (destripe shares (laneWidth s n) (packetLen s n)) s := by
  have width : 0 < laneWidth s n := Nat.two_pow_pos _
  have used : ((List.range (laneWidth s n)).map fun i =>
      (shares.map fun b => syncWord s n ++ b.map LaneSym.data).getD i []) = shares.map fun b => syncWord s n ++ b.map .data := by
    refine List.ext_getElem (by simp [lanes]) fun i _ h => ?_
    rw [List.getElem_map, List.getElem_range, List.getD_eq_getElem _ _ h]
  have share (i : Nat) (hi : i < shares.length) : shares.getD i [] = shares[i] := List.getD_eq_getElem _ _ hi
  rw [linePacket_up _ _ up, used]
  rw [← lanes] at h width ⊢
  refine packetsFrom_packet (syncWord_length s n) width (fun i hi => ?_) fun i hi => ?_ <;> rw [← share i hi]
  · exact (h i hi).1
  · exact (h i hi).2

/-! #### The line of a packet (04 R131, R132) -/

theorem matchLine_mem {st : ImgSt} {seq : Nat} {l : Awaited} (h : matchLine st seq = some l) : l ∈ st.awaited := by
  unfold matchLine at h
  split at h
  case h_1 found =>
    cases h
    exact List.mem_of_find?_eq_some found
  case h_2 => exact List.mem_of_find?_eq_some h

/-- A sequence that becomes known changes no line's number and no line's slots. -/
theorem anchorAt_keeps {st : ImgSt} {l : Awaited} (h : l ∈ st.awaited) (serial seq mod : Nat) :
    ∃ b ∈ (anchorAt st serial seq mod).awaited, b.serial = l.serial ∧ b.slots = l.slots := by
  unfold anchorAt
  split
  · exact ⟨l, h, rfl, rfl⟩
  · refine ⟨_, List.mem_map_of_mem h, ?_⟩
    split <;> exact ⟨rfl, rfl⟩

theorem mapTap_awaited (s : State) (n serial : Nat) (f : Tap → Tap) :
    ((mapTap s n serial f).imgSt n).awaited = (s.imgSt n).awaited := by
  unfold mapTap
  rw [State.imgSt_setImg_self]

theorem correctLine_awaited (s : State) (n : Nat) (ln : Line) (c : Nat) (raw : List Nat) :
    ((correctLine s n ln c raw).2.2.imgSt n).awaited = (s.imgSt n).awaited := by
  unfold correctLine
  extract_lets +onlyGivenNames st sh px shift
  split
  extract_lets +onlyGivenNames fixed
  split
  · rfl
  · extract_lets +onlyGivenNames m fail flags frozen fa
    split
    · rfl
    · extract_lets +onlyGivenNames mean r
      split
      extract_lets +onlyGivenNames u
      split
      exact (congrArg ImgSt.awaited (State.imgSt_setImg_self s n _)).trans rfl

/-- A packet that no line matches sets SEQ_ERR alone. -/
theorem packetBytes_unmatched {s : State} {n : Nat} (bad : Bool) (p : List Byte) :
    let fc := R.IMG_FRAME_CFG n
    let hl := min 16 (max 2 (s.fld fc F.IMG_FRAME_CFG_HDR_LEN))
    byteAt (s.fld fc F.IMG_FRAME_CFG_COLOUR_OFS) (p.take hl) % 4 < imgColours s n →
    matchLine (s.imgSt n) (natAt (s.fld fc F.IMG_FRAME_CFG_SEQ_OFS) (if s.bit fc F.IMG_FRAME_CFG_SEQ_16 then 2 else 1)
      (p.take hl)) = none →
    packetBytes n bad p s = imgFault s n F.IMG_STATUS_SEQ_ERR := by
  intro fc hl colour unmatched
  unfold packetBytes
  rw [if_neg (Nat.not_le.2 colour)]
  split
  case h_1 => rfl
  case h_2 found => exact absurd (unmatched.symm.trans found) nofun

/-- A packet that a line matches, in an empty slot of it, fills that slot; the line stays outstanding while another slot is
empty. -/
theorem packetBytes_slot {s : State} {n : Nat} {l : Awaited} (p : List Byte) :
    let fc := R.IMG_FRAME_CFG n
    let hl := min 16 (max 2 (s.fld fc F.IMG_FRAME_CFG_HDR_LEN))
    let c := byteAt (s.fld fc F.IMG_FRAME_CFG_COLOUR_OFS) (p.take hl) % 4
    c < imgColours s n →
    matchLine (s.imgSt n) (natAt (s.fld fc F.IMG_FRAME_CFG_SEQ_OFS) (if s.bit fc F.IMG_FRAME_CFG_SEQ_16 then 2 else 1)
      (p.take hl)) = some l →
    l.slots.getD c false = false → (l.slots.set c true).all id = false →
    ∃ b ∈ ((packetBytes n false p s).imgSt n).awaited, b.serial = l.serial ∧ b.slots = l.slots.set c true := by
  intro fc hl c colour matched empty more
  have mem := matchLine_mem matched
  unfold packetBytes
  extract_lets +onlyGivenNames fc' hl'
  rw [if_neg (Nat.not_le.2 colour)]
  split
  case h_1 unmatched => exact absurd (unmatched.symm.trans matched) nofun
  case h_2 a found =>
    cases found.symm.trans matched
    rw [if_neg (by rw [show l.slots.getD _ false = false from empty]; decide)]
    extract_lets +onlyGivenNames s₁ slots st s₂ s₃ bits raw s₄
    rw [if_neg (by rw [show slots.all id = false from more]; decide)]
    have known : ∃ b ∈ (s₁.imgSt n).awaited, b.serial = l.serial ∧ b.slots = l.slots := by
      refine State.cond_induct (p := fun t : State => ∃ b ∈ (t.imgSt n).awaited, b.serial = l.serial ∧ b.slots = l.slots)
        ⟨l, mem, rfl, rfl⟩ fun _ => ?_
      rw [State.imgSt_setImg_self]
      exact anchorAt_keeps mem ..
    have filled : ∃ b ∈ (s₂.imgSt n).awaited, b.serial = l.serial ∧ b.slots = slots := by
      obtain ⟨b, hb, serial, -⟩ := known
      rw [show s₂.imgSt n = _ from State.imgSt_setImg_self ..]
      refine ⟨_, List.mem_map_of_mem hb, ?_⟩
      rw [if_pos serial]
      exact ⟨serial, rfl⟩
    have kept : (s₄.imgSt n).awaited = (s₃.imgSt n).awaited := by
      unfold s₄
      split
      · rfl
      · split
        · rfl
        · exact (mapTap_awaited ..).trans (correctLine_awaited ..)
    rw [kept]
    exact filled

/-! ### CaptureLink: the timeout of a line (04 R131) -/

/-- What the decisions about a port's targets leave: the outstanding lines, and IMG_n_STATUS. -/
structure WaitsKept (n : Nat) (s t : State) : Prop where
  awaited : (t.imgSt n).awaited = (s.imgSt n).awaited
  status : t.reg (R.IMG_STATUS n) = s.reg (R.IMG_STATUS n)

theorem WaitsKept.refl (n : Nat) (s : State) : WaitsKept n s s := ⟨rfl, rfl⟩

theorem WaitsKept.trans {n : Nat} {s t u : State} (h : WaitsKept n s t) (k : WaitsKept n t u) : WaitsKept n s u :=
  ⟨k.awaited.trans h.awaited, k.status.trans h.status⟩

theorem emitGap_waits (n : Fin 10) (s : State) (w : Swath) : WaitsKept n s (emitGap s n w) := by
  obtain ⟨-, hidden, regs⟩ := emitGap_leaves s n w
  refine ⟨congrArg ImgSt.awaited hidden, regs _ ?_⟩
  simp only [FrondReg, R.IMG_STATUS]
  omega

theorem accountTap_waits (n : Fin 10) (s : State) (w : Swath) (t : Tap) (reason : Nat) :
    WaitsKept n s (accountTap s n w t reason).1 := by
  unfold accountTap
  split
  · split
    · exact .refl n s
    · exact emitGap_waits n s w
  · exact .refl n s

theorem setFrontSwath_waits (n : Nat) (s : State) (w : Swath) : WaitsKept n s (setFrontSwath s n w) := by
  refine ⟨?_, setFrontSwath_reg s n w _⟩
  unfold setFrontSwath
  rw [State.imgSt_setImg_self]

theorem withheld_waits (n : Nat) (s : State) : WaitsKept n s (s.satInc (R.IMG_WITHHELD n) F.IMG_WITHHELD_WITHHELD) := by
  refine ⟨congrArg ImgSt.awaited (((Bookkeeps.refl s).satInc ..).imgSt n), State.reg_satInc_ne _ _ _ ?_⟩
  simp only [R.IMG_STATUS, R.IMG_WITHHELD]
  omega

theorem decideOn_waits (n : Fin 10) (m : Nat) (s : State) : WaitsKept n s (decideOn n m s) := by
  induction m generalizing s with
  | zero => exact .refl n s
  | succ m ih =>
    have passed (u : State) (h : WaitsKept n s u) (w : Swath) (t : Tap) (reason : Nat) :
        WaitsKept n s (decideOn n m (setFrontSwath (accountTap u n w t reason).1 n (accountTap u n w t reason).2.pass)) :=
      ((h.trans (accountTap_waits n u w t reason)).trans (setFrontSwath_waits ..)).trans (ih _)
    unfold decideOn
    split
    · exact .refl n s
    · split
      · exact .refl n s
      · split
        · exact .refl n s
        · exact passed s (.refl n s) ..
        · split
          · exact passed _ (withheld_waits n s) ..
          · exact .refl n s

theorem decide_waits (n : Fin 10) (s : State) : WaitsKept n s (decide_ s n) := decideOn_waits n _ s

theorem mapTap_waits (n : Nat) (s : State) (serial : Nat) (f : Tap → Tap) : WaitsKept n s (mapTap s n serial f) :=
  ⟨mapTap_awaited .., State.reg_setImg ..⟩

theorem dropAwaited_awaited (s : State) (n serial : Nat) :
    ((dropAwaited s n serial).imgSt n).awaited = (s.imgSt n).awaited.filter (fun b => b.serial != serial) := by
  unfold dropAwaited
  rw [imgShow_imgSt, State.imgSt_setImg_self]

theorem dropAwaited_status (s : State) (n serial : Nat) {f : Fld} (h : 8 ≤ f.lo) :
    (dropAwaited s n serial).bit (R.IMG_STATUS n) f = s.bit (R.IMG_STATUS n) f :=
  (imgShow_status _ n (.inr h)).trans (State.bit_of_reg (State.reg_setImg ..) f)

theorem dropAwaited_tm (s : State) (n serial : Nat) : (dropAwaited s n serial).tm = s.tm :=
  congrArg RunFacts.tm (imgShow_facts ..)

/-- The port once the timeout of an outstanding line has come: the line is due no more. -/
def lineDue (s : State) (n : Nat) (l : Awaited) : State :=
  let u := imgFault (s.reach l.deadline) n F.IMG_STATUS_DATA_TIMEOUT
  u.setImg n { u.imgSt n with free := freeWithout (u.imgSt n) l.serial }

theorem lineDue_shows (s : State) (n : Fin 10) (l : Awaited) :
    (lineDue s n l).bit (R.IMG_STATUS n) F.IMG_STATUS_DATA_TIMEOUT = true ∧
    ((lineDue s n l).imgSt n).awaited = (s.imgSt n).awaited ∧ (lineDue s n l).tm = (s.reach l.deadline).tm := by
  have kept := State.flagEvent_bookkeeps (s.reach l.deadline) (R.IMG_STATUS n) F.IMG_STATUS_DATA_TIMEOUT (Ev.img n 5)
  refine ⟨(State.bit_of_reg (State.reg_setImg ..) _).trans (State.bit_flagEvent _ _ rfl (by decide) ?_), ?_, kept.tm⟩
  · simp only [R.IMG_STATUS, R.EVT_LOST]
    omega
  · have awaited := congrArg ImgSt.awaited (kept.imgSt n)
    unfold lineDue
    rw [State.imgSt_setImg_self]
    exact awaited

/-- The line that is due first leaves the outstanding lines, with DATA_TIMEOUT. -/
theorem dataTimeout_shows {s : State} {n : Fin 10} {l : Awaited} (due : firstDue (s.imgSt n).awaited = some l) :
    (dataTimeout n s).bit (R.IMG_STATUS n) F.IMG_STATUS_DATA_TIMEOUT = true ∧
    ((dataTimeout n s).imgSt n).awaited = (s.imgSt n).awaited.filter (fun b => b.serial != l.serial) ∧
    l.deadline ≤ (dataTimeout n s).now := by
  have eq : dataTimeout n s = decide_ (mapTap (dropAwaited (lineDue s n l) n l.serial) n l.serial fun t =>
      { t with status := if t.status = .waits then .lost 7 else t.status }) n := by
    unfold dataTimeout
    rw [due]
    rfl
  rw [eq]
  obtain ⟨shown, awaited, time⟩ := lineDue_shows s n l
  have kept := (mapTap_waits n (dropAwaited (lineDue s n l) n l.serial) l.serial fun t =>
    { t with status := if t.status = .waits then .lost 7 else t.status }).trans (decide_waits n _)
  refine ⟨(State.bit_of_reg kept.status _).trans ((dropAwaited_status _ _ _ (by decide)).trans shown),
    kept.awaited.trans (by rw [dropAwaited_awaited, awaited]), ?_⟩
  have tm : (decide_ (mapTap (dropAwaited (lineDue s n l) n l.serial) n l.serial fun t =>
      { t with status := if t.status = .waits then .lost 7 else t.status }) n).tm = (s.reach l.deadline).tm :=
    (congrArg RunFacts.tm (decide_facts ..)).trans ((dropAwaited_tm ..).trans time)
  exact (Nat.le_max_right s.tm.now l.deadline).trans (Nat.le_of_eq (congrArg TimeSt.now tm.symm))

/-! ### CaptureLink: the commands (04 R119, R122 to R127, R131, R132) -/

section Stages

variable {s : State} {n : Fin 10} {i : Fin 8} (hw : s.working = true) (mine : portTaken s n = false)

include hw mine

theorem cdrLock_shows (used : i.val < laneWidth s n) (free : s.bit (R.IMG_LANE_STATUS n) ⟨i, 1⟩ = false) :
    Completes (.laneBringupDone ⟨n, .cdrLock i⟩) s fun t => t.bit (R.IMG_LANE_STATUS n) ⟨i, 1⟩ = true ∧
      t.bit (R.IMG_LANE_STATUS n) F.IMG_LANE_STATUS_ADAPT_RUNNING = true ∧ SameMem s t := by
  refine completes_ready n rfl (laneBringupDone_eq hw n (.cdrLock i)) fun t kept same => ?_
  have lanes := kept.lanes
  rw [laneBringup_cdrLock mine used free, State.reg_setImg] at lanes
  refine ⟨(State.bit_of_reg lanes _).trans ?_, (State.bit_of_reg lanes _).trans (State.bit_setBit_self _ _ 18 true (by decide)),
    same⟩
  refine (State.bit_setBit_apart _ _ F.IMG_LANE_STATUS_ADAPT_RUNNING _ _ (by decide) (.inl ?_)).trans
    (State.bit_setBit_self _ _ _ true (by omega))
  simp only [F.IMG_LANE_STATUS_ADAPT_RUNNING]
  omega

theorem adapted_shows (used : i.val < laneWidth s n) (lock : s.bit (R.IMG_LANE_STATUS n) ⟨i, 1⟩ = true)
    (adapts : (s.imgSt n).adapted / 2 ^ i.val % 2 = 0) : Completes (.laneBringupDone ⟨n, .adapted i⟩) s fun t =>
      (t.imgSt n).adapted = (s.imgSt n).adapted + 2 ^ i.val ∧ SameMem s t ∧
        (allLanes s n ((s.imgSt n).adapted + 2 ^ i.val) = true →
          t.bit (R.IMG_LANE_STATUS n) F.IMG_LANE_STATUS_ADAPT_DONE = true ∧
          t.bit (R.IMG_LANE_STATUS n) F.IMG_LANE_STATUS_ADAPT_RUNNING = false) := by
  refine completes_ready n rfl (laneBringupDone_eq hw n (.adapted i)) fun t kept same => ?_
  have lanes := kept.lanes
  have hidden := congrArg ImgSt.adapted (kept.imgSt n)
  rw [laneBringup_adapted mine used lock adapts] at lanes hidden
  have adapted := congrArg ImgSt.adapted (State.imgSt_setImg_self s n
    { s.imgSt n with adapted := (s.imgSt n).adapted + 2 ^ i.val })
  refine ⟨hidden.trans ?_, same, fun all => ?_⟩
  · split <;> exact adapted
  · rw [if_pos all] at lanes
    refine ⟨(State.bit_of_reg lanes _).trans ?_,
      (State.bit_of_reg lanes _).trans (State.bit_setBit_self _ _ 18 false (by decide))⟩
    exact (State.bit_setBit_apart _ _ F.IMG_LANE_STATUS_ADAPT_RUNNING _ _ (by decide) (by decide)).trans
      (State.bit_setBit_self _ _ 17 true (by decide))

theorem deskewed_shows (down : s.bit (R.IMG_STATUS n) F.IMG_STATUS_LINK_UP = false)
    (locked : allLanes s n (s.fld (R.IMG_LANE_STATUS n) F.IMG_LANE_STATUS_BLOCK_LOCK) = true) :
    Completes (.laneBringupDone ⟨n, .deskewed⟩) s fun t => (t.imgSt n).brought = true ∧
      t.bit (R.IMG_STATUS n) F.IMG_STATUS_LINK_UP = true ∧
      t.bit (R.IMG_LANE_STATUS n) F.IMG_LANE_STATUS_DESKEWED = true ∧ SameMem s t := by
  refine completes_ready n rfl (laneBringupDone_eq hw n .deskewed) fun t kept same => ?_
  rw [laneBringup_deskewed mine down locked] at kept
  have scripts : LinkKept n (linkRaised s n) ((linkRaised s n).cond (!(s.imgSt n).brought) fun s => scriptBegin s n 1) :=
    State.cond_induct (p := LinkKept n (linkRaised s n)) (.refl ..) fun _ => scriptBegin_link n _ 1
  have kept := (scripts.trans (imgReady_link n _)).trans kept
  obtain ⟨brought, up, deskewed⟩ := linkRaised_shows s n
  exact ⟨(congrArg ImgSt.brought (kept.imgSt n)).trans brought, (kept.status _ (by decide)).trans up,
    (State.bit_of_reg kept.lanes _).trans deskewed, same⟩

end Stages

section Units

variable {s : State} {n : Fin 10} {lane : Fin 8} (l : List CodeUnit)

theorem laneLockLoss_eq (hw : s.working = true) :
    exec (.laneLockLoss n lane l) s = .next (readyCheck (laneTake n lane l s)) :=
  next_eq (State.whenWorking_true hw _)

/-- A lane's hidden state changes no register. -/
theorem setLane_reg (s : State) (n lane : Nat) (x : LaneSt) (a : Nat) : (s.setLane n lane x).reg a = s.reg a :=
  State.reg_setImg ..

section Counted

variable (s : State) (n : Nat) (lane : Fin 8) (l : List CodeUnit) (x : LaneSt)

/-- A lane's hidden state beside the count of invalid units. -/
def laneCounted : State := (unitsCounted s n l).setLane n lane x

theorem laneCounted_lanes : (laneCounted s n lane l x).reg (R.IMG_LANE_STATUS n) = s.reg (R.IMG_LANE_STATUS n) :=
  (setLane_reg ..).trans (lanes_unitsCounted ..)

theorem laneCounted_errors : (laneCounted s n lane l x).fld (R.IMG_LANE_ERR n) F.IMG_LANE_ERR_CODE_ERR =
    min 65535 (s.fld (R.IMG_LANE_ERR n) F.IMG_LANE_ERR_CODE_ERR + badUnits l) :=
  (State.fld_of_reg (setLane_reg ..) _).trans (unitsCounted_errors ..)

theorem laneCounted_other (f : Fld) (h : f.lo + f.width ≤ F.IMG_LANE_ERR_CODE_ERR.lo ∨
    F.IMG_LANE_ERR_CODE_ERR.lo + F.IMG_LANE_ERR_CODE_ERR.width ≤ f.lo) :
    (laneCounted s n lane l x).fld (R.IMG_LANE_ERR n) f = s.fld (R.IMG_LANE_ERR n) f :=
  (State.fld_of_reg (setLane_reg ..) _).trans (State.fld_setFld_apart _ _ F.IMG_LANE_ERR_CODE_ERR _ _ (by decide) h)

/-- The lane locks as well. -/
def laneGains : State := (laneCounted s n lane l x).setBit (R.IMG_LANE_STATUS n) ⟨8 + lane, 1⟩ true

theorem laneGains_lock : (laneGains s n lane l x).bit (R.IMG_LANE_STATUS n) ⟨8 + lane, 1⟩ = true :=
  State.bit_setBit_self _ _ _ true (by omega)

theorem laneGains_errors : (laneGains s n lane l x).fld (R.IMG_LANE_ERR n) F.IMG_LANE_ERR_CODE_ERR =
    min 65535 (s.fld (R.IMG_LANE_ERR n) F.IMG_LANE_ERR_CODE_ERR + badUnits l) := by
  refine (State.fld_of_reg (State.reg_setBit_ne _ _ _ ?_) _).trans (laneCounted_errors s n lane l x)
  simp only [R.IMG_LANE_ERR, R.IMG_LANE_STATUS]
  omega

end Counted

/-- Headers or code groups lock an adapted lane where they give the lock and do not take it again; all invalid ones count. -/
theorem laneTake_gains (mine : portTaken s n = false) (used : lane.val < laneWidth s n)
    (adapted : (s.imgSt n).adapted / 2 ^ lane.val % 2 = 1) (free : s.bit (R.IMG_LANE_STATUS n) ⟨8 + lane, 1⟩ = false) :
    let g := gainLock (enc8 s n) l (s.lane n lane)
    (laneTake n lane l s).bit (R.IMG_LANE_STATUS n) ⟨8 + lane, 1⟩ = (g.2.1 && !(loseLock (enc8 s n) g.2.2 g.1).2) ∧
    (laneTake n lane l s).fld (R.IMG_LANE_ERR n) F.IMG_LANE_ERR_CODE_ERR =
      min 65535 (s.fld (R.IMG_LANE_ERR n) F.IMG_LANE_ERR_CODE_ERR + badUnits l) := by
  intro g
  have taken : laneTake n lane l s = if g.2.1 then (laneGains s n lane l (loseLock (enc8 s n) g.2.2 g.1).1).cond
      (loseLock (enc8 s n) g.2.2 g.1).2 (laneLost n lane) else laneCounted s n lane l g.1 :=
    laneTake_unlocked mine used l free adapted
  rw [taken]
  generalize loseLock (enc8 s n) g.2.2 g.1 = y
  obtain ⟨x, down⟩ := y
  cases g.2.1
  · exact ⟨(State.bit_of_reg (laneCounted_lanes s n lane l g.1) _).trans free, laneCounted_errors s n lane l g.1⟩
  · rw [if_pos rfl]
    cases down
    · exact ⟨laneGains_lock s n lane l x, laneGains_errors s n lane l x⟩
    · obtain ⟨lock, -, units⟩ := laneLost_gone n (laneGains s n lane l x) lane
      exact ⟨lock, units.trans (laneGains_errors s n lane l x)⟩

theorem units_shows (hw : s.working = true) (mine : portTaken s n = false) (used : lane.val < laneWidth s n)
    (adapted : (s.imgSt n).adapted / 2 ^ lane.val % 2 = 1) (free : s.bit (R.IMG_LANE_STATUS n) ⟨8 + lane, 1⟩ = false) :
    Completes (.laneBringupDone ⟨n, .units lane l⟩) s fun t => SameMem s t ∧
      t.bit (R.IMG_LANE_STATUS n) ⟨8 + lane, 1⟩ = ((gainLock (enc8 s n) l (s.lane n lane)).2.1 &&
        !(loseLock (enc8 s n) (gainLock (enc8 s n) l (s.lane n lane)).2.2 (gainLock (enc8 s n) l (s.lane n lane)).1).2) ∧
      t.fld (R.IMG_LANE_ERR n) F.IMG_LANE_ERR_CODE_ERR =
        min 65535 (s.fld (R.IMG_LANE_ERR n) F.IMG_LANE_ERR_CODE_ERR + badUnits l) := by
  refine completes_ready n rfl (laneBringupDone_eq hw n (.units lane l)) fun t kept same => ?_
  obtain ⟨lock, units⟩ := laneTake_gains l mine used adapted free
  exact ⟨same, (State.bit_of_reg kept.lanes _).trans lock, (State.fld_of_reg kept.errors _).trans units⟩

section Locked

variable (hw : s.working = true) (mine : portTaken s n = false) (used : lane.val < laneWidth s n)
  (locked : s.bit (R.IMG_LANE_STATUS n) ⟨8 + lane, 1⟩ = true)

include hw mine used locked

/-- A locked lane that loses its lock takes down the link that had been brought up. -/
theorem lockLoss_shows (lost : (loseLock (enc8 s n) l (s.lane n lane)).2 = true) (brought : (s.imgSt n).brought = true) :
    Completes (.laneLockLoss n lane l) s fun t => t.bit (R.IMG_STATUS n) F.IMG_STATUS_LINK_LOST = true ∧
      t.bit (R.IMG_STATUS n) F.IMG_STATUS_LINK_UP = false ∧ t.bit (R.IMG_LANE_STATUS n) ⟨8 + lane, 1⟩ = false ∧
      t.fld (R.IMG_LANE_ERR n) F.IMG_LANE_ERR_LOCK_LOSS =
        min 65535 (s.fld (R.IMG_LANE_ERR n) F.IMG_LANE_ERR_LOCK_LOSS + 1) ∧
      t.fld (R.IMG_LANE_ERR n) F.IMG_LANE_ERR_CODE_ERR =
        min 65535 (s.fld (R.IMG_LANE_ERR n) F.IMG_LANE_ERR_CODE_ERR + badUnits l) ∧
      (s.reg (R.EVT_ROUTE (Ev.img n 0)) ≠ 0 → Ev.img n 0 ∈ t.evPend) ∧ SameMem s t := by
  refine completes_ready n rfl (laneLockLoss_eq l hw) fun t kept same => ?_
  have taken := laneTake_locked mine used l locked
  dsimp only at taken
  rw [lost, State.cond_true] at taken
  obtain ⟨x, hx⟩ : ∃ x, laneTake n lane l s = laneLost n lane (laneCounted s n lane l x) := ⟨_, taken⟩
  rw [hx] at kept
  have route : (laneCounted s n lane l x).reg (R.EVT_ROUTE (Ev.img n 0)) = s.reg (R.EVT_ROUTE (Ev.img n 0)) := by
    refine (setLane_reg ..).trans (unitsCounted_reg s l ?_)
    simp only [R.EVT_ROUTE, Ev.img, R.IMG_LANE_ERR]
    omega
  have up : ((laneCounted s n lane l x).imgSt n).brought = true := by
    unfold laneCounted State.setLane
    rw [State.imgSt_setImg_self]
    exact brought
  obtain ⟨lock, link, units⟩ := kept.laneGone (laneLost_gone n (laneCounted s n lane l x) lane)
  obtain ⟨shown, counted, told⟩ := kept.linkGone (laneLost_shows n (laneCounted s n lane l x) lane up)
  refine ⟨shown, link, lock, ?_, units.trans (laneCounted_errors ..), fun h => told (route ▸ h), same⟩
  rw [counted, laneCounted_other s n lane l x F.IMG_LANE_ERR_LOCK_LOSS (by decide)]

/-- A locked lane that keeps its lock only counts the invalid units. -/
theorem lockKept_shows (kept : (loseLock (enc8 s n) l (s.lane n lane)).2 = false) :
    Completes (.laneLockLoss n lane l) s fun t => t.reg (R.IMG_LANE_STATUS n) = s.reg (R.IMG_LANE_STATUS n) ∧
      t.bit (R.IMG_STATUS n) F.IMG_STATUS_LINK_UP = s.bit (R.IMG_STATUS n) F.IMG_STATUS_LINK_UP ∧ SameMem s t ∧
      t.fld (R.IMG_LANE_ERR n) F.IMG_LANE_ERR_CODE_ERR =
        min 65535 (s.fld (R.IMG_LANE_ERR n) F.IMG_LANE_ERR_CODE_ERR + badUnits l) := by
  refine completes_ready n rfl (laneLockLoss_eq l hw) fun t ready same => ?_
  have taken := laneTake_locked mine used l locked
  dsimp only at taken
  rw [kept, State.cond_false] at taken
  obtain ⟨x, hx⟩ : ∃ x, laneTake n lane l s = laneCounted s n lane l x := ⟨_, taken⟩
  rw [hx] at ready
  refine ⟨ready.lanes.trans (laneCounted_lanes ..), (ready.status _ (by decide)).trans ?_, same,
    (State.fld_of_reg ready.errors _).trans (laneCounted_errors ..)⟩
  refine State.bit_of_reg ((setLane_reg ..).trans (unitsCounted_reg s l ?_)) _
  simp only [R.IMG_STATUS, R.IMG_LANE_ERR]
  omega

end Locked

end Units

section Packets

variable {s : State} {n : Fin 10} (hw : s.working = true)

include hw

theorem rxReadapt_exec (b : Bool) : exec (.rxReadapt n b) s = .next (rxReadapt n b s) :=
  next_eq (State.whenWorking_true hw _)

theorem readapt_shows (b : Bool) (up : s.bit (R.IMG_STATUS n) F.IMG_STATUS_LINK_UP = true) :
    Completes (.rxReadapt n b) s fun t => t.bit (R.IMG_LANE_STATUS n) F.IMG_LANE_STATUS_ADAPT_RUNNING = b ∧
      SameRegs s t (fun r => r = R.IMG_LANE_STATUS n) ∧ SameMem s t ∧
      t.now = if b then max s.now ((s.imgSt n).adaptAt + readaptInterval s) else s.now := by
  have e := rxReadapt_exec (n := n) hw b
  rw [rxReadapt_up b up] at e
  obtain ⟨shown, regs, now⟩ := readapted_shows s n b
  exact ⟨_, e, shown, regs, sameMem_of_exec rfl e, now⟩

theorem linePacket_exec (lanes : List (List LaneSym)) :
    exec (.linePacket n lanes [] {} false) s = .next (linePacket n false lanes s) := next_eq (State.whenWorking_true hw _)

theorem linePacket_exec_bad (lanes : List (List LaneSym)) {ram : RamRead} (bad : ram.ecc = .bad) :
    exec (.linePacket n lanes [] ram false) s =
      .next (linePacket n true lanes (eccBad false (unitAddr (0x50 + n) ram.off.toNat) s)) := by
  refine (next_eq (State.whenWorking_true hw _)).trans ?_
  rw [bad]
  rfl

end Packets

/-- An uncorrectable error of the port's SRAM changes no register of the imaging ports. -/
theorem eccBad_port (s : State) (dram : Bool) (addr : Nat) {a : Nat} (low : 0x5001000000 ≤ a) (high : a < 0x5001A00000) :
    (eccBad dram addr s).reg a = s.reg a := by
  refine (eccBad_regs dram addr s a ?_).1
  simp only [EccReg, R.MEM_UE_ADDR_LO, R.MEM_ECC_DRAM, R.MEM_ECC_SRAM, R.EVT_LOST]
  omega

/-- What says how a port reads its lanes. -/
structure FrameKept (n : Nat) (s t : State) : Prop where
  status : t.reg (R.IMG_STATUS n) = s.reg (R.IMG_STATUS n)
  lanes : t.reg (R.IMG_LANE_CFG n) = s.reg (R.IMG_LANE_CFG n)
  sync : t.reg (R.IMG_SYNC n) = s.reg (R.IMG_SYNC n)
  frame : t.reg (R.IMG_FRAME_CFG n) = s.reg (R.IMG_FRAME_CFG n)
  geom : t.reg (R.IMG_GEOM n) = s.reg (R.IMG_GEOM n)

theorem eccBad_frame (s : State) (n : Fin 10) (dram : Bool) (addr : Nat) : FrameKept n s (eccBad dram addr s) := by
  refine ⟨eccBad_port s dram addr ?_ ?_, eccBad_port s dram addr ?_ ?_, eccBad_port s dram addr ?_ ?_,
    eccBad_port s dram addr ?_ ?_, eccBad_port s dram addr ?_ ?_⟩ <;>
  simp only [R.IMG_STATUS, R.IMG_LANE_CFG, R.IMG_SYNC, R.IMG_FRAME_CFG, R.IMG_GEOM] <;> omega

section Frame

variable {n : Nat} {s t : State} (h : FrameKept n s t)

include h

theorem FrameKept.laneWidth : laneWidth t n = laneWidth s n := congrArg (2 ^ ·) (State.fld_of_reg h.lanes _)

theorem FrameKept.syncWord : syncWord t n = syncWord s n := by
  unfold Machine.syncWord enc8
  rw [h.sync, State.bit_of_reg h.lanes, State.fld_of_reg h.frame]

theorem FrameKept.packetLen : packetLen t n = packetLen s n := by
  unfold Machine.packetLen imgPixels
  simp only [State.fld_of_reg h.frame, State.fld_of_reg h.geom]

end Frame

section Packet

variable {s : State} {n : Fin 10} (hw : s.working = true) (up : s.bit (R.IMG_STATUS n) F.IMG_STATUS_LINK_UP = true)
  {shares : List (List Byte)} (lanes : shares.length = laneWidth s n)
  (h : ∀ i, i < laneWidth s n →
    (shares.getD i []).length = (packetLen s n + laneWidth s n - 1 - i) / laneWidth s n ∧
    laneShare (syncWord s n) ((packetLen s n + laneWidth s n - 1 - i) / laneWidth s n) ((shares.getD i []).map .data) =
      some (shares.getD i []))

include hw up lanes h

theorem packet_exec : exec (.linePacket n (shares.map fun b => syncWord s n ++ b.map .data) [] {} false) s =
    .next (packetBytes n false (destripe shares (laneWidth s n) (packetLen s n)) s) := by
  rw [linePacket_exec hw, linePacket_packet false up lanes h]

/-- The SRAM's error does not change which packet is read. -/
theorem packet_exec_bad {ram : RamRead} (bad : ram.ecc = .bad) :
    exec (.linePacket n (shares.map fun b => syncWord s n ++ b.map .data) [] ram false) s =
      .next (packetBytes n true (destripe shares (laneWidth s n) (packetLen s n))
        (eccBad false (unitAddr (0x50 + n) ram.off.toNat) s)) := by
  have kept := eccBad_frame s n false (unitAddr (0x50 + n) ram.off.toNat)
  rw [linePacket_exec_bad hw _ bad]
  generalize eccBad false (unitAddr (0x50 + n) ram.off.toNat) s = u at kept ⊢
  rw [← State.bit_of_reg kept.status] at up
  rw [← kept.laneWidth] at lanes
  rw [← kept.laneWidth, ← kept.syncWord, ← kept.packetLen] at h
  rw [← kept.laneWidth, ← kept.syncWord, ← kept.packetLen, linePacket_packet true up lanes h]

end Packet

/-- LINE_DATA_TIMEOUT takes the line that is due first off the outstanding lines. -/
theorem lineDataTimeout_shows {s : State} {n : Fin 10} (hw : s.working = true) {l : Awaited} (lost : Bool)
    (due : firstDue (s.imgSt n).awaited = some l) : Completes (.lineDataTimeout n lost) s fun t =>
      t.bit (R.IMG_STATUS n) F.IMG_STATUS_DATA_TIMEOUT = true ∧
      (t.imgSt n).awaited = (s.imgSt n).awaited.filter (fun b => b.serial != l.serial) ∧ l.deadline ≤ t.now ∧
      SameMem s t := by
  have e : exec (.lineDataTimeout n lost) s = .next (dataTimeout n (s.lost lost (R.IMG_RACE n))) :=
    next_eq (State.whenWorking_true hw _)
  rw [← lost_imgSt s lost (R.IMG_RACE n)] at due ⊢
  obtain ⟨shown, awaited, time⟩ := dataTimeout_shows due
  exact ⟨_, e, shown, awaited, time, sameMem_of_exec rfl e⟩

/-- Settles O9, by an equation for each command of a link and what its next state shows. -/
theorem captureLink : Obligations.CaptureLink := by
  unfold Obligations.CaptureLink
  intro s n hw a w x link count told stages loses adapts sync fc hl total passes packets timesOut
  refine ⟨fun mine => ⟨fun i used => ⟨cdrLock_shows hw mine used, adapted_shows hw mine used,
    fun adapted free l => units_shows l hw mine used adapted free⟩, deskewed_shows hw mine⟩,
    fun mine lane l used locked => ⟨lockLoss_shows l hw mine used locked, lockKept_shows l hw mine used locked⟩,
    fun b => ⟨fun down => ?_, readapt_shows hw b⟩, ⟨fun lanes down => ?_, fun up several => ?_⟩,
    fun up shares lanes whole => ?_, fun l lost => lineDataTimeout_shows hw lost⟩
  · rw [rxReadapt_exec hw, rxReadapt_down b down]
  · rw [linePacket_exec hw, linePacket_down false lanes down]
  · rw [linePacket_exec hw, linePacket_skew false up several]
    rfl
  · intro row p c seq
    have e : exec row s = .next (packetBytes n false p s) := packet_exec hw up lanes whole
    refine ⟨e, fun off => packet_exec_bad hw up lanes whole rfl, fun colour unmatched => ?_,
      fun l colour matched empty more => ⟨_, e, packetBytes_slot p colour matched empty more⟩⟩
    have e := e.trans (congrArg Host.Outcome.next (packetBytes_unmatched false p colour unmatched))
    refine ⟨_, e, State.bit_flagEvent _ _ rfl (by decide) ?_,
      (congrArg State.imgs (State.flagEvent_bookkeeps s (R.IMG_STATUS n) F.IMG_STATUS_SEQ_ERR (Ev.img n 5))).trans rfl,
      sameMem_of_exec rfl e⟩
    simp only [R.IMG_STATUS, R.EVT_LOST]
    omega

end Sys2Proof.Machine

/-!
The proofs of the family 06_illumination: frames, boundaries, windows, settings and faults of the lamp chains.
-/

namespace Sys2Proof.Machine

/-! ### What the hardware of a lamp chain touches -/

/-- The registers of chain n and of what its BLK can trigger (09 R299), but for LCn_CFG and LCn_FRAMES. -/
def ChainWrites (n a : Nat) : Prop :=
  (0x5000b00000 + 0x1000 * n ≤ a ∧ a < 0x5000b01000 + 0x1000 * n ∨ InBlock 10 a) ∧ a ≠ R.LC_CFG n ∧ a ≠ R.LC_FRAMES n

/-- The registers that show the groups of chain n, and the count of merged events. -/
def GroupWrites (n a : Nat) : Prop := (∃ g < 8, a = R.LCG_STATE n g) ∨ a = R.EVT_LOST

theorem GroupWrites.chain {n a : Nat} (h : GroupWrites n a) : ChainWrites n a := by
  rcases h with ⟨g, hg, rfl⟩ | rfl
  · simp only [ChainWrites, R.LCG_STATE, R.LC_CFG, R.LC_FRAMES]
    omega
  · refine ⟨.inr (.inr rfl), ?_⟩
    simp only [R.EVT_LOST, R.LC_CFG, R.LC_FRAMES]
    omega

theorem chainWrites_state (n : Nat) : ChainWrites n (R.LC_STATE n) := by
  simp only [ChainWrites, R.LC_STATE, R.LC_CFG, R.LC_FRAMES]
  omega

theorem chainWrites_lost (n : Nat) : ChainWrites n R.EVT_LOST := GroupWrites.chain (.inr rfl)

theorem chainWrites_block {n a : Nat} (h : InBlock 10 a) : ChainWrites n a := by
  simp only [ChainWrites, InBlock, R.EVT_LOST, R.LC_CFG, R.LC_FRAMES] at h ⊢
  omega

theorem lampUnit_apart (n : Nat) : (lampUnit n).Apart := by
  refine ⟨rfl, show 1 < 32 by decide, fun h => ?_, fun lo e => ?_⟩
  · simp only [lampUnit, R.LC_CTRL, R.LC_PERIOD, R.LC_STROBE, R.LCG_LEVEL, R.LCG_CFG, List.mem_append, List.mem_flatMap,
      List.mem_cons, List.not_mem_nil, or_false] at h
    omega
  · cases e
    simp only [lampUnit, R.LC_CTRL, R.LC_COMMIT_TAKEN_LO]
    omega

theorem lampUnit_within (n : Nat) : (lampUnit n).Within (ChainWrites n) := by
  intro a h
  simp only [CommitUnit.places, lampUnit, Option.elim, R.LC_CTRL, R.LC_PERIOD, R.LC_STROBE, R.LCG_LEVEL, R.LCG_CFG,
    R.LC_COMMIT_TAKEN_LO, List.mem_append, List.mem_flatMap, List.mem_range, List.mem_cons, List.not_mem_nil,
    or_false] at h
  simp only [ChainWrites, R.LC_CFG, R.LC_FRAMES]
  rcases h with rfl | (((rfl | rfl) | ⟨g, hg, rfl | rfl⟩) | rfl | rfl) <;> omega

/-- Chains write no register of each other that says whether they light and what they have latched. -/
theorem chainWrites_apart {n k : Nat} (h : k ≠ n) : ¬ ChainWrites n (R.LC_CFG k) ∧ ¬ ChainWrites n (R.LC_FRAMES k) ∧
    R.LC_FRAMES n ≠ R.LC_CFG k ∧ R.LC_FRAMES n ≠ R.LC_FRAMES k := by
  simp only [ChainWrites, InBlock, R.EVT_LOST, R.LC_CFG, R.LC_FRAMES]
  omega

/-- What the hardware of chain n does: it writes registers, raises events, sends frames and pulses, triggers measurements,
lets time pass; of the chains' hidden states it changes its own alone. -/
structure ChainActs (n : Nat) (s t : State) : Prop where
  rest : t = { s with regs := t.regs, act := t.act, evPend := t.evPend, out := t.out, prec := t.prec, lamps := t.lamps,
                      tm := t.tm }
  regs : SameRegs s t (ChainWrites n)
  others : ∀ k, k ≠ n → t.lamp k = s.lamp k

theorem ChainActs.refl (n : Nat) (s : State) : ChainActs n s s := ⟨rfl, .refl s _, fun _ _ => rfl⟩

section Acts

variable {n : Nat} {s t u : State}

theorem ChainActs.trans (h : ChainActs n s t) (k : ChainActs n t u) : ChainActs n s u := by
  refine ⟨?_, h.regs.trans k.regs, fun j hj => (k.others j hj).trans (h.others j hj)⟩
  rw [k.rest, h.rest]

theorem ChainActs.windows (h : ChainActs n s t) : t.windows = s.windows := (congrArg State.windows h.rest).trans rfl

theorem ChainActs.engine (h : ChainActs n s t) (k : Nat) : t.engine k = s.engine k :=
  (congrArg (fun u : State => u.engine k) h.rest).trans rfl

theorem ChainActs.scripting (h : ChainActs n s t) (k : Nat) : lampScripting t k = lampScripting s k :=
  congrArg Engine.running (h.engine _)

theorem ChainActs.cfg (h : ChainActs n s t) (k : Nat) : t.reg (R.LC_CFG k) = s.reg (R.LC_CFG k) := by
  refine (h.regs _ fun c => ?_).1
  by_cases hk : k = n
  · exact c.2.1 (hk ▸ rfl)
  · exact (chainWrites_apart hk).1 c

theorem ChainActs.frames (h : ChainActs n s t) (k : Nat) : t.reg (R.LC_FRAMES k) = s.reg (R.LC_FRAMES k) := by
  refine (h.regs _ fun c => ?_).1
  by_cases hk : k = n
  · exact c.2.2 (hk ▸ rfl)
  · exact (chainWrites_apart hk).2.1 c

/-- A change outside the registers and the chains. -/
theorem ChainActs.of_rest (rest : t = { s with evPend := t.evPend, out := t.out, prec := t.prec, tm := t.tm }) :
    ChainActs n s t := by
  rw [rest]
  exact ⟨rfl, .of_eq rfl rfl, fun _ _ => rfl⟩

theorem ChainActs.setLamp (h : ChainActs n s t) (x : LampSt) : ChainActs n s (t.setLamp n x) :=
  h.trans ⟨rfl, .of_eq rfl rfl, fun k hk => (t.lamp_setLamp n k x).trans (if_neg hk)⟩

theorem ChainActs.setFld (h : ChainActs n s t) {a : Nat} (f : Fld) (v : Nat) (ha : ChainWrites n a) :
    ChainActs n s (t.setFld a f v) := h.trans ⟨rfl, (SameRegs.refl t _).setFld ha, fun _ _ => rfl⟩

theorem ChainActs.setBit (h : ChainActs n s t) {a : Nat} (f : Fld) (v : Bool) (ha : ChainWrites n a) :
    ChainActs n s (t.setBit a f v) := h.setFld f _ ha

theorem State.lamp_of_lamps (h : t.lamps = s.lamps) (n : Nat) : t.lamp n = s.lamp n :=
  congrArg (Sparse.get (fun _ => ({} : LampSt)) · n) h

theorem ChainActs.setReg64 (h : ChainActs n s t) {a : Nat} (v : Nat) (low : ChainWrites n a) (high : ChainWrites n (a + 4)) :
    ChainActs n s (t.setReg64 a v) := h.trans ⟨rfl, (SameRegs.refl t _).setReg64 low high, fun _ _ => rfl⟩

theorem ChainActs.of_regs (rest : t = { s with regs := t.regs, evPend := t.evPend }) (regs : SameRegs s t (ChainWrites n)) :
    ChainActs n s t := by
  have lamps : t.lamps = s.lamps := (congrArg State.lamps rest).trans rfl
  refine ⟨?_, regs, fun k _ => State.lamp_of_lamps lamps k⟩
  rw [rest]

theorem ChainActs.raise (h : ChainActs n s t) (e : Nat) : ChainActs n s (t.raise e) :=
  h.trans (.of_regs (t.raise_eq e) ((SameRegs.refl t _).raise (chainWrites_lost n)))

theorem ChainActs.flagEvent (h : ChainActs n s t) {a : Nat} (f : Fld) (e : Nat) (ha : ChainWrites n a) :
    ChainActs n s (t.flagEvent a f e) := by
  unfold State.flagEvent
  split
  · exact h
  · exact (h.setBit f true ha).raise e

theorem ChainActs.foldl {f : State → Nat → State} {l : List Nat} (h : ChainActs n s t)
    (hf : ∀ u, ∀ k ∈ l, ChainActs n u (f u k)) : ChainActs n s (l.foldl f t) := by
  induction l generalizing t with
  | nil => exact h
  | cons k l ih =>
    exact ih (h.trans (hf t k List.mem_cons_self)) fun u j hj => hf u j (List.mem_cons_of_mem _ hj)

theorem takeShadows_acts (l : List Nat) (h : ∀ a ∈ l, ChainWrites n a) (s : State) : ChainActs n s (s.takeShadows l) := by
  induction l generalizing s with
  | nil => exact .refl n s
  | cons a l ih =>
    have first : ChainActs n s (s.setInForce a (s.reg a)) :=
      ⟨rfl, (SameRegs.refl s _).setInForce (h a List.mem_cons_self), fun _ _ => rfl⟩
    exact first.trans (ih (fun b hb => h b (List.mem_cons_of_mem _ hb)) _)

theorem lampUnit_take_acts (n : Nat) (s : State) : ChainActs n s ((lampUnit n).take s) := by
  have within := lampUnit_within n
  by_cases waits : (lampUnit n).waits s = true
  · obtain ⟨low, high⟩ := within.taken _ rfl
    rw [CommitUnit.take_some waits rfl]
    exact ((takeShadows_acts _ within.regs s).setBit _ false within.ctrl).setReg64 _ low high
  · rw [show (lampUnit n).take s = s from if_neg waits]
    exact .refl n s

/-! ### BLK, scripts, frames -/

theorem precTrigger_acts (src index : Nat) (s : State) : ChainActs n s (precTrigger src index s) := by
  refine (ChainActs.refl n s).foldl fun u k hk => ?_
  obtain ⟨status, ctrl⟩ := inBlock_meas (List.mem_range.mp hk)
  split
  · unfold measTrigger
    extract_lets m d
    split_ifs
    · exact .refl n u
    · exact (((ChainActs.refl n u).setBit F.M_STATUS_OVERRUN true (chainWrites_block status)).setFld _ _
        (chainWrites_block status)).raise _
    · have delayed : ChainActs n u (u.setMeas k { u.meas k with delay := some (u.now + d) }) := .of_rest rfl
      exact delayed.setBit _ _ (chainWrites_block ctrl)
  · exact .refl n u

/-- It changes no chain: neither the one that triggered it nor any other. -/
theorem precTrigger_lamp (src index : Nat) (s : State) (k : Nat) : (precTrigger src index s).lamp k = s.lamp k :=
  (precTrigger_acts (n := k + 1) src index s).others k (by omega)

theorem blkAssert_acts (n : Nat) (s : State) : ChainActs n s (blkAssert s n) := by
  unfold blkAssert
  split
  · exact .refl n s
  · exact ((ChainActs.refl n s).setLamp _).trans (precTrigger_acts ..)

theorem blkAssert_lamp (n : Nat) (s : State) : (blkAssert s n).lamp n = { s.lamp n with blk := true } := by
  unfold blkAssert
  split
  · next h => rw [← h]
  · rw [precTrigger_lamp, State.lamp_setLamp_self]

theorem blkRelease_acts (n : Nat) (s : State) : ChainActs n s (blkRelease s n) := by
  unfold blkRelease
  split
  · exact ((ChainActs.refl n s).setLamp _).trans (precTrigger_acts ..)
  · exact .refl n s

theorem blkRelease_lamp (n : Nat) (s : State) : (blkRelease s n).lamp n = { s.lamp n with blk := false } := by
  unfold blkRelease
  split
  · rw [precTrigger_lamp, State.lamp_setLamp_self]
  · next h => rw [← Bool.eq_false_iff.mpr h]

theorem scriptTakes_acts (n : Nat) (s : State) : ChainActs n s (scriptTakes s n) := by
  unfold scriptTakes
  split
  · exact ((ChainActs.refl n s).setLamp _).trans (blkAssert_acts ..)
  · exact .refl n s

theorem scriptTakes_idle {n : Nat} {s : State} (h : lampScripting s n = false) : scriptTakes s n = s :=
  if_neg (by simp [h])

/-- A script that works holds BLK, or leaves the chain as it is. -/
theorem scriptTakes_lamp (n : Nat) (s : State) : (scriptTakes s n).lamp n = s.lamp n ∨
    (scriptTakes s n).lamp n = { s.lamp n with scriptBlk := true, blk := true } := by
  unfold scriptTakes
  split
  · right
    rw [blkAssert_lamp, State.lamp_setLamp_self]
  · exact .inl rfl

theorem frameStart_acts (n : Nat) (s : State) : ChainActs n s (frameStart s n) := by
  unfold frameStart
  extract_lets x e rows row carries all per ws f
  split
  · exact .refl n s
  · have flagged := ((ChainActs.refl n s).setLamp { x with frame := some f }).setBit F.LC_STATE_SHIFTING true
      (chainWrites_state n)
    exact flagged.trans (.of_rest rfl)

/-- A frame that starts has not shifted. -/
theorem frameStart_lamp (n : Nat) (s : State) : (frameStart s n).lamp n = s.lamp n ∨
    ∃ f : LampFrame, f.shifted = false ∧ (frameStart s n).lamp n = { s.lamp n with frame := some f } := by
  unfold frameStart
  extract_lets x e rows row carries all per ws f
  split
  · exact .inl rfl
  · exact .inr ⟨f, rfl, State.lamp_setLamp_self s n _⟩

theorem groupsShow_regs (n : Nat) (s : State) : SameRegs s (groupsShow s n) (GroupWrites n) := by
  refine (SameRegs.refl s _).foldl fun u h g hg => ?_
  split
  · exact h
  · exact h.setFld (.inl ⟨g, List.mem_range.mp hg, rfl⟩)

theorem groupsShow_acts (n : Nat) (s : State) : ChainActs n s (groupsShow s n) := by
  refine (ChainActs.refl n s).foldl fun u g hg => ?_
  split
  · exact .refl n u
  · exact (ChainActs.refl n u).setFld _ _ (GroupWrites.chain (.inl ⟨g, List.mem_range.mp hg, rfl⟩))

theorem groupsShow_lamps (n : Nat) (s : State) : (groupsShow s n).lamps = s.lamps := by
  unfold groupsShow
  generalize List.range 8 = l
  induction l generalizing s with
  | nil => rfl
  | cons g l ih =>
    refine (ih _).trans ?_
    dsimp only
    split <;> rfl

end Acts

/-! ### Boundaries (06 R199 to R201, R206) -/

theorem takeShadows_lamps (l : List Nat) (s : State) : (s.takeShadows l).lamps = s.lamps := by
  induction l generalizing s with
  | nil => rfl
  | cons a l ih => exact ih _

theorem CommitUnit.take_lamps (u : CommitUnit) (s : State) : (u.take s).lamps = s.lamps := by
  unfold CommitUnit.take
  split
  · split <;> exact takeShadows_lamps ..
  · rfl

/-- A chain once frame f has latched. -/
def LampSt.latch (x : LampSt) (f : LampFrame) (now : Nat) : LampSt :=
  { x with
    frame := none, latched := some f, words := if f.commits then x.next.getD [] else x.words,
    next := if f.commits then none else x.next,
    computing := if f.commits then x.computing.bind (fun c => c.2.map (fun w => (w, none))) else x.computing,
    scriptBlk := x.scriptBlk && !f.relatch, scriptOpen := x.scriptOpen && !f.relatch,
    endedC := if f.relatch && x.scriptOpen then some now else x.endedC }

/-- Frame f latches: the pulse on LCn_LAT, and FRAMES. -/
def frameLatched (n : Nat) (f : LampFrame) (s : State) : State :=
  ((s.setLamp n ((s.lamp n).latch f s.now)).emit (.pulse .lampLatch n (s.now + 20) 100 false)).wrapInc
    (R.LC_FRAMES n) F.LC_FRAMES_FRAMES

/-- The set that a latched frame carries is taken. -/
def carriedTaken (n : Nat) (f : LampFrame) (s : State) : State :=
  s.cond f.commits fun s => groupsShow (((lampUnit n).take s).raise (Ev.lamp n 6)) n

theorem carriedTaken_acts (n : Nat) (f : LampFrame) (s : State) : ChainActs n s (carriedTaken n f s) :=
  State.cond_induct (p := ChainActs n s) (.refl n s) fun _ => ((lampUnit_take_acts n s).raise _).trans (groupsShow_acts ..)

theorem carriedTaken_lamp (n : Nat) (f : LampFrame) (s : State) : (carriedTaken n f s).lamp n = s.lamp n := by
  refine State.cond_induct (p := fun t => t.lamp n = s.lamp n) rfl fun _ => State.lamp_of_lamps ?_ n
  rw [groupsShow_lamps, State.raise_lamps, CommitUnit.take_lamps]

section Boundaries

variable {n : Nat} {s t u v : State}

theorem lampLatch_idle (h : ∀ f, (s.lamp n).frame = some f → f.shifted = false) : lampLatch s n = s := by
  unfold lampLatch
  extract_lets x
  split
  · rfl
  · next f hf =>
    rw [h f hf]
    rfl

theorem lampLatch_shifted {f : LampFrame} (frame : (s.lamp n).frame = some f) (shifted : f.shifted = true) :
    lampLatch s n = frameStart (scriptTakes (carriedTaken n f (frameLatched n f s)) n) n := by
  unfold lampLatch
  simp only [frame, shifted, Bool.not_true, Bool.false_eq_true, if_false]
  rfl

/-- A shifted frame of chain n has latched, and is counted. -/
def Latches (n : Nat) (s t : State) : Prop := ∀ f, (s.lamp n).frame = some f → f.shifted = true →
  (t.lamp n).latched = some f ∧
    t.fld (R.LC_FRAMES n) F.LC_FRAMES_FRAMES = (s.fld (R.LC_FRAMES n) F.LC_FRAMES_FRAMES + 1) % 2 ^ 32

/-- What a boundary of chain n gives, whether or not a frame has shifted. -/
structure Boundary (n : Nat) (s t : State) : Prop where
  latches : Latches n s t
  row : (t.lamp n).row = (s.lamp n).row
  rowOn : (t.lamp n).rowOn = (s.lamp n).rowOn
  dark : (s.lamp n).blk = true → (t.lamp n).blk = true
  free : lampScripting s n = false → (s.lamp n).scriptBlk = false → (t.lamp n).scriptBlk = false
  cfg : ∀ k, t.reg (R.LC_CFG k) = s.reg (R.LC_CFG k)
  others : ∀ k, k ≠ n → t.lamp k = s.lamp k ∧ t.reg (R.LC_FRAMES k) = s.reg (R.LC_FRAMES k)
  windows : t.windows = s.windows
  now : t.now = s.now

theorem frameLatched_lamp (n : Nat) (f : LampFrame) (s : State) :
    (frameLatched n f s).lamp n = (s.lamp n).latch f s.now := State.lamp_setLamp_self s n _

theorem frameLatched_frames (n : Nat) (f : LampFrame) (s : State) :
    (frameLatched n f s).fld (R.LC_FRAMES n) F.LC_FRAMES_FRAMES =
      (s.fld (R.LC_FRAMES n) F.LC_FRAMES_FRAMES + 1) % 2 ^ 32 :=
  State.fld_setFld_self _ _ F.LC_FRAMES_FRAMES _ (by decide)

theorem frameLatched_regs (n : Nat) (f : LampFrame) (s : State) {a : Nat} (h : a ≠ R.LC_FRAMES n) :
    (frameLatched n f s).reg a = s.reg a := State.reg_wrapInc_ne _ _ _ h

theorem lampLatch_now (s : State) (n : Nat) : (lampLatch s n).now = s.now :=
  congrArg (fun x : RunFacts => x.tm.now) (lampLatch_facts s n)

/-- What follows a latched frame keeps it latched, and changes neither the row nor BLK but for a script that takes it. -/
theorem latched_follow (f : LampFrame) (s : State) :
    let t := frameStart (scriptTakes (carriedTaken n f s) n) n
    ChainActs n s t ∧ (t.lamp n).latched = (s.lamp n).latched ∧ (t.lamp n).row = (s.lamp n).row ∧
      (t.lamp n).rowOn = (s.lamp n).rowOn ∧ ((s.lamp n).blk = true → (t.lamp n).blk = true) ∧
      (lampScripting s n = false → (t.lamp n).scriptBlk = (s.lamp n).scriptBlk) := by
  intro t
  have carried := carriedTaken_acts n f s
  refine ⟨(carried.trans (scriptTakes_acts ..)).trans (frameStart_acts ..), ?_⟩
  have started : ∃ x, t.lamp n = { (scriptTakes (carriedTaken n f s) n).lamp n with frame := x } := by
    rcases frameStart_lamp n (scriptTakes (carriedTaken n f s) n) with h | ⟨g, -, h⟩
    · exact ⟨_, h⟩
    · exact ⟨_, h⟩
  obtain ⟨x, hx⟩ := started
  rw [hx]
  have idle (h : lampScripting s n = false) : (scriptTakes (carriedTaken n f s) n).lamp n = s.lamp n := by
    rw [scriptTakes_idle ((carried.scripting n).trans h), carriedTaken_lamp]
  refine ⟨?_, ?_, ?_, ?_, fun h => by rw [idle h]⟩ <;>
  rcases scriptTakes_lamp n (carriedTaken n f s) with h | h <;> simp [h, carriedTaken_lamp]

theorem lampLatch_boundary (n : Nat) (s : State) : Boundary n s (lampLatch s n) := by
  by_cases h : ∀ f, (s.lamp n).frame = some f → f.shifted = false
  · rw [lampLatch_idle h]
    exact ⟨fun f hf hs => absurd hs (by rw [h f hf]; decide), rfl, rfl, id, fun _ h => h, fun _ => rfl,
      fun _ _ => ⟨rfl, rfl⟩, rfl, rfl⟩
  · obtain ⟨f, frame, shifted⟩ : ∃ f, (s.lamp n).frame = some f ∧ f.shifted = true := by simpa using h
    have now := lampLatch_now s n
    rw [lampLatch_shifted frame shifted] at now ⊢
    obtain ⟨acts, latched, row, rowOn, dark, free⟩ := latched_follow (n := n) f (frameLatched n f s)
    have lamp := frameLatched_lamp n f s
    rw [lamp] at latched row rowOn dark free
    refine ⟨fun g hg _ => ?_, row, rowOn, dark, fun idle still => ?_, fun k => ?_, fun k hk => ⟨?_, ?_⟩, acts.windows, now⟩
    · cases frame.symm.trans hg
      exact ⟨latched, (State.fld_of_reg (acts.frames n) _).trans (frameLatched_frames n f s)⟩
    · rw [free idle]
      simp [LampSt.latch, still]
    · refine (acts.cfg k).trans (frameLatched_regs n f s ?_)
      simp only [R.LC_CFG, R.LC_FRAMES]
      omega
    · exact (acts.others k hk).trans ((State.lamp_setLamp s n k _).trans (if_neg hk))
    · refine (acts.frames k).trans (frameLatched_regs n f s ?_)
      simp only [R.LC_FRAMES]
      omega

/-- A boundary between steps that keep the frame and what has latched. -/
theorem Boundary.latches_within (b : Boundary n u v) (frame : (u.lamp n).frame = (s.lamp n).frame)
    (before : u.reg (R.LC_FRAMES n) = s.reg (R.LC_FRAMES n)) (latched : (t.lamp n).latched = (v.lamp n).latched)
    (after : t.reg (R.LC_FRAMES n) = v.reg (R.LC_FRAMES n)) : Latches n s t := by
  intro f hf hs
  obtain ⟨shown, counted⟩ := b.latches f (frame.trans hf) hs
  refine ⟨latched.trans shown, (State.fld_of_reg after _).trans (counted.trans ?_)⟩
  rw [State.fld_of_reg before]

theorem reach_acts (n : Nat) (s : State) (t : Nat) : ChainActs n s (s.reach t) := .of_rest rfl

theorem reach_lamp (s : State) (t k : Nat) : (s.reach t).lamp k = s.lamp k := rfl

theorem reach_later (s : State) (d : Nat) : (s.reach (s.now + d)).now = s.now + d :=
  Nat.max_eq_right (Nat.le_add_right _ _)

theorem blkAssert_now (s : State) (n : Nat) : (blkAssert s n).now = s.now :=
  congrArg (fun x : RunFacts => x.tm.now) (blkAssert_facts s n)

theorem blkRelease_now (s : State) (n : Nat) : (blkRelease s n).now = s.now := by
  unfold blkRelease
  split
  · exact congrArg (fun x : RunFacts => x.tm.now) (precTrigger_facts ..)
  · rfl

/-- A latch with BLK asserted, and BLK released d ns later. -/
def latchBlanked (n d : Nat) (s : State) : State :=
  blkEnd ((lampLatch s n).reach ((lampLatch s n).now + d)) n

theorem latchBlanked_shows (d : Nat) (idle : lampScripting u n = false) (still : (u.lamp n).scriptBlk = false)
    (before : ChainActs n s u) (frame : (u.lamp n).frame = (s.lamp n).frame) :
    let t := latchBlanked n d u
    (t.lamp n).blk = false ∧ t.now = u.now + d ∧ Latches n s t ∧ (t.lamp n).row = (u.lamp n).row ∧
      (t.lamp n).rowOn = (u.lamp n).rowOn := by
  intro t
  have b := lampLatch_boundary n u
  have released : t = blkRelease ((lampLatch u n).reach ((lampLatch u n).now + d)) n :=
    if_neg (by rw [reach_lamp, b.free idle still]; decide)
  have lamp := blkRelease_lamp n ((lampLatch u n).reach ((lampLatch u n).now + d))
  rw [← released, reach_lamp] at lamp
  have after : ChainActs n (lampLatch u n) t := released ▸ (reach_acts ..).trans (blkRelease_acts ..)
  refine ⟨by rw [lamp], ?_, b.latches_within frame (before.frames n) (by rw [lamp]) (after.frames n), ?_, ?_⟩
  · rw [released, blkRelease_now, reach_later, b.now]
  · rw [lamp]
    exact b.row
  · rw [lamp]
    exact b.rowOn

theorem blankDue_acts (n step : Nat) (s : State) : ChainActs n s (blankDue s n step) := (reach_acts ..).setLamp _

theorem blankDue_now (n step : Nat) (s : State) :
    (blankDue s n step).now = max s.now (((s.lamp n).blkAt.map (· + step)).getD s.now) := rfl

theorem blankDue_lamp (n step : Nat) (s : State) : (blankDue s n step).lamp n =
    { s.lamp n with blkAt := some (max s.now (((s.lamp n).blkAt.map (· + step)).getD s.now)) } :=
  State.lamp_setLamp_self ..

theorem lampRuns_free (h : lampRuns s n = true) : (s.lamp n).scriptBlk = false := by
  simp only [lampRuns, Bool.and_eq_true, Bool.not_eq_true'] at h
  exact h.2

/-- LAMP_BLANK_PERIOD of a continuous chain that lights. -/
theorem blankPeriod_eq (mode : lampMode s n = 0) (runs : lampRuns s n = true) :
    blankPeriod n s = latchBlanked n 200 (blkAssert (blankDue s n (lampPeriod s n)) n) := by
  unfold blankPeriod
  rw [if_neg (by simp [mode, runs])]
  rfl

/-- A matrix row slot's state when its row's frame latches. -/
def rowDriven (n : Nat) (f : LampFrame) (blank : Nat) (s : State) : State :=
  let u := blkAssert (blankDue s n (lampPeriod s n / lampRows s n)) n
  let v := u.reach (u.now + blank / 2)
  v.setLamp n { v.lamp n with row := f.row, rowOn := true }

theorem matrixSlot_eq {f : LampFrame} (mode : lampMode s n = 2) (runs : lampRuns s n = true)
    (frame : (s.lamp n).frame = some f) (shifted : f.shifted = true) :
    let blank := 10 * min 2000 (max 20 (s.fld (R.LC_MATRIX n) F.LC_MATRIX_ROW_BLANK))
    matrixSlot n s = latchBlanked n (blank - blank / 2) (rowDriven n f blank s) := by
  intro blank
  unfold matrixSlot
  simp only [frame]
  rw [if_neg (by simp [mode, runs, shifted])]
  rfl

theorem blankPeriod_shows (mode : lampMode s n = 0) (runs : lampRuns s n = true) (idle : lampScripting s n = false) :
    ((blankPeriod n s).lamp n).blk = false ∧
      (blankPeriod n s).now = max s.now (((s.lamp n).blkAt.map (· + lampPeriod s n)).getD s.now) + 200 ∧
      Latches n s (blankPeriod n s) := by
  rw [blankPeriod_eq mode runs]
  have before : ChainActs n s (blkAssert (blankDue s n (lampPeriod s n)) n) :=
    (blankDue_acts ..).trans (blkAssert_acts ..)
  have lamp := blkAssert_lamp n (blankDue s n (lampPeriod s n))
  rw [blankDue_lamp] at lamp
  obtain ⟨blk, now, latches, -, -⟩ := latchBlanked_shows 200 ((before.scripting n).trans idle)
    (by rw [lamp]; exact lampRuns_free runs) before (by rw [lamp])
  exact ⟨blk, now.trans (by rw [blkAssert_now, blankDue_now]), latches⟩

theorem matrixSlot_shows {f : LampFrame} (mode : lampMode s n = 2) (runs : lampRuns s n = true)
    (idle : lampScripting s n = false) (frame : (s.lamp n).frame = some f) (shifted : f.shifted = true) :
    ((matrixSlot n s).lamp n).row = f.row ∧ ((matrixSlot n s).lamp n).rowOn = true ∧
      ((matrixSlot n s).lamp n).blk = false ∧ Latches n s (matrixSlot n s) ∧
      (matrixSlot n s).now = max s.now (((s.lamp n).blkAt.map (· + lampPeriod s n / lampRows s n)).getD s.now) +
        10 * min 2000 (max 20 (s.fld (R.LC_MATRIX n) F.LC_MATRIX_ROW_BLANK)) := by
  rw [matrixSlot_eq mode runs frame shifted]
  generalize 10 * min 2000 (max 20 (s.fld (R.LC_MATRIX n) F.LC_MATRIX_ROW_BLANK)) = blank
  have asserted : ChainActs n s (blkAssert (blankDue s n (lampPeriod s n / lampRows s n)) n) :=
    (blankDue_acts ..).trans (blkAssert_acts ..)
  have before : ChainActs n s (rowDriven n f blank s) := (asserted.trans (reach_acts ..)).setLamp _
  have lamp : (rowDriven n f blank s).lamp n = { s.lamp n with
      blkAt := some (max s.now (((s.lamp n).blkAt.map (· + lampPeriod s n / lampRows s n)).getD s.now)),
      blk := true, row := f.row, rowOn := true } := by
    unfold rowDriven
    rw [State.lamp_setLamp_self, reach_lamp, blkAssert_lamp, blankDue_lamp]
  obtain ⟨blk, now, latches, row, rowOn⟩ := latchBlanked_shows (blank - blank / 2) ((before.scripting n).trans idle)
    (by rw [lamp]; exact lampRuns_free runs) before (by rw [lamp])
  refine ⟨row.trans (by rw [lamp]), rowOn.trans (by rw [lamp]), blk, latches, now.trans ?_⟩
  have half : (rowDriven n f blank s).now =
      max s.now (((s.lamp n).blkAt.map (· + lampPeriod s n / lampRows s n)).getD s.now) + blank / 2 :=
    (reach_later ..).trans (by rw [blkAssert_now, blankDue_now])
  rw [half]
  omega

end Boundaries

/-! ### What the verdict on a window leaves (06 R215, R216) -/

/-- What decisions at a port do: they write registers of ports and fronds, the port's hidden state, records and queues. -/
structure PortActs (s t : State) : Prop where
  rest : t = { s with regs := t.regs, queues := t.queues, recQ := t.recQ, imgs := t.imgs }
  regs : SameRegs s t (0x5001000000 ≤ ·)

theorem PortActs.refl (s : State) : PortActs s s := ⟨rfl, .refl s _⟩

section Verdict

variable {s t u : State}

theorem PortActs.trans (h : PortActs s t) (k : PortActs t u) : PortActs s u := by
  refine ⟨?_, h.regs.trans k.regs⟩
  rw [k.rest, h.rest]

theorem PortActs.lamp (h : PortActs s t) (n : Nat) : t.lamp n = s.lamp n :=
  (congrArg (fun u : State => u.lamp n) h.rest).trans rfl

theorem portEmit_acts (s : State) (r : Rec) : PortActs s (s.portEmit r) := by
  have taps := s.portEmit_taps r
  refine ⟨?_, SameRegs.trans (.of_eq rfl rfl) (taps.regs.mono fun a h => ?_)⟩
  · conv_lhs => rw [taps.rest]
    rw [show (s.portEmit r).recQ = (s.pushRec r).recQ from (congrArg State.recQ taps.rest).trans rfl,
      show (s.portEmit r).imgs = s.imgs from (congrArg State.imgs taps.rest).trans rfl]
    rfl
  · exact le_trans (by decide) h.1

theorem setImg_acts (s : State) (n : Nat) (x : ImgSt) : PortActs s (s.setImg n x) := ⟨rfl, .of_eq rfl rfl⟩

theorem emitGap_acts (s : State) (n : Nat) (w : Swath) : PortActs s (emitGap s n w) := by
  unfold emitGap
  split
  · exact .refl s
  · exact portEmit_acts ..

theorem accountTap_acts (s : State) (n : Nat) (w : Swath) (t : Tap) (reason : Nat) :
    PortActs s (accountTap s n w t reason).1 := by
  unfold accountTap
  split
  · split
    · exact .refl s
    · exact emitGap_acts ..
  · exact .refl s

theorem decideOn_acts (n m : Nat) (s : State) : PortActs s (decideOn n m s) := by
  induction m generalizing s with
  | zero => exact .refl s
  | succ m ih =>
    have passed (u : State) (h : PortActs s u) (w : Swath) (t : Tap) (reason : Nat) : PortActs s
        (decideOn n m (setFrontSwath (accountTap u n w t reason).1 n (accountTap u n w t reason).2.pass)) :=
      ((h.trans (accountTap_acts u n w t reason)).trans (setImg_acts ..)).trans (ih _)
    have withheld : PortActs s (s.satInc (R.IMG_WITHHELD n) F.IMG_WITHHELD_WITHHELD) := by
      refine ⟨rfl, (SameRegs.refl s _).satInc ?_⟩
      simp only [R.IMG_WITHHELD]
      omega
    unfold decideOn
    split
    · exact .refl s
    · split
      · exact .refl s
      · split
        · exact .refl s
        · exact passed s (.refl s) ..
        · split
          · exact passed _ withheld ..
          · exact .refl s

theorem illumVerdict_acts (s : State) (n serial : Nat) (fault : Bool) : PortActs s (illumVerdict s n serial fault) := by
  unfold illumVerdict
  split
  · exact .refl s
  · extract_lets marked
    have flagged : PortActs s marked := setImg_acts ..
    split
    · exact ((flagged.trans (setImg_acts ..)).trans (setImg_acts ..)).trans (decideOn_acts ..)
    · exact flagged

end Verdict

/-! ### Windows (06 R200, R212) -/

/-- In a fold over distinct units, the step of one of them stands between steps of others. -/
theorem foldl_once {α : Type} {p : State → State → Prop} {f : State → α → State} {l : List α} {k : α} (refl : ∀ s, p s s)
    (trans : ∀ {s t u}, p s t → p t u → p s u) (distinct : l.Nodup) (mem : k ∈ l)
    (others : ∀ u, ∀ m ∈ l, m ≠ k → p u (f u m)) (s : State) : ∃ u, p s u ∧ p (f u k) (l.foldl f s) := by
  have folds (l' : List α) (h : ∀ m ∈ l', m ∈ l ∧ m ≠ k) (s : State) : p s (l'.foldl f s) :=
    List.foldlRecOn l' f (motive := p s) (refl s) fun u hu m hm => trans hu (others u m (h m hm).1 (h m hm).2)
  obtain ⟨before, after, rfl⟩ := List.append_of_mem mem
  rw [List.nodup_middle, List.nodup_cons, List.mem_append, not_or] at distinct
  obtain ⟨⟨notBefore, notAfter⟩, -⟩ := distinct
  rw [List.foldl_append]
  refine ⟨before.foldl f s, folds before (fun m hm => ⟨List.mem_append_left _ hm, ?_⟩) s,
    folds after (fun m hm => ⟨List.mem_append_right _ (List.mem_cons_of_mem _ hm), ?_⟩) _⟩
  · exact fun e => notBefore (e ▸ hm)
  · exact fun e => notAfter (e ▸ hm)

section Windows

variable {n : Nat} {s t : State}

theorem lampRuns_of (cfg : t.reg (R.LC_CFG n) = s.reg (R.LC_CFG n)) (up : (t.lamp n).up = (s.lamp n).up)
    (held : (t.lamp n).held = (s.lamp n).held) (script : (t.lamp n).scriptBlk = (s.lamp n).scriptBlk) :
    lampRuns t n = lampRuns s n := by
  simp only [lampRuns, lampOn, State.bit_of_reg cfg, up, held, script]

/-- Whether a chain follows a port's strobe is said by MODE, ENABLE and STROBE in force, and by its matrix limits. -/
theorem mem_strobesOf_of (cfg : t.reg (R.LC_CFG n) = s.reg (R.LC_CFG n)) (lamp : t.lamp n = s.lamp n)
    (strobe : t.inForce (R.LC_STROBE n) = s.inForce (R.LC_STROBE n)) (p : Nat) : n ∈ strobesOf t p ↔ n ∈ strobesOf s p := by
  simp only [strobesOf, List.mem_filter, lampMode, lampOn, State.actFld, State.fld_of_reg cfg, State.bit_of_reg cfg, strobe,
    lamp]

/-- The window that has arrived. -/
def windowHere (w : Window) (s : State) : State :=
  { s with windows := s.windows.map (fun v => if v = w then { v with here := true } else v) }

/-- A strobe chain that lights releases BLK for a window of a port. -/
def strobeReleased (p : Nat) (w : Window) (s : State) (n : Nat) : State :=
  if !lampRuns s n then s
  else
    let lead := s.actFld (R.LC_STROBE n) F.LC_STROBE_LEAD
    let late := decide (48 + sensorLat s p < 2 * lead + 32)
    let s := s.cond late (fun s => lampCfgFlag s n F.LC_STATE_LATE_STROBE)
    let s := if late then s else s.reach ((w.start2 - 2 * lead) / 2).toNat
    blkRelease s n

theorem windowArrival_eq {p : Nat} {w : Window} (found : s.windows.find? (fun v => v.port == p && !v.here) = some w) :
    windowArrival p s = (strobesByLead s p).foldl (strobeReleased p w) (windowHere w s) := by
  unfold windowArrival
  rw [found]
  rfl

theorem lampCfgFlag_lamp (s : State) (n : Nat) (f : Fld) (k : Nat) : (lampCfgFlag s n f).lamp k = s.lamp k :=
  State.lamp_of_lamps ((congrArg State.lamps (s.flagEvent_bookkeeps (R.LC_STATE n) f (Ev.lamp n 5))).trans rfl) k

theorem strobeReleased_shows (p : Nat) (w : Window) (s : State) (n : Nat) : ChainActs n s (strobeReleased p w s n) ∧
    (strobeReleased p w s n).lamp n = if lampRuns s n then { s.lamp n with blk := false } else s.lamp n := by
  unfold strobeReleased
  cases runs : lampRuns s n
  · exact ⟨.refl n s, rfl⟩
  · extract_lets lead late u v
    have flagged : ChainActs n s u ∧ u.lamp n = s.lamp n :=
      State.cond_induct (p := fun u => ChainActs n s u ∧ u.lamp n = s.lamp n) ⟨.refl n s, rfl⟩ fun _ =>
        ⟨(ChainActs.refl n s).flagEvent _ _ (chainWrites_state n), lampCfgFlag_lamp ..⟩
    have reached : ChainActs n s v ∧ v.lamp n = s.lamp n := by
      unfold v
      split
      · exact flagged
      · exact ⟨flagged.1.trans (reach_acts ..), flagged.2⟩
    obtain ⟨acts, lamp⟩ := reached
    exact ⟨acts.trans (blkRelease_acts ..), (blkRelease_lamp n v).trans (by rw [lamp]; rfl)⟩

/-- The steps of all strobe chains keep a chain that lights lit, and BLK released. -/
theorem strobeReleased_keeps (p : Nat) (w : Window) (s : State) (k : Nat) :
    lampRuns (strobeReleased p w s k) n = lampRuns s n ∧
      ((s.lamp n).blk = false → ((strobeReleased p w s k).lamp n).blk = false) := by
  obtain ⟨acts, lamp⟩ := strobeReleased_shows p w s k
  by_cases h : n = k
  · subst h
    rw [lampRuns_of (acts.cfg n)] <;> rw [lamp] <;> split <;> simp
  · have same := acts.others n h
    exact ⟨lampRuns_of (acts.cfg n) (by rw [same]) (by rw [same]) (by rw [same]), fun blk => by rw [same, blk]⟩

theorem mem_strobesByLead {p : Nat} (h : n ∈ strobesOf s p) : n ∈ strobesByLead s p := by
  have lead : s.actFld (R.LC_STROBE n) F.LC_STROBE_LEAD < 256 := Word.get_lt ..
  unfold strobesByLead
  exact List.mem_flatMap.mpr ⟨_, List.mem_reverse.mpr (List.mem_range.mpr lead), List.mem_filter.mpr ⟨h, beq_self_eq_true _⟩⟩

theorem windowArrival_shows {p : Nat} {w : Window}
    (found : s.windows.find? (fun v => v.port == p && !v.here) = some w) :
    (windowArrival p s).windows = s.windows.map (fun v => if v = w then { v with here := true } else v) ∧
      (n ∈ strobesOf s p → lampRuns s n = true → ((windowArrival p s).lamp n).blk = false) := by
  rw [windowArrival_eq found]
  refine ⟨?_, fun mem runs => ?_⟩
  · refine List.foldlRecOn (strobesByLead s p) (strobeReleased p w)
      (motive := fun u : State => u.windows = (windowHere w s).windows) rfl fun u h k _ => ?_
    exact (strobeReleased_shows p w u k).1.windows.trans h
  · obtain ⟨before, after, split⟩ := List.append_of_mem (mem_strobesByLead mem)
    rw [split, List.foldl_append, List.foldl_cons]
    have lights : lampRuns (before.foldl (strobeReleased p w) (windowHere w s)) n = true :=
      List.foldlRecOn before (strobeReleased p w) (motive := fun u => lampRuns u n = true) runs fun u h k _ =>
        (strobeReleased_keeps p w u k).1.trans h
    refine List.foldlRecOn after (strobeReleased p w) (motive := fun u : State => (u.lamp n).blk = false) ?_ fun u h k _ =>
      (strobeReleased_keeps p w u k).2 h
    rw [(strobeReleased_shows ..).2, if_pos lights]

/-- The window that has ended, and the verdict on its line. -/
def windowJudged (p : Nat) (w : Window) (s : State) : State :=
  let t := { s.reach (w.end2 / 2).toNat with windows := s.windows.erase w }
  illumVerdict t p w.serial (windowFaulty t w)

/-- A strobe chain that lights asserts BLK, which is its boundary. -/
def strobeDark (s : State) (n : Nat) : State := if lampRuns s n then lampLatch (blkAssert s n) n else s

theorem windowDone_eq {p : Nat} {w : Window} (found : s.windows.find? (fun v => v.port == p && v.here) = some w) :
    windowDone p s = (strobesOf (windowJudged p w s) p).foldl strobeDark (windowJudged p w s) := by
  unfold windowDone
  rw [found]
  rfl

/-- The verdict changes no chain, and neither the time nor the windows. -/
theorem windowJudged_acts (p : Nat) (w : Window) (s : State) :
    PortActs { s.reach (w.end2 / 2).toNat with windows := s.windows.erase w } (windowJudged p w s) := illumVerdict_acts ..

theorem windowJudged_chain (p : Nat) (w : Window) (s : State) (k : Fin 4) :
    (windowJudged p w s).lamp k = s.lamp k ∧
      (windowJudged p w s).reg (R.LC_CFG k) = s.reg (R.LC_CFG k) ∧
      (windowJudged p w s).reg (R.LC_FRAMES k) = s.reg (R.LC_FRAMES k) ∧
      (windowJudged p w s).inForce (R.LC_STROBE k) = s.inForce (R.LC_STROBE k) := by
  have acts := windowJudged_acts p w s
  refine ⟨acts.lamp k, (acts.regs _ ?_).1, (acts.regs _ ?_).1, (acts.regs _ ?_).2⟩ <;>
  simp only [R.LC_CFG, R.LC_FRAMES, R.LC_STROBE] <;> omega

/-- What the boundary of another strobe chain leaves of chain n. -/
structure ChainKept (n : Nat) (s t : State) : Prop where
  lamp : t.lamp n = s.lamp n
  cfg : t.reg (R.LC_CFG n) = s.reg (R.LC_CFG n)
  frames : t.reg (R.LC_FRAMES n) = s.reg (R.LC_FRAMES n)

theorem ChainKept.refl (n : Nat) (s : State) : ChainKept n s s := ⟨rfl, rfl, rfl⟩

theorem ChainKept.trans {u : State} (h : ChainKept n s t) (k : ChainKept n t u) : ChainKept n s u :=
  ⟨k.lamp.trans h.lamp, k.cfg.trans h.cfg, k.frames.trans h.frames⟩

theorem strobeDark_other {k : Nat} (h : k ≠ n) (s : State) : ChainKept n s (strobeDark s k) := by
  unfold strobeDark
  split
  · have acts := blkAssert_acts k s
    have b := lampLatch_boundary k (blkAssert s k)
    obtain ⟨lamp, frames⟩ := b.others n h.symm
    exact ⟨lamp.trans (acts.others n h.symm), (b.cfg n).trans (acts.cfg n), frames.trans (acts.frames n)⟩
  · exact .refl n s

theorem strobeDark_still (s : State) (k : Nat) : (strobeDark s k).windows = s.windows ∧ (strobeDark s k).now = s.now := by
  unfold strobeDark
  split
  · have b := lampLatch_boundary k (blkAssert s k)
    exact ⟨b.windows.trans (blkAssert_acts k s).windows, b.now.trans (blkAssert_now s k)⟩
  · exact ⟨rfl, rfl⟩

/-- The end of a window is a boundary of a strobe chain that lights. -/
theorem strobeDark_shows (runs : lampRuns s n = true) :
    ((strobeDark s n).lamp n).blk = true ∧ Latches n s (strobeDark s n) := by
  have lamp := blkAssert_lamp n s
  have b := lampLatch_boundary n (blkAssert s n)
  rw [show strobeDark s n = lampLatch (blkAssert s n) n from if_pos runs]
  exact ⟨b.dark (by rw [lamp]), b.latches_within (by rw [lamp]) ((blkAssert_acts n s).frames n) rfl rfl⟩

end Windows

theorem windowDone_shows {s : State} {p : Nat} {w : Window} (n : Fin 4)
    (found : s.windows.find? (fun v => v.port == p && v.here) = some w) :
    (windowDone p s).windows = s.windows.erase w ∧ (windowDone p s).now = max s.now (w.end2 / 2).toNat ∧
      (n.val ∈ strobesOf s p → lampRuns s n = true →
        ((windowDone p s).lamp n).blk = true ∧ Latches n s (windowDone p s)) := by
  rw [windowDone_eq found]
  have acts := windowJudged_acts p w s
  have still := List.foldlRecOn (strobesOf (windowJudged p w s) p) strobeDark
    (motive := fun u : State => u.windows = (windowJudged p w s).windows ∧ u.now = (windowJudged p w s).now) ⟨rfl, rfl⟩
    fun u h k _ => ⟨(strobeDark_still u k).1.trans h.1, (strobeDark_still u k).2.trans h.2⟩
  obtain ⟨windows, now⟩ := still
  refine ⟨windows.trans ((congrArg State.windows acts.rest).trans rfl),
    now.trans ((congrArg State.now acts.rest).trans rfl), fun mem runs => ?_⟩
  obtain ⟨lamp, cfg, frames, strobe⟩ := windowJudged_chain p w s n
  have distinct : (strobesOf (windowJudged p w s) p).Nodup := List.nodup_range.filter _
  obtain ⟨u, before, after⟩ := foldl_once (ChainKept.refl n) ChainKept.trans distinct
    ((mem_strobesOf_of cfg lamp strobe p).mpr mem)
    (fun u m _ hm => strobeDark_other hm u) (windowJudged p w s)
  have lights : lampRuns u n = true := by
    have same := before.lamp.trans lamp
    rw [lampRuns_of (before.cfg.trans cfg) (by rw [same]) (by rw [same]) (by rw [same])]
    exact runs
  obtain ⟨blk, latches⟩ := strobeDark_shows lights
  refine ⟨by rw [after.lamp]; exact blk, fun f hf shifted => ?_⟩
  obtain ⟨latched, counted⟩ := latches f (by rw [before.lamp, lamp]; exact hf) shifted
  refine ⟨by rw [after.lamp]; exact latched, (State.fld_of_reg after.frames _).trans (counted.trans ?_)⟩
  rw [State.fld_of_reg (before.frames.trans frames)]

/-! ### Readbacks (06 R197, R198, R214 to R217) -/

/-- The registers that a readback writes. -/
def ReadbackWrites (n a : Nat) : Prop := a = R.LC_STATE n ∨ GroupWrites n a

theorem not_groupWrites_state (n : Nat) : ¬ GroupWrites n (R.LC_STATE n) := by
  simp only [GroupWrites, R.LC_STATE, R.LCG_STATE, R.EVT_LOST]
  omega

/-- A readback writes no register that says how the chain's frames are read or whether it is idle. -/
theorem not_readbackWrites (n : Fin 4) {a : Nat} (h : a = R.SYS_STATE ∨ a = R.LC_CFG n ∨ a = R.LC_LAYOUT n ∨
    a = R.LC_STATUS_POS n ∨ a = R.LC_STROBE n ∨ 0x5000b04000 ≤ a) : ¬ ReadbackWrites n a := by
  simp only [ReadbackWrites, GroupWrites, R.LC_STATE, R.LCG_STATE, R.EVT_LOST]
  simp only [R.SYS_STATE, R.LC_CFG, R.LC_LAYOUT, R.LC_STATUS_POS, R.LC_STROBE] at h
  omega

/-- What judging the groups leaves: registers other than those of the groups, the frame in progress, whether the chain is
in error. -/
structure Judged (n : Nat) (s t : State) : Prop where
  regs : SameRegs s t (GroupWrites n)
  frame : (t.lamp n).frame = (s.lamp n).frame
  errOpen : (t.lamp n).errOpen = (s.lamp n).errOpen

theorem Judged.refl (n : Nat) (s : State) : Judged n s s := ⟨.refl s _, rfl, rfl⟩

section Judging

variable {n : Nat} {s t u : State}

theorem Judged.trans (h : Judged n s t) (k : Judged n t u) : Judged n s u :=
  ⟨h.regs.trans k.regs, k.frame.trans h.frame, k.errOpen.trans h.errOpen⟩

theorem Judged.setLamp (h : Judged n s t) (x : LampSt) (frame : x.frame = (t.lamp n).frame)
    (errOpen : x.errOpen = (t.lamp n).errOpen) : Judged n s (t.setLamp n x) := by
  refine h.trans ⟨.of_eq rfl rfl, ?_, ?_⟩ <;> rw [State.lamp_setLamp_self]
  · exact frame
  · exact errOpen

theorem Judged.of_regs (h : Judged n s t) (regs : SameRegs t u (GroupWrites n)) (lamps : u.lamps = t.lamps) :
    Judged n s u := by
  have lamp := State.lamp_of_lamps lamps n
  exact h.trans ⟨regs, by rw [lamp], by rw [lamp]⟩

theorem Judged.setFld (h : Judged n s t) {g : Nat} (f : Fld) (v : Nat) (hg : g < 8) :
    Judged n s (t.setFld (R.LCG_STATE n g) f v) := h.of_regs ((SameRegs.refl t _).setFld (.inl ⟨g, hg, rfl⟩)) rfl

theorem Judged.raise (h : Judged n s t) (e : Nat) : Judged n s (t.raise e) :=
  h.of_regs ((SameRegs.refl t _).raise (.inr rfl)) (t.raise_lamps e)

theorem Judged.groupsShow (h : Judged n s t) : Judged n s (groupsShow t n) :=
  h.of_regs (groupsShow_regs n t) (groupsShow_lamps n t)

theorem Judged.foldl {α : Type} {f : State → α → State} {l : List α} (h : Judged n s t)
    (hf : ∀ u, ∀ k ∈ l, Judged n u (f u k)) : Judged n s (l.foldl f t) :=
  List.foldlRecOn l f (motive := Judged n s) h fun u hu k hk => hu.trans (hf u k hk)

theorem closeGroup_judged (n g : Nat) (s : State) : Judged n s (closeGroup s n g) := by
  unfold closeGroup
  extract_lets x
  split
  · exact (Judged.refl n s).setLamp _ rfl rfl
  · exact .refl n s

theorem quietGroup_judged (n g : Nat) (s : State) : Judged n s (quietGroup s n g) := by
  unfold quietGroup
  split
  · exact closeGroup_judged ..
  · exact .refl n s

theorem openGroup_judged (n g : Nat) (s : State) : Judged n s (openGroup s n g) := (Judged.refl n s).setLamp _ rfl rfl

theorem groupFails_judged {g : Nat} (hg : g < 8) (s : State) (es : List Nat) (again : Bool) :
    Judged n s (groupFails s n g es again) := by
  unfold groupFails
  extract_lets a s1 x bad s2 acts y s3
  have opened : Judged n s s1 := (openGroup_judged n g s).setFld _ _ hg
  have failed : Judged n s s2 := opened.setLamp _ rfl rfl
  have noted : Judged n s s3 := failed.setLamp _ rfl rfl
  split
  · exact State.cond_induct (p := Judged n s) failed fun _ => (failed.setFld _ _ hg).raise _
  · exact State.cond_induct (p := Judged n s) noted fun _ => noted.setFld _ _ hg

theorem groupRelit_judged {g : Nat} (hg : g < 8) (s : State) (row : Nat) (left : List Nat) :
    Judged n s (groupRelit s n g row left) := by
  unfold groupRelit
  extract_lets x rest s1 s2
  have relit : Judged n s s1 := (Judged.refl n s).setLamp _ rfl rfl
  have closed : Judged n s s2 := relit.trans (closeGroup_judged ..)
  split
  · exact (Judged.refl n s).setLamp _ rfl rfl
  · exact ((closed.setFld _ _ hg).raise _).groupsShow

theorem judgeGroup_judged {g : Nat} (hg : g < 8) (f : LampFrame) (faults : List Nat) (s : State) :
    Judged n s (judgeGroup n f faults s g) := by
  unfold judgeGroup
  extract_lets es
  split
  · split
    · exact groupFails_judged hg ..
    · refine Judged.trans ?_ (quietGroup_judged ..)
      split
      · exact groupRelit_judged hg ..
      · exact .refl n s
  · split
    · exact groupFails_judged hg ..
    · exact quietGroup_judged ..

theorem groupOf_lt (s : State) (n e : Nat) : groupOf s n e < 8 := Word.get_lt ..

/-- A fault is counted in its channel's group (06 R214). -/
def faultCounted (n : Nat) (s : State) (e : Nat) : State :=
  (s.satInc (R.LCG_STATE n (groupOf s n e)) F.LCG_STATE_FAILED).raise (Ev.lamp n 0)

/-- The faulty channels of the row that the readback reports are noted. -/
def faultsNoted (n : Nat) (f : LampFrame) (faults : List Nat) (s : State) : State :=
  let x := s.lamp n
  s.setLamp n { x with faulty := faults.foldl NatSet.insert (x.faulty.filter fun e => e / (lampIcs s n * 16) != f.row) }

/-- What the readback of frame f says of the channels' faults. -/
def faultsJudged (n : Nat) (f : LampFrame) (faults : List Nat) (s : State) : State :=
  (List.range 8).foldl (judgeGroup n f faults) (faults.foldl (faultCounted n) (faultsNoted n f faults s))

theorem faultCounted_judged (n : Nat) (s : State) (e : Nat) : Judged n s (faultCounted n s e) :=
  ((Judged.refl n s).setFld _ _ (groupOf_lt s n e)).raise _

theorem faultsJudged_judged (n : Nat) (f : LampFrame) (faults : List Nat) (s : State) :
    Judged n s (faultsJudged n f faults s) := by
  have noted : Judged n s (faultsNoted n f faults s) := (Judged.refl n s).setLamp _ rfl rfl
  exact (noted.foldl fun u e _ => faultCounted_judged n u e).foldl fun u g hg => judgeGroup_judged (List.mem_range.mp hg) ..

/-- A readback without a chain error ends an error that stood. -/
def chainSound (n : Nat) (s : State) : State :=
  let x := s.lamp n
  (s.setLamp n { x with errOpen := false, endedC := if x.errOpen then some s.now else x.endedC }).setBit (R.LC_STATE n)
    F.LC_STATE_CHAIN_ERR false

/-- A readback of all zeros or all ones. -/
def chainBad (n : Nat) (s : State) : State :=
  ((s.setLamp n { s.lamp n with errOpen := true }).flag (R.LC_STATE n) F.LC_STATE_CHAIN_ERR).raise (Ev.lamp n 3)

/-- Whether a readback is a chain error (06 R198). -/
def ReadbackBad (s : State) (n bits : Nat) : Prop :=
  bits % 2 ^ frameBits s n = 0 ∨ bits % 2 ^ frameBits s n = 2 ^ frameBits s n - 1

theorem judgeReadback_bad {bits : Nat} (h : ReadbackBad s n bits) : judgeReadback s n bits = chainBad n s := if_pos h

/-- A readback tells of the frame that latched last. -/
def latchedJudged (n bits : Nat) (latched : Option LampFrame) (s : State) : State :=
  match latched with
  | none => s
  | some f => faultsJudged n f (faultyChannels s n bits f.row) s

theorem judgeReadback_sound {bits : Nat} (h : ¬ ReadbackBad s n bits) :
    judgeReadback s n bits = latchedJudged n bits (s.lamp n).latched (chainSound n s) := if_neg h

/-- What a readback shows of its chain. -/
structure ReadbackShows (n : Nat) (bad : Prop) (s t : State) : Prop where
  regs : SameRegs s t (ReadbackWrites n)
  frame : (t.lamp n).frame = (s.lamp n).frame
  shifting : t.bit (R.LC_STATE n) F.LC_STATE_SHIFTING = s.bit (R.LC_STATE n) F.LC_STATE_SHIFTING
  err : t.bit (R.LC_STATE n) F.LC_STATE_CHAIN_ERR = true ↔ bad
  errOpen : (t.lamp n).errOpen = true ↔ bad

/-- Judging the groups leaves what a readback shows of the chain. -/
theorem ReadbackShows.judged {bad : Prop} (h : ReadbackShows n bad s t) (k : Judged n t u) : ReadbackShows n bad s u := by
  have state := (k.regs _ (not_groupWrites_state n)).1
  refine ⟨h.regs.trans (k.regs.mono fun _ => .inr), k.frame.trans h.frame, (State.bit_of_reg state _).trans h.shifting,
    ?_, ?_⟩
  · rw [State.bit_of_reg state]
    exact h.err
  · rw [k.errOpen]
    exact h.errOpen

/-- A chain's hidden state and a flag of LCn_STATE written. -/
theorem chainFlag_regs (n : Nat) (x : LampSt) (f : Fld) (b : Bool) (s : State) :
    SameRegs s ((s.setLamp n x).setBit (R.LC_STATE n) f b) (· = R.LC_STATE n) :=
  (SameRegs.of_eq rfl rfl).trans ((SameRegs.refl _ _).setBit rfl)

/-- CHAIN_ERR and the chain's fault interval written alike. -/
theorem chainErr_shows {bad : Prop} (s : State) (x : LampSt) {b : Bool} (h : b = true ↔ bad)
    (frame : x.frame = (s.lamp n).frame) (errOpen : x.errOpen = b) :
    ReadbackShows n bad s ((s.setLamp n x).setBit (R.LC_STATE n) F.LC_STATE_CHAIN_ERR b) := by
  have lamp : ((s.setLamp n x).setBit (R.LC_STATE n) F.LC_STATE_CHAIN_ERR b).lamp n = x := State.lamp_setLamp_self ..
  refine ⟨(chainFlag_regs n x _ b s).mono fun _ => .inl, by rw [lamp, frame], ?_, ?_, by rwa [lamp, errOpen]⟩
  · exact State.bit_setBit_apart _ _ F.LC_STATE_CHAIN_ERR _ _ (by decide) (by decide)
  · rwa [show F.LC_STATE_CHAIN_ERR = ⟨1, 1⟩ from rfl, State.bit_setBit_self _ _ _ _ (by decide)]

theorem judgeReadback_shows (s : State) (n bits : Nat) :
    ReadbackShows n (ReadbackBad s n bits) s (judgeReadback s n bits) := by
  by_cases bad : ReadbackBad s n bits
  · rw [judgeReadback_bad bad]
    have flagged := chainErr_shows s { s.lamp n with errOpen := true } (iff_of_true rfl bad) rfl rfl
    exact flagged.judged ((Judged.refl n _).raise _)
  · have sound : ReadbackShows n (ReadbackBad s n bits) s (chainSound n s) :=
      chainErr_shows s
        { s.lamp n with errOpen := false, endedC := if (s.lamp n).errOpen then some s.now else (s.lamp n).endedC }
        (iff_of_false Bool.false_ne_true bad) rfl rfl
    rw [judgeReadback_sound bad]
    cases (s.lamp n).latched with
    | none => exact sound
    | some f => exact sound.judged (faultsJudged_judged ..)

/-! #### The end of a frame's shift (06 R197, R200) -/

/-- A frame has shifted. -/
def shiftOver (n : Nat) (f : LampFrame) (s : State) : State :=
  (s.setLamp n { s.lamp n with frame := some { f with shifted := true } }).setBit (R.LC_STATE n) F.LC_STATE_SHIFTING false

theorem shiftOver_lamp (n : Nat) (f : LampFrame) (s : State) :
    (shiftOver n f s).lamp n = { s.lamp n with frame := some { f with shifted := true } } := State.lamp_setLamp_self ..

theorem shiftOver_regs (n : Nat) (f : LampFrame) (s : State) : SameRegs s (shiftOver n f s) (· = R.LC_STATE n) :=
  chainFlag_regs _ _ _ _ _

theorem chainSound_regs (n : Nat) (s : State) : SameRegs s (chainSound n s) (· = R.LC_STATE n) := chainFlag_regs _ _ _ _ _

end Judging

section Shifts

variable {s t : State} {n : Fin 4} {f : LampFrame} {bits : Nat}

/-- Whether a strobe chain is idle, and how its readbacks are read, is not said by what a readback writes. -/
theorem strobeIdle_of (h : SameRegs s t (ReadbackWrites n)) : strobeIdle t n = strobeIdle s n := by
  have cfg := (h _ (not_readbackWrites n (.inr (.inl rfl)))).1
  have run := (h _ (not_readbackWrites n (.inl rfl))).1
  have strobe := (h _ (not_readbackWrites n (.inr (.inr (.inr (.inr (.inl rfl))))))).2
  have status (p : Nat) : t.reg (R.IMG_STATUS p) = s.reg (R.IMG_STATUS p) :=
    (h _ (not_readbackWrites n (by simp only [R.IMG_STATUS]; omega))).1
  simp only [strobeIdle, lampMode, State.runActive, imgArmed, State.actFld, State.fld_of_reg cfg, State.bit_of_reg run,
    strobe, State.bit_of_reg (status _)]
  rfl

theorem frameBits_of (h : SameRegs s t (ReadbackWrites n)) : frameBits t n = frameBits s n := by
  have cfg := (h _ (not_readbackWrites n (.inr (.inl rfl)))).1
  have layout := (h _ (not_readbackWrites n (.inr (.inr (.inl rfl))))).1
  simp only [frameBits, lampIcs, lampHdrBits, slotBits, lampBits, State.fld_of_reg cfg, State.fld_of_reg layout]

theorem groupOf_of (h : SameRegs s t (ReadbackWrites n)) (e : Nat) : groupOf t n e = groupOf s n e :=
  State.fld_of_reg (h _ (not_readbackWrites n (by simp only [R.LAMP_ENTRY]; omega))).1 _

theorem faultyChannels_of (h : SameRegs s t (ReadbackWrites n)) (bits row : Nat) :
    faultyChannels t n bits row = faultyChannels s n bits row := by
  have cfg := (h _ (not_readbackWrites n (.inr (.inl rfl)))).1
  have layout := (h _ (not_readbackWrites n (.inr (.inr (.inl rfl))))).1
  have pos := (h _ (not_readbackWrites n (.inr (.inr (.inr (.inl rfl)))))).1
  have entry (e : Nat) : t.reg (R.LAMP_ENTRY n e) = s.reg (R.LAMP_ENTRY n e) :=
    (h _ (not_readbackWrites n (by simp only [R.LAMP_ENTRY]; omega))).1
  simp only [faultyChannels, lampIcs, lampHdrBits, slotBits, lampBits, State.fld_of_reg cfg, State.fld_of_reg layout,
    State.fld_of_reg pos, State.bit_of_reg pos, State.bit_of_reg (entry _)]
  rfl

/-- A frame that ends no script latches at the end of its shift on an idle strobe chain alone. -/
theorem shiftEnd_eq (frame : (s.lamp n).frame = some f) (shifts : f.shifted = false) (relatch : f.relatch = false)
    (idle : strobeIdle s n = false) (bits : Nat) : shiftEnd n bits s = judgeReadback (shiftOver n f s) n bits := by
  have judged := (judgeReadback_shows (shiftOver n f s) n bits).regs
  have still : strobeIdle (judgeReadback (shiftOver n f s) n bits) n = false :=
    (strobeIdle_of judged).trans ((strobeIdle_of ((shiftOver_regs n f s).mono fun _ => .inl)).trans idle)
  unfold shiftEnd
  simp only [frame, shifts, Bool.false_eq_true, if_false]
  rw [show (f.relatch && lampMode _ n == 0) = false by rw [relatch, Bool.false_and]]
  have stays : ¬ (f.relatch = true ∨ strobeIdle (judgeReadback (shiftOver n f s) n bits) n = true) := by
    simp [relatch, still]
  exact if_neg stays

theorem lampShiftEnd_exec (hw : s.working = true) (bits : Nat) :
    exec (.lampShiftEnd n bits false) s = .next (shiftEnd n bits s) :=
  next_eq (State.whenWorking_true hw _)

theorem shiftEnd_shows (frame : (s.lamp n).frame = some f) (shifts : f.shifted = false) (relatch : f.relatch = false)
    (idle : strobeIdle s n = false) (bits : Nat) :
    ReadbackShows n (ReadbackBad s n bits) (shiftOver n f s) (shiftEnd n bits s) := by
  have shown := judgeReadback_shows (shiftOver n f s) n bits
  have bad : ReadbackBad (shiftOver n f s) n bits ↔ ReadbackBad s n bits := by
    unfold ReadbackBad
    rw [frameBits_of ((shiftOver_regs n f s).mono fun _ => .inl)]
  rw [shiftEnd_eq frame shifts relatch idle]
  exact propext bad ▸ shown

end Shifts

/-! ### One fault of an all-or-none group (06 R214, R215) -/

section Faults

variable {n g k e : Nat} {s t u : State}

theorem judgeGroup_alone {f : LampFrame} (alone : (s.lamp n).restore = []) (e : Nat) :
    judgeGroup n f [e] s g = if groupOf s n e = g then groupFails s n g [e] false else quietGroup s n g := by
  unfold judgeGroup
  rw [alone]
  by_cases h : groupOf s n e = g <;> simp [h]

/-- What a group that reports no fault leaves of group k. -/
structure Spared (n k : Nat) (s t : State) : Prop where
  regs : t.regs = s.regs
  act : t.act = s.act
  restore : (t.lamp n).restore = (s.lamp n).restore
  openG : k ∈ (s.lamp n).openG → k ∈ (t.lamp n).openG

theorem Spared.refl (n k : Nat) (s : State) : Spared n k s s := ⟨rfl, rfl, rfl, id⟩

theorem Spared.trans (h : Spared n k s t) (j : Spared n k t u) : Spared n k s u :=
  ⟨j.regs.trans h.regs, j.act.trans h.act, j.restore.trans h.restore, j.openG ∘ h.openG⟩

theorem quietGroup_spares (h : k ≠ g) (s : State) : Spared n k s (quietGroup s n g) := by
  unfold quietGroup closeGroup
  extract_lets x
  split_ifs
  · refine ⟨rfl, rfl, ?_, fun mem => ?_⟩ <;> rw [State.lamp_setLamp_self]
    exact List.mem_filter.mpr ⟨mem, by simpa using h⟩
  all_goals exact .refl n k s

/-- Group k in FAULT_OFF with FAULT set and its fault interval open, its count of failures as before. -/
structure GroupDark (n k failed : Nat) (t : State) : Prop where
  off : groupState t n k = 2
  fault : t.bit (R.LCG_STATE n k) F.LCG_STATE_FAULT = true
  count : t.fld (R.LCG_STATE n k) F.LCG_STATE_FAILED = failed
  interval : k ∈ (t.lamp n).openG

theorem Spared.dark {failed : Nat} (h : Spared n k s t) (d : GroupDark n k failed s) : GroupDark n k failed t := by
  have reg := State.reg_of_regs h.regs (R.LCG_STATE n k)
  exact ⟨(State.fld_of_reg reg _).trans d.off, (State.bit_of_reg reg _).trans d.fault,
    (State.fld_of_reg reg _).trans d.count, h.openG d.interval⟩

/-- A group that is reported faulty: FAULT set, its fault interval open, no longer waiting to be relit. -/
def groupFaulty (n g : Nat) (s : State) : State :=
  let t := (openGroup s n g).flag (R.LCG_STATE n g) F.LCG_STATE_FAULT
  t.setLamp n { t.lamp n with restore := (t.lamp n).restore.filter (fun r => r.1 != g) }

theorem groupFails_off (allOrNone : s.actBit (R.LCG_CFG n g) F.LCG_CFG_ALL_OR_NONE = true) (es : List Nat) :
    groupFails s n g es false = (groupFaulty n g s).cond (groupState (groupFaulty n g s) n g != 2) fun s =>
      (s.setFld (R.LCG_STATE n g) F.LCG_STATE_STATE 2).raise (Ev.lamp n 1) := by
  unfold groupFails
  exact if_pos allOrNone

theorem groupFaulty_lamp (n g : Nat) (s : State) : (groupFaulty n g s).lamp n = { s.lamp n with
    openG := NatSet.insert (s.lamp n).openG g, restore := (s.lamp n).restore.filter (fun r => r.1 != g) } := by
  have opened : (openGroup s n g).lamp n = { s.lamp n with openG := NatSet.insert (s.lamp n).openG g } :=
    State.lamp_setLamp_self ..
  have faulty : (groupFaulty n g s).lamp n = { (openGroup s n g).lamp n with
      restore := ((openGroup s n g).lamp n).restore.filter fun r => r.1 != g } := State.lamp_setLamp_self ..
  rw [faulty, opened]

theorem groupFails_lamp (allOrNone : s.actBit (R.LCG_CFG n g) F.LCG_CFG_ALL_OR_NONE = true) (es : List Nat) :
    (groupFails s n g es false).lamp n = (groupFaulty n g s).lamp n := by
  rw [groupFails_off allOrNone]
  exact State.cond_induct (p := fun t => t.lamp n = (groupFaulty n g s).lamp n) rfl fun _ =>
    State.lamp_of_lamps (State.raise_lamps ..) n

/-- STATE is FAULT_OFF, whether the group enters it now or was in it. -/
theorem groupFails_dark (allOrNone : s.actBit (R.LCG_CFG n g) F.LCG_CFG_ALL_OR_NONE = true) (es : List Nat) :
    GroupDark n g (s.fld (R.LCG_STATE n g) F.LCG_STATE_FAILED) (groupFails s n g es false) := by
  have fault : (groupFaulty n g s).bit (R.LCG_STATE n g) F.LCG_STATE_FAULT = true :=
    State.bit_setBit_self _ _ 2 true (by decide)
  have count : (groupFaulty n g s).fld (R.LCG_STATE n g) F.LCG_STATE_FAILED = s.fld (R.LCG_STATE n g) F.LCG_STATE_FAILED :=
    State.fld_setFld_apart _ _ F.LCG_STATE_FAULT _ _ (by decide) (by decide)
  have interval : g ∈ ((groupFails s n g es false).lamp n).openG := by
    rw [groupFails_lamp allOrNone, groupFaulty_lamp]
    exact NatSet.mem_insert.mpr (.inl rfl)
  rw [groupFails_off allOrNone] at interval ⊢
  cases acts : groupState (groupFaulty n g s) n g != 2
  · exact ⟨by simpa using acts, fault, count, by rwa [acts] at interval⟩
  · have reg (u : State) : (u.raise (Ev.lamp n 1)).reg (R.LCG_STATE n g) = u.reg (R.LCG_STATE n g) :=
      State.reg_raise _ _ (by simp only [R.LCG_STATE, R.EVT_LOST]; omega)
    rw [State.cond_true]
    refine ⟨(State.fld_of_reg (reg _) _).trans ?_, (State.bit_of_reg (reg _) _).trans ?_,
      (State.fld_of_reg (reg _) _).trans ?_, by rwa [acts] at interval⟩
    · exact State.fld_setFld_self _ _ F.LCG_STATE_STATE _ (by decide)
    · rwa [State.bit_setFld_apart _ _ F.LCG_STATE_STATE _ _ (by decide) (by decide)]
    · rwa [State.fld_setFld_apart _ _ F.LCG_STATE_STATE _ _ (by decide) (by decide)]

end Faults

section Chains

variable {n : Fin 4} {s t : State} {f : LampFrame} {e k : Nat}

/-- No group of the chain waits to be relit, and group k is the one of channel e. -/
def FaultIn (n e k : Nat) (s : State) : Prop := (s.lamp n).restore = [] ∧ groupOf s n e = k

theorem Spared.faultIn (h : Spared n k s t) (i : FaultIn n e k s) : FaultIn n e k t :=
  ⟨h.restore.trans i.1, (State.fld_of_reg (State.reg_of_regs h.regs _) _).trans i.2⟩

theorem groupFails_faultIn (i : FaultIn n e k s) (allOrNone : s.actBit (R.LCG_CFG n k) F.LCG_CFG_ALL_OR_NONE = true) :
    FaultIn n e k (groupFails s n k [e] false) := by
  obtain ⟨alone, group⟩ := i
  have small : k < 8 := group ▸ groupOf_lt s n e
  refine ⟨?_, (groupOf_of ((groupFails_judged small s [e] false).regs.mono fun _ => .inr) e).trans group⟩
  rw [groupFails_lamp allOrNone, groupFaulty_lamp, alone]
  rfl

/-- The one fault that a readback reports, in a chain with no group waiting to be relit, darkens its group. -/
theorem groupsJudged_dark (f : LampFrame) (i : FaultIn n e k s)
    (allOrNone : s.actBit (R.LCG_CFG n k) F.LCG_CFG_ALL_OR_NONE = true) :
    GroupDark n k (s.fld (R.LCG_STATE n k) F.LCG_STATE_FAILED) ((List.range 8).foldl (judgeGroup n f [e]) s) := by
  have others (u : State) (g : Nat) (_ : g ∈ List.range 8) (hg : g ≠ k) (iu : FaultIn n e k u) :
      FaultIn n e k (judgeGroup n f [e] u g) ∧ Spared n k u (judgeGroup n f [e] u g) := by
    have spared : Spared n k u (judgeGroup n f [e] u g) := by
      rw [judgeGroup_alone iu.1, if_neg (by rw [iu.2]; exact hg.symm)]
      exact quietGroup_spares hg.symm u
    exact ⟨spared.faultIn iu, spared⟩
  obtain ⟨u, before, after⟩ := foldl_once (p := fun u v => FaultIn n e k u → FaultIn n e k v ∧ Spared n k u v)
    (fun u iu => ⟨iu, .refl n k u⟩) (fun h j iu => ⟨(j (h iu).1).1, (h iu).2.trans (j (h iu).1).2⟩) List.nodup_range
    (List.mem_range.mpr (i.2 ▸ groupOf_lt s n e)) others s
  obtain ⟨iu, spared⟩ := before i
  have same : u.actBit (R.LCG_CFG n k) F.LCG_CFG_ALL_OR_NONE = true := by
    unfold State.actBit State.actFld State.inForce at allOrNone ⊢
    rwa [spared.act]
  have count : u.fld (R.LCG_STATE n k) F.LCG_STATE_FAILED = s.fld (R.LCG_STATE n k) F.LCG_STATE_FAILED :=
    State.fld_of_reg (State.reg_of_regs spared.regs _) _
  rw [judgeGroup_alone iu.1, if_pos iu.2] at after
  have dark := groupFails_dark same [e]
  rw [count] at dark
  exact (after (groupFails_faultIn iu same)).2.dark dark

theorem faultsJudged_dark (f : LampFrame) (i : FaultIn n e k s)
    (allOrNone : s.actBit (R.LCG_CFG n k) F.LCG_CFG_ALL_OR_NONE = true) :
    GroupDark n k (satAdd (2 ^ F.LCG_STATE_FAILED.width - 1) (s.fld (R.LCG_STATE n k) F.LCG_STATE_FAILED) 1)
      (faultsJudged n f [e] s) := by
  obtain ⟨alone, group⟩ := i
  have small : k < 8 := group ▸ groupOf_lt s n e
  have counted : faultCounted n (faultsNoted n f [e] s) e =
      ((faultsNoted n f [e] s).satInc (R.LCG_STATE n k) F.LCG_STATE_FAILED).raise (Ev.lamp n 0) := by
    unfold faultCounted
    rw [show groupOf (faultsNoted n f [e] s) n e = k from group]
  have inside : FaultIn n e k (faultCounted n (faultsNoted n f [e] s) e) := by
    have judged := (faultCounted_judged n (faultsNoted n f [e] s) e).regs
    refine ⟨?_, (groupOf_of (judged.mono fun _ => .inr) e).trans group⟩
    rw [counted, State.lamp_of_lamps (State.raise_lamps ..)]
    exact (congrArg LampSt.restore (State.lamp_setLamp_self s n _)).trans alone
  have same : (faultCounted n (faultsNoted n f [e] s) e).actBit (R.LCG_CFG n k) F.LCG_CFG_ALL_OR_NONE = true := by
    unfold State.actBit State.actFld State.inForce at allOrNone ⊢
    rwa [counted, State.raise_act]
  have count : (faultCounted n (faultsNoted n f [e] s) e).fld (R.LCG_STATE n k) F.LCG_STATE_FAILED =
      satAdd (2 ^ F.LCG_STATE_FAILED.width - 1) (s.fld (R.LCG_STATE n k) F.LCG_STATE_FAILED) 1 := by
    rw [counted, State.fld_of_reg (State.reg_raise _ _ (by simp only [R.LCG_STATE, R.EVT_LOST]; omega))]
    exact State.fld_satInc_self _ _ _ _ (by decide)
  exact count ▸ groupsJudged_dark f inside same

/-- The end of a shift whose readback reports one fault of an all-or-none group. -/
theorem shiftEnd_dark {g : LampFrame} {bits : Nat} (frame : (s.lamp n).frame = some f) (shifts : f.shifted = false)
    (relatch : f.relatch = false) (idle : strobeIdle s n = false) (latched : (s.lamp n).latched = some g)
    (alone : (s.lamp n).restore = []) (sound : ¬ ReadbackBad s n bits) (one : faultyChannels s n bits g.row = [e])
    (group : groupOf s n e = k) (allOrNone : s.actBit (R.LCG_CFG n k) F.LCG_CFG_ALL_OR_NONE = true) :
    GroupDark n k (satAdd (2 ^ F.LCG_STATE_FAILED.width - 1) (s.fld (R.LCG_STATE n k) F.LCG_STATE_FAILED) 1)
      (shiftEnd n bits s) := by
  have ended : SameRegs s (shiftOver n f s) (ReadbackWrites n) := (shiftOver_regs n f s).mono fun _ => .inl
  have regs := (shiftOver_regs n f s).trans (chainSound_regs n _)
  have reads : SameRegs s (chainSound n (shiftOver n f s)) (ReadbackWrites n) := regs.mono fun _ => .inl
  have still : ¬ ReadbackBad (shiftOver n f s) n bits := by
    unfold ReadbackBad at sound ⊢
    rwa [frameBits_of ended]
  have read : shiftEnd n bits s = faultsJudged n g [e] (chainSound n (shiftOver n f s)) := by
    rw [shiftEnd_eq frame shifts relatch idle, judgeReadback_sound still, shiftOver_lamp, latched, latchedJudged,
      faultyChannels_of reads, one]
  have lamp : (chainSound n (shiftOver n f s)).lamp n = { (shiftOver n f s).lamp n with
      errOpen := false, endedC := if ((shiftOver n f s).lamp n).errOpen then some (shiftOver n f s).now
        else ((shiftOver n f s).lamp n).endedC } := State.lamp_setLamp_self ..
  have apart : ¬ R.LCG_STATE n k = R.LC_STATE n ∧ ¬ R.LCG_CFG n k = R.LC_STATE n := by
    simp only [R.LCG_STATE, R.LCG_CFG, R.LC_STATE]
    omega
  have same : (chainSound n (shiftOver n f s)).actBit (R.LCG_CFG n k) F.LCG_CFG_ALL_OR_NONE = true := by
    unfold State.actBit State.actFld at allOrNone ⊢
    rwa [(regs _ apart.2).2]
  have dark := faultsJudged_dark g (s := chainSound n (shiftOver n f s)) (e := e)
    ⟨by rw [lamp, shiftOver_lamp]; exact alone, (groupOf_of reads e).trans group⟩ same
  rwa [State.fld_of_reg (regs _ apart.1).1, ← read] at dark

end Chains

/-- Settles O17, by `shiftEnd_dark`. -/
theorem lampFaults : Obligations.LampFaults := by
  intro s n f g bits e hw frame shifts relatch idle latched alone zeros ones one k allOrNone
  have sound : ¬ ReadbackBad s n bits := not_or.mpr ⟨zeros, ones⟩
  obtain ⟨off, fault, count, interval⟩ :=
    shiftEnd_dark frame shifts relatch idle latched alone sound one rfl allOrNone
  exact ⟨_, lampShiftEnd_exec hw bits, off, fault, count, List.contains_iff_mem.mpr interval⟩

/-! ### Drive words (06 R201, R207 to R211) -/

section Words

variable {n : Nat} {s t : State}

/-- A computed set of drive words takes the old one's place. -/
def wordsPlaced (n : Nat) (w : List (Nat × Nat)) (nx : Option (List (Nat × Nat))) (s : State) : State :=
  s.setLamp n { s.lamp n with words := w, next := if (lampUnit n).waits s then nx else none, computing := none }

theorem computeDone_eq {w : List (Nat × Nat)} {nx : Option (List (Nat × Nat))}
    (computing : (s.lamp n).computing = some (w, nx)) (once : (s.lamp n).again = false) :
    computeDone n s = frameStart (wordsPlaced n w nx s) n := by
  unfold computeDone
  extract_lets x
  split
  · next none => cases computing.symm.trans none
  · next same =>
    cases computing.symm.trans same
    exact congrArg (frameStart · n) (if_neg (Bool.eq_false_iff.mp once))

theorem computeDone_shows {w : List (Nat × Nat)} {nx : Option (List (Nat × Nat))}
    (computing : (s.lamp n).computing = some (w, nx)) (once : (s.lamp n).again = false) :
    ((computeDone n s).lamp n).words = w ∧ ((computeDone n s).lamp n).computing = none ∧
      ((computeDone n s).lamp n).next = if (lampUnit n).waits s then nx else none := by
  have placed : (wordsPlaced n w nx s).lamp n = { s.lamp n with
      words := w, next := if (lampUnit n).waits s then nx else none, computing := none } := State.lamp_setLamp_self ..
  rw [computeDone_eq computing once]
  rcases frameStart_lamp n (wordsPlaced n w nx s) with h | ⟨f, -, h⟩ <;> simp only [h, placed, and_self]

end Words

/-- Settles O15: a chain's boundaries by `Boundary`, its windows by folds over the strobe chains, its readbacks by
`ReadbackShows`. -/
theorem lampFrames : Obligations.LampFrames := by
  intro s n hw x latches computed shifted due blanks rowSlot arrives windowEnds
  refine ⟨fun w nx computing once => ?_, fun f bits frame shifts relatch idle => ?_, fun mode runs idle => ?_,
    fun mode runs idle f frame shifts => ?_, fun p w found => ?_, fun p w found => ?_⟩
  · exact ⟨_, next_eq (State.whenWorking_true hw _), computeDone_shows computing once⟩
  · have shown := shiftEnd_shows frame shifts relatch idle bits
    refine ⟨_, lampShiftEnd_exec hw bits, shown.frame.trans (by rw [shiftOver_lamp]), shown.shifting.trans ?_, shown.err,
      shown.errOpen⟩
    exact State.bit_setBit_self _ _ 0 false (by decide)
  · obtain ⟨blk, now, latches⟩ := blankPeriod_shows mode runs idle
    exact ⟨_, next_eq (State.whenWorking_true hw _), blk, now, latches⟩
  · obtain ⟨row, rowOn, blk, latches, now⟩ := matrixSlot_shows mode runs idle frame shifts
    exact ⟨_, next_eq (State.whenWorking_true hw _), row, rowOn, blk, latches, now⟩
  · exact ⟨_, next_eq (State.whenWorking_true hw _), windowArrival_shows found⟩
  · exact ⟨_, next_eq (State.whenWorking_true hw _), windowDone_shows n found⟩

/-! ### Settings (06 R201, R202, R205, R209, R213, R217) -/

section Settings

variable {n : Nat} {s t : State}

theorem computeWords_idle (idle : (s.lamp n).computing = none) : computeWords s n =
    (s.setLamp n { s.lamp n with
      d := derateOf s n (lampT s n),
      computing := some (chainWords s n (derateOf s n (lampT s n)) false,
        if (lampUnit n).waits s then some (chainWords s n (derateOf s n (lampT s n)) true) else none),
      again := false }).drawn := by
  unfold computeWords
  simp only [idle, Option.isSome_none, Bool.false_eq_true, if_false]

/-- COMMIT has the drive words of both sets computed. -/
theorem lampCommit_shows (free : (lampUnit n).waits s = false) (idle : (s.lamp n).computing = none) :
    let u := (lampUnit n).commit s
    let d := derateOf u n (lampT u n)
    (lampUnit n).waits (lampCommit n s) = true ∧
      ((lampCommit n s).lamp n).computing = some (chainWords u n d false, some (chainWords u n d true)) := by
  intro u d
  have waits : (lampUnit n).waits u = true := (lampUnit_apart n).commit_waits s
  have eq : lampCommit n s = computeWords u n := if_neg (by simp [free])
  have words := computeWords_idle (s := u) (n := n) idle
  rw [waits, if_pos rfl] at words
  rw [eq, words]
  exact ⟨waits, congrArg LampSt.computing (State.lamp_setLamp_self u n _)⟩

/-- A new computation changes neither registers nor the chain's temperature, words and frame. -/
structure WordsKept (n : Nat) (s t : State) : Prop where
  regs : t.regs = s.regs
  up : (t.lamp n).up = (s.lamp n).up
  held : (t.lamp n).held = (s.lamp n).held
  words : (t.lamp n).words = (s.lamp n).words
  temp : (t.lamp n).temp = (s.lamp n).temp
  frame : (t.lamp n).frame = (s.lamp n).frame

theorem WordsKept.refl (n : Nat) (s : State) : WordsKept n s s := ⟨rfl, rfl, rfl, rfl, rfl, rfl⟩

theorem WordsKept.of_lamp {x : LampSt} (lamp : t.lamp n = x) (regs : t.regs = s.regs)
    (kept : (x.up, x.held, x.words, x.temp, x.frame) =
      ((s.lamp n).up, (s.lamp n).held, (s.lamp n).words, (s.lamp n).temp, (s.lamp n).frame)) : WordsKept n s t := by
  simp only [Prod.mk.injEq, ← lamp] at kept
  obtain ⟨up, held, words, temp, frame⟩ := kept
  exact ⟨regs, up, held, words, temp, frame⟩

theorem computeWords_kept (n : Nat) (s : State) : WordsKept n s (computeWords s n) := by
  unfold computeWords
  extract_lets x d next
  split
  · exact .of_lamp (State.lamp_setLamp_self ..) rfl rfl
  · exact .of_lamp (State.lamp_setLamp_self ..) rfl rfl

theorem lampTemp_kept (n : Nat) (s : State) : WordsKept n s (lampTemp s n) := by
  unfold lampTemp
  split
  · exact .refl n s
  · exact computeWords_kept n s

theorem tempWritten_kept (n : Nat) (s : State) : WordsKept n s (tempWritten n s) := by
  unfold tempWritten
  split
  · exact lampTemp_kept n s
  · exact .refl n s

theorem toSigned_toNat (v : BitVec 16) : toSigned 16 v.toNat = v.toInt := by
  have small := v.isLt
  rw [toSigned, Nat.mod_eq_of_lt small, BitVec.toInt_eq_toNat_cond]
  split <;> split <;> omega

end Settings

section Temperatures

variable {n : Nat} {s : State}

/-- LCn_TEMP written is what the chain goes by where it is the source (06 R209). -/
theorem lampT_written (n : Nat) (v : BitVec 16) (s : State) : lampT (s.setFld (R.LC_TEMP n) F.LC_TEMP_T v.toNat) n =
    if s.fld (R.LC_CFG n) F.LC_CFG_TEMP_MODE = 2 then v.toInt else (s.lamp n).temp := by
  have mode : (s.setFld (R.LC_TEMP n) F.LC_TEMP_T v.toNat).fld (R.LC_CFG n) F.LC_CFG_TEMP_MODE =
      s.fld (R.LC_CFG n) F.LC_CFG_TEMP_MODE := State.fld_setFld_ne _ _ _ _ (by simp only [R.LC_CFG, R.LC_TEMP]; omega)
  have temp : (s.setFld (R.LC_TEMP n) F.LC_TEMP_T v.toNat).sfld (R.LC_TEMP n) F.LC_TEMP_T = v.toInt := by
    rw [State.sfld, State.fld_setFld_self _ _ F.LC_TEMP_T _ (by decide),
      show v.toNat % 2 ^ F.LC_TEMP_T.width = v.toNat from Nat.mod_eq_of_lt v.isLt]
    exact toSigned_toNat v
  rw [lampT, mode, temp]
  rfl

theorem WordsKept.lampT {t : State} (h : WordsKept n s t) : lampT t n = lampT s n := by
  have reg := State.reg_of_regs h.regs
  unfold Machine.lampT State.sfld
  rw [State.fld_of_reg (reg _), State.fld_of_reg (reg _), h.temp]

theorem tempStale_late {t0 : Nat} (taken : (s.lamp n).tempTime = some t0)
    (source : s.fld (R.LC_CFG n) F.LC_CFG_TEMP_MODE = 1) (fresh : (s.lamp n).tempOld = false) :
    tempStale n s = (((s.reach (t0 + 1000000000)).setLamp n { s.lamp n with tempOld := true }).flag (R.LC_STATE n)
      F.LC_STATE_TEMP_STALE).raise (Ev.lamp n 4) := by
  unfold tempStale
  extract_lets x
  split
  · next t h =>
    cases taken.symm.trans h
    exact if_pos ⟨source, by rw [show x.tempOld = false from fresh]; rfl⟩
  · next h => cases taken.symm.trans h

end Temperatures

section Restores

variable {n g : Nat} {s : State}

theorem lampRows_of {t : State} (cfg : t.reg (R.LC_CFG n) = s.reg (R.LC_CFG n))
    (matrix : t.reg (R.LC_MATRIX n) = s.reg (R.LC_MATRIX n)) : lampRows t n = lampRows s n := by
  unfold lampRows lampMode
  rw [State.fld_of_reg cfg, State.fld_of_reg matrix]

/-- FAULT of a group that does not wait to be relit is cleared (06 R217). -/
theorem groupRestore_shows (alone : (s.lamp n).restore.all (fun r => r.1 != g) = true) :
    (groupRestore n g s).reg (R.LCG_STATE n g) = (s.reg (R.LCG_STATE n g)).put F.LCG_STATE_FAULT 0 ∧
      ((groupRestore n g s).lamp n).restore =
        if groupState s n g < 2 then (s.lamp n).restore else (s.lamp n).restore ++ [(g, List.range (lampRows s n))] := by
  have state : groupState (s.setBit (R.LCG_STATE n g) F.LCG_STATE_FAULT false) n g = groupState s n g :=
    State.fld_setFld_apart _ _ F.LCG_STATE_FAULT _ _ (by decide) (by decide)
  have rows : lampRows (s.setBit (R.LCG_STATE n g) F.LCG_STATE_FAULT false) n = lampRows s n := by
    refine lampRows_of (State.reg_setBit_ne _ _ _ ?_) (State.reg_setBit_ne _ _ _ ?_) <;>
    simp only [R.LC_CFG, R.LC_MATRIX, R.LCG_STATE] <;> omega
  have cleared : (s.setBit (R.LCG_STATE n g) F.LCG_STATE_FAULT false).reg (R.LCG_STATE n g) =
      (s.reg (R.LCG_STATE n g)).put F.LCG_STATE_FAULT 0 := State.reg_setFld_self ..
  unfold groupRestore
  extract_lets a u x
  have waits : ¬ x.restore.any (fun r => r.1 == g) = true := by
    intro any
    obtain ⟨r, mem, same⟩ := List.any_eq_true.mp any
    have other := List.all_eq_true.mp alone r mem
    exact absurd (eq_of_beq same) (by simpa using other)
  rw [state, rows]
  by_cases lit : groupState s n g < 2
  · rw [if_pos (.inl lit), if_pos lit]
    exact ⟨cleared, rfl⟩
  · rw [if_neg (not_or.mpr ⟨lit, waits⟩), if_neg lit]
    exact ⟨cleared, congrArg LampSt.restore (State.lamp_setLamp_self u n _)⟩

end Restores

/-! #### ENABLE (06 R202, R205, R213) -/

theorem engineNext_lamps (s : State) (t : Nat) : (engineNext s t).lamps = s.lamps := by
  unfold engineNext
  dsimp only
  split
  · rfl
  · split <;> rfl

theorem engineNext_reg (s : State) (t : Nat) {a : Nat} (h : a ≠ scriptReg t) : (engineNext s t).reg a = s.reg a := by
  unfold engineNext
  dsimp only
  split
  · rfl
  · split <;> exact State.reg_setBit_ne _ _ _ h

/-- A phase that falls due changes engines and the register that shows it alone. -/
theorem scriptBegin_leaves (s : State) (t phase : Nat) : (scriptBegin s t phase).lamps = s.lamps ∧
    ∀ a, a ≠ scriptReg t → (scriptBegin s t phase).reg a = s.reg a := by
  unfold scriptBegin
  split
  · exact ⟨rfl, fun _ _ => rfl⟩
  · exact ⟨engineNext_lamps .., fun _ h => engineNext_reg _ _ h⟩

section Enabling

variable {n : Fin 4} {s t : State}

/-- Two states that differ in what LCn_STATE and EVT_LOST show alone, as far as drive words go. -/
structure WordsSame (n : Nat) (s t : State) : Prop where
  reg : ∀ a, a ≠ R.LC_STATE n → a ≠ R.EVT_LOST → t.reg a = s.reg a
  inForce : ∀ a, t.inForce a = s.inForce a
  freeCtr : t.freeCtr = s.freeCtr
  lamp : t.lamp n = s.lamp n

theorem WordsSame.refl (n : Nat) (s : State) : WordsSame n s s := ⟨fun _ _ _ => rfl, fun _ => rfl, rfl, rfl⟩

/-- A flag of LCn_STATE with its event. -/
theorem lampCfgFlag_same (s : State) (n : Nat) (f : Fld) : WordsSame n s (lampCfgFlag s n f) := by
  have kept := s.flagEvent_bookkeeps (R.LC_STATE n) f (Ev.lamp n 5)
  refine ⟨fun a state lost => State.reg_flagEvent s _ f _ lost state, fun a => ?_, (congrArg State.freeCtr kept).trans rfl,
    lampCfgFlag_lamp ..⟩
  exact (congrArg (fun t : State => t.inForce a) kept).trans rfl

section Same

variable (h : WordsSame n s t)

include h

/-- The registers of the chain outside LCn_STATE, and the tables of the lamp island. -/
theorem WordsSame.setting {a : Nat} (ha : a = R.LC_CFG n ∨ a = R.LC_LAYOUT n ∨ a = R.LC_MATRIX n ∨ a = R.LC_TEMP n ∨
    R.LC_TEMP n ≤ a ∧ a < 0x5000b01000 + 0x1000 * n ∨ 0x5000b04000 ≤ a) : t.reg a = s.reg a := by
  refine h.reg a ?_ ?_ <;>
  simp only [R.LC_CFG, R.LC_LAYOUT, R.LC_MATRIX, R.LC_TEMP, R.LC_STATE, R.EVT_LOST] at ha ⊢ <;> omega

theorem WordsSame.cfg : t.reg (R.LC_CFG n) = s.reg (R.LC_CFG n) := h.setting (.inl rfl)

theorem WordsSame.rows : lampRows t n = lampRows s n := lampRows_of h.cfg (h.setting (.inr (.inr (.inl rfl))))

theorem WordsSame.ics : lampIcs t n = lampIcs s n := congrArg (· + 1) (State.fld_of_reg h.cfg _)

theorem WordsSame.curveAt (g k : Nat) : curveAt t n g k = curveAt s n g k :=
  State.fld_of_reg (h.setting (by simp only [R.CURVE]; omega)) _

theorem WordsSame.linearTarget (g level : Nat) (curve : Bool) :
    linearTarget t n g level curve = linearTarget s n g level curve := by
  unfold Machine.linearTarget
  simp only [h.curveAt]

theorem WordsSame.binGain (b c : Nat) : binGain t b c = binGain s b c := by
  unfold Machine.binGain
  rw [State.fld_of_reg (h.setting (by simp only [R.BIN_LO]; omega)),
    State.fld_of_reg (h.setting (by simp only [R.BIN_LO]; omega)),
    State.fld_of_reg (h.setting (by simp only [R.BIN_HI]; omega)),
    State.fld_of_reg (h.setting (by simp only [R.BIN_HI]; omega))]

theorem WordsSame.splitWords (split b2 : Nat) : splitWords t n split b2 = splitWords s n split b2 := by
  have bits : lampBits t n = lampBits s n := by
    unfold lampBits
    rw [State.fld_of_reg (h.setting (.inr (.inl rfl))), State.fld_of_reg (h.setting (.inr (.inl rfl))),
      State.fld_of_reg (h.setting (.inr (.inl rfl)))]
  unfold Machine.splitWords State.free
  rw [bits, h.freeCtr]

theorem WordsSame.channelWords (d : Nat) (shadow : Bool) (e : Nat) :
    channelWords t n d shadow e = channelWords s n d shadow e := by
  have entry : t.reg (R.LAMP_ENTRY n e) = s.reg (R.LAMP_ENTRY n e) := h.setting (by simp only [R.LAMP_ENTRY]; omega)
  have small : (s.reg (R.LAMP_ENTRY n e)).get F.LAMP_ENTRY_GROUP < 8 := Word.get_lt ..
  unfold Machine.channelWords
  rw [entry]
  generalize s.reg (R.LAMP_ENTRY n e) = w at small ⊢
  have level : t.reg (R.LCG_LEVEL n (w.get F.LAMP_ENTRY_GROUP)) = s.reg (R.LCG_LEVEL n (w.get F.LAMP_ENTRY_GROUP)) :=
    h.setting (by simp only [R.LCG_LEVEL, R.LC_TEMP]; omega)
  have cfg : t.reg (R.LCG_CFG n (w.get F.LAMP_ENTRY_GROUP)) = s.reg (R.LCG_CFG n (w.get F.LAMP_ENTRY_GROUP)) :=
    h.setting (by simp only [R.LCG_CFG, R.LC_TEMP]; omega)
  simp only [level, cfg, h.inForce, h.linearTarget, h.binGain, h.splitWords]

theorem WordsSame.chainWords (d : Nat) (shadow : Bool) : chainWords t n d shadow = chainWords s n d shadow := by
  unfold Machine.chainWords
  rw [h.rows, h.ics, funext (h.channelWords d shadow)]

theorem WordsSame.lampT : lampT t n = lampT s n := by
  unfold Machine.lampT State.sfld
  rw [State.fld_of_reg h.cfg, State.fld_of_reg (h.setting (.inr (.inr (.inr (.inl rfl))))), h.lamp]

theorem WordsSame.derateOf (c : Int) : derateOf t n c = derateOf s n c := by
  have derateCfg : t.reg (R.LC_DERATE_CFG n) = s.reg (R.LC_DERATE_CFG n) :=
    h.setting (by simp only [R.LC_DERATE_CFG, R.LC_TEMP]; omega)
  have at_ (k : Nat) : derateAt t n k = derateAt s n k :=
    congrArg (min 0x8000) (State.fld_of_reg (h.reg _ (by simp only [R.LC_DERATE, R.LC_STATE]; omega)
      (by simp only [R.LC_DERATE, R.EVT_LOST]; omega)) _)
  unfold Machine.derateOf State.sfld
  simp only [State.fld_of_reg h.cfg, State.fld_of_reg derateCfg, at_]

end Same

/-- A chain that is brought up, with its drive words, and a frame in progress at most. -/
structure Lit (bad : Bool) (words : List (Nat × Nat)) (x : LampSt) : Prop where
  up : x.up = true
  held : x.held = bad
  words : x.words = words
  frame : ∀ f, x.frame = some f → f.shifted = false

/-- ENABLE brings a chain up, refused where its matrix fails its limits, with the drive words of the set in force. -/
def broughtUp (n : Nat) (s : State) : State :=
  let v := s.cond (matrixRefused s n) fun s => lampCfgFlag s n F.LC_STATE_CFG_REFUSED
  let d := derateOf v n (lampT v n)
  (v.setLamp n { v.lamp n with
    up := true, held := matrixRefused s n, d := d, words := chainWords v n d false, row := lampRows v n - 1 }).drawn

/-- The bring-up script of a chain begins where it has not run (06 R205). -/
def scriptOwed (n : Nat) (s : State) : State :=
  let e := s.engine (0x20 + n)
  if e.upOk || e.upFailed || e.owes 1 then s else scriptBegin s (0x20 + n) 1

theorem lampEnable_eq (on : lampOn s n = true) (down : (s.lamp n).up = false) :
    lampEnable n s = frameStart (scriptTakes (scriptOwed n (groupsShow (broughtUp n s) n)) n) n :=
  if_neg (by simp [on, down])

theorem broughtUp_shows (empty : (s.lamp n).frame = none) :
    (broughtUp n s).reg (R.LC_CFG n) = s.reg (R.LC_CFG n) ∧
      Lit (matrixRefused s n) (chainWords s n (derateOf s n (lampT s n)) false) ((broughtUp n s).lamp n) := by
  unfold broughtUp
  extract_lets v d
  have same : WordsSame n s v := State.cond_induct (p := WordsSame n s) (.refl n s) fun _ => lampCfgFlag_same ..
  have derate : d = derateOf s n (lampT s n) := by rw [← same.derateOf, ← same.lampT]
  have lamp := State.lamp_setLamp_self v n { v.lamp n with
    up := true, held := matrixRefused s n, d := d, words := chainWords v n d false, row := lampRows v n - 1 }
  refine ⟨same.cfg, ⟨congrArg LampSt.up lamp, congrArg LampSt.held lamp, ?_, fun f hf => ?_⟩⟩
  · rw [← derate, ← same.chainWords]
    exact congrArg LampSt.words lamp
  · have started : (v.lamp n).frame = some f := (congrArg LampSt.frame lamp).symm.trans hf
    rw [same.lamp, empty] at started
    cases started

theorem scriptOwed_leaves (n : Fin 4) (s : State) :
    (scriptOwed n s).lamps = s.lamps ∧ (scriptOwed n s).reg (R.LC_CFG n) = s.reg (R.LC_CFG n) := by
  unfold scriptOwed
  extract_lets e
  split
  · exact ⟨rfl, rfl⟩
  · obtain ⟨lamps, regs⟩ := scriptBegin_leaves s (0x20 + n) 1
    refine ⟨lamps, regs _ ?_⟩
    rw [show scriptReg (0x20 + n) = R.LC_SCRIPT n from (script_lamp n).1]
    simp only [R.LC_CFG, R.LC_SCRIPT]
    omega

/-- The script that begins and the frame that starts leave a chain brought up. -/
theorem lampEnable_shows (on : lampOn s n = true) (down : (s.lamp n).up = false) (empty : (s.lamp n).frame = none) :
    (lampEnable n s).reg (R.LC_CFG n) = s.reg (R.LC_CFG n) ∧
      Lit (matrixRefused s n) (chainWords s n (derateOf s n (lampT s n)) false) ((lampEnable n s).lamp n) := by
  obtain ⟨cfg, lit⟩ := broughtUp_shows (n := n) empty
  obtain ⟨lamps, regs⟩ := scriptOwed_leaves n (groupsShow (broughtUp n s) n)
  rw [lampEnable_eq on down]
  have taken : Lit (matrixRefused s n) (chainWords s n (derateOf s n (lampT s n)) false)
      ((scriptTakes (scriptOwed n (groupsShow (broughtUp n s) n)) n).lamp n) := by
    rcases scriptTakes_lamp n (scriptOwed n (groupsShow (broughtUp n s) n)) with h | h <;>
    rw [h, State.lamp_of_lamps (lamps.trans (groupsShow_lamps ..))]
    · exact lit
    · exact ⟨lit.up, lit.held, lit.words, lit.frame⟩
  refine ⟨?_, ?_⟩
  · rw [(frameStart_acts ..).cfg, (scriptTakes_acts ..).cfg, regs, (groupsShow_acts ..).cfg, cfg]
  · rcases frameStart_lamp n (scriptTakes (scriptOwed n (groupsShow (broughtUp n s) n)) n) with h | ⟨f, shifts, h⟩ <;> rw [h]
    · exact taken
    · refine ⟨taken.up, taken.held, taken.words, fun g hg => ?_⟩
      cases hg
      exact shifts

theorem strobeSettle_empty (h : ∀ f, (s.lamp n).frame = some f → f.shifted = false) : strobeSettle s n = s := by
  unfold strobeSettle
  split
  · exact lampLatch_idle h
  · rfl

/-- A chain enabled outside a run (06 R202, R205). -/
theorem lampCfgWritten_enables (hw : s.working = true) (still : s.runActive = false) (off : lampOn s n = false) :
    let u := s.setBit (R.LC_CFG n) F.LC_CFG_ENABLE true
    lampCfgWritten n (R.LC_CFG n) (s.reg (R.LC_CFG n)) u =
      strobeSettle ((lampEnable n u).cond (lampOn (lampEnable n u) n) fun s => lampTemp s n) n := by
  intro u
  have on : lampOn u n = true := State.bit_setBit_self s _ 0 true (by decide)
  have works : u.working = true := hw
  have run : u.runActive = false := (State.bit_of_reg (State.reg_setBit_ne _ _ _ (by
    simp only [R.SYS_STATE, R.LC_CFG]
    omega)) _).trans still
  have was : ((s.reg (R.LC_CFG n)).get F.LC_CFG_ENABLE == 1) = false := off
  unfold lampCfgWritten
  simp only [run, was, on, works, Bool.false_and, Bool.false_eq_true, Bool.not_true, or_self, if_false, if_true]

theorem lampChainEnable_shows (hw : s.working = true) (still : s.runActive = false) (off : lampOn s n = false)
    (down : (s.lamp n).up = false) (empty : (s.lamp n).frame = none) :
    let u := s.setBit (R.LC_CFG n) F.LC_CFG_ENABLE true
    let t := lampCfgWritten n (R.LC_CFG n) (s.reg (R.LC_CFG n)) u
    lampOn t n = true ∧ (t.lamp n).up = true ∧ (t.lamp n).held = matrixRefused u n ∧
      (t.lamp n).words = chainWords u n (derateOf u n (lampT u n)) false := by
  intro u t
  have on : lampOn u n = true := State.bit_setBit_self s _ 0 true (by decide)
  obtain ⟨cfg, lit⟩ := lampEnable_shows on down empty
  have kept : WordsKept n (lampEnable n u) ((lampEnable n u).cond (lampOn (lampEnable n u) n) fun s => lampTemp s n) :=
    State.cond_induct (p := WordsKept n (lampEnable n u)) (.refl ..) fun _ => lampTemp_kept ..
  have eq : t = (lampEnable n u).cond (lampOn (lampEnable n u) n) fun s => lampTemp s n :=
    (lampCfgWritten_enables hw still off).trans (strobeSettle_empty fun f hf => lit.frame f (kept.frame ▸ hf))
  rw [eq]
  refine ⟨?_, kept.up.trans lit.up, kept.held.trans lit.held, kept.words.trans lit.words⟩
  exact (State.bit_of_reg ((State.reg_of_regs kept.regs _).trans cfg) _).trans on

/-- A chain is not enabled inside a run: CFG_REFUSED, and LCn_CFG as before (06 R202). -/
theorem lampCfgWritten_refuses (run : s.runActive = true) :
    let t := lampCfgWritten n (R.LC_CFG n) (s.reg (R.LC_CFG n)) (s.setBit (R.LC_CFG n) F.LC_CFG_ENABLE true)
    t.reg (R.LC_CFG n) = s.reg (R.LC_CFG n) ∧ t.bit (R.LC_STATE n) F.LC_STATE_CFG_REFUSED = true ∧ t.lamps = s.lamps := by
  intro t
  have active : (s.setBit (R.LC_CFG n) F.LC_CFG_ENABLE true).runActive = true :=
    (State.bit_of_reg (State.reg_setBit_ne _ _ _ (by simp only [R.SYS_STATE, R.LC_CFG]; omega)) _).trans run
  have eq : t = lampCfgFlag ((s.setBit (R.LC_CFG n) F.LC_CFG_ENABLE true).setReg (R.LC_CFG n) (s.reg (R.LC_CFG n))) n
      F.LC_STATE_CFG_REFUSED := if_pos active
  rw [eq]
  refine ⟨(lampCfgFlag_same ..).cfg.trans (State.reg_setReg_self ..), State.bit_flagEvent _ _ rfl (by decide) ?_, ?_⟩
  · simp only [R.LC_STATE, R.EVT_LOST]
    omega
  · exact (congrArg State.lamps (State.flagEvent_bookkeeps _ _ _ _)).trans rfl

end Enabling

/-- Settles O16, by an equation for each command and what its next state shows. -/
theorem lampSettings : Obligations.LampSettings := by
  intro s n hw x commits commitWaits tempWritten stale restores setWins enabled refused
  refine ⟨fun free idle => ?_, fun waits => ?_, fun v => ?_, fun t0 taken source fresh => ?_, fun g alone => ?_, fun g => ?_,
    fun still off down empty => ?_, fun run => ?_⟩
  · exact ⟨_, next_eq (State.whenWorking_true hw _), lampCommit_shows free idle⟩
  · exact next_eq ((State.whenWorking_true hw _).trans (if_pos waits))
  · have kept := tempWritten_kept n (s.setFld (R.LC_TEMP n) F.LC_TEMP_T v.toNat)
    refine ⟨_, next_eq (State.whenWorking_true hw _), ?_, kept.lampT.trans (lampT_written n v s)⟩
    exact (State.reg_of_regs kept.regs _).trans (State.reg_setFld_self ..)
  · exact next_eq ((State.whenWorking_true hw _).trans (tempStale_late taken source fresh))
  · exact ⟨_, next_eq (State.whenWorking_true hw _), groupRestore_shows alone⟩
  · exact next_eq (State.whenWorking_true hw _)
  · exact ⟨_, next_eq (State.whenWorking_true hw _), lampChainEnable_shows hw still off down empty⟩
  · exact ⟨_, next_eq (State.whenWorking_true hw _), lampCfgWritten_refuses run⟩

end Sys2Proof.Machine
